-- ==== Sys2Proof/Word.lean ====
section
/-! DEFINITION. The word and byte types of the block, and nothing else. -/

namespace Sys2Proof

/-- A register or bus word (R10: every register is 32 bits wide). -/
abbrev Word := BitVec 32

/-- One byte of memory. -/
abbrev Byte := BitVec 8

/-- A 16-bit half-word: the width of an Isligil data word and of a gen 1 host word. -/
abbrev Half := BitVec 16

end Sys2Proof
end

