-- ==== Sys2Proof/Syntax.lean ====
section
/-! DEFINITION. The commands of the block: one constructor per row of the table of operations and events.
A command carries what comes from outside the block (an address, a value, a pin level, a measured quantity) or
names the unit it happens in. What the block holds itself (a program, a queue, a latch) is no operand. -/

namespace Sys2Proof

/-- Who makes an access: the bus initiators of R432 and the submitters of R192. -/
inductive Initiator
  | hpq | hps | link
  | core (n : Fin 4)
  | flume (c : Fin 32)
  | fl | planEngine | scrubber | writer
  deriving DecidableEq, Repr

/-- The supplies whose loss resets or disables part of the device (R456). -/
inductive Supply
  | vddL | vddD | vdda | vio
  deriving DecidableEq, Repr

/-- What wakes the device from PARK (R474). -/
inductive WakeCause
  | wheel (w : Fin 4) | hps | hpq | linkFrame
  deriving DecidableEq, Repr

/-- What a timer captures: its number, and the level its capture source has taken (R330). -/
structure CapEdge where
  timer : Fin 16
  level : Bool
  deriving DecidableEq, Repr

/-- What the reference selection sees after 100 us of watching CLKIN (R459). -/
inductive ClockObs
  | clkin25 (khz : Half) | clkin50 (khz : Half) | crystal (khz : Half) | none
  deriving DecidableEq, Repr

/-- Which part of the clock fails (R460). -/
inductive ClockFaultKind
  | reference | mainPll | linkPll
  deriving DecidableEq, Repr

/-- A HEART frame of R412 as received. -/
structure HeartFrame where
  src : BitVec 3
  path : BitVec 16
  role : BitVec 2
  take : Bool
  isOpen : Bool
  state : BitVec 4
  rst : Bool
  rstId : BitVec 3
  epoch : BitVec 16
  count : BitVec 16
  crcOk : Bool
  deriving DecidableEq, Repr

/-- An ANGLE beat of R413 as received. -/
structure AngleBeat where
  src : BitVec 3
  isOpen : Bool
  astern : Bool
  angle : BitVec 26
  exp : BitVec 4
  mant : BitVec 9
  epoch : BitVec 4
  crcOk : Bool
  deriving DecidableEq, Repr

/-- A MEM frame of R415 as received: `len` words less one, `be` the byte enables. -/
structure MemFrame where
  src : BitVec 3
  dst : BitVec 3
  lseq : Byte
  tag : Byte
  init : Byte
  status : Byte
  be : Byte
  len : BitVec 4
  addr : Word
  data : List Word
  crcOk : Bool
  deriving DecidableEq, Repr

/-- An ORDER SUBMIT frame of R415 as received. -/
structure OrderFrame where
  src : BitVec 3
  dst : BitVec 3
  lseq : Byte
  tag : Byte
  init : Byte
  failed : Bool
  sub0 : Word
  sub1 : Word
  sub2 : Word
  sub3 : Word
  crcOk : Bool
  deriving DecidableEq, Repr

/-- An ORDER REPLY frame of R415 as received. -/
structure ReplyFrame where
  src : BitVec 3
  dst : BitVec 3
  lseq : Byte
  tag : Byte
  init : Byte
  res : Word
  seq : Word
  crcOk : Bool
  deriving DecidableEq, Repr

/-- An EVENT frame of R415 as received: source and COUNT of an EVT, payload and stamp of a MSG, FULL of an EVTACK. -/
structure EventFrame where
  src : BitVec 3
  dst : BitVec 3
  bcast : Bool
  lseq : Byte
  tag : Byte
  source : Byte
  count : Byte
  full : Bool
  payload : Word
  stamp : Word
  crcOk : Bool
  deriving DecidableEq, Repr

/-- The commands of the block, in the order of the table. -/
inductive Instr
  -- Wheel front ends and pattern tables (chapter 02)
  /-- VR_EDGE (R39): A VR front end that has armed above its threshold sees the next zero crossing and stamps it as a tooth edge. -/
  | vrEdge (w : Fin 4) (peak : BitVec 12)
  /-- HALL_TRANSITION (R42): A Hall or direction-coded input transition that has held its new level for the glitch-filter time counts, and it is stamped at its first sample. -/
  | hallTransition (w : Fin 4) (level : Bool) (first : Nat)
  /-- HALL_GLITCH (R42): A level that returns before the filter time ends is discarded as a pulse and counted in GLITCH_CNT. -/
  | hallGlitch (w : Fin 4) (first : Nat) (back : Nat)
  /-- DIR_PULSE_LEADING (R43): The leading edge of a direction-coded pulse is taken as the tooth edge at once. -/
  | dirPulseLeading (w : Fin 4)
  /-- DIR_PULSE_CLASS (R43): At the trailing edge of a direction-coded pulse, its width is classed as forward, reverse or diagnostic. -/
  | dirPulseClass (w : Fin 4)
  /-- PTAB_DATA_LO_WRITE (R47): A write of PTAB_DATA_LO is held until PTAB_DATA_HI is written. -/
  | ptabDataLoWrite (v : Word)
  /-- PTAB_DATA_HI_WRITE (R50): A write of PTAB_DATA_HI stores the whole pattern entry with the held low word, or is refused while armed, and advances INDEX with AUTOINC. -/
  | ptabDataHiWrite (v : Word)
  /-- PTAB_DATA_LO_READ (R47): A read of PTAB_DATA_LO snapshots the whole pattern entry. -/
  | ptabDataLoRead
  /-- PTAB_DATA_HI_READ (R47): A read of PTAB_DATA_HI returns the snapshot's high word and advances INDEX with AUTOINC. -/
  | ptabDataHiRead
  /-- STAMP_LO_READ (R47): A read of WHLn.STAMP_LO snapshots STAMP_HI. -/
  | stampLoRead (w : Fin 4)
  -- Trackers (chapters 02 to 04)
  /-- TRACKER_CRANK_EDGE (R73): A tracker processes a crank edge in its update step: it classes the edge, advances acquisition or judges it against the prediction, and loads the accumulator. -/
  | trackerCrankEdge (t : Fin 2)
  /-- TRACKER_CAM_EDGE (R58): A tracker takes a cam edge, resolving the half-cycle hypotheses in PHASE or measuring phase in SYNC. -/
  | trackerCamEdge (t : Fin 2)
  /-- ACQ_STALL_TIMEOUT (R56): A tracker outside SYNC that accepts no edge within the stall timeout returns to WAIT. -/
  | acqStallTimeout (t : Fin 2)
  /-- ACCUMULATOR_TICK (R72): At each PT tick each tracker adds its increment and remainder to the phase accumulator. -/
  | accumulatorTick (chkA : BitVec 5) (chkB : BitVec 5)
  /-- SHADOW_CLR (R83): A write of SHADOW_CFG.CLR requests that the shadow history be cleared at the next cycle boundary. -/
  | shadowClr (t : Fin 2)
  /-- SIG_RESET (R86): A write of SIG_CFG.RESET requests that the learned signature return to the plan values at the next cycle boundary. -/
  | sigReset (t : Fin 2)
  /-- XCHK_REJOIN (R94): A write of XCHK_CMD.REJOIN brings a tracker in SYNC with cleared IFAULT back into the comparison as checker. -/
  | xchkRejoin
  /-- XCHK_HANDBACK (R94): A write of XCHK_CMD.HANDBACK requests return of control at a later cycle boundary, or is counted as an error. -/
  | xchkHandback
  /-- ANGLE_READ (R96): A read of TRK_x.ANGLE snapshots the fraction, increment and PT. -/
  | angleRead (t : Fin 2)
  /-- STALL_DECLARE (R113): The controlling tracker in SYNC declares a stall when the timeout or the speed limit is passed. -/
  | stallDeclare
  /-- STALL_HOLD_EXPIRE (R114): The stall-hold time expires without resumption and sync is lost with cause HOLD. -/
  | stallHoldExpire
  -- Plan engine (chapters 01, 05 and 06)
  /-- ACTION_ISSUE (R21): The plan engine issues a furrow head whose start angle the projected angle has reached or passed. -/
  | actionIssue (fid : BitVec 16)
  /-- ACTION_TAKE_EFFECT (R22): A consumer's replica reaches an action's target PT and the action takes effect. -/
  | actionTakeEffect (idx : Fin 16384)
  /-- CUTOFF_TAKE (R196): A slot's cut-off is reached: the highest-SEQ order is written into the slot and the others are replaced. -/
  | cutoffTake (slot : Fin 4096)
  /-- MAX_DURATION (R106): An action reaching its maximum duration is ended through its normal end path with anomaly MAX_DURATION. -/
  | maxDuration (idx : Fin 16384)
  /-- TASK_OVERRUN (R145): A task still running at the end of its budget is abandoned at the next occupied slot or frame end, with a DEADLINE record. -/
  | taskOverrun (c : Fin 4)
  /-- PLAN_LOAD (R176): A write of PLAN.CMD.LOAD starts a plan load, or is refused with RESULT STATE. -/
  | planLoad
  /-- LOAD_CHECK_PASS (R523): The check pass ends, either reporting the first failure or starting the write pass. -/
  | loadCheckPass
  /-- LOAD_WRITE_PASS (R177): The write pass ends: the tables are written and the device enters LOADED, or it enters STRAPPED on RESULT ECC. -/
  | loadWritePass
  /-- ARM (R181): A write of PLAN.CMD.ARM checks state, taint, sensors and the cam window, then arms or refuses. -/
  | arm
  /-- DISARM (R182): A write of PLAN.CMD.DISARM truncates actions, expires orders, closes the epoch and returns to LOADED, or is held in STALLED. -/
  | disarm
  /-- GOV_CLEAR (R149): A write of GOV.CLEAR requests a clear of the governed latch at the next cycle boundary, or is discarded. -/
  | govClear
  /-- LATE_POP (R185): A read of PLAN.LATE_POP pops one late-log record. -/
  | latePop
  /-- PLAN_MEMORY_WRITE (R180): A write to the action table, microcode store or slot region is discarded while armed and taints the plan while disarmed. -/
  | planMemoryWrite (init : Initiator) (addr : Word) (bytes : List Byte)
  -- Headgate and journal (chapter 07)
  /-- SUB_WRITE (R192): A write of SUB0, SUB1 or SUB2 fills the writer's staging buffer, or ends in a bus error for FL and the load path. -/
  | subWrite (init : Initiator) (n : Fin 3) (v : Word)
  /-- SUB3_SUBMIT (R193): A write of SUB3 submits the buffer, which the Headgate judges as ACK, ACK-DUP or REFUSED. -/
  | sub3Submit (init : Initiator) (v : Word)
  /-- QUEUE_AREA_WRITE (R190): A write to the Headgate queue area is discarded and counted. -/
  | queueAreaWrite (init : Initiator) (addr : Word) (bytes : List Byte)
  /-- JOURNAL_AREA_WRITE (R199): A write to the journal record area is discarded and counted. -/
  | journalAreaWrite (init : Initiator) (addr : Word) (bytes : List Byte)
  /-- JRN_RD_WRITE (R206): A write of JRN.RD releases records at the end of its tick, or is ignored if it runs past WR. -/
  | jrnRdWrite (v : Word)
  /-- LOSS_MARKER (R204): The first record written once room returns after lost records is a LOSS marker. -/
  | lossMarker
  -- Banks, Sluice and Levee (chapter 08)
  /-- BANK_COMMAND (R226): The drive island captures and judges a bank command: a new command during a profile, a grant, a deferral or a drop. -/
  | bankCommand (b : Fin 16)
  /-- BANK_FREE (R225): A bank becomes free after its turnaround and zero current, and the oldest waiting request is granted. -/
  | bankFree (b : Fin 16)
  /-- DEFER_LIMIT_EXPIRE (R228): A waiting request whose defer limit can no longer be met is dropped with reason OVERLAP. -/
  | deferLimitExpire (b : Fin 16)
  /-- OPEN_LOAD_TIMEOUT (R232): The sense code has not reached OPEN_CFG.LVL within OPEN_CFG.T, so FAULT.OPEN sets. -/
  | openLoadTimeout (b : Fin 16)
  /-- SHORT_DETECT (R233): The sense code reaches SHORT_CFG.LVL too soon: fast decay, spillway end, fault and optional lock. -/
  | shortDetect (b : Fin 16)
  /-- OVERCURRENT_TRIP (R234): A sense code at or above OC_CFG.LVL trips fast decay, ends any action and may lock the bank. -/
  | overcurrentTrip (b : Fin 16)
  /-- CLAMP_MISS (R223): 500 ns of fast decay pass with LS_CLAMPb low, so CLAMP_MISS sets. -/
  | clampMiss (b : Fin 16)
  /-- DECAY_STUCK (R223): The decay timeout passes with the current above ZERO, so DECAY_STUCK sets and the bank locks. -/
  | decayStuck (b : Fin 16)
  /-- BOOT_UV (R221): A bootstrap voltage falls below 8.0 V, so the switch is held off and BOOT_UV sets. -/
  | bootUv (b : Fin 16) (hs : Bool)
  /-- BOOT_UV_RELEASE (R221): The bootstrap voltage rises above 8.5 V and the switch is released. -/
  | bootUvRelease (b : Fin 16) (hs : Bool)
  /-- BOOST_SAMPLE (R224): BSTVb is sampled every 10 µs and BOOST_UV sets below the threshold. -/
  | boostSample (b : Fin 16) (code : BitVec 10)
  /-- BANK_UNLOCK (R235): A write of BANKb.UNLOCK clears a lock while the bank is free, or is held until it becomes free. -/
  | bankUnlock (b : Fin 16) (v : Word)
  /-- LEVEE_SLICE (R237): A Levee slice ends and the sliding window advances by one slice. -/
  | leveeSlice
  /-- LEVEE_EXHAUST (R240): A channel or bank used time reaches its limit during an action, which is spillway-ended. -/
  | leveeExhaust (b : Fin 16)
  -- Current shaper (chapter 09)
  /-- PROFILE_START (R248): The shaper starts the action's profile at ENTRY so that its first SETSW reaches the balls at the target PT. -/
  | profileStart (b : Fin 16)
  /-- PROFILE_RESTART (R261): A new command for the granted channel abandons the running profile and restarts at BOOST, or is dropped past its limit. -/
  | profileRestart (b : Fin 16)
  /-- SHP_END (R253): Shaper instruction END: fast decay, and the profile ends. -/
  | shpEnd (b : Fin 16)
  /-- SETSW (R253): Shaper instruction SETSW sets the switch mask under the interlocks. -/
  | setsw (b : Fin 16)
  /-- SHP_WAITT (R253): Shaper instruction WAITT waits N steps. -/
  | shpWaitt (b : Fin 16)
  /-- WAITI (R253): Shaper instruction WAITI waits for a current condition, with a timeout. -/
  | waiti (b : Fin 16)
  /-- CHOP (R255): Shaper instruction CHOP regulates the current between two weir levels. -/
  | chop (b : Fin 16)
  /-- DIPW (R263): Shaper instruction DIPW arms the armature-dip detector for N steps. -/
  | dipw (b : Fin 16)
  /-- FASTOFF (R253): Shaper instruction FASTOFF sets the mask to 0 and waits for a fall to a level. -/
  | fastoff (b : Fin 16)
  /-- SHP_JMP (R253): Shaper instruction JMP jumps unconditionally. -/
  | shpJmp (b : Fin 16)
  /-- JIF (R253): Shaper instruction JIF jumps on flag E, D or T. -/
  | jif (b : Fin 16)
  /-- SHP_MARK (R253): Shaper instruction MARK writes PT into a MARKn register and may set MARKEVT. -/
  | shpMark (b : Fin 16)
  /-- SHP_WAIT_END (R253): A waiting shaper instruction ends when its condition holds or its time runs out, setting T on timeout. -/
  | shpWaitEnd (b : Fin 16)
  /-- END_REQUEST (R257): The end request reaches the shaper at the time end or the angle end command, and sets E. -/
  | endRequest (b : Fin 16)
  /-- ACTION_NORMAL_END (R258): An action reaches its normal end, at END or effect plus the minimum duration. -/
  | actionNormalEnd (b : Fin 16)
  /-- TAIL_OVERRUN (R259): A profile that has not reached END within TAIL_MAX after its end request is spillway-ended. -/
  | tailOverrun (b : Fin 16)
  /-- DIP_DETECT (R263): A slope sample meets the dip condition in an armed window: D sets and the dip instant is recorded. -/
  | dipDetect (b : Fin 16)
  /-- DIP_WINDOW_CLOSE (R267): A dip window closes without a dip by timeout, mask change or END, setting NODIP. -/
  | dipWindowClose (b : Fin 16)
  -- Converters (chapter 10)
  /-- SAMPLE_CLAIM (R278): A SAMPLE action claims its converter at the target PT, suspending an open scan or waiting behind a SAMPLE. -/
  | sampleClaim (k : Fin 4)
  /-- SAMPLING_INSTANT (R275): A converter opens its sample switch and the multiplexer moves to the next position. -/
  | samplingInstant (k : Fin 4)
  /-- CONVERSION_RESULT (R277): A conversion completes, is corrected and goes to its result path, possibly ending the scan. -/
  | conversionResult (k : Fin 4) (raw : Half)
  /-- RECORD_WRITE (R293): The record writer writes a queued record to its ring in SRAM and advances WP. -/
  | recordWrite (k : Fin 4)
  /-- OPEN_TRIGGER (R281): An open trigger slot judges an arriving trigger, ignoring it or starting its delay. -/
  | openTrigger (k : Fin 4) (slot : Fin 4)
  /-- OPEN_SLOT_PENDING (R281): An open slot's delay ends and the slot becomes pending for the converter. -/
  | openSlotPending (k : Fin 4) (slot : Fin 4)
  /-- CONV_SOFT (R281): A write of CONVk.SOFT triggers the named open slots. -/
  | convSoft (k : Fin 4) (v : Word)
  /-- CAL_ZERO (R286): A write of CAL_CMD.ZERO starts a zero measurement. -/
  | calZero (k : Fin 4)
  /-- CAL_FULL (R286): A write of CAL_CMD.FULL starts a full-scale measurement that computes the coefficients. -/
  | calFull (k : Fin 4)
  /-- CAL_ABORT (R286): A write of CAL_CMD.ABORT ends a running measurement with result ABORTED. -/
  | calAbort (k : Fin 4)
  /-- DAC_WRITE (R288): A write of ADCX.DAC sets the test DAC code and starts its settling time. -/
  | dacWrite (v : Word)
  /-- RING_MARK_WRITE (R292): A write of RINGr.MARK reports software progress, or is ignored if it runs past WP. -/
  | ringMarkWrite (k : Fin 4) (r : Fin 8) (v : Word)
  /-- SUM_LO_READ (R294): A read of an accumulator's SUM_LO snapshots it and empties it with RDCLR. -/
  | sumLoRead (k : Fin 4) (p : Fin 21)
  /-- SCAN_LO_READ (R296): A read of ADCX.SCAN_LO snapshots SCAN_HI. -/
  | scanLoRead
  -- PWM generators (chapter 11)
  /-- PWM_RUN_WRITE (R301): A write of PWM.RUN starts generators at count 0 or PHASE, or stops them to their safe levels. -/
  | pwmRunWrite (v : Word)
  /-- PWM_PERIOD_START (R300): A generator starts a period, taking requested loads, measured dead times and pending settings. -/
  | pwmPeriodStart (n : Fin 16)
  /-- PWM_COUNT_EDGE (R302): The counter reaches a duty or dead-time count and an output turns on or off. -/
  | pwmCountEdge (n : Fin 16)
  /-- PWM_COUNT_TRIGGER (R314): The counter equals TRIG_CFG.AT in a selected period and the count trigger fires. -/
  | pwmCountTrigger (n : Fin 16)
  /-- LOAD_ALL (R304): A write of GLOBAL.LOAD_ALL requests a load of the named groups. -/
  | loadAll (v : Word)
  /-- SW_CROSSING (R307): SWn crosses SWTH after a turn-off, ending a dead-time measurement. -/
  | swCrossing (n : Fin 16) (rising : Bool)
  /-- DT_MEASURE_TIMEOUT (R307): No crossing comes within DT_MAX, so the next dead time is DT_MAX and NOX counts. -/
  | dtMeasureTimeout (n : Fin 16)
  /-- PWM_FORCE (R309): A write of FORCE forces or releases outputs at the next count step. -/
  | pwmForce (n : Fin 16) (v : Word)
  /-- TRIP_INPUT (R310): A mapped trip input becomes active outside blanking, and the outputs go to safe levels through the clockless path. -/
  | tripInput (k : Fin 8) (level : Bool)
  /-- BLANK_END (R310): A blanking window ends, and a trip input still active trips the generator. -/
  | blankEnd (n : Fin 16)
  /-- TRIP_CLEAR (R311): A write of 1 to FLAGS.TRIP clears the latch if no mapped input is active. -/
  | tripClear (n : Fin 16)
  -- Timers and Runnels (chapter 12)
  /-- TMR_RUN_WRITE (R322): A write of TMR.RUN starts or stops timers. -/
  | tmrRunWrite (v : Word)
  /-- TIMER_COUNT_STEP (R321): A timer takes a count step: it decrements or reloads and raises zero and match events. -/
  | timerCountStep (n : Fin 16)
  /-- CMP_WRITE (R324): A write of CMP reaches the timer and is scheduled to become active three ticks later. -/
  | cmpWrite (n : Fin 16) (v : Word)
  /-- CMP_ACTIVE (R324): The written CMP becomes active, matching at once with LATE if it lies in the late window. -/
  | cmpActive (n : Fin 16)
  /-- TIMER_TRIGGER (R326): A trigger event acts on a timer by its slave mode. -/
  | timerTrigger (n : Fin 16) (level : Bool)
  /-- TMR_SOFT (R325): A write of TMR.SOFT raises the software trigger source of the named timers. -/
  | tmrSoft (v : Word)
  /-- TIMER_CAPTURE (R330): A capture-source event enters the timer's capture queue, or is lost if it is full. -/
  | timerCapture (e : CapEdge)
  /-- CAP_PT_READ (R331): A read of CAP_PT pops the head capture and snapshots its angle and count. -/
  | capPtRead (n : Fin 16)
  /-- RNL_RUN_WRITE (R339): A write of RUN.RUN starts or stops Runnel engines. -/
  | rnlRunWrite (v : Word)
  /-- SHIFT_CLR (R339): A write of CTRL.SHIFT_CLR on a stopped engine clears SR, BC and DONE. -/
  | shiftClr (e : Fin 8)
  /-- RNL_STOP (R337): Runnel instruction STOP stops the engine. -/
  | rnlStop (e : Fin 8)
  /-- RNL_PIN (R337): Runnel instruction PIN acts on a pin at once or at T. -/
  | rnlPin (e : Fin 8)
  /-- RNL_WAITP (R337): Runnel instruction WAITP waits for a pin level, with optional capture and timeout. -/
  | rnlWaitp (e : Fin 8) (pins : Word)
  /-- RNL_SHIFT (R337): Runnel instruction SHIFT shifts N bits in or out at times T, T+U and so on. -/
  | rnlShift (e : Fin 8) (pins : Word)
  /-- RNL_JMP (R337): Runnel instruction JMP jumps on its condition. -/
  | rnlJmp (e : Fin 8) (pins : Word)
  /-- RNL_PUSH (R337): Runnel instruction PUSH puts X or SR into OUT. -/
  | rnlPush (e : Fin 8)
  /-- RNL_PULL (R337): Runnel instruction PULL takes a word from IN. -/
  | rnlPull (e : Fin 8)
  /-- RNL_MOV (R337): Runnel instruction MOV copies a source into a register. -/
  | rnlMov (e : Fin 8)
  /-- RNL_ALU (R337): Runnel instruction ALU performs add, subtract, divide, compare, and, SHL4 or CRC4. -/
  | rnlAlu (e : Fin 8)
  /-- RNL_WAITT (R337): Runnel instruction WAITT waits until the counter reaches T. -/
  | rnlWaitt (e : Fin 8)
  /-- RNL_WAIT_END (R336): A waiting Runnel instruction completes when its time, level or FIFO condition is met. -/
  | rnlWaitEnd (e : Fin 8) (pins : Word)
  /-- RNL_IN_WRITE (R341): A software write of IN pushes one word into the engine's IN FIFO. -/
  | rnlInWrite (e : Fin 8) (v : Word)
  /-- RNL_OUT_READ (R341): A read of OUT pops one word from the engine's OUT FIFO. -/
  | rnlOutRead (e : Fin 8)
  /-- RNL_PROGRAM_WRITE (R340): A write of program words or engine registers acts while stopped, or is ignored with PROGW while running. -/
  | rnlProgramWrite (e : Fin 8) (reg : BitVec 8) (v : Word)
  -- Isligil cores (chapter 13)
  /-- CORE_FRAME_START (R132): A 5 µs plan frame starts on every core, and pending restarts act. -/
  | coreFrameStart
  /-- CORE_SLOT_START (R366): An occupied frame slot starts, setting the task bank and issuing the task's first instruction. -/
  | coreSlotStart (c : Fin 4) (slot : Fin 64)
  /-- CORE_EVENT_ENTRY (R355): The background bank takes event entry, pushing state on the hardware stack. -/
  | coreEventEntry (c : Fin 4)
  /-- CORE_NOP (R351): Core instruction NOP. -/
  | coreNop (c : Fin 4)
  /-- CORE_ADD (R351): Core instruction ADD. -/
  | coreAdd (c : Fin 4)
  /-- CORE_ADDC (R351): Core instruction ADDC adds with carry. -/
  | coreAddc (c : Fin 4)
  /-- CORE_SUB (R351): Core instruction SUB. -/
  | coreSub (c : Fin 4)
  /-- CORE_SUBC (R351): Core instruction SUBC subtracts with borrow. -/
  | coreSubc (c : Fin 4)
  /-- CORE_ADDS (R351): Core instruction ADDS adds with signed saturation. -/
  | coreAdds (c : Fin 4)
  /-- CORE_SUBS (R351): Core instruction SUBS subtracts with signed saturation. -/
  | coreSubs (c : Fin 4)
  /-- CORE_AND (R351): Core instruction AND. -/
  | coreAnd (c : Fin 4)
  /-- CORE_OR (R351): Core instruction OR. -/
  | coreOr (c : Fin 4)
  /-- CORE_XOR (R351): Core instruction XOR. -/
  | coreXor (c : Fin 4)
  /-- CORE_ADDI (R351): Core instruction ADDI. -/
  | coreAddi (c : Fin 4)
  /-- CORE_ANDI (R351): Core instruction ANDI. -/
  | coreAndi (c : Fin 4)
  /-- CORE_ORI (R351): Core instruction ORI. -/
  | coreOri (c : Fin 4)
  /-- CORE_XORI (R351): Core instruction XORI. -/
  | coreXori (c : Fin 4)
  /-- CORE_SHIFT (R351): Core instruction SHIFT shifts or rotates a register. -/
  | coreShift (c : Fin 4)
  /-- CORE_MOV (R351): Core instruction MOV. -/
  | coreMov (c : Fin 4)
  /-- CORE_MOVI (R351): Core instruction MOVI. -/
  | coreMovi (c : Fin 4)
  /-- CORE_MPY (R351): Core instruction MPY multiplies in two cycles. -/
  | coreMpy (c : Fin 4)
  /-- CORE_MAC (R351): Core instruction MAC multiplies and accumulates into AC. -/
  | coreMac (c : Fin 4)
  /-- CORE_ACOP (R351): Core instruction ACOP clears, loads, reads or scales AC. -/
  | coreAcop (c : Fin 4)
  /-- CORE_CMP (R351): Core instruction CMP sets a predicate. -/
  | coreCmp (c : Fin 4)
  /-- CORE_CMPI (R351): Core instruction CMPI sets a predicate against an immediate. -/
  | coreCmpi (c : Fin 4)
  /-- CORE_PLOG (R351): Core instruction PLOG combines predicates. -/
  | corePlog (c : Fin 4)
  /-- CORE_LD (R351): Core instruction LD loads from data memory. -/
  | coreLd (c : Fin 4)
  /-- CORE_ST (R351): Core instruction ST stores to data memory. -/
  | coreSt (c : Fin 4)
  /-- CORE_LDF (R361): Core instruction LDF issues a far load to the system map. -/
  | coreLdf (c : Fin 4)
  /-- CORE_STF (R361): Core instruction STF issues a far store to the system map. -/
  | coreStf (c : Fin 4)
  /-- CORE_FAR_DONE (R362): A far access is served in its slot or as open traffic and completes. -/
  | coreFarDone (c : Fin 4) (task : Bool)
  /-- CORE_BR (R351): Core instruction BR branches. -/
  | coreBr (c : Fin 4)
  /-- CORE_CALL (R351): Core instruction CALL branches and sets LK. -/
  | coreCall (c : Fin 4)
  /-- CORE_JR (R351): Core instruction JR jumps through a register. -/
  | coreJr (c : Fin 4)
  /-- CORE_RET (R351): Core instruction RET returns through LK. -/
  | coreRet (c : Fin 4)
  /-- CORE_RPT (R353): Core instruction RPT repeats the next instruction without event entry. -/
  | coreRpt (c : Fin 4)
  /-- CORE_RPTI (R353): Core instruction RPTI repeats the next instruction, allowing event entry between repetitions. -/
  | coreRpti (c : Fin 4)
  /-- CORE_WFE (R357): Core instruction WFE waits for the Catchment request. -/
  | coreWfe (c : Fin 4)
  /-- CORE_SEV (R358): Core instruction SEV raises software source 240 + K. -/
  | coreSev (c : Fin 4)
  /-- CORE_WAITPT (R359): Core instruction WAITPT waits for a PT target. -/
  | coreWaitpt (c : Fin 4)
  /-- CORE_WAITA (R360): Core instruction WAITA waits for the device angle to reach a target. -/
  | coreWaita (c : Fin 4)
  /-- CORE_WAIT_END (R360): A waiting WFE, WAITPT or WAITA completes, WAITA setting its predicate by the outcome. -/
  | coreWaitEnd (c : Fin 4) (task : Bool)
  /-- CORE_MFC (R347): Core instruction MFC reads a control register, snapshotting PT or the angle where stated. -/
  | coreMfc (c : Fin 4)
  /-- CORE_MTC (R347): Core instruction MTC writes a control register. -/
  | coreMtc (c : Fin 4)
  /-- CORE_RETE (R356): Core instruction RETE restores state from the hardware stack. -/
  | coreRete (c : Fin 4)
  /-- CORE_ENDT (R367): Core instruction ENDT completes the task or stops the background thread. -/
  | coreEndt (c : Fin 4)
  /-- CORE_MACM (R351): Core instruction MACM multiplies two data words into AC and advances pointers. -/
  | coreMacm (c : Fin 4)
  /-- CORE_RESTART (R369): A write of CORE.CTL.RESTART restarts the core at the next frame start. -/
  | coreRestart (c : Fin 4)
  -- Catchment and Flume (chapter 14)
  /-- CATCH_EVENT (R376): A raised source reaches the Catchment and counts, possibly becoming pending at its next target. -/
  | catchEvent (src : BitVec 8)
  /-- CATCH_COAL_TIMEOUT (R376): A source's coalescing timer reaches COAL_T and the source becomes pending. -/
  | catchCoalTimeout (src : BitVec 8)
  /-- CATCH_COMPLETE (R378): A write of COMPLETE_t completes a pending source at the end of the tick, or counts a stray. -/
  | catchComplete (t : Fin 7) (src : BitVec 8)
  /-- SETPEND (R380): A write of CATCH.SETPEND raises one event of the named source. -/
  | setpend (src : BitVec 8)
  /-- FLUME_START (R385): CMD.START or a DMA action starts a channel's programmed transfer. -/
  | flumeStart (c : Fin 32)
  /-- FLUME_BEAT (R386): A channel moves one beat or list element, and ends or halts the transfer where the rules say. -/
  | flumeBeat (c : Fin 32)
  /-- FLUME_RESUME (R392): A write of CMD.RESUME retries the failing access and continues. -/
  | flumeResume (c : Fin 32)
  /-- FLUME_ABORT (R392): A write of CMD.ABORT ends the transfer with RESULT ABORT. -/
  | flumeAbort (c : Fin 32)
  /-- FLUME_CTRL_WRITE (R397): A write of a channel's CTRL is discarded if it holds a reserved or disallowed code. -/
  | flumeCtrlWrite (c : Fin 32) (v : Word)
  -- Host ports and link (chapter 15)
  /-- HPS_GEN1_READ (R400): A gen 1 frame with WR = 0 reads a CVM word address, returned in the next frame. -/
  | hpsGen1Read (addr : BitVec 15)
  /-- HPS_GEN1_WRITE (R400): A gen 1 frame with WR = 1 writes a CVM word address. -/
  | hpsGen1Write (addr : BitVec 15) (v : Half)
  /-- HPS_BAD_FRAME (R399): A gen 1 frame of the wrong length is discarded and reported in the next frame. -/
  | hpsBadFrame
  /-- HPS_GEN2_READ (R401): A gen 2 READ request reads N + 1 words and returns them with STATUS. -/
  | hpsGen2Read (cmd : Word) (addr : Word) (crc : Half)
  /-- HPS_GEN2_WRITE (R401): A gen 2 WRITE request writes N + 1 words and returns STATUS. -/
  | hpsGen2Write (cmd : Word) (addr : Word) (data : List Word) (crc : Half)
  /-- HPS_ABANDON (R402): The host raises HCS_N before START, abandoning the response but not the access. -/
  | hpsAbandon
  /-- HPQ_READ (R404): An HPQ READ packet is executed, replayed or refused by its SEQ. -/
  | hpqRead (h0 : Word) (h1 : Word) (crc : Word)
  /-- HPQ_WRITE (R404): An HPQ WRITE packet is executed, replayed or refused by its SEQ. -/
  | hpqWrite (h0 : Word) (h1 : Word) (data : List Word) (crc : Word)
  /-- HPQ_SEQ_RESET (R404): A write of HPQ.CTRL.SEQ_RESET clears VALID. -/
  | hpqSeqReset
  /-- FLASH_BOOT_STAGE (R407): A flash boot stage completes, and the next stage begins or the boot ends with its result. -/
  | flashBootStage (bytes : List Byte)
  /-- FL_START (R429): A write of FL.CTRL.START runs the flash command in OP. -/
  | flStart
  /-- FL_COMMAND_DONE (R429): A flash command completes and FL_DONE is raised. -/
  | flCommandDone (bytes : List Byte)
  /-- LINK_TRAIN_DONE (R410): A link port completes training and comes UP. -/
  | linkTrainDone (p : Fin 2) (twoLanes : Bool) (nid : BitVec 3) (nMaster : Bool)
  /-- LINK_TRAIN_TIMEOUT (R410): A port that has not trained within 200 µs reports DOWN and retries later. -/
  | linkTrainTimeout (p : Fin 2)
  /-- PING (R411): A received PING control beat is answered with a PONG 32 ticks later. -/
  | ping (p : Fin 2) (arrived : Nat)
  /-- PONG (R411): A received PONG contributes a round trip to the latency measurement. -/
  | pong (p : Fin 2) (trip : Nat)
  /-- LINK_ACK (R416): A received ACK frees every unacknowledged frame up to its LSEQ. -/
  | linkAck (p : Fin 2) (lseq : Byte)
  /-- LINK_RETRY_TIMEOUT (R416): No ACK within TMO resends all unacknowledged frames, retraining after eight timeouts. -/
  | linkRetryTimeout (p : Fin 2)
  /-- LANE_FAIL (R417): A lane loses lock or shows too many errors, so the port retrains on the other lane. -/
  | laneFail (p : Fin 2)
  /-- HEART_SEND (R412): Every 1 µs the device sends a HEART frame on both ports. -/
  | heartSend
  /-- HEART_RECEIVE (R412): A received HEART updates PATH, roles, takeover and reset commands, and is forwarded. -/
  | heartReceive (p : Fin 2) (f : HeartFrame)
  /-- HEART_MISS (R427): A 1 µs window passes without a master HEART, and at HB_MISS the standby takes over. -/
  | heartMiss
  /-- ANGLE_SEND (R413): At each beat boundary after a PT multiple of 40, an ANGLE beat is sent. -/
  | angleSend
  /-- ANGLE_RECEIVE (R423): A received ANGLE beat drives the link-mode tracker, sync and epoch, or the peer vote. -/
  | angleReceive (p : Fin 2) (beat : AngleBeat)
  /-- FLYWHEEL_EXPIRE (R424): No good beat from the active source for FLY loses link-mode sync with cause HOLD. -/
  | flywheelExpire
  /-- MEM_RD (R415): A MEM RD frame reads words at the addressed device and answers with RDRESP. -/
  | memRd (p : Fin 2) (f : MemFrame)
  /-- MEM_WR (R415): A MEM WR frame writes words at the addressed device and answers with WRACK. -/
  | memWr (p : Fin 2) (f : MemFrame)
  /-- MEM_RDRESP (R415): A MEM RDRESP frame completes a peer read. -/
  | memRdresp (p : Fin 2) (f : MemFrame)
  /-- MEM_WRACK (R415): A MEM WRACK frame completes a peer write. -/
  | memWrack (p : Fin 2) (f : MemFrame)
  /-- ORDER_SUBMIT (R212): An ORDER SUBMIT frame is judged as a submission of the link buffer and answered with REPLY. -/
  | orderSubmit (p : Fin 2) (f : OrderFrame)
  /-- ORDER_REPLY (R420): An ORDER REPLY frame completes the writer's SUB3 write with the peer's result. -/
  | orderReply (p : Fin 2) (f : ReplyFrame)
  /-- EVENT_EVT (R421): An EVENT EVT frame enters the event FIFO and is acknowledged, or answered FULL. -/
  | eventEvt (p : Fin 2) (f : EventFrame)
  /-- EVENT_MSG (R421): An EVENT MSG frame enters the message FIFO with its PATH-compensated PT, or is discarded. -/
  | eventMsg (p : Fin 2) (f : EventFrame)
  /-- EVENT_EVTACK (R421): An EVTACK completes the source at the link target, or leaves it pending on FULL. -/
  | eventEvtack (p : Fin 2) (f : EventFrame)
  /-- EVT_RESEND (R421): Every 10 µs an EVT refused with FULL is resent. -/
  | evtResend
  /-- FRAME_ABORT (R409): A K30.7 abort ends a forwarded frame, which is discarded. -/
  | frameAbort (p : Fin 2)
  /-- PEER_ACCESS (R418): An access to a peer window is carried as a MEM frame, or reaches the device's own map. -/
  | peerAccess (init : Initiator) (addr : Word) (write half : Bool) (v : Word)
  /-- PEER_ACCESS_TIMEOUT (R419): A peer access without a path or response within MEM_TMO ends in a bus error. -/
  | peerAccessTimeout
  /-- PEER_SUBMIT (R420): A write of SUB3 through a peer window sends an ORDER SUBMIT frame from the remote staging buffer. -/
  | peerSubmit (init : Initiator) (dst : BitVec 3) (v : Word)
  /-- LINK_RST_CMD (R428): A write of LINK.RST_CMD.GO puts a reset command in the next HEART. -/
  | linkRstCmd (v : Word)
  /-- EVT_POP_READ (R430): A read of LINK.EVT_POP pops one event FIFO entry. -/
  | evtPopRead
  /-- MSG_PAY_READ (R430): A read of LINK.MSG_PAY pops a message and snapshots its stamp and PT. -/
  | msgPayRead
  -- Memory (chapter 16)
  /-- MEMORY_READ (R437): An initiator reads a protected word, which is decoded as clean, corrected or uncorrectable. -/
  | memoryRead (init : Initiator) (addr : Word) (size : Nat)
  /-- MEMORY_WRITE (R438): An initiator writes memory, merging partial writes, clearing or keeping poison, with optional injection. -/
  | memoryWrite (init : Initiator) (addr : Word) (bytes : List Byte)
  /-- SCRUB_CYCLE (R441): In a free cycle the scrubber writes back a correction or priority rewrite, or reads the next word of its pass. -/
  | scrubCycle (port : Fin 9)
  -- Die-to-die, power, reset (chapters 01 and 17)
  /-- BUNDLE_UNCORR (R14): A bundle word with an uncorrectable error is discarded, the D-die spillway-ends and the L-die enters SPILLED. -/
  | bundleUncorr
  /-- HEARTBEAT_WINDOW (R25): A 1 µs heartbeat window ends, and at the fourth miss the D-die ends all outputs and latches them. -/
  | heartbeatWindow (seen : Bool)
  /-- STATUS_WINDOW (R26): A 1 µs status window ends, and at the fourth miss the L-die enters SPILLED. -/
  | statusWindow (seen : Bool) (corrected : BitVec 16)
  /-- BUNDLE_RESTORE (R27): When the bundle works again the plan engine reads the latched set and journals the ended actions. -/
  | bundleRestore
  /-- CULVERT_STALL (R17): A plan-path culvert stalls for more than 1 µs, which is an island fault.
  `writer` is the island of the stalled writer: 0 Tracker A, 1 Tracker B, 2 plan engine, 3 converter. -/
  | culvertStall
  /-- ISLAND_RESET_RELEASE (R467): A faulted island is released after 10 µs with its registers at reset values. -/
  | islandResetRelease
  /-- POWER_ON_RESET (R456): VRET enters or leaves its range, giving a cold reset. -/
  | powerOnReset (up : Bool)
  /-- RESET_N_ASSERT (R461): RESET_N is driven low and the device enters RESET. -/
  | resetNAssert
  /-- RESET_N_RELEASE (R463): RESET_N rises: the straps are sampled and the cold-reset sequence runs. -/
  | resetNRelease (straps : BitVec 8)
  /-- COLD_RESET_DONE (R463): The cold-reset sequence ends in STRAPPED, starting PT, host ports, link training and flash boot. -/
  | coldResetDone (bundleOk : Bool)
  /-- LINK_RESET_RELEASE (R464): A link reset reaches its internal release 10 µs after its HEART and runs the cold-reset sequence. -/
  | linkResetRelease
  /-- WARM_N_ASSERT (R465): WARM_N falls: outputs spillway-end and blocks outside retention are held in reset. -/
  | warmNAssert
  /-- WARM_N_RELEASE (R465): WARM_N rises: PT restarts, the islands are released and the Headgate writes its warm-reset records. -/
  | warmNRelease
  /-- WARM_RESET_DONE (R466): The plan copy check ends and the device enters LOADED or STRAPPED. -/
  | warmResetDone
  /-- SUPPLY_LOSS (R456): VDD_L, VDD_D, VDDA or VIO leaves its range, holding the device in a supply reset. -/
  | supplyLoss (sup : Supply)
  /-- SUPPLY_RETURN (R454): The last supply has been in range for 2 ms and the supply reset is released. -/
  | supplyReturn (sup : Supply)
  /-- VDRV_UNDERVOLTAGE (R456): VDRV falls below threshold: gates are held off and an armed device enters SPILLED. -/
  | vdrvUndervoltage
  /-- VDRV_RETURN (R456): VDRV returns above 10.5 V and the drive undervoltage cause clears. -/
  | vdrvReturn
  /-- CLOCK_SELECT (R459): After 100 µs of watching CLKIN the device chooses CLKIN or the crystal, or stays in reset. -/
  | clockSelect (obs : ClockObs)
  /-- CLOCK_FAULT (R460): The reference is lost or off frequency, or a PLL loses lock: an armed device enters SPILLED. -/
  | clockFault (kind : ClockFaultKind)
  /-- CLOCK_RECOVER (R460): The reference is back and both PLLs have held lock for 100 µs, so the clock fault clears. -/
  | clockRecover (lostUs : Word)
  /-- PARK (R472): A write of SYS.CMD.PARK requests PARK, which is held or refused as stated. -/
  | park
  /-- PARK_ENTER (R473): A held park request acts: the Catchment state is saved and the stopped islands halt. -/
  | parkEnter
  /-- WAKE (R474): A wheel edge, host select or addressed link frame wakes the device to the state it parked from. -/
  | wake (cause : WakeCause)
  /-- THERM_MEASURE (R477): Every 10 µs the junction sensors are read, raising the warning or starting thermal shutdown. -/
  | thermMeasure (t0 t1 t2 t3 t4 t5 : Half)
  /-- D_DIE_THERMAL_TRIP (R478): The D-die comparator at 155 °C ends the D-die outputs without the L-die. -/
  | dDieThermalTrip
  /-- THERM_RELEASE (R478): A write of THERM.CTRL.RELEASE releases held outputs below 135 °C, or is ignored. -/
  | thermRelease
  -- System pages (chapter 18)
  /-- DBG_FREEZE (R493): A write of DBG.CTRL.FREEZE requests a debug freeze. -/
  | dbgFreeze
  /-- BRK_PT_MATCH (R493): PT equals BRK_PT with PT_EN set, requesting a freeze. -/
  | brkPtMatch
  /-- FREEZE_BEGIN (R493): The freeze begins in the tick after its cause: PT stands and DBG_FRZ goes high. -/
  | freezeBegin
  /-- DBG_RELEASE (R494): A write of DBG.CTRL.RELEASE ends the freeze, disarming if an epoch was open. -/
  | dbgRelease
  /-- COMMIT (R486): A write of CTRL.COMMIT judges the page's shadows, acting on them or refusing them as a whole. -/
  | commit (page : Byte)
  /-- SOFT_RESET (R485): A write of CTRL.SOFT_RESET returns the page's registers to reset values on the pages and in the states allowed. -/
  | softReset (page : Byte)
  /-- ENABLE_WRITE (R484): A write of CTRL.ENABLE stops or starts an idle block's clock on the pages that honour it. -/
  | enableWrite (page : Byte) (on : Bool)
  /-- EVT_SET (R483): A write of EVT_SET raises one event of the page's source. -/
  | evtSet (page : Byte) (v : Word)
  /-- PT_LO_READ (R489): A read of SYS.PT_LO snapshots PT_HI. -/
  | ptLoRead
  /-- REGISTER_WRITE (R12): A write to a register that has no row of its own acts by its access code. -/
  | registerWrite (init : Initiator) (addr : Word) (v : Word)
  -- Events added to the table (chapters 02, 05, 08 and 15)
  /-- VR_ARM (R39): The VR signal crosses the arming threshold of its arming polarity, arming the front end and starting the tooth's peak measurement. -/
  | vrArm (w : Fin 4) (level : BitVec 12)
  /-- BANK_SENSE_SAMPLE (R219): Every 40 ns the bank sense converter delivers a new code that updates SENSE.I, PEAK and the decay status. -/
  | bankSenseSample (b : Fin 16) (uv : Word) (clamp : Bool)
  /-- WAIT_LIMIT_EXPIRE (R142): A DMA, SAMPLE or TASK action waiting for its resource reaches its defer allowance and is dropped with reason OVERLAP. -/
  | waitLimitExpire (idx : Fin 16384)
  /-- TRAINING_RETRY (R410): A link port that reported DOWN starts training again 1 ms later, changing port state and raising LINK_PORT. -/
  | trainingRetry (p : Fin 2)
  deriving DecidableEq, Repr

end Sys2Proof
end

