-- ==== Sys2Proof/Decode.lean ====
section
/-! DEFINITION. The table of operations gives no row a bit: the block takes commands and fetches no instruction. The
programs the block holds itself (shaper, Runnel and Isligil words) are decoded by the meanings that run them. -/

namespace Sys2Proof

/-- No row of the table has bits, so no word spells a command. -/
def decodeTableWord (_nbits _w : Nat) : Option Instr := none

end Sys2Proof
end

