-- ==== Sys2Proof/Config.lean ====
section
/-! DEFINITION. What each device or each reading of the spec leaves open: fused identity and the free values. None has a
body, so nothing can be proved of a value of it. A free value is applied to the operands it depends on, or to the
counter `State.free`, which advances at each use (log entry 5). -/

namespace Sys2Proof

/-- The 36-bit lot of a die: 0 the L-die, 1 the D-die (R489). -/
opaque Config.lot : Nat → BitVec 36
/-- The wafer of a die (R489). -/
opaque Config.wafer : Nat → BitVec 5
/-- The die position X (R489). -/
opaque Config.dieX : Nat → BitVec 8
/-- The die position Y (R489). -/
opaque Config.dieY : Nat → BitVec 8
/-- ACOP with FN 10 and PART 11 gives no stated value (R351). -/
opaque Config.acPart3 : Nat → BitVec 16
/-- PLOG with FN 11 gives no stated value (R351). -/
opaque Config.plogFn3 : Nat → Bool
/-- SPEED of a tracker without a position, from its last period: the true pitch of R96 is not known. -/
opaque Config.speedNoPos : Nat → BitVec 24
/-- The 4 bytes APPEND writes where CTRL.SUM selects no checksum (R389 states them for the two checksums only). -/
opaque Config.appendNoSum : Nat → BitVec 32
/-- A sense code lies above the quotient of R219 and not below it where the quotient, here its dividend, is not whole. -/
opaque Config.senseRoundsUp : Nat → Bool
/-- The island whose writer a culvert stalls (R17): 0 Tracker A, 1 Tracker B, 2 the plan engine, 3 the converters. -/
opaque Config.stalledWriter : Nat → Fin 4
/-- The bits of the TAP's instruction register beyond the two IEEE 1149.1 asks for (R510 gives no length). -/
opaque Config.tapIrMore : Nat
/-- What those bits capture. -/
opaque Config.tapIrCapture : Nat → Bool
/-- The code of SAMPLE/PRELOAD, as a number below that of all ones (R510 gives no codes). -/
opaque Config.tapSampleCode : Nat
/-- The code of EXTEST, as a distance from that of SAMPLE/PRELOAD. -/
opaque Config.tapExtestCode : Nat
/-- The instruction of every other code: 0 BYPASS, 1 SAMPLE/PRELOAD, 2 EXTEST. -/
opaque Config.tapIrCode : List Bool → Fin 3
/-- The order of the boundary chain (R510 gives none): which of the balls still without a cell gets the next one. -/
opaque Config.tapCell : Nat → Nat
/-- The level STAT.TIO shows of an input ball that no timer takes, so that nothing reports it (R332). -/
opaque Config.tioUnseen : Nat → Nat → Bool
/-- The symbol errors a port sees in a tick (R417, R430): by port and tick. -/
opaque Config.symErrors : Nat → Nat → BitVec 8
/-- The syndromes UE_SYN shows of an uncorrectable SEC-DED word: S3 and Pe above S1 (R449 gives those of the other code). -/
opaque Config.secSyndromes : Nat → BitVec 15
/-- The byte the flash master sends for one it could not read (R435). -/
opaque Config.flashUnread : Nat → BitVec 8
/-- Whether the copy of a frame that ends in K30.7 was under way here (R409; FRAME_ABORT does not name the frame). -/
opaque Config.abortCopy : Nat → Bool
/-- The level of a ball that neither the device drives nor a command has reported, as a cell captures it. -/
opaque Config.ballLevel : Nat → Nat → Bool

end Sys2Proof
end

