-- ==== Sys2Proof/Machine/RegMap.lean ====
section
/-! DEFINITION. The register map: every field of every register the spec's tables list (R10, R12, R482), as data.
A field carries its byte offset in its block, its bit range, its access code and its value after cold reset.
A block carries its first address and how its copies repeat.
Where the tables give no reset value, the field's value is 0 (log entry 1).
Fields whose reset is a strap hold the value of straps all 0 (log entry 2). -/

namespace Sys2Proof.Machine

/-- The access codes of R12. -/
inductive Acc
  | ro | rw | rws | w1c | w1s | wo
  deriving DecidableEq, Repr

/-- One field of a register: byte offset of its register in the block, bits hi..lo, access, value after cold reset. -/
structure Fld where
  off : Nat
  hi : Nat
  lo : Nat
  acc : Acc
  rst : Nat
  deriving DecidableEq, Repr

/-- A block of registers: its first copy's address, and two strides with their counts (R10). -/
structure RegBlock where
  base : Nat
  s1 : Nat
  n1 : Nat
  s2 : Nat
  n2 : Nat
  fields : List Fld
  deriving DecidableEq, Repr

/-! ### WHL (02_wheels_and_sync.md) -/
def WHL.PTAB_ADDR_AUTOINC : Fld := ⟨0x40, 31, 31, .rw, 0x0⟩
def WHL.PTAB_ADDR_WHEEL : Fld := ⟨0x40, 13, 12, .rw, 0x0⟩
def WHL.PTAB_ADDR_INDEX : Fld := ⟨0x40, 9, 0, .rw, 0x0⟩
def WHL.PTAB_DATA_LO_DATA : Fld := ⟨0x44, 31, 0, .rw, 0x0⟩
def WHL.PTAB_DATA_HI_DATA : Fld := ⟨0x48, 31, 0, .rw, 0x0⟩
def WHL.fields : List Fld := [WHL.PTAB_ADDR_AUTOINC, WHL.PTAB_ADDR_WHEEL, WHL.PTAB_ADDR_INDEX, WHL.PTAB_DATA_LO_DATA, WHL.PTAB_DATA_HI_DATA]
def WHL.base : Nat := 0x404000

/-! ### WHN (02_wheels_and_sync.md) -/
def WHN.MODE_BOTHFLANK : Fld := ⟨0x0, 3, 3, .rws, 0x0⟩
def WHN.MODE_EDGE : Fld := ⟨0x0, 2, 2, .rws, 0x0⟩
def WHN.MODE_SENSOR : Fld := ⟨0x0, 1, 0, .rws, 0x0⟩
def WHN.VR_CFG_DLY : Fld := ⟨0x4, 31, 24, .rws, 0x8⟩
def WHN.VR_CFG_DECAY : Fld := ⟨0x4, 18, 16, .rws, 0x1⟩
def WHN.VR_CFG_THR_MIN : Fld := ⟨0x4, 15, 8, .rws, 0xA⟩
def WHN.VR_CFG_THR_FRAC : Fld := ⟨0x4, 2, 0, .rws, 0x4⟩
def WHN.HALL_CFG_FILT : Fld := ⟨0x8, 9, 0, .rws, 0x32⟩
def WHN.DIR_CFG_TH2 : Fld := ⟨0xC, 31, 16, .rws, 0x2EE0⟩
def WHN.DIR_CFG_TH1 : Fld := ⟨0xC, 15, 0, .rws, 0x1770⟩
def WHN.WCLS_A_B : Fld := ⟨0x10, 31, 0, .rws, 0x0⟩
def WHN.WCLS_B_B : Fld := ⟨0x14, 23, 0, .rws, 0x0⟩
def WHN.STAMP_LO_PT : Fld := ⟨0x18, 31, 0, .ro, 0x0⟩
def WHN.STAMP_HI_PT : Fld := ⟨0x1C, 31, 0, .ro, 0x0⟩
def WHN.PERIOD_TICKS : Fld := ⟨0x20, 31, 0, .ro, 0x0⟩
def WHN.HIGH_TICKS : Fld := ⟨0x24, 31, 0, .ro, 0x0⟩
def WHN.CLASS_WVALID : Fld := ⟨0x28, 7, 7, .ro, 0x0⟩
def WHN.CLASS_WCLASS : Fld := ⟨0x28, 6, 4, .ro, 0x0⟩
def WHN.CLASS_DCLASS : Fld := ⟨0x28, 1, 0, .ro, 0x0⟩
def WHN.VR_PEAK_PEAK : Fld := ⟨0x2C, 11, 0, .ro, 0x0⟩
def WHN.EDGE_CNT_COUNT : Fld := ⟨0x30, 31, 0, .ro, 0x0⟩
def WHN.FAULT_OVERRATE : Fld := ⟨0x34, 2, 2, .w1c, 0x0⟩
def WHN.FAULT_DIAG : Fld := ⟨0x34, 1, 1, .w1c, 0x0⟩
def WHN.FAULT_LOW_AMP : Fld := ⟨0x34, 0, 0, .w1c, 0x0⟩
def WHN.GLITCH_CNT_COUNT : Fld := ⟨0x38, 15, 0, .ro, 0x0⟩
def WHN.fields : List Fld := [WHN.MODE_BOTHFLANK, WHN.MODE_EDGE, WHN.MODE_SENSOR, WHN.VR_CFG_DLY, WHN.VR_CFG_DECAY, WHN.VR_CFG_THR_MIN, WHN.VR_CFG_THR_FRAC, WHN.HALL_CFG_FILT, WHN.DIR_CFG_TH2, WHN.DIR_CFG_TH1, WHN.WCLS_A_B, WHN.WCLS_B_B, WHN.STAMP_LO_PT, WHN.STAMP_HI_PT, WHN.PERIOD_TICKS, WHN.HIGH_TICKS, WHN.CLASS_WVALID, WHN.CLASS_WCLASS, WHN.CLASS_DCLASS, WHN.VR_PEAK_PEAK, WHN.EDGE_CNT_COUNT, WHN.FAULT_OVERRATE, WHN.FAULT_DIAG, WHN.FAULT_LOW_AMP, WHN.GLITCH_CNT_COUNT]
def WHN.base (i : Nat) : Nat := 0x404100 + i * 0x80

/-! ### TRK (04_irregular_motion.md) -/
def TRK.CFG_CAMFEAT : Fld := ⟨0x40, 29, 24, .rws, 0x0⟩
def TRK.CFG_CONFIRM : Fld := ⟨0x40, 22, 20, .rws, 0x1⟩
def TRK.CFG_CYCLE720 : Fld := ⟨0x40, 19, 19, .rws, 0x0⟩
def TRK.CFG_CAM_EN : Fld := ⟨0x40, 18, 18, .rws, 0x0⟩
def TRK.CFG_CAM : Fld := ⟨0x40, 17, 16, .rws, 0x0⟩
def TRK.CFG_CRANK : Fld := ⟨0x40, 13, 12, .rws, 0x0⟩
def TRK.CFG_TEETH : Fld := ⟨0x40, 10, 0, .rws, 0x0⟩
def TRK.ACQ_CAM_WIN : Fld := ⟨0x44, 31, 20, .rws, 0x140⟩
def TRK.ACQ_PHASE_TRIES : Fld := ⟨0x44, 19, 16, .rws, 0x4⟩
def TRK.ACQ_FEAT_TOL : Fld := ⟨0x44, 13, 8, .rws, 0x10⟩
def TRK.ACQ_SEQLEN : Fld := ⟨0x44, 7, 6, .rws, 0x0⟩
def TRK.ACQ_N_STEADY : Fld := ⟨0x44, 5, 0, .rws, 0x8⟩
def TRK.PLAUS_HI : Fld := ⟨0x48, 31, 16, .rws, 0x3000⟩
def TRK.PLAUS_LO : Fld := ⟨0x48, 15, 0, .rws, 0x4CD⟩
def TRK.SYNC_POS : Fld := ⟨0x4C, 29, 20, .ro, 0x0⟩
def TRK.SYNC_SPUR_RUN : Fld := ⟨0x4C, 19, 16, .ro, 0x0⟩
def TRK.SYNC_CAND : Fld := ⟨0x4C, 15, 8, .ro, 0x0⟩
def TRK.SYNC_EPOCH_OPEN : Fld := ⟨0x4C, 4, 4, .ro, 0x0⟩
def TRK.SYNC_SYNCED : Fld := ⟨0x4C, 3, 3, .ro, 0x0⟩
def TRK.SYNC_STATE : Fld := ⟨0x4C, 2, 0, .ro, 0x0⟩
def TRK.EPOCH_CYC_EPOCH : Fld := ⟨0x50, 31, 16, .ro, 0x0⟩
def TRK.EPOCH_CYC_CYCLE : Fld := ⟨0x50, 15, 0, .ro, 0x0⟩
def TRK.SPUR_CNT_ACQ_RESTART : Fld := ⟨0x54, 31, 16, .ro, 0x0⟩
def TRK.SPUR_CNT_SPUR : Fld := ⟨0x54, 15, 0, .ro, 0x0⟩
def TRK.SYNC_ANGLE_ANGLE : Fld := ⟨0x58, 25, 0, .ro, 0x0⟩
def TRK.SYNC_PT_PT : Fld := ⟨0x5C, 31, 0, .ro, 0x0⟩
def TRK.ANGLE_VALID : Fld := ⟨0xC0, 31, 31, .ro, 0x0⟩
def TRK.ANGLE_DIR : Fld := ⟨0xC0, 30, 30, .ro, 0x0⟩
def TRK.ANGLE_HORIZON : Fld := ⟨0xC0, 29, 29, .ro, 0x0⟩
def TRK.ANGLE : Fld := ⟨0xC0, 25, 0, .ro, 0x0⟩
def TRK.ANGLE_FRAC_FRAC : Fld := ⟨0xC4, 31, 0, .ro, 0x0⟩
def TRK.INC_LO_FRAC : Fld := ⟨0xC8, 31, 0, .ro, 0x0⟩
def TRK.INC_HI_INT : Fld := ⟨0xCC, 3, 0, .ro, 0x0⟩
def TRK.SNAP_PT_PT : Fld := ⟨0xD0, 31, 0, .ro, 0x0⟩
def TRK.HORIZON_ANGLE : Fld := ⟨0xD4, 25, 0, .ro, 0x0⟩
def TRK.TPRED_TICKS : Fld := ⟨0xD8, 31, 0, .ro, 0x0⟩
def TRK.SPEED_RPM : Fld := ⟨0xDC, 23, 0, .ro, 0x0⟩
def TRK.SHADOW_CFG_CLR : Fld := ⟨0xE0, 8, 8, .w1s, 0x0⟩
def TRK.SHADOW_CFG_LEARN : Fld := ⟨0xE0, 4, 4, .rws, 0x1⟩
def TRK.SHADOW_CFG_N : Fld := ⟨0xE0, 3, 0, .rws, 0x4⟩
def TRK.SHADOW_STAT_CLAMP_CNT : Fld := ⟨0xE4, 31, 16, .ro, 0x0⟩
def TRK.SHADOW_STAT_DIRTY_CNT : Fld := ⟨0xE4, 15, 8, .ro, 0x0⟩
def TRK.SHADOW_STAT_BANK : Fld := ⟨0xE4, 4, 4, .ro, 0x0⟩
def TRK.SHADOW_STAT_ROWS : Fld := ⟨0xE4, 3, 0, .ro, 0x0⟩
def TRK.SHADOW_IDX_C : Fld := ⟨0xE8, 10, 0, .rw, 0x0⟩
def TRK.SHADOW_Q_Q : Fld := ⟨0xEC, 15, 0, .ro, 0x4000⟩
def TRK.SIG_CFG_RESET : Fld := ⟨0xF0, 16, 16, .w1s, 0x0⟩
def TRK.SIG_CFG_STAB : Fld := ⟨0xF0, 15, 8, .rws, 0x10⟩
def TRK.SIG_CFG_AVG : Fld := ⟨0xF0, 3, 1, .rws, 0x4⟩
def TRK.SIG_CFG_LEARN : Fld := ⟨0xF0, 0, 0, .rws, 0x0⟩
def TRK.SIG_STAT_UPDATES : Fld := ⟨0xF4, 31, 24, .ro, 0x0⟩
def TRK.SIG_STAT_REJECTS : Fld := ⟨0xF4, 23, 16, .ro, 0x0⟩
def TRK.SIG_STAT_REVS : Fld := ⟨0xF4, 7, 0, .ro, 0x0⟩
def TRK.SIG_IDX_I : Fld := ⟨0xF8, 9, 0, .rw, 0x0⟩
def TRK.SIG_VAL_S : Fld := ⟨0xFC, 15, 0, .ro, 0x0⟩
def TRK.TRIM_RB_SIG_TRIM : Fld := ⟨0x100, 31, 16, .ro, 0x0⟩
def TRK.TRIM_RB_SH_TRIM : Fld := ⟨0x100, 13, 0, .ro, 0x0⟩
def TRK.IFAULT_VOTED_OUT : Fld := ⟨0x104, 6, 6, .w1c, 0x0⟩
def TRK.IFAULT_WHEEL : Fld := ⟨0x104, 5, 5, .w1c, 0x0⟩
def TRK.IFAULT_SHADOW_ECC : Fld := ⟨0x104, 4, 4, .w1c, 0x0⟩
def TRK.IFAULT_PTAB_ECC : Fld := ⟨0x104, 3, 3, .w1c, 0x0⟩
def TRK.IFAULT_PT_MISMATCH : Fld := ⟨0x104, 2, 2, .w1c, 0x0⟩
def TRK.IFAULT_ACC_CHECK : Fld := ⟨0x104, 1, 1, .w1c, 0x0⟩
def TRK.IFAULT_PT_CHECK : Fld := ⟨0x104, 0, 0, .w1c, 0x0⟩
def TRK.IFAULT_MASK_MASK : Fld := ⟨0x108, 5, 0, .rws, 0x1F⟩
def TRK.XCHK_TOL_HARD : Fld := ⟨0x10C, 31, 16, .rws, 0x800⟩
def TRK.XCHK_TOL_SOFT : Fld := ⟨0x10C, 15, 0, .rws, 0x100⟩
def TRK.XCHK_CFG_PEER_ID : Fld := ⟨0x110, 6, 4, .rws, 0x0⟩
def TRK.XCHK_CFG_PEER_EN : Fld := ⟨0x110, 1, 1, .rws, 0x0⟩
def TRK.XCHK_CFG_EN : Fld := ⟨0x110, 0, 0, .rws, 0x1⟩
def TRK.XCHK_STAT_SOFT_CNT : Fld := ⟨0x114, 31, 16, .ro, 0x0⟩
def TRK.XCHK_STAT_HANDOVERS : Fld := ⟨0x114, 15, 8, .ro, 0x0⟩
def TRK.XCHK_STAT_VOTE : Fld := ⟨0x114, 5, 5, .ro, 0x0⟩
def TRK.XCHK_STAT_PEER_VALID : Fld := ⟨0x114, 4, 4, .ro, 0x0⟩
def TRK.XCHK_STAT_SUPPRESS : Fld := ⟨0x114, 3, 3, .ro, 0x0⟩
def TRK.XCHK_STAT_HARD_ACT : Fld := ⟨0x114, 2, 2, .ro, 0x0⟩
def TRK.XCHK_STAT_SOFT_ACT : Fld := ⟨0x114, 1, 1, .ro, 0x0⟩
def TRK.XCHK_STAT_CONTROL : Fld := ⟨0x114, 0, 0, .ro, 0x0⟩
def TRK.XCHK_DIFF_D : Fld := ⟨0x118, 31, 0, .ro, 0x0⟩
def TRK.XCHK_MAX_MAX : Fld := ⟨0x11C, 25, 0, .rw, 0x0⟩
def TRK.XCHK_CMD_HANDBACK : Fld := ⟨0x120, 1, 1, .w1s, 0x0⟩
def TRK.XCHK_CMD_REJOIN : Fld := ⟨0x120, 0, 0, .w1s, 0x0⟩
def TRK.CTRL_REVERSE_ARM : Fld := ⟨0x8, 8, 8, .rw, 0x0⟩
def TRK.MOTION_CFG_SYNC_TOL : Fld := ⟨0x140, 31, 24, .rws, 0x10⟩
def TRK.MOTION_CFG_GAP_LIM : Fld := ⟨0x140, 23, 16, .rws, 0x1C⟩
def TRK.MOTION_CFG_RESUME_CRIT : Fld := ⟨0x140, 0, 0, .rws, 0x1⟩
def TRK.STALL_CFG_TIMEOUT : Fld := ⟨0x144, 31, 16, .rws, 0x7D0⟩
def TRK.STALL_CFG_RPM : Fld := ⟨0x144, 15, 0, .rws, 0x100⟩
def TRK.HOLD_CFG_HOLD : Fld := ⟨0x148, 15, 0, .rws, 0x3E8⟩
def TRK.MOTION_STAT_STALLED : Fld := ⟨0x14C, 7, 7, .ro, 0x0⟩
def TRK.MOTION_STAT_HOLDING : Fld := ⟨0x14C, 6, 6, .ro, 0x0⟩
def TRK.MOTION_STAT_VERIFY : Fld := ⟨0x14C, 5, 5, .ro, 0x0⟩
def TRK.MOTION_STAT_LOSS : Fld := ⟨0x14C, 3, 0, .ro, 0x0⟩
def TRK.JUMP_LAST_STEP : Fld := ⟨0x150, 31, 0, .ro, 0x0⟩
def TRK.JUMP_MAX_MAX : Fld := ⟨0x154, 25, 0, .rw, 0x0⟩
def TRK.MOTION_CNT_STALLS : Fld := ⟨0x158, 31, 24, .ro, 0x0⟩
def TRK.MOTION_CNT_RESUMES : Fld := ⟨0x158, 23, 16, .ro, 0x0⟩
def TRK.MOTION_CNT_REVERSALS : Fld := ⟨0x158, 15, 8, .ro, 0x0⟩
def TRK.MOTION_CNT_CAM_MISS : Fld := ⟨0x158, 7, 0, .ro, 0x0⟩
def TRK.LOSS_ANGLE_VALID : Fld := ⟨0x15C, 31, 31, .ro, 0x0⟩
def TRK.LOSS_ANGLE_ANGLE : Fld := ⟨0x15C, 25, 0, .ro, 0x0⟩
def TRK.LOSS_PT_PT : Fld := ⟨0x160, 31, 0, .ro, 0x0⟩
def TRK.STALL_ANGLE_ANGLE : Fld := ⟨0x164, 25, 0, .ro, 0x0⟩
def TRK.fields : List Fld :=
  [TRK.CFG_CAMFEAT, TRK.CFG_CONFIRM, TRK.CFG_CYCLE720, TRK.CFG_CAM_EN, TRK.CFG_CAM, TRK.CFG_CRANK, TRK.CFG_TEETH, TRK.ACQ_CAM_WIN, TRK.ACQ_PHASE_TRIES, TRK.ACQ_FEAT_TOL, TRK.ACQ_SEQLEN, TRK.ACQ_N_STEADY, TRK.PLAUS_HI, TRK.PLAUS_LO, TRK.SYNC_POS, TRK.SYNC_SPUR_RUN, TRK.SYNC_CAND, TRK.SYNC_EPOCH_OPEN, TRK.SYNC_SYNCED, TRK.SYNC_STATE, TRK.EPOCH_CYC_EPOCH, TRK.EPOCH_CYC_CYCLE, TRK.SPUR_CNT_ACQ_RESTART, TRK.SPUR_CNT_SPUR, TRK.SYNC_ANGLE_ANGLE, TRK.SYNC_PT_PT, TRK.ANGLE_VALID, TRK.ANGLE_DIR, TRK.ANGLE_HORIZON, TRK.ANGLE, TRK.ANGLE_FRAC_FRAC, TRK.INC_LO_FRAC, TRK.INC_HI_INT, TRK.SNAP_PT_PT, TRK.HORIZON_ANGLE, TRK.TPRED_TICKS, TRK.SPEED_RPM, TRK.SHADOW_CFG_CLR, TRK.SHADOW_CFG_LEARN, TRK.SHADOW_CFG_N] ++
  [TRK.SHADOW_STAT_CLAMP_CNT, TRK.SHADOW_STAT_DIRTY_CNT, TRK.SHADOW_STAT_BANK, TRK.SHADOW_STAT_ROWS, TRK.SHADOW_IDX_C, TRK.SHADOW_Q_Q, TRK.SIG_CFG_RESET, TRK.SIG_CFG_STAB, TRK.SIG_CFG_AVG, TRK.SIG_CFG_LEARN, TRK.SIG_STAT_UPDATES, TRK.SIG_STAT_REJECTS, TRK.SIG_STAT_REVS, TRK.SIG_IDX_I, TRK.SIG_VAL_S, TRK.TRIM_RB_SIG_TRIM, TRK.TRIM_RB_SH_TRIM, TRK.IFAULT_VOTED_OUT, TRK.IFAULT_WHEEL, TRK.IFAULT_SHADOW_ECC, TRK.IFAULT_PTAB_ECC, TRK.IFAULT_PT_MISMATCH, TRK.IFAULT_ACC_CHECK, TRK.IFAULT_PT_CHECK, TRK.IFAULT_MASK_MASK, TRK.XCHK_TOL_HARD, TRK.XCHK_TOL_SOFT, TRK.XCHK_CFG_PEER_ID, TRK.XCHK_CFG_PEER_EN, TRK.XCHK_CFG_EN, TRK.XCHK_STAT_SOFT_CNT, TRK.XCHK_STAT_HANDOVERS, TRK.XCHK_STAT_VOTE, TRK.XCHK_STAT_PEER_VALID, TRK.XCHK_STAT_SUPPRESS, TRK.XCHK_STAT_HARD_ACT, TRK.XCHK_STAT_SOFT_ACT, TRK.XCHK_STAT_CONTROL, TRK.XCHK_DIFF_D, TRK.XCHK_MAX_MAX] ++
  [TRK.XCHK_CMD_HANDBACK, TRK.XCHK_CMD_REJOIN, TRK.CTRL_REVERSE_ARM, TRK.MOTION_CFG_SYNC_TOL, TRK.MOTION_CFG_GAP_LIM, TRK.MOTION_CFG_RESUME_CRIT, TRK.STALL_CFG_TIMEOUT, TRK.STALL_CFG_RPM, TRK.HOLD_CFG_HOLD, TRK.MOTION_STAT_STALLED, TRK.MOTION_STAT_HOLDING, TRK.MOTION_STAT_VERIFY, TRK.MOTION_STAT_LOSS, TRK.JUMP_LAST_STEP, TRK.JUMP_MAX_MAX, TRK.MOTION_CNT_STALLS, TRK.MOTION_CNT_RESUMES, TRK.MOTION_CNT_REVERSALS, TRK.MOTION_CNT_CAM_MISS, TRK.LOSS_ANGLE_VALID, TRK.LOSS_ANGLE_ANGLE, TRK.LOSS_PT_PT, TRK.STALL_ANGLE_ANGLE]
def TRK.base (i : Nat) : Nat := 0x402000 + i * 0x1000

/-! ### TRKPH (02_wheels_and_sync.md) -/
def TRKPH.PH_CFG_K : Fld := ⟨0x0, 3, 1, .rws, 0x3⟩
def TRKPH.PH_CFG_EN : Fld := ⟨0x0, 0, 0, .rws, 0x0⟩
def TRKPH.PH_LIM_HI : Fld := ⟨0x4, 31, 16, .rws, 0x7FFF⟩
def TRKPH.PH_LIM_LO : Fld := ⟨0x4, 15, 0, .rws, 0x8000⟩
def TRKPH.PH_RAW_RAW : Fld := ⟨0x8, 31, 0, .ro, 0x0⟩
def TRKPH.PH_FILT_FILT : Fld := ⟨0xC, 31, 0, .ro, 0x0⟩
def TRKPH.fields : List Fld := [TRKPH.PH_CFG_K, TRKPH.PH_CFG_EN, TRKPH.PH_LIM_HI, TRKPH.PH_LIM_LO, TRKPH.PH_RAW_RAW, TRKPH.PH_FILT_FILT]
def TRKPH.base (i j : Nat) : Nat := 0x402080 + i * 0x1000 + j * 0x10

/-! ### PLAN (06_plan_image.md) -/
def PLAN.CMD_DISARM : Fld := ⟨0x40, 2, 2, .w1s, 0x0⟩
def PLAN.CMD_ARM : Fld := ⟨0x40, 1, 1, .w1s, 0x0⟩
def PLAN.CMD_LOAD : Fld := ⟨0x40, 0, 0, .w1s, 0x0⟩
def PLAN.LOAD_ADDR_ADDR : Fld := ⟨0x44, 31, 0, .rw, 0x0⟩
def PLAN.LOAD_SIZE_SIZE : Fld := ⟨0x48, 31, 0, .rw, 0x0⟩
def PLAN.COPY_BASE_ADDR : Fld := ⟨0x4C, 31, 0, .rw, 0x90000⟩
def PLAN.COPY_SIZE_SIZE : Fld := ⟨0x50, 31, 0, .ro, 0x0⟩
def PLAN.LOAD_STAT_BUSY : Fld := ⟨0x54, 31, 31, .ro, 0x0⟩
def PLAN.LOAD_STAT_SECT : Fld := ⟨0x54, 27, 24, .ro, 0x0⟩
def PLAN.LOAD_STAT_RESULT : Fld := ⟨0x54, 23, 16, .ro, 0x0⟩
def PLAN.LOAD_STAT_ITEM : Fld := ⟨0x54, 15, 0, .ro, 0x0⟩
def PLAN.PLAN_ID_ID : Fld := ⟨0x58, 31, 0, .ro, 0x0⟩
def PLAN.INFO_VALID : Fld := ⟨0x5C, 31, 31, .ro, 0x0⟩
def PLAN.INFO_ASTERN : Fld := ⟨0x5C, 30, 30, .ro, 0x0⟩
def PLAN.INFO_CYCLE720 : Fld := ⟨0x5C, 29, 29, .ro, 0x0⟩
def PLAN.INFO_TAINTED : Fld := ⟨0x5C, 28, 28, .ro, 0x0⟩
def PLAN.INFO_NACT : Fld := ⟨0x5C, 14, 0, .ro, 0x0⟩
def PLAN.LOOKBACK_AU : Fld := ⟨0x60, 15, 0, .rws, 0x400⟩
def PLAN.GOV_LATCH : Fld := ⟨0x64, 31, 31, .ro, 0x0⟩
def PLAN.GOV_CLEAR : Fld := ⟨0x64, 30, 30, .w1s, 0x0⟩
def PLAN.GOV_FIRST : Fld := ⟨0x64, 26, 24, .ro, 0x0⟩
def PLAN.GOV_SEEN : Fld := ⟨0x64, 5, 0, .ro, 0x0⟩
def PLAN.GOV_CNT0_SPEED : Fld := ⟨0x68, 31, 16, .ro, 0x0⟩
def PLAN.GOV_CNT0_ACCEL : Fld := ⟨0x68, 15, 0, .ro, 0x0⟩
def PLAN.GOV_CNT1_RES : Fld := ⟨0x6C, 31, 16, .ro, 0x0⟩
def PLAN.GOV_CNT1_DEADLINE : Fld := ⟨0x6C, 15, 0, .ro, 0x0⟩
def PLAN.CONTEND_SWEPT : Fld := ⟨0x70, 31, 16, .ro, 0x0⟩
def PLAN.CONTEND_PATCH_REF : Fld := ⟨0x70, 15, 0, .ro, 0x0⟩
def PLAN.SHADOW_CNT_COUNT : Fld := ⟨0x74, 31, 0, .rw, 0x0⟩
def PLAN.LATE_CNT_COUNT : Fld := ⟨0x78, 31, 0, .rw, 0x0⟩
def PLAN.LATE_MAX_L : Fld := ⟨0x7C, 13, 0, .rw, 0x0⟩
def PLAN.LATE_POP_VALID : Fld := ⟨0x80, 31, 31, .ro, 0x0⟩
def PLAN.LATE_POP_L : Fld := ⟨0x80, 29, 16, .ro, 0x0⟩
def PLAN.LATE_POP_INDEX : Fld := ⟨0x80, 13, 0, .ro, 0x0⟩
def PLAN.LATE_LEVEL_LOST : Fld := ⟨0x84, 31, 16, .ro, 0x0⟩
def PLAN.LATE_LEVEL_LEVEL : Fld := ⟨0x84, 6, 0, .ro, 0x0⟩
def PLAN.SCRUB_PASSES : Fld := ⟨0x88, 31, 16, .ro, 0x0⟩
def PLAN.SCRUB_SECT : Fld := ⟨0x88, 15, 12, .ro, 0x0⟩
def PLAN.SCRUB_FAIL : Fld := ⟨0x88, 0, 0, .ro, 0x0⟩
def PLAN.ACT_IDX_INDEX : Fld := ⟨0x8C, 13, 0, .rw, 0x0⟩
def PLAN.ACT_TRIM_PATCH : Fld := ⟨0x90, 31, 16, .ro, 0x0⟩
def PLAN.ACT_TRIM_TOTAL : Fld := ⟨0x90, 15, 0, .ro, 0x0⟩
def PLAN.SLOT_IDX_INDEX : Fld := ⟨0x94, 11, 0, .rw, 0x0⟩
def PLAN.SLOT_CUT_USED : Fld := ⟨0x98, 31, 31, .ro, 0x0⟩
def PLAN.SLOT_CUT_CUTOFF : Fld := ⟨0x98, 25, 0, .ro, 0x0⟩
def PLAN.GOV_CNT2_SCRUB : Fld := ⟨0x9C, 31, 16, .ro, 0x0⟩
def PLAN.GOV_CNT2_XCHK : Fld := ⟨0x9C, 15, 0, .ro, 0x0⟩
def PLAN.fields : List Fld :=
  [PLAN.CMD_DISARM, PLAN.CMD_ARM, PLAN.CMD_LOAD, PLAN.LOAD_ADDR_ADDR, PLAN.LOAD_SIZE_SIZE, PLAN.COPY_BASE_ADDR, PLAN.COPY_SIZE_SIZE, PLAN.LOAD_STAT_BUSY, PLAN.LOAD_STAT_SECT, PLAN.LOAD_STAT_RESULT, PLAN.LOAD_STAT_ITEM, PLAN.PLAN_ID_ID, PLAN.INFO_VALID, PLAN.INFO_ASTERN, PLAN.INFO_CYCLE720, PLAN.INFO_TAINTED, PLAN.INFO_NACT, PLAN.LOOKBACK_AU, PLAN.GOV_LATCH, PLAN.GOV_CLEAR, PLAN.GOV_FIRST, PLAN.GOV_SEEN, PLAN.GOV_CNT0_SPEED, PLAN.GOV_CNT0_ACCEL, PLAN.GOV_CNT1_RES, PLAN.GOV_CNT1_DEADLINE, PLAN.CONTEND_SWEPT, PLAN.CONTEND_PATCH_REF, PLAN.SHADOW_CNT_COUNT, PLAN.LATE_CNT_COUNT, PLAN.LATE_MAX_L, PLAN.LATE_POP_VALID, PLAN.LATE_POP_L, PLAN.LATE_POP_INDEX, PLAN.LATE_LEVEL_LOST, PLAN.LATE_LEVEL_LEVEL, PLAN.SCRUB_PASSES, PLAN.SCRUB_SECT, PLAN.SCRUB_FAIL, PLAN.ACT_IDX_INDEX] ++
  [PLAN.ACT_TRIM_PATCH, PLAN.ACT_TRIM_TOTAL, PLAN.SLOT_IDX_INDEX, PLAN.SLOT_CUT_USED, PLAN.SLOT_CUT_CUTOFF, PLAN.GOV_CNT2_SCRUB, PLAN.GOV_CNT2_XCHK]
def PLAN.base : Nat := 0x405000

/-! ### HDG (07_orders_and_journal.md) -/
def HDG.SUB0_SEQ : Fld := ⟨0x40, 31, 0, .wo, 0x0⟩
def HDG.SUB1_EPOCH : Fld := ⟨0x44, 31, 16, .wo, 0x0⟩
def HDG.SUB1_CYCLE : Fld := ⟨0x44, 15, 0, .wo, 0x0⟩
def HDG.SUB2_VALUE : Fld := ⟨0x48, 31, 0, .wo, 0x0⟩
def HDG.SUB3_FLAGS : Fld := ⟨0x4C, 31, 24, .wo, 0x0⟩
def HDG.SUB3_KIND : Fld := ⟨0x4C, 23, 16, .wo, 0x0⟩
def HDG.SUB3_SLOT : Fld := ⟨0x4C, 15, 0, .wo, 0x0⟩
def HDG.SUB_RES_RESULT : Fld := ⟨0x50, 31, 30, .ro, 0x0⟩
def HDG.SUB_RES_REASON : Fld := ⟨0x50, 27, 24, .ro, 0x0⟩
def HDG.SUB_RES_OCC : Fld := ⟨0x50, 10, 0, .ro, 0x0⟩
def HDG.SUB_SEQ_SEQ : Fld := ⟨0x54, 31, 0, .ro, 0x0⟩
def HDG.SEQ_LAST_SEQ : Fld := ⟨0x58, 31, 0, .ro, 0x0⟩
def HDG.OCC_PENDING : Fld := ⟨0x5C, 26, 16, .ro, 0x0⟩
def HDG.OCC : Fld := ⟨0x5C, 10, 0, .ro, 0x0⟩
def HDG.HEAD_SEQ_SEQ : Fld := ⟨0x60, 31, 0, .ro, 0x1⟩
def HDG.HWM_LEVEL : Fld := ⟨0x64, 10, 0, .rw, 0x300⟩
def HDG.REF_CNT0_CRC : Fld := ⟨0x68, 31, 24, .ro, 0x0⟩
def HDG.REF_CNT0_FORMAT : Fld := ⟨0x68, 23, 16, .ro, 0x0⟩
def HDG.REF_CNT0_GAP : Fld := ⟨0x68, 15, 8, .ro, 0x0⟩
def HDG.REF_CNT0_QFULL : Fld := ⟨0x68, 7, 0, .ro, 0x0⟩
def HDG.REF_CNT1_JFULL : Fld := ⟨0x6C, 31, 24, .ro, 0x0⟩
def HDG.REF_CNT1_EPOCH : Fld := ⟨0x6C, 23, 16, .ro, 0x0⟩
def HDG.REF_CNT1_CYCLE : Fld := ⟨0x6C, 15, 8, .ro, 0x0⟩
def HDG.REF_CNT1_SLOT : Fld := ⟨0x6C, 7, 0, .ro, 0x0⟩
def HDG.REF_CNT2_DUP : Fld := ⟨0x70, 31, 16, .ro, 0x0⟩
def HDG.REF_CNT2_VALUE : Fld := ⟨0x70, 7, 0, .ro, 0x0⟩
def HDG.QSEQ_SEQ : Fld := ⟨0x74, 31, 0, .rw, 0x0⟩
def HDG.QSTATE_VALID : Fld := ⟨0x78, 31, 31, .ro, 0x0⟩
def HDG.QSTATE_PROGRESS : Fld := ⟨0x78, 30, 28, .ro, 0x0⟩
def HDG.QSTATE_STATE : Fld := ⟨0x78, 27, 24, .ro, 0x0⟩
def HDG.QSTATE_INDEX : Fld := ⟨0x78, 13, 0, .ro, 0x0⟩
def HDG.fields : List Fld := [HDG.SUB0_SEQ, HDG.SUB1_EPOCH, HDG.SUB1_CYCLE, HDG.SUB2_VALUE, HDG.SUB3_FLAGS, HDG.SUB3_KIND, HDG.SUB3_SLOT, HDG.SUB_RES_RESULT, HDG.SUB_RES_REASON, HDG.SUB_RES_OCC, HDG.SUB_SEQ_SEQ, HDG.SEQ_LAST_SEQ, HDG.OCC_PENDING, HDG.OCC, HDG.HEAD_SEQ_SEQ, HDG.HWM_LEVEL, HDG.REF_CNT0_CRC, HDG.REF_CNT0_FORMAT, HDG.REF_CNT0_GAP, HDG.REF_CNT0_QFULL, HDG.REF_CNT1_JFULL, HDG.REF_CNT1_EPOCH, HDG.REF_CNT1_CYCLE, HDG.REF_CNT1_SLOT, HDG.REF_CNT2_DUP, HDG.REF_CNT2_VALUE, HDG.QSEQ_SEQ, HDG.QSTATE_VALID, HDG.QSTATE_PROGRESS, HDG.QSTATE_STATE, HDG.QSTATE_INDEX]
def HDG.base : Nat := 0x406000

/-! ### JRN (07_orders_and_journal.md) -/
def JRN.WR_COUNT : Fld := ⟨0x40, 31, 0, .ro, 0x0⟩
def JRN.RD_COUNT : Fld := ⟨0x44, 31, 0, .rw, 0x0⟩
def JRN.FREE : Fld := ⟨0x48, 12, 0, .ro, 0x1000⟩
def JRN.HWM_LEVEL : Fld := ⟨0x4C, 12, 0, .rw, 0xC00⟩
def JRN.LOST_COUNT : Fld := ⟨0x50, 31, 0, .ro, 0x0⟩
def JRN.STAT_POISON : Fld := ⟨0x54, 1, 1, .w1c, 0x0⟩
def JRN.STAT_LOSS_PEND : Fld := ⟨0x54, 0, 0, .ro, 0x0⟩
def JRN.fields : List Fld := [JRN.WR_COUNT, JRN.RD_COUNT, JRN.FREE, JRN.HWM_LEVEL, JRN.LOST_COUNT, JRN.STAT_POISON, JRN.STAT_LOSS_PEND]
def JRN.base : Nat := 0x407000

/-! ### BANK (08_actuator_banks.md) -/
def BANK.CFG_LOCK_ON_OC : Fld := ⟨0x40, 3, 3, .rws, 0x1⟩
def BANK.CFG_LOCK_ON_SHORT : Fld := ⟨0x40, 2, 2, .rws, 0x1⟩
def BANK.CFG_CLAMP_EN : Fld := ⟨0x40, 1, 1, .rws, 0x1⟩
def BANK.CFG_SENSE_GAIN : Fld := ⟨0x40, 0, 0, .rws, 0x1⟩
def BANK.OPEN_CFG_LVL : Fld := ⟨0x44, 27, 16, .rws, 0x20⟩
def BANK.OPEN_CFG_T : Fld := ⟨0x44, 9, 0, .rws, 0x7D⟩
def BANK.SHORT_CFG_LVL : Fld := ⟨0x48, 27, 16, .rws, 0x800⟩
def BANK.SHORT_CFG_T : Fld := ⟨0x48, 7, 0, .rws, 0x0⟩
def BANK.OC_CFG_LVL : Fld := ⟨0x4C, 11, 0, .rws, 0xF80⟩
def BANK.DECAY_CFG_ZERO : Fld := ⟨0x50, 27, 16, .rws, 0x10⟩
def BANK.DECAY_CFG_TMO : Fld := ⟨0x50, 15, 0, .rws, 0x64⟩
def BANK.BOOST_CFG_UV : Fld := ⟨0x54, 9, 0, .rws, 0x0⟩
def BANK.STAT_CH_LOCK : Fld := ⟨0x58, 31, 28, .ro, 0x0⟩
def BANK.STAT_BANK_LOCK : Fld := ⟨0x58, 27, 27, .ro, 0x0⟩
def BANK.STAT_DECAYING : Fld := ⟨0x58, 26, 26, .ro, 0x0⟩
def BANK.STAT_CLAMP : Fld := ⟨0x58, 25, 25, .ro, 0x0⟩
def BANK.STAT_QDEPTH : Fld := ⟨0x58, 23, 22, .ro, 0x0⟩
def BANK.STAT_GRANTED : Fld := ⟨0x58, 21, 21, .ro, 0x0⟩
def BANK.STAT_GRANT_CH : Fld := ⟨0x58, 17, 16, .ro, 0x0⟩
def BANK.STAT_SW : Fld := ⟨0x58, 5, 0, .ro, 0x0⟩
def BANK.FAULT_SHORT : Fld := ⟨0x5C, 15, 12, .w1c, 0x0⟩
def BANK.FAULT_OPEN : Fld := ⟨0x5C, 11, 8, .w1c, 0x0⟩
def BANK.FAULT_BOOST_UV : Fld := ⟨0x5C, 6, 6, .w1c, 0x0⟩
def BANK.FAULT_BOOT_UV_H : Fld := ⟨0x5C, 5, 5, .w1c, 0x0⟩
def BANK.FAULT_BOOT_UV_B : Fld := ⟨0x5C, 4, 4, .w1c, 0x0⟩
def BANK.FAULT_DECAY_STUCK : Fld := ⟨0x5C, 3, 3, .w1c, 0x0⟩
def BANK.FAULT_CLAMP_MISS : Fld := ⟨0x5C, 2, 2, .w1c, 0x0⟩
def BANK.FAULT_OC : Fld := ⟨0x5C, 1, 1, .w1c, 0x0⟩
def BANK.FAULT_HS_BOTH : Fld := ⟨0x5C, 0, 0, .w1c, 0x0⟩
def BANK.SENSE_BOOSTV : Fld := ⟨0x60, 25, 16, .ro, 0x0⟩
def BANK.SENSE_I : Fld := ⟨0x60, 11, 0, .ro, 0x0⟩
def BANK.PEAK_I : Fld := ⟨0x64, 11, 0, .rw, 0x0⟩
def BANK.SLUICE_CNT_DEFERS : Fld := ⟨0x68, 31, 16, .ro, 0x0⟩
def BANK.SLUICE_CNT_DROPS : Fld := ⟨0x68, 15, 0, .ro, 0x0⟩
def BANK.DEFER_MAX_TICKS : Fld := ⟨0x6C, 23, 0, .rw, 0x0⟩
def BANK.UNLOCK_BANK : Fld := ⟨0x70, 4, 4, .w1s, 0x0⟩
def BANK.UNLOCK_CH : Fld := ⟨0x70, 3, 0, .w1s, 0x0⟩
def BANK.GRANTS_COUNT : Fld := ⟨0x74, 31, 0, .ro, 0x0⟩
def BANK.fields : List Fld := [BANK.CFG_LOCK_ON_OC, BANK.CFG_LOCK_ON_SHORT, BANK.CFG_CLAMP_EN, BANK.CFG_SENSE_GAIN, BANK.OPEN_CFG_LVL, BANK.OPEN_CFG_T, BANK.SHORT_CFG_LVL, BANK.SHORT_CFG_T, BANK.OC_CFG_LVL, BANK.DECAY_CFG_ZERO, BANK.DECAY_CFG_TMO, BANK.BOOST_CFG_UV, BANK.STAT_CH_LOCK, BANK.STAT_BANK_LOCK, BANK.STAT_DECAYING, BANK.STAT_CLAMP, BANK.STAT_QDEPTH, BANK.STAT_GRANTED, BANK.STAT_GRANT_CH, BANK.STAT_SW, BANK.FAULT_SHORT, BANK.FAULT_OPEN, BANK.FAULT_BOOST_UV, BANK.FAULT_BOOT_UV_H, BANK.FAULT_BOOT_UV_B, BANK.FAULT_DECAY_STUCK, BANK.FAULT_CLAMP_MISS, BANK.FAULT_OC, BANK.FAULT_HS_BOTH, BANK.SENSE_BOOSTV, BANK.SENSE_I, BANK.PEAK_I, BANK.SLUICE_CNT_DEFERS, BANK.SLUICE_CNT_DROPS, BANK.DEFER_MAX_TICKS, BANK.UNLOCK_BANK, BANK.UNLOCK_CH, BANK.GRANTS_COUNT]
def BANK.base (i : Nat) : Nat := 0x410000 + i * 0x1000

/-! ### LEV (08_actuator_banks.md) -/
def LEV.CFG_WINDOW : Fld := ⟨0x40, 9, 0, .rws, 0xFA⟩
def LEV.CNT_DROPS : Fld := ⟨0x44, 31, 16, .ro, 0x0⟩
def LEV.CNT_TRUNCS : Fld := ⟨0x44, 15, 0, .ro, 0x0⟩
def LEV.fields : List Fld := [LEV.CFG_WINDOW, LEV.CNT_DROPS, LEV.CNT_TRUNCS]
def LEV.base : Nat := 0x421000

/-! ### LEVB (08_actuator_banks.md) -/
def LEVB.LIM_CH : Fld := ⟨0x0, 25, 16, .rws, 0x258⟩
def LEVB.LIM_BANK : Fld := ⟨0x0, 9, 0, .rws, 0x320⟩
def LEVB.BANK_USED_US : Fld := ⟨0x4, 19, 0, .ro, 0x0⟩
def LEVB.CH_USED0_US : Fld := ⟨0x8, 19, 0, .ro, 0x0⟩
def LEVB.CH_USED1_US : Fld := ⟨0xC, 19, 0, .ro, 0x0⟩
def LEVB.CH_USED2_US : Fld := ⟨0x10, 19, 0, .ro, 0x0⟩
def LEVB.CH_USED3_US : Fld := ⟨0x14, 19, 0, .ro, 0x0⟩
def LEVB.BCNT_DROPS : Fld := ⟨0x18, 31, 16, .ro, 0x0⟩
def LEVB.BCNT_TRUNCS : Fld := ⟨0x18, 15, 0, .ro, 0x0⟩
def LEVB.fields : List Fld := [LEVB.LIM_CH, LEVB.LIM_BANK, LEVB.BANK_USED_US, LEVB.CH_USED0_US, LEVB.CH_USED1_US, LEVB.CH_USED2_US, LEVB.CH_USED3_US, LEVB.BCNT_DROPS, LEVB.BCNT_TRUNCS]
def LEVB.base (i : Nat) : Nat := 0x421100 + i * 0x20

/-! ### SHP (09_current_shaper.md) -/
def SHP.CFG_TAIL_MAX : Fld := ⟨0x40, 15, 0, .rws, 0x1F4⟩
def SHP.STORE_CORR : Fld := ⟨0x44, 31, 16, .ro, 0x0⟩
def SHP.STORE_UADDR : Fld := ⟨0x44, 11, 0, .ro, 0x0⟩
def SHP.TRIM_STAT_SKIPS : Fld := ⟨0x48, 31, 16, .ro, 0x0⟩
def SHP.TRIM_STAT_SWAPS : Fld := ⟨0x48, 15, 0, .ro, 0x0⟩
def SHP.TRIM_REV_TICKS : Fld := ⟨0x4C, 31, 0, .ro, 0x0⟩
def SHP.fields : List Fld := [SHP.CFG_TAIL_MAX, SHP.STORE_CORR, SHP.STORE_UADDR, SHP.TRIM_STAT_SKIPS, SHP.TRIM_STAT_SWAPS, SHP.TRIM_REV_TICKS]
def SHP.base : Nat := 0x420000

/-! ### SHPB (09_current_shaper.md) -/
def SHPB.WEIR_A_L1 : Fld := ⟨0x0, 27, 16, .rws, 0x0⟩
def SHPB.WEIR_A_L0 : Fld := ⟨0x0, 11, 0, .rws, 0x0⟩
def SHPB.WEIR_B_L3 : Fld := ⟨0x4, 27, 16, .rws, 0x0⟩
def SHPB.WEIR_B_L2 : Fld := ⟨0x4, 11, 0, .rws, 0x0⟩
def SHPB.WEIR_C_L5 : Fld := ⟨0x8, 27, 16, .rws, 0x0⟩
def SHPB.WEIR_C_L4 : Fld := ⟨0x8, 11, 0, .rws, 0x0⟩
def SHPB.WEIR_D_L7 : Fld := ⟨0xC, 27, 16, .rws, 0x0⟩
def SHPB.WEIR_D_L6 : Fld := ⟨0xC, 11, 0, .rws, 0x0⟩
def SHPB.DIP_CFG_RISE : Fld := ⟨0x10, 23, 16, .rws, 0x8⟩
def SHPB.DIP_CFG_TH : Fld := ⟨0x10, 15, 8, .rws, 0x0⟩
def SHPB.DIP_CFG_SPAN : Fld := ⟨0x10, 3, 0, .rws, 0x4⟩
def SHPB.RUN_BUSY : Fld := ⟨0x14, 31, 31, .ro, 0x0⟩
def SHPB.RUN_E : Fld := ⟨0x14, 27, 27, .ro, 0x0⟩
def SHPB.RUN_D : Fld := ⟨0x14, 26, 26, .ro, 0x0⟩
def SHPB.RUN_T : Fld := ⟨0x14, 25, 25, .ro, 0x0⟩
def SHPB.RUN_DIPARM : Fld := ⟨0x14, 24, 24, .ro, 0x0⟩
def SHPB.RUN_CH : Fld := ⟨0x14, 23, 22, .ro, 0x0⟩
def SHPB.RUN_SLOT : Fld := ⟨0x14, 19, 16, .ro, 0x0⟩
def SHPB.RUN_PC : Fld := ⟨0x14, 11, 0, .ro, 0x0⟩
def SHPB.FLAGS_NODIP : Fld := ⟨0x18, 15, 12, .w1c, 0x0⟩
def SHPB.FLAGS_UNCORR : Fld := ⟨0x18, 3, 3, .w1c, 0x0⟩
def SHPB.FLAGS_TAILOVR : Fld := ⟨0x18, 2, 2, .w1c, 0x0⟩
def SHPB.FLAGS_RESTART : Fld := ⟨0x18, 1, 1, .w1c, 0x0⟩
def SHPB.FLAGS_MARKEVT : Fld := ⟨0x18, 0, 0, .w1c, 0x0⟩
def SHPB.CNT_RESTARTS : Fld := ⟨0x1C, 31, 16, .ro, 0x0⟩
def SHPB.CNT_TAILOVR : Fld := ⟨0x1C, 15, 8, .ro, 0x0⟩
def SHPB.MARK0_PT : Fld := ⟨0x20, 31, 0, .ro, 0x0⟩
def SHPB.MARK1_PT : Fld := ⟨0x24, 31, 0, .ro, 0x0⟩
def SHPB.MARK2_PT : Fld := ⟨0x28, 31, 0, .ro, 0x0⟩
def SHPB.MARK3_PT : Fld := ⟨0x2C, 31, 0, .ro, 0x0⟩
def SHPB.fields : List Fld := [SHPB.WEIR_A_L1, SHPB.WEIR_A_L0, SHPB.WEIR_B_L3, SHPB.WEIR_B_L2, SHPB.WEIR_C_L5, SHPB.WEIR_C_L4, SHPB.WEIR_D_L7, SHPB.WEIR_D_L6, SHPB.DIP_CFG_RISE, SHPB.DIP_CFG_TH, SHPB.DIP_CFG_SPAN, SHPB.RUN_BUSY, SHPB.RUN_E, SHPB.RUN_D, SHPB.RUN_T, SHPB.RUN_DIPARM, SHPB.RUN_CH, SHPB.RUN_SLOT, SHPB.RUN_PC, SHPB.FLAGS_NODIP, SHPB.FLAGS_UNCORR, SHPB.FLAGS_TAILOVR, SHPB.FLAGS_RESTART, SHPB.FLAGS_MARKEVT, SHPB.CNT_RESTARTS, SHPB.CNT_TAILOVR, SHPB.MARK0_PT, SHPB.MARK1_PT, SHPB.MARK2_PT, SHPB.MARK3_PT]
def SHPB.base (i : Nat) : Nat := 0x420100 + i * 0x80

/-! ### SHPC (09_current_shaper.md) -/
def SHPC.DCFG_EN : Fld := ⟨0x0, 31, 31, .rws, 0x0⟩
def SHPC.DCFG_K : Fld := ⟨0x0, 26, 24, .rws, 0x3⟩
def SHPC.DCFG_NOM : Fld := ⟨0x0, 19, 0, .rws, 0x0⟩
def SHPC.DFILT_VALID : Fld := ⟨0x4, 31, 31, .ro, 0x0⟩
def SHPC.DFILT_FILT : Fld := ⟨0x4, 27, 0, .ro, 0x0⟩
def SHPC.DLAST_DIPS : Fld := ⟨0x8, 27, 20, .ro, 0x0⟩
def SHPC.DLAST_D : Fld := ⟨0x8, 19, 0, .ro, 0x0⟩
def SHPC.DTRIM_NODIPS : Fld := ⟨0xC, 31, 24, .ro, 0x0⟩
def SHPC.DTRIM_TRIM : Fld := ⟨0xC, 15, 0, .ro, 0x0⟩
def SHPC.fields : List Fld := [SHPC.DCFG_EN, SHPC.DCFG_K, SHPC.DCFG_NOM, SHPC.DFILT_VALID, SHPC.DFILT_FILT, SHPC.DLAST_DIPS, SHPC.DLAST_D, SHPC.DTRIM_NODIPS, SHPC.DTRIM_TRIM]
def SHPC.base (i j : Nat) : Nat := 0x420140 + i * 0x80 + j * 0x10

/-! ### CONV (10_sensing_converters.md) -/
def CONV.CFG_PARK : Fld := ⟨0x40, 8, 4, .rws, 0x0⟩
def CONV.CFG_PATH : Fld := ⟨0x40, 0, 0, .rws, 0x0⟩
def CONV.STAT_BUSY : Fld := ⟨0x44, 31, 31, .ro, 0x0⟩
def CONV.STAT_PLAN_RUN : Fld := ⟨0x44, 30, 30, .ro, 0x0⟩
def CONV.STAT_PLAN_WAIT : Fld := ⟨0x44, 29, 29, .ro, 0x0⟩
def CONV.STAT_PATH_ACT : Fld := ⟨0x44, 28, 28, .ro, 0x0⟩
def CONV.STAT_COEF_SET : Fld := ⟨0x44, 27, 27, .ro, 0x0⟩
def CONV.STAT_POS : Fld := ⟨0x44, 24, 20, .ro, 0x0⟩
def CONV.STAT_PEND : Fld := ⟨0x44, 11, 8, .ro, 0x0⟩
def CONV.STAT_SUSP : Fld := ⟨0x44, 7, 4, .ro, 0x0⟩
def CONV.STAT_RUN : Fld := ⟨0x44, 3, 0, .ro, 0x0⟩
def CONV.CNT0_SCANS : Fld := ⟨0x48, 31, 16, .ro, 0x0⟩
def CONV.CNT0_MASK0 : Fld := ⟨0x48, 15, 0, .ro, 0x0⟩
def CONV.CNT1_OVERRUN : Fld := ⟨0x4C, 31, 16, .ro, 0x0⟩
def CONV.CNT1_LOST : Fld := ⟨0x4C, 15, 0, .ro, 0x0⟩
def CONV.CNT2_GATED : Fld := ⟨0x50, 31, 16, .ro, 0x0⟩
def CONV.CNT2_LATE : Fld := ⟨0x50, 15, 0, .ro, 0x0⟩
def CONV.LAG_TICKS : Fld := ⟨0x54, 23, 0, .rw, 0x0⟩
def CONV.LAST_RAW : Fld := ⟨0x58, 31, 16, .ro, 0x0⟩
def CONV.LAST_RESULT : Fld := ⟨0x58, 15, 0, .ro, 0x0⟩
def CONV.SOFT_TRIG : Fld := ⟨0x5C, 3, 0, .w1s, 0x0⟩
def CONV.CAL_CFG_TARGET : Fld := ⟨0x60, 31, 16, .rw, 0x0⟩
def CONV.CAL_CFG_POS : Fld := ⟨0x60, 12, 8, .rw, 0x0⟩
def CONV.CAL_CFG_AVG : Fld := ⟨0x60, 3, 0, .rw, 0x4⟩
def CONV.CAL_CMD_ABORT : Fld := ⟨0x64, 2, 2, .w1s, 0x0⟩
def CONV.CAL_CMD_FULL : Fld := ⟨0x64, 1, 1, .w1s, 0x0⟩
def CONV.CAL_CMD_ZERO : Fld := ⟨0x64, 0, 0, .w1s, 0x0⟩
def CONV.CAL_STAT_RESULT : Fld := ⟨0x68, 31, 28, .ro, 0x0⟩
def CONV.CAL_STAT_POS : Fld := ⟨0x68, 20, 16, .ro, 0x0⟩
def CONV.CAL_STAT_COUNT : Fld := ⟨0x68, 10, 0, .ro, 0x0⟩
def CONV.CAL_Z_VALID : Fld := ⟨0x6C, 16, 16, .ro, 0x0⟩
def CONV.CAL_Z_Z : Fld := ⟨0x6C, 15, 0, .ro, 0x0⟩
def CONV.CAL_F_F : Fld := ⟨0x70, 15, 0, .ro, 0x0⟩
def CONV.CVM_CFG_RDCLR : Fld := ⟨0x3F0, 0, 0, .rw, 0x1⟩
def CONV.fields : List Fld := [CONV.CFG_PARK, CONV.CFG_PATH, CONV.STAT_BUSY, CONV.STAT_PLAN_RUN, CONV.STAT_PLAN_WAIT, CONV.STAT_PATH_ACT, CONV.STAT_COEF_SET, CONV.STAT_POS, CONV.STAT_PEND, CONV.STAT_SUSP, CONV.STAT_RUN, CONV.CNT0_SCANS, CONV.CNT0_MASK0, CONV.CNT1_OVERRUN, CONV.CNT1_LOST, CONV.CNT2_GATED, CONV.CNT2_LATE, CONV.LAG_TICKS, CONV.LAST_RAW, CONV.LAST_RESULT, CONV.SOFT_TRIG, CONV.CAL_CFG_TARGET, CONV.CAL_CFG_POS, CONV.CAL_CFG_AVG, CONV.CAL_CMD_ABORT, CONV.CAL_CMD_FULL, CONV.CAL_CMD_ZERO, CONV.CAL_STAT_RESULT, CONV.CAL_STAT_POS, CONV.CAL_STAT_COUNT, CONV.CAL_Z_VALID, CONV.CAL_Z_Z, CONV.CAL_F_F, CONV.CVM_CFG_RDCLR]
def CONV.base (i : Nat) : Nat := 0x430000 + i * 0x1000

/-! ### COEF (10_sensing_converters.md) -/
def COEF.COEF_GAIN : Fld := ⟨0x0, 31, 16, .rws, 0x8000⟩
def COEF.COEF_OFFSET : Fld := ⟨0x0, 15, 0, .rws, 0x0⟩
def COEF.fields : List Fld := [COEF.COEF_GAIN, COEF.COEF_OFFSET]
def COEF.base (i j : Nat) : Nat := 0x430080 + i * 0x1000 + j * 0x4

/-! ### CSLOT (10_sensing_converters.md) -/
def CSLOT.TRG_CFG_SRC : Fld := ⟨0x0, 31, 24, .rws, 0x0⟩
def CSLOT.TRG_CFG_GATE : Fld := ⟨0x0, 23, 19, .rws, 0x0⟩
def CSLOT.TRG_CFG_GATE_INV : Fld := ⟨0x0, 18, 18, .rws, 0x0⟩
def CSLOT.TRG_CFG_STAMP_PT : Fld := ⟨0x0, 17, 17, .rws, 0x0⟩
def CSLOT.TRG_CFG_EVT : Fld := ⟨0x0, 16, 16, .rws, 0x0⟩
def CSLOT.TRG_CFG_DELAY : Fld := ⟨0x0, 15, 0, .rws, 0x0⟩
def CSLOT.TRG_MASK_MASK : Fld := ⟨0x4, 20, 0, .rws, 0x0⟩
def CSLOT.TRG_RING_RING : Fld := ⟨0x8, 2, 0, .rws, 0x0⟩
def CSLOT.fields : List Fld := [CSLOT.TRG_CFG_SRC, CSLOT.TRG_CFG_GATE, CSLOT.TRG_CFG_GATE_INV, CSLOT.TRG_CFG_STAMP_PT, CSLOT.TRG_CFG_EVT, CSLOT.TRG_CFG_DELAY, CSLOT.TRG_MASK_MASK, CSLOT.TRG_RING_RING]
def CSLOT.base (i j : Nat) : Nat := 0x430100 + i * 0x1000 + j * 0x10

/-! ### CRING (10_sensing_converters.md) -/
def CRING.BASE_ADDR : Fld := ⟨0x0, 31, 0, .rws, 0x0⟩
def CRING.CTRL_EN : Fld := ⟨0x4, 31, 31, .rws, 0x0⟩
def CRING.CTRL_HWM_HIT : Fld := ⟨0x4, 30, 30, .w1c, 0x0⟩
def CRING.CTRL_SIZE : Fld := ⟨0x4, 4, 0, .rws, 0x8⟩
def CRING.HWM_LEVEL : Fld := ⟨0x8, 15, 0, .rw, 0x0⟩
def CRING.WP_COUNT : Fld := ⟨0xC, 31, 0, .ro, 0x0⟩
def CRING.MARK_COUNT : Fld := ⟨0x10, 31, 0, .rw, 0x0⟩
def CRING.OVWR_COUNT : Fld := ⟨0x14, 31, 0, .ro, 0x0⟩
def CRING.fields : List Fld := [CRING.BASE_ADDR, CRING.CTRL_EN, CRING.CTRL_HWM_HIT, CRING.CTRL_SIZE, CRING.HWM_LEVEL, CRING.WP_COUNT, CRING.MARK_COUNT, CRING.OVWR_COUNT]
def CRING.base (i j : Nat) : Nat := 0x430200 + i * 0x1000 + j * 0x20

/-! ### CACC (10_sensing_converters.md) -/
def CACC.SUM_LO_SUM : Fld := ⟨0x0, 31, 0, .ro, 0x0⟩
def CACC.SUM_HI_COUNT : Fld := ⟨0x4, 31, 8, .ro, 0x0⟩
def CACC.SUM_HI_SUM : Fld := ⟨0x4, 7, 0, .ro, 0x0⟩
def CACC.MINMAX_MAX : Fld := ⟨0x8, 31, 16, .ro, 0x0⟩
def CACC.MINMAX_MIN : Fld := ⟨0x8, 15, 0, .ro, 0xFFFF⟩
def CACC.STAT_SAT : Fld := ⟨0xC, 0, 0, .ro, 0x0⟩
def CACC.fields : List Fld := [CACC.SUM_LO_SUM, CACC.SUM_HI_COUNT, CACC.SUM_HI_SUM, CACC.MINMAX_MAX, CACC.MINMAX_MIN, CACC.STAT_SAT]
def CACC.base (i j : Nat) : Nat := 0x430400 + i * 0x1000 + j * 0x10

/-! ### ADCX (10_sensing_converters.md) -/
def ADCX.DAC_SETTLING : Fld := ⟨0x40, 31, 31, .ro, 0x0⟩
def ADCX.DAC_CODE : Fld := ⟨0x40, 11, 0, .rw, 0x800⟩
def ADCX.DAC_CHK_EN : Fld := ⟨0x44, 31, 31, .rws, 0x0⟩
def ADCX.DAC_CHK_TOL : Fld := ⟨0x44, 15, 0, .rws, 0x100⟩
def ADCX.REF_CHK_EN : Fld := ⟨0x48, 31, 31, .rws, 0x0⟩
def ADCX.REF_CHK_TOL : Fld := ⟨0x48, 15, 0, .rws, 0x200⟩
def ADCX.SUP_CHK_EN : Fld := ⟨0x4C, 31, 31, .rws, 0x0⟩
def ADCX.SUP_CHK_TOL : Fld := ⟨0x4C, 15, 0, .rws, 0x800⟩
def ADCX.PAIR01_CFG_EN : Fld := ⟨0x50, 31, 31, .rws, 0x0⟩
def ADCX.PAIR23_CFG_EN : Fld := ⟨0x54, 31, 31, .rws, 0x0⟩
def ADCX.PAIR01_CFG_WIN : Fld := ⟨0x50, 23, 16, .rws, 0xA⟩
def ADCX.PAIR23_CFG_WIN : Fld := ⟨0x54, 23, 16, .rws, 0xA⟩
def ADCX.PAIR01_CFG_TOL : Fld := ⟨0x50, 15, 0, .rws, 0x100⟩
def ADCX.PAIR23_CFG_TOL : Fld := ⟨0x54, 15, 0, .rws, 0x100⟩
def ADCX.PAIR01_STAT_FAILS : Fld := ⟨0x58, 31, 24, .ro, 0x0⟩
def ADCX.PAIR23_STAT_FAILS : Fld := ⟨0x5C, 31, 24, .ro, 0x0⟩
def ADCX.PAIR01_STAT_STALE : Fld := ⟨0x58, 23, 16, .ro, 0x0⟩
def ADCX.PAIR23_STAT_STALE : Fld := ⟨0x5C, 23, 16, .ro, 0x0⟩
def ADCX.PAIR01_STAT_DIFF : Fld := ⟨0x58, 15, 0, .ro, 0x0⟩
def ADCX.PAIR23_STAT_DIFF : Fld := ⟨0x5C, 15, 0, .ro, 0x0⟩
def ADCX.DIAG_STAT_PAIR23 : Fld := ⟨0x60, 13, 13, .w1c, 0x0⟩
def ADCX.DIAG_STAT_PAIR01 : Fld := ⟨0x60, 12, 12, .w1c, 0x0⟩
def ADCX.DIAG_STAT_SUP_FAIL : Fld := ⟨0x60, 11, 8, .w1c, 0x0⟩
def ADCX.DIAG_STAT_REF_FAIL : Fld := ⟨0x60, 7, 4, .w1c, 0x0⟩
def ADCX.DIAG_STAT_DAC_FAIL : Fld := ⟨0x60, 3, 0, .w1c, 0x0⟩
def ADCX.NSCAN_N : Fld := ⟨0x64, 8, 0, .ro, 0x0⟩
def ADCX.SCAN_IDX_INDEX : Fld := ⟨0x68, 7, 0, .rw, 0x0⟩
def ADCX.SCAN_LO_DATA : Fld := ⟨0x6C, 31, 0, .ro, 0x0⟩
def ADCX.SCAN_HI_DATA : Fld := ⟨0x70, 31, 0, .ro, 0x0⟩
def ADCX.fields : List Fld := [ADCX.DAC_SETTLING, ADCX.DAC_CODE, ADCX.DAC_CHK_EN, ADCX.DAC_CHK_TOL, ADCX.REF_CHK_EN, ADCX.REF_CHK_TOL, ADCX.SUP_CHK_EN, ADCX.SUP_CHK_TOL, ADCX.PAIR01_CFG_EN, ADCX.PAIR23_CFG_EN, ADCX.PAIR01_CFG_WIN, ADCX.PAIR23_CFG_WIN, ADCX.PAIR01_CFG_TOL, ADCX.PAIR23_CFG_TOL, ADCX.PAIR01_STAT_FAILS, ADCX.PAIR23_STAT_FAILS, ADCX.PAIR01_STAT_STALE, ADCX.PAIR23_STAT_STALE, ADCX.PAIR01_STAT_DIFF, ADCX.PAIR23_STAT_DIFF, ADCX.DIAG_STAT_PAIR23, ADCX.DIAG_STAT_PAIR01, ADCX.DIAG_STAT_SUP_FAIL, ADCX.DIAG_STAT_REF_FAIL, ADCX.DIAG_STAT_DAC_FAIL, ADCX.NSCAN_N, ADCX.SCAN_IDX_INDEX, ADCX.SCAN_LO_DATA, ADCX.SCAN_HI_DATA]
def ADCX.base : Nat := 0x434000

/-! ### PWM (11_pwm_generators.md) -/
def PWM.GLOBAL_LOAD_ALL : Fld := ⟨0x40, 3, 0, .w1s, 0x0⟩
def PWM.RUN : Fld := ⟨0x44, 15, 0, .rw, 0x0⟩
def PWM.TRIP_POL_POL : Fld := ⟨0x48, 7, 0, .rws, 0x0⟩
def PWM.TRIP_STAT_ACTIVE : Fld := ⟨0x4C, 7, 0, .ro, 0x0⟩
def PWM.fields : List Fld := [PWM.GLOBAL_LOAD_ALL, PWM.RUN, PWM.TRIP_POL_POL, PWM.TRIP_STAT_ACTIVE]
def PWM.base : Nat := 0x440000

/-! ### PWN (11_pwm_generators.md) -/
def PWN.CFG_FOLLOW : Fld := ⟨0x0, 31, 31, .rws, 0x0⟩
def PWN.CFG_MASTER : Fld := ⟨0x0, 30, 27, .rws, 0x0⟩
def PWN.CFG_GROUP : Fld := ⟨0x0, 26, 25, .rws, 0x0⟩
def PWN.CFG_ADAPT_BA : Fld := ⟨0x0, 24, 24, .rws, 0x0⟩
def PWN.CFG_ADAPT_AB : Fld := ⟨0x0, 23, 23, .rws, 0x0⟩
def PWN.CFG_DITHER : Fld := ⟨0x0, 22, 22, .rws, 0x0⟩
def PWN.CFG_LOAD_EVT : Fld := ⟨0x0, 21, 21, .rws, 0x0⟩
def PWN.CFG_SAFE_B : Fld := ⟨0x0, 20, 20, .rws, 0x0⟩
def PWN.CFG_SAFE_A : Fld := ⟨0x0, 19, 19, .rws, 0x0⟩
def PWN.CFG_MODE : Fld := ⟨0x0, 16, 16, .rws, 0x0⟩
def PWN.CFG_PRE : Fld := ⟨0x0, 6, 0, .rws, 0x0⟩
def PWN.PERIOD_P : Fld := ⟨0x4, 15, 0, .rws, 0x0⟩
def PWN.DUTY_A_COUNT : Fld := ⟨0x8, 19, 4, .rws, 0x0⟩
def PWN.DUTY_A_FRAC : Fld := ⟨0x8, 3, 0, .rws, 0x0⟩
def PWN.DUTY_B_COUNT : Fld := ⟨0xC, 19, 4, .rws, 0x0⟩
def PWN.DUTY_B_FRAC : Fld := ⟨0xC, 3, 0, .rws, 0x0⟩
def PWN.PHASE : Fld := ⟨0x10, 15, 0, .rws, 0x0⟩
def PWN.COUNT_P : Fld := ⟨0x14, 31, 16, .ro, 0x0⟩
def PWN.COUNT : Fld := ⟨0x14, 15, 0, .ro, 0x0⟩
def PWN.ACT_DUTY_A_DUTY : Fld := ⟨0x18, 19, 0, .ro, 0x0⟩
def PWN.ACT_DUTY_B_DUTY : Fld := ⟨0x1C, 19, 0, .ro, 0x0⟩
def PWN.DT_CFG_MARGIN : Fld := ⟨0x20, 23, 16, .rws, 0x4⟩
def PWN.DT_CFG_DT_MAX : Fld := ⟨0x20, 15, 8, .rws, 0x28⟩
def PWN.DT_CFG_DT_MIN : Fld := ⟨0x20, 7, 0, .rws, 0x8⟩
def PWN.DT_STAT_BA : Fld := ⟨0x24, 31, 24, .ro, 0x8⟩
def PWN.DT_STAT_AB : Fld := ⟨0x24, 23, 16, .ro, 0x8⟩
def PWN.DT_STAT_M_BA : Fld := ⟨0x24, 15, 8, .ro, 0x0⟩
def PWN.DT_STAT_M_AB : Fld := ⟨0x24, 7, 0, .ro, 0x0⟩
def PWN.SW_CFG_SWTH : Fld := ⟨0x28, 7, 0, .rws, 0x80⟩
def PWN.BOOT_CFG_N : Fld := ⟨0x2C, 31, 24, .rws, 0x0⟩
def PWN.BOOT_CFG_M : Fld := ⟨0x2C, 23, 16, .rws, 0x1⟩
def PWN.BOOT_CFG_W : Fld := ⟨0x2C, 11, 0, .rws, 0x28⟩
def PWN.TRIG_CFG_DIV : Fld := ⟨0x30, 31, 24, .rws, 0x0⟩
def PWN.TRIG_CFG_AT : Fld := ⟨0x30, 15, 0, .rws, 0x0⟩
def PWN.TRIP_CFG_BLANK : Fld := ⟨0x34, 15, 8, .rws, 0x0⟩
def PWN.TRIP_CFG_MAP : Fld := ⟨0x34, 7, 0, .rws, 0x0⟩
def PWN.FORCE_FB : Fld := ⟨0x38, 3, 2, .rw, 0x0⟩
def PWN.FORCE_FA : Fld := ⟨0x38, 1, 0, .rw, 0x0⟩
def PWN.FLAGS_LOADED : Fld := ⟨0x3C, 3, 3, .w1c, 0x0⟩
def PWN.FLAGS_FORCE_BOTH : Fld := ⟨0x3C, 2, 2, .w1c, 0x0⟩
def PWN.FLAGS_CONFIG : Fld := ⟨0x3C, 1, 1, .w1c, 0x0⟩
def PWN.FLAGS_TRIP : Fld := ⟨0x3C, 0, 0, .w1c, 0x0⟩
def PWN.STAT_RUNNING : Fld := ⟨0x40, 7, 7, .ro, 0x0⟩
def PWN.STAT_SAFE : Fld := ⟨0x40, 6, 6, .ro, 0x0⟩
def PWN.STAT_SPILL : Fld := ⟨0x40, 5, 5, .ro, 0x0⟩
def PWN.STAT_TRIPIN : Fld := ⟨0x40, 4, 4, .ro, 0x0⟩
def PWN.STAT_BOOT : Fld := ⟨0x40, 3, 3, .ro, 0x0⟩
def PWN.STAT_PEND : Fld := ⟨0x40, 2, 2, .ro, 0x0⟩
def PWN.STAT_OUT_B : Fld := ⟨0x40, 1, 1, .ro, 0x0⟩
def PWN.STAT_OUT_A : Fld := ⟨0x40, 0, 0, .ro, 0x0⟩
def PWN.CNT0_TRIPS : Fld := ⟨0x44, 31, 16, .ro, 0x0⟩
def PWN.CNT0_NOX : Fld := ⟨0x44, 15, 0, .ro, 0x0⟩
def PWN.CNT1_LOADS : Fld := ⟨0x48, 31, 16, .ro, 0x0⟩
def PWN.CNT1_REFRESH : Fld := ⟨0x48, 15, 0, .ro, 0x0⟩
def PWN.fields : List Fld :=
  [PWN.CFG_FOLLOW, PWN.CFG_MASTER, PWN.CFG_GROUP, PWN.CFG_ADAPT_BA, PWN.CFG_ADAPT_AB, PWN.CFG_DITHER, PWN.CFG_LOAD_EVT, PWN.CFG_SAFE_B, PWN.CFG_SAFE_A, PWN.CFG_MODE, PWN.CFG_PRE, PWN.PERIOD_P, PWN.DUTY_A_COUNT, PWN.DUTY_A_FRAC, PWN.DUTY_B_COUNT, PWN.DUTY_B_FRAC, PWN.PHASE, PWN.COUNT_P, PWN.COUNT, PWN.ACT_DUTY_A_DUTY, PWN.ACT_DUTY_B_DUTY, PWN.DT_CFG_MARGIN, PWN.DT_CFG_DT_MAX, PWN.DT_CFG_DT_MIN, PWN.DT_STAT_BA, PWN.DT_STAT_AB, PWN.DT_STAT_M_BA, PWN.DT_STAT_M_AB, PWN.SW_CFG_SWTH, PWN.BOOT_CFG_N, PWN.BOOT_CFG_M, PWN.BOOT_CFG_W, PWN.TRIG_CFG_DIV, PWN.TRIG_CFG_AT, PWN.TRIP_CFG_BLANK, PWN.TRIP_CFG_MAP, PWN.FORCE_FB, PWN.FORCE_FA, PWN.FLAGS_LOADED, PWN.FLAGS_FORCE_BOTH] ++
  [PWN.FLAGS_CONFIG, PWN.FLAGS_TRIP, PWN.STAT_RUNNING, PWN.STAT_SAFE, PWN.STAT_SPILL, PWN.STAT_TRIPIN, PWN.STAT_BOOT, PWN.STAT_PEND, PWN.STAT_OUT_B, PWN.STAT_OUT_A, PWN.CNT0_TRIPS, PWN.CNT0_NOX, PWN.CNT1_LOADS, PWN.CNT1_REFRESH]
def PWN.base (i : Nat) : Nat := 0x440100 + i * 0x80

/-! ### TMR (12_timers_and_runnels.md) -/
def TMR.RUN : Fld := ⟨0x40, 15, 0, .rw, 0x0⟩
def TMR.SOFT_TRIG : Fld := ⟨0x44, 15, 0, .w1s, 0x0⟩
def TMR.fields : List Fld := [TMR.RUN, TMR.SOFT_TRIG]
def TMR.base : Nat := 0x448000

/-! ### TMN (12_timers_and_runnels.md) -/
def TMN.CFG_TSRC : Fld := ⟨0x0, 31, 24, .rws, 0x0⟩
def TMN.CFG_SMODE : Fld := ⟨0x0, 23, 21, .rws, 0x0⟩
def TMN.CFG_TINV : Fld := ⟨0x0, 20, 20, .rws, 0x0⟩
def TMN.CFG_ONESHOT : Fld := ⟨0x0, 19, 19, .rws, 0x0⟩
def TMN.CFG_IDLE : Fld := ⟨0x0, 18, 18, .rws, 0x0⟩
def TMN.CFG_ZACT : Fld := ⟨0x0, 17, 16, .rws, 0x0⟩
def TMN.CFG_MACT : Fld := ⟨0x0, 15, 14, .rws, 0x0⟩
def TMN.CFG_CT_EN : Fld := ⟨0x0, 13, 13, .rws, 0x0⟩
def TMN.CFG_CT_SEL : Fld := ⟨0x0, 12, 12, .rws, 0x0⟩
def TMN.CFG_TIO_OE : Fld := ⟨0x0, 11, 11, .rws, 0x0⟩
def TMN.CFG_PRE : Fld := ⟨0x0, 7, 0, .rws, 0x0⟩
def TMN.COUNT : Fld := ⟨0x4, 31, 0, .ro, 0x0⟩
def TMN.RELOAD : Fld := ⟨0x8, 31, 0, .rw, 0x0⟩
def TMN.CMP : Fld := ⟨0xC, 31, 0, .rw, 0xFFFFFFFF⟩
def TMN.CAP_CFG_CSRC : Fld := ⟨0x10, 15, 8, .rws, 0x0⟩
def TMN.CAP_CFG_EDGE : Fld := ⟨0x10, 1, 0, .rws, 0x0⟩
def TMN.CAP_PT_PT : Fld := ⟨0x14, 31, 0, .ro, 0x0⟩
def TMN.CAP_ANG_POPPED : Fld := ⟨0x18, 31, 31, .ro, 0x0⟩
def TMN.CAP_ANG_AVALID : Fld := ⟨0x18, 30, 30, .ro, 0x0⟩
def TMN.CAP_ANG_DIR : Fld := ⟨0x18, 29, 29, .ro, 0x0⟩
def TMN.CAP_ANG_EPOCH : Fld := ⟨0x18, 27, 26, .ro, 0x0⟩
def TMN.CAP_ANG_ANGLE : Fld := ⟨0x18, 25, 0, .ro, 0x0⟩
def TMN.CAP_CNT_COUNT : Fld := ⟨0x1C, 31, 0, .ro, 0x0⟩
def TMN.CAP_STAT_OVERRUN : Fld := ⟨0x20, 31, 16, .ro, 0x0⟩
def TMN.CAP_STAT_LEVEL : Fld := ⟨0x20, 2, 0, .ro, 0x0⟩
def TMN.FLAGS_OVERRUN : Fld := ⟨0x24, 4, 4, .w1c, 0x0⟩
def TMN.FLAGS_CAP : Fld := ⟨0x24, 3, 3, .w1c, 0x0⟩
def TMN.FLAGS_LATE : Fld := ⟨0x24, 2, 2, .w1c, 0x0⟩
def TMN.FLAGS_MATCH : Fld := ⟨0x24, 1, 1, .w1c, 0x0⟩
def TMN.FLAGS_ZERO : Fld := ⟨0x24, 0, 0, .w1c, 0x0⟩
def TMN.FLAG_EN_EN : Fld := ⟨0x28, 4, 0, .rw, 0x0⟩
def TMN.STAT_TIO : Fld := ⟨0x2C, 3, 3, .ro, 0x0⟩
def TMN.STAT_HELD : Fld := ⟨0x2C, 2, 2, .ro, 0x0⟩
def TMN.STAT_GATED : Fld := ⟨0x2C, 1, 1, .ro, 0x0⟩
def TMN.STAT_RUNNING : Fld := ⟨0x2C, 0, 0, .ro, 0x0⟩
def TMN.fields : List Fld := [TMN.CFG_TSRC, TMN.CFG_SMODE, TMN.CFG_TINV, TMN.CFG_ONESHOT, TMN.CFG_IDLE, TMN.CFG_ZACT, TMN.CFG_MACT, TMN.CFG_CT_EN, TMN.CFG_CT_SEL, TMN.CFG_TIO_OE, TMN.CFG_PRE, TMN.COUNT, TMN.RELOAD, TMN.CMP, TMN.CAP_CFG_CSRC, TMN.CAP_CFG_EDGE, TMN.CAP_PT_PT, TMN.CAP_ANG_POPPED, TMN.CAP_ANG_AVALID, TMN.CAP_ANG_DIR, TMN.CAP_ANG_EPOCH, TMN.CAP_ANG_ANGLE, TMN.CAP_CNT_COUNT, TMN.CAP_STAT_OVERRUN, TMN.CAP_STAT_LEVEL, TMN.FLAGS_OVERRUN, TMN.FLAGS_CAP, TMN.FLAGS_LATE, TMN.FLAGS_MATCH, TMN.FLAGS_ZERO, TMN.FLAG_EN_EN, TMN.STAT_TIO, TMN.STAT_HELD, TMN.STAT_GATED, TMN.STAT_RUNNING]
def TMN.base (i : Nat) : Nat := 0x448100 + i * 0x40

/-! ### RUN (12_timers_and_runnels.md) -/
def RUN.RUN_RUN : Fld := ⟨0x40, 7, 0, .rw, 0x0⟩
def RUN.PIN_OE_OE : Fld := ⟨0x44, 31, 0, .rws, 0x0⟩
def RUN.PIN_IN_LEVEL : Fld := ⟨0x58, 31, 0, .ro, 0x0⟩
def RUN.fields : List Fld := [RUN.RUN_RUN, RUN.PIN_OE_OE, RUN.PIN_IN_LEVEL]
def RUN.base : Nat := 0x450000

/-! ### PINOWN (12_timers_and_runnels.md) -/
def PINOWN.ENG7 : Fld := ⟨0x0, 30, 28, .rws, 0x0⟩
def PINOWN.ENG6 : Fld := ⟨0x0, 26, 24, .rws, 0x0⟩
def PINOWN.ENG5 : Fld := ⟨0x0, 22, 20, .rws, 0x0⟩
def PINOWN.ENG4 : Fld := ⟨0x0, 18, 16, .rws, 0x0⟩
def PINOWN.ENG3 : Fld := ⟨0x0, 14, 12, .rws, 0x0⟩
def PINOWN.ENG2 : Fld := ⟨0x0, 10, 8, .rws, 0x0⟩
def PINOWN.ENG1 : Fld := ⟨0x0, 6, 4, .rws, 0x0⟩
def PINOWN.ENG0 : Fld := ⟨0x0, 2, 0, .rws, 0x0⟩
def PINOWN.fields : List Fld := [PINOWN.ENG7, PINOWN.ENG6, PINOWN.ENG5, PINOWN.ENG4, PINOWN.ENG3, PINOWN.ENG2, PINOWN.ENG1, PINOWN.ENG0]
def PINOWN.base (i : Nat) : Nat := 0x450048 + i * 0x4

/-! ### RNE (12_timers_and_runnels.md) -/
def RNE.CTRL_SHIFT_CLR : Fld := ⟨0x0, 0, 0, .w1s, 0x0⟩
def RNE.CFG_OLVL : Fld := ⟨0x4, 3, 0, .rws, 0x1⟩
def RNE.PC : Fld := ⟨0x8, 5, 0, .rw, 0x0⟩
def RNE.STAT_RUNNING : Fld := ⟨0xC, 31, 31, .ro, 0x0⟩
def RNE.STAT_WAITING : Fld := ⟨0xC, 30, 30, .ro, 0x0⟩
def RNE.STAT_BC : Fld := ⟨0xC, 13, 8, .ro, 0x0⟩
def RNE.STAT_OUT_LEVEL : Fld := ⟨0xC, 7, 4, .ro, 0x0⟩
def RNE.STAT_IN_LEVEL : Fld := ⟨0xC, 3, 0, .ro, 0x0⟩
def RNE.PADDR_AUTOINC : Fld := ⟨0x10, 31, 31, .rw, 0x0⟩
def RNE.PADDR_ADDR : Fld := ⟨0x10, 5, 0, .rw, 0x0⟩
def RNE.PDATA_WORD : Fld := ⟨0x14, 31, 0, .rw, 0x0⟩
def RNE.IN_DATA : Fld := ⟨0x18, 31, 0, .wo, 0x0⟩
def RNE.OUT_DATA : Fld := ⟨0x1C, 31, 0, .ro, 0x0⟩
def RNE.FLAGS_PROGW : Fld := ⟨0x20, 5, 5, .w1c, 0x0⟩
def RNE.FLAGS_PIN : Fld := ⟨0x20, 4, 4, .w1c, 0x0⟩
def RNE.FLAGS_DROP : Fld := ⟨0x20, 3, 3, .w1c, 0x0⟩
def RNE.FLAGS_LATE : Fld := ⟨0x20, 2, 2, .w1c, 0x0⟩
def RNE.FLAGS_STOP : Fld := ⟨0x20, 1, 1, .w1c, 0x0⟩
def RNE.FLAGS_DATA : Fld := ⟨0x20, 0, 0, .w1c, 0x0⟩
def RNE.FLAG_EN_EN : Fld := ⟨0x24, 5, 0, .rw, 0x0⟩
def RNE.X : Fld := ⟨0x28, 31, 0, .rw, 0x0⟩
def RNE.Y : Fld := ⟨0x2C, 31, 0, .rw, 0x0⟩
def RNE.T : Fld := ⟨0x30, 31, 0, .rw, 0x0⟩
def RNE.U : Fld := ⟨0x34, 31, 0, .rw, 0x0⟩
def RNE.SR : Fld := ⟨0x38, 31, 0, .rw, 0x0⟩
def RNE.MISC_DONE : Fld := ⟨0x3C, 29, 24, .ro, 0x0⟩
def RNE.MISC_BC : Fld := ⟨0x3C, 21, 16, .rw, 0x0⟩
def RNE.MISC_F : Fld := ⟨0x3C, 8, 8, .rw, 0x0⟩
def RNE.MISC_C : Fld := ⟨0x3C, 3, 0, .rw, 0x0⟩
def RNE.CNT_DROP : Fld := ⟨0x40, 31, 16, .ro, 0x0⟩
def RNE.CNT_LATE : Fld := ⟨0x40, 15, 0, .ro, 0x0⟩
def RNE.fields : List Fld := [RNE.CTRL_SHIFT_CLR, RNE.CFG_OLVL, RNE.PC, RNE.STAT_RUNNING, RNE.STAT_WAITING, RNE.STAT_BC, RNE.STAT_OUT_LEVEL, RNE.STAT_IN_LEVEL, RNE.PADDR_AUTOINC, RNE.PADDR_ADDR, RNE.PDATA_WORD, RNE.IN_DATA, RNE.OUT_DATA, RNE.FLAGS_PROGW, RNE.FLAGS_PIN, RNE.FLAGS_DROP, RNE.FLAGS_LATE, RNE.FLAGS_STOP, RNE.FLAGS_DATA, RNE.FLAG_EN_EN, RNE.X, RNE.Y, RNE.T, RNE.U, RNE.SR, RNE.MISC_DONE, RNE.MISC_BC, RNE.MISC_F, RNE.MISC_C, RNE.CNT_DROP, RNE.CNT_LATE]
def RNE.base (i : Nat) : Nat := 0x450100 + i * 0x100

/-! ### CORE (13_isligil_cores.md) -/
def CORE.CTL_RESTART : Fld := ⟨0x0, 0, 0, .w1s, 0x0⟩
def CORE.STAT_TSLOT : Fld := ⟨0x4, 21, 16, .ro, 0x0⟩
def CORE.STAT_HALFERR : Fld := ⟨0x4, 15, 15, .w1c, 0x0⟩
def CORE.STAT_MODE : Fld := ⟨0x4, 2, 0, .ro, 0x0⟩
def CORE.FAULT_VALID : Fld := ⟨0x8, 31, 31, .ro, 0x0⟩
def CORE.FAULT_CAUSE : Fld := ⟨0x8, 27, 24, .ro, 0x0⟩
def CORE.FAULT_TASK : Fld := ⟨0x8, 14, 14, .ro, 0x0⟩
def CORE.FAULT_PC : Fld := ⟨0x8, 13, 0, .ro, 0x0⟩
def CORE.VEC_ADDR : Fld := ⟨0xC, 13, 0, .rw, 0x0⟩
def CORE.HSP : Fld := ⟨0x10, 15, 0, .ro, 0x8000⟩
def CORE.HSP_LIM_LIM : Fld := ⟨0x14, 15, 0, .rw, 0x7F00⟩
def CORE.SLOT_SEL_SLOT : Fld := ⟨0x18, 5, 0, .rw, 0x0⟩
def CORE.SLOT_MAX_OVERRUNS : Fld := ⟨0x1C, 31, 16, .ro, 0x0⟩
def CORE.SLOT_MAX_MAX : Fld := ⟨0x1C, 10, 0, .rw, 0x0⟩
def CORE.FSLOT_LO_WORD : Fld := ⟨0x20, 31, 0, .ro, 0x0⟩
def CORE.FSLOT_HI_WORD : Fld := ⟨0x24, 5, 0, .ro, 0x0⟩
def CORE.CNT_ABANDONS : Fld := ⟨0x28, 31, 16, .ro, 0x0⟩
def CORE.CNT_HALF : Fld := ⟨0x28, 15, 0, .ro, 0x0⟩
def CORE.ENTRIES_COUNT : Fld := ⟨0x2C, 31, 0, .ro, 0x0⟩
def CORE.IMEM_ECC_CORR : Fld := ⟨0x30, 31, 16, .ro, 0x0⟩
def CORE.IMEM_ECC_UADDR : Fld := ⟨0x30, 13, 0, .ro, 0x0⟩
def CORE.DMEM_ECC_CORR : Fld := ⟨0x34, 31, 16, .ro, 0x0⟩
def CORE.DMEM_ECC_UADDR : Fld := ⟨0x34, 14, 0, .ro, 0x0⟩
def CORE.NFSLOT_N : Fld := ⟨0x38, 6, 0, .ro, 0x0⟩
def CORE.fields : List Fld := [CORE.CTL_RESTART, CORE.STAT_TSLOT, CORE.STAT_HALFERR, CORE.STAT_MODE, CORE.FAULT_VALID, CORE.FAULT_CAUSE, CORE.FAULT_TASK, CORE.FAULT_PC, CORE.VEC_ADDR, CORE.HSP, CORE.HSP_LIM_LIM, CORE.SLOT_SEL_SLOT, CORE.SLOT_MAX_OVERRUNS, CORE.SLOT_MAX_MAX, CORE.FSLOT_LO_WORD, CORE.FSLOT_HI_WORD, CORE.CNT_ABANDONS, CORE.CNT_HALF, CORE.ENTRIES_COUNT, CORE.IMEM_ECC_CORR, CORE.IMEM_ECC_UADDR, CORE.DMEM_ECC_CORR, CORE.DMEM_ECC_UADDR, CORE.NFSLOT_N]
def CORE.base (i : Nat) : Nat := 0x230000 + i * 0x40000

/-! ### CATCH (14_events_and_dma.md) -/
def CATCH.SETPEND_SRC : Fld := ⟨0x40, 7, 0, .wo, 0x0⟩
def CATCH.STRAY_VALID : Fld := ⟨0x44, 31, 31, .ro, 0x0⟩
def CATCH.STRAY_TARGET : Fld := ⟨0x44, 26, 24, .ro, 0x0⟩
def CATCH.STRAY_SRC : Fld := ⟨0x44, 23, 16, .ro, 0x0⟩
def CATCH.STRAY_COUNT : Fld := ⟨0x44, 15, 0, .rw, 0x0⟩
def CATCH.HIRQ_CFG_POL1 : Fld := ⟨0x48, 1, 1, .rw, 0x0⟩
def CATCH.HIRQ_CFG_POL0 : Fld := ⟨0x48, 0, 0, .rw, 0x0⟩
def CATCH.LINK_CFG_DEST : Fld := ⟨0x4C, 2, 0, .rw, 0x0⟩
def CATCH.REQ : Fld := ⟨0x50, 6, 0, .ro, 0x0⟩
def CATCH.PEND_CNT_COUNT : Fld := ⟨0x54, 31, 0, .ro, 0x0⟩
def CATCH.fields : List Fld := [CATCH.SETPEND_SRC, CATCH.STRAY_VALID, CATCH.STRAY_TARGET, CATCH.STRAY_SRC, CATCH.STRAY_COUNT, CATCH.HIRQ_CFG_POL1, CATCH.HIRQ_CFG_POL0, CATCH.LINK_CFG_DEST, CATCH.REQ, CATCH.PEND_CNT_COUNT]
def CATCH.base : Nat := 0x458000

/-! ### CCOMP (14_events_and_dma.md) -/
def CCOMP.COMPLETE_SRC : Fld := ⟨0x0, 7, 0, .wo, 0x0⟩
def CCOMP.fields : List Fld := [CCOMP.COMPLETE_SRC]
def CCOMP.base (i : Nat) : Nat := 0x458060 + i * 0x4

/-! ### CPEND (14_events_and_dma.md) -/
def CPEND.PEND : Fld := ⟨0x0, 31, 0, .ro, 0x0⟩
def CPEND.fields : List Fld := [CPEND.PEND]
def CPEND.base (i j : Nat) : Nat := 0x458100 + i * 0x20 + j * 0x4

/-! ### CANY (14_events_and_dma.md) -/
def CANY.ANY_PEND : Fld := ⟨0x0, 31, 0, .ro, 0x0⟩
def CANY.fields : List Fld := [CANY.ANY_PEND]
def CANY.base (i : Nat) : Nat := 0x4581E0 + i * 0x4

/-! ### CSRC (14_events_and_dma.md) -/
def CSRC.CFG_COAL_T : Fld := ⟨0x0, 31, 16, .rws, 0x0⟩
def CSRC.CFG_COAL_N : Fld := ⟨0x0, 15, 8, .rws, 0x1⟩
def CSRC.CFG_ROUTE : Fld := ⟨0x0, 6, 0, .rws, 0x0⟩
def CSRC.fields : List Fld := [CSRC.CFG_COAL_T, CSRC.CFG_COAL_N, CSRC.CFG_ROUTE]
def CSRC.base (i : Nat) : Nat := 0x458400 + i * 0x4

/-! ### CSTAT (14_events_and_dma.md) -/
def CSTAT.STAT_PEND : Fld := ⟨0x0, 31, 31, .ro, 0x0⟩
def CSTAT.STAT_TARGET : Fld := ⟨0x0, 30, 28, .ro, 0x0⟩
def CSTAT.STAT_ACC : Fld := ⟨0x0, 23, 16, .ro, 0x0⟩
def CSTAT.STAT_COUNT : Fld := ⟨0x0, 7, 0, .rw, 0x0⟩
def CSTAT.fields : List Fld := [CSTAT.STAT_PEND, CSTAT.STAT_TARGET, CSTAT.STAT_ACC, CSTAT.STAT_COUNT]
def CSTAT.base (i : Nat) : Nat := 0x458800 + i * 0x4

/-! ### FLUME (14_events_and_dma.md) -/
def FLUME.BUSY_RUN : Fld := ⟨0x40, 31, 0, .ro, 0x0⟩
def FLUME.HALTED_HALT : Fld := ⟨0x44, 31, 0, .ro, 0x0⟩
def FLUME.PLANNED_PLAN : Fld := ⟨0x48, 31, 0, .ro, 0x0⟩
def FLUME.fields : List Fld := [FLUME.BUSY_RUN, FLUME.HALTED_HALT, FLUME.PLANNED_PLAN]
def FLUME.base : Nat := 0x460000

/-! ### FLC (14_events_and_dma.md) -/
def FLC.SRC_ADDR : Fld := ⟨0x0, 31, 0, .rw, 0x0⟩
def FLC.DST_ADDR : Fld := ⟨0x4, 31, 0, .rw, 0x0⟩
def FLC.COUNT_BYTES : Fld := ⟨0x8, 31, 0, .rw, 0x0⟩
def FLC.CTRL_EVT : Fld := ⟨0xC, 23, 23, .rw, 0x0⟩
def FLC.CTRL_APPEND : Fld := ⟨0xC, 22, 22, .rw, 0x0⟩
def FLC.CTRL_SUM : Fld := ⟨0xC, 21, 20, .rw, 0x0⟩
def FLC.CTRL_SWAP : Fld := ⟨0xC, 19, 18, .rw, 0x0⟩
def FLC.CTRL_DST_FIX : Fld := ⟨0xC, 17, 17, .rw, 0x0⟩
def FLC.CTRL_SRC_FIX : Fld := ⟨0xC, 16, 16, .rw, 0x0⟩
def FLC.CTRL_MODE : Fld := ⟨0xC, 15, 14, .rw, 0x0⟩
def FLC.SEED : Fld := ⟨0x10, 31, 0, .rw, 0x0⟩
def FLC.SUM : Fld := ⟨0x14, 31, 0, .ro, 0x0⟩
def FLC.STAT_STATE : Fld := ⟨0x18, 31, 30, .ro, 0x0⟩
def FLC.STAT_FAIL_WR : Fld := ⟨0x18, 29, 29, .ro, 0x0⟩
def FLC.STAT_POISON : Fld := ⟨0x18, 28, 28, .ro, 0x0⟩
def FLC.STAT_RESULT : Fld := ⟨0x18, 3, 0, .ro, 0x0⟩
def FLC.CUR_SRC_ADDR : Fld := ⟨0x1C, 31, 0, .ro, 0x0⟩
def FLC.CUR_DST_ADDR : Fld := ⟨0x20, 31, 0, .ro, 0x0⟩
def FLC.REMAIN_BYTES : Fld := ⟨0x24, 31, 0, .ro, 0x0⟩
def FLC.CUR_EL_ADDR : Fld := ⟨0x28, 31, 0, .ro, 0x0⟩
def FLC.FAIL_ADDR_ADDR : Fld := ⟨0x2C, 31, 0, .ro, 0x0⟩
def FLC.CMD_ABORT : Fld := ⟨0x30, 2, 2, .w1s, 0x0⟩
def FLC.CMD_RESUME : Fld := ⟨0x30, 1, 1, .w1s, 0x0⟩
def FLC.CMD_START : Fld := ⟨0x30, 0, 0, .w1s, 0x0⟩
def FLC.CNT_ENDS : Fld := ⟨0x34, 31, 16, .ro, 0x0⟩
def FLC.CNT_HALTS : Fld := ⟨0x34, 15, 0, .ro, 0x0⟩
def FLC.fields : List Fld := [FLC.SRC_ADDR, FLC.DST_ADDR, FLC.COUNT_BYTES, FLC.CTRL_EVT, FLC.CTRL_APPEND, FLC.CTRL_SUM, FLC.CTRL_SWAP, FLC.CTRL_DST_FIX, FLC.CTRL_SRC_FIX, FLC.CTRL_MODE, FLC.SEED, FLC.SUM, FLC.STAT_STATE, FLC.STAT_FAIL_WR, FLC.STAT_POISON, FLC.STAT_RESULT, FLC.CUR_SRC_ADDR, FLC.CUR_DST_ADDR, FLC.REMAIN_BYTES, FLC.CUR_EL_ADDR, FLC.FAIL_ADDR_ADDR, FLC.CMD_ABORT, FLC.CMD_RESUME, FLC.CMD_START, FLC.CNT_ENDS, FLC.CNT_HALTS]
def FLC.base (i : Nat) : Nat := 0x460100 + i * 0x40

/-! ### HPS (15_host_ports_and_link.md) -/
def HPS.CFG_GEN : Fld := ⟨0x40, 1, 0, .rw, 0x1⟩
def HPS.CNT_CRC : Fld := ⟨0x44, 31, 16, .ro, 0x0⟩
def HPS.CNT_FRAME : Fld := ⟨0x44, 15, 0, .ro, 0x0⟩
def HPS.ABANDON_COUNT : Fld := ⟨0x48, 15, 0, .ro, 0x0⟩
def HPS.fields : List Fld := [HPS.CFG_GEN, HPS.CNT_CRC, HPS.CNT_FRAME, HPS.ABANDON_COUNT]
def HPS.base : Nat := 0x468000

/-! ### HPQ (15_host_ports_and_link.md) -/
def HPQ.CFG_TA : Fld := ⟨0x40, 3, 0, .rws, 0x4⟩
def HPQ.CTRL_SEQ_RESET : Fld := ⟨0x44, 0, 0, .w1s, 0x0⟩
def HPQ.SEQ_VALID : Fld := ⟨0x48, 16, 16, .ro, 0x0⟩
def HPQ.SEQ_LAST : Fld := ⟨0x48, 15, 0, .ro, 0x0⟩
def HPQ.CNT0_CRC : Fld := ⟨0x4C, 31, 16, .ro, 0x0⟩
def HPQ.CNT0_FORMAT : Fld := ⟨0x4C, 15, 0, .ro, 0x0⟩
def HPQ.CNT1_SEQ : Fld := ⟨0x50, 31, 16, .ro, 0x0⟩
def HPQ.CNT1_REPLAY : Fld := ⟨0x50, 15, 0, .ro, 0x0⟩
def HPQ.fields : List Fld := [HPQ.CFG_TA, HPQ.CTRL_SEQ_RESET, HPQ.SEQ_VALID, HPQ.SEQ_LAST, HPQ.CNT0_CRC, HPQ.CNT0_FORMAT, HPQ.CNT1_SEQ, HPQ.CNT1_REPLAY]
def HPQ.base : Nat := 0x469000

/-! ### FL (15_host_ports_and_link.md) -/
def FL.CFG_DIV : Fld := ⟨0x40, 7, 0, .rw, 0x3⟩
def FL.BOOT_STAGE : Fld := ⟨0x44, 31, 28, .ro, 0x0⟩
def FL.BOOT_RESULT : Fld := ⟨0x44, 27, 24, .ro, 0x0⟩
def FL.BOOT_ITEM : Fld := ⟨0x44, 15, 0, .ro, 0x0⟩
def FL.OP_WRITE : Fld := ⟨0x48, 15, 15, .rw, 0x0⟩
def FL.OP_LANES : Fld := ⟨0x48, 13, 12, .rw, 0x0⟩
def FL.OP_DUMMY : Fld := ⟨0x48, 11, 8, .rw, 0x0⟩
def FL.OP_CODE : Fld := ⟨0x48, 7, 0, .rw, 0x0⟩
def FL.ADDR : Fld := ⟨0x4C, 23, 0, .rw, 0x0⟩
def FL.BUF_ADDR : Fld := ⟨0x50, 31, 0, .rw, 0x0⟩
def FL.LEN_BYTES : Fld := ⟨0x54, 23, 0, .rw, 0x0⟩
def FL.CTRL_BUSY : Fld := ⟨0x58, 1, 1, .ro, 0x0⟩
def FL.CTRL_START : Fld := ⟨0x58, 0, 0, .w1s, 0x0⟩
def FL.fields : List Fld := [FL.CFG_DIV, FL.BOOT_STAGE, FL.BOOT_RESULT, FL.BOOT_ITEM, FL.OP_WRITE, FL.OP_LANES, FL.OP_DUMMY, FL.OP_CODE, FL.ADDR, FL.BUF_ADDR, FL.LEN_BYTES, FL.CTRL_BUSY, FL.CTRL_START]
def FL.base : Nat := 0x46A000

/-! ### LINK (15_host_ports_and_link.md) -/
def LINK.CFG_TAKE_EN : Fld := ⟨0x40, 31, 31, .rws, 0x0⟩
def LINK.CFG_FOLLOW : Fld := ⟨0x40, 30, 30, .rws, 0x0⟩
def LINK.CFG_TX_ANGLE : Fld := ⟨0x40, 29, 29, .rws, 0x0⟩
def LINK.CFG_RST_EN : Fld := ⟨0x40, 28, 28, .rws, 0x1⟩
def LINK.CFG_SRC_MAIN : Fld := ⟨0x40, 26, 24, .rws, 0x0⟩
def LINK.CFG_SRC_ALT : Fld := ⟨0x40, 22, 20, .rws, 0x0⟩
def LINK.CFG_HB_MISS : Fld := ⟨0x40, 15, 8, .rws, 0xA⟩
def LINK.CFG_FLY : Fld := ⟨0x40, 7, 0, .rws, 0x64⟩
def LINK.TOL_TAKE_TOL : Fld := ⟨0x44, 31, 16, .rws, 0x100⟩
def LINK.TOL_MEM_TMO : Fld := ⟨0x44, 15, 0, .rws, 0x14⟩
def LINK.STAT_ROLE : Fld := ⟨0x48, 31, 30, .ro, 0x2⟩
def LINK.STAT_MASTER_ID : Fld := ⟨0x48, 29, 27, .ro, 0x0⟩
def LINK.STAT_ACTIVE_SRC : Fld := ⟨0x48, 26, 24, .ro, 0x0⟩
def LINK.STAT_FLYWHEEL : Fld := ⟨0x48, 23, 23, .ro, 0x0⟩
def LINK.STAT_CONFLICT : Fld := ⟨0x48, 22, 22, .w1c, 0x0⟩
def LINK.STAT_DUP_ID : Fld := ⟨0x48, 21, 21, .w1c, 0x0⟩
def LINK.STAT_HEARD : Fld := ⟨0x48, 15, 8, .ro, 0x0⟩
def LINK.STAT_UP : Fld := ⟨0x48, 7, 4, .ro, 0x0⟩
def LINK.STAT_DOWN : Fld := ⟨0x48, 3, 0, .ro, 0x0⟩
def LINK.LAT_UP : Fld := ⟨0x4C, 31, 16, .ro, 0x0⟩
def LINK.LAT_DOWN : Fld := ⟨0x4C, 15, 0, .ro, 0x0⟩
def LINK.PATH_IDX_ID : Fld := ⟨0x50, 2, 0, .rw, 0x0⟩
def LINK.PATH_VALID : Fld := ⟨0x54, 31, 31, .ro, 0x0⟩
def LINK.PATH_TICKS : Fld := ⟨0x54, 15, 0, .ro, 0x0⟩
def LINK.RETRY_CFG_TMO : Fld := ⟨0x58, 15, 0, .rws, 0x320⟩
def LINK.RETRY_RESENDS : Fld := ⟨0x5C, 31, 16, .ro, 0x0⟩
def LINK.RETRY_RETRAINS : Fld := ⟨0x5C, 15, 0, .ro, 0x0⟩
def LINK.SYMERR_UP : Fld := ⟨0x60, 31, 16, .ro, 0x0⟩
def LINK.SYMERR_DOWN : Fld := ⟨0x60, 15, 0, .ro, 0x0⟩
def LINK.RST_CMD_GO : Fld := ⟨0x64, 3, 3, .w1s, 0x0⟩
def LINK.RST_CMD_ID : Fld := ⟨0x64, 2, 0, .rw, 0x0⟩
def LINK.TAKES_LOSSES : Fld := ⟨0x68, 31, 16, .ro, 0x0⟩
def LINK.TAKES_COUNT : Fld := ⟨0x68, 15, 0, .ro, 0x0⟩
def LINK.EVT_POP_VALID : Fld := ⟨0x6C, 31, 31, .ro, 0x0⟩
def LINK.EVT_POP_SRC : Fld := ⟨0x6C, 26, 24, .ro, 0x0⟩
def LINK.EVT_POP_COUNT : Fld := ⟨0x6C, 23, 16, .ro, 0x0⟩
def LINK.EVT_POP_SOURCE : Fld := ⟨0x6C, 7, 0, .ro, 0x0⟩
def LINK.MSG_PAY_PAYLOAD : Fld := ⟨0x70, 31, 0, .ro, 0x0⟩
def LINK.MSG_STAMP_STAMP : Fld := ⟨0x74, 31, 0, .ro, 0x0⟩
def LINK.MSG_PT_PT : Fld := ⟨0x78, 31, 0, .ro, 0x0⟩
def LINK.FIFO_DROPS : Fld := ⟨0x7C, 31, 16, .ro, 0x0⟩
def LINK.FIFO_MSG : Fld := ⟨0x7C, 12, 8, .ro, 0x0⟩
def LINK.FIFO_EVT : Fld := ⟨0x7C, 3, 0, .ro, 0x0⟩
def LINK.fields : List Fld :=
  [LINK.CFG_TAKE_EN, LINK.CFG_FOLLOW, LINK.CFG_TX_ANGLE, LINK.CFG_RST_EN, LINK.CFG_SRC_MAIN, LINK.CFG_SRC_ALT, LINK.CFG_HB_MISS, LINK.CFG_FLY, LINK.TOL_TAKE_TOL, LINK.TOL_MEM_TMO, LINK.STAT_ROLE, LINK.STAT_MASTER_ID, LINK.STAT_ACTIVE_SRC, LINK.STAT_FLYWHEEL, LINK.STAT_CONFLICT, LINK.STAT_DUP_ID, LINK.STAT_HEARD, LINK.STAT_UP, LINK.STAT_DOWN, LINK.LAT_UP, LINK.LAT_DOWN, LINK.PATH_IDX_ID, LINK.PATH_VALID, LINK.PATH_TICKS, LINK.RETRY_CFG_TMO, LINK.RETRY_RESENDS, LINK.RETRY_RETRAINS, LINK.SYMERR_UP, LINK.SYMERR_DOWN, LINK.RST_CMD_GO, LINK.RST_CMD_ID, LINK.TAKES_LOSSES, LINK.TAKES_COUNT, LINK.EVT_POP_VALID, LINK.EVT_POP_SRC, LINK.EVT_POP_COUNT, LINK.EVT_POP_SOURCE, LINK.MSG_PAY_PAYLOAD, LINK.MSG_STAMP_STAMP, LINK.MSG_PT_PT] ++
  [LINK.FIFO_DROPS, LINK.FIFO_MSG, LINK.FIFO_EVT]
def LINK.base : Nat := 0x470000

/-! ### MEM (16_memory_and_interconnect.md) -/
def MEM.CE_CNT_SRAM : Fld := ⟨0x40, 31, 16, .ro, 0x0⟩
def MEM.CE_CNT_PLAN : Fld := ⟨0x40, 15, 0, .ro, 0x0⟩
def MEM.UE_CNT_SRAM : Fld := ⟨0x44, 31, 16, .ro, 0x0⟩
def MEM.UE_CNT_PLAN : Fld := ⟨0x44, 15, 0, .ro, 0x0⟩
def MEM.CE_ADDR_ADDR : Fld := ⟨0x48, 31, 0, .ro, 0x0⟩
def MEM.CE_SYN_NBITS : Fld := ⟨0x4C, 31, 30, .ro, 0x0⟩
def MEM.CE_SYN_POS2 : Fld := ⟨0x4C, 29, 23, .ro, 0x7F⟩
def MEM.CE_SYN_POS1 : Fld := ⟨0x4C, 22, 16, .ro, 0x7F⟩
def MEM.CE_SYN_PE : Fld := ⟨0x4C, 15, 15, .ro, 0x0⟩
def MEM.CE_SYN_S3 : Fld := ⟨0x4C, 14, 8, .ro, 0x0⟩
def MEM.CE_SYN_S1 : Fld := ⟨0x4C, 6, 0, .ro, 0x0⟩
def MEM.UE_ADDR_ADDR : Fld := ⟨0x50, 31, 0, .ro, 0x0⟩
def MEM.UE_SYN_SYN : Fld := ⟨0x54, 31, 0, .ro, 0x3FFF0000⟩
def MEM.CE_HWM_LEVEL : Fld := ⟨0x58, 15, 0, .rw, 0x100⟩
def MEM.SCRUB_CFG_EN : Fld := ⟨0x5C, 31, 31, .rws, 0x1⟩
def MEM.SCRUB_CFG_RATE : Fld := ⟨0x5C, 3, 0, .rws, 0x0⟩
def MEM.SCRUB_STAT_MISSES : Fld := ⟨0x60, 31, 16, .ro, 0x0⟩
def MEM.SCRUB_STAT_PASSES : Fld := ⟨0x60, 15, 0, .ro, 0x0⟩
def MEM.WB_LOST_COUNT : Fld := ⟨0x64, 15, 0, .ro, 0x0⟩
def MEM.INJ_ADDR_ADDR : Fld := ⟨0x68, 31, 3, .rw, 0x0⟩
def MEM.INJ_CTL_ARM : Fld := ⟨0x6C, 31, 31, .rw, 0x0⟩
def MEM.INJ_CTL_POS3 : Fld := ⟨0x6C, 20, 14, .rw, 0x7F⟩
def MEM.INJ_CTL_POS2 : Fld := ⟨0x6C, 13, 7, .rw, 0x7F⟩
def MEM.INJ_CTL_POS1 : Fld := ⟨0x6C, 6, 0, .rw, 0x7F⟩
def MEM.BUSERR_ADDR_ADDR : Fld := ⟨0x70, 31, 0, .ro, 0x0⟩
def MEM.BUSERR_SRC_VALID : Fld := ⟨0x74, 31, 31, .w1c, 0x0⟩
def MEM.BUSERR_SRC_WRITE : Fld := ⟨0x74, 8, 8, .ro, 0x0⟩
def MEM.BUSERR_SRC_INIT : Fld := ⟨0x74, 7, 0, .ro, 0x0⟩
def MEM.fields : List Fld := [MEM.CE_CNT_SRAM, MEM.CE_CNT_PLAN, MEM.UE_CNT_SRAM, MEM.UE_CNT_PLAN, MEM.CE_ADDR_ADDR, MEM.CE_SYN_NBITS, MEM.CE_SYN_POS2, MEM.CE_SYN_POS1, MEM.CE_SYN_PE, MEM.CE_SYN_S3, MEM.CE_SYN_S1, MEM.UE_ADDR_ADDR, MEM.UE_SYN_SYN, MEM.CE_HWM_LEVEL, MEM.SCRUB_CFG_EN, MEM.SCRUB_CFG_RATE, MEM.SCRUB_STAT_MISSES, MEM.SCRUB_STAT_PASSES, MEM.WB_LOST_COUNT, MEM.INJ_ADDR_ADDR, MEM.INJ_CTL_ARM, MEM.INJ_CTL_POS3, MEM.INJ_CTL_POS2, MEM.INJ_CTL_POS1, MEM.BUSERR_ADDR_ADDR, MEM.BUSERR_SRC_VALID, MEM.BUSERR_SRC_WRITE, MEM.BUSERR_SRC_INIT]
def MEM.base : Nat := 0x478000

/-! ### XBAR (16_memory_and_interconnect.md) -/
def XBAR.SHARE_CL_W2 : Fld := ⟨0x40, 11, 8, .rws, 0x1⟩
def XBAR.SHARE_CL_W1 : Fld := ⟨0x40, 7, 4, .rws, 0x1⟩
def XBAR.SHARE_CL_W0 : Fld := ⟨0x40, 3, 0, .rws, 0x1⟩
def XBAR.SHARE_CORE_CORE0 : Fld := ⟨0x44, 3, 0, .rws, 0x1⟩
def XBAR.SHARE_CORE_CORE1 : Fld := ⟨0x44, 7, 4, .rws, 0x1⟩
def XBAR.SHARE_CORE_CORE2 : Fld := ⟨0x44, 11, 8, .rws, 0x1⟩
def XBAR.SHARE_CORE_CORE3 : Fld := ⟨0x44, 15, 12, .rws, 0x1⟩
def XBAR.SHARE_HOST_FL : Fld := ⟨0x48, 15, 12, .rws, 0x1⟩
def XBAR.SHARE_HOST_LINK : Fld := ⟨0x48, 11, 8, .rws, 0x1⟩
def XBAR.SHARE_HOST_HPQ : Fld := ⟨0x48, 7, 4, .rws, 0x1⟩
def XBAR.SHARE_HOST_HPS : Fld := ⟨0x48, 3, 0, .rws, 0x1⟩
def XBAR.SHARE_MISC_WRITER : Fld := ⟨0x5C, 3, 0, .rws, 0x1⟩
def XBAR.MON_SEL_PORT : Fld := ⟨0x60, 3, 0, .rw, 0x0⟩
def XBAR.MON_OPEN_BEATS : Fld := ⟨0x64, 31, 0, .rw, 0x0⟩
def XBAR.MON_LENT_BEATS : Fld := ⟨0x68, 31, 0, .rw, 0x0⟩
def XBAR.MON_PLAN_BEATS : Fld := ⟨0x6C, 31, 0, .rw, 0x0⟩
def XBAR.MON_FRAMES_COUNT : Fld := ⟨0x70, 31, 0, .ro, 0x0⟩
def XBAR.fields : List Fld := [XBAR.SHARE_CL_W2, XBAR.SHARE_CL_W1, XBAR.SHARE_CL_W0, XBAR.SHARE_CORE_CORE0, XBAR.SHARE_CORE_CORE1, XBAR.SHARE_CORE_CORE2, XBAR.SHARE_CORE_CORE3, XBAR.SHARE_HOST_FL, XBAR.SHARE_HOST_LINK, XBAR.SHARE_HOST_HPQ, XBAR.SHARE_HOST_HPS, XBAR.SHARE_MISC_WRITER, XBAR.MON_SEL_PORT, XBAR.MON_OPEN_BEATS, XBAR.MON_LENT_BEATS, XBAR.MON_PLAN_BEATS, XBAR.MON_FRAMES_COUNT]
def XBAR.base : Nat := 0x479000

/-! ### XFLUME (16_memory_and_interconnect.md) -/
def XFLUME.SHARE_CH0 : Fld := ⟨0x0, 3, 0, .rws, 0x1⟩
def XFLUME.SHARE_CH1 : Fld := ⟨0x0, 7, 4, .rws, 0x1⟩
def XFLUME.SHARE_CH2 : Fld := ⟨0x0, 11, 8, .rws, 0x1⟩
def XFLUME.SHARE_CH3 : Fld := ⟨0x0, 15, 12, .rws, 0x1⟩
def XFLUME.SHARE_CH4 : Fld := ⟨0x0, 19, 16, .rws, 0x1⟩
def XFLUME.SHARE_CH5 : Fld := ⟨0x0, 23, 20, .rws, 0x1⟩
def XFLUME.SHARE_CH6 : Fld := ⟨0x0, 27, 24, .rws, 0x1⟩
def XFLUME.SHARE_CH7 : Fld := ⟨0x0, 31, 28, .rws, 0x1⟩
def XFLUME.fields : List Fld := [XFLUME.SHARE_CH0, XFLUME.SHARE_CH1, XFLUME.SHARE_CH2, XFLUME.SHARE_CH3, XFLUME.SHARE_CH4, XFLUME.SHARE_CH5, XFLUME.SHARE_CH6, XFLUME.SHARE_CH7]
def XFLUME.base (i : Nat) : Nat := 0x47904C + i * 0x4

/-! ### SYS (18_register_pages.md) -/
def SYS.PART : Fld := ⟨0x40, 31, 16, .ro, 0x6416⟩
def SYS.PART_STEP : Fld := ⟨0x40, 15, 8, .ro, 0xA1⟩
def SYS.STRAPS_ADCMODE : Fld := ⟨0x44, 7, 7, .ro, 0x0⟩
def SYS.STRAPS_CYCLE : Fld := ⟨0x44, 6, 6, .ro, 0x0⟩
def SYS.STRAPS_MASTER : Fld := ⟨0x44, 5, 5, .ro, 0x0⟩
def SYS.STRAPS_LINKID : Fld := ⟨0x44, 4, 2, .ro, 0x0⟩
def SYS.STRAPS_HOSTSEL : Fld := ⟨0x44, 1, 0, .ro, 0x0⟩
def SYS.STATE_PREV : Fld := ⟨0x48, 11, 8, .ro, 0x0⟩
def SYS.STATE : Fld := ⟨0x48, 3, 0, .ro, 0x1⟩
def SYS.STAT_EPOCH_OPEN : Fld := ⟨0x4C, 3, 3, .ro, 0x0⟩
def SYS.STAT_FROZEN : Fld := ⟨0x4C, 2, 2, .ro, 0x0⟩
def SYS.STAT_D2D_UP : Fld := ⟨0x4C, 1, 1, .ro, 0x0⟩
def SYS.STAT_BUNDLE_FAIL : Fld := ⟨0x4C, 0, 0, .ro, 0x0⟩
def SYS.CMD_PARK : Fld := ⟨0x50, 0, 0, .w1s, 0x0⟩
def SYS.WAKE_LINK : Fld := ⟨0x54, 2, 2, .ro, 0x0⟩
def SYS.WAKE_HOST : Fld := ⟨0x54, 1, 1, .ro, 0x0⟩
def SYS.WAKE_WHEEL : Fld := ⟨0x54, 0, 0, .ro, 0x0⟩
def SYS.RST_CAUSE_ISLAND_ID : Fld := ⟨0x58, 14, 12, .ro, 0x0⟩
def SYS.RST_CAUSE_ISLAND : Fld := ⟨0x58, 9, 9, .w1c, 0x0⟩
def SYS.RST_CAUSE_CLK_FAIL : Fld := ⟨0x58, 8, 8, .w1c, 0x0⟩
def SYS.RST_CAUSE_SUP_VIO : Fld := ⟨0x58, 7, 7, .w1c, 0x0⟩
def SYS.RST_CAUSE_SUP_VDDA : Fld := ⟨0x58, 6, 6, .w1c, 0x0⟩
def SYS.RST_CAUSE_SUP_VDD_D : Fld := ⟨0x58, 5, 5, .w1c, 0x0⟩
def SYS.RST_CAUSE_SUP_VDD_L : Fld := ⟨0x58, 4, 4, .w1c, 0x0⟩
def SYS.RST_CAUSE_WARM_N : Fld := ⟨0x58, 3, 3, .w1c, 0x0⟩
def SYS.RST_CAUSE_LINK_RST : Fld := ⟨0x58, 2, 2, .w1c, 0x0⟩
def SYS.RST_CAUSE_RESET_N : Fld := ⟨0x58, 1, 1, .w1c, 0x0⟩
def SYS.RST_CAUSE_POR : Fld := ⟨0x58, 0, 0, .w1c, 0x1⟩
def SYS.D2D_CNT_CORR : Fld := ⟨0x5C, 31, 16, .ro, 0x0⟩
def SYS.D2D_CNT_UNCORR : Fld := ⟨0x5C, 15, 0, .ro, 0x0⟩
def SYS.PT_LO_PT : Fld := ⟨0x60, 31, 0, .ro, 0x0⟩
def SYS.PT_HI_PT : Fld := ⟨0x64, 31, 0, .ro, 0x0⟩
def SYS.IDL_A_LOT : Fld := ⟨0x70, 31, 0, .ro, 0x0⟩
def SYS.IDD_A_LOT : Fld := ⟨0x78, 31, 0, .ro, 0x0⟩
def SYS.IDL_B_LOT : Fld := ⟨0x74, 31, 28, .ro, 0x0⟩
def SYS.IDD_B_LOT : Fld := ⟨0x7C, 31, 28, .ro, 0x0⟩
def SYS.IDL_B_WAFER : Fld := ⟨0x74, 20, 16, .ro, 0x0⟩
def SYS.IDD_B_WAFER : Fld := ⟨0x7C, 20, 16, .ro, 0x0⟩
def SYS.IDL_B_X : Fld := ⟨0x74, 15, 8, .ro, 0x0⟩
def SYS.IDD_B_X : Fld := ⟨0x7C, 15, 8, .ro, 0x0⟩
def SYS.IDL_B_Y : Fld := ⟨0x74, 7, 0, .ro, 0x0⟩
def SYS.IDD_B_Y : Fld := ⟨0x7C, 7, 0, .ro, 0x0⟩
def SYS.fields : List Fld :=
  [SYS.PART, SYS.PART_STEP, SYS.STRAPS_ADCMODE, SYS.STRAPS_CYCLE, SYS.STRAPS_MASTER, SYS.STRAPS_LINKID, SYS.STRAPS_HOSTSEL, SYS.STATE_PREV, SYS.STATE, SYS.STAT_EPOCH_OPEN, SYS.STAT_FROZEN, SYS.STAT_D2D_UP, SYS.STAT_BUNDLE_FAIL, SYS.CMD_PARK, SYS.WAKE_LINK, SYS.WAKE_HOST, SYS.WAKE_WHEEL, SYS.RST_CAUSE_ISLAND_ID, SYS.RST_CAUSE_ISLAND, SYS.RST_CAUSE_CLK_FAIL, SYS.RST_CAUSE_SUP_VIO, SYS.RST_CAUSE_SUP_VDDA, SYS.RST_CAUSE_SUP_VDD_D, SYS.RST_CAUSE_SUP_VDD_L, SYS.RST_CAUSE_WARM_N, SYS.RST_CAUSE_LINK_RST, SYS.RST_CAUSE_RESET_N, SYS.RST_CAUSE_POR, SYS.D2D_CNT_CORR, SYS.D2D_CNT_UNCORR, SYS.PT_LO_PT, SYS.PT_HI_PT, SYS.IDL_A_LOT, SYS.IDD_A_LOT, SYS.IDL_B_LOT, SYS.IDD_B_LOT, SYS.IDL_B_WAFER, SYS.IDD_B_WAFER, SYS.IDL_B_X, SYS.IDD_B_X] ++
  [SYS.IDL_B_Y, SYS.IDD_B_Y]
def SYS.base : Nat := 0x400000

/-! ### CLK (18_register_pages.md) -/
def CLK.STAT_SRC : Fld := ⟨0x40, 31, 30, .ro, 0x0⟩
def CLK.STAT_REF50 : Fld := ⟨0x40, 29, 29, .ro, 0x0⟩
def CLK.STAT_FAULT : Fld := ⟨0x40, 3, 3, .ro, 0x0⟩
def CLK.STAT_LINK_LOCK : Fld := ⟨0x40, 2, 2, .ro, 0x0⟩
def CLK.STAT_MAIN_LOCK : Fld := ⟨0x40, 1, 1, .ro, 0x0⟩
def CLK.STAT_REF_OK : Fld := ⟨0x40, 0, 0, .ro, 0x0⟩
def CLK.REF_FREQ_KHZ : Fld := ⟨0x44, 15, 0, .ro, 0x0⟩
def CLK.FAULT_SEEN_LINK_LOCK : Fld := ⟨0x48, 2, 2, .w1c, 0x0⟩
def CLK.FAULT_SEEN_MAIN_LOCK : Fld := ⟨0x48, 1, 1, .w1c, 0x0⟩
def CLK.FAULT_SEEN_REF : Fld := ⟨0x48, 0, 0, .w1c, 0x0⟩
def CLK.FAULT_CNT_COUNT : Fld := ⟨0x4C, 15, 0, .ro, 0x0⟩
def CLK.LOST_US : Fld := ⟨0x50, 31, 0, .ro, 0x0⟩
def CLK.fields : List Fld := [CLK.STAT_SRC, CLK.STAT_REF50, CLK.STAT_FAULT, CLK.STAT_LINK_LOCK, CLK.STAT_MAIN_LOCK, CLK.STAT_REF_OK, CLK.REF_FREQ_KHZ, CLK.FAULT_SEEN_LINK_LOCK, CLK.FAULT_SEEN_MAIN_LOCK, CLK.FAULT_SEEN_REF, CLK.FAULT_CNT_COUNT, CLK.LOST_US]
def CLK.base : Nat := 0x401000

/-! ### THERM (18_register_pages.md) -/
def THERM.TJ : Fld := ⟨0x40, 15, 0, .ro, 0x0⟩
def THERM.MAX_T : Fld := ⟨0x5C, 15, 0, .rw, 0x0⟩
def THERM.STAT_HOLD : Fld := ⟨0x60, 2, 2, .ro, 0x0⟩
def THERM.STAT_SHUT : Fld := ⟨0x60, 1, 1, .w1c, 0x0⟩
def THERM.STAT_WARN : Fld := ⟨0x60, 0, 0, .ro, 0x0⟩
def THERM.CTRL_RELEASE : Fld := ⟨0x64, 0, 0, .w1s, 0x0⟩
def THERM.CNT_SHUTS : Fld := ⟨0x68, 31, 16, .ro, 0x0⟩
def THERM.CNT_WARNS : Fld := ⟨0x68, 15, 0, .ro, 0x0⟩
def THERM.fields : List Fld := [THERM.TJ, THERM.MAX_T, THERM.STAT_HOLD, THERM.STAT_SHUT, THERM.STAT_WARN, THERM.CTRL_RELEASE, THERM.CNT_SHUTS, THERM.CNT_WARNS]
def THERM.base : Nat := 0x47C000

/-! ### SENS (18_register_pages.md) -/
def SENS.SENS_T : Fld := ⟨0x0, 15, 0, .ro, 0x0⟩
def SENS.fields : List Fld := [SENS.SENS_T]
def SENS.base (i : Nat) : Nat := 0x47C044 + i * 0x4

/-! ### DBG (18_register_pages.md) -/
def DBG.CTRL_RELEASE : Fld := ⟨0x40, 1, 1, .w1s, 0x0⟩
def DBG.CTRL_FREEZE : Fld := ⟨0x40, 0, 0, .w1s, 0x0⟩
def DBG.BRK_CFG_PT_EN : Fld := ⟨0x44, 31, 31, .rws, 0x0⟩
def DBG.BRK_CFG_SRC_EN : Fld := ⟨0x44, 30, 30, .rws, 0x0⟩
def DBG.BRK_CFG_SRC : Fld := ⟨0x44, 7, 0, .rws, 0x0⟩
def DBG.BRK_PT_LO_PT : Fld := ⟨0x48, 31, 0, .rws, 0x0⟩
def DBG.BRK_PT_HI_PT : Fld := ⟨0x4C, 31, 0, .rws, 0x0⟩
def DBG.STAT_FROZEN : Fld := ⟨0x50, 31, 31, .ro, 0x0⟩
def DBG.STAT_DISARM_PEND : Fld := ⟨0x50, 30, 30, .ro, 0x0⟩
def DBG.STAT_CAUSE : Fld := ⟨0x50, 1, 0, .ro, 0x0⟩
def DBG.FRZ_PT_PT : Fld := ⟨0x54, 31, 0, .ro, 0x0⟩
def DBG.FRZ_CNT_EDGES : Fld := ⟨0x58, 31, 16, .ro, 0x0⟩
def DBG.FRZ_CNT_COUNT : Fld := ⟨0x58, 15, 0, .ro, 0x0⟩
def DBG.fields : List Fld := [DBG.CTRL_RELEASE, DBG.CTRL_FREEZE, DBG.BRK_CFG_PT_EN, DBG.BRK_CFG_SRC_EN, DBG.BRK_CFG_SRC, DBG.BRK_PT_LO_PT, DBG.BRK_PT_HI_PT, DBG.STAT_FROZEN, DBG.STAT_DISARM_PEND, DBG.STAT_CAUSE, DBG.FRZ_PT_PT, DBG.FRZ_CNT_EDGES, DBG.FRZ_CNT_COUNT]
def DBG.base : Nat := 0x47F000

/-! ### The common page header (R482) -/
def HDR.BLK_ID_TYPE : Fld := ⟨0x0, 31, 16, .ro, 0x0⟩
def HDR.BLK_ID_INSTANCE : Fld := ⟨0x0, 15, 0, .ro, 0x0⟩
def HDR.BLK_VER_MAJOR : Fld := ⟨0x4, 31, 16, .ro, 0x1⟩
def HDR.BLK_VER_STEP : Fld := ⟨0x4, 15, 0, .ro, 0xA1⟩
def HDR.CTRL_SOFT_RESET : Fld := ⟨0x8, 2, 2, .w1s, 0x0⟩
def HDR.CTRL_COMMIT : Fld := ⟨0x8, 1, 1, .w1s, 0x0⟩
def HDR.CTRL_ENABLE : Fld := ⟨0x8, 0, 0, .rw, 0x1⟩
def HDR.STATUS_EVT_ANY : Fld := ⟨0xC, 31, 31, .ro, 0x0⟩
def HDR.STATUS_COMMIT_PEND : Fld := ⟨0xC, 30, 30, .ro, 0x0⟩
def HDR.STATUS_COMMIT_REF : Fld := ⟨0xC, 29, 29, .w1c, 0x0⟩
def HDR.EVT_RAW : Fld := ⟨0x10, 31, 0, .w1c, 0x0⟩
def HDR.EVT_EN : Fld := ⟨0x14, 31, 0, .rw, 0x0⟩
def HDR.EVT_SET : Fld := ⟨0x18, 31, 0, .w1s, 0x0⟩
def HDR.ERR_COUNT : Fld := ⟨0x1C, 15, 0, .rw, 0x0⟩
def HDR.fields : List Fld := [HDR.BLK_ID_TYPE, HDR.BLK_ID_INSTANCE, HDR.BLK_VER_MAJOR, HDR.BLK_VER_STEP, HDR.CTRL_SOFT_RESET, HDR.CTRL_COMMIT, HDR.CTRL_ENABLE, HDR.STATUS_EVT_ANY, HDR.STATUS_COMMIT_PEND, HDR.STATUS_COMMIT_REF, HDR.EVT_RAW, HDR.EVT_EN, HDR.EVT_SET, HDR.ERR_COUNT]

/-- A page of the directory (R488): its number, its type code, its instance and its sources (first, count). -/
structure PageRow where
  page : Nat
  type : Nat
  inst : Nat
  src : Nat
  nsrc : Nat
  deriving DecidableEq, Repr

/-- The page directory of R488, instance numbers as R482. -/
def pageDirectory : List PageRow :=
  [⟨0x00, 0x0001, 0, 0, 12⟩, ⟨0x01, 0x0002, 0, 0, 0⟩, ⟨0x02, 0x0010, 0, 32, 8⟩, ⟨0x03, 0x0010, 1, 40, 8⟩,
   ⟨0x04, 0x0011, 0, 16, 16⟩, ⟨0x05, 0x0020, 0, 48, 8⟩, ⟨0x06, 0x0021, 0, 56, 2⟩, ⟨0x07, 0x0022, 0, 58, 4⟩] ++
  (List.range 16).map (fun b => ⟨0x10 + b, 0x0030, b, 64 + 4 * b, 4⟩) ++
  [⟨0x20, 0x0031, 0, 0, 0⟩, ⟨0x21, 0x0032, 0, 0, 0⟩] ++
  (List.range 4).map (fun k => ⟨0x30 + k, 0x0040, k, 128 + 4 * k, 4⟩) ++
  [⟨0x34, 0x0041, 0, 144, 5⟩, ⟨0x40, 0x0050, 0, 160, 16⟩, ⟨0x48, 0x0058, 0, 176, 16⟩, ⟨0x50, 0x0059, 0, 192, 8⟩,
   ⟨0x58, 0x0060, 0, 240, 16⟩, ⟨0x60, 0x0061, 0, 200, 32⟩, ⟨0x68, 0x0070, 0, 232, 1⟩, ⟨0x69, 0x0071, 0, 233, 1⟩,
   ⟨0x6A, 0x0072, 0, 234, 1⟩, ⟨0x70, 0x0073, 0, 235, 5⟩, ⟨0x78, 0x0078, 0, 12, 3⟩, ⟨0x79, 0x0079, 0, 0, 0⟩,
   ⟨0x7C, 0x007C, 0, 0, 0⟩, ⟨0x7F, 0x007F, 0, 0, 0⟩]

/-- Address of page p (R10). -/
def pageBase (p : Nat) : Nat := 0x400000 + p * 0x1000

/-- Every block of the register map but the common header. -/
def regBlocks : List RegBlock :=
  [⟨0x404000, 0x1000, 1, 0x1000, 1, WHL.fields⟩,
   ⟨0x404100, 0x80, 4, 0x80, 1, WHN.fields⟩,
   ⟨0x402000, 0x1000, 2, 0x1000, 1, TRK.fields⟩,
   ⟨0x402080, 0x1000, 2, 0x10, 4, TRKPH.fields⟩,
   ⟨0x405000, 0x1000, 1, 0x1000, 1, PLAN.fields⟩,
   ⟨0x406000, 0x1000, 1, 0x1000, 1, HDG.fields⟩,
   ⟨0x407000, 0x1000, 1, 0x1000, 1, JRN.fields⟩,
   ⟨0x410000, 0x1000, 16, 0x1000, 1, BANK.fields⟩,
   ⟨0x421000, 0x1000, 1, 0x1000, 1, LEV.fields⟩,
   ⟨0x421100, 0x20, 16, 0x20, 1, LEVB.fields⟩,
   ⟨0x420000, 0x1000, 1, 0x1000, 1, SHP.fields⟩,
   ⟨0x420100, 0x80, 16, 0x80, 1, SHPB.fields⟩,
   ⟨0x420140, 0x80, 16, 0x10, 4, SHPC.fields⟩,
   ⟨0x430000, 0x1000, 4, 0x1000, 1, CONV.fields⟩,
   ⟨0x430080, 0x1000, 4, 0x4, 21, COEF.fields⟩,
   ⟨0x430100, 0x1000, 4, 0x10, 4, CSLOT.fields⟩,
   ⟨0x430200, 0x1000, 4, 0x20, 8, CRING.fields⟩,
   ⟨0x430400, 0x1000, 4, 0x10, 21, CACC.fields⟩,
   ⟨0x434000, 0x1000, 1, 0x1000, 1, ADCX.fields⟩,
   ⟨0x440000, 0x1000, 1, 0x1000, 1, PWM.fields⟩,
   ⟨0x440100, 0x80, 16, 0x80, 1, PWN.fields⟩,
   ⟨0x448000, 0x1000, 1, 0x1000, 1, TMR.fields⟩,
   ⟨0x448100, 0x40, 16, 0x40, 1, TMN.fields⟩,
   ⟨0x450000, 0x1000, 1, 0x1000, 1, RUN.fields⟩,
   ⟨0x450048, 0x4, 4, 0x4, 1, PINOWN.fields⟩,
   ⟨0x450100, 0x100, 8, 0x100, 1, RNE.fields⟩,
   ⟨0x230000, 0x40000, 4, 0x40000, 1, CORE.fields⟩,
   ⟨0x458000, 0x1000, 1, 0x1000, 1, CATCH.fields⟩,
   ⟨0x458060, 0x4, 7, 0x4, 1, CCOMP.fields⟩,
   ⟨0x458100, 0x20, 7, 0x4, 8, CPEND.fields⟩,
   ⟨0x4581E0, 0x4, 8, 0x4, 1, CANY.fields⟩,
   ⟨0x458400, 0x4, 256, 0x4, 1, CSRC.fields⟩,
   ⟨0x458800, 0x4, 256, 0x4, 1, CSTAT.fields⟩,
   ⟨0x460000, 0x1000, 1, 0x1000, 1, FLUME.fields⟩,
   ⟨0x460100, 0x40, 32, 0x40, 1, FLC.fields⟩,
   ⟨0x468000, 0x1000, 1, 0x1000, 1, HPS.fields⟩,
   ⟨0x469000, 0x1000, 1, 0x1000, 1, HPQ.fields⟩,
   ⟨0x46A000, 0x1000, 1, 0x1000, 1, FL.fields⟩,
   ⟨0x470000, 0x1000, 1, 0x1000, 1, LINK.fields⟩,
   ⟨0x478000, 0x1000, 1, 0x1000, 1, MEM.fields⟩,
   ⟨0x479000, 0x1000, 1, 0x1000, 1, XBAR.fields⟩,
   ⟨0x47904C, 0x4, 4, 0x4, 1, XFLUME.fields⟩,
   ⟨0x400000, 0x1000, 1, 0x1000, 1, SYS.fields⟩,
   ⟨0x401000, 0x1000, 1, 0x1000, 1, CLK.fields⟩,
   ⟨0x47C000, 0x1000, 1, 0x1000, 1, THERM.fields⟩,
   ⟨0x47C044, 0x4, 6, 0x4, 1, SENS.fields⟩,
   ⟨0x47F000, 0x1000, 1, 0x1000, 1, DBG.fields⟩]

/-- The offset within its copy that an address has in a block, if the block holds it. -/
def RegBlock.offsetOf (b : RegBlock) (a : Nat) : Option Nat :=
  if b.base ≤ a ∧ (a - b.base) / b.s1 < b.n1 then
    let r := (a - b.base) % b.s1
    if b.n2 = 1 then some r else if r / b.s2 < b.n2 then some (r % b.s2) else none
  else none

/-- The fields of a block's register at an address (none where the block does not hold it). -/
def RegBlock.fieldsAt (b : RegBlock) (a : Nat) : List Fld :=
  match b.offsetOf a with
  | none => []
  | some o => b.fields.filter (fun f => f.off == o)

/-- The first block of a list that has fields at an address gives them. -/
def fieldsIn : List RegBlock → Nat → List Fld
  | [], _ => []
  | b :: bs, a => match b.fieldsAt a with
    | [] => fieldsIn bs a
    | fs => fs

/-- The page row of an address in the peripheral region. -/
def pageRowOf (a : Nat) : Option PageRow :=
  if 0x400000 ≤ a then pageDirectory.find? (fun r => r.page == (a - 0x400000) / 0x1000) else none

/-- The fields of the register at a byte address: the header's in the first 64 bytes of a listed page, else the
block's own (R482). -/
def fieldsAt (a : Nat) : List Fld :=
  if 0x400000 ≤ a ∧ a < 0x480000 ∧ a % 0x1000 < 0x40 then
    match pageRowOf a with
    | none => []
    | some _ => match HDR.fields.filter (fun f => f.off == a % 0x1000) with
      | [] => []
      | fs => if a % 0x1000 = 0x8 ∧ (a = 0x402008 ∨ a = 0x403008) then TRK.CTRL_REVERSE_ARM :: fs else fs
  else fieldsIn regBlocks a

/-- The value after cold reset of a register made of these fields (R12). -/
def resetOfFields (fs : List Fld) : Word :=
  fs.foldl (fun w f => w ||| BitVec.ofNat 32 (f.rst <<< f.lo)) 0

/-- The value after cold reset of the register at a byte address (R12). -/
def resetValue (a : Nat) : Word := resetOfFields (fieldsAt a)

end Sys2Proof.Machine
end

