-- ==== Sys2Proof/Machine/State.lean ====
section
/-! DEFINITION. The state of the block as plain data, and the state right after reset.
Registers whose content software programs, counts or clears live in `regs` (what a read of an RW-S field returns,
R12) and `act` (what an RW-S field acts with); everything a unit works with lives in its own structure.
A table is a list of (key, value) pairs, keys rising, no entry equal to the table's default. -/

namespace Sys2Proof.Machine

/-! ## How a step can stop -/

/-- Why a step stops with a fault. -/
inductive Fault
  /-- Raised by a command whose operands no word on the wire can carry (a wrong number of words, an address the
  command cannot name); safe: the hardware never meets it. -/
  | illFormed
  deriving DecidableEq, Repr

/-- Why a step is refused. -/
inductive Refusal
  /-- Raised by an arm of the dispatcher that has no meaning yet; safe. -/
  | notModelled (mnemonic : String)
  deriving DecidableEq, Repr

/-! ## Device -/

/-- The device states of R28, in the order of their codes. -/
inductive DevState
  | reset | strapped | loaded | armed | syncing | running | governed | stalled | spilled | park
  deriving DecidableEq, Repr

/-- The device: its state (R28), straps (R470), epoch and cycle (R63), and who controls (R91). -/
structure Device where
  st : DevState
  prev : DevState
  straps : BitVec 8
  epoch : Nat
  cycle : Nat
  cycNo : Nat              -- cycles since the epoch opened, not wrapped (model's own count)
  epochOpen : Bool
  control : Fin 2          -- 0 Tracker A, 1 Tracker B
  hold : Option Nat        -- device angle held after a backward handover (R91)
  handing : Bool           -- a handover has been decided and takes effect in the next tick (R90, R91)
  step : Option (Nat × Nat) -- position and angle from which the step of a handover in progress is still to be swept (R121)
  began : DevState         -- the state in which the present tick began (R30)
  found : DevState         -- the state a warm or supply reset found the device in, shown until it ends (R28, R29)
  hirq : Nat               -- the requests of HIRQ0 and HIRQ1 in the tick before (R379)
  capPast : List Word      -- CAP_ANG of the last two ticks as they ended, newest first (R330)
  deriving DecidableEq, Repr

/-! ## Wheels and trackers -/

/-- One wheel front end (R35 to R45). -/
structure Wheel where
  armed : Bool             -- VR: armed above the threshold
  thr8 : Nat               -- threshold it armed on, 1/8 of 5 mV
  peakRef : Int            -- filtered reference peak, 5 mV
  level : Bool             -- settled level of a Hall or direction-coded input
  levelStamp : Nat         -- stamp of the last counted transition
  taken : Bool             -- the counted level has been used by a pulse command
  seen : Bool              -- an edge has been accepted
  lastStamp : Nat          -- stamp of the last accepted edge
  high : Option Nat        -- high time of the tooth in progress, once its end has come
  pulse : Option Nat       -- leading stamp of the direction-coded pulse in progress
  trailingFlank : Bool     -- BOTHFLANK: the next pulse marks the trailing flank
  pulseCfg : Word          -- DIR_CFG as it acted at the leading stamp of that pulse (R48)
  past : List (Nat × Nat × Word)  -- values that COMMITs have replaced: PT from which the new one acts, offset, old word (R48)
  deriving DecidableEq, Repr

/-- An edge on its way from a front end to a tracker (R20). -/
structure EdgeIn where
  wheel : Nat
  stamp : Nat
  due : Nat                -- PT from which the tracker may take it
  wclass : Option Nat      -- width class of the tooth this edge completes (R45)
  deriving DecidableEq, Repr

/-- Acquisition states of R56, in the order of their codes. -/
inductive Acq
  | off | wait | steady | search | confirm | phase | sync
  deriving DecidableEq, Repr

/-- A candidate position with its own count of further features (R525). -/
structure Cand where
  pos : Nat
  count : Nat
  deriving DecidableEq, Repr

/-- One tracker (R54 to R87, R99 to R118). -/
structure Tracker where
  acq : Acq
  run : Nat
  spurRun : Nat
  cands : List Cand
  stateEdges : Nat         -- accepted crank edges since CONFIRM was entered, or since PHASE or the last failed try
  tries : Nat              -- failed tries in PHASE
  edges : List EdgeIn      -- edges on their way, oldest first
  held : Option EdgeIn     -- leading edge a stalled tracker keeps until its pulse is classed (R115)
  nEdges : Nat             -- accepted crank edges since WAIT or a turn, 0 to 3
  lastStamp : Nat
  prevStamp : Nat
  period : Nat             -- T_j
  prevPeriod : Nat         -- T_(j-1)
  stamps : List Nat        -- stamps of the last revolution of accepted crank edges, newest first (R59)
  lastCam : Option EdgeIn  -- most recent cam edge stamped (R59)
  classes : List Nat       -- completed width classes, newest first
  sense : Option Bool      -- direction class of the last classed crank pulse, true for reverse (R62)
  astern : Bool
  rowsAstern : Bool        -- direction of travel the shadow history belongs to (R83)
  pos : Nat
  half : Bool
  acc : Nat                -- 58-bit phase accumulator (R71)
  inc : Nat                -- 36-bit increment, units 2^-32 au
  rem : Nat
  racc : Nat
  tpred : Nat
  horizon : Nat
  atHorizon : Bool
  epochEdges : Nat         -- accepted crank edges since sync or the last reversal (R265)
  stalled : Bool
  stallPt : Nat            -- PT of the declaration
  slow : Bool              -- T_pred spans a standstill: the speed test of R113 has not been met again
  verify : Bool
  camMissRun : Nat
  inXchk : Bool            -- takes part in the comparison (R90, R94)
  phaseInit : List Nat     -- wheels whose phase filter holds a value of this epoch
  phaseOut : List Nat      -- wheels whose phase is outside its limits
  undo : Option (Nat × Bool × Nat × Nat)  -- pos, half, lastStamp, period before the last accepted edge (R118)
  row : List (Nat × Nat)   -- history row of the cycle in progress: cycle tooth position, clamped q_meas
  rows : List (List (Nat × Nat))  -- stored rows, newest first
  qAct : List (Nat × Nat)  -- active factors, default 16,384
  rowClean : Bool
  sigAct : List (Nat × Int)  -- active learned signature where it differs from the plan's
  sigNew : Option (List (Nat × Int))  -- finished inactive copy
  sigSums : List (Nat × Int)
  sigRevs : Nat
  revStamps : List (Nat × Nat)  -- entry index, stamp of the revolution in progress
  revOk : Bool
  revPrev : Option Nat     -- period of the previous revolution
  base : Nat               -- angle the accumulator was last loaded with (R75, R101)
  baseAt : Nat             -- and the stamp or PT it was loaded for
  deriving DecidableEq, Repr

/-- The angle a device's last beat over the link carried (R92, R423). -/
structure PeerAngle where
  angle : Nat
  at_ : Nat                -- PT at which the angle holds
  isOpen : Bool
  inc : Nat                -- the beat's increment, 2^-32 au
  astern : Bool
  src : Nat                -- device whose beat it came in
  deriving DecidableEq, Repr

/-- The cross-check (R88 to R94). -/
structure Xchk where
  softOut : Bool           -- source 38 has been raised in this excursion
  hardOut : Bool
  suppress : Bool
  withinSoft : Bool        -- |D| has stayed within SOFT since the last cycle boundary
  wholeCycle : Bool        -- a boundary has opened the cycle `withinSoft` speaks of
  cyc : Nat                -- device cycle (model's count) at the last tick, for the handback (R94)
  peers : List PeerAngle   -- the last beat of every device heard, latest first (R92)
  deriving DecidableEq, Repr

/-! ## Plan engine, Headgate, journal -/

/-- A furrow: its descriptor (R165) and its head. -/
structure Furrow where
  astern : Bool
  cls : Nat
  inst : Nat
  first : Nat
  count : Nat
  head : Nat               -- action table index compared with the angle
  headCyc : Nat            -- cycle (model's count) the head belongs to
  loadedAt : Nat           -- PT from which the head is compared (R136)
  dead : Bool              -- suppressed by an uncorrectable entry (R442)
  deriving DecidableEq, Repr

/-- How far an issued action has come. -/
inductive ActPhase
  | issued                 -- on its way, not yet judged by its consumer
  | waiting                -- at its resource, waiting for it (deferred)
  | granted                -- its resource is its own; it takes effect at effectAt
  | effect                 -- in effect, not yet ended
  deriving DecidableEq, Repr

/-- An action from its issue to its end (R21, R106, R198). -/
structure Act where
  idx : Nat
  w0 : Nat
  w1 : Nat
  value : Nat
  serial : Nat             -- issue order (R23)
  issued : Nat
  target : Nat
  start : Nat              -- effective start angle
  epoch : Nat
  cycle : Nat
  cycNo : Nat              -- cycle (model's count) it was issued in
  order : Option Nat       -- SEQ of the order it decides (R197)
  dlim : Nat               -- defer limit in ticks (R227)
  aheadSwept : Bool        -- an action it found ahead of it was swept or in its edge shadow (R144)
  swept : Bool
  late : Bool
  inShadow : Bool
  deferred : Bool
  anom : Bool
  phase : ActPhase
  effectAt : Nat
  endReq : Option Nat      -- PT at which its end request takes effect
  deriving DecidableEq, Repr

/-- A queued order (R191) with its progress (R214). -/
structure Order where
  seq : Nat
  epoch : Nat
  cycle : Nat
  slot : Nat
  value : Nat
  progress : Nat           -- 0 awaiting cut-off, 1 written, 2 issued, 3 in effect, 4 terminal
  state : Nat
  reason : Nat
  data : Nat
  idx : Nat
  qecc : Bool
  anom : Bool
  deferred : Bool
  late : Bool
  deriving DecidableEq, Repr

/-- What a slot's cut-off has done in the cycle in progress (R196, R197). -/
structure SlotCyc where
  cycNo : Nat
  seq : Option Nat         -- order written and not yet reached by an action
  deriving DecidableEq, Repr

/-- A wheel record of the loaded plan (R168). -/
structure WheelRec where
  wheel : Nat
  role : Nat
  sensor : Nat
  nent : Nat
  deriving DecidableEq, Repr

/-- Where a plan load stands (R177). -/
inductive LoadPhase
  | idle | check | write
  deriving DecidableEq, Repr

/-- The plan engine (chapters 05 and 06). -/
structure Plan where
  load : LoadPhase
  loadAddr : Nat           -- LOAD_ADDR and LOAD_SIZE as read at LOAD
  loadSize : Nat
  copyBase : Nat           -- COPY_BASE as read at LOAD (R185)
  keptBase : Nat           -- where the loaded plan's copy stands (R178)
  trkCfgA : Word
  trkCfgB : Word
  wheels : List WheelRec
  furrows : List Furrow
  links : List Nat
  nslot : Nat
  slotDef : List (Nat × Nat)   -- slot: bit 26 USED, bits 25..0 CUTOFF
  slotDefault : List (Nat × Nat)
  acts : List Act
  serial : Nat
  issuedIn : List (Nat × Nat)  -- action: 1 + cycle (model's count) in which it was last reached
  slotCyc : List (Nat × SlotCyc)
  rpmMin : Nat
  rpmMax : Nat
  accMax : Nat
  scan : List (Nat × Nat)      -- scan table entry: its 64 bits
  busmap : List (Nat × List Nat)  -- port: 64 initiator bytes
  profile : List (Nat × Nat)   -- profile table (R169)
  lateLog : List (Nat × Nat)   -- action, lateness
  cutFrom : Nat                -- travel position from which cut-offs of the cycle in progress count (R137, R198)
  revStamp : Option Nat        -- index-0 stamp of the revolution in progress (R143)
  revPrev : Option Nat         -- period of the revolution before
  speedBad : Bool              -- the last checked edge lay outside the envelope (R149)
  spillCause : Nat             -- what put the device in SPILLED: bit 0 thermal, 1 bundle, 2 heartbeat, 3 island, 4 VDRV, 5 clock
  badSects : List Nat          -- sections whose scrub CRC has failed
  violAt : Option Nat          -- State.tick of the last violation (R150)
  govKept : Option (Nat × Word) -- State.tick at which a clear of the governed latch acted, and GOV before it (R150)
  deriving DecidableEq, Repr

/-- A staging buffer of the Headgate and its submitter's last result (R192). -/
structure Staging where
  sub0 : Word
  sub1 : Word
  sub2 : Word
  sub3 : Word
  failed : Bool
  res : Word
  seq : Word
  deriving DecidableEq, Repr

/-- A record of the present tick, written at its end: its two words, and whether it is a marker of an epoch that closed or
opened (R203). -/
inductive JrnRec
  | action (w0 w1 : Nat)
  | closed (w0 w1 : Nat)
  | opened (w0 w1 : Nat)
  deriving DecidableEq, Repr

/-- What the present tick found, which a warm reset that begins in it goes back to (R210). -/
structure TickStart where
  queue : List Order
  acts : List Act
  epoch : BitVec 16
  cycle : Nat
  epochOpen : Bool
  seqLast : Nat
  written : Nat                -- WR
  lost : Nat                   -- LOST
  lossPend : Nat
  deriving DecidableEq, Repr

/-- The Headgate (chapter 07). The staging buffers stand in the order of R195. -/
structure Headgate where
  staging : Vector Staging 8
  queue : List Order
  lossPend : Nat               -- records not written since the last LOSS marker
  recs : List JrnRec           -- action records and markers of the present tick, oldest first (R203)
  start : TickStart            -- the Headgate as the present tick found it (R210)
  rdWrites : List Word         -- writes of JRN.RD of this tick, oldest first (R206)
  flumeSubs : List Word        -- SUB3 words of this tick by Flume channels, oldest first (R195)
  blocked : Bool               -- submissions are refused with EPOCH (R210)
  deriving DecidableEq, Repr

/-- An event raised and on its way to the Catchment (R375). -/
structure RaisedEvt where
  src : Nat
  raisedAt : Nat
  due : Nat
  deriving DecidableEq, Repr

/-- When a committed shadow acts. -/
inductive ActsAt
  | tick                       -- the tick after the COMMIT tick
  | clock (n : Nat)            -- the first clock of n ticks after the COMMIT tick
  | disarm                     -- at the next disarm
  | boundary                   -- next cycle boundary of the device
  | trkBoundary (t : Fin 2)    -- next cycle boundary of a tracker
  | period (n : Fin 16)        -- next period start of a PWM generator
  | countStep (n : Fin 16)     -- next count step of a timer
  | profile (b : Fin 16)       -- next profile start of a bank
  | scan (k : Fin 4)           -- next scan start of a converter
  | frame                      -- next bus frame
  deriving DecidableEq, Repr

/-- A committed register waiting to act (R486). -/
structure CommitPend where
  when_ : ActsAt
  at_ : Nat                -- tick of the COMMIT
  addr : Nat
  value : Word
  mask : Word              -- the bits of the word that act with it (R243, R431)
  deriving DecidableEq, Repr

/-- Device-wide happenings of the system pages (chapters 17 and 18). -/
structure Sys where
  frozen : Bool                -- a debug freeze is in force (R493)
  frozenAt : Nat               -- tick in which it began
  freezeReq : Nat              -- 0 none, else the cause code of DBG.STAT.CAUSE of a freeze about to begin
  freezeReqAt : Nat            -- tick of that cause
  releasedAt : Option Nat      -- tick of the last RELEASE written while not frozen (R495)
  releaseReq : Bool            -- a release takes effect in the tick after its write
  parkFrom : DevState          -- the state the device parked from (R473)
  parkAt : Nat                 -- PT at which it parked (R381)
  clockFault : Bool            -- a clock fault is in force: PT stands (R460)
  supplyDown : List Supply     -- supplies out of range (R456)
  vdrvLow : Bool
  coldBusy : Bool              -- the cold-reset sequence runs (R463)
  warmBusy : Bool              -- WARM_N is low, or the warm-reset sequence runs (R465)
  warmAt : Nat                 -- tick at which WARM_N or the supply last let the device go (R465)
  vretDown : Bool              -- VRET is out of range: power-on reset is held (R455)
  resetNLow : Bool             -- RESET_N is low
  strapPins : BitVec 8         -- levels of the strap balls, which are tied (R469; input)
  warmLow : Bool               -- WARM_N is low
  linkRst : Bool               -- a link reset is in force and has not reached its release (R464)
  oscRetry : Bool              -- CLKIN toggled at a wrong frequency: reset is held and tried again (R459)
  clkDue : Bool                -- the reference is to be chosen, after a cold reset began or VDD_L was lost (R459)
  warmActs : List Nat          -- actions without order that a warm reset caught, in issue order (R210)
  warmOpen : Bool              -- a warm reset caught an open epoch (R210)
  lostL : Bool                 -- VDD_L was lost in the supply reset in force (R456, R458)
  lostD : Bool                 -- VDD_D was lost in it (R457)
  islandRst : List (Nat × Nat) -- islands held in reset: number and tick of the fault (R467)
  ptChk : Nat                  -- Tracker B's check counter, which counts as PT does (R468)
  ptFailed : Nat               -- bit t: tracker t's release reloads its PT counter; bit 2 + t: its residue check has failed (R468)
  softResets : List Nat        -- pages whose soft reset acts in the next tick (R485)
  commits : List Nat           -- pages whose COMMIT of this tick is judged at its end (R486)
  hot : Nat                    -- consecutive readings at or above 155 degrees (R477)
  missedBeats : Nat            -- consecutive heartbeat windows missed at the D-die (R25)
  missedStatus : Nat           -- consecutive status windows missed at the L-die (R26)
  dHold : Bool                 -- the D-die holds all its outputs off (R25, R478)
  latched : List Nat           -- action table indices the D-die ended by itself (R25, R27)
  deriving DecidableEq, Repr

/-- Which access an outstanding peer access is (R418). -/
inductive PeerWho
  | plain (init : Initiator)
  | core (c : Fin 4) (task : Bool)
  | flume (c : Fin 32)
  | host (hpq : Bool)
  | gen1
  | boot                       -- an init entry of the flash boot
  | flash                      -- a beat of the flash master's transfer (R407, R429)
  | order (j : Fin 8)          -- an ORDER SUBMIT of submitter j (R420)
  | gone                       -- a far access whose bank no longer waits for it (R367)
  deriving DecidableEq, Repr

/-- An access that waits for a cycle of its port (R139): one of an initiator at this device, or a MEM frame of the link. -/
inductive WaitReq
  | access (who : PeerWho) (init : Initiator) (addr n : Nat) (write : Bool) (v : Nat)
  | frame (p : Fin 2) (write : Bool) (f : MemFrame) (got : List Nat)   -- with the words served so far, as read or 0
  deriving DecidableEq, Repr

/-- Where the rotations of a port stand (R445). -/
structure Rot where
  turn : Nat                   -- turn of the round among the clusters
  core : Nat                   -- core served last
  coreN : Nat                  -- turns it has had on end
  flume : Nat                  -- member of the Flume cluster served last: channel, or 32 for the record writer
  flumeN : Nat
  host : Nat                   -- turn of the host cluster's round
  deriving DecidableEq, Repr

/-- What the memories keep beside their contents (chapter 16). -/
structure MemCtl where
  wb : List (Nat × Nat)        -- write-back queue: port, word address, oldest first (R440)
  prio : List (Nat × Nat)      -- action entries waiting for a priority rewrite, with the words to rewrite, bits 0 and 1 (R442)
  pos : List (Nat × Nat)       -- by port: next word index of the scrub pass
  secErr : List (Nat × Nat)    -- by word address: bad bits of a SEC-DED word, default 0
  took : List Nat              -- ports at which the scrubber has taken a cycle in the present 2^RATE frames (R441)
  beats : List (Nat × Nat)     -- beats served lately: port and PT of the cycle (R139, R444)
  waits : List WaitReq         -- accesses that wait for a cycle of their port, oldest first (R139)
  rot : List (Nat × Rot)       -- by port: its rotations, default at their beginning (R445)
  grants : List (Nat × (Nat × Nat)) -- open cycles cores have won and not used: port, PT of the cycle and initiator code (R445)
  deriving DecidableEq, Repr

/-- One bank: the Sluice's side and what the bank checks for itself (chapter 08). -/
structure Bank where
  grant : Option (Fin 4)       -- channel holding the grant
  holder : Option Nat          -- serial of the action holding it
  ended : Option Nat           -- tick of the end that lets the bank become free (R225)
  zeroSeen : Bool              -- a sample at or below ZERO has come since then
  heldExc : Bool               -- the action whose normal end was the last was swept or in its edge shadow (R144, R229)
  queue : List Nat             -- serials of deferred requests, oldest first (R228)
  restart : List Nat           -- serials of new commands for the granted channel, oldest first (R261)
  mask : Nat                   -- switches commanded on after the interlocks: HSB, HSH, low sides 3..0
  gate : Nat                   -- the mask that has reached the gate drivers (R249)
  gates : List (Nat × Nat)     -- masks on their way there: tick of arrival and mask, oldest first (R249)
  decayAt : Option Nat         -- tick at which the fast decay in progress began, until ZERO is reached (R223)
  stuckDone : Bool             -- DECAY_STUCK has been decided in it
  clampAt : Option Nat         -- tick at which the decay began whose clamp check runs (R223)
  clampSeen : Bool             -- LS_CLAMPb has been high in it
  clamp : Bool                 -- level of LS_CLAMPb
  checkAt : Option Nat         -- tick of the mask that started the open and short checks (R232, R233)
  checkFrom : Nat              -- tick from which a mask that reaches the drivers is the present action's (R232, R261)
  openDone : Bool              -- the open check has a result
  shortDone : Bool
  chLock : Nat                 -- locked channels, bit k
  bankLock : Bool
  bootOffB : Bool              -- HSB held off by its bootstrap voltage (R221)
  bootOffH : Bool
  deriving DecidableEq, Repr

/-- The used time of a channel or bank (R237), in drive clocks. -/
structure LevUnit where
  past : List Nat              -- on-time of the slices before, newest first, at most 63
  now : Nat                    -- on-time in the present slice up to the last switching
  onSince : Option Nat         -- tick since which it is on
  deriving DecidableEq, Repr

/-- The Levee (R237 to R241): units 0 to 63 are the channels, 64 + b the banks. -/
structure Levee where
  units : List (Nat × LevUnit)
  sliceStart : Nat             -- tick at which the present slice began
  deriving DecidableEq, Repr

/-- What a shaper waits for (R253, R255). -/
inductive ShpWait
  | none
  | time (until_ : Nat)
  | level (rise : Bool) (lv : Nat) (until_ : Nat)
  | chop (untilE fast : Bool) (hi lo until_ : Nat)
  | dip (until_ : Nat)
  deriving DecidableEq, Repr

/-- One shaper (chapter 09). PT in ticks; a step is two ticks. -/
structure Shaper where
  running : Bool               -- a profile is running, END not yet executed
  endAt : Option Nat           -- PT at which END executed
  chan : Fin 4
  slot : Nat
  pc : Nat
  nextAt : Nat                 -- PT from which the next instruction executes
  e : Bool
  d : Bool
  t : Bool
  wait : ShpWait
  onMask : Nat                 -- CHOP's on-mask
  onPhase : Bool
  weirs : List Nat             -- weir levels 0 to 7 of the running profile (R251)
  restarted : Bool             -- the profile was started by a restart
  endReqAt : Option Nat        -- PT of the end request (R257, R259)
  dipFrom : Option Nat         -- PT of the DIPW of the armed window (R263)
  dipUntil : Nat
  dipLearn : Bool
  dipCodes : List Nat          -- samples of the window, newest first
  dipRisen : Bool              -- a slope of RISE or more has been seen
  held : Option (Nat × Bool)   -- held opening delay and its window's LEARN (R264)
  deriving DecidableEq, Repr

/-- The injector start trims (R265). -/
structure Trims where
  inactive : List (Nat × Int)  -- by channel, default 0
  doneAt : Option Nat          -- PT at which the inactive set counts as finished
  revDone : Bool               -- the edge of this cycle that may take a snapshot has passed
  deriving DecidableEq, Repr

/-- A running, suspended or stopped scan (R277 to R283). -/
structure Scan where
  act : Option Nat             -- serial of the SAMPLE action; none for an open slot's scan
  slot : Nat                   -- open trigger slot
  left : Nat                   -- positions not yet sampled
  ring : Nat
  rbase : Nat                  -- ring configuration at the scan's start (R297)
  rsize : Nat
  ren : Bool
  stampPt : Bool
  nextAt : Nat                 -- PT of its next sampling instant
  first : Bool                 -- no position has been sampled
  clock : Nat                  -- converter clock in which it took the converter (R299)
  split : Bool
  late : Bool
  deriving DecidableEq, Repr

/-- A conversion in progress (R275): what its result needs. -/
structure Conversion where
  plan : Bool
  slot : Nat
  pos : Nat
  at_ : Nat                    -- PT of the sampling instant
  flags : Nat                  -- record bits 31 to 24 known so far (STOP, DSET, SPLIT, LATE, FIRST, PT)
  stamp : Nat
  cal : Bool
  take : Bool                  -- the measurement in progress takes it (R286)
  coef : Word                  -- GAIN and OFFSET active at its scan's start
  ring : Nat
  rbase : Nat
  rsize : Nat
  ren : Bool
  num : Option Nat             -- its record's number, fixed when the ring restarted behind it
  deriving DecidableEq, Repr

/-- A record in a converter's FIFO (R293). -/
structure RecEntry where
  lo : Nat
  hi : Nat
  ring : Nat
  rbase : Nat
  rsize : Nat
  num : Option Nat             -- its number, fixed when the ring restarted behind it; none: taken at the write
  deriving DecidableEq, Repr

/-- A calibration measurement (R286). -/
structure CalRun where
  full : Bool
  pos : Nat
  n : Nat
  sampled : Nat                -- conversions chosen, some still in progress
  taken : Nat
  sum : Nat
  sat : Bool
  deriving DecidableEq, Repr

/-- A CVM-1 accumulator (R294). -/
structure CvmAcc where
  sum : Nat
  count : Nat
  mn : Nat
  mx : Nat
  sat : Bool
  deriving DecidableEq, Repr

/-- A converter (chapter 10). -/
structure Converter where
  run : Option Scan
  waiting : Option Nat         -- serial of a waiting SAMPLE
  susp : Option Scan
  delays : Vector (Option Nat) 4  -- open slots: PT at which the delay ends
  pend : Nat                   -- pending slots
  convs : List Conversion      -- oldest first
  nextOk : Nat                 -- PT of the previous sampling instant + 200 ns
  pos : Nat                    -- position tracking
  fifo : List RecEntry
  cal : Option CalRun
  check : Option (Nat × Nat)   -- latest check-position result and its PT
  accs : List (Nat × CvmAcc)   -- by position, default empty
  accIn : Option (Nat × (Nat × (Nat × CvmAcc)))  -- last result in: converter clock, position, result, accumulator before (R294)
  wpWas : List (Nat × (Nat × Nat))  -- by ring: 1 + converter clock in which WP last advanced, and WP before it (R299)
  coefSet : Bool
  deriving DecidableEq, Repr

/-- A trigger on its way: to open slot j of converter k (4k + j), timer n's trigger (16 + n) or capture (32 + n). -/
structure Trig where
  dest : Nat
  due : Nat                    -- PT from which it may arrive
  deriving DecidableEq, Repr

/-- A PWM generator (chapter 11). -/
structure PwmGen where
  t0 : Int                     -- PT of the present period's start
  periodNo : Nat               -- periods since its start
  loadReq : Bool
  masterLoaded : Bool          -- a follower's master has taken the requested load
  outA : Bool
  outB : Bool
  offA : Int                   -- PT of the last turn-off
  offB : Int
  doneA : Bool                 -- it has been on and off in this period
  doneB : Bool
  fullA : Bool                 -- PWMnA has been on throughout the period so far, unforced
  aAtStart : Bool              -- PWMnA was on at the period's start
  fullRun : Nat                -- consecutive periods with PWMnA on throughout
  refresh : Bool               -- a bootstrap refresh was inserted in this period
  nextAB : Option (Nat × Nat)  -- measured dead time waiting, and the PT of its crossing
  nextBA : Option (Nat × Nat)
  meas : List (Bool × Nat)     -- measurements running, oldest first: after PWMnA's turn-off, and its PT
  tripHeld : Bool              -- trip outputs held until the period start after the latch is cleared
  blank : Option Nat           -- tick at which the blanking window ends
  hold : Nat                   -- 0 none, 1 spillway hold, 2 released at the next period start, 3 held until the re-arm
  forcedBoth : Bool            -- two high forces act in COMPL mode (R309)
  starting : Bool              -- RUN was set while PT stood: the start waits for PT to go on (R315)
  force : Nat                  -- the forces that act, FB in the upper two bits (R309)
  forcePt : Option Nat         -- PT of a write of FORCE that waits for its count step
  soft : List (Nat × Nat)      -- last software writes of PERIOD, DUTY_A and DUTY_B: offset, tick (R320)
  deriving DecidableEq, Repr

/-- A capture (R330). -/
structure Capture where
  pt : Nat                     -- low 32 bits of PT
  angle : Word                 -- CAP_ANG as the pop will show it
  count : Nat
  deriving DecidableEq, Repr

/-- A CMP write on its way to becoming active (R324). -/
structure CmpPend where
  value : Nat
  at_ : Nat                    -- PT of the write
  window : List Nat            -- counts of the LATE window so far
  deriving DecidableEq, Repr

/-- A timer (R321 to R334). -/
structure Timer where
  count : Nat
  due : Nat                    -- PT of the next count step; a gated timer keeps the ticks left in `left`
  left : Option Nat
  reload : Bool                -- the next count step is a reload step
  zeroSeen : Bool              -- a zero event has occurred since the start
  level : Bool                 -- level of the trigger source as last seen
  cmp : Nat                    -- active CMP
  cmpPend : List CmpPend       -- writes that have not become active, oldest first
  lastTwo : List Nat           -- counts at the last two count steps, newest first
  queue : List Capture
  tio : Bool                   -- TIO output register
  held : Bool                  -- spillway hold of the TIO (R328)
  deriving DecidableEq, Repr

/-- What a Runnel instruction waits for (R336, R337). -/
inductive RnlWait
  | none | pin | waitp | shift | push | pull | waitt
  deriving DecidableEq, Repr

/-- A Runnel engine (R335); PC, X, Y, T, U, SR, BC, DONE, C and F are its registers of R343. -/
structure Runnel where
  prog : List (Nat × Nat)      -- program words, default 0
  wait : RnlWait
  nextAt : Nat                 -- PT from which the next instruction executes
  stopAt : Option Nat          -- its RUN bit has been cleared: PT of the clock in which it stops (R339)
  inF : List Nat               -- IN FIFO, oldest first
  outF : List Nat              -- OUT FIFO, oldest first
  deriving DecidableEq, Repr

/-- A source in the Catchment (R376 to R378); COUNT is its register. -/
structure CatchSrc where
  acc : Nat
  timer : Option Nat           -- PT at which the coalescing timer started
  pend : Option Nat            -- target it is pending at
  since : Nat                  -- tick in which it became pending
  completing : Bool            -- its completion takes effect at the end of this tick
  last : Option Nat           -- target it was last given to, once it has been given to one (R377)
  got : Nat                   -- the tick after the one in which its last event arrived, 0 for none
  deriving DecidableEq, Repr

/-- What a Flume channel holds beside its registers (R386 to R392). -/
structure FlumeChan where
  elLeft : Nat                 -- bytes left in the element in use
  elDone : Nat                 -- bytes of the element (or BLOCK transfer) moved
  elLast : Bool
  elEvt : Bool
  nextEl : Option Nat          -- address of the next list element, when one must be fetched
  zeros : Nat                  -- consecutive elements of length 0
  buf : Option (List Nat)      -- bytes read and not yet written
  part : Option (Nat × Nat)    -- bytes the read in progress has brought so far: how many, and their value (R391)
  ctrl : Word                  -- CTRL as copied at the start (R487)
  odd : Option Nat             -- Fletcher-32: byte waiting for its pair
  appendEnd : Option Nat       -- the result with which the transfer ends after its appended bytes
  excused : Bool               -- started by an action that was swept or in its edge shadow (R144)
  deriving DecidableEq, Repr

/-- A far access on its way (R361 to R363). -/
structure FarAcc where
  load : Bool
  addr : Nat
  w32 : Bool
  reg : Nat                    -- destination register of a load
  data : Nat                   -- value of a store
  issued : Nat                 -- PT of its issue
  deriving DecidableEq, Repr

/-- What a register bank of a core waits for. -/
inductive CoreWait
  | none
  | event
  | time (t : Nat)             -- low 32 bits of PT
  | angle (pd t : Nat)
  | far (a : FarAcc)
  deriving DecidableEq, Repr

/-- A register bank of a core with its far-access path (R346, R363). -/
structure CoreBank where
  w : Vector Nat 16
  p : Nat                      -- predicates; bit 0 reads 1
  ac : Nat                     -- 40 bits
  lk : Nat
  c : Bool
  v : Bool
  ie : Bool
  rc : Nat                     -- RPTA reads 1 while it is not 0
  rpti : Bool                  -- the repeat was started by RPTI
  pc : Nat
  wait : CoreWait
  nextAt : Nat                 -- PT from which the next instruction issues
  latch : Option (Nat × Nat)   -- low half held: register address, value (R364)
  snap : Option (Nat × Nat)    -- high half snapshot
  ptSnap : Nat                 -- PT[63:16] of the last read of PT0
  angSnap : Nat                -- ANG1, EPOCH, CYCLE of the last read of ANG0, 16 bits each
  met : Option (Nat × Nat)     -- PT and Pd of the last WAITA that reached its angle (R373)
  deriving DecidableEq, Repr

/-- A task in a frame slot (R366, R367). -/
structure TaskRun where
  slot : Nat
  idx : Option Nat             -- action table index; none for a periodic task
  start : Nat                  -- PT of the slot's start
  budget : Nat
  overrun : Bool
  order : Option Nat           -- SEQ of the order its TASK action decided (R200)
  deriving DecidableEq, Repr

/-- A TASK released into a reserved slot. -/
structure Release where
  slot : Nat
  idx : Nat
  arg : Nat
  at_ : Nat                    -- PT of the release
  excused : Bool               -- the action was swept or in its edge shadow (R144)
  order : Option Nat           -- SEQ of the order the action decided (R200)
  deriving DecidableEq, Repr

/-- A core (chapter 13). -/
structure Core where
  on : Bool                    -- it has a CORE section
  idle : Bool                  -- its background has ended
  faulted : Bool
  parked : Bool
  bg : CoreBank
  tb : CoreBank
  task : Option TaskRun
  orphans : List FarAcc        -- far accesses of abandoned tasks
  posted : List (Nat × (Bool × FarAcc)) -- stores that act at a PT, with their bank: the task's or not (R362)
  slotUsed : List (Nat × Nat)  -- bus slots its accesses have taken lately: port and PT (R139, R362)
  frame : List Nat             -- frame table words
  started : List Nat           -- slots started in this frame
  releases : List Release
  failed : List (Nat × (Nat × Option Nat)) -- TASKs released to the faulted core: PT of their budget's end, action, order
  slotMax : List (Nat × (Nat × Nat))  -- by slot: MAX and OVERRUNS
  deriving DecidableEq, Repr

/-- The 16-bit access path of an initiator that is no core (R364): the low half held and the snapshot of a high half,
each with its register's address. -/
structure HalfPath where
  latch : Option (Nat × Nat)
  snap : Option (Nat × Nat)
  deriving DecidableEq, Repr

/-- A frame of the link (R415), as a port sends and holds it. `typ` is the K code: 2 MEM, 3 ORDER, 4 EVENT, 6 HEART. -/
structure LinkFrame where
  typ : Nat
  op : Nat
  src : Nat
  dst : Nat
  bcast : Bool
  lseq : Nat
  len : Nat
  tag : Nat
  init : Nat
  status : Nat
  be : Nat
  body : List Nat              -- the body's 32-bit words
  deriving DecidableEq, Repr

/-- What the device puts on a link port. -/
inductive LinkTx
  | frame (f : LinkFrame)
  | angle (bits : Nat)         -- the 48 data bits of R413 above CRC8
  | ack (lseq : Nat)
  | ping (at_ : Nat)           -- PT of its first symbol, which it carries (R411)
  | pong (at_ : Nat)           -- PT of its first symbol
  | abort                      -- K30.7
  deriving DecidableEq, Repr

/-- A link port (R408 to R417); its state and latency are registers. -/
structure LinkPort where
  since : Nat                  -- tick of the last change of the port's state
  pongs : Nat                  -- PONGs of this training
  trips : Nat                  -- sum of their round trips
  oneLane : Bool               -- the training under way is for one lane
  dup : Bool                   -- its neighbour has this device's own ID: it stays DOWN (R410)
  txSeq : Nat
  rxSeq : Nat                  -- LSEQ expected next
  unacked : List LinkFrame     -- sent and not acknowledged, oldest first, at most 32
  waiting : List LinkFrame     -- frames for which the 32 places are taken
  ackAt : Nat                  -- tick of the last progress or resend
  timeouts : Nat
  deriving DecidableEq, Repr

/-- An outstanding peer access. -/
structure PeerReq where
  tag : Nat
  dst : Nat
  addr : Nat                   -- address in the system map of this device
  write : Bool
  half : Bool
  who : PeerWho
  init : Nat                   -- initiator code
  at_ : Nat                    -- tick of its issue
  deriving DecidableEq, Repr

/-- A device heard over the link (R412). -/
structure HeardDev where
  path : Nat
  port : Nat
  at_ : Nat                    -- tick of its last HEART
  deriving DecidableEq, Repr

/-- A remote staging buffer (R420). -/
structure RemoteSub where
  words : List Nat             -- SUB0 to SUB2
  peers : List (Option Nat)    -- the peer each held word names
  failed : Bool
  replies : List (Nat × (Word × Word))  -- by peer: SUB_RES and SUB_SEQ of its last REPLY
  deriving DecidableEq, Repr

/-- The Aigeil link (chapter 15). -/
structure Link where
  ports : Vector LinkPort 2    -- 0 LKU, 1 LKD
  heard : List (Nat × HeardDev)
  hearts : Nat                 -- HEARTs sent
  heartAt : Option Nat         -- tick of the last HEART sent
  takeLeft : Nat               -- HEARTs still to carry TAKE (R427)
  rst : Option Nat             -- reset command for the next HEART (R428)
  masterHeard : Bool           -- a MASTER HEART of another device since this one came up (R426)
  missed : Nat                 -- consecutive windows without a master HEART (R427)
  window : Nat                 -- tick at which the present window began
  takeWait : Bool              -- a TAKE HEART of SRC_ALT awaits its first ANGLE beat (R427)
  beatAt : Option Nat          -- tick of the last good beat of the active source
  beatEpoch : Nat              -- its EPOCH field
  beatAngle : Nat              -- last PT multiple of 40 an ANGLE beat was sent for, plus 1
  hold : Option Nat            -- the estimate, 2^-32 au, that has yet to reach the held angle (R423)
  evtFifo : List (Nat × Nat × Nat)   -- source, COUNT, sending device
  msgFifo : List (Nat × Nat × Nat)   -- payload, stamp, local PT
  evts : List (Nat × Nat)      -- EVTs of sources pending at the link: 1 awaiting EVTACK, 2 answered FULL, 3 no path; 4 awaiting EVTACK, source completed
  evtAt : Nat                  -- tick of the last resend
  reqs : List PeerReq          -- oldest first
  nextTag : Nat
  remote : Vector RemoteSub 8
  sent : List (Nat × LinkTx)   -- what the ports have been given in this tick, oldest first (model's own output)
  resetAt : Option Nat         -- tick of the HEART that carried a link reset (R464)
  symFrom : Nat                -- tick since which symbol errors count (R430)
  deriving DecidableEq, Repr

/-- A host request in progress (R401, R404). -/
structure HostReq where
  write : Bool
  fix : Bool
  addr : Nat
  n : Nat                      -- words
  i : Nat                      -- words done
  tag : Nat                    -- TAG or SEQ
  data : List Word             -- words still to write
  out : List Word              -- words read, newest first
  quiet : Bool                 -- the host has abandoned the response (R402)
  deriving DecidableEq, Repr

/-- The host ports (R399 to R405). -/
structure HostPorts where
  gen : Nat                    -- framing in force at HPS
  win : Nat                    -- window byte address
  g1err : Nat                  -- error code of the previous gen 1 frame
  g1data : Nat                 -- its read data
  g1snap : List Nat            -- snapshot of 0x011 to 0x018
  hps : Option HostReq
  hpsOut : List Byte           -- HPS: what MISO carries, oldest first (model's own output)
  hpq : Option HostReq
  hpqOut : List Byte
  hpqLast : List Word          -- the words of the response stored with LAST
  hpqStatus : Nat              -- and its STATUS
  deriving DecidableEq, Repr

/-- A transfer of the flash master, one beat in a cycle that serves it (R444). -/
structure FlJob where
  write : Bool                 -- bytes of the flash go to memory, else memory's to the flash
  boot : Bool                  -- the boot copies its image (R407)
  addr : Nat                   -- address of the next beat
  left : Nat                   -- bytes not yet moved
  data : List Byte             -- bytes still to go to memory, or brought from it so far
  deriving DecidableEq, Repr

/-- The flash master (R406, R407, R429); what the stages after the header need. -/
structure Flash where
  flags : Nat
  initN : Nat
  initOff : Nat                -- flash offset of the init list
  imgOff : Nat                 -- flash offset of the image
  imgSize : Nat
  loadAddr : Nat
  initCrc : Nat
  asks : Option (Nat × Nat × Nat)   -- the read under way at the flash: command, 3-byte address, bytes (model's own output)
  todo : List (Nat × Nat)      -- init entries not yet written: address, value
  item : Nat                   -- number of the entry being written
  sent : List Byte             -- bytes last written to the flash (model's own output)
  job : Option FlJob           -- the transfer between memory and flash under way
  deriving DecidableEq, Repr

/-- The sixteen states of the IEEE 1149.1 controller (R510). -/
inductive TapState
  | logicReset | idle
  | selectDr | captureDr | shiftDr | exit1Dr | pauseDr | exit2Dr | updateDr
  | selectIr | captureIr | shiftIr | exit1Ir | pauseIr | exit2Ir | updateIr
  deriving DecidableEq, Repr

/-- The instructions of the test access port (R510). -/
inductive TapInstr
  | bypass | sample | extest
  deriving DecidableEq, Repr

/-- The test access port (R510). A register's first bit is the one nearest TDO. -/
structure Tap where
  waiting : List (Bool × Bool) -- levels of TMS and TDI at the coming rising edges of TCK, first first (input)
  st : TapState
  ir : TapInstr                -- the instruction in force
  irShift : List Bool          -- the instruction register's shift stage
  byp : Bool                   -- the bypass register
  chain : List Bool            -- the boundary chain's shift stage, one cell a ball
  latch : List Bool            -- its update stage, which EXTEST drives
  tdo : Option Bool            -- level of TDO; none where it is high impedance
  deriving DecidableEq, Repr

--UNITS
/-- The state of the block. -/
structure State where
  pending : List Instr         -- commands waiting, first in, first out
  tick : Nat                   -- 400 MHz ticks since reset; never stands (model's own)
  pt : Nat                     -- plan time, 64 bits
  respData : List Word         -- what the last read returned to its initiator (model's own port)
  respErr : Bool               -- the last access ended in a bus error or carried poison
  free : Nat                   -- counter that feeds the free values (model's own)
  regs : List (Nat × Word)     -- registers by byte address, default resetValue
  act : List (Nat × Word)      -- active values of RW-S registers, default resetValue
  committed : List CommitPend
  inFlight : List RaisedEvt
  mem : List Host.Cell         -- bytes of every memory, default 0
  memErr : List (Nat × Nat)    -- error pattern of a stored 8-byte word (by address / 8), default none
  slotPoison : List (Nat × Nat)  -- poisoned parameter slots, value 1
  ptab : List (Nat × Nat)      -- pattern entries by 1024 * wheel + index, default 0
  ptabLo : Word                -- held low word (R47)
  ptabSnap : Nat               -- snapshot of an entry (R47)
  dev : Device
  wheels : Vector Wheel 4
  trk : Vector Tracker 2
  xchk : Xchk
  plan : Plan
  hdg : Headgate
  sys : Sys
  memc : MemCtl
  banks : Vector Bank 16
  lev : Levee
  shp : Vector Shaper 16
  trims : Trims
  conv : Vector Converter 4
  dacAt : Option Nat           -- PT of the last write of ADCX.DAC
  gates : Nat                  -- levels of the window gates WG0 to WG15, bit n open
  gatesCut : Nat               -- windows whose measurement a spillway end cut: it is incomplete (R111)
  trigs : List Trig            -- triggers on their way, oldest first
  pwm : Vector PwmGen 16
  tripPins : Nat               -- levels of TRIP0 to TRIP7
  tmr : Vector Timer 16
  tioIn : Nat                  -- levels last seen at TIO balls that are inputs
  rnl : Vector Runnel 8
  rioOut : Nat                 -- levels driven on RIO balls
  rioPins : Nat                -- levels last seen at RIO balls
  catch_ : List (Nat × CatchSrc)  -- by source, default idle
  flume : Vector FlumeChan 32
  cores : Vector Core 4
  coreFrame : Nat              -- number of the plan frame in progress
  halves : List (Nat × HalfPath)  -- 16-bit paths by initiator code, peers by 256 * (8 + source) + INIT
  link : Link
  host : HostPorts
  flash : Flash
  tap : Tap
  deriving DecidableEq, Repr

/-! ## Every unit as a reset leaves it -/

/-- A wheel front end at reset. -/
def initWheel : Wheel :=
  { armed := false, thr8 := 0, peakRef := 0, level := false, levelStamp := 0, taken := true, seen := false,
    lastStamp := 0, high := none, pulse := none, trailingFlank := false, pulseCfg := 0, past := [] }

/-- A tracker at reset: OFF (R56). -/
def initTracker : Tracker :=
  { acq := .off, run := 0, spurRun := 0, cands := [], stateEdges := 0, tries := 0, edges := [], held := none,
    nEdges := 0, lastStamp := 0, prevStamp := 0, period := 0, prevPeriod := 0, stamps := [], lastCam := none,
    classes := [], sense := none, astern := false, rowsAstern := false, pos := 0, half := false, acc := 0, inc := 0, rem := 0, racc := 0, tpred := 0,
    horizon := 0, atHorizon := false, epochEdges := 0, stalled := false, stallPt := 0, slow := false, verify := false,
    camMissRun := 0, inXchk := true, phaseInit := [], phaseOut := [], undo := none, row := [], rows := [], qAct := [],
    rowClean := false, sigAct := [], sigNew := none, sigSums := [], sigRevs := 0, revStamps := [], revOk := false,
    revPrev := none, base := 0, baseAt := 0 }

/-- The cross-check at reset. -/
def initXchk : Xchk :=
  { softOut := false, hardOut := false, suppress := false, withinSoft := false, wholeCycle := false, cyc := 0,
    peers := [] }

/-- The plan engine at reset: no plan. -/
def initPlan : Plan :=
  { load := .idle, loadAddr := 0, loadSize := 0, copyBase := 0, keptBase := 0, trkCfgA := 0, trkCfgB := 0, wheels := [], furrows := [],
    links := [], nslot := 0, slotDef := [], slotDefault := [], acts := [], serial := 0, issuedIn := [], slotCyc := [],
    rpmMin := 0, rpmMax := 0, accMax := 0, scan := [], busmap := [], profile := [], lateLog := [], cutFrom := 0,
    revStamp := none, revPrev := none, speedBad := false, spillCause := 0, badSects := [],
    violAt := none, govKept := none }

/-- A staging buffer at reset. -/
def initStaging : Staging := { sub0 := 0, sub1 := 0, sub2 := 0, sub3 := 0, failed := false, res := 0, seq := 0 }

/-- The Headgate of a tick that found nothing. -/
def initStart : TickStart :=
  { queue := [], acts := [], epoch := 0, cycle := 0, epochOpen := false, seqLast := 0, written := 0, lost := 0, lossPend := 0 }

/-- The Headgate at cold reset. -/
def initHdg : Headgate :=
  { staging := Vector.replicate 8 initStaging, queue := [], lossPend := 0, recs := [], start := initStart, rdWrites := [],
    flumeSubs := [], blocked := false }

/-- The system units at cold reset. -/
def initSys : Sys :=
  { frozen := false, frozenAt := 0, freezeReq := 0, freezeReqAt := 0, releasedAt := none, releaseReq := false, parkFrom := .strapped, parkAt := 0, clockFault := false, supplyDown := [],
    vdrvLow := false, coldBusy := false, warmBusy := false, warmAt := 0, vretDown := false, resetNLow := false, strapPins := 0, warmLow := false,
    linkRst := false, oscRetry := false, clkDue := false, warmActs := [], warmOpen := false, lostL := false, lostD := false,
    islandRst := [], ptChk := 0, ptFailed := 0, softResets := [], commits := [], hot := 0, missedBeats := 0, missedStatus := 0, dHold := false, latched := [] }

/-- Rotations at their beginning. -/
def initRot : Rot := { turn := 0, core := 0, coreN := 0, flume := 0, flumeN := 0, host := 0 }

/-- The memories' keeping at reset. -/
def initMemc : MemCtl :=
  { wb := [], prio := [], pos := [], secErr := [], took := [], beats := [], waits := [], rot := [], grants := [] }

/-- A bank at cold reset. -/
def initBank : Bank :=
  { grant := none, holder := none, ended := none, zeroSeen := false, heldExc := false, queue := [], restart := [], mask := 0,
    gate := 0, gates := [], decayAt := none, stuckDone := true, clampAt := none, clampSeen := false, clamp := false,
    checkAt := none, checkFrom := 0, openDone := true,
    shortDone := true, chLock := 0, bankLock := false, bootOffB := false, bootOffH := false }

/-- The Levee at cold reset: cleared to zero (R241). -/
def initLevee : Levee := { units := [], sliceStart := 0 }

/-- A shaper at reset. -/
def initShaper : Shaper :=
  { running := false, endAt := none, chan := 0, slot := 0, pc := 0, nextAt := 0, e := false, d := false, t := false,
    wait := .none, onMask := 0, onPhase := false, weirs := [], restarted := false, endReqAt := none, dipFrom := none,
    dipUntil := 0, dipLearn := false, dipCodes := [], dipRisen := false, held := none }

/-- The trims at reset. -/
def initTrims : Trims := { inactive := [], doneAt := none, revDone := false }

/-- A converter at reset. -/
def initConv : Converter :=
  { run := none, waiting := none, susp := none, delays := Vector.replicate 4 none, pend := 0, convs := [], nextOk := 0,
    pos := 0, fifo := [], cal := none, check := none, accs := [], accIn := none, wpWas := [], coefSet := false }

/-- A PWM generator at reset: stopped. -/
def initPwm : PwmGen :=
  { t0 := 0, periodNo := 0, loadReq := false, masterLoaded := false, outA := false, outB := false, offA := -65536,
    offB := -65536, doneA := false, doneB := false, fullA := false, aAtStart := false, fullRun := 0, refresh := false,
    nextAB := none, nextBA := none, meas := [], tripHeld := false, blank := none, hold := 0,
    forcedBoth := false, starting := false, force := 0, forcePt := none, soft := [] }

/-- A timer at reset: stopped. -/
def initTimer : Timer :=
  { count := 0, due := 0, left := none, reload := false, zeroSeen := false, level := false, cmp := 0xFFFFFFFF,
    cmpPend := [], lastTwo := [], queue := [], tio := false, held := false }

/-- A Runnel engine at reset: stopped, its program memory kept where it is given (R340). -/
def initRnl (prog : List (Nat × Nat)) : Runnel := { prog := prog, wait := .none, nextAt := 0, stopAt := none, inF := [], outF := [] }

/-- A Flume channel at reset. -/
def initFlume : FlumeChan :=
  { elLeft := 0, elDone := 0, elLast := false, elEvt := false, nextEl := none, zeros := 0, buf := none,
    part := none, ctrl := 0, odd := none, appendEnd := none, excused := false }

/-- A register bank of a core at reset. -/
def initCoreBank : CoreBank :=
  { w := Vector.replicate 16 0, p := 1, ac := 0, lk := 0, c := false, v := false, ie := false, rc := 0, rpti := false,
    pc := 0, wait := .none, nextAt := 0, latch := none, snap := none, ptSnap := 0, angSnap := 0,
    met := none }

/-- A core at reset: it has no program. -/
def initCore : Core :=
  { on := false, idle := true, faulted := false, parked := false, bg := initCoreBank, tb := initCoreBank, task := none,
    orphans := [], posted := [], slotUsed := [], frame := [], started := [], releases := [], failed := [], slotMax := [] }

/-- A link port at reset. -/
def initPort : LinkPort :=
  { since := 0, pongs := 0, trips := 0, oneLane := false, dup := false, txSeq := 0, rxSeq := 0, unacked := [], waiting := [],
    ackAt := 0, timeouts := 0 }

/-- The link at reset. -/
def initLink : Link :=
  { ports := Vector.replicate 2 initPort, heard := [], hearts := 0, heartAt := none, takeLeft := 0, rst := none,
    masterHeard := false, missed := 0, window := 0, takeWait := false, beatAt := none, beatEpoch := 0, beatAngle := 0,
    hold := none, evtFifo := [], msgFifo := [], evts := [], evtAt := 0, reqs := [], nextTag := 0,
    remote := Vector.replicate 8 { words := [0, 0, 0], peers := [none, none, none], failed := false, replies := [] },
    sent := [], resetAt := none, symFrom := 0 }

/-- The host ports at reset, in a framing (R405). -/
def initHost (gen : Nat) : HostPorts :=
  { gen := gen, win := 0, g1err := 0, g1data := 0, g1snap := [], hps := none, hpsOut := [], hpq := none, hpqOut := [],
    hpqLast := [], hpqStatus := 0 }

/-- The flash master at reset. -/
def initFlash : Flash :=
  { flags := 0, initN := 0, initOff := 0, imgOff := 0, imgSize := 0, loadAddr := 0, initCrc := 0, asks := none, todo := [], item := 0, sent := [],
    job := none }

/-- The balls of the boundary chain: 458 signal balls less 16 link balls and 78 analog balls of columns 13 to 16 (R510,
R511). -/
def tapBalls : Nat := 364

/-- The test access port before its first TCK cycle: reset, with BYPASS in force (A1-E04; log entry 146). -/
def initTap : Tap :=
  { waiting := [], st := .logicReset, ir := .bypass, irShift := [], byp := false, chain := List.replicate tapBalls false,
    latch := List.replicate tapBalls false, tdo := none }

/-- The device right after a cold reset with straps (R463): STRAPPED, PT at 0, no epoch. -/
def initDevice (straps : BitVec 8) : Device :=
  { st := .strapped, prev := .reset, straps := straps, epoch := 0, cycle := 0, cycNo := 0, epochOpen := false,
    control := 0, hold := none, handing := false, step := none, began := .strapped, found := .reset, hirq := 0, capPast := [] }

/-- HPS.CFG.GEN after a reset with straps (R470): gen 1 for HOSTSEL 0b00, else gen 2. -/
def genOfStraps (straps : BitVec 8) : Nat := if straps.toNat % 4 = 0 then 1 else 2

/-- The state right after a cold reset with all straps low (R461 to R463, R470; log entry 2): STRAPPED, every register
at its reset value but for what the sequence has changed by then (the bundle is trained; both link ports have begun to
train, which raises source 235), every memory at what an unlisted address reads as, nothing waiting. -/
def State.reset : State :=
  { pending := [], tick := 0, pt := 0, respData := [], respErr := false, free := 0,
    regs := [(SYS.base + 0x4C, 0x2), (LINK.base + 0x10, 0x1), (LINK.base + 0x48, 0x80000011)], act := [],
    committed := [], inFlight := [⟨235, 0, 1⟩], mem := [], memErr := [], slotPoison := [], ptab := [], ptabLo := 0, ptabSnap := 0,
    dev := initDevice 0, wheels := Vector.replicate 4 initWheel, trk := Vector.replicate 2 initTracker,
    xchk := initXchk, plan := initPlan, hdg := initHdg, sys := initSys, memc := initMemc,
    banks := Vector.replicate 16 initBank, lev := initLevee, shp := Vector.replicate 16 initShaper, trims := initTrims,
    conv := Vector.replicate 4 initConv, dacAt := none, gates := 0, gatesCut := 0, trigs := [], pwm := Vector.replicate 16 initPwm,
    tripPins := 0, tmr := Vector.replicate 16 initTimer, tioIn := 0, rnl := Vector.replicate 8 (initRnl []),
    rioOut := 0, rioPins := 0, catch_ := [], flume := Vector.replicate 32 initFlume,
    cores := Vector.replicate 4 initCore, coreFrame := 0, halves := [], link := { initLink with sent := [(0, .ping 0), (1, .ping 0)] }, host := initHost 1,
    flash := initFlash, tap := initTap }

end Sys2Proof.Machine
end

