-- ==== Sys2Proof/Machine/Ops.lean ====
section
/-! DEFINITION. The named operations every meaning is built from: bit fields, tables, registers and their fields,
counters, sources, and the units' update functions. -/

namespace Sys2Proof.Machine

/-! ## Bit fields and signed values -/

/-- Bits hi..lo of a number. -/
def bits (w hi lo : Nat) : Nat := (w >>> lo) % 2 ^ (hi + 1 - lo)

/-- The bit k of a number. -/
def bit (w k : Nat) : Bool := w.testBit k

/-- Bool as a bit. -/
def b2n (b : Bool) : Nat := if b then 1 else 0

/-- The signed value of an n-bit number. -/
def signed (n w : Nat) : Int := if w % 2 ^ n < 2 ^ (n - 1) then (w % 2 ^ n : Nat) else ((w % 2 ^ n : Nat) : Int) - 2 ^ n

/-- The n-bit two's complement of a signed value. -/
def unsigned (n : Nat) (x : Int) : Nat := (x % (2 ^ n : Nat)).toNat

/-- The word of a number. -/
def toWord (n : Nat) : Word := BitVec.ofNat 32 n

/-- A value held at a maximum. -/
def sat (m n : Nat) : Nat := if n ≤ m then n else m

/-- The number of the clock of n ticks in which tick t, passed or present, lies; clocks begin at the multiples of n of PT. -/
def State.clockOf (s : State) (n t : Nat) : Nat := (s.pt + n * s.tick - (s.tick - t)) / n

/-- Division rounded to nearest, halves up. -/
def divRound (a b : Nat) : Nat := (2 * a + b) / (2 * b)

/-- Signed division rounded to nearest, halves up (R85). -/
def divRoundI (a : Int) (b : Nat) : Int := (2 * a + b).fdiv (2 * b)

/-- The filter step of R40 and R66: x + (y - x) shifted right k, rounding towards minus infinity. -/
def filterStep (x y : Int) (k : Nat) : Int := x + (y - x).fdiv (2 ^ k)

/-- A signed value held between two bounds. -/
def clampI (lo hi x : Int) : Int := if x < lo then lo else if hi < x then hi else x

/-! ## Tables: lists of (key, value), keys rising, no entry equal to the default -/

/-- What a table holds at a key. -/
def tget {α : Type} : List (Nat × α) → Nat → α → α
  | [], _, d => d
  | (k, v) :: t, q, d => if k = q then v else tget t q d

/-- A table without a key. -/
def tdel {α : Type} (t : List (Nat × α)) (q : Nat) : List (Nat × α) := t.filter (fun e => e.1 != q)

/-- A table with a pair put in its place. -/
def tins {α : Type} : List (Nat × α) → Nat → α → List (Nat × α)
  | [], q, v => [(q, v)]
  | (k, w) :: t, q, v => if q < k then (q, v) :: (k, w) :: t else (k, w) :: tins t q v

/-- A table after a write: a value equal to the default is not listed. -/
def tset {α : Type} [DecidableEq α] (t : List (Nat × α)) (q : Nat) (v d : α) : List (Nat × α) :=
  if v = d then tdel t q else tins (tdel t q) q v

/-- The canonical form of a table: keys rising, no entry equal to the default. -/
def tableWf {α : Type} [DecidableEq α] (d : Nat → α) : List (Nat × α) → Bool
  | [] => true
  | [(k, v)] => v != d k
  | (k, v) :: (k', v') :: t => v != d k && decide (k < k') && tableWf d ((k', v') :: t)

/-! ## Registers -/

/-- A field of a register word. -/
def Fld.of (f : Fld) (w : Word) : Nat := bits w.toNat f.hi f.lo

/-- A register word with a field replaced; a value too wide is cut to the field. -/
def Fld.put (f : Fld) (w : Word) (v : Nat) : Word :=
  toWord (w.toNat - (bits w.toNat f.hi f.lo) * 2 ^ f.lo + (v % 2 ^ (f.hi + 1 - f.lo)) * 2 ^ f.lo)

/-- The greatest value of a field. -/
def Fld.top (f : Fld) : Nat := 2 ^ (f.hi + 1 - f.lo) - 1

/-- What the register at an address holds (an RW-S register: its shadow). -/
def State.reg (s : State) (a : Nat) : Word := tget s.regs a (resetValue a)

/-- What the RW-S register at an address acts with (R12). -/
def State.actReg (s : State) (a : Nat) : Word := tget s.act a (resetValue a)

/-- The state with a register's word replaced. -/
def State.setReg (s : State) (a : Nat) (w : Word) : State := { s with regs := tset s.regs a w (resetValue a) }

/-- The state with an RW-S register's acting word replaced. -/
def State.setAct (s : State) (a : Nat) (w : Word) : State := { s with act := tset s.act a w (resetValue a) }

/-- A field of a block's register, as held. -/
def State.rd (s : State) (base : Nat) (f : Fld) : Nat := f.of (s.reg (base + f.off))

/-- A field of a block's register, as it acts: an RW-S field acts with its committed value (R12). -/
def State.cfg (s : State) (base : Nat) (f : Fld) : Nat :=
  if f.acc = .rws then f.of (s.actReg (base + f.off)) else s.rd base f

/-- A one-bit field as held. -/
def State.flag (s : State) (base : Nat) (f : Fld) : Bool := s.rd base f != 0

/-- A one-bit field as it acts. -/
def State.on (s : State) (base : Nat) (f : Fld) : Bool := s.cfg base f != 0

/-- A field written by the device. -/
def State.wr (s : State) (base : Nat) (f : Fld) (v : Nat) : State :=
  s.setReg (base + f.off) (f.put (s.reg (base + f.off)) v)

/-- A field written by the device that acts at once as well (the plan load writing RW-S registers). -/
def State.wrBoth (s : State) (base : Nat) (f : Fld) (v : Nat) : State :=
  (s.wr base f v).setAct (base + f.off) (f.put (s.actReg (base + f.off)) v)

/-- A saturating counter advanced by n. -/
def State.bumpBy (s : State) (base : Nat) (f : Fld) (n : Nat) : State :=
  s.wr base f (sat f.top (s.rd base f + n))

/-- A saturating counter advanced by one. -/
def State.bump (s : State) (base : Nat) (f : Fld) : State := s.bumpBy base f 1

/-- A wrapping counter advanced by one. -/
def State.bumpWrap (s : State) (base : Nat) (f : Fld) : State := s.wr base f (s.rd base f + 1)

/-- A refused or discarded operation counted in a page's ERR_COUNT (R482). -/
def State.err (s : State) (page : Nat) : State := s.bump (pageBase page) HDR.ERR_COUNT

/-! ## Device state -/

/-- The code of a device state (R28). -/
def DevState.code : DevState → Nat
  | .reset => 0 | .strapped => 1 | .loaded => 2 | .armed => 3 | .syncing => 4
  | .running => 5 | .governed => 6 | .stalled => 7 | .spilled => 8 | .park => 9

/-- The device is in ARMED or a later state (R36, R180): the armed states, SPILLED, and PARK entered from ARMED. -/
def State.armedOrLater (s : State) : Bool :=
  match s.dev.st with
  | .armed | .syncing | .running | .governed | .stalled | .spilled => true
  | .park => s.sys.parkFrom == .armed
  | _ => false

/-- The device is in one of the armed states of R29 (ARMED to STALLED, and PARK entered from ARMED). -/
def State.isArmed (s : State) : Bool :=
  match s.dev.st with
  | .armed | .syncing | .running | .governed | .stalled => true
  | .park => s.sys.parkFrom == .armed
  | _ => false

/-- A cycle or revolution in progress is not used for learning (R82, R84). -/
def Tracker.spoil (x : Tracker) : Tracker := { x with rowClean := false, revOk := false }

/-- The state of the device that SYS.STATE, HEARTs and the host's window show. RESET is never read: from a warm or supply reset
until LOADED or STRAPPED it is the one the reset found (R28, R29). DESIGN CHOICE (log entry 187): no rule names the state
of that time. -/
def State.shown (s : State) : DevState := if s.dev.st = .reset then s.dev.found else s.dev.st

/-- PT restarts from 0, in both islands that count it (R19, R462). -/
def State.restartPt (s : State) : State := { s with pt := 0, sys := { s.sys with ptChk := 0 } }

/-- PT goes on by one tick, and so does Tracker B's check counter (R2, R19). -/
def State.countPt (s : State) : State :=
  { s with pt := (s.pt + 1) % 2 ^ 64, sys := { s.sys with ptChk := (s.sys.ptChk + 1) % 2 ^ 64 } }

/-- The device changes state; SYS.STATE.PREV keeps the state before (R489). Outside RUNNING nothing is learned (R82, R84). -/
def State.enter (s : State) (d : DevState) : State :=
  if s.dev.st = d then s
  else { s with
    dev := { s.dev with st := d, prev := if s.shown = d then s.dev.prev else s.shown }
    trk := if d = .running then s.trk else s.trk.map Tracker.spoil }

/-- This device's link ID: STRAP4 to STRAP2 as sampled (R469). -/
def State.linkId (s : State) : Nat := bits s.dev.straps.toNat 4 2

/-- A reset holds every block outside the retention domain (R455, R463, R465): a cold reset, WARM_N low, a supply out of
range, or after a loss of VDD_L no reference chosen yet (R459). -/
def State.held (s : State) : Bool :=
  s.sys.coldBusy || s.sys.vretDown || s.sys.resetNLow || s.sys.linkRst || s.sys.oscRetry || s.sys.warmLow ||
    !s.sys.supplyDown.isEmpty || (s.sys.lostL && s.sys.clkDue)

/-- No access can be made: a reset holds the interconnect, or PARK has stopped it (R465, R473). -/
def busStopped (s : State) : Bool := s.held || s.dev.st == .park

/-- PT stands: a debug freeze, a clock fault or a reset is in force (R493, R460, R462). -/
def State.ptStands (s : State) : Bool := s.sys.frozen || s.sys.clockFault || s.held

/-- An island is held in reset after its fault (R467): 0 and 1 the trackers', 2 the plan engine's, 3 the converters'. -/
def State.islandHeld (s : State) (n : Nat) : Bool := s.sys.islandRst.any (fun e => e.1 == n)

/-- The clock of a page's block is stopped by ENABLE = 0 (R484). -/
def State.clockOff (s : State) (page : Nat) : Bool :=
  [0x48, 0x50, 0x60, 0x69, 0x6A].contains page && !s.flag (pageBase page) HDR.CTRL_ENABLE

/-- A write to a block whose clock ENABLE stops is discarded and counted (R484). -/
def State.clocked (s : State) (page : Nat) (f : State → State) : State := if s.clockOff page then s.err page else f s

/-! ## Sources -/

/-- The page whose EVT_RAW carries a source, and the bit (R483). -/
def evtHome (src : Nat) : Option (Nat × Nat) :=
  match pageDirectory.find? (fun r => decide (r.src ≤ src) && decide (src < r.src + r.nsrc)) with
  | some r => some (r.page, src - r.src)
  | none => none

/-- The sources of blocks on the D-die (R13, R375, R488). WHLn_PHASE is raised by a tracker, on the L-die (R67). -/
def dDieSource (src : Nat) : Bool :=
  (decide (16 ≤ src) && decide (src < 32) && decide (src % 4 ≠ 2)) || (decide (64 ≤ src) && decide (src < 149)) ||
    (decide (160 ≤ src) && decide (src < 176))

/-- EVT_RAW of the source's page takes its bit (R483). -/
def State.setRaw (s : State) (src : Nat) : State :=
  match evtHome src with
  | none => s
  | some (pg, k) =>
    s.setReg (pageBase pg + 0x10) (s.reg (pageBase pg + 0x10) ||| toWord (2 ^ k))

/-- An event goes on its way to the Catchment, once per source and tick (R375). -/
def State.sendEvt (s : State) (src : Nat) : State :=
  if s.inFlight.any (fun e => decide (e.src = src) && decide (e.raisedAt = s.tick)) then s
  else { s with inFlight := s.inFlight ++ [⟨src, s.tick, s.tick + (if dDieSource src then 5 else 1)⟩] }

/-- A freeze is asked for with a cause, to begin in a later tick (R493). -/
def State.askFreeze (s : State) (cause : Nat) : State :=
  { s with sys := { s.sys with
      freezeReq := cause, freezeReqAt := if s.sys.freezeReq = 0 then s.tick else s.sys.freezeReqAt } }

/-- The raising of the source DBG.BRK_CFG names asks for a freeze (R493). -/
def State.brkSource (s : State) (src : Nat) : State :=
  if s.on DBG.base DBG.BRK_CFG_SRC_EN ∧ s.cfg DBG.base DBG.BRK_CFG_SRC = src ∧
      s.sys.frozen = false ∧ s.sys.freezeReq = 0 then
    s.askFreeze 3
  else s

/-- A source is raised (R375, R483, R493). -/
def State.raise (s : State) (src : Nat) : State := ((s.setRaw src).sendEvt src).brkSource src

/-- A source raised on a condition. -/
def State.raiseIf (s : State) (c : Bool) (src : Nat) : State := if c then s.raise src else s

/-- A flag bit of a fault register set; the source is raised when the bit changes from 0 to 1 (R524). -/
def State.setFault (s : State) (base : Nat) (f : Fld) (src : Nat) : State :=
  if s.flag base f then s else (s.wr base f 1).raise src

/-! ## Units -/

/-- A wheel front end replaced. -/
def State.updWheel (s : State) (w : Fin 4) (f : Wheel → Wheel) : State :=
  { s with wheels := s.wheels.set w (f s.wheels[w]) }

/-- A tracker replaced. -/
def State.updTrk (s : State) (t : Fin 2) (f : Tracker → Tracker) : State :=
  { s with trk := s.trk.set t (f s.trk[t]) }

/-- The plan engine replaced. -/
def State.updPlan (s : State) (f : Plan → Plan) : State := { s with plan := f s.plan }

/-- The Headgate replaced. -/
def State.updHdg (s : State) (f : Headgate → Headgate) : State := { s with hdg := f s.hdg }

/-- The device record replaced. -/
def State.updDev (s : State) (f : Device → Device) : State := { s with dev := f s.dev }

/-- A bank replaced. -/
def State.updBank (s : State) (b : Fin 16) (f : Bank → Bank) : State := { s with banks := s.banks.set b (f s.banks[b]) }

/-- A shaper replaced. -/
def State.updShp (s : State) (b : Fin 16) (f : Shaper → Shaper) : State := { s with shp := s.shp.set b (f s.shp[b]) }

/-- A converter replaced. -/
def State.updConv (s : State) (k : Fin 4) (f : Converter → Converter) : State := { s with conv := s.conv.set k (f s.conv[k]) }

/-- A PWM generator replaced. -/
def State.updPwm (s : State) (n : Fin 16) (f : PwmGen → PwmGen) : State := { s with pwm := s.pwm.set n (f s.pwm[n]) }

/-- A timer replaced. -/
def State.updTmr (s : State) (n : Fin 16) (f : Timer → Timer) : State := { s with tmr := s.tmr.set n (f s.tmr[n]) }

/-- A Runnel engine replaced. -/
def State.updRnl (s : State) (e : Fin 8) (f : Runnel → Runnel) : State := { s with rnl := s.rnl.set e (f s.rnl[e]) }

/-- A core replaced. -/
def State.updCore (s : State) (c : Fin 4) (f : Core → Core) : State := { s with cores := s.cores.set c (f s.cores[c]) }

/-- A Flume channel replaced. -/
def State.updFlume (s : State) (c : Fin 32) (f : FlumeChan → FlumeChan) : State :=
  { s with flume := s.flume.set c (f s.flume[c]) }

/-- The link replaced. -/
def State.updLink (s : State) (f : Link → Link) : State := { s with link := f s.link }

/-- A link port replaced. -/
def State.updPort (s : State) (p : Fin 2) (f : LinkPort → LinkPort) : State :=
  s.updLink (fun l => { l with ports := l.ports.set p (f l.ports[p]) })

/-- The host ports replaced. -/
def State.updHost (s : State) (f : HostPorts → HostPorts) : State := { s with host := f s.host }

/-- The system units replaced. -/
def State.updSys (s : State) (f : Sys → Sys) : State := { s with sys := f s.sys }

/-- The low 32 bits of PT. -/
def State.ptLo (s : State) : Nat := s.pt % 2 ^ 32

/-- The next free value's index: the counter advances. -/
def State.drawFree (s : State) : Nat × State := (s.free, { s with free := s.free + 1 })

/-- A list of things folded over the state. -/
def foldS {α : Type} (l : List α) (f : α → State → State) (s : State) : State := l.foldl (fun s x => f x s) s

/-- The acting word after a committed shadow has acted. -/
def CommitPend.acts (c : CommitPend) (old : Word) : Word := (c.value &&& c.mask) ||| (old &&& ~~~c.mask)

/-- The committed shadows a test picks act; the others wait on (R486). -/
def State.actWhere (p : CommitPend → Bool) (s : State) : State :=
  let mine := s.committed.filter p
  let s := { s with committed := s.committed.filter (fun c => !p c) }
  foldS mine (fun c s => s.setAct c.addr (c.acts (s.actReg c.addr))) s

/-- A register's shadow is committed, replacing a commit of it that has not acted (R486). -/
def State.pendCommit (w : ActsAt) (a : Nat) (v : Word) (s : State) : State :=
  { s with committed := s.committed.filter (fun c => c.addr != a) ++ [⟨w, s.tick, a, v, BitVec.allOnes 32⟩] }

/-! ## Triggers (R281, R314, R325, R329) -/

/-- A trigger goes on its way to a destination. -/
def State.sendTrig (s : State) (dest delay : Nat) : State := { s with trigs := s.trigs ++ [⟨dest, s.pt + delay⟩] }

/-- An event of the timers' source table goes to the timers that take it, a number of ticks from now (R325). -/
def State.fireIn (s : State) (code delay : Nat) : State :=
  foldS (List.range 16) (fun n s =>
    let s := if s.cfg (TMN.base n) TMN.CFG_TSRC = code then s.sendTrig (16 + n) delay else s
    if s.cfg (TMN.base n) TMN.CAP_CFG_CSRC = code ∧ s.cfg (TMN.base n) TMN.CAP_CFG_EDGE ≠ 0 then s.sendTrig (32 + n) delay else s) s

/-- An event of the timers' source table fires: it reaches the timers that take it in the next tick (R325). -/
def State.fire (s : State) (code : Nat) : State := s.fireIn code 1

/-- A converter trigger source fires: it reaches the open slots that take it 10 ns later at the earliest (R314, R329). -/
def State.fireConv (s : State) (code : Nat) : State :=
  foldS (List.range 16) (fun j s =>
    if s.cfg (CSLOT.base (j / 4) (j % 4)) CSLOT.TRG_CFG_SRC = code then s.sendTrig j 4 else s) s

/-- A trigger has arrived at a destination: the oldest one on its way there is gone. -/
def State.takeTrig (s : State) (dest : Nat) : State :=
  match s.trigs.find? (fun t => t.dest == dest) with
  | some t => { s with trigs := s.trigs.erase t }
  | none => s

/-- The other tracker. -/
def otherTrk (t : Fin 2) : Fin 2 := if t = 0 then 1 else 0

/-! ## Paths (R412) -/

/-- What is known of a device heard over the link. -/
def heardOf (s : State) (d : Nat) : Option HeardDev := (s.link.heard.find? (fun e => e.1 == d)).map (·.2)

/-- PATH of a device: 0 where none has been heard. -/
def pathOf (s : State) (d : Nat) : Nat := match heardOf s d with | some h => h.path | none => 0

end Sys2Proof.Machine
end

