-- ==== Sys2Proof/Machine/Memory.lean ====
section
/-! DEFINITION. Memory: the bytes, the DEC-TED word of R436 and R437, poison (R438, R443), corrections (R440) and
the accesses the other units are built from. Bytes stand in the order of R153, lowest address least significant.
A stored word is the codeword of the data `mem` holds, with the positions of its error pattern inverted. The code is
linear, so the syndromes of the stored word are those of the pattern. -/

namespace Sys2Proof.Machine

/-! ## Bytes -/

/-- The value an address reads as when nothing has written it (R463: the cold reset writes 0 to the plan memories;
for the other memories log entry 3). -/
def memDefault : Byte := 0

/-- One byte of memory as data. -/
def State.byte (s : State) (a : Nat) : Byte := tget s.mem a memDefault

/-- The memory with one byte written, in canonical form. -/
def memSet (m : List Host.Cell) (a : Nat) (v : Byte) : List Host.Cell := tset m a v memDefault

/-- n bytes from an address as a number, lowest address least significant. -/
def State.leBytes (s : State) (a : Nat) : Nat → Nat
  | 0 => 0
  | n + 1 => (s.byte a).toNat + 256 * s.leBytes (a + 1) n

/-- The memory with the n low bytes of a number stored from an address. -/
def memPut (m : List Host.Cell) (a : Nat) : Nat → Nat → List Host.Cell
  | 0, _ => m
  | n + 1, v => memPut (memSet m a (BitVec.ofNat 8 v)) (a + 1) n (v / 256)

/-- The number a list of bytes spells, first byte least significant. -/
def leNat : List Byte → Nat
  | [] => 0
  | b :: bs => b.toNat + 256 * leNat bs

/-- The canonical form of the memory: addresses strictly rising, no listed byte equal to the default. -/
def Memory.wf (m : List Host.Cell) : Bool := tableWf (fun _ => memDefault) m

/-! ## The code of R436 -/

/-- Multiplication by x in GF(2^7) with x^7 + x^3 + 1. -/
def gfX (a : Nat) : Nat := if 64 ≤ a then (2 * a) ^^^ 0x89 else 2 * a

/-- The power of the root: alpha^i. -/
def gfPow : Nat → Nat
  | 0 => 1
  | i + 1 => gfX (gfPow i)

/-- The powers alpha^0 to alpha^126. -/
def gfTable : List Nat := (List.range 127).map gfPow

/-- alpha^i for any i. -/
def alpha (i : Nat) : Nat := gfTable.getD (i % 127) 0

/-- Syndrome k (1 or 3) of an error pattern over code positions 0 to 77. -/
def syndrome (k e : Nat) : Nat :=
  (List.range 78).foldl (fun x i => if e.testBit i then x ^^^ alpha (k * i) else x) 0

/-- The parity Pe of bits 78..0 of a pattern. -/
def parityOf (e : Nat) : Bool := (List.range 79).foldl (fun x i => x != e.testBit i) false

/-- What a read of a stored word finds (R437). -/
inductive Ecc
  | clean
  | corrected (pos1 : Nat) (pos2 : Option Nat)
  | uncorrectable
  deriving DecidableEq, Repr

/-- Decoding an error pattern (R437): the positions corrected, P being position 78. With Pe = 0 the two bits are two
code positions, or one code position and P: any error of up to two bits, including P, is corrected. -/
def eccDecode (e : Nat) : Ecc :=
  if e = 0 then .clean
  else
    let s1 := syndrome 1 e
    let s3 := syndrome 3 e
    match decide (s1 = 0 ∧ s3 = 0), parityOf e with
    | true, false => .clean
    | true, true => .corrected 78 none
    | false, true =>
      match (List.range 78).find? (fun i => alpha i == s1 && alpha (3 * i) == s3) with
      | some i => .corrected i none
      | none => .uncorrectable
    | false, false =>
      match (List.range 78).find? (fun i =>
          (List.range i).any (fun j => (alpha i ^^^ alpha j) == s1 && (alpha (3 * i) ^^^ alpha (3 * j)) == s3)) with
      | some i =>
        match (List.range i).find? (fun j =>
            (alpha i ^^^ alpha j) == s1 && (alpha (3 * i) ^^^ alpha (3 * j)) == s3) with
        | some j => .corrected j (some i)
        | none => .uncorrectable
      | none =>
        match (List.range 78).find? (fun i => alpha i == s1 && alpha (3 * i) == s3) with
        | some i => .corrected i (some 78)
        | none => .uncorrectable

/-- The pattern left after the correction a read makes. -/
def eccResidue (e : Nat) : Nat :=
  match eccDecode e with
  | .corrected p none => e ^^^ 2 ^ p
  | .corrected p (some q) => e ^^^ 2 ^ p ^^^ 2 ^ q
  | _ => e

/-- The pattern of a poisoned word: C0, C1 and C2 inverted after P was computed (R438). -/
def poisonPattern : Nat := 7

/-! ## Regions (R434) -/

/-- The regions of R434. -/
inductive Region
  | sram (b : Nat) | actions | journal | queue | slots | microcode
  | imem (n : Nat) | dmem (n : Nat) | coreCtl (n : Nat) | pages | peer (d : Nat)
  deriving DecidableEq, Repr

/-- The region of an address, if any (R434, R435). -/
def regionOf (a : Nat) : Option Region :=
  if a < 0x100000 then some (.sram (a / 0x40000))
  else if a < 0x140000 then some .actions
  else if a < 0x150000 then some .journal
  else if a < 0x154000 then some .queue
  else if a < 0x158000 then some .slots
  else if 0x180000 ≤ a ∧ a < 0x184000 then some .microcode
  else if 0x200000 ≤ a ∧ a < 0x300000 then
    let n := (a - 0x200000) / 0x40000
    let o := (a - 0x200000) % 0x40000
    if o < 0x10000 then some (.imem n)
    else if 0x20000 ≤ o ∧ o < 0x30000 then some (.dmem n)
    else if 0x30000 ≤ o then some (.coreCtl n)
    else none
  else if 0x400000 ≤ a ∧ a < 0x480000 then some .pages
  else if 0x10000000 ≤ a ∧ a < 0x18000000 then some (.peer ((a - 0x10000000) / 0x1000000))
  else none

/-- The crossbar port of a region (R434). -/
def Region.port : Region → Nat
  | .sram b => b
  | .imem n | .dmem n | .coreCtl n => 4 + n
  | .actions | .journal | .queue | .slots | .microcode => 8
  | .pages => 9
  | .peer _ => 10

/-- An address lies in a DEC-TED region (R434). -/
def isDecTed (a : Nat) : Bool := decide (a < 0x158000)

/-! ## Reading a DEC-TED word -/

/-- The error pattern stored with the word at index w (address / 8). -/
def State.pattern (s : State) (w : Nat) : Nat := tget s.memErr w 0

/-- The data bits of a word as a read delivers them, after any correction (R437). -/
def State.wordData (s : State) (w : Nat) : Nat :=
  s.leBytes (8 * w) 8 ^^^ (bits (eccResidue (s.pattern w)) 77 14)

/-- A word reads as uncorrectable. -/
def State.wordBad (s : State) (w : Nat) : Bool := eccDecode (s.pattern w) == .uncorrectable

/-- The syndrome register layout of R449. -/
def synWord (e : Nat) : Nat :=
  let nb := match eccDecode e with | .corrected _ (some _) => 2 | .corrected _ none => 1 | _ => 0
  let p1 := match eccDecode e with | .corrected p _ => p | _ => 127
  let p2 := match eccDecode e with | .corrected _ (some q) => q | _ => 127
  nb * 2 ^ 30 + p2 * 2 ^ 23 + p1 * 2 ^ 16 + (b2n (parityOf e)) * 2 ^ 15 + syndrome 3 e * 2 ^ 8 + syndrome 1 e

/-- A word stored clean with these data bits. -/
def storeClean (w d : Nat) (s : State) : State :=
  { s with mem := memPut s.mem (8 * w) 8 d, memErr := tset s.memErr w 0 0 }

/-- A word stored poisoned with these data bits (R438). -/
def storePoisoned (w d : Nat) (s : State) : State :=
  { s with mem := memPut s.mem (8 * w) 8 d, memErr := tset s.memErr w poisonPattern 0 }

/-- The bookkeeping of a correction (R440): counters, address, syndromes, source 12, and the write-back queue, which the
address of every such read enters while there is room. -/
def noteCorrected (w : Nat) (s : State) : State :=
  let a := 8 * w
  let sum := fun (s : State) => s.rd MEM.base MEM.CE_CNT_SRAM + s.rd MEM.base MEM.CE_CNT_PLAN
  let before := sum s
  let port := if a < 0x100000 then a / 0x40000 else 8
  let s := if a < 0x100000 then s.bump MEM.base MEM.CE_CNT_SRAM else s.bump MEM.base MEM.CE_CNT_PLAN
  let s := s.setReg (MEM.base + 0x48) (toWord a)
  let s := s.setReg (MEM.base + 0x4C) (toWord (synWord (s.pattern w)))
  let s :=
    if (s.memc.wb.filter (fun e => e.1 == port)).length < 4 then
      { s with memc := { s.memc with wb := s.memc.wb ++ [(port, a)] } }
    else s.bump MEM.base MEM.WB_LOST_COUNT
  let lv := s.rd MEM.base MEM.CE_HWM_LEVEL
  s.raiseIf (decide (lv ≠ 0) && decide (before / lv < sum s / lv)) 12

/-- The bookkeeping of an uncorrectable finding (R439), and its poisoning (R438), the slot region apart (R443). -/
def noteUncorrectable (w : Nat) (s : State) : State :=
  let a := 8 * w
  let e := s.pattern w
  let raw := s.leBytes a 8 ^^^ bits e 77 14
  let s := if a < 0x100000 then s.bump MEM.base MEM.UE_CNT_SRAM else s.bump MEM.base MEM.UE_CNT_PLAN
  let s := s.setReg (MEM.base + 0x50) (toWord a)
  let s := s.setReg (MEM.base + 0x54) (toWord (synWord e))
  let s := s.raise (if 0x140000 ≤ a ∧ a < 0x154000 then 61 else 13)
  let s := if 0x140000 ≤ a ∧ a < 0x150000 then s.wr JRN.base JRN.STAT_POISON 1 else s
  if 0x154000 ≤ a ∧ a < 0x158000 then
    let k := (a - 0x154000) / 4
    { storeClean w raw s with slotPoison := tset (tset s.slotPoison k 1 0) (k + 1) 1 0 }
  else storePoisoned w raw s

/-- A read of a DEC-TED word by an initiator: its data bits and whether they are poisoned (R437 to R440, R443).
For a slot word the poison bit of the slot asked for decides. -/
def readWord (w : Nat) (s : State) : (Nat × Bool) × State :=
  match eccDecode (s.pattern w) with
  | .clean => ((s.wordData w, false), s)
  | .corrected _ _ => ((s.wordData w, false), noteCorrected w s)
  | .uncorrectable => ((s.wordData w, true), noteUncorrectable w s)

/-- The poison bit of slot k is set (R443). -/
def slotBad (s : State) (k : Nat) : Bool := tget s.slotPoison k 0 != 0

/-- n bytes at an address inside one DEC-TED word (R439). -/
def readDec (a n : Nat) (s : State) : (Nat × Bool) × State :=
  let r := readWord (a / 8) s
  let slotHit := decide (0x154000 ≤ a) && decide (a < 0x158000) &&
    ((slotBad r.2 ((a - 0x154000) / 4)) || (decide (4 < n + a % 4) && slotBad r.2 ((a - 0x154000) / 4 + 1)))
  (((r.1.1 / 2 ^ (8 * (a % 8))) % 2 ^ (8 * n), (if 0x154000 ≤ a then slotHit else r.1.2)), r.2)

/-- The pattern an armed injection leaves at a full write of a word (R449). -/
def injPattern (s : State) (w : Nat) : Nat :=
  if s.flag MEM.base MEM.INJ_CTL_ARM ∧ s.rd MEM.base MEM.INJ_ADDR_ADDR = w then
    [MEM.INJ_CTL_POS1, MEM.INJ_CTL_POS2, MEM.INJ_CTL_POS3].foldl
      (fun e f => if s.rd MEM.base f < 79 then e ^^^ 2 ^ s.rd MEM.base f else e) 0
  else 0

/-- An initiator has written a word: what the scrubber read there is not written back (R441). -/
def dropScrub (w : Nat) (s : State) : State :=
  { s with memc := { s.memc with
    wb := s.memc.wb.filter (fun e => e.2 != 8 * w)
    prio := (s.memc.prio.map (fun e =>
      if 0x20000 + 2 * e.1 = w then (e.1, e.2 &&& 2) else if 0x20001 + 2 * e.1 = w then (e.1, e.2 &&& 1) else e)).filter
      (fun e => e.2 != 0) } }

/-- An action entry is posted for a priority rewrite of both its words (R442). -/
def postEntry (i : Nat) (s : State) : State :=
  if s.memc.prio.any (fun e => e.1 == i) then
    { s with memc := { s.memc with prio := s.memc.prio.map (fun e => if e.1 = i then (i, 3) else e) } }
  else { s with memc := { s.memc with prio := s.memc.prio ++ [(i, 3)] } }

/-- A full write of a DEC-TED word (R438, R449). -/
def writeFull (w d : Nat) (s : State) : State :=
  let e := injPattern s w
  let hit := s.flag MEM.base MEM.INJ_CTL_ARM && decide (s.rd MEM.base MEM.INJ_ADDR_ADDR = w)
  let s := { storeClean w d s with memErr := tset s.memErr w e 0 }
  let s := if hit then s.wr MEM.base MEM.INJ_CTL_ARM 0 else s
  let s := dropScrub w s
  if 0x154000 ≤ 8 * w ∧ 8 * w < 0x158000 then
    let k := (8 * w - 0x154000) / 4
    { s with slotPoison := tset (tset s.slotPoison k 0 0) (k + 1) 0 0 }
  else s

/-- A partial write of a DEC-TED word: read, merge, rewrite; a poisoned or uncorrectable word stays poisoned (R438). -/
def writePart (a n v : Nat) (s : State) : State :=
  let w := a / 8
  let merge := fun (d : Nat) =>
    d - bits d (8 * (a % 8) + 8 * n - 1) (8 * (a % 8)) * 2 ^ (8 * (a % 8)) + (v % 2 ^ (8 * n)) * 2 ^ (8 * (a % 8))
  dropScrub w (match eccDecode (s.pattern w) with
  | .clean => storeClean w (merge (s.wordData w)) s
  | .corrected _ _ => storeClean w (merge (s.wordData w)) (noteCorrected w s)
  | .uncorrectable =>
    if s.pattern w = poisonPattern ∧ a < 0x154000 then storePoisoned w (merge (s.leBytes (8 * w) 8)) s
    else
      let s := noteUncorrectable w s
      if 0x154000 ≤ a then storeClean w (merge (s.leBytes (8 * w) 8)) s
      else storePoisoned w (merge (s.leBytes (8 * w) 8)) s)

/-- n bytes written at an address inside one DEC-TED word. -/
def writeDec (a n v : Nat) (s : State) : State :=
  if n = 8 ∧ a % 8 = 0 then writeFull (a / 8) v s else writePart a n v s

/-- A word the device itself writes: a full write like any other, clean but for an armed injection (R438, R449). -/
def putWord (a d : Nat) (s : State) : State := writeFull (a / 8) d s

/-! ## SEC-DED words (R434) -/

/-- Bad bits of the SEC-DED word at an address. -/
def secBad (s : State) (a : Nat) : Nat := tget s.memc.secErr a 0

/-- An uncorrectable microcode word is found, by whichever reader (R268, R439): its address, and as a finding at port 8 its
count, address and syndromes, of which its code gives no stated value (log entry 174); source 13. -/
def noteMicrocode (j : Nat) (s : State) : State :=
  let d := s.drawFree
  let v := (Config.secSyndromes d.1).toNat
  let s := (d.2.wr SHP.base SHP.STORE_UADDR j).bump MEM.base MEM.UE_CNT_PLAN
  let s := s.setReg (MEM.base + 0x50) (toWord (0x180000 + 4 * j))
  (s.setReg (MEM.base + 0x54) (toWord (0x3FFF0000 + v / 128 * 256 + v % 128))).raise 13

/-- Bytes of a SEC-DED memory written whole: the word is good again. -/
def writeSec (a n v : Nat) (s : State) : State :=
  { s with mem := memPut s.mem a n v, memc := { s.memc with secErr := tset s.memc.secErr a 0 0 } }

/-! ## Beats counted at a port (R444, R450) -/

/-- The initiator BUSMAP names at a port in the cycle of a PT (R131, R172); 0 none. -/
def namedAt (s : State) (port t : Nat) : Nat := (tget s.plan.busmap port []).getD (t % 64) 0

/-- A port has moved its one beat of the cycle of a PT (R444). -/
def beatTaken (s : State) (port t : Nat) : Bool := s.memc.beats.contains (port, t)

/-- A port moves its beat of the cycle of a PT. -/
def markBeat (port t : Nat) (s : State) : State := { s with memc := { s.memc with beats := s.memc.beats ++ [(port, t)] } }

/-- The beats of long ago are forgotten, with the cycles won then and not used, and those of a cycle in which PT stood. -/
def beatsEnd (s : State) : State :=
  { s with memc := { s.memc with
    beats := s.memc.beats.filter (fun e => decide (s.pt < e.2 + 64) && !(s.ptStands && decide (e.2 = s.pt)))
    grants := s.memc.grants.filter (fun g => decide (s.pt < g.2.1 + 64)) } }

/-- A beat of an initiator is counted at the port MON_SEL names, as plan, open or lent (R450). While PT stands every cycle
is open (R493). -/
def countBeat (port code t : Nat) (s : State) : State :=
  if s.rd XBAR.base XBAR.MON_SEL_PORT ≠ port then s
  else if s.ptStands = true ∨ namedAt s port t = 0 then s.bumpWrap XBAR.base XBAR.MON_OPEN_BEATS
  else if namedAt s port t = code then s.bumpWrap XBAR.base XBAR.MON_PLAN_BEATS
  else s.bumpWrap XBAR.base XBAR.MON_LENT_BEATS

/-- A port serves an initiator in the cycle of a PT. -/
def beatAt (port code t : Nat) (s : State) : State := countBeat port code t (markBeat port t s)

/-- A port serves an initiator in the present cycle. -/
def monBeat (port code : Nat) (s : State) : State := beatAt port code s.pt s

/-! ## Bus errors (R435) -/

/-- The initiator codes of R444. -/
def initCode : Initiator → Nat
  | .core n => 1 + n.val | .hps => 0x10 | .hpq => 0x11 | .link => 0x12 | .fl => 0x13
  | .planEngine => 0x14 | .scrubber => 0x15 | .flume c => 0x20 + c.val | .writer => 0x40

/-- A bus error reaches an initiator: recorded, source 14 raised, no access made (R435). -/
def busError (init : Initiator) (a : Nat) (write : Bool) (s : State) : State :=
  let s := s.setReg (MEM.base + 0x70) (toWord a)
  let s := s.setReg (MEM.base + 0x74) (toWord (2 ^ 31 + b2n write * 256 + initCode init))
  { (s.raise 14) with respData := [], respErr := true }

end Sys2Proof.Machine
end

