-- ==== Sys2Proof/Machine/Wheels.lean ====
section
/-! DEFINITION. The wheel front ends and the pattern tables (chapter 02, R35 to R52). -/

namespace Sys2Proof.Machine

/-! ## Pattern entries (R51) -/

/-- One crank revolution in au. -/
def revAu : Nat := 23592960

/-- A pattern entry's NOMINAL. -/
def entNominal (e : Nat) : Nat := bits e 25 0
/-- A pattern entry's KIND. -/
def entKind (e : Nat) : Nat := bits e 29 26
/-- A pattern entry's MISS. -/
def entMiss (e : Nat) : Nat := bits e 34 32
/-- A pattern entry's SIG, signed au. -/
def entSig (e : Nat) : Int := signed 16 (bits e 63 48)

/-- Entry i of wheel w's pattern table. -/
def State.pat (s : State) (w i : Nat) : Nat := tget s.ptab (1024 * w + i) 0

/-- The data an access returns to its initiator. -/
def State.respond (s : State) (d : Word) : State := { s with respData := [d], respErr := false }

/-- INDEX advances with AUTOINC, from 1,023 to 0 (R47). -/
def ptabAdvance (s : State) : State :=
  if s.flag WHL.base WHL.PTAB_ADDR_AUTOINC then
    s.wr WHL.base WHL.PTAB_ADDR_INDEX ((s.rd WHL.base WHL.PTAB_ADDR_INDEX + 1) % 1024)
  else s

/-- The key of the entry PTAB_ADDR names. -/
def ptabKey (s : State) : Nat :=
  1024 * s.rd WHL.base WHL.PTAB_ADDR_WHEEL + s.rd WHL.base WHL.PTAB_ADDR_INDEX

/-- PTAB_DATA_LO_WRITE (R47): the low word is held. -/
def ptabLoWrite (v : Word) (s : State) : State := { s with ptabLo := v }

/-- PTAB_DATA_HI_WRITE (R47, R50): stores the whole entry, or is refused while armed. -/
def ptabHiWrite (v : Word) (s : State) : State :=
  if s.armedOrLater then s.err 0x04
  else ptabAdvance { s with ptab := tset s.ptab (ptabKey s) (v.toNat * 2 ^ 32 + s.ptabLo.toNat) 0 }

/-- PTAB_DATA_LO_READ (R47): the read snapshots the whole entry. -/
def ptabLoRead (s : State) : State :=
  let e := tget s.ptab (ptabKey s) 0
  { s with ptabSnap := e }.respond (toWord e)

/-- PTAB_DATA_HI_READ (R47): returns the snapshot's high word and advances INDEX. -/
def ptabHiRead (s : State) : State :=
  (ptabAdvance s).respond (toWord (s.ptabSnap / 2 ^ 32))

/-- STAMP_LO_READ (R47): returns the low word of the last stamp and snapshots STAMP_HI. -/
def stampLoRead (w : Fin 4) (s : State) : State :=
  let st := s.wheels[w].lastStamp
  (s.setReg (WHN.base w + 0x1C) (toWord (st / 2 ^ 32))).respond (toWord st)

/-! ## Internal faults of a tracker (R89) -/

/-- A PT counter that has failed its residue check is remembered until it is reloaded (R468). -/
def notePtFailed (t : Fin 2) (k : Nat) (s : State) : State :=
  if k = 0 then s.updSys (fun y => { y with ptFailed := y.ptFailed ||| 2 ^ (2 + t.val) }) else s

/-- A bit of IFAULT sets; an enabled bit raises source 36 or 44 when it changes from 0 to 1 (R98). -/
def setIfault (t : Fin 2) (k : Nat) (s : State) : State :=
  let s := notePtFailed t k s
  let a := TRK.base t + 0x104
  if bit (s.reg a).toNat k then s
  else
    let s := s.setReg a (s.reg a ||| toWord (2 ^ k))
    let on := decide (k < 6) && bit (s.cfg (TRK.base t) TRK.IFAULT_MASK_MASK) k
    let s := if on then s.updTrk t Tracker.spoil else s
    s.raiseIf on (36 + 8 * t.val)

/-- An enabled internal fault of a tracker: a set IFAULT bit that IFAULT_MASK enables (R89). -/
def hasIfault (s : State) (t : Fin 2) : Bool :=
  ((s.reg (TRK.base t + 0x104)).toNat % 64) &&& s.cfg (TRK.base t) TRK.IFAULT_MASK_MASK != 0

/-- A FAULT bit of a wheel sets: source 16 + 4n on a change (R70), and IFAULT.WHEEL of every tracker whose crank
wheel it is (R89). -/
def wheelFault (w : Fin 4) (f : Fld) (s : State) : State :=
  let s := s.setFault (WHN.base w) f (16 + 4 * w.val)
  foldS [0, 1] (fun (t : Fin 2) s =>
    if s.cfg (TRK.base t) TRK.CFG_TEETH ≠ 0 ∧ s.cfg (TRK.base t) TRK.CFG_CRANK = w.val then setIfault t 5 s else s) s

/-! ## Accepting an edge -/

/-- The front end works: the device is not in RESET (R36) and its clock runs. -/
def frontEndLive (s : State) : Bool := s.dev.st != .reset && !s.sys.clockFault

/-- A debug freeze discards the edge and counts it (R493). -/
def freezeEdge (s : State) : State := s.bump DBG.base DBG.FRZ_CNT_EDGES

/-- The word of a wheel's shadowed register that acts on an edge with a stamp (R48): a COMMIT acts from the first edge
stamped after its tick, whenever that edge counts. -/
def wheelWordAt (s : State) (w : Fin 4) (off stamp : Nat) : Word :=
  match s.wheels[w].past.find? (fun e => decide (e.2.1 = off) && decide (stamp < e.1)) with
  | some e => e.2.2
  | none => s.actReg (WHN.base w + off)

/-- A field of such a register. -/
def wheelCfgAt (s : State) (w : Fin 4) (f : Fld) (stamp : Nat) : Nat := f.of (wheelWordAt s w f.off stamp)

/-- The longest time between an edge's stamp and its counting: FILT at its greatest (R42, R47). -/
def filtMax : Nat := 4000

/-- A new value of a wheel's shadowed register acts: the old one is kept for edges stamped before (R48). -/
def keepWheelWord (w : Fin 4) (off : Nat) (old : Word) (s : State) : State :=
  s.updWheel w (fun x => { x with past := x.past.filter (fun e => decide (s.pt ≤ e.1 + filtMax)) ++ [(s.pt, off, old)] })

/-- The duty class of a tooth completed by an edge with a stamp (R45): the greatest k whose boundary the duty has
reached. -/
def widthClass (s : State) (w : Fin 4) (h period stamp : Nat) : Nat :=
  let d := 256 * h / period
  let b := wheelCfgAt s w WHN.WCLS_A_B stamp + wheelCfgAt s w WHN.WCLS_B_B stamp * 2 ^ 32
  ((List.range 8).filter (fun k => k = 0 || decide (bits b (8 * k - 1) (8 * (k - 1)) ≤ d))).getLastD 0

/-- Tracker A takes its angle from the link (R423). -/
def following (s : State) : Bool := s.on LINK.base LINK.CFG_FOLLOW

/-- A tracker that is on uses wheel w as its crank wheel; in link mode no wheel is Tracker A's (R425). -/
def cranksOn (s : State) (t : Fin 2) (w : Fin 4) : Bool :=
  decide (s.cfg (TRK.base t) TRK.CFG_TEETH ≠ 0) && decide (s.cfg (TRK.base t) TRK.CFG_CRANK = w.val) &&
    !(decide (t = 0) && following s)

/-- A tracker uses edges of wheel w: as its crank wheel, as its cam wheel, or to measure phase on it (R66). In link
mode Tracker A takes no edge of the wheels its CFG names (R425). -/
def trackerUses (s : State) (t : Fin 2) (w : Fin 4) : Bool :=
  s.trk[t].acq != .off && !(decide (t = 0) && following s && (decide (s.cfg (TRK.base t) TRK.CFG_CRANK = w.val) ||
    decide (s.cfg (TRK.base t) TRK.CFG_CAM = w.val))) &&
    (decide (s.cfg (TRK.base t) TRK.CFG_CRANK = w.val) ||
      (s.on (TRK.base t) TRK.CFG_CAM_EN && decide (s.cfg (TRK.base t) TRK.CFG_CAM = w.val)) ||
      s.on (TRKPH.base t w) TRKPH.PH_CFG_EN)

/-- The edge goes to every tracker that uses the wheel (R20, R36). -/
def deliverEdge (w : Fin 4) (e : EdgeIn) (s : State) : State :=
  foldS [0, 1] (fun (t : Fin 2) s =>
    if trackerUses s t w then s.updTrk t (fun x => { x with edges := x.edges ++ [e] }) else s) s

/-- A front end accepts a tooth edge with its stamp (R35 to R37): the WHLn registers, the width class of the tooth it
completes, WVALID 0 where that has none (R45, R47), source 17 + 4n, and the edge on its way to the trackers, and 10 ns before
to the timers (R325). `delay` is how long after its stamp the edge reaches a tracker's update (R20). The first crank edge takes an armed device to SYNCING (R29). -/
def acceptEdge (w : Fin 4) (stamp delay : Nat) (s : State) : State :=
  let x := s.wheels[w]
  let period := stamp - x.lastStamp
  let b := WHN.base w
  let cls : Option Nat := match x.seen, x.high with
    | true, some h => if period = 0 then none else some (widthClass s w h period stamp)
    | _, _ => none
  let s := if x.seen then
      let s := s.wr b WHN.PERIOD_TICKS (sat (2 ^ 32 - 1) period)
      if period < 8000 then
        foldS [0, 1] (fun (t : Fin 2) s => if cranksOn s t w then s.updTrk t Tracker.spoil else s)
          (wheelFault w WHN.FAULT_OVERRATE s)
      else s
    else s
  let s := match cls with
    | some k => (s.wr b WHN.CLASS_WCLASS k).wr b WHN.CLASS_WVALID 1
    | none => s.wr b WHN.CLASS_WVALID 0
  let s := s.wr b WHN.STAMP_LO_PT stamp
  let s := s.bumpWrap b WHN.EDGE_CNT_COUNT
  let s := s.updWheel w (fun x => { x with seen := true, lastStamp := stamp, high := none })
  let s := (s.raise (17 + 4 * w.val)).fireIn (0x58 + w.val) (stamp + delay - 4 - s.pt)
  let s := if s.dev.st = .armed ∧ following s = false ∧ (cranksOn s 0 w || cranksOn s 1 w) then s.enter .syncing else s
  deliverEdge w ⟨w.val, stamp, stamp + delay, cls⟩ s

/-! ## Variable reluctance (R39, R40) -/

/-- The arming threshold in eighths of 5 mV: max(THR_MIN, peak_ref * THR_FRAC / 8), THR_MIN in 20 mV units (R39). -/
def vrThreshold8 (s : State) (w : Fin 4) : Nat :=
  max (s.cfg (WHN.base w) WHN.VR_CFG_THR_MIN * 32) (s.wheels[w].peakRef.toNat * s.cfg (WHN.base w) WHN.VR_CFG_THR_FRAC)

/-- The wheel's sensor type (R47). -/
def sensorOf (s : State) (w : Nat) : Nat := s.cfg (WHN.base w) WHN.MODE_SENSOR

/-- VR_ARM (R39): the signal crosses the arming threshold of the arming polarity. `level` is its magnitude, 5 mV. -/
def vrArmStep (w : Fin 4) (level : BitVec 12) (s : State) : State :=
  let thr := vrThreshold8 s w
  if frontEndLive s ∧ sensorOf s w = 1 ∧ s.wheels[w].armed = false ∧ thr < 8 * level.toNat then
    s.updWheel w (fun x => { x with armed := true, thr8 := thr })
  else s

/-- VR_EDGE (R39, R40): an armed front end stamps the zero crossing; the comparator delay DLY is subtracted. DESIGN CHOICE (log
entry 160): DLY and DECAY are those acting in the tick of the crossing; R48 goes by the stamp, which DLY itself makes. -/
def vrEdgeStep (w : Fin 4) (peak : BitVec 12) (s : State) : State :=
  let x := s.wheels[w]
  if ¬ (frontEndLive s ∧ sensorOf s w = 1 ∧ x.armed = true) then s
  else
    let s := s.updWheel w (fun x => { x with armed := false })
    if s.sys.frozen then freezeEdge s
    else
      let b := WHN.base w
      let s := s.wr b WHN.VR_PEAK_PEAK peak.toNat
      let s := if 16 * peak.toNat < 3 * x.thr8 then wheelFault w WHN.FAULT_LOW_AMP s else s
      let s := s.updWheel w (fun x =>
        { x with peakRef := filterStep x.peakRef peak.toNat (s.cfg b WHN.VR_CFG_DECAY) })
      acceptEdge w (s.pt - s.cfg b WHN.VR_CFG_DLY) 10 s

/-! ## Hall and direction-coded inputs (R42 to R45) -/

/-- The glitch-filter time in ticks of a transition first sampled at a tick: 4 * FILT, values above 1,000 acting as 1,000
(R42, R47, R48). -/
def filtTicks (s : State) (w : Fin 4) (first : Nat) : Nat := 4 * sat 1000 (wheelCfgAt s w WHN.HALL_CFG_FILT first)

/-- The level a tooth begins with: high with EDGE = 0, low with EDGE = 1 (R42, R47). -/
def toothLevel (s : State) (w : Fin 4) : Bool := !s.on (WHN.base w) WHN.MODE_EDGE

/-- The end of a Hall tooth's high time: the first opposite transition behind its edge (R45). -/
def hallHigh (w : Fin 4) (stamp : Nat) (s : State) : State :=
  let x := s.wheels[w]
  if x.seen = true ∧ x.high.isNone then
    let h := stamp - x.lastStamp
    (s.wr (WHN.base w) WHN.HIGH_TICKS (sat (2 ^ 32 - 1) h)).updWheel w (fun x => { x with high := some h })
  else s

/-- The ticks a level has been sampled since PT `first` at most: in a freeze PT stands and time goes on (R493). -/
def sampledFor (s : State) (first : Nat) : Nat := s.pt - first + (if s.sys.frozen then s.tick - s.sys.frozenAt else 0)

/-- HALL_TRANSITION (R42): a transition first sampled at tick `first` has held its level through sample
first + 4 * FILT and counts. On a direction-coded input it settles the level the pulse commands use (R43). In a freeze the
edge is discarded and counted (R493). -/
def hallTransitionStep (w : Fin 4) (level : Bool) (first : Nat) (s : State) : State :=
  let x := s.wheels[w]
  let sensor := sensorOf s w
  if ¬ (frontEndLive s ∧ (sensor = 2 ∨ sensor = 3) ∧ x.level ≠ level ∧ first ≤ s.pt ∧ filtTicks s w first ≤ sampledFor s first) then s
  else
    let s := s.updWheel w (fun x => { x with level := level, levelStamp := first, taken := false })
    if sensor = 3 then s
    else if level = toothLevel s w then
      if s.sys.frozen then freezeEdge s else acceptEdge w first (10 + filtTicks s w first) s
    else if s.sys.frozen then s else hallHigh w first s

/-- HALL_GLITCH (R42): a level first sampled at `first` has returned at sample `back`, no later than first + 4 * FILT. -/
def hallGlitchStep (w : Fin 4) (first back : Nat) (s : State) : State :=
  let sensor := sensorOf s w
  if frontEndLive s ∧ (sensor = 2 ∨ sensor = 3) ∧ first < back ∧ back ≤ first + filtTicks s w first ∧ back ≤ s.pt then
    s.bump (WHN.base w) WHN.GLITCH_CNT_COUNT
  else s

/-- DIR_PULSE_LEADING (R20, R43, R45): the counted leading level of a pulse is the tooth edge at once, on its way for the
10 ticks of R20 without the filter time of a Hall input; with BOTHFLANK = 1 the pulse of the trailing flank ends the high
time and is no tooth edge. DESIGN CHOICE (log entry 137): with BOTHFLANK = 1 the first pulse after reset, or after MODE
acts, is taken as a leading flank, and pulses alternate from there; the spec does not say how the front end tells them
apart. -/
def dirLeadingStep (w : Fin 4) (s : State) : State :=
  let x := s.wheels[w]
  if ¬ (frontEndLive s ∧ sensorOf s w = 3 ∧ x.level = toothLevel s w ∧ x.taken = false) then s
  else
    let stamp := x.levelStamp
    let both := s.on (WHN.base w) WHN.MODE_BOTHFLANK
    let s := s.updWheel w (fun x => { x with taken := true, pulse := some stamp,
                                             pulseCfg := wheelWordAt s w WHN.DIR_CFG_TH1.off stamp
                                             trailingFlank := both && !x.trailingFlank })
    if s.sys.frozen then (if both && x.trailingFlank then s else freezeEdge s)
    else if both && x.trailingFlank then
      s.updWheel w (fun x => { x with high := some (stamp - x.lastStamp) })
    else acceptEdge w stamp 10 s

/-- The direction class of a pulse width in ticks, by the DIR_CFG that acted at its leading edge: 1 forward, 2 reverse, 3
diagnostic (R43, R47, R48). -/
def dirClass (s : State) (w : Fin 4) (width : Nat) : Nat :=
  let cfg := s.wheels[w].pulseCfg
  if width < 4 * WHN.DIR_CFG_TH1.of cfg then 1
  else if width < 4 * WHN.DIR_CFG_TH2.of cfg then 2 else 3

/-- The WHLn side of classing a pulse (R43, R70): HIGH, DCLASS, FAULT.DIAG and source 19 + 4n. -/
def dirClassRegs (w : Fin 4) (width cls : Nat) (s : State) : State :=
  let b := WHN.base w
  let old := s.rd b WHN.CLASS_DCLASS
  let s := s.wr b WHN.HIGH_TICKS (sat (2 ^ 32 - 1) width)
  let s := s.wr b WHN.CLASS_DCLASS cls
  let s := s.raiseIf (decide (old ≠ 0) && decide (old ≠ cls)) (19 + 4 * w.val)
  if cls = 3 then wheelFault w WHN.FAULT_DIAG s else s

/-! ## The commands -/

/-- VR_EDGE. -/
def execVrEdge (w : Fin 4) (peak : BitVec 12) (s : State) : Host.Outcome State Fault Refusal := .next (vrEdgeStep w peak s)
/-- VR_ARM. -/
def execVrArm (w : Fin 4) (level : BitVec 12) (s : State) : Host.Outcome State Fault Refusal := .next (vrArmStep w level s)
/-- HALL_TRANSITION. -/
def execHallTransition (w : Fin 4) (level : Bool) (first : Nat) (s : State) : Host.Outcome State Fault Refusal :=
  .next (hallTransitionStep w level first s)
/-- HALL_GLITCH. -/
def execHallGlitch (w : Fin 4) (first back : Nat) (s : State) : Host.Outcome State Fault Refusal :=
  .next (hallGlitchStep w first back s)
/-- DIR_PULSE_LEADING. -/
def execDirPulseLeading (w : Fin 4) (s : State) : Host.Outcome State Fault Refusal := .next (dirLeadingStep w s)
/-- PTAB_DATA_LO_WRITE. -/
def execPtabDataLoWrite (v : Word) (s : State) : Host.Outcome State Fault Refusal := .next (ptabLoWrite v s)
/-- PTAB_DATA_HI_WRITE. -/
def execPtabDataHiWrite (v : Word) (s : State) : Host.Outcome State Fault Refusal := .next (ptabHiWrite v s)
/-- PTAB_DATA_LO_READ. -/
def execPtabDataLoRead (s : State) : Host.Outcome State Fault Refusal := .next (ptabLoRead s)
/-- PTAB_DATA_HI_READ. -/
def execPtabDataHiRead (s : State) : Host.Outcome State Fault Refusal := .next (ptabHiRead s)
/-- STAMP_LO_READ. -/
def execStampLoRead (w : Fin 4) (s : State) : Host.Outcome State Fault Refusal := .next (stampLoRead w s)

end Sys2Proof.Machine
end

