-- ==== Sys2Proof/Machine/Journal.lean ====
section
/-! DEFINITION. The Headgate and the journal (chapter 07, R190 to R216). -/

namespace Sys2Proof.Machine

/-! ## The journal ring (R199 to R205) -/

/-- Records written and not released. -/
def jrnFill (s : State) : Nat := (s.rd JRN.base JRN.WR_COUNT + 2 ^ 32 - s.rd JRN.base JRN.RD_COUNT) % 2 ^ 32

/-- FREE = 4,096 - (WR - RD) (R199). -/
def jrnFree (s : State) : Nat := 4096 - jrnFill s

/-- OCC: queued orders (R214). -/
def occ (s : State) : Nat := s.hdg.queue.length

/-- SEQ_LAST (R194). -/
def seqLast (s : State) : Nat := s.rd HDG.base HDG.SEQ_LAST_SEQ

/-- A record is written: its two words, then WR advances; sources 58 and 59 (R199, R216). -/
def jrnPut (w0 w1 : Nat) (s : State) : State :=
  let a := 0x140000 + 16 * (s.rd JRN.base JRN.WR_COUNT % 4096)
  let s := putWord (a + 8) w1 (putWord a w0 s)
  let s := (s.bumpWrap JRN.base JRN.WR_COUNT).raise 58
  s.raiseIf (decide (jrnFill s = s.rd JRN.base JRN.HWM_LEVEL)) 59

/-- The record is an action record. -/
def JrnRec.isAction : JrnRec → Bool
  | .action _ _ => true
  | _ => false

/-- An action record or marker finds room behind the orders that are queued and the action records of the present tick (R204). -/
def jrnSpare (s : State) : Bool := decide (occ s + s.hdg.recs.countP JrnRec.isAction < jrnFree s)

/-- The LOSS marker is written as soon as there is room, before every record of its tick (R202 to R204). -/
def tryLoss (s : State) : State :=
  if 0 < s.hdg.lossPend ∧ jrnSpare s = true then
    let n := s.hdg.lossPend
    (jrnPut (3 * 2 ^ 60 + 4 * 2 ^ 56 + s.dev.epoch * 2 ^ 32 + seqLast s) (n % 2 ^ 32) s).updHdg
      (fun h => { h with lossPend := 0 })
  else s

/-- A record finds no room and is counted as lost (R204). -/
def jrnLost (s : State) : State :=
  ((s.bump JRN.base JRN.LOST_COUNT).updHdg (fun h => { h with lossPend := h.lossPend + 1 })).raise 60

/-- An action record or marker is written: only while FREE > OCC, otherwise counted as lost (R204). -/
def jrnNow (w0 w1 : Nat) (s : State) : State :=
  let s := tryLoss s
  if jrnSpare s then jrnPut w0 w1 s else jrnLost s

/-- A record of the present tick, to be written at its end (R203). -/
def jrnLater (r : JrnRec) (s : State) : State := s.updHdg (fun h => { h with recs := h.recs ++ [r] })

/-- An action record of the present tick: it takes its room, or is counted as lost (R203, R204). -/
def jrnOther (w0 w1 : Nat) (s : State) : State :=
  let s := tryLoss s
  if jrnSpare s then jrnLater (.action w0 w1) s else jrnLost s

/-- An action record of the present tick finds room (R204). -/
def jrnRoom (s : State) : Bool := jrnSpare (tryLoss s)

/-- Word 0 of a marker (R202): MARK, CAUSE, the epoch and SEQ_LAST. -/
def markWord0 (s : State) (mark cause : Nat) : Nat :=
  3 * 2 ^ 60 + mark * 2 ^ 56 + cause * 2 ^ 52 + s.dev.epoch * 2 ^ 32 + seqLast s

/-- Word 1 of an action record or marker: ANGLE and the low word of PT. -/
def angleWord1 (s : State) (angle : Nat) : Nat := angle * 2 ^ 32 + s.ptLo

/-- The EPOCH_CLOSE marker of the present tick (R202, R203). -/
def jrnClosed (cause angle : Nat) (s : State) : State := jrnLater (.closed (markWord0 s 2 cause) (angleWord1 s angle)) s

/-- The EPOCH_OPEN marker of the present tick (R202, R203). -/
def jrnOpened (angle : Nat) (s : State) : State := jrnLater (.opened (markWord0 s 1 0) (angleWord1 s angle)) s

/-- Word 0 of an action record (R201) of action idx: OUTCOME, CODE. -/
def actionWord0 (s : State) (outcome code idx : Nat) : Nat :=
  2 * 2 ^ 60 + outcome * 2 ^ 56 + code * 2 ^ 52 + s.dev.epoch * 2 ^ 32 + s.dev.cycle * 2 ^ 16 + idx % 2 ^ 14

/-- An action record (R201) of action idx: OUTCOME, CODE, ANGLE. -/
def jrnAction (outcome code idx angle : Nat) (s : State) : State :=
  jrnOther (actionWord0 s outcome code idx) (angleWord1 s angle) s

/-- The DEADLINE record of a periodic task (R145, R201). -/
def jrnPeriodic (core slot angle : Nat) (s : State) : State :=
  jrnOther (actionWord0 s 7 2 0 + 2 ^ 15 + core * 2 ^ 6 + slot) (angleWord1 s angle) s

/-! ## The queue -/

/-- The address of the queue entry of an order (R190). -/
def queueAddr (seq : Nat) : Nat := 0x150000 + 16 * (seq % 1024)

/-- The two words of a queue entry are read; true if either is uncorrectable (R209, R437). -/
def queueEntryBad (seq : Nat) (s : State) : Bool × State :=
  let r0 := readWord (queueAddr seq / 8) s
  let r1 := readWord (queueAddr seq / 8 + 1) r0.2
  (r0.1.2 || r1.1.2, r1.2)

/-- Word 0 of an order record (R200). -/
def orderRec0 (o : Order) : Nat :=
  1 * 2 ^ 60 + o.state * 2 ^ 56 + o.reason * 2 ^ 52 + b2n o.qecc * 2 ^ 51 + b2n o.anom * 2 ^ 50 +
    b2n o.deferred * 2 ^ 49 + b2n o.late * 2 ^ 48 + (if o.qecc then 0 else o.epoch) * 2 ^ 32 + o.seq

/-- Word 1 of an order record (R200). -/
def orderRec1 (o : Order) : Nat :=
  (if o.qecc then 0 else o.idx) * 2 ^ 50 + (if o.qecc then 0 else o.cycle) * 2 ^ 32 + o.data % 2 ^ 32

/-- The head order's record is written and the order leaves the queue (R203). -/
def journalHead (o : Order) (s : State) : State :=
  let r := queueEntryBad o.seq s
  let o := { o with qecc := o.qecc || r.1 }
  let s := tryLoss r.2
  (jrnPut (orderRec0 o) (orderRec1 o) s).updHdg (fun h => { h with queue := h.queue.tail })

/-- Terminal orders at the head are journaled and removed, oldest first (R203). -/
def drainHead : Nat → State → State
  | 0, s => s
  | n + 1, s =>
    match s.hdg.queue with
    | [] => s
    | o :: _ => if o.progress = 4 then drainHead n (journalHead o s) else s

/-- Every terminal order that can leave the queue leaves it. -/
def drainQueue (s : State) : State := drainHead s.hdg.queue.length s

/-- Writes the record if a test picks it: an action record has its room, a marker must find it (R204). -/
def jrnFlush (p : JrnRec → Bool) (r : JrnRec) (s : State) : State :=
  if p r = false then s
  else match r with
  | .action a b => jrnPut a b s
  | .closed a b | .opened a b => jrnNow a b s

/-- The record is an EPOCH_CLOSE marker. -/
def JrnRec.isClosed : JrnRec → Bool
  | .closed _ _ => true
  | _ => false

/-- The record is an EPOCH_OPEN marker. -/
def JrnRec.isOpened : JrnRec → Bool
  | .opened _ _ => true
  | _ => false

/-- The records of the tick so far are written, in the order of R203: LOSS, action records, order records, EPOCH_CLOSE,
EPOCH_OPEN. -/
def flushRecs (s : State) : State :=
  let l := s.hdg.recs
  let s := (tryLoss s).updHdg (fun h => { h with recs := [] })
  let s := drainQueue (foldS l (jrnFlush JrnRec.isAction) s)
  foldS l (jrnFlush JrnRec.isOpened) (foldS l (jrnFlush JrnRec.isClosed) s)

/-- The queued order with a sequence number changes. -/
def updOrder (seq : Nat) (f : Order → Order) (s : State) : State :=
  s.updHdg (fun h => { h with queue := h.queue.map (fun o => if o.seq = seq then f o else o) })

/-- An order in a terminal state (R198). -/
def Order.close (o : Order) (st reason data : Nat) : Order :=
  { o with progress := 4, state := st, reason := reason, data := data }

/-- A queued order becomes terminal; an order already terminal keeps its state (R198). -/
def endOrder (seq st reason data : Nat) (s : State) : State :=
  updOrder seq (fun o => if o.progress = 4 then o else o.close st reason data) s

/-- Every queued order that is not terminal and that a test picks becomes terminal. -/
def endOrdersWhere (p : Order → Bool) (f : Order → Nat × Nat × Nat) (s : State) : State :=
  s.updHdg (fun h => { h with queue := h.queue.map (fun o =>
    if o.progress ≠ 4 ∧ p o then o.close (f o).1 (f o).2.1 (f o).2.2 else o) })

/-- The pending orders of the epoch end EXPIRED with a reason when the epoch closes (R198). -/
def expireOrders (reason : Nat) (s : State) : State :=
  endOrdersWhere (fun o => decide (o.progress ≤ 1)) (fun _ => (4, reason, if reason = 6 then 0 else s.ptLo)) s

/-- At the boundary closing cycle c, an order for it that awaits its cut-off ends ENDED, one that was written and not
reached ends UNREAD (R198). -/
def closeCycleOrders (c : Nat) (s : State) : State :=
  endOrdersWhere (fun o => decide (o.cycle = c) && decide (o.progress ≤ 1))
    (fun o => (4, if o.progress = 0 then 2 else 3, s.ptLo)) s

/-! ## Cut-offs (R196) -/

/-- The address of a parameter slot. -/
def slotAddr (k : Nat) : Nat := 0x154000 + 4 * k

/-- An order's value goes into its slot, clearing the slot's poison bit (R443). -/
def applyOrder (slot value : Nat) (s : State) : State :=
  let s := writePart (slotAddr slot) 4 value s
  { s with slotPoison := tset s.slotPoison slot 0 0 }

/-- The orders a cut-off of a slot takes in the cycle in progress, oldest first (R196). -/
def cutoffOrders (slot : Nat) (s : State) : List Order :=
  s.hdg.queue.filter (fun o => decide (o.slot = slot) && decide (o.cycle = s.dev.cycle) && decide (o.epoch = s.dev.epoch) &&
    decide (o.progress = 0))

/-- An uncorrectable queue entry ends its order DROPPED, reason ECC, with QECC (R209). -/
def dropBadOrders (l : List Order) (s : State) : State :=
  foldS l (fun o s =>
    let r := queueEntryBad o.seq s
    if r.1 then updOrder o.seq (fun o => { o.close 6 5 s.ptLo with qecc := true }) r.2
    else r.2) s

/-- A slot's cut-off is taken (R196): the order with the highest SEQ is written, the others are REPLACED. -/
def takeCutoff (slot : Nat) (s : State) : State :=
  let s := dropBadOrders (cutoffOrders slot s) s
  let l := cutoffOrders slot s
  let s := match l.getLast? with
    | none => s
    | some win =>
      let s := foldS l (fun o s => if o.seq = win.seq then s else endOrder o.seq 3 0 win.seq s) s
      applyOrder slot win.value (updOrder win.seq (fun o => { o with progress := 1 }) s)
  let taken : SlotCyc := ⟨s.dev.cycNo + 1, l.getLast?.map (·.seq)⟩
  s.updPlan (fun p => { p with slotCyc := tset p.slotCyc slot taken ⟨0, none⟩ })

/-- The slot's cut-off has been taken in the cycle in progress. -/
def cutoffTaken (slot : Nat) (s : State) : Bool :=
  (tget s.plan.slotCyc slot ⟨0, none⟩).cycNo == s.dev.cycNo + 1

/-! ## Submissions (R192 to R195) -/

/-- The staging buffer of an initiator, in the order of R195; none for the initiators that have none (R192). -/
def submitterOf : Initiator → Option (Fin 8)
  | .hpq => some 0 | .hps => some 1 | .link => some 2
  | .core n => some ⟨3 + n.val, by omega⟩
  | .flume _ => some 7
  | _ => none

/-- A value meets R160 for a kind. -/
def valueOk (kind v : Nat) : Bool :=
  match kind with
  | 1 | 2 | 9 => true
  | 3 | 5 => decide (v / 2 ^ 17 = 0) && bit v 16
  | 4 => decide (v / 2 ^ 21 = 0)
  | 6 => decide (v < 4)
  | 7 => decide (v = 1) || decide (v = 2)
  | 8 => decide (v = 1)
  | _ => false

/-- Word 0 of action table entry i as data. -/
def actWord0 (s : State) (i : Nat) : Nat := s.wordData ((0x100000 + 16 * i) / 8)
/-- Word 1 of action table entry i as data. -/
def actWord1 (s : State) (i : Nat) : Nat := s.wordData ((0x100000 + 16 * i) / 8 + 1)

/-- NACT of the loaded plan. -/
def nact (s : State) : Nat := s.rd PLAN.base PLAN.INFO_NACT

/-- SLOTDEF of a slot: USED. -/
def slotUsed (s : State) (k : Nat) : Bool := bit (tget s.plan.slotDef k 0) 26
/-- SLOTDEF of a slot: CUTOFF. -/
def slotCutoff (s : State) (k : Nat) : Nat := bits (tget s.plan.slotDef k 0) 25 0

/-- VALUE is 0 or meets R160 for every action of the plan that reads the slot (R193 step 10). -/
def valueAccepted (s : State) (slot v : Nat) : Bool :=
  decide (v = 0) || (List.range (nact s)).all (fun i =>
    bits (actWord0 s i) 59 48 != slot || valueOk (bits (actWord0 s i) 31 26) v)

/-- The result of a submission. -/
inductive SubResult
  | ack | dup | refused (reason : Nat)
  deriving DecidableEq, Repr

/-- The checks of R193, in their order. -/
def judge (b : Staging) (s : State) : SubResult :=
  let seq := b.sub0.toNat
  let d := (seq + 2 ^ 32 - seqLast s) % 2 ^ 32
  let slot := bits b.sub3.toNat 15 0
  let cyc := bits b.sub1.toNat 15 0
  if b.failed then .refused 1
  else if d = 0 ∨ 2 ^ 31 ≤ d then .dup
  else if bits b.sub3.toNat 23 16 ≠ 1 ∨ bits b.sub3.toNat 31 24 ≠ 0 ∨ 4096 ≤ slot then .refused 2
  else if d ≠ 1 then .refused 3
  else if 1024 ≤ occ s then .refused 4
  else if jrnFree s < occ s + 1 then .refused 5
  else if s.hdg.blocked ∨ s.dev.epochOpen = false ∨ bits b.sub1.toNat 31 16 ≠ s.dev.epoch then .refused 6
  else if 3 < (cyc + 2 ^ 16 - s.dev.cycle) % 2 ^ 16 then .refused 7
  else if s.plan.nslot ≤ slot ∨ slotUsed s slot = false then .refused 8
  else if valueAccepted s slot b.sub2.toNat = false then .refused 9
  else .ack

/-- The counter of a refusal reason (R214). -/
def refusalCounter : Nat → Fld
  | 1 => HDG.REF_CNT0_CRC | 2 => HDG.REF_CNT0_FORMAT | 3 => HDG.REF_CNT0_GAP | 4 => HDG.REF_CNT0_QFULL
  | 5 => HDG.REF_CNT1_JFULL | 6 => HDG.REF_CNT1_EPOCH | 7 => HDG.REF_CNT1_CYCLE | 8 => HDG.REF_CNT1_SLOT
  | _ => HDG.REF_CNT2_VALUE

/-- The order a staging buffer spells (R191). -/
def orderOf (b : Staging) : Order :=
  { seq := b.sub0.toNat, epoch := bits b.sub1.toNat 31 16, cycle := bits b.sub1.toNat 15 0,
    slot := bits b.sub3.toNat 11 0, value := b.sub2.toNat, progress := 0, state := 0, reason := 0, data := 0,
    idx := 0, qecc := false, anom := false, deferred := false, late := false }

/-- An accepted order enters the queue tail, OCC becoming n (R194); one whose cut-off has been taken ends EXPIRED, CUTOFF
(R196). -/
def acceptOrder (n : Nat) (b : Staging) (s : State) : State :=
  let o := orderOf b
  let s := putWord (queueAddr o.seq) (b.sub1.toNat * 2 ^ 32 + b.sub0.toNat) s
  let s := putWord (queueAddr o.seq + 8) (b.sub3.toNat * 2 ^ 32 + b.sub2.toNat) s
  let s := s.updHdg (fun h => { h with queue := h.queue ++ [o] })
  let s := s.wr HDG.base HDG.SEQ_LAST_SEQ o.seq
  let s := s.raiseIf (decide (n = s.rd HDG.base HDG.HWM_LEVEL)) 57
  if o.cycle = s.dev.cycle ∧ cutoffTaken o.slot s then endOrder o.seq 4 1 s.ptLo s else s

/-- The word of SUB_RES (R214): result code, reason, OCC after the decision. -/
def subRes (r : SubResult) (n : Nat) : Word :=
  match r with
  | .ack => toWord (1 * 2 ^ 30 + n)
  | .dup => toWord (2 * 2 ^ 30 + n)
  | .refused k => toWord (3 * 2 ^ 30 + k * 2 ^ 24 + n)

/-- OCC after a decision on a submission: the orders that the changes of the tick have made leave are gone (R194, R203). -/
def occAfter (r : SubResult) (s : State) : Nat := occ (flushRecs s) + (if r = .ack then 1 else 0)

/-- A submitter's buffer after a change. -/
def updStaging (j : Fin 8) (f : Staging → Staging) (s : State) : State :=
  s.updHdg (fun h => { h with staging := h.staging.set j (f h.staging[j]) })

/-- The submission of buffer j is judged and its result kept (R192 to R195), after the changes of the tick so far: it finds
the journal and the queue as the records of those changes leave them. -/
def submit (j : Fin 8) (s : State) : State :=
  let b := s.hdg.staging[j]
  let r := judge b (flushRecs s)
  let n := occAfter r s
  let s := match r with
    | .ack => acceptOrder n b s
    | .dup => s.bump HDG.base HDG.REF_CNT2_DUP
    | .refused k => (s.bump HDG.base (refusalCounter k)).raise 56
  updStaging j (fun x => { x with failed := false, res := subRes r n, seq := b.sub0 }) s

/-- A write of SUB0, SUB1 or SUB2 (R192). -/
def subWriteStep (init : Initiator) (n : Fin 3) (v : Word) (s : State) : State :=
  match submitterOf init with
  | none => busError init (HDG.base + 0x40 + 4 * n.val) true (s.err 0x06)
  | some j => if s.islandHeld 2 then s else updStaging j (fun b =>
      match n with
      | 0 => { b with sub0 := v }
      | 1 => { b with sub1 := v }
      | 2 => { b with sub2 := v }) s

/-- A write of SUB3 fills the buffer and submits it (R192, R193); a reset, of the device or of the plan engine's island, cuts
it (R210, R467). -/
def sub3Step (init : Initiator) (v : Word) (s : State) : State :=
  if s.held then s
  else match submitterOf init with
  | none => busError init (HDG.base + 0x4C) true (s.err 0x06)
  | some j =>
    if s.islandHeld 2 then s else
    let s := submit j (updStaging j (fun b => { b with sub3 := v }) s)
    s.respond s.hdg.staging[j].res

/-- A write of SUB3 over the crossbar: that of a Flume channel waits for the end of its tick, behind every other submission of
the tick (R195). -/
def sub3Bus (init : Initiator) (v : Word) (s : State) : State :=
  match init with
  | .flume _ => s.updHdg (fun h => { h with flumeSubs := h.flumeSubs ++ [v] })
  | _ => sub3Step init v s

/-! ## Commands -/

/-- SUB_WRITE. -/
def execSubWrite (init : Initiator) (n : Fin 3) (v : Word) (s : State) : Host.Outcome State Fault Refusal :=
  .next (subWriteStep init n v s)
/-- SUB3_SUBMIT. -/
def execSub3Submit (init : Initiator) (v : Word) (s : State) : Host.Outcome State Fault Refusal := .next (sub3Step init v s)

/-- QUEUE_AREA_WRITE (R190): discarded and counted. -/
def execQueueAreaWrite (_init : Initiator) (addr : Word) (_bytes : List Byte) (s : State) :
    Host.Outcome State Fault Refusal :=
  if regionOf addr.toNat = some .queue then .next (s.err 0x06) else .fault .illFormed

/-- JOURNAL_AREA_WRITE (R199): discarded and counted. -/
def execJournalAreaWrite (_init : Initiator) (addr : Word) (_bytes : List Byte) (s : State) :
    Host.Outcome State Fault Refusal :=
  if regionOf addr.toNat = some .journal then .next (s.err 0x07) else .fault .illFormed

/-- JRN_RD_WRITE (R206): the write takes effect at the end of its tick. -/
def jrnRdStep (v : Word) (s : State) : State := s.updHdg (fun h => { h with rdWrites := h.rdWrites ++ [v] })

/-- A write of JRN.RD takes effect, or is ignored and counted if it runs past WR (R206). -/
def jrnRdAct (v : Word) (s : State) : State :=
  let old := s.rd JRN.base JRN.RD_COUNT
  if (v.toNat + 2 ^ 32 - old) % 2 ^ 32 ≤ jrnFill s then s.wr JRN.base JRN.RD_COUNT v.toNat else s.err 0x07

/-- The writes of JRN.RD of the tick that ends (R206). -/
def jrnRdEnd (s : State) : State :=
  let l := s.hdg.rdWrites
  foldS l jrnRdAct (s.updHdg (fun h => { h with rdWrites := [] }))

/-- The submissions of Flume channels are judged last of a tick (R195). -/
def flumeSubsEnd (s : State) : State :=
  let l := s.hdg.flumeSubs
  foldS l (sub3Step (.flume 0)) (s.updHdg (fun h => { h with flumeSubs := [] }))

/-- The records of the tick that ends are written; a reset keeps the orders until its end (R203, R210). -/
def recordsEnd (s : State) : State := if s.held then s else flushRecs s

/-- The Headgate as a tick finds it (R210). -/
def tickStart (s : State) : TickStart :=
  { queue := s.hdg.queue, acts := s.plan.acts, epoch := .ofNat 16 s.dev.epoch, cycle := s.dev.cycle, epochOpen := s.dev.epochOpen,
    seqLast := seqLast s, written := s.rd JRN.base JRN.WR_COUNT, lost := s.rd JRN.base JRN.LOST_COUNT,
    lossPend := s.hdg.lossPend }

/-- The decisions of the present tick are not taken: orders, actions, epoch and journal are as it found them (R210); 0 is never
the number of an open epoch (R64). -/
def undoTick (s : State) : State :=
  let b := s.hdg.start
  let s := { s with
    dev := { s.dev with epoch := b.epoch.toNat, cycle := b.cycle, epochOpen := b.epochOpen && b.epoch != 0 }
    plan := { s.plan with acts := b.acts }
    hdg := { s.hdg with queue := b.queue, lossPend := b.lossPend, recs := [] } }
  ((s.wr HDG.base HDG.SEQ_LAST_SEQ b.seqLast).wr JRN.base JRN.WR_COUNT b.written).wr JRN.base JRN.LOST_COUNT b.lost

/-- JRN_RD_WRITE. -/
def execJrnRdWrite (v : Word) (s : State) : Host.Outcome State Fault Refusal := .next (jrnRdStep v s)

/-- LOSS_MARKER (R204): the marker of lost records is written once there is room. -/
def execLossMarker (s : State) : Host.Outcome State Fault Refusal := .next (tryLoss s)

end Sys2Proof.Machine
end

