-- ==== Sys2Proof/Machine/TrackMath.lean ====
section
/-! DEFINITION. The tracker's arithmetic (chapters 02 and 03): true angles, pitches, predictions, the accumulator. -/

namespace Sys2Proof.Machine

/-- A tracker runs a 720 degree plan (CFG.CYCLE720). -/
def cyc720 (s : State) (t : Fin 2) : Bool := s.on (TRK.base t) TRK.CFG_CYCLE720

/-- The cycle length in au (R2, R155). -/
def cycleLen (s : State) (t : Fin 2) : Nat := if cyc720 s t then 2 * revAu else revAu

/-- The crank entries in use; 0 means the tracker is off (R68). -/
def teeth (s : State) (t : Fin 2) : Nat := s.cfg (TRK.base t) TRK.CFG_TEETH

/-- The crank wheel's index. -/
def crankWheel (s : State) (t : Fin 2) : Nat := s.cfg (TRK.base t) TRK.CFG_CRANK

/-- Crank pattern entry i. -/
def crankEnt (s : State) (t : Fin 2) (i : Nat) : Nat := s.pat (crankWheel s t) i

/-- The active copy of the learned signature at crank entry i (R85, R86, R98). -/
def sigLearned (s : State) (t : Fin 2) (i : Nat) : Int := tget s.trk[t].sigAct i (entSig (crankEnt s t i))

/-- The signature crank entry i is used with: learned running ahead, the plan's astern (R76, R87) and in link mode (R425). -/
def sigOf (s : State) (t : Fin 2) (i : Nat) : Int :=
  if s.trk[t].astern ∨ (t = 0 ∧ following s = true) then entSig (crankEnt s t i) else sigLearned s t i

/-- The true angle of crank entry i within the revolution (R76). -/
def trueRev (s : State) (t : Fin 2) (i : Nat) : Nat :=
  (((entNominal (crankEnt s t i) : Int) + sigOf s t i) % (revAu : Int)).toNat

/-- The true angle of crank entry i in half h of the cycle (R76). -/
def trueAngle (s : State) (t : Fin 2) (i : Nat) (h : Bool) : Nat :=
  trueRev s t i + (if cyc720 s t ∧ h then revAu else 0)

/-- The distance from a to b in the direction of travel, modulo m. -/
def travel (astern : Bool) (m a b : Nat) : Nat := if astern then (a + m - b % m) % m else (b + m - a % m) % m

/-- The entry after i in the direction of travel. -/
def nextIdx (astern : Bool) (n i : Nat) : Nat := if astern then (i + n - 1) % n else (i + 1) % n

/-- The entry before i in the direction of travel. -/
def prevIdx (astern : Bool) (n i : Nat) : Nat := nextIdx (!astern) n i

/-- The half bit at the entry after i (R76): it toggles at the wrap. -/
def nextHalf (astern : Bool) (n i : Nat) (h : Bool) : Bool :=
  if astern then (if i = 0 then !h else h) else (if i + 1 = n then !h else h)

/-- A pitch that comes out as 0 is a whole revolution. -/
def nz (p : Nat) : Nat := if p = 0 then revAu else p

/-- The pitch into entry i between true angles, in the direction of travel (R72, R76). -/
def pitch (s : State) (t : Fin 2) (i : Nat) : Nat :=
  let a := s.trk[t].astern
  nz (travel a revAu (trueRev s t (prevIdx a (teeth s t) i)) (trueRev s t i))

/-- The nominal pitch into entry i in the direction of travel (R52, R62). -/
def nomPitch (s : State) (t : Fin 2) (i : Nat) : Nat :=
  let a := s.trk[t].astern
  nz (travel a revAu (entNominal (crankEnt s t (prevIdx a (teeth s t) i))) (entNominal (crankEnt s t i)))

/-- The crank wheel is width-coded: its entries are width classes (R51, R53). -/
def widthCoded (s : State) (t : Fin 2) : Bool := decide (8 ≤ entKind (crankEnt s t 0))

/-- Entry i is a feature (R52). -/
def isFeature (s : State) (t : Fin 2) (i : Nat) : Bool :=
  let p := nomPitch s t i
  let q := nomPitch s t (prevIdx s.trk[t].astern (teeth s t) i)
  widthCoded s t || decide (4 * p < 3 * q) || decide (5 * q < 4 * p)

/-- The cycle tooth position of entry i in half h (R79). -/
def cyclePos (s : State) (t : Fin 2) (i : Nat) (h : Bool) : Nat := if cyc720 s t ∧ h then i + teeth s t else i

/-- The active shadow factor of a cycle tooth position (R79, R81). -/
def shadowQ (s : State) (t : Fin 2) (c : Nat) : Nat :=
  if s.cfg (TRK.base t) TRK.SHADOW_CFG_N = 0 then 16384 else tget s.trk[t].qAct c 16384

/-- T_pred for entry n in half h from the last period (R79). -/
def predict (s : State) (t : Fin 2) (j n : Nat) (hn : Bool) (tj : Nat) : Nat :=
  divRound (tj * pitch s t n * shadowQ s t (cyclePos s t n hn)) (pitch s t j * 16384)

/-- The increment saturates at 0xF_FFFF_FFFF (R72). -/
def incMax : Nat := 0xFFFFFFFFF

/-- inc and rem of R72 for a pitch and a prediction. -/
def divideInc (p tpred : Nat) : Nat × Nat :=
  if tpred = 0 then (incMax, 0)
  else
    let q := p * 2 ^ 32 / tpred
    if incMax < q then (incMax, 0) else (q, p * 2 ^ 32 % tpred)

/-- How far the accumulator goes in d ticks: increment and remainder together (R72). -/
def advance (inc rem tpred d : Nat) : Nat := inc * d + (if tpred = 0 then 0 else rem * d / tpred)

/-- The accumulator moved by x units of 2^-32 au in the direction of travel from an angle, held at the horizon
(R73 to R75). Returns the accumulator and whether the horizon holds it. -/
def moveFrom (astern : Bool) (len angle horizon x : Nat) : Nat × Bool :=
  let room := travel astern len angle horizon
  if (if astern then room * 2 ^ 32 < x else (room + 1) * 2 ^ 32 ≤ x) then (horizon * 2 ^ 32, true)
  else if astern then ((angle * 2 ^ 32 + len * 2 ^ 32 - x) % (len * 2 ^ 32), false)
  else ((angle * 2 ^ 32 + x) % (len * 2 ^ 32), false)

/-- The angle one au before an angle, in the direction of travel (R74, R75). -/
def oneBefore (astern : Bool) (len a : Nat) : Nat := if astern then (a + 1) % len else (a + len - 1) % len

/-- A tracker's accumulator is loaded from crank entry j in half h with the given stamp and period, at update tick u
(R72 to R76). -/
def loadFrom (s : State) (t : Fin 2) (j : Nat) (h : Bool) (stamp tj u : Nat) : Tracker :=
  let x := s.trk[t]
  let n := nextIdx x.astern (teeth s t) j
  let hn := nextHalf x.astern (teeth s t) j h
  let tp := predict s t j n hn tj
  let d := divideInc (pitch s t n) tp
  let len := cycleLen s t
  let hz := oneBefore x.astern len (trueAngle s t n hn)
  let m := moveFrom x.astern len (trueAngle s t j h) hz (advance d.1 d.2 tp (u - stamp))
  { x with pos := j, half := h, inc := d.1, rem := d.2, tpred := tp, horizon := hz, atHorizon := m.2, acc := m.1,
           base := trueAngle s t j h, baseAt := stamp,
           racc := if tp = 0 then 0 else d.2 * (u - stamp) % tp }

/-- A tracker's presented angle (R71). -/
def presented (x : Tracker) : Nat := x.acc / 2 ^ 32

/-- An angle moved by x in the direction of travel, without a horizon (R423). -/
def moved (astern : Bool) (full a x : Nat) : Nat := if astern then (a + full - x % full) % full else (a + x) % full

/-- The presented angle a tracker had, or will have, at a tick, from the angle its accumulator was last loaded with: the one
its last crank edge had then (R75, R101); the accumulator has stood since a stall (R113). In link mode it goes at the increment in force, unless it stands for an estimate to reach it (R423). -/
def presentedAt (s : State) (t : Fin 2) (at_ : Nat) : Nat :=
  let x := s.trk[t]
  let full := cycleLen s t * 2 ^ 32
  if x.stalled ∧ x.stallPt ≤ at_ then presented x
  else if t = 0 ∧ following s = true then
    (if s.link.hold.isSome then presented x
     else if s.pt ≤ at_ then moved x.astern full x.acc (x.inc * (at_ - s.pt)) / 2 ^ 32
     else moved (!x.astern) full x.acc (x.inc * (s.pt - at_)) / 2 ^ 32)
  else (moveFrom x.astern (cycleLen s t) x.base x.horizon (advance x.inc x.rem x.tpred (at_ - x.baseAt))).1 / 2 ^ 32

/-- The device angle: the controlling tracker's presented angle, or the angle held after a backward handover (R91). DESIGN
CHOICE (log entry 193): while it is held it is the held angle that the records of R198 and R202 give, though the controlling
tracker presents another. -/
def devAngle (s : State) : Nat := s.dev.hold.getD (presented s.trk[s.dev.control])

/-- The controlling tracker. -/
def ctl (s : State) : Tracker := s.trk[s.dev.control]

/-- The cycle length of the controlling tracker. -/
def devLen (s : State) : Nat := cycleLen s s.dev.control

/-- One tick of an accumulator (R72, R74, R75). -/
def tickAcc (s : State) (t : Fin 2) : Tracker :=
  let x := s.trk[t]
  if x.acq ≠ .sync ∨ x.stalled then x
  else if x.atHorizon then x
  else
    let r := x.racc + x.rem
    let step := x.inc + (if x.tpred ≤ r ∧ x.tpred ≠ 0 then 1 else 0)
    let len := cycleLen s t
    let room := travel x.astern len (presented x) x.horizon
    let frac := x.acc % 2 ^ 32
    let past := if x.astern then decide (room * 2 ^ 32 + frac < step) else decide (room * 2 ^ 32 + (2 ^ 32 - 1) < frac + step)
    let racc := if x.tpred ≤ r ∧ x.tpred ≠ 0 then r - x.tpred else r
    if past then { x with acc := x.horizon * 2 ^ 32, atHorizon := true, racc := racc }
    else if x.astern then { x with acc := (x.acc + len * 2 ^ 32 - step) % (len * 2 ^ 32), racc := racc }
    else { x with acc := (x.acc + step) % (len * 2 ^ 32), racc := racc }

/-- The speed an increment stands for, in 1/256 rpm. -/
def speedOfInc (inc : Nat) : Nat := sat 0xFFFFFF (divRound (inc * 400000000 * 60 * 256) (revAu * 2 ^ 32))

/-- SPEED in 1/256 rpm from a period and its pitch (R96): rpm = pitch / 65,536 / 360 * 60 * 400e6 / period. -/
def speedOf (p period : Nat) : Nat :=
  if period = 0 then 0xFFFFFF else sat 0xFFFFFF (divRound (p * 400000000 * 60 * 256) (period * revAu))

/-- The signed difference b - a modulo m, in [-m/2, m/2) (R66, R88). -/
def signedDiff (m a b : Nat) : Int :=
  let d := (b + m - a % m) % m
  if 2 * d < m then (d : Int) else (d : Int) - m

/-- Two angles lie within w of each other, the shorter way round (R58). -/
def within (m w a b : Nat) : Bool := decide ((signedDiff m a b).natAbs ≤ w)

end Sys2Proof.Machine
end

