-- ==== Sys2Proof/Machine/PlanBase.lean ====
section
/-! DEFINITION. Actions in flight and the governed latch: what every consumer of actions shares (R106, R142 to R149,
R158, R198, R201). -/

namespace Sys2Proof.Machine

/-! ## Fields of an action entry (R158) -/

/-- KIND. -/
def entKindOf (w0 : Nat) : Nat := bits w0 31 26
/-- START. -/
def entStart (w0 : Nat) : Nat := bits w0 25 0
/-- RES. -/
def entRes (w0 : Nat) : Nat := bits w0 39 32
/-- PROF. -/
def entProf (w0 : Nat) : Nat := bits w0 47 40
/-- SLOT. -/
def entSlot (w0 : Nat) : Nat := bits w0 59 48
/-- END_ANGLE. -/
def entEndAngle (w0 : Nat) : Bool := bit w0 60
/-- CRITICAL. -/
def entCritical (w0 : Nat) : Bool := bit w0 61
/-- PATCHABLE. -/
def entPatchable (w0 : Nat) : Bool := bit w0 62
/-- ASTERN. -/
def entAstern (w0 : Nat) : Bool := bit w0 63
/-- MIN in ticks (100 ns units of 40 ticks). -/
def entMin (w1 : Nat) : Nat := 40 * bits w1 15 0
/-- MAX in ticks. -/
def entMax (w1 : Nat) : Nat := 40 * bits w1 31 16
/-- TRIM in au. -/
def entTrim (w1 : Nat) : Nat := bits w1 47 32
/-- LATE in au. -/
def entLate (w1 : Nat) : Nat := 64 * bits w1 55 48
/-- DEFER in au. -/
def entDefer (w1 : Nat) : Nat := 64 * bits w1 63 56

/-- The kind of an action in flight. -/
def Act.kind (a : Act) : Nat := entKindOf a.w0
/-- The bank of an INJ or VALVE action (R159). -/
def Act.bank (a : Act) : Nat := entRes a.w0 / 4
/-- The channel within its bank. -/
def Act.chan (a : Act) : Nat := entRes a.w0 % 4
/-- An INJ or VALVE action. -/
def Act.isBank (a : Act) : Bool := decide (a.kind = 1) || decide (a.kind = 2)

/-! ## Governed mode (R147) -/

/-- The counter of a violation's cause (R184). -/
def govCounter : Nat → Fld
  | 1 => PLAN.GOV_CNT0_SPEED | 2 => PLAN.GOV_CNT0_ACCEL | 3 => PLAN.GOV_CNT1_RES
  | 4 => PLAN.GOV_CNT1_DEADLINE | 5 => PLAN.GOV_CNT2_SCRUB | _ => PLAN.GOV_CNT2_XCHK

/-- The governed latch is set. -/
def govLatched (s : State) : Bool := s.flag PLAN.base PLAN.GOV_LATCH

/-- A violation in the tick in which a clear of the latch has acted wins over it (R150): the clear is discarded and
counted, and the device never left GOVERNED. -/
def undoGovClear (s : State) : State :=
  match s.plan.govKept with
  | some (t, w) =>
    if t = s.tick then
      let s := ((s.setReg (PLAN.base + 0x64) w).err 0x05).updPlan (fun p => { p with govKept := none })
      if s.dev.st = .running then s.enter .governed else s
    else s
  | none => s

/-- The tick of a violation is kept for R150. -/
def markViolation (s : State) : State := s.updPlan (fun p => { p with violAt := some s.tick })

/-- A violation of a cause, with its own source (R142, R147, R184): counted, recorded, and while RUNNING the latch sets
and the device enters GOVERNED, raising source 48. The state in which the tick began decides (R30). DESIGN CHOICE (log
entry 158): source 48 is raised where the device enters GOVERNED, so not where a loss of sync or a stall of the same tick has
come before; R147 raises it with the latch and R151 at the entry. -/
def violation (cause src : Nat) (s : State) : State :=
  let s := undoGovClear (markViolation ((s.bump PLAN.base (govCounter cause)).raise src))
  let seen := fun (s : State) => s.wr PLAN.base PLAN.GOV_SEEN (s.rd PLAN.base PLAN.GOV_SEEN ||| 2 ^ (cause - 1))
  if s.dev.began = .running then
    let s := if govLatched s then s
      else (s.wr PLAN.base PLAN.GOV_LATCH 1).wr PLAN.base PLAN.GOV_FIRST cause
    let s := seen s
    if s.dev.st = .running then (s.enter .governed).raise 48 else s
  else if govLatched s then seen s
  else s

/-- The device enters RUNNING, or GOVERNED with source 48 if the latch is set (R149). -/
def enterRunning (s : State) : State :=
  if govLatched s then (s.enter .governed).raise 48 else s.enter .running

/-! ## Actions in flight -/

/-- The state with the actions in flight changed. -/
def updActs (f : List Act → List Act) (s : State) : State := s.updPlan (fun p => { p with acts := f p.acts })

/-- One action in flight changes. -/
def updAct (serial : Nat) (f : Act → Act) (s : State) : State :=
  updActs (fun l => l.map (fun a => if a.serial = serial then f a else a)) s

/-- An action leaves the list of actions in flight. -/
def dropActEntry (serial : Nat) (s : State) : State := updActs (fun l => l.filter (fun a => a.serial != serial)) s

/-- The flags an order's record takes from its deciding action (R200). -/
def flagOrder (a : Act) (s : State) : State :=
  match a.order with
  | none => s
  | some q => updOrder q (fun o =>
      { o with anom := o.anom || a.anom, deferred := o.deferred || a.deferred, late := o.late || a.late }) s

/-- An action ends TRUNCATED at an angle: its order's terminal state, or an action record (R198, R201). -/
def truncateAct (angle : Nat) (a : Act) (s : State) : State :=
  let s := dropActEntry a.serial (flagOrder a s)
  match a.order with
  | some q => endOrder q 5 0 angle s
  | none => jrnAction 5 0 a.idx angle s

/-- An action is dropped with a reason (R198, R201). -/
def dropAct (reason : Nat) (a : Act) (s : State) : State :=
  let s := dropActEntry a.serial (flagOrder a s)
  match a.order with
  | some q => endOrder q 6 reason s.ptLo s
  | none => jrnAction 6 reason a.idx (devAngle s) s

/-- An action has done what its order asked: APPLIED (R198). -/
def applyAct (a : Act) (s : State) : State :=
  let s := dropActEntry a.serial (flagOrder a s)
  match a.order with
  | some q => endOrder q 1 0 s.ptLo s
  | none => s

/-- An anomaly of an action is journaled (R201); ANOM tells of a record that was written (R200, R204). -/
def anomalyAct (code : Nat) (a : Act) (s : State) : State :=
  let written := jrnRoom s
  updAct a.serial (fun x => { x with anom := x.anom || written }) (jrnAction 7 code a.idx (devAngle s) s)

/-- Every action in flight that a test picks ends TRUNCATED at an angle, in issue order (R110, R203). -/
def truncateWhere (p : Act → Bool) (angle : Nat) (s : State) : State :=
  foldS (s.plan.acts.filter p) (truncateAct angle) s

/-- An order's progress follows its deciding action. -/
def orderProgress (a : Act) (n : Nat) (s : State) : State :=
  match a.order with
  | none => s
  | some q => updOrder q (fun o => if o.progress = 4 then o else { o with progress := n }) s

/-- A contention: a violation with source 51, unless an action involved was swept or lay in its edge shadow (R144). -/
def contention (excused : Bool) (s : State) : State :=
  if excused then s.bump PLAN.base PLAN.CONTEND_SWEPT
  else violation 3 51 s

/-- An action was issued by a sweep or placed inside its edge shadow (R144). -/
def Act.excused (a : Act) : Bool := a.swept || a.inShadow

/-- Lateness inside the edge shadow is counted (R24). -/
def countShadow (a : Act) (s : State) : State :=
  if a.inShadow && !a.swept then s.bump PLAN.base PLAN.SHADOW_CNT_COUNT else s

/-- The action in flight with a serial. -/
def findAct (s : State) (serial : Nat) : Option Act := s.plan.acts.find? (fun a => a.serial == serial)

/-- The number of ticks the device angle takes for an angle at the present increment; a standing angle takes none
(R142, R228). -/
def auToTicks (s : State) (au : Nat) : Nat :=
  let x := ctl s
  if x.inc = 0 then 0 else au * 2 ^ 32 / x.inc

end Sys2Proof.Machine
end

