-- ==== Sys2Proof/Machine/Conv.lean ====
section
/-! DEFINITION. The converters: scans, correction, calibration, checks, rings and the CVM-1 path (chapter 10,
R273 to R299). Times are PT ticks; a converter clock is 5 ticks. -/

namespace Sys2Proof.Machine

/-- The converters stand: PT stands, or their island is held in reset (R467, R493). -/
def convStands (s : State) : Bool := s.ptStands || s.islandHeld 3

/-! ## SAMPLEs and the input multiplexer (R276, R278) -/

/-- The scan table entry a SAMPLE names (R173). -/
def scanEnt (s : State) (a : Act) : Nat := tget s.plan.scan (entRes a.w0) 0
/-- MASK of a scan table entry. -/
def scanMask (e : Nat) : Nat := bits e 52 32
/-- DELAY of a scan table entry in ticks. -/
def scanDelay (e : Nat) : Nat := 5 * bits e 31 16
/-- RING of a scan table entry. -/
def scanRing (e : Nat) : Nat := bits e 15 8 % 8
/-- CONV of a scan table entry. -/
def scanConv (e : Nat) : Nat := bits e 7 0 % 4

/-- The effective mask of a SAMPLE (R278). -/
def sampleMask (s : State) (a : Act) : Nat := scanMask (scanEnt s a) &&& bits a.value 20 0

/-- The lowest position of a mask. -/
def lowestPos (m : Nat) : Option Nat := (List.range 21).find? (fun p => bit m p)

/-- A SAMPLE action on its way to converter k. -/
def isSampleFor (s : State) (k : Fin 4) (a : Act) : Bool :=
  decide (a.kind = 4) && decide (scanConv (scanEnt s a) = k.val) && decide (a.phase = .issued)

/-- The SAMPLE that claims converter k next: the one that waits, else the first captured in the converter island, 10 ns
before its target (R18, R22, R276). -/
def nextSample (s : State) (k : Fin 4) : Option Act :=
  match s.conv[k].waiting.bind (findAct s) with
  | some a => some a
  | none => s.plan.acts.find? (fun a => isSampleFor s k a && decide (a.target ≤ s.pt + 4) && decide (sampleMask s a ≠ 0))

/-- The position the converter samples next (R276): that of the scan that holds it, unless a captured SAMPLE claims it before
the scan's next instant, else PARK. -/
def nextTrack (s : State) (k : Fin 4) (run : Option Scan) : Nat :=
  let own := (run.bind (fun x => lowestPos x.left)).getD (s.cfg (CONV.base k) CONV.CFG_PARK)
  match nextSample s k with
  | none => own
  | some a =>
    if run.any (fun x => decide (x.left ≠ 0) && (x.act.isSome || decide (max x.nextAt s.conv[k].nextOk < a.target))) then own
    else (lowestPos (sampleMask s a)).getD own

/-- The multiplexer of converter k moves to the position sampled next. -/
def moveMux (k : Fin 4) (s : State) : State := s.updConv k (fun c => { c with pos := nextTrack s k c.run })

/-- The multiplexer moves where a SAMPLE has been captured (R276). -/
def sampleCaptures (s : State) : State :=
  foldS (List.finRange 4) (fun k s => if (nextSample s k).isSome then moveMux k s else s) s

/-! ## Scan starts (R285, R297) -/

/-- A ring's WP, MARK and OVWR return to 0; records still in the FIFO, and those of conversions in progress, keep the
numbers they would have had (R297). -/
def restartRing (k : Fin 4) (r : Nat) (s : State) : State :=
  let base := CRING.base k r
  let wp := s.rd base CRING.WP_COUNT
  let number := fun (acc : Nat × List RecEntry) (e : RecEntry) =>
    if e.ring = r ∧ e.num.isNone then (acc.1 + 1, acc.2 ++ [{ e with num := some acc.1 }])
    else (acc.1, acc.2 ++ [e])
  let follow := fun (acc : Nat × List Conversion) (v : Conversion) =>
    if v.ring = r ∧ v.ren = true ∧ s.on (CONV.base k) CONV.CFG_PATH = false ∧ v.num.isNone then (acc.1 + 1, acc.2 ++ [{ v with num := some acc.1 }])
    else (acc.1, acc.2 ++ [v])
  let q := s.conv[k].fifo.foldl number (wp, [])
  let s := s.updConv k (fun c => { c with fifo := q.2, convs := (c.convs.foldl follow (q.1, [])).2 })
  ((s.wr base CRING.WP_COUNT 0).wr base CRING.MARK_COUNT 0).wr base CRING.OVWR_COUNT 0

/-- The acting configuration of a ring: BASE, SIZE, EN. -/
def ringCfg (s : State) (k : Fin 4) (r : Nat) : Nat × Nat × Nat :=
  (s.cfg (CRING.base k r) CRING.BASE_ADDR, s.cfg (CRING.base k r) CRING.CTRL_SIZE, s.cfg (CRING.base k r) CRING.CTRL_EN)

/-- An address is a coefficient register of converter k. -/
def isCoef (k : Fin 4) (a : Nat) : Bool := decide (COEF.base k 0 ≤ a) && decide (a < COEF.base k 21)

/-- The committed shadows of a converter page that a test picks act, coefficient sets swap, changed rings restart, and the
multiplexer of a converter without a scan moves to the acting PARK (R276). The inactive coefficient set is what the COEF
registers hold, the active one what they act with (R12, R285). -/
def actConv (k : Fin 4) (p : CommitPend → Bool) (s : State) : State :=
  let swap := s.committed.any (fun c => p c && isCoef k c.addr)
  let park := s.committed.any (fun c => p c && decide (c.addr = CONV.base k + CONV.CFG_PARK.off))
  let t := s.actWhere p
  let t := if swap then t.updConv k (fun c => { c with coefSet := !c.coefSet }) else t
  let t := if park ∧ t.conv[k].run.isNone = true then moveMux k t else t
  foldS (List.range 8) (fun r t => if ringCfg t k r = ringCfg s k r then t else restartRing k r t) t

/-- The shadow is of converter k's page. -/
def ofConv (k : Fin 4) (c : CommitPend) : Bool := decide (c.addr / 0x1000 = 0x430 + k.val)

/-- A scan start of converter k: what was committed in an earlier converter clock acts; a COMMIT on the idle converter made
in the clock of the start waits for the next one (R285, R297, R299). -/
def convScanStart (k : Fin 4) (s : State) : State :=
  let wait := fun (c : CommitPend) => if ofConv k c && c.when_ == .clock 5 then { c with when_ := .scan k } else c
  let s := { s with committed := s.committed.map wait }
  actConv k (fun c => c.when_ == .scan k && decide (s.clockOf 5 c.at_ < s.clockOf 5 s.tick)) s

/-- A conversion in progress is of a scan. -/
def ofScan (x : Scan) (v : Conversion) : Bool := v.plan == x.act.isSome && decide (v.slot = x.slot)

/-- The converter is idle: no scan holds it, waits for it or is suspended, and nothing converts. -/
def convIdle (c : Converter) : Bool :=
  c.run.isNone && c.waiting.isNone && c.susp.isNone && decide (c.pend = 0) && c.convs.isEmpty

/-! ## Serving requests (R276 to R282) -/

/-- A scan takes the converter, its first sampling instant at a PT or as soon after as R275 allows. -/
def beginScan (k : Fin 4) (x : Scan) (at_ : Nat) (s : State) : State :=
  let rc := ringCfg s k x.ring
  moveMux k (s.updConv k (fun c => { c with
    run := some { x with
      nextAt := max at_ c.nextOk, clock := s.clockOf 5 s.tick, rbase := rc.1, rsize := rc.2.1, ren := rc.2.2 != 0 } }))

/-- A SAMPLE claims the converter at once (R278, R282): a late first instant counts, and its lateness enters LAG. -/
def claimConv (k : Fin 4) (a : Act) (s : State) : State :=
  let e := scanEnt s a
  let s := convScanStart k s
  let due := a.target + scanDelay e
  let first := max (max due s.pt) s.conv[k].nextOk
  let late := decide (due < first)
  let s := if late then
      let s := s.bump (CONV.base k) CONV.CNT2_LATE
      if s.rd (CONV.base k) CONV.LAG_TICKS < first - due then s.wr (CONV.base k) CONV.LAG_TICKS (sat CONV.LAG_TICKS.top (first - due)) else s
    else s
  let s := s.updConv k (fun c => match c.run with
    | some x => { c with susp := some { x with split := true }, run := none }
    | none => c)
  let s := updAct a.serial (fun a => { a with phase := .granted, effectAt := first }) s
  beginScan k { act := some a.serial, slot := 0, left := sampleMask s a, ring := scanRing e, rbase := 0,
                rsize := 0, ren := false, stampPt := false, nextAt := 0, first := true, clock := 0, split := false,
                late := late } first s

/-- The first SAMPLE whose target PT has come at converter k. -/
def dueSample (k : Fin 4) (s : State) : Option Act :=
  s.plan.acts.find? (fun a => isSampleFor s k a && decide (a.target ≤ s.pt))

/-- A SAMPLE claim falls in the present converter clock: it goes before any grant (R299). -/
def claimInClock (k : Fin 4) (s : State) : Bool :=
  s.plan.acts.any (fun a => isSampleFor s k a && decide (a.target / 5 ≤ s.pt / 5) && decide (sampleMask s a ≠ 0))

/-- The suspended open scan resumes (R282). -/
def resumeScan (k : Fin 4) (x : Scan) (s : State) : State :=
  let s := convScanStart k s
  let s := s.updConv k (fun c => { c with susp := none })
  beginScan k x (s.pt + 20) s

/-- An open slot's scan is granted (R276, R282). A MASK that a COMMIT makes 0 at this start leaves no position: counted as a
trigger that finds it 0 (DESIGN CHOICE, log entry 151). -/
def grantSlot (k : Fin 4) (j : Fin 4) (s : State) : State :=
  let s := convScanStart k s
  let base := CSLOT.base k j
  let s := s.updConv k (fun c => { c with pend := c.pend - 2 ^ j.val })
  let m := s.cfg base CSLOT.TRG_MASK_MASK
  let x : Scan :=
    { act := none, slot := j, left := m, ring := s.cfg base CSLOT.TRG_RING_RING, rbase := 0, rsize := 0, ren := false,
      stampPt := s.on base CSLOT.TRG_CFG_STAMP_PT, nextAt := 0, first := true, clock := 0,
      split := false, late := false }
  if m = 0 then s.bump (CONV.base k) CONV.CNT0_MASK0 else beginScan k x (s.pt + 20) s

/-- The first instant a waiting SAMPLE could still take, and the last one its limit allows (R280). -/
def waitLimit (s : State) (a : Act) : Nat := a.target + scanDelay (scanEnt s a) + a.dlim

/-- The waiting SAMPLE claims the converter, or is dropped with reason OVERLAP (R280). -/
def claimWaiting (k : Fin 4) (s : State) : State :=
  match s.conv[k].waiting with
  | none => s
  | some q =>
    let s := s.updConv k (fun c => { c with waiting := none })
    match findAct s q with
    | none => s
    | some a =>
      if max (max (a.target + scanDelay (scanEnt s a)) s.pt) s.conv[k].nextOk ≤ waitLimit s a then claimConv k a s
      else dropAct 2 a s

/-- A lower slot becomes pending in the present converter clock: it is granted first (R299). -/
def lowerComes (s : State) (k j : Fin 4) : Bool :=
  (List.finRange 4).any (fun i => decide (i.val < j.val) && (s.conv[k].delays[i]).any (fun t => decide (t / 5 ≤ s.pt / 5)))

/-- A free converter serves its requests in order (R282): the waiting SAMPLE, the suspended scan, the pending slots. -/
def serveConv (k : Fin 4) (s : State) : State :=
  let c := s.conv[k]
  if c.run.isSome ∨ c.convs ≠ [] then s
  else
    let s := claimWaiting k s
    let c := s.conv[k]
    if c.run.isSome then s
    else match c.susp with
      | some x => resumeScan k x s
      | none =>
        let s := if claimInClock k s then s else foldS (List.finRange 4) (fun j s =>
          if s.conv[k].run.isNone = true ∧ bit s.conv[k].pend j.val = true ∧ lowerComes s k j = false then grantSlot k j s else s) s
        if s.conv[k].run.isSome then s else moveMux k s

/-- SAMPLE_CLAIM (R278 to R280). -/
def sampleClaimStep (k : Fin 4) (s : State) : State :=
  match dueSample k s with
  | none => s
  | some a =>
    if convStands s then s
    else
    if sampleMask s a = 0 then
      applyAct a ((countShadow a s).bump (CONV.base k) CONV.CNT0_MASK0)
    else match s.conv[k].run.bind (fun x => x.act) with
      | none => claimConv k a s
      | some h =>
        let exc := a.excused || ((findAct s h).map Act.excused).getD false
        let s := contention exc s
        if s.conv[k].waiting.isSome then dropAct 2 a s
        else
          let s := updAct a.serial (fun a => { a with phase := .waiting, aheadSwept := exc }) s
          s.updConv k (fun c => { c with waiting := some a.serial })

/-- A waiting SAMPLE whose limit has passed is dropped with reason OVERLAP (R142, R280). -/
def sampleWaitExpire (a : Act) (s : State) : State :=
  let k := Fin.ofNat 4 (scanConv (scanEnt s a))
  if s.conv[k].waiting = some a.serial ∧ waitLimit s a < s.pt then
    dropAct 2 a (s.updConv k (fun c => { c with waiting := none }))
  else s

/-! ## Open triggers (R281) -/

/-- A scan has nothing left to sample, and its last conversion completes in the present converter clock. -/
def endsInClock (s : State) (c : Converter) (x : Scan) : Bool :=
  decide (x.left = 0) && (c.convs.filter (ofScan x)).all (fun v => decide ((v.at_ + 80) / 5 ≤ s.pt / 5))

/-- The slot is counting a delay, pending, running or suspended; a scan that ends in this clock ends first (R299). -/
def slotBusy (s : State) (c : Converter) (j : Fin 4) : Bool :=
  c.delays[j].isSome || bit c.pend j.val ||
    (match c.run with | some x => x.act.isNone && decide (x.slot = j.val) && !endsInClock s c x | none => false) ||
    (match c.susp with | some x => decide (x.slot = j.val) && !endsInClock s c x | none => false)

/-- GATE names a window gate that is closed, inverted by GATE_INV. -/
def gatedOff (s : State) (k j : Fin 4) : Bool :=
  let base := CSLOT.base k j
  let g := s.cfg base CSLOT.TRG_CFG_GATE
  decide (g ≠ 0) && (bit s.gates (g - 1) == s.on base CSLOT.TRG_CFG_GATE_INV)

/-- A higher slot granted in the present converter clock is pending again where slot j becomes pending in it (R299); a
suspended scan that has resumed in it goes before every pending slot (R282). -/
def ungrant (k j : Fin 4) (s : State) : State :=
  match s.conv[k].run with
  | some x =>
    if x.act.isNone ∧ x.first = true ∧ x.split = false ∧ j.val < x.slot ∧ x.clock = s.clockOf 5 s.tick then
      s.updConv k (fun c => { c with run := none, pend := c.pend ||| 2 ^ x.slot })
    else s
  | none => s

/-- A slot becomes pending; a free converter grants it at once (R282). -/
def slotPends (k j : Fin 4) (s : State) : State :=
  serveConv k ((ungrant k j s).updConv k (fun c => { c with delays := c.delays.set j none, pend := c.pend ||| 2 ^ j.val }))

/-- A trigger is judged by its slot (R281). -/
def judgeTrigger (k j : Fin 4) (s : State) : State :=
  let base := CSLOT.base k j
  if gatedOff s k j then s.bump (CONV.base k) CONV.CNT2_GATED
  else if slotBusy s s.conv[k] j then (s.bump (CONV.base k) CONV.CNT1_OVERRUN).raise (130 + 4 * k.val)
  else if s.cfg base CSLOT.TRG_MASK_MASK = 0 then s.bump (CONV.base k) CONV.CNT0_MASK0
  else
    let d := s.cfg base CSLOT.TRG_CFG_DELAY
    if d = 0 then slotPends k j s
    else s.updConv k (fun c => { c with delays := c.delays.set j (some (s.pt + 5 * d)) })

/-- OPEN_TRIGGER: the slot's source triggers; a slot with SRC off has none. -/
def openTriggerStep (k j : Fin 4) (s : State) : State :=
  if s.cfg (CSLOT.base k j) CSLOT.TRG_CFG_SRC = 0 ∨ convStands s = true then s
  else judgeTrigger k j (s.takeTrig (4 * k.val + j.val))

/-- OPEN_SLOT_PENDING: the delay has run out. -/
def slotPendingStep (k j : Fin 4) (s : State) : State :=
  match s.conv[k].delays[j] with
  | some t => if t ≤ s.pt ∧ convStands s = false then slotPends k j s else s
  | none => s

/-- CONV_SOFT: every named slot whose source is software takes a trigger. -/
def convSoftStep (k : Fin 4) (v : Word) (s : State) : State :=
  foldS (List.finRange 4) (fun j s =>
    if bit v.toNat j.val ∧ s.cfg (CSLOT.base k j) CSLOT.TRG_CFG_SRC = 0x30 ∧ convStands s = false then judgeTrigger k j s else s) s

/-! ## Sampling (R275 to R278, R288, R291) -/

/-- The stamp of a sampling instant and whether it is a PT stamp (R291). -/
def sampleStamp (s : State) (wantPt : Bool) : Nat × Bool :=
  if wantPt || !s.dev.epochOpen then (s.ptLo, true) else (s.dev.epoch % 64 * 2 ^ 26 + presented (ctl s), false)

/-- A SAMPLE takes effect at its first sampling instant: its order ends APPLIED (R22, R198, R278). -/
def sampleEffect (x : Scan) (s : State) : State :=
  match x.act.bind (findAct s) with
  | none => s
  | some a =>
    let s := updAct a.serial (fun a => { a with phase := .effect }) (flagOrder a (countShadow a s))
    match a.order with
    | some q => endOrder q 1 0 s.ptLo s
    | none => s

/-- A PT lies within 5 us of the last write of the test DAC: a sample of it then is no test of the code (R288, R296);
DEDUCED (log entry 15): also where the write comes after it. -/
def dacNear (s : State) (t : Nat) : Bool :=
  match s.dacAt with | some w => decide (t < w + 2000) | none => false

/-- The test DAC is settling. -/
def dacSettling (s : State) : Bool := dacNear s s.pt

/-- The measurement counts a conversion chosen for it (R286). -/
def chooseForCal (chosen : Bool) (m : Option CalRun) : Option CalRun :=
  if chosen then m.map (fun m => { m with sampled := m.sampled + 1 }) else m

/-- SAMPLING_INSTANT: the scan that holds the converter samples its next position. -/
def samplingStep (k : Fin 4) (s : State) : State :=
  match s.conv[k].run with
  | none => s
  | some x =>
    match lowestPos x.left with
    | none => s
    | some p =>
      if s.pt < x.nextAt ∨ s.pt < s.conv[k].nextOk ∨ convStands s = true then s
      else
        let s := if x.first then sampleEffect x s else s
        let st := sampleStamp s x.stampPt
        let flags := b2n x.split * 2 ^ 28 + b2n (x.first && x.late) * 2 ^ 27 + b2n x.first * 2 ^ 26 +
          b2n st.2 * 2 ^ 24
        let cal : Bool := match s.conv[k].cal with | some m => decide (m.pos = p) && decide (m.sampled < m.n) | none => false
        let v : Conversion := { plan := x.act.isSome, slot := x.slot, pos := p, at_ := s.pt, flags := flags, stamp := st.1,
                                cal := cal, take := cal, coef := s.actReg (COEF.base k p),
                                ring := x.ring, rbase := x.rbase, rsize := x.rsize, ren := x.ren, num := none }
        let left := x.left - 2 ^ p
        moveMux k (s.updConv k (fun c => { c with
          run := some { x with left := left, nextAt := s.pt + 80, first := false }
          convs := c.convs ++ [v]
          nextOk := s.pt + 80
          cal := chooseForCal cal c.cal }))

/-! ## Correction and calibration (R284 to R287) -/

/-- The corrected result of a raw code and whether it was clamped (R284). -/
def correct (coef : Word) (raw : Nat) : Nat × Bool :=
  let v := (((raw : Int) - signed 16 (COEF.COEF_OFFSET.of coef)) * COEF.COEF_GAIN.of coef + 16384).fdiv 32768
  if v < 0 then (0, true) else if 65535 < v then (65535, true) else (v.toNat, false)

/-- A measurement ends with a result, and takes no conversion still in progress, which is then one like any other; source
131 + 4k (R286, R287). -/
def calEnd (k : Fin 4) (res : Nat) (s : State) : State :=
  let base := CONV.base k
  let s := s.updConv k (fun c => { c with cal := none, convs := c.convs.map (fun v => { v with cal := false, take := false }) })
  let s := (s.wr base CONV.CAL_CMD_ZERO 0).wr base CONV.CAL_CMD_FULL 0
  (s.wr base CONV.CAL_STAT_RESULT res).raise (131 + 4 * k.val)

/-- The coefficient pair of a position goes into the inactive set, to act at the next scan start (R285, R286). -/
def putCoef (k : Fin 4) (p g o : Nat) (s : State) : State :=
  let w := toWord (g * 65536 + o % 65536)
  (s.setReg (COEF.base k p) w).pendCommit (.scan k) (COEF.base k p) w

/-- A full-scale measurement with mean f computes its coefficients (R286). -/
def calFullEnd (k : Fin 4) (m : CalRun) (f : Nat) (s : State) : State :=
  let base := CONV.base k
  let target := s.rd base CONV.CAL_CFG_TARGET
  let z := s.rd base CONV.CAL_Z_Z
  let s := s.wr base CONV.CAL_F_F f
  let g := divRound (target * 32768) (f - z)
  if target = 0 then calEnd k 6 s
  else if s.flag base CONV.CAL_Z_VALID = false then calEnd k 5 s
  else if f ≤ z ∨ g < 0x4000 ∨ 0xFEB8 < g then calEnd k 3 s
  else calEnd k 1 (putCoef k m.pos g z s)

/-- A raw code is taken into the measurement; the last one ends it (R286). -/
def calTake (k : Fin 4) (raw : Nat) (s : State) : State :=
  match s.conv[k].cal with
  | none => s
  | some m =>
    let m := { m with taken := m.taken + 1, sum := m.sum + raw, sat := m.sat || decide (raw = 0) || decide (raw = 65535) }
    let s := s.updConv k (fun c => { c with cal := some m })
    let s := s.wr (CONV.base k) CONV.CAL_STAT_COUNT m.taken
    if m.taken < m.n then s
    else if m.sat then calEnd k 7 s
    else if m.full then calFullEnd k m (divRound m.sum m.n) s
    else
      let s := s.wr (CONV.base k) CONV.CAL_Z_Z (divRound m.sum m.n)
      calEnd k 1 (s.wr (CONV.base k) CONV.CAL_Z_VALID 1)

/-- CAL_ZERO and CAL_FULL: a measurement starts, or the write is ignored and counted while one runs. -/
def calStartStep (full : Bool) (k : Fin 4) (s : State) : State :=
  let base := CONV.base k
  if s.islandHeld 3 then s
  else if s.conv[k].cal.isSome then s.err (0x30 + k.val)
  else
    let p := s.rd base CONV.CAL_CFG_POS
    let n := 2 ^ min 10 (s.rd base CONV.CAL_CFG_AVG)
    let s := s.updConv k (fun c => { c with cal := some ⟨full, p, n, 0, 0, 0, false⟩ })
    let s := s.wr base (if full then CONV.CAL_CMD_FULL else CONV.CAL_CMD_ZERO) 1
    ((s.wr base CONV.CAL_STAT_RESULT 2).wr base CONV.CAL_STAT_POS p).wr base CONV.CAL_STAT_COUNT 0

/-- CAL_ABORT. -/
def calAbortStep (k : Fin 4) (s : State) : State := if s.conv[k].cal.isSome then calEnd k 4 s else s

/-! ## Checks (R288 to R290) -/

/-- A check of ADCX fails: the bit of DIAG_STAT sets and the source is raised. -/
def checkFail (bitNo src : Nat) (s : State) : State :=
  let a := ADCX.base + 0x60
  (s.setReg a (s.reg a ||| toWord (2 ^ bitNo))).raise src

/-- The distance of two codes. -/
def codeDiff (a b : Nat) : Nat := max a b - min a b

/-- The pair registers of converter k. -/
def pairEn (k : Fin 4) : Fld := if k.val < 2 then ADCX.PAIR01_CFG_EN else ADCX.PAIR23_CFG_EN
/-- WIN of the pair of converter k. -/
def pairWin (k : Fin 4) : Fld := if k.val < 2 then ADCX.PAIR01_CFG_WIN else ADCX.PAIR23_CFG_WIN
/-- TOL of the pair of converter k. -/
def pairTol (k : Fin 4) : Fld := if k.val < 2 then ADCX.PAIR01_CFG_TOL else ADCX.PAIR23_CFG_TOL
/-- FAILS of the pair of converter k. -/
def pairFails (k : Fin 4) : Fld := if k.val < 2 then ADCX.PAIR01_STAT_FAILS else ADCX.PAIR23_STAT_FAILS
/-- STALE of the pair of converter k. -/
def pairStale (k : Fin 4) : Fld := if k.val < 2 then ADCX.PAIR01_STAT_STALE else ADCX.PAIR23_STAT_STALE
/-- DIFF of the pair of converter k. -/
def pairDiff (k : Fin 4) : Fld := if k.val < 2 then ADCX.PAIR01_STAT_DIFF else ADCX.PAIR23_STAT_DIFF
/-- The partner of converter k. -/
def partner (k : Fin 4) : Fin 4 := match k with | 0 => 1 | 1 => 0 | 2 => 3 | 3 => 2

/-- The pair check of a check-position result (R290). Answers whether it failed. -/
def pairCheck (k : Fin 4) (v : Conversion) (res : Nat) (s : State) : Bool × State :=
  let s := s.updConv k (fun c => { c with check := some (res, v.at_) })
  if s.on ADCX.base (pairEn k) = false then (false, s)
  else
    let recent := s.conv[partner k].check.filter (fun q => decide (v.at_ ≤ q.2 + 400 * s.cfg ADCX.base (pairWin k)))
    match recent with
    | none => (false, s.bump ADCX.base (pairStale k))
    | some q =>
      let d := codeDiff res q.1
      let s := s.wr ADCX.base (pairDiff k) d
      if s.cfg ADCX.base (pairTol k) < d then
        (true, checkFail (if k.val < 2 then 12 else 13) (if k.val < 2 then 144 else 145) (s.bump ADCX.base (pairFails k)))
      else (false, s)

/-- The checks a corrected result meets (R287 to R290). Answers whether one failed. -/
def checkResult (k : Fin 4) (v : Conversion) (res : Nat) (s : State) : Bool × State :=
  if v.cal then (false, s)
  else if v.pos = 16 then pairCheck k v res s
  else if v.pos = 17 then
    if s.on ADCX.base ADCX.DAC_CHK_EN ∧ bit v.flags 29 = false ∧
        s.cfg ADCX.base ADCX.DAC_CHK_TOL < codeDiff res (16 * s.rd ADCX.base ADCX.DAC_CODE) then
      (true, checkFail k.val 146 s) else (false, s)
  else if v.pos = 18 then
    if s.on ADCX.base ADCX.REF_CHK_EN ∧ s.cfg ADCX.base ADCX.REF_CHK_TOL < codeDiff res 0x8000 then
      (true, checkFail (4 + k.val) 147 s) else (false, s)
  else if v.pos = 19 then
    if s.on ADCX.base ADCX.SUP_CHK_EN ∧ s.cfg ADCX.base ADCX.SUP_CHK_TOL < codeDiff res 0xA8F5 then
      (true, checkFail (8 + k.val) 148 s) else (false, s)
  else (false, s)

/-! ## Result paths (R291 to R294) -/

/-- A record is lost (R292, R293). -/
def recLost (k : Fin 4) (s : State) : State := (s.bump (CONV.base k) CONV.CNT1_LOST).raise (130 + 4 * k.val)

/-- A result on the native path enters the FIFO as a record (R291, R293). -/
def putRecord (k : Fin 4) (v : Conversion) (res : Nat) (sat_ chk : Bool) (s : State) : State :=
  let lo := b2n chk * 2 ^ 31 + v.flags + b2n sat_ * 2 ^ 25 + b2n v.cal * 2 ^ 23 + k.val * 2 ^ 21 + v.pos * 2 ^ 16 + res
  if v.ren = false ∨ 16 ≤ s.conv[k].fifo.length then recLost k s
  else s.updConv k (fun c => { c with fifo := c.fifo ++ [⟨lo, v.stamp, v.ring, v.rbase, v.rsize, v.num⟩] })

/-- The empty accumulator. -/
def cvmEmpty : CvmAcc := ⟨0, 0, 0xFFFF, 0, false⟩

/-- A result enters an accumulator (R294). -/
def cvmAdd (a : CvmAcc) (res : Nat) : CvmAcc :=
  if a.count < 0xFFFFFF then
    { a with sum := (a.sum + res) % 2 ^ 40, count := a.count + 1, mn := min a.mn res, mx := max a.mx res }
  else { a with sat := true }

/-- A result enters the accumulator of its position. -/
def cvmPut (k : Fin 4) (p res : Nat) (s : State) : State :=
  s.updConv k (fun c =>
    let a := tget c.accs p cvmEmpty
    { c with accs := tset c.accs p (cvmAdd a res) cvmEmpty, accIn := some (s.clockOf 5 s.tick, p, res, a) })

/-- A result goes to the converter's path as it is selected when the result comes (R6, R277, R294, R299). -/
def deliver (k : Fin 4) (v : Conversion) (raw : Nat) (s : State) : State :=
  let r := correct v.coef raw
  let chk := checkResult k v r.1 s
  let s := (chk.2.wr (CONV.base k) CONV.LAST_RAW raw).wr (CONV.base k) CONV.LAST_RESULT r.1
  if s.on (CONV.base k) CONV.CFG_PATH then (if v.cal then s else cvmPut k v.pos r.1 s) else putRecord k v r.1 r.2 chk.1 s

/-- A scan ends: counted, CONVk_DONE for an open slot with EVT; a SAMPLE leaves the actions in flight (R277, R298). -/
def endScan (k : Fin 4) (x : Scan) (s : State) : State :=
  let s := s.bumpWrap (CONV.base k) CONV.CNT0_SCANS
  match x.act with
  | some q => dropActEntry q s
  | none => s.raiseIf (s.on (CSLOT.base k x.slot) CSLOT.TRG_CFG_EVT) (129 + 4 * k.val)

/-- A scan has ended: nothing is left to sample or to complete (R277). -/
def scanDone (c : Converter) (x : Scan) : Bool := decide (x.left = 0) && !c.convs.any (ofScan x)

/-- After a result: a scan with nothing left to sample or to complete ends, and the free converter serves its requests. -/
def settleConv (k : Fin 4) (s : State) : State :=
  let c := s.conv[k]
  let s := match c.susp with
    | some x => if scanDone c x then endScan k x (s.updConv k (fun c => { c with susp := none })) else s
    | none => s
  let s := match c.run with
    | some x => if scanDone c x then endScan k x (s.updConv k (fun c => { c with run := none })) else s
    | none => s
  serveConv k s

/-- CONVERSION_RESULT: 200 ns after its sampling instant a conversion is ready with its raw code. One of the test position
carries DSET where the DAC has been written within 5 us before its sampling instant or since it (R288; log entry 15). -/
def conversionStep (k : Fin 4) (raw : Nat) (s : State) : State :=
  match s.conv[k].convs with
  | [] => s
  | v :: rest =>
    if s.pt < v.at_ + 80 ∨ convStands s = true then s
    else
      let v := { v with flags := v.flags ||| b2n (decide (v.pos = 17) && dacNear s v.at_) * 2 ^ 29 }
      let s := s.updConv k (fun c => { c with convs := rest })
      let s := deliver k v raw s
      settleConv k (if v.take then calTake k raw s else s)

/-- WP of a ring as the present converter clock found it (R299). -/
def clockWp (s : State) (k : Fin 4) (r : Nat) : Nat :=
  let e : Nat × Nat := tget s.conv[k].wpWas r (0, 0)
  if e.1 = s.clockOf 5 s.tick + 1 then e.2 else s.rd (CRING.base k r) CRING.WP_COUNT

/-- RING_MARK_WRITE: software's progress, ignored and counted if it runs past WP, or past the WP before an advance in this
converter clock (R292, R299). -/
def ringMarkStep (k : Fin 4) (r : Fin 8) (v : Word) (s : State) : State :=
  let base := CRING.base k r
  let old := s.rd base CRING.MARK_COUNT
  let wp := clockWp s k r.val
  if (v.toNat + 2 ^ 32 - old) % 2 ^ 32 ≤ (wp + 2 ^ 32 - old) % 2 ^ 32 then
    s.wr base CRING.MARK_COUNT v.toNat
  else s.err (0x30 + k.val)

/-- SUM_LO_READ: the accumulator's snapshot, emptied with RDCLR; a result of the converter clock of the read belongs to the
next interval (R294, R299). -/
def sumLoReadStep (k : Fin 4) (p : Fin 21) (s : State) : State :=
  let now := tget s.conv[k].accs p.val cvmEmpty
  let fresh := s.conv[k].accIn.filter (fun e => e.1 == s.clockOf 5 s.tick && e.2.1 == p.val)
  let a := (fresh.map (fun e => e.2.2.2)).getD now
  let rest := match fresh with | some e => cvmAdd cvmEmpty e.2.2.1 | none => cvmEmpty
  let base := CACC.base k p
  let s := s.wr base CACC.SUM_LO_SUM a.sum
  let s := (s.wr base CACC.SUM_HI_COUNT a.count).wr base CACC.SUM_HI_SUM (a.sum / 2 ^ 32)
  let s := ((s.wr base CACC.MINMAX_MAX a.mx).wr base CACC.MINMAX_MIN a.mn).wr base CACC.STAT_SAT (b2n a.sat)
  let s := if s.flag (CONV.base k) CONV.CVM_CFG_RDCLR then
    s.updConv k (fun c => { c with
      accs := tset c.accs p.val rest cvmEmpty
      accIn := match fresh with | some e => some (e.1, e.2.1, e.2.2.1, cvmEmpty) | none => c.accIn }) else s
  s.respond (toWord a.sum)

/-- SCAN_LO_READ: entry SCAN_IDX of the loaded plan's scan table (R296). -/
def scanLoReadStep (s : State) : State :=
  let e := tget s.plan.scan (s.rd ADCX.base ADCX.SCAN_IDX_INDEX) 0
  let s := (s.wr ADCX.base ADCX.SCAN_LO_DATA e).wr ADCX.base ADCX.SCAN_HI_DATA (e / 2 ^ 32)
  s.respond (toWord e)

/-- DAC_WRITE: the code acts at once, and the output settles for 5 us (R288, R296). -/
def dacWriteStep (v : Word) (s : State) : State :=
  if s.islandHeld 3 then s else
  { s.wr ADCX.base ADCX.DAC_CODE v.toNat with dacAt := some s.pt }

/-! ## Spillway ends (R283, R299) -/

/-- A SAMPLE whose target lies in the present converter clock claims its converter although a spillway end falls in the clock
(R299): one on its way has its claim made where no SAMPLE scan holds the converter. -/
def spillClaim (k : Fin 4) (s : State) : State :=
  match s.conv[k].run.bind (fun x => x.act),
      s.plan.acts.find? (fun a => isSampleFor s k a && decide (a.target / 5 ≤ s.pt / 5) && decide (sampleMask s a ≠ 0)) with
  | none, some a => if convStands s then s else claimConv k a s
  | _, _ => s

/-- The SAMPLE scan that took converter k in the present converter clock. -/
def claimedNow (s : State) (k : Fin 4) : Option Nat :=
  s.conv[k].run.bind (fun x => if x.clock = s.clockOf 5 s.tick then x.act else none)

/-- A SAMPLE scan whose claim falls in the converter clock of a spillway end has no sampling instant (R299): what it has sampled
in the clock is no conversion, and an order that this has just ended goes on. DESIGN CHOICE (log entry 200): one whose
record an earlier tick of the clock has written stays APPLIED. -/
def unsample (k : Fin 4) (s : State) : State :=
  match claimedNow s k with
  | none => s
  | some q =>
    let s := match (findAct s q).bind (fun a => a.order) with
      | some o => updOrder o (fun x => if x.progress = 4 ∧ x.state = 1 then { x with progress := 2, state := 0, data := 0 } else x) s
      | none => s
    s.updConv k (fun c => { c with
      convs := c.convs.filter (fun v => !v.plan)
      nextOk := if c.convs.any (fun v => v.plan) then s.pt else c.nextOk })

/-- Converter k as a spillway end that ends the SAMPLEs finds it: claims of its clock are made, and sample nothing (R299). -/
def spillSamples (s : State) : State := foldS (List.finRange 4) (fun k s => unsample k (spillClaim k s)) s

/-- A running SAMPLE scan takes no further sampling instant, a waiting SAMPLE is cleared (R110, R283). -/
def spillConv (k : Fin 4) (s : State) : State :=
  let s := s.updConv k (fun c => { c with
    waiting := none
    convs := c.convs.map (fun v => if v.plan then { v with flags := v.flags ||| 2 ^ 30 } else v)
    run := c.run.map (fun x => if x.act.isSome then { x with left := 0 } else x) })
  settleConv k s

/-! ## Commands -/

/-- SAMPLE_CLAIM. -/
def execSampleClaim (k : Fin 4) (s : State) : Host.Outcome State Fault Refusal := .next (sampleClaimStep k s)
/-- SAMPLING_INSTANT. -/
def execSamplingInstant (k : Fin 4) (s : State) : Host.Outcome State Fault Refusal := .next (samplingStep k s)
/-- CONVERSION_RESULT. -/
def execConversionResult (k : Fin 4) (raw : Half) (s : State) : Host.Outcome State Fault Refusal :=
  .next (conversionStep k raw.toNat s)
/-- OPEN_TRIGGER. -/
def execOpenTrigger (k slot : Fin 4) (s : State) : Host.Outcome State Fault Refusal := .next (openTriggerStep k slot s)
/-- OPEN_SLOT_PENDING. -/
def execOpenSlotPending (k slot : Fin 4) (s : State) : Host.Outcome State Fault Refusal := .next (slotPendingStep k slot s)
/-- CONV_SOFT. -/
def execConvSoft (k : Fin 4) (v : Word) (s : State) : Host.Outcome State Fault Refusal := .next (convSoftStep k v s)
/-- CAL_ZERO. -/
def execCalZero (k : Fin 4) (s : State) : Host.Outcome State Fault Refusal := .next (calStartStep false k s)
/-- CAL_FULL. -/
def execCalFull (k : Fin 4) (s : State) : Host.Outcome State Fault Refusal := .next (calStartStep true k s)
/-- CAL_ABORT. -/
def execCalAbort (k : Fin 4) (s : State) : Host.Outcome State Fault Refusal := .next (calAbortStep k s)
/-- DAC_WRITE. -/
def execDacWrite (v : Word) (s : State) : Host.Outcome State Fault Refusal := .next (dacWriteStep v s)
/-- RING_MARK_WRITE. -/
def execRingMarkWrite (k : Fin 4) (r : Fin 8) (v : Word) (s : State) : Host.Outcome State Fault Refusal :=
  .next (ringMarkStep k r v s)
/-- SUM_LO_READ. -/
def execSumLoRead (k : Fin 4) (p : Fin 21) (s : State) : Host.Outcome State Fault Refusal := .next (sumLoReadStep k p s)
/-- SCAN_LO_READ. -/
def execScanLoRead (s : State) : Host.Outcome State Fault Refusal := .next (scanLoReadStep s)

end Sys2Proof.Machine
end

