-- ==== Sys2Proof/Machine/Catch.lean ====
section
/-! DEFINITION. The Catchment: coalescing, routing, delivery and completion (chapter 14, R374 to R384). -/

namespace Sys2Proof.Machine

/-- An idle source that has not been given to a target: the link counts as its last one (R377). -/
def catchIdle : CatchSrc := ⟨0, none, none, 0, false, none, 0⟩

/-- Source n in the Catchment. -/
def State.csrc (s : State) (n : Nat) : CatchSrc := tget s.catch_ n catchIdle

/-- Source n replaced. -/
def State.setCsrc (s : State) (n : Nat) (x : CatchSrc) : State := { s with catch_ := tset s.catch_ n x catchIdle }

/-- Source n is pending at target t. -/
def pendingAt (s : State) (t n : Nat) : Bool := (s.csrc n).pend == some t

/-- The request of target t is asserted: some source is pending at it, since an earlier tick (R379). -/
def requestTo (s : State) (t : Nat) : Bool :=
  s.catch_.any (fun e => e.2.pend == some t && decide (e.2.since < s.tick))

/-- Word j of the pending bits of target t. -/
def pendWord (s : State) (t j : Nat) : Nat :=
  s.catch_.foldl (fun w e => if e.2.pend = some t ∧ e.1 / 32 = j then w + 2 ^ (e.1 % 32) else w) 0

/-- Word j of the pending bits of any target. -/
def anyWord (s : State) (j : Nat) : Nat :=
  s.catch_.foldl (fun w e => if e.2.pend.isSome ∧ e.1 / 32 = j then w + 2 ^ (e.1 % 32) else w) 0

/-- The condition of R376: the count limit or the time limit is met. -/
def coalMet (s : State) (n : Nat) (x : CatchSrc) : Bool :=
  let base := CSRC.base n
  decide (s.cfg base CSRC.CFG_COAL_N ≤ x.acc) ||
    (match x.timer with
     | some t => decide (s.cfg base CSRC.CFG_COAL_T ≠ 0) && decide (t + 400 * s.cfg base CSRC.CFG_COAL_T ≤ s.pt)
     | none => false)

/-- The next target of a route after the last one, round the seven (R377). -/
def nextTarget (route last : Nat) : Option Nat :=
  ((List.range 7).map (fun i => (last + 1 + i) % 7)).find? (fun t => bit route t)

/-- A source whose condition holds becomes pending, if it is idle and a target is enabled (R376, R377). The request of
its target is asserted in every tick after `since`: that of an event's arrival, or the tick before this one where no
event but a completion, a new limit or the timer made it pending (R378, R379). -/
def tryPend (n since : Nat) (s : State) : State :=
  let x := s.csrc n
  if x.pend.isSome ∨ coalMet s n x = false then s
  else match nextTarget (s.cfg (CSRC.base n) CSRC.CFG_ROUTE) (x.last.getD 6) with
    | none => s
    | some t =>
      (s.setCsrc n { x with acc := 0, timer := none, pend := some t, since := since, last := some t }).bumpWrap
        CATCH.base CATCH.PEND_CNT_COUNT

/-- An event of source n arrives: COUNT, ACC, the timer, then the condition (R376). -/
def takeEvent (n : Nat) (s : State) : State :=
  let s := s.bump (CSTAT.base n) CSTAT.STAT_COUNT
  let x := s.csrc n
  let s := s.setCsrc n { x with acc := sat 255 (x.acc + 1), timer := if x.acc = 0 then some s.pt else x.timer, got := s.tick + 1 }
  tryPend n s.tick s

/-- CATCH_EVENT: the oldest raising of the source that has reached the Catchment is taken; none in PARK (R381). -/
def catchEventStep (n : Nat) (s : State) : State :=
  if s.dev.st = .park then s
  else match s.inFlight.find? (fun e => decide (e.src = n) && decide (e.due ≤ s.tick)) with
  | some e => takeEvent n { s with inFlight := s.inFlight.erase e }
  | none => s

/-- Every event that has reached the Catchment is taken: those of the tick of PARK's entry are, before it saves (R381,
R384). -/
def catchAll (s : State) : State :=
  foldS (s.inFlight.filter (fun e => decide (e.due ≤ s.tick))) (fun e s => catchEventStep e.src s) s

/-- A completion of source n at target t: at the end of its tick, or a stray (R378). -/
def completeStep (t n : Nat) (s : State) : State :=
  let x := s.csrc n
  if x.pend = some t ∧ x.completing = false then s.setCsrc n { x with completing := true }
  else
    let s := s.bump CATCH.base CATCH.STRAY_COUNT
    ((s.wr CATCH.base CATCH.STRAY_VALID 1).wr CATCH.base CATCH.STRAY_TARGET t).wr CATCH.base CATCH.STRAY_SRC n

/-- The tick after: completed sources are idle, and their conditions are tested (R378). -/
def catchTick (s : State) : State :=
  foldS (s.catch_.filter (fun e => e.2.completing)) (fun e s =>
    tryPend e.1 (s.tick - 1) (s.setCsrc e.1 { s.csrc e.1 with pend := none, completing := false })) s

/-- New limits and routes act: every source that has gathered events is tested (R377, R383). -/
def catchRetest (s : State) : State := foldS s.catch_ (fun e s => if e.2.acc = 0 then s else tryPend e.1 (s.tick - 1) s) s

/-- A write of a source's COUNT sets it to 0; an event that arrives in the same tick counts after it (R382, R384). -/
def countWrite (n : Nat) (s : State) : State :=
  s.wr (CSTAT.base n) CSTAT.STAT_COUNT (if (s.csrc n).got = s.tick + 1 then 1 else 0)

/-! ## Commands -/

/-- CATCH_EVENT. -/
def execCatchEvent (src : BitVec 8) (s : State) : Host.Outcome State Fault Refusal := .next (catchEventStep src.toNat s)
/-- CATCH_COAL_TIMEOUT: the time limit is reached. The timer stands with PT and in PARK (R376, R381). -/
def execCatchCoalTimeout (src : BitVec 8) (s : State) : Host.Outcome State Fault Refusal :=
  .next (if (s.csrc src.toNat).acc = 0 ∨ s.ptStands = true ∨ s.dev.st = .park then s else tryPend src.toNat (s.tick - 1) s)
/-- CATCH_COMPLETE. -/
def execCatchComplete (t : Fin 7) (src : BitVec 8) (s : State) : Host.Outcome State Fault Refusal :=
  .next (completeStep t src.toNat s)
/-- SETPEND: one event of the source, as if it had fired (R380). -/
def execSetpend (src : BitVec 8) (s : State) : Host.Outcome State Fault Refusal := .next (s.raise src.toNat)

end Sys2Proof.Machine
end

