-- ==== Sys2Proof/Machine/Cores.lean ====
section
/-! DEFINITION. The Isligil cores: banks, instructions, tasks and faults (chapter 13, R346 to R373). Far accesses are
completed in `FarAccess.lean`. -/

namespace Sys2Proof.Machine

/-! ## Memories (R348) -/

/-- Core n's control block. -/
def cr (n : Fin 4) : Nat := CORE.base n
/-- Address of instruction i of core n. -/
def imemAddr (n : Fin 4) (i : Nat) : Nat := 0x200000 + n.val * 0x40000 + 4 * (i % 16384)
/-- Address of data word w of core n; bit 15 of w is ignored. -/
def dmemAddr (n : Fin 4) (w : Nat) : Nat := 0x220000 + n.val * 0x40000 + 2 * (w % 32768)

/-- A data word as stored. -/
def dmem (s : State) (n : Fin 4) (w : Nat) : Nat := s.leBytes (dmemAddr n w) 2

/-- A data word stored. -/
def dmemPut (n : Fin 4) (w v : Nat) (s : State) : State := writeSec (dmemAddr n w) 2 v s

/-! ## Banks (R346) -/

/-- An empty bank at an instruction. -/
def bankAt (pc pt : Nat) : CoreBank :=
  { w := Vector.replicate 16 0, p := 1, ac := 0, lk := 0, c := false, v := false, ie := false, rc := 0, rpti := false,
    pc := pc, wait := .none, nextAt := pt, latch := none, snap := none, ptSnap := 0, angSnap := 0, met := none }

/-- The bank that runs: the task bank while a task runs, else the background. -/
def liveBank (x : Core) : CoreBank := if x.task.isSome then x.tb else x.bg

/-- The running bank replaced. -/
def setLive (b : CoreBank) (x : Core) : Core := if x.task.isSome then { x with tb := b } else { x with bg := b }

/-- The running bank changes. -/
def updLive (c : Fin 4) (f : CoreBank → CoreBank) (s : State) : State := s.updCore c (fun x => setLive (f (liveBank x)) x)

/-- Working register k. -/
def CoreBank.reg (b : CoreBank) (k : Nat) : Nat := b.w.toList.getD k 0
/-- Working register k written. -/
def CoreBank.setW (b : CoreBank) (k v : Nat) : CoreBank := { b with w := b.w.setIfInBounds k (v % 65536) }
/-- The pair named by an even register (R350). -/
def CoreBank.pair (b : CoreBank) (k : Nat) : Nat := b.reg k + 65536 * b.reg (k + 1)
/-- Predicate k. -/
def CoreBank.pred (b : CoreBank) (k : Nat) : Bool := bit b.p k
/-- Predicate k written; P0 reads 1 whatever is written (R346). -/
def CoreBank.setPred (b : CoreBank) (k : Nat) (v : Bool) : CoreBank :=
  if k = 0 then b else { b with p := b.p - (b.p &&& 2 ^ k) + (if v then 2 ^ k else 0) }
/-- FLAGS as creg 0 reads (R346, R353). -/
def CoreBank.flags (b : CoreBank) (task : Bool) : Nat :=
  b2n b.c + 2 * b2n b.v + 4 * b2n b.ie + 8 * b2n task + 16 * b2n (decide (b.rc ≠ 0))
/-- FLAGS written: TASK and RPTA ignore writes (R347). -/
def CoreBank.setFlags (b : CoreBank) (v : Nat) : CoreBank := { b with c := bit v 0, v := bit v 1, ie := bit v 2 }

/-! ## Frame slots (R132, R366) -/

/-- ENTRY of a frame-slot word. -/
def fsEntry (w : Nat) : Nat := bits w 37 24
/-- RSV. -/
def fsRsv (w : Nat) : Bool := bit w 23
/-- BUDGET. -/
def fsBudget (w : Nat) : Nat := bits w 22 12
/-- START. -/
def fsStart (w : Nat) : Nat := bits w 10 0

/-- The frame slots run: from ARM until the next disarm or warm reset (R366). -/
def slotsRun (s : State) : Bool := s.armedOrLater && decide (s.dev.st ≠ .park)

/-- A slot's word may start in this state: while the frame slots run; a TASK released before a disarm still runs to
completion (R111; log entry 178). -/
def slotMay (s : State) (w : Nat) : Bool := slotsRun s || (fsRsv w && decide (s.dev.st ≠ .park))

/-- Slot k of core c begins now: its word, if it is in the table and its start has come in this frame. -/
def slotWord (s : State) (c : Fin 4) (k : Nat) : Option Nat :=
  match s.cores[c].frame[k]? with
  | some w => if s.coreFrame * 2000 + fsStart w ≤ s.pt ∧ s.cores[c].started.contains k = false then some w else none
  | none => none

/-- The TASK released into slot k for the occurrence that starts at a PT (R130). -/
def releaseFor (s : State) (c : Fin 4) (k start : Nat) : Option Release :=
  s.cores[c].releases.find? (fun r => decide (r.slot = k) && decide (r.at_ ≤ start))

/-- A slot's word is occupied in this frame: periodic, or reserved with a TASK released into it (R366). -/
def slotOccupied (s : State) (c : Fin 4) (k w : Nat) : Bool :=
  !fsRsv w || (releaseFor s c k (s.coreFrame * 2000 + fsStart w)).isSome

/-- An occupied slot of core c starts now. -/
def slotDue (s : State) (c : Fin 4) : Bool :=
  (List.range s.cores[c].frame.length).any (fun k => (slotWord s c k).any (fun w => slotMay s w && slotOccupied s c k w))

/-- Another occupied slot of core c has come, or the frame has ended (R145). -/
def nextSlotCome (s : State) (c : Fin 4) : Bool := decide (s.coreFrame < s.pt / 2000) || slotDue s c

/-! ## Running (R352, R353, R365) -/

/-- The core executes at all in this tick. -/
def coreLive (s : State) (c : Fin 4) : Bool :=
  let x := s.cores[c]
  let stDone := match s.dev.st with | .reset | .strapped | .park => false | _ => true
  x.on && !x.faulted && !x.parked && stDone && !s.ptStands && (x.task.isSome || !x.idle)

/-- A slot start takes the core from what runs: from the background at once, from a task that must be abandoned (R145,
R366, R373). -/
def slotTakes (s : State) (c : Fin 4) : Bool := if s.cores[c].task.isSome then nextSlotCome s c else slotDue s c

/-- The address of the instruction the core issues now, if it issues one. -/
def coreDue (c : Fin 4) (s : State) : Option Nat :=
  let b := liveBank s.cores[c]
  if coreLive s c ∧ b.wait = .none ∧ b.nextAt ≤ s.pt ∧ slotTakes s c = false then some b.pc else none

/-! ## Encoding (R350, R351) -/

/-- Opcode. -/
def cop (w : Nat) : Nat := bits w 27 22
/-- D or S. -/
def cD (w : Nat) : Nat := bits w 21 18
/-- A. -/
def cA (w : Nat) : Nat := bits w 17 14
/-- B. -/
def cB (w : Nat) : Nat := bits w 13 10
/-- IMM of format I as signed, modulo 2^16. -/
def cS14 (w : Nat) : Nat := unsigned 16 (signed 14 (bits w 13 0))
/-- IMM of format I as unsigned. -/
def cU14 (w : Nat) : Nat := bits w 13 0
/-- OFF of formats M and F, sign-extended. -/
def cOff (n w : Nat) : Int := signed n (bits w (n - 1) 0)

/-- An opcode R351 names: 0x00 and 0x2A to 0x3F are reserved. -/
def namedOp (op : Nat) : Bool := decide (1 ≤ op) && decide (op ≤ 0x29)

/-- A word is an instruction of R351 with every unnamed bit 0 (R350, R368). -/
def coreLegal (w : Nat) : Bool :=
  let z := fun hi lo => decide (bits w hi lo = 0)
  let even := fun hi lo => decide (bits w hi lo % 2 = 0)
  match cop w with
  | 0x01 | 0x1F | 0x21 | 0x27 | 0x28 => z 21 0
  | 0x02 | 0x03 | 0x04 | 0x05 | 0x06 | 0x07 | 0x08 | 0x09 | 0x0A | 0x10 | 0x1E => z 9 0
  | 0x0B | 0x0C | 0x0D | 0x0E => true
  | 0x0F => z 10 8
  | 0x11 => z 17 16
  | 0x12 => z 8 0
  | 0x13 => z 6 0 && decide (bits w 9 8 ≠ 3)
  | 0x14 => z 5 5
  | 0x15 => z 7 0 && decide (bits w 18 16 ≠ 7)
  | 0x16 => decide (bits w 18 16 ≠ 7)
  | 0x17 => z 8 0
  | 0x18 | 0x19 => true
  | 0x1A | 0x1B => z 12 12 && even 17 14 && (!bit w 13 || even 21 18)
  | 0x1C | 0x1D => z 21 14
  | 0x20 => z 19 18
  | 0x22 => z 21 4
  | 0x23 => z 21 18 && even 17 14 && z 13 0
  | 0x24 => z 18 18 && even 17 14 && z 13 0
  | 0x25 => z 17 5
  | 0x26 => z 21 18 && z 13 5
  | 0x29 => z 3 0 && decide (bits w 9 8 ≠ 3)
  | _ => false

/-- The guard holds (R350). -/
def guardHolds (b : CoreBank) (w : Nat) : Bool := b.pred (bits w 30 28) != bit w 31

/-! ## Faults (R367, R368) -/

/-- The slot table's entry of a slot. -/
def slotStat (x : Core) (k : Nat) : Nat × Nat := tget x.slotMax k (0, 0)

/-- A run of a slot used cycles; it may have overrun (R367). -/
def noteRun (k cycles : Nat) (late : Bool) (x : Core) : Core :=
  let e := slotStat x k
  { x with slotMax := tset x.slotMax k (max e.1 (sat 2047 cycles), sat 0xFFFF (e.2 + b2n late)) (0, 0) }

/-- The DEADLINE record of a TASK action; ANOM tells of it in the record of the order it decided, where both are written
(R145, R200, R201). -/
def deadlineAct (idx : Nat) (order : Option Nat) (s : State) : State :=
  let written := jrnRoom s
  let t := jrnAction 7 2 idx (devAngle s) s
  match order with
  | some q => updOrder q (fun o => { o with anom := o.anom || written }) t
  | none => t

/-- The DEADLINE record of a task: the TASK action, or the core and the slot (R145, R201). -/
def deadlineRecord (c : Fin 4) (t : TaskRun) (s : State) : State :=
  match t.idx with
  | some i => deadlineAct i t.order s
  | none => jrnPeriodic c.val t.slot (devAngle s) s

/-- The deadline monitor sees a task that has not completed within its budget (R142, R367). -/
def noteOverrun (c : Fin 4) (t : TaskRun) (s : State) : State :=
  if t.overrun then s
  else
    let s := s.updCore c (fun x => noteRun t.slot 0 true { x with task := some { t with overrun := true } })
    violation 4 52 s

/-- A far access outstanding in a bank. -/
def outstanding (b : CoreBank) : List FarAcc := match b.wait with | .far a => [a] | _ => []

/-- A bank no longer waits for the peer accesses it has sent: they end without it (R367). -/
def farGone (c : Fin 4) (task : Bool) (s : State) : State :=
  s.updLink (fun l => { l with reqs := l.reqs.map (fun r => if r.who == .core c task then { r with who := .gone } else r) })

/-- A far access of a bank has been sent to a peer. -/
def farSent (s : State) (c : Fin 4) (task : Bool) (f : FarAcc) : Bool :=
  s.link.reqs.any (fun r => r.who == .core c task ||
    (decide (r.init = 1 + c.val) && r.addr == f.addr && (match r.who with | .order _ => true | _ => false)))

/-- The running task is abandoned (R145, R367): its registers go, its far accesses complete without them; one that
a peer has been sent is not sent again. -/
def abandonTask (c : Fin 4) (s : State) : State :=
  match s.cores[c].task with
  | none => s
  | some t =>
    let s := noteOverrun c t s
    let s := s.bump (cr c) CORE.CNT_ABANDONS
    let used := s.pt - t.start
    let left := (outstanding s.cores[c].tb).filter (fun f => !farSent s c true f)
    let s := farGone c true (s.updCore c (fun x => noteRun t.slot used false
      { x with task := none, orphans := x.orphans ++ left }))
    deadlineRecord c t s

/-- A core faults (R368): recorded, source 8 + n, and a task's fault is an overrun of its slot. -/
def coreFault (cause : Nat) (c : Fin 4) (s : State) : State :=
  let x := s.cores[c]
  let s := (s.setReg (cr c + 8) (toWord (2 ^ 31 + cause * 2 ^ 24 + b2n x.task.isSome * 2 ^ 14 + (liveBank x).pc))).raise
    (8 + c.val)
  let s := s.updCore c (fun x => { x with faulted := true })
  match x.task with
  | none => s
  | some t =>
    let s := noteOverrun c t s
    let used := s.pt - t.start
    let s := s.updCore c (fun x => noteRun t.slot used false { x with task := none })
    deadlineRecord c t s

/-! ## Issuing an instruction -/

/-- The next instruction issues n ticks from now, at the address a repeat or the sequence gives (R353). -/
def coreNext (c : Fin 4) (n : Nat) (s : State) : State :=
  updLive c (fun b =>
    let b := { b with nextAt := s.pt + n, wait := .none }
    if 2 ≤ b.rc then { b with rc := b.rc - 1 }
    else { b with rc := 0, pc := (b.pc + 1) % 16384 }) s

/-- The next instruction issues n ticks from now at a target. -/
def coreJump (c : Fin 4) (n target : Nat) (s : State) : State :=
  updLive c (fun b => { b with nextAt := s.pt + n, wait := .none, rc := 0, pc := target % 16384 }) s

/-- One instruction of an opcode issues (R349 to R352): the word is fetched, an uncorrectable or illegal word faults
the core, a false guard before an opcode that R351 names takes 1 cycle and changes nothing (DEDUCED, log entry 97). A word of another opcode, or none due, leaves the core. -/
def coreExec (c : Fin 4) (op : Nat) (f : Nat → CoreBank → State → State) (s : State) : State :=
  match coreDue c s with
  | none => s
  | some pc =>
    let a := imemAddr c pc
    if 2 ≤ secBad s a then coreFault 2 c (s.wr (cr c) CORE.IMEM_ECC_UADDR pc)
    else
      let w := s.leBytes a 4
      let t := if secBad s a = 1 then s.bump (cr c) CORE.IMEM_ECC_CORR else s
      if guardHolds (liveBank s.cores[c]) w = false ∧ namedOp (cop w) then (if cop w = op then coreNext c 1 t else s)
      else if coreLegal w = false then coreFault 1 c t
      else if cop w = op then f w (liveBank t.cores[c]) t
      else s

/-- An instruction that writes D and takes n cycles. -/
def coreWriteD (c : Fin 4) (n w v : Nat) (s : State) : State := coreNext c n (updLive c (fun b => b.setW (cD w) v) s)

/-- D takes a value, with the carry. -/
def coreAlu (c : Fin 4) (w v : Nat) (carry : Bool) (s : State) : State :=
  coreNext c 1 (updLive c (fun b => { b.setW (cD w) v with c := carry }) s)

/-! ## Arithmetic and logic (R351) -/

/-- A + B + carry in. -/
def addWith (c : Fin 4) (w a b : Nat) (cin : Bool) (s : State) : State :=
  let r := a + b + b2n cin
  coreAlu c w r (decide (65536 ≤ r)) s

/-- A - B - borrow in; C is 1 on borrow. -/
def subWith (c : Fin 4) (w a b : Nat) (cin : Bool) (s : State) : State :=
  coreAlu c w (a + 2 * 65536 - b - b2n cin) (decide (a < b + b2n cin)) s

/-- A signed result held to 16 bits; V sets when it is. -/
def satWith (c : Fin 4) (w : Nat) (r : Int) (s : State) : State :=
  let v := clampI (-32768) 32767 r
  coreNext c 1 (updLive c (fun b => { b.setW (cD w) (unsigned 16 v) with v := b.v || decide (v ≠ r) }) s)

/-- Signed value of a working register. -/
def sreg (b : CoreBank) (k : Nat) : Int := signed 16 (b.reg k)

/-- A shifted by n, and the last bit shifted out. -/
def shiftOf (kind a n : Nat) : Nat × Bool :=
  match kind with
  | 0 => (a * 2 ^ n % 65536, bit a (16 - n))
  | 1 => (a / 2 ^ n, bit a (n - 1))
  | 2 => (unsigned 16 ((signed 16 a).fdiv (2 ^ n)), bit a (n - 1))
  | _ => ((a * 2 ^ n + a / 2 ^ (16 - n)) % 65536, bit a (16 - n))

/-- SHIFT. -/
def shiftStep (c : Fin 4) (w : Nat) (b : CoreBank) (s : State) : State :=
  let n := if bit w 11 then b.reg (bits w 7 4) % 16 else bits w 3 0
  let a := b.reg (cA w)
  if n = 0 then coreWriteD c 1 w a s
  else
    let r := shiftOf (bits w 13 12) a n
    coreAlu c w r.1 r.2 s

/-- MPY. -/
def mpyStep (c : Fin 4) (w : Nat) (b : CoreBank) (s : State) : State :=
  let r := unsigned 32 (sreg b (cA w) * sreg b (cB w))
  coreWriteD c 2 w (if bit w 9 then r / 65536 else r) s

/-- AC as a signed value. -/
def acOf (b : CoreBank) : Int := signed 40 b.ac

/-- AC plus a product, wrapping at 40 bits; V sets when it does. -/
def acAdd (b : CoreBank) (r : Int) : CoreBank :=
  let v := acOf b + r
  { b with ac := unsigned 40 v, v := b.v || decide (signed 40 (unsigned 40 v) ≠ v) }

/-- The product of MAC and MACM in a mode, with its sign. -/
def macProduct (w x y : Nat) : Int :=
  let a : Int := if bits w 9 8 = 0 then signed 16 x else (x : Int)
  let b : Int := if bits w 9 8 = 2 then (y : Int) else signed 16 y
  if bit w 7 then -(a * b) else a * b

/-- MAC. -/
def macStep (c : Fin 4) (w : Nat) (b : CoreBank) (s : State) : State :=
  coreNext c 1 (updLive c (fun b' => acAdd b' (macProduct w (b.reg (cA w)) (b.reg (cB w)))) s)

/-- ACOP. -/
def acopStep (c : Fin 4) (w : Nat) (b : CoreBank) (s : State) : State :=
  match bits w 9 8 with
  | 0 => coreNext c 1 (updLive c (fun b => { b with ac := 0 }) s)
  | 1 =>
    let v := sreg b (cA w) * 65536 + b.reg (cB w)
    coreNext c 1 (updLive c (fun b => { b with ac := unsigned 40 v }) s)
  | 2 =>
    match bits w 7 6 with
    | 0 => coreWriteD c 1 w (b.ac % 65536) s
    | 1 => coreWriteD c 1 w (b.ac / 65536 % 65536) s
    | 2 => coreWriteD c 1 w (unsigned 16 (signed 8 (b.ac / 2 ^ 32))) s
    | _ =>
      let d := s.drawFree
      coreWriteD c 1 w (Config.acPart3 d.1).toNat d.2
  | _ =>
    let n := bits w 4 0
    satWith c w (if n = 0 then acOf b else (acOf b + 2 ^ (n - 1)).fdiv (2 ^ n)) s

/-- A condition code (R351); EQ to GE are signed. -/
def ccHolds (cc : Nat) (sa sb : Int) (a b : Nat) : Bool :=
  match cc with
  | 0 => decide (sa = sb) | 1 => decide (sa ≠ sb) | 2 => decide (sa < sb) | 3 => decide (sb ≤ sa)
  | 4 => decide (a < b) | 5 => decide (b ≤ a) | _ => decide (a &&& b ≠ 0)

/-- CMP. -/
def cmpStep (c : Fin 4) (w : Nat) (b : CoreBank) (s : State) : State :=
  let x := bits w 15 12
  let y := bits w 11 8
  let v := ccHolds (bits w 18 16) (sreg b x) (sreg b y) (b.reg x) (b.reg y)
  coreNext c 1 (updLive c (fun b => b.setPred (bits w 21 19) v) s)

/-- CMPI. -/
def cmpiStep (c : Fin 4) (w : Nat) (b : CoreBank) (s : State) : State :=
  let x := bits w 15 12
  let v := ccHolds (bits w 18 16) (sreg b x) (signed 12 (bits w 11 0)) (b.reg x) (bits w 11 0)
  coreNext c 1 (updLive c (fun b => b.setPred (bits w 21 19) v) s)

/-- PLOG. -/
def plogStep (c : Fin 4) (w : Nat) (b : CoreBank) (s : State) : State :=
  let x := b.pred (bits w 18 16) != bit w 12
  let y := b.pred (bits w 15 13) != bit w 11
  let put := fun (v : Bool) (s : State) => coreNext c 1 (updLive c (fun b => b.setPred (bits w 21 19) v) s)
  match bits w 10 9 with
  | 0 => put (x && y) s
  | 1 => put (x || y) s
  | 2 => put (x != y) s
  | _ =>
    let d := s.drawFree
    put (Config.plogFn3 d.1) d.2

/-! ## Near accesses (R348, R349) -/

/-- Data words are read: a corrected one is counted, an uncorrectable one faults the core. -/
def withData (c : Fin 4) (ws : List Nat) (f : State → State) (s : State) : State :=
  match ws.find? (fun w => decide (2 ≤ secBad s (dmemAddr c w))) with
  | some w => coreFault 3 c (s.wr (cr c) CORE.DMEM_ECC_UADDR (w % 32768))
  | none =>
    let n := (ws.filter (fun w => decide (secBad s (dmemAddr c w) = 1))).length
    f (if n = 0 then s else s.bumpBy (cr c) CORE.DMEM_ECC_CORR n)

/-- The word address of LD and ST: A + OFF, or A with POST. -/
def nearAddr (b : CoreBank) (w : Nat) : Nat :=
  if bit w 13 then b.reg (cA w) else unsigned 16 (b.reg (cA w) + cOff 13 w)

/-- With POST, A takes A + OFF. -/
def postAdd (w : Nat) (b : CoreBank) : CoreBank :=
  if bit w 13 then b.setW (cA w) (unsigned 16 (b.reg (cA w) + cOff 13 w)) else b

/-- LD. -/
def ldStep (c : Fin 4) (w : Nat) (b : CoreBank) (s : State) : State :=
  let a := nearAddr b w
  withData c [a] (fun s =>
    let v := dmem s c a
    coreNext c 1 (updLive c (fun b => postAdd w (b.setW (cD w) v)) s)) s

/-- ST. -/
def stStep (c : Fin 4) (w : Nat) (b : CoreBank) (s : State) : State :=
  coreNext c 1 (updLive c (postAdd w) (dmemPut c (nearAddr b w) (b.reg (cD w)) s))

/-- MACM. -/
def macmStep (c : Fin 4) (w : Nat) (b : CoreBank) (s : State) : State :=
  let x := b.reg (cA w)
  let y := b.reg (cB w)
  withData c [x, y] (fun s =>
    let r := macProduct w (dmem s c x) (dmem s c y)
    coreNext c 1 (updLive c (fun b =>
      let b := (acAdd b r).setW (cA w) (x + bits w 6 4)
      b.setW (cB w) (b.reg (cB w) + 1)) s)) s

/-! ## Repeats (R353) -/

/-- The opcodes a repeat may repeat. -/
def repeatable (op : Nat) : Bool :=
  decide (op = 1) || (decide (2 ≤ op) && decide (op ≤ 0x17)) || decide (op = 0x18) || decide (op = 0x19) || decide (op = 0x1A) ||
    decide (op = 0x1B) || decide (op = 0x25) || decide (op = 0x22) || decide (op = 0x29)

/-- RPT and RPTI. -/
def rptStep (c : Fin 4) (w : Nat) (b : CoreBank) (s : State) : State :=
  let n := if bit w 20 then b.reg (cA w) else bits w 13 0
  if n = 0 then coreJump c 1 (b.pc + 2) s
  else if repeatable (cop (s.leBytes (imemAddr c (b.pc + 1)) 4)) = false then coreFault 6 c s
  else updLive c (fun b => { b with rc := n, rpti := bit w 21, pc := (b.pc + 1) % 16384, nextAt := s.pt + 1 }) s

/-- RPT and RPTI share an opcode; INT tells them apart. -/
def rptExec (c : Fin 4) (int : Bool) (s : State) : State :=
  coreExec c 0x20 (fun w b t => if bit w 21 = int then rptStep c w b t else s) s

/-! ## Waits and signals (R357 to R360) -/

/-- The event request of core c. -/
def coreReq (s : State) (c : Fin 4) : Bool := requestTo s c.val

/-- The low 32 bits of PT have reached T (R359). -/
def ptReached (s : State) (t : Nat) : Bool := decide ((s.ptLo + 2 ^ 32 - t % 2 ^ 32) % 2 ^ 32 < 2 ^ 31)

/-- The device angle has reached T in the direction of travel (R360). -/
def angleReached (s : State) (t : Nat) : Bool :=
  let len := devLen s
  let th := devAngle s
  if (ctl s).astern then decide (2 * ((t + len - th % len) % len) < len) else decide (2 * ((th + len - t % len) % len) < len)

/-- A bank waits. -/
def coreWaitFor (c : Fin 4) (x : CoreWait) (s : State) : State := updLive c (fun b => { b with wait := x }) s

/-- WFE. -/
def wfeStep (c : Fin 4) (_w : Nat) (_b : CoreBank) (s : State) : State :=
  if coreReq s c then coreNext c 1 s else coreWaitFor c .event s

/-- SEV. -/
def sevStep (c : Fin 4) (w : Nat) (_b : CoreBank) (s : State) : State := coreNext c 1 (s.raise (240 + bits w 3 0))

/-- WAITPT. -/
def waitptStep (c : Fin 4) (w : Nat) (b : CoreBank) (s : State) : State :=
  let t := b.pair (cA w)
  if ptReached s t then coreNext c 1 s else coreWaitFor c (.time t) s

/-- A WAITA has reached its angle: Pd is 1, and the next instruction issues in the tick after (R360). -/
def angleMet (pt pd : Nat) (b : CoreBank) : CoreBank := { b.setPred pd true with met := some (pt, pd) }

/-- WAITA. -/
def waitaStep (c : Fin 4) (w : Nat) (b : CoreBank) (s : State) : State :=
  let t := b.pair (cA w)
  let pd := bits w 21 19
  if s.dev.epochOpen = false ∨ devLen s ≤ t then coreNext c 1 (updLive c (fun b => b.setPred pd false) s)
  else if angleReached s t then coreNext c 1 (updLive c (angleMet s.pt pd) s)
  else coreWaitFor c (.angle pd t) s

/-- A bank of core c changes. -/
def updBankOf (c : Fin 4) (task : Bool) (f : CoreBank → CoreBank) (s : State) : State :=
  s.updCore c (fun x => if task then { x with tb := f x.tb } else { x with bg := f x.bg })

/-- A wait of a bank ends: its instruction is complete, the next issues in the tick after. -/
def bankProceeds (pt : Nat) (b : CoreBank) : CoreBank :=
  let b := { b with wait := .none, nextAt := pt + 1 }
  if 2 ≤ b.rc then { b with rc := b.rc - 1 } else { b with rc := 0, pc := (b.pc + 1) % 16384 }

/-- CORE_WAIT_END: a bank's WFE, WAITPT or WAITA completes when its condition holds. The background does not
complete a wait while a task has the core. -/
def coreWaitEndStep (c : Fin 4) (task : Bool) (s : State) : State :=
  let x := s.cores[c]
  let b := if task then x.tb else x.bg
  if coreLive s c = false ∨ x.task.isSome ≠ task then s
  else match b.wait with
    | .event => if coreReq s c then updBankOf c task (bankProceeds s.pt) s else s
    | .time t => if ptReached s t then updBankOf c task (bankProceeds s.pt) s else s
    | .angle pd t =>
      if angleReached s t then updBankOf c task (fun b => bankProceeds s.pt (angleMet s.pt pd b)) s else s
    | _ => s

/-- The epoch closes: a waiting WAITA completes with Pd 0, and one that has reached its angle in this tick too (R360,
R373). -/
def coresEpochClose (s : State) : State :=
  let close := fun (b : CoreBank) =>
    match b.wait with
    | .angle pd _ => bankProceeds s.pt (b.setPred pd false)
    | _ => match b.met with
      | some (at_, pd) => if at_ = s.pt then b.setPred pd false else b
      | none => b
  foldS (List.finRange 4) (fun c s => s.updCore c (fun x => { x with bg := close x.bg, tb := close x.tb })) s

/-! ## Control registers (R347) -/

/-- The cycle and epoch a core reads: the device's; the epoch reads 0 in a slot start when none is open (R366). -/
def angleSnap (s : State) : Nat :=
  let ang1 := b2n s.dev.epochOpen * 32768 + b2n (ctl s).astern * 16384 + devAngle s / 65536 % 1024
  ang1 + s.dev.epoch * 65536 + s.dev.cycle * 2 ^ 32

/-- A control register read. -/
def cregRead (s : State) (c : Fin 4) (b : CoreBank) (k : Nat) : Nat :=
  match k with
  | 0 => b.flags s.cores[c].task.isSome
  | 1 => b.lk
  | 2 => s.rd (cr c) CORE.HSP
  | 3 => b.rc
  | 4 => s.pt % 65536
  | 5 => b.ptSnap % 65536
  | 6 => b.ptSnap / 65536 % 65536
  | 7 => b.ptSnap / 2 ^ 32 % 65536
  | 8 => devAngle s % 65536
  | 9 => b.angSnap % 65536
  | 10 => b.angSnap / 65536 % 65536
  | 11 => b.angSnap / 2 ^ 32 % 65536
  | 12 => s.gates % 65536
  | 13 => c.val + 16 * s.linkId
  | _ => 0

/-- MFC. PT0 and ANG0 take their snapshots. -/
def mfcStep (c : Fin 4) (w : Nat) (b : CoreBank) (s : State) : State :=
  let k := bits w 4 0
  let v := cregRead s c b k
  let pt := s.pt / 65536
  let an := angleSnap s
  let s := if k = 4 then updLive c (fun b => { b with ptSnap := pt }) s
    else if k = 8 then updLive c (fun b => { b with angSnap := an }) s else s
  coreWriteD c 1 w v s

/-- MTC. -/
def mtcStep (c : Fin 4) (w : Nat) (b : CoreBank) (s : State) : State :=
  let v := b.reg (cA w)
  let s := coreNext c 1 s
  match bits w 4 0 with
  | 0 => updLive c (fun b => b.setFlags v) s
  | 1 => updLive c (fun b => { b with lk := v % 16384 }) s
  | 2 => if s.cores[c].task.isSome then s else s.wr (cr c) CORE.HSP v
  | 3 => updLive c (fun b => { b with rc := v, rpti := false }) s
  | _ => s

/-! ## Control flow (R351, R355, R356, R365) -/

/-- RETE: RC, FLAGS and PC return from the hardware stack. -/
def reteStep (c : Fin 4) (_w : Nat) (_b : CoreBank) (s : State) : State :=
  if s.cores[c].task.isSome then coreFault 1 c s
  else
    let h := s.rd (cr c) CORE.HSP
    withData c [h, h + 1, h + 2] (fun s =>
      let rc := dmem s c h
      let fl := dmem s c (h + 1)
      let pc := dmem s c (h + 2) % 16384
      let s := s.wr (cr c) CORE.HSP (h + 3)
      updLive c (fun b => { b.setFlags fl with rc := rc, rpti := true, pc := pc, nextAt := s.pt + 4, wait := .none }) s) s

/-- A running task completes at its ENDT (R367). -/
def taskDone (c : Fin 4) (t : TaskRun) (s : State) : State :=
  let used := s.pt - t.start + 1
  let late := decide (t.start + t.budget ≤ s.pt)
  let s := if late then noteOverrun c t s else s
  s.updCore c (fun x => noteRun t.slot used false
    { x with task := none, bg := { x.bg with nextAt := max x.bg.nextAt (s.pt + 1) } })

/-- ENDT. -/
def endtStep (c : Fin 4) (_w : Nat) (_b : CoreBank) (s : State) : State :=
  match s.cores[c].task with
  | some t => taskDone c t s
  | none => s.updCore c (fun x => { x with idle := true })

/-- CORE_EVENT_ENTRY (R355). -/
def eventEntryStep (c : Fin 4) (s : State) : State :=
  let x := s.cores[c]
  let b := x.bg
  if coreDue c s = none ∨ x.task.isSome = true ∨ b.ie = false ∨ (b.rc ≠ 0 ∧ b.rpti = false) ∨ coreReq s c = false then s
  else
    let h := s.rd (cr c) CORE.HSP
    if h < s.rd (cr c) CORE.HSP_LIM_LIM + 3 then coreFault 5 c s
    else
      let s := dmemPut c (h - 1) b.pc (dmemPut c (h - 2) (b.flags false) (dmemPut c (h - 3) b.rc s))
      let s := (s.wr (cr c) CORE.HSP (h - 3)).bumpWrap (cr c) CORE.ENTRIES_COUNT
      let vec := s.rd (cr c) CORE.VEC_ADDR
      s.updCore c (fun x => { x with bg := { x.bg with ie := false, rc := 0, pc := vec, nextAt := s.pt + 4 } })

/-! ## Frames, slots and tasks (R132, R145, R365 to R370) -/

/-- A core restarts: FAULT clears, both banks afresh, the background at instruction 0 (R365, R369). -/
def restartCore (c : Fin 4) (s : State) : State :=
  let s := ((s.setReg (cr c + 8) 0).wr (cr c) CORE.HSP 0x8000).wr (cr c) CORE.CTL_RESTART 0
  (farGone c true (farGone c false s)).updCore c (fun x => { x with
    idle := false, faulted := false, task := none, bg := bankAt 0 s.pt, tb := bankAt 0 s.pt })

/-- TASKs released to a faulted core end with a DEADLINE record at the end of their budget (R368). -/
def flushFailed (c : Fin 4) (s : State) : State :=
  let due := s.cores[c].failed.filter (fun e => decide (e.1 ≤ s.pt))
  let s := s.updCore c (fun x => { x with failed := x.failed.filter (fun e => !decide (e.1 ≤ s.pt)) })
  foldS due (fun e s => deadlineAct e.2.1 e.2.2 s) s

/-- CORE_FRAME_START: a frame ends, abandoning a task still running; another begins, and restarts and wakes act. The cores
of a parked device stand; one parked in a task goes on with it (R370; log entry 179). -/
def frameStartStep (s : State) : State :=
  if s.pt / 2000 ≤ s.coreFrame ∨ s.ptStands = true then s
  else
    let s := { s with coreFrame := s.pt / 2000 }
    if s.dev.st = .park then s
    else foldS (List.finRange 4) (fun c s =>
      let s := if s.cores[c].parked then s else flushFailed c (abandonTask c s)
      let s := s.updCore c (fun x => { x with started := [], parked := false })
      if s.flag (cr c) CORE.CTL_RESTART then restartCore c s else s) s

/-- The task bank at a slot start (R366). The latch and snapshot are its far-access path's, and stay (R363, R364). -/
def taskBank (s : State) (old : CoreBank) (w arg w1 : Nat) : CoreBank :=
  let b := { bankAt (fsEntry w) s.pt with latch := old.latch, snap := old.snap }
  let ep := if s.dev.epochOpen then s.dev.epoch else 0
  (((b.setW 0 arg).setW 1 w1).setW 2 s.dev.cycle).setW 3 ep

/-- CORE_SLOT_START: an occupied slot starts; a task still running is abandoned first (R145). -/
def slotStartStep (c : Fin 4) (k : Fin 64) (s : State) : State :=
  match slotWord s c k.val with
  | none => s
  | some w =>
    let start := s.coreFrame * 2000 + fsStart w
    let rel := releaseFor s c k.val start
    let x := s.cores[c]
    if slotMay s w = false ∨ s.ptStands = true ∨ x.on = false ∨ x.parked = true ∨ slotOccupied s c k.val w = false then s
    else if x.faulted then
      s.updCore c (fun x => { x with
        started := k.val :: x.started
        releases := x.releases.filter (fun r => rel != some r)
        failed := x.failed ++ (rel.map (fun r => (start + fsBudget w, r.idx, r.order))).toList })
    else
      let s := abandonTask c s
      let b := match rel with
        | some r => taskBank s s.cores[c].tb w r.arg (0x8000 + r.idx)
        | none => taskBank s s.cores[c].tb w 0 k.val
      s.updCore c (fun x => { x with
        started := k.val :: x.started
        releases := x.releases.filter (fun r => rel != some r)
        task := some ⟨k.val, rel.map (·.idx), start, fsBudget w, false, rel.bind (·.order)⟩
        tb := b })

/-- Frame slots run from ARM on: those of the frame in progress that began before it do not start (R366). -/
def slotsFromNow (c : Fin 4) (s : State) : State :=
  s.updCore c (fun x =>
    let past := (List.range x.frame.length).filter (fun k => decide (s.coreFrame * 2000 + fsStart (x.frame.getD k 0) < s.pt))
    { x with started := past ++ x.started.filter (fun k => !past.contains k) })

/-- TASKs released into slots that have not started are gone with another plan (R366). -/
def dropReleases (s : State) : State :=
  foldS (List.finRange 4) (fun c s => s.updCore c (fun x => { x with releases := [] })) s

/-- TASK_OVERRUN (R145): a task at the end of its budget has overrun; at the next occupied slot or the frame's end it
is abandoned. A core that a wake has not yet set going again stands (R370). -/
def taskOverrunStep (c : Fin 4) (s : State) : State :=
  let s := if s.ptStands then s else flushFailed c s
  match s.cores[c].task with
  | none => s
  | some t =>
    if s.pt < t.start + t.budget ∨ s.ptStands = true ∨ s.dev.st = .park ∨ s.cores[c].parked = true then s
    else
      let s := noteOverrun c t s
      if nextSlotCome s c then abandonTask c s else s

/-! ## TASK actions (R22, R130, R142) -/

/-- The core and slot a TASK action names. -/
def taskCore (a : Act) : Fin 4 := Fin.ofNat 4 (entRes a.w0 / 64)
/-- The slot. -/
def taskSlot (a : Act) : Nat := entRes a.w0 % 64

/-- The TASK that holds a reserved slot: released and not started. -/
def slotHeld (s : State) (a : Act) : Option Release :=
  s.cores[taskCore a].releases.find? (fun r => decide (r.slot = taskSlot a))

/-- A TASK is released into its slot: it takes effect (R22, R198). -/
def taskRelease (a : Act) (s : State) : State :=
  let s := applyAct a (countShadow a s)
  s.updCore (taskCore a) (fun x => { x with
    releases := x.releases ++ [⟨taskSlot a, a.idx, a.value % 65536, s.pt, a.excused, a.order⟩] })

/-- A TASK action at its target PT: released, or it waits for its slot (R142). -/
def taskEffect (a : Act) (s : State) : State :=
  match slotHeld s a with
  | none => taskRelease a s
  | some r =>
    let exc := a.excused || r.excused
    updAct a.serial (fun a => { a with phase := .waiting, aheadSwept := exc }) (contention exc s)

/-- TASK actions waiting for a slot of core c that is free again are released within their limit (R142). -/
def taskServe (c : Fin 4) (s : State) : State :=
  let l := s.plan.acts.filter (fun a => decide (a.kind = 5) && decide (taskCore a = c) && decide (a.phase = .waiting))
  foldS l (fun a s =>
    if (slotHeld s a).isSome then s
    else if s.pt ≤ a.target + a.dlim then taskRelease a s else dropAct 2 a s) s

/-- A waiting TASK whose limit has passed is dropped with reason OVERLAP (R142). -/
def taskWaitExpire (a : Act) (s : State) : State :=
  if a.phase = .waiting ∧ a.target + a.dlim < s.pt then dropAct 2 a s else s

/-! ## Far accesses: issue (R361) -/

/-- The address of a far access. -/
def farAddr (b : CoreBank) (w : Nat) : Nat :=
  unsigned 32 ((b.pair (cA w) : Int) + cOff 12 w * (if bit w 13 then 4 else 2))

/-- LDF and STF issue; a misaligned address faults the core. -/
def farStep (load : Bool) (c : Fin 4) (w : Nat) (b : CoreBank) (s : State) : State :=
  let a := farAddr b w
  let w32 := bit w 13
  if a % (if w32 then 4 else 2) ≠ 0 then coreFault 4 c s
  else coreWaitFor c (.far ⟨load, a, w32, cD w, if w32 then b.pair (cD w) else b.reg (cD w), s.pt⟩) s

/-- CORE_RESTART: the write of CTL.RESTART; it acts at the next frame start (R369). -/
def coreRestartStep (c : Fin 4) (s : State) : State := s.wr (cr c) CORE.CTL_RESTART 1

/-! ## Commands -/

/-- CORE_FRAME_START. -/
def execCoreFrameStart (s : State) : Host.Outcome State Fault Refusal := .next (frameStartStep s)
/-- CORE_SLOT_START. -/
def execCoreSlotStart (c : Fin 4) (slot : Fin 64) (s : State) : Host.Outcome State Fault Refusal :=
  .next (taskServe c (slotStartStep c slot s))
/-- CORE_EVENT_ENTRY. -/
def execCoreEventEntry (c : Fin 4) (s : State) : Host.Outcome State Fault Refusal := .next (eventEntryStep c s)
/-- TASK_OVERRUN. -/
def execTaskOverrun (c : Fin 4) (s : State) : Host.Outcome State Fault Refusal := .next (taskOverrunStep c s)

/-- CORE_NOP. -/
def execCoreNop (c : Fin 4) (s : State) : Host.Outcome State Fault Refusal :=
  .next (coreExec c 0x01 (fun _ _ s => coreNext c 1 s) s)
/-- CORE_ADD. -/
def execCoreAdd (c : Fin 4) (s : State) : Host.Outcome State Fault Refusal :=
  .next (coreExec c 0x02 (fun w b s => addWith c w (b.reg (cA w)) (b.reg (cB w)) false s) s)
/-- CORE_ADDC. -/
def execCoreAddc (c : Fin 4) (s : State) : Host.Outcome State Fault Refusal :=
  .next (coreExec c 0x03 (fun w b s => addWith c w (b.reg (cA w)) (b.reg (cB w)) b.c s) s)
/-- CORE_SUB. -/
def execCoreSub (c : Fin 4) (s : State) : Host.Outcome State Fault Refusal :=
  .next (coreExec c 0x04 (fun w b s => subWith c w (b.reg (cA w)) (b.reg (cB w)) false s) s)
/-- CORE_SUBC. -/
def execCoreSubc (c : Fin 4) (s : State) : Host.Outcome State Fault Refusal :=
  .next (coreExec c 0x05 (fun w b s => subWith c w (b.reg (cA w)) (b.reg (cB w)) b.c s) s)
/-- CORE_ADDS. -/
def execCoreAdds (c : Fin 4) (s : State) : Host.Outcome State Fault Refusal :=
  .next (coreExec c 0x06 (fun w b s => satWith c w (sreg b (cA w) + sreg b (cB w)) s) s)
/-- CORE_SUBS. -/
def execCoreSubs (c : Fin 4) (s : State) : Host.Outcome State Fault Refusal :=
  .next (coreExec c 0x07 (fun w b s => satWith c w (sreg b (cA w) - sreg b (cB w)) s) s)
/-- CORE_AND. -/
def execCoreAnd (c : Fin 4) (s : State) : Host.Outcome State Fault Refusal :=
  .next (coreExec c 0x08 (fun w b s => coreWriteD c 1 w (b.reg (cA w) &&& b.reg (cB w)) s) s)
/-- CORE_OR. -/
def execCoreOr (c : Fin 4) (s : State) : Host.Outcome State Fault Refusal :=
  .next (coreExec c 0x09 (fun w b s => coreWriteD c 1 w (b.reg (cA w) ||| b.reg (cB w)) s) s)
/-- CORE_XOR. -/
def execCoreXor (c : Fin 4) (s : State) : Host.Outcome State Fault Refusal :=
  .next (coreExec c 0x0A (fun w b s => coreWriteD c 1 w (b.reg (cA w) ^^^ b.reg (cB w)) s) s)
/-- CORE_ADDI. -/
def execCoreAddi (c : Fin 4) (s : State) : Host.Outcome State Fault Refusal :=
  .next (coreExec c 0x0B (fun w b s => addWith c w (b.reg (cA w)) (cS14 w) false s) s)
/-- CORE_ANDI. -/
def execCoreAndi (c : Fin 4) (s : State) : Host.Outcome State Fault Refusal :=
  .next (coreExec c 0x0C (fun w b s => coreWriteD c 1 w (b.reg (cA w) &&& cU14 w) s) s)
/-- CORE_ORI. -/
def execCoreOri (c : Fin 4) (s : State) : Host.Outcome State Fault Refusal :=
  .next (coreExec c 0x0D (fun w b s => coreWriteD c 1 w (b.reg (cA w) ||| cU14 w) s) s)
/-- CORE_XORI. -/
def execCoreXori (c : Fin 4) (s : State) : Host.Outcome State Fault Refusal :=
  .next (coreExec c 0x0E (fun w b s => coreWriteD c 1 w (b.reg (cA w) ^^^ cU14 w) s) s)
/-- CORE_SHIFT. -/
def execCoreShift (c : Fin 4) (s : State) : Host.Outcome State Fault Refusal :=
  .next (coreExec c 0x0F (shiftStep c) s)
/-- CORE_MOV. -/
def execCoreMov (c : Fin 4) (s : State) : Host.Outcome State Fault Refusal :=
  .next (coreExec c 0x10 (fun w b s => coreWriteD c 1 w (b.reg (cA w)) s) s)
/-- CORE_MOVI. -/
def execCoreMovi (c : Fin 4) (s : State) : Host.Outcome State Fault Refusal :=
  .next (coreExec c 0x11 (fun w _ s => coreWriteD c 1 w (bits w 15 0) s) s)
/-- CORE_MPY. -/
def execCoreMpy (c : Fin 4) (s : State) : Host.Outcome State Fault Refusal :=
  .next (coreExec c 0x12 (mpyStep c) s)
/-- CORE_MAC. -/
def execCoreMac (c : Fin 4) (s : State) : Host.Outcome State Fault Refusal :=
  .next (coreExec c 0x13 (macStep c) s)
/-- CORE_ACOP. -/
def execCoreAcop (c : Fin 4) (s : State) : Host.Outcome State Fault Refusal :=
  .next (coreExec c 0x14 (acopStep c) s)
/-- CORE_CMP. -/
def execCoreCmp (c : Fin 4) (s : State) : Host.Outcome State Fault Refusal :=
  .next (coreExec c 0x15 (cmpStep c) s)
/-- CORE_CMPI. -/
def execCoreCmpi (c : Fin 4) (s : State) : Host.Outcome State Fault Refusal :=
  .next (coreExec c 0x16 (cmpiStep c) s)
/-- CORE_PLOG. -/
def execCorePlog (c : Fin 4) (s : State) : Host.Outcome State Fault Refusal :=
  .next (coreExec c 0x17 (plogStep c) s)
/-- CORE_LD. -/
def execCoreLd (c : Fin 4) (s : State) : Host.Outcome State Fault Refusal :=
  .next (coreExec c 0x18 (ldStep c) s)
/-- CORE_ST. -/
def execCoreSt (c : Fin 4) (s : State) : Host.Outcome State Fault Refusal :=
  .next (coreExec c 0x19 (stStep c) s)
/-- CORE_LDF. -/
def execCoreLdf (c : Fin 4) (s : State) : Host.Outcome State Fault Refusal :=
  .next (coreExec c 0x1A (farStep true c) s)
/-- CORE_STF. -/
def execCoreStf (c : Fin 4) (s : State) : Host.Outcome State Fault Refusal :=
  .next (coreExec c 0x1B (farStep false c) s)
/-- CORE_BR. -/
def execCoreBr (c : Fin 4) (s : State) : Host.Outcome State Fault Refusal :=
  .next (coreExec c 0x1C (fun w _ s => coreJump c 2 (bits w 13 0) s) s)
/-- CORE_CALL. -/
def execCoreCall (c : Fin 4) (s : State) : Host.Outcome State Fault Refusal :=
  .next (coreExec c 0x1D (fun w b s => coreJump c 2 (bits w 13 0) (updLive c (fun x => { x with lk := (b.pc + 1) % 16384 }) s)) s)
/-- CORE_JR. -/
def execCoreJr (c : Fin 4) (s : State) : Host.Outcome State Fault Refusal :=
  .next (coreExec c 0x1E (fun w b s => coreJump c 2 (b.reg (cA w)) s) s)
/-- CORE_RET. -/
def execCoreRet (c : Fin 4) (s : State) : Host.Outcome State Fault Refusal :=
  .next (coreExec c 0x1F (fun _ b s => coreJump c 2 b.lk s) s)
/-- CORE_WFE. -/
def execCoreWfe (c : Fin 4) (s : State) : Host.Outcome State Fault Refusal :=
  .next (coreExec c 0x21 (wfeStep c) s)
/-- CORE_SEV. -/
def execCoreSev (c : Fin 4) (s : State) : Host.Outcome State Fault Refusal :=
  .next (coreExec c 0x22 (sevStep c) s)
/-- CORE_WAITPT. -/
def execCoreWaitpt (c : Fin 4) (s : State) : Host.Outcome State Fault Refusal :=
  .next (coreExec c 0x23 (waitptStep c) s)
/-- CORE_WAITA. -/
def execCoreWaita (c : Fin 4) (s : State) : Host.Outcome State Fault Refusal :=
  .next (coreExec c 0x24 (waitaStep c) s)
/-- CORE_MFC. -/
def execCoreMfc (c : Fin 4) (s : State) : Host.Outcome State Fault Refusal :=
  .next (coreExec c 0x25 (mfcStep c) s)
/-- CORE_MTC. -/
def execCoreMtc (c : Fin 4) (s : State) : Host.Outcome State Fault Refusal :=
  .next (coreExec c 0x26 (mtcStep c) s)
/-- CORE_RETE. -/
def execCoreRete (c : Fin 4) (s : State) : Host.Outcome State Fault Refusal :=
  .next (coreExec c 0x27 (reteStep c) s)
/-- CORE_ENDT. -/
def execCoreEndt (c : Fin 4) (s : State) : Host.Outcome State Fault Refusal :=
  .next (coreExec c 0x28 (endtStep c) s)
/-- CORE_MACM. -/
def execCoreMacm (c : Fin 4) (s : State) : Host.Outcome State Fault Refusal :=
  .next (coreExec c 0x29 (macmStep c) s)
/-- CORE_RPT. -/
def execCoreRpt (c : Fin 4) (s : State) : Host.Outcome State Fault Refusal := .next (rptExec c false s)
/-- CORE_RPTI. -/
def execCoreRpti (c : Fin 4) (s : State) : Host.Outcome State Fault Refusal := .next (rptExec c true s)
/-- CORE_WAIT_END. -/
def execCoreWaitEnd (c : Fin 4) (task : Bool) (s : State) : Host.Outcome State Fault Refusal :=
  .next (coreWaitEndStep c task s)
/-- CORE_RESTART. -/
def execCoreRestart (c : Fin 4) (s : State) : Host.Outcome State Fault Refusal := .next (coreRestartStep c s)

end Sys2Proof.Machine
end

