-- ==== Sys2Proof/Machine/Envelope.lean ====
section
/-! DEFINITION. How an edge that reaches a tracker in SYNC is judged (R99, R100), and the envelope monitor (R142, R143), which
the entry into SPILLED and a loss of sync ask as well about the edge of their own tick (R30). -/

namespace Sys2Proof.Machine

/-! ## Judging an edge (R99, R100) -/

/-- The completed tooth's class is that of entry i; only a width-coded wheel asks (R45, R55). -/
def classMatches (s : State) (t : Fin 2) (c : Option Nat) (i : Nat) : Bool :=
  !widthCoded s t || c == some (entKind (crankEnt s t i) - 8)

/-- What the table of R99 makes of an edge. -/
inductive EdgeClass
  | spurious
  | lost (cause : Nat)
  | accepted
  deriving DecidableEq, Repr

/-- The class of an edge reaching a tracker in SYNC (R99): the first row that applies decides. -/
def edgeClass (s : State) (t : Fin 2) (e : EdgeIn) : EdgeClass :=
  let x := s.trk[t]
  let b := TRK.base t
  let n := nextIdx x.astern (teeth s t) x.pos
  let tm := e.stamp - x.lastStamp
  let tp := x.tpred
  let tol := s.cfg b TRK.MOTION_CFG_SYNC_TOL
  let gap := s.cfg b TRK.MOTION_CFG_GAP_LIM
  let missing := EdgeClass.lost (if x.verify then 7 else 2)
  if tm * 4096 < s.cfg b TRK.PLAUS_LO * tp then .spurious
  else if s.cfg b TRK.PLAUS_HI * tp < tm * 4096 then .lost 3
  else if !classMatches s t e.wclass x.pos then missing
  else if isFeature s t n then
    (if tol * tp < ((tm : Int) - tp).natAbs * 64 then missing else .accepted)
  else if gap ≠ 0 ∧ gap * tp < 16 * tm then .lost 1
  else .accepted

/-- The oldest crank edge a tracker may take now (R20). -/
def crankDue (s : State) (t : Fin 2) : Option EdgeIn :=
  s.trk[t].edges.find? (fun e => e.wheel == crankWheel s t && decide (e.due ≤ s.pt))

/-! ## The envelope monitor (R143) -/

/-- |a| > ACC_MAX for the periods of two revolutions in ticks (R143). -/
def accelOut (s : State) (prev trev : Nat) : Bool :=
  decide (s.plan.accMax * trev * trev * prev < 60 * 400000000 * 400000000 * ((prev : Int) - trev).natAbs)

/-- The monitor at accepted entry n with the speed v of its edge, in 1/256 rpm (R142, R143). The edge of a resumption is not
checked for speed. -/
def envelopeEdge (n v stamp : Nat) (resume : Bool) (s : State) : State :=
  let runs := decide (s.dev.st = .running) || decide (s.dev.st = .governed)
  if runs = false then s
  else
    let out := decide (v < s.plan.rpmMin) || decide (s.plan.rpmMax < v)
    let s :=
      if resume then s
      else
        let s := s.updPlan (fun p => { p with speedBad := out })
        if out then violation 1 49 s else s
    if n ≠ 0 then s
    else match s.plan.revStamp with
      | none => s.updPlan (fun p => { p with revStamp := some stamp })
      | some t0 =>
        let trev := stamp - t0
        let bad := match s.plan.revPrev with | some p => accelOut s p trev | none => false
        let s := s.updPlan (fun p => { p with revStamp := some stamp, revPrev := some trev })
        if bad then violation 2 50 s else s

/-- An accepted edge of the controlling tracker that reaches it in this tick is judged by the monitor though the epoch closes
before its command: a violation sets the governed latch wherever in the tick it is decided (R30). -/
def dueEnvelope (s : State) : State :=
  let t := s.dev.control
  let x := s.trk[t]
  if s.dev.epochOpen = false ∨ x.acq ≠ .sync ∨ x.stalled ∨ s.ptStands then s
  else match crankDue s t with
    | none => s
    | some e =>
      if edgeClass s t e = .accepted then
        let n := nextIdx x.astern (teeth s t) x.pos
        envelopeEdge n (speedOf (pitch s t n) (e.stamp - x.lastStamp)) e.stamp false s
      else s

end Sys2Proof.Machine
end

