-- ==== Sys2Proof/Machine/Pwm.lean ====
section
/-! DEFINITION. The PWM generators: counting, loads, followers, dead time, refresh, forces and trips (chapter 11,
R300 to R320). Times are PT ticks; blanking runs in real ticks. -/

namespace Sys2Proof.Machine

/-! ## Position in the period (R300, R301, R306) -/

/-- Generator n's page block. -/
def pw (n : Fin 16) : Nat := PWN.base n

/-- Generator n runs (PWM.RUN). -/
def pwmRun (s : State) (n : Fin 16) : Bool := bit (s.rd PWM.base PWM.RUN) n.val

/-- Generator n follows another. -/
def follows (s : State) (n : Fin 16) : Bool := s.on (pw n) PWN.CFG_FOLLOW

/-- The generator whose counter n runs from: itself, or its master (R306). -/
def counterOf (s : State) (n : Fin 16) : Fin 16 := if follows s n then Fin.ofNat 16 (s.cfg (pw n) PWN.CFG_MASTER) else n

/-- A count step in ticks (R300). -/
def pwStep (s : State) (n : Fin 16) : Nat := s.cfg (pw (counterOf s n)) PWN.CFG_PRE + 1

/-- The active period in counts. -/
def pwP (s : State) (n : Fin 16) : Nat := s.cfg (pw (counterOf s n)) PWN.PERIOD_P

/-- The active period in ticks. -/
def pwTicks (s : State) (n : Fin 16) : Nat := pwP s n * pwStep s n

/-- Generator n has been started: it runs, and no start of it waits for PT to go on (R301, R315). -/
def pwmStarted (s : State) (n : Fin 16) : Bool := pwmRun s n && !s.pwm[n].starting

/-- The counter generator n runs from counts: both have started and the active period is not 0 (R301, R302, R306). -/
def pwmCounts (s : State) (n : Fin 16) : Bool :=
  pwmStarted s n && pwmStarted s (counterOf s n) && decide (pwP s n ≠ 0)

/-- Ticks since the start of generator n's own period; a counter whose active period is 0 stands (R302). -/
def ownTau (s : State) (n : Fin 16) : Nat := if pwP s n = 0 then 0 else ((s.pt : Int) - s.pwm[n].t0).toNat

/-- A follower's position in ticks: the master's position plus PHASE, within the master's period (R306). -/
def followTau (s : State) (n : Fin 16) : Nat :=
  let m := counterOf s n
  if pwTicks s n = 0 then 0 else (ownTau s m + s.cfg (pw n) PWN.PHASE * pwStep s n) % pwTicks s n

/-- The position of generator n in its period, in ticks. -/
def tau (s : State) (n : Fin 16) : Nat := if follows s n then followTau s n else ownTau s n

/-! ## Duties (R302, R303) -/

/-- Four bits reversed. -/
def rev4 (p : Nat) : Nat := 8 * (p % 2) + 4 * (p / 2 % 2) + 2 * (p / 4 % 2) + p / 8 % 2

/-- An effective duty count: one more in the periods its fraction names (R303). -/
def dutyOf (s : State) (n : Fin 16) (count frac : Fld) : Nat :=
  let longer := s.on (pw n) PWN.CFG_DITHER && decide (rev4 (s.pwm[n].periodNo % 16) < s.cfg (pw n) frac)
  s.cfg (pw n) count + b2n longer

/-- DA in ticks. -/
def dutyA (s : State) (n : Fin 16) : Nat := dutyOf s n PWN.DUTY_A_COUNT PWN.DUTY_A_FRAC * pwStep s n
/-- DB in ticks. -/
def dutyB (s : State) (n : Fin 16) : Nat := dutyOf s n PWN.DUTY_B_COUNT PWN.DUTY_B_FRAC * pwStep s n

/-- The generator is in COMPL mode. -/
def compl (s : State) (n : Fin 16) : Bool := s.cfg (pw n) PWN.CFG_MODE == 0

/-- The active dead times. -/
def dtAB (s : State) (n : Fin 16) : Nat := s.rd (pw n) PWN.DT_STAT_AB
/-- The active DT_BA. -/
def dtBA (s : State) (n : Fin 16) : Nat := s.rd (pw n) PWN.DT_STAT_BA

/-- The ticks a bootstrap refresh takes: W and both dead times (R308). -/
def refreshTime (s : State) (n : Fin 16) : Nat := dtAB s n + s.cfg (pw n) PWN.BOOT_CFG_W + dtBA s n

/-- The levels of a bootstrap refresh t ticks after its period start (R308). -/
def refreshWave (s : State) (n : Fin 16) (t : Nat) : Bool × Bool :=
  let w := s.cfg (pw n) PWN.BOOT_CFG_W
  (decide (refreshTime s n ≤ t), decide (dtAB s n ≤ t) && decide (t < dtAB s n + w))

/-- A bootstrap refresh is in progress (R308, R312 rank 4); a turn-off at its very end is one of its own. -/
def refreshOn (s : State) (n : Fin 16) : Bool := s.pwm[n].refresh && decide (tau s n < refreshTime s n)

/-- The position lies inside a refresh or at its end. -/
def refreshEnds (s : State) (n : Fin 16) : Bool := s.pwm[n].refresh && decide (tau s n ≤ refreshTime s n)

/-- The waveform's levels at the present position (R302), in a refresh those of R308. -/
def waveOf (s : State) (n : Fin 16) : Bool × Bool :=
  let x := s.pwm[n]
  let t := tau s n
  let da := dutyA s n
  if refreshOn s n then refreshWave s n t
  else if compl s n then
    let full := decide (pwTicks s n ≤ da)
    (if full then x.aAtStart || decide (dtBA s n ≤ t) else decide (dtBA s n ≤ t) && decide (t < da),
     !full && decide (da + dtAB s n ≤ t) && decide (t < pwTicks s n))
  else (decide (t < da) && decide (t < pwTicks s n), decide (t < dutyB s n) && decide (t < pwTicks s n))

/-! ## Outputs (R309 to R313) -/

/-- A flag of generator n sets; source 160 + n when it changes (R319). -/
def pwmFlag (n : Fin 16) (f : Fld) (s : State) : State := s.setFault (pw n) f (160 + n.val)

/-- The trip inputs at their active level (R310). -/
def tripActive (s : State) : Nat := (s.tripPins ^^^ s.cfg PWM.base PWM.TRIP_POL_POL) % 256

/-- A mapped input of generator n is active. -/
def tripMapped (s : State) (n : Fin 16) : Bool := tripActive s &&& s.cfg (pw n) PWN.TRIP_CFG_MAP != 0

/-- Rank 2 of R312: the outputs are held at their safe levels. -/
def pwmSafe (s : State) (n : Fin 16) : Bool :=
  let x := s.pwm[n]
  s.flag (pw n) PWN.FLAGS_TRIP || x.tripHeld || decide (x.hold ≠ 0) || s.sys.dHold || !pwmCounts s n

/-- The force on an output: some false low, some true high, none (R309). -/
def forceOf (v : Nat) : Option Bool := if v = 1 then some false else if v = 2 then some true else none

/-- The forces in effect: both high in COMPL act as both low. -/
def forcesOf (s : State) (n : Fin 16) : Option Bool × Option Bool :=
  let a := forceOf (s.pwm[n].force % 4)
  let b := forceOf (s.pwm[n].force / 4)
  if compl s n ∧ a = some true ∧ b = some true then (some false, some false) else (a, b)

/-- An output may turn on in COMPL mode: the other is off, and has been for the dead time (R302, R309, R312). -/
def mayTurnOn (pt : Nat) (otherOn : Bool) (otherOff : Int) (dead : Nat) : Bool := !otherOn && decide (otherOff + dead ≤ pt)

/-- The levels outputs take now in ranks 3 to 5. -/
def liveLevels (s : State) (n : Fin 16) : Bool × Bool :=
  let x := s.pwm[n]
  let w := waveOf s n
  let f := forcesOf s n
  let a := f.1.getD (w.1 && (x.outA || !x.doneA))
  let b := f.2.getD (w.2 && (x.outB || !x.doneB))
  if compl s n then
    let mn := s.cfg (pw n) PWN.DT_CFG_DT_MIN
    let stayA := x.outA && a
    let stayB := x.outB && b
    let offA := if x.outA && !a then (s.pt : Int) else x.offA
    let offB := if x.outB && !b then (s.pt : Int) else x.offB
    let onA := a && (stayA || mayTurnOn s.pt stayB offB (if f.1.isSome then mn else dtBA s n))
    (onA, b && (stayB || mayTurnOn s.pt onA offA (if f.2.isSome then mn else dtAB s n)))
  else (a, b)

/-- PWMnB is due to turn on after PWMnA's turn-off: by its force, else by the waveform (R302, R307, R309). -/
def dueOnB (s : State) (n : Fin 16) : Bool :=
  (forcesOf s n).2.getD (refreshOn s n || decide (dutyA s n + dtAB s n < pwTicks s n))

/-- PWMnA is due to turn on after PWMnB's turn-off: by its force, else by the waveform; a force that ends PWMnB's pulse behind
PWMnA's own leaves none due (R302, R307, R309). -/
def dueOnA (s : State) (n : Fin 16) : Bool :=
  let da := dutyA s n
  (forcesOf s n).1.getD (
    (if refreshEnds s n then decide (refreshTime s n < da) else decide (da ≠ 0) && decide (dtBA s n < da)) &&
      ((forcesOf s n).2.isNone || decide (tau s n < da)))

/-- A turn-off at which the other output is due to turn on starts a dead-time measurement, in COMPL mode, whatever force acts
(R307). -/
def startMeas (s : State) (n : Fin 16) (a b : Bool) : List (Bool × Nat) :=
  let x := s.pwm[n]
  let dueB := dueOnB s n
  let dueA := dueOnA s n
  if compl s n = false then x.meas
  else if x.outA ∧ a = false ∧ dueB = true then x.meas ++ [(true, s.pt)]
  else if x.outB ∧ b = false ∧ dueA = true then x.meas ++ [(false, s.pt)]
  else x.meas

/-- The outputs take new levels: turn-off instants, the blanking window, a measurement (R307, R310). A pulse is over for
its period where the waveform ends it, not where a force or a refresh does (R302, R308, R309); a refresh does not break the run
of periods in which PWMnA is on throughout, a force does (R308). -/
def putOutputs (n : Fin 16) (a b live : Bool) (s : State) : State :=
  let x := s.pwm[n]
  let edge := x.outA != a || x.outB != b
  let m := if live then startMeas s n a b else x.meas
  let bl := s.tick + 4 * s.cfg (pw n) PWN.TRIP_CFG_BLANK
  s.updPwm n (fun x => { x with
    outA := a, outB := b
    offA := if x.outA && !a then (s.pt : Int) else x.offA
    offB := if x.outB && !b then (s.pt : Int) else x.offB
    doneA := x.doneA || (live && x.outA && !a && (forcesOf s n).1.isNone)
    doneB := x.doneB || (live && x.outB && !b && (forcesOf s n).2.isNone && !refreshEnds s n)
    fullA := x.fullA && (a || (live && refreshOn s n)) && (forcesOf s n).1.isNone
    meas := m
    blank := if edge then some bl else x.blank })

/-- Both outputs are forced high in COMPL mode (R309). -/
def bothForced (s : State) (n : Fin 16) : Bool := compl s n && decide (s.pwm[n].force = 10)

/-- A count step has come since a PT; of a counter that does not count, every tick is one (R300, R309). -/
def stepCome (s : State) (n : Fin 16) (pt : Nat) : Bool :=
  let t0 := s.pwm[counterOf s n].t0
  !pwmCounts s n || decide (((pt : Int) - t0).fdiv (pwStep s n) < ((s.pt : Int) - t0).fdiv (pwStep s n))

/-- A write of FORCE acts at the first count step after it (R309). -/
def takeForce (n : Fin 16) (s : State) : State :=
  match s.pwm[n].forcePt with
  | none => s
  | some p =>
    if stepCome s n p then
      s.updPwm n (fun x => { x with
        force := s.rd (pw n) PWN.FORCE_FA + 4 * s.rd (pw n) PWN.FORCE_FB, forcePt := none })
    else s

/-- FORCE_BOTH sets where both forces high begin to act, and reads 0 again once one is released (R309; log entry 87). -/
def noteForces (n : Fin 16) (s : State) : State :=
  let both := bothForced s n
  if s.pwm[n].forcedBoth = both then s
  else
    let s := s.updPwm n (fun x => { x with forcedBoth := both })
    if both then pwmFlag n PWN.FLAGS_FORCE_BOTH s else s.wr (pw n) PWN.FLAGS_FORCE_BOTH 0

/-- The outputs of generator n follow the first row of R312 that applies; without VDRV they are driven off (R515). Where PT stands the counters and forces stand
(R315). In a debug freeze of rank 2 only a trip moves the outputs: R315 keeps them 'until the freeze ends or a trip acts',
also where a spillway end or a heartbeat loss falls into the freeze (DESIGN CHOICE, log entry 133); in a clock fault
rank 2 moves them at once (R25, R460). -/
def settlePwm (n : Fin 16) (s : State) : State :=
  if s.dev.st = .reset ∨ s.sys.vdrvLow = true then putOutputs n false false false s
  else
    let s := if s.ptStands then s else noteForces n (takeForce n s)
    if pwmSafe s n then
      if s.sys.frozen ∧ s.flag (pw n) PWN.FLAGS_TRIP = false then s
      else putOutputs n (s.on (pw n) PWN.CFG_SAFE_A) (s.on (pw n) PWN.CFG_SAFE_B) false s
    else if s.ptStands then s
    else
      let l := liveLevels s n
      putOutputs n l.1 l.2 true s

/-- All sixteen generators. -/
def allGens : List (Fin 16) := List.finRange 16

/-- Every generator's outputs settle. -/
def settleAll (s : State) : State := foldS allGens settlePwm s

/-- A generator held at its safe levels takes them (R312 rank 2). -/
def settleSafe (n : Fin 16) (s : State) : State := if pwmSafe s n then settlePwm n s else s

/-! ## Trips (R310, R311) -/

/-- Generator n trips. -/
def tripPwm (n : Fin 16) (s : State) : State :=
  let s := pwmFlag n PWN.FLAGS_TRIP (s.bump (pw n) PWN.CNT0_TRIPS)
  settlePwm n (s.updPwm n (fun x => { x with tripHeld := true }))

/-- A generator whose mapped input is active trips, unless it has or its blanking window is open. -/
def judgeTrip (n : Fin 16) (s : State) : State :=
  let blanked := match s.pwm[n].blank with | some t => decide (s.tick < t) | none => false
  if tripMapped s n ∧ blanked = false ∧ s.flag (pw n) PWN.FLAGS_TRIP = false ∧ s.dev.st ≠ .reset then tripPwm n s else s

/-- TRIP_INPUT: a trip ball takes a level. -/
def tripInputStep (k : Fin 8) (level : Bool) (s : State) : State :=
  let bitK := 2 ^ k.val
  let off := s.tripPins - (s.tripPins &&& bitK)
  foldS allGens judgeTrip { s with tripPins := if level then off + bitK else off }

/-- BLANK_END: the window has run out; an input still active trips. -/
def blankEndStep (n : Fin 16) (s : State) : State :=
  match s.pwm[n].blank with
  | some t => if t ≤ s.tick then judgeTrip n (s.updPwm n (fun x => { x with blank := none })) else s
  | none => s

/-- TRIP_CLEAR: the latch clears if no mapped input is active. -/
def tripClearStep (n : Fin 16) (s : State) : State :=
  if tripMapped s n then s.err 0x40 else s.wr (pw n) PWN.FLAGS_TRIP 0

/-! ## Loads (R304 to R306) -/

/-- Generator n belongs to group g. -/
def inGroup (s : State) (g : Nat) (n : Fin 16) : Bool := s.cfg (pw n) PWN.CFG_GROUP == g

/-- A load of a group is requested; requests merge (R304). -/
def requestLoad (g : Nat) (s : State) : State :=
  foldS allGens (fun n s => if inGroup s g n then s.updPwm n (fun x => { x with loadReq := true }) else s) s

/-- LOAD_ALL bits read 1 until every generator of the group has taken its load. -/
def clearLoadAll (s : State) : State :=
  foldS (List.range 4) (fun g s =>
    let v := s.rd PWM.base PWM.GLOBAL_LOAD_ALL
    if bit v g ∧ allGens.all (fun n => !(inGroup s g n && s.pwm[n].loadReq)) then
      s.wr PWM.base PWM.GLOBAL_LOAD_ALL (v - 2 ^ g) else s) s

/-- A shadow acts. -/
def actShadow (a : Nat) (s : State) : State := s.setAct a (s.reg a)

/-- The load is done: counted, LOADED with LOAD_EVT. -/
def loadDone (n : Fin 16) (s : State) : State :=
  let s := s.updPwm n (fun x => { x with loadReq := false, masterLoaded := false })
  let s := s.bumpWrap (pw n) PWN.CNT1_LOADS
  let s := if s.on (pw n) PWN.CFG_LOAD_EVT then pwmFlag n PWN.FLAGS_LOADED s else s
  clearLoadAll s

/-- All four shadows of a generator act (R304). -/
def actLoad (n : Fin 16) (s : State) : State :=
  actShadow (pw n + 0x10) (actShadow (pw n + 0xC) (actShadow (pw n + 8) (actShadow (pw n + 4) s)))

/-- An active period of 0 of a running generator sets CONFIG, a follower's master's too (R302). -/
def noteZero (n : Fin 16) (s : State) : State :=
  if pwmRun s n ∧ pwP s n = 0 then pwmFlag n PWN.FLAGS_CONFIG s else s

/-- A running follower's PHASE acts at its master's loads; its position changes with no period start (R306). Where its count
wraps to 0 in this step with the old period and phase (`old`: the old period) and stands at 0 with the new, that wrap is its
period start. -/
def followLoad (m : Fin 16) (old : Nat) (n : Fin 16) (s : State) : State :=
  if follows s n ∧ counterOf s n = m ∧ pwmRun s n then
    let wraps := decide (old ≠ 0) && decide (s.cfg (pw n) PWN.PHASE % old = 0)
    let s := (actShadow (pw n + 0x10) s).updPwm n (fun x => { x with masterLoaded := x.loadReq })
    let t := (s.pt : Int) - followTau s n
    let s := if wraps = true ∧ t = s.pt then s else s.updPwm n (fun x => { x with t0 := t })
    settlePwm n (noteZero n s)
  else s

/-- A requested load is taken at a period start (R304, R306). A follower takes its duties once its master has loaded, or
when it starts; its PHASE acts with its master's loads. -/
def takeLoad (starts : Bool) (n : Fin 16) (s : State) : State :=
  let x := s.pwm[n]
  if x.loadReq = false then s
  else if follows s n then
    if starts then loadDone n (actLoad n s)
    else if x.masterLoaded then loadDone n (actShadow (pw n + 0xC) (actShadow (pw n + 8) (actShadow (pw n + 4) s)))
    else s
  else
    let old := pwP s n
    foldS allGens (followLoad n old) (noteZero n (loadDone n (actLoad n s)))

/-! ## Period starts (R300 to R308) -/

/-- A dead time that becomes active at a period start: the measured one, or DT_MIN where ADAPT is clear (R307). -/
def nextDead (adapt : Bool) (mn cur pt : Nat) (nx : Option (Nat × Nat)) : Nat :=
  if adapt then (match nx with | some (v, t) => if t < pt then v else cur | none => cur) else mn

/-- Both dead times at a period start at a PT. -/
def takeDead (n : Fin 16) (at_ : Nat) (s : State) : State :=
  let x := s.pwm[n]
  let mn := s.cfg (pw n) PWN.DT_CFG_DT_MIN
  let ab := nextDead (s.on (pw n) PWN.CFG_ADAPT_AB) mn (dtAB s n) at_ x.nextAB
  let ba := nextDead (s.on (pw n) PWN.CFG_ADAPT_BA) mn (dtBA s n) at_ x.nextBA
  let s := (s.wr (pw n) PWN.DT_STAT_AB ab).wr (pw n) PWN.DT_STAT_BA ba
  s.updPwm n (fun x => { x with nextAB := x.nextAB.filter (fun q => decide (at_ ≤ q.2))
                                nextBA := x.nextBA.filter (fun q => decide (at_ ≤ q.2)) })

/-- A refresh is due at this period start, after run periods on throughout (R308). -/
def refreshDue (s : State) (n : Fin 16) (run : Nat) : Bool :=
  let k := s.cfg (pw n) PWN.BOOT_CFG_N
  let m := s.cfg (pw n) PWN.BOOT_CFG_M
  compl s n && decide (k ≠ 0) && decide (k ≤ run) && decide ((run - k) % m = 0)

/-- The refresh of a period start: inserted, or CONFIG if it does not fit (R308). -/
def startRefresh (n : Fin 16) (s : State) : State :=
  let run := s.pwm[n].fullRun
  if refreshDue s n run = false then s
  else if pwTicks s n ≤ refreshTime s n then pwmFlag n PWN.FLAGS_CONFIG s
  else (s.bump (pw n) PWN.CNT1_REFRESH).updPwm n (fun x => { x with refresh := true })

/-- Committed shadows of generator n that are not load shadows act (R318). -/
def actPwm (n : Fin 16) (s : State) : State := s.actWhere (fun c => c.when_ == .period n)

/-- The number of the period that begins where a counter is at count 0: it follows the one before; a counter that stood
with an active period of 0 has begun none since, so the number it holds is still the next (R302, R314). -/
def nextNumber (s : State) (n : Fin 16) : Nat := if pwP s n = 0 then s.pwm[n].periodNo else s.pwm[n].periodNo + 1

/-- The counts and holds of a period that begins: the run of full periods, and trips cleared and holds released, which let
the waveform go on from here (R308, R311, R313). -/
def beginPeriod (n : Fin 16) (s : State) : State :=
  s.updPwm n (fun x => { x with
    fullRun := if x.fullA then x.fullRun + 1 else 0
    tripHeld := x.tripHeld && s.flag (pw n) PWN.FLAGS_TRIP
    hold := if x.hold = 2 then 0 else x.hold })

/-- The period-start trigger (R314); an active period of 0 begins no period (R302). -/
def periodTrigger (n : Fin 16) (s : State) : State := if pwP s n = 0 then s else s.fire (0x30 + n.val)

/-- A count begins at a PT; the run of full periods counts in COMPL mode with BOOT_CFG.N set (R308): the shadows, the load, the dead times, the refresh. `whole`: at count 0, so that a period
begins; a follower that starts at its PHASE is inside one. -/
def openPeriod (n : Fin 16) (start : Int) (whole starts : Bool) (s : State) : State :=
  let s := actPwm n s
  let s := s.updPwm n (fun x => { x with t0 := start, doneA := false, doneB := false, aAtStart := x.outA, refresh := false })
  let s := if whole then beginPeriod n s else s
  let s := takeDead n s.pt (noteZero n (takeLoad starts n s))
  let s := settlePwm n (if whole then startRefresh n s else s)
  let s := s.updPwm n (fun x => { x with
    fullA := whole && compl s n && decide (s.cfg (pw n) PWN.BOOT_CFG_N ≠ 0) &&
      ((x.outA && x.aAtStart) || x.refresh) && (forcesOf s n).1.isNone
    doneA := false, doneB := false })
  if whole then periodTrigger n s else s

/-- PWM_PERIOD_START. While the active period is 0 a requested load acts at once (R304). -/
def periodStartStep (n : Fin 16) (s : State) : State :=
  if pwmRun s n = false ∨ s.ptStands = true then s
  else
    let no := nextNumber s n
    if follows s n then
      let start := (s.pt : Int) - followTau s n
      if pwmRun s (counterOf s n) = false then s
      else if pwTicks s n = 0 then takeLoad false n s
      else if s.pwm[n].t0 < start then openPeriod n start true false (s.updPwm n (fun x => { x with periodNo := no }))
      else s
    else if pwP s n = 0 then
      if s.pwm[n].loadReq then openPeriod n s.pt true false s else s
    else if pwTicks s n ≤ ownTau s n then
      openPeriod n (s.pwm[n].t0 + pwTicks s n) true false (s.updPwm n (fun x => { x with periodNo := no }))
    else s

/-- PWM_COUNT_EDGE: the outputs take the levels of the present count. -/
def countEdgeStep (n : Fin 16) (s : State) : State := settlePwm n s

/-- PWM_COUNT_TRIGGER: the counter stands at AT in a period whose number DIV divides; the trigger fires (R314). -/
def countTriggerStep (n : Fin 16) (s : State) : State :=
  let at_ := s.cfg (pw n) PWN.TRIG_CFG_AT
  let div := s.cfg (pw n) PWN.TRIG_CFG_DIV
  if pwmRun s n ∧ pwmRun s (counterOf s n) ∧ s.ptStands = false ∧ div ≠ 0 ∧ at_ < pwP s n ∧ tau s n = at_ * pwStep s n ∧
      s.pwm[n].periodNo % div = 0 then
    (s.fire (0x40 + n.val)).fireConv (0x20 + n.val)
  else s

/-! ## Software and plan -/

/-- A generator starts at count 0, or at PHASE for a follower, taking a load it has kept (R301, R304). -/
def startGen (n : Fin 16) (s : State) : State :=
  let s := s.updPwm n (fun x => { x with
    periodNo := 0, fullRun := 0, fullA := false, meas := [], t0 := s.pt, starting := false })
  let s := if follows s n ∧ s.pwm[n].loadReq = true then actShadow (pw n + 0x10) s else s
  let at_ := if follows s n then followTau s n else 0
  openPeriod n ((s.pt : Int) - at_) (decide (at_ = 0)) true s

/-- The generators whose start is due start together, masters before followers (R301, R306). -/
def startDue (s : State) : State :=
  let due := allGens.filter (fun n => s.pwm[n].starting && pwmRun s n)
  let s := foldS (due.filter (fun n => !follows s n)) startGen s
  foldS (due.filter (fun n => follows s n)) startGen s

/-- A generator is stopped: its committed shadows act at once (R318). -/
def stopGen (n : Fin 16) (s : State) : State := actPwm n (s.updPwm n (fun x => { x with meas := [], starting := false }))

/-- PWM_RUN_WRITE: generators start together, or stop to their safe levels (R301). Where PT stands a start waits for it to
go on (R315). One started while the D-die holds its outputs is held until the re-arm (R313). -/
def pwmRunStep (v : Word) (s : State) : State :=
  let old := s.rd PWM.base PWM.RUN
  let s := s.wr PWM.base PWM.RUN v.toNat
  let started := allGens.filter (fun n => bit v.toNat n.val && !bit old n.val)
  let s := foldS started (fun n s => s.updPwm n (fun x => { x with
    starting := true, hold := if s.sys.dHold then 3 else x.hold })) s
  let s := if s.ptStands then s else startDue s
  let stopped := allGens.filter (fun n => !bit v.toNat n.val && bit old n.val)
  settleAll (foldS stopped stopGen s)

/-- PT goes on after a freeze or a clock fault: starts that waited happen, and outputs held at safe levels take them
(R301, R312, R315). -/
def resumePwm (s : State) : State := if s.ptStands then s else foldS allGens settleSafe (startDue s)

/-- LOAD_ALL. -/
def loadAllStep (v : Word) (s : State) : State :=
  let s := s.wr PWM.base PWM.GLOBAL_LOAD_ALL (s.rd PWM.base PWM.GLOBAL_LOAD_ALL ||| v.toNat % 16)
  clearLoadAll (foldS (List.range 4) (fun g s => if bit v.toNat g then requestLoad g s else s) s)

/-- Software has written the load register at an offset in the present drive clock: its value stands over a PROP's (R320). -/
def softWrote (s : State) (n : Fin 16) (off : Nat) : Bool :=
  s.pwm[n].soft.any (fun e => e.1 == off && s.clockOf 2 e.2 == s.clockOf 2 s.tick)

/-- A software write of a load register is noted (R320). -/
def noteSoft (n : Fin 16) (off : Nat) (s : State) : State :=
  s.updPwm n (fun x => { x with soft := (off, s.tick) :: x.soft.filter (fun e => e.1 != off) })

/-- The offset of the shadow a PROP names (R305). -/
def propOff (target : Nat) : Nat := if target = 0 then 8 else if target = 1 then 0xC else 4

/-- A PROP takes effect: its value enters the shadow and its generator's group is to load (R304, R305, R320). -/
def propEffect (n : Fin 16) (target v : Nat) (s : State) : State :=
  let s := if softWrote s n (propOff target) then s else match target with
    | 0 => (s.wr (pw n) PWN.DUTY_A_COUNT v).wr (pw n) PWN.DUTY_A_FRAC 0
    | 1 => (s.wr (pw n) PWN.DUTY_B_COUNT v).wr (pw n) PWN.DUTY_B_FRAC 0
    | 2 => s.wr (pw n) PWN.PERIOD_P v
    | _ => s
  requestLoad (s.cfg (pw n) PWN.CFG_GROUP) s

/-- PWM_FORCE: the request is held, and acts at the first count step after it outside a freeze (R309, R315); DEDUCED (log
entry 185): in a generator that does not count it acts at once. -/
def pwmForceStep (n : Fin 16) (v : Word) (s : State) : State :=
  let s := if s.ptStands then s else takeForce n s
  let s := (s.wr (pw n) PWN.FORCE_FA v.toNat).wr (pw n) PWN.FORCE_FB (v.toNat / 4)
  settlePwm n (s.updPwm n (fun x => { x with forcePt := some s.pt }))

/-! ## Dead-time measurement (R307) -/

/-- A measurement ends with the next dead time of its direction. -/
def measEnd (n : Fin 16) (ab : Bool) (next : Nat) (s : State) : State :=
  s.updPwm n (fun x => { x with
    nextAB := if ab then some (next, s.pt) else x.nextAB
    nextBA := if ab then x.nextBA else some (next, s.pt) })

/-- A measured dead time held between DT_MIN and DT_MAX. DESIGN CHOICE (log entry 188): both are those acting at the crossing,
also where a COMMIT of DT_CFG acts at the period start at which the measured value becomes active. -/
def clampDead (s : State) (n : Fin 16) (m : Nat) : Nat :=
  max (s.cfg (pw n) PWN.DT_CFG_DT_MIN) (min (m + s.cfg (pw n) PWN.DT_CFG_MARGIN) (s.cfg (pw n) PWN.DT_CFG_DT_MAX))

/-- SW_CROSSING: the node crosses in the expected direction: falling after PWMnA's turn-off, rising after PWMnB's. -/
def swCrossingStep (n : Fin 16) (rising : Bool) (s : State) : State :=
  if s.ptStands then s
  else
    let mine := fun (e : Bool × Nat) => decide (e.1 ≠ rising) && decide (s.pt - e.2 ≤ s.cfg (pw n) PWN.DT_CFG_DT_MAX)
    let l := s.pwm[n].meas.filter mine
    let s := s.updPwm n (fun x => { x with meas := x.meas.filter (fun e => !mine e) })
    foldS l (fun e s =>
      let m := s.pt - e.2
      measEnd n e.1 (clampDead s n m) (s.wr (pw n) (if e.1 then PWN.DT_STAT_M_AB else PWN.DT_STAT_M_BA) m)) s

/-- DT_MEASURE_TIMEOUT: no crossing within DT_MAX. -/
def dtTimeoutStep (n : Fin 16) (s : State) : State :=
  if s.ptStands then s
  else
    let mx := s.cfg (pw n) PWN.DT_CFG_DT_MAX
    let past := fun (e : Bool × Nat) => decide (e.2 + mx ≤ s.pt)
    let l := s.pwm[n].meas.filter past
    let s := s.updPwm n (fun x => { x with meas := x.meas.filter (fun e => !past e) })
    foldS l (fun e s =>
      if s.on (pw n) (if e.1 then PWN.CFG_ADAPT_AB else PWN.CFG_ADAPT_BA) then
        measEnd n e.1 mx (s.bump (pw n) PWN.CNT0_NOX)
      else s) s

/-! ## Spillway holds (R111, R313, R25) -/

/-- A spillway end holds every running generator at its safe levels; after a heartbeat loss until the re-arm. -/
def spillPwm (untilArm : Bool) (s : State) : State :=
  settleAll (foldS allGens (fun n s =>
    if pwmRun s n then s.updPwm n (fun x => { x with hold := if untilArm ∨ x.hold = 3 then 3 else 1 }) else s) s)

/-- Why holds are released (R313): an epoch opens, an ARM from LOADED, or the re-arm that leaves SPILLED. -/
inductive HoldEnd
  | epoch | arm | rearm
  deriving DecidableEq, Repr

/-- Holds are released at the next period start (R313): those of a spillway end by an epoch or the re-arm that leaves
SPILLED, those of a heartbeat loss or a shutdown by an arm. -/
def releasePwm (why : HoldEnd) (s : State) : State :=
  foldS allGens (fun n s => s.updPwm n (fun x => { x with
    hold := if (x.hold = 1 ∧ why ≠ .arm) ∨ (x.hold = 3 ∧ why ≠ .epoch) then 2 else x.hold })) s

/-! ## Commands -/

/-- PWM_RUN_WRITE. -/
def execPwmRunWrite (v : Word) (s : State) : Host.Outcome State Fault Refusal := .next (pwmRunStep v s)
/-- PWM_PERIOD_START. -/
def execPwmPeriodStart (n : Fin 16) (s : State) : Host.Outcome State Fault Refusal := .next (periodStartStep n s)
/-- PWM_COUNT_EDGE. -/
def execPwmCountEdge (n : Fin 16) (s : State) : Host.Outcome State Fault Refusal := .next (countEdgeStep n s)
/-- PWM_COUNT_TRIGGER. -/
def execPwmCountTrigger (n : Fin 16) (s : State) : Host.Outcome State Fault Refusal := .next (countTriggerStep n s)
/-- LOAD_ALL. -/
def execLoadAll (v : Word) (s : State) : Host.Outcome State Fault Refusal := .next (loadAllStep v s)
/-- SW_CROSSING. -/
def execSwCrossing (n : Fin 16) (rising : Bool) (s : State) : Host.Outcome State Fault Refusal :=
  .next (swCrossingStep n rising s)
/-- DT_MEASURE_TIMEOUT. -/
def execDtMeasureTimeout (n : Fin 16) (s : State) : Host.Outcome State Fault Refusal := .next (dtTimeoutStep n s)
/-- PWM_FORCE. -/
def execPwmForce (n : Fin 16) (v : Word) (s : State) : Host.Outcome State Fault Refusal := .next (pwmForceStep n v s)
/-- TRIP_INPUT. -/
def execTripInput (k : Fin 8) (level : Bool) (s : State) : Host.Outcome State Fault Refusal :=
  .next (tripInputStep k level s)
/-- BLANK_END. -/
def execBlankEnd (n : Fin 16) (s : State) : Host.Outcome State Fault Refusal := .next (blankEndStep n s)
/-- TRIP_CLEAR. -/
def execTripClear (n : Fin 16) (s : State) : Host.Outcome State Fault Refusal := .next (tripClearStep n s)

end Sys2Proof.Machine
end

