-- ==== Sys2Proof/Machine/Banks.lean ====
section
/-! DEFINITION. Banks, the Sluice and the Levee (chapter 08, R217 to R247). -/

namespace Sys2Proof.Machine

/-! ## The Levee's accounts (R237 to R241) -/

/-- The account of unit u (channels 0 to 63, banks 64 + b). -/
def levUnit (s : State) (u : Nat) : LevUnit := tget s.lev.units u ⟨[], 0, none⟩

/-- The on-time of the present slice so far, in drive clocks. -/
def levNow (s : State) (u : LevUnit) : Nat := u.now + (match u.onSince with | some t => (s.tick - t) / 2 | none => 0)

/-- The used time of unit u (R237). -/
def levUsed (s : State) (u : Nat) : Nat := levNow s (levUnit s u) + ((levUnit s u).past.take 63).sum

/-- The window in ms. -/
def levWindow (s : State) : Nat := s.cfg LEV.base LEV.CFG_WINDOW

/-- The limit of a bank's channels or of the bank, in drive clocks (R238). -/
def levLimit (s : State) (b : Fin 16) (bankUnit : Bool) : Nat :=
  (if bankUnit then s.cfg (LEVB.base b) LEVB.LIM_BANK else s.cfg (LEVB.base b) LEVB.LIM_CH) * levWindow s * 200

/-- The remaining budget of channel k of bank b (R238), below 0 where a limit lies under the used time. -/
def levBudget (s : State) (b : Fin 16) (k : Nat) : Int :=
  min ((levLimit s b false : Int) - levUsed s (4 * b.val + k)) ((levLimit s b true : Int) - levUsed s (64 + b.val))

/-- A unit is switched on or off now (R237). -/
def levSwitch (u : Nat) (on : Bool) (s : State) : State :=
  let x := levUnit s u
  let x' : LevUnit := match x.onSince, on with
    | none, true => { x with onSince := some s.tick }
    | some _, false => { x with now := levNow s x, onSince := none }
    | _, _ => x
  { s with lev := { s.lev with units := tset s.lev.units u x' ⟨[], 0, none⟩ } }

/-- LEVEE_SLICE (R237): the slice ends and the window advances. -/
def leveeSliceStep (s : State) : State :=
  if s.sys.coldBusy = true ∨ s.tick < s.lev.sliceStart + levWindow s * 6250 then s
  else
    let shift := fun (e : Nat × LevUnit) =>
      (e.1, { past := (levNow s e.2 :: e.2.past).take 63, now := 0, onSince := e.2.onSince.map (fun _ => s.tick) : LevUnit })
    let units := (s.lev.units.map shift).filter (fun e => e.2 != ⟨List.replicate 63 0, 0, none⟩)
    { s with lev := { units := units, sliceStart := s.lev.sliceStart + levWindow s * 6250 } }

/-- The accounting restarts with every unit's used time at its limit, on-time in every slice (R241, R245, R457). -/
def leveeRestart (s : State) : State :=
  let mk := fun (lim : Nat) (on : Bool) =>
    ({ past := List.replicate 63 (lim / 64), now := lim - 63 * (lim / 64), onSince := if on then some s.tick else none } : LevUnit)
  let units := ((List.range 64).map (fun c => (c, mk (levLimit s (Fin.ofNat 16 (c / 4)) false) (levUnit s c).onSince.isSome))) ++
    ((List.range 16).map (fun b => (64 + b, mk (levLimit s (Fin.ofNat 16 b) true) (levUnit s (64 + b)).onSince.isSome)))
  { s with lev := { units := units, sliceStart := s.tick } }

/-! ## Armature-dip windows that a mask change ends (R263, R267) -/

/-- A bit of a bank's shaper FLAGS sets; source 67 + 4b on a change (R271). -/
def shpFlag (b : Fin 16) (k : Nat) (s : State) : State :=
  let a := SHPB.base b + 0x18
  if bit (s.reg a).toNat k then s else (s.setReg a (s.reg a ||| toWord (2 ^ k))).raise (67 + 4 * b.val)

/-- The armed window is gone. -/
def clearDip (b : Fin 16) (s : State) : State :=
  s.updShp b (fun x => { x with dipFrom := none, dipCodes := [], dipRisen := false })

/-- An armed window closes without a dip: FLAGS.NODIP of the channel, DTRIM.NODIPS, source 67 + 4b (R267). -/
def closeDip (b : Fin 16) (s : State) : State :=
  let x := s.shp[b]
  match x.dipFrom with
  | none => s
  | some _ =>
    clearDip b (shpFlag b (12 + x.chan.val) (s.bump (SHPC.base b x.chan) SHPC.DTRIM_NODIPS))

/-! ## The switch mask (R222, R223, R232, R233) -/

/-- A commanded mask after the interlocks (R222): low sides of other channels are forced off, HSB wins over HSH. -/
def interlock (ch : Option (Fin 4)) (m : Nat) : Nat :=
  let ls := match ch with | none => 0 | some k => if bit m k.val then 2 ^ k.val else 0
  let hs := if bit m 5 then 32 else if bit m 4 then 16 else 0
  hs + ls

/-- The Levee's units of bank b follow its mask. -/
def levFollow (b : Fin 16) (m : Nat) (s : State) : State :=
  foldS [0, 1, 2, 3] (fun k s => levSwitch (4 * b.val + k) (bit m k) s) (levSwitch (64 + b.val) (decide (m ≠ 0)) s)

/-- A mask is on its way to the gate drivers of bank b, which it reaches 20 ns after its command (R249). -/
def sendMask (b : Fin 16) (m : Nat) (s : State) : State :=
  s.updBank b (fun x => { x with gates := x.gates ++ [(s.tick + 8, m)] })

/-- A mask connects a high side and a low side. -/
def connects (m : Nat) : Bool := decide (16 ≤ m) && decide (m % 16 ≠ 0)

/-- The switches of bank b are commanded (R222, R223): the interlocks, the dip window, the end of a decay's checks, the
Levee's accounts. The mask in force commanded again may be an action's first that connects its coil (R232, R261). -/
def setMask (b : Fin 16) (m : Nat) (s : State) : State :=
  let x := s.banks[b]
  let s := if bit m 5 && bit m 4 then s.setFault (BANK.base b) BANK.FAULT_HS_BOTH (65 + 4 * b.val) else s
  let m' := interlock x.grant m
  if m' = x.mask then (if x.checkAt.isNone && connects m' then sendMask b m' s else s)
  else
    let s := closeDip b s
    let s := s.updBank b (fun x => { x with
      mask := m'
      decayAt := if m' = 0 then x.decayAt else none
      clampAt := if m' = 0 then x.clampAt else none })
    levFollow b m' (sendMask b m' s)

/-- Fast decay is commanded: END, FASTOFF, a spillway end or a trip (R223). A bank already off decays afresh. -/
def fastDecay (b : Fin 16) (s : State) : State :=
  if s.banks[b].mask = 0 then sendMask b 0 s else setMask b 0 s

/-- A mask reaches the gate drivers of bank b: a fast decay above ZERO begins its checks unless a switch has been commanded
on again, which ends them, that of the clamp where CLAMP_EN is set as it begins (R223); the first mask of an action that connects a high side and the granted low side begins
those of R232 and R233. -/
def gateReached (b : Fin 16) (m : Nat) (s : State) : State :=
  let x := s.banks[b]
  let decays := decide (m = 0) && decide (x.mask = 0) && x.decayAt.isNone &&
    decide (s.cfg (BANK.base b) BANK.DECAY_CFG_ZERO < s.rd (BANK.base b) BANK.SENSE_I)
  let starts := x.grant.isSome && x.checkAt.isNone && decide (x.checkFrom ≤ s.tick) && connects m
  s.updBank b (fun x => { x with
    gate := m
    decayAt := if decays then some s.tick else if m = 0 then x.decayAt else none
    stuckDone := if decays then false else x.stuckDone
    clampAt := if decays then (if s.on (BANK.base b) BANK.CFG_CLAMP_EN then some s.tick else none) else if m = 0 then x.clampAt else none
    clampSeen := if decays then x.clamp else x.clampSeen
    checkAt := if starts then some s.tick else x.checkAt
    openDone := if starts then false else x.openDone
    shortDone := if starts then false else x.shortDone })

/-- The masks of a bank that reach its gate drivers in this tick (R249). -/
def gatesDue (b : Fin 16) (s : State) : State :=
  let due := s.banks[b].gates.filter (fun e => decide (e.1 ≤ s.tick))
  if due = [] then s
  else
    let s := s.updBank b (fun x => { x with gates := x.gates.filter (fun e => decide (s.tick < e.1)) })
    foldS due (fun e s => gateReached b e.2 s) s

/-- The masks that reach any bank's gate drivers in this tick (R249). -/
def gatesTick (s : State) : State :=
  if s.banks.any (fun x => !x.gates.isEmpty) then foldS (List.finRange 16) gatesDue s else s

/-- The switches of bank b that are on at the balls: a driver holds a switch off while its bootstrap voltage is low (R221),
and every one without VDRV (R456) or while the D-die holds its outputs (R25). -/
def ballGates (s : State) (b : Fin 16) : Nat :=
  let x := s.banks[b]
  if s.sys.vdrvLow || s.sys.dHold then 0
  else x.gate % 16 + (if bit x.gate 4 && !x.bootOffH then 16 else 0) + (if bit x.gate 5 && !x.bootOffB then 32 else 0)

/-! ## Ends that reach a bank -/

/-- The tick that lies at a PT not later than now. -/
def tickAt (s : State) (pt : Nat) : Nat := s.tick - (s.pt - pt)

/-- A running shaper fetches in this drive clock, and the word is uncorrectable (R268). -/
def fetchesBad (s : State) (b : Fin 16) : Bool :=
  let x := s.shp[b]
  x.running && decide (x.wait = .none) && decide (x.nextAt ≤ s.pt) && !s.ptStands &&
    decide (2 ≤ secBad s (0x180000 + 4 * (x.pc % 4096)))

/-- A spillway end stops the shaper where it stands (R260); an uncorrectable word fetched in that clock leaves no more than
the finding (R272). -/
def stopShaper (b : Fin 16) (s : State) : State :=
  let s := if fetchesBad s b then noteMicrocode s.shp[b].pc s else s
  s.updShp b (fun x => { x with running := false, endAt := none, e := false, d := false, t := false, wait := .none,
                                dipFrom := none, dipCodes := [], dipRisen := false, held := none, endReqAt := none })

/-- The bank's grant has begun: its action has taken effect, and the bank has not become free (R225). A restart keeps
the grant it finds (R261). -/
def grantBegun (s : State) (b : Fin 16) : Bool :=
  s.banks[b].grant.isSome && ((s.shp[b].restarted && (s.shp[b].running || s.shp[b].endAt.isSome)) ||
    !(s.banks[b].holder.bind (findAct s)).any (fun a => a.phase == .granted))

/-- A spillway end acts on a bank (R223, R231, R260): fast decay, the shaper stops, the grant and every deferred
request are cleared; the bank becomes free as R225 states. The actions themselves are ended by the caller. -/
def spillBank (b : Fin 16) (s : State) : State :=
  let ends := s.banks[b].holder.isSome && grantBegun s b
  let s := fastDecay b (stopShaper b s)
  s.updBank b (fun x => { x with
    ended := if ends then some s.tick else x.ended
    zeroSeen := if ends then false else x.zeroSeen
    grant := none, holder := none, heldExc := false, queue := [], restart := [], checkAt := none })

/-- A bank promised to a request whose grant has not begun is free once the request is gone (R225, R226). -/
def dropPromise (b : Fin 16) (s : State) : State :=
  if grantBegun s b then s else s.updBank b (fun x => { x with grant := none, holder := none })

/-- A spillway end of one bank ends its actions TRUNCATED: those its Sluice has judged (R231, R233, R234, R240). -/
def truncateBank (b : Fin 16) (s : State) : State :=
  let s := dropPromise b s
  let s := truncateWhere (fun a => a.isBank && decide (a.bank = b.val) && decide (a.phase ≠ .issued)) (devAngle s) s
  spillBank b s

/-! ## The Sluice (R225 to R231) -/

/-- Channel k of bank b is locked (R235). -/
def locked (x : Bank) (k : Nat) : Bool := x.bankLock || bit x.chLock k

/-- The bank is free and promised to no request: no grant, and no end still on its way to freeing it (R225, R226). -/
def bankFreeNow (x : Bank) : Bool := x.grant.isNone && x.ended.isNone

/-- A request is granted, to take effect at an instant (R226, R227). -/
def grantTo (b : Fin 16) (a : Act) (effectAt : Nat) (s : State) : State :=
  let s := updAct a.serial (fun x => { x with phase := .granted, effectAt := effectAt }) s
  s.updBank b (fun x => { x with grant := some (Fin.ofNat 4 a.chan), holder := some a.serial, ended := none,
                                 zeroSeen := false, heldExc := false, checkAt := none, checkFrom := 0 })

/-- A Sluice drop (R228, R229, R235): counted, source 64 + 4b, DROPPED with reason OVERLAP. -/
def sluiceDrop (b : Fin 16) (a : Act) (s : State) : State :=
  dropAct 2 a ((s.bump (BANK.base b) BANK.SLUICE_CNT_DROPS).raise (64 + 4 * b.val))

/-- The actions a contender finds ahead of it on a bank: the one granted and the deferred requests, new commands that
found the profile ended among them (R144, R229, R261). -/
def aheadOn (s : State) (b : Fin 16) : List Act :=
  let x := s.banks[b]
  (x.holder.toList ++ (if s.shp[b].endAt.isSome then x.restart else []) ++ x.queue).filterMap (findAct s)

/-- A contender, or an action it found ahead of it, the one that still holds the grant after its normal end among them,
was swept or in its edge shadow (R144, R229). -/
def excusedOn (s : State) (b : Fin 16) (a : Act) : Bool :=
  a.excused || (aheadOn s b).any Act.excused || (s.banks[b].ended.isSome && s.banks[b].heldExc)

/-- The earliest instant at which a contender could take effect (R227, R228): after the holder's end, which is no earlier
than its effect + m (R258), and T_TURN. -/
def earliestEffect (s : State) (b : Fin 16) (a : Act) : Nat :=
  let x := s.banks[b]
  let free := match x.ended with
    | some e => max (s.pt + (e + 40 - s.tick)) s.pt
    | none =>
      let m := match x.holder.bind (findAct s) with | some h => h.effectAt + entMin h.w1 | none => 0
      max s.pt m + 40
  max a.target (free + 10)

/-- A contender is deferred or dropped (R226 to R229). -/
def contend (b : Fin 16) (a : Act) (s : State) : State :=
  let exc := excusedOn s b a
  let x := s.banks[b]
  let sameChan := ((x.restart ++ x.queue).filterMap (findAct s)).any (fun q => decide (q.chan = a.chan))
  if 3 ≤ x.queue.length ∨ sameChan = true ∨ a.target + a.dlim < earliestEffect s b a then
    sluiceDrop b a (contention exc s)
  else
    let s := updAct a.serial (fun a => { a with phase := .waiting, aheadSwept := exc }) s
    s.updBank b (fun x => { x with queue := x.queue ++ [a.serial] })

/-- The restart instant of a command for the channel that holds the grant: its target PT, or the effect + m of the action it
will interrupt, if that is later (R261 item 1). -/
def restartInst (a : Act) (running : Nat × Nat) : Nat := max a.target (running.1 + running.2)

/-- Effect and minimum duration of the action that runs once every held restart has been made. -/
def lastRestart (s : State) (b : Fin 16) : Nat × Nat :=
  let first := match s.banks[b].holder.bind (findAct s) with
    | some h => (h.effectAt, entMin h.w1)
    | none => (0, 0)
  (s.banks[b].restart.filterMap (findAct s)).foldl (fun r n => (restartInst n r, entMin n.w1)) first

/-- A new command for the channel that holds the grant (R226, R261): held as a restart, or dropped past its limit. -/
def newCommand (b : Fin 16) (a : Act) (s : State) : State :=
  let x := s.banks[b]
  let inst := restartInst a (lastRestart s b)
  let exc := a.excused || (x.holder.bind (findAct s)).any Act.excused
  if a.target + a.dlim < inst then sluiceDrop b a (contention exc s)
  else
    let s := updAct a.serial (fun a => { a with phase := .waiting, aheadSwept := exc }) s
    s.updBank b (fun x => { x with restart := x.restart ++ [a.serial] })

/-- A new command that finds no profile to restart waits for the bank as a contender, behind the requests that wait
already; one that may not wait is dropped (R228, R261 item 5). -/
def restartWaits (b : Fin 16) (a : Act) (s : State) : State :=
  let x := s.banks[b]
  if 3 ≤ x.queue.length ∨ (x.queue.filterMap (findAct s)).any (fun w => decide (w.chan = a.chan)) = true then
    sluiceDrop b a (contention (a.excused || a.aheadSwept) s)
  else s.updBank b (fun x => { x with queue := x.queue ++ [a.serial] })

/-- Every held restart of a bank finds no profile to restart. -/
def restartsWait (b : Fin 16) (s : State) : State :=
  let l := s.banks[b].restart.filterMap (findAct s)
  foldS l (restartWaits b) (s.updBank b (fun x => { x with restart := [] }))

/-- BANK_COMMAND (R226): the oldest command on its way to bank b is judged 20 ns after its issue. -/
def bankCommandStep (b : Fin 16) (s : State) : State :=
  match s.plan.acts.find? (fun a => a.isBank && decide (a.bank = b.val) && decide (a.phase = .issued)) with
  | none => s
  | some a =>
    if s.pt < a.issued + 8 then s
    else
      let x := s.banks[b]
      if locked x a.chan then sluiceDrop b a s
      else if grantBegun s b = true ∧ x.grant = some (Fin.ofNat 4 a.chan) ∧ x.ended.isNone ∧ s.shp[b].endAt.isNone then
        newCommand b a s
      else if bankFreeNow x ∧ x.queue = [] then grantTo b a a.target s
      else contend b a s

/-- Waiting requests whose limit can no longer be met, at the instants at which they could take effect now, are dropped
(R228). -/
def expireWaiting (b : Fin 16) (earliest : Act → Nat) (s : State) : State :=
  let late := (s.banks[b].queue.filterMap (findAct s)).filter (fun a => decide (a.target + a.dlim < earliest a))
  let s := s.updBank b (fun x => { x with queue := x.queue.filter (fun q => !late.any (fun a => a.serial == q)) })
  foldS late (fun a s => sluiceDrop b a (contention (a.excused || a.aheadSwept) s)) s

/-- Waiting requests for a channel that has been locked since are dropped: it is never granted, and each is a contention
(R229, R235). -/
def dropLocked (b : Fin 16) (s : State) : State :=
  let bad := (s.banks[b].queue.filterMap (findAct s)).filter (fun a => locked s.banks[b] a.chan)
  let s := s.updBank b (fun x => { x with queue := x.queue.filter (fun q => !bad.any (fun a => a.serial == q)) })
  foldS bad (fun a s => sluiceDrop b a (contention (a.excused || a.aheadSwept) s)) s

/-- The oldest waiting request is granted a bank that has become free (R227 to R229). -/
def grantOldest (b : Fin 16) (s : State) : State :=
  match s.banks[b].queue with
  | [] => s
  | q :: rest =>
    let s := s.updBank b (fun x => { x with queue := rest })
    match findAct s q with
    | none => s
    | some a =>
      let eff := max a.target (s.pt + 10)
      let late := eff - a.target
      let s := if late = 0 then s else
        let s := (s.bump (BANK.base b) BANK.SLUICE_CNT_DEFERS).raise (64 + 4 * b.val)
        let s := if s.rd (BANK.base b) BANK.DEFER_MAX_TICKS < late then
          s.wr (BANK.base b) BANK.DEFER_MAX_TICKS (sat BANK.DEFER_MAX_TICKS.top late) else s
        updAct a.serial (fun a => { a with deferred := true }) (contention (a.excused || a.aheadSwept) s)
      grantTo b a eff s

/-- Held unlocks act once the bank is free (R235). -/
def actUnlock (b : Fin 16) (s : State) : State :=
  let u := (s.reg (BANK.base b + 0x70)).toNat
  let s := s.setReg (BANK.base b + 0x70) 0
  s.updBank b (fun x => { x with chLock := x.chLock - (x.chLock &&& u % 16), bankLock := x.bankLock && !bit u 4 })

/-- The bank is free again: held unlocks, then the oldest waiting request that can still meet its limit (R228, R235). -/
def becomeFree (b : Fin 16) (s : State) : State :=
  let s := s.updBank b (fun x => { x with grant := none, holder := none, ended := none, heldExc := false })
  grantOldest b (dropLocked b (expireWaiting b (fun a => max a.target (s.pt + 10)) (actUnlock b s)))

/-- BANK_FREE (R225): T_TURN after the end, and a sample at or below ZERO since. -/
def bankFreeStep (b : Fin 16) (s : State) : State :=
  match s.banks[b].ended with
  | some e => if e + 40 ≤ s.tick ∧ s.banks[b].zeroSeen = true then becomeFree b s else s
  | none => s

/-- DEFER_LIMIT_EXPIRE (R228). -/
def deferLimitStep (b : Fin 16) (s : State) : State := expireWaiting b (earliestEffect s b) s

/-- The bank is granted to no channel (R225): one promised to a request is free until that takes effect (R226). -/
def notGranted (s : State) (b : Fin 16) : Bool := !grantBegun s b && s.banks[b].ended.isNone

/-- BANK_UNLOCK (R235): acts while the bank is free, otherwise held. -/
def bankUnlockStep (b : Fin 16) (v : Word) (s : State) : State :=
  let a := BANK.base b + 0x70
  let s := s.setReg a (s.reg a ||| (v &&& 0x1F))
  if notGranted s b then actUnlock b s else s

/-! ## What the bank detects (R219, R221 to R224, R232 to R234) -/

/-- OPEN_LOAD_TIMEOUT (R232). -/
def openLoadStep (b : Fin 16) (s : State) : State :=
  let x := s.banks[b]
  let base := BANK.base b
  let tm := s.cfg base BANK.OPEN_CFG_T
  match x.checkAt, x.grant with
  | some t0, some ch =>
    if tm ≠ 0 ∧ x.openDone = false ∧ t0 + 16 * tm ≤ s.tick then
      let s := s.updBank b (fun x => { x with openDone := true })
      let a := base + 0x5C
      if bit (s.reg a).toNat (8 + ch.val) then s
      else (s.setReg a (s.reg a ||| toWord (2 ^ (8 + ch.val)))).raise (65 + 4 * b.val)
    else s
  | _, _ => s

/-- The holding action's normal end falls in this clock or lies behind it (R213, R247, R258). -/
def endReached (s : State) (b : Fin 16) : Bool :=
  match s.banks[b].holder.bind (findAct s), s.shp[b].endAt with
  | some a, some e => decide (a.phase = .effect) && decide (max e (a.effectAt + entMin a.w1) ≤ s.pt)
  | _, _ => false

/-- An action is in progress at bank b: its profile runs, or it is in effect and has not reached its normal end (R234). -/
def actionOn (s : State) (b : Fin 16) : Bool :=
  s.banks[b].holder.isSome && (grantBegun s b || s.shp[b].running) && !endReached s b

/-- A hardware trip ends the action in progress; with none, or at its normal end, the bank goes to fast decay (R233, R234,
R247). -/
def tripBank (b : Fin 16) (s : State) : State := if actionOn s b then truncateBank b s else fastDecay b s

/-- SHORT_DETECT (R233): the code reaches LVL sooner than T after the starting mask. -/
def shortStep (b : Fin 16) (s : State) : State :=
  let x := s.banks[b]
  let base := BANK.base b
  let tm := s.cfg base BANK.SHORT_CFG_T
  match x.checkAt, x.grant with
  | some t0, some ch =>
    if tm ≠ 0 ∧ x.shortDone = false ∧ s.tick < t0 + 16 * tm ∧
        s.cfg base BANK.SHORT_CFG_LVL ≤ s.rd base BANK.SENSE_I then
      let lock := s.on base BANK.CFG_LOCK_ON_SHORT
      let s := tripBank b s
      let s := s.updBank b (fun x => { x with shortDone := true,
                                              chLock := if lock then x.chLock ||| 2 ^ ch.val else x.chLock })
      let a := base + 0x5C
      if bit (s.reg a).toNat (12 + ch.val) then s
      else (s.setReg a (s.reg a ||| toWord (2 ^ (12 + ch.val)))).raise (65 + 4 * b.val)
    else s
  | _, _ => s

/-- OVERCURRENT_TRIP (R234); with no action in progress, fast decay and the lock only (R247). -/
def overcurrentStep (b : Fin 16) (s : State) : State :=
  let base := BANK.base b
  if s.cfg base BANK.OC_CFG_LVL ≤ s.rd base BANK.SENSE_I then
    let lock := s.on base BANK.CFG_LOCK_ON_OC
    let s := tripBank b s
    let s := s.updBank b (fun x => { x with bankLock := x.bankLock || lock })
    s.setFault base BANK.FAULT_OC (65 + 4 * b.val)
  else s

/-- CLAMP_MISS (R223): 500 ns of checked fast decay with LS_CLAMPb low. -/
def clampMissStep (b : Fin 16) (s : State) : State :=
  let x := s.banks[b]
  match x.clampAt with
  | some t0 =>
    if s.on (BANK.base b) BANK.CFG_CLAMP_EN ∧ t0 + 200 ≤ s.tick then
      let s := s.updBank b (fun x => { x with clampAt := none })
      if x.clampSeen then s else s.setFault (BANK.base b) BANK.FAULT_CLAMP_MISS (65 + 4 * b.val)
    else s
  | none => s

/-- DECAY_STUCK (R223): TMO passes with every switch off and the code above ZERO. -/
def decayStuckStep (b : Fin 16) (s : State) : State :=
  let base := BANK.base b
  match s.banks[b].decayAt with
  | some t0 =>
    if s.banks[b].stuckDone = false ∧ t0 + 400 * s.cfg base BANK.DECAY_CFG_TMO ≤ s.tick then
      let s := s.updBank b (fun x => { x with stuckDone := true, bankLock := true })
      s.setFault base BANK.FAULT_DECAY_STUCK (65 + 4 * b.val)
    else s
  | none => s

/-- BOOT_UV (R221): the driver holds the switch off. -/
def bootUvStep (b : Fin 16) (hs : Bool) (s : State) : State :=
  if hs then
    (s.updBank b (fun x => { x with bootOffH := true })).setFault (BANK.base b) BANK.FAULT_BOOT_UV_H (65 + 4 * b.val)
  else
    (s.updBank b (fun x => { x with bootOffB := true })).setFault (BANK.base b) BANK.FAULT_BOOT_UV_B (65 + 4 * b.val)

/-- BOOT_UV_RELEASE (R221): the switch is released. -/
def bootReleaseStep (b : Fin 16) (hs : Bool) (s : State) : State :=
  s.updBank b (fun x => if hs then { x with bootOffH := false } else { x with bootOffB := false })

/-- BOOST_SAMPLE (R224): BSTVb is sampled; BOOST_UV sets below the threshold. -/
def boostSampleStep (b : Fin 16) (code : BitVec 10) (s : State) : State :=
  let s := s.wr (BANK.base b) BANK.SENSE_BOOSTV code.toNat
  if code.toNat < s.cfg (BANK.base b) BANK.BOOST_CFG_UV then
    s.setFault (BANK.base b) BANK.FAULT_BOOST_UV (65 + 4 * b.val) else s

/-! ## Levee checks (R239, R240) -/

/-- A Levee drop (R239): counted, source 66 + 4b, DROPPED with reason LEVEE. -/
def leveeDrop (b : Fin 16) (a : Act) (s : State) : State :=
  let s := (s.bump LEV.base LEV.CNT_DROPS).bump (LEVB.base b) LEVB.BCNT_DROPS
  dropAct 3 a (s.raise (66 + 4 * b.val))

/-- The remaining budget covers the action's minimum duration, m_a * 20 clocks (R239). -/
def leveeAllows (s : State) (b : Fin 16) (a : Act) : Bool := decide (((entMin a.w1 / 2 : Nat) : Int) ≤ levBudget s b a.chan)

/-- LEVEE_EXHAUST (R240): a used time has reached its limit during an action; its normal end in that clock stands (R247). -/
def leveeExhaustStep (b : Fin 16) (s : State) : State :=
  match s.banks[b].grant, s.banks[b].holder.bind (findAct s) with
  | some ch, some a =>
    if a.phase = .effect ∧ endReached s b = false ∧ (levLimit s b false ≤ levUsed s (4 * b.val + ch.val) ∨ levLimit s b true ≤ levUsed s (64 + b.val)) then
      let s := truncateBank b s
      ((s.bump LEV.base LEV.CNT_TRUNCS).bump (LEVB.base b) LEVB.BCNT_TRUNCS).raise (66 + 4 * b.val)
    else s
  | _, _ => s

/-! ## Commands -/

/-- BANK_COMMAND. -/
def execBankCommand (b : Fin 16) (s : State) : Host.Outcome State Fault Refusal := .next (bankCommandStep b s)
/-- BANK_FREE. -/
def execBankFree (b : Fin 16) (s : State) : Host.Outcome State Fault Refusal := .next (bankFreeStep b s)
/-- DEFER_LIMIT_EXPIRE. -/
def execDeferLimitExpire (b : Fin 16) (s : State) : Host.Outcome State Fault Refusal := .next (deferLimitStep b s)
/-- OPEN_LOAD_TIMEOUT. -/
def execOpenLoadTimeout (b : Fin 16) (s : State) : Host.Outcome State Fault Refusal := .next (openLoadStep b s)
/-- SHORT_DETECT. -/
def execShortDetect (b : Fin 16) (s : State) : Host.Outcome State Fault Refusal := .next (shortStep b s)
/-- OVERCURRENT_TRIP. -/
def execOvercurrentTrip (b : Fin 16) (s : State) : Host.Outcome State Fault Refusal := .next (overcurrentStep b s)
/-- CLAMP_MISS. -/
def execClampMiss (b : Fin 16) (s : State) : Host.Outcome State Fault Refusal := .next (clampMissStep b s)
/-- DECAY_STUCK. -/
def execDecayStuck (b : Fin 16) (s : State) : Host.Outcome State Fault Refusal := .next (decayStuckStep b s)
/-- BOOT_UV. -/
def execBootUv (b : Fin 16) (hs : Bool) (s : State) : Host.Outcome State Fault Refusal := .next (bootUvStep b hs s)
/-- BOOT_UV_RELEASE. -/
def execBootUvRelease (b : Fin 16) (hs : Bool) (s : State) : Host.Outcome State Fault Refusal := .next (bootReleaseStep b hs s)
/-- BOOST_SAMPLE. -/
def execBoostSample (b : Fin 16) (code : BitVec 10) (s : State) : Host.Outcome State Fault Refusal :=
  .next (boostSampleStep b code s)
/-- BANK_UNLOCK. -/
def execBankUnlock (b : Fin 16) (v : Word) (s : State) : Host.Outcome State Fault Refusal := .next (bankUnlockStep b v s)
/-- LEVEE_SLICE. -/
def execLeveeSlice (s : State) : Host.Outcome State Fault Refusal := .next (leveeSliceStep s)
/-- LEVEE_EXHAUST. -/
def execLeveeExhaust (b : Fin 16) (s : State) : Host.Outcome State Fault Refusal := .next (leveeExhaustStep b s)

end Sys2Proof.Machine
end

