-- ==== Sys2Proof/Machine/Shaper.lean ====
section
/-! DEFINITION. The current shaper: microcode, weir levels, armature detection and the start trims
(chapter 09, R248 to R272). PT is in ticks; a step of 5 ns is two ticks. -/

namespace Sys2Proof.Machine

/-! ## The microcode word (R252, R253) -/

/-- OP. -/
def ucOp (w : Nat) : Nat := bits w 31 28
/-- N of a timed instruction in steps. -/
def ucSteps (w : Nat) : Nat := bits w 23 8 * [1, 16, 256, 4096].getD (bits w 25 24) 1
/-- The target of a jump. -/
def ucAddr (w : Nat) : Nat := bits w 11 0

/-- The address of store word a (R268). -/
def ucAddress (a : Nat) : Nat := 0x180000 + 4 * (a % 4096)

/-- A store word as data. -/
def ucWord (s : State) (a : Nat) : Nat := s.leBytes (ucAddress a) 4

/-- The ENTRY address of a profile word (R169). -/
def profEntry (w : Nat) : Nat := bits w 11 0
/-- The BOOST address of a profile word (R169). -/
def profBoost (w : Nat) : Nat := bits w 27 16

/-- The profile word of bank b, slot p (R268). -/
def profWord (s : State) (b p : Nat) : Nat := tget s.plan.profile (16 * b + p) 0

/-! ## Starting, fetching, stepping -/

/-- The weir levels in force (R251). -/
def weirsOf (s : State) (b : Fin 16) : List Nat :=
  let r := fun f => s.cfg (SHPB.base b) f
  [r SHPB.WEIR_A_L0, r SHPB.WEIR_A_L1, r SHPB.WEIR_B_L2, r SHPB.WEIR_B_L3,
   r SHPB.WEIR_C_L4, r SHPB.WEIR_C_L5, r SHPB.WEIR_D_L6, r SHPB.WEIR_D_L7]

/-- The shadows of a bank's weir levels and DIP_CFG act at its first profile start after the drive clock of their COMMIT
(R251, R270, R272). -/
def actProfileShadows (b : Fin 16) (s : State) : State :=
  s.actWhere (fun c => c.when_ == .profile b && decide (s.clockOf 2 c.at_ < s.clockOf 2 s.tick))

/-- A profile starts at a word (R248, R251, R254, R261): flags, detector, timers and levels afresh. -/
def startProfile (b : Fin 16) (ch : Fin 4) (slot pc : Nat) (restarted : Bool) (s : State) : State :=
  let s := actProfileShadows b s
  s.updShp b (fun x => { x with
    running := true, endAt := none, chan := ch, slot := slot, pc := pc, nextAt := s.pt,
    e := false, d := false, t := false, wait := .none, onMask := 0, onPhase := false, weirs := weirsOf s b,
    restarted := restarted, endReqAt := none, dipFrom := none, dipCodes := [], dipRisen := false, held := none })

/-- The action holding a bank. -/
def holderAct (s : State) (b : Fin 16) : Option Act := s.banks[b].holder.bind (findAct s)

/-- PROFILE_START (R239, R248): 20 ns before the effect the Levee judges, and the profile starts at ENTRY. A request whose
channel has been locked since is never granted (R235). -/
def profileStartStep (b : Fin 16) (s : State) : State :=
  match holderAct s b, s.banks[b].grant with
  | some a, some ch =>
    if a.phase ≠ .granted ∨ s.shp[b].running = true ∨ s.shp[b].endAt.isSome ∨ s.pt + 8 < a.effectAt ∨ s.ptStands = true ∨
        s.sys.dHold = true then s
    else if locked s.banks[b] a.chan then becomeFree b (restartsWait b (sluiceDrop b a s))
    else if leveeAllows s b a then startProfile b ch (entProf a.w0) (profEntry (profWord s b.val (entProf a.w0))) false s
    else becomeFree b (restartsWait b (leveeDrop b a s))
  | _, _ => s

/-- The word a running shaper executes now, if it is due and waits for nothing. -/
def ucDue (b : Fin 16) (s : State) : Option Nat :=
  let x := s.shp[b]
  if x.running = true ∧ x.wait = .none ∧ x.nextAt ≤ s.pt ∧ s.ptStands = false then some (ucWord s x.pc) else none

/-- An uncorrectable microcode word is fetched (R268): the bank is spillway-ended, FLAGS.UNCORR, STORE.UADDR. -/
def ucUncorrectable (b : Fin 16) (s : State) : State :=
  let pc := s.shp[b].pc
  shpFlag b 3 (truncateBank b (noteMicrocode pc s))

/-- One instruction of an opcode executes: fetched, decoded, carried out (R250, R253, R268). An instruction of another
opcode, or none due, leaves the shaper as it is; an uncorrectable word has no opcode. -/
def ucExec (b : Fin 16) (op : Nat) (f : Nat → State → State) (s : State) : State :=
  match ucDue b s with
  | none => s
  | some w =>
    if 2 ≤ secBad s (ucAddress s.shp[b].pc) then ucUncorrectable b s
    else if ucOp w ≠ op then s
    else
      let s := if secBad s (ucAddress s.shp[b].pc) = 1 then s.bump SHP.base SHP.STORE_CORR else s
      f w s

/-- The next word executes n steps from now. -/
def ucNext (b : Fin 16) (n : Nat) (s : State) : State :=
  s.updShp b (fun x => { x with pc := (x.pc + 1) % 4096, nextAt := s.pt + 2 * n, wait := .none })

/-- The next word is another, one step from now. -/
def ucGoto (b : Fin 16) (a : Nat) (s : State) : State :=
  s.updShp b (fun x => { x with pc := a, nextAt := s.pt + 2, wait := .none })

/-- The shaper waits. -/
def ucWaitFor (b : Fin 16) (w : ShpWait) (s : State) : State := s.updShp b (fun x => { x with wait := w })

/-- The newest sample (R249). -/
def senseCode (s : State) (b : Fin 16) : Nat := s.rd (BANK.base b) BANK.SENSE_I

/-- Weir level n of the running profile. -/
def weir (x : Shaper) (n : Nat) : Nat := x.weirs.getD n 0

/-- A level condition (R251). -/
def levelHolds (code : Nat) (rise : Bool) (lv : Nat) : Bool := if rise then decide (lv ≤ code) else decide (code ≤ lv)

/-- "rise to" or "fall to" a level, with a timeout (R253). -/
def ucLevel (b : Fin 16) (rise : Bool) (lv n : Nat) (s : State) : State :=
  let s := s.updShp b (fun x => { x with t := false })
  if levelHolds (senseCode s b) rise lv then ucNext b 1 s
  else ucWaitFor b (.level rise lv (s.pt + 2 * max n 1)) s

/-! ## Delay measurement (R263, R264) -/

/-- The channel's DLAST takes a measured delay. -/
def noteDelay (b : Fin 16) (ch : Fin 4) (d : Nat) (s : State) : State :=
  (s.wr (SHPC.base b ch) SHPC.DLAST_D (sat SHPC.DLAST_D.top d)).bump (SHPC.base b ch) SHPC.DLAST_DIPS

/-- A held opening delay enters its channel's filter at the normal end (R264). -/
def filterDelay (b : Fin 16) (s : State) : State :=
  let x := s.shp[b]
  let base := SHPC.base b x.chan
  match x.held with
  | some (d, true) =>
    if x.restarted ∨ s.on base SHPC.DCFG_EN = false then s
    else if s.flag base SHPC.DFILT_VALID then
      let f := filterStep (s.rd base SHPC.DFILT_FILT) (256 * d) (s.cfg base SHPC.DCFG_K)
      s.wr base SHPC.DFILT_FILT f.toNat
    else (s.wr base SHPC.DFILT_FILT (256 * d)).wr base SHPC.DFILT_VALID 1
  | _ => s

/-! ## The instructions (R253 to R255) -/

/-- END: fast decay; the profile ends. -/
def ucEnd (b : Fin 16) (_w : Nat) (s : State) : State :=
  let s := fastDecay b (closeDip b s)
  s.updShp b (fun x => { x with running := false, endAt := some s.pt, wait := .none })

/-- SETSW: the switch mask under the interlocks; LSG names the granted channel's low side. -/
def ucSetsw (b : Fin 16) (w : Nat) (s : State) : State :=
  let x := s.shp[b]
  let m := bits w 5 0 ||| (if bit w 6 then 2 ^ x.chan.val else 0)
  ucNext b 1 (setMask b m s)

/-- WAITT. -/
def ucWaitt (b : Fin 16) (w : Nat) (s : State) : State :=
  if ucSteps w = 0 then ucNext b 1 s else ucWaitFor b (.time (s.pt + 2 * ucSteps w)) s

/-- WAITI. -/
def ucWaiti (b : Fin 16) (w : Nat) (s : State) : State :=
  ucLevel b (bit w 7) (weir s.shp[b] (bits w 2 0)) (ucSteps w) s

/-- The off-mask of a CHOP (R255). -/
def chopOff (on : Nat) (fast : Bool) : Nat := if fast then 0 else on % 16

/-- An on-mask without a high-side switch chops nothing (R255). -/
def chops (on : Nat) : Bool := decide (16 ≤ on)

/-- CHOP at its step: the off-mask at or above HI, the on-mask otherwise. -/
def ucChop (b : Fin 16) (w : Nat) (s : State) : State :=
  let x := s.shp[b]
  let hi := weir x (bits w 5 3)
  let lo := weir x (bits w 2 0)
  if ucSteps w = 0 then ucNext b 1 (s.updShp b (fun x => { x with t := true }))
  else
    let on := s.banks[b].mask
    let s := s.updShp b (fun x => { x with t := false, onMask := on, onPhase := true })
    let s := ucWaitFor b (.chop (bit w 7) (bit w 6) hi lo (s.pt + 2 * ucSteps w)) s
    if chops on ∧ hi ≤ senseCode s b then
      setMask b (chopOff on (bit w 6)) (s.updShp b (fun x => { x with onPhase := false }))
    else s

/-- DIPW: arms the detector for N steps; a window already armed is replaced. -/
def ucDipw (b : Fin 16) (w : Nat) (s : State) : State :=
  let n := ucSteps w
  let s := s.updShp b (fun x => { x with d := false, t := if bit w 1 then false else x.t })
  let s := if n = 0 then s else
    s.updShp b (fun x => { x with dipFrom := some s.pt, dipUntil := s.pt + 2 * n, dipLearn := bit w 0,
                                  dipCodes := [], dipRisen := false })
  if bit w 1 then ucWaitFor b (.dip (s.pt + 2 * max n 1)) s else ucNext b 1 s

/-- FASTOFF: mask 0, then "fall to level". -/
def ucFastoff (b : Fin 16) (w : Nat) (s : State) : State :=
  ucLevel b false (weir s.shp[b] (bits w 2 0)) (ucSteps w) (fastDecay b s)

/-- JMP. -/
def ucJmp (b : Fin 16) (w : Nat) (s : State) : State := ucGoto b (ucAddr w) s

/-- JIF: on flag E, D or T, inverted by NEG. A reserved COND finds no flag. -/
def ucJif (b : Fin 16) (w : Nat) (s : State) : State :=
  let x := s.shp[b]
  let f := match bits w 26 24 with | 0 => x.e | 1 => x.d | 2 => x.t | _ => false
  if f != bit w 27 then ucGoto b (ucAddr w) s else ucNext b 1 s

/-- MARK. -/
def ucMark (b : Fin 16) (w : Nat) (s : State) : State :=
  let s := s.setReg (SHPB.base b + 0x20 + 4 * bits w 1 0) (toWord s.ptLo)
  ucNext b 1 (if bit w 4 then shpFlag b 0 s else s)

/-- SHP_WAIT_END: a waiting instruction ends when its condition holds or its time has run out (R253, R255). -/
def ucWaitEnd (b : Fin 16) (s : State) : State :=
  let x := s.shp[b]
  let timeout := ucNext b 0 (s.updShp b (fun x => { x with t := true }))
  if x.running = false ∨ s.ptStands = true then s
  else match x.wait with
    | .none => s
    | .time u => if u ≤ s.pt then ucNext b 0 s else s
    | .level rise lv u =>
      if s.pt < u ∧ levelHolds (senseCode s b) rise lv = true then ucNext b 1 s
      else if u ≤ s.pt then timeout else s
    | .chop untilE _ _ _ u =>
      if untilE ∧ x.e then ucNext b 1 s else if u ≤ s.pt then ucNext b 1 (s.updShp b (fun x => { x with t := true })) else s
    | .dip u => if x.d then ucNext b 1 s else if u ≤ s.pt then timeout else s

/-- A sample that crosses HI or LO switches CHOP between its masks (R255). -/
def chopSample (b : Fin 16) (s : State) : State :=
  let x := s.shp[b]
  match x.wait with
  | .chop _ fast hi lo _ =>
    let c := senseCode s b
    let flip := if x.onPhase then decide (hi ≤ c) else decide (c ≤ lo)
    if x.running ∧ chops x.onMask ∧ flip then
      setMask b (if x.onPhase then chopOff x.onMask fast else x.onMask)
        (s.updShp b (fun x => { x with onPhase := !x.onPhase }))
    else s
  | _ => s

/-- The slope of the newest sample over SPAN samples (R263). -/
def dipSlope (codes : List Nat) (span : Nat) : Option Int :=
  match codes[0]?, codes[span]? with
  | some a, some c => some (Int.ofNat a - Int.ofNat c)
  | _, _ => none

/-- A sample enters an armed window, 40 ns or more after the DIPW (R263). -/
def dipSample (b : Fin 16) (code : Nat) (s : State) : State :=
  let x := s.shp[b]
  match x.dipFrom with
  | some t0 => if t0 + 16 ≤ s.pt - 8 then s.updShp b (fun x => { x with dipCodes := code :: x.dipCodes }) else s
  | none => s

/-- DIP_DETECT (R263): the newest slope of an armed window meets TH after an earlier slope of RISE or more. -/
def dipDetectStep (b : Fin 16) (s : State) : State :=
  let x := s.shp[b]
  let base := SHPB.base b
  match x.dipFrom, dipSlope x.dipCodes (s.cfg base SHPB.DIP_CFG_SPAN), holderAct s b with
  | some _, some sl, some a =>
    if x.dipRisen ∧ sl ≤ signed 8 (s.cfg base SHPB.DIP_CFG_TH) then
      let d := s.pt - 8 - a.effectAt
      let s := noteDelay b x.chan d s
      let learn := x.dipLearn
      (clearDip b s).updShp b (fun x => { x with d := true, held := some (d, learn) })
    else s
  | _, _, _ => s

/-- Before the next sample comes, the newest one's slope may be the rise that later dips need (R263). -/
def dipRise (b : Fin 16) (s : State) : State :=
  let base := SHPB.base b
  match s.shp[b].dipFrom, dipSlope s.shp[b].dipCodes (s.cfg base SHPB.DIP_CFG_SPAN) with
  | some _, some sl =>
    if (s.cfg base SHPB.DIP_CFG_RISE : Int) ≤ sl then s.updShp b (fun x => { x with dipRisen := true }) else s
  | _, _ => s

/-- DIP_WINDOW_CLOSE (R267): step s + N is reached without a dip. -/
def dipCloseStep (b : Fin 16) (s : State) : State :=
  if s.shp[b].dipFrom.isSome ∧ s.shp[b].dipUntil ≤ s.pt then closeDip b s else s

/-- The sense code of a shunt voltage in µV (R219): its magnitude over the full scale SENSE_GAIN chooses, times 4,095, held
at 0xFFF. The spec states no rounding: where the quotient is not whole, the code is one of its two neighbours (log entry 147). -/
def senseOf (gain : Bool) (uv : Int) : Nat :=
  let fs := if gain then 200000 else 100000
  let n := uv.natAbs * 4095
  sat 0xFFF (n / fs + (if n % fs = 0 then 0 else b2n (Config.senseRoundsUp n)))

/-- BANK_SENSE_SAMPLE (R219, R223, R225, R232): a new sample and clamp level reach the bank; the status, the checks, the
detector and CHOP take them. -/
def senseSampleStep (b : Fin 16) (uv : Word) (clamp : Bool) (s : State) : State :=
  let base := BANK.base b
  let c := senseOf (s.on base BANK.CFG_SENSE_GAIN) uv.toInt
  let zeroLvl := s.cfg base BANK.DECAY_CFG_ZERO
  let s := s.wr base BANK.SENSE_I c
  let s := if s.rd base BANK.PEAK_I < c then s.wr base BANK.PEAK_I c else s
  let openLvl := s.cfg base BANK.OPEN_CFG_LVL
  let s := s.updBank b (fun x => { x with
    clamp := clamp, clampSeen := x.clampSeen || clamp,
    decayAt := if c ≤ zeroLvl then none else x.decayAt,
    zeroSeen := x.zeroSeen || (x.ended.isSome && decide (c ≤ zeroLvl)),
    openDone := x.openDone || (x.checkAt.isSome && decide (openLvl < c)) })
  chopSample b (dipDetectStep b (dipSample b c (dipRise b s)))

/-! ## Ends (R257 to R259) -/

/-- The angle position in the direction of travel, within the cycle. -/
def travelPos (astern : Bool) (len a : Nat) : Nat := if astern then len - 1 - a % len else a % len

/-- SPAN of an INJ or VALVE value (R160). -/
def spanOf (a : Act) : Nat := a.value % 2 ^ 16

/-- The instant of a time end: effect + clamp(SPAN * 100 ns, m, M) (R257). -/
def timeEnd (a : Act) : Nat := a.effectAt + max (entMin a.w1) (min (40 * spanOf a) (entMax a.w1))

/-- The end request is due (R230, R257): at the time end; or, set by angle, when the plan engine's end command takes effect,
and never before effect + m. -/
def endDue (s : State) (a : Act) : Bool :=
  if entEndAngle a.w0 then
    decide (a.effectAt + entMin a.w1 ≤ s.pt) && a.endReq.any (fun t => decide (t ≤ s.pt))
  else decide (timeEnd a ≤ s.pt)

/-- The end request reaches the shaper: E sets if a profile is running (R254, R257). -/
def requestEnd (b : Fin 16) (a : Act) (s : State) : State :=
  let s := updAct a.serial (fun a => { a with endReq := some s.pt }) s
  if s.shp[b].running then s.updShp b (fun x => { x with e := true, endReqAt := some s.pt }) else s

/-- END_REQUEST (R257). -/
def endRequestStep (b : Fin 16) (s : State) : State :=
  match holderAct s b with
  | some a => if a.phase = .effect ∧ s.shp[b].endReqAt.isNone ∧ endDue s a then requestEnd b a s else s
  | none => s

/-- MAX_DURATION (R106, R257): no end request has come by effect + M; the drive island sends one. -/
def maxDurationStep (idx : Fin 16384) (s : State) : State :=
  match s.plan.acts.find? (fun a => decide (a.idx = idx.val) && a.isBank && decide (a.phase = .effect)) with
  | some a =>
    let b := Fin.ofNat 16 a.bank
    if a.effectAt + entMax a.w1 ≤ s.pt ∧ s.shp[b].endReqAt.isNone ∧ s.banks[b].holder = some a.serial ∧
        s.shp[b].running = true ∧ endDue s a = false then
      requestEnd b a (anomalyAct 1 a s)
    else s
  | none => s

/-- ACTION_NORMAL_END (R258, R264): END, or effect + m_a if that is later. -/
def normalEndStep (b : Fin 16) (s : State) : State :=
  match holderAct s b, s.shp[b].endAt with
  | some a, some e =>
    let inst := max e (a.effectAt + entMin a.w1)
    if a.phase ≠ .effect ∨ s.pt < inst then s
    else
      let s := filterDelay b s
      let s := applyAct a s
      let s := s.updShp b (fun x => { x with endAt := none, endReqAt := none, held := none })
      restartsWait b (s.updBank b (fun x => { x with
        holder := none, heldExc := a.excused, ended := some (tickAt s inst), zeroSeen := false }))
  | _, _ => s

/-- A restart ends the action before it with its anomaly, and discards its armed window (R239, R263). -/
def restartEnds (b : Fin 16) (a : Act) (s : State) : State :=
  let s := anomalyAct 5 a s
  clearDip b (applyAct ((findAct s a.serial).getD a) s)

/-- The next action takes over at an instant: the checks begin afresh, the restart is counted, its profile runs (R239). -/
def restartRuns (b : Fin 16) (n : Act) (inst : Nat) (s : State) : State :=
  let s := s.updBank b (fun x => { x with restart := x.restart.tail, holder := some n.serial,
                                          checkAt := none, checkFrom := s.tick + 8 })
  let s := updAct n.serial (fun x => { x with phase := .granted, effectAt := inst }) s
  let s := shpFlag b 1 (s.bump (SHPB.base b) SHPB.CNT_RESTARTS)
  startProfile b (Fin.ofNat 4 n.chan) (entProf n.w0) (profBoost (profWord s b.val (entProf n.w0))) true s

/-- PROFILE_RESTART (R239, R261, R262): 20 ns before the restart instant the Levee judges; then the running profile is
abandoned and the new one starts at BOOST. DESIGN CHOICE (log entry 194): a lock that comes while the restart is held does
not stop it; the grant it finds began before (R235). -/
def profileRestartStep (b : Fin 16) (s : State) : State :=
  match s.banks[b].restart.head?.bind (findAct s), holderAct s b with
  | some n, some a =>
    let inst := restartInst n (a.effectAt, entMin a.w1)
    if s.pt + 8 < inst ∨ a.phase ≠ .effect ∨ s.shp[b].running = false ∨ s.ptStands = true then s
    else if leveeAllows s b n = false then
      leveeDrop b n (s.updBank b (fun x => { x with restart := x.restart.tail }))
    else restartRuns b n inst (restartEnds b a s)
  | _, _ => s

/-- TAIL_OVERRUN (R259). -/
def tailOverrunStep (b : Fin 16) (s : State) : State :=
  match s.shp[b].endReqAt with
  | some e =>
    if s.shp[b].running ∧ e + 400 * s.cfg SHP.base SHP.CFG_TAIL_MAX ≤ s.pt then
      shpFlag b 2 ((truncateBank b s).bump (SHPB.base b) SHPB.CNT_TAILOVR)
    else s
  | none => s

/-! ## Start trims (R265) -/

/-- The trim a channel's filtered delay gives at a snapshot. -/
def trimOf (s : State) (b : Fin 16) (k : Fin 4) (trev : Nat) : Int :=
  let base := SHPC.base b k
  if s.on base SHPC.DCFG_EN = false ∨ s.flag base SHPC.DFILT_VALID = false ∨ trev = 0 then 0
  else
    let delta : Int := (s.rd base SHPC.DFILT_FILT : Int) - 256 * s.cfg base SHPC.DCFG_NOM
    let num := delta.natAbs * revAu
    let mag : Int := divRound num (256 * trev)
    let x := if delta < 0 then -mag else mag
    clampI (-32768) 32767 (if (ctl s).astern then x else -x)

/-- All 64 channels. -/
def allChannels : List (Fin 16 × Fin 4) :=
  (List.finRange 16).flatMap (fun b => (List.finRange 4).map (fun k => (b, k)))

/-- The snapshot of R265: every channel's inactive trim, finished 64 ticks after the update tick. -/
def snapshotTrims (trev : Nat) (s : State) : State :=
  let l := allChannels.foldl (fun t bk => tset t (4 * bk.1.val + bk.2.val) (trimOf s bk.1 bk.2 trev) 0) []
  { s.wr SHP.base SHP.TRIM_REV_TICKS (sat (2 ^ 32 - 1) trev) with
    trims := { inactive := l, doneAt := some (s.pt + 64), revDone := true } }

/-- Every active and inactive trim becomes 0 (R264, R265). -/
def clearTrims (s : State) : State :=
  let s := foldS allChannels (fun bk s => s.wr (SHPC.base bk.1 bk.2) SHPC.DTRIM_TRIM 0) s
  { s with trims := initTrims }

/-- Delay filters clear, with every trim (R264). -/
def clearDelays (s : State) : State :=
  clearTrims (foldS allChannels (fun bk s => s.setReg (SHPC.base bk.1 bk.2 + 4) 0) s)

/-- The cycle boundary makes a finished inactive set active; an unfinished or missing one is skipped (R34, R265). -/
def swapTrims (s : State) : State :=
  match s.trims.doneAt with
  | some t =>
    if t ≤ s.pt then
      let s := foldS allChannels (fun bk s =>
        s.wr (SHPC.base bk.1 bk.2) SHPC.DTRIM_TRIM (unsigned 16 (tget s.trims.inactive (4 * bk.1.val + bk.2.val) 0))) s
      let s := s.bumpWrap SHP.base SHP.TRIM_STAT_SWAPS
      { s with trims := { s.trims with doneAt := none, revDone := false } }
    else
      let s := (s.bump SHP.base SHP.TRIM_STAT_SKIPS).err 0x20
      { s with trims := { s.trims with doneAt := none, revDone := false } }
  | none =>
    let s := s.bump SHP.base SHP.TRIM_STAT_SKIPS
    { s with trims := { s.trims with revDone := false } }

/-! ## Commands -/

/-- PROFILE_START. -/
def execProfileStart (b : Fin 16) (s : State) : Host.Outcome State Fault Refusal := .next (profileStartStep b s)
/-- PROFILE_RESTART. -/
def execProfileRestart (b : Fin 16) (s : State) : Host.Outcome State Fault Refusal := .next (profileRestartStep b s)
/-- SHP_END. -/
def execShpEnd (b : Fin 16) (s : State) : Host.Outcome State Fault Refusal := .next (ucExec b 0 (ucEnd b) s)
/-- SETSW. -/
def execSetsw (b : Fin 16) (s : State) : Host.Outcome State Fault Refusal := .next (ucExec b 1 (ucSetsw b) s)
/-- SHP_WAITT. -/
def execShpWaitt (b : Fin 16) (s : State) : Host.Outcome State Fault Refusal := .next (ucExec b 2 (ucWaitt b) s)
/-- WAITI. -/
def execWaiti (b : Fin 16) (s : State) : Host.Outcome State Fault Refusal := .next (ucExec b 3 (ucWaiti b) s)
/-- CHOP. -/
def execChop (b : Fin 16) (s : State) : Host.Outcome State Fault Refusal := .next (ucExec b 4 (ucChop b) s)
/-- DIPW. -/
def execDipw (b : Fin 16) (s : State) : Host.Outcome State Fault Refusal := .next (ucExec b 5 (ucDipw b) s)
/-- FASTOFF. -/
def execFastoff (b : Fin 16) (s : State) : Host.Outcome State Fault Refusal := .next (ucExec b 6 (ucFastoff b) s)
/-- SHP_JMP. -/
def execShpJmp (b : Fin 16) (s : State) : Host.Outcome State Fault Refusal := .next (ucExec b 7 (ucJmp b) s)
/-- JIF. -/
def execJif (b : Fin 16) (s : State) : Host.Outcome State Fault Refusal := .next (ucExec b 8 (ucJif b) s)
/-- SHP_MARK. -/
def execShpMark (b : Fin 16) (s : State) : Host.Outcome State Fault Refusal := .next (ucExec b 9 (ucMark b) s)
/-- SHP_WAIT_END. -/
def execShpWaitEnd (b : Fin 16) (s : State) : Host.Outcome State Fault Refusal := .next (ucWaitEnd b s)
/-- END_REQUEST. -/
def execEndRequest (b : Fin 16) (s : State) : Host.Outcome State Fault Refusal := .next (endRequestStep b s)
/-- ACTION_NORMAL_END. -/
def execActionNormalEnd (b : Fin 16) (s : State) : Host.Outcome State Fault Refusal := .next (normalEndStep b s)
/-- TAIL_OVERRUN. -/
def execTailOverrun (b : Fin 16) (s : State) : Host.Outcome State Fault Refusal := .next (tailOverrunStep b s)
/-- DIP_DETECT. -/
def execDipDetect (b : Fin 16) (s : State) : Host.Outcome State Fault Refusal := .next (dipDetectStep b s)
/-- DIP_WINDOW_CLOSE. -/
def execDipWindowClose (b : Fin 16) (s : State) : Host.Outcome State Fault Refusal := .next (dipCloseStep b s)
/-- MAX_DURATION. -/
def execMaxDuration (idx : Fin 16384) (s : State) : Host.Outcome State Fault Refusal := .next (maxDurationStep idx s)
/-- BANK_SENSE_SAMPLE. -/
def execBankSenseSample (b : Fin 16) (uv : Word) (clamp : Bool) (s : State) : Host.Outcome State Fault Refusal :=
  .next (senseSampleStep b uv clamp s)

end Sys2Proof.Machine
end

