-- ==== Sys2Proof/Machine/Timers.lean ====
section
/-! DEFINITION. The timers, their TIO balls and captures (chapter 12, R321 to R334). Times are PT ticks. -/

namespace Sys2Proof.Machine

/-- Timer n's page block. -/
def tm (n : Fin 16) : Nat := TMN.base n

/-- Timer n runs (TMR.RUN). -/
def tmrRun (s : State) (n : Fin 16) : Bool := bit (s.rd TMR.base TMR.RUN) n.val

/-- A flag of timer n sets; source 176 + n if its FLAG_EN bit is 1 and it changes (R334, R524). -/
def tmrFlag (n : Fin 16) (f : Fld) (s : State) : State :=
  if s.flag (tm n) f then s
  else (s.wr (tm n) f 1).raiseIf (bit (s.rd (tm n) TMN.FLAG_EN_EN) f.lo) (176 + n.val)

/-! ## TIO balls (R327, R328) -/

/-- The level of TIOn's ball: the register while TIO_OE is 1, else what was last seen there. -/
def tioLevel (s : State) (n : Fin 16) : Bool := if s.on (tm n) TMN.CFG_TIO_OE then s.tmr[n].tio else bit s.tioIn n.val

/-- A timer takes the level of TIOn's ball, so that its changes are reported. -/
def tioKnown (s : State) (n : Fin 16) : Bool :=
  (List.finRange 16).any (fun m => s.cfg (tm m) TMN.CFG_TSRC == 0x70 + n.val ||
    (s.cfg (tm m) TMN.CAP_CFG_CSRC == 0x70 + n.val && s.cfg (tm m) TMN.CAP_CFG_EDGE != 0))

/-- The level STAT.TIO shows (R332): of an input that no timer takes it is free (log entry 181). -/
def tioShown (s : State) (n : Fin 16) : Bool :=
  if s.on (tm n) TMN.CFG_TIO_OE = true ∨ tioKnown s n = true then tioLevel s n else Config.tioUnseen s.tick n.val

/-- An action on a TIO register: 1 low, 2 high, 3 toggle; discarded while the spillway hold lasts (R327, R328). -/
def tioAct (n : Fin 16) (op : Nat) (s : State) : State :=
  let x := s.tmr[n]
  if op = 0 ∨ (x.held = true ∧ s.on (tm n) TMN.CFG_TIO_OE = true) then s
  else
    let v := if op = 1 then false else if op = 2 then true else !x.tio
    let t := s.updTmr n (fun x => { x with tio := v })
    if tioLevel t n = tioLevel s n then t else t.fire (0x70 + n.val)

/-- A spillway end sets every driven TIO to IDLE and holds it (R328). -/
def spillTio (s : State) : State :=
  foldS (List.finRange 16) (fun n s =>
    if s.on (tm n) TMN.CFG_TIO_OE then
      let idle := s.on (tm n) TMN.CFG_IDLE
      let moved := decide (s.tmr[n].tio ≠ idle)
      let s := s.updTmr n (fun x => { x with tio := idle, held := true })
      if moved then s.fire (0x70 + n.val) else s
    else s) s

/-- The holds are released: the next epoch opens, or the re-arm leaves SPILLED (R328). -/
def releaseTio (s : State) : State :=
  foldS (List.finRange 16) (fun n s => s.updTmr n (fun x => { x with held := false })) s

/-! ## Compare writes (R323, R324) -/

/-- The match event: FLAGS.MATCH, the trigger, the converter trigger, the TIO action. -/
def matchEvent (n : Fin 16) (s : State) : State :=
  let s := (tmrFlag n TMN.FLAGS_MATCH s).fire (0x20 + n.val)
  let s := if s.on (tm n) TMN.CFG_CT_EN ∧ s.on (tm n) TMN.CFG_CT_SEL then s.fireConv (0x10 + n.val) else s
  tioAct n (s.cfg (tm n) TMN.CFG_MACT) s

/-- The zero event. -/
def zeroEvent (n : Fin 16) (s : State) : State :=
  let s := s.updTmr n (fun x => { x with zeroSeen := true })
  let s := (tmrFlag n TMN.FLAGS_ZERO s).fire (0x10 + n.val)
  let s := if s.on (tm n) TMN.CFG_CT_EN ∧ s.on (tm n) TMN.CFG_CT_SEL = false then s.fireConv (0x10 + n.val) else s
  tioAct n (s.cfg (tm n) TMN.CFG_ZACT) s

/-- A CMP write becomes active, matching at once with LATE if it lies in its window (R324). -/
def cmpTake (n : Fin 16) (c : CmpPend) (s : State) : State :=
  let s := s.updTmr n (fun x => { x with cmp := c.value })
  if c.window.contains c.value then matchEvent n (tmrFlag n TMN.FLAGS_LATE s) else s

/-- Every written CMP becomes active in its tick s + 3, in the order of the writes (R324). -/
def cmpActivate (n : Fin 16) (s : State) : State :=
  let due := s.tmr[n].cmpPend.filter (fun c => decide (c.at_ + 3 ≤ s.pt))
  let s := s.updTmr n (fun x => { x with cmpPend := x.cmpPend.filter (fun c => decide (s.pt < c.at_ + 3)) })
  foldS due (cmpTake n) s

/-- A count step joins the LATE window of a CMP write on its way (R324). -/
def windowStep (pt : Nat) (last : List Nat) (count : Nat) (c : CmpPend) : CmpPend :=
  if pt ≤ c.at_ then { c with window := last } else { c with window := c.window ++ [count] }

/-! ## Counting (R321 to R323, R326) -/

/-- The timer stops: its RUN bit clears (R322), and shadows that wait for its next count step act at once (R333). -/
def stopTimer (n : Fin 16) (s : State) : State :=
  let v := s.rd TMR.base TMR.RUN
  let free := fun (c : CommitPend) => if c.when_ = .countStep n then { c with when_ := .tick } else c
  { s with committed := s.committed.map free }.wr TMR.base TMR.RUN (v - (v &&& 2 ^ n.val))

/-- The trigger level of a gated timer, after TINV. -/
def gateLevel (s : State) (n : Fin 16) : Bool := s.tmr[n].level != s.on (tm n) TMN.CFG_TINV

/-- A gated timer's prescaler holds its phase while the level is 0 (R326). -/
def gateChange (n : Fin 16) (s : State) : State :=
  let x := s.tmr[n]
  if gateLevel s n then
    match x.left with
    | some d => s.updTmr n (fun x => { x with due := s.pt + d, left := none })
    | none => s
  else if x.left.isNone then s.updTmr n (fun x => { x with left := some (x.due - s.pt) }) else s

/-- The level of a trigger source of R325 as it stands; an event source has none. -/
def sourceLevel (s : State) (src : Nat) : Option Bool :=
  if 0x60 ≤ src ∧ src < 0x70 then some (bit s.gates (src - 0x60))
  else if 0x70 ≤ src ∧ src < 0x80 then some (tioLevel s (Fin.ofNat 16 (src - 0x70)))
  else none

/-- CFG of a timer has begun to act: the level of its source counts from now on, and a gate that is closed holds the
prescaler's phase (R326). -/
def gateActs (n : Fin 16) (s : State) : State :=
  let s := match sourceLevel s (s.cfg (tm n) TMN.CFG_TSRC) with
    | some v => s.updTmr n (fun x => { x with level := v })
    | none => s
  if s.cfg (tm n) TMN.CFG_SMODE = 1 then gateChange n s
  else match s.tmr[n].left with
    | some d => s.updTmr n (fun x => { x with due := s.pt + d, left := none })
    | none => s

/-- The ball of a TIO whose CFG acts has moved, where it was at another level before (R325, R327). -/
def tioMoved (n : Fin 16) (before : Bool) (s : State) : State :=
  if tioLevel s n = before then s else s.fire (0x70 + n.val)

/-- What a count step does to the count: it decrements or reloads, and matches and zero events follow. -/
def stepCount (n : Fin 16) (s : State) : State :=
  let s := cmpActivate n s
  let x := s.tmr[n]
  let isReload := x.reload || decide (x.count = 0)
  let r := s.rd (tm n) TMN.RELOAD
  let due := s.pt + s.cfg (tm n) TMN.CFG_PRE + 1
  if isReload ∧ (r = 0 ∨ (s.on (tm n) TMN.CFG_ONESHOT = true ∧ x.zeroSeen = true)) then
    stopTimer n (s.updTmr n (fun x => { x with count := 0, reload := false }))
  else
    let c := if isReload then r else x.count - 1
    let last := (c :: x.lastTwo).take 2
    let s := s.updTmr n (fun x => { x with
      count := c, reload := false, due := due, lastTwo := last
      cmpPend := x.cmpPend.map (windowStep s.pt last c) })
    let s := if c = s.tmr[n].cmp then matchEvent n s else s
    if isReload = false ∧ c = 0 then zeroEvent n s else s

/-- A count step is taken: shadows that wait for it act, then the count moves (R321, R333). -/
def takeStep (n : Fin 16) (s : State) : State :=
  let cfg := s.committed.any (fun c => c.when_ == .countStep n && decide (c.addr = tm n))
  let before := tioLevel s n
  let s := tioMoved n before (s.actWhere (fun c => c.when_ == .countStep n))
  let s := stepCount n s
  if cfg then gateActs n s else s

/-- TIMER_COUNT_STEP: in FREE, GATE, RESET and START modes a step falls due every PRE + 1 ticks; a gated timer steps
only while its level is 1. In CLOCK mode the trigger steps the timer. -/
def countStepStep (n : Fin 16) (s : State) : State :=
  let mode := s.cfg (tm n) TMN.CFG_SMODE
  if tmrRun s n = false ∨ s.ptStands = true ∨ s.pt < s.tmr[n].due ∨ mode = 3 ∨ (mode = 1 ∧ gateLevel s n = false) then s
  else takeStep n s

/-- A timer starts: its first count step is a reload step (R322). -/
def startTimer (n : Fin 16) (s : State) : State :=
  let d := s.cfg (tm n) TMN.CFG_PRE + 1
  let v := s.rd TMR.base TMR.RUN
  let s := s.wr TMR.base TMR.RUN (v ||| 2 ^ n.val)
  let closed := decide (s.cfg (tm n) TMN.CFG_SMODE = 1) && !gateLevel s n
  s.updTmr n (fun x => { x with reload := true, zeroSeen := false, due := s.pt + d, left := if closed then some d else none })

/-- TMR_RUN_WRITE (R322). -/
def tmrRunStep (v : Word) (s : State) : State :=
  let old := s.rd TMR.base TMR.RUN
  foldS (List.finRange 16) (fun n s =>
    if bit v.toNat n.val ∧ bit old n.val = false then startTimer n s
    else if bit v.toNat n.val = false ∧ bit old n.val then stopTimer n s
    else s) s

/-- CMP_WRITE: the value reaches the timer and will act three ticks later (R324). -/
def cmpWriteStep (n : Fin 16) (v : Word) (s : State) : State :=
  let s := s.wr (tm n) TMN.CMP v.toNat
  s.updTmr n (fun x => { x with cmpPend := x.cmpPend ++ [⟨v.toNat, s.pt, x.lastTwo⟩] })

/-- A trigger source code of R325 is a level. -/
def isLevelSource (c : Nat) : Bool := decide (0x60 ≤ c) && decide (c < 0x80)

/-- The level of a TIO source is what its ball shows. -/
def noteTio (src : Nat) (level : Bool) (s : State) : State :=
  if 0x70 ≤ src ∧ src < 0x80 then
    let b := 2 ^ (src - 0x70)
    let off := s.tioIn - (s.tioIn &&& b)
    { s with tioIn := if level then off + b else off }
  else s

/-- TIMER_TRIGGER (R325, R326): the trigger source's event or level reaches the timer. -/
def timerTriggerStep (n : Fin 16) (level : Bool) (s : State) : State :=
  let src := s.cfg (tm n) TMN.CFG_TSRC
  let mode := s.cfg (tm n) TMN.CFG_SMODE
  if src = 0 ∨ s.ptStands = true ∨ s.clockOff 0x48 = true then s
  else
    let before := gateLevel s n
    let s := noteTio src level (s.takeTrig (16 + n.val))
    let s := s.updTmr n (fun x => { x with level := level })
    let event := !isLevelSource src || (gateLevel s n && !before)
    if mode = 1 then gateChange n s
    else if event = false then s
    else if mode = 2 ∧ tmrRun s n then s.updTmr n (fun x => { x with reload := true, due := s.pt + 1 })
    else if mode = 3 ∧ tmrRun s n then takeStep n s
    else if mode = 4 ∧ tmrRun s n = false then startTimer n s
    else s

/-- TMR_SOFT: the software source of the named timers, arriving in the next tick (R325). -/
def tmrSoftStep (v : Word) (s : State) : State :=
  foldS (List.finRange 16) (fun n s =>
    if bit v.toNat n.val then
      let s := if s.cfg (tm n) TMN.CFG_TSRC = 0x80 then s.sendTrig (16 + n.val) 1 else s
      if s.cfg (tm n) TMN.CAP_CFG_CSRC = 0x80 ∧ s.cfg (tm n) TMN.CAP_CFG_EDGE ≠ 0 then s.sendTrig (32 + n.val) 1 else s
    else s) s

/-! ## Capture (R330, R331) -/

/-- The CAP_ANG word of a capture as the device stands: the controlling tracker's presented angle, its direction, the
epoch. -/
def capNow (s : State) : Word :=
  let x := ctl s
  toWord (2 ^ 31 + b2n s.dev.epochOpen * 2 ^ 30 + b2n x.astern * 2 ^ 29 + s.dev.epoch % 4 * 2 ^ 26 + presented x)

/-- The CAP_ANG word of a capture a number of ticks ago. -/
def capAngle (s : State) (ago : Nat) : Word :=
  if ago = 0 then capNow s else s.dev.capPast.getD (ago - 1) (capNow s)

/-- A tick of PT ends: its CAP_ANG word is kept for captures that are stamped with it (R330). -/
def capKeep (s : State) : State := s.updDev (fun d => { d with capPast := (capNow s :: d.capPast).take 2 })

/-- CAP_CFG.EDGE selects an edge that ends at a level; event sources capture with any (R330). -/
def edgeTaken (src edge : Nat) (level : Bool) : Bool :=
  !isLevelSource src || (if level then bit edge 0 else bit edge 1)

/-- TIMER_CAPTURE: an event of the capture source; `level`: the level a level source has taken. A selected one enters the queue,
or is lost if it is full. -/
def timerCaptureStep (n : Fin 16) (level : Bool) (s : State) : State :=
  let src := s.cfg (tm n) TMN.CAP_CFG_CSRC
  let edge := s.cfg (tm n) TMN.CAP_CFG_EDGE
  if src = 0 ∨ edge = 0 ∨ s.ptStands = true ∨ s.clockOff 0x48 = true then s
  else
    let ball := decide (0x70 ≤ src) && decide (src < 0x80)
    let s := noteTio src level (s.takeTrig (32 + n.val))
    let ago := if ball then min 2 s.pt else 0
    if edgeTaken src edge level = false then s
    else if 4 ≤ s.tmr[n].queue.length then tmrFlag n TMN.FLAGS_OVERRUN (s.bump (tm n) TMN.CAP_STAT_OVERRUN)
    else
      let c : Capture := ⟨(s.pt - ago) % 2 ^ 32, capAngle s ago, s.tmr[n].count⟩
      tmrFlag n TMN.FLAGS_CAP (s.updTmr n (fun x => { x with queue := x.queue ++ [c] }))

/-- CAP_PT_READ: the head entry is popped; CAP_ANG and CAP_CNT show it (R331). -/
def capPtReadStep (n : Fin 16) (s : State) : State :=
  match s.tmr[n].queue with
  | [] => ((s.setReg (tm n + 0x18) 0).setReg (tm n + 0x1C) 0).respond 0
  | c :: rest =>
    let s := s.updTmr n (fun x => { x with queue := rest })
    ((s.setReg (tm n + 0x18) c.angle).setReg (tm n + 0x1C) (toWord c.count)).respond (toWord c.pt)

/-! ## Commands -/

/-- TMR_RUN_WRITE. -/
def execTmrRunWrite (v : Word) (s : State) : Host.Outcome State Fault Refusal := .next (s.clocked 0x48 (tmrRunStep v))
/-- TIMER_COUNT_STEP. -/
def execTimerCountStep (n : Fin 16) (s : State) : Host.Outcome State Fault Refusal := .next (countStepStep n s)
/-- CMP_WRITE. -/
def execCmpWrite (n : Fin 16) (v : Word) (s : State) : Host.Outcome State Fault Refusal :=
  .next (s.clocked 0x48 (cmpWriteStep n v))
/-- CMP_ACTIVE. -/
def execCmpActive (n : Fin 16) (s : State) : Host.Outcome State Fault Refusal :=
  .next (if s.ptStands = true ∨ s.clockOff 0x48 = true then s else cmpActivate n s)
/-- TIMER_TRIGGER. -/
def execTimerTrigger (n : Fin 16) (level : Bool) (s : State) : Host.Outcome State Fault Refusal :=
  .next (timerTriggerStep n level s)
/-- TMR_SOFT. -/
def execTmrSoft (v : Word) (s : State) : Host.Outcome State Fault Refusal := .next (s.clocked 0x48 (tmrSoftStep v))
/-- TIMER_CAPTURE. -/
def execTimerCapture (e : CapEdge) (s : State) : Host.Outcome State Fault Refusal := .next (timerCaptureStep e.timer e.level s)
/-- CAP_PT_READ. -/
def execCapPtRead (n : Fin 16) (s : State) : Host.Outcome State Fault Refusal :=
  .next (if s.clockOff 0x48 then s.respond 0 else capPtReadStep n s)

end Sys2Proof.Machine
end

