-- ==== Sys2Proof/Machine/Spillway.lean ====
section
/-! DEFINITION. Committed shadows that act (R486), the spillway states (R111), the end of an epoch (R64), disarm (R182)
and the entry into SPILLED (R29). -/

namespace Sys2Proof.Machine

/-! ## Committed shadows act -/

/-- MODE of a wheel acts: its front end starts afresh, DCLASS reads none and the trackers that use it as their crank wheel
have seen no class (R48, R62, R70). DESIGN CHOICE (log entry 201): no high time and no period spans it, so that the next
edge is taken as the first one after reset is (R45). -/
def wheelModeActs (w : Fin 4) (s : State) : State :=
  let s := foldS [0, 1] (fun (t : Fin 2) s =>
    if s.cfg (TRK.base t) TRK.CFG_CRANK = w.val then s.updTrk t (fun x => { x with sense := none }) else s) s
  (s.wr (WHN.base w) WHN.CLASS_DCLASS 0).updWheel w (fun x =>
    { x with armed := false, pulse := none, trailingFlank := false, taken := true, high := none, seen := false })

/-- A changed NOM or K of a DCFG clears the channel's delay filter and its trim (R264, R270). -/
def dcfgActs (b : Fin 16) (k : Fin 4) (old new : Word) (s : State) : State :=
  if SHPC.DCFG_NOM.of old = SHPC.DCFG_NOM.of new ∧ SHPC.DCFG_K.of old = SHPC.DCFG_K.of new then s
  else
    let s := (s.setReg (SHPC.base b k + 4) 0).wr (SHPC.base b k) SHPC.DTRIM_TRIM 0
    { s with trims := { s.trims with inactive := tset s.trims.inactive (4 * b.val + k.val) 0 0 } }

/-- What else happens when a committed register acts, by its address. -/
def commitEffect (a : Nat) (old new : Word) (s : State) : State :=
  if a = LEV.base + 0x40 then (if LEV.CFG_WINDOW.of old = LEV.CFG_WINDOW.of new then s else leveeRestart s)
  else if a = LINK.base + 0x40 then
    if LINK.CFG_SRC_MAIN.of old = LINK.CFG_SRC_MAIN.of new then s
    else s.wr LINK.base LINK.STAT_ACTIVE_SRC (LINK.CFG_SRC_MAIN.of new)
  else if 0x404100 ≤ a ∧ a < 0x404300 ∧ (a - 0x404100) % 0x80 = 0 then
    if old = new then s else wheelModeActs (Fin.ofNat 4 ((a - 0x404100) / 0x80)) s
  else if 0x404100 ≤ a ∧ a < 0x404300 then
    -- VR_CFG, HALL_CFG, DIR_CFG, WCLS: edges stamped before keep the old values (R48)
    keepWheelWord (Fin.ofNat 4 ((a - 0x404100) / 0x80)) ((a - 0x404100) % 0x80) old s
  else if 0x420100 ≤ a ∧ a < 0x420900 then
    match allChannels.find? (fun bk => SHPC.base bk.1 bk.2 == a) with
    | some bk => dcfgActs bk.1 bk.2 old new s
    | none => s
  else if a = PWM.base + 0x48 ∨ (0x440100 ≤ a ∧ a < 0x440900 ∧ (a - 0x440100) % 0x80 = 0x34) then
    -- TRIP_POL or TRIP_CFG: a mapped input that is active now trips (R310, R318)
    foldS allGens judgeTrip s
  else if a = TRK.base 0 + 0x108 ∨ a = TRK.base 1 + 0x108 then
    -- IFAULT_MASK: a bit that stands and is now enabled spoils the cycle and the revolution (R82, R84, R89)
    let t : Fin 2 := if a = TRK.base 0 + 0x108 then 0 else 1
    if hasIfault s t then s.updTrk t Tracker.spoil else s
  else if 0x448100 ≤ a ∧ a < 0x448500 ∧ (a - 0x448100) % 0x40 = 0 then
    -- CFG of a timer: its gate and its ball (R326, R327)
    let n := Fin.ofNat 16 ((a - 0x448100) / 0x40)
    let before := if TMN.CFG_TIO_OE.of old = 1 then s.tmr[n].tio else bit s.tioIn n.val
    gateActs n (tioMoved n before s)
  else if 0x440100 ≤ a ∧ a < 0x440900 ∧ (a - 0x440100) % 0x80 = 0 then
    -- CFG: an output held at its safe level takes the new one (R312, R318)
    settleSafe (Fin.ofNat 16 ((a - 0x440100) / 0x80)) s
  else s

/-- The committed shadows a test picks act, all at once, with all that follows from it (R486). -/
def actCommitted (p : CommitPend → Bool) (s : State) : State :=
  let mine := (s.committed.filter p).map (fun c => (c.addr, s.actReg c.addr, c.acts (s.actReg c.addr)))
  let s := s.actWhere p
  let s := foldS mine (fun c s => commitEffect c.1 c.2.1 c.2.2 s) s
  if mine.any (fun c => decide (0x458400 ≤ c.1) && decide (c.1 < 0x458800)) then catchRetest s else s

/-- A shadow that waits for a cycle boundary. -/
def CommitPend.onBoundary (c : CommitPend) : Bool :=
  match c.when_ with
  | .boundary | .trkBoundary _ => true
  | _ => false

/-! ## Spillway states (R111) -/

/-- A window gate opens or closes, and is a trigger source of the timers (R160, R325). -/
def setGate (m : Nat) (v : Bool) (s : State) : State :=
  if bit s.gates m = v then s
  else { s with gates := if v then s.gates + 2 ^ m else s.gates - 2 ^ m }.fire (0x60 + m)

/-- A WINDOW action takes effect (R160): its gate opens or closes, and a measurement begun afresh is not incomplete. -/
def windowAct (m : Nat) (v : Bool) (s : State) : State :=
  setGate m v { s with gatesCut := if bit s.gatesCut m then s.gatesCut - 2 ^ m else s.gatesCut }

/-- Every subsystem goes to its spillway state; `untilArm`: the outputs are held until the re-arm (R111, R313). The measurement
of an open window is marked incomplete until the next WINDOW action on its gate (DEDUCED, log entry 148). -/
def spillOutputs (untilArm : Bool) (s : State) : State :=
  let s := foldS (List.finRange 16) spillBank s
  let s := spillTio (spillPwm untilArm s)
  let s := foldS (List.finRange 4) spillConv s
  foldS (List.range 16) (fun m s => setGate m false s) { s with gatesCut := s.gatesCut ||| s.gates }

/-- Every action in flight ends TRUNCATED at the device angle (R110, R113); a normal end that falls in the same tick stands
(R213), and a SAMPLE's claim in the same converter clock samples nothing (R299). -/
def truncateAll (s : State) : State :=
  let s := foldS (List.finRange 16) (fun b s => dropPromise b (normalEndStep b s)) (spillSamples s)
  truncateWhere (fun _ => true) (devAngle s) s

/-- A stall or an expected reversal ends actions only: the banks and the SAMPLE scans that carry them (R113, R118). -/
def endActions (s : State) : State :=
  let s := truncateAll s
  foldS (List.finRange 4) spillConv (foldS (List.finRange 16) spillBank s)

/-! ## Trackers leave SYNC -/

/-- The tracker's angle, PT and cause at a loss of sync (R110, R122). -/
def recordLoss (t : Fin 2) (cause : Nat) (s : State) : State :=
  let b := TRK.base t
  let s := (s.wr b TRK.LOSS_ANGLE_VALID 1).wr b TRK.LOSS_ANGLE_ANGLE (presented s.trk[t])
  (s.wr b TRK.LOSS_PT_PT s.ptLo).wr b TRK.MOTION_STAT_LOSS cause

/-- A tracker without a position: it keeps its last edges, its calibrations and its history (R54, R56). -/
def Tracker.restart (x : Tracker) (q : Acq) : Tracker :=
  { x with
    acq := q
    run := 0
    spurRun := 0
    cands := []
    stateEdges := 0
    tries := 0
    stalled := false
    verify := false
    undo := none
    atHorizon := false
    row := []
    rowClean := false
    revStamps := []
    revOk := false
    revPrev := none }

/-- A tracker that has forgotten its period history too: WAIT and OFF (R54, R56). -/
def Tracker.forget (x : Tracker) (q : Acq) : Tracker :=
  { x.restart q with
    nEdges := 0
    spurRun := 0
    stamps := []
    classes := []
    held := none
    astern := false }

/-- A tracker leaves SYNC with a cause: source 34 or 42 (R56, R70, R110). -/
def leaveSync (t : Fin 2) (cause : Nat) (q : Acq) (s : State) : State :=
  if s.trk[t].acq = .sync then
    let s := (recordLoss t cause s).raise (34 + 8 * t.val)
    s.updTrk t (fun x => if q = .steady then x.restart .steady else x.forget q)
  else s

/-- Both trackers go to OFF: disarm, warm reset or SPILLED (R56). -/
def trackersOff (s : State) : State :=
  foldS [0, 1] (fun (t : Fin 2) s =>
    (leaveSync t 9 .off s).updTrk t (fun x => { x.forget .off with edges := [] })) s

/-! ## The end of an epoch (R64, R95, R110) -/

/-- A tracker that cannot control: an enabled internal fault, or off (R95). -/
def unfitControl (s : State) (t : Fin 2) : Bool := hasIfault s t || decide (teeth s t = 0)

/-- Control passes to the other tracker if only the controlling one is unfit (R95). -/
def judgeControl (s : State) : State :=
  let c := s.dev.control
  if unfitControl s c && !unfitControl s (otherTrk c) then s.updDev (fun d => { d with control := otherTrk c }) else s

/-- The epoch closes (R64, R110, R198): pending orders end EXPIRED with a reason, the marker names the cause, WAITA
of the cores ends (R358), unfinished signature sums are discarded (R85), shadows waiting for a boundary act (R69), unissued
actions are gone. -/
def closeEpoch (cause reason : Nat) (s : State) : State :=
  if s.dev.epochOpen then
    let s := expireOrders reason s
    let s := jrnClosed cause (if reason = 6 then 0 else devAngle s) s
    let s := foldS [0, 1] (fun (t : Fin 2) s => s.updTrk t (fun x => { x with sigSums := [], sigRevs := 0 })) s
    let s := coresEpochClose (s.updDev (fun d => { d with epochOpen := false, hold := none, handing := false, step := none }))
    actCommitted CommitPend.onBoundary s
  else s

/-! ## Disarm and SPILLED -/

/-- The disarm of R29 and R182: spillway end, actions TRUNCATED, orders EXPIRED, epoch closed, LOADED. TASKs released before
still run (R111). -/
def disarmNow (s : State) : State :=
  let s := truncateAll s
  let s := spillOutputs false s
  let s := closeEpoch 9 5 s
  let s := trackersOff s
  let s := s.wr PLAN.base PLAN.CMD_DISARM 0
  actCommitted (fun c => c.when_ == .disarm) (s.enter .loaded)

/-- A disarm held since STALLED acts in the tick in which the device leaves STALLED (R182). -/
def pendingDisarm (s : State) : State :=
  if s.flag PLAN.base PLAN.CMD_DISARM ∧ s.dev.st ≠ .stalled then
    match s.dev.st with
    | .armed | .syncing | .running | .governed => disarmNow s
    | _ => (s.wr PLAN.base PLAN.CMD_DISARM 0).err 0x05
  else s

/-- A cause that spillway-ends every output, whatever the state; an armed device enters SPILLED (R29, R110, R111,
R478), and an edge of this tick is judged first (R30). `cause` is its bit in `spillCause`; after a thermal shutdown or a heartbeat loss the outputs are held until the
re-arm (R313, R478). -/
def spillDevice (cause : Nat) (s : State) : State :=
  let s := if s.isArmed then dueEnvelope s else s
  let s := spillOutputs (decide (cause = 0) || decide (cause = 2)) (truncateAll s)
  let s := s.updPlan (fun p => { p with spillCause := p.spillCause ||| 2 ^ cause })
  if s.isArmed then pendingDisarm ((trackersOff (closeEpoch 9 4 s)).enter .spilled) else s

/-- The cause of SPILLED has cleared (R29). -/
def spillCleared (cause : Nat) (s : State) : State :=
  s.updPlan (fun p => { p with spillCause := if bit p.spillCause cause then p.spillCause - 2 ^ cause else p.spillCause })

/-- A tracker's island has a fault of its PT counter: PT_CHECK or PT_MISMATCH (R89). -/
def ptFault (s : State) (t : Fin 2) : Bool :=
  bit s.sys.ptFailed (2 + t.val) || (s.reg (TRK.base t + 0x104) &&& 5 != 0)

/-- A tracker island is held in reset: it tracks nothing. Whether a fault of its PT counter has led here decides what its
release reloads (R467, R468). -/
def holdTracker (t : Fin 2) (s : State) : State :=
  let s := if ptFault s t then s.updSys (fun y => { y with ptFailed := y.ptFailed ||| 2 ^ t.val }) else s
  s.updTrk t (fun x => { x with acq := .off })

/-- A tracker island held in reset, and that of the other tracker where it has a fault too (R467). -/
def holdTrackers (t : Fin 2) (s : State) : State :=
  let both := hasIfault s (otherTrk t)
  let s := holdTracker t s
  if both then holdTracker (otherTrk t) s else s

/-- An island fault (R467): RST_CAUSE records it; an armed device enters SPILLED; source 3. The island `rst`, if any, is
held in reset until ISLAND_RESET_RELEASE: a tracker tracks nothing, the plan engine loads, arms and accepts nothing, the
converters convert nothing (DESIGN CHOICE, log entry 184). The drive island and clock faults need no reset. -/
def islandFault (id : Nat) (rst : Option Nat) (cause : Nat) (s : State) : State :=
  let s := (s.wr SYS.base SYS.RST_CAUSE_ISLAND 1).wr SYS.base SYS.RST_CAUSE_ISLAND_ID id
  let s := s.updSys (fun y => { y with islandRst := y.islandRst ++ rst.toList.map (fun n => (n, s.tick)) })
  let s := spillDevice cause (s.raise 3)
  match rst with
  | some n => if n < 2 then holdTrackers (Fin.ofNat 2 n) s else s
  | none => s

end Sys2Proof.Machine
end

