-- ==== Sys2Proof/Machine/PlanRun.lean ====
section
/-! DEFINITION. The plan engine at work: furrow heads, the projected angle, issue and disposal, the sweep, the cycle
boundary, the opening of an epoch and the handover (R21 to R24, R63, R91, R102 to R105, R136, R137, R148, R160, R161,
R167, R184, R196, R197). A position is an angle measured in the direction of travel; with the cycle's number before
it, it is a whole number of au since the epoch opened. -/

namespace Sys2Proof.Machine

/-! ## Positions (R21, R33) -/

/-- An angle's position within the cycle, in the direction of travel. -/
def posOf (s : State) (a : Nat) : Nat := travelPos (ctl s).astern (devLen s) a

/-- The device angle's position, the cycles of the epoch before it. -/
def nowPos (s : State) : Nat := s.dev.cycNo * devLen s + posOf s (devAngle s)

/-- The lead of an action kind in ticks (R22). -/
def leadOf (kind : Nat) : Nat :=
  match kind with
  | 1 | 2 => 24
  | 3 => 16
  | 4 => 28
  | 6 => 8
  | 7 | 8 => 4
  | _ => 0

/-- The consumer of an action kind (R23): the drive island takes INJ and VALVE, every other kind has its own. -/
def consumerOf (kind : Nat) : Nat := if kind = 2 then 1 else kind

/-- How far a tracker's presented angle goes in some ticks: held at the horizon (R21, R74), but for Tracker A in link mode,
which has none (R423). -/
def lookAhead (s : State) (t : Fin 2) (ticks : Nat) : Nat :=
  let x := s.trk[t]
  if x.atHorizon || x.stalled then 0
  else
    let f := x.acc % 2 ^ 32
    let d := if x.astern then (x.inc * ticks + (2 ^ 32 - 1) - f) / 2 ^ 32 else (f + x.inc * ticks) / 2 ^ 32
    if t = 0 ∧ following s = true then d else min d (travel x.astern (cycleLen s t) (presented x) x.horizon)

/-- How far behind a device angle held since a backward handover the controlling tracker still is (R91). -/
def holdGap (s : State) : Nat :=
  match s.dev.hold with
  | some h => travel (ctl s).astern (devLen s) (presented (ctl s)) h
  | none => 0

/-- The projected angle of R21 for a lead, as a position. -/
def projPos (s : State) (lead : Nat) : Nat := nowPos s + (lookAhead s s.dev.control lead - holdGap s)

/-! ## Start angles (R161, R266) -/

/-- A parameter slot's word as data. -/
def slotData (s : State) (k : Nat) : Nat :=
  s.wordData (slotAddr k / 8) / 2 ^ (8 * (slotAddr k % 8)) % 2 ^ 32

/-- The active start trim T_dip of a channel (R265, R266). -/
def tDip (s : State) (res : Nat) : Int :=
  signed 16 (s.rd (SHPC.base (res / 4) (res % 4)) SHPC.DTRIM_TRIM)

/-- An entry is of kind INJ or VALVE. -/
def entIsBank (w0 : Nat) : Bool := decide (entKindOf w0 = 1) || decide (entKindOf w0 = 2)

/-- The PATCH of a value, if the entry takes one (R160, R161). -/
def patchOf (w0 v : Nat) : Int := if entPatchable w0 && entIsBank w0 then signed 16 (v / 2 ^ 16) else 0

/-- The patch is refused: its magnitude exceeds the trim allowance (R161). -/
def patchRefused (w0 w1 v : Nat) : Bool := decide (entTrim w1 < (patchOf w0 v).natAbs)

/-- The patch in use: 0 where it is refused (R161). -/
def patchInUse (w0 w1 v : Nat) : Int := if patchRefused w0 w1 v then 0 else patchOf w0 v

/-- The clamped start trim in use (R138, R161). -/
def startTrim (s : State) (w0 w1 v : Nat) : Int :=
  if entIsBank w0 then clampI (-(entTrim w1 : Int)) (entTrim w1) (patchInUse w0 w1 v + tDip s (entRes w0)) else 0

/-- The effective start angle of an entry (R161). -/
def effStart (s : State) (w0 w1 v : Nat) : Nat := ((entStart w0 + startTrim s w0 w1 v) % (devLen s : Int)).toNat

/-- The effective start angle of action i, with the value its slot holds now (R137). -/
def startOf (s : State) (i : Nat) : Nat := effStart s (actWord0 s i) (actWord1 s i) (slotData s (entSlot (actWord0 s i)))

/-! ## Furrow heads (R136, R137, R166, R167) -/

/-- A furrow's identifier (R165). -/
def Furrow.fid (f : Furrow) : Nat := f.cls * 4096 + f.inst

/-- The furrow belongs to the direction of travel (R167). -/
def activeFurrow (s : State) (f : Furrow) : Bool := f.astern == (ctl s).astern

/-- The active furrow with an identifier. -/
def furrowOf (s : State) (fid : Nat) : Option Furrow := s.plan.furrows.find? (fun f => activeFurrow s f && f.fid == fid)

/-- A furrow changes. -/
def updFurrow (g : Furrow) (h : Furrow → Furrow) (s : State) : State :=
  s.updPlan (fun p => { p with furrows := p.furrows.map (fun f => if f.fid = g.fid ∧ f.astern = g.astern then h f else f) })

/-- The action after action i in its furrow, if any (R166). -/
def linkAfter (s : State) (i : Nat) : Option Nat :=
  let n := s.plan.links.getD i 0xFFFF
  if n = 0xFFFF then none else some n

/-- The head after the present one: after the last action it returns to FIRST for the next cycle (R167). -/
def stepHead (s : State) (f : Furrow) : Furrow :=
  match linkAfter s f.head with
  | some n => { f with head := n }
  | none => { f with head := f.first, headCyc := f.headCyc + 1 }

/-- The position of a furrow head's start. -/
def headPos (s : State) (f : Furrow) : Nat := f.headCyc * devLen s + posOf s (startOf s f.head)

/-- An action entry as the plan engine reads it: true if either word is uncorrectable (R437, R442). -/
def readEntry (i : Nat) (s : State) : Bool × State :=
  let a := (0x100000 + 16 * i) / 8
  let r0 := readWord a s
  let r1 := readWord (a + 1) r0.2
  (r0.1.2 || r1.1.2, r1.2)

/-- An uncorrectable entry is disposed of at once: DROPPED, ECC; it belongs to no order, its furrow is suppressed,
and a priority rewrite is posted (R442). -/
def badEntry (f : Furrow) (i : Nat) (s : State) : State :=
  let s := jrnAction 6 5 i (devAngle s) s
  updFurrow f (fun f => { f with dead := true }) (postEntry i s)

/-- A furrow's head is loaded (R136): an uncorrectable entry is disposed of and the next one loaded. -/
def loadHead : Nat → Furrow → State → State
  | 0, f, s => updFurrow f (fun g => { g with head := f.head, headCyc := f.headCyc }) s
  | n + 1, f, s =>
    let r := readEntry f.head s
    if r.1 then loadHead n (stepHead s f) (badEntry f f.head r.2)
    else updFurrow f (fun g => { g with head := f.head, headCyc := f.headCyc, loadedAt := s.pt }) r.2

/-- After an issue or a disposal the next entry of the furrow is loaded (R136, R167). -/
def advanceHead (f : Furrow) (s : State) : State := loadHead f.count (stepHead s f) s

/-- The first action of a furrow at or beyond a position of the cycle, its first action of the next cycle if none. -/
def placeIn (s : State) (pos : Nat) (f : Furrow) : Nat → Nat → Furrow
  | 0, _ => { f with head := f.first, headCyc := s.dev.cycNo + 1 }
  | n + 1, i =>
    if pos ≤ posOf s (startOf s i) then { f with head := i, headCyc := s.dev.cycNo }
    else match linkAfter s i with
      | some j => placeIn s pos f n j
      | none => { f with head := f.first, headCyc := s.dev.cycNo + 1 }

/-- The heads of the active direction are placed at or beyond the device angle (R118, R137). -/
def placeHeads (s : State) : State :=
  let pos := posOf s (devAngle s)
  let s := s.updPlan (fun p => { p with cutFrom := pos })
  foldS (s.plan.furrows.filter (activeFurrow s)) (fun f s => loadHead f.count (placeIn s pos f f.count f.first) s) s

/-! ## An action is reached (R160, R161, R197) -/

/-- CRITICAL actions are suppressed (R93, R116). -/
def suppressed (s : State) : Bool :=
  s.xchk.suppress || ((ctl s).verify && s.on (TRK.base s.dev.control) TRK.MOTION_CFG_RESUME_CRIT)

/-- In GOVERNED: the predicted duration of an angle-ended action lies outside its bounds (R148). -/
def envelopeDrop (s : State) (w0 w1 v : Nat) : Bool :=
  let span := 64 * (v % 2 ^ 16) * 2 ^ 32
  let inc := (ctl s).inc
  decide (s.dev.st = .governed) && entIsBank w0 && entEndAngle w0 &&
    (decide (inc = 0) || decide (span < entMin w1 * inc) || decide (entMax w1 * inc < span))

/-- The value means no event this cycle (R160). -/
def noEvent (w0 v : Nat) : Bool := decide (v = 0) || (entIsBank w0 && decide (v % 2 ^ 16 = 0))

/-- The order an action reaching a slot in a cycle decides, if any (R197); it is reached once, while it is not terminal. -/
def reachSlot (slot idx cyc : Nat) (s : State) : Option Nat × State :=
  let x := tget s.plan.slotCyc slot ⟨0, none⟩
  match x.cycNo == cyc + 1, x.seq with
  | true, some q =>
    if s.hdg.queue.any (fun o => decide (o.seq = q) && decide (o.progress ≠ 4)) then
      let s := s.updPlan (fun p => { p with slotCyc := tset p.slotCyc slot { x with seq := none } ⟨0, none⟩ })
      (some q, updOrder q (fun o => { o with idx := idx }) s)
    else (none, s)
  | _, _ => (none, s)

/-- The defer limit in ticks (R142, R227). -/
def deferLimit (s : State) (w1 : Nat) : Nat :=
  let inc := if (ctl s).stalled then 0 else (ctl s).inc
  if entDefer w1 = 0 then 0 else if inc = 0 then 2 ^ 24 - 1 else min (entDefer w1 * 2 ^ 32 / inc) (2 ^ 24 - 1)

/-- The predicted instant at which the angle reaches a position, to the nearest tick (R21). -/
def predictedAt (s : State) (pos : Nat) : Nat :=
  let x := ctl s
  let f : Nat := x.acc % 2 ^ 32
  let d : Int := ((pos : Int) - nowPos s + holdGap s) * 2 ^ 32 + (if x.astern then (f : Int) else -(f : Int))
  if x.inc = 0 ∨ x.atHorizon ∨ x.stalled then s.pt else ((s.pt : Int) + divRoundI d x.inc).toNat

/-- The tick from which the plan engine knows the controlling tracker's last edge: D_edge after its stamp, with the filter
time on a Hall input only (R20). -/
def edgeKnown (s : State) : Nat :=
  let x := ctl s
  let w := crankWheel s s.dev.control
  x.lastStamp + 16 + (if sensorOf s w = 2 then filtTicks s (Fin.ofNat 4 w) x.lastStamp else 0)

/-- A late issue enters the late log (R103, R184). -/
def logLate (idx late : Nat) (s : State) : State :=
  let s := s.bump PLAN.base PLAN.LATE_CNT_COUNT
  let s := if s.rd PLAN.base PLAN.LATE_MAX_L < late then s.wr PLAN.base PLAN.LATE_MAX_L late else s
  if s.plan.lateLog.length < 64 then
    let first := s.plan.lateLog.isEmpty
    (s.updPlan (fun p => { p with lateLog := p.lateLog ++ [(idx, late)] })).raiseIf first 55
  else s.bump PLAN.base PLAN.LATE_LEVEL_LOST

/-- The cycle of the epoch a position lies in (R33). -/
def cycOf (s : State) (pos : Nat) : Nat := pos / devLen s

/-- The cycle number of a cycle of the epoch (R63). -/
def cycleOf (s : State) (cyc : Nat) : Nat := ((s.dev.cycle + cyc : Nat) - (s.dev.cycNo : Int)).toNat % 65536

/-- The action that reaching entry i at a position makes, before it is issued or disposed of: it belongs to the cycle its
position lies in (R137). -/
def freshAct (s : State) (i pos tick : Nat) (swept : Option Nat) (order : Option Nat) (anom : Bool) : Act :=
  let w0 := actWord0 s i
  let w1 := actWord1 s i
  let lead := leadOf (entKindOf w0)
  let pred := predictedAt s pos
  { idx := i, w0 := w0, w1 := w1, value := slotData s (entSlot w0), serial := s.plan.serial, issued := tick,
    target := if swept.isSome then tick + lead else max pred (tick + lead), start := startOf s i, epoch := s.dev.epoch,
    cycle := cycleOf s (cycOf s pos), cycNo := cycOf s pos, order := order, dlim := deferLimit s w1, aheadSwept := false,
    swept := swept.isSome, late := false,
    inShadow := swept.isNone && decide (pred < edgeKnown s + lead) && decide (pred < tick + lead),
    deferred := false, anom := anom, phase := .issued, effectAt := 0, endReq := none }

/-- The action is issued (R21, R103, R184, R198); one issued by a sweep is late (R200). -/
def issueAct (a : Act) (late : Option Nat) (s : State) : State :=
  let a := { a with late := late.isSome }
  let s := s.updPlan (fun p => { p with serial := p.serial + 1
                                        issuedIn := tset p.issuedIn a.idx (a.cycNo + 1) 0
                                        acts := p.acts ++ [a] })
  let s := orderProgress a 2 (flagOrder a s)
  match late with
  | some l => logLate a.idx l s
  | none => s

/-- Why a reached action is not executed, if it is not (R93, R103, R116, R148, R442): the reason codes of R198. Of
several reasons the first of ECC, LATE and ENVELOPE is given (DESIGN CHOICE, log entry 142). -/
def disposal (s : State) (dead : Bool) (w0 w1 v : Nat) (swept : Option Nat) : Option Nat :=
  if dead then some 5
  else if (swept.getD 0) > entLate w1 then some 1
  else if (entCritical w0 && suppressed s) || envelopeDrop s w0 w1 v then some 4
  else none

/-- Action i at a position is reached in a tick, by the comparison of R21 or, with its lateness, by a sweep (R103):
it is no event, disposed of, or issued, once in the cycle its position lies in (R137), and it decides the order of its slot
(R160, R161, R197). DESIGN CHOICE (log entry 159): a value that breaks its table is looked at last, so an action disposed of
for another reason leaves no VALUE anomaly; R160 does not order it. -/
def reachAction (i pos tick : Nat) (swept : Option Nat) (dead : Bool) (s : State) : State :=
  if tget s.plan.issuedIn i 0 = cycOf s pos + 1 then s
  else
    let w0 := actWord0 s i
    let w1 := actWord1 s i
    let slot := entSlot w0
    let r := readDec (slotAddr slot) 4 s
    let v := slotData s slot
    let q := reachSlot slot i (cycOf s pos) r.2
    let s := q.2
    let a := freshAct s i pos tick swept q.1 false
    if r.1.2 then dropAct 5 a s
    else if noEvent w0 v then
      match q.1 with
      | some n => endOrder n 2 0 s.ptLo s
      | none => s
    else
      let refused := patchRefused w0 w1 v
      let written := jrnRoom s
      let s := if refused then
          (jrnAction 7 4 i (devAngle s) s).bump PLAN.base PLAN.CONTEND_PATCH_REF
        else s
      let a := { a with anom := refused && written }
      match disposal s dead w0 w1 v swept with
      | some reason => dropAct reason a s
      | none =>
        if valueOk (entKindOf w0) v then issueAct a swept s
        else jrnAction 7 3 i (devAngle s) s

/-- A furrow's head is reached, and the next one loaded. -/
def reachHead (f : Furrow) (pos tick : Nat) (swept : Option Nat) (s : State) : State :=
  advanceHead f (reachAction f.head pos tick swept f.dead s)

/-- The look-back window in au (R136). -/
def lookback (s : State) : Nat := s.cfg PLAN.base PLAN.LOOKBACK_AU

/-- The plan engine issues: an epoch is open and the device runs (R29, R110, R113), with an angle of its own (R112). -/
def planRuns (s : State) : Bool :=
  s.dev.epochOpen && !s.dev.handing && (decide (s.dev.st = .running) || decide (s.dev.st = .governed)) && !s.ptStands

/-- The order in which a sweep takes its events: position, then boundary, cut-offs, actions by index (R104). -/
def sweepKey (pos rank idx : Nat) : Nat := (pos * 4 + rank) * 16384 + idx

/-- The head of another furrow for the same consumer is reached as well and comes first in the issue order (R23). -/
def issuesFirst (s : State) (f : Furrow) : Bool :=
  let cons := fun (g : Furrow) => consumerOf (entKindOf (actWord0 s g.head))
  let proj := projPos s (leadOf (entKindOf (actWord0 s f.head)))
  (s.plan.furrows.filter (activeFurrow s)).any (fun g => decide (cons g = cons f) && decide (headPos s g ≤ proj) &&
    decide (sweepKey (headPos s g) 2 g.head < sweepKey (headPos s f) 2 f.head))

/-- ACTION_ISSUE (R21, R23, R136): the head of a furrow whose start the projected angle has reached or passed, in the issue
order. -/
def actionIssueStep (fid : Nat) (s : State) : State :=
  match furrowOf s fid with
  | none => s
  | some f =>
    let pos := headPos s f
    let proj := projPos s (leadOf (entKindOf (actWord0 s f.head)))
    if planRuns s = false ∨ s.pt < edgeKnown s ∨ proj < pos ∨ issuesFirst s f = true then s
    else reachHead f pos s.pt (if proj - pos ≤ lookback s then none else some (proj - pos)) s

/-! ## Cut-offs (R196) -/

/-- A slot's cut-off in the cycle in progress, as a position, while it has not been taken and counts. -/
def cutPos (s : State) (k : Nat) : Option Nat :=
  let p := posOf s (slotCutoff s k)
  if slotUsed s k && !cutoffTaken k s && decide (s.plan.cutFrom ≤ p) then some (s.dev.cycNo * devLen s + p) else none

/-- CUTOFF_TAKE (R196): the cut-off has been reached or passed. -/
def cutoffStep (k : Nat) (s : State) : State :=
  match cutPos s k with
  | some p => if planRuns s ∧ p ≤ nowPos s then takeCutoff k s else s
  | none => s

/-! ## The cycle boundary of the device (R33, R63) -/

/-- A cause that keeps the governed latch (R149), or a violation of this very tick (R150). -/
def govCauseActive (s : State) : Bool :=
  s.plan.violAt == some s.tick ||
  s.plan.speedBad || s.xchk.suppress || (ctl s).verify || s.flag PLAN.base PLAN.SCRUB_FAIL

/-- A requested clear of the governed latch acts or is discarded (R149); GOV before it is kept for R150. -/
def govClearAct (s : State) : State :=
  if s.flag PLAN.base PLAN.GOV_CLEAR then
    let s := s.wr PLAN.base PLAN.GOV_CLEAR 0
    if govCauseActive s then s.err 0x05
    else
      let s := s.updPlan (fun p => { p with govKept := some (s.tick, s.reg (PLAN.base + 0x64)) })
      let s := s.setReg (PLAN.base + 0x64) 0
      if s.dev.st = .governed then s.enter .running else s
  else s

/-- Suppression ends at the boundary closing a whole cycle within SOFT (R93); the cycle that opens is watched anew. -/
def suppressionEnd (s : State) : State :=
  let x := s.xchk
  { s with xchk := { x with suppress := x.suppress && !(x.wholeCycle && x.withinSoft)
                            withinSoft := !s.flag (TRK.base 0) TRK.XCHK_STAT_SOFT_ACT
                            wholeCycle := true } }

/-- The members of a furrow, along its links. -/
def furrowMembers (s : State) : Nat → Nat → List Nat
  | 0, _ => []
  | n + 1, i => i :: (match linkAfter s i with | some j => furrowMembers s n j | none => [])

/-- Suppressed furrows whose entries have all been rewritten resume (R442). -/
def resumeFurrows (s : State) : State :=
  s.updPlan (fun p => { p with furrows := p.furrows.map (fun f =>
    { f with dead := f.dead && (furrowMembers s f.count f.first).any (fun i => s.memc.prio.any (fun e => e.1 == i)) }) })

/-- The device's angle passes 0 in the direction of travel (R33): the cycle number counts, orders for the cycle that
ends are decided, and the calibrations and shadows of R32 and R486 that wait for the boundary switch. -/
def deviceBoundary (s : State) : State :=
  let s := closeCycleOrders s.dev.cycle s
  let s := s.updDev (fun d => { d with cycle := (d.cycle + 1) % 65536, cycNo := d.cycNo + 1 })
  let s := resumeFurrows (s.updPlan (fun p => { p with cutFrom := 0 }))
  let s := (govClearAct (suppressionEnd (swapTrims s))).fire 0x51
  actCommitted (fun c => c.when_ == .boundary) s

/-! ## The sweep (R102 to R105) -/

/-- What a sweep meets, in the order of R104: the boundary, a cut-off, an action. -/
inductive SweepEvent
  | boundary
  | cutoff (slot : Nat)
  | head (f : Furrow)
  deriving DecidableEq, Repr

/-- Every event that lies before the end of the swept interval, with its key and position. -/
def sweepEvents (s : State) (stop : Nat) : List (Nat × Nat × SweepEvent) :=
  let b := (s.dev.cycNo + 1) * devLen s
  let l := [(sweepKey b 0 0, b, SweepEvent.boundary)]
  let l := l ++ s.plan.slotDef.filterMap (fun e => (cutPos s e.1).map (fun p => (sweepKey p 1 e.1, p, SweepEvent.cutoff e.1)))
  let l := l ++ (s.plan.furrows.filter (activeFurrow s)).map (fun f =>
    (sweepKey (headPos s f) 2 f.head, headPos s f, SweepEvent.head f))
  l.filter (fun e => decide (e.2.1 < stop))

/-- The event with the least key. -/
def firstEvent : List (Nat × Nat × SweepEvent) → Option (Nat × Nat × SweepEvent)
  | [] => none
  | e :: l => match firstEvent l with
    | none => some e
    | some g => if g.1 < e.1 then some g else some e

/-- The sweep up to a position, every action taking one tick, with the lateness of a position (R102 to R104). -/
def sweepLoop : Nat → Nat → Nat → (Nat → Option Nat) → State → State
  | 0, _, _, _, s => s
  | n + 1, stop, tick, late, s =>
    match firstEvent (sweepEvents s stop) with
    | none => s
    | some (_, _, .boundary) => sweepLoop n stop tick late (deviceBoundary s)
    | some (_, _, .cutoff k) => sweepLoop n stop tick late (takeCutoff k s)
    | some (_, p, .head f) => sweepLoop n stop tick late (reachHead f p tick (late p) s)

/-- The position of an action's end angle: its undeferred effective start plus its span (R160, R230). -/
def endPos (s : State) (a : Act) : Nat := a.cycNo * devLen s + posOf s a.start + 64 * spanOf a

/-- An action whose end is set by angle and has had no end command. -/
def Act.awaitsEnd (a : Act) : Bool := a.isBank && entEndAngle a.w0 && a.endReq.isNone

/-- Actions in progress whose end angle the sweep passes receive their end: the sweep tick plus the lead (R105). -/
def sweepEnds (stop tick : Nat) (s : State) : State :=
  updActs (fun l => l.map (fun a =>
    if a.awaitsEnd && decide (endPos s a < stop) then { a with endReq := some (tick + 24) } else a)) s

/-- End commands are issued at the end angle with the lead of the bank actions, as actions are (R21, R257). -/
def issueEnds (s : State) : State :=
  if planRuns s = false ∨ s.pt < edgeKnown s then s
  else updActs (fun l => l.map (fun a =>
    if a.awaitsEnd && decide (endPos s a ≤ projPos s 24) then
      { a with endReq := some (max (predictedAt s (endPos s a)) (s.pt + 24)) } else a)) s

/-- How many events one sweep can meet at most: every cut-off and every action twice, and two boundaries. -/
def sweepFuel (s : State) : Nat := 2 * (nact s + s.plan.nslot) + 4

/-- The device angle steps forward: the stepped interval is swept (R102). -/
def sweepTo (stop tick : Nat) (s : State) : State :=
  if s.dev.epochOpen then sweepLoop (sweepFuel s) stop tick (fun p => some (stop - p)) (sweepEnds stop tick s) else s

/-- What the angle has passed before the cycle boundary and no command of this tick has taken yet, in the order of R104: the
cut-offs and the actions of the cycle that ends (R136, R196). -/
def passBoundary (pos : Nat) (s : State) : State :=
  if planRuns s then
    sweepLoop (sweepFuel s) ((s.dev.cycNo + 1) * devLen s) (max s.pt (edgeKnown s))
      (fun p => if pos - p ≤ lookback s then none else some (pos - p)) s
  else s

/-- The device angle has moved to a position; if it has passed the cycle boundary, the boundary acts (R33), behind what
lies before it. -/
def reachPos (pos : Nat) (s : State) : State :=
  if s.dev.epochOpen ∧ (s.dev.cycNo + 1) * devLen s ≤ pos then deviceBoundary (passBoundary pos s) else s

/-! ## Opening an epoch (R63, R137) -/

/-- The controlling tracker has entered SYNC (R63): the epoch opens with cycle 0, its marker is written, the heads are
placed, the holds of the spillway are released and the device runs. -/
def openEpoch (s : State) : State :=
  let e := if s.dev.epoch = 65535 then 1 else s.dev.epoch + 1
  let s := s.updDev (fun d => { d with epoch := e, cycle := 0, cycNo := 0, epochOpen := true, hold := none, handing := false, step := none })
  let s := s.updPlan (fun p => { p with issuedIn := [], slotCyc := [], revStamp := none, revPrev := none })
  let s := foldS [0, 1] (fun (t : Fin 2) s => s.updTrk t (fun x => { x with phaseInit := [], epochEdges := 0 })) s
  let s := { s with xchk := { s.xchk with wholeCycle := false, withinSoft := true, cyc := 0 }, trims := { s.trims with doneAt := none, revDone := false } }
  let s := jrnOpened (devAngle s) s
  let s := if s.flag THERM.base THERM.STAT_HOLD then s else releaseTio (releasePwm .epoch s)
  enterRunning (placeHeads (s.fire 0x52))

/-! ## Handover (R91) -/

/-- What a handover does to learning and to the envelope monitor: the revolution and the cycle it falls in are not
used (R82, R84, R143). -/
def spoilLearning (s : State) : State :=
  let s := foldS [0, 1] (fun (t : Fin 2) s => s.updTrk t (fun x => { x with rowClean := false, revOk := false })) s
  s.updPlan (fun p => { p with revStamp := none, revPrev := none })

/-- A handover is decided: the other tracker's angle is the device angle from the next tick on (R90, R91). -/
def decideHandover (s : State) : State := s.updDev (fun d => { d with handing := true })

/-- Where a handover joins a stall (DESIGN CHOICE, log entry 144; R112 and R113 are silent): a device that stood STALLED
runs on with a tracker that has not stalled, and one that ran stands with a tracker that has. -/
def handoverState (s : State) : State :=
  if s.dev.st = .stalled ∧ (ctl s).stalled = false then pendingDisarm (enterRunning s)
  else if (s.dev.st = .running ∨ s.dev.st = .governed) ∧ (ctl s).stalled = true then ((endActions s).enter .stalled).raise 46
  else s

/-- Control passes to the other tracker (R91), and one that has lost sync leaves the comparison (R112), in the tick after the decision, from the device angle and position before
it: the step is swept once the crank edges of the tick have been taken (R121). -/
def handover (pos old : Nat) (s : State) : State :=
  let s := if s.trk[s.dev.control].acq = .sync then s else s.updTrk s.dev.control (fun x => { x with inXchk := false })
  let s := (s.bump (TRK.base 0) TRK.XCHK_STAT_HANDOVERS).raise 39
  spoilLearning (s.updDev (fun d =>
    { d with control := otherTrk d.control, hold := none, handing := false, step := some (pos, old) }))

/-- The step of a handover, with that of an early edge of its tick: a step forward is swept in one, its lateness measured from
the new device angle, a step backward holds the device angle (R91, R121). -/
def handoverSweep (s : State) : State :=
  match s.dev.step with
  | none => s
  | some (pos, old) =>
    let s := s.updDev (fun d => { d with step := none })
    if s.dev.epochOpen = false then s
    else
      let len := devLen s
      let d := travel (ctl s).astern len old (devAngle s)
      let s := if 2 * d < len then reachPos (pos + d) (sweepTo (pos + d) (max s.pt (edgeKnown s)) s)
        else s.updDev (fun d => { d with hold := some old })
      handoverState s

/-! ## Commands -/

/-- ACTION_ISSUE. -/
def execActionIssue (fid : BitVec 16) (s : State) : Host.Outcome State Fault Refusal := .next (actionIssueStep fid.toNat s)
/-- CUTOFF_TAKE. -/
def execCutoffTake (slot : Fin 4096) (s : State) : Host.Outcome State Fault Refusal := .next (cutoffStep slot.val s)

end Sys2Proof.Machine
end

