-- ==== Sys2Proof/Machine/Learn.lean ====
section
/-! DEFINITION. What the trackers learn: the cycle shadow (R79 to R83) and the tooth signature (R84 to R87), and a
tracker's own cycle boundary (R33, R81, R85, R97). -/

namespace Sys2Proof.Machine

/-! ## Clearing -/

/-- A tracker's history, row and factors are cleared (R83). -/
def shadowClear (t : Fin 2) (s : State) : State :=
  s.updTrk t (fun x => { x with row := [], rows := [], qAct := [], rowClean := false })

/-- A tracker travels in a direction; a history of the other direction is cleared (R83). -/
def setAstern (t : Fin 2) (a : Bool) (s : State) : State :=
  let s := s.updTrk t (fun x => { x with astern := a })
  if s.trk[t].rowsAstern = a then s else shadowClear t (s.updTrk t (fun x => { x with rowsAstern := a }))

/-- The learned signature returns to the plan's values and the sums are gone (R86). -/
def sigClear (t : Fin 2) (s : State) : State :=
  s.updTrk t (fun x => { x with sigAct := [], sigNew := none, sigSums := [], sigRevs := 0 })

/-! ## The cycle shadow -/

/-- Learning goes on in this tracker: the shadow and the signature are learned from local edges only (R425). -/
def learns (s : State) (t : Fin 2) : Bool := !(decide (t = 0) && following s)

/-- q_meas of R80 in Q2.14, to nearest: (T_j * P_(j-1)) / (T_(j-1) * P_j). -/
def qMeas (s : State) (t : Fin 2) (prev n tj : Nat) : Nat :=
  divRound (tj * pitch s t prev * 16384) (s.trk[t].period * pitch s t n)

/-- SHADOW_MEASURE (R80, R82): the clamped measurement enters the row of the cycle in progress. -/
def shadowMeasure (t : Fin 2) (prev n : Nat) (hn : Bool) (tj : Nat) (s : State) : State :=
  if s.trk[t].period = 0 ∨ learns s t = false then s
  else
    let q := qMeas s t prev n tj
    let exact := decide (tj * pitch s t prev * 2 < s.trk[t].period * pitch s t n) ||
      decide (2 * s.trk[t].period * pitch s t n < tj * pitch s t prev)
    let sh := s.rd (TRK.base t) TRK.TRIM_RB_SH_TRIM
    let c := (clampI (16384 - (sh : Int)) (16384 + sh) q).toNat
    let s := if c ≠ q then s.bump (TRK.base t) TRK.SHADOW_STAT_CLAMP_CNT else s
    s.updTrk t (fun x => { x with row := tins (tdel x.row (cyclePos s t n hn)) (cyclePos s t n hn) c
                                  rowClean := x.rowClean && !exact })

/-- Cycle tooth positions of a tracker (R79). -/
def cyclePositions (s : State) (t : Fin 2) : Nat := if cyc720 s t then 2 * teeth s t else teeth s t

/-- The cycle that ends was clean (R82): its row holds a value at every position. -/
def cycleClean (s : State) (t : Fin 2) : Bool :=
  let x := s.trk[t]
  x.rowClean && decide (x.row.length = cyclePositions s t) && s.on (TRK.base t) TRK.SHADOW_CFG_LEARN &&
    decide (s.dev.st = .running) && !hasIfault s t

/-- The active factors: the mean of the newest min(N, ROWS) rows, to nearest, halves up (R81). -/
def formFactors (s : State) (t : Fin 2) (rows : List (List (Nat × Nat))) : List (Nat × Nat) :=
  let used := rows.take (s.cfg (TRK.base t) TRK.SHADOW_CFG_N)
  if used.isEmpty then []
  else (List.range (cyclePositions s t)).foldl (fun q c =>
    tset q c (divRound ((used.map (fun r => tget r c 16384)).foldl (· + ·) 0) used.length) 16384) []

/-- A copy of the active factors has been switched (R32, R81): BANK toggles. -/
def toggleBank (t : Fin 2) (s : State) : State :=
  s.wr (TRK.base t) TRK.SHADOW_STAT_BANK (1 - s.rd (TRK.base t) TRK.SHADOW_STAT_BANK)

/-- SHADOW_ROW_STORE (R81, R83): the row is stored or discarded, or a requested clear acts; the factors are formed. -/
def shadowBoundary (t : Fin 2) (s : State) : State :=
  let b := TRK.base t
  let s :=
    if s.flag b TRK.SHADOW_CFG_CLR then (shadowClear t s).wr b TRK.SHADOW_CFG_CLR 0
    else if cycleClean s t then s.updTrk t (fun x => { x with rows := (x.row :: x.rows).take 8 })
    else s.bump b TRK.SHADOW_STAT_DIRTY_CNT
  toggleBank t (s.updTrk t (fun x => { x with qAct := formFactors s t x.rows, row := [] }))

/-! ## The tooth signature -/

/-- Signature learning runs (R84). -/
def sigLearns (s : State) (t : Fin 2) : Bool :=
  learns s t && s.on (TRK.base t) TRK.SIG_CFG_LEARN && decide (s.dev.st = .running) && !s.trk[t].astern

/-- d_i of R85 for a stamp of the revolution, to nearest. -/
def deviation (s : State) (t : Fin 2) (i stamp t0 trev : Nat) : Int :=
  let nom := (entNominal (crankEnt s t i) + revAu - entNominal (crankEnt s t 0) % revAu) % revAu
  divRoundI (((stamp : Int) - t0) * revAu) trev - nom

/-- S_new of R85 for entry i from its sum over n revolutions. -/
def newSignature (s : State) (t : Fin 2) (i : Nat) (sum : Int) (n : Nat) : Int :=
  let trim : Int := s.rd (TRK.base t) TRK.TRIM_RB_SIG_TRIM
  let sig := entSig (crankEnt s t i)
  clampI (-32768) 32767 (clampI (sig - trim) (sig + trim)
    (entSig (crankEnt s t 0) + divRoundI sum n))

/-- A qualifying revolution enters the sums; after 2^AVG of them the inactive copy is written (R85). Where AVG has been
lowered below the revolutions summed already, the next one finishes them, and the mean is over all of them (DESIGN CHOICE,
log entry 145; in every other case the number is 2^AVG). DESIGN CHOICE (log entry 162): a revolution that qualifies between
the forming of S_new and the swap at the cycle boundary enters neither the sums nor SIG_STAT.REVS; R85 restarts the sums at
the swap. -/
def addRevolution (t : Fin 2) (t0 trev : Nat) (s : State) : State :=
  let x := s.trk[t]
  let need := 2 ^ s.cfg (TRK.base t) TRK.SIG_CFG_AVG
  if x.sigNew.isSome then s
  else
    let sums := (List.range (teeth s t)).map (fun i =>
      (i, tget x.sigSums i 0 + deviation s t i (tget x.revStamps i t0) t0 trev))
    let done := decide (need ≤ x.sigRevs + 1)
    s.updTrk t (fun x => { x with
      sigSums := sums
      sigRevs := x.sigRevs + 1
      sigNew := if done then some (sums.map (fun e => (e.1, newSignature s t e.1 e.2 (x.sigRevs + 1)))) else x.sigNew })

/-- SIGNATURE_REVOLUTION (R84, R85) at accepted entry i: an index-0 edge ends a revolution and opens the next. DESIGN
CHOICE: a revolution without one before it to compare its period with is rejected and counted (log entry 139); SIG_CFG.LEARN
is judged at the edge that ends the revolution (log entry 140); a revolution opened while the device did not run and ended
while it runs is rejected and counted like any other that does not qualify (log entry 191). The spec states none of them. -/
def signatureEdge (t : Fin 2) (i stamp : Nat) (s : State) : State :=
  let x := s.trk[t]
  if i ≠ 0 then
    if x.revStamps.isEmpty then s else s.updTrk t (fun x => { x with revStamps := x.revStamps ++ [(i, stamp)] })
  else
    let open_ := fun (prev : Option Nat) (s : State) =>
      s.updTrk t (fun x => { x with revStamps := [(0, stamp)], revOk := !hasIfault s t && decide (s.dev.st = .running), revPrev := prev })
    match x.revStamps with
    | [] => open_ none s
    | (_, t0) :: _ =>
      let trev := stamp - t0
      let stab := s.cfg (TRK.base t) TRK.SIG_CFG_STAB
      let steady := match x.revPrev with
        | some p => decide (((trev : Int) - p).natAbs * 16384 ≤ p * stab)
        | none => false
      let whole := decide (x.revStamps.length = teeth s t)
      let s := if sigLearns s t then
          if x.revOk && whole && steady then addRevolution t t0 trev s
          else s.bump (TRK.base t) TRK.SIG_STAT_REJECTS
        else s
      open_ (some trev) s

/-- The horizon follows the true angle of the expected entry when the signature changes under it, so that a late edge still
steps by one au (R74, R101). DESIGN CHOICE (log entry 163): one that falls behind the presented angle holds the angle where it
stands. -/
def moveHorizon (t : Fin 2) (s : State) : State :=
  let x := s.trk[t]
  let len := cycleLen s t
  let n := nextIdx x.astern (teeth s t) x.pos
  let hz := oneBefore x.astern len (trueAngle s t n (nextHalf x.astern (teeth s t) x.pos x.half))
  if x.acq ≠ .sync ∨ (t = 0 ∧ following s = true) ∨ hz = x.horizon then s
  else if travel x.astern len (presented x) hz = 0 ∨ len ≤ 2 * travel x.astern len (presented x) hz then
    s.updTrk t (fun x => { x with horizon := presented x, acc := presented x * 2 ^ 32, atHorizon := true })
  else if x.atHorizon then
    s.updTrk t (fun x => { x with horizon := hz, atHorizon := false, base := presented x, baseAt := s.pt, racc := 0 })
  else s.updTrk t (fun x => { x with horizon := hz })

/-- SIG_CFG.RESET acts at a cycle boundary (R86). -/
def sigResetAct (t : Fin 2) (s : State) : State :=
  moveHorizon t ((sigClear t s).wr (TRK.base t) TRK.SIG_CFG_RESET 0)

/-- SIGNATURE_SWAP (R85, R86): a finished copy becomes active, or a requested reset acts. -/
def signatureBoundary (t : Fin 2) (s : State) : State :=
  let b := TRK.base t
  if s.flag b TRK.SIG_CFG_RESET then sigResetAct t s
  else match s.trk[t].sigNew with
    | none => s
    | some l =>
      moveHorizon t ((s.bump b TRK.SIG_STAT_UPDATES).updTrk t (fun x =>
        { x with sigAct := l, sigNew := none, sigSums := [], sigRevs := 0 }))

/-! ## The tracker's own boundary (R33, R81, R97) -/

/-- The tracker's presented angle has passed 0: learning steps first, then the shadows that wait for the boundary;
the cycle that opens is clean so far if the device runs (R82). In link mode a requested reset of the signature acts, and
nothing is learned (R86, R425). DESIGN CHOICE (log entry 190): there SHADOW_CFG.CLR waits on and reads 1, since R83 clears at
the boundary and R425 keeps SHADOW_STAT from changing. -/
def ownBoundary (t : Fin 2) (s : State) : State :=
  let s := if learns s t then signatureBoundary t (shadowBoundary t s)
    else if s.flag (TRK.base t) TRK.SIG_CFG_RESET then sigResetAct t s else s
  let s := actCommitted (fun c => c.when_ == .trkBoundary t) s
  s.updTrk t (fun x => { x with rowClean := decide (s.dev.st = .running) && s.on (TRK.base t) TRK.SHADOW_CFG_LEARN && !hasIfault s t })

/-- The tracker's angle has moved forward from one angle to another: its own boundary if it has passed 0. -/
def ownPassed (t : Fin 2) (before after : Nat) (s : State) : State :=
  let a := s.trk[t].astern
  let len := cycleLen s t
  if len ≤ travelPos a len before + travel a len before after then ownBoundary t s else s

/-! ## Commands -/

/-- SHADOW_CLR (R83): the clear waits for the tracker's next boundary; CLR reads 1 until then. -/
def shadowClrStep (t : Fin 2) (s : State) : State := s.wr (TRK.base t) TRK.SHADOW_CFG_CLR 1

/-- SIG_RESET (R86). -/
def sigResetStep (t : Fin 2) (s : State) : State := s.wr (TRK.base t) TRK.SIG_CFG_RESET 1

/-- SHADOW_CLR. -/
def execShadowClr (t : Fin 2) (s : State) : Host.Outcome State Fault Refusal := .next (shadowClrStep t s)
/-- SIG_RESET. -/
def execSigReset (t : Fin 2) (s : State) : Host.Outcome State Fault Refusal := .next (sigResetStep t s)

end Sys2Proof.Machine
end

