-- ==== Sys2Proof/Machine/Acquire.lean ====
section
/-! DEFINITION. Acquisition (R54 to R62, R525), the declaration of sync (R63, R65) and the loss of sync (R110, R112). -/

namespace Sys2Proof.Machine

/-! ## Loss of sync (R110 to R112) -/

/-- The checker may take over from tracker t (R112): in SYNC, in the comparison, without an internal fault, and within
HARD at the last compared tick. -/
def canHandover (s : State) (t : Fin 2) : Bool :=
  let o := otherTrk t
  s.trk[o].acq == .sync && s.trk[o].inXchk && s.trk[t].inXchk && s.on (TRK.base 0) TRK.XCHK_CFG_EN && !hasIfault s o && !s.xchk.hardOut

/-- Tracker A loses sync in link mode: counted, source 239 (R430, R432). -/
def noteLinkLoss (t : Fin 2) (s : State) : State :=
  if t = 0 ∧ following s = true ∧ s.trk[t].acq = .sync then
    ((s.updLink (fun l => { l with hold := none })).bump LINK.base LINK.TAKES_LOSSES).raise 239
  else s

/-- A tracker loses sync with a cause of R122 and goes to a state of acquisition. The one that hands over leaves the comparison
with the handover (R112). On the controlling tracker the device hands over to the checker where
R112 allows it; otherwise, and where the checker loses sync in the same tick, R110 applies. DESIGN CHOICE (log entry 164): a
handover decided for another reason in this tick goes on if the tracker it leaves loses sync, and is given up if the tracker
it goes to does. -/
def loseSyncTo (q : Acq) (t : Fin 2) (cause : Nat) (s : State) : State :=
  let s := noteLinkLoss t s
  if s.dev.epochOpen ∧ (s.dev.control = t ∨ s.dev.handing) then
    if s.dev.handing = false ∧ canHandover s t = true then
      leaveSync t cause q (decideHandover s)
    else if s.dev.handing = true ∧ s.trk[otherTrk t].acq = .sync then
      leaveSync t cause q (if s.dev.control = t then s else s.updDev (fun d => { d with handing := false }))
    else
      let why := if s.dev.control = t then cause else s.rd (TRK.base s.dev.control) TRK.MOTION_STAT_LOSS
      let s := closeEpoch why 4 (spillOutputs false (truncateAll (dueEnvelope s)))
      pendingDisarm (judgeControl ((leaveSync t cause q s).enter .syncing))
  else leaveSync t cause q s

/-- A loss of sync that takes the tracker to STEADY (R110). -/
def loseSync (t : Fin 2) (cause : Nat) (s : State) : State := loseSyncTo .steady t cause s

/-- A loss of sync because a stall-hold has expired: cause HOLD, and the tracker goes to WAIT (R110, R114). -/
def loseHold (t : Fin 2) (s : State) : State := loseSyncTo .wait t 6 s

/-! ## Ratios of the crank pattern (R52, R54, R55) -/

/-- R_exp of entry i in the direction of travel, as numerator and denominator. -/
def rExp (s : State) (t : Fin 2) (i : Nat) : Nat × Nat :=
  (nomPitch s t i, nomPitch s t (prevIdx s.trk[t].astern (teeth s t) i))

/-- The least ratio of a list of them. -/
def leastRatio : List (Nat × Nat) → Nat × Nat
  | [] => (1, 1)
  | [r] => r
  | r :: l => let m := leastRatio l; if m.1 * r.2 < r.1 * m.2 then m else r

/-- The greatest ratio of a list of them. -/
def greatestRatio : List (Nat × Nat) → Nat × Nat
  | [] => (1, 1)
  | [r] => r
  | r :: l => let m := greatestRatio l; if r.1 * m.2 < m.1 * r.2 then m else r

/-- Every R_exp of the crank pattern. -/
def allRatios (s : State) (t : Fin 2) : List (Nat × Nat) := (List.range (teeth s t)).map (rExp s t)

/-- The edge with period tj is spurious before sync: r < LO * R_min (R54). -/
def acqSpurious (s : State) (t : Fin 2) (tj : Nat) : Bool :=
  let m := leastRatio (allRatios s t)
  decide (tj * 4096 * m.2 < s.cfg (TRK.base t) TRK.PLAUS_LO * m.1 * s.trk[t].period)

/-- r > HI * R_max (R54). -/
def acqImplausible (s : State) (t : Fin 2) (tj : Nat) : Bool :=
  let m := greatestRatio (allRatios s t)
  decide (s.cfg (TRK.base t) TRK.PLAUS_HI * m.1 * s.trk[t].period < tj * 4096 * m.2)

/-- A steady edge: 0.75 <= r <= 1.25 (R54, R57). -/
def steadyEdge (tj prev : Nat) : Bool := decide (3 * prev ≤ 4 * tj) && decide (4 * tj ≤ 5 * prev)

/-- The edge matches entry p by its ratio (R55). -/
def ratioMatches (s : State) (t : Fin 2) (tj prev p : Nat) : Bool :=
  let r := rExp s t p
  decide (((tj * r.2 : Nat) - (prev * r.1 : Nat) : Int).natAbs * 64 ≤ s.cfg (TRK.base t) TRK.ACQ_FEAT_TOL * (prev * r.1))

/-- Entry k steps back from entry p. -/
def backIdx (s : State) (t : Fin 2) (p k : Nat) : Nat :=
  (List.range k).foldl (fun i _ => prevIdx s.trk[t].astern (teeth s t) i) p

/-- The last completed classes, newest first, match the entries before position p (R56). -/
def sequenceMatches (s : State) (t : Fin 2) (p : Nat) : Bool :=
  let n := s.cfg (TRK.base t) TRK.ACQ_SEQLEN + 1
  decide (n ≤ s.trk[t].classes.length) &&
    (List.range n).all (fun k => (s.trk[t].classes)[k]? == some (entKind (crankEnt s t (backIdx s t p (k + 1))) - 8))

/-! ## Restarts and period history (R54, R56, R62) -/

/-- ACQ_RESTART (R56): back to STEADY, counted, source 32 or 40. -/
def acqRestart (t : Fin 2) (s : State) : State :=
  ((s.bump (TRK.base t) TRK.SPUR_CNT_ACQ_RESTART).raise (32 + 8 * t.val)).updTrk t (fun x => x.restart .steady)

/-- SPURIOUS_EDGE (R54): counted, source 33 or 41; the cycle is not clean; the eighth in a row acts. -/
def spuriousEdge (t : Fin 2) (eighth : State → State) (s : State) : State :=
  let s := (s.bump (TRK.base t) TRK.SPUR_CNT_SPUR).raise (33 + 8 * t.val)
  let s := s.updTrk t (fun x => { x.spoil with spurRun := x.spurRun + 1 })
  if 8 ≤ s.trk[t].spurRun then eighth (s.updTrk t (fun x => { x with spurRun := 0 })) else s

/-- An accepted edge ends a period (R54): stamps of the last revolution, classes and the number of edges follow. -/
def Tracker.note (x : Tracker) (n : Nat) (e : EdgeIn) : Tracker :=
  { x with
    prevStamp := x.lastStamp
    lastStamp := e.stamp
    prevPeriod := x.period
    period := e.stamp - x.lastStamp
    stamps := (e.stamp :: x.stamps).take (n + 1)
    classes := (match e.wclass with | some c => c :: x.classes | none => []).take 4
    nEdges := min 3 (x.nEdges + 1)
    spurRun := 0 }

/-- The period history starts with an edge, as the first accepted edge after WAIT (R54, R62). -/
def Tracker.first (x : Tracker) (stamp : Nat) : Tracker :=
  { x.restart .steady with nEdges := 1, lastStamp := stamp, stamps := [stamp], classes := [] }

/-! ## Declaring sync (R63, R65) -/

/-- SYNC_DECLARE (R63, R65): the accumulator is loaded from the last crank edge processed, in the resolved half cycle;
the controlling tracker opens the device's epoch. -/
def declareSync (t : Fin 2) (p : Nat) (h : Bool) (s : State) : State :=
  let s := setAstern t s.trk[t].astern s
  let x := s.trk[t]
  let y := loadFrom s t p h x.lastStamp x.period s.pt
  let s := s.updTrk t (fun _ => { y with
    acq := .sync
    cands := [⟨p, 0⟩]
    epochEdges := 0
    stalled := false
    slow := false
    verify := false
    undo := none
    camMissRun := 0
    row := []
    rowClean := false
    revStamps := [] })
  let b := TRK.base t
  let s := ((s.wr b TRK.SYNC_ANGLE_ANGLE (presented s.trk[t])).wr b TRK.SYNC_PT_PT s.ptLo).raise (37 + 8 * t.val)
  if s.dev.control = t ∧ s.dev.epochOpen = false ∧ (s.dev.st = .syncing ∨ s.dev.st = .armed) then openEpoch s else s

/-! ## Cam phase (R58, R59, R525) -/

/-- CFG.CAM's wheel is in use. -/
def camWheel (s : State) (t : Fin 2) : Option Nat :=
  if s.on (TRK.base t) TRK.CFG_CAM_EN then some (s.cfg (TRK.base t) TRK.CFG_CAM) else none

/-- The cam wheel's entries in use: CAMFEAT for the wheel of CFG.CAM, its record's entries for a wheel used for phase
only. DESIGN CHOICE (log entry 165): PH_CFG.EN on a wheel without the cam role measures its edges against its own record;
R66 speaks of cam wheels only. -/
def camEntries (s : State) (t : Fin 2) (w : Nat) : List Nat :=
  let n := if camWheel s t = some w then s.cfg (TRK.base t) TRK.CFG_CAMFEAT
    else match s.plan.wheels.find? (fun r => r.wheel == w) with | some r => r.nent | none => 0
  (List.range n).map (s.pat w)

/-- The crank angle at a stamp within the revolution, for a candidate at entry p (R58): the angle, whether it lies
past angle 0 from the edge before it, and how many edges ago that edge was accepted. The predicted next period is
rounded to the nearest tick as R79 forms it with q = 16,384 (DEDUCED, log entry 34). -/
def camTheta (s : State) (t : Fin 2) (p stamp : Nat) : Option (Nat × Bool × Nat) :=
  let x := s.trk[t]
  match (List.range x.stamps.length).find? (fun k => decide (x.stamps.getD k 0 ≤ stamp)) with
  | none => none
  | some k =>
    let j := backIdx s t p k
    let n := nextIdx x.astern (teeth s t) j
    let pn := pitch s t n
    let d := stamp - x.stamps.getD k 0
    let gone :=
      if k = 0 then
        let tn := divRound (x.period * pn) (pitch s t j)
        if tn = 0 then 0 else min (pn * d / tn) (pn - 1)
      else pn * d / (x.stamps.getD (k - 1) 0 - x.stamps.getD k 0)
    let a := trueRev s t j
    if x.astern then (if a < gone then some ((a + revAu - gone) % revAu, true, k) else some (a - gone, false, k))
    else if revAu ≤ a + gone then some ((a + gone) % revAu, true, k) else some (a + gone, false, k)

/-- Cam entries a cycle angle matches, with the class of the completed cam tooth on a width-coded cam (R58). -/
def camMatches (s : State) (t : Fin 2) (w : Nat) (cls : Option Nat) (a : Nat) : List Nat :=
  let es := camEntries s t w
  let n := es.length
  let win := 4096 * s.cfg (TRK.base t) TRK.ACQ_CAM_WIN
  (List.range n).filter (fun i =>
    within (cycleLen s t) win (entNominal (es.getD i 0)) a &&
      (decide (entKind (es.getD 0 0) < 8) ||
        cls == some (entKind (es.getD (prevIdx s.trk[t].astern n i) 0) - 8)))

/-- The hypotheses a cam edge resolves: the candidate's position and the half bit of the last crank edge (R58). -/
def hypotheses (s : State) (t : Fin 2) (e : EdgeIn) : List (Nat × Bool) :=
  let x := s.trk[t]
  x.cands.flatMap (fun c =>
    match camTheta s t c.pos e.stamp with
    | none => []
    | some (a, wrapped, k) =>
      [false, true].filterMap (fun h =>
        if (camMatches s t e.wheel e.wclass (a + (if h then revAu else 0))).length = 1 then
          let hj := h != wrapped
          let r := (List.range k).foldl (fun (r : Nat × Bool) _ =>
            (nextIdx x.astern (teeth s t) r.1, nextHalf x.astern (teeth s t) r.1 r.2)) (backIdx s t c.pos k, hj)
          some (c.pos, r.2)
        else none))

/-- A failed try in PHASE (R525); the last one allowed gives PHASE up with source 35 or 43 (R56). -/
def failedTry (t : Fin 2) (s : State) : State :=
  let s := s.updTrk t (fun x => { x with tries := x.tries + 1, stateEdges := 0 })
  if s.cfg (TRK.base t) TRK.ACQ_PHASE_TRIES ≤ s.trk[t].tries then (acqRestart t s).raise (35 + 8 * t.val) else s

/-- A cam edge is evaluated in PHASE (R58). -/
def evaluateCam (t : Fin 2) (e : EdgeIn) (s : State) : State :=
  match hypotheses s t e with
  | [(p, h)] => declareSync t p h s
  | _ => failedTry t s

/-- CAM_PHASE_ENTRY (R59): the latest cam edge stamped in the last crank revolution is evaluated at once. -/
def enterPhase (t : Fin 2) (s : State) : State :=
  let s := s.updTrk t (fun x => { x with acq := .phase, stateEdges := 0, tries := 0 })
  let x := s.trk[t]
  match x.lastCam with
  | some e => if camWheel s t = some e.wheel ∧ x.stamps.getLastD 0 ≤ e.stamp then evaluateCam t e s else s
  | none => s

/-! ## A crank edge before sync (R54 to R56) -/

/-- The candidates after an edge that each of them must match (R55, R525). -/
def stepCands (s : State) (t : Fin 2) (tj prev : Nat) (cls : Option Nat) (l : List Cand) : List Cand :=
  l.filterMap (fun c =>
    let n := nextIdx s.trk[t].astern (teeth s t) c.pos
    if ratioMatches s t tj prev n && classMatches s t cls c.pos then
      some ⟨n, c.count + (if isFeature s t n then 1 else 0)⟩
    else none)

/-- An edge in CONFIRM (R56, R525). -/
def confirmEdge (t : Fin 2) (tj prev : Nat) (cls : Option Nat) (s : State) : State :=
  let l := stepCands s t tj prev cls s.trk[t].cands
  let s := s.updTrk t (fun x => { x with cands := l, stateEdges := x.stateEdges + 1 })
  let need := s.cfg (TRK.base t) TRK.CFG_CONFIRM
  if l.isEmpty then acqRestart t s
  else if l.all (fun c => decide (need ≤ c.count)) then
    match l, cyc720 s t with
    | [c], false => declareSync t c.pos false s
    | [_], true => enterPhase t s
    | _, true =>
      if (camWheel s t).isSome then enterPhase t s
      else if 4 * teeth s t ≤ s.trk[t].stateEdges then acqRestart t s else s
    | _, false => if 4 * teeth s t ≤ s.trk[t].stateEdges then acqRestart t s else s
  else if 1 < l.length ∧ 4 * teeth s t ≤ s.trk[t].stateEdges then acqRestart t s
  else s

/-- An edge in PHASE (R56, R525). DESIGN CHOICE (log entry 135): of several candidates an edge drops those that fail R55, as
in CONFIRM, and acquisition restarts once none is left; R56's row for PHASE speaks of a crank edge that fails R55 only. -/
def phaseEdge (t : Fin 2) (tj prev : Nat) (cls : Option Nat) (s : State) : State :=
  let l := stepCands s t tj prev cls s.trk[t].cands
  let s := s.updTrk t (fun x => { x with cands := l, stateEdges := x.stateEdges + 1 })
  if l.isEmpty then acqRestart t s
  else if 2 * teeth s t ≤ s.trk[t].stateEdges then failedTry t s
  else s

/-- An edge in SEARCH (R56). DESIGN CHOICE (log entry 136): on a width-coded wheel the row of the classes is tried first, and
an unsteady edge whose classes match takes the positions they match alone; R56 gives its rows no order. -/
def searchEdge (t : Fin 2) (tj prev : Nat) (s : State) : State :=
  let byClass := if widthCoded s t then (List.range (teeth s t)).filter (sequenceMatches s t) else []
  let confirm := fun (l : List Nat) =>
    s.updTrk t (fun x => { x with acq := .confirm, stateEdges := 0, cands := l.map (fun p => ⟨p, 0⟩) })
  if !byClass.isEmpty then confirm byClass
  else if steadyEdge tj prev then s
  else
    let l := (List.range (teeth s t)).filter (fun p => isFeature s t p && ratioMatches s t tj prev p)
    if l.isEmpty then acqRestart t s else confirm l

/-- A crank edge reaches a tracker outside SYNC (R54, R56). -/
def acqEdge (t : Fin 2) (e : EdgeIn) (s : State) : State :=
  let x := s.trk[t]
  if x.nEdges = 0 then s.updTrk t (fun x => x.first e.stamp)
  else if x.nEdges = 1 then s.updTrk t (fun x => x.note (teeth s t) e)
  else
    let tj := e.stamp - x.lastStamp
    if acqSpurious s t tj then spuriousEdge t (acqRestart t) s
    else
      let bad := acqImplausible s t tj
      let s := s.updTrk t (fun x => x.note (teeth s t) e)
      if bad then acqRestart t s
      else match x.acq with
        | .steady =>
          let run := if steadyEdge tj x.period then x.run + 1 else 0
          let q := if run = s.cfg (TRK.base t) TRK.ACQ_N_STEADY then Acq.search else Acq.steady
          s.updTrk t (fun x => { x with run := run, acq := q })
        | .search => searchEdge t tj x.period s
        | .confirm => confirmEdge t tj x.period e.wclass s
        | .phase => phaseEdge t tj x.period e.wclass s
        | _ => s

/-! ## Direction before sync (R62) -/

/-- Astern acquisition is allowed: REVERSE_ARM of the tracker and an astern furrow set (R62). -/
def asternAllowed (s : State) (t : Fin 2) : Bool :=
  s.flag (TRK.base t) TRK.CTRL_REVERSE_ARM && s.flag PLAN.base PLAN.INFO_ASTERN

/-- The direction acquisition assumes for a class: astern only where that is allowed (R62). -/
def acqAstern (s : State) (t : Fin 2) (rev : Bool) : Bool := rev && asternAllowed s t

/-- A turn: the turning pulse's leading edge is the first accepted crank edge after WAIT (R62). -/
def turnHistory (t : Fin 2) (lead : Nat) (rev : Bool) (s : State) : State :=
  let a := acqAstern s t rev
  setAstern t a (s.updTrk t (fun x => x.first lead))

/-- A pulse is classed while the tracker is not in SYNC (R62): 1 forward, 2 reverse, 3 diagnostic. A class other than that of
the pulse before is a turn. A reverse pulse without astern acquisition holds the tracker in STEADY, and a pulse that shows
another direction than the one assumed so far (the first class, or REVERSE_ARM written meanwhile) gives up what SEARCH,
CONFIRM or PHASE had found: both are moves back to STEADY where the tracker was not there (R56). -/
def acqClass (t : Fin 2) (lead cls : Nat) (s : State) : State :=
  let x := s.trk[t]
  let rev := decide (cls = 2)
  if cls = 3 then s
  else
    let s := s.updTrk t (fun x => { x with sense := some rev })
    if x.acq = .off then s
    else if x.sense = some (!rev) then turnHistory t lead rev (acqRestart t s)
    else if x.nEdges = 0 ∨ x.acq = .wait then s
    else
      let held := rev && !asternAllowed s t
      if held = false ∧ acqAstern s t rev = x.astern then s
      else if x.acq = .steady then (if held then turnHistory t lead rev s else setAstern t (acqAstern s t rev) s)
      else turnHistory t lead rev (acqRestart t s)

/-! ## Timeout (R56) -/

/-- ACQ_STALL_TIMEOUT (R56): outside SYNC, no accepted edge within the stall timeout. -/
def acqTimeoutStep (t : Fin 2) (s : State) : State :=
  let x := s.trk[t]
  if x.acq ≠ .off ∧ x.acq ≠ .wait ∧ x.acq ≠ .sync ∧
      400000 * s.cfg (TRK.base t) TRK.STALL_CFG_TIMEOUT ≤ s.pt - x.lastStamp then
    s.updTrk t (fun x => x.forget .wait)
  else s

/-- ACQ_STALL_TIMEOUT. -/
def execAcqStallTimeout (t : Fin 2) (s : State) : Host.Outcome State Fault Refusal := .next (acqTimeoutStep t s)

end Sys2Proof.Machine
end

