-- ==== Sys2Proof/Machine/FlumeBase.lean ====
section
/-! DEFINITION. Flume channels: starting, ending and programming them (chapter 14, R385 to R397). -/

namespace Sys2Proof.Machine

/-- Channel c's block. -/
def fc (c : Fin 32) : Nat := FLC.base c

/-- STATE of channel c: 0 IDLE, 1 RUNNING, 2 HALTED. -/
def flumeState (s : State) (c : Fin 32) : Nat := s.rd (fc c) FLC.STAT_STATE

/-- Channel c is plan-slotted (R393). -/
def planned (s : State) (c : Fin 32) : Bool := bit (s.rd FLUME.base FLUME.PLANNED_PLAN) c.val

/-- A field of channel c's registers. -/
def fl (s : State) (c : Fin 32) (f : Fld) : Nat := s.rd (fc c) f

/-- A field of CTRL as channel c copied it at its start (R487). -/
def flCtl (s : State) (c : Fin 32) (f : Fld) : Nat := f.of s.flume[c].ctrl

/-- An address lies in a register region: the pages or a core control block (R391). -/
def isRegAddr (a : Nat) : Bool :=
  match regionOf a with
  | some .pages => true
  | some (.coreCtl _) => true
  | some (.peer _) =>
    match regionOf (a % 0x1000000) with
    | some .pages => true
    | some (.coreCtl _) => true
    | _ => false
  | _ => false

/-- The register regions of a device's map: first address and length (R435). -/
def regSpans : List (Nat × Nat) :=
  [(0x230000, 0x10000), (0x270000, 0x10000), (0x2B0000, 0x10000), (0x2F0000, 0x10000), (0x400000, 0x80000)]

/-- A span of bytes touches a register region, of this device's map or in a peer window. -/
def touchesRegs (a n : Nat) : Bool :=
  isRegAddr a || (0 :: (List.range 8).map (fun d => 0x10000000 + d * 0x1000000)).any (fun w =>
    regSpans.any (fun r => decide (w + r.1 < a + n) && decide (a < w + r.1 + r.2)))

/-- The unit a swap works in: 1, 2 or 4 bytes (R390). -/
def swapUnit (w : Nat) : Nat := [1, 2, 4, 4].getD w 1

/-- A span and its fixed-address flag obey R391: registers in whole words, fixed addresses in register regions only. -/
def spanOk (a n : Nat) (fix : Bool) : Bool :=
  if fix then isRegAddr a && decide (a % 4 = 0) && decide (n % 4 = 0)
  else !touchesRegs a n || (decide (a % 4 = 0) && decide (n % 4 = 0))

/-! ## Checksums (R389) -/

/-- One bit of the reflected CRC-32 of R154. -/
def crcShift (c : Nat) : Nat := if c % 2 = 1 then (c / 2) ^^^ 0xEDB88320 else c / 2

/-- One byte into the running CRC-32 state. -/
def crcByte (c b : Nat) : Nat :=
  crcShift (crcShift (crcShift (crcShift (crcShift (crcShift (crcShift (crcShift (c ^^^ b))))))))

/-- One 16-bit word into a Fletcher-32 state. -/
def fletcherWord (f w : Nat) : Nat :=
  let s1 := (f % 65536 + w) % 65535
  s1 + ((f / 65536 + s1) % 65535) * 65536

/-- One written byte into channel c's checksum. -/
def sumByte (c : Fin 32) (b : Nat) (s : State) : State :=
  match flCtl s c FLC.CTRL_SUM with
  | 1 => s.wr (fc c) FLC.SUM (crcByte (fl s c FLC.SUM) b)
  | 2 =>
    match s.flume[c].odd with
    | none => s.updFlume c (fun x => { x with odd := some b })
    | some lo => (s.wr (fc c) FLC.SUM (fletcherWord (fl s c FLC.SUM) (lo + 256 * b))).updFlume c (fun x => { x with odd := none })
  | _ => s

/-- A final odd byte is padded by a zero high byte. -/
def sumFlush (c : Fin 32) (s : State) : State :=
  match s.flume[c].odd with
  | some lo =>
    (s.wr (fc c) FLC.SUM (fletcherWord (fl s c FLC.SUM) lo)).updFlume c (fun x => { x with odd := none })
  | none => s

/-! ## Ends and starts -/

/-- Source 200 + c (R394). -/
def flumeEvt (c : Fin 32) (s : State) : State := s.raise (200 + c.val)

/-- A transfer ends with a result (R385, R394, R396). -/
def flumeEnd (c : Fin 32) (res : Nat) (s : State) : State :=
  let s := sumFlush c s
  let s := ((s.wr (fc c) FLC.STAT_STATE 0).wr (fc c) FLC.STAT_RESULT res).bumpWrap (fc c) FLC.CNT_ENDS
  let s := s.updFlume c (fun x => { x with nextEl := none, buf := none, part := none, appendEnd := none })
  if flCtl s c FLC.CTRL_EVT ≠ 0 then flumeEvt c s else s

/-- A halt (R392): the failing address and direction, source 200 + c. -/
def flumeHalt (c : Fin 32) (a : Nat) (write poison : Bool) (s : State) : State :=
  let s := ((s.wr (fc c) FLC.STAT_STATE 2).wr (fc c) FLC.STAT_FAIL_WR (b2n write)).wr (fc c) FLC.STAT_POISON (b2n poison)
  flumeEvt c ((s.wr (fc c) FLC.FAIL_ADDR_ADDR a).bump (fc c) FLC.CNT_HALTS)

/-- A BLOCK transfer may start (R390, R391). In list modes the elements are checked as they are fetched, the fixed-address
flag of their side with them; a list off its 8-byte boundary ends as ALIGN (DESIGN CHOICE, log entry 108). -/
def startOk (s : State) (c : Fin 32) : Bool :=
  let n := fl s c FLC.COUNT_BYTES
  let mode := fl s c FLC.CTRL_MODE
  let sf := s.flag (fc c) FLC.CTRL_SRC_FIX
  let df := s.flag (fc c) FLC.CTRL_DST_FIX
  decide (n % swapUnit (fl s c FLC.CTRL_SWAP) = 0) &&
    (if mode = 0 then spanOk (fl s c FLC.SRC_ADDR) n sf && spanOk (fl s c FLC.DST_ADDR) n df
     else if mode = 1 then decide (fl s c FLC.SRC_ADDR % 8 = 0) && (!df || isRegAddr (fl s c FLC.DST_ADDR))
     else decide (fl s c FLC.DST_ADDR % 8 = 0) && (!sf || isRegAddr (fl s c FLC.SRC_ADDR)))

/-- A channel starts (R385, R388, R487). -/
def startChan (c : Fin 32) (s : State) : State :=
  let n := fl s c FLC.COUNT_BYTES
  let mode := fl s c FLC.CTRL_MODE
  let s := ((s.wr (fc c) FLC.CUR_SRC_ADDR (fl s c FLC.SRC_ADDR)).wr (fc c) FLC.CUR_DST_ADDR (fl s c FLC.DST_ADDR)).wr
    (fc c) FLC.REMAIN_BYTES n
  let s := ((s.wr (fc c) FLC.SUM (fl s c FLC.SEED)).wr (fc c) FLC.STAT_RESULT 0).wr (fc c) FLC.STAT_STATE 1
  let el := if mode = 0 then none else some (fl s c (if mode = 1 then FLC.SRC_ADDR else FLC.DST_ADDR))
  let s := s.updFlume c (fun _ => { elLeft := if mode = 0 then n else 0, elDone := 0, elLast := mode == 0, elEvt := false,
                                    nextEl := el, zeros := 0, buf := none, part := none,
                                    ctrl := s.reg (fc c + 0xC), odd := none, appendEnd := none, excused := false })
  if n = 0 then flumeEnd c 2 s
  else if startOk s c = false then flumeEnd c 5 s
  else s

/-- A software start: refused on a channel that is running or halted, and on a plan-slotted one while armed; such a
start while disarmed taints the plan (R385, R393). -/
def softStart (c : Fin 32) (s : State) : State :=
  if planned s c ∧ s.armedOrLater then s.err 0x05
  else if flumeState s c ≠ 0 then s.err 0x60
  else startChan c (if planned s c then s.wr PLAN.base PLAN.INFO_TAINTED 1 else s)

/-- FLUME_ABORT (R392): a transfer held part-way ends with RESULT ABORT. -/
def abortChan (c : Fin 32) (s : State) : State :=
  if flumeState s c = 0 then s
  else
    let s := s.updLink (fun l => { l with reqs := l.reqs.filter (fun r => r.who != .flume c) })
    flumeEnd c 4 s

/-- A halted channel is to go on (R392). -/
def resumeChan (c : Fin 32) (s : State) : State :=
  if flumeState s c = 2 then s.wr (fc c) FLC.STAT_STATE 1 else s

/-! ## Programmed registers (R385, R393, R397) -/

/-- A write to a programmed register is discarded and counted, or carried out, tainting a plan-slotted channel's plan. -/
def progWrite (c : Fin 32) (bad : Bool) (f : State → State) (s : State) : State :=
  if planned s c ∧ s.armedOrLater then s.err 0x05
  else if flumeState s c ≠ 0 ∨ bad = true then s.err 0x60
  else f (if planned s c then s.wr PLAN.base PLAN.INFO_TAINTED 1 else s)

/-- CTRL holds a reserved code, a swap on channels 0 to 27, or a reserved bit (R397). -/
def ctrlBad (c : Fin 32) (v : Nat) : Bool :=
  decide (bits v 31 24 ≠ 0) || decide (bits v 13 0 ≠ 0) || decide (bits v 15 14 = 3) || decide (bits v 21 20 = 3) ||
    (decide (c.val < 28) && decide (bits v 19 18 ≠ 0))

/-- FLUME_CTRL_WRITE. -/
def ctrlWriteStep (c : Fin 32) (v : Word) (s : State) : State :=
  if s.clockOff 0x60 then s.err 0x60 else progWrite c (ctrlBad c v.toNat) (fun s => s.setReg (fc c + 0xC) v) s

/-! ## DMA actions (R142, R393) -/

/-- The channel a DMA action triggers. -/
def dmaChan (a : Act) : Fin 32 := Fin.ofNat 32 (entRes a.w0)

/-- The limit of a waiting DMA action. -/
def dmaLimit (a : Act) : Nat := a.target + a.dlim

/-- A DMA action takes effect: the channel starts and its order ends APPLIED (R184, R198, R393). -/
def dmaStart (a : Act) (s : State) : State :=
  (startChan (dmaChan a) (applyAct a (countShadow a s))).updFlume (dmaChan a) (fun x => { x with excused := a.excused })

/-- A DMA action at its target PT: the channel starts, or the action waits for it (R142). DESIGN CHOICE (log entry 203): while
ENABLE stops the channels' clock the action waits within the same limit, and contends with nothing. -/
def dmaEffect (a : Act) (s : State) : State :=
  if s.clockOff 0x60 then updAct a.serial (fun x => { x with phase := .waiting, aheadSwept := a.excused }) s
  else if flumeState s (dmaChan a) = 0 then dmaStart a s
  else
    let exc := a.excused || s.flume[dmaChan a].excused
    let s := contention exc s
    updAct a.serial (fun a => { a with phase := .waiting, aheadSwept := exc }) s

/-- DMA actions waiting for channel c start it while it is idle, oldest first, each within its limit; a transfer that ends
at its start leaves the channel to the next (R142, R393). -/
def dmaServeN : Nat → Fin 32 → State → State
  | 0, _, s => s
  | n + 1, c, s =>
    if flumeState s c ≠ 0 ∨ s.clockOff 0x60 = true then s
    else match s.plan.acts.find? (fun a => decide (a.kind = 8) && decide (dmaChan a = c) && decide (a.phase = .waiting)) with
      | some a => dmaServeN n c (if s.pt ≤ dmaLimit a then dmaStart a s else dropAct 2 a s)
      | none => s

/-- The DMA actions waiting for channel c. -/
def dmaServe (c : Fin 32) (s : State) : State := dmaServeN s.plan.acts.length c s

/-- A waiting DMA action whose limit has passed is dropped with reason OVERLAP (R142). -/
def dmaWaitExpire (a : Act) (s : State) : State :=
  if a.phase = .waiting ∧ dmaLimit a < s.pt then dropAct 2 a s else s

/-- The DMA action whose target PT has come at channel c. -/
def dueDma (c : Fin 32) (s : State) : Option Act :=
  s.plan.acts.find? (fun a => decide (a.kind = 8) && decide (dmaChan a = c) && decide (a.phase = .issued) && decide (a.target ≤ s.pt))

/-- FLUME_START: a DMA action that has come due starts the channel, else software's CMD.START does (R385, R393). -/
def flumeStartStep (c : Fin 32) (s : State) : State :=
  match dueDma c s with
  | some a => if s.ptStands then s else dmaServe c (dmaEffect a s)
  | none => if s.clockOff 0x60 then s.err 0x60 else softStart c s

/-! ## Commands -/

/-- FLUME_START. -/
def execFlumeStart (c : Fin 32) (s : State) : Host.Outcome State Fault Refusal := .next (flumeStartStep c s)
/-- FLUME_ABORT. A waiting DMA action may then start the channel. -/
def execFlumeAbort (c : Fin 32) (s : State) : Host.Outcome State Fault Refusal :=
  .next (s.clocked 0x60 (fun s => dmaServe c (abortChan c s)))
/-- FLUME_CTRL_WRITE. -/
def execFlumeCtrlWrite (c : Fin 32) (v : Word) (s : State) : Host.Outcome State Fault Refusal :=
  .next (ctrlWriteStep c v s)

end Sys2Proof.Machine
end

