-- ==== Sys2Proof/Machine/LinkBase.lean ====
section
/-! DEFINITION. What every use of the link is built from: ports, sending under the hop sequence (R415, R416), paths
(R412), peer accesses going out (R418 to R420), and the two receive FIFOs (R421, R430). -/

namespace Sys2Proof.Machine

/-! ## Ports (R430) -/

/-- The state code field of a port: 0 is LKU, 1 is LKD. -/
def portFld (p : Fin 2) : Fld := if p = 0 then LINK.STAT_UP else LINK.STAT_DOWN
/-- The state code of a port: 0 DOWN, 1 TRAINING, 2 UP on two lanes, 3 UP on one. -/
def portState (s : State) (p : Fin 2) : Nat := s.rd LINK.base (portFld p)
/-- The port is UP. -/
def portUp (s : State) (p : Fin 2) : Bool := decide (2 ≤ portState s p)
/-- The latency field of a port. -/
def latFld (p : Fin 2) : Fld := if p = 0 then LINK.LAT_UP else LINK.LAT_DOWN
/-- λ of a port in ticks (R411). -/
def portLat (s : State) (p : Fin 2) : Nat := s.rd LINK.base (latFld p)
/-- The other port. -/
def otherPort (p : Fin 2) : Fin 2 := if p = 0 then 1 else 0

/-- A port changes state: source 235 (R417). -/
def setPort (p : Fin 2) (n : Nat) (s : State) : State :=
  if portState s p = n then s
  else ((s.wr LINK.base (portFld p) n).updPort p (fun x => { x with since := s.tick })).raise 235

/-- The forwarding delay F in ticks (R409). -/
def forwardTicks : Nat := 40

/-! ## Sending -/

/-- A port puts something on its lanes. -/
def putOut (p : Fin 2) (x : LinkTx) (s : State) : State := s.updLink (fun l => { l with sent := l.sent ++ [(p.val, x)] })

/-- A frame goes out under the hop sequence of a port; behind 32 unacknowledged frames it waits (R416). -/
def sendFrame (p : Fin 2) (f : LinkFrame) (s : State) : State :=
  let x := s.link.ports[p]
  if 32 ≤ x.unacked.length then s.updPort p (fun x => { x with waiting := x.waiting ++ [f] })
  else
    let g := { f with lseq := x.txSeq }
    let s := s.updPort p (fun x => { x with
      txSeq := (x.txSeq + 1) % 256
      unacked := x.unacked ++ [g]
      ackAt := if x.unacked = [] then s.tick else x.ackAt })
    if portUp s p then putOut p (.frame g) s else s

/-- Frames that wait take the places that have become free (R416). -/
def sendWaiting (p : Fin 2) (s : State) : State :=
  let l := s.link.ports[p].waiting
  foldS l (sendFrame p) (s.updPort p (fun x => { x with waiting := [] }))

/-! ## Trained paths (R412, R419) -/

/-- The port that leads to a device over a trained path. -/
def pathPort (s : State) (d : Nat) : Option (Fin 2) :=
  match heardOf s d with
  | some h => if portUp s (Fin.ofNat 2 h.port) then some (Fin.ofNat 2 h.port) else none
  | none => none

/-! ## Peer accesses (R418 to R420) -/

/-- The device whose window an address lies in, where that is not this device. -/
def peerOf (s : State) (a : Nat) : Option Nat :=
  match regionOf a with
  | some (.peer d) => if d = s.linkId then none else some d
  | _ => none

/-- The address in this device's own map: its own window leads there (R418). -/
def ownAddr (a : Nat) : Nat := match regionOf a with | some (.peer _) => a % 0x1000000 | _ => a

/-- The initiator of a code (R444). -/
def initOfCode (n : Nat) : Initiator :=
  if 1 ≤ n ∧ n ≤ 4 then .core (Fin.ofNat 4 (n - 1))
  else if n = 0x10 then .hps else if n = 0x11 then .hpq else if n = 0x12 then .link else if n = 0x13 then .fl
  else if n = 0x14 then .planEngine else if n = 0x15 then .scrubber
  else if 0x20 ≤ n ∧ n < 0x40 then .flume (Fin.ofNat 32 (n - 0x20)) else .writer

/-- A frame of this device for a peer. -/
def frameTo (s : State) (typ op dst n tag init status be : Nat) (body : List Nat) : LinkFrame :=
  { typ := typ, op := op, src := s.linkId, dst := dst, bcast := false, lseq := 0, len := n - 1, tag := tag, init := init,
    status := status, be := be, body := body }

/-- The byte enables of an access of one or two words: those of the first word and those of the last (R415). -/
def byteEnables (a n : Nat) : Nat :=
  let mask := fun (lo hi : Nat) => (List.range 4).foldl (fun m i => if lo ≤ i ∧ i < hi then m + 2 ^ i else m) 0
  let o := a % 4
  if o + n ≤ 4 then mask o (o + n) * 17 else mask o 4 * 16 + mask 0 ((o + n - 1) % 4 + 1)

/-- The words of an access of n bytes at an address. -/
def wordsOf (a n v : Nat) : List Nat :=
  let w := v * 2 ^ (8 * (a % 4))
  if a % 4 + n ≤ 4 then [w % 2 ^ 32] else [w % 2 ^ 32, w / 2 ^ 32 % 2 ^ 32]

/-- A peer access is sent as a MEM frame; false where no trained path leads there (R418, R419). -/
def peerSend (who : PeerWho) (init a n : Nat) (write : Bool) (v : Nat) (s : State) : Bool × State :=
  let d := (a - 0x10000000) / 0x1000000
  match pathPort s d with
  | none => (false, s)
  | some p =>
    let s := monBeat 10 init s
    let words := wordsOf a n v
    let tag := s.link.nextTag
    let f := frameTo s 2 (if write then 2 else 1) d words.length tag init 0 (byteEnables a n)
      ((a % 0x1000000 / 4 * 4) :: (if write then words else []))
    let s := s.updLink (fun l => { l with
      nextTag := (tag + 1) % 256
      reqs := l.reqs ++ [⟨tag, d, a, write, decide (n = 2), who, init, s.tick⟩] })
    (true, sendFrame p f s)

/-- The remote staging buffer a write of SUB0 to SUB2 through a peer window fills (R420). -/
def remoteWrite (j : Fin 8) (n : Nat) (peer : Nat) (v : Word) (s : State) : State :=
  s.updLink (fun l =>
    let r := l.remote[j]
    { l with remote := l.remote.set j { r with words := r.words.set n v.toNat, peers := r.peers.set n (some peer) } })

/-- A remote staging buffer is marked failed (R192, R420). -/
def remoteFail (j : Fin 8) (s : State) : State :=
  s.updLink (fun l => { l with remote := l.remote.set j { l.remote[j] with failed := true } })

/-- What a remote submission that is not sent answers. -/
def remoteResult (j : Fin 8) (peer : Nat) (res seq : Word) (s : State) : State :=
  s.updLink (fun l =>
    let r := l.remote[j]
    { l with remote := l.remote.set j { r with failed := false, replies := tset r.replies peer (res, seq) (0, 0) } })

/-- A write of SUB3 through a peer window (R420), a beat of port 0xA: one ORDER SUBMIT frame with the four words, unless a held word names
another peer; none of it where no path leads there. The answer: sent, refused on this device, or no path. -/
def remoteSubmit (init : Initiator) (j : Fin 8) (peer : Nat) (v : Word) (s : State) : Option Bool × State :=
  let r := s.link.remote[j]
  if r.peers.any (fun q => q != none && q != some peer) then
    let s := (s.bump HDG.base HDG.REF_CNT0_FORMAT).raise 56
    (some false, remoteResult j peer (subRes (.refused 2) (occAfter (.refused 2) s)) (toWord (r.words.getD 0 0)) s)
  else match pathPort s peer with
    | none => (none, s)
    | some p =>
      let s := monBeat 10 (initCode init) s
      let tag := s.link.nextTag
      let f := frameTo s 3 1 peer 1 tag (initCode init) (b2n r.failed) 0
        (r.words ++ [v.toNat])
      let s := s.updLink (fun l => { l with
        nextTag := (tag + 1) % 256
        remote := l.remote.set j { r with failed := false }
        reqs := l.reqs ++ [⟨tag, peer, 0x10000000 + peer * 0x1000000 + 0x40604C, true, false, .order j, initCode init, s.tick⟩] })
      (some true, sendFrame p f s)

/-! ## The receive FIFOs (R421, R430) -/

/-- A read of LINK.EVT_POP takes the oldest event. -/
def evtPopStep (s : State) : State :=
  match s.link.evtFifo with
  | [] => s.respond 0
  | (src, n, d) :: rest =>
    (s.updLink (fun l => { l with evtFifo := rest })).respond (toWord (2 ^ 31 + d % 8 * 2 ^ 24 + n % 256 * 2 ^ 16 + src % 256))

/-- A read of LINK.MSG_PAY takes the oldest message and snapshots its stamp and PT. -/
def msgPayStep (s : State) : State :=
  match s.link.msgFifo with
  | [] => s.respond 0
  | (v, st, pt) :: rest =>
    let s := s.updLink (fun l => { l with msgFifo := rest })
    ((s.wr LINK.base LINK.MSG_STAMP_STAMP st).wr LINK.base LINK.MSG_PT_PT pt).respond (toWord v)

/-- A write of LINK.RST_CMD: with GO the next HEART carries a reset for the target (R428). -/
def rstCmdStep (v : Word) (s : State) : State :=
  let s := s.wr LINK.base LINK.RST_CMD_ID (LINK.RST_CMD_ID.of v)
  if bit v.toNat 3 then s.updLink (fun l => { l with rst := some (LINK.RST_CMD_ID.of v) }) else s

/-! ## Commands -/

/-- EVT_POP_READ. -/
def execEvtPopRead (s : State) : Host.Outcome State Fault Refusal := .next (evtPopStep s)
/-- MSG_PAY_READ. -/
def execMsgPayRead (s : State) : Host.Outcome State Fault Refusal := .next (msgPayStep s)
/-- LINK_RST_CMD. -/
def execLinkRstCmd (v : Word) (s : State) : Host.Outcome State Fault Refusal := .next (rstCmdStep v s)

end Sys2Proof.Machine
end

