-- ==== Sys2Proof/Machine/Cycles.lean ====
section
/-! DEFINITION. The crossbar's cycles (R125, R131, R139, R152, R362, R441, R444, R445): which initiator presents a request at a
port, and which one a port serves in a cycle. A request that is not served waits (log entry 150). -/

namespace Sys2Proof.Machine

/-- The address an access goes to on this device: a peer window, or its own window turned to its own map (R418). -/
def targetOf (s : State) (a : Nat) : Nat := if (peerOf s a).isSome then a else ownAddr a

/-- The crossbar port of an address; 11 where no region answers. -/
def portOf (a : Nat) : Nat := match regionOf a with | some r => r.port | none => 11

/-- BUSMAP gives an initiator plan slots at a port (R172). -/
def planSlotted (s : State) (code port : Nat) : Bool := (tget s.plan.busmap port []).contains code

/-! ## Far accesses of the cores (R362, R363) -/

/-- The first plan slot of core c at a port from a PT on, where BUSMAP gives it one, past those already taken. -/
def firstSlot (s : State) (c : Fin 4) (port t : Nat) (taken : List Nat) : Option Nat :=
  ((List.range (64 * (taken.length + 1))).find? (fun k =>
    namedAt s port (t + k) == 1 + c.val && !taken.contains (t + k))).map (fun k => t + k)

/-- The port of a far access. -/
def farPort (s : State) (f : FarAcc) : Nat := portOf (targetOf s f.addr)

/-- Plan slots taken, with those that accesses of abandoned tasks take before them (R363, R367). -/
def orphanSlots (s : State) (c : Fin 4) (port : Nat) : List FarAcc → List Nat → List Nat
  | [], used => used
  | f :: l, used =>
    orphanSlots s c port l (if farPort s f = port then used ++ (firstSlot s c port (f.issued + 2) used).toList else used)

/-- The plan slots of core c at a port that are taken before an access: by accesses served, by those of abandoned tasks
before it, and for the background by the task's (R363). -/
def takenSlots (s : State) (c : Fin 4) (task : Bool) (port : Nat) (g : FarAcc) : List Nat :=
  let x := s.cores[c]
  let used := orphanSlots s c port (x.orphans.takeWhile (fun o => o != g)) ((x.slotUsed.filter (fun e => e.1 == port)).map (fun e => e.2))
  if task = true ∨ x.task.isNone = true then used
  else match x.tb.wait with
    | .far f => if farPort s f = port then used ++ (firstSlot s c port (f.issued + 2) used).toList else used
    | _ => used

/-- The plan slot of an access, where its port holds plan slots for the core (R362). -/
def planSlot (s : State) (c : Fin 4) (task : Bool) (f : FarAcc) : Option Nat :=
  firstSlot s c (farPort s f) (f.issued + 2) (takenSlots s c task (farPort s f) f)

/-- A far access that a bank of core c waits for and has not sent to a peer. -/
def bankAccess (s : State) (c : Fin 4) (task : Bool) : List (Bool × FarAcc) :=
  let x := s.cores[c]
  match (if task then x.tb else x.bg).wait with
  | .far f =>
    if (x.on && !x.faulted && !x.parked && (!task || x.task.isSome) && !s.link.reqs.any (fun r => r.who == .core c task)) = true then
      [(task, f)]
    else []
  | _ => []

/-- The far accesses of core c whose request has reached a port: those of abandoned tasks, its task's, its background's (R362,
R367). -/
def coreRequests (s : State) (c : Fin 4) (port : Nat) : List (Bool × FarAcc) :=
  (s.cores[c].orphans.map (fun f => (true, f)) ++ bankAccess s c true ++ bankAccess s c false).filter (fun e =>
    decide (farPort s e.2 = port) && decide (e.2.issued + 2 ≤ s.pt))

/-- The cycles of a port that an initiator has won and not used: their PT. -/
def grantsOf (s : State) (code port : Nat) : List Nat :=
  (s.memc.grants.filter (fun g => decide (g.1 = port) && decide (g.2.2 = code))).map (fun g => g.2.1)

/-- Core c presents a request at a port: one that has had neither its plan slot nor an open cycle (R362, R444). -/
def corePresents (s : State) (c : Fin 4) (port : Nat) : Bool :=
  if planSlotted s (1 + c.val) port then
    (coreRequests s c port).any (fun e => (planSlot s c e.1 e.2).any (fun t => decide (s.pt ≤ t)))
  else decide ((grantsOf s (1 + c.val) port).length < (coreRequests s c port).length)

/-! ## Requests presented -/

/-- A peer's answer to channel c is awaited. -/
def chanAwaits (s : State) (c : Fin 32) : Bool :=
  s.link.reqs.any (fun r => r.who == .flume c || (r.who == .order 7 && r.init == 0x20 + c.val))

/-- Where the bytes wait to go that channel c has read, or appends: an append writes 4 bytes from CUR_DST on. -/
def chanTo (s : State) (c : Fin 32) : Nat :=
  let x := s.flume[c]
  fl s c FLC.CUR_DST_ADDR + (if x.appendEnd.isSome then 4 - (x.buf.getD [0, 0, 0, 0]).length else 0)

/-- Where channel c goes on with a read from an address, behind the bytes it has brought. -/
def chanFrom (s : State) (c : Fin 32) (a : Nat) : Nat := a + (s.flume[c].part.getD (0, 0)).1

/-- The address of channel c's next access: appended bytes or bytes that wait to be written, data, a list element. -/
def chanNext (s : State) (c : Fin 32) : Option Nat :=
  let x := s.flume[c]
  if flumeState s c ≠ 1 ∨ chanAwaits s c = true ∨ s.clockOff 0x60 = true then none
  else if x.appendEnd.isSome ∨ x.buf.isSome then some (chanTo s c)
  else if x.elLeft ≠ 0 then some (chanFrom s c (fl s c FLC.CUR_SRC_ADDR))
  else x.nextEl.map (chanFrom s c)

/-- The number and the address of a record. -/
def recNum (s : State) (k : Fin 4) (e : RecEntry) : Nat := e.num.getD (s.rd (CRING.base k e.ring) CRING.WP_COUNT)
/-- The address a record goes to (R292). -/
def recAddr (s : State) (k : Fin 4) (e : RecEntry) : Nat := e.rbase + 8 * (recNum s k e % 2 ^ (e.rsize - 3))

/-- The record writer has a record for a port (R293). -/
def writerPresents (s : State) (port : Nat) : Bool :=
  (List.finRange 4).any (fun k => match s.conv[k].fifo with
    | e :: _ => portOf (recAddr s k e) == port
    | [] => false)

/-- The address of the next beat of an access that waits. -/
def WaitReq.at_ : WaitReq → Nat
  | .access _ _ a _ _ _ => a
  | .frame _ _ f got => f.addr.toNat % 0x1000000 / 4 * 4 + 4 * got.length

/-- The initiator of an access that waits. -/
def WaitReq.init : WaitReq → Initiator
  | .access _ i _ _ _ _ => i
  | .frame _ _ _ _ => .link

/-- An initiator has an access that waits at a port. -/
def waitsAt (s : State) (init : Initiator) (port : Nat) : Bool :=
  s.memc.waits.any (fun r => r.init == init && portOf (targetOf s r.at_) == port)

/-- An initiator has an access that waits. -/
def waitsAny (s : State) (init : Initiator) : Bool := s.memc.waits.any (fun r => r.init == init)

/-- Two MEM frames come from one initiator of one peer, whose accesses act in the order of issue (R418). -/
def sameSource (f : MemFrame) (r : WaitReq) : Bool :=
  match r with
  | .frame _ _ g _ => f.src == g.src && f.init == g.init
  | _ => false

/-- An access that waits has nothing of its own before it: of a MEM frame, no frame of the same source. -/
def waitLeads (s : State) (r : WaitReq) : Bool :=
  match r with
  | .frame _ _ f _ => !(s.memc.waits.takeWhile (fun x => x != r)).any (sameSource f)
  | _ => true

/-- The access of the initiator with a code that waits to be served next at a port: its oldest there (R444). -/
def readyWait (s : State) (code port : Nat) : Option WaitReq :=
  (s.memc.waits.find? (fun r => decide (initCode r.init = code) && decide (portOf (targetOf s r.at_) = port))).filter (waitLeads s)

/-- The initiator with a code presents a request at a port (R139, R444). -/
def presents (s : State) (code port : Nat) : Bool :=
  (readyWait s code port).isSome ||
    (if 1 ≤ code ∧ code ≤ 4 then corePresents s (Fin.ofNat 4 (code - 1)) port
     else if 0x20 ≤ code ∧ code < 0x40 then
      (chanNext s (Fin.ofNat 32 (code - 0x20))).any (fun a => portOf (targetOf s a) == port)
     else if code = 0x40 then writerPresents s port
     else false)

/-! ## Whose a cycle is -/

/-- A cycle is open to traffic without plan slots: it names nobody, or its owner presents nothing (R139). In a freeze every
cycle is open (R493). -/
def cycleOpen (s : State) (port t : Nat) : Bool :=
  s.ptStands || decide (namedAt s port t = 0) || !presents s (namedAt s port t) port

/-- An initiator presents a request at a port as open traffic (R139). -/
def openAsks (s : State) (port code : Nat) : Bool := (s.ptStands || !planSlotted s code port) && presents s code port

/-! ## The rotations of an open cycle (R445) -/

/-- The place of the greatest number, the first of equals. -/
def greatestAt (l : List Int) : Nat :=
  (List.range l.length).foldl (fun k i => if l.getD k 0 < l.getD i 0 then i else k) 0

/-- The turns of a weighted rotation, from what each member has saved up: the one with most takes the next. -/
def turnsFrom (w : List Nat) : Nat → List Int → List Nat
  | 0, _ => []
  | n + 1, l =>
    let l := List.zipWith (fun (a : Int) (b : Nat) => a + b) l w
    let k := greatestAt l
    k :: turnsFrom w n (l.set k (l.getD k 0 - w.sum))

/-- A round of a weighted rotation: every member holds as many turns as its weight, spread evenly. DESIGN CHOICE (log entry
199): R445 says no more of how they are spread. -/
def spreadTurns (w : List Nat) : List Nat := turnsFrom w w.sum (w.map (fun _ => 0))

/-- A weight, 1 to 15 (R450). -/
def weight (s : State) (f : Fld) : Nat := max 1 (s.cfg XBAR.base f)

/-- A round of the three clusters: 0 cores, 1 Flume, 2 host (R445). -/
def clusterTurns (s : State) : List Nat :=
  spreadTurns [weight s XBAR.SHARE_CL_W0, weight s XBAR.SHARE_CL_W1, weight s XBAR.SHARE_CL_W2]

/-- A round of the host cluster: 0 HPS, 1 HPQ, 2 the link, 3 FL (R445). -/
def hostTurns (s : State) : List Nat :=
  spreadTurns [weight s XBAR.SHARE_HOST_HPS, weight s XBAR.SHARE_HOST_HPQ, weight s XBAR.SHARE_HOST_LINK, weight s XBAR.SHARE_HOST_FL]

/-- Weight k of a register of eight. -/
def nibble (w : Word) (k : Nat) : Nat := max 1 (bits w.toNat (4 * k + 3) (4 * k))

/-- The weight of core m. -/
def coreWeight (s : State) (m : Nat) : Nat := nibble (s.actReg (XBAR.base + 0x44)) m

/-- The weight of member m of the Flume cluster: channel m, or 32 for the record writer. -/
def flumeWeight (s : State) (m : Nat) : Nat :=
  if m = 32 then weight s XBAR.SHARE_MISC_WRITER else nibble (s.actReg (XBAR.base + 0x4C + 4 * (m / 8))) (m % 8)

/-- The member of a cluster a turn goes to, of those that present a request, with the turns it has then had on end: the one
served last while its weight lasts, else the next in the order. -/
def pickMember (asks : Nat → Bool) (w : Nat → Nat) (n last had : Nat) : Option (Nat × Nat) :=
  if last < n ∧ had < w last ∧ asks last = true then some (last, had + 1)
  else ((List.range n).find? (fun k => asks ((last + 1 + k) % n))).map (fun k => ((last + 1 + k) % n, 1))

/-- The rotations of a port. -/
def rotOf (s : State) (port : Nat) : Rot := tget s.memc.rot port initRot

/-- A turn comes to a cluster (R445): the code served, if any. The host cluster's own round goes on whether or not its owner has
a request. -/
def clusterPick (s : State) (asks : Nat → Bool) (k : Nat) (r : Rot) : Option Nat × Rot :=
  if k = 0 then
    match pickMember (fun m => asks (1 + m)) (coreWeight s) 4 r.core r.coreN with
    | some (m, n) => (some (1 + m), { r with core := m, coreN := n })
    | none => (none, r)
  else if k = 1 then
    match pickMember (fun m => asks (if m = 32 then 0x40 else 0x20 + m)) (flumeWeight s) 33 r.flume r.flumeN with
    | some (m, n) => (some (if m = 32 then 0x40 else 0x20 + m), { r with flume := m, flumeN := n })
    | none => (none, r)
  else
    let l := hostTurns s
    let code := 0x10 + l.getD (r.host % l.length) 0
    let r := { r with host := (r.host + 1) % l.length }
    if asks code then (some code, r) else (none, r)

/-- The clusters of a list are offered the turn one after the other. -/
def offerTurn (s : State) (asks : Nat → Bool) : List Nat → Rot → Option Nat × Rot
  | [], r => (none, r)
  | k :: l, r =>
    let x := clusterPick s asks k r
    match x.1 with
    | some c => (some c, x.2)
    | none => offerTurn s asks l x.2

/-- An open cycle of a port in which initiators ask for it: whom it serves, and its rotations then (R445). DESIGN CHOICE (log
entry 199): a cycle in which nobody asks leaves them as they are. -/
def openWinner (s : State) (port : Nat) (asks : Nat → Bool) : Option Nat × Rot :=
  let r := rotOf s port
  let l := clusterTurns s
  let k := l.getD (r.turn % l.length) 0
  offerTurn s asks [k, (k + 1) % 3, (k + 2) % 3] { r with turn := (r.turn + 1) % l.length }

/-- The initiators without a cluster: the plan engine and the scrubber take otherwise free cycles (R444). -/
def noCluster (code : Nat) : Bool := code == 0x14 || code == 0x15

/-- The codes of the initiators that have a cluster. -/
def clusterCodes : List Nat := [1, 2, 3, 4, 0x40, 0x10, 0x11, 0x12, 0x13] ++ (List.range 32).map (fun c => 0x20 + c)

/-- The winner of the present cycle of a port if an initiator asks for it now, among all that present a request. -/
def winnerFor (s : State) (code port : Nat) : Option Nat × Rot :=
  openWinner s port (fun c => decide (c = code) || openAsks s port c)

/-- A port serves an initiator in the present cycle: a plan request in its own slots only (R139), an open request in an open cycle
that the rotations give it (R445), and one beat in a cycle (R444). Where no region answers nothing is arbitrated. -/
def busAllows (s : State) (code port : Nat) : Bool :=
  if 11 ≤ port then true
  else if beatTaken s port s.pt then false
  else if !s.ptStands && planSlotted s code port then decide (namedAt s port s.pt = code)
  else cycleOpen s port s.pt &&
    (if noCluster code then !clusterCodes.any (openAsks s port) else decide ((winnerFor s code port).1 = some code))

/-- The rotations of a port replaced. -/
def setRot (port : Nat) (r : Rot) (s : State) : State :=
  { s with memc := { s.memc with rot := tset s.memc.rot port r initRot } }

/-- An initiator takes the present cycle of a port, which serves it: the rotations go on where it is an open one. -/
def takeTurn (code port : Nat) (s : State) : State :=
  if 11 ≤ port ∨ (!s.ptStands && planSlotted s code port) = true ∨ noCluster code = true then s
  else setRot port (winnerFor s code port).2 s

/-- An open request is presented at a port (R441). -/
def openPresented (s : State) (port : Nat) : Bool :=
  s.memc.waits.any (fun r => portOf (targetOf s r.at_) == port) || clusterCodes.any (openAsks s port)

/-- An access waits for a cycle. -/
def addWait (r : WaitReq) (s : State) : State := { s with memc := { s.memc with waits := s.memc.waits ++ [r] } }

end Sys2Proof.Machine
end

