-- ==== Sys2Proof/Machine/Runnels.lean ====
section
/-! DEFINITION. The Runnel engines (chapter 12, R335 to R345). A clock is two PT ticks; the counter is PT / 2. -/

namespace Sys2Proof.Machine

/-- Engine e's page block. -/
def rn (e : Fin 8) : Nat := RNE.base e

/-- Engine e runs: its bit of RUN.RUN is set, or was cleared in this clock (R339). -/
def rnlRun (s : State) (e : Fin 8) : Bool :=
  bit (s.rd RUN.base RUN.RUN_RUN) e.val || s.rnl[e].stopAt.any (fun t => decide (s.pt < t))

/-- The Runnel counter: bits 32..1 of PT (R335). -/
def rnlCount (s : State) : Nat := s.pt / 2 % 2 ^ 32

/-- The counter has reached T (R335). -/
def reached (s : State) (t : Nat) : Bool := decide ((rnlCount s + 2 ^ 32 - t) % 2 ^ 32 < 2 ^ 31)

/-- A register of the engine. -/
def rget (s : State) (e : Fin 8) (f : Fld) : Nat := s.rd (rn e) f

/-- A register of the engine written. -/
def rset (e : Fin 8) (f : Fld) (v : Nat) (s : State) : State := s.wr (rn e) f v

/-- A flag of engine e sets; source 192 + e if its FLAG_EN bit is 1 and it changes (R344, R524). -/
def rnlFlag (e : Fin 8) (f : Fld) (s : State) : State :=
  if s.flag (rn e) f then s
  else (s.wr (rn e) f 1).raiseIf (bit (s.rd (rn e) RNE.FLAG_EN_EN) f.lo) (192 + e.val)

/-- The RIO levels seen in this clock. -/
def seePins (pins : Word) (s : State) : State := { s with rioPins := pins.toNat }

/-! ## Fetching (R336, R337) -/

/-- OP. -/
def rop (w : Nat) : Nat := bits w 31 28
/-- PIN of bits 24..20. -/
def rpin (w : Nat) : Nat := bits w 24 20
/-- The immediate or DT of bits 19..0. -/
def rimm (w : Nat) : Nat := bits w 19 0

/-- A program word is one of the instructions of R337; every bit the table does not name is 0. -/
def rnlWellFormed (w : Nat) : Bool :=
  match rop w with
  | 0 => decide (bits w 27 0 = 0)
  | 1 => decide (bits w 27 26 ≠ 3)
  | 2 => decide (bits w 19 0 = 0)
  | 3 => decide (bits w 26 25 = 0) && decide (bits w 19 6 = 0) && decide (bits w 5 0 ≤ 32)
  | 4 => decide (bits w 19 14 = 0) && decide (bits w 7 6 = 0)
  | 5 => decide (bits w 25 0 = 0)
  | 6 => decide (bits w 24 0 = 0)
  | 7 => decide (bits w 27 24 ≤ 6) && decide (bits w 27 24 ≠ 5) && decide (bits w 23 20 ≤ 7)
  | 8 => decide (bits w 27 24 ≤ 6) && decide (bits w 23 20 ≤ 7) && (decide (bits w 27 24 < 5) || decide (bits w 23 0 = 0))
  | 9 => decide (bits w 27 20 = 0)
  | _ => false

/-- The word a running engine executes now: not waiting, and its clock has come. -/
def rnlDue (e : Fin 8) (s : State) : Option Nat :=
  let x := s.rnl[e]
  if rnlRun s e ∧ x.wait = .none ∧ x.nextAt ≤ s.pt ∧ s.ptStands = false then some (tget x.prog (rget s e RNE.PC) 0)
  else none

/-- The instruction of an opcode executes, if it is the one due and well formed. -/
def rnlExec (e : Fin 8) (op : Nat) (f : Nat → State → State) (s : State) : State :=
  match rnlDue e s with
  | none => s
  | some w => if rop w = op ∧ rnlWellFormed w then f w s else s

/-- The next word executes n clocks from now. -/
def rnlNext (e : Fin 8) (n : Nat) (s : State) : State :=
  let s := rset e RNE.PC (rget s e RNE.PC + 1) s
  s.updRnl e (fun x => { x with wait := .none, nextAt := s.pt / 2 * 2 + 2 * n })

/-- The instruction waits. -/
def rnlWait (e : Fin 8) (w : RnlWait) (s : State) : State := s.updRnl e (fun x => { x with wait := w })

/-- T advances. -/
def advanceT (e : Fin 8) (d : Nat) (s : State) : State := rset e RNE.T (rget s e RNE.T + d) s

/-! ## Pins (R338) -/

/-- Engine e drives RIOk. -/
def ownsPin (s : State) (e : Fin 8) (k : Nat) : Bool :=
  bit (s.cfg RUN.base RUN.PIN_OE_OE) k &&
    decide (bits (s.actReg (PINOWN.base (k / 8))).toNat (4 * (k % 8) + 2) (4 * (k % 8)) = e.val)

/-- A level goes on a pin. -/
def drivePin (k : Nat) (v : Bool) (s : State) : State :=
  let off := s.rioOut - (s.rioOut &&& 2 ^ k)
  { s with rioOut := if v then off + 2 ^ k else off }

/-- A pin action at T found the counter there already (R336). -/
def pinLate (e : Fin 8) (s : State) : State := rnlFlag e RNE.FLAGS_LATE (s.bump (rn e) RNE.CNT_LATE)

/-! ## The instructions (R337) -/

/-- STOP, and any reserved or malformed word. -/
def rnlStopStep (e : Fin 8) (s : State) : State :=
  match rnlDue e s with
  | none => s
  | some w =>
    if rop w = 0 ∨ rnlWellFormed w = false then
      let s := (rnlNext e 1 s).updRnl e (fun x => { x with stopAt := none })
      let v := s.rd RUN.base RUN.RUN_RUN
      rnlFlag e RNE.FLAGS_STOP (s.wr RUN.base RUN.RUN_RUN (v - (v &&& 2 ^ e.val)))
    else s

/-- An instruction that acts on a pin the engine does not drive changes nothing and sets FLAGS.PIN (R338). -/
def pinForeign (e : Fin 8) (s : State) : State := rnlNext e 1 (rnlFlag e RNE.FLAGS_PIN s)

/-- PIN's action, then T advances by DT. -/
def pinDo (e : Fin 8) (w : Nat) (s : State) : State :=
  let k := rpin w
  let v := match bits w 27 26 with | 0 => false | 1 => true | _ => !bit s.rioOut k
  if ownsPin s e k then rnlNext e 1 (advanceT e (rimm w) (drivePin k v s)) else pinForeign e s

/-- PIN. -/
def rnlPinF (e : Fin 8) (w : Nat) (s : State) : State :=
  if bit w 25 = false ∨ ownsPin s e (rpin w) = false then pinDo e w s
  else if reached s (rget s e RNE.T) then pinDo e w (pinLate e s)
  else rnlWait e .pin s

/-- WAITP completes: F clears, and with CAP Y takes the captured time. -/
def waitpDone (e : Fin 8) (w : Nat) (s : State) : State :=
  let s := rset e RNE.MISC_F 0 s
  rnlNext e 1 (if bit w 25 then rset e RNE.Y (rnlCount s + 2 ^ 32 - 2) s else s)

/-- WAITP's pin reads its level. -/
def waitpHolds (w : Nat) (s : State) : Bool := bit s.rioPins (rpin w) == bit w 27

/-- WAITP, at its execution or while it waits: the level first, then the timeout. -/
def waitpTry (e : Fin 8) (w : Nat) (s : State) : State :=
  if waitpHolds w s then waitpDone e w s
  else if bit w 26 ∧ reached s (rget s e RNE.T) then rnlNext e 1 (rset e RNE.MISC_F 1 s)
  else rnlWait e .waitp s

/-- One bit is shifted, and T advances by U. -/
def shiftBit (e : Fin 8) (w : Nat) (s : State) : State :=
  let sr := rget s e RNE.SR
  let bc := rget s e RNE.MISC_BC
  let s := if bit w 27 then
      rset e RNE.MISC_BC (bc - 1) (rset e RNE.SR (2 * sr) (drivePin (rpin w) (bit sr 31) s))
    else rset e RNE.MISC_BC (min 32 (bc + 1)) (rset e RNE.SR (2 * sr + b2n (bit s.rioPins (rpin w))) s)
  rset e RNE.MISC_DONE (rget s e RNE.MISC_DONE + 1) (advanceT e (rget s e RNE.U) s)

/-- SHIFT, at its execution or while it waits: a bit whose time has come is taken; the last one completes it, and so
does the loss of its pin, so that the next SHIFT takes all of its bits (R338). -/
def shiftTry (e : Fin 8) (w : Nat) (s : State) : State :=
  if bit w 27 = true ∧ ownsPin s e (rpin w) = false then pinForeign e (rset e RNE.MISC_DONE 0 s) else
  let n := bits w 5 0
  let s := if rget s e RNE.MISC_DONE < n ∧ reached s (rget s e RNE.T) then shiftBit e w s else s
  if n ≤ rget s e RNE.MISC_DONE then rnlNext e 1 (rset e RNE.MISC_DONE 0 s)
  else
    let s := s.updRnl e (fun x => { x with nextAt := s.pt / 2 * 2 + 2 })
    rnlWait e .shift s

/-- SHIFT: an output whose first time has already come is late (R336). -/
def rnlShiftF (e : Fin 8) (w : Nat) (s : State) : State :=
  let late := bit w 27 && ownsPin s e (rpin w) && decide (rget s e RNE.MISC_DONE < bits w 5 0) && reached s (rget s e RNE.T)
  shiftTry e w (if late then pinLate e s else s)

/-- The condition of a JMP. -/
def jmpHolds (s : State) (e : Fin 8) (w : Nat) : Bool :=
  match bits w 27 25 with
  | 0 => true
  | 1 => s.flag (rn e) RNE.MISC_F
  | 2 => !s.flag (rn e) RNE.MISC_F
  | 3 => bit s.rioPins (rpin w)
  | 4 => !bit s.rioPins (rpin w)
  | 5 => decide (bits w 13 8 ≤ rget s e RNE.MISC_BC)
  | 6 => reached s (rget s e RNE.T)
  | _ => decide (s.rnl[e].inF ≠ [])

/-- JMP. -/
def rnlJmpF (e : Fin 8) (w : Nat) (s : State) : State :=
  let t := rnlNext e 1 s
  if jmpHolds s e w then rset e RNE.PC (bits w 5 0) t else t

/-- A word enters OUT; FLAGS.DATA when it rises to OLVL (R341). -/
def pushOut (e : Fin 8) (v : Nat) (s : State) : State :=
  let s := s.updRnl e (fun x => { x with outF := x.outF ++ [v] })
  if s.rnl[e].outF.length = s.cfg (rn e) RNE.CFG_OLVL then rnlFlag e RNE.FLAGS_DATA s else s

/-- PUSH with room, or discarding without BLOCK. -/
def pushDo (e : Fin 8) (w : Nat) (s : State) : State :=
  let v := if bit w 27 then rget s e RNE.SR else rget s e RNE.X
  let full := decide (8 ≤ s.rnl[e].outF.length)
  let s := if full then rnlFlag e RNE.FLAGS_DROP ((rset e RNE.MISC_F 1 s).bump (rn e) RNE.CNT_DROP) else pushOut e v s
  rnlNext e 1 (if bit w 27 then rset e RNE.MISC_BC 0 (rset e RNE.SR 0 s) else s)

/-- PUSH. -/
def rnlPushF (e : Fin 8) (w : Nat) (s : State) : State :=
  if bit w 26 ∧ 8 ≤ s.rnl[e].outF.length then rnlWait e .push s else pushDo e w s

/-- PULL with a word, or F without BLOCK. -/
def pullDo (e : Fin 8) (w : Nat) (s : State) : State :=
  match s.rnl[e].inF with
  | [] => rnlNext e 1 (rset e RNE.MISC_F 1 s)
  | v :: rest =>
    let s := s.updRnl e (fun x => { x with inF := rest })
    rnlNext e 1 (match bits w 27 26 with
      | 0 => rset e RNE.X v s
      | 1 => rset e RNE.MISC_BC 32 (rset e RNE.SR v s)
      | 2 => rset e RNE.T v s
      | _ => rset e RNE.U v s)

/-- PULL. -/
def rnlPullF (e : Fin 8) (w : Nat) (s : State) : State :=
  if bit w 25 ∧ s.rnl[e].inF = [] then rnlWait e .pull s else pullDo e w s

/-- The value of a source register code. -/
def rnlSrc (s : State) (e : Fin 8) (w : Nat) : Nat :=
  match bits w 23 20 with
  | 0 => rget s e RNE.X
  | 1 => rget s e RNE.Y
  | 2 => rget s e RNE.T
  | 3 => rget s e RNE.U
  | 4 => rget s e RNE.SR
  | 5 => rnlCount s
  | 6 => rget s e RNE.MISC_C
  | _ => rimm w

/-- MOV. -/
def rnlMovF (e : Fin 8) (w : Nat) (s : State) : State :=
  let v := rnlSrc s e w
  rnlNext e 1 (match bits w 27 24 with
    | 0 => rset e RNE.X v s
    | 1 => rset e RNE.Y v s
    | 2 => rset e RNE.T v s
    | 3 => rset e RNE.U v s
    | 4 => rset e RNE.MISC_BC 0 (rset e RNE.SR v s)
    | _ => rset e RNE.MISC_C v s)

/-- T4 of R337. -/
def rnlT4 (c : Nat) : Nat := [0, 13, 7, 10, 14, 3, 9, 4, 1, 12, 6, 11, 15, 2, 8, 5].getD c 0

/-- ALU. -/
def rnlAluF (e : Fin 8) (w : Nat) (s : State) : State :=
  let x := rget s e RNE.X
  let v := rnlSrc s e w
  match bits w 27 24 with
  | 0 => rnlNext e 1 (rset e RNE.X (x + v) s)
  | 1 => rnlNext e 1 (rset e RNE.X (x + 2 ^ 32 - v) s)
  | 2 => rnlNext e 36 (if v = 0 then rset e RNE.MISC_F 1 s else rset e RNE.X (divRound x v) s)
  | 3 => rnlNext e 1 (rset e RNE.MISC_F (b2n (decide (x < v))) s)
  | 4 => rnlNext e 1 (rset e RNE.X (x &&& v) s)
  | 5 => rnlNext e 1 (rset e RNE.MISC_BC (min 32 (rget s e RNE.MISC_BC + 4))
      (rset e RNE.SR (16 * rget s e RNE.SR + x % 16) s))
  | _ => rnlNext e 1 (rset e RNE.MISC_C (rnlT4 (rget s e RNE.MISC_C) ^^^ (x % 16)) s)

/-- WAITT's end. -/
def waittDone (e : Fin 8) (w : Nat) (s : State) : State := rnlNext e 1 (advanceT e (rimm w) s)

/-- WAITT. -/
def rnlWaittF (e : Fin 8) (w : Nat) (s : State) : State :=
  if reached s (rget s e RNE.T) then waittDone e w s else rnlWait e .waitt s

/-- RNL_WAIT_END: a waiting instruction completes, or a waiting SHIFT takes its next bit, when its condition holds. -/
def rnlWaitEndStep (e : Fin 8) (s : State) : State :=
  let x := s.rnl[e]
  let w := tget x.prog (rget s e RNE.PC) 0
  if rnlRun s e = false ∨ s.ptStands = true then s
  else match x.wait with
    | .none => s
    | .pin => if reached s (rget s e RNE.T) then pinDo e w s else s
    | .waitp => waitpTry e w s
    | .shift => if x.nextAt ≤ s.pt then shiftTry e w s else s
    | .push => if x.outF.length < 8 then pushDo e w s else s
    | .pull => if x.inF ≠ [] then pullDo e w s else s
    | .waitt => if reached s (rget s e RNE.T) then waittDone e w s else s

/-! ## Starting, stopping, programming (R339 to R341) -/

/-- RNL_RUN_WRITE: engines start at PC in the next clock, or stop in it with their waiting instruction abandoned. -/
def rnlRunStep (v : Word) (s : State) : State :=
  let old := s.rd RUN.base RUN.RUN_RUN
  let s := s.wr RUN.base RUN.RUN_RUN v.toNat
  foldS (List.finRange 8) (fun e s =>
    if bit v.toNat e.val ∧ bit old e.val = false then
      s.updRnl e (fun x => { x with wait := .none, nextAt := s.pt / 2 * 2 + 2, stopAt := none })
    else if bit v.toNat e.val = false ∧ bit old e.val then s.updRnl e (fun x => { x with stopAt := some (s.pt / 2 * 2 + 2) })
    else s) s

/-- A write refused because the engine runs (R340). -/
def progRefused (e : Fin 8) (s : State) : State := rnlFlag e RNE.FLAGS_PROGW (s.err 0x50)

/-- SHIFT_CLR. -/
def shiftClrStep (e : Fin 8) (s : State) : State :=
  if rnlRun s e then progRefused e s
  else rset e RNE.MISC_DONE 0 (rset e RNE.MISC_BC 0 (rset e RNE.SR 0 s))

/-- After a PDATA access the address advances with AUTOINC. -/
def paddrAuto (e : Fin 8) (s : State) : State :=
  if s.flag (rn e) RNE.PADDR_AUTOINC then rset e RNE.PADDR_ADDR (rget s e RNE.PADDR_ADDR + 1) s else s

/-- RNL_PROGRAM_WRITE: a write of PC, PDATA, X, Y, T, U, SR or MISC, by its offset in the engine's block. -/
def rnlProgStep (e : Fin 8) (reg : Nat) (v : Word) (s : State) : State :=
  if reg ∉ [0x08, 0x14, 0x28, 0x2C, 0x30, 0x34, 0x38, 0x3C] then s
  else if rnlRun s e then progRefused e s
  else match reg with
    | 0x08 => rset e RNE.PC v.toNat s
    | 0x14 =>
      let a := rget s e RNE.PADDR_ADDR
      paddrAuto e (s.updRnl e (fun x => { x with prog := tset x.prog a v.toNat 0 }))
    | 0x28 => rset e RNE.X v.toNat s
    | 0x2C => rset e RNE.Y v.toNat s
    | 0x30 => rset e RNE.T v.toNat s
    | 0x34 => rset e RNE.U v.toNat s
    | 0x38 => rset e RNE.SR v.toNat s
    | _ => rset e RNE.MISC_C (RNE.MISC_C.of v) (rset e RNE.MISC_F (RNE.MISC_F.of v) (rset e RNE.MISC_BC (RNE.MISC_BC.of v) s))

/-- RNL_IN_WRITE. -/
def rnlInStep (e : Fin 8) (v : Word) (s : State) : State :=
  if 8 ≤ s.rnl[e].inF.length then s.err 0x50
  else s.updRnl e (fun x => { x with inF := x.inF ++ [v.toNat] })

/-- RNL_OUT_READ. -/
def rnlOutStep (e : Fin 8) (s : State) : State :=
  match s.rnl[e].outF with
  | [] => s.respond 0
  | v :: rest => (s.updRnl e (fun x => { x with outF := rest })).respond (toWord v)

/-! ## Commands -/

/-- RNL_RUN_WRITE. -/
def execRnlRunWrite (v : Word) (s : State) : Host.Outcome State Fault Refusal := .next (s.clocked 0x50 (rnlRunStep v))
/-- SHIFT_CLR. -/
def execShiftClr (e : Fin 8) (s : State) : Host.Outcome State Fault Refusal := .next (s.clocked 0x50 (shiftClrStep e))
/-- RNL_STOP. -/
def execRnlStop (e : Fin 8) (s : State) : Host.Outcome State Fault Refusal := .next (rnlStopStep e s)
/-- RNL_PIN. -/
def execRnlPin (e : Fin 8) (s : State) : Host.Outcome State Fault Refusal := .next (rnlExec e 1 (rnlPinF e) s)
/-- RNL_WAITP. -/
def execRnlWaitp (e : Fin 8) (pins : Word) (s : State) : Host.Outcome State Fault Refusal :=
  .next (rnlExec e 2 (waitpTry e) (seePins pins s))
/-- RNL_SHIFT. -/
def execRnlShift (e : Fin 8) (pins : Word) (s : State) : Host.Outcome State Fault Refusal :=
  .next (rnlExec e 3 (rnlShiftF e) (seePins pins s))
/-- RNL_JMP. -/
def execRnlJmp (e : Fin 8) (pins : Word) (s : State) : Host.Outcome State Fault Refusal :=
  .next (rnlExec e 4 (rnlJmpF e) (seePins pins s))
/-- RNL_PUSH. -/
def execRnlPush (e : Fin 8) (s : State) : Host.Outcome State Fault Refusal := .next (rnlExec e 5 (rnlPushF e) s)
/-- RNL_PULL. -/
def execRnlPull (e : Fin 8) (s : State) : Host.Outcome State Fault Refusal := .next (rnlExec e 6 (rnlPullF e) s)
/-- RNL_MOV. -/
def execRnlMov (e : Fin 8) (s : State) : Host.Outcome State Fault Refusal := .next (rnlExec e 7 (rnlMovF e) s)
/-- RNL_ALU. -/
def execRnlAlu (e : Fin 8) (s : State) : Host.Outcome State Fault Refusal := .next (rnlExec e 8 (rnlAluF e) s)
/-- RNL_WAITT. -/
def execRnlWaitt (e : Fin 8) (s : State) : Host.Outcome State Fault Refusal := .next (rnlExec e 9 (rnlWaittF e) s)
/-- RNL_WAIT_END. -/
def execRnlWaitEnd (e : Fin 8) (pins : Word) (s : State) : Host.Outcome State Fault Refusal :=
  .next (rnlWaitEndStep e (seePins pins s))
/-- RNL_IN_WRITE. -/
def execRnlInWrite (e : Fin 8) (v : Word) (s : State) : Host.Outcome State Fault Refusal := .next (s.clocked 0x50 (rnlInStep e v))
/-- RNL_OUT_READ. -/
def execRnlOutRead (e : Fin 8) (s : State) : Host.Outcome State Fault Refusal :=
  .next (if s.clockOff 0x50 then s.respond 0 else rnlOutStep e s)
/-- RNL_PROGRAM_WRITE. -/
def execRnlProgramWrite (e : Fin 8) (reg : BitVec 8) (v : Word) (s : State) : Host.Outcome State Fault Refusal :=
  .next (s.clocked 0x50 (rnlProgStep e reg.toNat v))

end Sys2Proof.Machine
end

