-- ==== Sys2Proof/Machine/Commit.lean ====
section
/-! DEFINITION. The common page header at work (R482 to R487): COMMIT with the refusals of every page, SOFT_RESET,
ENABLE and EVT_SET. -/

namespace Sys2Proof.Machine

/-! ## The shadowed registers of a page -/

/-- The page of an address in the peripheral region. -/
def pageOf (a : Nat) : Nat := (a - 0x400000) / 0x1000

/-- The register holds a shadowed field. -/
def isRws (a : Nat) : Bool := (fieldsAt a).any (fun f => f.acc == .rws)

/-- The duty, period and phase shadows, which COMMIT does not load (R304). -/
def isLoadReg (a : Nat) : Bool :=
  decide (0x440100 ≤ a) && decide (a < 0x440900) && [4, 8, 0xC, 0x10].contains ((a - 0x440100) % 0x80)

/-- The offsets of TRK_B that are reserved (R96, R97). -/
def isTrkBReserved (a : Nat) : Bool := decide (0x40310C ≤ a) && decide (a < 0x403124)

/-- The addresses of a block's shadowed registers, copy by copy. -/
def RegBlock.shadows (b : RegBlock) : List Nat :=
  let offs := ((b.fields.filter (fun f => f.acc == .rws)).map (fun f => f.off)).eraseDups
  (List.range b.n1).flatMap (fun i => (List.range b.n2).flatMap (fun j =>
    offs.map (fun o => b.base + i * b.s1 + j * b.s2 + o)))

/-- The addresses of a page's shadowed registers that COMMIT acts on. -/
def shadowsOf (p : Nat) : List Nat :=
  (regBlocks.flatMap RegBlock.shadows).filter (fun a =>
    decide (pageOf a = p) && decide (0x400000 ≤ a) && !isLoadReg a && !isTrkBReserved a)

/-! ## When a committed shadow acts (R48, R69, R97, R123, R187, R243, R245, R270, R297, R318, R333, R344, R383, R431, R451, R492) -/

/-- The next disarm, or the tick after the COMMIT on a disarmed device. -/
def atDisarm (s : State) : ActsAt := if s.armedOrLater then .disarm else .tick

/-- A boundary while an epoch is open, else the tick after the COMMIT. -/
def atBoundary (s : State) (w : ActsAt) : ActsAt := if s.dev.epochOpen then w else .tick

/-- TRK pages: SHADOW_CFG, SIG_CFG and IFAULT_MASK act at the tracker's own boundary (R97); PLAUS, the phase units and the
motion registers at the device's (R69, R123). -/
def trkActsAt (s : State) (t : Fin 2) (o : Nat) : ActsAt :=
  if o = 0x40 ∨ o = 0x44 then atDisarm s
  else if o = 0x10C ∨ o = 0x110 then .tick
  else if o = 0xE0 ∨ o = 0xF0 ∨ o = 0x108 then atBoundary s (.trkBoundary t)
  else atBoundary s .boundary

/-- The SHP page. -/
def shpActsAt (s : State) (o : Nat) : ActsAt :=
  if o < 0x100 then .clock 2
  else if (o - 0x100) % 0x80 < 0x40 then .profile (Fin.ofNat 16 ((o - 0x100) / 0x80))
  else atBoundary s .boundary

/-- The PWM page: TRIP_POL and TRIP_CFG act in the first drive clock after the COMMIT tick; of the rest, a stopped generator
takes its shadows at once. -/
def pwmActsAt (s : State) (o : Nat) : ActsAt :=
  let n := Fin.ofNat 16 ((o - 0x100) / 0x80)
  if o < 0x100 ∨ (o - 0x100) % 0x80 = 0x34 then .clock 2 else if pwmRun s n then .period n else .tick

/-- When the shadow at an address acts, committed now. -/
def actsAt (s : State) (a : Nat) : ActsAt :=
  let p := pageOf a
  let o := a % 0x1000
  if p = 0x02 then trkActsAt s 0 o
  else if p = 0x03 then trkActsAt s 1 o
  else if p = 0x04 then (if (o - 0x100) % 0x80 = 0 then atDisarm s else .tick)
  else if p = 0x05 then atDisarm s
  else if 0x10 ≤ p ∧ p < 0x20 then .clock 2
  else if p = 0x20 then shpActsAt s o
  else if p = 0x21 then (if o = 0x40 ∧ s.armedOrLater then .disarm else .clock 2)
  else if 0x30 ≤ p ∧ p < 0x34 then
    let k := Fin.ofNat 4 (p - 0x30)
    if convIdle s.conv[k] then .clock 5 else .scan k
  else if p = 0x34 then .clock 5
  else if p = 0x40 then pwmActsAt s o
  else if p = 0x48 then
    let n := Fin.ofNat 16 ((o - 0x100) / 0x40)
    if tmrRun s n then .countStep n else .tick
  else if p = 0x50 then .clock 2
  else if p = 0x79 then .frame
  else .tick

/-- A register whose word acts in two parts while the device is armed: the field that waits for the next disarm
(R243 SENSE_GAIN, R431 FOLLOW). -/
def splitField (a : Nat) : Option Fld :=
  if a = LINK.base + 0x40 then some LINK.CFG_FOLLOW
  else if 0x10 ≤ pageOf a ∧ pageOf a < 0x20 ∧ a % 0x1000 = 0x40 then some BANK.CFG_SENSE_GAIN
  else none

/-- The shadow at an address is pended as it stands; of a word that acts in two parts each part acts by itself. -/
def pendShadow (a : Nat) (s : State) : State :=
  let v := s.reg a
  match splitField a with
  | some f =>
    if s.armedOrLater then
      let mask := f.put 0 (2 ^ (f.hi - f.lo + 1) - 1)
      { s with committed := s.committed.filter (fun c => c.addr != a) ++
        [⟨actsAt s a, s.tick, a, v, ~~~mask⟩, ⟨.disarm, s.tick, a, v, mask⟩] }
    else s.pendCommit (actsAt s a) a v
  | none => s.pendCommit (actsAt s a) a v

/-! ## Refusals -/

/-- Neighbours in a list decrease. -/
def decreases : List Nat → Bool
  | a :: b :: l => decide (b < a) || decreases (b :: l)
  | _ => false

/-- WHL (R49). -/
def whlRefused (s : State) : Bool :=
  (List.range 4).any (fun w =>
    let b := WHN.base w
    let th1 := s.rd b WHN.DIR_CFG_TH1
    decide (th1 = 0) || decide (s.rd b WHN.DIR_CFG_TH2 ≤ th1) ||
      decreases ((List.range 7).map (fun i => bits ((s.reg (b + 0x14)).toNat * 2 ^ 32 + (s.reg (b + 0x10)).toNat) (8 * i + 7) (8 * i))))

/-- The acquisition and plausibility fields of a TRK page (R69). -/
def trkAcqRefused (s : State) (b : Nat) : Bool :=
  let out := fun (f : Fld) (lo hi : Nat) => decide (s.rd b f < lo) || decide (hi < s.rd b f)
  out TRK.CFG_TEETH 0 1024 || out TRK.CFG_CONFIRM 1 4 || out TRK.ACQ_PHASE_TRIES 1 15 || out TRK.ACQ_FEAT_TOL 1 63 ||
    out TRK.ACQ_N_STEADY 4 63 ||
    (s.flag b TRK.CFG_CAM_EN && (out TRK.CFG_CAMFEAT 1 32 || decide (s.rd b TRK.CFG_CAM = s.rd b TRK.CFG_CRANK))) ||
    decide (0x1000 ≤ s.rd b TRK.PLAUS_LO) || decide (s.rd b TRK.PLAUS_HI ≤ 0x1000)

/-- A phase unit has LO > HI (R69). -/
def trkPhaseRefused (s : State) (t : Nat) : Bool :=
  (List.range 4).any (fun j =>
    decide (signed 16 (s.rd (TRKPH.base t j) TRKPH.PH_LIM_HI) < signed 16 (s.rd (TRKPH.base t j) TRKPH.PH_LIM_LO)))

/-- The cross-check fields, in TRK_A only (R97). -/
def xchkRefused (s : State) : Bool :=
  let b := TRK.base 0
  decide (s.rd b TRK.XCHK_TOL_HARD ≤ s.rd b TRK.XCHK_TOL_SOFT) || decide (s.rd b TRK.XCHK_TOL_HARD = 0) ||
    (s.flag b TRK.XCHK_CFG_PEER_EN && decide (s.rd b TRK.XCHK_CFG_PEER_ID = s.linkId))

/-- The motion fields of a TRK page (R123). -/
def motionRefused (s : State) (b : Nat) : Bool :=
  let gap := s.rd b TRK.MOTION_CFG_GAP_LIM
  decide (s.rd b TRK.MOTION_CFG_SYNC_TOL = 0) || decide (s.rd b TRK.STALL_CFG_TIMEOUT = 0) ||
    (decide (0 < gap) && decide (gap ≤ 0x14)) || decide (s.rd b TRK.PLAUS_HI < gap * 256)

/-- A TRK page. -/
def trkRefused (s : State) (t : Nat) : Bool :=
  let b := TRK.base t
  trkAcqRefused s b || trkPhaseRefused s t || decide (8 < s.rd b TRK.SHADOW_CFG_N) || (decide (t = 0) && xchkRefused s) ||
    motionRefused s b

/-- BANK (R243). -/
def bankRefused (s : State) (b : Nat) : Bool :=
  decide (s.rd (BANK.base b) BANK.OC_CFG_LVL ≤ s.rd (BANK.base b) BANK.DECAY_CFG_ZERO) ||
    decide (s.rd (BANK.base b) BANK.DECAY_CFG_TMO = 0)

/-- LEV (R245). -/
def levRefused (s : State) : Bool :=
  let bad := fun (v : Nat) => decide (v = 0) || decide (1000 < v)
  bad (s.rd LEV.base LEV.CFG_WINDOW) ||
    (List.range 16).any (fun b => bad (s.rd (LEVB.base b) LEVB.LIM_CH) || bad (s.rd (LEVB.base b) LEVB.LIM_BANK))

/-- SHP (R270). -/
def shpRefused (s : State) : Bool :=
  decide (s.rd SHP.base SHP.CFG_TAIL_MAX = 0) ||
    (List.range 16).any (fun b => decide (s.rd (SHPB.base b) SHPB.DIP_CFG_SPAN = 0)) ||
    (List.range 64).any (fun i =>
      s.flag (SHPC.base (i / 4) (i % 4)) SHPC.DCFG_EN && decide (s.rd (SHPC.base (i / 4) (i % 4)) SHPC.DCFG_NOM = 0))

/-- A converter's open slot source code is one of R281's. -/
def openSrcOk (v : Nat) : Bool := decide (v = 0) || (decide (0x10 ≤ v) && decide (v ≤ 0x30))

/-- A ring configuration is refused (R292, R297). -/
def ringRefused (s : State) (k r : Nat) : Bool :=
  let n := s.rd (CRING.base k r) CRING.CTRL_SIZE
  let a := s.rd (CRING.base k r) CRING.BASE_ADDR
  decide (n < 8) || decide (18 < n) || decide (a % 2 ^ n ≠ 0) || decide (0x100000 < a + 2 ^ n)

/-- An open slot of a converter is refused (R297). -/
def openSlotRefused (s : State) (k j : Nat) : Bool :=
  let b := CSLOT.base k j
  decide (16 < s.rd b CSLOT.TRG_CFG_GATE) || !openSrcOk (s.rd b CSLOT.TRG_CFG_SRC) ||
    (decide (s.rd (CONV.base k) CONV.CFG_PATH = 0) && decide (s.rd b CSLOT.TRG_CFG_SRC ≠ 0) &&
      decide (s.rd b CSLOT.TRG_MASK_MASK ≠ 0) && !s.flag (CRING.base k (s.rd b CSLOT.TRG_RING_RING)) CRING.CTRL_EN)

/-- CONVk (R297). -/
def convRefused (s : State) (k : Nat) : Bool :=
  (List.range 21).any (fun p =>
    decide (s.rd (COEF.base k p) COEF.COEF_GAIN < 0x4000) || decide (0xFEB8 < s.rd (COEF.base k p) COEF.COEF_GAIN)) ||
    decide (20 < s.rd (CONV.base k) CONV.CFG_PARK) || (List.range 8).any (ringRefused s k) ||
    (List.range 4).any (openSlotRefused s k)

/-- ADCX (R297). -/
def adcxRefused (s : State) : Bool :=
  decide (s.rd ADCX.base ADCX.PAIR01_CFG_WIN = 0) || decide (s.rd ADCX.base ADCX.PAIR23_CFG_WIN = 0)

/-- One PWM generator (R318). -/
def pwnRefused (s : State) (n : Nat) : Bool :=
  let b := PWN.base n
  let m := s.rd b PWN.CFG_MASTER
  (decide (s.rd b PWN.CFG_MODE = 0) && s.flag b PWN.CFG_SAFE_A && s.flag b PWN.CFG_SAFE_B) ||
    decide (s.rd b PWN.DT_CFG_DT_MAX < s.rd b PWN.DT_CFG_DT_MIN) || decide (200 < s.rd b PWN.TRIP_CFG_BLANK) ||
    (decide (s.rd b PWN.BOOT_CFG_N ≠ 0) && (decide (s.rd b PWN.BOOT_CFG_W = 0) || decide (s.rd b PWN.BOOT_CFG_M = 0))) ||
    (s.flag b PWN.CFG_FOLLOW && (decide (m = n) || s.flag (PWN.base m) PWN.CFG_FOLLOW ||
      decide (s.rd (PWN.base m) PWN.CFG_GROUP ≠ s.rd b PWN.CFG_GROUP)))

/-- A code of R325 that is not reserved. -/
def tmrCodeOk (v : Nat) : Bool :=
  decide (v = 0) || (decide (0x10 ≤ v) && decide (v ≤ 0x52)) || (decide (0x58 ≤ v) && decide (v ≤ 0x5B)) ||
    (decide (0x60 ≤ v) && decide (v ≤ 0x80))

/-- One timer (R333). -/
def tmnRefused (s : State) (n : Nat) : Bool :=
  let ts := s.rd (TMN.base n) TMN.CFG_TSRC
  let cs := s.rd (TMN.base n) TMN.CAP_CFG_CSRC
  let mode := s.rd (TMN.base n) TMN.CFG_SMODE
  let own := fun (v : Nat) => decide (v = 0x10 + n) || decide (v = 0x20 + n)
  let isEvent := decide (0x10 ≤ ts) && !(decide (0x60 ≤ ts) && decide (ts < 0x80))
  !tmrCodeOk ts || !tmrCodeOk cs || own ts || own cs || decide (4 < mode) || (decide (mode = 1) && isEvent) ||
    (decide (2 ≤ mode) && decide (ts = 0))

/-- RUN (R344). -/
def runRefused (s : State) : Bool :=
  (List.range 8).any (fun e => decide (s.rd (RNE.base e) RNE.CFG_OLVL = 0) || decide (8 < s.rd (RNE.base e) RNE.CFG_OLVL))

/-- LINK (R431). -/
def linkRefused (s : State) : Bool :=
  let b := LINK.base
  let miss := s.rd b LINK.CFG_HB_MISS
  decide (miss = 0) || decide (40 < miss) || decide (s.rd b LINK.CFG_FLY < miss + 10) ||
    (s.flag b LINK.CFG_FOLLOW &&
      (decide (s.rd b LINK.CFG_SRC_MAIN = s.linkId) || s.flag b LINK.CFG_TAKE_EN))

/-- XBAR (R451): a weight of 0. -/
def xbarRefused (s : State) : Bool :=
  (XBAR.fields.filter (fun f => f.acc == .rws)).any (fun f => decide (s.rd XBAR.base f = 0)) ||
    (List.range 4).any (fun j => XFLUME.fields.any (fun f => decide (s.rd (XFLUME.base j) f = 0)))

/-- A COMMIT on a page is refused as a whole (R49 and the rule of each page). -/
def commitRefused (s : State) (p : Nat) : Bool :=
  if p = 0x02 then trkRefused s 0
  else if p = 0x03 then trkRefused s 1
  else if p = 0x04 then whlRefused s
  else if p = 0x05 then decide (s.rd PLAN.base PLAN.LOOKBACK_AU < 64) || decide (16384 < s.rd PLAN.base PLAN.LOOKBACK_AU)
  else if 0x10 ≤ p ∧ p < 0x20 then bankRefused s (p - 0x10)
  else if p = 0x20 then shpRefused s
  else if p = 0x21 then levRefused s
  else if 0x30 ≤ p ∧ p < 0x34 then convRefused s (p - 0x30)
  else if p = 0x34 then adcxRefused s
  else if p = 0x40 then (List.range 16).any (pwnRefused s)
  else if p = 0x48 then (List.range 16).any (tmnRefused s)
  else if p = 0x50 then runRefused s
  else if p = 0x58 then (List.range 256).any (fun n => decide (s.rd (CSRC.base n) CSRC.CFG_COAL_N = 0))
  else if p = 0x70 then linkRefused s
  else if p = 0x78 then decide (10 < s.rd MEM.base MEM.SCRUB_CFG_RATE)
  else if p = 0x79 then xbarRefused s
  else false

/-! ## The commands of the header -/

/-- COMMIT (R486): it is judged at the end of its tick. It has no effect on a page without shadows, and is discarded beside
a soft reset of its page (R495). -/
def commitStep (p : Nat) (s : State) : State :=
  if shadowsOf p = [] ∨ s.sys.softResets.contains p = true ∨ s.sys.commits.contains p = true then s
  else { s with sys := { s.sys with commits := s.sys.commits ++ [p] } }

/-- A COMMIT is judged on the shadows as they stand at the end of its tick; a refused one changes nothing but COMMIT_REF and
ERR_COUNT (R49, R486). -/
def commitJudge (p : Nat) (s : State) : State :=
  if commitRefused s p then (s.wr (pageBase p) HDR.STATUS_COMMIT_REF 1).err p
  else foldS (shadowsOf p) pendShadow (s.wr (pageBase p) HDR.STATUS_COMMIT_REF 0)

/-- The end of a tick: its COMMITs are judged. -/
def commitsJudge (s : State) : State :=
  foldS s.sys.commits commitJudge { s with sys := { s.sys with commits := [] } }

/-- The pages that honour SOFT_RESET (R485). -/
def softPage (p : Nat) : Bool :=
  p == 0x04 || (decide (0x30 ≤ p) && decide (p ≤ 0x34)) || [0x40, 0x48, 0x50, 0x58, 0x60, 0x6A].contains p

/-- SOFT_RESET (R485): honoured in STRAPPED and LOADED, acting in the next tick; a COMMIT of the same tick is discarded
(R495). -/
def softResetStep (p : Nat) (s : State) : State :=
  if softPage p ∧ (s.dev.st = .strapped ∨ s.dev.st = .loaded) then
    { s with
      sys := { s.sys with
        softResets := if s.sys.softResets.contains p then s.sys.softResets else s.sys.softResets ++ [p]
        commits := s.sys.commits.filter (fun q => q != p) } }
  else if (pageRowOf (pageBase p)).isSome then s.err p
  else s

/-- The registers of a page from an offset on at their reset values, nothing of it waiting. -/
def resetRegsFrom (o p : Nat) (s : State) : State :=
  let keep := fun (a : Nat) => decide (a < 0x400000) || decide (pageOf a ≠ p) || decide (a % 0x1000 < o)
  { s with
    regs := s.regs.filter (fun e => keep e.1)
    act := s.act.filter (fun e => keep e.1)
    committed := s.committed.filter (fun c => keep c.addr) }

/-- The registers of a page beyond its header at their reset values (R485). -/
def resetRegs (p : Nat) (s : State) : State := resetRegsFrom 0x40 p s

/-- Every register of a page at its reset value, those of its header among them (R467). -/
def resetPage (p : Nat) (s : State) : State := resetRegsFrom 0 p s

/-- The fields of a converter page that the straps reset (R470). -/
def strapConv (k : Fin 4) (s : State) : State :=
  let v := toWord (b2n (bit s.dev.straps.toNat 7))
  let a := CONV.base k + CONV.CFG_PATH.off
  (s.setReg a v).setAct a v

/-- A waiting request is an access of a transfer of the flash master. -/
def flashWait : WaitReq → Bool
  | .access .flash _ _ _ _ _ => true
  | _ => false

/-- The flash master ends what it is doing, and what of it waits for a cycle or for a peer is forgotten (R485). -/
def flashReset (s : State) : State :=
  let s := s.updLink (fun l => { l with reqs := l.reqs.filter (fun r => r.who != .flash) })
  { s with flash := initFlash, memc := { s.memc with waits := s.memc.waits.filter (fun r => !flashWait r) } }

/-- What a soft reset does beside the registers: the block's working state is that of reset. -/
def resetUnits (p : Nat) (s : State) : State :=
  if p = 0x04 then { s with wheels := Vector.replicate 4 initWheel, ptabLo := 0, ptabSnap := 0 }
  else if 0x30 ≤ p ∧ p < 0x34 then
    let k := Fin.ofNat 4 (p - 0x30)
    strapConv k { s.updConv k (fun _ => initConv) with trigs := s.trigs.filter (fun t => t.dest / 4 != k.val) }
  else if p = 0x34 then { s with dacAt := none }
  else if p = 0x40 then { s with pwm := Vector.replicate 16 initPwm }
  else if p = 0x48 then { s with tmr := Vector.replicate 16 initTimer, trigs := s.trigs.filter (fun t => decide (t.dest < 16)) }
  else if p = 0x50 then { s with rnl := s.rnl.map (fun x => initRnl x.prog), rioOut := 0 }
  else if p = 0x58 then { s with
    catch_ := []
    link := { s.link with evts := (s.link.evts.filter (fun e => e.2 == 1 || e.2 == 4)).map (fun e => (e.1, 4)) } }
  else if p = 0x60 then { s with flume := Vector.replicate 32 initFlume }
  else if p = 0x6A then flashReset s
  else s

/-- A soft reset acts (R485). -/
def doSoftReset (p : Nat) (s : State) : State := resetUnits p (resetRegs p s)

/-- The soft resets of the tick before act, where the device is still in STRAPPED or LOADED (R485). -/
def actSoftResets (s : State) : State :=
  let l := s.sys.softResets
  foldS l (fun p s => if s.dev.st = .strapped ∨ s.dev.st = .loaded then doSoftReset p s else s.err p) { s with sys := { s.sys with softResets := [] } }

/-- The block of a page that honours ENABLE is idle (R484). -/
def pageIdle (s : State) (p : Nat) : Bool :=
  if p = 0x48 then s.rd TMR.base TMR.RUN == 0
  else if p = 0x50 then s.rd RUN.base RUN.RUN_RUN == 0
  else if p = 0x60 then (List.finRange 32).all (fun c => flumeState s c == 0)
  else if p = 0x69 then s.host.hpq.isNone
  else if p = 0x6A then !s.flag FL.base FL.CTRL_BUSY
  else false

/-- A write of CTRL.ENABLE (R484); the DMA actions that have waited for the channels' clock may then start them. -/
def enableStep (p : Nat) (on : Bool) (s : State) : State :=
  if (pageRowOf (pageBase p)).isNone then s
  else if on then
    let t := s.wr (pageBase p) HDR.CTRL_ENABLE 1
    if p = 0x60 then foldS (List.finRange 32) dmaServe t else t
  else if pageIdle s p then s.wr (pageBase p) HDR.CTRL_ENABLE 0
  else s.err p

/-- A write of EVT_SET (R483): one event of each source named. -/
def evtSetStep (p v : Nat) (s : State) : State :=
  match pageRowOf (pageBase p) with
  | some r => foldS (List.range r.nsrc) (fun k s => s.raiseIf (bit v k) (r.src + k)) s
  | none => s

/-- A write of a page's CTRL: soft reset before COMMIT (R495), then ENABLE; bit 8 of a TRK page arms a reversal (R122). -/
def ctrlStep (p : Nat) (v : Word) (s : State) : State :=
  let s := if bit v.toNat 2 then softResetStep p s else s
  let s := if bit v.toNat 1 then commitStep p s else s
  let s := enableStep p (bit v.toNat 0) s
  if p = 2 ∨ p = 3 then s.wr (pageBase p) TRK.CTRL_REVERSE_ARM (b2n (bit v.toNat 8)) else s

/-- A write of EVT_RAW (R483, R495): 1 clears, but not a bit whose source is raised in this tick. -/
def evtRawStep (p : Nat) (v : Word) (s : State) : State :=
  match pageRowOf (pageBase p) with
  | none => s
  | some r =>
    let keep := (List.range r.nsrc).foldl (fun m k =>
      if s.inFlight.any (fun e => decide (e.src = r.src + k) && decide (e.raisedAt = s.tick)) then m ||| 2 ^ k else m) 0
    let a := pageBase p + 0x10
    s.setReg a (s.reg a &&& ~~~(v &&& ~~~(toWord keep)))

/-! ## Commands -/

/-- COMMIT. -/
def execCommit (page : Byte) (s : State) : Host.Outcome State Fault Refusal := .next (commitStep page.toNat s)
/-- SOFT_RESET. -/
def execSoftReset (page : Byte) (s : State) : Host.Outcome State Fault Refusal := .next (softResetStep page.toNat s)
/-- ENABLE_WRITE. -/
def execEnableWrite (page : Byte) (on : Bool) (s : State) : Host.Outcome State Fault Refusal :=
  .next (enableStep page.toNat on s)
/-- EVT_SET. -/
def execEvtSet (page : Byte) (v : Word) (s : State) : Host.Outcome State Fault Refusal :=
  .next (evtSetStep page.toNat v.toNat s)

end Sys2Proof.Machine
end

