-- ==== Sys2Proof/Machine/PlanCheck.lean ====
section
/-! DEFINITION. Reading a plan image and the checks of the load's check pass (chapter 06, R153 to R175, R256, R523).
A check answers the RESULT code of R186 and the item it fails at. -/

namespace Sys2Proof.Machine

/-! ## The image (R153 to R156) -/

/-- A directory entry (R156). -/
structure Sect where
  typ : Nat
  flags : Nat
  off : Nat
  size : Nat
  crc : Nat
  deriving DecidableEq, Repr

/-- A byte of memory as a read delivers it (R437). -/
def dataByte (s : State) (a : Nat) : Nat := s.wordData (a / 8) / 2 ^ (8 * (a % 8)) % 256

/-- n bytes from an address as a read delivers them, little-endian (R153). -/
def leData (s : State) (a : Nat) : Nat → Nat
  | 0 => 0
  | n + 1 => dataByte s a + 256 * leData s (a + 1) n

/-- CRC-32 of n bytes from an address (R154). -/
def crcOf (s : State) (a n : Nat) : Nat :=
  (List.range n).foldl (fun c i => crcByte c (dataByte s (a + i))) 0xFFFFFFFF ^^^ 0xFFFFFFFF

/-- A plan image in memory, or the plan copy with the offsets its layout gives the sections it holds. -/
structure Image where
  st : State
  base : Nat
  dir : List Sect

/-- n bytes at an offset of the image. -/
def Image.le (g : Image) (o n : Nat) : Nat := leData g.st (g.base + o) n

/-- The directory entry i of an image at a base address. -/
def sectAt (s : State) (base i : Nat) : Sect :=
  let a := base + 0x40 + 16 * i
  ⟨leData s a 2, leData s (a + 2) 2, leData s (a + 4) 4, leData s (a + 8) 4, leData s (a + 12) 4⟩

/-- The image at a base address, with its directory. -/
def imageAt (s : State) (base : Nat) : Image :=
  ⟨s, base, (List.range (leData s (base + 0x10) 2)).map (sectAt s base)⟩

/-- The section of a type; for CORE, the one of a core number. -/
def Image.sect (g : Image) (t n : Nat) : Option Sect := g.dir.find? (fun e => e.typ == t && e.flags == n)

/-- n bytes at an offset of a section; 0 where the section is absent. -/
def Image.rd (g : Image) (t o n : Nat) : Nat :=
  match g.sect t 0 with
  | some e => g.le (e.off + o) n
  | none => 0

/-- Bytes of an image from an offset are all 0. -/
def Image.zero (g : Image) (o n : Nat) : Bool := (List.range n).all (fun i => g.le (o + i) 1 == 0)

/-- Bytes of a section from an offset are all 0. -/
def Image.secZero (g : Image) (t o n : Nat) : Bool := (List.range n).all (fun i => g.rd t (o + i) 1 == 0)

/-- A size padded to a multiple of 8 (R157). -/
def pad8 (n : Nat) : Nat := (n + 7) / 8 * 8

/-- The size of a section. -/
def Image.size (g : Image) (t : Nat) : Nat := match g.sect t 0 with | some e => e.size | none => 0

/-- Header FLAGS.CYCLE720 (R155). -/
def Image.cyc720 (g : Image) : Bool := bit (g.le 8 4) 0
/-- Header FLAGS.ASTERN (R155). -/
def Image.astern (g : Image) : Bool := bit (g.le 8 4) 1
/-- IMAGE_SIZE (R155). -/
def Image.imageSize (g : Image) : Nat := g.le 0xC 4
/-- PLAN_ID (R155). -/
def Image.planId (g : Image) : Nat := g.le 0x14 4
/-- The cycle length L (R126, R155). -/
def Image.len (g : Image) : Nat := if g.cyc720 then 47185920 else revAu

/-! ### ACTION, SLOTDEF, FURROW (R158, R162, R165) -/

/-- NACT. -/
def Image.nact (g : Image) : Nat := g.rd 2 0 4
/-- Word 0 of action entry i. -/
def Image.act0 (g : Image) (i : Nat) : Nat := g.rd 2 (8 + 16 * i) 8
/-- Word 1 of action entry i. -/
def Image.act1 (g : Image) (i : Nat) : Nat := g.rd 2 (16 + 16 * i) 8
/-- NSLOT. -/
def Image.nslot (g : Image) : Nat := g.rd 3 0 4
/-- SLOTDEF entry k. -/
def Image.slot (g : Image) (k : Nat) : Nat := g.rd 3 (8 + 8 * k) 8
/-- NAHEAD. -/
def Image.nahead (g : Image) : Nat := g.rd 4 0 2
/-- NASTERN. -/
def Image.nastern (g : Image) : Nat := g.rd 4 2 2
/-- Furrow descriptor i. -/
def Image.furrow (g : Image) (i : Nat) : Nat := g.rd 4 (8 + 8 * i) 8
/-- Link value i. -/
def Image.link (g : Image) (i : Nat) : Nat := g.rd 4 (8 + 8 * (g.nahead + g.nastern) + 2 * i) 2

/-! ### WHEEL (R168) -/

/-- NWHEEL. -/
def Image.nwheel (g : Image) : Nat := g.rd 1 8 4
/-- TRK_A_CFG or TRK_B_CFG. -/
def Image.trkCfg (g : Image) (t : Nat) : Nat := g.rd 1 (4 * t) 4
/-- The offset of wheel record r in the section. -/
def Image.wheelOff (g : Image) : Nat → Nat
  | 0 => 16
  | r + 1 => let o := g.wheelOff r; o + 8 + 8 * bits (g.rd 1 o 8) 47 32
/-- The header of wheel record r. -/
def Image.wheelHdr (g : Image) (r : Nat) : Nat := g.rd 1 (g.wheelOff r) 8
/-- NENT of record r. -/
def Image.nent (g : Image) (r : Nat) : Nat := bits (g.wheelHdr r) 47 32
/-- Pattern entry i of record r. -/
def Image.wheelEnt (g : Image) (r i : Nat) : Nat := g.rd 1 (g.wheelOff r + 8 + 8 * i) 8
/-- The record of a wheel. -/
def Image.recOf (g : Image) (w : Nat) : Option Nat := (List.range g.nwheel).find? (fun r => bits (g.wheelHdr r) 7 0 == w)

/-! ### The other sections (R169 to R175) -/

/-- NWORD. -/
def Image.nword (g : Image) : Nat := g.rd 5 0 4
/-- Profile word p. -/
def Image.prof (g : Image) (p : Nat) : Nat := g.rd 5 (8 + 4 * p) 4
/-- Microcode word a. -/
def Image.ucode (g : Image) (a : Nat) : Nat := g.rd 5 (8 + 1024 + 4 * a) 4
/-- n bytes at an offset of core c's section; 0 where it is absent. -/
def Image.core (g : Image) (c o n : Nat) : Nat :=
  match g.sect 6 c with
  | some e => g.le (e.off + o) n
  | none => 0
/-- Core c has a section. -/
def Image.hasCore (g : Image) (c : Nat) : Bool := (g.sect 6 c).isSome
/-- NINSTR, NDATA and NFSLOT of core c. -/
def Image.ninstr (g : Image) (c : Nat) : Nat := g.core c 0 4
/-- NDATA of core c. -/
def Image.ndata (g : Image) (c : Nat) : Nat := g.core c 4 4
/-- NFSLOT of core c. -/
def Image.nfslot (g : Image) (c : Nat) : Nat := g.core c 8 4
/-- Frame-slot word k of core c. -/
def Image.fslot (g : Image) (c k : Nat) : Nat := g.core c (16 + 8 * k) 8
/-- NCH. -/
def Image.nch (g : Image) : Nat := g.rd 7 0 4
/-- LIST_ADDR. -/
def Image.listAddr (g : Image) : Nat := g.rd 7 4 4
/-- LIST_SIZE. -/
def Image.listSize (g : Image) : Nat := g.rd 7 8 4
/-- A channel of FLUME record r. -/
def Image.flumeCh (g : Image) (r : Nat) : Nat := g.rd 7 (16 + 24 * r) 1
/-- Value k (0 SRC to 4 SEED) of FLUME record r. -/
def Image.flumeVal (g : Image) (r k : Nat) : Nat := g.rd 7 (20 + 24 * r + 4 * k) 4
/-- The channels the FLUME section lists. -/
def Image.flumeChans (g : Image) : List Nat := (List.range g.nch).map g.flumeCh
/-- NPORT. -/
def Image.nport (g : Image) : Nat := g.rd 8 0 4
/-- PORT of BUSMAP record r. -/
def Image.port (g : Image) (r : Nat) : Nat := g.rd 8 (8 + 72 * r) 1
/-- The 64 initiator bytes of BUSMAP record r. -/
def Image.portSlots (g : Image) (r : Nat) : List Nat := (List.range 64).map (fun i => g.rd 8 (16 + 72 * r + i) 1)
/-- NSCAN. -/
def Image.nscan (g : Image) : Nat := g.rd 9 0 4
/-- The low 64 bits of SCAN entry i. -/
def Image.scan (g : Image) (i : Nat) : Nat := g.rd 9 (8 + 16 * i) 8

/-! ## Answers of the checks -/

/-- The lowest RESULT code among the checks an item breaks (R523). -/
def lowestCode (l : List (Bool × Nat)) : Option Nat :=
  l.foldl (fun x e => if e.1 && decide (e.2 < x.getD 256) then some e.2 else x) none

/-- The first item that fails, with its code. -/
def firstItem (n : Nat) (f : Nat → Option Nat) : Option (Nat × Nat) :=
  (List.range n).findSome? (fun i => (f i).map (fun c => (c, i)))

/-- The first check that fails. -/
def firstFail : List (Option (Nat × Nat)) → Option (Nat × Nat)
  | [] => none
  | some x :: _ => some x
  | none :: l => firstFail l

/-- A failure with a code at an item on a condition. -/
def failIf (c : Bool) (code item : Nat) : Option (Nat × Nat) := if c then some (code, item) else none

/-- A count and the size it implies (R157): RESULT SIZE, ITEM 0. -/
def sizeCheck (countOk : Bool) (size implied : Nat) : Option (Nat × Nat) :=
  failIf (!countOk || decide (size ≠ pad8 implied)) 6 0

/-! ## WHEEL (R46, R51 to R53, R60, R168) -/

/-- The nominal angles of record r. -/
def Image.noms (g : Image) (r : Nat) : List Nat := (List.range (g.nent r)).map (fun i => entNominal (g.wheelEnt r i))

/-- The pitch of entry i of a list of nominal angles, modulo m (R52). -/
def pitchIn (m : Nat) (l : List Nat) (i : Nat) : Nat :=
  let n := l.length
  nz ((l.getD i 0 + m - l.getD ((i + n - 1) % n) 0 % m) % m)

/-- A nominal angle list is strictly rising. -/
def rising : List Nat → Bool
  | a :: b :: l => decide (a < b) && rising (b :: l)
  | _ => true

/-- Two entries of a cam pattern lie within a distance of each other, or of each other plus a revolution (R60). -/
def camClash (len win : Nat) (l : List Nat) : Bool :=
  (List.range l.length).any (fun i => (List.range (i + 1)).any (fun j =>
    (decide (j < i) && within len win (l.getD i 0) (l.getD j 0)) || within len win (l.getD i 0) ((l.getD j 0 + revAu) % len)))

/-- A value of TRK_x.CFG names this wheel as its cam, in use (R60, R168). -/
def cfgCam (cfg w : Nat) : Bool := decide (bits cfg 10 0 ≠ 0) && bit cfg 18 && decide (bits cfg 17 16 = w)

/-- CAM_WIN in au as it acts on tracker t (R58, R60). -/
def camWin (s : State) (t : Fin 2) : Nat := 4096 * s.cfg (TRK.base t) TRK.ACQ_CAM_WIN

/-- The codes wheel record r breaks. -/
def wheelItem (s : State) (g : Image) (r : Nat) : Option Nat :=
  let h := g.wheelHdr r
  let n := g.nent r
  let w := bits h 7 0
  let crank := decide (bits h 15 8 = 1)
  let es := (List.range n).map (g.wheelEnt r)
  let ns := g.noms r
  let m := if crank then revAu else g.len
  let wide := es.filter (fun e => decide (8 ≤ entKind e))
  let gaps := es.filter (fun e => decide (entKind e = 1))
  let extras := es.filter (fun e => decide (entKind e = 2))
  let gapOk := fun (i : Nat) =>
    let e := g.wheelEnt r i
    let want := (entMiss e + 1) * pitchIn m ns ((i + n - 1) % n)
    entKind e != 1 || decide (100 * ((pitchIn m ns i : Int) - want).natAbs ≤ want)
  let feature := fun (i : Nat) =>
    let p := pitchIn m ns i
    let q := pitchIn m ns ((i + n - 1) % n)
    decide (4 * p < 3 * q) || decide (5 * q < 4 * p)
  lowestCode [
    (ns.any (fun a => decide (g.len ≤ a)), 7),
    (decide (bits h 63 48 ≠ 0) || decide (bits h 31 24 ≠ 0) || decide (bits h 23 16 = 0) || decide (3 < bits h 23 16) ||
      decide (bits h 15 8 = 0) || decide (2 < bits h 15 8) || decide (3 < w) ||
      (List.range r).any (fun q => bits (g.wheelHdr q) 7 0 == w), 8),
    (es.any (fun e => decide (bits e 47 35 ≠ 0) || decide (bits e 31 30 ≠ 0) ||
      (decide (3 ≤ entKind e) && decide (entKind e ≤ 7)) || (decide (entKind e ≠ 1) && decide (entMiss e ≠ 0))), 8),
    (decide (n = 0) || decide ((if crank then 1024 else 32) < n), 12),
    (es.any (fun e => decide (entKind e = 1) && (decide (entMiss e = 0) || decide (4 < entMiss e))), 12),
    (decide (8 < gaps.length) || decide (4 < extras.length) || (!wide.isEmpty && decide (wide.length ≠ n)), 12),
    (ns.any (fun a => decide (m ≤ a)) || !rising ns, 12),
    (!(List.range n).all gapOk, 12),
    (crank && wide.isEmpty && !(List.range n).any feature, 12),
    (g.cyc720 && [(0 : Fin 2), 1].any (fun t => cfgCam (g.trkCfg t.val) w && camClash g.len (2 * camWin s t) ns), 12),
    (!wide.isEmpty && decide (bits h 23 16 = 1), 13)]

/-- Tracker t's configuration breaks R168 (RESULT PATTERN). -/
def trkCfgBad (g : Image) (t : Nat) : Bool :=
  let c := g.trkCfg t
  let named := fun (role w n : Nat) =>
    match g.recOf w with
    | some r => decide (bits (g.wheelHdr r) 15 8 = role) && decide (g.nent r = n)
    | none => false
  decide (bits c 31 30 ≠ 0) || bit c 23 || decide (bits c 15 14 ≠ 0) || bit c 11 ||
    (if bits c 10 0 = 0 then decide (t = 0)
     else bit c 19 != g.cyc720 || decide (1024 < bits c 10 0) || decide (bits c 22 20 = 0) || decide (4 < bits c 22 20) ||
      !named 1 (bits c 13 12) (bits c 10 0) ||
      (bit c 18 && (decide (bits c 29 24 = 0) || decide (32 < bits c 29 24) || decide (bits c 17 16 = bits c 13 12) ||
        !named 2 (bits c 17 16) (bits c 29 24))))

/-- The WHEEL section; the trackers' values are checked after the records, as items 0 and 1. -/
def wheelCheck (s : State) (g : Image) : Option (Nat × Nat) :=
  firstFail [
    sizeCheck (decide (1 ≤ g.nwheel) && decide (g.nwheel ≤ 4)) (g.size 1) (if g.nwheel ≤ 4 then g.wheelOff g.nwheel else 0),
    failIf (!g.secZero 1 12 4) 8 0,
    firstItem g.nwheel (wheelItem s g),
    firstItem 2 (fun t => if trkCfgBad g t then some 12 else none)]

/-! ## ACTION (R3, R127, R152, R159, R162, R163) -/

/-- The resource, profile and fixed fields of a kind (R159). -/
def entryFieldsOk (g : Image) (w0 w1 : Nat) : Bool :=
  let res := entRes w0
  let plain := decide (entProf w0 = 0) && decide (bits w1 31 0 = 0xFFFF0000) && decide (entTrim w1 = 0) &&
    !entEndAngle w0 && !entPatchable w0
  match entKindOf w0 with
  | 1 | 2 => decide (res < 64) && decide (entProf w0 < 16) && bit (g.prof (16 * (res / 4) + entProf w0)) 31
  | 3 => plain && decide (res % 16 ≤ 2)
  | 4 => plain && decide (res < g.nscan)
  | 5 => plain && g.hasCore (res / 64) && decide (res % 64 < g.nfslot (res / 64)) && fsRsv (g.fslot (res / 64) (res % 64))
  | 6 | 7 => plain && decide (res < 16)
  | 8 => plain && decide (res < 32) && g.flumeChans.contains res
  | 9 => plain && decide (bits res 6 3 = 0)
  | _ => false

/-- The codes action entry i breaks. -/
def actionItem (g : Image) (i : Nat) : Option Nat :=
  let w0 := g.act0 i
  let w1 := g.act1 i
  let th := entStart w0
  let tr := entTrim w1
  let d := g.slot (entSlot w0)
  let used := decide (entSlot w0 < g.nslot) && bit d 63
  let cut := bits d 57 32
  lowestCode [
    (decide (g.len ≤ th) || decide (th < tr) || decide (g.len ≤ th + tr) || (decide (tr ≠ 0) && !entIsBank w0), 7),
    (!entryFieldsOk g w0 w1 || !used, 8),
    (decide (bits w1 15 0 = 0 ∧ bits w1 31 16 = 0) || decide (bits w1 31 16 < bits w1 15 0), 9),
    (used && (if entAstern w0 then decide (cut < th + tr + 1024) else decide (th < cut + 1024 + tr)), 11)]

/-- The ACTION section. -/
def actionCheck (g : Image) : Option (Nat × Nat) :=
  firstFail [sizeCheck (decide (1 ≤ g.nact) && decide (g.nact ≤ 16384)) (g.size 2) (8 + 16 * g.nact),
    failIf (!g.secZero 2 4 4) 8 0, firstItem g.nact (actionItem g)]

/-! ## SLOTDEF (R162) -/

/-- The codes SLOTDEF entry k breaks. -/
def slotItem (g : Image) (k : Nat) : Option Nat :=
  let d := g.slot k
  lowestCode [(decide (g.len ≤ bits d 57 32), 7),
    (decide (bits d 62 58 ≠ 0) || (!bit d 63 && decide (d ≠ 0)), 8)]

/-- The SLOTDEF section. -/
def slotCheck (g : Image) : Option (Nat × Nat) :=
  firstFail [sizeCheck (decide (1 ≤ g.nslot) && decide (g.nslot ≤ 4096)) (g.size 3) (8 + 8 * g.nslot),
    failIf (!g.secZero 3 4 4) 8 0, firstItem g.nslot (slotItem g)]

/-! ## FURROW (R165, R166) -/

/-- The furrow class and instance an action belongs to (R159, R165). -/
def furrowOfAct (g : Image) (i : Nat) : Nat × Nat :=
  let w0 := g.act0 i
  let res := entRes w0
  match entKindOf w0 with
  | 1 | 2 => (1, res / 4)
  | 3 => (2, res / 16)
  | 4 => (3, bits (g.scan res) 7 0)
  | 5 => (4, res / 64)
  | 6 => (5, res)
  | 7 => (6, res)
  | 8 => (7, res)
  | _ => (8, 0)

/-- The actions the links visit from one on, at most n of them. -/
def Image.chain (g : Image) : Nat → Nat → List Nat
  | 0, _ => []
  | n + 1, i => if g.nact ≤ i then [] else i :: (if g.link i = 0xFFFF then [] else g.chain n (g.link i))

/-- The actions of furrow f. -/
def Image.members (g : Image) (f : Nat) : List Nat := g.chain (bits (g.furrow f) 47 32) (bits (g.furrow f) 31 16)

/-- Two actions stand in a furrow's order: by start in its direction, equal starts by index (R166). -/
def inOrder (g : Image) (astern : Bool) (a b : Nat) : Bool :=
  let x := entStart (g.act0 a)
  let y := entStart (g.act0 b)
  if x = y then decide (a < b) else if astern then decide (y < x) else decide (x < y)

/-- A list of actions stands in order. -/
def allInOrder (g : Image) (astern : Bool) : List Nat → Bool
  | a :: b :: l => inOrder g astern a b && allInOrder g astern (b :: l)
  | _ => true

/-- Instances of a furrow class (R165). -/
def classInstances (c : Nat) : Nat := [0, 16, 16, 4, 4, 16, 16, 32, 1].getD c 0

/-- Descriptor f breaks R165 or R166. DESIGN CHOICE (log entry 173): every failure of a descriptor has RESULT FURROW, its
reserved bits, CLASS and INST included; R186 names R165 under no code. -/
def furrowBad (g : Image) (f : Nat) : Bool :=
  let d := g.furrow f
  let ms := g.members f
  let astern := bit d 48
  decide (bits d 63 49 ≠ 0) || (astern != decide (g.nahead ≤ f)) || decide (bits d 47 32 = 0) ||
    decide (classInstances (bits d 15 12) ≤ bits d 11 0) || decide (g.nact ≤ bits d 31 16) ||
    (List.range f).any (fun e => bits (g.furrow e) 15 0 == bits d 15 0 && bit (g.furrow e) 48 == astern) ||
    decide (ms.length ≠ bits d 47 32) || decide (g.link (ms.getLast?.getD 0) ≠ 0xFFFF) ||
    ms.any (fun i => furrowOfAct g i != (bits d 15 12, bits d 11 0) || entAstern (g.act0 i) != astern) ||
    !allInOrder g astern ms || (List.range f).any (fun e => (g.members e).any (fun i => ms.contains i))

/-- The FURROW section; actions in no furrow are found at their link values. DESIGN CHOICE (log entry 170): after all
descriptors, first NASTERN against FLAGS.ASTERN with ITEM 0, then an action in no furrow with its index as ITEM; R523 does not
say which item they are. -/
def furrowCheck (g : Image) : Option (Nat × Nat) :=
  let n := g.nahead + g.nastern
  let all := (List.range n).flatMap g.members
  firstFail [
    failIf (decide (g.rd 4 4 4 ≠ g.nact) || decide (g.size 4 ≠ pad8 (8 + 8 * n + 2 * g.nact))) 6 0,
    failIf (!g.secZero 4 (8 + 8 * n + 2 * g.nact) (g.size 4 - (8 + 8 * n + 2 * g.nact))) 8 0,
    firstItem n (fun f => if furrowBad g f then some 10 else none),
    failIf (decide (g.nastern ≠ 0) != g.astern) 10 0,
    firstItem g.nact (fun i => if all.contains i then none else some 10)]

/-! ## MCODE (R169, R252, R253, R256) -/

/-- A microcode word keeps the zero bits, opcodes and conditions of R252 and R253, and jumps below NWORD (R256). -/
def ucodeOk (nword w : Nat) : Bool :=
  let args := bits w 7 0
  let timed := decide (bits w 27 26 = 0)
  match bits w 31 28 with
  | 0 => decide (w = 0)
  | 1 => decide (bits w 27 7 = 0)
  | 2 => timed && decide (args = 0)
  | 3 => timed && decide (bits w 6 3 = 0)
  | 4 => timed
  | 5 => timed && decide (bits w 7 2 = 0)
  | 6 => timed && decide (bits w 7 3 = 0)
  | 7 => decide (bits w 27 12 = 0) && decide (bits w 11 0 < nword)
  | 8 => decide (bits w 26 24 ≤ 2) && decide (bits w 23 12 = 0) && decide (bits w 11 0 < nword)
  | 9 => decide (bits w 27 5 = 0) && decide (bits w 3 2 = 0)
  | _ => false

/-- A profile word is right, and starts at SETSW words (R169, R256). -/
def profOk (g : Image) (w : Nat) : Bool :=
  if bit w 31 then
    decide (bits w 30 28 = 0) && decide (bits w 15 12 = 0) && decide (bits w 27 16 < g.nword) && decide (bits w 11 0 < g.nword) &&
      decide (bits (g.ucode (bits w 27 16)) 31 28 = 1) && decide (bits (g.ucode (bits w 11 0)) 31 28 = 1)
  else decide (w = 0)

/-- The MCODE section. DESIGN CHOICE (log entry 169): its profile words are all checked before its microcode words; both are
numbered from 0, and R523 and R256 do not order them. -/
def mcodeCheck (g : Image) : Option (Nat × Nat) :=
  let n := g.nword
  firstFail [
    sizeCheck (decide (n ≤ 4096)) (g.size 5) (8 + 1024 + 4 * n),
    failIf (!g.secZero 5 4 4 || !g.secZero 5 (1032 + 4 * n) (g.size 5 - (1032 + 4 * n))) 8 0,
    firstItem 256 (fun p => if profOk g (g.prof p) then none else some 8),
    firstItem n (fun a =>
      let op := bits (g.ucode a) 31 28
      if !ucodeOk n (g.ucode a) || (decide (a + 1 = n) && !(decide (op = 0) || decide (op = 7))) then some 8 else none)]

/-! ## CORE (R132, R170) -/

/-- Frame slot k of core c breaks R132 or R170. DESIGN CHOICE (log entry 172): every failure of a frame-slot word has RESULT
FRAME, its reserved bits and its ENTRY included; R186 names R170 under ENTRY as well. -/
def fslotBad (g : Image) (c k : Nat) : Bool :=
  let w := g.fslot c k
  decide (bits w 63 38 ≠ 0) || bit w 11 || decide (g.ninstr c ≤ fsEntry w) || decide (fsBudget w = 0) ||
    decide (2000 < fsBudget w) || decide (1999 < fsStart w) || decide (2000 < fsStart w + fsBudget w) ||
    (decide (0 < k) && decide (fsStart w < fsStart (g.fslot c (k - 1)) + fsBudget (g.fslot c (k - 1))))

/-- Core c's section, if it has one. -/
def coreCheck (g : Image) (c : Nat) : Option (Nat × Nat) :=
  match g.sect 6 c with
  | none => none
  | some e =>
    let n := 16 + 8 * g.nfslot c + 4 * g.ninstr c + 2 * g.ndata c
    firstFail [
      sizeCheck (decide (1 ≤ g.ninstr c) && decide (g.ninstr c ≤ 16384) && decide (g.ndata c ≤ 32768) &&
        decide (1 ≤ g.nfslot c) && decide (g.nfslot c ≤ 64)) e.size n,
      failIf (decide (g.core c 12 4 ≠ 0) || !g.zero (e.off + n) (e.size - n)) 8 0,
      firstItem (g.nfslot c) (fun k => if fslotBad g c k then some 15 else none)]

/-! ## FLUME, BUSMAP, SCAN, ENVELOPE, TRIM (R171 to R175) -/

/-- The FLUME section. -/
def flumeCheck (g : Image) : Option (Nat × Nat) :=
  let n := 16 + 24 * g.nch
  firstFail [
    sizeCheck (decide (g.nch ≤ 32)) (g.size 7) (n + pad8 g.listSize),
    failIf (!g.secZero 7 12 4 || !g.secZero 7 (n + g.listSize) (g.size 7 - (n + g.listSize))) 8 0,
    firstItem g.nch (fun r =>
      let c := g.flumeCh r
      if decide (31 < c) || !g.secZero 7 (17 + 24 * r) 3 || (List.range r).any (fun q => g.flumeCh q == c) ||
        ctrlBad (Fin.ofNat 32 c) (g.flumeVal r 3) then some 8 else none)]

/-- An initiator byte of BUSMAP may stand there (R172). -/
def initiatorOk (g : Image) (v : Nat) : Bool :=
  decide (v ≤ 4) || decide (v = 0x40) || (decide (0x20 ≤ v) && decide (v < 0x40) && g.flumeChans.contains (v - 0x20))

/-- The BUSMAP section. -/
def busmapCheck (g : Image) : Option (Nat × Nat) :=
  firstFail [
    sizeCheck (decide (g.nport ≤ 11)) (g.size 8) (8 + 72 * g.nport),
    failIf (!g.secZero 8 4 4) 14 0,
    firstItem g.nport (fun r =>
      if decide (10 < g.port r) || !g.secZero 8 (9 + 72 * r) 7 || (List.range r).any (fun q => g.port q == g.port r) ||
        !(g.portSlots r).all (initiatorOk g) || decide (48 < ((g.portSlots r).filter (fun v => v != 0)).length)
      then some 14 else none)]

/-- The SCAN section. -/
def scanCheck (g : Image) : Option (Nat × Nat) :=
  firstFail [
    sizeCheck (decide (g.nscan ≤ 256)) (g.size 9) (8 + 16 * g.nscan),
    failIf (!g.secZero 9 4 4) 8 0,
    firstItem g.nscan (fun i =>
      let w := g.scan i
      if decide (g.rd 9 (16 + 16 * i) 8 ≠ 0) || decide (bits w 63 53 ≠ 0) || decide (bits w 52 32 = 0) ||
        decide (7 < bits w 15 8) || decide (3 < bits w 7 0) then some 8 else none)]

/-- The smallest crank pitch of a tracker that is on takes less than 20 us at RPM_MAX (R174). -/
def pitchTooShort (g : Image) (rpmMax t : Nat) : Bool :=
  let c := g.trkCfg t
  if bits c 10 0 = 0 then false
  else match g.recOf (bits c 13 12) with
    | some r => (List.range (g.nent r)).any (fun i => decide (pitchIn revAu (g.noms r) i * 256 * 50000 < rpmMax * 393216))
    | none => false

/-- The ENVELOPE section. -/
def envelopeCheck (g : Image) : Option (Nat × Nat) :=
  let mn := g.rd 10 0 4
  let mx := g.rd 10 4 4
  let acc := g.rd 10 8 4
  firstFail [
    failIf (decide (g.size 10 ≠ 16)) 6 0,
    failIf (decide (mn < 0x200) || decide (mx ≤ mn) || decide (0x271000 < mx) || decide (acc = 0) ||
      decide (1000000 < acc) || !g.secZero 10 12 4 || pitchTooShort g mx 0 || pitchTooShort g mx 1) 16 0]

/-- The TRIM section. -/
def trimCheck (g : Image) : Option (Nat × Nat) :=
  let w := g.rd 11 0 8
  firstFail [failIf (decide (g.size 11 ≠ 8)) 6 0, failIf (decide (bits w 63 30 ≠ 0) || decide (0x2000 < bits w 29 16)) 16 0]

/-! ## Header and directory (R155 to R157, R523) -/

/-- The end of the directory with DIR_CRC and its zero word. -/
def dirEnd (g : Image) : Nat := 0x40 + 16 * g.dir.length + 8

/-- Two byte ranges overlap. -/
def overlap (a n b m : Nat) : Bool := decide (a < b + m) && decide (b < a + n) && decide (0 < n) && decide (0 < m)

/-- Directory entry i breaks R156 or R157. -/
def dirBad (g : Image) (i : Nat) : Bool :=
  match g.dir[i]? with
  | none => true
  | some e =>
    decide (e.typ = 0) || decide (11 < e.typ) || (if e.typ = 6 then decide (3 < e.flags) else decide (e.flags ≠ 0)) ||
      decide (e.off % 8 ≠ 0) || decide (e.size % 8 ≠ 0) || decide (g.imageSize < e.off + e.size) ||
      overlap e.off e.size 0 (dirEnd g) ||
      (g.dir.take i).any (fun d => (d.typ == e.typ && d.flags == e.flags) || overlap d.off d.size e.off e.size)

/-- A header field is not what R155 gives it. -/
def headerBad (g : Image) : Bool :=
  decide (g.le 0 4 ≠ 0x32464950) || decide (g.le 4 2 ≠ 2) || decide (g.le 6 2 ≠ 0x40) || decide (g.le 0x38 4 ≠ 0x40) ||
    decide (g.dir.length < 10) || decide (14 < g.dir.length) || decide (bits (g.le 8 4) 31 2 ≠ 0) || !g.zero 0x12 2 || !g.zero 0x20 24

/-- Every type that must occur once is there (R156). -/
def typesThere (g : Image) : Bool := [1, 2, 3, 4, 5, 7, 8, 9, 10, 11].all (fun t => (g.sect t 0).isSome)

/-- A section's CRC fails (R156). -/
def sectCrcBad (g : Image) (i : Nat) : Bool :=
  match g.dir[i]? with
  | some e => crcOf g.st (g.base + e.off) e.size != e.crc
  | none => false

/-- Steps 2 to 5 of R523, with the SECT 0 they report. DESIGN CHOICE (log entry 171): a missing section type and a nonzero word
after DIR_CRC belong to no entry, and are reported after all entries with ITEM 0. -/
def outerCheck (g : Image) (loadSize : Nat) : Option (Nat × Nat) :=
  let n := g.dir.length
  firstFail [
    failIf (headerBad g) 1 0,
    failIf (decide (crcOf g.st g.base 0x3C ≠ g.le 0x3C 4)) 2 0,
    failIf (decide (g.imageSize % 8 ≠ 0) || decide (g.imageSize ≠ loadSize)) 6 0,
    failIf (decide (crcOf g.st (g.base + 0x40) (16 * n) ≠ g.le (0x40 + 16 * n) 4)) 4 0,
    firstItem n (fun i => if dirBad g i then some 3 else none),
    failIf (!g.zero (0x44 + 16 * n) 4 || !typesThere g) 3 0,
    firstItem n (fun i => if sectCrcBad g i then some 5 else none)]

/-- COPY_SIZE (R178). -/
def copySize (g : Image) : Nat :=
  g.imageSize - (((g.dir.filter (fun e => e.typ == 6 || e.typ == 7)).map (fun e => e.size)).foldl (· + ·) 0)

/-- Step 7 of R523: the plan copy and the FLUME list area against SRAM, the image and each other (R171, R178). -/
def placeBad (g : Image) (copyBase : Nat) : Bool :=
  let n := copySize g
  let la := g.listAddr
  let ls := g.listSize
  decide (la % 8 ≠ 0) || decide (0x100000 < la + ls) || decide (0x100000 < copyBase + n) ||
    overlap copyBase n g.base g.imageSize || overlap copyBase n la ls || overlap la ls g.base g.imageSize

/-- The contents of the sections, in the order of R523, with the type of each. -/
def contentChecks (s : State) (g : Image) : List (Nat × Option (Nat × Nat)) :=
  [(1, wheelCheck s g), (2, actionCheck g), (3, slotCheck g), (4, furrowCheck g), (5, mcodeCheck g), (6, coreCheck g 0),
    (6, coreCheck g 1), (6, coreCheck g 2), (6, coreCheck g 3), (7, flumeCheck g), (8, busmapCheck g), (9, scanCheck g),
    (10, envelopeCheck g), (11, trimCheck g)]

/-- The first failure of a list of checks, as (RESULT, SECT, ITEM). -/
def firstSect : List (Nat × Option (Nat × Nat)) → Option (Nat × Nat × Nat)
  | [] => none
  | (t, some x) :: _ => some (x.1, t, x.2)
  | (_, none) :: l => firstSect l

/-- The check pass (R177, R523): the first failure as (RESULT, SECT, ITEM). -/
def checkPlan (s : State) : Option (Nat × Nat × Nat) :=
  let a := s.plan.loadAddr
  let n := s.plan.loadSize
  let g := imageAt s a
  if a % 8 ≠ 0 ∨ 0x100000 < a + n then some (0x11, 0, 0)
  else
    let place := if placeBad g s.plan.copyBase then some (0x11, 0) else none
    firstSect ((0, outerCheck g n) :: contentChecks s g ++ [(0, place)])

end Sys2Proof.Machine
end

