-- ==== Sys2Proof/Machine/Tracker.lean ====
section
/-! DEFINITION. A tracker in SYNC (chapters 03 and 04): crank edges against the prediction (R99 to R108), the sweep they
cause (R102), stall and resumption (R113 to R116), reversal (R117 to R120), cam edges
(R66, R67, R109). -/

namespace Sys2Proof.Machine

/-- TRIM_SNAPSHOT (R265): the first accepted edge of the controlling tracker in the last sixteenth of the cycle; none is taken
where the edge one revolution back is not there to give T_rev. -/
def trimSnapshot (t : Fin 2) (angle : Nat) (s : State) : State :=
  let x := s.trk[t]
  let len := cycleLen s t
  if s.trims.revDone ∨ (if x.astern then len / 16 < angle else angle < len - len / 16) then s
  else if teeth s t ≤ x.epochEdges ∧ teeth s t < x.stamps.length then snapshotTrims (x.stamps.headD 0 - x.stamps.getD (teeth s t) 0) s
  else { s with trims := { s.trims with revDone := true } }

/-! ## Accepting an edge (R73, R101, R102) -/

/-- The step of R101, which is never backward: where the presented angle stood past an entry whose signature has fallen (log
entry 163) it is 0. -/
def jumpStep (astern : Bool) (len old truth : Nat) : Nat :=
  let d := travel astern len old truth
  if len ≤ 2 * d then 0 else d

/-- The step of R101 in its registers. -/
def noteJump (t : Fin 2) (step : Nat) (s : State) : State :=
  let b := TRK.base t
  let s := s.wr b TRK.JUMP_LAST_STEP step
  if s.rd b TRK.JUMP_MAX_MAX < step then s.wr b TRK.JUMP_MAX_MAX (sat TRK.JUMP_MAX_MAX.top step) else s

/-- The predicted speed is at or above STALL_CFG.RPM (R113). -/
def speedMet (s : State) (t : Fin 2) (ticks : Nat) : Bool :=
  let x := s.trk[t]
  let rpm := s.cfg (TRK.base t) TRK.STALL_CFG_RPM
  let n := nextIdx x.astern (teeth s t) x.pos
  decide (rpm * ticks * revAu ≤ pitch s t n * 400000000 * 60 * 256)

/-- The device's part of an accepted edge of the controlling tracker, unless a handover of this tick sweeps both steps as one
(R121): the angle steps from where it was to the true
angle of the entry and on to what is presented now; the interval is swept (R102), a held angle is released when the
new one reaches it (R91), the boundary acts if it is passed (R33). -/
def deviceStep (t : Fin 2) (before old truth : Nat) (s : State) : State :=
  if s.dev.step.isSome then s else
  let a := s.trk[t].astern
  let len := cycleLen s t
  let now := presented s.trk[t]
  let d := travel a len old truth
  if 2 * d < len then
    let s := s.updDev (fun x => { x with hold := none })
    let s := sweepTo (before + d) (max s.pt (edgeKnown s)) s
    reachPos (before + d + travel a len truth now) s
  else
    let gap := travel a len truth old
    let run := travel a len truth now
    if gap ≤ run then reachPos (before + (run - gap)) (s.updDev (fun x => { x with hold := none }))
    else s.updDev (fun x => { x with hold := some old })

/-- An edge is accepted as the expected entry (R73, R79, R80, R101); `resume`: without the test of R99, after a stall. DESIGN
CHOICE (log entry 138): at an edge that crosses the cycle boundary the prediction and the true angles use the factors and
the signature from before the swap, and the edge's q_meas belongs to the row that closes; R81 and R85 do not order them. -/
def acceptSync (t : Fin 2) (e : EdgeIn) (resume verify : Bool) (s : State) : State :=
  let x := s.trk[t]
  let len := cycleLen s t
  let n := nextIdx x.astern (teeth s t) x.pos
  let hn := nextHalf x.astern (teeth s t) x.pos x.half
  let tj := e.stamp - x.lastStamp
  let truth := trueAngle s t n hn
  let device := decide (s.dev.control = t) && s.dev.epochOpen
  let before := nowPos s
  let old := devAngle s
  let own := presented x
  let feature := isFeature s t n
  let v := speedOf (pitch s t n) tj
  let s := noteJump t (jumpStep x.astern len (presentedAt s t e.stamp) truth) s
  let s := signatureEdge t n e.stamp (shadowMeasure t x.pos n hn tj s)
  let y := loadFrom s t n hn e.stamp tj s.pt
  let s := s.updTrk t (fun _ => { y.note (teeth s t) e with
    epochEdges := x.epochEdges + 1
    stalled := false
    held := none
    verify := verify || (x.verify && !(feature && !resume))
    slow := x.slow || resume
    undo := some (x.pos, x.half, x.lastStamp, x.period) })
  let s := if speedMet s t s.trk[t].tpred then s.updTrk t (fun x => { x with slow := false }) else s
  let s := if device then deviceStep t before old truth (trimSnapshot t truth s) else s
  let s := ownPassed t own (presented s.trk[t]) s
  if device ∧ s.dev.epochOpen then envelopeEdge n v e.stamp resume s else s

/-- Motion resumes (R115, R116): the edge becomes the expected entry; the device runs on in the same epoch. -/
def resumeMotion (t : Fin 2) (e : EdgeIn) (verify : Bool) (s : State) : State :=
  let s := s.bump (TRK.base t) TRK.MOTION_CNT_RESUMES
  let s := if s.dev.control = t ∧ s.dev.st = .stalled then enterRunning s else s
  pendingDisarm (acceptSync t e true verify s)

/-- A crank edge reaches a tracker in SYNC (R99, R115, R116). -/
def syncEdge (t : Fin 2) (e : EdgeIn) (s : State) : State :=
  if s.trk[t].stalled then
    if sensorOf s (crankWheel s t) = 3 then s.updTrk t (fun x => { x with held := some e })
    else resumeMotion t e true s
  else match edgeClass s t e with
    | .spurious => spuriousEdge t (loseSync t 4) s
    | .lost c => loseSync t c s
    | .accepted => acceptSync t e false false s

/-- TRACKER_CRANK_EDGE (R20, R38, R73): the oldest crank edge due is processed. -/
def crankEdgeStep (t : Fin 2) (s : State) : State :=
  match crankDue s t with
  | none => s
  | some e =>
    if s.ptStands then s
    else
      let s := s.updTrk t (fun x => { x with edges := x.edges.erase e })
      let s := if s.trk[t].acq ≠ .off ∧ s.dev.control = t then s.fire 0x50 else s
      match s.trk[t].acq with
      | .off => s
      | .sync => syncEdge t e s
      | _ => acqEdge t e s

/-! ## Cam edges (R58, R66, R67, R109) -/

/-- The crank entry k accepted edges before the last one, with its half (R76). -/
def backEntry (s : State) (t : Fin 2) : Nat → Nat × Bool
  | 0 => (s.trk[t].pos, s.trk[t].half)
  | k + 1 =>
    let e := backEntry s t k
    let back := !s.trk[t].astern
    (nextIdx back (teeth s t) e.1, nextHalf back (teeth s t) e.1 e.2)

/-- The cycle angle at a stamp in SYNC: from the last crank edge on as the accumulator goes, before it between the
stamps of the accepted edges around it (R58, R66). DEDUCED (log entry 166): before the oldest edge held, as after a turn, it
is that edge's angle. -/
def angleAt (s : State) (t : Fin 2) (stamp : Nat) : Nat :=
  let x := s.trk[t]
  let len := cycleLen s t
  if x.lastStamp ≤ stamp then presentedAt s t stamp
  else match (List.range x.stamps.length).find? (fun k => decide (0 < k) && decide (x.stamps.getD k 0 ≤ stamp)) with
    | some k =>
      let t0 := x.stamps.getD k 0
      let e := backEntry s t k
      let gone := pitch s t (backEntry s t (k - 1)).1 * (stamp - t0) / (x.stamps.getD (k - 1) 0 - t0)
      let a := trueAngle s t e.1 e.2
      if x.astern then (a + len - gone % len) % len else (a + gone) % len
    | none =>
      let e := backEntry s t (x.stamps.length - 1)
      trueAngle s t e.1 e.2

/-- PHASE_MEASURE (R66, R67): the raw deviation, the filter, and source 18 + 4n when it leaves its limits. -/
def phaseMeasure (t : Fin 2) (w : Fin 4) (raw : Int) (s : State) : State :=
  let b := TRKPH.base t w
  let first := !s.trk[t].phaseInit.contains w.val
  let filt := if first then raw else filterStep (signed 32 (s.rd b TRKPH.PH_FILT_FILT)) raw (s.cfg b TRKPH.PH_CFG_K)
  let s := (s.wr b TRKPH.PH_RAW_RAW (unsigned 32 raw)).wr b TRKPH.PH_FILT_FILT (unsigned 32 filt)
  let s := if first then s.updTrk t (fun x => { x with phaseInit := w.val :: x.phaseInit }) else s
  let out := decide (filt < signed 16 (s.cfg b TRKPH.PH_LIM_LO) * 256) || decide (signed 16 (s.cfg b TRKPH.PH_LIM_HI) * 256 < filt)
  let was := s.trk[t].phaseOut.contains w.val
  let s := s.updTrk t (fun x => { x with
    phaseOut := if out then (if was then x.phaseOut else w.val :: x.phaseOut) else x.phaseOut.filter (fun v => v != w.val) })
  s.raiseIf (out && !was) (18 + 4 * w.val)

/-- CAM_MISS (R109): counted; on a 720 degree plan a run of them on CFG.CAM's wheel loses sync. -/
def camMiss (t : Fin 2) (w : Nat) (s : State) : State :=
  let s := s.bump (TRK.base t) TRK.MOTION_CNT_CAM_MISS
  if cyc720 s t ∧ camWheel s t = some w then
    let s := s.updTrk t (fun x => { x with camMissRun := x.camMissRun + 1 })
    if s.cfg (TRK.base t) TRK.ACQ_PHASE_TRIES ≤ s.trk[t].camMissRun then loseSync t 8 s else s
  else s

/-- A cam edge in SYNC (R66, R109). DESIGN CHOICE (log entry 189): of several cam entries within CAM_WIN the one with the
lowest index is measured against; R66 speaks of the one. -/
def syncCam (t : Fin 2) (e : EdgeIn) (s : State) : State :=
  let w := Fin.ofNat 4 e.wheel
  let a := angleAt s t e.stamp
  let len := cycleLen s t
  let win := 4096 * s.cfg (TRK.base t) TRK.ACQ_CAM_WIN
  match (camEntries s t e.wheel).find? (fun c => within len win (entNominal c) a) with
  | some c =>
    let s := if camWheel s t = some e.wheel then s.updTrk t (fun x => { x with camMissRun := 0 }) else s
    if s.on (TRKPH.base t w) TRKPH.PH_CFG_EN then phaseMeasure t w (signedDiff len (entNominal c) a) s else s
  | none => camMiss t e.wheel s

/-- TRACKER_CAM_EDGE (R38, R58, R66): the oldest cam edge due, once no crank edge of its stamp waits. -/
def camEdgeStep (t : Fin 2) (s : State) : State :=
  match s.trk[t].edges.find? (fun e => e.wheel != crankWheel s t && decide (e.due ≤ s.pt)) with
  | none => s
  | some e =>
    if s.ptStands ∨ s.trk[t].edges.any (fun c => c.wheel == crankWheel s t && c.stamp == e.stamp) then s
    else
      let s := s.updTrk t (fun x => { x with edges := x.edges.erase e })
      let s := if camWheel s t = some e.wheel then s.updTrk t (fun x => { x with lastCam := some e }) else s
      match s.trk[t].acq with
      | .phase => if camWheel s t = some e.wheel then evaluateCam t e s else s
      | .sync => syncCam t e s
      | _ => s

/-! ## Stall and hold (R113, R114) -/

/-- The stall condition of R113. -/
def stallDue (s : State) (t : Fin 2) : Bool :=
  let x := s.trk[t]
  let b := TRK.base t
  let gone := s.pt - x.lastStamp
  x.acq == .sync && !x.stalled && !(decide (t = 0) && following s) &&
    (decide (400000 * s.cfg b TRK.STALL_CFG_TIMEOUT ≤ gone) ||
      (decide (s.cfg b TRK.STALL_CFG_RPM ≠ 0) && !speedMet s t (if x.slow then gone else max x.tpred gone)))

/-- A stall is declared (R113): the accumulator stops; on the controlling tracker the device enters STALLED, source 46.
With HOLD = 0 the hold expires at the declaration (R114), and sync loss takes precedence (R30, R121). -/
def declareStall (t : Fin 2) (s : State) : State :=
  let b := TRK.base t
  let s := (s.bump b TRK.MOTION_CNT_STALLS).wr b TRK.STALL_ANGLE_ANGLE (presented s.trk[t])
  if s.cfg b TRK.HOLD_CFG_HOLD = 0 then loseHold t s
  else
    let s := s.updTrk t (fun x => { x.spoil with stalled := true, stallPt := s.pt, held := none, revStamps := [], revPrev := none })
    if s.dev.control = t ∧ s.dev.epochOpen then
      let s := (endActions s).updPlan (fun p => { p with revStamp := none, revPrev := none })
      (s.enter .stalled).raise 46
    else s

/-- STALL_DECLARE (R113, R121): an edge of the same tick goes first. -/
def stallDeclareStep (s : State) : State :=
  if s.ptStands then s
  else foldS [0, 1] (fun (t : Fin 2) s => if stallDue s t ∧ (crankDue s t).isNone then declareStall t s else s) s

/-- STALL_HOLD_EXPIRE (R114): the hold has run out without a resumption. -/
def holdExpireStep (s : State) : State :=
  if s.ptStands then s
  else foldS [0, 1] (fun (t : Fin 2) s =>
    let x := s.trk[t]
    if x.acq = .sync ∧ x.stalled ∧ (crankDue s t).isNone ∧ 400000 * s.cfg (TRK.base t) TRK.HOLD_CFG_HOLD ≤ s.pt - x.stallPt then
      loseHold t s
    else s) s

/-! ## Reversal (R117 to R120) -/

/-- The tracker turns (R118): the pulse is the entry accepted last before its leading edge, crossed in the new
direction; the shadow history is gone (R83). DESIGN CHOICE (log entry 167): undoing the acceptance of the leading edge takes
back the tracker's position alone; JUMP_LAST, JUMP_MAX, its q_meas and a cycle boundary it caused stay, and one passed again on
the way back counts again (R118). -/
def turnTracker (t : Fin 2) (lead : Nat) (s : State) : State :=
  let x := s.trk[t]
  let (p, h, t0) := if x.lastStamp = lead then
      (match x.undo with
        | some (p, h, t0, _) => (p, h, t0)
        | none => let e := backEntry s t 1; (e.1, e.2, x.prevStamp))
    else (x.pos, x.half, x.lastStamp)
  let tj := lead - t0
  let s := setAstern t (!x.astern) (s.updTrk t Tracker.spoil)
  let y := loadFrom s t p h lead tj s.pt
  let s := s.updTrk t (fun _ => { y with
    prevStamp := t0
    lastStamp := lead
    prevPeriod := x.period
    period := tj
    stamps := [lead]
    epochEdges := 0
    stalled := false
    held := none
    slow := true
    undo := none
    revStamps := []
    revPrev := none })
  if speedMet s t s.trk[t].tpred then s.updTrk t (fun x => { x with slow := false }) else s

/-- The tracker's presented angle has gone on from one angle to another in the direction it has turned to: its own boundary, if
it has passed 0 (R33, R118). -/
def ownTurned (t : Fin 2) (before : Nat) (s : State) : State :=
  let after := presented s.trk[t]
  if 2 * travel s.trk[t].astern (cycleLen s t) before after < cycleLen s t then ownPassed t before after s else s

/-- The device angle after a turn: a cycle boundary it has passed in the new direction counts, and nothing is swept (R33,
R118). -/
def deviceTurned (before : Nat) (s : State) : State :=
  let d := travel (ctl s).astern (devLen s) before (devAngle s)
  if 2 * d < devLen s ∧ devLen s ≤ posOf s before + d then deviceBoundary s else s

/-- REVERSAL (R117, R118): expected with REVERSE_ARM of the controlling tracker and an astern furrow set, else sync is
lost. On the controlling tracker the device truncates its actions, turns and runs on in the same epoch. -/
def reversalWith (t : Fin 2) (turn : State → State) (s : State) : State :=
  let device := decide (s.dev.control = t) && s.dev.epochOpen
  let s := if device then (s.bump (TRK.base t) TRK.MOTION_CNT_REVERSALS).raise 47 else s
  let own := presented s.trk[t]
  let before := devAngle s
  if !asternAllowed s s.dev.control then loseSync t 5 s
  else if device then
    let s := clearTrims (turn (endActions s))
    let s := s.updPlan (fun p => { p with revStamp := none, revPrev := none })
    let s := s.updDev (fun d => { d with hold := none })
    let s := ownTurned t own (deviceTurned before s)
    let s := if s.dev.st = .stalled then enterRunning s else s
    pendingDisarm (placeHeads s)
  else ownTurned t own (turn s)

/-- A reversal by a classed pulse with its leading edge's stamp. -/
def reversal (t : Fin 2) (lead : Nat) (s : State) : State := reversalWith t (turnTracker t lead) s

/-- A reversal by a classed pulse; a tracker that loses sync by it starts its period history at the turning pulse,
since periods are never compared across a turn (R62, R117). -/
def pulseReversal (t : Fin 2) (lead : Nat) (rev : Bool) (s : State) : State :=
  let s := reversal t lead s
  if s.trk[t].acq = .steady then turnHistory t lead rev s else s

/-- A classed pulse reaches a tracker whose crank wheel it is (R62, R115, R117). -/
def classedPulse (t : Fin 2) (lead cls : Nat) (s : State) : State :=
  let x := s.trk[t]
  if x.acq ≠ .sync then acqClass t lead cls s
  else
    let against := (decide (cls = 2) && !x.astern) || (decide (cls = 1) && x.astern)
    let s := if cls = 3 then s else s.updTrk t (fun x => { x with sense := some (decide (cls = 2)) })
    if x.stalled then
      match x.held with
      | some e => if e.stamp = lead then (if against then pulseReversal t lead (decide (cls = 2)) s else resumeMotion t e false s) else s
      -- its leading edge was accepted before the stall was declared
      | none => if against then pulseReversal t lead (decide (cls = 2)) s else s
    else if against then pulseReversal t lead (decide (cls = 2)) s
    else s

/-- DIR_PULSE_CLASS (R43): the trailing edge of a direction-coded pulse has counted; its width is classed, and the
trackers on this wheel use the class, the controlling one first. DESIGN CHOICE (log entry 168): with BOTHFLANK = 1 the pulse
of a trailing flank is classed like any other, though it is no tooth edge (R45). -/
def dirClassStep (w : Fin 4) (s : State) : State :=
  let x := s.wheels[w]
  match x.pulse with
  | none => s
  | some lead =>
    let waits := [(0 : Fin 2), 1].any (fun t => cranksOn s t w && s.trk[t].edges.any (fun e => e.wheel == w.val && e.stamp == lead))
    if ¬ (frontEndLive s ∧ sensorOf s w = 3 ∧ x.level ≠ toothLevel s w ∧ x.taken = false) ∨ waits then s
    else
      let s := s.updWheel w (fun x => { x with taken := true, pulse := none })
      if s.sys.frozen then s
      else
        let width := x.levelStamp - lead
        let cls := dirClass s w width
        let s := dirClassRegs w width cls s
        let c := s.dev.control
        foldS [c, otherTrk c] (fun t s => if cranksOn s t w then classedPulse t lead cls s else s) s

/-! ## Reading the angle (R96) -/

/-- ANGLE_READ: the read of ANGLE snapshots the fraction, the increment and PT. -/
def angleReadStep (t : Fin 2) (s : State) : State :=
  let x := s.trk[t]
  let b := TRK.base t
  let s := s.wr b TRK.ANGLE_FRAC_FRAC (x.acc % 2 ^ 32)
  let s := (s.wr b TRK.INC_LO_FRAC (x.inc % 2 ^ 32)).wr b TRK.INC_HI_INT (x.inc / 2 ^ 32)
  let s := s.wr b TRK.SNAP_PT_PT s.ptLo
  s.respond (toWord (b2n (x.acq == .sync) * 2 ^ 31 + b2n x.astern * 2 ^ 30 + b2n x.atHorizon * 2 ^ 29 + presented x))

/-! ## Commands -/

/-- TRACKER_CRANK_EDGE. -/
def execTrackerCrankEdge (t : Fin 2) (s : State) : Host.Outcome State Fault Refusal := .next (crankEdgeStep t s)
/-- TRACKER_CAM_EDGE. -/
def execTrackerCamEdge (t : Fin 2) (s : State) : Host.Outcome State Fault Refusal := .next (camEdgeStep t s)
/-- STALL_DECLARE. -/
def execStallDeclare (s : State) : Host.Outcome State Fault Refusal := .next (stallDeclareStep s)
/-- STALL_HOLD_EXPIRE. -/
def execStallHoldExpire (s : State) : Host.Outcome State Fault Refusal := .next (holdExpireStep s)
/-- DIR_PULSE_CLASS. -/
def execDirPulseClass (w : Fin 4) (s : State) : Host.Outcome State Fault Refusal := .next (dirClassStep w s)
/-- ANGLE_READ. -/
def execAngleRead (t : Fin 2) (s : State) : Host.Outcome State Fault Refusal := .next (angleReadStep t s)

end Sys2Proof.Machine
end

