-- ==== Sys2Proof/Machine/Xchk.lean ====
section
/-! DEFINITION. The cross-check of the twin trackers (R88 to R95). -/

namespace Sys2Proof.Machine

/-- The registers of the cross-check stand in Tracker A's page (R96). -/
def xb : Nat := TRK.base 0

/-- HARD in au (R90). -/
def hardTol (s : State) : Nat := 16 * s.cfg xb TRK.XCHK_TOL_HARD
/-- SOFT in au (R90). -/
def softTol (s : State) : Nat := 16 * s.cfg xb TRK.XCHK_TOL_SOFT

/-- D = theta_B - theta_A of the present tick (R88). -/
def xDiff (s : State) : Int := signedDiff (devLen s) (presented s.trk[(0 : Fin 2)]) (presented s.trk[(1 : Fin 2)])

/-- The trackers travel in opposite directions, which counts as beyond HARD (R88). -/
def opposed (s : State) : Bool := s.trk[(0 : Fin 2)].astern != s.trk[(1 : Fin 2)].astern

/-- |D| > HARD now. -/
def beyondHard (s : State) : Bool := opposed s || decide (hardTol s < (xDiff s).natAbs)
/-- |D| > SOFT now. -/
def beyondSoft (s : State) : Bool := opposed s || decide (softTol s < (xDiff s).natAbs)

/-- Both trackers are in SYNC. -/
def bothSync (s : State) : Bool := s.trk[(0 : Fin 2)].acq == .sync && s.trk[(1 : Fin 2)].acq == .sync

/-- The device compares the trackers (R88): both in SYNC and in the comparison, and EN. -/
def compares (s : State) : Bool :=
  bothSync s && s.on xb TRK.XCHK_CFG_EN && s.trk[(0 : Fin 2)].inXchk && s.trk[(1 : Fin 2)].inXchk

/-- A tracker leaves the comparison (R90, R92, R112). -/
def leaveXchk (t : Fin 2) (s : State) : State := s.updTrk t (fun x => { x with inXchk := false })

/-- The healthy tracker controls, with a handover if it did not already (R90, R91); the other leaves. -/
def giveControl (t : Fin 2) (s : State) : State :=
  leaveXchk (otherTrk t) (if s.dev.control = t then s else decideHandover s)

/-! ## The peer vote (R92) -/

/-- The peer angle at the present tick, if it is valid: delivered by PEER_ID within the last 1 us, the peer's epoch open
(R92). -/
def peerNow (s : State) : Option Nat :=
  match s.xchk.peers.find? (fun p => decide (p.src = s.cfg xb TRK.XCHK_CFG_PEER_ID)) with
  | none => none
  | some p =>
    if s.on xb TRK.XCHK_CFG_PEER_EN ∧ p.isOpen = true ∧ s.pt - p.at_ ≤ 400 then
      let d := p.inc * (s.pt - p.at_) / 2 ^ 32
      let len := devLen s
      some (if p.astern then (p.angle + len - d % len) % len else (p.angle + d) % len)
    else none

/-- The tracker the vote elects: exactly one lies within HARD of the peer angle (R92). -/
def voteWinner (s : State) : Option (Fin 2) :=
  match peerNow s with
  | none => none
  | some p =>
    let near := fun (t : Fin 2) => decide ((signedDiff (devLen s) p (presented s.trk[t])).natAbs ≤ hardTol s)
    match near 0, near 1 with
    | true, false => some 0
    | false, true => some 1
    | _, _ => none

/-- A hard disagreement without an internal fault (R90, R92, R93): the vote decides, or at the start of the excursion
the device is governed and CRITICAL actions are suppressed. -/
def hardDisagreement (start : Bool) (s : State) : State :=
  match voteWinner s with
  | some t =>
    let s := setIfault (otherTrk t) 6 (giveControl t (s.raise 39))
    s.wr xb TRK.XCHK_STAT_VOTE 1
  | none =>
    if start then
      let s := (violation 6 39 s).wr xb TRK.XCHK_STAT_VOTE 0
      { s with xchk := { s.xchk with suppress := true, withinSoft := false, wholeCycle := false } }
    else s

/-! ## The comparison of a tick (R88, R90) -/

/-- |D| > HARD while a tracker has an internal fault: the healthy one controls from the next tick on (R90). -/
def faultyDisagreement (start : Bool) (s : State) : State :=
  if start then (s.raise 39).wr xb TRK.XCHK_STAT_VOTE 0 else s

/-- The excursions of a compared tick: registers, sources 38 and 39, and what R90 makes of a disagreement. Source 38 marks
every |D| beyond SOFT, one beyond HARD among them (R98). -/
def compareAngles (s : State) : State :=
  let d := xDiff s
  let hard := beyondHard s
  let soft := beyondSoft s
  let was := s.xchk.hardOut
  let s := s.wr xb TRK.XCHK_DIFF_D (unsigned 32 d)
  let s := if s.rd xb TRK.XCHK_MAX_MAX < d.natAbs then s.wr xb TRK.XCHK_MAX_MAX d.natAbs else s
  let s := (s.wr xb TRK.XCHK_STAT_SOFT_ACT (b2n soft)).wr xb TRK.XCHK_STAT_HARD_ACT (b2n hard)
  let note := soft && !s.xchk.softOut
  let s := if note then (s.bump xb TRK.XCHK_STAT_SOFT_CNT).raise 38 else s
  let s := { s with xchk := { s.xchk with softOut := (s.xchk.softOut || note) && soft
                                          hardOut := hard
                                          withinSoft := s.xchk.withinSoft && !soft } }
  if hard then (if hasIfault s 0 || hasIfault s 1 then faultyDisagreement (!was) s else hardDisagreement (!was) s) else s

/-- No comparison in this tick (R90, last row). -/
def noCompare (s : State) : State :=
  let s := (s.wr xb TRK.XCHK_STAT_SOFT_ACT 0).wr xb TRK.XCHK_STAT_HARD_ACT 0
  { s with xchk := { s.xchk with softOut := false, hardOut := false, withinSoft := false } }

/-- Internal faults act in this tick, which follows the one that flagged them: an epoch is open and no handover is on its way
(R90). DESIGN CHOICE (log entry 192): while no epoch is open they have no outcome; its rows speak of the tracker that
controls and of SPILLED, which a device that runs enters. -/
def faultsOpen (s : State) : Bool := s.dev.epochOpen && !s.dev.handing

/-- The tracker island whose internal fault leaves no healthy tracker in SYNC (R90, R467). -/
def faultedIsland (s : State) : Option (Fin 2) :=
  let c := s.dev.control
  let o := otherTrk c
  if faultsOpen s = false ∨ hasIfault s c = false then none
  else if hasIfault s o then some 0
  else if s.trk[o].acq = .sync then none
  else some c

/-- What an internal fault of one tracker does (R90): the healthy one controls alone. DESIGN CHOICE (log entry 141): a healthy
tracker in SYNC takes control whether or not it takes part in the comparison; the rows of R90 do not say. -/
def faultOutcome (s : State) : State :=
  let c := s.dev.control
  let o := otherTrk c
  if hasIfault s c then giveControl o s
  else if hasIfault s o ∧ s.trk[o].inXchk then leaveXchk o s
  else s

/-- The faulted island, if any, faults once the angles of the tick stand: the epoch closes at them (R90, R198, R202). -/
def faultSpills (f : Option (Fin 2)) (s : State) : State :=
  match f with
  | some t => islandFault t.val (some t.val) 3 s
  | none => s

/-- A pending handback acts at a device boundary at which |D| <= SOFT (R94); it is refused once the other tracker is
out of the comparison. -/
def handbackAct (s : State) : State :=
  let o := otherTrk s.dev.control
  let passed := decide (s.dev.cycNo ≠ s.xchk.cyc)
  let s := { s with xchk := { s.xchk with cyc := s.dev.cycNo } }
  if s.flag xb TRK.XCHK_CMD_HANDBACK then
    if s.trk[o].inXchk = false then (s.wr xb TRK.XCHK_CMD_HANDBACK 0).err 0x02
    else if passed && s.dev.epochOpen && compares s && !beyondSoft s then
      decideHandover (s.wr xb TRK.XCHK_CMD_HANDBACK 0)
    else s
  else s

/-- The internal faults flagged in earlier ticks that leave a tracker to control act before the angles of the tick (R90). -/
def faultsAct (s : State) : State := if faultsOpen s = true ∧ faultedIsland s = none then faultOutcome s else s

/-- XCHK_COMPARE: what the device does about its two trackers in a tick. -/
def xchkTick (s : State) : State :=
  let s := if compares s then compareAngles s else noCompare s
  handbackAct s

/-! ## Commands -/

/-- XCHK_REJOIN (R94): a tracker that has left rejoins once its IFAULT bits are cleared and it is in SYNC. -/
def rejoinStep (s : State) : State :=
  foldS [0, 1] (fun (t : Fin 2) s =>
    if s.trk[t].acq = .sync ∧ s.reg (TRK.base t + 0x104) = 0 then s.updTrk t (fun x => { x with inXchk := true }) else s) s

/-- XCHK_HANDBACK (R94): requested, or counted as an error while the other tracker is not in the comparison. -/
def handbackStep (s : State) : State :=
  if s.trk[otherTrk s.dev.control].inXchk then s.wr xb TRK.XCHK_CMD_HANDBACK 1 else s.err 0x02

/-- XCHK_REJOIN. -/
def execXchkRejoin (s : State) : Host.Outcome State Fault Refusal := .next (rejoinStep s)
/-- XCHK_HANDBACK. -/
def execXchkHandback (s : State) : Host.Outcome State Fault Refusal := .next (handbackStep s)

end Sys2Proof.Machine
end

