-- ==== Sys2Proof/Machine/PlanLoad.lean ====
section
/-! DEFINITION. Loading a plan (R176 to R179), arming and disarming (R181 to R183), and what else software does to the
plan engine through its page (R149, R185). -/

namespace Sys2Proof.Machine

/-! ## Writing the tables (R177) -/

/-- A register takes a word that acts at once; a commit of it that waits is gone. -/
def setBoth (a : Nat) (w : Word) (s : State) : State :=
  { (s.setReg a w).setAct a w with committed := s.committed.filter (fun c => c.addr != a) }

/-- TRK_A.CFG and TRK_B.CFG from the plan (R177, R181). -/
def writeTrkCfg (s : State) : State := setBoth (TRK.base 1 + 0x40) s.plan.trkCfgB (setBoth (TRK.base 0 + 0x40) s.plan.trkCfgA s)

/-- A 64-bit word written to DEC-TED memory at any address. -/
def putLe8 (a v : Nat) (s : State) : State :=
  let k := a % 8
  if k = 0 then writeFull (a / 8) v s
  else writeDec (a + (8 - k)) k (v / 2 ^ (8 * (8 - k))) (writeDec a (8 - k) (v % 2 ^ (8 * (8 - k))) s)

/-- The WHEEL section's tracker values and wheel records, as the plan engine keeps them. -/
def loadWheelInfo (g : Image) (s : State) : State :=
  s.updPlan (fun p => { p with
    trkCfgA := toWord (g.trkCfg 0)
    trkCfgB := toWord (g.trkCfg 1)
    wheels := (List.range g.nwheel).map (fun r =>
      let h := g.wheelHdr r
      ⟨bits h 7 0, bits h 15 8, bits h 23 16, bits h 47 32⟩) })

/-- The WHEEL section's tracker values, which act at once, and wheel records (R177). -/
def loadWheelCfg (g : Image) (s : State) : State := writeTrkCfg (loadWheelInfo g s)

/-- The pattern tables (R50, R168). -/
def loadPatterns (g : Image) (s : State) : State :=
  foldS (List.range g.nwheel) (fun r s =>
    let w := bits (g.wheelHdr r) 7 0
    foldS (List.range (g.nent r)) (fun i s => { s with ptab := tset s.ptab (1024 * w + i) (g.wheelEnt r i) 0 }) s) s

/-- The microcode store and the profile table (R169). -/
def loadMicrocode (g : Image) (s : State) : State :=
  let s := foldS (List.range g.nword) (fun a s => writeSec (ucAddress a) 4 (g.ucode a) s) s
  s.updPlan (fun p => { p with profile := (List.range 256).foldl (fun t i => tset t i (g.prof i) 0) [] })

/-- A core's memories and frame table (R170); a core without a section has no frame table and is off. -/
def loadCore (g : Image) (c : Fin 4) (s : State) : State :=
  let n := if g.hasCore c.val then g.nfslot c.val else 0
  let s := s.wr (cr c) CORE.NFSLOT_N n
  let s := foldS (List.range (g.ninstr c.val)) (fun i s =>
    writeSec (imemAddr c i) 4 (g.core c.val (16 + 8 * n + 4 * i) 4) s) s
  let s := foldS (List.range (g.ndata c.val)) (fun i s =>
    dmemPut c i (g.core c.val (16 + 8 * n + 4 * g.ninstr c.val + 2 * i) 2) s) s
  s.updCore c (fun x => { x with on := g.hasCore c.val, frame := (List.range n).map (g.fslot c.val) })

/-- The Flume channel registers and list bytes (R171). -/
def loadFlume (g : Image) (s : State) : State :=
  let s := foldS (List.range g.nch) (fun r s =>
    foldS (List.range 5) (fun k s => s.setReg (FLC.base (g.flumeCh r) + 4 * k) (toWord (g.flumeVal r k))) s) s
  let s := s.wr FLUME.base FLUME.PLANNED_PLAN (g.flumeChans.foldl (fun m c => m ||| 2 ^ c) 0)
  let n := 16 + 24 * g.nch
  foldS (List.range g.listSize) (fun i s => writeDec (g.listAddr + i) 1 (g.rd 7 (n + i) 1) s) s

/-- The scan tables (R173). -/
def loadScan (g : Image) (s : State) : State :=
  (s.wr ADCX.base ADCX.NSCAN_N g.nscan).updPlan (fun p =>
    { p with scan := (List.range g.nscan).foldl (fun t i => tset t i (g.scan i) 0) [] })

/-- BUSMAP (R172). -/
def loadBusmap (g : Image) (s : State) : State :=
  s.updPlan (fun p => { p with busmap := (List.range g.nport).foldl (fun t r => tset t (g.port r) (g.portSlots r) []) [] })

/-- The envelope (R174). -/
def loadEnvelope (g : Image) (s : State) : State :=
  s.updPlan (fun p => { p with rpmMin := g.rd 10 0 4, rpmMax := g.rd 10 4 4, accMax := g.rd 10 8 4 })

/-- The trims, in both trackers' pages (R175). -/
def loadTrims (g : Image) (s : State) : State :=
  foldS [0, 1] (fun (t : Fin 2) s =>
    (s.wr (TRK.base t) TRK.TRIM_RB_SIG_TRIM (g.rd 11 0 2)).wr (TRK.base t) TRK.TRIM_RB_SH_TRIM (bits (g.rd 11 0 8) 29 16)) s

/-- Parameter slots take their defaults, and their poison bits clear (R164). -/
def slotDefaults (s : State) : State :=
  foldS (List.range s.plan.nslot) (fun k s =>
    let w := slotAddr k / 8
    let old := s.wordData w
    let v := tget s.plan.slotDefault k 0
    let d := if k % 2 = 0 then old - old % 2 ^ 32 + v else old % 2 ^ 32 + v * 2 ^ 32
    { storeClean w d s with slotPoison := tset s.slotPoison k 0 0 }) s

/-- Slot definitions and defaults (R162). -/
def loadSlots (g : Image) (s : State) : State :=
  let n := g.nslot
  slotDefaults (s.updPlan (fun p => { p with
    nslot := n
    slotDef := (List.range n).foldl (fun t k => tset t k (bits (g.slot k) 63 63 * 2 ^ 26 + bits (g.slot k) 57 32) 0) []
    slotDefault := (List.range n).foldl (fun t k => tset t k (bits (g.slot k) 31 0) 0) [] }))

/-- Furrows and links (R165, R166). -/
def loadFurrows (g : Image) (s : State) : State :=
  s.updPlan (fun p => { p with
    furrows := (List.range (g.nahead + g.nastern)).map (fun i =>
      let d := g.furrow i
      { astern := bit d 48, cls := bits d 15 12, inst := bits d 11 0, first := bits d 31 16, count := bits d 47 32,
        head := bits d 31 16, headCyc := 0, loadedAt := 0, dead := false })
    links := (List.range g.nact).map g.link })

/-- The action table (R158). -/
def loadActions (g : Image) (s : State) : State :=
  foldS (List.range g.nact) (fun i s => putWord (0x100008 + 16 * i) (g.act1 i) (putWord (0x100000 + 16 * i) (g.act0 i) s)) s

/-! ## The plan copy (R178) -/

/-- A section the copy does not hold: CORE and FLUME. -/
def Sect.left (e : Sect) : Bool := e.typ == 6 || e.typ == 7

/-- The offset at which the copy holds what stands at an offset of the image: the sections left out are closed up. -/
def copyOffset (g : Image) (o : Nat) : Nat :=
  o - ((g.dir.filter (fun e => e.left && decide (e.off + e.size ≤ o))).map (fun e => e.size)).foldl (· + ·) 0

/-- The plan copy is written: the image without its CORE and FLUME sections. -/
def loadCopy (g : Image) (s : State) : State :=
  let kept := (List.range (g.imageSize / 8)).filter (fun i =>
    !g.dir.any (fun e => e.left && decide (e.off ≤ 8 * i) && decide (8 * i < e.off + e.size)))
  foldS kept (fun i s => putLe8 (s.plan.copyBase + copyOffset g (8 * i)) (g.le (8 * i) 8) s) s

/-- The copy of the loaded plan read as an image: its directory, with the offsets the copy gives the sections it holds. -/
def copyImage (s : State) : Image :=
  let g := imageAt s s.plan.keptBase
  { g with dir := (g.dir.filter (fun e => !e.left)).map (fun e => { e with off := copyOffset g e.off }) }

/-- The header CRC or the directory CRC of the copy fails: a write there is found by the next pass too (R178). -/
def copyHeadBad (s : State) : Bool :=
  let g := imageAt s s.plan.keptBase
  let n := g.dir.length
  decide (crcOf g.st g.base 0x3C ≠ g.le 0x3C 4) || decide (crcOf g.st (g.base + 0x40) (16 * n) ≠ g.le (0x40 + 16 * n) 4)

/-! ## The write pass -/

/-- Every word from an address is read: true if one of them is uncorrectable (R179, R437). -/
def readSpan : Nat → Nat → State → Bool × State
  | _, 0, s => (false, s)
  | w, n + 1, s =>
    let r := readWord w s
    let q := readSpan (w + 1) n r.2
    (r.1.2 || q.1, q.2)

/-- The sections of a type are read. -/
def readSects (g : Image) (t : Nat) (s : State) : Bool × State :=
  (g.dir.filter (fun e => e.typ == t)).foldl (fun r e =>
    let q := readSpan ((g.base + e.off) / 8) (e.size / 8) r.2
    (r.1 || q.1, q.2)) (false, s)

/-- The steps of the write pass: the section read, and what is written from it (R177). -/
def writeSteps (g : Image) : List (Nat × (State → State)) :=
  [(1, loadWheelCfg g), (1, loadPatterns g), (5, loadMicrocode g), (6, fun s => foldS (List.finRange 4) (loadCore g) s),
    (7, loadFlume g), (9, loadScan g), (8, loadBusmap g), (10, loadEnvelope g), (11, loadTrims g), (3, loadSlots g),
    (4, loadFurrows g), (2, loadActions g), (0, loadCopy g)]

/-- The steps one after another, up to the first section that holds an uncorrectable word (R179). -/
def runSteps (g : Image) : List (Nat × (State → State)) → State → Bool × State
  | [], s => (false, s)
  | (t, f) :: l, s =>
    let r := readSects g t s
    if r.1 then (true, r.2) else runSteps g l (f r.2)

/-- The plan engine's own records are cleared (R177). -/
def clearRecords (s : State) : State :=
  let b := PLAN.base
  let s := s.updPlan (fun p => { p with lateLog := [], speedBad := false, badSects := [], violAt := none, govKept := none })
  let s := ((s.wr b PLAN.LATE_LEVEL_LOST 0).setReg (b + 0x74) 0).setReg (b + 0x78) 0
  let s := ((s.setReg (b + 0x7C) 0).setReg (b + 0x70) 0).setReg (b + 0x64) 0
  let s := ((s.setReg (b + 0x68) 0).setReg (b + 0x6C) 0).setReg (b + 0x9C) 0
  (s.wr b PLAN.SCRUB_FAIL 0).wr b PLAN.SCRUB_SECT 0

/-- A load ends (R177, R186): LOAD_STAT, BUSY and CMD.LOAD, source 54. -/
def endLoad (result sect item : Nat) (s : State) : State :=
  let s := s.setReg (PLAN.base + 0x54) (toWord (sect * 2 ^ 24 + result * 2 ^ 16 + item))
  ((s.wr PLAN.base PLAN.CMD_LOAD 0).updPlan (fun p => { p with load := .idle })).raise 54

/-- What a plan that has been written leaves in the plan engine's page (R185). -/
def planInfo (g : Image) (s : State) : State :=
  let s := (s.wr PLAN.base PLAN.PLAN_ID_ID g.planId).wr PLAN.base PLAN.COPY_SIZE_SIZE (copySize g)
  s.setReg (PLAN.base + 0x5C) (toWord (2 ^ 31 + b2n g.astern * 2 ^ 30 + b2n g.cyc720 * 2 ^ 29 + g.nact))

/-- Learned values go with the plan they were learned under: shadow, signature, delays and trims (R83, R86, R264). -/
def clearLearned (s : State) : State :=
  clearDelays (foldS [0, 1] (fun (t : Fin 2) s => sigClear t (shadowClear t s)) s)

/-- The end of a good write pass (R95, R177, R365). -/
def planWritten (g : Image) (s : State) : State :=
  let s := clearLearned (clearRecords (planInfo g s))
  let s := dropReleases { s with memc := { s.memc with prio := [] } }
  let s := (s.updDev (fun d => { d with control := 0 })).updPlan (fun p => { p with keptBase := p.copyBase })
  let s := foldS (List.finRange 4) (fun c s => if s.cores[c].on then restartCore c s else s) s
  endLoad 0 0 0 (s.enter .loaded)

/-- PLAN_LOAD (R176, R189): accepted in STRAPPED and LOADED while no load runs. -/
def planLoadStep (s : State) : State :=
  if s.islandHeld 2 then s
  else if s.plan.load ≠ .idle then s.err 0x05
  else if s.dev.st = .strapped ∨ s.dev.st = .loaded then
    let s := (s.wr PLAN.base PLAN.CMD_LOAD 1).wr PLAN.base PLAN.LOAD_STAT_BUSY 1
    s.updPlan (fun p => { p with
      load := .check
      loadAddr := s.rd PLAN.base PLAN.LOAD_ADDR_ADDR
      loadSize := s.rd PLAN.base PLAN.LOAD_SIZE_SIZE
      copyBase := s.rd PLAN.base PLAN.COPY_BASE_ADDR })
  else endLoad 0x12 0 0 s

/-- LOAD_CHECK_PASS (R177, R523): the check pass ends with the first failure, or the write pass begins. -/
def checkPassStep (s : State) : State :=
  if s.plan.load ≠ .check ∨ s.islandHeld 2 = true then s
  else
    let a := s.plan.loadAddr
    let n := s.plan.loadSize
    let read := if a % 8 = 0 ∧ a + n ≤ 0x100000 then (readSpan (a / 8) ((n + 7) / 8) s).2 else s
    match checkPlan s with
    | some (result, sect, item) => endLoad result sect item read
    | none => read.updPlan (fun p => { p with load := .write })

/-- LOAD_WRITE_PASS (R177, R179): the tables are written and the device is LOADED, or an uncorrectable word ends the
load with RESULT ECC and leaves no valid plan; such a pass neither returns control to Tracker A nor clears the learned
values (DESIGN CHOICE, log entry 143). -/
def writePassStep (s : State) : State :=
  if s.plan.load ≠ .write ∨ s.islandHeld 2 = true then s
  else
    let g := imageAt s s.plan.loadAddr
    let h := readSpan (g.base / 8) (dirEnd g / 8) s
    let r := if h.1 then h else runSteps g (writeSteps g) h.2
    if r.1 then endLoad 0x13 0 0 ((r.2.wr PLAN.base PLAN.INFO_VALID 0).enter .strapped)
    else planWritten g r.2

/-! ## Arming (R181, R183) -/

/-- Wheel w is exempt from the SENSOR test: only Tracker A's plan names it, and Tracker A follows the link (R425). -/
def sensorExempt (s : State) (w : Nat) : Bool :=
  let names := fun (c : Word) => decide (bits c.toNat 10 0 ≠ 0) &&
    (decide (bits c.toNat 13 12 = w) || (bit c.toNat 18 && decide (bits c.toNat 17 16 = w)))
  following s && names s.plan.trkCfgA && !names s.plan.trkCfgB

/-- Every wheel record's SENSOR is the wheel's acting MODE.SENSOR (R46, R181). -/
def sensorsOk (s : State) : Bool := s.plan.wheels.all (fun r => sensorExempt s r.wheel || sensorOf s r.wheel == r.sensor)

/-- R60 holds for the acting CAM_WIN of every tracker that is on and uses its cam (R60, R181). -/
def camWinOk (s : State) : Bool :=
  let c720 := s.flag PLAN.base PLAN.INFO_CYCLE720
  let len := if c720 then 2 * revAu else revAu
  !c720 || [((0 : Fin 2), s.plan.trkCfgA), (1, s.plan.trkCfgB)].all (fun e =>
    s.plan.wheels.all (fun r =>
      !(cfgCam e.2.toNat r.wheel &&
        camClash len (2 * camWin s e.1) ((List.range r.nent).map (fun i => entNominal (s.pat r.wheel i))))))

/-- Why an arm is refused, if it is (R181, R186); with a failed bundle training every arm is, with CAUSE (R463). -/
def armRefusal (s : State) : Option Nat :=
  if s.flag SYS.base SYS.STAT_BUNDLE_FAIL then some 0x15
  else if (s.dev.st ≠ .loaded ∧ s.dev.st ≠ .spilled) ∨ s.plan.load ≠ .idle then some 0x12
  else if s.flag PLAN.base PLAN.INFO_TAINTED then some 0x14
  else if !sensorsOk s then some 0x0D
  else if !camWinOk s then some 0x0C
  else if s.dev.st = .spilled ∧ s.plan.spillCause ≠ 0 then some 0x15
  else none

/-- LOAD_STAT of an arm: RESULT, SECT and ITEM 0; BUSY stays as a load in progress has it. -/
def armResult (r : Nat) (s : State) : State :=
  ((s.wr PLAN.base PLAN.LOAD_STAT_RESULT r).wr PLAN.base PLAN.LOAD_STAT_SECT 0).wr PLAN.base PLAN.LOAD_STAT_ITEM 0

/-- The D-die's hold of its outputs ends (R25, R313, R478); after a failed bundle training they stay off until the next cold
reset (R463). -/
def releaseDDie (why : HoldEnd) (s : State) : State :=
  if s.flag SYS.base SYS.STAT_BUNDLE_FAIL then s
  else
    let s := releasePwm why s
    { s with sys := { s.sys with dHold := false } }

/-- The outputs held until the re-arm, or until THERM.CTRL.RELEASE, are released (R25, R313, R328, R478). -/
def releaseHolds (why : HoldEnd) (s : State) : State := (releaseTio (releaseDDie why s)).wr THERM.base THERM.STAT_HOLD 0

/-- An ARM from LOADED ends the D-die's hold after a heartbeat loss (R25, R313); a thermal hold stays (R478, R481), and the
TIOs are held until the next epoch opens (R328). -/
def armFromLoaded (s : State) : State := if s.flag THERM.base THERM.STAT_HOLD then s else releaseDDie .arm s

/-- ARM (R181): the tracker configurations are written again, outputs are released, control is judged (R95), every tracker that is on waits for its first edge (R56), and frame slots run from now on (R366). -/
def armStep (s : State) : State :=
  if s.islandHeld 2 then s
  else match armRefusal s with
  | some r => (armResult r s).raise 54
  | none =>
    let s := writeTrkCfg (armResult 0 s)
    let s := judgeControl (if s.dev.st = .loaded then armFromLoaded s else releaseHolds .rearm s)
    let s := foldS [0, 1] (fun (t : Fin 2) s => if teeth s t = 0 then s else s.updTrk t (fun x => x.forget .wait)) s
    (foldS (List.finRange 4) slotsFromNow s).enter .armed

/-- DISARM (R182). -/
def disarmStep (s : State) : State :=
  if s.islandHeld 2 then s
  else match s.dev.st with
  | .armed | .syncing | .running | .governed => disarmNow s
  | .stalled => s.wr PLAN.base PLAN.CMD_DISARM 1
  | _ => s.err 0x05

/-! ## The plan engine's page (R149, R184, R185) -/

/-- GOV_CLEAR (R149, R185): a request that waits for the boundary; discarded while the latch is not set. -/
def govClearStep (s : State) : State :=
  if s.islandHeld 2 then s else if govLatched s then s.wr PLAN.base PLAN.GOV_CLEAR 1 else s.err 0x05

/-- LATE_POP (R184, R185): the read returns and removes the oldest record of the late log. -/
def latePopStep (s : State) : State :=
  match s.plan.lateLog with
  | [] => s.respond 0
  | (i, l) :: rest =>
    (s.updPlan (fun p => { p with lateLog := rest })).respond (toWord (2 ^ 31 + l % 2 ^ 14 * 2 ^ 16 + i % 2 ^ 14))

/-! ## Commands -/

/-- PLAN_LOAD. -/
def execPlanLoad (s : State) : Host.Outcome State Fault Refusal := .next (planLoadStep s)
/-- LOAD_CHECK_PASS. -/
def execLoadCheckPass (s : State) : Host.Outcome State Fault Refusal := .next (checkPassStep s)
/-- LOAD_WRITE_PASS. -/
def execLoadWritePass (s : State) : Host.Outcome State Fault Refusal := .next (writePassStep s)
/-- ARM. -/
def execArm (s : State) : Host.Outcome State Fault Refusal := .next (armStep s)
/-- DISARM. -/
def execDisarm (s : State) : Host.Outcome State Fault Refusal := .next (disarmStep s)
/-- GOV_CLEAR. -/
def execGovClear (s : State) : Host.Outcome State Fault Refusal := .next (govClearStep s)
/-- LATE_POP. -/
def execLatePop (s : State) : Host.Outcome State Fault Refusal := .next (latePopStep s)

end Sys2Proof.Machine
end

