-- ==== Sys2Proof/Machine/RegView.lean ====
section
/-! DEFINITION. What a read of a register returns where the register shows the state of a unit: the read-only status
fields of every page. Every other field reads as it is held. -/

namespace Sys2Proof.Machine

/-- Fields and the values they show. -/
abbrev Shows := List (Fld × Nat)

/-- A word with the shown fields put in. -/
def showIn (w : Word) (l : Shows) : Word := l.foldl (fun w e => e.1.put w e.2) w

/-! ## The header (R482) -/

/-- BLK_ID and STATUS of a page. -/
def viewHeader (s : State) (r : PageRow) (o : Nat) : Shows :=
  let b := pageBase r.page
  if o = 0 then [(HDR.BLK_ID_TYPE, r.type), (HDR.BLK_ID_INSTANCE, r.inst)]
  else if o = 0xC then
    [(HDR.STATUS_EVT_ANY, b2n (s.reg (b + 0x10) &&& s.reg (b + 0x14) != 0)),
     (HDR.STATUS_COMMIT_PEND, b2n (s.committed.any (fun c =>
       decide (0x400000 ≤ c.addr) && decide (pageOf c.addr = r.page))))]
  else []

/-! ## TRK (R68, R96, R122) -/

/-- SPEED (R96); without a position the true pitch is not known, and the value is free. -/
def speedShown (s : State) (t : Fin 2) : Nat :=
  let x := s.trk[t]
  if x.period = 0 ∨ teeth s t = 0 then 0
  else if x.acq = .sync then speedOf (pitch s t x.pos) x.period
  else (Config.speedNoPos x.period).toNat

/-- A tracker's page. -/
def viewTrk (s : State) (t : Fin 2) (o : Nat) : Shows :=
  let x := s.trk[t]
  match o with
  | 0x4C => [(TRK.SYNC_POS, x.pos), (TRK.SYNC_SPUR_RUN, x.spurRun), (TRK.SYNC_CAND, sat 255 x.cands.length),
      (TRK.SYNC_EPOCH_OPEN, b2n s.dev.epochOpen), (TRK.SYNC_SYNCED, b2n (x.acq == .sync)),
      (TRK.SYNC_STATE, match x.acq with
        | .off => 0 | .wait => 1 | .steady => 2 | .search => 3 | .confirm => 4 | .phase => 5 | .sync => 6)]
  | 0x50 => [(TRK.EPOCH_CYC_EPOCH, s.dev.epoch), (TRK.EPOCH_CYC_CYCLE, s.dev.cycle)]
  | 0xC0 => [(TRK.ANGLE_VALID, b2n (x.acq == .sync)), (TRK.ANGLE_DIR, b2n x.astern), (TRK.ANGLE_HORIZON, b2n x.atHorizon),
      (TRK.ANGLE, presented x)]
  | 0xD4 => [(TRK.HORIZON_ANGLE, x.horizon)]
  | 0xD8 => [(TRK.TPRED_TICKS, sat 0xFFFFFFFF x.tpred)]
  | 0xDC => [(TRK.SPEED_RPM, speedShown s t)]
  | 0xE4 => [(TRK.SHADOW_STAT_ROWS, x.rows.length)]
  | 0xEC => [(TRK.SHADOW_Q_Q, tget x.qAct (s.rd (TRK.base t) TRK.SHADOW_IDX_C) 16384)]
  | 0xF4 => [(TRK.SIG_STAT_REVS, x.sigRevs)]
  | 0xFC => [(TRK.SIG_VAL_S, unsigned 16 (sigLearned s t (s.rd (TRK.base t) TRK.SIG_IDX_I)))]
  | 0x114 => if t = 0 then [(TRK.XCHK_STAT_PEER_VALID, b2n (peerNow s).isSome), (TRK.XCHK_STAT_SUPPRESS, b2n s.xchk.suppress),
      (TRK.XCHK_STAT_CONTROL, s.dev.control.val)] else []
  | 0x14C => [(TRK.MOTION_STAT_STALLED, b2n x.stalled),
      (TRK.MOTION_STAT_HOLDING, b2n (x.stalled && decide (s.pt < x.stallPt + 400000 * s.cfg (TRK.base t) TRK.HOLD_CFG_HOLD))),
      (TRK.MOTION_STAT_VERIFY, b2n x.verify)]
  | _ => []

/-! ## PLAN, HDG, JRN (R185, R214, R216) -/

/-- The PLAN page. -/
def viewPlan (s : State) (o : Nat) : Shows :=
  match o with
  | 0x84 => [(PLAN.LATE_LEVEL_LEVEL, s.plan.lateLog.length)]
  | 0x90 =>
    let i := s.rd PLAN.base PLAN.ACT_IDX_INDEX
    let v := slotData s (entSlot (actWord0 s i))
    if i < nact s then
      [(PLAN.ACT_TRIM_PATCH, unsigned 16 (patchInUse (actWord0 s i) (actWord1 s i) v)),
       (PLAN.ACT_TRIM_TOTAL, unsigned 16 (startTrim s (actWord0 s i) (actWord1 s i) v))]
    else []
  | 0x98 =>
    let k := s.rd PLAN.base PLAN.SLOT_IDX_INDEX
    [(PLAN.SLOT_CUT_USED, b2n (slotUsed s k)), (PLAN.SLOT_CUT_CUTOFF, slotCutoff s k)]
  | _ => []

/-- The HDG page as an initiator reads it: SUB_RES and SUB_SEQ are its own (R214). -/
def viewHdg (s : State) (init : Initiator) (o : Nat) : Shows :=
  match o with
  | 0x50 => match submitterOf init with
    | some j => [(⟨0x50, 31, 0, .ro, 0⟩, s.hdg.staging[j].res.toNat)]
    | none => []
  | 0x54 => match submitterOf init with
    | some j => [(HDG.SUB_SEQ_SEQ, s.hdg.staging[j].seq.toNat)]
    | none => []
  | 0x5C => [(HDG.OCC_PENDING, (s.hdg.queue.filter (fun q => decide (q.progress ≠ 4))).length), (HDG.OCC, occ s)]
  | 0x60 => [(HDG.HEAD_SEQ_SEQ, match s.hdg.queue.head? with | some q => q.seq | none => (seqLast s + 1) % 2 ^ 32)]
  | 0x78 =>
    match s.hdg.queue.find? (fun q => q.seq == s.rd HDG.base HDG.QSEQ_SEQ) with
    | some q => [(HDG.QSTATE_VALID, 1), (HDG.QSTATE_PROGRESS, q.progress),
        (HDG.QSTATE_STATE, if q.progress = 4 then q.state else 0), (HDG.QSTATE_INDEX, q.idx)]
    | none => []
  | _ => []

/-- The JRN page. -/
def viewJrn (s : State) (o : Nat) : Shows :=
  match o with
  | 0x48 => [(JRN.FREE, jrnFree s)]
  | 0x54 => [(JRN.STAT_LOSS_PEND, b2n (decide (0 < s.hdg.lossPend)))]
  | _ => []

/-! ## BANK, LEV, SHP (R242, R244, R268) -/

/-- A BANK page. DESIGN CHOICE (log entry 196): between a spillway end, which clears the grant (R231), and the instant at which
the bank becomes free (R225), GRANTED and GRANT_CH read 0. -/
def viewBank (s : State) (b : Fin 16) (o : Nat) : Shows :=
  let x := s.banks[b]
  match o with
  | 0x58 => [(BANK.STAT_CH_LOCK, x.chLock), (BANK.STAT_BANK_LOCK, b2n x.bankLock), (BANK.STAT_DECAYING, b2n x.decayAt.isSome),
      (BANK.STAT_CLAMP, b2n x.clamp), (BANK.STAT_QDEPTH, x.queue.length), (BANK.STAT_GRANTED, b2n (grantBegun s b)),
      (BANK.STAT_GRANT_CH, if grantBegun s b then (x.grant.getD 0).val else 0), (BANK.STAT_SW, x.mask)]
  | _ => []

/-- The used times of a bank and its channels in µs, from byte offset 4 of its block. -/
def viewLev (s : State) (b j : Nat) : Shows :=
  if j = 0 then [(⟨4, 19, 0, .ro, 0⟩, levUsed s (64 + b) / 200)] else [(⟨4, 19, 0, .ro, 0⟩, levUsed s (4 * b + (j - 1)) / 200)]

/-- A shaper's RUN register. -/
def viewShp (s : State) (b : Fin 16) : Shows :=
  let x := s.shp[b]
  [(SHPB.RUN_BUSY, b2n x.running), (SHPB.RUN_E, b2n x.e), (SHPB.RUN_D, b2n x.d), (SHPB.RUN_T, b2n x.t),
   (SHPB.RUN_DIPARM, b2n x.dipFrom.isSome), (SHPB.RUN_CH, x.chan.val), (SHPB.RUN_SLOT, x.slot), (SHPB.RUN_PC, x.pc)]

/-! ## CONV, ADCX, PWM (R296, R298, R316, R317) -/

/-- The slot bit of a scan an open slot started. -/
def scanSlotBit (x : Option Scan) : Nat :=
  match x with
  | some y => if y.act.isNone then 2 ^ y.slot else 0
  | none => 0

/-- A CONV page. -/
def viewConv (s : State) (k : Fin 4) (o : Nat) : Shows :=
  let x := s.conv[k]
  let cvm := s.on (CONV.base k) CONV.CFG_PATH
  match o with
  | 0x44 => [(CONV.STAT_BUSY, b2n x.run.isSome), (CONV.STAT_PLAN_RUN, b2n (match x.run with | some y => y.act.isSome | none => false)),
      (CONV.STAT_PLAN_WAIT, b2n x.waiting.isSome), (CONV.STAT_PATH_ACT, b2n cvm), (CONV.STAT_COEF_SET, b2n x.coefSet),
      (CONV.STAT_POS, x.pos), (CONV.STAT_PEND, x.pend), (CONV.STAT_SUSP, scanSlotBit x.susp), (CONV.STAT_RUN, scanSlotBit x.run)]
  | 0x58 => if cvm then [(CONV.LAST_RAW, 0), (CONV.LAST_RESULT, 0)] else []
  | 0x6C => if cvm then [(CONV.CAL_Z_VALID, 0), (CONV.CAL_Z_Z, 0)] else []
  | 0x70 => if cvm then [(CONV.CAL_F_F, 0)] else []
  | _ => []

/-- A PWM generator's block, by offset in it. -/
def viewPwn (s : State) (n : Fin 16) (o : Nat) : Shows :=
  let x := s.pwm[n]
  match o with
  | 0x14 => [(⟨0x14, 31, 16, .ro, 0⟩, pwP s n),
      (⟨0x14, 15, 0, .ro, 0⟩, if pwmCounts s n then tau s n / pwStep s n else 0)]
  | 0x18 => [(⟨0x18, 31, 0, .ro, 0⟩, (s.actReg (pw n + 8)).toNat)]
  | 0x1C => [(⟨0x1C, 31, 0, .ro, 0⟩, (s.actReg (pw n + 0xC)).toNat)]
  | 0x40 => [(PWN.STAT_RUNNING, b2n (pwmCounts s n)), (PWN.STAT_SAFE, b2n (pwmSafe s n)), (PWN.STAT_SPILL, b2n (decide (x.hold ≠ 0))),
      (PWN.STAT_TRIPIN, b2n (tripMapped s n)), (PWN.STAT_BOOT, b2n (refreshOn s n)), (PWN.STAT_PEND, b2n x.loadReq),
      (PWN.STAT_OUT_B, b2n x.outB), (PWN.STAT_OUT_A, b2n x.outA)]
  | _ => []

/-! ## TMR, RUN (R332, R343) -/

/-- A timer's block, by offset in it. -/
def viewTmn (s : State) (n : Fin 16) (o : Nat) : Shows :=
  let x := s.tmr[n]
  match o with
  | 0x04 => [(TMN.COUNT, x.count)]
  | 0x20 => [(TMN.CAP_STAT_LEVEL, x.queue.length)]
  | 0x2C => [(TMN.STAT_TIO, b2n (tioShown s n)), (TMN.STAT_HELD, b2n (x.held && s.on (tm n) TMN.CFG_TIO_OE)),
      (TMN.STAT_GATED, b2n (decide (s.cfg (tm n) TMN.CFG_SMODE = 1) && !gateLevel s n)), (TMN.STAT_RUNNING, b2n (tmrRun s n))]
  | _ => []

/-- The levels of the RIO balls: driven ones as driven, the others as last seen. -/
def rioLevels (s : State) : Nat :=
  let oe := (s.actReg (RUN.base + 0x44)).toNat
  (s.rioOut &&& oe) ||| (s.rioPins &&& (0xFFFFFFFF ^^^ oe))

/-- A Runnel engine's block, by offset in it. -/
def viewRne (s : State) (e : Fin 8) (o : Nat) : Shows :=
  let x := s.rnl[e]
  match o with
  | 0x0C => [(RNE.STAT_RUNNING, b2n (rnlRun s e)), (RNE.STAT_WAITING, b2n (rnlRun s e && x.wait != .none)), (RNE.STAT_BC, rget s e RNE.MISC_BC),
      (RNE.STAT_OUT_LEVEL, x.outF.length), (RNE.STAT_IN_LEVEL, x.inF.length)]
  | 0x14 => [(RNE.PDATA_WORD, tget x.prog (rget s e RNE.PADDR_ADDR) 0)]
  | _ => []

/-! ## Cores (R371) -/

/-- MODE of a core. -/
def coreMode (x : Core) : Nat :=
  if !x.on then 0 else if x.parked then 6 else if x.faulted then 5 else if x.task.isSome then 3
  else if x.idle then 4 else if x.bg.wait != .none then 2 else 1

/-- A core's control block. -/
def viewCore (s : State) (c : Fin 4) (o : Nat) : Shows :=
  let x := s.cores[c]
  let sel := s.rd (cr c) CORE.SLOT_SEL_SLOT
  match o with
  | 0x04 => [(CORE.STAT_TSLOT, match x.task with | some t => t.slot | none => 0), (CORE.STAT_MODE, coreMode x)]
  | 0x1C => [(CORE.SLOT_MAX_OVERRUNS, (slotStat x sel).2), (CORE.SLOT_MAX_MAX, (slotStat x sel).1)]
  | 0x20 => [(CORE.FSLOT_LO_WORD, x.frame.getD sel 0 % 2 ^ 32)]
  | 0x24 => [(CORE.FSLOT_HI_WORD, x.frame.getD sel 0 / 2 ^ 32)]
  | _ => []

/-! ## CATCH, FLUME (R382, R396) -/

/-- The CATCH page. -/
def viewCatch (s : State) (o : Nat) : Shows :=
  let word : Fld := ⟨0, 31, 0, .ro, 0⟩
  if o = 0x50 then [(CATCH.REQ, (List.range 7).foldl (fun m t => if requestTo s t then m + 2 ^ t else m) 0)]
  else if 0x100 ≤ o ∧ o < 0x1E0 then [(word, pendWord s ((o - 0x100) / 0x20) ((o - 0x100) % 0x20 / 4))]
  else if 0x1E0 ≤ o ∧ o < 0x200 then [(word, anyWord s ((o - 0x1E0) / 4))]
  else if 0x800 ≤ o ∧ o < 0xC00 then
    let x := s.csrc ((o - 0x800) / 4)
    [(CSTAT.STAT_PEND, b2n x.pend.isSome), (CSTAT.STAT_TARGET, x.pend.getD (x.last.getD 0)), (CSTAT.STAT_ACC, x.acc)]
  else []

/-- BUSY and HALTED of the FLUME page. -/
def viewFlume (s : State) (o : Nat) : Shows :=
  let mask := fun (q : Nat) => (List.finRange 32).foldl (fun m c => if flumeState s c = q then m + 2 ^ c.val else m) 0
  match o with
  | 0x40 => [(FLUME.BUSY_RUN, mask 1)]
  | 0x44 => [(FLUME.HALTED_HALT, mask 2)]
  | _ => []

/-! ## LINK, SYS, DBG (R430, R489, R492) -/

/-- A HEART from a device came within the last 2 µs. -/
def heardNow (s : State) (d : Nat) : Option HeardDev :=
  match heardOf s d with
  | some h => if s.tick ≤ h.at_ + 800 then some h else none
  | none => none

/-- The symbol errors of a port since the reset, saturating (R430). How many a tick brings is free (log entry 153). -/
def symShown (s : State) (p : Nat) : Nat :=
  sat 65535 ((List.range (s.tick - s.link.symFrom)).foldl (fun n k => n + (Config.symErrors p (s.link.symFrom + k)).toNat) 0)

/-- In link mode the angle advances without beats: no good beat for two beat intervals (R423; log entry 74). -/
def flywheeling (s : State) : Bool :=
  following s && s.trk[(0 : Fin 2)].acq == .sync && (match s.link.beatAt with | some t => decide (t + 80 ≤ s.tick) | none => true)

/-- The LINK page. -/
def viewLink (s : State) (o : Nat) : Shows :=
  match o with
  | 0x48 => [(LINK.STAT_FLYWHEEL, b2n (flywheeling s)),
      (LINK.STAT_HEARD, (List.range 8).foldl (fun m d => if (heardNow s d).isSome then m + 2 ^ d else m) 0)]
  | 0x54 =>
    let d := s.rd LINK.base LINK.PATH_IDX_ID
    [(LINK.PATH_VALID, b2n (heardNow s d).isSome), (LINK.PATH_TICKS, pathOf s d)]
  | 0x60 => [(LINK.SYMERR_UP, symShown s 0), (LINK.SYMERR_DOWN, symShown s 1)]
  | 0x7C => [(LINK.FIFO_MSG, s.link.msgFifo.length), (LINK.FIFO_EVT, s.link.evtFifo.length)]
  | _ => []

/-- A lot character as fused: its code is one of those R8 gives, digits, letters or the unused position 0x3F. -/
def lotChar (c : Nat) : Nat := if c % 37 = 36 then 0x3F else c % 37

/-- The lot of a die, 0 the L-die, 1 the D-die: six characters, the first in the most significant position (R8). -/
def lotShown (d : Nat) : Nat := (List.range 6).foldl (fun v i => v * 64 + lotChar (bits (Config.lot d).toNat (6 * (5 - i) + 5) (6 * (5 - i)))) 0

/-- The wafer number of a die, 1 to 25 (R8). -/
def waferShown (d : Nat) : Nat := (Config.wafer d).toNat % 25 + 1

/-- The SYS page. -/
def viewSys (s : State) (o : Nat) : Shows :=
  let word : Fld := ⟨0, 31, 0, .ro, 0⟩
  let idB := fun (d : Nat) => [(SYS.IDL_B_LOT, lotShown d / 2 ^ 32), (SYS.IDL_B_WAFER, waferShown d),
    (SYS.IDL_B_X, (Config.dieX d).toNat), (SYS.IDL_B_Y, (Config.dieY d).toNat)]
  match o with
  | 0x44 => [(⟨0x44, 7, 0, .ro, 0⟩, s.dev.straps.toNat)]
  | 0x48 => [(SYS.STATE_PREV, s.dev.prev.code), (SYS.STATE, s.shown.code)]
  | 0x4C => [(SYS.STAT_EPOCH_OPEN, b2n s.dev.epochOpen), (SYS.STAT_FROZEN, b2n s.sys.frozen)]
  | 0x60 => [(word, s.ptLo)]
  | 0x70 => [(word, lotShown 0)]
  | 0x74 => idB 0
  | 0x78 => [(word, lotShown 1)]
  | 0x7C => idB 1
  | _ => []

/-! ## Every page -/

/-- The fields a register shows, by page. -/
def viewPage (s : State) (init : Initiator) (p o : Nat) : Shows :=
  if p = 0x00 then viewSys s o
  else if p = 0x02 then viewTrk s 0 o
  else if p = 0x03 then viewTrk s 1 o
  else if p = 0x05 then viewPlan s o
  else if p = 0x06 then viewHdg s init o
  else if p = 0x07 then viewJrn s o
  else if 0x10 ≤ p ∧ p < 0x20 then viewBank s (Fin.ofNat 16 (p - 0x10)) o
  else if p = 0x20 then
    (if 0x100 ≤ o ∧ (o - 0x100) % 0x80 = 0x14 then viewShp s (Fin.ofNat 16 ((o - 0x100) / 0x80)) else [])
  else if p = 0x21 then
    let r := (o - 0x100) % 0x20
    (if 0x100 ≤ o ∧ 4 ≤ r ∧ r < 0x18 then viewLev s ((o - 0x100) / 0x20) (r / 4 - 1) else [])
  else if 0x30 ≤ p ∧ p < 0x34 then viewConv s (Fin.ofNat 4 (p - 0x30)) o
  else if p = 0x34 then (if o = 0x40 then [(ADCX.DAC_SETTLING, b2n (dacSettling s))] else [])
  else if p = 0x40 then
    (if o = 0x4C then [(PWM.TRIP_STAT_ACTIVE, tripActive s)]
     else if 0x100 ≤ o then viewPwn s (Fin.ofNat 16 ((o - 0x100) / 0x80)) ((o - 0x100) % 0x80) else [])
  else []

/-- The fields a register of the higher pages shows. -/
def viewPage2 (s : State) (p o : Nat) : Shows :=
  if p = 0x48 then (if 0x100 ≤ o then viewTmn s (Fin.ofNat 16 ((o - 0x100) / 0x40)) ((o - 0x100) % 0x40) else [])
  else if p = 0x50 then
    (if o = 0x58 then [(RUN.PIN_IN_LEVEL, rioLevels s)]
     else if 0x100 ≤ o then viewRne s (Fin.ofNat 8 ((o - 0x100) / 0x100)) ((o - 0x100) % 0x100) else [])
  else if p = 0x58 then viewCatch s o
  else if p = 0x60 then viewFlume s o
  else if p = 0x70 then viewLink s o
  else if p = 0x7F then (if o = 0x50 then [(DBG.STAT_FROZEN, b2n s.sys.frozen)] else [])
  else []

/-- What a read of the register at a word address returns, without what the read itself does (R12, R482, R488). An
offset without a register, and a page without a block, read 0. -/
def regView (s : State) (init : Initiator) (a : Nat) : Word :=
  if fieldsAt a = [] then 0
  else if a < 0x400000 then showIn (s.reg a) (viewCore s (Fin.ofNat 4 ((a - 0x200000) / 0x40000)) (a % 0x10000))
  else if isTrkBReserved a then 0
  else match pageRowOf a with
    | none => 0
    | some r =>
      let o := a % 0x1000
      if o < 0x40 then showIn (s.reg a) (viewHeader s r o)
      else if s.clockOff r.page then 0
      else showIn (s.reg a) (if r.page < 0x48 then viewPage s init r.page o else viewPage2 s r.page o)

end Sys2Proof.Machine
end

