-- ==== Sys2Proof/Machine/SysCmd.lean ====
section
/-! DEFINITION. What software asks of the system pages: PARK (R472), the debug freeze and its release (R493, R494), the
release of a thermal hold (R478), and the snapshot of PT (R489). -/

namespace Sys2Proof.Machine

/-! ## PARK (R472) -/

/-- A timer or a Runnel engine runs. -/
def tmrOrRnlRuns (s : State) : Bool := s.rd TMR.base TMR.RUN != 0 || s.rd RUN.base RUN.RUN_RUN != 0

/-- A write of SYS.CMD.PARK: held from now on, or refused and counted; in a freeze it is held whatever runs, and judged at
the release (R495). -/
def parkStep (s : State) : State :=
  if s.sys.frozen then s.wr SYS.base SYS.CMD_PARK 1
  else match s.dev.st with
  | .strapped | .loaded | .armed => if tmrOrRnlRuns s then s.err 0x00 else s.wr SYS.base SYS.CMD_PARK 1
  | _ => s.err 0x00

/-! ## Debug freeze (R493 to R495) -/

/-- A write of DBG.CTRL.FREEZE asks for a freeze; a breakpoint of the same tick yields its cause to the write. -/
def freezeStep (s : State) : State :=
  if s.sys.frozen = true ∨ s.sys.releasedAt = some s.tick then s else s.askFreeze 1

/-- A write of DBG.CTRL.RELEASE: the freeze ends in the tick after; while not frozen it has no effect and is counted. With a
write of FREEZE in the same tick there is no freeze (R495). -/
def releaseStep (s : State) : State :=
  if s.sys.frozen then { s with sys := { s.sys with releaseReq := true } }
  else
    let s := s.updSys (fun y => { y with releasedAt := some s.tick })
    if s.sys.freezeReq = 1 ∧ s.sys.freezeReqAt = s.tick then { s with sys := { s.sys with freezeReq := 0 } } else s.err 0x7F

/-- A write of DBG.CTRL: both bits together while not frozen do nothing (R495). -/
def dbgCtrlStep (v : Word) (s : State) : State :=
  let freeze := bit v.toNat 0
  let release := bit v.toNat 1
  if freeze && release && !s.sys.frozen then s
  else
    let s := if freeze then freezeStep s else s
    if release then releaseStep s else s

/-- PT has reached BRK_PT with PT_EN set (R493). -/
def brkPtStep (s : State) : State :=
  let brk := s.cfg DBG.base DBG.BRK_PT_HI_PT * 2 ^ 32 + s.cfg DBG.base DBG.BRK_PT_LO_PT
  if s.on DBG.base DBG.BRK_CFG_PT_EN ∧ s.pt = brk ∧ s.ptStands = false ∧ s.sys.freezeReq = 0 then
    s.askFreeze 2
  else s

/-- The freeze begins in a tick after its cause (R493, R494): PT stands, the outputs spillway-end, a running epoch is to be
disarmed at release. -/
def freezeBegin (s : State) : State :=
  if s.sys.freezeReq = 0 ∨ s.sys.frozen = true ∨ s.tick ≤ s.sys.freezeReqAt then s
  else
    let s := s.wr DBG.base DBG.STAT_CAUSE s.sys.freezeReq
    let s := (s.wr DBG.base DBG.STAT_DISARM_PEND (b2n s.dev.epochOpen)).wr DBG.base DBG.FRZ_PT_PT s.ptLo
    let s := s.bump DBG.base DBG.FRZ_CNT_COUNT
    let s := foldS (List.finRange 16) truncateBank s
    { s with sys := { s.sys with frozen := true, frozenAt := s.tick, freezeReq := 0, releaseReq := false } }

/-- Trackers that are not off go to WAIT: periods measured across a freeze mean nothing (R494). -/
def trackersWait (s : State) : State :=
  foldS [0, 1] (fun (t : Fin 2) s =>
    if s.trk[t].acq = .off then s
    else (leaveSync t 9 .wait s).updTrk t (fun x => { x.forget .wait with edges := [] })) s

/-- The freeze ends in the tick after its release (R493, R494). -/
def freezeEnd (s : State) : State :=
  if s.sys.frozen ∧ s.sys.releaseReq then
    let s := resumePwm { s with sys := { s.sys with frozen := false, releaseReq := false } }
    if s.flag DBG.base DBG.STAT_DISARM_PEND then disarmNow (s.wr DBG.base DBG.STAT_DISARM_PEND 0)
    else if s.dev.st = .armed ∨ s.dev.st = .syncing then trackersWait s
    else s
  else s

/-! ## Thermal hold (R478) -/

/-- The present Tj in quarter degrees. -/
def tjNow (s : State) : Int := signed 16 (s.rd THERM.base THERM.TJ)

/-- A write of THERM.CTRL.RELEASE: ignored and counted at or above 135 °C, else it releases held outputs in a disarmed
state. -/
def thermReleaseStep (s : State) : State :=
  if 540 ≤ tjNow s then s.err 0x7C
  else if s.flag THERM.base THERM.STAT_HOLD ∧ (s.dev.st = .strapped ∨ s.dev.st = .loaded) then releaseHolds .arm s
  else s

/-! ## PT (R489) -/

/-- A read of SYS.PT_LO snapshots PT_HI. -/
def ptLoReadStep (s : State) : State :=
  (s.setReg (SYS.base + 0x64) (toWord (s.pt / 2 ^ 32))).respond (toWord s.pt)

/-! ## Commands -/

/-- PARK. -/
def execPark (s : State) : Host.Outcome State Fault Refusal := .next (parkStep s)
/-- DBG_FREEZE. -/
def execDbgFreeze (s : State) : Host.Outcome State Fault Refusal := .next (freezeStep s)
/-- BRK_PT_MATCH. -/
def execBrkPtMatch (s : State) : Host.Outcome State Fault Refusal := .next (brkPtStep s)
/-- FREEZE_BEGIN. -/
def execFreezeBegin (s : State) : Host.Outcome State Fault Refusal := .next (freezeBegin s)
/-- DBG_RELEASE. -/
def execDbgRelease (s : State) : Host.Outcome State Fault Refusal := .next (releaseStep s)
/-- THERM_RELEASE. -/
def execThermRelease (s : State) : Host.Outcome State Fault Refusal := .next (thermReleaseStep s)
/-- PT_LO_READ. -/
def execPtLoRead (s : State) : Host.Outcome State Fault Refusal := .next (ptLoReadStep s)

end Sys2Proof.Machine
end

