-- ==== Sys2Proof/Machine/Bus.lean ====
section
/-! DEFINITION. The crossbar: what a read or a write of any initiator does at its address (R434, R435, R437 to R439, R448),
registers by their access codes (R12) with everything a read or a write of them triggers, and 16-bit accesses to
registers (R364). -/

namespace Sys2Proof.Machine

/-! ## The path of an access -/

/-- Which path an access takes, with its own 16-bit latch and snapshot (R364, R418). -/
inductive BusPath
  | plain (init : Initiator)
  | core (c : Fin 4) (task : Bool)
  | peer (src init : Nat)
  deriving DecidableEq, Repr

/-- The initiator at the crossbar. -/
def pathInit : BusPath → Initiator
  | .plain i => i
  | .core c _ => .core c
  | .peer _ _ => .link

/-- A core's register bank. -/
def pathBank (s : State) (c : Fin 4) (task : Bool) : CoreBank := if task then s.cores[c].tb else s.cores[c].bg

/-- The latch and snapshot of a path. -/
def halfOf (s : State) : BusPath → HalfPath
  | .plain i => tget s.halves (initCode i) ⟨none, none⟩
  | .core c t => ⟨(pathBank s c t).latch, (pathBank s c t).snap⟩
  | .peer src init => tget s.halves (256 * (8 + src) + init) ⟨none, none⟩

/-- The latch and snapshot of a path replaced. -/
def setHalf (p : BusPath) (h : HalfPath) (s : State) : State :=
  match p with
  | .plain i => { s with halves := tset s.halves (initCode i) h ⟨none, none⟩ }
  | .core c t => updBankOf c t (fun b => { b with latch := h.latch, snap := h.snap }) s
  | .peer src init => { s with halves := tset s.halves (256 * (8 + src) + init) h ⟨none, none⟩ }

/-! ## Reads that act (R47, R96, R185, R294, R296, R331, R340, R341, R430, R489) -/

/-- The profile table in the SHP page (R268): the entry an address holds. -/
def profTableAt (a : Nat) : Option Nat := if 0x420C00 ≤ a ∧ a < 0x421000 then some ((a - 0x420C00) / 4) else none

/-- A read of PDATA shows the word at PADDR and advances the address with AUTOINC (R340). -/
def pdataRead (e : Fin 8) (s : State) : State :=
  (paddrAuto e s).respond (toWord (tget s.rnl[e].prog (rget s e RNE.PADDR_ADDR) 0))

/-- What a read of a register in one of the lower pages does beside returning it. -/
def readActs1 (p o : Nat) : Option (State → State) :=
  if p = 0x00 then (if o = 0x60 then some ptLoReadStep else none)
  else if p = 0x02 ∨ p = 0x03 then (if o = 0xC0 then some (angleReadStep (Fin.ofNat 2 (p - 2))) else none)
  else if p = 0x04 then
    (if o = 0x44 then some ptabLoRead else if o = 0x48 then some ptabHiRead
     else if 0x100 ≤ o ∧ o < 0x300 ∧ (o - 0x100) % 0x80 = 0x18 then some (stampLoRead (Fin.ofNat 4 ((o - 0x100) / 0x80)))
     else none)
  else if p = 0x05 then (if o = 0x80 then some latePopStep else none)
  else if 0x30 ≤ p ∧ p < 0x34 then
    (if 0x400 ≤ o ∧ o < 0x550 ∧ o % 0x10 = 0 then
      some (sumLoReadStep (Fin.ofNat 4 (p - 0x30)) (Fin.ofNat 21 ((o - 0x400) / 0x10))) else none)
  else none

/-- What a read of a register in one of the higher pages does beside returning it. -/
def readActs2 (p o : Nat) : Option (State → State) :=
  if p = 0x34 then (if o = 0x6C then some scanLoReadStep else none)
  else if p = 0x48 then
    (if 0x100 ≤ o ∧ o < 0x500 ∧ (o - 0x100) % 0x40 = 0x14 then some (capPtReadStep (Fin.ofNat 16 ((o - 0x100) / 0x40)))
     else none)
  else if p = 0x50 then
    (if 0x100 ≤ o ∧ o < 0x900 ∧ (o - 0x100) % 0x100 = 0x14 then some (pdataRead (Fin.ofNat 8 ((o - 0x100) / 0x100)))
     else if 0x100 ≤ o ∧ o < 0x900 ∧ (o - 0x100) % 0x100 = 0x1C then some (rnlOutStep (Fin.ofNat 8 ((o - 0x100) / 0x100)))
     else none)
  else if p = 0x70 then (if o = 0x6C then some evtPopStep else if o = 0x70 then some msgPayStep else none)
  else none

/-- What a read of the register at an address does, where it does anything. -/
def readActs (s : State) (a : Nat) : Option (State → State) :=
  if a < 0x400000 ∨ s.clockOff (pageOf a) then none
  else if pageOf a < 0x34 then readActs1 (pageOf a) (a % 0x1000) else readActs2 (pageOf a) (a % 0x1000)

/-- A 32-bit read of a register: its value and what the read does. -/
def regRead (init : Initiator) (a : Nat) (s : State) : Word × State :=
  match readActs s a with
  | some f => ((f s).respData.headD 0, f s)
  | none =>
    match profTableAt a with
    | some k => (toWord (tget s.plan.profile k 0), s)
    | none => (regView s init a, s)

/-! ## Writes by access code (R12) -/

/-- One field of a register after a write. -/
def fieldWrite (v w : Word) (f : Fld) : Word :=
  match f.acc with
  | .rw | .rws => f.put w (f.of v)
  | .w1c => f.put w (f.of w &&& (f.top ^^^ f.of v))
  | _ => w

/-- A register that has no behaviour of its own takes a write: RW and RW-S fields take their bits, W1C fields clear. -/
def plainWrite (a : Nat) (v : Word) (s : State) : State := s.setReg a ((fieldsAt a).foldl (fieldWrite v) (s.reg a))

/-! ## Writes that act -/

/-- A write of PLAN.CMD: LOAD, ARM and DISARM in this order. -/
def planCmdStep (v : Word) (s : State) : State :=
  let s := if bit v.toNat 0 then planLoadStep s else s
  let s := if bit v.toNat 1 then armStep s else s
  if bit v.toNat 2 then disarmStep s else s

/-- A write of the profile table obeys R180 (R268). -/
def profileWrite (k : Nat) (v : Word) (s : State) : State :=
  if s.armedOrLater then s.err 0x05
  else (s.updPlan (fun p => { p with profile := tset p.profile k v.toNat 0 })).wr PLAN.base PLAN.INFO_TAINTED 1

/-- A write of CONVk.CAL_CMD: the measurement named starts, ABORT ends it. -/
def calCmdStep (k : Fin 4) (v : Word) (s : State) : State :=
  let s := if bit v.toNat 0 then calStartStep false k s else s
  let s := if bit v.toNat 1 then calStartStep true k s else s
  if bit v.toNat 2 then calAbortStep k s else s

/-- A write of CAL_CFG writes POS, which voids the zero value (R286). -/
def calCfgStep (k : Fin 4) (v : Word) (s : State) : State :=
  (plainWrite (CONV.base k + 0x60) v s).wr (CONV.base k) CONV.CAL_Z_VALID 0

/-- A write of PWMn.FLAGS: the trip latch by its own rule (R311), the other bits clear. -/
def pwmFlagsStep (n : Fin 16) (v : Word) (s : State) : State :=
  let s := plainWrite (PWN.base n + 0x3C) (v &&& ~~~1) s
  if bit v.toNat 0 then tripClearStep n s else s

/-- A write of a Flume channel's CMD (R392, R398): START first, ABORT before RESUME. -/
def flumeCmdStep (c : Fin 32) (v : Word) (s : State) : State :=
  let s := if bit v.toNat 0 then softStart c s else s
  if bit v.toNat 2 then dmaServe c (abortChan c s)
  else if bit v.toNat 1 then resumeChan c s
  else s

/-- A write of HPS.CFG: GEN takes 0b01 and 0b10 and ignores other values (R429). -/
def hpsCfgStep (v : Word) (s : State) : State :=
  let g := HPS.CFG_GEN.of v
  if g = 1 ∨ g = 2 then s.wr HPS.base HPS.CFG_GEN g else s

/-- A write of HPQ.CTRL.SEQ_RESET (R404). -/
def seqResetStep (s : State) : State := s.wr HPQ.base HPQ.SEQ_VALID 0

/-- The bytes of the flash master's next beat: one register, else up to the end of an 8-byte word (R391, R444). -/
def flSize (a left : Nat) : Nat := min left (if isRegAddr a then 4 - a % 4 else 8 - a % 8)

/-- A write of FL.CTRL.START: the command in OP runs, or is ignored and counted while one runs (R429). With WRITE the bytes at
BUF are first read, beat by beat. -/
def flStartStep (s : State) : State :=
  if s.clockOff 0x6A = true ∨ s.flag FL.base FL.CTRL_BUSY = true then s.err 0x6A
  else
    let n := s.rd FL.base FL.LEN_BYTES
    let a := s.rd FL.base FL.BUF_ADDR
    let s := s.wr FL.base FL.CTRL_BUSY 1
    if s.flag FL.base FL.OP_WRITE ∧ n ≠ 0 then
      addWait (.access .flash .fl a (flSize a n) false 0)
        { s with flash := { s.flash with sent := [], job := some ⟨false, false, a, n, []⟩ } }
    else { s with flash := { s.flash with sent := [] } }

/-- A write of a core's SLOT_MAX sets MAX of the selected slot (R371). -/
def slotMaxStep (c : Fin 4) (v : Word) (s : State) : State :=
  let k := s.rd (cr c) CORE.SLOT_SEL_SLOT
  s.updCore c (fun x => { x with
    slotMax := tset x.slotMax k (CORE.SLOT_MAX_MAX.of v, (tget x.slotMax k (0, 0)).2) (0, 0) })

/-- Writes of a core's control block. -/
def coreCtlWrite (c : Fin 4) (a : Nat) (v : Word) (s : State) : State :=
  let o := a % 0x10000
  if o = 0x00 then (if bit v.toNat 0 then coreRestartStep c s else s)
  else if o = 0x1C then slotMaxStep c v s
  else plainWrite a v s

/-- Writes of SYS, TRK, WHL, PLAN, HDG, JRN and BANK pages that act; none where the plain write is all. -/
def writeActs1 (init : Initiator) (p o a : Nat) (v : Word) : Option (State → State) :=
  if p = 0x00 then (if o = 0x50 then some (fun s => if bit v.toNat 0 then parkStep s else s) else none)
  else if p = 0x02 ∨ p = 0x03 then
    let t := Fin.ofNat 2 (p - 2)
    (if o = 0xE0 then some (fun s => let s := plainWrite a v s; if bit v.toNat 8 then shadowClrStep t s else s)
     else if o = 0xF0 then some (fun s => let s := plainWrite a v s; if bit v.toNat 16 then sigResetStep t s else s)
     else if o = 0x120 ∧ p = 0x02 then
      some (fun s =>
        let s := if bit v.toNat 0 then rejoinStep s else s
        if bit v.toNat 1 then handbackStep s else s)
     else none)
  else if p = 0x04 then
    (if o = 0x44 then some (ptabLoWrite v) else if o = 0x48 then some (ptabHiWrite v) else none)
  else if p = 0x05 then
    (if o = 0x40 then some (planCmdStep v)
     else if o = 0x64 then some (fun s => if bit v.toNat 30 then govClearStep s else s) else none)
  else if p = 0x06 then
    (if o = 0x40 then some (subWriteStep init 0 v) else if o = 0x44 then some (subWriteStep init 1 v)
     else if o = 0x48 then some (subWriteStep init 2 v) else if o = 0x4C then some (sub3Bus init v) else none)
  else if p = 0x07 then (if o = 0x44 then some (jrnRdStep v) else none)
  else if 0x10 ≤ p ∧ p < 0x20 then (if o = 0x70 then some (bankUnlockStep (Fin.ofNat 16 (p - 0x10)) v) else none)
  else none

/-- Writes of CONV, ADCX, PWM and TMR pages that act. -/
def writeActs2 (p o : Nat) (v : Word) : Option (State → State) :=
  if 0x30 ≤ p ∧ p < 0x34 then
    let k := Fin.ofNat 4 (p - 0x30)
    (if o = 0x5C then some (convSoftStep k v) else if o = 0x60 then some (calCfgStep k v)
     else if o = 0x64 then some (calCmdStep k v)
     else if 0x200 ≤ o ∧ o < 0x300 ∧ (o - 0x200) % 0x20 = 0x10 then
      some (ringMarkStep k (Fin.ofNat 8 ((o - 0x200) / 0x20)) v)
     else none)
  else if p = 0x34 then (if o = 0x40 then some (dacWriteStep v) else none)
  else if p = 0x40 then
    let n := Fin.ofNat 16 ((o - 0x100) / 0x80)
    (if o = 0x40 then some (loadAllStep v) else if o = 0x44 then some (pwmRunStep v)
     else if 0x100 ≤ o ∧ o < 0x900 ∧ (o - 0x100) % 0x80 = 0x38 then some (pwmForceStep n v)
     else if 0x100 ≤ o ∧ o < 0x900 ∧ (o - 0x100) % 0x80 = 0x3C then some (pwmFlagsStep n v)
     else none)
  else if p = 0x48 then
    (if o = 0x40 then some (tmrRunStep v) else if o = 0x44 then some (tmrSoftStep v)
     else if 0x100 ≤ o ∧ o < 0x500 ∧ (o - 0x100) % 0x40 = 0x0C then some (cmpWriteStep (Fin.ofNat 16 ((o - 0x100) / 0x40)) v)
     else none)
  else none

/-- Writes of an engine's block of the RUN page that act, by offset in it. -/
def rneWrite (e : Fin 8) (r : Nat) (v : Word) : Option (State → State) :=
  if r = 0x00 then some (fun s => if bit v.toNat 0 then shiftClrStep e s else s)
  else if r = 0x18 then some (rnlInStep e v)
  else if [0x08, 0x14, 0x28, 0x2C, 0x30, 0x34, 0x38, 0x3C].contains r then some (rnlProgStep e r v)
  else none

/-- Writes of a channel's block of the FLUME page that act, by offset in it (R385, R392, R393, R397). -/
def flcWrite (c : Fin 32) (r a : Nat) (v : Word) : Option (State → State) :=
  if r = 0x00 ∨ r = 0x04 ∨ r = 0x08 ∨ r = 0x10 then some (progWrite c false (plainWrite a v))
  else if r = 0x0C then some (ctrlWriteStep c v)
  else if r = 0x30 then some (flumeCmdStep c v)
  else none

/-- Writes of RUN, CATCH and FLUME pages that act. -/
def writeActs3 (p o a : Nat) (v : Word) : Option (State → State) :=
  if p = 0x50 then
    (if o = 0x40 then some (rnlRunStep v)
     else if 0x100 ≤ o ∧ o < 0x900 then rneWrite (Fin.ofNat 8 ((o - 0x100) / 0x100)) ((o - 0x100) % 0x100) v else none)
  else if p = 0x58 then
    (if o = 0x40 then some (fun s => s.raise (bits v.toNat 7 0))
     else if 0x60 ≤ o ∧ o < 0x7C then some (completeStep ((o - 0x60) / 4) (bits v.toNat 7 0))
     else if 0x800 ≤ o ∧ o < 0xC00 then some (countWrite ((o - 0x800) / 4))
     else none)
  else if p = 0x60 then
    (if 0x100 ≤ o ∧ o < 0x900 then flcWrite (Fin.ofNat 32 ((o - 0x100) / 0x40)) ((o - 0x100) % 0x40) a v else none)
  else none

/-- Writes of the host, link, memory and system pages that act. -/
def writeActs4 (p o a : Nat) (v : Word) : Option (State → State) :=
  if p = 0x68 then (if o = 0x40 then some (hpsCfgStep v) else none)
  else if p = 0x69 then (if o = 0x44 then some (fun s => if bit v.toNat 0 then seqResetStep s else s) else none)
  else if p = 0x6A then (if o = 0x58 then some (fun s => if bit v.toNat 0 then flStartStep s else s) else none)
  else if p = 0x70 then (if o = 0x64 then some (rstCmdStep v) else none)
  else if p = 0x79 then (if o = 0x60 then some (fun s => (plainWrite a v s).wr XBAR.base XBAR.MON_FRAMES_COUNT 0) else none)
  else if p = 0x7C then
    (if o = 0x5C then some (fun s => s.wr THERM.base THERM.MAX_T (s.rd THERM.base THERM.TJ))
     else if o = 0x64 then some (fun s => if bit v.toNat 0 then thermReleaseStep s else s) else none)
  else if p = 0x7F then (if o = 0x40 then some (dbgCtrlStep v) else none)
  else none

/-- What a write of the register at an address does, where the plain write is not all. -/
def writeActs (init : Initiator) (a : Nat) (v : Word) : Option (State → State) :=
  let p := pageOf a
  let o := a % 0x1000
  if p < 0x30 then writeActs1 init p o a v
  else if p < 0x50 then writeActs2 p o v
  else if p < 0x68 then writeActs3 p o a v
  else writeActs4 p o a v

/-- A write of a header register (R482 to R486). -/
def headerWrite (p o : Nat) (v : Word) (s : State) : State :=
  if o = 0x08 then ctrlStep p v s
  else if o = 0x10 then evtRawStep p v s
  else if o = 0x18 then evtSetStep p v.toNat s
  else if o = 0x1C then s.wr (pageBase p) HDR.ERR_COUNT 0
  else plainWrite (pageBase p + o) v s

/-- A software write of a generator's load registers is remembered for the clock it comes in (R320). -/
def noteLoadReg (a : Nat) (s : State) : State :=
  let o := a - 0x440100
  if isLoadReg a then noteSoft (Fin.ofNat 16 (o / 0x80)) (o % 0x80) s else s

/-- A 32-bit write of a register (R12). An address without a register takes nothing; a page whose clock ENABLE stops
discards and counts (R484). -/
def regWrite (init : Initiator) (a : Nat) (v : Word) (s : State) : State :=
  if a < 0x400000 then coreCtlWrite (Fin.ofNat 4 ((a - 0x200000) / 0x40000)) a v s
  else match profTableAt a with
    | some k => profileWrite k v s
    | none =>
      if fieldsAt a = [] ∨ isTrkBReserved a then s
      else if a % 0x1000 < 0x40 then headerWrite (pageOf a) (a % 0x1000) v s
      else if s.clockOff (pageOf a) then s.err (pageOf a)
      else match writeActs init a v with
        | some f => f s
        | none => noteLoadReg a (plainWrite a v s)

/-- A write to SUB0 to SUB3 by an initiator without a staging buffer ends in a bus error (R192). -/
def subDenied (init : Initiator) (a : Nat) : Bool :=
  decide (HDG.base + 0x40 ≤ a) && decide (a < HDG.base + 0x50) && (submitterOf init).isNone

/-! ## 16-bit accesses to registers (R364) -/

/-- A 16-bit read of a register: the high half is that of the snapshot, else the one the register shows at present, which
the access reads without acting (R364). -/
def halfRead (p : BusPath) (a : Nat) (s : State) : Nat × State :=
  let reg := a / 4 * 4
  if a % 4 = 0 then
    let r := regRead (pathInit p) reg s
    let w := r.1.toNat
    (w % 65536, setHalf p { halfOf r.2 p with snap := some (reg, w / 65536) } r.2)
  else
    let now := (regRead (pathInit p) reg s).1.toNat / 65536
    match (halfOf s p).snap with
    | some (x, hi) => if x = reg then (hi, s) else (now, s)
    | none => (now, s)

/-- A high half that finds no low half of its register is discarded; a core counts it. -/
def halfDiscard (p : BusPath) (s : State) : State :=
  match p with
  | .core c _ => (s.bump (cr c) CORE.CNT_HALF).wr (cr c) CORE.STAT_HALFERR 1
  | _ => s

/-- A 16-bit write of a register; true where it acted on the register. -/
def halfWrite (p : BusPath) (a v : Nat) (s : State) : Bool × State :=
  let reg := a / 4 * 4
  if a % 4 = 0 then (false, setHalf p { halfOf s p with latch := some (reg, v % 65536) } s)
  else
    match (halfOf s p).latch with
    | some (x, lo) => if x = reg then (true, regWrite (pathInit p) reg (toWord (v % 65536 * 65536 + lo)) s)
      else (false, halfDiscard p s)
    | none => (false, halfDiscard p s)

/-! ## Memory writes -/

/-- A write to a plan memory obeys R180, R349: discarded and counted while armed, else done, tainting the plan. -/
def planMemWrite (f : State → State) (s : State) : State :=
  if s.armedOrLater then s.err 0x05
  else (f s).wr PLAN.base PLAN.INFO_TAINTED 1

/-- The bytes of a word of the SEC-DED memory at an address: 2 in a core's data memory, else 4 (R346, R434). -/
def secWidth (a : Nat) : Nat :=
  match regionOf a with
  | some (.dmem _) => 2
  | _ => 4

/-- The words of a SEC-DED memory that n bytes at an address lie in. -/
def secWords (a n : Nat) : List Nat :=
  let k := secWidth a
  (List.range ((a % k + n + k - 1) / k)).map (fun i => a / k * k + k * i)

/-- A word of a SEC-DED memory in an access reads uncorrectable: the access is poisoned (R349). -/
def secPoison (s : State) (a n : Nat) : Bool := (secWords a n).any (fun w => decide (2 ≤ secBad s w))

/-- n bytes written to a SEC-DED memory over the bus: a word written whole, or one that could be corrected before the
merge, is good again; what the scrubber read there is not written back (R441). -/
def writeSecs (a n v : Nat) (s : State) : State :=
  let k := secWidth a
  let good := (secWords a n).filter (fun w => decide (a ≤ w ∧ w + k ≤ a + n) || decide (secBad s w < 2))
  let ws := secWords a n
  foldS good (fun w s => { s with memc := { s.memc with secErr := tset s.memc.secErr w 0 0 } })
    { s with mem := memPut s.mem a n v, memc := { s.memc with wb := s.memc.wb.filter (fun e => !ws.contains e.2) } }

/-- A read of a SEC-DED word over the bus is corrected and counted, or found uncorrectable (R268, R349, R439). -/
def secRead (w : Nat) (s : State) : State :=
  let bad := secBad s w
  match regionOf w with
  | some .microcode =>
    if bad = 1 then s.bump SHP.base SHP.STORE_CORR
    else if 2 ≤ bad then noteMicrocode ((w - 0x180000) / 4) s
    else s
  | some (.imem c) =>
    let b := cr (Fin.ofNat 4 c)
    if bad = 1 then s.bump b CORE.IMEM_ECC_CORR
    else if 2 ≤ bad then s.wr b CORE.IMEM_ECC_UADDR (w % 0x10000 / 4)
    else s
  | some (.dmem c) =>
    let b := cr (Fin.ofNat 4 c)
    if bad = 1 then s.bump b CORE.DMEM_ECC_CORR
    else if 2 ≤ bad then s.wr b CORE.DMEM_ECC_UADDR (w % 0x10000 / 2)
    else s
  | _ => s

/-! ## The access -/

/-- Status codes of R402: 0 done, 3 BUS, 4 POISON, 5 not a size a register takes. -/
abbrev BusStatus := Nat

/-- A beat served for a path: that of a core's access is counted where it is served (R362). -/
def pathBeat (p : BusPath) (port : Nat) (s : State) : State :=
  match p with
  | .core _ _ => s
  | _ => monBeat port (initCode (pathInit p)) s

/-- n bytes read at an address inside one 8-byte word, by a path. -/
def busRead (p : BusPath) (addr n : Nat) (s : State) : (BusStatus × Nat) × State :=
  let a := if (peerOf s addr).isSome then addr else ownAddr addr
  let init := pathInit p
  match regionOf a with
  | none | some (.peer _) => ((3, 0), busError init addr false s)
  | some r =>
    let s := pathBeat p r.port s
    match r with
    | .sram _ | .actions | .journal | .queue | .slots =>
      let x := readDec a n s
      if x.1.2 then ((4, x.1.1), x.2) else ((0, x.1.1), x.2)
    | .microcode | .imem _ | .dmem _ => (((if secPoison s a n then 4 else 0), s.leBytes a n), foldS (secWords a n) secRead s)
    | _ =>
      if n = 4 ∧ a % 4 = 0 then let x := regRead init a s; ((0, x.1.toNat), x.2)
      else if n = 2 ∧ a % 2 = 0 then let x := halfRead p a s; ((0, x.1), x.2)
      else ((5, 0), s)

/-- n bytes written at an address inside one 8-byte word, by a path. -/
def busWrite (p : BusPath) (addr n v : Nat) (s : State) : BusStatus × State :=
  let a := if (peerOf s addr).isSome then addr else ownAddr addr
  let init := pathInit p
  match regionOf a with
  | none | some (.peer _) => (3, busError init addr true s)
  | some r =>
    let s := pathBeat p r.port s
    match r with
    | .sram _ => (0, writeDec a n v s)
    | .actions | .slots => (0, planMemWrite (writeDec a n v) s)
    | .microcode | .imem _ => (0, planMemWrite (writeSecs a n v) s)
    | .dmem _ => (0, writeSecs a n v s)
    | .queue => (0, s.err 0x06)
    | .journal => (0, s.err 0x07)
    | _ =>
      if subDenied init a then (3, busError init a true (s.err 0x06))
      else if n = 4 ∧ a % 4 = 0 then (0, regWrite init a (toWord v) s)
      else if n = 2 ∧ a % 2 = 0 then (0, (halfWrite p a v s).2)
      else (5, s)

end Sys2Proof.Machine
end

