-- ==== Sys2Proof/Machine/BusCmd.lean ====
section
/-! DEFINITION. Accesses as commands: MEMORY_READ, MEMORY_WRITE, PLAN_MEMORY_WRITE, REGISTER_WRITE, PEER_ACCESS and
PEER_SUBMIT, over one operation that begins an access of any initiator at any address (R418, R434). -/

namespace Sys2Proof.Machine

/-- What the beginning of an access leads to: it is done, with a status and a value, or its answer is awaited. -/
inductive AccessResult
  | done (st : BusStatus) (v : Nat)
  | waits
  deriving DecidableEq, Repr

/-! ## The peer's HDG page (R420) -/

/-- A whole word written to SUB0 to SUB3 of a peer. -/
def remoteSubWrite (init : Initiator) (a : Nat) (v : Word) (s : State) : AccessResult × State :=
  let peer := (a - 0x10000000) / 0x1000000
  let k := (a % 0x1000000 - 0x406040) / 4
  match submitterOf init with
  | none => (.done 3 0, busError init a true s)
  | some j =>
    if k < 3 then (.done 0 0, monBeat 10 (initCode init) (remoteWrite j k peer v s))
    else
      let x := remoteSubmit init j peer v s
      match x.1 with
      | some true => (.waits, x.2)
      | some false => (.done 0 0, x.2)
      | none => (.done 3 0, busError init a true x.2)

/-- A 16-bit write to SUB0 to SUB3 of a peer: the halves meet in the path's own latch (R364, R420). -/
def remoteSubHalf (p : BusPath) (a v : Nat) (s : State) : AccessResult × State :=
  let reg := a / 4 * 4
  if a % 4 = 0 then (.done 0 0, setHalf p { halfOf s p with latch := some (reg, v % 65536) } s)
  else
    match (halfOf s p).latch with
    | some (x, lo) =>
      if x = reg then remoteSubWrite (pathInit p) reg (toWord (v % 65536 * 65536 + lo)) s
      else (.done 0 0, halfDiscard p s)
    | none => (.done 0 0, halfDiscard p s)

/-- A 16-bit write of a core to a register of a peer meets its low half there (R418). What the peer holds for the core is
known here from the core's own writes, so that a high half it discards counts here (R364; log entry 176). -/
def peerHalf (p : BusPath) (a : Nat) (s : State) : State :=
  match p with
  | .core c _ =>
    let key := 4096 + 256 * ((a - 0x10000000) / 0x1000000) + 1 + c.val
    let reg := a / 4 * 4
    if a % 4 = 0 then { s with halves := tset s.halves key ⟨some (reg, 0), none⟩ ⟨none, none⟩ }
    else if (tget s.halves key ⟨none, none⟩).latch = some (reg, 0) then s
    else halfDiscard p s
  | _ => s

/-- SUB_RES or SUB_SEQ of a peer, answered from the last REPLY to the reader (R420). -/
def remoteRes (s : State) (init : Initiator) (a : Nat) : Word :=
  match submitterOf init with
  | none => 0
  | some j =>
    let r := tget s.link.remote[j].replies ((a - 0x10000000) / 0x1000000) (0, 0)
    if a % 8 < 4 then r.1 else r.2

/-- The bytes of a word an access of n bytes at an address takes. -/
def wordPart (a n w : Nat) : Nat := w / 2 ^ (8 * (a % 4)) % 2 ^ (8 * n)

/-! ## Any access -/

/-- An access of n bytes in a cycle that serves it: at this device it is done, through a peer window its answer is awaited
(R418 to R420). -/
def accessDo (who : PeerWho) (p : BusPath) (a n : Nat) (write : Bool) (v : Nat) (s : State) : AccessResult × State :=
  match peerOf s a with
  | none =>
    if write then let x := busWrite p a n v s; (.done x.1 0, x.2)
    else let x := busRead p a n s; (.done x.1.1 x.1.2, x.2)
  | some _ =>
    let o := a % 0x1000000
    if write = true ∧ 0x406040 ≤ o ∧ o < 0x406050 then
      (if n = 4 ∧ a % 4 = 0 then remoteSubWrite (pathInit p) a (toWord v) s
       else if n = 2 ∧ a % 2 = 0 then remoteSubHalf p a v s
       else (.done 5 0, s))
    else if write = false ∧ 0x406050 ≤ o ∧ o < 0x406058 then
      (.done 0 (wordPart a n (remoteRes s (pathInit p) (a / 4 * 4)).toNat), monBeat 10 (initCode (pathInit p)) s)
    else
      let s := if write = true ∧ n = 2 ∧ isRegAddr a = true then peerHalf p a s else s
      let x := peerSend who (initCode (pathInit p)) a n write v s
      if x.1 then (.waits, x.2) else (.done 3 0, busError (pathInit p) a write x.2)

/-- An access of an initiator is served in the present cycle, behind those of its own that wait at the port (R139, R444). -/
def portOpen (s : State) (init : Initiator) (port : Nat) : Bool :=
  busAllows s (initCode init) port && !waitsAt s init port

/-- An access of n bytes begins: it is carried out in a cycle that is open to it, else it waits for one (R139). -/
def accessBegin (who : PeerWho) (init : Initiator) (a n : Nat) (write : Bool) (v : Nat) (s : State) : AccessResult × State :=
  let port := portOf (targetOf s a)
  if portOpen s init port then accessDo who (.plain init) a n write v (takeTurn (initCode init) port s)
  else (.waits, addWait (.access who init a n write v) s)

/-- What an access returns to the initiator that made it. -/
def answer (st v n : Nat) (s : State) : State :=
  if st = 0 then { s with respData := if n ≤ 4 then [toWord v] else [toWord v, toWord (v / 2 ^ 32)], respErr := false }
  else { s with respData := [], respErr := true }

/-- An access of an initiator that is nothing else's part. -/
def plainAccess (init : Initiator) (a n : Nat) (write : Bool) (v : Nat) (s : State) : State :=
  let x := accessBegin (.plain init) init a n write v s
  match x.1 with
  | .done st r => if write then { x.2 with respErr := decide (st ≠ 0) } else answer st r n x.2
  | .waits => { x.2 with respData := [], respErr := false }

/-- The size and alignment of one access: one beat, and whole or half words in register regions (R364, R391, R444). -/
def accessForm (a n : Nat) : Bool :=
  decide (0 < n) && decide (a % 8 + n ≤ 8) &&
    (!isRegAddr a || (decide (n = 4) && decide (a % 4 = 0)) || (decide (n = 2) && decide (a % 2 = 0)))

/-- A region PLAN_MEMORY_WRITE names (R180, R349). -/
def isPlanMem (a : Nat) : Bool :=
  match regionOf a with
  | some .actions | some .slots | some .microcode | some (.imem _) => true
  | _ => false

/-! ## Commands -/

/-- MEMORY_READ (R435, R437, R439). -/
def execMemoryRead (init : Initiator) (addr : Word) (size : Nat) (s : State) : Host.Outcome State Fault Refusal :=
  if accessForm addr.toNat size = false then .fault .illFormed
  else .next (if busStopped s then s else plainAccess init addr.toNat size false 0 s)

/-- MEMORY_WRITE (R435, R438). -/
def execMemoryWrite (init : Initiator) (addr : Word) (bytes : List Byte) (s : State) : Host.Outcome State Fault Refusal :=
  if accessForm addr.toNat bytes.length = false then .fault .illFormed
  else .next (if busStopped s then s else plainAccess init addr.toNat bytes.length true (leNat bytes) s)

/-- PLAN_MEMORY_WRITE (R180, R349). -/
def execPlanMemoryWrite (init : Initiator) (addr : Word) (bytes : List Byte) (s : State) :
    Host.Outcome State Fault Refusal :=
  if accessForm addr.toNat bytes.length = false ∨ isPlanMem addr.toNat = false then .fault .illFormed
  else .next (if busStopped s then s else plainAccess init addr.toNat bytes.length true (leNat bytes) s)

/-- REGISTER_WRITE (R12). -/
def execRegisterWrite (init : Initiator) (addr : Word) (v : Word) (s : State) : Host.Outcome State Fault Refusal :=
  if isRegAddr addr.toNat = false ∨ addr.toNat % 4 ≠ 0 then .fault .illFormed
  else .next (if busStopped s then s else plainAccess init addr.toNat 4 true v.toNat s)

/-- PEER_ACCESS (R418, R419). -/
def execPeerAccess (init : Initiator) (addr : Word) (write half : Bool) (v : Word) (s : State) :
    Host.Outcome State Fault Refusal :=
  let n := if half then 2 else 4
  if addr.toNat < 0x10000000 ∨ 0x18000000 ≤ addr.toNat ∨ addr.toNat % n ≠ 0 then .fault .illFormed
  else .next (if busStopped s then s else plainAccess init addr.toNat n write v.toNat s)

/-- PEER_SUBMIT (R420): a write of SUB3 through the window of a device. -/
def execPeerSubmit (init : Initiator) (dst : BitVec 3) (v : Word) (s : State) : Host.Outcome State Fault Refusal :=
  .next (if busStopped s then s
    else plainAccess init (0x10000000 + dst.toNat * 0x1000000 + 0x40604C) 4 true v.toNat s)

/-- HPQ_SEQ_RESET. -/
def execHpqSeqReset (s : State) : Host.Outcome State Fault Refusal :=
  .next (if s.clockOff 0x69 then s.err 0x69 else seqResetStep s)
/-- FL_START. -/
def execFlStart (s : State) : Host.Outcome State Fault Refusal := .next (flStartStep s)

end Sys2Proof.Machine
end

