-- ==== Sys2Proof/Machine/Arbiter.lean ====
section
/-! DEFINITION. The converter record writer (R292, R293), which goes through the crossbar's cycles. -/

namespace Sys2Proof.Machine

/-! ## The record writer (R292, R293) -/

/-- The high-water level is reached (R292). -/
def ringHwm (k : Fin 4) (r : Nat) (s : State) : State :=
  let base := CRING.base k r
  let fill := (s.rd base CRING.WP_COUNT + 2 ^ 32 - s.rd base CRING.MARK_COUNT) % 2 ^ 32
  let lv := s.rd base CRING.HWM_LEVEL
  if lv ≠ 0 ∧ fill = lv then (s.wr base CRING.CTRL_HWM_HIT 1).raise (128 + 4 * k.val) else s

/-- The oldest record of the FIFO is written to its ring, then WP advances. -/
def recordWrite (k : Fin 4) (e : RecEntry) (rest : List RecEntry) (s : State) : State :=
  let base := CRING.base k e.ring
  let wp := s.rd base CRING.WP_COUNT
  let len := 2 ^ (e.rsize - 3)
  let a := recAddr s k e
  let s := s.updConv k (fun c => { c with fifo := rest })
  let s := monBeat (a / 0x40000) 0x40 (writeDec a 8 (e.hi * 2 ^ 32 + e.lo) s)
  if e.num.isSome then s
  else
    let fill := (wp + 2 ^ 32 - s.rd base CRING.MARK_COUNT) % 2 ^ 32
    let s := if len ≤ fill then (s.bump base CRING.OVWR_COUNT).raise (130 + 4 * k.val) else s
    let s := s.updConv k (fun c => if (tget c.wpWas e.ring (0, 0)).1 = s.clockOf 5 s.tick + 1 then c
      else { c with wpWas := tset c.wpWas e.ring (s.clockOf 5 s.tick + 1, wp) (0, 0) })
    ringHwm k e.ring (s.bumpWrap base CRING.WP_COUNT)

/-- RECORD_WRITE: the oldest record is written in a cycle in which its port serves the writer. -/
def recordWriteStep (k : Fin 4) (s : State) : State :=
  match s.conv[k].fifo with
  | [] => s
  | e :: rest =>
    let port := portOf (recAddr s k e)
    if busAllows s 0x40 port then recordWrite k e rest (takeTurn 0x40 port s) else s

/-- RECORD_WRITE. -/
def execRecordWrite (k : Fin 4) (s : State) : Host.Outcome State Fault Refusal := .next (recordWriteStep k s)

end Sys2Proof.Machine
end

