-- ==== Sys2Proof/Machine/Effect.lean ====
section
/-! DEFINITION. An action at its target PT (R22, R23): what taking effect means for each kind, and the end of a wait for
a resource (R142). -/

namespace Sys2Proof.Machine

/-- An issued action whose instant has come. Bank actions have been granted and their profile has started (R226, R239). -/
def effectDue (s : State) (a : Act) : Bool :=
  if a.isBank then
    let b : Fin 16 := Fin.ofNat 16 a.bank
    a.phase == .granted && decide (a.effectAt ≤ s.pt) && s.banks[b].holder == some a.serial &&
      (s.shp[b].running || s.shp[b].endAt.isSome)
  else a.phase == .issued && decide (a.target ≤ s.pt)

/-- The stamp of R291 for this tick: the controlling tracker's presented angle and the low six bits of the epoch. -/
def angleStamp (s : State) : Nat := s.dev.epoch % 64 * 2 ^ 26 + presented (ctl s) % 2 ^ 26

/-- The MSG frame of a LINK action (R159, R415, R421). -/
def msgFrame (s : State) (a : Act) (bcast : Bool) (dst : Nat) : LinkFrame :=
  { frameTo s 4 2 dst 2 0 0x14 0 0 [a.value % 2 ^ 32, angleStamp s] with bcast := bcast }

/-- A LINK action sends its message, broadcast on every port that is not DOWN or towards its destination; nothing while
the epoch is closed (R111, R421). -/
def linkMessage (a : Act) (s : State) : State :=
  let res := entRes a.w0
  let dst := res % 8
  if s.dev.epochOpen = false then s
  else if bit res 7 then
    let f := msgFrame s a true dst
    foldS [(0 : Fin 2), 1] (fun p s => if portState s p = 0 then s else sendFrame p f s) s
  else match pathPort s dst with
    | some p => sendFrame p (msgFrame s a false dst) s
    | none => s

/-- A grant begins when a bank action takes effect (R225); a restart keeps the grant it finds (R261). -/
def grantBegins (a : Act) (s : State) : State :=
  let b : Fin 16 := Fin.ofNat 16 a.bank
  if a.isBank ∧ s.shp[b].restarted = false then s.bumpWrap (BANK.base b) BANK.GRANTS_COUNT else s

/-- What taking effect does, by kind (R22). -/
def kindEffect (a : Act) (s : State) : State :=
  let res := entRes a.w0
  match a.kind with
  | 3 => applyAct a (propEffect (Fin.ofNat 16 (res / 16)) (res % 16) (a.value % 65536) s)
  | 4 => sampleClaimStep (Fin.ofNat 4 (scanConv (scanEnt s a))) s
  | 5 => taskEffect a s
  | 6 => applyAct a (tioAct (Fin.ofNat 16 res) (a.value % 4) s)
  | 7 => applyAct a (windowAct (res % 16) (decide (a.value % 4 = 2)) s)
  | 8 => dmaEffect a s
  | 9 => applyAct a (linkMessage a s)
  | _ => orderProgress a 3 (updAct a.serial (fun x => { x with phase := .effect }) (grantBegins a s))

/-- The oldest action of an entry of the action table that is due. -/
def dueEntry (s : State) (idx : Nat) : Option Act := s.plan.acts.find? (fun a => decide (a.idx = idx) && effectDue s a)

/-- An action of the same consumer, due with the same target PT, was issued before: it executes first (R23). -/
def goesFirst (s : State) (a : Act) : Bool :=
  s.plan.acts.any (fun x => decide (consumerOf x.kind = consumerOf a.kind) && decide (x.target = a.target) &&
    decide (x.serial < a.serial) && effectDue s x)

/-- ACTION_TAKE_EFFECT (R22 to R24). -/
def takeEffectStep (idx : Nat) (s : State) : State :=
  if s.ptStands then s
  else match dueEntry s idx with
    | some a =>
      if goesFirst s a then s
      else if a.kind = 4 ∨ a.kind = 5 ∨ a.kind = 8 then kindEffect a s else kindEffect a (countShadow a s)
    | none => s

/-- The oldest waiting DMA, SAMPLE or TASK action of an entry. -/
def waitingEntry (s : State) (idx : Nat) : Option Act :=
  s.plan.acts.find? (fun a => decide (a.idx = idx) && a.phase == .waiting && !a.isBank)

/-- WAIT_LIMIT_EXPIRE (R142). -/
def waitLimitStep (idx : Nat) (s : State) : State :=
  match waitingEntry s idx with
  | none => s
  | some a => if a.kind = 4 then sampleWaitExpire a s else if a.kind = 5 then taskWaitExpire a s else dmaWaitExpire a s

/-- ACTION_TAKE_EFFECT. -/
def execActionTakeEffect (idx : Fin 16384) (s : State) : Host.Outcome State Fault Refusal := .next (takeEffectStep idx.val s)
/-- WAIT_LIMIT_EXPIRE. -/
def execWaitLimitExpire (idx : Fin 16384) (s : State) : Host.Outcome State Fault Refusal := .next (waitLimitStep idx.val s)

end Sys2Proof.Machine
end

