-- ==== Sys2Proof/Machine/FarAccess.lean ====
section
/-! DEFINITION. Far accesses of the cores: when one is served and completes (R361 to R364), and what a bus error or a
poisoned read does (R368). -/

namespace Sys2Proof.Machine

/-! ## Timing (R362) -/

/-- The pages of blocks on the D-die (R13, R362). -/
def dDiePage (p : Nat) : Bool :=
  p == 0x04 || (decide (0x10 ≤ p) && decide (p < 0x20)) || p == 0x20 || p == 0x21 ||
    (decide (0x30 ≤ p) && decide (p ≤ 0x34)) || p == 0x40

/-- A_p of a target in ticks. -/
def farLatency (a : Nat) : Nat :=
  match regionOf a with
  | some (.dmem _) => 3
  | some (.imem _) | some (.coreCtl _) => 6
  | some .pages => if dDiePage (pageOf a) then 14 else 6
  | some (.peer _) | none => 0
  | _ => 4

/-- The ticks from the service of an access to its end for its bank: a load returns after A_p. -/
def farWait (s : State) (f : FarAcc) : Nat := if f.load then farLatency (targetOf s f.addr) else 0

/-- The PT at which an access was served, if it can end for its bank now: in its plan slot, in an open cycle that the core has
won, or in the present one (R362, R445). -/
def farServed (s : State) (c : Fin 4) (task : Bool) (f : FarAcc) : Option Nat :=
  let w := farWait s f
  let port := farPort s f
  if planSlotted s (1 + c.val) port then (planSlot s c task f).filter (fun t => decide (t + w ≤ s.pt))
  else match (grantsOf s (1 + c.val) port).find? (fun t => decide (f.issued + 2 ≤ t) && decide (t + w ≤ s.pt)) with
    | some t => some t
    | none => if w = 0 ∧ f.issued + 2 ≤ s.pt ∧ busAllows s (1 + c.val) port = true then some s.pt else none

/-- The stores of a path to a port that have not acted yet (R363). -/
def postedTo (s : State) (c : Fin 4) (task : Bool) (port : Nat) : List (Nat × (Bool × FarAcc)) :=
  s.cores[c].posted.filter (fun e => e.2.1 == task && decide (farPort s e.2.2 = port))

/-- A cycle that core c has won at a port is used. -/
def useGrant (c : Fin 4) (port t : Nat) (s : State) : State :=
  { s with memc := { s.memc with grants := s.memc.grants.erase (port, t, 1 + c.val) } }

/-- A port of this device serves an access of core c in the cycle of a PT. -/
def coreBeat (c : Fin 4) (port t : Nat) (s : State) : State := if port < 10 then beatAt port (1 + c.val) t s else s

/-- An access of core c is served at a port of this device in the cycle of a PT: its plan slot, a cycle it has won, or the
present one is taken. -/
def noteSlot (c : Fin 4) (port t : Nat) (s : State) : State :=
  if planSlotted s (1 + c.val) port then
    (coreBeat c port t s).updCore c (fun x => { x with slotUsed := x.slotUsed.filter (fun e => decide (s.pt < e.2 + 256)) ++ [(port, t)] })
  else if s.memc.grants.contains (port, t, 1 + c.val) then useGrant c port t s
  else coreBeat c port t (takeTurn (1 + c.val) port s)

/-! ## Completion -/

/-- An ENDT that issues in this tick completes its task: it goes before a fault of the tick (R373). -/
def endtFirst (c : Fin 4) (s : State) : State :=
  match s.cores[c].task, coreDue c s with
  | some t, some pc =>
    let a := imemAddr c pc
    let w := s.leBytes a 4
    if secBad s a ≤ 1 ∧ coreLegal w = true ∧ cop w = 0x28 ∧ guardHolds (liveBank s.cores[c]) w = true then taskDone c t s else s
  | _, _ => s

/-- The task whose core a background access has faulted does not complete: a periodic one is not monitored, a TASK ends at the
end of its slot's budget (R368). -/
def taskStops (c : Fin 4) (s : State) : State :=
  s.updCore c (fun x => { x with
    task := none
    failed := x.failed ++ ((x.task.bind (fun t => t.idx.map (fun i => (t.start + t.budget, i, t.order)))).toList) })

/-- A bus error or a poisoned read faults the core in the bank that made the access (R368). The access of an abandoned task
has no instruction left: FAULT shows the task bank and where it stands (log entry 177). -/
def farFault (c : Fin 4) (task : Bool) (s : State) : State :=
  if s.cores[c].faulted then s
  else
    let s := endtFirst c s
    let x := s.cores[c]
    if task = x.task.isSome then coreFault 7 c s
    else
      let pc := if task then x.tb.pc else x.bg.pc
      let s := (s.setReg (cr c + 8) (toWord (2 ^ 31 + 7 * 2 ^ 24 + b2n task * 2 ^ 14 + pc))).raise (8 + c.val)
      taskStops c (s.updCore c (fun x => { x with faulted := true }))

/-- A load delivers its value: one register, or the pair. -/
def farDeliver (f : FarAcc) (v : Nat) (b : CoreBank) : CoreBank :=
  if f.w32 then (b.setW f.reg v).setW (f.reg + 1) (v / 65536) else b.setW f.reg v

/-- The access a bank waits for has its result. -/
def farEnds (c : Fin 4) (task : Bool) (f : FarAcc) (st v : Nat) (s : State) : State :=
  if st ≠ 0 then farFault c task s
  else updBankOf c task (fun b => bankProceeds s.pt (if f.load then farDeliver f v b else b)) s

/-- The access's bytes. -/
def farSize (f : FarAcc) : Nat := if f.w32 then 4 else 2

/-- The accesses of abandoned tasks before an access to the same port. -/
def orphansBefore (s : State) (c : Fin 4) (f : FarAcc) : List FarAcc :=
  (s.cores[c].orphans.takeWhile (fun o => o != f)).filter (fun o => decide (farPort s o = farPort s f))

/-- A store whose port is on this device, served at a PT: it acts A_p later, behind the stores of its path to the same port, and
behind the accesses of abandoned tasks, each of which acts A_p after its plan slot (R362, R363). -/
def farPost (c : Fin 4) (task : Bool) (f : FarAcc) (t : Nat) (s : State) : State :=
  let last := (postedTo s c task (farPort s f)).foldl (fun m e => max m e.1) 0
  let last := (if task then orphansBefore s c f else []).foldl (fun m o =>
    max m ((planSlot s c true o).getD 0 + farLatency (targetOf s o.addr))) last
  s.updCore c (fun x => { x with posted := x.posted ++ [(max (t + farLatency (ownAddr f.addr)) last, task, f)] })

/-- An access goes out behind those of its path to the same port: it returns a value, or has a peer's answer to wait for (R363).
A store at this device is posted behind them instead. -/
def farOrdered (s : State) (f : FarAcc) : Bool := f.load || (peerOf s f.addr).isSome

/-- An access of an abandoned task is no longer outstanding. -/
def orphanGone (c : Fin 4) (f : FarAcc) (s : State) : State :=
  s.updCore c (fun x => { x with orphans := x.orphans.erase f })

/-- An access of an abandoned task is carried out without its bank (R367); an error faults the core (R368). -/
def farOrphan (c : Fin 4) (f : FarAcc) (t : Nat) (s : State) : State :=
  let s := noteSlot c (farPort s f) t s
  if farOrdered s f then
    let x := accessDo .gone (.core c true) f.addr (farSize f) (!f.load) f.data (orphanGone c f s)
    match x.1 with
    | .done 0 _ | .waits => x.2
    | .done _ _ => farFault c true x.2
  else orphanGone c f (farPost c true f t s)

/-- The access of a bank ends for it, served at a PT (R362, R363): a load returns, a store is posted and the bank goes on,
a peer access goes out. -/
def farServe (c : Fin 4) (task : Bool) (f : FarAcc) (t : Nat) (s : State) : State :=
  let port := farPort s f
  if (peerOf s f.addr).isSome then
    (if farSent s c task f = true ∨ postedTo s c task port ≠ [] then s
     else
      let x := accessDo (.core c task) (.core c task) f.addr (farSize f) (!f.load) f.data (noteSlot c port t s)
      match x.1 with
      | .done st v => farEnds c task f st v x.2
      | .waits => x.2)
  else if f.load then
    (if postedTo s c task port ≠ [] then s
     else
      let x := busRead (.core c task) f.addr (farSize f) (noteSlot c port t s)
      farEnds c task f x.1.1 x.1.2 x.2)
  else if (regionOf (ownAddr f.addr)).isNone then
    farEnds c task f 3 0 (busError (.core c) f.addr true s)
  else farEnds c task f 0 0 (farPost c task f t (noteSlot c port t s))

/-- The core's banks move at all. -/
def farLive (s : State) (c : Fin 4) : Bool :=
  let x := s.cores[c]
  x.on && !x.faulted && !x.parked && !busStopped s && !s.ptStands

/-- An access of an abandoned task that can end now: served, and with none of its path to the same port before it (R363, R367). -/
def orphanReady (s : State) (c : Fin 4) (f : FarAcc) : Bool :=
  (farServed s c true f).isSome &&
    (!farOrdered s f || (decide (orphansBefore s c f = []) && decide (postedTo s c true (farPort s f) = [])))

/-- The access a bank waits for, where nothing of its path goes before it: one that must be behind them, and any without plan
slots of its own, waits for those of abandoned tasks (R362, R363). -/
def bankFar (s : State) (c : Fin 4) (task : Bool) : Option FarAcc :=
  let x := s.cores[c]
  match (if task then x.tb else x.bg).wait with
  | .far f =>
    if task = true ∧ (x.task.isNone = true ∨
        (orphansBefore s c f ≠ [] ∧ (farOrdered s f = true ∨ planSlotted s (1 + c.val) (farPort s f) = false))) then none
    else some f
  | _ => none

/-- CORE_FAR_DONE: an access of an abandoned task that can be served goes first, else the one the bank waits for (R362,
R363, R367). -/
def farDoneStep (c : Fin 4) (task : Bool) (s : State) : State :=
  if busStopped s = true ∨ s.ptStands = true then s
  else
    match (if task then s.cores[c].orphans.find? (orphanReady s c) else none) with
    | some f => farOrphan c f ((farServed s c true f).getD s.pt) s
    | none =>
      match bankFar s c task with
      | some f =>
        match farServed s c task f with
        | some t => if farLive s c then farServe c task f t s else s
        | none => s
      | none => s

/-- A posted store acts: an error faults the core (R362, R368). -/
def postedAct (c : Fin 4) (task : Bool) (f : FarAcc) (s : State) : State :=
  let x := busWrite (.core c task) f.addr (farSize f) f.data s
  if x.1 = 0 then x.2 else farFault c task x.2

/-- A far access that acts at the end of its tick: one to the data memory of a core, where the core's own access of the tick
goes first (R348), and a submission, which goes behind every change of state of the tick (R195). -/
def actsLast (s : State) (f : FarAcc) : Bool :=
  match regionOf (targetOf s f.addr) with
  | some (.dmem _) => true
  | some .pages => decide (targetOf s f.addr / 4 * 4 = HDG.base + 0x4C)
  | _ => false

/-- The posted stores of core c that a test picks and whose time has come act, oldest first. -/
def postedDue (p : FarAcc → Bool) (c : Fin 4) (s : State) : State :=
  let due := fun (e : Nat × (Bool × FarAcc)) => decide (e.1 ≤ s.pt) && p e.2.2
  let l := s.cores[c].posted.filter due
  let s := s.updCore c (fun x => { x with posted := x.posted.filter (fun e => !due e) })
  foldS l (fun e => postedAct c e.2.1 e.2.2) s

/-- At the end of a tick the posted stores that act last do so, those of core 0 first (R195, R348). -/
def postedEnd (s : State) : State :=
  if busStopped s then s else foldS (List.finRange 4) (fun c s => postedDue (actsLast s) c s) s

/-- The other posted stores act as their tick begins. -/
def postedTick (s : State) : State := foldS (List.finRange 4) (fun c s => postedDue (fun f => !actsLast s f) c s) s

/-- The answer of a peer reaches the bank that waits for it; one whose task has been abandoned reaches none (R363). -/
def farAnswer (c : Fin 4) (task : Bool) (a st v : Nat) (s : State) : State :=
  match (if task then s.cores[c].tb else s.cores[c].bg).wait with
  | .far f =>
    if f.addr / 4 = a / 4 ∧ (!task || s.cores[c].task.isSome) = true then farEnds c task f st v s else s
  | _ => s

/-- CORE_FAR_DONE. -/
def execCoreFarDone (c : Fin 4) (task : Bool) (s : State) : Host.Outcome State Fault Refusal :=
  .next (farDoneStep c task s)

end Sys2Proof.Machine
end

