-- ==== Sys2Proof/Machine/HostPorts.lean ====
section
/-! DEFINITION. The host ports: HPS generation 1 (R399, R400) and 2 (R401, R402), HPQ generation 3 (R403, R404), and what
the host gets back. -/

namespace Sys2Proof.Machine

/-! ## Wire order and checksums (R401, R403) -/

/-- A word's bytes, most significant first. -/
def beWord (w : Word) : List Byte :=
  [BitVec.ofNat 8 (w.toNat / 2 ^ 24), BitVec.ofNat 8 (w.toNat / 2 ^ 16), BitVec.ofNat 8 (w.toNat / 2 ^ 8), BitVec.ofNat 8 w.toNat]

/-- Words' bytes in wire order. -/
def beWords (l : List Word) : List Byte := l.flatMap beWord

/-- One bit of the CRC-16 of R401. -/
def crc16Shift (c : Nat) : Nat := if 32768 ≤ c then (2 * c % 65536) ^^^ 0x1021 else 2 * c

/-- One byte into the CRC-16. -/
def crc16Byte (c : Nat) (b : Byte) : Nat :=
  let x := c ^^^ (b.toNat * 256)
  crc16Shift (crc16Shift (crc16Shift (crc16Shift (crc16Shift (crc16Shift (crc16Shift (crc16Shift x)))))))

/-- The CRC-16 of R401. -/
def crc16 (l : List Byte) : Nat := l.foldl crc16Byte 0xFFFF

/-- The CRC-32 of R154 over bytes. -/
def crc32 (l : List Byte) : Nat := l.foldl (fun c b => crcByte c b.toNat) 0xFFFFFFFF ^^^ 0xFFFFFFFF

/-! ## Submissions that fail their CRC (R192, R402) -/

/-- A word of a failed WRITE reaches a staging buffer, if it is addressed to one, and marks it. -/
def failedWord (init : Initiator) (a : Nat) (v : Word) (s : State) : State :=
  match submitterOf init with
  | none => s
  | some j =>
    match peerOf s a with
    | some d =>
      let o := a % 0x1000000
      if 0x406040 ≤ o ∧ o < 0x406050 then remoteFail j (if o < 0x40604C then remoteWrite j ((o - 0x406040) / 4) d v s else s)
      else s
    | none =>
      let o := ownAddr a
      if o = HDG.base + 0x40 then updStaging j (fun b => { b with sub0 := v, failed := true }) s
      else if o = HDG.base + 0x44 then updStaging j (fun b => { b with sub1 := v, failed := true }) s
      else if o = HDG.base + 0x48 then updStaging j (fun b => { b with sub2 := v, failed := true }) s
      else if o = HDG.base + 0x4C then updStaging j (fun b => { b with sub3 := v, failed := true }) s
      else s

/-- The words of a WRITE whose CRC failed. -/
def failedWrite (init : Initiator) (a : Nat) (fix : Bool) (data : List Word) (s : State) : State :=
  (data.foldl (fun (x : Nat × State) v => (x.1 + (if fix then 0 else 4), failedWord init x.1 v x.2)) (a / 4 * 4, s)).2

/-! ## Requests word by word (R401 to R404) -/

/-- The request of a port. -/
def hostReqOf (s : State) (hpq : Bool) : Option HostReq := if hpq then s.host.hpq else s.host.hps

/-- The request of a port replaced. -/
def setHostReq (hpq : Bool) (r : Option HostReq) (s : State) : State :=
  s.updHost (fun h => if hpq then { h with hpq := r } else { h with hps := r })

/-- The initiator of a port. -/
def hostInit (hpq : Bool) : Initiator := if hpq then .hpq else .hps

/-- What HPS sends for a request (R401). -/
def hpsResponse (st tag : Nat) (words : List Word) : List Byte :=
  let l := [0xA5, BitVec.ofNat 8 st, BitVec.ofNat 8 tag] ++ beWords words
  l ++ [BitVec.ofNat 8 (crc16 l / 256), BitVec.ofNat 8 (crc16 l)]

/-- What HPQ sends for a packet (R403). -/
def hpqResponse (st seq : Nat) (words : List Word) : List Byte :=
  let l := beWord (toWord (st * 2 ^ 24 + seq)) ++ beWords words
  0x5A :: l ++ beWord (toWord (crc32 l))

/-- A change of GEN acts at the rising edge of HCS_N (R405). -/
def genEdge (s : State) : State := s.updHost (fun h => { h with gen := s.rd HPS.base HPS.CFG_GEN })

/-- The words of a response: those read, then 0 for every word from a failing one on (R402). -/
def padded (write : Bool) (n : Nat) (words : List Word) : List Word :=
  if write then [] else words ++ List.replicate (n - words.length) 0

/-- A response is sent; HPQ stores the response of an executed packet (R404). -/
def hostReply (hpq quiet executed : Bool) (st tag : Nat) (words : List Word) (s : State) : State :=
  if hpq then s.updHost (fun h =>
    { h with
      hpqOut := hpqResponse st tag words
      hpqLast := if executed then words else h.hpqLast
      hpqStatus := if executed then st else h.hpqStatus })
  else genEdge (s.updHost (fun h => { h with hpsOut := if quiet then [] else hpsResponse st tag words }))

/-- A request ends with a status. -/
def hostEnds (hpq : Bool) (r : HostReq) (st : Nat) (s : State) : State :=
  hostReply hpq r.quiet true st r.tag (padded r.write r.n r.out.reverse) (setHostReq hpq none s)

/-- The address of the word a request has come to. -/
def reqAddr (r : HostReq) : Nat := if r.fix then r.addr else (r.addr + 4 * r.i) % 2 ^ 32

/-- A request after one word. -/
def reqNext (r : HostReq) (v : Nat) : HostReq :=
  { r with i := r.i + 1, data := r.data.drop 1, out := if r.write then r.out else toWord v :: r.out }

/-- A request goes on word by word until it ends, fails, or waits for a peer. -/
def hostRun (hpq : Bool) : Nat → HostReq → State → State
  | 0, r, s => setHostReq hpq (some r) s
  | k + 1, r, s =>
    if r.n ≤ r.i then hostEnds hpq r 0 s
    else
      let x := accessBegin (.host hpq) (hostInit hpq) (reqAddr r) 4 r.write (r.data.headD 0).toNat s
      match x.1 with
      | .waits => setHostReq hpq (some r) x.2
      | .done 0 v => hostRun hpq k (reqNext r v) x.2
      | .done st _ => hostEnds hpq r st x.2

/-- A peer answers a port's request. -/
def hostAnswer (hpq : Bool) (st v : Nat) (s : State) : State :=
  match hostReqOf s hpq with
  | none => s
  | some r => if st ≠ 0 then hostEnds hpq r st s else hostRun hpq (r.n + 1) (reqNext r v) s

/-! ## HPS generation 2 -/

/-- A port takes no frame: PARK until the device has woken (R474); state RESET (R405), but for the end of a warm reset,
from 30 µs after its release on (R465). -/
def hostDeaf (s : State) : Bool :=
  busStopped s || (s.dev.st == .reset && !(s.sys.warmBusy && decide (s.sys.warmAt + 12000 ≤ s.tick)))

/-- The fields of CMD and H0. -/
def reqOp (w : Word) : Nat := bits w.toNat 31 28
/-- Words of a request. -/
def reqWords (w : Word) : Nat := bits w.toNat 23 16 + 1

/-- CMD is malformed: a reserved OP, a nonzero reserved bit, more than 64 words (R401, R402). -/
def cmdBad (w : Word) (op : Nat) : Bool :=
  decide (reqOp w ≠ op) || decide (bits w.toNat 26 24 ≠ 0) || decide (64 < reqWords w) || decide (bits w.toNat 7 0 ≠ 0)

/-- An HPS frame is counted as malformed and source 232 raised. -/
def hpsMalformed (s : State) : State := (s.bump HPS.base HPS.CNT_FRAME).raise 232

/-- A gen 2 request (R401, R402). -/
def gen2Step (write : Bool) (cmd addr : Word) (data : List Word) (crc : Half) (s : State) : State :=
  let fix := bit cmd.toNat 27
  let tag := bits cmd.toNat 15 8
  let n := reqWords cmd
  if hostDeaf s = true ∨ s.host.gen = 1 ∨ s.host.hps.isSome then s
  else if crc16 (beWords (cmd :: addr :: data)) ≠ crc.toNat then
    let s := (s.bump HPS.base HPS.CNT_CRC).raise 232
    let s := if write then failedWrite .hps addr.toNat fix data s else s
    hostReply false false false 1 tag (padded write n []) s
  else if cmdBad cmd (if write then 2 else 1) then hostReply false false false 2 tag (padded write n []) (hpsMalformed s)
  else if addr.toNat % 4 ≠ 0 then hostReply false false false 5 tag (padded write n []) s
  else hostRun false (n + 1) ⟨write, fix, addr.toNat, n, 0, tag, data, [], false⟩ s

/-- HPS_ABANDON (R402): the response is abandoned, the access is not. -/
def abandonStep (s : State) : State :=
  match s.host.hps with
  | some r => genEdge ((setHostReq false (some { r with quiet := true }) s).bump HPS.base HPS.ABANDON_COUNT)
  | none =>
    if s.host.hpsOut = [] then s
    else (s.updHost (fun h => { h with hpsOut := [] })).bump HPS.base HPS.ABANDON_COUNT

/-! ## HPQ generation 3 -/

/-- H0 is malformed. -/
def h0Bad (w : Word) (op : Nat) : Bool := decide (reqOp w ≠ op) || decide (bits w.toNat 26 24 ≠ 0)

/-- A packet executes: LAST takes its SEQ (R404). -/
def hpqExecute (write : Bool) (h0 h1 : Word) (data : List Word) (s : State) : State :=
  let seq := bits h0.toNat 15 0
  let n := reqWords h0
  let s := (s.wr HPQ.base HPQ.SEQ_VALID 1).wr HPQ.base HPQ.SEQ_LAST seq
  if h0Bad h0 (if write then 2 else 1) then
    hostReply true false true 2 seq (padded write n []) ((s.bump HPQ.base HPQ.CNT0_FORMAT).raise 233)
  else if h1.toNat % 4 ≠ 0 then hostReply true false true 5 seq (padded write n []) s
  else hostRun true (n + 1) ⟨write, bit h0.toNat 27, h1.toNat, n, 0, seq, data, [], false⟩ s

/-- The stored response is sent again with REPLAY set (R404). -/
def hpqReplay (s : State) : State :=
  let s := s.bump HPQ.base HPQ.CNT1_REPLAY
  s.updHost (fun h => { h with hpqOut := hpqResponse (h.hpqStatus + 128) (s.rd HPQ.base HPQ.SEQ_LAST) h.hpqLast })

/-- A packet of HPQ (R403, R404). -/
def hpqStep (write : Bool) (h0 h1 : Word) (data : List Word) (crc : Word) (s : State) : State :=
  let seq := bits h0.toNat 15 0
  let last := s.rd HPQ.base HPQ.SEQ_LAST
  let n := reqWords h0
  if hostDeaf s = true ∨ s.clockOff 0x69 = true ∨ s.host.hpq.isSome then s
  else if crc32 (beWords (h0 :: h1 :: data)) ≠ crc.toNat then
    let s := (s.bump HPQ.base HPQ.CNT0_CRC).raise 233
    let s := if write then failedWrite .hpq h1.toNat (bit h0.toNat 27) data s else s
    hostReply true false false 1 seq (padded write n []) s
  else if s.flag HPQ.base HPQ.SEQ_VALID = false ∨ seq = (last + 1) % 65536 then hpqExecute write h0 h1 data s
  else if seq = last then hpqReplay s
  else hostReply true false false 6 seq (padded write n []) ((s.bump HPQ.base HPQ.CNT1_SEQ).raise 233)

/-! ## HPS generation 1 -/

/-- The CVM-1 tracker window as a read of ANGLE_L snapshots it: 0x011 to 0x018 (R400). -/
def cvmWindow (s : State) : List Nat :=
  let x := ctl s
  let a := devAngle s
  let speed := speedShown s s.dev.control / 64
  let acq := match x.acq with | .off => 0 | .wait => 1 | .steady => 2 | .search => 3 | .confirm => 4 | .phase => 5 | .sync => 6
  let period := s.rd (WHN.base (crankWheel s s.dev.control)) WHN.PERIOD_TICKS
  [b2n (x.acq == .sync) * 32768 + b2n x.astern * 16384 + bits a 25 16, sat 0xFFFF speed,
   b2n s.dev.epochOpen * 128 + s.shown.code * 8 + acq, s.dev.epoch, s.dev.cycle, x.pos, period % 65536, period / 65536]

/-- The byte address of a CVA half-word (R400). -/
def cvaAddr (a : Nat) : Nat :=
  let k := (a - 0x100) / 0x80
  let p := (a - 0x100) % 0x80 / 8
  CONV.base k + 0x400 + 0x10 * p + 2 * ((a - 0x100) % 8)

/-- The result of this frame's read, shown in the next frame. -/
def gen1Result (err data : Nat) (s : State) : State := s.updHost (fun h => { h with g1err := err, g1data := data })

/-- A 16-bit access of the gen 1 port. -/
def gen1Access (a : Nat) (write : Bool) (v : Nat) (s : State) : State :=
  let x := accessBegin .gen1 .hps a 2 write v s
  match x.1 with
  | .done st r => gen1Result st (if st = 0 ∧ write = false then r else 0) x.2
  | .waits => gen1Result 0 0 x.2

/-- An access through the window: an odd address is error 0x02; WIN_DATA_INC then advances the window, whatever came of
the access (R400). -/
def gen1Window (inc write : Bool) (v : Nat) (s : State) : State :=
  let s := if s.host.win % 2 = 1 then gen1Result 2 0 s else gen1Access s.host.win write v s
  if inc then s.updHost (fun h => { h with win := (h.win + 2) % 2 ^ 32 }) else s

/-- A gen 1 read (R400). -/
def gen1Read (a : Nat) (s : State) : State :=
  if a = 0x000 then gen1Result 0 0xC101 s
  else if a = 0x001 then gen1Result 0 0x6416 s
  else if a = 0x002 then gen1Result 0 (s.host.win % 65536) s
  else if a = 0x003 then gen1Result 0 (s.host.win / 65536) s
  else if a = 0x004 then gen1Window false false 0 s
  else if a = 0x005 then gen1Window true false 0 s
  else if a = 0x010 then gen1Result 0 (devAngle s % 65536) (s.updHost (fun h => { h with g1snap := cvmWindow s }))
  else if 0x011 ≤ a ∧ a ≤ 0x018 then gen1Result 0 (s.host.g1snap.getD (a - 0x011) 0) s
  else if 0x100 ≤ a ∧ a < 0x300 then gen1Access (cvaAddr a) false 0 s
  else gen1Result 0 0 s

/-- A gen 1 write (R400). -/
def gen1Write (a v : Nat) (s : State) : State :=
  if a = 0x002 then gen1Result 0 0 (s.updHost (fun h => { h with win := h.win / 65536 * 65536 + v }))
  else if a = 0x003 then gen1Result 0 0 (s.updHost (fun h => { h with win := h.win % 65536 + v * 65536 }))
  else if a = 0x004 then gen1Window false true v s
  else if a = 0x005 then gen1Window true true v s
  else if 0x100 ≤ a ∧ a < 0x300 then gen1Access (cvaAddr a) true v s
  else gen1Result 0 0 s

/-- What MISO carries in a gen 1 frame: 0xC100 plus the previous frame's error code, then its data (R399); 0xFFFF in both
words while a reset sequence runs (R464). -/
def gen1Out (s : State) : List Byte :=
  if s.held then [0xFF, 0xFF, 0xFF, 0xFF]
  else [0xC1, BitVec.ofNat 8 s.host.g1err, BitVec.ofNat 8 (s.host.g1data / 256), BitVec.ofNat 8 s.host.g1data]

/-- A gen 1 frame (R399). -/
def gen1Frame (f : State → State) (s : State) : State :=
  if s.host.gen ≠ 1 then s
  else
    let t := s.updHost (fun h => { h with hpsOut := gen1Out s })
    if hostDeaf s then t else genEdge (f t)

/-- A peer answers a gen 1 access. -/
def gen1Answer (write : Bool) (st v : Nat) (s : State) : State := gen1Result st (if st = 0 ∧ write = false then v else 0) s

/-! ## Commands -/

/-- HPS_GEN1_READ. -/
def execHpsGen1Read (addr : BitVec 15) (s : State) : Host.Outcome State Fault Refusal :=
  .next (gen1Frame (gen1Read addr.toNat) s)
/-- HPS_GEN1_WRITE. -/
def execHpsGen1Write (addr : BitVec 15) (v : Half) (s : State) : Host.Outcome State Fault Refusal :=
  .next (gen1Frame (gen1Write addr.toNat v.toNat) s)
/-- HPS_BAD_FRAME (R399): discarded, counted, reported as code 0x01 in the next frame. -/
def execHpsBadFrame (s : State) : Host.Outcome State Fault Refusal :=
  .next (gen1Frame (fun s => gen1Result 1 0 (hpsMalformed s)) s)
/-- HPS_GEN2_READ. -/
def execHpsGen2Read (cmd addr : Word) (crc : Half) (s : State) : Host.Outcome State Fault Refusal :=
  .next (gen2Step false cmd addr [] crc s)
/-- HPS_GEN2_WRITE: the frame carries N + 1 words. -/
def execHpsGen2Write (cmd addr : Word) (data : List Word) (crc : Half) (s : State) : Host.Outcome State Fault Refusal :=
  if data.length ≠ reqWords cmd then .fault .illFormed else .next (gen2Step true cmd addr data crc s)
/-- HPS_ABANDON. -/
def execHpsAbandon (s : State) : Host.Outcome State Fault Refusal := .next (abandonStep s)
/-- HPQ_READ. -/
def execHpqRead (h0 h1 crc : Word) (s : State) : Host.Outcome State Fault Refusal := .next (hpqStep false h0 h1 [] crc s)
/-- HPQ_WRITE: the packet carries N + 1 words. -/
def execHpqWrite (h0 h1 : Word) (data : List Word) (crc : Word) (s : State) : Host.Outcome State Fault Refusal :=
  if data.length ≠ reqWords h0 then .fault .illFormed else .next (hpqStep true h0 h1 data crc s)

end Sys2Proof.Machine
end

