-- ==== Sys2Proof/Machine/FlashBoot.lean ====
section
/-! DEFINITION. The flash master: its boot (R406, R407) and its commands (R429). What the flash returns is the command's
operand. -/

namespace Sys2Proof.Machine

/-- n bytes at an offset, lowest first. -/
def leAt (l : List Byte) (o n : Nat) : Nat := leNat ((l.drop o).take n)

/-- A write of the flash master, a whole word. -/
def flWord (a v : Nat) (s : State) : AccessResult × State := accessBegin .boot .fl (a / 4 * 4) 4 true v s

/-! ## The boot (R406, R407) -/

/-- The flash is read with command 0xEB, a 3-byte address and so many bytes (R406). -/
def askFlash (a n : Nat) (s : State) : State := { s with flash := { s.flash with asks := some (0xEB, a % 0x1000000, n) } }

/-- The boot begins: stage 1, the header's 36 bytes at flash address 0. -/
def bootBegin (s : State) : State :=
  let s := askFlash 0 0x24 ((s.wr FL.base FL.BOOT_STAGE 1).wr FL.base FL.BOOT_RESULT 0)
  (s.wr FL.base FL.BOOT_ITEM 0).wr FL.base FL.CTRL_BUSY 1

/-- The boot ends with a result: source 234. -/
def bootEnd (r : Nat) (s : State) : State :=
  let s := ((s.wr FL.base FL.BOOT_STAGE 6).wr FL.base FL.BOOT_RESULT r).wr FL.base FL.CTRL_BUSY 0
  { s with flash := { s.flash with asks := none, todo := [], job := none } }.raise 234

/-- Stage 1: the header is checked; HPS.CFG.GEN takes FLAGS[1]. -/
def bootHeader (h : List Byte) (s : State) : State :=
  if leAt h 0x00 4 ≠ 0x54425643 then bootEnd 2 s
  else if crc32 (h.take 0x20) ≠ leAt h 0x20 4 then bootEnd 3 s
  else
    let s := { s with flash := { s.flash with
      flags := leAt h 0x04 4, initOff := leAt h 0x08 4, initN := leAt h 0x0C 4, imgOff := leAt h 0x10 4,
      imgSize := leAt h 0x14 4, loadAddr := leAt h 0x18 4, initCrc := leAt h 0x1C 4 } }
    let s := askFlash (leAt h 0x08 4) (8 * leAt h 0x0C 4) s
    (s.wr HPS.base HPS.CFG_GEN (if bit (leAt h 0x04 4) 1 then 1 else 2)).wr FL.base FL.BOOT_STAGE 2

/-- The init entries are written in order, until one waits for a peer or ends in a bus error; then the image is read. -/
def bootWrites : List (Nat × Nat) → State → State
  | [], s => askFlash s.flash.imgOff s.flash.imgSize (s.wr FL.base FL.BOOT_STAGE 3)
  | e :: rest, s =>
    let x := flWord e.1 e.2 s
    let s := { x.2 with flash := { x.2.flash with todo := rest, item := x.2.flash.item + 1 } }
    match x.1 with
    | .waits => s
    | .done 0 _ => bootWrites rest s
    | .done _ _ => bootEnd 5 (s.wr FL.base FL.BOOT_ITEM (s.flash.item - 1))

/-- A peer answers the write of an init entry. -/
def bootAnswer (st : Nat) (s : State) : State :=
  if s.rd FL.base FL.BOOT_STAGE ≠ 2 then s
  else if st ≠ 0 then bootEnd 5 (s.wr FL.base FL.BOOT_ITEM (s.flash.item - 1))
  else bootWrites s.flash.todo s

/-- Stage 2: the init list is checked and its writes are made. -/
def bootInit (l : List Byte) (s : State) : State :=
  let l := l.take (8 * s.flash.initN)
  if s.link.reqs.any (fun r => r.who == .boot) ∨ waitsAny s .fl = true then s
  else if crc32 l ≠ s.flash.initCrc then bootEnd 4 s
  else
    let entries := (List.range s.flash.initN).map (fun i => (leAt l (8 * i) 4, leAt l (8 * i + 4) 4))
    bootWrites entries { s with flash := { s.flash with item := 0 } }

/-- The image has been copied; stage 4 begins with the load. -/
def bootCopied (s : State) : State :=
  let s := (s.wr PLAN.base PLAN.LOAD_ADDR_ADDR s.flash.loadAddr).wr PLAN.base PLAN.LOAD_SIZE_SIZE s.flash.imgSize
  let s := { s with flash := { s.flash with asks := none } }
  (planLoadStep s).wr FL.base FL.BOOT_STAGE 4

/-! ## Transfers of the flash master (R407, R429, R435, R444) -/

/-- The bytes a beat has brought; one that has failed brings free bytes (log entry 175). -/
def flBytes (n st v : Nat) (s : State) : List Byte × State :=
  if st = 0 ∨ st = 4 then ((List.range n).map (fun i => BitVec.ofNat 8 (v / 2 ^ (8 * i))), s)
  else
    let d := s.drawFree
    ((List.range n).map (fun i => Config.flashUnread (d.1 + i)), { d.2 with free := d.1 + n })

/-- A transfer after a beat of n bytes. A bus error ends no transfer (DEDUCED, log entry 119). -/
def flTake (n st v : Nat) (s : State) : State :=
  match s.flash.job with
  | none => s
  | some j =>
    let x := if j.write then (j.data.drop n, s) else let y := flBytes n st v s; (j.data ++ y.1, y.2)
    { x.2 with flash := { x.2.flash with
      job := some { j with addr := (j.addr + n) % 2 ^ 32, left := j.left - n, data := x.1 } } }

/-- A transfer has ended: the image is copied, the bytes of a command are stored, or those it sends are there. -/
def flEnds (j : FlJob) (s : State) : State :=
  let s := { s with flash := { s.flash with job := none } }
  if j.boot then bootCopied s
  else if j.write then (s.wr FL.base FL.CTRL_BUSY 0).raise 234
  else { s with flash := { s.flash with sent := j.data } }

/-- A transfer goes on beat by beat until it ends, or waits for a cycle or a peer. -/
def flRun : Nat → State → State
  | 0, s => s
  | k + 1, s =>
    match s.flash.job with
    | none => s
    | some j =>
      if j.left = 0 then flEnds j s
      else
        let n := flSize j.addr j.left
        let x := accessBegin .flash .fl j.addr n j.write (leNat (j.data.take n)) s
        match x.1 with
        | .waits => x.2
        | .done st v => flRun k (flTake n st v x.2)

/-- A beat of a transfer that waited has ended. -/
def flAnswer (st v : Nat) (s : State) : State :=
  match s.flash.job with
  | none => s
  | some j => flRun (j.left + 1) (flTake (flSize j.addr j.left) st v s)

/-- Bytes of the flash go to memory. -/
def flStore (boot : Bool) (a : Nat) (l : List Byte) (s : State) : State :=
  flRun (l.length + 1) { s with flash := { s.flash with job := some ⟨true, boot, a, l.length, l⟩ } }

/-- Stage 3: the image is copied. -/
def bootImage (l : List Byte) (s : State) : State :=
  if s.flash.job.isSome then s else flStore true s.flash.loadAddr (l.take s.flash.imgSize) s

/-- Stage 4: the result of the load. -/
def bootLoaded (s : State) : State :=
  if s.plan.load ≠ .idle then s
  else if s.rd PLAN.base PLAN.LOAD_STAT_RESULT ≠ 0 then bootEnd 6 s
  else if bit s.flash.flags 0 then s.wr FL.base FL.BOOT_STAGE 5
  else bootEnd 1 s

/-- Stage 5: the arm. -/
def bootArm (s : State) : State :=
  let s := armStep s
  bootEnd (if s.dev.st = .armed then 1 else 7) s

/-- FLASH_BOOT_STAGE: the stage FL.BOOT shows completes, with the bytes read in it. -/
def bootStageStep (bytes : List Byte) (s : State) : State :=
  if busStopped s then s
  else match s.rd FL.base FL.BOOT_STAGE with
    | 1 => bootHeader bytes s
    | 2 => bootInit bytes s
    | 3 => bootImage bytes s
    | 4 => bootLoaded s
    | 5 => bootArm s
    | _ => s

/-! ## Commands of the FL page (R429) -/

/-- A boot runs. -/
def bootRuns (s : State) : Bool :=
  let g := s.rd FL.base FL.BOOT_STAGE
  decide (1 ≤ g) && decide (g ≤ 5)

/-- FL_COMMAND_DONE: data read goes to memory at BUF; source 234. -/
def flDoneStep (bytes : List Byte) (s : State) : State :=
  if s.flag FL.base FL.CTRL_BUSY = false ∨ bootRuns s = true ∨ busStopped s = true ∨ s.flash.job.isSome = true then s
  else if s.flag FL.base FL.OP_WRITE then (s.wr FL.base FL.CTRL_BUSY 0).raise 234
  else flStore false (s.rd FL.base FL.BUF_ADDR) (bytes.take (s.rd FL.base FL.LEN_BYTES)) s

/-! ## Commands -/

/-- FLASH_BOOT_STAGE. -/
def execFlashBootStage (bytes : List Byte) (s : State) : Host.Outcome State Fault Refusal := .next (bootStageStep bytes s)
/-- FL_COMMAND_DONE. -/
def execFlCommandDone (bytes : List Byte) (s : State) : Host.Outcome State Fault Refusal := .next (flDoneStep bytes s)

end Sys2Proof.Machine
end

