-- ==== Sys2Proof/Machine/Flume.lean ====
section
/-! DEFINITION. Flume channels at work: list elements, beats, checksums and the bytes appended, halts and their retry
(R386 to R394). -/

namespace Sys2Proof.Machine

/-! ## The size of a beat (R390, R391) -/

/-- The bytes of the next beat from an address to another: whole registers, at most 8 bytes, whole swap units. -/
def beatSize (src dst left unit : Nat) : Nat :=
  let n := if touchesRegs src 4 || touchesRegs dst 4 then 4 else 8
  let n := min n left
  if n < unit then n else n / unit * unit

/-- The bytes after the swap of CTRL.SWAP (R390). -/
def swapBytes (mode : Nat) : List Nat → List Nat
  | a :: b :: c :: d :: t =>
    (if mode = 1 then [b, a, d, c] else if mode = 2 then [c, d, a, b] else if mode = 3 then [d, c, b, a] else [a, b, c, d]) ++
      swapBytes mode t
  | [a, b] => if mode = 1 then [b, a] else [a, b]
  | l => l

/-- The low n bytes of a number, lowest first. -/
def toBytes : Nat → Nat → List Nat
  | 0, _ => []
  | n + 1, v => v % 256 :: toBytes n (v / 256)

/-- The number bytes spell, lowest first. -/
def ofBytes : List Nat → Nat
  | [] => 0
  | b :: t => b + 256 * ofBytes t

/-! ## Accesses of a channel -/

/-- The port of an address serves channel c in this cycle (R139, R393, R445). -/
def chanServed (s : State) (c : Fin 32) (a : Nat) : Bool := busAllows s (0x20 + c.val) (portOf (targetOf s a))

/-- Channel c takes the cycle of the port of an address. -/
def chanTurn (c : Fin 32) (a : Nat) (s : State) : State := takeTurn (0x20 + c.val) (portOf (targetOf s a)) s

/-- The bytes one access takes from an address on: a whole register, else up to the end of an 8-byte word (R391, R444). -/
def pieceSize (a n : Nat) : Nat := if isRegAddr a then min n 4 else min n (8 - a % 8)

/-- One access of a read by channel c: a register alone, memory rounded outward to its 8-byte word (R391). -/
def pieceRead (c : Fin 32) (b m : Nat) (s : State) : AccessResult × State :=
  if isRegAddr b then accessDo (.flume c) (.plain (.flume c)) b m false 0 s
  else
    let x := accessDo (.flume c) (.plain (.flume c)) (b / 8 * 8) 8 false 0 s
    (match x.1 with
      | .done st v => .done st (v / 2 ^ (8 * (b % 8)) % 2 ^ (8 * m))
      | .waits => .waits, x.2)

/-- A read of n bytes has brought a piece of them: the value of all, or more are to come. -/
def joinPiece (c : Fin 32) (n m v : Nat) (s : State) : AccessResult × State :=
  let old := s.flume[c].part.getD (0, 0)
  let k := old.1 + m
  let w := old.2 + 2 ^ (8 * old.1) * v
  if n ≤ k then (.done 0 w, s.updFlume c (fun x => { x with part := none }))
  else (.waits, s.updFlume c (fun x => { x with part := some (k, w) }))

/-- n bytes read by channel c from an address, one access in each cycle that serves it. -/
def chanRead (c : Fin 32) (a n : Nat) (s : State) : AccessResult × State :=
  let b := chanFrom s c a
  let m := pieceSize b (n - (b - a))
  if chanServed s c b = false then (.waits, s)
  else
    let x := pieceRead c b m (chanTurn c b s)
    match x.1 with
    | .done 0 v => joinPiece c n m v x.2
    | r => (r, x.2)

/-- n bytes, at most one access of them, written by channel c, once its cycle has come. -/
def chanWrite (c : Fin 32) (a n v : Nat) (s : State) : AccessResult × State :=
  if chanServed s c a = false then (.waits, s)
  else accessDo (.flume c) (.plain (.flume c)) a n true v (chanTurn c a s)

/-! ## Ends of transfers -/

/-- A transfer ends: the oldest DMA action that waits for the channel may start it. -/
def chanEnds (c : Fin 32) (res : Nat) (s : State) : State := dmaServe c (flumeEnd c res s)

/-- The data has moved: appended bytes are still to be written, or the transfer ends (R389). -/
def dataEnds (c : Fin 32) (res : Nat) (s : State) : State :=
  if flCtl s c FLC.CTRL_APPEND ≠ 0 then (sumFlush c s).updFlume c (fun x => { x with appendEnd := some res })
  else chanEnds c res s

/-- The bytes APPEND writes. -/
def appendValue (c : Fin 32) (s : State) : Nat × State :=
  match flCtl s c FLC.CTRL_SUM with
  | 1 => (fl s c FLC.SUM ^^^ 0xFFFFFFFF, s)
  | 2 => (fl s c FLC.SUM, s)
  | _ => let d := s.drawFree; ((Config.appendNoSum d.1).toNat, d.2)

/-- Appended bytes have been written: the rest waits, or the transfer ends. -/
def appendDone (c : Fin 32) (res n : Nat) (l : List Nat) (s : State) : State :=
  if l.length ≤ n then chanEnds c res s else s.updFlume c (fun x => { x with buf := some (l.drop n) })

/-- The appended bytes go out after the last byte written, one access in a cycle. -/
def appendBeat (c : Fin 32) (res : Nat) (s : State) : State :=
  let v := match s.flume[c].buf with | some l => (l, s) | none => let d := appendValue c s; (toBytes 4 d.1, d.2)
  let s := v.2.updFlume c (fun x => { x with buf := some v.1 })
  let a := chanTo s c
  let n := pieceSize a v.1.length
  let x := chanWrite c a n (ofBytes (v.1.take n)) s
  match x.1 with
  | .done 0 _ => appendDone c res n v.1 x.2
  | .done _ _ => flumeHalt c a true false x.2
  | .waits => x.2

/-! ## List elements (R386, R387) -/

/-- An element obeys R390 and R391: swap units, register alignment on both sides, of what REMAIN leaves of it too, fixed
addresses. -/
def elementOk (s : State) (c : Fin 32) (addr len : Nat) : Bool :=
  let gather := decide (flCtl s c FLC.CTRL_MODE = 1)
  let moved := min len (fl s c FLC.REMAIN_BYTES)
  decide (len % swapUnit (flCtl s c FLC.CTRL_SWAP) = 0) && (!touchesRegs addr len || decide (moved % 4 = 0)) &&
    spanOk addr len (flCtl s c (if gather then FLC.CTRL_SRC_FIX else FLC.CTRL_DST_FIX) != 0) &&
    (if gather then spanOk (fl s c FLC.CUR_DST_ADDR) moved (flCtl s c FLC.CTRL_DST_FIX != 0)
     else spanOk (fl s c FLC.CUR_SRC_ADDR) moved (flCtl s c FLC.CTRL_SRC_FIX != 0))

/-- An element has been fetched. -/
def takeElement (c : Fin 32) (a w : Nat) (s : State) : State :=
  let len := bits w 55 32
  let s := s.wr (fc c) FLC.CUR_EL_ADDR a
  if bits w 63 58 ≠ 0 then chanEnds c 6 s
  else if len = 0 then
    (if 1023 ≤ s.flume[c].zeros then chanEnds c 6 s
     else s.updFlume c (fun x => { x with zeros := x.zeros + 1, nextEl := some (a + 8) }))
  else if elementOk s c (bits w 31 0) len = false then chanEnds c 5 s
  else
    let f := if flCtl s c FLC.CTRL_MODE = 1 then FLC.CUR_SRC_ADDR else FLC.CUR_DST_ADDR
    (s.wr (fc c) f (bits w 31 0)).updFlume c (fun x => { x with
      elLeft := len, elDone := 0, elLast := bit w 56, elEvt := bit w 57, nextEl := some (a + 8), zeros := 0 })

/-- What a read by channel c from an address leads to: its value goes on, or an access of it failed (R392). -/
def readEnds (c : Fin 32) (a : Nat) (f : Nat → State → State) (x : AccessResult × State) : State :=
  match x.1 with
  | .done 0 w => f w x.2
  | .done st _ => flumeHalt c (chanFrom x.2 c a) false (decide (st = 4)) x.2
  | .waits => x.2

/-- The next element is fetched. -/
def elementBeat (c : Fin 32) (a : Nat) (s : State) : State := readEnds c a (takeElement c a) (chanRead c a 8 s)

/-! ## Data -/

/-- The result with which the transfer ends now, if it does (R386): the last element is done, or REMAIN is 0. -/
def endResult (s : State) (c : Fin 32) : Option Nat :=
  let x := s.flume[c]
  if x.elLeft = 0 ∧ x.elLast then some 1
  else if fl s c FLC.REMAIN_BYTES = 0 then some 3
  else none

/-- The first n of the bytes read have been written: checksum, addresses, counts, the element's event, the end. -/
def chanAdvance (c : Fin 32) (n : Nat) (l : List Nat) (s : State) : State :=
  let s := foldS (l.take n) (sumByte c) s
  let s := if flCtl s c FLC.CTRL_SRC_FIX ≠ 0 then s else s.wr (fc c) FLC.CUR_SRC_ADDR (fl s c FLC.CUR_SRC_ADDR + n)
  let s := if flCtl s c FLC.CTRL_DST_FIX ≠ 0 then s else s.wr (fc c) FLC.CUR_DST_ADDR (fl s c FLC.CUR_DST_ADDR + n)
  let s := s.wr (fc c) FLC.REMAIN_BYTES (fl s c FLC.REMAIN_BYTES - n)
  let s := s.updFlume c (fun x => { x with
    elLeft := x.elLeft - n, elDone := x.elDone + n, buf := if l.length ≤ n then none else some (l.drop n) })
  let s := if s.flume[c].elLeft = 0 ∧ s.flume[c].elEvt then flumeEvt c s else s
  match endResult s c with
  | some r => dataEnds c r s
  | none => s

/-- The bytes read are written, one access in a cycle. -/
def writeBeat (c : Fin 32) (l : List Nat) (s : State) : State :=
  let a := fl s c FLC.CUR_DST_ADDR
  let n := pieceSize a l.length
  let x := chanWrite c a n (ofBytes (l.take n)) s
  match x.1 with
  | .done 0 _ => chanAdvance c n l x.2
  | .done _ _ => flumeHalt c a true false x.2
  | .waits => x.2

/-- Bytes have come from the source: they are swapped and written. -/
def takeData (c : Fin 32) (n v : Nat) (s : State) : State :=
  let l := swapBytes (flCtl s c FLC.CTRL_SWAP) (toBytes n v)
  writeBeat c l (s.updFlume c (fun x => { x with buf := some l }))

/-- The bytes of channel c's next beat. -/
def nextSize (s : State) (c : Fin 32) : Nat :=
  beatSize (fl s c FLC.CUR_SRC_ADDR) (fl s c FLC.CUR_DST_ADDR) (min s.flume[c].elLeft (fl s c FLC.REMAIN_BYTES))
    (swapUnit (flCtl s c FLC.CTRL_SWAP))

/-- A beat reads, and writes what it has read. -/
def dataBeat (c : Fin 32) (s : State) : State :=
  let a := fl s c FLC.CUR_SRC_ADDR
  let n := nextSize s c
  readEnds c a (takeData c n) (chanRead c a n s)

/-! ## The beat -/

/-- FLUME_BEAT: appended bytes, a retried write, data, or the next element. -/
def beatStep (c : Fin 32) (s : State) : State :=
  let x := s.flume[c]
  if flumeState s c ≠ 1 ∨ busStopped s = true ∨ chanAwaits s c = true ∨ s.clockOff 0x60 = true then s
  else match x.appendEnd with
    | some res => appendBeat c res s
    | none =>
      match x.buf with
      | some l => writeBeat c l s
      | none =>
        if x.elLeft ≠ 0 then dataBeat c s
        else match x.nextEl with
          | some a => elementBeat c a s
          | none => s

/-- The bytes of a peer's answer that channel c asked for: those of a memory word from the read's place on (R391). -/
def answerPiece (b m v : Nat) : Nat := if isRegAddr b then v else v / 2 ^ (8 * (b % 8)) % 2 ^ (8 * m)

/-- A peer answers a read of n bytes by channel c from an address. -/
def chanReadAnswer (c : Fin 32) (a n : Nat) (f : Nat → State → State) (v : Nat) (s : State) : State :=
  let b := chanFrom s c a
  let m := pieceSize b (n - (b - a))
  readEnds c a f (joinPiece c n m (answerPiece b m v) s)

/-- A peer answers channel c. -/
def chanAnswer (c : Fin 32) (write : Bool) (st v : Nat) (s : State) : State :=
  let x := s.flume[c]
  if flumeState s c ≠ 1 then s
  else if st ≠ 0 then flumeHalt c ((chanNext s c).getD 0) write (decide (st = 4) && !write) s
  else match x.appendEnd with
    | some res => let l := x.buf.getD []; appendDone c res (pieceSize (chanTo s c) l.length) l s
    | none =>
      match x.buf with
      | some l => chanAdvance c (pieceSize (fl s c FLC.CUR_DST_ADDR) l.length) l s
      | none =>
        if x.elLeft ≠ 0 then let n := nextSize s c; chanReadAnswer c (fl s c FLC.CUR_SRC_ADDR) n (takeData c n) v s
        else match x.nextEl with
          | some e => chanReadAnswer c e 8 (takeElement c e) v s
          | none => s

/-! ## Commands -/

/-- FLUME_BEAT. -/
def execFlumeBeat (c : Fin 32) (s : State) : Host.Outcome State Fault Refusal := .next (beatStep c s)
/-- FLUME_RESUME (R392): the failing access is retried. -/
def execFlumeResume (c : Fin 32) (s : State) : Host.Outcome State Fault Refusal :=
  .next (s.clocked 0x60 (fun s => if flumeState s c = 2 then beatStep c (resumeChan c s) else s))

end Sys2Proof.Machine
end

