-- ==== Sys2Proof/Machine/Follower.lean ====
section
/-! DEFINITION. The link-mode tracker: Tracker A led by the ANGLE beats of the active source (R423 to R425, R427), and the
increment code of R414. While a backward estimate has yet to reach the held angle, the tracker's accumulator stands and
`link.hold` carries the estimate. -/

namespace Sys2Proof.Machine

/-! ## The increment code (R414) -/

/-- The increment a beat carries, and whether the sender is STALLED; none for a reserved code. -/
def beatInc (exp mant : Nat) : Option (Nat × Bool) :=
  if exp ≤ 12 then some ((512 + mant) * 2 ^ (exp + 14), false)
  else if exp = 14 then (if mant = 0 then none else some (mant * 2 ^ 14, false))
  else if exp = 15 then (if mant = 0 then some (0, false) else if mant = 1 then some (0, true) else none)
  else none

/-- Exponent and mantissa for an increment of at least 2^23: the first exponent that holds it, rounded to nearest. -/
def expMant (inc : Nat) : Nat × Nat :=
  match (List.range 13).find? (fun e => decide (divRound inc (2 ^ (e + 14)) < 1024)) with
  | some e => (e, divRound inc (2 ^ (e + 14)) - 512)
  | none => (12, 511)

/-- EXP and MANT of a sender's increment. -/
def incCode (stalled horizon : Bool) (inc : Nat) : Nat × Nat :=
  if stalled then (15, 1)
  else if horizon ∨ inc = 0 then (15, 0)
  else if inc < 2 ^ 23 then
    (14, max 1 (min 511 (divRound inc (2 ^ 14))))
  else expMant inc

/-! ## Angles in 2^-32 au -/

/-- The cycle of Tracker A in 2^-32 au. -/
def fullA (s : State) : Nat := cycleLen s 0 * 2 ^ 32

/-- θ of a beat at its arrival: its angle and what its increment makes of PATH (R423). DESIGN CHOICE (log entry 134): a beat
whose ANGLE lies at or above the follower's cycle length, which R3 calls invalid without giving a consequence, is taken
modulo that length. -/
def theta (s : State) (src angle inc : Nat) (astern : Bool) : Nat :=
  moved astern (fullA s) (angle * 2 ^ 32 % fullA s) (inc * pathOf s src)

/-- The entry last passed at an angle, in the direction of travel: index and half. -/
def lastEntry (s : State) (astern : Bool) (angle : Nat) : Nat × Bool :=
  let halves := if cyc720 s 0 then [false, true] else [false]
  let all := (List.range (teeth s 0)).flatMap (fun i => halves.map (fun h => (i, h)))
  all.foldl (fun best e =>
    if travel astern (cycleLen s 0) (trueAngle s 0 e.1 e.2) angle < travel astern (cycleLen s 0) (trueAngle s 0 best.1 best.2) angle
    then e else best) (0, false)

/-! ## Entries crossed (R425) -/

/-- The link-mode angle has reached an entry: it stands for an accepted crank edge. DESIGN CHOICE (log entry 161): the first
one after sync or a turn has no edge before it to give a period, and its speed is that of the increment in force. -/
def crossEntry (n : Nat) (h : Bool) (s : State) : State :=
  let x := s.trk[(0 : Fin 2)]
  let device := decide (s.dev.control = 0) && s.dev.epochOpen
  let v := if x.nEdges = 0 then speedOfInc x.inc else speedOf (pitch s 0 n) (s.pt - x.lastStamp)
  let s := s.updTrk 0 (fun y => { y.note (teeth s 0) ⟨crankWheel s 0, s.pt, s.pt, none⟩ with
    pos := n, half := h, epochEdges := y.epochEdges + 1, slow := false })
  if device then envelopeEdge n v s.pt x.slow (trimSnapshot 0 (trueAngle s 0 n h) s) else s

/-- The entries between two angles are crossed in order. -/
def crossEntries : Nat → Nat → Nat → State → State
  | 0, _, _, s => s
  | k + 1, old, new, s =>
    let x := s.trk[(0 : Fin 2)]
    let n := nextIdx x.astern (teeth s 0) x.pos
    let h := nextHalf x.astern (teeth s 0) x.pos x.half
    let a := trueAngle s 0 n h
    let len := cycleLen s 0
    if teeth s 0 = 0 ∨ old = new ∨ travel x.astern len old new < travel x.astern len old a ∨ a = old then s
    else crossEntries k a new (crossEntry n h s)

/-! ## Sync, loss, load (R423, R424) -/

/-- Sync is lost in link mode, cause HOLD; no stall-hold has expired, so the tracker goes to STEADY (R110, R424). -/
def followLoss (s : State) : State := loseSync 0 6 s

/-- Tracker A takes an estimate and an increment: a step ahead is swept, a step back is held (R102, R423). -/
def followEst (est inc : Nat) (s : State) : State :=
  let x := s.trk[(0 : Fin 2)]
  let full := fullA s
  let own := presented x
  let device := decide (s.dev.control = 0) && s.dev.epochOpen
  let before := nowPos s
  let ahead := decide (2 * travel x.astern full x.acc est < full)
  let s := s.updTrk 0 (fun y => { y with
    inc := inc, rem := 0, racc := 0, tpred := 0, atHorizon := inc == 0, acc := if ahead then est else y.acc })
  let s := s.updLink (fun l => { l with hold := if ahead then none else some est })
  let now := presented s.trk[(0 : Fin 2)]
  let d := travel x.astern (cycleLen s 0) own now
  let s := if device ∧ own ≠ now then reachPos (before + d) (sweepTo (before + d) (max s.pt (edgeKnown s)) s) else s
  crossEntries (2 * teeth s 0) own now s

/-- Sync is declared at a beat (R63, R424): the device opens its own epoch. -/
def followSync (est inc : Nat) (astern : Bool) (s : State) : State :=
  let at_ := lastEntry s astern (est / 2 ^ 32)
  let s := (setAstern 0 astern s).updTrk 0 (fun x => { x.restart .sync with
    acc := est, inc := inc, rem := 0, racc := 0, tpred := 0, atHorizon := inc == 0, astern := astern,
    pos := at_.1, half := at_.2, nEdges := 0, epochEdges := 0, stamps := [], slow := false, lastStamp := s.pt })
  let s := s.updLink (fun l => { l with hold := none })
  let b := TRK.base 0
  let s := ((s.wr b TRK.SYNC_ANGLE_ANGLE (est / 2 ^ 32)).wr b TRK.SYNC_PT_PT s.ptLo).raise 37
  if s.dev.control = 0 ∧ s.dev.epochOpen = false ∧ (s.dev.st = .syncing ∨ s.dev.st = .armed) then openEpoch s else s

/-- Tracker A turns at a beat (R118, R424). -/
def followTurn (est inc : Nat) (s : State) : State :=
  let astern := !s.trk[(0 : Fin 2)].astern
  let at_ := lastEntry s astern (est / 2 ^ 32)
  let s := (setAstern 0 astern s).updLink (fun l => { l with hold := none })
  s.updTrk 0 (fun x => { x.spoil with
    acc := est, inc := inc, atHorizon := inc == 0, astern := astern, pos := at_.1, half := at_.2,
    prevStamp := x.lastStamp, lastStamp := s.pt, stamps := [], nEdges := 0, epochEdges := 0, stalled := false, slow := false })

/-- Motion resumes at a beat (R115, R423): the device runs on in the same epoch. -/
def followResume (est inc : Nat) (s : State) : State :=
  let s := s.bump (TRK.base 0) TRK.MOTION_CNT_RESUMES
  let s := if s.dev.control = 0 ∧ s.dev.st = .stalled then enterRunning s else s
  let s := s.updTrk 0 (fun x => { x with stalled := false, slow := true })
  pendingDisarm (followEst est inc s)

/-! ## A beat of the active source -/

/-- A beat that reports the sender STALLED makes the follower in SYNC declare a stall in its tick (R113, R423). -/
def reportStall (stalled : Bool) (s : State) : State :=
  if stalled ∧ s.trk[(0 : Fin 2)].acq = .sync then declareStall 0 s else s

/-- A good beat of the active source in SYNC (R423, R424). -/
def syncBeat (b : AngleBeat) (inc : Nat) (stalled : Bool) (s : State) : State :=
  let x := s.trk[(0 : Fin 2)]
  let est := theta s b.src.toNat b.angle.toNat inc b.astern
  if b.isOpen = false ∨ b.epoch.toNat ≠ s.link.beatEpoch then followLoss s
  else if x.stalled ∧ inc = 0 then s
  else if b.astern ≠ x.astern then reportStall stalled (reversalWith 0 (followTurn est inc) s)
  else if x.stalled then followResume est inc s
  else reportStall stalled (followEst est inc s)

/-- A good beat of the active source (R423, R424). -/
def activeBeat (b : AngleBeat) (inc : Nat) (stalled : Bool) (s : State) : State :=
  let s := s.updLink (fun l => { l with beatAt := some s.tick })
  let s := if s.dev.st = .armed then s.enter .syncing else s
  match s.trk[(0 : Fin 2)].acq with
  | .off => s
  | .sync => syncBeat b inc stalled s
  | _ =>
    if b.isOpen ∧ s.isArmed then
      let s := s.updLink (fun l => { l with beatEpoch := b.epoch.toNat })
      reportStall stalled (followSync (theta s b.src.toNat b.angle.toNat inc b.astern) inc b.astern s)
    else s

/-- The first beat of SRC_ALT after its TAKE HEART (R427, R433): true where the source is taken over. -/
def takeOver (b : AngleBeat) (inc : Nat) (s : State) : Bool × State :=
  let s := s.updLink (fun l => { l with takeWait := false })
  let x := s.trk[(0 : Fin 2)]
  let est := theta s b.src.toNat b.angle.toNat inc b.astern / 2 ^ 32
  let tol := 16 * s.cfg LINK.base LINK.TOL_TAKE_TOL
  if x.acq ≠ .sync ∨ (signedDiff (cycleLen s 0) (presented x) est).natAbs ≤ tol then
    (true, ((s.wr LINK.base LINK.STAT_ACTIVE_SRC b.src.toNat).bump LINK.base LINK.TAKES_COUNT).raise 236)
  else (false, followLoss s)

/-- A good beat in link mode. -/
def followBeat (b : AngleBeat) (inc : Nat) (stalled : Bool) (s : State) : State :=
  if following s = false ∨ s.dev.st = .park ∨ s.ptStands = true then s
  else if s.rd LINK.base LINK.STAT_ACTIVE_SRC = b.src.toNat then activeBeat b inc stalled s
  else if s.link.takeWait ∧ s.cfg LINK.base LINK.CFG_SRC_ALT = b.src.toNat then
    let r := takeOver b inc s
    if r.1 then activeBeat b inc stalled r.2 else r.2
  else s

/-- The angle of every cascade device is kept for the vote, whose peer a COMMIT may change (R92, R424). -/
def notePeer (b : AngleBeat) (inc : Nat) (s : State) : State :=
  let x : PeerAngle := ⟨theta s b.src.toNat b.angle.toNat inc b.astern / 2 ^ 32, s.pt, b.isOpen, inc, b.astern, b.src.toNat⟩
  { s with xchk := { s.xchk with peers := x :: s.xchk.peers.filter (fun p => decide (p.src ≠ x.src)) } }

/-! ## Between beats (R423) -/

/-- The accumulator of Tracker A in link mode after one tick: it advances at the last increment without a horizon, or
stands until the estimate reaches it. -/
def followTick (s : State) : State :=
  let x := s.trk[(0 : Fin 2)]
  let full := fullA s
  if x.acq ≠ .sync ∨ x.stalled ∨ full = 0 then s
  else match s.link.hold with
    | none => s.updTrk 0 (fun y => { y with acc := moved y.astern full y.acc y.inc })
    | some e =>
      let n := moved x.astern full e x.inc
      if travel x.astern full e x.acc ≤ x.inc then
        (s.updTrk 0 (fun y => { y with acc := n })).updLink (fun l => { l with hold := none })
      else s.updLink (fun l => { l with hold := some n })

/-- FLYWHEEL_EXPIRE (R424): no good beat of the active source for FLY. -/
def flyExpireStep (s : State) : State :=
  let due : Bool := match s.link.beatAt with | some t => decide (t + 400 * s.cfg LINK.base LINK.CFG_FLY ≤ s.tick) | none => true
  if following s ∧ s.trk[(0 : Fin 2)].acq = .sync ∧ due = true ∧ s.ptStands = false then followLoss s else s

/-- FLYWHEEL_EXPIRE. -/
def execFlywheelExpire (s : State) : Host.Outcome State Fault Refusal := .next (flyExpireStep s)

end Sys2Proof.Machine
end

