-- ==== Sys2Proof/Machine/Reset.lean ====
section
/-! DEFINITION. Cold, link, warm and supply resets (R455 to R466), what each keeps, and the records of R210. -/

namespace Sys2Proof.Machine

/-! ## Straps (R470) -/

/-- The registers whose reset value is a strap take it from the straps as sampled. -/
def strapRegs (s : State) : State :=
  let b := s.dev.straps.toNat
  let s := foldS [0, 1] (fun (t : Fin 2) s => s.wrBoth (TRK.base t) TRK.CFG_CYCLE720 (b2n (bit b 6))) s
  let s := foldS (List.finRange 4) strapConv s
  let s := s.wr HPS.base HPS.CFG_GEN (genOfStraps s.dev.straps)
  let s := s.wrBoth LINK.base LINK.CFG_TX_ANGLE (b2n (bit b 5))
  let s := s.wr LINK.base LINK.STAT_ROLE (if bit b 5 then 1 else 2)
  s.updHost (fun h => { h with gen := genOfStraps s.dev.straps })

/-! ## Cold reset (R461, R463) -/

/-- Everything at its reset value, in state RESET. What stays belongs to the world outside (levels at balls, supplies)
or to the model (waiting commands, the tick, the counter of free values). DESIGN CHOICE (log entry 198): the Levee's first
slice begins with the reset (R241). -/
def coldState (s : State) : State :=
  { State.reset with
    pending := s.pending
    tick := s.tick
    free := s.free
    regs := []
    inFlight := []
    dev := { initDevice s.dev.straps with st := .reset, began := .reset }
    sys := { initSys with
      supplyDown := s.sys.supplyDown
      vdrvLow := s.sys.vdrvLow
      coldBusy := true
      clkDue := true
      vretDown := s.sys.vretDown
      resetNLow := s.sys.resetNLow
      strapPins := s.sys.strapPins
      warmLow := s.sys.warmLow }
    lev := { units := [], sliceStart := s.tick }
    link := { initLink with symFrom := s.tick }
    tripPins := s.tripPins
    tioIn := s.tioIn
    rioPins := s.rioPins
    tap := s.tap }

/-- A cold reset begins; RST_CAUSE keeps its own bit only (R461). -/
def coldBegin (cause : Nat) (s : State) : State := strapRegs ((coldState s).setReg (SYS.base + 0x58) (toWord (2 ^ cause)))

/-- Straps are sampled into the retention domain (R463); DEDUCED (log entry 180): a link reset samples the tied balls again. -/
def sampleStraps (s : State) : State := strapRegs (s.updDev (fun d => { d with straps := s.sys.strapPins }))

/-- POWER_ON_RESET (R455, R456): VRET leaves its range, or enters it; RESET_N is held low then (R463). -/
def powerOnStep (up : Bool) (s : State) : State :=
  if up then s.updSys (fun y => { y with vretDown := false })
  else coldBegin 0 (s.updSys (fun y => { y with vretDown := true, resetNLow := true }))

/-- RESET_N_ASSERT (R461). -/
def resetAssertStep (s : State) : State :=
  if s.sys.resetNLow then s else coldBegin 1 (s.updSys (fun y => { y with resetNLow := true }))

/-- RESET_N_RELEASE (R461, R463): the straps are sampled at the rising edge. -/
def resetReleaseStep (straps : BitVec 8) (s : State) : State :=
  if s.sys.resetNLow = true ∧ s.sys.vretDown = false then
    sampleStraps (s.updSys (fun y => { y with resetNLow := false, strapPins := straps }))
  else s

/-- A link reset command for this device (R428): a cold reset whose internal release comes 10 µs later (R464). It is
ignored during a reset (R481). -/
def linkReset (s : State) : State :=
  if s.held = true ∨ s.on LINK.base LINK.CFG_RST_EN = false then s
  else
    let s := coldBegin 2 s
    (s.updSys (fun y => { y with linkRst := true })).updLink (fun l => { l with resetAt := some s.tick })

/-- LINK_RESET_RELEASE (R461, R464): 10 µs after the HEART; the straps are sampled at their balls, which are tied (R469). -/
def linkReleaseStep (s : State) : State :=
  match s.link.resetAt with
  | some t =>
    if s.sys.linkRst = true ∧ t + 4000 ≤ s.tick then
      sampleStraps ((s.updSys (fun y => { y with linkRst := false })).updLink (fun l => { l with resetAt := none }))
    else s
  | none => s

/-! ## Link ports start training (R410, R463) -/

/-- A port puts out one of its 64 PINGs, with its PT at the first symbol (R411). -/
def sendPing (p : Fin 2) (s : State) : State := putOut p (.ping s.pt) s

/-- A port starts training: nothing measured before counts, and the paths through it are measured afresh (R417). The first
PING goes out; DESIGN CHOICE (log entry 182): the others follow one PONG each. -/
def startTraining (p : Fin 2) (oneLane : Bool) (s : State) : State :=
  let s := setPort p 1 s
  let s := s.updPort p (fun x => { x with pongs := 0, trips := 0, oneLane := oneLane, since := s.tick })
  sendPing p <| s.updLink (fun l => { l with heard := l.heard.filter (fun e => e.2.port != p.val) })

/-- The flash master boots where HOSTSEL is 0b11 (R406, R471). -/
def bootIfStrapped (s : State) : State := if s.dev.straps.toNat % 4 = 3 then bootBegin s else s

/-- COLD_RESET_DONE (R455, R459, R463): with every supply in range and the reference chosen, STRAPPED, PT at 0, the links train, the flash boot starts. Without a trained bundle the D-die
outputs stay off. -/
def coldDoneStep (bundleOk : Bool) (s : State) : State :=
  if s.sys.coldBusy = true ∧ s.sys.vretDown = false ∧ s.sys.resetNLow = false ∧ s.sys.linkRst = false ∧
      s.sys.oscRetry = false ∧ s.sys.clkDue = false ∧ s.sys.supplyDown = [] ∧ s.sys.vdrvLow = false then
    let s := s.updSys (fun y => { y with coldBusy := false })
    let s := (s.wr SYS.base SYS.STAT_D2D_UP (b2n bundleOk)).wr SYS.base SYS.STAT_BUNDLE_FAIL (b2n !bundleOk)
    let s := if bundleOk then s else { s with
      pwm := Vector.replicate 16 { initPwm with hold := 3 }
      sys := { s.sys with dHold := true } }
    let s := s.restartPt.enter .strapped
    bootIfStrapped (startTraining 1 false (startTraining 0 false s))
  else s

/-! ## What a warm reset keeps (R210, R241, R340, R369, R395, R458, R466) -/

/-- Registers kept whole, or in the fields named: of the retention domain, of the D-die, of the L-die. -/
def keptRetained : List (Nat × Fld) :=
  [(HDG.base, HDG.SEQ_LAST_SEQ), (JRN.base, JRN.WR_COUNT), (JRN.base, JRN.RD_COUNT), (JRN.base, JRN.LOST_COUNT), (JRN.base, JRN.STAT_POISON),
    (SYS.base, SYS.STAT_D2D_UP), (SYS.base, SYS.STAT_BUNDLE_FAIL), (THERM.base, THERM.STAT_HOLD)]

/-- Kept unless VDD_D was lost: fault bits and counters of the banks and shapers. -/
def keptD : List (Nat × Fld) :=
  [(SHP.base, SHP.STORE_CORR), (SHP.base, SHP.TRIM_STAT_SKIPS), (SHP.base, SHP.TRIM_STAT_SWAPS)] ++
  (List.range 16).flatMap (fun b =>
    [BANK.FAULT_SHORT, BANK.FAULT_OPEN, BANK.FAULT_BOOST_UV, BANK.FAULT_BOOT_UV_H, BANK.FAULT_BOOT_UV_B,
      BANK.FAULT_DECAY_STUCK, BANK.FAULT_CLAMP_MISS, BANK.FAULT_OC, BANK.FAULT_HS_BOTH, BANK.PEAK_I,
      BANK.SLUICE_CNT_DEFERS, BANK.SLUICE_CNT_DROPS, BANK.DEFER_MAX_TICKS, BANK.GRANTS_COUNT].map (fun f => (BANK.base b, f)) ++
    [SHPB.FLAGS_NODIP, SHPB.FLAGS_UNCORR, SHPB.FLAGS_TAILOVR, SHPB.FLAGS_RESTART, SHPB.FLAGS_MARKEVT, SHPB.CNT_RESTARTS,
      SHPB.CNT_TAILOVR, SHPB.MARK0_PT, SHPB.MARK1_PT, SHPB.MARK2_PT, SHPB.MARK3_PT].map (fun f => (SHPB.base b, f)) ++
    (List.range 4).flatMap (fun c => [(SHPC.base b c, SHPC.DLAST_DIPS), (SHPC.base b c, SHPC.DTRIM_NODIPS)]))

/-- Kept unless VDD_L was lost: the cores' counters, the Flume's programmed registers, the trackers' loss records, and
what says that a plan is loaded. -/
def keptL : List (Nat × Fld) :=
  [(PLAN.base, PLAN.INFO_VALID), (FLUME.base, FLUME.PLANNED_PLAN)] ++
  (List.range 4).flatMap (fun c => [CORE.STAT_HALFERR, CORE.CNT_ABANDONS, CORE.CNT_HALF, CORE.ENTRIES_COUNT,
    CORE.IMEM_ECC_CORR, CORE.DMEM_ECC_CORR, CORE.NFSLOT_N].map (fun f => (CORE.base c, f))) ++
  [0, 1].flatMap (fun t => [TRK.LOSS_ANGLE_VALID, TRK.LOSS_ANGLE_ANGLE, TRK.LOSS_PT_PT, TRK.MOTION_STAT_LOSS].map
    (fun f => (TRK.base t, f)))

/-- A register kept whole: RST_CAUSE; the clock monitor's and the Flume's unless VDD_L was lost, the Levee's unless
VDD_D was lost. -/
def keptReg (lostL lostD : Bool) (a : Nat) : Bool :=
  a == 0x400058 || (!lostL && decide (a / 0x1000 = 0x401)) || (!lostD && decide (a / 0x1000 = 0x421)) ||
    (!lostL && decide (0x460100 ≤ a) && decide (a < 0x460900) && decide ((a - 0x460100) % 0x40 < 0x14))

/-- Memory kept: queue and journal always, the microcode store unless VDD_D was lost, the rest unless VDD_L was. -/
def keptMem (lostL lostD : Bool) (a : Nat) : Bool :=
  if 0x140000 ≤ a ∧ a < 0x154000 then true
  else if 0x180000 ≤ a ∧ a < 0x184000 then !lostD
  else !lostL

/-- Fields copied from one state's registers to another's. -/
def copyFields (l : List (Nat × Fld)) (old : State) (s : State) : State :=
  foldS l (fun e s => s.wr e.1 e.2 (old.rd e.1 e.2)) s

/-- The registers of a warm reset: reset values, straps as retained, and what is kept. -/
def warmRegs (lostL lostD : Bool) (old : State) (s : State) : State :=
  let s := strapRegs { s with
    regs := old.regs.filter (fun e => keptReg lostL lostD e.1)
    act := old.act.filter (fun e => keptReg lostL lostD e.1) }
  let s := copyFields keptRetained old s
  let s := if lostD then s else copyFields keptD old s
  let s := if lostL then s else copyFields keptL old s
  if old.plan.load = .write then s.wr PLAN.base PLAN.INFO_VALID 0 else s

/-- The memories of a warm reset, with their errors and poison. -/
def warmMem (lostL lostD : Bool) (old : State) (s : State) : State :=
  { s with
    mem := old.mem.filter (fun c => keptMem lostL lostD c.1)
    memErr := old.memErr.filter (fun e => keptMem lostL lostD (8 * e.1))
    slotPoison := if lostL then [] else old.slotPoison
    memc := { initMemc with secErr := old.memc.secErr.filter (fun e => keptMem lostL lostD e.1) } }

/-- The units of the D-die that keep something: the Levee and the locks; outputs held off stay held (R25, R478). DESIGN CHOICE
(log entry 197): a warm reset ends a driver's undervoltage hold (R221), which the next crossing of its voltage begins anew. -/
def warmDDie (lostD : Bool) (old : State) (s : State) : State :=
  let s := if lostD then s else { s with
    lev := old.lev
    banks := old.banks.map (fun b => { initBank with chLock := b.chLock, bankLock := b.bankLock }) }
  if old.sys.dHold then { s with
    pwm := Vector.replicate 16 { initPwm with hold := 3 }
    sys := { s.sys with dHold := true } }
  else s

/-- The units of the L-die that keep something: Runnel programs, the cores' frame tables and overrun counts. -/
def warmLDie (lostL : Bool) (old : State) (s : State) : State :=
  if lostL then s else { s with
    rnl := old.rnl.map (fun x => initRnl x.prog)
    cores := old.cores.map (fun c => { initCore with
      on := c.on
      frame := c.frame
      slotMax := (c.slotMax.map (fun e => (e.1, (0, e.2.2)))).filter (fun e => e.2 != (0, 0)) }) }

/-- The state while a warm or supply reset holds the device: inside, every unit is as in RESET, with what R458 keeps; the
device shows the state the reset found it in (R28, R29; log entry 187). DESIGN CHOICE (log entry 195): a WINDOW of the Levee
committed while armed and not yet acting is discarded with every other shadow (R245). -/
def warmState (lostL lostD : Bool) (old : State) : State :=
  let s := coldState old
  let s := { s with
    dev := { s.dev with epoch := old.dev.epoch, cycle := old.dev.cycle, found := old.shown, prev := old.dev.prev }
    plan := { initPlan with
      keptBase := old.plan.keptBase
      spillCause := old.plan.spillCause &&& 0x31 }
    hdg := { initHdg with queue := old.hdg.queue, lossPend := old.hdg.lossPend, blocked := true }
    sys := { s.sys with
      coldBusy := false
      clkDue := old.sys.clkDue || lostL
      warmBusy := true
      clockFault := old.sys.clockFault
      warmActs := old.sys.warmActs
      warmOpen := old.sys.warmOpen
      lostL := old.sys.lostL || lostL
      lostD := old.sys.lostD || lostD } }
  warmLDie lostL old (warmDDie lostD old (warmMem lostL lostD old (warmRegs lostL lostD old s)))

/-- A warm or supply reset takes hold (R210, R456, R465): the spillway end acts on every output; what was in progress is
remembered for the records; no decision of this very tick is taken: orders, actions, epoch and journal are as the tick found
them (R210; log entry 186). -/
def warmBegin (lostL lostD : Bool) (s : State) : State :=
  let s := if s.sys.warmBusy then s else undoTick s
  let acts := (s.plan.acts.filter (fun a => a.order.isNone)).map (fun a => a.idx)
  let s := foldS s.plan.acts flagOrder s
  let s := s.updSys (fun y => { y with
    warmActs := y.warmActs ++ acts
    warmOpen := y.warmOpen || s.dev.epochOpen })
  let s := foldS (List.finRange 16) spillBank s
  let s := foldS [0, 1] (fun (t : Fin 2) s => if s.trk[t].acq = .sync then recordLoss t 9 s else s) s
  warmState lostL lostD s

/-- A reset other than a warm one is in force. -/
def coldHeld (s : State) : Bool := s.sys.coldBusy || s.sys.vretDown || s.sys.resetNLow || s.sys.linkRst

/-- WARM_N_ASSERT (R465, R481). -/
def warmAssertStep (s : State) : State :=
  let s' := s.updSys (fun y => { y with warmLow := true })
  if coldHeld s then s'
  else (warmBegin false false s').wr SYS.base SYS.RST_CAUSE_WARM_N 1

/-- The records of R210, in its order. -/
def warmRecords (s : State) : State :=
  let s := jrnNow (markWord0 s 3 0) (angleWord1 s 0) s
  let s := foldS s.sys.warmActs (fun i s => jrnNow (actionWord0 s 5 6 i) (angleWord1 s 0) s) s
  let s := drainQueue (endOrdersWhere (fun _ => true) (fun o => if o.progress ≤ 1 then (4, 6, 0) else (5, 6, 0)) s)
  if s.sys.warmOpen then jrnNow (markWord0 s 2 9) (angleWord1 s 0) s else s

/-- Nothing holds the warm or supply reset any longer: PT restarts, the islands are released, the Headgate writes its
records, and the links train (R210, R457, R462, R465). EPOCH_CYC keeps the last cycle (R64) unless VDD_L was lost. -/
def warmRelease (s : State) : State :=
  if s.sys.warmBusy = false ∨ s.held = true then s
  else
    let s := s.restartPt.updSys (fun y => { y with warmAt := s.tick })
    let s := if s.sys.lostD then leveeRestart s else s
    let s := warmRecords s
    let s := if s.sys.lostL then s.updDev (fun d => { d with cycle := 0 }) else s
    let s := s.updSys (fun y => { y with warmActs := [], warmOpen := false, lostL := false, lostD := false })
    startTraining 1 false (startTraining 0 false s)

/-- WARM_N_RELEASE. -/
def warmReleaseStep (s : State) : State :=
  if s.sys.warmLow then warmRelease (s.updSys (fun y => { y with warmLow := false })) else s

/-! ## The end of a warm reset (R466) -/

/-- The header, directory and section CRCs of the plan copy check. -/
def copyChecks (s : State) : Bool :=
  let g := copyImage s
  !copyHeadBad s && !(List.range g.dir.length).any (fun i => sectCrcBad g i)

/-- The tables are rewritten from the plan copy, which removes poison; slots take their defaults, and every poison bit of the
slots clears (R164, R443, R466). The
trackers' CFG registers are not among them and keep their reset values until the plan is armed (R181, R458). -/
def planFromCopy (s : State) : State :=
  let g := copyImage s
  let s := loadPatterns g (loadWheelInfo g s)
  let s := loadEnvelope g (loadBusmap g (loadScan g (loadMicrocode g s)))
  let s := loadActions g (loadFurrows g (loadSlots g (loadTrims g { s with slotPoison := [] })))
  let s := clearLearned (clearRecords (planInfo g s))
  s.wr PLAN.base PLAN.COPY_SIZE_SIZE (copySize (imageAt s s.plan.keptBase))

/-- WARM_RESET_DONE (R369, R465, R466). -/
def warmDoneStep (s : State) : State :=
  if s.sys.warmBusy = false ∨ s.held = true then s
  else
    let s := (s.updSys (fun y => { y with warmBusy := false })).updHdg (fun h => { h with blocked := false })
    let s := foldS (List.finRange 4) (fun c s => if s.cores[c].on then restartCore c s else s) s
    if s.flag PLAN.base PLAN.INFO_VALID ∧ copyChecks s then (planFromCopy s).enter .loaded
    else
      let s := (s.wr PLAN.base PLAN.INFO_VALID 0).wr FLUME.base FLUME.PLANNED_PLAN 0
      bootIfStrapped (s.enter .strapped)

/-! ## Supply resets (R454, R456) -/

/-- The RST_CAUSE field of a supply. -/
def supplyFld : Supply → Fld
  | .vddL => SYS.RST_CAUSE_SUP_VDD_L
  | .vddD => SYS.RST_CAUSE_SUP_VDD_D
  | .vdda => SYS.RST_CAUSE_SUP_VDDA
  | .vio => SYS.RST_CAUSE_SUP_VIO

/-- SUPPLY_LOSS (R456). -/
def supplyLossStep (sup : Supply) (s : State) : State :=
  let s' := s.updSys (fun y => { y with supplyDown := if y.supplyDown.contains sup then y.supplyDown else y.supplyDown ++ [sup] })
  if coldHeld s then s'
  else (warmBegin (sup == .vddL) (sup == .vddD) s').wr SYS.base (supplyFld sup) 1

/-- SUPPLY_RETURN (R454, R481): the reset is released when the last supply has returned and WARM_N is high. -/
def supplyReturnStep (sup : Supply) (s : State) : State :=
  if s.sys.supplyDown.contains sup then
    warmRelease (s.updSys (fun y => { y with supplyDown := y.supplyDown.filter (fun x => x != sup) }))
  else s

/-! ## Commands -/

/-- POWER_ON_RESET. -/
def execPowerOnReset (up : Bool) (s : State) : Host.Outcome State Fault Refusal := .next (powerOnStep up s)
/-- RESET_N_ASSERT. -/
def execResetNAssert (s : State) : Host.Outcome State Fault Refusal := .next (resetAssertStep s)
/-- RESET_N_RELEASE. -/
def execResetNRelease (straps : BitVec 8) (s : State) : Host.Outcome State Fault Refusal := .next (resetReleaseStep straps s)
/-- COLD_RESET_DONE. -/
def execColdResetDone (bundleOk : Bool) (s : State) : Host.Outcome State Fault Refusal := .next (coldDoneStep bundleOk s)
/-- LINK_RESET_RELEASE. -/
def execLinkResetRelease (s : State) : Host.Outcome State Fault Refusal := .next (linkReleaseStep s)
/-- WARM_N_ASSERT. -/
def execWarmNAssert (s : State) : Host.Outcome State Fault Refusal := .next (warmAssertStep s)
/-- WARM_N_RELEASE. -/
def execWarmNRelease (s : State) : Host.Outcome State Fault Refusal := .next (warmReleaseStep s)
/-- WARM_RESET_DONE. -/
def execWarmResetDone (s : State) : Host.Outcome State Fault Refusal := .next (warmDoneStep s)
/-- SUPPLY_LOSS. -/
def execSupplyLoss (sup : Supply) (s : State) : Host.Outcome State Fault Refusal := .next (supplyLossStep sup s)
/-- SUPPLY_RETURN. -/
def execSupplyReturn (sup : Supply) (s : State) : Host.Outcome State Fault Refusal := .next (supplyReturnStep sup s)

end Sys2Proof.Machine
end

