-- ==== Sys2Proof/Machine/Power.lean ====
section
/-! DEFINITION. The bundle and its heartbeat (R14, R25 to R27), island faults (R17, R467, R468), drive undervoltage, clocks
(R459, R460), PARK and wake (R472 to R474, R381), heat (R477, R478). -/

namespace Sys2Proof.Machine

/-! ## The bundle (R14, R25 to R27) -/

/-- The D-die ends its outputs by itself and holds them off: it latches the bank actions it ended (R25, R478). -/
def dDieEnds (s : State) : State :=
  let acts := s.plan.acts.filter (fun a => a.isBank && decide (a.phase ≠ .issued))
  let s := spillPwm true (foldS (List.finRange 16) spillBank s)
  s.updSys (fun y => { y with dHold := true, latched := y.latched ++ acts.map (fun a => a.idx) })

/-- BUNDLE_UNCORR (R14): the word is discarded, the D-die ends its outputs, an armed device enters SPILLED; source 5. -/
def bundleUncorrStep (s : State) : State :=
  if s.held then s
  else (spillDevice 1 (s.bump SYS.base SYS.D2D_CNT_UNCORR)).raise 5

/-- HEARTBEAT_WINDOW (R25): the fourth consecutive miss ends every D-die output. -/
def heartbeatStep (seen : Bool) (s : State) : State :=
  if s.held then s
  else if seen then s.updSys (fun y => { y with missedBeats := 0 })
  else
    let n := s.sys.missedBeats + 1
    let s := s.updSys (fun y => { y with missedBeats := n })
    if n = 4 then dDieEnds s else s

/-- STATUS_WINDOW (R14, R26): corrected words are counted; the fourth consecutive miss is a heartbeat loss, source 4. -/
def statusStep (seen : Bool) (corrected : Nat) (s : State) : State :=
  if s.held then s
  else
    let s := s.bumpBy SYS.base SYS.D2D_CNT_CORR corrected
    if seen then s.updSys (fun y => { y with missedStatus := 0 })
    else
      let n := s.sys.missedStatus + 1
      let s := s.updSys (fun y => { y with missedStatus := n })
      if n = 4 then (spillDevice 2 s).raise 4 else s

/-- BUNDLE_RESTORE (R27): the actions the D-die ended and that are still in progress are journaled TRUNCATED; the causes of
SPILLED that the bundle gave have cleared. -/
def bundleRestoreStep (s : State) : State :=
  let ended := s.sys.latched
  let s := truncateWhere (fun a => a.isBank && decide (a.phase ≠ .issued) && ended.contains a.idx) (devAngle s) s
  let s := s.updSys (fun y => { y with latched := [] })
  spillCleared 2 (spillCleared 1 s)

/-! ## Islands (R17, R467, R468) -/

/-- CULVERT_STALL (R17): an island fault, recorded as a culvert stall; the writer's island is the faulted one, and is reset
(R467). The row does not say whose culvert it is: the writer is free (log entry 22). -/
def culvertStep (s : State) : State :=
  if s.held then s else islandFault 6 (some (Config.stalledWriter s.free).val) 3 s.drawFree.2

/-- A tracker island is released with its registers at their reset values (R467, R468). -/
def resetTracker (t : Fin 2) (s : State) : State :=
  let s := resetPage (2 + t.val) s
  let s := s.wrBoth (TRK.base t) TRK.CFG_CYCLE720 (b2n (bit s.dev.straps.toNat 6))
  s.updTrk t (fun _ => initTracker)

/-- Fields of the plan engine's pages that its reset keeps: those of the retention domain, and those that describe the
loaded plan, which software may arm again (R467). -/
def keptEngine : List (Nat × Fld) :=
  [(HDG.base, HDG.SEQ_LAST_SEQ), (JRN.base, JRN.WR_COUNT), (JRN.base, JRN.RD_COUNT), (JRN.base, JRN.LOST_COUNT),
    (JRN.base, JRN.STAT_POISON), (PLAN.base, PLAN.PLAN_ID_ID), (PLAN.base, PLAN.COPY_BASE_ADDR),
    (PLAN.base, PLAN.COPY_SIZE_SIZE), (PLAN.base, PLAN.INFO_VALID), (PLAN.base, PLAN.INFO_ASTERN),
    (PLAN.base, PLAN.INFO_CYCLE720), (PLAN.base, PLAN.INFO_TAINTED), (PLAN.base, PLAN.INFO_NACT)]

/-- The plan engine island is released (R209, R467): pages 0x05 to 0x07 at their reset values but for `keptEngine`, the
staging buffers clear, a load in progress is abandoned as R179 has it at a warm reset, and every queued order ends as in
R210 with reason EPOCH. DESIGN CHOICE (log entry 149): what describes the loaded plan stays. -/
def resetEngine (old : State) : State :=
  let s := copyFields keptEngine old (resetPage 5 (resetPage 6 (resetPage 7 old)))
  let s := s.updHdg (fun h => { h with staging := initHdg.staging, rdWrites := [], flumeSubs := [] })
  let s := s.updPlan (fun p => { p with load := .idle, lateLog := [], violAt := none, govKept := none })
  let s := if old.plan.load = .write then (s.wr PLAN.base PLAN.INFO_VALID 0).enter .strapped else s
  endOrdersWhere (fun _ => true) (fun o => (if o.progress ≤ 1 then 4 else 5, 4, s.ptLo)) s

/-- A faulted island is released (R467): a tracker with its registers at reset, and the other tracker where it had a fault
too; the plan engine; the converters. -/
def releaseIsland (n : Nat) (s : State) : State :=
  if n < 2 then
    let t : Fin 2 := Fin.ofNat 2 n
    let both := hasIfault s (otherTrk t)
    let s := resetTracker t s
    if both then resetTracker (otherTrk t) s else s
  else if n = 2 then resetEngine s
  else if n = 3 then foldS [0x30, 0x31, 0x32, 0x33, 0x34] (fun p s => doSoftReset p (resetPage p s)) s
  else s

/-- Both PT counters have failed their residue checks: no reload can be trusted (R468). -/
def bothPtFailed (s : State) : Bool := bit s.sys.ptFailed 2 && bit s.sys.ptFailed 3

/-- A tracker's PT counter is reloaded from the other's: PT, which Tracker A's counter keeps, or Tracker B's check counter. -/
def copyPt (t : Fin 2) (s : State) : State :=
  let f := s.sys.ptFailed
  let left := f - b2n (bit f t.val) * 2 ^ t.val - b2n (bit f (2 + t.val)) * 2 ^ (2 + t.val)
  let s := if t = 0 then { s with pt := s.sys.ptChk } else s.updSys (fun y => { y with ptChk := s.pt })
  s.updSys (fun y => { y with ptFailed := left })

/-- At the release of a tracker's island whose reset followed a fault of its PT counter, the counter is reloaded from the
other's, unless both had failed (R468). Both counters count alike, so that PT does not jump (log entry 43). -/
def reloadPt (n : Nat) (s : State) : State :=
  if bothPtFailed s then s
  else if n < 2 then
    let t : Fin 2 := Fin.ofNat 2 n
    let s := if bit s.sys.ptFailed t.val then copyPt t s else s
    if bit s.sys.ptFailed (otherTrk t).val then copyPt (otherTrk t) s else s
  else s

/-- ISLAND_RESET_RELEASE (R467, R468): islands whose fault lies 10 µs back are released; once none is left the cause of
SPILLED has cleared, unless both PT counters had failed: only a warm or cold reset ends that. -/
def islandReleaseStep (s : State) : State :=
  let due := s.sys.islandRst.filter (fun e => decide (e.2 + 4000 ≤ s.tick))
  if due = [] then s
  else
    let s := foldS due (fun e s => reloadPt e.1 (releaseIsland e.1 s)) s
    let s := s.updSys (fun y => { y with islandRst := y.islandRst.filter (fun e => !due.contains e) })
    if bothPtFailed s then s.wr SYS.base SYS.RST_CAUSE_ISLAND_ID 0
    else if s.sys.islandRst = [] then spillCleared 3 s else s

/-! ## Drive undervoltage (R456) -/

/-- VDRV_UNDERVOLTAGE: the gates and the PWM outputs are held off, and it is a fault in the drive island (R456, R515). -/
def vdrvLowStep (s : State) : State :=
  if s.sys.vdrvLow then s
  else
    let s := settleAll (s.updSys (fun y => { y with vdrvLow := true }))
    if s.held then s else islandFault 4 none 4 s

/-- VDRV_RETURN: the cause clears. -/
def vdrvReturnStep (s : State) : State :=
  if s.sys.vdrvLow then spillCleared 4 (settleAll (s.updSys (fun y => { y with vdrvLow := false }))) else s

/-! ## Clocks (R459, R460) -/

/-- The reference is chosen and both PLLs lock to it; a supply reset that waited for it ends (R454, R459). -/
def clockChosen (src : Nat) (ref50 : Bool) (khz : Half) (s : State) : State :=
  let s := ((s.wr CLK.base CLK.STAT_SRC src).wr CLK.base CLK.STAT_REF50 (b2n ref50)).wr CLK.base CLK.REF_FREQ_KHZ khz.toNat
  let s := ((s.wr CLK.base CLK.STAT_REF_OK 1).wr CLK.base CLK.STAT_MAIN_LOCK 1).wr CLK.base CLK.STAT_LINK_LOCK 1
  warmRelease (s.updSys (fun y => { y with oscRetry := false, clkDue := false }))

/-- CLOCK_SELECT (R459): the choice is made during a cold reset, or a supply reset that lost VDD_L. -/
def clockSelectStep (obs : ClockObs) (s : State) : State :=
  if s.sys.clkDue = false then s
  else match obs with
    | .clkin25 khz => clockChosen 1 false khz s
    | .clkin50 khz => clockChosen 1 true khz s
    | .crystal khz => clockChosen 2 false khz s
    | .none => (s.updSys (fun y => { y with oscRetry := true })).wr SYS.base SYS.RST_CAUSE_CLK_FAIL 1

/-- What a clock fault shows in CLK (R490). -/
def clockShows (kind : ClockFaultKind) (s : State) : State :=
  match kind with
  | .reference => (s.wr CLK.base CLK.STAT_REF_OK 0).wr CLK.base CLK.FAULT_SEEN_REF 1
  | .mainPll => (s.wr CLK.base CLK.STAT_MAIN_LOCK 0).wr CLK.base CLK.FAULT_SEEN_MAIN_LOCK 1
  | .linkPll => (s.wr CLK.base CLK.STAT_LINK_LOCK 0).wr CLK.base CLK.FAULT_SEEN_LINK_LOCK 1

/-- CLOCK_FAULT (R460, R467): PT stands, the clock island has a fault, source 2. -/
def clockFaultStep (kind : ClockFaultKind) (s : State) : State :=
  let s := clockShows kind s
  if s.sys.clockFault then s
  else
    let s := (s.updSys (fun y => { y with clockFault := true })).wr CLK.base CLK.STAT_FAULT 1
    let s := (s.bump CLK.base CLK.FAULT_CNT_COUNT).wr SYS.base SYS.RST_CAUSE_CLK_FAIL 1
    if s.held then s else islandFault 5 none 5 (s.raise 2)

/-- CLOCK_RECOVER (R460): the fault clears, and PT goes on from where it stood. -/
def clockRecoverStep (lostUs : Word) (s : State) : State :=
  if s.sys.clockFault then
    let s := s.updSys (fun y => { y with clockFault := false })
    let s := (s.wr CLK.base CLK.STAT_FAULT 0).wr CLK.base CLK.LOST_US lostUs.toNat
    let s := ((s.wr CLK.base CLK.STAT_REF_OK 1).wr CLK.base CLK.STAT_MAIN_LOCK 1).wr CLK.base CLK.STAT_LINK_LOCK 1
    spillCleared 5 (resumePwm s)
  else s

/-! ## PARK and wake (R381, R472 to R474) -/

/-- A Flume channel is RUNNING. -/
def flumeRuns (s : State) : Bool := (List.finRange 32).any (fun c => flumeState s c == 1)

/-- PARK_ENTER (R472): a held request acts in the first tick in which nothing holds it; where PARK could not be requested
now, it is refused and counted. The cores stop (R370). -/
def parkEnterStep (s : State) : State :=
  if s.flag SYS.base SYS.CMD_PARK = false ∨ s.plan.load ≠ .idle ∨ flumeRuns s = true ∨ s.sys.frozen = true then s
  else
    let s := s.wr SYS.base SYS.CMD_PARK 0
    let ok := match s.dev.st with
      | .strapped | .loaded | .armed => !tmrOrRnlRuns s
      | _ => false
    if ok then
      let s := catchAll s
      let s := foldS (List.finRange 4) (fun c s => s.updCore c (fun x => { x with parked := x.on })) s
      (s.updSys (fun y => { y with parkFrom := s.dev.st, parkAt := s.pt })).enter .park
    else s.err 0x00

/-- The device leaves PARK for the state it parked from; coalescing time has not advanced (R381, R474); source 7. -/
def wakeUp (s : State) : State :=
  let d := s.pt - s.sys.parkAt
  let later := fun (e : Nat × CatchSrc) => (e.1, { e.2 with timer := e.2.timer.map (fun t => t + d) })
  let s := { s with catch_ := s.catch_.map later }
  (s.enter s.sys.parkFrom).raise 7

/-- What wakes a parked device (R474): an edge of a wheel that the armed plan names, of any wheel where no plan is armed; HPQ
not while its ENABLE is 0 (R484). -/
def wakes (cause : WakeCause) (s : State) : Bool :=
  match cause with
  | .wheel w => decide (s.sys.parkFrom ≠ .armed) || s.plan.wheels.any (fun r => r.wheel == w.val)
  | .hpq => !s.clockOff 0x69
  | .hps | .linkFrame => true

/-- WAKE (R474): an ARMED device moves on to SYNCING on a waking crank edge of R29's ARMED row. -/
def wakeStep (cause : WakeCause) (s : State) : State :=
  if s.dev.st ≠ .park ∨ wakes cause s = false then s
  else
    let k : Nat := match cause with | .wheel _ => 1 | .hps => 2 | .hpq => 2 | .linkFrame => 4
    let s := wakeUp (s.setReg (SYS.base + 0x54) (toWord k))
    match cause with
    | .wheel w =>
      if s.dev.st = .armed ∧ following s = false ∧ (cranksOn s 0 w || cranksOn s 1 w) then s.enter .syncing else s
    | _ => s

/-! ## Heat (R477, R478, R481) -/

/-- The outputs end and are held off (R478). A parked device wakes first (R481). -/
def thermalShut (s : State) : State :=
  let s := if s.dev.st = .park then wakeUp s else s
  let s := (spillDevice 0 s).raise 1
  let s := (s.wr THERM.base THERM.STAT_SHUT 1).wr THERM.base THERM.STAT_HOLD 1
  (s.bump THERM.base THERM.CNT_SHUTS).updSys (fun y => { y with dHold := true })

/-- The warning (R477): raised at 140 °C, again only after Tj has fallen below 135 °C. -/
def thermalWarn (tj : Int) (s : State) : State :=
  if tj < 540 then s.wr THERM.base THERM.STAT_WARN 0
  else if 560 ≤ tj ∧ s.flag THERM.base THERM.STAT_WARN = false then
    ((s.wr THERM.base THERM.STAT_WARN 1).bump THERM.base THERM.CNT_WARNS).raise 0
  else s

/-- The greatest of the six readings, signed (R477). -/
def hottest (l : List Half) : Int := l.foldl (fun m t => max m (signed 16 t.toNat)) (-32768)

/-- THERM_MEASURE (R477, R478). -/
def thermMeasureStep (l : List Half) (s : State) : State :=
  if s.held then s
  else
    let s := foldS (List.range 6) (fun k s => s.setReg (SENS.base k) (toWord (l.getD k 0).toNat)) s
    let tj := hottest l
    let s := s.wr THERM.base THERM.TJ (unsigned 16 tj)
    let s := if signed 16 (s.rd THERM.base THERM.MAX_T) < tj then s.wr THERM.base THERM.MAX_T (unsigned 16 tj) else s
    let s := thermalWarn tj s
    let s := if tj < 540 then spillCleared 0 s else s
    let n := if 620 ≤ tj then s.sys.hot + 1 else 0
    let s := s.updSys (fun y => { y with hot := n })
    if n = 2 then thermalShut s else s

/-- D_DIE_THERMAL_TRIP (R478): the D-die ends its outputs by itself; they stay off as after a shutdown. -/
def dDieTripStep (s : State) : State := if s.held then s else (dDieEnds s).wr THERM.base THERM.STAT_HOLD 1

/-! ## Commands -/

/-- BUNDLE_UNCORR. -/
def execBundleUncorr (s : State) : Host.Outcome State Fault Refusal := .next (bundleUncorrStep s)
/-- HEARTBEAT_WINDOW. -/
def execHeartbeatWindow (seen : Bool) (s : State) : Host.Outcome State Fault Refusal := .next (heartbeatStep seen s)
/-- STATUS_WINDOW. -/
def execStatusWindow (seen : Bool) (corrected : BitVec 16) (s : State) : Host.Outcome State Fault Refusal :=
  .next (statusStep seen corrected.toNat s)
/-- BUNDLE_RESTORE. -/
def execBundleRestore (s : State) : Host.Outcome State Fault Refusal := .next (bundleRestoreStep s)
/-- CULVERT_STALL. -/
def execCulvertStall (s : State) : Host.Outcome State Fault Refusal := .next (culvertStep s)
/-- ISLAND_RESET_RELEASE. -/
def execIslandResetRelease (s : State) : Host.Outcome State Fault Refusal := .next (islandReleaseStep s)
/-- VDRV_UNDERVOLTAGE. -/
def execVdrvUndervoltage (s : State) : Host.Outcome State Fault Refusal := .next (vdrvLowStep s)
/-- VDRV_RETURN. -/
def execVdrvReturn (s : State) : Host.Outcome State Fault Refusal := .next (vdrvReturnStep s)
/-- CLOCK_SELECT. -/
def execClockSelect (obs : ClockObs) (s : State) : Host.Outcome State Fault Refusal := .next (clockSelectStep obs s)
/-- CLOCK_FAULT. -/
def execClockFault (kind : ClockFaultKind) (s : State) : Host.Outcome State Fault Refusal := .next (clockFaultStep kind s)
/-- CLOCK_RECOVER. -/
def execClockRecover (lostUs : Word) (s : State) : Host.Outcome State Fault Refusal := .next (clockRecoverStep lostUs s)
/-- PARK_ENTER. -/
def execParkEnter (s : State) : Host.Outcome State Fault Refusal := .next (parkEnterStep s)
/-- WAKE. -/
def execWake (cause : WakeCause) (s : State) : Host.Outcome State Fault Refusal := .next (wakeStep cause s)
/-- THERM_MEASURE. -/
def execThermMeasure (t0 t1 t2 t3 t4 t5 : Half) (s : State) : Host.Outcome State Fault Refusal :=
  .next (thermMeasureStep [t0, t1, t2, t3, t4, t5] s)
/-- D_DIE_THERMAL_TRIP. -/
def execDDieThermalTrip (s : State) : Host.Outcome State Fault Refusal := .next (dDieTripStep s)

end Sys2Proof.Machine
end

