-- ==== Sys2Proof/Machine/Link.lean ====
section
/-! DEFINITION. The link without its data frames: training and latency (R410, R411), the retry rule and lane failure (R416,
R417), HEART, roles and takeover (R412, R426 to R428), ANGLE beats (R413), events going out (R421), and the end of a peer
access (R418, R419). -/

namespace Sys2Proof.Machine

/-! ## Training (R410, R411, R426) -/

/-- The frames of a port that wait for an acknowledgement are sent again, oldest first (R416). -/
def resendAll (p : Fin 2) (s : State) : State :=
  let l := s.link.ports[p].unacked
  let s := foldS l (fun f s => putOut p (.frame f) s) s
  (s.bumpBy LINK.base LINK.RETRY_RESENDS l.length).updPort p (fun x => { x with ackAt := s.tick })

/-- Two masters: the lower link ID stays MASTER, the other becomes STANDBY; CONFLICT, source 235 (R426). -/
def roleConflict (nid : Nat) (s : State) : State :=
  let s := s.setFault LINK.base LINK.STAT_CONFLICT 235
  if nid < s.linkId then s.wr LINK.base LINK.STAT_ROLE 2 else s

/-- A port comes UP: its latency, its lanes, and the frames that waited (R411, R417). -/
def portComesUp (p : Fin 2) (twoLanes : Bool) (s : State) : State :=
  let x := s.link.ports[p]
  let s := s.wr LINK.base (latFld p) (sat 65535 (divRound (x.trips - 2048) 128))
  let s := setPort p (if twoLanes && !x.oneLane then 2 else 3) s
  let s := s.updPort p (fun x => { x with timeouts := 0 })
  sendWaiting p (if x.unacked = [] then s else resendAll p s)

/-- LINK_TRAIN_DONE (R410, R411): the neighbour has been identified and the latency measured. A port whose neighbour has
this device's own ID stays DOWN until a reset. -/
def trainDoneStep (p : Fin 2) (twoLanes : Bool) (nid : Nat) (nMaster : Bool) (s : State) : State :=
  if s.held = true ∨ portState s p ≠ 1 then s
  else if nid = s.linkId then
    (setPort p 0 (s.setFault LINK.base LINK.STAT_DUP_ID 235)).updPort p (fun x => { x with dup := true })
  else if s.link.ports[p].pongs < 64 then s
  else
    let s := portComesUp p twoLanes s
    if nMaster ∧ s.rd LINK.base LINK.STAT_ROLE = 1 then roleConflict nid s else s

/-- LINK_TRAIN_TIMEOUT (R410): not finished within 200 µs, the port reports DOWN. -/
def trainTimeoutStep (p : Fin 2) (s : State) : State :=
  if portState s p = 1 ∧ s.link.ports[p].since + 80000 ≤ s.tick then setPort p 0 s else s

/-- TRAINING_RETRY (R410): 1 ms after it reported DOWN, or at once if it has not trained since the reset. A port that
trains for one lane goes on doing so (R417). -/
def trainRetryStep (p : Fin 2) (s : State) : State :=
  let t := s.link.ports[p].since
  if s.held = false ∧ portState s p = 0 ∧ s.link.ports[p].dup = false ∧ (t = 0 ∨ t + 400000 ≤ s.tick) then startTraining p s.link.ports[p].oneLane s else s

/-- PING (R411): the neighbour trains; answered by a PONG 32 ticks after its first symbol, whether or not this side has
finished. -/
def pingStep (p : Fin 2) (arrived : Nat) (s : State) : State :=
  if s.held = false ∧ portState s p ≠ 0 then putOut p (.pong (arrived + 32)) s else s

/-- PONG (R411): one of 64 round trips; the next PING goes out. -/
def pongStep (p : Fin 2) (trip : Nat) (s : State) : State :=
  if portState s p = 1 ∧ s.link.ports[p].pongs < 64 then
    let n := s.link.ports[p].pongs + 1
    let s := s.updPort p (fun x => { x with pongs := n, trips := x.trips + trip })
    if n < 64 then sendPing p s else s
  else s

/-! ## Acknowledgements (R416, R417) -/

/-- LINK_ACK: every frame up to the LSEQ is free, and waiting frames take the places. -/
def ackStep (p : Fin 2) (lseq : Nat) (s : State) : State :=
  let l := s.link.ports[p].unacked
  if portUp s p ∧ l.any (fun f => f.lseq == lseq) then
    let rest := (l.dropWhile (fun f => f.lseq != lseq)).drop 1
    sendWaiting p (s.updPort p (fun x => { x with unacked := rest, ackAt := s.tick, timeouts := 0 }))
  else s

/-- LINK_RETRY_TIMEOUT: every unacknowledged frame is sent again; the eighth timeout without progress retrains. -/
def retryStep (p : Fin 2) (s : State) : State :=
  let x := s.link.ports[p]
  if portUp s p = false ∨ x.unacked = [] ∨ s.tick < x.ackAt + s.cfg LINK.base LINK.RETRY_CFG_TMO then s
  else if x.timeouts + 1 < 8 then resendAll p (s.updPort p (fun x => { x with timeouts := x.timeouts + 1 }))
  else
    let s := s.updPort p (fun x => { x with timeouts := 0 })
    startTraining p false ((s.bump LINK.base LINK.RETRY_RETRAINS).raise 239)

/-- LANE_FAIL (R417): the port retrains on the other lane. -/
def laneFailStep (p : Fin 2) (s : State) : State := if portUp s p then startTraining p true s else s

/-! ## HEART (R412, R415, R426 to R428) -/

/-- The ROLE byte of a HEART. -/
def roleByte (s : State) (take : Bool) : Nat :=
  s.rd LINK.base LINK.STAT_ROLE * 64 + b2n take * 32 + b2n s.dev.epochOpen * 16 + s.shown.code

/-- The HEART frame of this device. -/
def heartFrame (s : State) (take : Bool) : LinkFrame :=
  let rst := match s.link.rst with | some d => 128 + d % 8 | none => 0
  { frameTo s 6 1 0 1 0 0 0 0
      [roleByte s take * 2 ^ 16 + rst * 2 ^ 24, s.dev.epoch % 2 ^ 16 + s.link.hearts % 2 ^ 16 * 2 ^ 16] with bcast := true }

/-- A frame that is not sequenced goes out on every port that is UP. -/
def putBoth (x : LinkTx) (s : State) : State :=
  foldS [(0 : Fin 2), 1] (fun p s => if portUp s p then putOut p x s else s) s

/-- A HEART is sent on both ports; a reset command is carried once (R412, R428). -/
def sendHeart (take : Bool) (s : State) : State :=
  let s := putBoth (.frame (heartFrame s take)) s
  s.updLink (fun l => { l with hearts := (l.hearts + 1) % 65536, rst := none })

/-- A microsecond has passed since the last HEART, or none has been sent since the reset. -/
def heartDue (s : State) : Bool := match s.link.heartAt with | some t => decide (t + 400 ≤ s.tick) | none => true

/-- HEART_SEND: every 1 µs. -/
def heartSendStep (s : State) : State :=
  if s.held = true ∨ heartDue s = false then s
  else
    let take := decide (0 < s.link.takeLeft)
    (sendHeart take s).updLink (fun l => { l with heartAt := some s.tick, takeLeft := l.takeLeft - 1 })

/-- HEART_MISS (R427): a window without a HEART of the master; at HB_MISS the configured standby takes over. -/
def heartMissStep (s : State) : State :=
  if s.held = true ∨ s.on LINK.base LINK.CFG_TAKE_EN = false ∨ s.rd LINK.base LINK.STAT_ROLE ≠ 2 ∨
      s.tick < s.link.window + 400 then s
  else
    let n := s.link.missed + 1
    let s := s.updLink (fun l => { l with missed := n, window := s.tick })
    if n < s.cfg LINK.base LINK.CFG_HB_MISS then s
    else
      let s := (s.wr LINK.base LINK.STAT_ROLE 1).wrBoth LINK.base LINK.CFG_TX_ANGLE 1
      let s := s.updLink (fun l => { l with missed := 0, takeLeft := 8 })
      (sendHeart true (s.bump LINK.base LINK.TAKES_COUNT)).raise 236

/-- What a HEART of a master does (R426, R427): the first one heard makes this device STANDBY. -/
def hearMaster (src : Nat) (s : State) : State :=
  let s := s.wr LINK.base LINK.STAT_MASTER_ID src
  let s := if s.link.masterHeard then s
    else (s.wr LINK.base LINK.STAT_ROLE 2).wrBoth LINK.base LINK.CFG_TAKE_EN 0
  s.updLink (fun l => { l with masterHeard := true, missed := 0, window := s.tick })

/-- A HEART goes on out of the other port with the latency of its hops (R409, R412). -/
def forwardHeart (p : Fin 2) (f : HeartFrame) (s : State) : State :=
  let q := otherPort p
  let path := (f.path.toNat + portLat s p + forwardTicks) % 2 ^ 16
  let role := f.role.toNat * 64 + b2n f.take * 32 + b2n f.isOpen * 16 + f.state.toNat
  let g : LinkFrame := { frameTo s 6 1 0 1 0 0 0 0
    [path + role * 2 ^ 16 + (b2n f.rst * 128 + f.rstId.toNat) * 2 ^ 24, f.epoch.toNat + f.count.toNat * 2 ^ 16] with
    src := f.src.toNat, bcast := true }
  if portUp s q then putOut q (.frame g) s else s

/-- HEART_RECEIVE (R412, R426 to R428). -/
def heartReceiveStep (p : Fin 2) (f : HeartFrame) (s : State) : State :=
  let src := f.src.toNat
  if s.held = true ∨ portUp s p = false ∨ f.crcOk = false ∨ src = s.linkId then s
  else
    let dev : HeardDev := ⟨f.path.toNat + portLat s p, p.val, s.tick⟩
    let s := s.updLink (fun l => { l with heard := tset l.heard src dev ⟨0, 0, 0⟩ })
    let s := forwardHeart p f s
    let s := if f.role = 1 then hearMaster src s else s
    let alt := s.cfg LINK.base LINK.CFG_SRC_ALT
    let s := if f.take ∧ following s ∧ src = alt ∧ s.rd LINK.base LINK.STAT_ACTIVE_SRC ≠ src then
      s.updLink (fun l => { l with takeWait := true }) else s
    if f.rst ∧ f.rstId.toNat = s.linkId then
      let out := s.link.sent
      (linkReset s).updLink (fun l => { l with sent := out })
    else s

/-! ## ANGLE beats (R413, R414, R423) -/

/-- The 48 data bits of an ANGLE beat above its CRC8. -/
def angleBits (src : Nat) (isOpen astern : Bool) (angle exp mant epoch : Nat) : Nat :=
  src * 2 ^ 45 + b2n isOpen * 2 ^ 44 + b2n astern * 2 ^ 43 + angle % 2 ^ 26 * 2 ^ 17 + exp * 2 ^ 13 + mant * 2 ^ 4 + epoch % 16

/-- A beat of a later device on the same port: a beat due with it at one beat boundary goes out before it (R433). -/
def laterBeat (p : Fin 2) (w : Nat) (e : Nat × LinkTx) : Bool :=
  match e.2 with
  | .angle v => e.1 == p.val && decide (w / 2 ^ 45 < v / 2 ^ 45)
  | _ => false

/-- An ANGLE beat goes out of a port that is UP, the lower SRC first (R433; log entry 183). -/
def putAngle (p : Fin 2) (w : Nat) (s : State) : State :=
  if portUp s p then
    s.updLink (fun l => { l with
      sent := l.sent.takeWhile (fun e => !laterBeat p w e) ++ (p.val, .angle w) :: l.sent.dropWhile (fun e => !laterBeat p w e) })
  else s

/-- ANGLE_SEND: once for every PT that is a multiple of 40. -/
def angleSendStep (s : State) : State :=
  let n := s.pt / 40 + 1
  if s.ptStands = true ∨ s.dev.st = .park ∨ s.on LINK.base LINK.CFG_TX_ANGLE = false ∨ s.link.beatAngle = n then s
  else
    let x := ctl s
    let c := incCode (x.stalled || s.dev.st == .stalled) x.atHorizon x.inc
    let w := angleBits s.linkId s.dev.epochOpen x.astern (presented x) c.1 c.2 s.dev.epoch
    let s := putAngle 1 w (putAngle 0 w s)
    s.updLink (fun l => { l with beatAngle := n })

/-- ANGLE_RECEIVE: a beat with a bad CRC8 or a reserved code is discarded; a good one goes on out of the other port. -/
def angleReceiveStep (p : Fin 2) (b : AngleBeat) (s : State) : State :=
  match beatInc b.exp.toNat b.mant.toNat with
  | none => s
  | some (inc, stalled) =>
    if s.held = true ∨ portUp s p = false ∨ b.crcOk = false ∨ b.src.toNat = s.linkId then s
    else
      let w := angleBits b.src.toNat b.isOpen b.astern b.angle.toNat b.exp.toNat b.mant.toNat b.epoch.toNat
      let s := putAngle (otherPort p) w s
      followBeat b inc stalled (notePeer b inc s)

/-! ## Events going out (R377, R421) -/

/-- The EVT frame of a source pending at the link goes to the device LINK_CFG names; without a trained path, this device's
own ID among them, none is sent, and the source stays pending until software completes it (R379). -/
def sendEvtFrame (src : Nat) (s : State) : State :=
  let dst := s.rd CATCH.base CATCH.LINK_CFG_DEST
  let n := s.rd (CSTAT.base src) CSTAT.STAT_COUNT
  match pathPort s dst with
  | some p =>
    let s := s.updLink (fun l => { l with evts := tset l.evts src 1 0 })
    sendFrame p (frameTo s 4 1 dst 1 src 0 0 0 [src + n % 256 * 256]) s
  | none => s.updLink (fun l => { l with evts := tset l.evts src 3 0 })

/-- EVT_RESEND: every 10 µs the events that were answered FULL are sent again. -/
def evtResendStep (s : State) : State :=
  if s.held = true ∨ s.tick < s.link.evtAt + 4000 then s
  else
    let l := s.link.evts.filter (fun e => e.2 == 2)
    foldS l (fun e s => sendEvtFrame e.1 s) (s.updLink (fun l => { l with evtAt := s.tick }))

/-! ## A peer access ends (R418, R419, R439) -/

/-- An ORDER SUBMIT ends at whoever wrote SUB3 (R420). -/
def submitEnds (j : Fin 8) (r : PeerReq) (st : Nat) (s : State) : State :=
  let s := { s with respErr := decide (st ≠ 0) }
  if j = 0 then hostAnswer true st 0 s
  else if j = 1 then (if s.host.gen = 1 then gen1Answer true st 0 s else hostAnswer false st 0 s)
  else if j = 2 then s
  else if j = 7 then chanAnswer (Fin.ofNat 32 (r.init - 0x20)) true st 0 s
  else
    let c : Fin 4 := Fin.ofNat 4 (j.val - 3)
    farAnswer c false r.addr st 0 (farAnswer c true r.addr st 0 s)

/-- A far access whose task has been abandoned ends in an error: its core faults (R367, R368). -/
def goneFails (r : PeerReq) (s : State) : State :=
  match initOfCode r.init with
  | .core c => farFault c true s
  | _ => s

/-- An access that has waited for its cycle ends: it is its initiator's. -/
def waitEnds (who : PeerWho) (n : Nat) (write : Bool) (st v : Nat) (s : State) : State :=
  match who with
  | .plain _ => if write then { s with respData := [], respErr := decide (st ≠ 0) } else answer st v n s
  | .host hpq => hostAnswer hpq st v s
  | .gen1 => gen1Answer write st v s
  | .boot => bootAnswer st s
  | .flash => flAnswer st v s
  | _ => s

/-- An outstanding peer access ends with a status and a value: it is its initiator's. -/
def completePeer (r : PeerReq) (st v : Nat) (s : State) : State :=
  let s := s.updLink (fun l => { l with reqs := l.reqs.erase r })
  let s := if st = 3 then busError (initOfCode r.init) r.addr r.write s else s
  match r.who with
  | .plain _ => if r.write then { s with respData := [], respErr := decide (st ≠ 0) } else answer st v (if r.half then 2 else 4) s
  | .core c task => farAnswer c task r.addr st v s
  | .flume c => chanAnswer c r.write st v s
  | .host hpq => hostAnswer hpq st v s
  | .gen1 => gen1Answer r.write st v s
  | .boot => bootAnswer st s
  | .flash => flAnswer st v s
  | .order j => submitEnds j r st s
  | .gone => if st = 0 then s else goneFails r s

/-- PEER_ACCESS_TIMEOUT (R419): the oldest access without a response within MEM_TMO ends in a bus error. -/
def peerTimeoutStep (s : State) : State :=
  match s.link.reqs.find? (fun r => decide (r.at_ + 400 * s.cfg LINK.base LINK.TOL_MEM_TMO ≤ s.tick)) with
  | some r => completePeer r 3 0 s
  | none => s

/-! ## Commands -/

/-- LINK_TRAIN_DONE. -/
def execLinkTrainDone (p : Fin 2) (twoLanes : Bool) (nid : BitVec 3) (nMaster : Bool) (s : State) :
    Host.Outcome State Fault Refusal := .next (trainDoneStep p twoLanes nid.toNat nMaster s)
/-- LINK_TRAIN_TIMEOUT. -/
def execLinkTrainTimeout (p : Fin 2) (s : State) : Host.Outcome State Fault Refusal := .next (trainTimeoutStep p s)
/-- TRAINING_RETRY. -/
def execTrainingRetry (p : Fin 2) (s : State) : Host.Outcome State Fault Refusal := .next (trainRetryStep p s)
/-- PING. -/
def execPing (p : Fin 2) (arrived : Nat) (s : State) : Host.Outcome State Fault Refusal := .next (pingStep p arrived s)
/-- PONG. -/
def execPong (p : Fin 2) (trip : Nat) (s : State) : Host.Outcome State Fault Refusal := .next (pongStep p trip s)
/-- LINK_ACK. -/
def execLinkAck (p : Fin 2) (lseq : Byte) (s : State) : Host.Outcome State Fault Refusal := .next (ackStep p lseq.toNat s)
/-- LINK_RETRY_TIMEOUT. -/
def execLinkRetryTimeout (p : Fin 2) (s : State) : Host.Outcome State Fault Refusal := .next (retryStep p s)
/-- LANE_FAIL. -/
def execLaneFail (p : Fin 2) (s : State) : Host.Outcome State Fault Refusal := .next (laneFailStep p s)
/-- HEART_SEND. -/
def execHeartSend (s : State) : Host.Outcome State Fault Refusal := .next (heartSendStep s)
/-- HEART_RECEIVE. -/
def execHeartReceive (p : Fin 2) (f : HeartFrame) (s : State) : Host.Outcome State Fault Refusal := .next (heartReceiveStep p f s)
/-- HEART_MISS. -/
def execHeartMiss (s : State) : Host.Outcome State Fault Refusal := .next (heartMissStep s)
/-- ANGLE_SEND. -/
def execAngleSend (s : State) : Host.Outcome State Fault Refusal := .next (angleSendStep s)
/-- ANGLE_RECEIVE. -/
def execAngleReceive (p : Fin 2) (beat : AngleBeat) (s : State) : Host.Outcome State Fault Refusal :=
  .next (angleReceiveStep p beat s)
/-- EVT_RESEND. -/
def execEvtResend (s : State) : Host.Outcome State Fault Refusal := .next (evtResendStep s)
/-- PEER_ACCESS_TIMEOUT. -/
def execPeerAccessTimeout (s : State) : Host.Outcome State Fault Refusal := .next (peerTimeoutStep s)

end Sys2Proof.Machine
end

