-- ==== Sys2Proof/Machine/LinkRx.lean ====
section
/-! DEFINITION. Data frames arriving over the link (R409, R415, R416): peer accesses served and answered (R418), orders
(R420), events and messages (R421). -/

namespace Sys2Proof.Machine

/-! ## The hop (R409, R416) -/

/-- What the receiver of a hop looks at: the sequence number, the addresses, and whether the CRC is good. -/
structure Arrival where
  lseq : Nat
  dst : Nat
  bcast : Bool
  crcOk : Bool
  deriving DecidableEq, Repr

/-- The frame is for this device. -/
def forMe (s : State) (h : Arrival) : Bool := h.bcast || h.dst == s.linkId

/-- The frame goes on: it is for another device, or broadcast, and the other port is not DOWN. -/
def goesOn (s : State) (p : Fin 2) (h : Arrival) : Bool := (h.bcast || h.dst != s.linkId) && portState s (otherPort p) != 0

/-- The beats of a frame: its K symbol and head, then the body and the CRC-32 (R415). -/
def frameBeats (f : LinkFrame) : Nat := 1 + (4 * f.body.length + 4 + 7) / 8

/-- A port sends a frame on at once: it is UP, and fewer than 32 frames wait there for an acknowledgement (R416). -/
def sendsNow (s : State) (p : Fin 2) : Bool :=
  portUp s p && decide (s.link.ports[p].unacked.length < 32) && decide (s.link.ports[p].waiting = [])

/-- The copy of a frame had begun to go out at a port, F = 100 ns after its first symbol came in, before its CRC was known at
its end: 16 ns a beat on two lanes, 32 ns on one (R408, R409). -/
def copyBegun (s : State) (p : Fin 2) (f : LinkFrame) : Bool :=
  sendsNow s (otherPort p) && decide (100 < frameBeats f * (if portState s p = 3 then 32 else 16))

/-- A frame of the expected LSEQ with a good CRC is acknowledged, forwarded and delivered; any other is discarded, with an
ACK of the LSEQ before the expected one, and its copy is aborted where it was under way. A parked device leaves its frames in the
receive buffer until it has woken (R474). -/
def receive (p : Fin 2) (h : Arrival) (f : LinkFrame) (deliver : State → State) (s : State) : State :=
  let want := s.link.ports[p].rxSeq
  if s.held = true ∨ portUp s p = false ∨ (s.dev.st = .park ∧ forMe s h = true) then s
  else if h.crcOk ∧ h.lseq = want then
    let s := putOut p (.ack want) (s.updPort p (fun x => { x with rxSeq := (want + 1) % 256 }))
    let s := if goesOn s p h then sendFrame (otherPort p) f s else s
    if forMe s h then deliver s else s
  else
    let s := putOut p (.ack ((want + 255) % 256)) s
    if h.crcOk = false ∧ goesOn s p h = true ∧ copyBegun s p f = true then putOut (otherPort p) .abort s else s

/-! ## Peer accesses served here (R364, R415, R418) -/

/-- The bytes a nibble of byte enables takes of a word: offset and count; none where they do not lie together. -/
def laneRun (be : Nat) : Option (Nat × Nat) :=
  match be with
  | 0 => some (0, 0)
  | 1 => some (0, 1) | 2 => some (1, 1) | 4 => some (2, 1) | 8 => some (3, 1)
  | 3 => some (0, 2) | 6 => some (1, 2) | 12 => some (2, 2)
  | 7 => some (0, 3) | 14 => some (1, 3)
  | 15 => some (0, 4)
  | _ => none

/-- The byte enables of word i of n. -/
def wordEnables (be n i : Nat) : Nat := if i = 0 then be / 16 % 16 else if i + 1 = n then be % 16 else 15

/-- The path of a peer's initiator (R418). -/
def peerPath (f : MemFrame) : BusPath := .peer f.src.toNat f.init.toNat

/-- The address a MEM frame names in this device's map. -/
def memAddr (f : MemFrame) : Nat := f.addr.toNat % 0x1000000 / 4 * 4

/-- The bytes of word i of a MEM frame are read or written (R415): status and value; byte enables that do not lie together are
no access a register or a memory takes. -/
def frameWord (write : Bool) (f : MemFrame) (i : Nat) (s : State) : (Nat × Nat) × State :=
  match laneRun (wordEnables f.be.toNat (f.len.toNat + 1) i) with
  | none => ((5, 0), s)
  | some (o, m) =>
    if m = 0 then ((0, 0), s)
    else if write then
      let x := busWrite (peerPath f) (memAddr f + 4 * i + o) m ((f.data.getD i 0).toNat / 2 ^ (8 * o) % 2 ^ (8 * m)) s
      ((x.1, 0), x.2)
    else
      let x := busRead (peerPath f) (memAddr f + 4 * i + o) m s
      ((x.1.1, x.1.2 * 2 ^ (8 * o)), x.2)

/-- A MEM frame is answered: WRACK, or RDRESP with its words, 0 from a failing one on. -/
def frameEnds (p : Fin 2) (write : Bool) (f : MemFrame) (st : Nat) (got : List Nat) (s : State) : State :=
  let n := f.len.toNat + 1
  if write then sendFrame p (frameTo s 2 4 f.src.toNat 1 f.tag.toNat f.init.toNat st 0 []) s
  else sendFrame p (frameTo s 2 3 f.src.toNat n f.tag.toNat f.init.toNat st 0 (got ++ List.replicate (n - got.length) 0)) s

/-- A MEM frame goes on word by word, each in a cycle of its own, until it ends or waits before what else waits (R139, R444). -/
def frameRun (p : Fin 2) (write : Bool) (f : MemFrame) : Nat → List Nat → State → State
  | 0, _, s => s
  | k + 1, got, s =>
    let port := portOf (memAddr f + 4 * got.length)
    if f.len.toNat + 1 ≤ got.length then frameEnds p write f 0 got s
    else if busAllows s 0x12 port then
      let x := frameWord write f got.length (takeTurn 0x12 port s)
      if x.1.1 = 0 then frameRun p write f k (got ++ [x.1.2]) x.2 else frameEnds p write f x.1.1 (got ++ [x.1.2]) x.2
    else { s with memc := { s.memc with waits := .frame p write f got :: s.memc.waits } }

/-- A MEM frame is served in cycles that are open to the link, behind what waits of the link at its port and of its own source
anywhere, else it waits (R139, R418, R444). -/
def frameServe (p : Fin 2) (write : Bool) (f : MemFrame) (s : State) : State :=
  if portOpen s .link (portOf (memAddr f)) = true ∧ s.memc.waits.any (sameSource f) = false then
    frameRun p write f (f.len.toNat + 2) [] s
  else addWait (.frame p write f []) s

/-! ## Cycles for what waits (R139, R444, R445) -/

/-- An access that waits has got its cycle: it is served, and ends or goes on. -/
def waitBeat (r : WaitReq) (s : State) : State :=
  match r with
  | .frame p write f got =>
    let x := frameWord write f got.length s
    let got := got ++ [x.1.2]
    if x.1.1 = 0 then frameRun p write f (f.len.toNat + 2) got x.2 else frameEnds p write f x.1.1 got x.2
  | .access who init a n write v =>
    let x := accessDo who (.plain init) a n write v s
    match x.1 with
    | .done st w => waitEnds who n write st w x.2
    | .waits => x.2

/-- An access leaves those that wait and is served. -/
def takeWait (r : WaitReq) (s : State) : State :=
  waitBeat r { s with memc := { s.memc with waits := s.memc.waits.erase r } }

/-- Core c has won the present cycle of a port for an access that CORE_FAR_DONE will end. -/
def grantCycle (code port : Nat) (s : State) : State :=
  beatAt port code s.pt { s with memc := { s.memc with grants := s.memc.grants ++ [(port, s.pt, code)] } }

/-- Who still asks for a port's cycle at the end of a tick: what waits, and the cores. The other initiators have sent the
commands of their beats. -/
def asksAtEnd (s : State) (port code : Nat) : Bool :=
  (s.ptStands || !planSlotted s code port) &&
    ((readyWait s code port).isSome ||
      (decide (1 ≤ code) && decide (code ≤ 4) && decide (port < 10) && !s.ptStands && corePresents s (Fin.ofNat 4 (code - 1)) port))

/-- The winner of an open cycle takes it: an access of its that waits, else its far access. -/
def serveWinner (code port : Nat) (s : State) : State :=
  match readyWait s code port with
  | some r => takeWait r s
  | none => grantCycle code port s

/-- The cycle of a port that no command of the tick has taken goes to what waits (R139, R445): to the initiator it names, else by
the rotations, else to one without a cluster. -/
def openEnd (port : Nat) (s : State) : State :=
  if clusterCodes.any (asksAtEnd s port) then
    let x := openWinner s port (asksAtEnd s port)
    let s := setRot port x.2 s
    match x.1 with
    | some code => serveWinner code port s
    | none => s
  else match (readyWait s 0x14 port).or (readyWait s 0x15 port) with
    | some r => takeWait r s
    | none => s

/-- The end of a tick at a port. -/
def portEnd (port : Nat) (s : State) : State :=
  let own := if s.ptStands then none else readyWait s (namedAt s port s.pt) port
  if beatTaken s port s.pt then s
  else match own with
    | some r => takeWait r s
    | none => if cycleOpen s port s.pt then openEnd port s else s

/-- What waits for an address at which no region answers goes on at once. -/
def nowhereEnd (s : State) : State :=
  foldS (s.memc.waits.filter (fun r => decide (11 ≤ portOf (targetOf s r.at_)))) takeWait s

/-- The ends of a tick at all ports: the accesses and cores that still ask are served, behind every other command of the tick
(R195, R213, R348). -/
def portsEnd (s : State) : State := if busStopped s then s else foldS (List.range 11) portEnd (nowhereEnd s)

/-! ## Answers to this device's accesses -/

/-- The outstanding access a response answers. -/
def reqFor (s : State) (src tag : Nat) (write : Bool) : Option PeerReq :=
  s.link.reqs.find? (fun r => r.tag == tag && r.dst == src && r.write == write)

/-- The value of a response: its words from the byte the access began at. -/
def respValue (r : PeerReq) (l : List Word) : Nat :=
  let v := (l.foldr (fun w acc => w.toNat + 2 ^ 32 * acc) 0) / 2 ^ (8 * (r.addr % 4))
  if r.half then v % 65536 else v

/-- A response ends its access; one that answers nothing is dropped. -/
def takeResponse (f : MemFrame) (write : Bool) (s : State) : State :=
  match reqFor s f.src.toNat f.tag.toNat write with
  | some r => completePeer r f.status.toNat (if write then 0 else respValue r f.data) s
  | none => s

/-! ## Orders (R212, R420) -/

/-- An ORDER SUBMIT is judged as a submission of the link buffer and answered with its result. While the
plan-engine island is held (R467) nothing judges it: the frame is acknowledged alone (DESIGN CHOICE, log entry 184). -/
def serveOrder (p : Fin 2) (f : OrderFrame) (s : State) : State :=
  if s.islandHeld 2 then s else
  let s := updStaging 2 (fun b => { b with
    sub0 := f.sub0, sub1 := f.sub1, sub2 := f.sub2, sub3 := f.sub3, failed := f.failed }) s
  let s := submit 2 s
  let b := s.hdg.staging[(2 : Fin 8)]
  sendFrame p (frameTo s 3 2 f.src.toNat 1 f.tag.toNat f.init.toNat 0 0 [b.res.toNat, b.seq.toNat]) s

/-- An ORDER REPLY completes the writer's SUB3. -/
def takeReply (f : ReplyFrame) (s : State) : State :=
  match reqFor s f.src.toNat f.tag.toNat true with
  | some r =>
    match r.who with
    | .order j => completePeer r 0 0 (remoteResult j f.src.toNat f.res f.seq s)
    | _ => s
  | none => s

/-! ## Events and messages (R421) -/

/-- An EVT enters the event FIFO and is acknowledged, or answered FULL. -/
def takeEvt (p : Fin 2) (f : EventFrame) (s : State) : State :=
  let full := decide (8 ≤ s.link.evtFifo.length)
  let s := if full then s
    else (s.updLink (fun l => { l with evtFifo := l.evtFifo ++ [(f.source.toNat, f.count.toNat, f.src.toNat)] })).raise 237
  sendFrame p (frameTo s 4 3 f.src.toNat 1 f.tag.toNat 0 0 0 [b2n full]) s

/-- A MSG enters the message FIFO with PT less PATH, or is discarded and counted. -/
def takeMsg (f : EventFrame) (s : State) : State :=
  if 16 ≤ s.link.msgFifo.length then (s.bump LINK.base LINK.FIFO_DROPS).raise 239
  else
    let t := (s.ptLo + 2 ^ 32 - pathOf s f.src.toNat % 2 ^ 32) % 2 ^ 32
    (s.updLink (fun l => { l with msgFifo := l.msgFifo ++ [(f.payload.toNat, f.stamp.toNat, t)] })).raise 238

/-- An EVTACK completes the source its tag names at the link target; with FULL the source stays pending. One for an EVT
whose source software has completed meanwhile is a stray completion (R384). -/
def takeEvtAck (f : EventFrame) (s : State) : State :=
  let n := f.tag.toNat
  let q := tget s.link.evts n 0
  if q ≠ 1 ∧ q ≠ 4 then s
  else if f.full then s.updLink (fun l => { l with evts := tset l.evts n (if q = 1 then 2 else 0) 0 })
  else completeStep 6 n (s.updLink (fun l => { l with evts := tset l.evts n 0 0 }))

/-! ## Frames as they arrive -/

/-- The hop's view of a MEM frame. -/
def memArrival (f : MemFrame) : Arrival := ⟨f.lseq.toNat, f.dst.toNat, false, f.crcOk⟩

/-- A MEM frame as it goes on. -/
def memOnward (f : MemFrame) (op : Nat) : LinkFrame :=
  { typ := 2, op := op, src := f.src.toNat, dst := f.dst.toNat, bcast := false, lseq := 0, len := f.len.toNat,
    tag := f.tag.toNat, init := f.init.toNat, status := f.status.toNat, be := f.be.toNat,
    body := (if op ≤ 2 then [f.addr.toNat] else []) ++ (if op = 2 ∨ op = 3 then f.data.map (fun w => w.toNat) else []) }

/-- MEM_RD. -/
def memRdStep (p : Fin 2) (f : MemFrame) (s : State) : State := receive p (memArrival f) (memOnward f 1) (frameServe p false f) s
/-- MEM_WR. -/
def memWrStep (p : Fin 2) (f : MemFrame) (s : State) : State := receive p (memArrival f) (memOnward f 2) (frameServe p true f) s
/-- MEM_RDRESP. -/
def memRdrespStep (p : Fin 2) (f : MemFrame) (s : State) : State := receive p (memArrival f) (memOnward f 3) (takeResponse f false) s
/-- MEM_WRACK. -/
def memWrackStep (p : Fin 2) (f : MemFrame) (s : State) : State := receive p (memArrival f) (memOnward f 4) (takeResponse f true) s

/-- ORDER_SUBMIT. -/
def orderSubmitStep (p : Fin 2) (f : OrderFrame) (s : State) : State :=
  let g : LinkFrame := { typ := 3, op := 1, src := f.src.toNat, dst := f.dst.toNat, bcast := false, lseq := 0, len := 0,
                         tag := f.tag.toNat, init := f.init.toNat, status := b2n f.failed, be := 0,
                         body := [f.sub0.toNat, f.sub1.toNat, f.sub2.toNat, f.sub3.toNat] }
  receive p ⟨f.lseq.toNat, f.dst.toNat, false, f.crcOk⟩ g (serveOrder p f) s

/-- ORDER_REPLY. -/
def orderReplyStep (p : Fin 2) (f : ReplyFrame) (s : State) : State :=
  let g : LinkFrame := { typ := 3, op := 2, src := f.src.toNat, dst := f.dst.toNat, bcast := false, lseq := 0, len := 0,
                         tag := f.tag.toNat, init := f.init.toNat, status := 0, be := 0,
                         body := [f.res.toNat, f.seq.toNat] }
  receive p ⟨f.lseq.toNat, f.dst.toNat, false, f.crcOk⟩ g (takeReply f) s

/-- The hop's view of an EVENT frame. -/
def evtArrival (f : EventFrame) : Arrival := ⟨f.lseq.toNat, f.dst.toNat, f.bcast, f.crcOk⟩

/-- An EVENT frame as it goes on. -/
def evtOnward (f : EventFrame) (op len : Nat) (body : List Nat) : LinkFrame :=
  { typ := 4, op := op, src := f.src.toNat, dst := f.dst.toNat, bcast := f.bcast, lseq := 0, len := len, tag := f.tag.toNat,
    init := 0, status := 0, be := 0, body := body }

/-- EVENT_EVT. -/
def eventEvtStep (p : Fin 2) (f : EventFrame) (s : State) : State :=
  receive p (evtArrival f) (evtOnward f 1 0 [f.source.toNat + f.count.toNat * 256]) (takeEvt p f) s
/-- EVENT_MSG. -/
def eventMsgStep (p : Fin 2) (f : EventFrame) (s : State) : State :=
  receive p (evtArrival f) (evtOnward f 2 1 [f.payload.toNat, f.stamp.toNat]) (takeMsg f) s
/-- EVENT_EVTACK. -/
def eventEvtackStep (p : Fin 2) (f : EventFrame) (s : State) : State :=
  receive p (evtArrival f) (evtOnward f 3 0 [b2n f.full]) (takeEvtAck f) s

/-- FRAME_ABORT (R409, R416): the frame is discarded, the LSEQ before the expected one acknowledged, and this device's own copy
of it ended with K30.7. DESIGN CHOICE (log entry 202): the command does not say for whom the frame was; whether a copy was under
way, at a port that sends at once, is free. -/
def frameAbortStep (p : Fin 2) (s : State) : State :=
  if s.held = true ∨ portUp s p = false then s
  else
    let d := s.drawFree
    let t := putOut p (.ack ((s.link.ports[p].rxSeq + 255) % 256)) d.2
    if sendsNow s (otherPort p) = true ∧ Config.abortCopy d.1 = true then putOut (otherPort p) .abort t else t

/-! ## Commands -/

/-- MEM_RD. -/
def execMemRd (p : Fin 2) (f : MemFrame) (s : State) : Host.Outcome State Fault Refusal := .next (memRdStep p f s)
/-- MEM_WR: a frame carries LEN + 1 words. -/
def execMemWr (p : Fin 2) (f : MemFrame) (s : State) : Host.Outcome State Fault Refusal :=
  if f.data.length ≠ f.len.toNat + 1 then .fault .illFormed else .next (memWrStep p f s)
/-- MEM_RDRESP: a frame carries LEN + 1 words. -/
def execMemRdresp (p : Fin 2) (f : MemFrame) (s : State) : Host.Outcome State Fault Refusal :=
  if f.data.length ≠ f.len.toNat + 1 then .fault .illFormed else .next (memRdrespStep p f s)
/-- MEM_WRACK. -/
def execMemWrack (p : Fin 2) (f : MemFrame) (s : State) : Host.Outcome State Fault Refusal := .next (memWrackStep p f s)
/-- ORDER_SUBMIT. -/
def execOrderSubmit (p : Fin 2) (f : OrderFrame) (s : State) : Host.Outcome State Fault Refusal := .next (orderSubmitStep p f s)
/-- ORDER_REPLY. -/
def execOrderReply (p : Fin 2) (f : ReplyFrame) (s : State) : Host.Outcome State Fault Refusal := .next (orderReplyStep p f s)
/-- EVENT_EVT. -/
def execEventEvt (p : Fin 2) (f : EventFrame) (s : State) : Host.Outcome State Fault Refusal := .next (eventEvtStep p f s)
/-- EVENT_MSG. -/
def execEventMsg (p : Fin 2) (f : EventFrame) (s : State) : Host.Outcome State Fault Refusal := .next (eventMsgStep p f s)
/-- EVENT_EVTACK. -/
def execEventEvtack (p : Fin 2) (f : EventFrame) (s : State) : Host.Outcome State Fault Refusal := .next (eventEvtackStep p f s)
/-- FRAME_ABORT. -/
def execFrameAbort (p : Fin 2) (s : State) : Host.Outcome State Fault Refusal := .next (frameAbortStep p s)

end Sys2Proof.Machine
end

