-- ==== Sys2Proof/Machine/Scrub.lean ====
section
/-! DEFINITION. The scrubber (R146, R440 to R443): write-backs, priority rewrites from the plan copy, and its passes. -/

namespace Sys2Proof.Machine

/-- The words a pass covers at a port (R441). -/
def passLength (port : Nat) : Nat := if port = 8 then 49152 else 32768

/-- The address of word i of a pass: at port 8 action table, parameter slots, journal, queue, microcode store (R441). -/
def passAddr (port i : Nat) : Nat :=
  if port ≠ 8 then 0x40000 * port + 8 * i
  else if i < 32768 then 0x100000 + 8 * i
  else if i < 34816 then 0x154000 + 8 * (i - 32768)
  else if i < 43008 then 0x140000 + 8 * (i - 34816)
  else if i < 45056 then 0x150000 + 8 * (i - 43008)
  else 0x180000 + 4 * (i - 45056)

/-- The copy can give what stands at an offset of one of its sections: a plan is loaded, the section's CRC has not
failed, and the words are not uncorrectable (R146, R442). -/
def copyGood (s : State) (t o n : Nat) : Bool :=
  match (copyImage s).sect t 0 with
  | some e =>
    let a := s.plan.keptBase + e.off + o
    s.flag PLAN.base PLAN.INFO_VALID && !s.plan.badSects.contains t && decide (o + n ≤ e.size) &&
      !s.wordBad (a / 8) && !s.wordBad ((a + n - 1) / 8)
  | none => false

/-- Action entry i can be rewritten from the copy. -/
def entryGood (s : State) (i : Nat) : Bool := copyGood s 2 (8 + 16 * i) 8 && copyGood s 2 (16 + 16 * i) 8

/-- A priority rewrite (R442): both words of an action entry from the plan copy, but for one an initiator has written
since the read (R441). -/
def rewriteEntry (e : Nat × Nat) (s : State) : State :=
  let g := copyImage s
  let s := if bit e.2 0 then storeClean (0x20000 + 2 * e.1) (g.act0 e.1) s else s
  let s := if bit e.2 1 then storeClean (0x20001 + 2 * e.1) (g.act1 e.1) s else s
  { s with memc := { s.memc with prio := s.memc.prio.erase e } }

/-- A write-back (R440, R441): the corrected word, or a microcode word from the plan copy. -/
def writeBack (e : Nat × Nat) (s : State) : State :=
  let a := e.2
  let s := { s with memc := { s.memc with wb := s.memc.wb.erase e } }
  if a < 0x180000 then
    match eccDecode (s.pattern (a / 8)) with
    | .corrected _ _ => storeClean (a / 8) (s.wordData (a / 8)) s
    | _ => s
  else if secBad s a < 2 then { s with memc := { s.memc with secErr := tset s.memc.secErr a 0 0 } }
  else
    let j := (a - 0x180000) / 4
    if copyGood s 5 (1032 + 4 * j) 4 then writeSec a 4 ((copyImage s).ucode j) s else s

/-- A microcode word of the pass enters the write-back queue. -/
def wbAdd (a : Nat) (s : State) : State := { s with memc := { s.memc with wb := s.memc.wb ++ [(8, a)] } }

/-- The scrubber reads a word of its pass (R441): an uncorrectable action word posts its entry for a rewrite from the copy. -/
def passRead (a : Nat) (s : State) : State :=
  if a < 0x180000 then
    let r := readWord (a / 8) s
    if r.1.2 ∧ 0x100000 ≤ a ∧ a < 0x140000 then postEntry ((a - 0x100000) / 16) r.2 else r.2
  else if secBad s a = 0 then s
  else if secBad s a = 1 then wbAdd a (s.bump SHP.base SHP.STORE_CORR)
  else wbAdd a (noteMicrocode ((a - 0x180000) / 4) s)

/-- The words of the plan copy are read, as any word is (R437, R441). -/
def readCopy (s : State) : State :=
  if s.flag PLAN.base PLAN.INFO_VALID then
    foldS (List.range ((s.rd PLAN.base PLAN.COPY_SIZE_SIZE + 7) / 8)) (fun i s => (readWord (s.plan.keptBase / 8 + i) s).2) s
  else s

/-- The section types of the plan copy whose CRC fails now; where its header or directory fails, 0 and every type (R146,
R178). -/
def copyFailed (s : State) : List Nat :=
  let g := copyImage s
  if s.flag PLAN.base PLAN.INFO_VALID = false then []
  else if copyHeadBad s then List.range 12
  else ((List.range g.dir.length).filter (fun i => sectCrcBad g i)).map (fun i => (g.dir.map (fun e => e.typ)).getD i 0)

/-- The CRCs of the plan copy are recomputed (R146, R178, R441): a failure is a violation, source 53. A section that has
failed once gives nothing more until a plan is loaded. -/
def copyCheck (s : State) : State :=
  match copyFailed s with
  | [] => s
  | t :: l =>
    let s := (s.wr PLAN.base PLAN.SCRUB_FAIL 1).wr PLAN.base PLAN.SCRUB_SECT t
    let s := s.updPlan (fun p => { p with badSects := p.badSects ++ (t :: l).filter (fun x => !p.badSects.contains x) })
    violation 5 53 s

/-- A pass is complete (R441). -/
def passDone (port : Nat) (s : State) : State :=
  if port = 8 then (copyCheck (readCopy s)).bumpWrap PLAN.base PLAN.SCRUB_PASSES else s.bumpWrap MEM.base MEM.SCRUB_STAT_PASSES

/-- The pass of a port goes on by one word. -/
def passStep (port : Nat) (s : State) : State :=
  let i := tget s.memc.pos port 0
  let s := passRead (passAddr port i) s
  let n := if i + 1 < passLength port then i + 1 else 0
  let s := { s with memc := { s.memc with pos := tset s.memc.pos port n 0 } }
  if n = 0 then passDone port s else s

/-- The scrubber may take a cycle of a port: it is on, serves the port, has taken no cycle there in the present 2^RATE
frames, neither a reset nor PARK stops it, and the cycle is free (R441, R473). -/
def scrubOpen (s : State) (port : Nat) : Bool :=
  cycleOpen s port s.pt && !beatTaken s port s.pt && !openPresented s port && (decide (port < 4) || decide (port = 8)) &&
    s.on MEM.base MEM.SCRUB_CFG_EN && !s.memc.took.contains port && !s.held && s.dev.st != .reset &&
    s.dev.st != .park

/-- SCRUB_CYCLE (R441): the scrubber takes a free cycle of a port. Its beats are no open traffic (R444, R450). -/
def scrubStep (port : Nat) (s : State) : State :=
  if scrubOpen s port then
    let s := markBeat port s.pt { s with memc := { s.memc with took := s.memc.took ++ [port] } }
    match s.memc.wb.find? (fun e => e.1 == port) with
    | some e => writeBack e s
    | none => match (if port = 8 then s.memc.prio.find? (fun e => entryGood s e.1) else none) with
      | some e => rewriteEntry e s
      | none => passStep port s
  else s

/-- A frame of PT has ended (R131, R441): at the end of every 2^RATE frames a port at which the scrubber took no cycle
counts a miss. -/
def scrubFrame (s : State) : State :=
  if s.pt / 64 % 2 ^ min 10 (s.cfg MEM.base MEM.SCRUB_CFG_RATE) = 0 then
    let n := ([0, 1, 2, 3, 8].filter (fun p => !s.memc.took.contains p)).length
    let s := if s.on MEM.base MEM.SCRUB_CFG_EN then s.bumpBy MEM.base MEM.SCRUB_STAT_MISSES n else s
    { s with memc := { s.memc with took := [] } }
  else s

/-- SCRUB_CYCLE. -/
def execScrubCycle (port : Fin 9) (s : State) : Host.Outcome State Fault Refusal := .next (scrubStep port.val s)

end Sys2Proof.Machine
end

