-- ==== Sys2Proof/Machine/Tap.lean ====
section
/-! DEFINITION. The balls and the test access port (R475, R510, R511, R514; log entry 146). A ball is known by its place
in R511's order, the balls outside the boundary chain left out: bank b from 14 * b (GHB, SHB, BOOTB, GHH, SHH, BOOTH,
BSTV, GL(4b) to GL(4b + 3), SNSP, SNSN, LS_CLAMP), PWMnA from 224, SWn from 240, PWMnB from 256, TRIPk from 272,
RIOn from 280, HSCK to HMISO from 312, HQCLK to HQIO3 from 316, FCLK to FIO3 from 322, CLKIN to TDO from 328, TIOn from
336, HIRQ from 352, STRAPn from 354, RESET_N 362, WARM_N 363. -/

namespace Sys2Proof.Machine

/-! ## Balls -/

/-- A level the device drives on bank b's ball k: its gates (R220, R512). -/
def bankBallOut (s : State) (b : Fin 16) (k : Nat) : Option Bool :=
  let g := ballGates s b
  if k = 0 then some (bit g 5)
  else if k = 3 then some (bit g 4)
  else if 7 ≤ k ∧ k ≤ 10 then some (bit g (k - 7))
  else none

/-- The level of HIRQt's ball: the request of one tick ago (R379, R382). -/
def hirqLevel (s : State) (t : Fin 2) : Bool :=
  let pol := s.flag CATCH.base (if t = 0 then CATCH.HIRQ_CFG_POL0 else CATCH.HIRQ_CFG_POL1)
  bit s.dev.hirq t.val == pol

/-- A gate or PWM ball, which VDRV feeds (R501). -/
def driveBall (n : Nat) : Bool :=
  if n < 224 then n % 14 == 0 || n % 14 == 3 || (decide (7 ≤ n % 14) && decide (n % 14 ≤ 10))
  else decide (n < 240) || (decide (256 ≤ n) && decide (n < 272))

/-- The supplies of a ball's group are in range: VIO, that of its die, and VDRV where it feeds the ball (R475, R501). -/
def ballPowered (s : State) (n : Nat) : Bool :=
  !s.sys.supplyDown.contains .vio && !s.sys.supplyDown.contains (if n < 280 then .vddD else .vddL) &&
    !(s.sys.vdrvLow && driveBall n)

/-- The level the device drives on a ball; none where the ball is an input, unpowered, or high impedance as every ball is
in a cold or link reset (R475, R514). A host port's balls, and the flash master's at work, follow bits inside
a frame, which no tick shows. -/
def ballOut (s : State) (n : Nat) : Option Bool :=
  if (s.dev.st = .reset ∧ s.sys.warmBusy = false) ∨ ballPowered s n = false then none
  else if n < 224 then bankBallOut s (Fin.ofNat 16 (n / 14)) (n % 14)
  else if n < 240 then some s.pwm[Fin.ofNat 16 (n - 224)].outA
  else if 256 ≤ n ∧ n < 272 then some s.pwm[Fin.ofNat 16 (n - 256)].outB
  else if 280 ≤ n ∧ n < 312 then
    if bit (s.actReg (RUN.base + 0x44)).toNat (n - 280) then some (bit s.rioOut (n - 280)) else none
  else if n = 322 then (if s.held then some false else none)
  else if n = 323 then (if s.flag FL.base FL.CTRL_BUSY then none else some true)
  else if n = 331 then some s.sys.frozen
  else if n = 335 then (if s.held then none else s.tap.tdo)
  else if 336 ≤ n ∧ n < 352 then
    let t : Fin 16 := Fin.ofNat 16 (n - 336)
    if s.on (tm t) TMN.CFG_TIO_OE then some s.tmr[t].tio else none
  else if 352 ≤ n ∧ n < 354 then some (hirqLevel s (Fin.ofNat 2 (n - 352)))
  else none

/-- The level of an input ball that a command has reported: the straps as they are tied (R469), TMS and TDI in the cycle of TCK
that passes. -/
def ballIn (s : State) (n : Nat) : Option Bool :=
  if n < 224 ∧ n % 14 = 13 then some s.banks[Fin.ofNat 16 (n / 14)].clamp
  else if 272 ≤ n ∧ n < 280 then some (bit s.tripPins (n - 272))
  else if 280 ≤ n ∧ n < 312 then some (bit s.rioPins (n - 280))
  else if 336 ≤ n ∧ n < 352 then
    (if tioKnown s (Fin.ofNat 16 (n - 336)) then some (bit s.tioIn (n - 336)) else none)
  else if n = 333 then s.tap.waiting.head?.map (fun e => e.1)
  else if n = 334 then s.tap.waiting.head?.map (fun e => e.2)
  else if 354 ≤ n ∧ n < 362 then some (bit s.sys.strapPins.toNat (n - 354))
  else if n = 362 then some (!s.sys.resetNLow)
  else if n = 363 then some (!s.sys.warmLow)
  else none

/-- A list in the order in which a function picks its elements. -/
def pickAll (pick : Nat → Nat) : Nat → List Nat → List Nat
  | 0, _ => []
  | n + 1, l => l.getD (pick n % l.length) 0 :: pickAll pick n (l.eraseIdx (pick n % l.length))

/-- The balls of the boundary chain in the order of their cells: every ball has one (R510). -/
def cellBalls : List Nat := pickAll Config.tapCell tapBalls (List.range tapBalls)

/-- What a cell captures of its ball, the device's own level rather than EXTEST's; an unreported level is free. -/
def cellLevel (s : State) (n : Nat) : Bool := ((ballOut s n).or (ballIn s n)).getD (Config.ballLevel s.free n)

/-- Balls the device can drive, which EXTEST drives: gates, PWM, RIO, HMISO, HQIO, the flash balls, DBG_FRZ, TIO and
HIRQ. -/
def ballCanDrive (n : Nat) : Bool :=
  driveBall n || (decide (280 ≤ n) && decide (n < 312)) || n == 315 ||
    (decide (318 ≤ n) && decide (n < 328)) || n == 331 || (decide (336 ≤ n) && decide (n < 354))

/-- EXTEST cannot drive a ball: it lacks a supply, or a reset governs it (R475, R514, R515). -/
def ballShut (s : State) (n : Nat) : Bool := s.dev.st == .reset || !ballPowered s n

/-- The level driven on a ball: under EXTEST the update stage of the ball's cell, else the device's own (R510). -/
def ballDrive (s : State) (n : Nat) : Option Bool :=
  if s.tap.ir = .extest ∧ ballCanDrive n = true ∧ ballShut s n = false then
    match cellBalls.findIdx? (fun b => b == n) with
    | some k => some (s.tap.latch.getD k false)
    | none => ballOut s n
  else ballOut s n

/-! ## The controller -/

/-- The next state of the controller for a level of TMS (IEEE 1149.1, R510). -/
def tapNext (st : TapState) (tms : Bool) : TapState :=
  match st with
  | .logicReset => if tms then .logicReset else .idle
  | .idle | .updateDr | .updateIr => if tms then .selectDr else .idle
  | .selectDr => if tms then .selectIr else .captureDr
  | .captureDr | .shiftDr => if tms then .exit1Dr else .shiftDr
  | .exit1Dr => if tms then .updateDr else .pauseDr
  | .pauseDr => if tms then .exit2Dr else .pauseDr
  | .exit2Dr => if tms then .updateDr else .shiftDr
  | .selectIr => if tms then .logicReset else .captureIr
  | .captureIr | .shiftIr => if tms then .exit1Ir else .shiftIr
  | .exit1Ir => if tms then .updateIr else .pauseIr
  | .pauseIr => if tms then .exit2Ir else .pauseIr
  | .exit2Ir => if tms then .updateIr else .shiftIr

/-- A register shifts one place towards TDO. -/
def shiftIn (l : List Bool) (tdi : Bool) : List Bool := l.tail ++ [tdi]

/-- A code as a number, its first bit the lowest. -/
def codeNat (code : List Bool) : Nat := code.foldr (fun b n => b2n b + 2 * n) 0

/-- The instruction a code selects (R510): all ones BYPASS, as IEEE 1149.1 has it; SAMPLE/PRELOAD and EXTEST have a code each;
the other codes are the device's. -/
def tapInstr (code : List Bool) : TapInstr :=
  let n := 2 ^ (Config.tapIrMore + 2) - 1
  let sampleCode := Config.tapSampleCode % n
  if code.all id then .bypass
  else if codeNat code = sampleCode then .sample
  else if codeNat code = (sampleCode + 1 + Config.tapExtestCode % (n - 1)) % n then .extest
  else match (Config.tapIrCode code).val with
    | 1 => .sample
    | 2 => .extest
    | _ => .bypass

/-- What the instruction register captures: 1 nearest TDO, then 0 (IEEE 1149.1). -/
def irCapture : List Bool := true :: false :: (List.range Config.tapIrMore).map Config.tapIrCapture

/-- The rising edge of TCK: the state's capture or shift, then the next state; `levels` is what the chain captures. -/
def tapRise (levels : List Bool) (tms tdi : Bool) (t : Tap) : Tap :=
  let t := match t.st with
    | .captureDr => if t.ir = TapInstr.bypass then { t with byp := false } else { t with chain := levels }
    | .shiftDr => if t.ir = TapInstr.bypass then { t with byp := tdi } else { t with chain := shiftIn t.chain tdi }
    | .captureIr => { t with irShift := irCapture }
    | .shiftIr => { t with irShift := shiftIn t.irShift tdi }
    | _ => t
  { t with st := tapNext t.st tms }

/-- The bit next at TDO of the register that a shift state selects; high impedance in any other state. -/
def tapOut (t : Tap) : Option Bool :=
  match t.st with
  | .shiftDr => some (if t.ir = TapInstr.bypass then t.byp else t.chain.headD false)
  | .shiftIr => some (t.irShift.headD false)
  | _ => none

/-- The falling edge of TCK: what a reset or an update state does, and TDO. A reset selects BYPASS (A1-E04). -/
def tapFall (t : Tap) : Tap :=
  let t := match t.st with
    | .logicReset => { t with ir := .bypass }
    | .updateIr => { t with ir := tapInstr t.irShift }
    | .updateDr => if t.ir = TapInstr.bypass then t else { t with latch := t.chain }
    | _ => t
  { t with tdo := tapOut t }

/-- A TCK cycle. -/
def tapCycle (levels : List Bool) (tms tdi : Bool) (t : Tap) : Tap := tapFall (tapRise levels tms tdi t)

/-- At most one waiting TCK cycle passes in a tick of 2.5 ns; the port reaches nothing but itself (R510). -/
def tapTick (s : State) : State :=
  match s.tap.waiting with
  | [] => s
  | (tms, tdi) :: rest =>
    let levels := cellBalls.map (cellLevel s)
    { s with tap := { tapCycle levels tms tdi s.tap with waiting := rest }, free := s.free + 1 }

end Sys2Proof.Machine
end

