-- ==== Sys2Proof/Machine/Tick.lean ====
section
/-! DEFINITION. ACCUMULATOR_TICK: a tick of PT (R19, R71 to R75, R88) and everything that happens in every tick: committed
shadows that act (R486), soft resets (R485), completions (R378), posted stores (R362), the bus frame (R131). All
commands between two ticks belong to the first of them. -/

namespace Sys2Proof.Machine

/-! ## Angles -/

/-- Both accumulators after a tick: Tracker A in link mode by R423. -/
def accumulate (s : State) : State :=
  let s := if following s then followTick s else s.updTrk 0 (fun _ => tickAcc s 0)
  s.updTrk 1 (fun _ => tickAcc s 1)

/-- A device angle held after a backward handover is released once the controlling tracker has reached it (R91). -/
def releaseHold (before : Nat) (s : State) : State :=
  match s.dev.hold with
  | none => s
  | some h =>
    let a := (ctl s).astern
    if travel a (devLen s) before h ≤ travel a (devLen s) before (presented (ctl s)) then s.updDev (fun d => { d with hold := none })
    else s

/-- The device angle has moved in the direction of travel from a position and an angle: a boundary it passed acts (R33). -/
def deviceMoves (pos old : Nat) (s : State) : State :=
  let d := travel (ctl s).astern (devLen s) old (devAngle s)
  if s.dev.epochOpen = false ∨ d = 0 then s else reachPos (pos + d) s

/-- A tracker's own angle has moved: its own boundary acts (R81, R85), and link-mode entries are crossed (R425). -/
def trackerMoves (t : Fin 2) (old : Nat) (s : State) : State :=
  let x := s.trk[t]
  let new := presented x
  if x.acq ≠ .sync ∨ old = new then s
  else
    let s := ownPassed t old new s
    if t = 0 ∧ following s = true then crossEntries (2 * teeth s 0) old new s else s

/-- A crank edge that reaches the tracker taking over in the tick of the handover steps together with it (R121). -/
def handoverEdge (s : State) : State :=
  if (crankDue s s.dev.control).isSome then crankEdgeStep s.dev.control s else s

/-- The angles of a tick (R71 to R75); a handover decided in the tick before takes effect (R91). -/
def anglesTick (s : State) : State :=
  let pos := nowPos s
  let old := devAngle s
  let a := presented s.trk[(0 : Fin 2)]
  let b := presented s.trk[(1 : Fin 2)]
  let c := presented (ctl s)
  let s := accumulate s
  if s.dev.handing then handoverSweep (handoverEdge (handover pos old (trackerMoves 1 b (trackerMoves 0 a s))))
  else trackerMoves 1 b (trackerMoves 0 a (deviceMoves pos old (releaseHold c s)))

/-! ## Faults the counters and accumulators show (R89) -/

/-- The checks of a tracker that failed in this tick: bit k is IFAULT bit k. -/
def checkBits (t : Fin 2) (v : Nat) (s : State) : State :=
  foldS (List.range 5) (fun k s => if bit v k then setIfault t k s else s) s

/-- The failed checks of both trackers: PT_MISMATCH is set in both pages (R89). -/
def checksTick (a b : Nat) (s : State) : State :=
  let both := (a ||| b) &&& 4
  checkBits 1 (b ||| both) (checkBits 0 (a ||| both) s)

/-! ## Committed shadows (R486) -/

/-- The first clock of the 250 MHz link island after a tick, eight ticks to five clocks, has begun (R431). -/
def linkClockCome (at_ now : Nat) : Bool := decide ((5 * (at_ + 1) + 7) / 8 * 8 < 5 * (now + 1))

/-- A committed shadow acts in this tick. -/
def actsNow (s : State) (c : CommitPend) : Bool :=
  let due := match c.when_ with
    | .tick => if pageOf c.addr = 0x70 then linkClockCome c.at_ s.tick else decide (c.at_ < s.tick)
    | .clock n => decide (s.clockOf n c.at_ < s.clockOf n s.tick)
    | .disarm => !s.armedOrLater && decide (c.at_ < s.tick)
    | .boundary | .trkBoundary _ => !s.dev.epochOpen && decide (c.at_ < s.tick)
    | .frame => decide (c.at_ < s.tick) && decide (s.pt % 64 = 0) && !s.ptStands
    | _ => false
  due && !(decide (0x400000 ≤ c.addr) && s.clockOff (pageOf c.addr))

/-- The committed shadows of this tick act; in PARK no clock runs for them (R381, R473). -/
def commitsTick (s : State) : State :=
  if s.dev.st = .park then s
  else
  let s := foldS (List.finRange 4) (fun k t => actConv k (fun c => actsNow s c && ofConv k c) t) s
  actCommitted (actsNow s) s

/-! ## The rest of a tick -/

/-- The delivery of a source completed at the link is over: an EVT still unanswered is remembered as such (R384, R421). -/
def evtsDone (n : Nat) (s : State) : State :=
  s.updLink (fun l => { l with evts := tset l.evts n (if tget l.evts n 0 = 1 ∨ tget l.evts n 0 = 4 then 4 else 0) 0 })

/-- The sources whose completion takes effect at the end of a tick (R378): those at the link among them. -/
def evtsEnd (s : State) : State :=
  foldS (s.catch_.filter (fun e => e.2.completing && e.2.pend == some 6)) (fun e s => evtsDone e.1 s) s

/-- Sources that have become pending at the link send their EVT (R377, R421). -/
def evtsTick (s : State) : State :=
  let l := s.catch_.filter (fun e => e.2.pend == some 6 && decide (e.2.since < s.tick) && !e.2.completing)
  foldS l (fun e s => if tget s.link.evts e.1 0 = 0 ∨ tget s.link.evts e.1 0 = 4 then sendEvtFrame e.1 s else s) s

/-- A bus frame begins at every PT that is a multiple of 64 (R131, R450). -/
def frameTick (s : State) : State :=
  if s.pt % 64 = 0 ∧ s.ptStands = false then scrubFrame (s.bumpWrap XBAR.base XBAR.MON_FRAMES_COUNT) else s

/-- The Catchment and the interconnect, which PARK stops (R473). -/
def interconnectTick (s : State) : State :=
  if s.dev.st = .park then s
  else
    let s := postedTick (catchTick (evtsEnd s))
    evtsTick (frameTick s)

/-- What a tick in which PT runs does to the angles and their comparison. -/
def planTimeTick (chkA chkB : Nat) (s : State) : State :=
  if s.ptStands then s
  else
    let s := (capKeep s).countPt
    let f := faultedIsland s
    let s := faultSpills f (anglesTick (faultsAct s))
    let s := issueEnds (xchkTick (checksTick chkA chkB s))
    sampleCaptures { s with trigs := s.trigs.filter (fun t => decide (s.pt ≤ t.due)) }

/-- The requests of HIRQ0 and HIRQ1, which their balls show in the tick after (R379). -/
def hirqNow (s : State) : Nat := b2n (requestTo s 4) + 2 * b2n (requestTo s 5)

/-- What is decided at the end of a tick: the ports' cycles go to the accesses that wait, stores that act last act, the
Flume's submissions are judged, and the records of the tick are written. -/
def tickEnds (s : State) : State :=
  beatsEnd (jrnRdEnd (recordsEnd (flumeSubsEnd (postedEnd (commitsJudge (portsEnd s))))))

/-- The next tick begins with empty link outputs; what a tick shows of the one before is kept. -/
def tickBegins (s : State) : State :=
  { s with
    tick := s.tick + 1
    dev := { s.dev with began := s.dev.st, hirq := hirqNow s }
    hdg := { s.hdg with start := tickStart s }
    link := { s.link with sent := [] } }

/-- ACCUMULATOR_TICK: the tick before ends, and the next begins; under a reset only the tick itself passes. -/
def accumulatorTickStep (chkA chkB : Nat) (s : State) : State :=
  let s := tickBegins (tickEnds s)
  if s.held then s
  else
    let s := planTimeTick chkA chkB (gatesTick s)
    let s := actSoftResets (commitsTick s)
    freezeEnd (interconnectTick s)

/-- ACCUMULATOR_TICK. -/
def execAccumulatorTick (chkA chkB : BitVec 5) (s : State) : Host.Outcome State Fault Refusal :=
  .next (tapTick (accumulatorTickStep chkA.toNat chkB.toNat s))

end Sys2Proof.Machine
end

