-- ==== Sys2Proof/Machine/Dispatch.lean ====
section
/-! DEFINITION. The dispatcher: one arm per command, each one direct call of that command's meaning. -/

namespace Sys2Proof.Machine

/-- The effect of a command on everything but the queue of waiting commands. -/
def exec (i : Instr) (s : State) : Host.Outcome State Fault Refusal :=
  match i with
  | .vrEdge w peak => Sys2Proof.Machine.execVrEdge w peak s
  | .hallTransition w level first => Sys2Proof.Machine.execHallTransition w level first s
  | .hallGlitch w first back => Sys2Proof.Machine.execHallGlitch w first back s
  | .dirPulseLeading w => Sys2Proof.Machine.execDirPulseLeading w s
  | .dirPulseClass w => Sys2Proof.Machine.execDirPulseClass w s
  | .ptabDataLoWrite v => Sys2Proof.Machine.execPtabDataLoWrite v s
  | .ptabDataHiWrite v => Sys2Proof.Machine.execPtabDataHiWrite v s
  | .ptabDataLoRead => Sys2Proof.Machine.execPtabDataLoRead s
  | .ptabDataHiRead => Sys2Proof.Machine.execPtabDataHiRead s
  | .stampLoRead w => Sys2Proof.Machine.execStampLoRead w s
  | .trackerCrankEdge t => Sys2Proof.Machine.execTrackerCrankEdge t s
  | .trackerCamEdge t => Sys2Proof.Machine.execTrackerCamEdge t s
  | .acqStallTimeout t => Sys2Proof.Machine.execAcqStallTimeout t s
  | .accumulatorTick chkA chkB => Sys2Proof.Machine.execAccumulatorTick chkA chkB s
  | .shadowClr t => Sys2Proof.Machine.execShadowClr t s
  | .sigReset t => Sys2Proof.Machine.execSigReset t s
  | .xchkRejoin => Sys2Proof.Machine.execXchkRejoin s
  | .xchkHandback => Sys2Proof.Machine.execXchkHandback s
  | .angleRead t => Sys2Proof.Machine.execAngleRead t s
  | .stallDeclare => Sys2Proof.Machine.execStallDeclare s
  | .stallHoldExpire => Sys2Proof.Machine.execStallHoldExpire s
  | .actionIssue fid => Sys2Proof.Machine.execActionIssue fid s
  | .actionTakeEffect idx => Sys2Proof.Machine.execActionTakeEffect idx s
  | .cutoffTake slot => Sys2Proof.Machine.execCutoffTake slot s
  | .maxDuration idx => Sys2Proof.Machine.execMaxDuration idx s
  | .taskOverrun c => Sys2Proof.Machine.execTaskOverrun c s
  | .planLoad => Sys2Proof.Machine.execPlanLoad s
  | .loadCheckPass => Sys2Proof.Machine.execLoadCheckPass s
  | .loadWritePass => Sys2Proof.Machine.execLoadWritePass s
  | .arm => Sys2Proof.Machine.execArm s
  | .disarm => Sys2Proof.Machine.execDisarm s
  | .govClear => Sys2Proof.Machine.execGovClear s
  | .latePop => Sys2Proof.Machine.execLatePop s
  | .planMemoryWrite init addr bytes => Sys2Proof.Machine.execPlanMemoryWrite init addr bytes s
  | .subWrite init n v => Sys2Proof.Machine.execSubWrite init n v s
  | .sub3Submit init v => Sys2Proof.Machine.execSub3Submit init v s
  | .queueAreaWrite init addr bytes => Sys2Proof.Machine.execQueueAreaWrite init addr bytes s
  | .journalAreaWrite init addr bytes => Sys2Proof.Machine.execJournalAreaWrite init addr bytes s
  | .jrnRdWrite v => Sys2Proof.Machine.execJrnRdWrite v s
  | .lossMarker => Sys2Proof.Machine.execLossMarker s
  | .bankCommand b => Sys2Proof.Machine.execBankCommand b s
  | .bankFree b => Sys2Proof.Machine.execBankFree b s
  | .deferLimitExpire b => Sys2Proof.Machine.execDeferLimitExpire b s
  | .openLoadTimeout b => Sys2Proof.Machine.execOpenLoadTimeout b s
  | .shortDetect b => Sys2Proof.Machine.execShortDetect b s
  | .overcurrentTrip b => Sys2Proof.Machine.execOvercurrentTrip b s
  | .clampMiss b => Sys2Proof.Machine.execClampMiss b s
  | .decayStuck b => Sys2Proof.Machine.execDecayStuck b s
  | .bootUv b hs => Sys2Proof.Machine.execBootUv b hs s
  | .bootUvRelease b hs => Sys2Proof.Machine.execBootUvRelease b hs s
  | .boostSample b code => Sys2Proof.Machine.execBoostSample b code s
  | .bankUnlock b v => Sys2Proof.Machine.execBankUnlock b v s
  | .leveeSlice => Sys2Proof.Machine.execLeveeSlice s
  | .leveeExhaust b => Sys2Proof.Machine.execLeveeExhaust b s
  | .profileStart b => Sys2Proof.Machine.execProfileStart b s
  | .profileRestart b => Sys2Proof.Machine.execProfileRestart b s
  | .shpEnd b => Sys2Proof.Machine.execShpEnd b s
  | .setsw b => Sys2Proof.Machine.execSetsw b s
  | .shpWaitt b => Sys2Proof.Machine.execShpWaitt b s
  | .waiti b => Sys2Proof.Machine.execWaiti b s
  | .chop b => Sys2Proof.Machine.execChop b s
  | .dipw b => Sys2Proof.Machine.execDipw b s
  | .fastoff b => Sys2Proof.Machine.execFastoff b s
  | .shpJmp b => Sys2Proof.Machine.execShpJmp b s
  | .jif b => Sys2Proof.Machine.execJif b s
  | .shpMark b => Sys2Proof.Machine.execShpMark b s
  | .shpWaitEnd b => Sys2Proof.Machine.execShpWaitEnd b s
  | .endRequest b => Sys2Proof.Machine.execEndRequest b s
  | .actionNormalEnd b => Sys2Proof.Machine.execActionNormalEnd b s
  | .tailOverrun b => Sys2Proof.Machine.execTailOverrun b s
  | .dipDetect b => Sys2Proof.Machine.execDipDetect b s
  | .dipWindowClose b => Sys2Proof.Machine.execDipWindowClose b s
  | .sampleClaim k => Sys2Proof.Machine.execSampleClaim k s
  | .samplingInstant k => Sys2Proof.Machine.execSamplingInstant k s
  | .conversionResult k raw => Sys2Proof.Machine.execConversionResult k raw s
  | .recordWrite k => Sys2Proof.Machine.execRecordWrite k s
  | .openTrigger k slot => Sys2Proof.Machine.execOpenTrigger k slot s
  | .openSlotPending k slot => Sys2Proof.Machine.execOpenSlotPending k slot s
  | .convSoft k v => Sys2Proof.Machine.execConvSoft k v s
  | .calZero k => Sys2Proof.Machine.execCalZero k s
  | .calFull k => Sys2Proof.Machine.execCalFull k s
  | .calAbort k => Sys2Proof.Machine.execCalAbort k s
  | .dacWrite v => Sys2Proof.Machine.execDacWrite v s
  | .ringMarkWrite k r v => Sys2Proof.Machine.execRingMarkWrite k r v s
  | .sumLoRead k p => Sys2Proof.Machine.execSumLoRead k p s
  | .scanLoRead => Sys2Proof.Machine.execScanLoRead s
  | .pwmRunWrite v => Sys2Proof.Machine.execPwmRunWrite v s
  | .pwmPeriodStart n => Sys2Proof.Machine.execPwmPeriodStart n s
  | .pwmCountEdge n => Sys2Proof.Machine.execPwmCountEdge n s
  | .pwmCountTrigger n => Sys2Proof.Machine.execPwmCountTrigger n s
  | .loadAll v => Sys2Proof.Machine.execLoadAll v s
  | .swCrossing n rising => Sys2Proof.Machine.execSwCrossing n rising s
  | .dtMeasureTimeout n => Sys2Proof.Machine.execDtMeasureTimeout n s
  | .pwmForce n v => Sys2Proof.Machine.execPwmForce n v s
  | .tripInput k level => Sys2Proof.Machine.execTripInput k level s
  | .blankEnd n => Sys2Proof.Machine.execBlankEnd n s
  | .tripClear n => Sys2Proof.Machine.execTripClear n s
  | .tmrRunWrite v => Sys2Proof.Machine.execTmrRunWrite v s
  | .timerCountStep n => Sys2Proof.Machine.execTimerCountStep n s
  | .cmpWrite n v => Sys2Proof.Machine.execCmpWrite n v s
  | .cmpActive n => Sys2Proof.Machine.execCmpActive n s
  | .timerTrigger n level => Sys2Proof.Machine.execTimerTrigger n level s
  | .tmrSoft v => Sys2Proof.Machine.execTmrSoft v s
  | .timerCapture e => Sys2Proof.Machine.execTimerCapture e s
  | .capPtRead n => Sys2Proof.Machine.execCapPtRead n s
  | .rnlRunWrite v => Sys2Proof.Machine.execRnlRunWrite v s
  | .shiftClr e => Sys2Proof.Machine.execShiftClr e s
  | .rnlStop e => Sys2Proof.Machine.execRnlStop e s
  | .rnlPin e => Sys2Proof.Machine.execRnlPin e s
  | .rnlWaitp e pins => Sys2Proof.Machine.execRnlWaitp e pins s
  | .rnlShift e pins => Sys2Proof.Machine.execRnlShift e pins s
  | .rnlJmp e pins => Sys2Proof.Machine.execRnlJmp e pins s
  | .rnlPush e => Sys2Proof.Machine.execRnlPush e s
  | .rnlPull e => Sys2Proof.Machine.execRnlPull e s
  | .rnlMov e => Sys2Proof.Machine.execRnlMov e s
  | .rnlAlu e => Sys2Proof.Machine.execRnlAlu e s
  | .rnlWaitt e => Sys2Proof.Machine.execRnlWaitt e s
  | .rnlWaitEnd e pins => Sys2Proof.Machine.execRnlWaitEnd e pins s
  | .rnlInWrite e v => Sys2Proof.Machine.execRnlInWrite e v s
  | .rnlOutRead e => Sys2Proof.Machine.execRnlOutRead e s
  | .rnlProgramWrite e reg v => Sys2Proof.Machine.execRnlProgramWrite e reg v s
  | .coreFrameStart => Sys2Proof.Machine.execCoreFrameStart s
  | .coreSlotStart c slot => Sys2Proof.Machine.execCoreSlotStart c slot s
  | .coreEventEntry c => Sys2Proof.Machine.execCoreEventEntry c s
  | .coreNop c => Sys2Proof.Machine.execCoreNop c s
  | .coreAdd c => Sys2Proof.Machine.execCoreAdd c s
  | .coreAddc c => Sys2Proof.Machine.execCoreAddc c s
  | .coreSub c => Sys2Proof.Machine.execCoreSub c s
  | .coreSubc c => Sys2Proof.Machine.execCoreSubc c s
  | .coreAdds c => Sys2Proof.Machine.execCoreAdds c s
  | .coreSubs c => Sys2Proof.Machine.execCoreSubs c s
  | .coreAnd c => Sys2Proof.Machine.execCoreAnd c s
  | .coreOr c => Sys2Proof.Machine.execCoreOr c s
  | .coreXor c => Sys2Proof.Machine.execCoreXor c s
  | .coreAddi c => Sys2Proof.Machine.execCoreAddi c s
  | .coreAndi c => Sys2Proof.Machine.execCoreAndi c s
  | .coreOri c => Sys2Proof.Machine.execCoreOri c s
  | .coreXori c => Sys2Proof.Machine.execCoreXori c s
  | .coreShift c => Sys2Proof.Machine.execCoreShift c s
  | .coreMov c => Sys2Proof.Machine.execCoreMov c s
  | .coreMovi c => Sys2Proof.Machine.execCoreMovi c s
  | .coreMpy c => Sys2Proof.Machine.execCoreMpy c s
  | .coreMac c => Sys2Proof.Machine.execCoreMac c s
  | .coreAcop c => Sys2Proof.Machine.execCoreAcop c s
  | .coreCmp c => Sys2Proof.Machine.execCoreCmp c s
  | .coreCmpi c => Sys2Proof.Machine.execCoreCmpi c s
  | .corePlog c => Sys2Proof.Machine.execCorePlog c s
  | .coreLd c => Sys2Proof.Machine.execCoreLd c s
  | .coreSt c => Sys2Proof.Machine.execCoreSt c s
  | .coreLdf c => Sys2Proof.Machine.execCoreLdf c s
  | .coreStf c => Sys2Proof.Machine.execCoreStf c s
  | .coreFarDone c task => Sys2Proof.Machine.execCoreFarDone c task s
  | .coreBr c => Sys2Proof.Machine.execCoreBr c s
  | .coreCall c => Sys2Proof.Machine.execCoreCall c s
  | .coreJr c => Sys2Proof.Machine.execCoreJr c s
  | .coreRet c => Sys2Proof.Machine.execCoreRet c s
  | .coreRpt c => Sys2Proof.Machine.execCoreRpt c s
  | .coreRpti c => Sys2Proof.Machine.execCoreRpti c s
  | .coreWfe c => Sys2Proof.Machine.execCoreWfe c s
  | .coreSev c => Sys2Proof.Machine.execCoreSev c s
  | .coreWaitpt c => Sys2Proof.Machine.execCoreWaitpt c s
  | .coreWaita c => Sys2Proof.Machine.execCoreWaita c s
  | .coreWaitEnd c task => Sys2Proof.Machine.execCoreWaitEnd c task s
  | .coreMfc c => Sys2Proof.Machine.execCoreMfc c s
  | .coreMtc c => Sys2Proof.Machine.execCoreMtc c s
  | .coreRete c => Sys2Proof.Machine.execCoreRete c s
  | .coreEndt c => Sys2Proof.Machine.execCoreEndt c s
  | .coreMacm c => Sys2Proof.Machine.execCoreMacm c s
  | .coreRestart c => Sys2Proof.Machine.execCoreRestart c s
  | .catchEvent src => Sys2Proof.Machine.execCatchEvent src s
  | .catchCoalTimeout src => Sys2Proof.Machine.execCatchCoalTimeout src s
  | .catchComplete t src => Sys2Proof.Machine.execCatchComplete t src s
  | .setpend src => Sys2Proof.Machine.execSetpend src s
  | .flumeStart c => Sys2Proof.Machine.execFlumeStart c s
  | .flumeBeat c => Sys2Proof.Machine.execFlumeBeat c s
  | .flumeResume c => Sys2Proof.Machine.execFlumeResume c s
  | .flumeAbort c => Sys2Proof.Machine.execFlumeAbort c s
  | .flumeCtrlWrite c v => Sys2Proof.Machine.execFlumeCtrlWrite c v s
  | .hpsGen1Read addr => Sys2Proof.Machine.execHpsGen1Read addr s
  | .hpsGen1Write addr v => Sys2Proof.Machine.execHpsGen1Write addr v s
  | .hpsBadFrame => Sys2Proof.Machine.execHpsBadFrame s
  | .hpsGen2Read cmd addr crc => Sys2Proof.Machine.execHpsGen2Read cmd addr crc s
  | .hpsGen2Write cmd addr data crc => Sys2Proof.Machine.execHpsGen2Write cmd addr data crc s
  | .hpsAbandon => Sys2Proof.Machine.execHpsAbandon s
  | .hpqRead h0 h1 crc => Sys2Proof.Machine.execHpqRead h0 h1 crc s
  | .hpqWrite h0 h1 data crc => Sys2Proof.Machine.execHpqWrite h0 h1 data crc s
  | .hpqSeqReset => Sys2Proof.Machine.execHpqSeqReset s
  | .flashBootStage bytes => Sys2Proof.Machine.execFlashBootStage bytes s
  | .flStart => Sys2Proof.Machine.execFlStart s
  | .flCommandDone bytes => Sys2Proof.Machine.execFlCommandDone bytes s
  | .linkTrainDone p twoLanes nid nMaster => Sys2Proof.Machine.execLinkTrainDone p twoLanes nid nMaster s
  | .linkTrainTimeout p => Sys2Proof.Machine.execLinkTrainTimeout p s
  | .ping p arrived => Sys2Proof.Machine.execPing p arrived s
  | .pong p trip => Sys2Proof.Machine.execPong p trip s
  | .linkAck p lseq => Sys2Proof.Machine.execLinkAck p lseq s
  | .linkRetryTimeout p => Sys2Proof.Machine.execLinkRetryTimeout p s
  | .laneFail p => Sys2Proof.Machine.execLaneFail p s
  | .heartSend => Sys2Proof.Machine.execHeartSend s
  | .heartReceive p f => Sys2Proof.Machine.execHeartReceive p f s
  | .heartMiss => Sys2Proof.Machine.execHeartMiss s
  | .angleSend => Sys2Proof.Machine.execAngleSend s
  | .angleReceive p beat => Sys2Proof.Machine.execAngleReceive p beat s
  | .flywheelExpire => Sys2Proof.Machine.execFlywheelExpire s
  | .memRd p f => Sys2Proof.Machine.execMemRd p f s
  | .memWr p f => Sys2Proof.Machine.execMemWr p f s
  | .memRdresp p f => Sys2Proof.Machine.execMemRdresp p f s
  | .memWrack p f => Sys2Proof.Machine.execMemWrack p f s
  | .orderSubmit p f => Sys2Proof.Machine.execOrderSubmit p f s
  | .orderReply p f => Sys2Proof.Machine.execOrderReply p f s
  | .eventEvt p f => Sys2Proof.Machine.execEventEvt p f s
  | .eventMsg p f => Sys2Proof.Machine.execEventMsg p f s
  | .eventEvtack p f => Sys2Proof.Machine.execEventEvtack p f s
  | .evtResend => Sys2Proof.Machine.execEvtResend s
  | .frameAbort p => Sys2Proof.Machine.execFrameAbort p s
  | .peerAccess init addr write half v => Sys2Proof.Machine.execPeerAccess init addr write half v s
  | .peerAccessTimeout => Sys2Proof.Machine.execPeerAccessTimeout s
  | .peerSubmit init dst v => Sys2Proof.Machine.execPeerSubmit init dst v s
  | .linkRstCmd v => Sys2Proof.Machine.execLinkRstCmd v s
  | .evtPopRead => Sys2Proof.Machine.execEvtPopRead s
  | .msgPayRead => Sys2Proof.Machine.execMsgPayRead s
  | .memoryRead init addr size => Sys2Proof.Machine.execMemoryRead init addr size s
  | .memoryWrite init addr bytes => Sys2Proof.Machine.execMemoryWrite init addr bytes s
  | .scrubCycle port => Sys2Proof.Machine.execScrubCycle port s
  | .bundleUncorr => Sys2Proof.Machine.execBundleUncorr s
  | .heartbeatWindow seen => Sys2Proof.Machine.execHeartbeatWindow seen s
  | .statusWindow seen corrected => Sys2Proof.Machine.execStatusWindow seen corrected s
  | .bundleRestore => Sys2Proof.Machine.execBundleRestore s
  | .culvertStall => Sys2Proof.Machine.execCulvertStall s
  | .islandResetRelease => Sys2Proof.Machine.execIslandResetRelease s
  | .powerOnReset up => Sys2Proof.Machine.execPowerOnReset up s
  | .resetNAssert => Sys2Proof.Machine.execResetNAssert s
  | .resetNRelease straps => Sys2Proof.Machine.execResetNRelease straps s
  | .coldResetDone bundleOk => Sys2Proof.Machine.execColdResetDone bundleOk s
  | .linkResetRelease => Sys2Proof.Machine.execLinkResetRelease s
  | .warmNAssert => Sys2Proof.Machine.execWarmNAssert s
  | .warmNRelease => Sys2Proof.Machine.execWarmNRelease s
  | .warmResetDone => Sys2Proof.Machine.execWarmResetDone s
  | .supplyLoss sup => Sys2Proof.Machine.execSupplyLoss sup s
  | .supplyReturn sup => Sys2Proof.Machine.execSupplyReturn sup s
  | .vdrvUndervoltage => Sys2Proof.Machine.execVdrvUndervoltage s
  | .vdrvReturn => Sys2Proof.Machine.execVdrvReturn s
  | .clockSelect obs => Sys2Proof.Machine.execClockSelect obs s
  | .clockFault kind => Sys2Proof.Machine.execClockFault kind s
  | .clockRecover lostUs => Sys2Proof.Machine.execClockRecover lostUs s
  | .park => Sys2Proof.Machine.execPark s
  | .parkEnter => Sys2Proof.Machine.execParkEnter s
  | .wake cause => Sys2Proof.Machine.execWake cause s
  | .thermMeasure t0 t1 t2 t3 t4 t5 => Sys2Proof.Machine.execThermMeasure t0 t1 t2 t3 t4 t5 s
  | .dDieThermalTrip => Sys2Proof.Machine.execDDieThermalTrip s
  | .thermRelease => Sys2Proof.Machine.execThermRelease s
  | .dbgFreeze => Sys2Proof.Machine.execDbgFreeze s
  | .brkPtMatch => Sys2Proof.Machine.execBrkPtMatch s
  | .freezeBegin => Sys2Proof.Machine.execFreezeBegin s
  | .dbgRelease => Sys2Proof.Machine.execDbgRelease s
  | .commit page => Sys2Proof.Machine.execCommit page s
  | .softReset page => Sys2Proof.Machine.execSoftReset page s
  | .enableWrite page on => Sys2Proof.Machine.execEnableWrite page on s
  | .evtSet page v => Sys2Proof.Machine.execEvtSet page v s
  | .ptLoRead => Sys2Proof.Machine.execPtLoRead s
  | .registerWrite init addr v => Sys2Proof.Machine.execRegisterWrite init addr v s
  | .vrArm w level => Sys2Proof.Machine.execVrArm w level s
  | .bankSenseSample b uv clamp => Sys2Proof.Machine.execBankSenseSample b uv clamp s
  | .waitLimitExpire idx => Sys2Proof.Machine.execWaitLimitExpire idx s
  | .trainingRetry p => Sys2Proof.Machine.execTrainingRetry p s

end Sys2Proof.Machine
end

