-- ==== Sys2Proof/Safety.lean ====
section
/-! DEFINITION. What counts as a safe state, in the terms the statements use, and the short forms in which the statements
say that a core issues an instruction and what it leaves, and what a link hop does with a good frame. -/

namespace Sys2Proof.Machine

/-- A switch mask the interlocks of R222 leave: at most one low-side switch, and never both high-side switches. -/
def maskLegal (m : Nat) : Prop := m / 16 ≤ 2 ∧ m % 16 ∈ [0, 1, 2, 4, 8]

/-- What every command keeps: the memory is in its canonical form; every bank's switches are as the interlocks leave
them (R222); the epoch number has 16 bits, and 0 is never the number of an open epoch (R64); the check counter of Tracker B
counts as PT does (R19, R468). -/
def Inv (s : State) : Prop :=
  Memory.wf s.mem = true ∧ (∀ b : Fin 16, maskLegal s.banks[b].mask) ∧ s.dev.epoch < 65536 ∧
    (s.dev.epochOpen = true → s.dev.epoch ≠ 0) ∧ s.sys.ptChk = s.pt

/-- Core c issues the instruction w now (R350, R352): the word at its PC is due, correct, legal, and its guard holds. -/
def coreIssues (s : State) (c : Fin 4) (w : Nat) : Prop :=
  ∃ pc, coreDue c s = some pc ∧ secBad s (imemAddr c pc) = 0 ∧ s.leBytes (imemAddr c pc) 4 = w ∧
    guardHolds (liveBank s.cores[c]) w = true ∧ coreLegal w = true

/-- From s to t only core c has changed, and of it only the running bank, which is now b. -/
def bankBecomes (s t : State) (c : Fin 4) (b : CoreBank) : Prop :=
  liveBank t.cores[c] = b ∧ t.cores[c].task = s.cores[c].task ∧ (∀ i : Fin 4, i ≠ c → t.cores[i] = s.cores[i]) ∧
    t = { s with cores := t.cores }

/-- The commands of the core's instructions, each with its opcode. -/
def coreCommands (c : Fin 4) : List (Nat × Instr) :=
  [(0x01, .coreNop c), (0x02, .coreAdd c), (0x03, .coreAddc c), (0x04, .coreSub c), (0x05, .coreSubc c), (0x06, .coreAdds c),
    (0x07, .coreSubs c), (0x08, .coreAnd c), (0x09, .coreOr c), (0x0A, .coreXor c), (0x0B, .coreAddi c), (0x0C, .coreAndi c),
    (0x0D, .coreOri c), (0x0E, .coreXori c), (0x0F, .coreShift c), (0x10, .coreMov c), (0x11, .coreMovi c),
    (0x12, .coreMpy c), (0x13, .coreMac c), (0x14, .coreAcop c), (0x15, .coreCmp c), (0x16, .coreCmpi c),
    (0x17, .corePlog c), (0x18, .coreLd c), (0x19, .coreSt c), (0x1A, .coreLdf c), (0x1B, .coreStf c), (0x1C, .coreBr c),
    (0x1D, .coreCall c), (0x1E, .coreJr c), (0x1F, .coreRet c), (0x20, .coreRpt c), (0x20, .coreRpti c), (0x21, .coreWfe c),
    (0x22, .coreSev c), (0x23, .coreWaitpt c), (0x24, .coreWaita c), (0x25, .coreMfc c), (0x26, .coreMtc c),
    (0x27, .coreRete c), (0x28, .coreEndt c), (0x29, .coreMacm c)]

/-- What a hop does with a good frame for this device: it acknowledges its LSEQ and expects the next. -/
def acked (p : Fin 2) (s : State) : State :=
  putOut p (.ack s.link.ports[p].rxSeq) (s.updPort p (fun x => { x with rxSeq := (s.link.ports[p].rxSeq + 1) % 256 }))

/-- The acknowledgement of a frame of an unexpected LSEQ on a port: the LSEQ before the expected one (R416). -/
def nacked (p : Fin 2) (s : State) : State := putOut p (.ack ((s.link.ports[p].rxSeq + 255) % 256)) s

end Sys2Proof.Machine
end

