-- ==== Sys2Proof/WellFormed.lean ====
section
/-! DEFINITION. Which commands are well formed. Most operands are bounded by their types; what is left is what a
command says of itself and could contradict: the form of an access, the region a row names, and the length of the data
a frame carries. A command that is not well formed is none that the block can be given, and no meaning is asked of it. -/

namespace Sys2Proof

/-- An address of a register region of this device: the pages, or a core's control space (R434). -/
def ownRegRegion (a : Nat) : Bool :=
  (decide (0x400000 ≤ a) && decide (a < 0x480000)) ||
    (decide (0x200000 ≤ a) && decide (a < 0x300000) && decide (0x30000 ≤ (a - 0x200000) % 0x40000))

/-- An address in the window of a device of the interconnect (R418). -/
def inPeerWindow (a : Nat) : Bool := decide (0x10000000 ≤ a) && decide (a < 0x18000000)

/-- An address of a register region, here or through a window (R418, R434). -/
def regRegion (a : Nat) : Bool := ownRegRegion a || (inPeerWindow a && ownRegRegion (a % 0x1000000))

/-- One access: a beat of at most 8 bytes that crosses no 8-byte boundary, in a register region a whole word or an
aligned half-word (R364, R391, R444). -/
def oneAccess (a n : Nat) : Bool :=
  decide (0 < n) && decide (a % 8 + n ≤ 8) &&
    (!regRegion a || (decide (n = 4) && decide (a % 4 = 0)) || (decide (n = 2) && decide (a % 2 = 0)))

/-- The regions PLAN_MEMORY_WRITE names: action table, slots, microcode store, instruction memories (R180, R349). -/
def planMemory (a : Nat) : Bool :=
  (decide (0x100000 ≤ a) && decide (a < 0x140000)) || (decide (0x154000 ≤ a) && decide (a < 0x158000)) ||
    (decide (0x180000 ≤ a) && decide (a < 0x184000)) ||
    (decide (0x200000 ≤ a) && decide (a < 0x300000) && decide ((a - 0x200000) % 0x40000 < 0x10000))

/-- The number of words a host request carries, from its field N in bits 23..16 (R401, R404). -/
def hostWords (w : Word) : Nat := w.toNat / 65536 % 256 + 1

/-- What a command with operands that could contradict each other must meet; every other command is well formed. -/
def Instr.wellFormed : Instr → Bool
  | .memoryRead _ addr size => oneAccess addr.toNat size
  | .memoryWrite _ addr bytes => oneAccess addr.toNat bytes.length
  | .planMemoryWrite _ addr bytes => oneAccess addr.toNat bytes.length && planMemory addr.toNat
  | .registerWrite _ addr _ => regRegion addr.toNat && decide (addr.toNat % 4 = 0)
  | .peerAccess _ addr _ half _ => inPeerWindow addr.toNat && decide (addr.toNat % (if half then 2 else 4) = 0)
  | .queueAreaWrite _ addr _ => decide (0x150000 ≤ addr.toNat) && decide (addr.toNat < 0x154000)
  | .journalAreaWrite _ addr _ => decide (0x140000 ≤ addr.toNat) && decide (addr.toNat < 0x150000)
  | .hpsGen2Write cmd _ data _ => decide (data.length = hostWords cmd)
  | .hpqWrite h0 _ data _ => decide (data.length = hostWords h0)
  | .memWr _ f => decide (f.data.length = f.len.toNat + 1)
  | .memRdresp _ f => decide (f.data.length = f.len.toNat + 1)
  | .vrEdge _ _ | .hallTransition _ _ _ | .hallGlitch _ _ _ | .dirPulseLeading _ | .dirPulseClass _
  | .ptabDataLoWrite _ | .ptabDataHiWrite _ | .ptabDataLoRead | .ptabDataHiRead | .stampLoRead _
  | .trackerCrankEdge _ | .trackerCamEdge _ | .acqStallTimeout _ | .accumulatorTick _ _ | .shadowClr _
  | .sigReset _ | .xchkRejoin | .xchkHandback | .angleRead _ | .stallDeclare | .stallHoldExpire | .actionIssue _
  | .actionTakeEffect _ | .cutoffTake _ | .maxDuration _ | .taskOverrun _ | .planLoad | .loadCheckPass
  | .loadWritePass | .arm | .disarm | .govClear | .latePop | .subWrite _ _ _ | .sub3Submit _ _ | .jrnRdWrite _
  | .lossMarker | .bankCommand _ | .bankFree _ | .deferLimitExpire _ | .openLoadTimeout _ | .shortDetect _
  | .overcurrentTrip _ | .clampMiss _ | .decayStuck _ | .bootUv _ _ | .bootUvRelease _ _ | .boostSample _ _
  | .bankUnlock _ _ | .leveeSlice | .leveeExhaust _ | .profileStart _ | .profileRestart _ | .shpEnd _ | .setsw _
  | .shpWaitt _ | .waiti _ | .chop _ | .dipw _ | .fastoff _ | .shpJmp _ | .jif _ | .shpMark _ | .shpWaitEnd _
  | .endRequest _ | .actionNormalEnd _ | .tailOverrun _ | .dipDetect _ | .dipWindowClose _ | .sampleClaim _
  | .samplingInstant _ | .conversionResult _ _ | .recordWrite _ | .openTrigger _ _ | .openSlotPending _ _
  | .convSoft _ _ | .calZero _ | .calFull _ | .calAbort _ | .dacWrite _ | .ringMarkWrite _ _ _ | .sumLoRead _ _
  | .scanLoRead | .pwmRunWrite _ | .pwmPeriodStart _ | .pwmCountEdge _ | .pwmCountTrigger _ | .loadAll _
  | .swCrossing _ _ | .dtMeasureTimeout _ | .pwmForce _ _ | .tripInput _ _ | .blankEnd _ | .tripClear _
  | .tmrRunWrite _ | .timerCountStep _ | .cmpWrite _ _ | .cmpActive _ | .timerTrigger _ _ | .tmrSoft _
  | .timerCapture _ | .capPtRead _ | .rnlRunWrite _ | .shiftClr _ | .rnlStop _ | .rnlPin _ | .rnlWaitp _ _
  | .rnlShift _ _ | .rnlJmp _ _ | .rnlPush _ | .rnlPull _ | .rnlMov _ | .rnlAlu _ | .rnlWaitt _
  | .rnlWaitEnd _ _ | .rnlInWrite _ _ | .rnlOutRead _ | .rnlProgramWrite _ _ _ | .coreFrameStart
  | .coreSlotStart _ _ | .coreEventEntry _ | .coreNop _ | .coreAdd _ | .coreAddc _ | .coreSub _ | .coreSubc _
  | .coreAdds _ | .coreSubs _ | .coreAnd _ | .coreOr _ | .coreXor _ | .coreAddi _ | .coreAndi _ | .coreOri _
  | .coreXori _ | .coreShift _ | .coreMov _ | .coreMovi _ | .coreMpy _ | .coreMac _ | .coreAcop _ | .coreCmp _
  | .coreCmpi _ | .corePlog _ | .coreLd _ | .coreSt _ | .coreLdf _ | .coreStf _ | .coreFarDone _ _ | .coreBr _
  | .coreCall _ | .coreJr _ | .coreRet _ | .coreRpt _ | .coreRpti _ | .coreWfe _ | .coreSev _ | .coreWaitpt _
  | .coreWaita _ | .coreWaitEnd _ _ | .coreMfc _ | .coreMtc _ | .coreRete _ | .coreEndt _ | .coreMacm _
  | .coreRestart _ | .catchEvent _ | .catchCoalTimeout _ | .catchComplete _ _ | .setpend _ | .flumeStart _
  | .flumeBeat _ | .flumeResume _ | .flumeAbort _ | .flumeCtrlWrite _ _ | .hpsGen1Read _ | .hpsGen1Write _ _
  | .hpsBadFrame | .hpsGen2Read _ _ _ | .hpsAbandon | .hpqRead _ _ _ | .hpqSeqReset | .flashBootStage _
  | .flStart | .flCommandDone _ | .linkTrainDone _ _ _ _ | .linkTrainTimeout _ | .ping _ _ | .pong _ _
  | .linkAck _ _ | .linkRetryTimeout _ | .laneFail _ | .heartSend | .heartReceive _ _ | .heartMiss | .angleSend
  | .angleReceive _ _ | .flywheelExpire | .memRd _ _ | .memWrack _ _ | .orderSubmit _ _ | .orderReply _ _
  | .eventEvt _ _ | .eventMsg _ _ | .eventEvtack _ _ | .evtResend | .frameAbort _ | .peerAccessTimeout
  | .peerSubmit _ _ _ | .linkRstCmd _ | .evtPopRead | .msgPayRead | .scrubCycle _ | .bundleUncorr
  | .heartbeatWindow _ | .statusWindow _ _ | .bundleRestore | .culvertStall | .islandResetRelease
  | .powerOnReset _ | .resetNAssert | .resetNRelease _ | .coldResetDone _ | .linkResetRelease | .warmNAssert
  | .warmNRelease | .warmResetDone | .supplyLoss _ | .supplyReturn _ | .vdrvUndervoltage | .vdrvReturn
  | .clockSelect _ | .clockFault _ | .clockRecover _ | .park | .parkEnter | .wake _ | .thermMeasure _ _ _ _ _ _
  | .dDieThermalTrip | .thermRelease | .dbgFreeze | .brkPtMatch | .freezeBegin | .dbgRelease | .commit _
  | .softReset _ | .enableWrite _ _ | .evtSet _ _ | .ptLoRead | .vrArm _ _ | .bankSenseSample _ _ _
  | .waitLimitExpire _ | .trainingRetry _ => true

end Sys2Proof
end

