-- ==== Sys2Proof/Certificates/Slice0/Obligations.lean ====
section
/-! DEFINITION. The statements for the provers. -/

open Sys2Proof Sys2Proof.Machine

/-- A step takes the command at the front of the queue: it is exec of that command on the state whose queue is the rest (the
block's queue is the model's own; log entry 4). -/
def Obligations.StepRunsTheCommandInFront : Prop :=
  ∀ (c : Instr) (rest : List Instr) (s : State), s.pending = c :: rest → step s = exec c { s with pending := rest }

/-- On an empty queue the block idles: the step answers the state it began with (log entry 4, the model's choice). -/
def Obligations.EmptyQueueIdles : Prop :=
∀ s : State, s.pending = [] → step s = .next s

/-- The state right after reset meets the invariant: memory canonical, every switch mask legal, no epoch open, the two
counters of PT alike (R468). -/
def Obligations.ResetStateIsSafe : Prop :=
Inv State.reset ∧ State.reset.pending = [] ∧ State.reset.dev.epochOpen = false

/-- What a reset leaves (R28, R29, R56, R225, R463): with the straps low (log entry 2) the device is STRAPPED, PT is 0, no epoch
is open and none has been, both trackers are OFF, every bank is free with its switches off, no action and no order waits, no
core runs, no source is pending, the PWM generators, timers and Runnel engines stand, the flume's channels are idle, and both
link ports are training; memory lists nothing (log entry 3). -/
def Obligations.ResetLeavesTheBlockDisarmed : Prop :=
  let s := State.reset
  s.dev.st = .strapped ∧ s.pt = 0 ∧ s.dev.epoch = 0 ∧ s.dev.epochOpen = false ∧ (∀ k : Fin 2, s.trk[k].acq = .off) ∧
    (∀ b : Fin 16, s.banks[b].mask = 0 ∧ s.banks[b].grant = none ∧ s.banks[b].queue = []) ∧ s.plan.acts = [] ∧
    s.hdg.queue = [] ∧ (∀ c : Fin 4, s.cores[c].on = false ∧ s.rd (cr c) CORE.HSP = 0x8000) ∧ s.catch_ = [] ∧
    s.rd PWM.base PWM.RUN = 0 ∧ s.rd TMR.base TMR.RUN = 0 ∧ s.rd RUN.base RUN.RUN_RUN = 0 ∧
    (∀ c : Fin 32, flumeState s c = 0) ∧ (∀ p : Fin 2, portState s p = 1) ∧ s.mem = [] ∧ s.memErr = []

/-- Every step keeps the invariant, from every state that meets it: the memory stays in its canonical form, every bank's
switches stay as the interlocks leave them, never both high-side switches and never two low-side switches (R222), the epoch
number keeps 16 bits and 0 is never the number of an open epoch (R64), the check counter of Tracker B stays equal to PT (R19,
R468); and the step takes the front command and no other from the queue. -/
def Obligations.EveryStepKeepsTheSafeStates : Prop :=
  ∀ s t : State, Inv s → step s = .next t → Inv t ∧ t.pending = s.pending.tail

/-- A command whose operands do not contradict each other always runs: exec answers a next state, in every state; one whose
operands do contradict each other is no command, and stops as ill formed (log entry 6, the model's choice). -/
def Obligations.WellFormedCommandsAlwaysRun : Prop :=
  ∀ (c : Instr) (s : State), if c.wellFormed then ∃ t, exec c s = .next t else exec c s = .fault .illFormed

/-- The opcode table gives no row any bits, so no word spells a command, and a word put where the next command is fetched
changes nothing (log entry 7). -/
def Obligations.NoWordSpellsACommand : Prop :=
  ∀ (nbits w : Nat) (s : State), decodeTableWord nbits w = none ∧ s.withFetchWord nbits w = s

/-- Over T_pred ticks the accumulator advances by the pitch exactly (R72): where inc does not saturate, the pitch times 2^32 is
inc * T_pred + rem with rem < T_pred, and T_pred ticks of the model's advance add up to it; and each tick adds inc, and one
more whenever the sum of the remainders reaches a multiple of T_pred. -/
def Obligations.AccumulatorAdvancesByThePitchExactly : Prop :=
  ∀ p tp : Nat, 0 < tp → p * 2 ^ 32 / tp ≤ incMax →
    p * 2 ^ 32 = (divideInc p tp).1 * tp + (divideInc p tp).2 ∧ (divideInc p tp).2 < tp ∧
    advance (divideInc p tp).1 (divideInc p tp).2 tp tp = p * 2 ^ 32 ∧
    ∀ d : Nat, advance (divideInc p tp).1 (divideInc p tp).2 tp (d + 1) =
      advance (divideInc p tp).1 (divideInc p tp).2 tp d + (divideInc p tp).1 +
        (if tp ≤ (divideInc p tp).2 * d % tp + (divideInc p tp).2 then 1 else 0)

/-- The angle stays behind the horizon (R73 to R75): the accumulator loaded from an edge, and the accumulator after a tick, in
either direction of travel, present an angle that has not travelled past the horizon; where the horizon holds it, the
accumulator is the horizon with a zero fraction; and the accumulator stays within the cycle. -/
def Obligations.AnglesStayBehindTheHorizon : Prop :=
  (∀ (astern : Bool) (len a hz x : Nat), 0 < len → a < len → hz < len →
    let m := moveFrom astern len a hz x
    m.1 < len * 2 ^ 32 ∧ travel astern len a (m.1 / 2 ^ 32) ≤ travel astern len a hz ∧ (m.2 → m.1 = hz * 2 ^ 32)) ∧
  (∀ (k : Fin 2) (s : State), s.trk[k].acq = .sync → s.trk[k].stalled = false → s.trk[k].atHorizon = false →
    s.trk[k].acc < cycleLen s k * 2 ^ 32 → s.trk[k].horizon < cycleLen s k →
    s.trk[k].inc ≤ incMax → let y := tickAcc s k
    y.acc < cycleLen s k * 2 ^ 32 ∧ y.horizon = s.trk[k].horizon ∧
      travel y.astern (cycleLen s k) (presented s.trk[k]) (presented y) ≤
        travel y.astern (cycleLen s k) (presented s.trk[k]) y.horizon ∧
      (y.atHorizon → y.acc = y.horizon * 2 ^ 32) ∧
      (y.atHorizon = false → s.trk[k].astern = false → y.acc = (s.trk[k].acc + s.trk[k].inc +
        (if s.trk[k].tpred ≤ s.trk[k].racc + s.trk[k].rem ∧ s.trk[k].tpred ≠ 0 then 1 else 0)) % (cycleLen s k * 2 ^ 32)))

/-- Any error of up to two bits of a stored word, the overall parity bit P included, is corrected: the positions found are the
ones in error, and the pattern left after the correction is clean (R437). -/
def Obligations.ErrorsOfUpToTwoBitsAreCorrected : Prop :=
  (∀ i : Nat, i < 79 → eccDecode (2 ^ i) = .corrected i none ∧ eccResidue (2 ^ i) = 0) ∧
  (∀ i j : Nat, i < j → j < 79 → eccDecode (2 ^ i ^^^ 2 ^ j) = .corrected i (some j) ∧ eccResidue (2 ^ i ^^^ 2 ^ j) = 0)

/-- Any error of three bits of a stored word is reported as uncorrectable (R437). -/
def Obligations.ErrorsOfThreeBitsAreReported : Prop :=
  ∀ i j k : Nat, i < j → j < k → k < 79 → eccDecode (2 ^ i ^^^ 2 ^ j ^^^ 2 ^ k) = .uncorrectable

/-- A DEC-TED word written whole reads back (R438): with no injection armed, an aligned 8-byte write leaves the word clean, a
read of it delivers the value and no poison, and every byte outside the word reads as before. -/
def Obligations.WholeWordsReadBack : Prop :=
  ∀ (w v : Nat) (s : State), v < 2 ^ 64 → s.flag MEM.base MEM.INJ_CTL_ARM = false → 8 * w < 0x154000 →
    let t := writeDec (8 * w) 8 v s
    readDec (8 * w) 8 t = ((v, false), t) ∧ t.pattern w = 0 ∧
      ∀ a, a < 8 * w ∨ 8 * w + 8 ≤ a → t.byte a = s.byte a

/-- A word below the parameter slots poisoned by a write stays poisoned under a partial write and is clean after a whole one
(R438); a slot word is the one exception (R438, R443). -/
def Obligations.PoisonStaysUntilAWholeWrite : Prop :=
  ∀ (a n v : Nat) (s : State), s.pattern (a / 8) = poisonPattern → n < 8 → a < 0x154000 →
    (writeDec a n v s).pattern (a / 8) = poisonPattern ∧
    (s.flag MEM.base MEM.INJ_CTL_ARM = false → a % 8 = 0 → (writeDec a 8 v s).pattern (a / 8) = 0)

/-- A start with COUNT = 0 ends in the same tick with RESULT ZERO: nothing is read or written, no element is fetched and nothing
is appended, and SUM holds SEED; by software's CMD.START, and by the start operation every other start uses (R388). -/
def Obligations.ZeroCountStartsEndAtOnce : Prop :=
  (∀ (c : Fin 32) (s : State), dueDma c s = none → s.clockOff 0x60 = false → (planned s c → s.armedOrLater = false) → flumeState s c = 0 →
    fl s c FLC.COUNT_BYTES = 0 → ∃ t, exec (.flumeStart c) s = .next t ∧ flumeState t c = 0 ∧
      fl t c FLC.STAT_RESULT = 2 ∧ fl t c FLC.SUM = fl s c FLC.SEED ∧ t.flume[c].nextEl = none ∧
      t.flume[c].appendEnd = none ∧ t.flume[c].buf = none ∧ (∀ d : Fin 32, d ≠ c → t.flume[d] = s.flume[d]) ∧
      t = { s with regs := t.regs, inFlight := t.inFlight, sys := t.sys, flume := t.flume }) ∧
  (∀ (c : Fin 32) (s : State), fl s c FLC.COUNT_BYTES = 0 →
    let t := startChan c s
    flumeState t c = 0 ∧ fl t c FLC.STAT_RESULT = 2 ∧ fl t c FLC.SUM = fl s c FLC.SEED ∧ t.flume[c].nextEl = none ∧
      t = { s with regs := t.regs, inFlight := t.inFlight, sys := t.sys, flume := t.flume })

/-- An instruction whose guard is false takes one tick and changes nothing, whichever instruction it is, branches, waits, far
accesses, RPT and ENDT too: the bank goes on to the next, which may issue in the next tick whatever it depends on (R352). That
it holds of an illegal word too, which R368 would have fault, is the model's reading (log entry 97). -/
def Obligations.FalseGuardsChangeNothing : Prop :=
  ∀ (c : Fin 4) (pc w : Nat) (s : State), coreDue c s = some pc → secBad s (imemAddr c pc) = 0 →
    s.leBytes (imemAddr c pc) 4 = w → guardHolds (liveBank s.cores[c]) w = false →
    ∀ x ∈ coreCommands c, x.1 = cop w → ∃ t, exec x.2 s = .next t ∧
      bankBecomes s t c (bankProceeds s.pt (liveBank s.cores[c])) ∧
      (bankProceeds s.pt (liveBank s.cores[c])).nextAt = s.pt + 1

/-- PT restarts from 0 at the end of every cold, warm and supply reset, of a supply reset that lost VDD_L when its new
reference clock has been chosen; an island reset leaves PT running: the release of an island changes nothing of PT, where the
check counter counts as PT does, which every step keeps, and the tick after it advances it (R462). -/
def Obligations.PlanTimeRestartsAtResets : Prop :=
  (∀ (ok : Bool) (s : State), s.sys.coldBusy → s.sys.vretDown = false → s.sys.resetNLow = false → s.sys.linkRst = false →
    s.sys.oscRetry = false → s.sys.clkDue = false → s.sys.supplyDown = [] → s.sys.vdrvLow = false → ∃ t, exec (.coldResetDone ok) s = .next t ∧ t.pt = 0) ∧
  (∀ s : State, s.sys.warmLow → s.sys.warmBusy → coldHeld s = false → s.sys.oscRetry = false → s.sys.clkDue = false → s.sys.supplyDown = [] →
    ∃ t, exec .warmNRelease s = .next t ∧ t.pt = 0) ∧
  (∀ (sup : Supply) (s : State), s.sys.supplyDown = [sup] → s.sys.warmBusy → coldHeld s = false → s.sys.oscRetry = false → s.sys.clkDue = false →
    s.sys.warmLow = false → ∃ t, exec (.supplyReturn sup) s = .next t ∧ t.pt = 0) ∧
  (∀ s : State, s.sys.ptChk = s.pt → ∃ t, exec .islandResetRelease s = .next t ∧ t.pt = s.pt ∧ t.sys.ptChk = s.pt ∧
    (s.ptStands = false → t.ptStands = false ∧ (s.memc.waits = [] →
      ∃ u, exec (.accumulatorTick 0 0) t = .next u ∧ u.pt = (s.pt + 1) % 2 ^ 64))) ∧
  (∀ s : State, s.held = false → ∃ t, exec .culvertStall s = .next t ∧ t.pt = s.pt ∧
    t.ptStands = s.ptStands) ∧
  (∀ (k : Half) (s : State), s.sys.clkDue → s.sys.warmBusy → coldHeld s = false → s.sys.warmLow = false → s.sys.supplyDown = [] →
    ∃ t, exec (.clockSelect (.crystal k)) s = .next t ∧ t.pt = 0)

/-- The checksum of a plan image (R154): CRC-32 with polynomial 0x04C11DB7 taken reflected, initial value and final exclusive or
0xFFFFFFFF: a byte is taken into the running state by eight shifts, the reflected polynomial added for every 1 shifted out; the
CRC of the string 123456789 is 0xCBF43926 and that of no bytes is 0. -/
def Obligations.PlanChecksumsAreCrc32 : Prop :=
  (∀ l : List Byte, crc32 l = (l.foldl (fun x b => (List.range 8).foldl (fun y _ =>
    if y.testBit 0 then (y >>> 1) ^^^ 0xEDB88320 else y >>> 1) (x ^^^ b.toNat)) 0xFFFFFFFF) ^^^ 0xFFFFFFFF) ∧
  (∀ k, k < 32 → (0xEDB88320 : Nat).testBit k = (0x04C11DB7 : Nat).testBit (31 - k)) ∧
  crc32 [0x31, 0x32, 0x33, 0x34, 0x35, 0x36, 0x37, 0x38, 0x39] = 0xCBF43926 ∧ crc32 [] = 0

/-- The corrected result of a position (R284): with offset O and gain G, v is (raw - O) * G + 16384 shifted right 15 places
arithmetically; the result is v clamped to 0 and 65535, SAT where it was clamped; the identity pair leaves the code unchanged. -/
def Obligations.CorrectedResultsFollowOffsetAndGain : Prop :=
  (∀ (k : Word) (raw : Nat), raw < 65536 → ∀ v : Int,
    v = (((raw : Int) - signed 16 (COEF.COEF_OFFSET.of k)) * COEF.COEF_GAIN.of k + 16384) >>> (15 : Nat) →
    (correct k raw).1 = (min 65535 (max 0 v)).toNat ∧ ((correct k raw).2 ↔ v < 0 ∨ 65535 < v) ∧ (correct k raw).1 < 65536) ∧
  (∀ (k : Word) (raw : Nat), raw < 65536 → COEF.COEF_OFFSET.of k = 0 → COEF.COEF_GAIN.of k = 0x8000 →
    correct k raw = (raw, false))

/-- VR_EDGE, HALL_TRANSITION and DIR_PULSE_LEADING accept a tooth edge: the wheel keeps the edge's stamp, against PT,
and the front end's own record of the input moves on (R35, R39, R40, R42, R43). Nothing is stored in memory. That a VR stamp
is PT less VR_CFG.DLY and DECAY is taken at the crossing's tick is the model's choice (log entry 160), and that the subtraction
stops at 0 (log entry 29). BOTHFLANK = 1 and a frozen block are left out. -/
def Obligations.FrontEndsStampToothEdges : Prop :=
  (∀ (w : Fin 4) (peak : BitVec 12) (s : State), frontEndLive s → sensorOf s w = 1 → s.wheels[w].armed →
    s.sys.frozen = false → ∃ t, exec (.vrEdge w peak) s = .next t ∧ t.wheels[w].armed = false ∧ t.wheels[w].seen ∧
      t.wheels[w].lastStamp = s.pt - s.cfg (WHN.base w) WHN.VR_CFG_DLY ∧
      t.wheels[w].peakRef = filterStep s.wheels[w].peakRef peak.toNat (s.cfg (WHN.base w) WHN.VR_CFG_DECAY) ∧
      (∀ v, v ≠ w → t.wheels[v] = s.wheels[v]) ∧ t.mem = s.mem) ∧
  (∀ (w : Fin 4) (first : Nat) (s : State), frontEndLive s → sensorOf s w = 2 → s.wheels[w].level ≠ toothLevel s w →
    first + filtTicks s w first ≤ s.pt → s.sys.frozen = false →
    ∃ t, exec (.hallTransition w (toothLevel s w) first) s = .next t ∧ t.wheels[w].level = toothLevel s w ∧ t.wheels[w].seen ∧
      t.wheels[w].lastStamp = first ∧ (∀ v, v ≠ w → t.wheels[v] = s.wheels[v]) ∧ t.mem = s.mem) ∧
  (∀ (w : Fin 4) (s : State), frontEndLive s → sensorOf s w = 3 → s.wheels[w].level = toothLevel s w →
    s.wheels[w].taken = false → s.on (WHN.base w) WHN.MODE_BOTHFLANK = false → s.sys.frozen = false →
    ∃ t, exec (.dirPulseLeading w) s = .next t ∧ t.wheels[w].taken ∧ t.wheels[w].seen ∧
      t.wheels[w].pulse = some s.wheels[w].levelStamp ∧ t.wheels[w].lastStamp = s.wheels[w].levelStamp ∧
      (∀ v, v ≠ w → t.wheels[v] = s.wheels[v]) ∧ t.mem = s.mem)

/-- The other commands of the front ends and the accesses of the pattern tables: a glitch is counted and changes nothing
else (R42); an input above its threshold arms (R39); the pattern tables are written and read as whole entries, and
AUTOINC steps INDEX (R47); while the device is armed a write stores nothing and is counted (R50); STAMP_LO returns the last
stamp and snapshots STAMP_HI (R47). -/
def Obligations.PatternTablesAndFrontEndRegisters : Prop :=
  (∀ (w : Fin 4) (first back : Nat) (s : State), frontEndLive s → sensorOf s w = 2 ∨ sensorOf s w = 3 → first < back →
    back ≤ first + filtTicks s w first → back ≤ s.pt → ∃ t, exec (.hallGlitch w first back) s = .next t ∧
      t.rd (WHN.base w) WHN.GLITCH_CNT_COUNT = sat 65535 (s.rd (WHN.base w) WHN.GLITCH_CNT_COUNT + 1) ∧
      (∀ a, a ≠ WHN.base w + 0x38 → t.reg a = s.reg a) ∧ t = { s with regs := t.regs }) ∧
  (∀ (w : Fin 4) (level : BitVec 12) (s : State), frontEndLive s → sensorOf s w = 1 → s.wheels[w].armed = false →
    vrThreshold8 s w < 8 * level.toNat → ∃ t, exec (.vrArm w level) s = .next t ∧ t.wheels[w].armed ∧
      (∀ v, v ≠ w → t.wheels[v] = s.wheels[v]) ∧ t = { s with wheels := t.wheels }) ∧
  (∀ (v : Word) (s : State), ∃ t, exec (.ptabDataLoWrite v) s = .next t ∧ t.ptabLo = v ∧ t = { s with ptabLo := t.ptabLo }) ∧
  (∀ (v : Word) (s : State), s.armedOrLater = false → ∃ t, exec (.ptabDataHiWrite v) s = .next t ∧
      tget t.ptab (ptabKey s) 0 = v.toNat * 2 ^ 32 + s.ptabLo.toNat ∧
      (∀ k, k ≠ ptabKey s → tget t.ptab k 0 = tget s.ptab k 0) ∧
      t.rd WHL.base WHL.PTAB_ADDR_INDEX = (if s.flag WHL.base WHL.PTAB_ADDR_AUTOINC
        then (s.rd WHL.base WHL.PTAB_ADDR_INDEX + 1) % 1024 else s.rd WHL.base WHL.PTAB_ADDR_INDEX) ∧
      t.rd WHL.base WHL.PTAB_ADDR_WHEEL = s.rd WHL.base WHL.PTAB_ADDR_WHEEL ∧
      (∀ a, a ≠ WHL.base + 0x40 → t.reg a = s.reg a) ∧ t = { s with regs := t.regs, ptab := t.ptab }) ∧
  (∀ (v : Word) (s : State), s.armedOrLater → ∃ t, exec (.ptabDataHiWrite v) s = .next t ∧ t.ptab = s.ptab ∧
      t.rd 0x404000 HDR.ERR_COUNT = sat 65535 (s.rd 0x404000 HDR.ERR_COUNT + 1) ∧
      (∀ a, a ≠ 0x404000 + HDR.ERR_COUNT.off → t.reg a = s.reg a)) ∧
  (∀ s : State, ∃ t, exec .ptabDataLoRead s = .next t ∧ t.respData = [toWord (tget s.ptab (ptabKey s) 0)] ∧
      t.respErr = false ∧ t.ptabSnap = tget s.ptab (ptabKey s) 0 ∧
      t = { s with respData := t.respData, respErr := t.respErr, ptabSnap := t.ptabSnap }) ∧
  (∀ s : State, ∃ t, exec .ptabDataHiRead s = .next t ∧ t.respData = [toWord (s.ptabSnap / 2 ^ 32)] ∧ t.respErr = false ∧
      t.rd WHL.base WHL.PTAB_ADDR_INDEX = (if s.flag WHL.base WHL.PTAB_ADDR_AUTOINC
        then (s.rd WHL.base WHL.PTAB_ADDR_INDEX + 1) % 1024 else s.rd WHL.base WHL.PTAB_ADDR_INDEX) ∧
      (∀ a, a ≠ WHL.base + 0x40 → t.reg a = s.reg a) ∧
      t = { s with respData := t.respData, respErr := t.respErr, regs := t.regs }) ∧
  (∀ (w : Fin 4) (s : State), ∃ t, exec (.stampLoRead w) s = .next t ∧ t.respData = [toWord s.wheels[w].lastStamp] ∧
      t.respErr = false ∧ t.reg (WHN.base w + 0x1C) = toWord (s.wheels[w].lastStamp / 2 ^ 32) ∧
      (∀ a, a ≠ WHN.base w + 0x1C → t.reg a = s.reg a) ∧
      t = { s with respData := t.respData, respErr := t.respErr, regs := t.regs })

/-- The trackers' edges and their timeout. Outside SYNC the first crank edge after WAIT starts the period history, the
second ends a period and forms no ratio, and from the third on an edge is spurious, implausible, or enters the run of
STEADY, the search, the candidates of CONFIRM and PHASE or sync, as the tables of R54 to R56 state; every crank edge of
the controlling tracker sends event 0x50 (R325, stated where the edge does nothing else of its own); a cam edge is kept as
the most recent one (R59), and in PHASE resolves sync or is a failed try (R58, R525). In SYNC a crank edge is classed by
R99: a spurious one is counted and changes neither angle nor entry, an accepted one becomes the expected entry and loads
the accumulator (R73), the others lose sync with their cause, which on the controlling tracker closes the epoch (R110);
stated of an accepted edge of an open epoch's controlling tracker that crosses no cycle boundary, with no furrow and no
slot. After a stall an edge resumes motion, or on a direction-coded wheel is held for its class (R115, R116). A cam edge
inside the window of an entry ends the run of missed cam edges, one outside is counted (R109). The timeout returns the
tracker to WAIT (R56). Two clauses are the model's choice: what an edge of PHASE counts while candidates are left (log entry
135), and the search of a width-coded wheel (log entry 136). -/
def Obligations.TrackersTakeEdgesAndTimeOut : Prop :=
  (∀ (k : Fin 2) (e : EdgeIn) (s : State), crankDue s k = some e → s.ptStands = false → s.trk[k].acq ≠ .off →
    s.trk[k].acq ≠ .sync → s.trk[k].nEdges = 0 → ∃ t, exec (.trackerCrankEdge k) s = .next t ∧
      t.trk[k].acq = .steady ∧ t.trk[k].nEdges = 1 ∧ t.trk[k].lastStamp = e.stamp ∧ t.trk[k].stamps = [e.stamp] ∧
      t.trk[k].edges = s.trk[k].edges.erase e ∧ (∀ j, j ≠ k → t.trk[j] = s.trk[j]) ∧
      t = { (if s.dev.control = k then s.fire 0x50 else s) with trk := t.trk }) ∧
  (∀ (k : Fin 2) (e : EdgeIn) (s : State), s.trk[k].edges.find? (fun e => e.wheel != crankWheel s k && decide (e.due ≤ s.pt)) = some e →
    s.ptStands = false → s.trk[k].edges.any (fun c => c.wheel == crankWheel s k && c.stamp == e.stamp) = false →
    camWheel s k = some e.wheel → s.trk[k].acq = .wait ∨ s.trk[k].acq = .steady ∨ s.trk[k].acq = .search ∨ s.trk[k].acq = .confirm →
    ∃ t, exec (.trackerCamEdge k) s = .next t ∧ t.trk[k].lastCam = some e ∧ t.trk[k].edges = s.trk[k].edges.erase e ∧
      t.trk[k].acq = s.trk[k].acq ∧ t = { s with trk := t.trk }) ∧
  (∀ (k : Fin 2) (s : State), s.trk[k].acq ≠ .off → s.trk[k].acq ≠ .wait → s.trk[k].acq ≠ .sync →
    400000 * s.cfg (TRK.base k) TRK.STALL_CFG_TIMEOUT ≤ s.pt - s.trk[k].lastStamp →
    ∃ t, exec (.acqStallTimeout k) s = .next t ∧ t.trk[k].acq = .wait ∧ t.trk[k].nEdges = 0 ∧ t.trk[k].cands = [] ∧
      (∀ j, j ≠ k → t.trk[j] = s.trk[j]) ∧ t = { s with trk := t.trk }) ∧
  (∀ (k : Fin 2) (e : EdgeIn) (s : State), crankDue s k = some e → s.ptStands = false → s.trk[k].acq ≠ .off → s.trk[k].acq ≠ .sync → s.trk[k].nEdges = 1 →
    ∃ t, exec (.trackerCrankEdge k) s = .next t ∧ t.trk[k].nEdges = 2 ∧ t.trk[k].lastStamp = e.stamp ∧
      t.trk[k].period = e.stamp - s.trk[k].lastStamp ∧ t.trk[k].acq = s.trk[k].acq ∧ t.trk[k].run = s.trk[k].run ∧
      t.trk[k].spurRun = 0) ∧
  (∀ (k : Fin 2) (e : EdgeIn) (s : State), crankDue s k = some e → s.ptStands = false → s.trk[k].acq ≠ .off → s.trk[k].acq ≠ .sync → 2 ≤ s.trk[k].nEdges →
    acqSpurious s k (e.stamp - s.trk[k].lastStamp) → ∃ t, exec (.trackerCrankEdge k) s = .next t ∧
      t.trk[k].lastStamp = s.trk[k].lastStamp ∧ t.trk[k].period = s.trk[k].period ∧ t.rd (TRK.base k) TRK.SPUR_CNT_SPUR = sat TRK.SPUR_CNT_SPUR.top (s.rd (TRK.base k) TRK.SPUR_CNT_SPUR + 1) ∧
      (∃ x ∈ t.inFlight, x.src = 33 + 8 * k.val ∧ x.raisedAt = s.tick) ∧
      (if s.trk[k].spurRun < 7 then t.trk[k].spurRun = s.trk[k].spurRun + 1 ∧ t.trk[k].acq = s.trk[k].acq
       else t.trk[k].spurRun = 0 ∧ t.trk[k].acq = .steady ∧ t.rd (TRK.base k) TRK.SPUR_CNT_ACQ_RESTART = sat TRK.SPUR_CNT_ACQ_RESTART.top (s.rd (TRK.base k) TRK.SPUR_CNT_ACQ_RESTART + 1))) ∧
  (∀ (k : Fin 2) (e : EdgeIn) (s : State), crankDue s k = some e → s.ptStands = false → s.trk[k].acq ≠ .off → s.trk[k].acq ≠ .sync → 2 ≤ s.trk[k].nEdges →
    acqSpurious s k (e.stamp - s.trk[k].lastStamp) = false → acqImplausible s k (e.stamp - s.trk[k].lastStamp) →
    ∃ t, exec (.trackerCrankEdge k) s = .next t ∧ t.trk[k].acq = .steady ∧ t.trk[k].run = 0 ∧ t.trk[k].lastStamp = e.stamp ∧
      t.rd (TRK.base k) TRK.SPUR_CNT_ACQ_RESTART = sat TRK.SPUR_CNT_ACQ_RESTART.top (s.rd (TRK.base k) TRK.SPUR_CNT_ACQ_RESTART + 1)) ∧
  (∀ (k : Fin 2) (e : EdgeIn) (s : State), crankDue s k = some e → s.ptStands = false → s.trk[k].acq = .steady → 2 ≤ s.trk[k].nEdges →
    acqSpurious s k (e.stamp - s.trk[k].lastStamp) = false → acqImplausible s k (e.stamp - s.trk[k].lastStamp) = false →
    ∀ r, r = (if steadyEdge (e.stamp - s.trk[k].lastStamp) s.trk[k].period then s.trk[k].run + 1 else 0) →
    ∃ t, exec (.trackerCrankEdge k) s = .next t ∧ t.trk[k].run = r ∧ t.trk[k].lastStamp = e.stamp ∧
      t.trk[k].acq = (if r = s.cfg (TRK.base k) TRK.ACQ_N_STEADY then .search else .steady)) ∧
  (∀ (k : Fin 2) (e : EdgeIn) (s : State), crankDue s k = some e → s.ptStands = false → s.trk[k].acq = .search → 2 ≤ s.trk[k].nEdges →
    acqSpurious s k (e.stamp - s.trk[k].lastStamp) = false → acqImplausible s k (e.stamp - s.trk[k].lastStamp) = false → widthCoded s k = false →
    ∀ l, l = (List.range (teeth s k)).filter (fun p => isFeature s k p && ratioMatches s k (e.stamp - s.trk[k].lastStamp) s.trk[k].period p) →
    ∃ t, exec (.trackerCrankEdge k) s = .next t ∧ t.trk[k].lastStamp = e.stamp ∧
      (if steadyEdge (e.stamp - s.trk[k].lastStamp) s.trk[k].period then t.trk[k].acq = .search
       else if l = [] then t.trk[k].acq = .steady ∧ t.trk[k].run = 0 ∧ t.rd (TRK.base k) TRK.SPUR_CNT_ACQ_RESTART = sat TRK.SPUR_CNT_ACQ_RESTART.top (s.rd (TRK.base k) TRK.SPUR_CNT_ACQ_RESTART + 1)
       else t.trk[k].acq = .confirm ∧ t.trk[k].cands = l.map (fun p => ⟨p, 0⟩))) ∧
  (∀ (k : Fin 2) (e : EdgeIn) (s : State), crankDue s k = some e → s.ptStands = false → s.trk[k].acq = .search → 2 ≤ s.trk[k].nEdges →
    acqSpurious s k (e.stamp - s.trk[k].lastStamp) = false → acqImplausible s k (e.stamp - s.trk[k].lastStamp) = false → widthCoded s k →
    ∀ l, l = (List.range (teeth s k)).filter (sequenceMatches (s.updTrk k (fun x => x.note (teeth s k) e)) k) → l ≠ [] →
    ∃ t, exec (.trackerCrankEdge k) s = .next t ∧ t.trk[k].lastStamp = e.stamp ∧ t.trk[k].acq = .confirm ∧ t.trk[k].cands = l.map (fun p => ⟨p, 0⟩)) ∧
  (∀ (k : Fin 2) (e : EdgeIn) (s : State), crankDue s k = some e → s.ptStands = false → s.trk[k].acq = .confirm → 2 ≤ s.trk[k].nEdges →
    acqSpurious s k (e.stamp - s.trk[k].lastStamp) = false → acqImplausible s k (e.stamp - s.trk[k].lastStamp) = false →
    ∀ l, l = stepCands s k (e.stamp - s.trk[k].lastStamp) s.trk[k].period e.wclass s.trk[k].cands →
    (l = [] → ∃ t, exec (.trackerCrankEdge k) s = .next t ∧ t.trk[k].acq = .steady ∧ t.trk[k].run = 0 ∧ t.rd (TRK.base k) TRK.SPUR_CNT_ACQ_RESTART = sat TRK.SPUR_CNT_ACQ_RESTART.top (s.rd (TRK.base k) TRK.SPUR_CNT_ACQ_RESTART + 1)) ∧
    (l ≠ [] → l.all (fun c => decide (s.cfg (TRK.base k) TRK.CFG_CONFIRM ≤ c.count)) = false →
      1 < l.length → 4 * teeth s k ≤ s.trk[k].stateEdges + 1 →
      ∃ t, exec (.trackerCrankEdge k) s = .next t ∧ t.trk[k].acq = .steady ∧ t.trk[k].run = 0 ∧ t.rd (TRK.base k) TRK.SPUR_CNT_ACQ_RESTART = sat TRK.SPUR_CNT_ACQ_RESTART.top (s.rd (TRK.base k) TRK.SPUR_CNT_ACQ_RESTART + 1)) ∧
    (l ≠ [] → l.all (fun c => decide (s.cfg (TRK.base k) TRK.CFG_CONFIRM ≤ c.count)) = false →
      l.length = 1 ∨ s.trk[k].stateEdges + 1 < 4 * teeth s k →
      ∃ t, exec (.trackerCrankEdge k) s = .next t ∧ t.trk[k].acq = .confirm ∧ t.trk[k].cands = l ∧ t.trk[k].lastStamp = e.stamp) ∧
    (∀ c, l = [c] → s.cfg (TRK.base k) TRK.CFG_CONFIRM ≤ c.count → cyc720 s k = false → s.dev.control ≠ k ∨ s.dev.epochOpen →
      ∃ t, exec (.trackerCrankEdge k) s = .next t ∧ t.trk[k].acq = .sync ∧ t.trk[k].pos = c.pos ∧ t.trk[k].half = false ∧
        t.trk[k].lastStamp = e.stamp ∧ t.dev = s.dev) ∧
    (∀ c, l = [c] → s.cfg (TRK.base k) TRK.CFG_CONFIRM ≤ c.count → cyc720 s k → s.trk[k].lastCam = none →
      ∃ t, exec (.trackerCrankEdge k) s = .next t ∧ t.trk[k].acq = .phase ∧ t.trk[k].cands = l ∧ t.trk[k].tries = 0)) ∧
  (∀ (k : Fin 2) (e : EdgeIn) (s : State), crankDue s k = some e → s.ptStands = false → s.trk[k].acq = .phase → 2 ≤ s.trk[k].nEdges →
    acqSpurious s k (e.stamp - s.trk[k].lastStamp) = false → acqImplausible s k (e.stamp - s.trk[k].lastStamp) = false →
    ∀ l, l = stepCands s k (e.stamp - s.trk[k].lastStamp) s.trk[k].period e.wclass s.trk[k].cands →
    (l = [] → ∃ t, exec (.trackerCrankEdge k) s = .next t ∧ t.trk[k].acq = .steady ∧ t.trk[k].run = 0 ∧ t.rd (TRK.base k) TRK.SPUR_CNT_ACQ_RESTART = sat TRK.SPUR_CNT_ACQ_RESTART.top (s.rd (TRK.base k) TRK.SPUR_CNT_ACQ_RESTART + 1)) ∧
    (l ≠ [] → s.trk[k].stateEdges + 1 < 2 * teeth s k → ∃ t, exec (.trackerCrankEdge k) s = .next t ∧ t.trk[k].acq = .phase ∧
      t.trk[k].cands = l ∧ t.trk[k].stateEdges = s.trk[k].stateEdges + 1) ∧
    (l ≠ [] → 2 * teeth s k ≤ s.trk[k].stateEdges + 1 → s.trk[k].tries + 1 < s.cfg (TRK.base k) TRK.ACQ_PHASE_TRIES →
      ∃ t, exec (.trackerCrankEdge k) s = .next t ∧ t.trk[k].acq = .phase ∧ t.trk[k].tries = s.trk[k].tries + 1 ∧ t.trk[k].stateEdges = 0)) ∧
  (∀ (k : Fin 2) (e : EdgeIn) (s : State), crankDue s k = some e → s.ptStands = false → s.trk[k].acq = .sync → s.trk[k].stalled = false →
    edgeClass s k e = .spurious → s.trk[k].spurRun < 7 → ∃ t, exec (.trackerCrankEdge k) s = .next t ∧
      t.rd (TRK.base k) TRK.SPUR_CNT_SPUR = sat TRK.SPUR_CNT_SPUR.top (s.rd (TRK.base k) TRK.SPUR_CNT_SPUR + 1) ∧ (∃ x ∈ t.inFlight, x.src = 33 + 8 * k.val ∧ x.raisedAt = s.tick) ∧
      t.trk[k].spurRun = s.trk[k].spurRun + 1 ∧ t.trk[k].acq = .sync ∧ t.trk[k].acc = s.trk[k].acc ∧
      t.trk[k].pos = s.trk[k].pos ∧ t.trk[k].lastStamp = s.trk[k].lastStamp) ∧
  (∀ (k : Fin 2) (e : EdgeIn) (s : State), crankDue s k = some e → s.ptStands = false → s.trk[k].acq = .sync → s.trk[k].stalled = false →
    edgeClass s k e = .spurious → 7 ≤ s.trk[k].spurRun → s.dev.control ≠ k ∨ s.dev.epochOpen = false → s.dev.handing = false →
    ∃ t, exec (.trackerCrankEdge k) s = .next t ∧ t.rd (TRK.base k) TRK.SPUR_CNT_SPUR = sat TRK.SPUR_CNT_SPUR.top (s.rd (TRK.base k) TRK.SPUR_CNT_SPUR + 1) ∧ t.trk[k].acq = .steady ∧ t.trk[k].spurRun = 0 ∧
      t.rd (TRK.base k) TRK.MOTION_STAT_LOSS = 4 ∧ t.dev = s.dev) ∧
  (∀ (k : Fin 2) (e : EdgeIn) (c : Nat) (s : State), crankDue s k = some e → s.ptStands = false → s.trk[k].acq = .sync → s.trk[k].stalled = false →
    edgeClass s k e = .lost c → s.dev.control ≠ k ∨ s.dev.epochOpen = false → s.dev.handing = false →
    ∃ t, exec (.trackerCrankEdge k) s = .next t ∧ t.trk[k].acq = .steady ∧ t.rd (TRK.base k) TRK.MOTION_STAT_LOSS = c ∧
      (∃ x ∈ t.inFlight, x.src = 34 + 8 * k.val ∧ x.raisedAt = s.tick) ∧ t.dev = s.dev) ∧
  (∀ (k : Fin 2) (e : EdgeIn) (c : Nat) (s : State), crankDue s k = some e → s.ptStands = false → s.trk[k].acq = .sync → s.trk[k].stalled = false →
    edgeClass s k e = .lost c → s.dev.control = k → s.dev.epochOpen → s.dev.handing = false → canHandover s k = false →
    ∃ t, exec (.trackerCrankEdge k) s = .next t ∧ t.dev.epochOpen = false ∧ t.trk[k].acq ≠ .sync) ∧
  (∀ (k : Fin 2) (e : EdgeIn) (s : State), crankDue s k = some e → s.ptStands = false → s.trk[k].acq = .sync → s.trk[k].stalled = false →
    edgeClass s k e = .accepted → s.dev.control ≠ k ∨ s.dev.epochOpen = false → s.committed = [] →
    ∃ t, exec (.trackerCrankEdge k) s = .next t ∧ t.trk[k].acq = .sync ∧ t.trk[k].pos = nextIdx s.trk[k].astern (teeth s k) s.trk[k].pos ∧
      t.trk[k].half = (nextHalf s.trk[k].astern (teeth s k) s.trk[k].pos s.trk[k].half) ∧
      t.trk[k].lastStamp = e.stamp ∧ t.trk[k].period = e.stamp - s.trk[k].lastStamp ∧ t.trk[k].spurRun = 0 ∧
      (travelPos s.trk[k].astern (cycleLen s k) (presented s.trk[k]) + travel s.trk[k].astern (cycleLen s k)
        (presented s.trk[k]) (presented (loadFrom s k (nextIdx s.trk[k].astern (teeth s k) s.trk[k].pos)
          (nextHalf s.trk[k].astern (teeth s k) s.trk[k].pos s.trk[k].half) e.stamp (e.stamp - s.trk[k].lastStamp) s.pt)) <
        cycleLen s k → t.trk[k].acc = (loadFrom s k (nextIdx s.trk[k].astern (teeth s k) s.trk[k].pos)
          (nextHalf s.trk[k].astern (teeth s k) s.trk[k].pos s.trk[k].half) e.stamp (e.stamp - s.trk[k].lastStamp) s.pt).acc)) ∧
  (∀ (k : Fin 2) (e : EdgeIn) (s : State), crankDue s k = some e → s.ptStands = false → s.trk[k].acq = .sync → s.trk[k].stalled = false →
    edgeClass s k e = .accepted → s.dev.control = k → s.dev.epochOpen → s.dev.step = none → s.committed = [] →
    s.plan.furrows = [] → s.plan.slotDef = [] → ∀ a y, a = trueAngle s k (nextIdx s.trk[k].astern (teeth s k) s.trk[k].pos) (nextHalf s.trk[k].astern (teeth s k) s.trk[k].pos s.trk[k].half) →
    y = presented (loadFrom s k (nextIdx s.trk[k].astern (teeth s k) s.trk[k].pos) (nextHalf s.trk[k].astern (teeth s k) s.trk[k].pos s.trk[k].half) e.stamp (e.stamp - s.trk[k].lastStamp) s.pt) →
    2 * travel s.trk[k].astern (cycleLen s k) (devAngle s) a < cycleLen s k →
    nowPos s + travel s.trk[k].astern (cycleLen s k) (devAngle s) a + travel s.trk[k].astern (cycleLen s k) a y <
      (s.dev.cycNo + 1) * devLen s →
    travelPos s.trk[k].astern (cycleLen s k) (presented s.trk[k]) + travel s.trk[k].astern (cycleLen s k)
      (presented s.trk[k]) y < cycleLen s k →
    ∃ t, exec (.trackerCrankEdge k) s = .next t ∧ t.trk[k].acq = .sync ∧ t.trk[k].pos = nextIdx s.trk[k].astern (teeth s k) s.trk[k].pos ∧
      t.trk[k].lastStamp = e.stamp ∧ presented t.trk[k] = y ∧ t.dev.epochOpen ∧ t.dev.hold = none) ∧
  (∀ (k : Fin 2) (e : EdgeIn) (s : State), crankDue s k = some e → s.ptStands = false → s.trk[k].acq = .sync → s.trk[k].stalled → sensorOf s (crankWheel s k) ≠ 3 →
    s.dev.control ≠ k ∨ s.dev.epochOpen = false → s.dev.st ≠ .stalled → s.committed = [] → s.flag PLAN.base PLAN.CMD_DISARM = false →
    ∃ t, exec (.trackerCrankEdge k) s = .next t ∧ t.trk[k].acq = .sync ∧ t.trk[k].stalled = false ∧ t.trk[k].verify ∧
      t.trk[k].pos = nextIdx s.trk[k].astern (teeth s k) s.trk[k].pos ∧ t.trk[k].lastStamp = e.stamp ∧
      t.rd (TRK.base k) TRK.MOTION_CNT_RESUMES = sat TRK.MOTION_CNT_RESUMES.top (s.rd (TRK.base k) TRK.MOTION_CNT_RESUMES + 1)) ∧
  (∀ (k : Fin 2) (e : EdgeIn) (s : State), crankDue s k = some e → s.ptStands = false → s.trk[k].acq = .sync → s.trk[k].stalled → sensorOf s (crankWheel s k) = 3 →
    ∃ t, exec (.trackerCrankEdge k) s = .next t ∧ t.trk[k].held = some e ∧ t.trk[k].stalled ∧ t.trk[k].lastStamp = s.trk[k].lastStamp ∧
      t = { (if s.dev.control = k then s.fire 0x50 else s) with trk := t.trk }) ∧
  (∀ (k : Fin 2) (e : EdgeIn) (p : Nat) (h : Bool) (s : State), s.trk[k].edges.find? (fun e => e.wheel != crankWheel s k && decide (e.due ≤ s.pt)) = some e →
    s.ptStands = false → s.trk[k].edges.any (fun c => c.wheel == crankWheel s k && c.stamp == e.stamp) = false → camWheel s k = some e.wheel → s.trk[k].acq = .phase →
    hypotheses s k e = [(p, h)] → s.dev.control ≠ k ∨ s.dev.epochOpen →
    ∃ t, exec (.trackerCamEdge k) s = .next t ∧ t.trk[k].acq = .sync ∧ t.trk[k].pos = p ∧ t.trk[k].half = h ∧ t.dev = s.dev) ∧
  (∀ (k : Fin 2) (e : EdgeIn) (s : State), s.trk[k].edges.find? (fun e => e.wheel != crankWheel s k && decide (e.due ≤ s.pt)) = some e →
    s.ptStands = false → s.trk[k].edges.any (fun c => c.wheel == crankWheel s k && c.stamp == e.stamp) = false → camWheel s k = some e.wheel → s.trk[k].acq = .phase →
    (hypotheses s k e).length ≠ 1 → s.trk[k].tries + 1 < s.cfg (TRK.base k) TRK.ACQ_PHASE_TRIES →
    ∃ t, exec (.trackerCamEdge k) s = .next t ∧ t.trk[k].acq = .phase ∧ t.trk[k].tries = s.trk[k].tries + 1 ∧ t.trk[k].lastCam = some e) ∧
  (∀ (k : Fin 2) (e : EdgeIn) (c : Nat) (s : State), s.trk[k].edges.find? (fun e => e.wheel != crankWheel s k && decide (e.due ≤ s.pt)) = some e →
    s.ptStands = false → s.trk[k].edges.any (fun c => c.wheel == crankWheel s k && c.stamp == e.stamp) = false → camWheel s k = some e.wheel → s.trk[k].acq = .sync →
    (camEntries s k e.wheel).find? (fun c => within (cycleLen s k) (4096 * s.cfg (TRK.base k) TRK.ACQ_CAM_WIN) (entNominal c)
      (angleAt s k e.stamp)) = some c →
    ∃ t, exec (.trackerCamEdge k) s = .next t ∧ t.trk[k].camMissRun = 0 ∧ t.trk[k].acq = .sync ∧ t.trk[k].acc = s.trk[k].acc ∧
      t.rd (TRK.base k) TRK.MOTION_CNT_CAM_MISS = s.rd (TRK.base k) TRK.MOTION_CNT_CAM_MISS) ∧
  (∀ (k : Fin 2) (e : EdgeIn) (s : State), s.trk[k].edges.find? (fun e => e.wheel != crankWheel s k && decide (e.due ≤ s.pt)) = some e →
    s.ptStands = false → s.trk[k].edges.any (fun c => c.wheel == crankWheel s k && c.stamp == e.stamp) = false → camWheel s k = some e.wheel → s.trk[k].acq = .sync → cyc720 s k →
    (camEntries s k e.wheel).find? (fun c => within (cycleLen s k) (4096 * s.cfg (TRK.base k) TRK.ACQ_CAM_WIN) (entNominal c)
      (angleAt s k e.stamp)) = none →
    s.trk[k].camMissRun + 1 < s.cfg (TRK.base k) TRK.ACQ_PHASE_TRIES →
    ∃ t, exec (.trackerCamEdge k) s = .next t ∧ t.trk[k].camMissRun = s.trk[k].camMissRun + 1 ∧ t.rd (TRK.base k) TRK.MOTION_CNT_CAM_MISS = sat TRK.MOTION_CNT_CAM_MISS.top (s.rd (TRK.base k) TRK.MOTION_CNT_CAM_MISS + 1) ∧ t.trk[k].acq = .sync ∧ t.trk[k].acc = s.trk[k].acc) ∧
  (∀ (k : Fin 2) (e : EdgeIn) (s : State), s.trk[k].edges.find? (fun e => e.wheel != crankWheel s k && decide (e.due ≤ s.pt)) = some e →
    s.ptStands = false → s.trk[k].edges.any (fun c => c.wheel == crankWheel s k && c.stamp == e.stamp) = false → s.trk[k].acq = .sync → ¬ (cyc720 s k ∧ camWheel s k = some e.wheel) →
    (camEntries s k e.wheel).find? (fun c => within (cycleLen s k) (4096 * s.cfg (TRK.base k) TRK.ACQ_CAM_WIN) (entNominal c)
      (angleAt s k e.stamp)) = none →
    ∃ t, exec (.trackerCamEdge k) s = .next t ∧ t.rd (TRK.base k) TRK.MOTION_CNT_CAM_MISS = sat TRK.MOTION_CNT_CAM_MISS.top (s.rd (TRK.base k) TRK.MOTION_CNT_CAM_MISS + 1) ∧ t.trk[k].acq = .sync ∧ t.trk[k].camMissRun = s.trk[k].camMissRun) ∧
  (∀ (k : Fin 2) (e : EdgeIn) (s : State), s.trk[k].edges.find? (fun e => e.wheel != crankWheel s k && decide (e.due ≤ s.pt)) = some e →
    s.ptStands = false → s.trk[k].edges.any (fun c => c.wheel == crankWheel s k && c.stamp == e.stamp) = false → s.trk[k].acq = .off ∨ (camWheel s k ≠ some e.wheel ∧ s.trk[k].acq ≠ .sync) →
    ∃ t, exec (.trackerCamEdge k) s = .next t ∧ t.trk[k].edges = s.trk[k].edges.erase e ∧ t.trk[k].acq = s.trk[k].acq ∧ t = { s with trk := t.trk })

/-- The registers of a tracker that commands act on: SHADOW_CFG.CLR and SIG_CFG.RESET wait for their boundary (R83, R86);
REJOIN lets a tracker in SYNC without an IFAULT bit back into the comparison (R94); HANDBACK is taken, or counted as an
error while the other tracker is not in the comparison (R94); a read of ANGLE returns the angle and its three flags and
snapshots the fraction, the increment and PT (R96). -/
def Obligations.TrackerRegistersActAndSnapshot : Prop :=
  (∀ (k : Fin 2) (s : State), ∃ t, exec (.shadowClr k) s = .next t ∧ t.flag (TRK.base k) TRK.SHADOW_CFG_CLR ∧
      (∀ a, a ≠ TRK.base k + TRK.SHADOW_CFG_CLR.off → t.reg a = s.reg a) ∧ t = { s with regs := t.regs }) ∧
  (∀ (k : Fin 2) (s : State), ∃ t, exec (.sigReset k) s = .next t ∧ t.flag (TRK.base k) TRK.SIG_CFG_RESET ∧
      (∀ a, a ≠ TRK.base k + TRK.SIG_CFG_RESET.off → t.reg a = s.reg a) ∧ t = { s with regs := t.regs }) ∧
  (∀ s : State, ∃ t, exec .xchkRejoin s = .next t ∧ t = { s with trk := t.trk } ∧ ∀ k : Fin 2, t.trk[k] =
      if s.trk[k].acq = .sync ∧ s.reg (TRK.base k + 0x104) = 0 then { s.trk[k] with inXchk := true } else s.trk[k]) ∧
  (∀ s : State, s.trk[otherTrk s.dev.control].inXchk → ∃ t, exec .xchkHandback s = .next t ∧
      t.flag (TRK.base 0) TRK.XCHK_CMD_HANDBACK ∧ t = { s with regs := t.regs }) ∧
  (∀ s : State, s.trk[otherTrk s.dev.control].inXchk = false → ∃ t, exec .xchkHandback s = .next t ∧
      t.rd (pageBase 2) HDR.ERR_COUNT = sat 65535 (s.rd (pageBase 2) HDR.ERR_COUNT + 1) ∧
      t.flag (TRK.base 0) TRK.XCHK_CMD_HANDBACK = s.flag (TRK.base 0) TRK.XCHK_CMD_HANDBACK) ∧
  (∀ (k : Fin 2) (s : State), ∃ t, exec (.angleRead k) s = .next t ∧ t.respErr = false ∧
      t.respData = [toWord (b2n (s.trk[k].acq == .sync) * 2 ^ 31 + b2n s.trk[k].astern * 2 ^ 30 +
        b2n s.trk[k].atHorizon * 2 ^ 29 + s.trk[k].acc / 2 ^ 32)] ∧
      t.rd (TRK.base k) TRK.ANGLE_FRAC_FRAC = s.trk[k].acc % 2 ^ 32 ∧ t.rd (TRK.base k) TRK.SNAP_PT_PT = s.pt % 2 ^ 32 ∧
      t.rd (TRK.base k) TRK.INC_LO_FRAC = s.trk[k].inc % 2 ^ 32 ∧
      t = { s with respData := t.respData, respErr := t.respErr, regs := t.regs })

/-- Stalls and the class of a pulse: on the controlling tracker a stall stops the tracker at the time of its declaration
and the device enters STALLED (R113, R121); a hold that runs out takes a tracker that is not the controlling one out of
SYNC to WAIT (R114); a pulse's width is classed into DCLASS and its leading edge is used up (R43). -/
def Obligations.StallsHoldsAndPulseClasses : Prop :=
  (∀ (k : Fin 2) (s : State), s.ptStands = false → stallDue s k → crankDue s k = none → s.trk[otherTrk k].acq ≠ .sync →
    s.cfg (TRK.base k) TRK.HOLD_CFG_HOLD ≠ 0 → s.dev.control = k → s.dev.epochOpen →
    ∃ t, exec .stallDeclare s = .next t ∧ t.dev.st = .stalled ∧ t.trk[k].stalled ∧ t.trk[k].stallPt = s.pt ∧
      t.dev.epochOpen ∧ t.dev.epoch = s.dev.epoch) ∧
  (∀ (k : Fin 2) (s : State), s.ptStands = false → s.trk[k].acq = .sync → s.trk[k].stalled → crankDue s k = none →
    400000 * s.cfg (TRK.base k) TRK.HOLD_CFG_HOLD ≤ s.pt - s.trk[k].stallPt → s.trk[otherTrk k].acq ≠ .sync →
    s.dev.control ≠ k → s.dev.handing = false → ∃ t, exec .stallHoldExpire s = .next t ∧ t.trk[k].acq = .wait ∧ t.trk[k].stalled = false ∧
      t.dev = s.dev) ∧
  (∀ (w : Fin 4) (lead : Nat) (s : State), frontEndLive s → sensorOf s w = 3 → s.wheels[w].level ≠ toothLevel s w →
    s.wheels[w].taken = false → s.wheels[w].pulse = some lead → s.sys.frozen = false → cranksOn s 0 w = false →
    cranksOn s 1 w = false → ∃ t, exec (.dirPulseClass w) s = .next t ∧ t.wheels[w].taken ∧ t.wheels[w].pulse = none ∧
      t.rd (WHN.base w) WHN.CLASS_DCLASS = dirClass s w (s.wheels[w].levelStamp - lead) ∧
      (∀ v, v ≠ w → t.wheels[v] = s.wheels[v]))

/-- A tick (R19, R71): the model's tick always passes; PT, 64 bits (R2), advances by one unless a freeze, a clock fault or a
reset makes it stand, as the accesses that the end of the tick before serves leave them; out of an epoch, with nothing else
due, each tracker's accumulator is that of its own advance. -/
def Obligations.TicksAdvancePlanTime : Prop :=
  (∀ (a b : BitVec 5) (s : State), ∃ t, exec (.accumulatorTick a b) s = .next t ∧ t.tick = s.tick + 1 ∧
    t.pt = (if (tickEnds s).ptStands then (tickEnds s).pt else ((tickEnds s).pt + 1) % 2 ^ 64) ∧
    (s.memc.waits = [] → t.pt = (if s.ptStands then s.pt else (s.pt + 1) % 2 ^ 64))) ∧
  (∀ s : State, s.ptStands = false → following s = false → s.dev.epochOpen = false → s.dev.handing = false →
    s.committed = [] → s.sys.commits = [] → s.sys.softResets = [] → (∀ c : Fin 4, s.cores[c].posted = []) → s.memc.waits = [] →
    (∀ k : Fin 2, s.trk[k].sigNew = none ∧ s.flag (TRK.base k) TRK.SIG_CFG_RESET = false) → ∃ t, exec (.accumulatorTick 0 0) s = .next t ∧
      ∀ k : Fin 2, t.trk[k].acc = (tickAcc s k).acc)

/-- Loading, arming and disarming: PLAN_LOAD begins the check pass with the registers' values (R176, R177), a plan that
checks goes to the write pass (R177), a write pass that reads no uncorrectable word ends LOADED with RESULT 0 (R177, R179);
ARM enters ARMED where nothing refuses it (R181); DISARM closes the epoch and enters LOADED, and in STALLED it waits (R182). -/
def Obligations.PlansLoadArmAndDisarm : Prop :=
  (∀ s : State, s.islandHeld 2 = false → s.plan.load = .idle → s.dev.st = .strapped ∨ s.dev.st = .loaded → ∃ t, exec .planLoad s = .next t ∧
      t.plan.load = .check ∧ t.plan.loadAddr = s.rd PLAN.base PLAN.LOAD_ADDR_ADDR ∧
      t.plan.loadSize = s.rd PLAN.base PLAN.LOAD_SIZE_SIZE ∧ t.plan.copyBase = s.rd PLAN.base PLAN.COPY_BASE_ADDR ∧
      t.flag PLAN.base PLAN.LOAD_STAT_BUSY ∧ t = { s with regs := t.regs, plan := t.plan }) ∧
  (∀ s : State, s.islandHeld 2 = false → s.plan.load = .check → checkPlan s = none → ∃ t, exec .loadCheckPass s = .next t ∧ t.plan.load = .write ∧
      t.dev = s.dev) ∧
  (∀ s : State, s.islandHeld 2 = false → s.plan.load = .write →
    (readSpan ((imageAt s s.plan.loadAddr).base / 8) (dirEnd (imageAt s s.plan.loadAddr) / 8) s).1 = false →
    (runSteps (imageAt s s.plan.loadAddr) (writeSteps (imageAt s s.plan.loadAddr))
      (readSpan ((imageAt s s.plan.loadAddr).base / 8) (dirEnd (imageAt s s.plan.loadAddr) / 8) s).2).1 = false →
    ∃ t, exec .loadWritePass s = .next t ∧ t.dev.st = .loaded ∧ t.plan.load = .idle ∧ t.dev.control = 0 ∧
      t.rd PLAN.base PLAN.LOAD_STAT_RESULT = 0) ∧
  (∀ s : State, s.islandHeld 2 = false → armRefusal s = none → ∃ t, exec .arm s = .next t ∧ t.dev.st = .armed ∧ t.mem = s.mem) ∧
  (∀ s : State, s.islandHeld 2 = false → s.dev.st = .armed ∨ s.dev.st = .syncing ∨ s.dev.st = .running ∨ s.dev.st = .governed →
    ∃ t, exec .disarm s = .next t ∧ t.dev.st = .loaded ∧ t.dev.epochOpen = false) ∧
  (∀ s : State, s.islandHeld 2 = false → s.dev.st = .stalled → ∃ t, exec .disarm s = .next t ∧ t.flag PLAN.base PLAN.CMD_DISARM ∧
      t = { s with regs := t.regs })

/-- Actions run, those of one consumer in the order of R23: the head of a furrow whose start the projected angle has
reached is issued (R21, R136, R160). An action takes effect at its target PT by its kind (R22, R160): a bank action goes
into its effect phase (R225), PROP writes the generator's shadow, SAMPLE claims its converter, TASK releases its slot with
its argument, MARK drives its ball, WINDOW opens or closes its gate, DMA starts its channel, LINK sends its message, and
those that are over with it leave the list of actions in flight. A slot's cut-off is taken once it has been passed (R196);
a bank action without an end request at its greatest duration gets one (R106, R257); a waiting DMA, SAMPLE or TASK action
past its limit is dropped (R142); a clear of the governed latch is requested (R149); a read of the late log takes its
oldest record (R184); a task at the end of its budget is a DEADLINE violation, and is abandoned once the next occupied
slot or frame has come (R145). -/
def Obligations.ActionsIssueTakeEffectAndEnd : Prop :=
  (∀ (fid : BitVec 16) (f : Furrow) (s : State), furrowOf s fid.toNat = some f → planRuns s → s.dev.st = .running →
    edgeKnown s ≤ s.pt → issuesFirst s f = false → headPos s f ≤ projPos s (leadOf (entKindOf (actWord0 s f.head))) →
    projPos s (leadOf (entKindOf (actWord0 s f.head))) - headPos s f ≤ lookback s → f.dead = false →
    tget s.plan.issuedIn f.head 0 ≠ cycOf s (headPos s f) + 1 → entCritical (actWord0 s f.head) = false →
    (readDec (slotAddr (entSlot (actWord0 s f.head))) 4 s).1.2 = false →
    noEvent (actWord0 s f.head) (slotData s (entSlot (actWord0 s f.head))) = false →
    patchRefused (actWord0 s f.head) (actWord1 s f.head) (slotData s (entSlot (actWord0 s f.head))) = false →
    valueOk (entKindOf (actWord0 s f.head)) (slotData s (entSlot (actWord0 s f.head))) →
    ∃ t, exec (.actionIssue fid) s = .next t ∧
      ∃ a, t.plan.acts = s.plan.acts ++ [a] ∧ a.idx = f.head ∧ a.phase = .issued ∧ a.late = false) ∧
  (∀ (idx : Fin 16384) (a : Act) (s : State), s.ptStands = false → dueEntry s idx.val = some a →
    goesFirst s a = false → a.kind = 7 →
    ∃ t, exec (.actionTakeEffect idx) s = .next t ∧ bit t.gates (entRes a.w0 % 16) = decide (a.value % 4 = 2) ∧
      t.plan.acts = s.plan.acts.filter (fun x => x.serial != a.serial)) ∧
  (∀ (idx : Fin 16384) (a : Act) (s : State), s.ptStands = false → dueEntry s idx.val = some a →
    goesFirst s a = false → a.isBank →
    ∃ t, exec (.actionTakeEffect idx) s = .next t ∧ t.plan.acts = s.plan.acts.map (fun x =>
      if x.serial = a.serial then { x with phase := .effect } else x)) ∧
  (∀ (slot : Fin 4096) (p : Nat) (s : State), cutPos s slot.val = some p → planRuns s → p ≤ nowPos s →
    ∃ t, exec (.cutoffTake slot) s = .next t ∧ cutoffTaken slot.val t ∧ t.dev = s.dev) ∧
  (∀ (idx : Fin 16384) (a : Act) (s : State),
    s.plan.acts.find? (fun a => decide (a.idx = idx.val) && a.isBank && decide (a.phase = .effect)) = some a →
    a.effectAt + entMax a.w1 ≤ s.pt → s.shp[Fin.ofNat 16 a.bank].endReqAt = none →
    s.banks[Fin.ofNat 16 a.bank].holder = some a.serial → s.shp[Fin.ofNat 16 a.bank].running → endDue s a = false →
    ∃ t, exec (.maxDuration idx) s = .next t ∧ t.shp[Fin.ofNat 16 a.bank].endReqAt = some s.pt ∧
      t.shp[Fin.ofNat 16 a.bank].e ∧ t.banks = s.banks) ∧
  (∀ (idx : Fin 16384) (a : Act) (s : State), waitingEntry s idx.val = some a → a.kind = 5 → a.target + a.dlim < s.pt →
    ∃ t, exec (.waitLimitExpire idx) s = .next t ∧ t.plan.acts = s.plan.acts.filter (fun x => x.serial != a.serial)) ∧
  (∀ (idx : Fin 16384) (a : Act) (s : State), waitingEntry s idx.val = some a → a.kind = 8 → dmaLimit a < s.pt →
    ∃ t, exec (.waitLimitExpire idx) s = .next t ∧ t.plan.acts = s.plan.acts.filter (fun x => x.serial != a.serial)) ∧
  (∀ s : State, s.islandHeld 2 = false → govLatched s → ∃ t, exec .govClear s = .next t ∧ t.flag PLAN.base PLAN.GOV_CLEAR ∧
      t = { s with regs := t.regs }) ∧
  (∀ (i l : Nat) (rest : List (Nat × Nat)) (s : State), s.plan.lateLog = (i, l) :: rest → ∃ t, exec .latePop s = .next t ∧
      t.plan.lateLog = rest ∧ t.respData = [toWord (2 ^ 31 + l % 2 ^ 14 * 2 ^ 16 + i % 2 ^ 14)] ∧
      t = { s with plan := t.plan, respData := t.respData, respErr := t.respErr }) ∧
  (∀ s : State, s.plan.lateLog = [] → ∃ t, exec .latePop s = .next t ∧ t.respData = [0] ∧ t.plan = s.plan) ∧
  (∀ (c : Fin 4) (k : TaskRun) (s : State), s.ptStands = false → s.cores[c].task = some k → k.overrun = false →
    k.start + k.budget ≤ s.pt → s.dev.st ≠ .park → s.cores[c].parked = false →
    (nextSlotCome s c = false → ∃ t, exec (.taskOverrun c) s = .next t ∧ t.cores[c].task = some { k with overrun := true } ∧
      t.rd PLAN.base PLAN.GOV_CNT1_DEADLINE = sat PLAN.GOV_CNT1_DEADLINE.top (s.rd PLAN.base PLAN.GOV_CNT1_DEADLINE + 1) ∧
      (∃ x ∈ t.inFlight, x.src = 52 ∧ x.raisedAt = s.tick)) ∧
    (nextSlotCome s c → ∃ t, exec (.taskOverrun c) s = .next t ∧ t.cores[c].task = none ∧
      t.rd PLAN.base PLAN.GOV_CNT1_DEADLINE = sat PLAN.GOV_CNT1_DEADLINE.top (s.rd PLAN.base PLAN.GOV_CNT1_DEADLINE + 1) ∧
      t.rd (cr c) CORE.CNT_ABANDONS = sat CORE.CNT_ABANDONS.top (s.rd (cr c) CORE.CNT_ABANDONS + 1))) ∧
  (∀ (idx : Fin 16384) (a : Act) (s : State), waitingEntry s idx.val = some a → a.kind = 4 →
    s.conv[Fin.ofNat 4 (scanConv (scanEnt s a))].waiting = some a.serial → waitLimit s a < s.pt →
    ∃ t, exec (.waitLimitExpire idx) s = .next t ∧ t.plan.acts = s.plan.acts.filter (fun x => x.serial != a.serial) ∧
      t.conv[Fin.ofNat 4 (scanConv (scanEnt s a))].waiting = none) ∧
  (∀ (idx : Fin 16384) (a : Act) (n : Fin 16) (s : State), s.ptStands = false → dueEntry s idx.val = some a →
    goesFirst s a = false → a.kind = 3 → entRes a.w0 / 16 % 16 = n.val →
    softWrote s n (propOff (entRes a.w0 % 16)) = false → ∃ t, exec (.actionTakeEffect idx) s = .next t ∧ t.plan.acts = s.plan.acts.filter (fun x => x.serial != a.serial) ∧
      (entRes a.w0 % 16 = 0 → t.rd (pw n) PWN.DUTY_A_COUNT = a.value % 65536) ∧
      (entRes a.w0 % 16 = 1 → t.rd (pw n) PWN.DUTY_B_COUNT = a.value % 65536) ∧
      (entRes a.w0 % 16 = 2 → t.rd (pw n) PWN.PERIOD_P = a.value % 65536)) ∧
  (∀ (idx : Fin 16384) (a : Act) (s : State), s.ptStands = false → dueEntry s idx.val = some a →
    goesFirst s a = false → a.kind = 4 → exec (.actionTakeEffect idx) s = exec (.sampleClaim (Fin.ofNat 4 (scanConv (scanEnt s a)))) s) ∧
  (∀ (idx : Fin 16384) (a : Act) (s : State), s.ptStands = false → dueEntry s idx.val = some a →
    goesFirst s a = false → a.kind = 5 → slotHeld s a = none → ∃ t, exec (.actionTakeEffect idx) s = .next t ∧ t.plan.acts = s.plan.acts.filter (fun x => x.serial != a.serial) ∧
      t.cores[taskCore a].releases = s.cores[taskCore a].releases ++
        [⟨taskSlot a, a.idx, a.value % 65536, s.pt, a.excused, a.order⟩]) ∧
  (∀ (idx : Fin 16384) (a : Act) (n : Fin 16) (s : State), s.ptStands = false → dueEntry s idx.val = some a →
    goesFirst s a = false → a.kind = 6 → entRes a.w0 % 16 = n.val → s.tmr[n].held = false → a.value % 4 ≠ 0 → ∃ t, exec (.actionTakeEffect idx) s = .next t ∧ t.plan.acts = s.plan.acts.filter (fun x => x.serial != a.serial) ∧
      t.tmr[n].tio = (match a.value % 4 with | 1 => false | 2 => true | _ => !s.tmr[n].tio)) ∧
  (∀ (idx : Fin 16384) (a : Act) (s : State), s.ptStands = false → dueEntry s idx.val = some a →
    goesFirst s a = false → a.kind = 8 → s.clockOff 0x60 = false → flumeState s (dmaChan a) = 0 → fl s (dmaChan a) FLC.COUNT_BYTES ≠ 0 → startOk s (dmaChan a) →
    ∃ t, exec (.actionTakeEffect idx) s = .next t ∧ t.plan.acts = s.plan.acts.filter (fun x => x.serial != a.serial) ∧ flumeState t (dmaChan a) = 1) ∧
  (∀ (idx : Fin 16384) (a : Act) (p : Fin 2) (s : State), s.ptStands = false → dueEntry s idx.val = some a →
    goesFirst s a = false → a.kind = 9 → s.dev.epochOpen → entRes a.w0 < 128 → pathPort s (entRes a.w0 % 8) = some p →
    s.link.ports[p].unacked.length < 32 → ∃ t, exec (.actionTakeEffect idx) s = .next t ∧ t.plan.acts = s.plan.acts.filter (fun x => x.serial != a.serial) ∧
      ∃ g ∈ t.link.ports[p].unacked, g.typ = 4 ∧ g.dst = entRes a.w0 % 8 ∧ g.body.head? = some (a.value % 2 ^ 32))

/-- The Headgate takes orders: a write of SUB0 to SUB2 goes into the initiator's own buffer and nowhere else (R192); a
write of SUB3 submits the buffer, judged against the queue and the journal as the records of the tick so far leave them (the
model's reading, log entry 10; they are written at the tick's end, R203): an order that passes every check of R193 is
answered ACK, enters the queue tail and becomes SEQ_LAST (R194), a duplicate is answered DUP and changes no order and not
SEQ_LAST, and a refused one is answered with its reason and changes neither the queue nor SEQ_LAST (R193, R194); a write by an initiator without a buffer ends in a bus error and reaches no buffer
(R192); writes to the queue and journal areas are discarded and counted (R190, R199); under a reset a submission does
nothing (R210); a write of RD waits for the end of its tick, where a release of records not past WR takes effect, and a
later one is ignored and counted (R206); the LOSS marker is written once there is room (R204). -/
def Obligations.HeadgateTakesAndRefusesOrders : Prop :=
  (∀ (init : Initiator) (n : Fin 3) (v : Word) (j : Fin 8) (s : State), submitterOf init = some j → s.islandHeld 2 = false →
    ∃ t, exec (.subWrite init n v) s = .next t ∧
      t.hdg.staging[j] = (match n with
        | 0 => { s.hdg.staging[j] with sub0 := v }
        | 1 => { s.hdg.staging[j] with sub1 := v }
        | 2 => { s.hdg.staging[j] with sub2 := v }) ∧
      (∀ i : Fin 8, i ≠ j → t.hdg.staging[i] = s.hdg.staging[i]) ∧ t.hdg.queue = s.hdg.queue ∧
      t = { s with hdg := t.hdg }) ∧
  (∀ (init : Initiator) (n : Fin 3) (v : Word) (s : State), submitterOf init = none →
    ∃ t, exec (.subWrite init n v) s = .next t ∧ t.respErr ∧ t.hdg = s.hdg) ∧
  (∀ (init : Initiator) (v : Word) (j : Fin 8) (s d : State), submitterOf init = some j →
    s.held = false → s.islandHeld 2 = false → d = flushRecs (updStaging j (fun b => { b with sub3 := v }) s) →
    judge { s.hdg.staging[j] with sub3 := v } d = .ack →
    (bits s.hdg.staging[j].sub1.toNat 15 0 = s.dev.cycle → cutoffTaken (bits v.toNat 11 0) s = false) →
    ∃ t, exec (.sub3Submit init v) s = .next t ∧
      t.hdg.queue = s.hdg.queue ++ [Machine.orderOf { s.hdg.staging[j] with sub3 := v }] ∧
      seqLast t = s.hdg.staging[j].sub0.toNat ∧ t.respData = [toWord (2 ^ 30 + (occ d + 1))] ∧ t.respErr = false) ∧
  (∀ (init : Initiator) (v : Word) (j : Fin 8) (s d : State), submitterOf init = some j →
    s.held = false → s.islandHeld 2 = false → d = flushRecs (updStaging j (fun b => { b with sub3 := v }) s) →
    judge { s.hdg.staging[j] with sub3 := v } d = .dup →
    ∃ t, exec (.sub3Submit init v) s = .next t ∧ t.hdg.queue = s.hdg.queue ∧ seqLast t = seqLast s ∧
      t.rd HDG.base HDG.REF_CNT2_DUP = sat 65535 (s.rd HDG.base HDG.REF_CNT2_DUP + 1) ∧
      t.respData = [toWord (2 * 2 ^ 30 + occ d)] ∧
      t = { s with hdg := t.hdg, regs := t.regs, respData := t.respData, respErr := false }) ∧
  (∀ (init : Initiator) (v : Word) (j : Fin 8) (k : Nat) (s d : State), submitterOf init = some j →
    s.held = false → s.islandHeld 2 = false → d = flushRecs (updStaging j (fun b => { b with sub3 := v }) s) →
    judge { s.hdg.staging[j] with sub3 := v } d = .refused k →
    ∃ t, exec (.sub3Submit init v) s = .next t ∧ t.hdg.queue = s.hdg.queue ∧ seqLast t = seqLast s ∧
      t.respData = [toWord (3 * 2 ^ 30 + k * 2 ^ 24 + occ d)] ∧ t.mem = s.mem) ∧
  (∀ (init : Initiator) (a : Word) (l : List Byte) (s : State), regionOf a.toNat = some .queue →
    ∃ t, exec (.queueAreaWrite init a l) s = .next t ∧
      t.rd HDG.base HDR.ERR_COUNT = sat 65535 (s.rd HDG.base HDR.ERR_COUNT + 1) ∧ t = { s with regs := t.regs }) ∧
  (∀ (init : Initiator) (a : Word) (l : List Byte) (s : State), regionOf a.toNat = some .journal →
    ∃ t, exec (.journalAreaWrite init a l) s = .next t ∧
      t.rd JRN.base HDR.ERR_COUNT = sat 65535 (s.rd JRN.base HDR.ERR_COUNT + 1) ∧ t = { s with regs := t.regs }) ∧
  (∀ (init : Initiator) (v : Word) (s : State), s.held →
    ∃ t, exec (.sub3Submit init v) s = .next t ∧ t = s) ∧
  (∀ (v : Word) (s : State), ∃ t, exec (.jrnRdWrite v) s = .next t ∧ t.hdg.rdWrites = s.hdg.rdWrites ++ [v] ∧
      t.hdg.queue = s.hdg.queue ∧ t = { s with hdg := t.hdg }) ∧
  (∀ (v : Word) (s : State), s.hdg.rdWrites = [v] →
    (v.toNat + 2 ^ 32 - s.rd JRN.base JRN.RD_COUNT) % 2 ^ 32 ≤ jrnFill s →
    (jrnRdEnd s).rd JRN.base JRN.RD_COUNT = v.toNat ∧
      jrnRdEnd s = { s with regs := (jrnRdEnd s).regs, hdg := { s.hdg with rdWrites := [] } }) ∧
  (∀ (v : Word) (s : State), s.hdg.rdWrites = [v] →
    jrnFill s < (v.toNat + 2 ^ 32 - s.rd JRN.base JRN.RD_COUNT) % 2 ^ 32 →
    (jrnRdEnd s).rd JRN.base JRN.RD_COUNT = s.rd JRN.base JRN.RD_COUNT ∧
      (jrnRdEnd s).rd JRN.base HDR.ERR_COUNT = sat 65535 (s.rd JRN.base HDR.ERR_COUNT + 1) ∧
      jrnRdEnd s = { s with regs := (jrnRdEnd s).regs, hdg := { s.hdg with rdWrites := [] } }) ∧
  (∀ (a b : BitVec 5) (s : State), s.held → s.sys.commits = [] → ∃ t, exec (.accumulatorTick a b) s = .next t ∧
      t.rd JRN.base JRN.RD_COUNT = (jrnRdEnd s).rd JRN.base JRN.RD_COUNT ∧ t.hdg.rdWrites = []) ∧
  (∀ s : State, 0 < s.hdg.lossPend → occ s + s.hdg.recs.countP JrnRec.isAction < jrnFree s → ∃ t, exec .lossMarker s = .next t ∧ t.hdg.lossPend = 0 ∧
      t.hdg.queue = s.hdg.queue ∧ t.dev = s.dev)

/-- The banks are granted, freed and checked: a command whose bank is free and unlocked is granted (R226), one for a
locked channel is dropped and counted in SLUICE_CNT.DROPS (R229, R235); a bank whose free time has passed is free again
(R225); a deferred request that can no longer meet its limit is dropped and counted (R228, R229), judged by the earliest
instant of log entry 71; an open load, a short, an overcurrent, a missing clamp and a stuck decay set their FAULT bits, a
short that of the bank's channel, and do what R223 and R232 to R234 state; the bootstrap levels hold and release the
switches (R221); the boost voltage and the current code are taken (R219, R224), the code by the full scale SENSE_GAIN
chooses; an unlock acts on a bank granted to no channel and is held otherwise (R235). -/
def Obligations.BanksGrantFreeAndCheck : Prop :=
  (∀ (b : Fin 16) (a : Act) (s : State),
    s.plan.acts.find? (fun a => a.isBank && decide (a.bank = b.val) && decide (a.phase = .issued)) = some a →
    a.issued + 8 ≤ s.pt → locked s.banks[b] a.chan = false → bankFreeNow s.banks[b] → s.banks[b].queue = [] →
    ∃ t, exec (.bankCommand b) s = .next t ∧ t.banks[b].grant = some (Fin.ofNat 4 a.chan) ∧
      t.banks[b].holder = some a.serial ∧ t.plan.acts = s.plan.acts.map (fun x =>
        if x.serial = a.serial then { x with phase := .granted, effectAt := a.target } else x) ∧
      t = { s with banks := t.banks, plan := t.plan }) ∧
  (∀ (b : Fin 16) (a : Act) (s : State),
    s.plan.acts.find? (fun a => a.isBank && decide (a.bank = b.val) && decide (a.phase = .issued)) = some a →
    a.issued + 8 ≤ s.pt → locked s.banks[b] a.chan →
    ∃ t, exec (.bankCommand b) s = .next t ∧ t.plan.acts = s.plan.acts.filter (fun x => x.serial != a.serial) ∧
      t.rd (BANK.base b) BANK.SLUICE_CNT_DROPS = sat BANK.SLUICE_CNT_DROPS.top (s.rd (BANK.base b) BANK.SLUICE_CNT_DROPS + 1) ∧
      (∃ x ∈ t.inFlight, x.src = 64 + 4 * b.val ∧ x.raisedAt = s.tick) ∧ t.banks = s.banks) ∧
  (∀ (b : Fin 16) (e : Nat) (s : State), s.banks[b].ended = some e → e + 40 ≤ s.tick → s.banks[b].zeroSeen →
    s.banks[b].queue = [] → ∃ t, exec (.bankFree b) s = .next t ∧ bankFreeNow t.banks[b] ∧ t.banks[b].holder = none ∧
      t.plan = s.plan) ∧
  (∀ (b : Fin 16) (q : Nat) (a : Act) (s : State), s.banks[b].queue = [q] → findAct s q = some a →
    a.target + a.dlim < earliestEffect s b a →
    ∃ t, exec (.deferLimitExpire b) s = .next t ∧ t.banks[b].queue = [] ∧
      t.rd (BANK.base b) BANK.SLUICE_CNT_DROPS = sat BANK.SLUICE_CNT_DROPS.top (s.rd (BANK.base b) BANK.SLUICE_CNT_DROPS + 1) ∧
      (∃ x ∈ t.inFlight, x.src = 64 + 4 * b.val ∧ x.raisedAt = s.tick) ∧ t.plan.acts = s.plan.acts.filter (fun x => x.serial != a.serial)) ∧
  (∀ (b : Fin 16) (t0 : Nat) (ch : Fin 4) (s : State), s.banks[b].checkAt = some t0 → s.banks[b].grant = some ch →
    s.cfg (BANK.base b) BANK.OPEN_CFG_T ≠ 0 → s.banks[b].openDone = false →
    t0 + 16 * s.cfg (BANK.base b) BANK.OPEN_CFG_T ≤ s.tick → bit (s.reg (BANK.base b + 0x5C)).toNat (8 + ch.val) = false →
    ∃ t, exec (.openLoadTimeout b) s = .next t ∧ t.banks[b].openDone ∧
      t.reg (BANK.base b + 0x5C) = s.reg (BANK.base b + 0x5C) ||| toWord (2 ^ (8 + ch.val)) ∧ t.plan = s.plan) ∧
  (∀ (b : Fin 16) (t0 : Nat) (ch : Fin 4) (s : State), s.banks[b].checkAt = some t0 → s.banks[b].grant = some ch →
    s.cfg (BANK.base b) BANK.SHORT_CFG_T ≠ 0 → s.banks[b].shortDone = false →
    s.tick < t0 + 16 * s.cfg (BANK.base b) BANK.SHORT_CFG_T →
    s.cfg (BANK.base b) BANK.SHORT_CFG_LVL ≤ s.rd (BANK.base b) BANK.SENSE_I →
    ∃ t, exec (.shortDetect b) s = .next t ∧ t.banks[b].shortDone ∧ t.banks[b].mask = 0 ∧
      bit (t.reg (BANK.base b + 0x5C)).toNat (12 + ch.val) ∧
      (bit (s.reg (BANK.base b + 0x5C)).toNat (12 + ch.val) = false →
        ∃ x ∈ t.inFlight, x.src = 65 + 4 * b.val ∧ x.raisedAt = s.tick) ∧
      t.banks[b].chLock = (if s.on (BANK.base b) BANK.CFG_LOCK_ON_SHORT then s.banks[b].chLock ||| 2 ^ ch.val
        else s.banks[b].chLock) ∧
      (if actionOn s b then t.banks[b].grant = none ∧ t.shp[b].running = false
       else t.banks[b].grant = s.banks[b].grant ∧ t.plan = s.plan)) ∧
  (∀ (b : Fin 16) (s : State), s.cfg (BANK.base b) BANK.OC_CFG_LVL ≤ s.rd (BANK.base b) BANK.SENSE_I →
    ∃ t, exec (.overcurrentTrip b) s = .next t ∧ t.banks[b].mask = 0 ∧ t.flag (BANK.base b) BANK.FAULT_OC ∧
      t.banks[b].bankLock = (s.banks[b].bankLock || s.on (BANK.base b) BANK.CFG_LOCK_ON_OC) ∧
      (if actionOn s b then t.banks[b].grant = none ∧ t.shp[b].running = false
       else t.banks[b].grant = s.banks[b].grant ∧ t.plan = s.plan)) ∧
  (∀ (b : Fin 16) (t0 : Nat) (s : State), s.banks[b].clampAt = some t0 → s.on (BANK.base b) BANK.CFG_CLAMP_EN →
    t0 + 200 ≤ s.tick → s.banks[b].clampSeen = false →
    ∃ t, exec (.clampMiss b) s = .next t ∧ t.banks[b].clampAt = none ∧ t.flag (BANK.base b) BANK.FAULT_CLAMP_MISS) ∧
  (∀ (b : Fin 16) (t0 : Nat) (s : State), s.banks[b].decayAt = some t0 → s.banks[b].stuckDone = false →
    t0 + 400 * s.cfg (BANK.base b) BANK.DECAY_CFG_TMO ≤ s.tick →
    ∃ t, exec (.decayStuck b) s = .next t ∧ t.banks[b].bankLock ∧ t.banks[b].decayAt = some t0 ∧
      t.flag (BANK.base b) BANK.FAULT_DECAY_STUCK) ∧
  (∀ (b : Fin 16) (s : State), ∃ t, exec (.bootUv b true) s = .next t ∧ t.banks[b].bootOffH ∧
      t.flag (BANK.base b) BANK.FAULT_BOOT_UV_H) ∧
  (∀ (b : Fin 16) (s : State), ∃ t, exec (.bootUv b false) s = .next t ∧ t.banks[b].bootOffB ∧
      t.flag (BANK.base b) BANK.FAULT_BOOT_UV_B) ∧
  (∀ (b : Fin 16) (hs : Bool) (s : State), ∃ t, exec (.bootUvRelease b hs) s = .next t ∧
      (if hs then t.banks[b].bootOffH = false ∧ t.banks[b].bootOffB = s.banks[b].bootOffB
       else t.banks[b].bootOffB = false ∧ t.banks[b].bootOffH = s.banks[b].bootOffH) ∧ t = { s with banks := t.banks }) ∧
  (∀ (b : Fin 16) (code : BitVec 10) (s : State), ∃ t, exec (.boostSample b code) s = .next t ∧
      t.rd (BANK.base b) BANK.SENSE_BOOSTV = code.toNat ∧
      (code.toNat < s.cfg (BANK.base b) BANK.BOOST_CFG_UV → t.flag (BANK.base b) BANK.FAULT_BOOST_UV) ∧ t.banks = s.banks) ∧
  (∀ (b : Fin 16) (v : Word) (s : State), notGranted s b → ∃ t, exec (.bankUnlock b v) s = .next t ∧
      t.banks[b].bankLock = (s.banks[b].bankLock && !bit (s.reg (BANK.base b + 0x70) ||| (v &&& 0x1F)).toNat 4) ∧
      t.reg (BANK.base b + 0x70) = 0 ∧ t = { s with regs := t.regs, banks := t.banks }) ∧
  (∀ (b : Fin 16) (v : Word) (s : State), notGranted s b = false → ∃ t, exec (.bankUnlock b v) s = .next t ∧
      t.reg (BANK.base b + 0x70) = s.reg (BANK.base b + 0x70) ||| (v &&& 0x1F) ∧ t = { s with regs := t.regs }) ∧
  (∀ (b : Fin 16) (uv : Word) (clamp : Bool) (s : State), s.shp[b].dipFrom = none → s.shp[b].running = false →
    ∃ t, exec (.bankSenseSample b uv clamp) s = .next t ∧
      t.rd (BANK.base b) BANK.SENSE_I = senseOf (s.on (BANK.base b) BANK.CFG_SENSE_GAIN) uv.toInt ∧
      t.banks[b].clamp = clamp ∧ t.banks[b].mask = s.banks[b].mask ∧ t.shp = s.shp)

/-- The Levee's window advances and truncates (R237, R240); a granted action's profile starts at its ENTRY with the flags
cleared (R248, R251), a restart starts at BOOST (R261); the end request sets E (R254, R257); an action whose END has
executed ends and its bank begins to become free, a new command that waited for its profile now waiting for the bank
(R225, R258; log entry 72, the model's reading); a tail overrun ends the bank (R259); a dip is detected and its delay
taken (R263); a window that closes without a dip sets NODIP, counts NODIPS and raises the bank's shaper source (R267); a
wait whose condition holds or whose time has run out goes on, T set where the time ran out (R253 to R255), the steps after
it counted from the command (log entry 79). -/
def Obligations.ShaperProfilesStartAndEnd : Prop :=
  (∀ s : State, s.sys.coldBusy = false → s.lev.sliceStart + levWindow s * 6250 ≤ s.tick →
    ∃ t, exec .leveeSlice s = .next t ∧ t.lev.sliceStart = s.lev.sliceStart + levWindow s * 6250 ∧
      (∀ e ∈ t.lev.units, e.2.now = 0) ∧ t = { s with lev := t.lev }) ∧
  (∀ (b : Fin 16) (ch : Fin 4) (a : Act) (s : State), s.banks[b].grant = some ch → holderAct s b = some a →
    a.phase = .effect → endReached s b = false → levLimit s b true ≤ levUsed s (64 + b.val) ∨ levLimit s b false ≤ levUsed s (4 * b.val + ch.val) →
    ∃ t, exec (.leveeExhaust b) s = .next t ∧ t.banks[b].grant = none ∧ t.banks[b].mask = 0 ∧
      t.shp[b].running = false) ∧
  (∀ (b : Fin 16) (ch : Fin 4) (a : Act) (s : State), s.banks[b].grant = some ch → holderAct s b = some a →
    a.phase = .granted → s.shp[b].running = false → s.shp[b].endAt = none → a.effectAt ≤ s.pt + 8 → s.ptStands = false →
    s.sys.dHold = false → locked s.banks[b] a.chan = false → leveeAllows s b a → ∃ t, exec (.profileStart b) s = .next t ∧ t.shp[b].running ∧
      t.shp[b].chan = ch ∧ t.shp[b].pc = profEntry (profWord s b.val (entProf a.w0)) ∧ t.shp[b].nextAt = s.pt ∧
      t.shp[b].e = false ∧ t.shp[b].d = false ∧ t.shp[b].t = false ∧ t.banks = s.banks) ∧
  (∀ (b : Fin 16) (r : Nat) (rest : List Nat) (n a : Act) (s : State), s.banks[b].restart = r :: rest →
    findAct s r = some n → holderAct s b = some a → restartInst n (a.effectAt, entMin a.w1) ≤ s.pt + 8 → a.phase = .effect →
    s.shp[b].running → s.ptStands = false → leveeAllows s b n →
    ∃ t, exec (.profileRestart b) s = .next t ∧ t.shp[b].running ∧ t.shp[b].restarted ∧ t.shp[b].e = false ∧
      t.shp[b].pc = profBoost (profWord s b.val (entProf n.w0)) ∧ t.banks[b].restart = rest ∧
      t.banks[b].holder = some n.serial) ∧
  (∀ (b : Fin 16) (a : Act) (s : State), holderAct s b = some a → a.phase = .effect → s.shp[b].endReqAt = none →
    endDue s a → s.shp[b].running → ∃ t, exec (.endRequest b) s = .next t ∧ t.shp[b].e ∧
      t.shp[b].endReqAt = some s.pt ∧ t = { s with shp := t.shp, plan := t.plan }) ∧
  (∀ (b : Fin 16) (a : Act) (e : Nat) (s : State), holderAct s b = some a → s.shp[b].endAt = some e →
    a.phase = .effect → max e (a.effectAt + entMin a.w1) ≤ s.pt → ∃ t, exec (.actionNormalEnd b) s = .next t ∧
      t.banks[b].holder = none ∧ t.banks[b].ended.isSome ∧ t.shp[b].endAt = none ∧ t.banks[b].restart = [] ∧
      (s.banks[b].restart = [] → t.banks[b].queue = s.banks[b].queue ∧
        t.plan.acts = s.plan.acts.filter (fun x => x.serial != a.serial)) ∧
      (∀ (q : Nat) (n : Act), s.banks[b].restart = [q] → findAct s q = some n → q ≠ a.serial → s.banks[b].queue = [] →
        t.banks[b].queue = [q] ∧ t.plan.acts = s.plan.acts.filter (fun x => x.serial != a.serial))) ∧
  (∀ (b : Fin 16) (e : Nat) (s : State), s.shp[b].endReqAt = some e → s.shp[b].running →
    e + 400 * s.cfg SHP.base SHP.CFG_TAIL_MAX ≤ s.pt → ∃ t, exec (.tailOverrun b) s = .next t ∧
      t.banks[b].mask = 0 ∧ t.banks[b].grant = none ∧ t.shp[b].running = false) ∧
  (∀ (b : Fin 16) (f : Nat) (sl : Int) (a : Act) (s : State), s.shp[b].dipFrom = some f →
    dipSlope s.shp[b].dipCodes (s.cfg (SHPB.base b) SHPB.DIP_CFG_SPAN) = some sl → holderAct s b = some a →
    s.shp[b].dipRisen → sl ≤ signed 8 (s.cfg (SHPB.base b) SHPB.DIP_CFG_TH) →
    ∃ t, exec (.dipDetect b) s = .next t ∧ t.shp[b].d ∧ t.shp[b].dipFrom = none ∧
      t.shp[b].held = some (s.pt - 8 - a.effectAt, s.shp[b].dipLearn) ∧ t = { s with shp := t.shp, regs := t.regs }) ∧
  (∀ (b : Fin 16) (f : Nat) (s : State), s.shp[b].dipFrom = some f → s.shp[b].dipUntil ≤ s.pt →
    ∃ t, exec (.dipWindowClose b) s = .next t ∧ t.shp[b].dipFrom = none ∧
      bit (t.reg (SHPB.base b + 0x18)).toNat (12 + s.shp[b].chan.val) ∧
      t.rd (SHPC.base b s.shp[b].chan) SHPC.DTRIM_NODIPS = sat SHPC.DTRIM_NODIPS.top
        (s.rd (SHPC.base b s.shp[b].chan) SHPC.DTRIM_NODIPS + 1) ∧
      (bit (s.reg (SHPB.base b + 0x18)).toNat (12 + s.shp[b].chan.val) = false →
        ∃ x ∈ t.inFlight, x.src = 67 + 4 * b.val ∧ x.raisedAt = s.tick) ∧ t.banks = s.banks) ∧
  (∀ (b : Fin 16) (u : Nat) (s : State), s.shp[b].running → s.ptStands = false → s.shp[b].wait = .time u → u ≤ s.pt →
    ∃ t, exec (.shpWaitEnd b) s = .next t ∧ t.shp[b].pc = (s.shp[b].pc + 1) % 4096 ∧ t.shp[b].wait = .none ∧
      t.shp[b].nextAt = s.pt ∧ t = { s with shp := t.shp }) ∧
  (∀ (b : Fin 16) (rise : Bool) (lv u : Nat) (s : State), s.shp[b].running → s.ptStands = false →
    s.shp[b].wait = .level rise lv u → u ≤ s.pt → ∃ t, exec (.shpWaitEnd b) s = .next t ∧ t.shp[b].t ∧
      t.shp[b].pc = (s.shp[b].pc + 1) % 4096 ∧ t.shp[b].wait = .none ∧ t = { s with shp := t.shp }) ∧
  (∀ (b : Fin 16) (rise : Bool) (lv u : Nat) (s : State), s.shp[b].running → s.ptStands = false → s.shp[b].wait = .level rise lv u → s.pt < u →
    levelHolds (senseCode s b) rise lv → ∃ t, exec (.shpWaitEnd b) s = .next t ∧ t.shp[b].pc = (s.shp[b].pc + 1) % 4096 ∧ t.shp[b].wait = .none ∧
      t.shp[b].nextAt = s.pt + 2 ∧ t.shp[b].t = s.shp[b].t ∧ t = { s with shp := t.shp }) ∧
  (∀ (b : Fin 16) (fast : Bool) (hi lo u : Nat) (s : State), s.shp[b].running → s.ptStands = false → s.shp[b].wait = .chop true fast hi lo u → s.shp[b].e → ∃ t, exec (.shpWaitEnd b) s = .next t ∧ t.shp[b].pc = (s.shp[b].pc + 1) % 4096 ∧ t.shp[b].wait = .none ∧
      t.shp[b].nextAt = s.pt + 2 ∧ t.shp[b].t = s.shp[b].t ∧ t = { s with shp := t.shp }) ∧
  (∀ (b : Fin 16) (ue fast : Bool) (hi lo u : Nat) (s : State), s.shp[b].running → s.ptStands = false → s.shp[b].wait = .chop ue fast hi lo u → (ue = false ∨ s.shp[b].e = false) → u ≤ s.pt → ∃ t, exec (.shpWaitEnd b) s = .next t ∧ t.shp[b].pc = (s.shp[b].pc + 1) % 4096 ∧ t.shp[b].wait = .none ∧
      t.shp[b].nextAt = s.pt + 2 ∧ t.shp[b].t ∧ t = { s with shp := t.shp }) ∧
  (∀ (b : Fin 16) (u : Nat) (s : State), s.shp[b].running → s.ptStands = false → s.shp[b].wait = .dip u → s.shp[b].d → ∃ t, exec (.shpWaitEnd b) s = .next t ∧ t.shp[b].pc = (s.shp[b].pc + 1) % 4096 ∧ t.shp[b].wait = .none ∧
      t.shp[b].nextAt = s.pt + 2 ∧ t.shp[b].t = s.shp[b].t ∧ t = { s with shp := t.shp }) ∧
  (∀ (b : Fin 16) (u : Nat) (s : State), s.shp[b].running → s.ptStands = false → s.shp[b].wait = .dip u → s.shp[b].d = false → u ≤ s.pt → ∃ t, exec (.shpWaitEnd b) s = .next t ∧ t.shp[b].pc = (s.shp[b].pc + 1) % 4096 ∧ t.shp[b].wait = .none ∧
      t.shp[b].nextAt = s.pt ∧ t.shp[b].t ∧ t = { s with shp := t.shp }) ∧
  (∀ (b : Fin 16) (s : State), s.shp[b].dipFrom = none ∨ s.pt < s.shp[b].dipUntil → ∃ t, exec (.dipWindowClose b) s = .next t ∧ t = s)

/-- The shaper's microcode: a running, due shaper that fetches a correct word of an opcode does what R253 to R255 and R263
state for it: END ends the profile with every switch off; SETSW commands the mask under the interlocks; WAITT, WAITI, DIPW
and FASTOFF go on at once or wait; CHOP takes its first mask and counts its time; JMP and JIF go to their address; MARK
takes the low word of PT and sets MARKEVT where EVT asks for it. (How a wait ends is stated in ShaperProfilesStartAndEnd.)
-/
def Obligations.ShaperMicrocodeRuns : Prop :=
  ∀ (b : Fin 16) (w : Nat) (s : State), ucDue b s = some w → secBad s (ucAddress s.shp[b].pc) = 0 →
    (ucOp w = 0 → ∃ t, exec (.shpEnd b) s = .next t ∧ t.shp[b].running = false ∧ t.shp[b].endAt = some s.pt ∧
      t.banks[b].mask = 0) ∧
    (ucOp w = 1 → ∃ t, exec (.setsw b) s = .next t ∧ t.banks[b].mask = interlock s.banks[b].grant
        (bits w 5 0 ||| (if bit w 6 then 2 ^ s.shp[b].chan.val else 0)) ∧
      t.shp[b].pc = (s.shp[b].pc + 1) % 4096 ∧ t.shp[b].nextAt = s.pt + 2) ∧
    (ucOp w = 2 → ∃ t, exec (.shpWaitt b) s = .next t ∧ t = { s with shp := t.shp } ∧
      (if ucSteps w = 0 then t.shp[b].pc = (s.shp[b].pc + 1) % 4096 ∧ t.shp[b].nextAt = s.pt + 2
       else t.shp[b].wait = .time (s.pt + 2 * ucSteps w) ∧ t.shp[b].pc = s.shp[b].pc)) ∧
    (ucOp w = 3 → ∃ t, exec (.waiti b) s = .next t ∧ t = { s with shp := t.shp } ∧ t.shp[b].t = false ∧
      (if levelHolds (senseCode s b) (bit w 7) (weir s.shp[b] (bits w 2 0)) then
        t.shp[b].pc = (s.shp[b].pc + 1) % 4096 ∧ t.shp[b].nextAt = s.pt + 2
       else t.shp[b].wait = .level (bit w 7) (weir s.shp[b] (bits w 2 0)) (s.pt + 2 * max (ucSteps w) 1))) ∧
    (ucOp w = 4 → ucSteps w ≠ 0 → ∃ t, exec (.chop b) s = .next t ∧ t.shp[b].t = false ∧
      (chops s.banks[b].mask = false ∨ senseCode s b < weir s.shp[b] (bits w 5 3) → t.banks[b].mask = s.banks[b].mask) ∧
      (chops s.banks[b].mask → weir s.shp[b] (bits w 5 3) ≤ senseCode s b →
        t.banks[b].mask = interlock s.banks[b].grant (chopOff s.banks[b].mask (bit w 6))) ∧
      t.shp[b].onMask = s.banks[b].mask ∧ t.shp[b].wait = .chop (bit w 7) (bit w 6) (weir s.shp[b] (bits w 5 3))
        (weir s.shp[b] (bits w 2 0)) (s.pt + 2 * ucSteps w)) ∧
    (ucOp w = 4 → ucSteps w = 0 → ∃ t, exec (.chop b) s = .next t ∧ t.shp[b].t ∧
      t.shp[b].pc = (s.shp[b].pc + 1) % 4096 ∧ t = { s with shp := t.shp }) ∧
    (ucOp w = 5 → ∃ t, exec (.dipw b) s = .next t ∧ t = { s with shp := t.shp } ∧ t.shp[b].d = false ∧
      (ucSteps w ≠ 0 → t.shp[b].dipFrom = some s.pt ∧ t.shp[b].dipUntil = s.pt + 2 * ucSteps w ∧
        t.shp[b].dipLearn = bit w 0) ∧
      (if bit w 1 then t.shp[b].wait = .dip (s.pt + 2 * max (ucSteps w) 1)
       else t.shp[b].pc = (s.shp[b].pc + 1) % 4096)) ∧
    (ucOp w = 6 → ∃ t, exec (.fastoff b) s = .next t ∧ t.banks[b].mask = 0 ∧ t.shp[b].t = false ∧
      (if levelHolds (senseCode s b) false (weir s.shp[b] (bits w 2 0)) then
        t.shp[b].pc = (s.shp[b].pc + 1) % 4096 ∧ t.shp[b].nextAt = s.pt + 2 ∧ t.shp[b].wait = .none
       else t.shp[b].pc = s.shp[b].pc ∧
        t.shp[b].wait = .level false (weir s.shp[b] (bits w 2 0)) (s.pt + 2 * max (ucSteps w) 1))) ∧
    (ucOp w = 7 → ∃ t, exec (.shpJmp b) s = .next t ∧ t = { s with shp := t.shp } ∧ t.shp[b].pc = bits w 11 0 ∧
      t.shp[b].nextAt = s.pt + 2) ∧
    (ucOp w = 8 → ∃ t, exec (.jif b) s = .next t ∧ t = { s with shp := t.shp } ∧ t.shp[b].nextAt = s.pt + 2 ∧
      (bits w 26 24 = 0 → t.shp[b].pc = if s.shp[b].e != bit w 27 then bits w 11 0 else (s.shp[b].pc + 1) % 4096) ∧
      (bits w 26 24 = 1 → t.shp[b].pc = if s.shp[b].d != bit w 27 then bits w 11 0 else (s.shp[b].pc + 1) % 4096) ∧
      (bits w 26 24 = 2 → t.shp[b].pc = if s.shp[b].t != bit w 27 then bits w 11 0 else (s.shp[b].pc + 1) % 4096)) ∧
    (ucOp w = 9 → ∃ t, exec (.shpMark b) s = .next t ∧
      t.reg (SHPB.base b + 0x20 + 4 * bits w 1 0) = toWord s.ptLo ∧ t.shp[b].pc = (s.shp[b].pc + 1) % 4096) ∧
  (ucOp w = 9 → bit w 4 → ∃ t, exec (.shpMark b) s = .next t ∧ bit (t.reg (SHPB.base b + 0x18)).toNat 0)

/-- The converters sample and convert: a SAMPLE whose target has come claims an idle converter (R278), and one with an
empty mask converts nothing, is counted and leaves at once (R279); at a sampling instant the scan's next position is
sampled (R275, R277); a result leaves the pipeline with or without a conversion behind it, LAST shows it, it enters its
path (R284, R293, R294) or its measurement (R286), and the scan ends with its last result (R277); the oldest record is
written and WP advances (R292), in a cycle in which its port serves the record writer, and waits in any other (R139, R293;
which free cycle that is, where R445 does not say, is the model's, log entries 20, 85 and 199). -/
def Obligations.ConvertersSampleAndConvert : Prop :=
  (∀ (k : Fin 4) (a : Act) (s : State), dueSample k s = some a → convStands s = false →
    scanMask (scanEnt s a) &&& bits a.value 20 0 ≠ 0 → s.conv[k].run = none →
    ∃ t, exec (.sampleClaim k) s = .next t ∧ ∃ x, t.conv[k].run = some x ∧ x.act = some a.serial ∧
      x.left = scanMask (scanEnt s a) &&& bits a.value 20 0 ∧ x.first) ∧
  (∀ (k : Fin 4) (x : Scan) (p : Nat) (s : State), s.conv[k].run = some x → lowestPos x.left = some p → x.nextAt ≤ s.pt →
    s.conv[k].nextOk ≤ s.pt → convStands s = false → ∃ t, exec (.samplingInstant k) s = .next t ∧
      (∃ v, t.conv[k].convs = s.conv[k].convs ++ [v] ∧ v.pos = p ∧ v.at_ = s.pt ∧ v.plan = x.act.isSome) ∧
      t.conv[k].run = some { x with left := x.left - 2 ^ p, nextAt := s.pt + 80, first := false } ∧
      t.conv[k].nextOk = s.pt + 80) ∧
  (∀ (k : Fin 4) (raw : Half) (v u : Conversion) (rest : List Conversion) (s : State),
    s.conv[k].convs = v :: u :: rest → v.at_ + 80 ≤ s.pt → convStands s = false → v.cal = false →
    ∃ t, exec (.conversionResult k raw) s = .next t ∧ t.conv[k].convs = u :: rest ∧
      t.rd (CONV.base k) CONV.LAST_RAW = raw.toNat ∧
      t.rd (CONV.base k) CONV.LAST_RESULT = (correct v.coef raw.toNat).1 ∧
      (s.on (CONV.base k) CONV.CFG_PATH → tget t.conv[k].accs v.pos cvmEmpty =
        cvmAdd (tget s.conv[k].accs v.pos cvmEmpty) (correct v.coef raw.toNat).1) ∧
      (s.on (CONV.base k) CONV.CFG_PATH = false → v.ren → s.conv[k].fifo.length < 16 → t.conv[k].fifo.length = s.conv[k].fifo.length + 1)) ∧
  (∀ (k : Fin 4) (e : RecEntry) (rest : List RecEntry) (s : State), s.conv[k].fifo = e :: rest → e.ring < 8 →
    busAllows s 0x40 (portOf (recAddr s k e)) → ∃ t, exec (.recordWrite k) s = .next t ∧ t.conv[k].fifo = rest ∧
      (s.flag MEM.base MEM.INJ_CTL_ARM = false → recAddr s k e % 8 = 0 → recAddr s k e < 0x100000 → e.lo < 2 ^ 32 →
        e.hi < 2 ^ 32 → t.leBytes (recAddr s k e) 8 = e.hi * 2 ^ 32 + e.lo) ∧
      t.rd (CRING.base k e.ring) CRING.WP_COUNT = (if e.num.isSome then s.rd (CRING.base k e.ring) CRING.WP_COUNT
        else (s.rd (CRING.base k e.ring) CRING.WP_COUNT + 1) % 2 ^ 32) ∧ t.dev = s.dev) ∧
  (∀ (k : Fin 4) (e : RecEntry) (rest : List RecEntry) (s : State), s.conv[k].fifo = e :: rest →
    busAllows s 0x40 (portOf (recAddr s k e)) = false → ∃ t, exec (.recordWrite k) s = .next t ∧ t = s) ∧
  (∀ (k : Fin 4) (a : Act) (s : State), dueSample k s = some a → convStands s = false →
    scanMask (scanEnt s a) &&& bits a.value 20 0 = 0 → ∃ t, exec (.sampleClaim k) s = .next t ∧
      t.plan.acts = s.plan.acts.filter (fun x => x.serial != a.serial) ∧ t.conv = s.conv ∧
      t.rd (CONV.base k) CONV.CNT0_MASK0 = sat CONV.CNT0_MASK0.top (s.rd (CONV.base k) CONV.CNT0_MASK0 + 1)) ∧
  (∀ (k : Fin 4) (raw : Half) (v : Conversion) (x : Scan) (s : State), s.conv[k].convs = [v] → v.at_ + 80 ≤ s.pt → convStands s = false → v.cal = false →
    s.conv[k].run = some x → x.left ≠ 0 → s.conv[k].susp = none → ∃ t, exec (.conversionResult k raw) s = .next t ∧
      t.conv[k].convs = [] ∧ t.rd (CONV.base k) CONV.LAST_RAW = raw.toNat ∧
      t.rd (CONV.base k) CONV.LAST_RESULT = (correct v.coef raw.toNat).1 ∧
      (s.on (CONV.base k) CONV.CFG_PATH → tget t.conv[k].accs v.pos cvmEmpty =
        cvmAdd (tget s.conv[k].accs v.pos cvmEmpty) (correct v.coef raw.toNat).1) ∧
      (s.on (CONV.base k) CONV.CFG_PATH = false → v.ren → s.conv[k].fifo.length < 16 → t.conv[k].fifo.length = s.conv[k].fifo.length + 1) ∧ t.conv[k].run = some x) ∧
  (∀ (k : Fin 4) (raw : Half) (v : Conversion) (x : Scan) (s : State), s.conv[k].convs = [v] → v.at_ + 80 ≤ s.pt → convStands s = false → v.cal = false →
    s.conv[k].run = some x → x.left = 0 → s.conv[k].susp = none → s.conv[k].waiting = none → s.conv[k].pend = 0 →
    ∃ t, exec (.conversionResult k raw) s = .next t ∧ t.conv[k].convs = [] ∧ t.rd (CONV.base k) CONV.LAST_RAW = raw.toNat ∧
      t.rd (CONV.base k) CONV.LAST_RESULT = (correct v.coef raw.toNat).1 ∧
      (s.on (CONV.base k) CONV.CFG_PATH → tget t.conv[k].accs v.pos cvmEmpty =
        cvmAdd (tget s.conv[k].accs v.pos cvmEmpty) (correct v.coef raw.toNat).1) ∧
      (s.on (CONV.base k) CONV.CFG_PATH = false → v.ren → s.conv[k].fifo.length < 16 → t.conv[k].fifo.length = s.conv[k].fifo.length + 1) ∧ t.conv[k].run = none ∧
      t.rd (CONV.base k) CONV.CNT0_SCANS = (s.rd (CONV.base k) CONV.CNT0_SCANS + 1) % (CONV.CNT0_SCANS.top + 1)) ∧
  (∀ (k : Fin 4) (raw : Half) (v u : Conversion) (rest : List Conversion) (m : CalRun) (s : State),
    s.conv[k].convs = v :: u :: rest → v.at_ + 80 ≤ s.pt → convStands s = false → v.cal → s.on (CONV.base k) CONV.CFG_PATH → v.take →
    s.conv[k].cal = some m → m.taken + 1 < m.n → ∃ t, exec (.conversionResult k raw) s = .next t ∧
      t.conv[k].convs = u :: rest ∧ t.conv[k].accs = s.conv[k].accs ∧ t.rd (CONV.base k) CONV.LAST_RAW = raw.toNat ∧
      (∃ n, t.conv[k].cal = some n ∧ n.taken = m.taken + 1 ∧ n.sum = m.sum + raw.toNat))

/-- Open slots, calibration, test DAC, rings and the accumulators' snapshots: a trigger of an open slot starts its delay,
is counted while its gate is closed, and counted as an overrun while its slot is busy (R281); a delay that has run out
makes the slot pending (R281); a measurement starts, a second start is an error, and one is aborted with RESULT 4 (R286);
a DAC write acts at once (R296); a ring mark not past WP, as the converter clock found it, is taken and a later one
counted (R292, R299); reads give the accumulator's and the scan table's snapshots, a result that came in the converter
clock of the read left to the next interval and given once (R294, R296, R299). The converter clock is counted with PT (log
entry 20), and a held converter island takes no start and no DAC write (R467, log entry 184). -/
def Obligations.ConverterTriggersAndRegisters : Prop :=
  (∀ (k j : Fin 4) (s : State), s.cfg (CSLOT.base k j) CSLOT.TRG_CFG_SRC ≠ 0 → convStands s = false →
    gatedOff s k j = false → slotBusy s s.conv[k] j = false → s.cfg (CSLOT.base k j) CSLOT.TRG_MASK_MASK ≠ 0 →
    s.cfg (CSLOT.base k j) CSLOT.TRG_CFG_DELAY ≠ 0 → ∃ t, exec (.openTrigger k j) s = .next t ∧
      t.conv[k].delays[j] = some (s.pt + 5 * s.cfg (CSLOT.base k j) CSLOT.TRG_CFG_DELAY) ∧
      t = { s with conv := t.conv, trigs := t.trigs }) ∧
  (∀ (k j : Fin 4) (s : State), s.cfg (CSLOT.base k j) CSLOT.TRG_CFG_SRC ≠ 0 → convStands s = false → gatedOff s k j →
    ∃ t, exec (.openTrigger k j) s = .next t ∧
      t.rd (CONV.base k) CONV.CNT2_GATED = sat CONV.CNT2_GATED.top (s.rd (CONV.base k) CONV.CNT2_GATED + 1) ∧
      t.conv = s.conv) ∧
  (∀ (k j : Fin 4) (u : Nat) (x : Scan) (s : State), s.conv[k].delays[j] = some u → u ≤ s.pt → convStands s = false →
    s.conv[k].run = some x → (x.split = true ∨ x.act.isSome ∨ x.first = false ∨ x.slot ≤ j.val ∨ x.clock ≠ s.clockOf 5 s.tick) → ∃ t, exec (.openSlotPending k j) s = .next t ∧ t.conv[k].delays[j] = none ∧
      bit t.conv[k].pend j.val ∧ t = { s with conv := t.conv }) ∧
  (∀ (k j : Fin 4) (s : State), s.cfg (CSLOT.base k j) CSLOT.TRG_CFG_SRC = 0x30 → convStands s = false →
    gatedOff s k j = false → slotBusy s s.conv[k] j = false → s.cfg (CSLOT.base k j) CSLOT.TRG_MASK_MASK ≠ 0 →
    s.cfg (CSLOT.base k j) CSLOT.TRG_CFG_DELAY ≠ 0 → ∃ t, exec (.convSoft k (toWord (2 ^ j.val))) s = .next t ∧
      t.conv[k].delays[j] = some (s.pt + 5 * s.cfg (CSLOT.base k j) CSLOT.TRG_CFG_DELAY) ∧
      t = { s with conv := t.conv }) ∧
  (∀ (k : Fin 4) (s : State), s.islandHeld 3 = false → s.conv[k].cal = none → ∃ t, exec (.calZero k) s = .next t ∧
      t.conv[k].cal = some ⟨false, s.rd (CONV.base k) CONV.CAL_CFG_POS, 2 ^ min 10 (s.rd (CONV.base k) CONV.CAL_CFG_AVG),
        0, 0, 0, false⟩ ∧ t.rd (CONV.base k) CONV.CAL_STAT_RESULT = 2 ∧ t = { s with conv := t.conv, regs := t.regs }) ∧
  (∀ (k : Fin 4) (s : State), s.islandHeld 3 = false → s.conv[k].cal = none → ∃ t, exec (.calFull k) s = .next t ∧
      t.conv[k].cal = some ⟨true, s.rd (CONV.base k) CONV.CAL_CFG_POS, 2 ^ min 10 (s.rd (CONV.base k) CONV.CAL_CFG_AVG),
        0, 0, 0, false⟩ ∧ t.rd (CONV.base k) CONV.CAL_STAT_RESULT = 2 ∧ t = { s with conv := t.conv, regs := t.regs }) ∧
  (∀ (k : Fin 4) (s : State), s.conv[k].cal.isSome → ∃ t, exec (.calAbort k) s = .next t ∧ t.conv[k].cal = none ∧
      t.rd (CONV.base k) CONV.CAL_STAT_RESULT = 4) ∧
  (∀ (v : Word) (s : State), s.islandHeld 3 = false → ∃ t, exec (.dacWrite v) s = .next t ∧
      t.rd ADCX.base ADCX.DAC_CODE = v.toNat % (ADCX.DAC_CODE.top + 1) ∧ t.dacAt = some s.pt ∧
      t = { s with regs := t.regs, dacAt := t.dacAt }) ∧
  (∀ (k : Fin 4) (r : Fin 8) (v : Word) (s : State),
    (v.toNat + 2 ^ 32 - s.rd (CRING.base k r) CRING.MARK_COUNT) % 2 ^ 32 ≤
      (clockWp s k r.val + 2 ^ 32 - s.rd (CRING.base k r) CRING.MARK_COUNT) % 2 ^ 32 →
    ∃ t, exec (.ringMarkWrite k r v) s = .next t ∧ t.rd (CRING.base k r) CRING.MARK_COUNT = v.toNat ∧
      t = { s with regs := t.regs }) ∧
  (∀ (k : Fin 4) (r : Fin 8) (v : Word) (s : State),
    (clockWp s k r.val + 2 ^ 32 - s.rd (CRING.base k r) CRING.MARK_COUNT) % 2 ^ 32 <
      (v.toNat + 2 ^ 32 - s.rd (CRING.base k r) CRING.MARK_COUNT) % 2 ^ 32 →
    ∃ t, exec (.ringMarkWrite k r v) s = .next t ∧
      t.rd (CRING.base k r) CRING.MARK_COUNT = s.rd (CRING.base k r) CRING.MARK_COUNT ∧
      t.rd (pageBase (0x30 + k.val)) HDR.ERR_COUNT = sat 65535 (s.rd (pageBase (0x30 + k.val)) HDR.ERR_COUNT + 1) ∧
      t = { s with regs := t.regs }) ∧
  (∀ (k : Fin 4) (p : Fin 21) (s : State), s.conv[k].accIn.filter (fun e => e.1 == s.clockOf 5 s.tick && e.2.1 == p.val) = none →
    ∃ t, exec (.sumLoRead k p) s = .next t ∧
      t.respData = [toWord (tget s.conv[k].accs p.val cvmEmpty).sum] ∧ t.respErr = false ∧
      (s.flag (CONV.base k) CONV.CVM_CFG_RDCLR = false → t.conv = s.conv) ∧
      (s.flag (CONV.base k) CONV.CVM_CFG_RDCLR → tget t.conv[k].accs p.val cvmEmpty = cvmEmpty)) ∧
  (∀ (k : Fin 4) (p : Fin 21) (res : Nat) (a : CvmAcc) (s : State), s.conv[k].accIn = some (s.clockOf 5 s.tick, p.val, res, a) →
    ∃ t, exec (.sumLoRead k p) s = .next t ∧ t.respData = [toWord a.sum] ∧ t.respErr = false ∧
      (s.flag (CONV.base k) CONV.CVM_CFG_RDCLR → tget t.conv[k].accs p.val cvmEmpty = cvmAdd cvmEmpty res ∧
        t.conv[k].accIn = some (s.clockOf 5 s.tick, p.val, res, cvmEmpty))) ∧
  (∀ s : State, ∃ t, exec .scanLoRead s = .next t ∧
      t.respData = [toWord (tget s.plan.scan (s.rd ADCX.base ADCX.SCAN_IDX_INDEX) 0)] ∧
      t.rd ADCX.base ADCX.SCAN_HI_DATA = tget s.plan.scan (s.rd ADCX.base ADCX.SCAN_IDX_INDEX) 0 / 2 ^ 32 % 2 ^ 32 ∧
      t = { s with regs := t.regs, respData := t.respData, respErr := false }) ∧
  (∀ (k j : Fin 4) (s : State), s.cfg (CSLOT.base k j) CSLOT.TRG_CFG_SRC ≠ 0 → convStands s = false →
    gatedOff s k j = false → slotBusy s s.conv[k] j → ∃ t, exec (.openTrigger k j) s = .next t ∧
      t.rd (CONV.base k) CONV.CNT1_OVERRUN = sat CONV.CNT1_OVERRUN.top (s.rd (CONV.base k) CONV.CNT1_OVERRUN + 1) ∧
      t.conv = s.conv) ∧
  (∀ (k : Fin 4) (s : State), s.islandHeld 3 = false → s.conv[k].cal.isSome → ∃ t, exec (.calZero k) s = .next t ∧
      exec (.calFull k) s = .next t ∧ t = s.err (0x30 + k.val)) ∧
  (∀ (k : Fin 4) (v : Word) (s : State), s.islandHeld 3 → exec (.calZero k) s = .next s ∧ exec (.calFull k) s = .next s ∧
      exec (.dacWrite v) s = .next s)

/-- The PWM generators: RUN is written and a started generator begins its count of periods at 0 (R301), once PT runs
(R315); a period that has run out is followed by the next (R300, R303); the outputs take their levels, safe or live, with
the flag of forces that begin to act, and are low in RESET and without VDRV (R302, R309, R312, R463, R515); a written
force acts at the first count step after the write (R309); the count trigger goes to the timers and converters that name
it (R314, R325); LOAD_ALL requests its groups' loads (R304). -/
def Obligations.PwmCountsAndLoads : Prop :=
  (∀ (v : Word) (s : State), ∃ t, exec (.pwmRunWrite v) s = .next t ∧ t.rd PWM.base PWM.RUN = v.toNat % 2 ^ 16 ∧
      (∀ n : Fin 16, bit v.toNat n.val → bit (s.rd PWM.base PWM.RUN) n.val = false →
        if s.ptStands then t.pwm[n].starting else t.pwm[n].periodNo = 0 ∧ t.pwm[n].starting = false)) ∧
  (∀ (n : Fin 16) (s : State), pwmRun s n → s.ptStands = false → follows s n = false → pwP s n ≠ 0 →
    pwTicks s n ≤ ownTau s n → ∃ t, exec (.pwmPeriodStart n) s = .next t ∧
      t.pwm[n].periodNo = s.pwm[n].periodNo + 1 ∧ (s.committed = [] → t.pwm[n].t0 = s.pwm[n].t0 + pwTicks s n)) ∧
  (∀ (n : Fin 16) (s : State), s.dev.st ≠ .reset → s.sys.vdrvLow = false → s.ptStands = false → pwmSafe s n →
    ∃ t, exec (.pwmCountEdge n) s = .next t ∧ t.pwm[n].outA = s.on (pw n) PWN.CFG_SAFE_A ∧
      t.pwm[n].outB = s.on (pw n) PWN.CFG_SAFE_B ∧ t = { noteForces n (takeForce n s) with pwm := t.pwm }) ∧
  (∀ (n : Fin 16) (s : State), s.dev.st ≠ .reset → s.sys.vdrvLow = false → s.ptStands = false → pwmSafe s n = false →
    ∃ t, exec (.pwmCountEdge n) s = .next t ∧ t.pwm[n].outA = (liveLevels (noteForces n (takeForce n s)) n).1 ∧
      t.pwm[n].outB = (liveLevels (noteForces n (takeForce n s)) n).2 ∧
      t = { noteForces n (takeForce n s) with pwm := t.pwm }) ∧
  (∀ (n : Fin 16) (s : State), pwmRun s n → pwmRun s (counterOf s n) → s.ptStands = false →
    s.cfg (pw n) PWN.TRIG_CFG_DIV ≠ 0 → s.cfg (pw n) PWN.TRIG_CFG_AT < pwP s n →
    tau s n = s.cfg (pw n) PWN.TRIG_CFG_AT * pwStep s n → s.pwm[n].periodNo % s.cfg (pw n) PWN.TRIG_CFG_DIV = 0 →
    ∃ t, exec (.pwmCountTrigger n) s = .next t ∧ t = { s with trigs := t.trigs } ∧
      (∀ m : Fin 16, s.cfg (TMN.base m) TMN.CFG_TSRC = 0x40 + n.val → ⟨16 + m.val, s.pt + 1⟩ ∈ t.trigs) ∧
      (∀ k j : Fin 4, s.cfg (CSLOT.base k j) CSLOT.TRG_CFG_SRC = 0x20 + n.val → ⟨4 * k.val + j.val, s.pt + 4⟩ ∈ t.trigs)) ∧
  (∀ (v : Word) (s : State), ∃ t, exec (.loadAll v) s = .next t ∧ t = { s with regs := t.regs, pwm := t.pwm } ∧
      (∀ n : Fin 16, s.cfg (pw n) PWN.CFG_GROUP < 4 → bit v.toNat (s.cfg (pw n) PWN.CFG_GROUP) → t.pwm[n].loadReq)) ∧
  (∀ (n : Fin 16) (s : State), s.dev.st = .reset ∨ s.sys.vdrvLow → ∃ t, exec (.pwmCountEdge n) s = .next t ∧
      t.pwm[n].outA = false ∧ t.pwm[n].outB = false ∧ t = { s with pwm := t.pwm }) ∧
  (∀ (n : Fin 16) (p : Nat) (s : State), s.dev.st ≠ .reset → s.sys.vdrvLow = false → s.ptStands = false →
    s.pwm[n].forcePt = some p → ∃ t, exec (.pwmCountEdge n) s = .next t ∧
      (if stepCome s n p then t.pwm[n].forcePt = none ∧
          t.pwm[n].force = s.rd (pw n) PWN.FORCE_FA + 4 * s.rd (pw n) PWN.FORCE_FB
        else t.pwm[n].forcePt = some p ∧ t.pwm[n].force = s.pwm[n].force))

/-- Dead time, forces and trips: a node crossing within DT_MAX ends its turn-off's measurement with the next dead time,
and without such a measurement changes nothing (R307); none within DT_MAX counts NOX and takes DT_MAX where ADAPT is set,
and where it is clear leaves the dead time (R307; that the measurement is clamped by the values in force at the crossing is
the model's choice, log entry 188); a force is held in FORCE until the next count step, at once in a
generator that does not count, and both high in COMPL sets FORCE_BOTH as it begins to act (R309, log entry 185), not while
PT stands (R315); a trip input takes its level and trips the generators it is mapped to (R310); the end of a blanking
window trips if the input is still active (R310); a trip latch clears unless a mapped input is active (R311). -/
def Obligations.PwmDeadTimesForcesAndTrips : Prop :=
  (∀ (n : Fin 16) (rising : Bool) (t0 : Nat) (s : State),
    s.pwm[n].meas.filter (fun e => decide (e.1 ≠ rising) && decide (s.pt - e.2 ≤ s.cfg (pw n) PWN.DT_CFG_DT_MAX)) =
      [(!rising, t0)] → s.ptStands = false → ∃ t, exec (.swCrossing n rising) s = .next t ∧
      t.pwm[n].meas = s.pwm[n].meas.filter
        (fun e => !(decide (e.1 ≠ rising) && decide (s.pt - e.2 ≤ s.cfg (pw n) PWN.DT_CFG_DT_MAX))) ∧
      (if rising then t.pwm[n].nextBA else t.pwm[n].nextAB) = some (clampDead s n (s.pt - t0), s.pt) ∧
      t = { s with regs := t.regs, pwm := t.pwm }) ∧
  (∀ (n : Fin 16) (ab : Bool) (t0 : Nat) (s : State),
    s.pwm[n].meas.filter (fun e => decide (e.2 + s.cfg (pw n) PWN.DT_CFG_DT_MAX ≤ s.pt)) = [(ab, t0)] →
    s.ptStands = false → s.on (pw n) (if ab then PWN.CFG_ADAPT_AB else PWN.CFG_ADAPT_BA) →
    ∃ t, exec (.dtMeasureTimeout n) s = .next t ∧
      t.pwm[n].meas = s.pwm[n].meas.filter (fun e => !decide (e.2 + s.cfg (pw n) PWN.DT_CFG_DT_MAX ≤ s.pt)) ∧
      (if ab then t.pwm[n].nextAB else t.pwm[n].nextBA) = some (s.cfg (pw n) PWN.DT_CFG_DT_MAX, s.pt) ∧
      t.rd (pw n) PWN.CNT0_NOX = sat PWN.CNT0_NOX.top (s.rd (pw n) PWN.CNT0_NOX + 1)) ∧
  (∀ (n : Fin 16) (v : Word) (s : State), ∃ t, exec (.pwmForce n v) s = .next t ∧
      t.rd (pw n) PWN.FORCE_FA = v.toNat % 4 ∧ t.rd (pw n) PWN.FORCE_FB = v.toNat / 4 % 4 ∧
      (pwmCounts s n ∨ s.ptStands → t.pwm[n].forcePt = some s.pt ∧
        (s.pwm[n].forcePt = none → t.pwm[n].force = s.pwm[n].force)) ∧
      (pwmCounts s n = false → s.ptStands = false → s.dev.st ≠ .reset → s.sys.vdrvLow = false →
        t.pwm[n].force = v.toNat % 16 ∧ t.pwm[n].forcePt = none) ∧
      (s.ptStands → t.flag (pw n) PWN.FLAGS_FORCE_BOTH = s.flag (pw n) PWN.FLAGS_FORCE_BOTH) ∧ t.tripPins = s.tripPins) ∧
  (∀ (k : Fin 8) (level : Bool) (s : State), ∃ t, exec (.tripInput k level) s = .next t ∧
      bit t.tripPins k.val = level ∧ (∀ j : Fin 8, j ≠ k → bit t.tripPins j.val = bit s.tripPins j.val) ∧
      (∀ n : Fin 16, tripMapped t n → s.pwm[n].blank = none → s.dev.st ≠ .reset → t.flag (pw n) PWN.FLAGS_TRIP)) ∧
  (∀ (n : Fin 16) (u : Nat) (s : State), s.pwm[n].blank = some u → u ≤ s.tick → tripMapped s n = false →
    ∃ t, exec (.blankEnd n) s = .next t ∧ t.pwm[n].blank = none ∧ t = { s with pwm := t.pwm }) ∧
  (∀ (n : Fin 16) (u : Nat) (s : State), s.pwm[n].blank = some u → u ≤ s.tick → tripMapped s n → s.dev.st ≠ .reset →
    ∃ t, exec (.blankEnd n) s = .next t ∧ t.flag (pw n) PWN.FLAGS_TRIP) ∧
  (∀ (n : Fin 16) (s : State), tripMapped s n = false → ∃ t, exec (.tripClear n) s = .next t ∧
      t.rd (pw n) PWN.FLAGS_TRIP = 0 ∧ t = { s with regs := t.regs }) ∧
  (∀ (n : Fin 16) (s : State), tripMapped s n → ∃ t, exec (.tripClear n) s = .next t ∧
      t.rd PWM.base HDR.ERR_COUNT = sat 65535 (s.rd PWM.base HDR.ERR_COUNT + 1) ∧
      t.rd (pw n) PWN.FLAGS_TRIP = s.rd (pw n) PWN.FLAGS_TRIP) ∧
  (∀ (n : Fin 16) (p : Nat) (s : State), s.dev.st ≠ .reset → s.sys.vdrvLow = false → s.ptStands = false →
    s.pwm[n].forcePt = some p → stepCome s n p → compl s n → s.rd (pw n) PWN.FORCE_FA = 2 → s.rd (pw n) PWN.FORCE_FB = 2 →
    s.pwm[n].forcedBoth = false → ∃ t, exec (.pwmCountEdge n) s = .next t ∧ t.flag (pw n) PWN.FLAGS_FORCE_BOTH) ∧
  (∀ (n : Fin 16) (rising : Bool) (s : State),
    s.pwm[n].meas.filter (fun e => decide (e.1 ≠ rising) && decide (s.pt - e.2 ≤ s.cfg (pw n) PWN.DT_CFG_DT_MAX)) = [] →
    exec (.swCrossing n rising) s = .next s) ∧
  (∀ (n : Fin 16) (ab : Bool) (t0 : Nat) (s : State),
    s.pwm[n].meas.filter (fun e => decide (e.2 + s.cfg (pw n) PWN.DT_CFG_DT_MAX ≤ s.pt)) = [(ab, t0)] →
    s.ptStands = false → s.on (pw n) (if ab then PWN.CFG_ADAPT_AB else PWN.CFG_ADAPT_BA) = false →
    ∃ t, exec (.dtMeasureTimeout n) s = .next t ∧ t = { s with pwm := t.pwm } ∧
      t.pwm[n].nextAB = s.pwm[n].nextAB ∧ t.pwm[n].nextBA = s.pwm[n].nextBA)

/-- The timers: RUN starts and stops them (R322); a due count step decrements, and a reload step takes RELOAD (R321,
R322); a CMP write reaches the timer and becomes active three ticks later (R324); a trigger's event, or the rise of its
level after TINV, reloads, steps or starts a timer by its SMODE, a gate's level holds and frees the prescaler, and FREE,
or START while the timer runs, ignores it (R326); the software source is sent to the timers that name it (R325); a capture
that CAP_CFG selects enters the queue with PT, the angle and the count of its stamp tick, two ticks back for a ball, is
counted as lost when the queue is full, one it does not select changes nothing but the level seen, and a read takes the
head (R330, R331); with the page's ENABLE at 0 writes are discarded and counted and a read gives 0 (R484). What level came
to a ball is the command's operand (log entry 181). -/
def Obligations.TimersCountMatchAndCapture : Prop :=
  (∀ (v : Word) (s : State), s.clockOff 0x48 = false → ∃ t, exec (.tmrRunWrite v) s = .next t ∧ (∀ n : Fin 16, tmrRun t n = bit v.toNat n.val) ∧
      (∀ n : Fin 16, bit v.toNat n.val → tmrRun s n = false → t.tmr[n].reload ∧
        t.tmr[n].due = s.pt + (s.cfg (tm n) TMN.CFG_PRE + 1)) ∧
      t = { s with regs := t.regs, tmr := t.tmr, committed := t.committed }) ∧
  (∀ (n : Fin 16) (s : State), tmrRun s n → s.ptStands = false → s.tmr[n].due ≤ s.pt → s.cfg (tm n) TMN.CFG_SMODE ≠ 3 →
    (s.cfg (tm n) TMN.CFG_SMODE = 1 → gateLevel s n) → s.tmr[n].reload = false → s.tmr[n].count ≠ 0 →
    ∃ t, exec (.timerCountStep n) s = .next t ∧ t.tmr[n].count = s.tmr[n].count - 1 ∧ t.tmr[n].reload = false) ∧
  (∀ (n : Fin 16) (s : State), tmrRun s n → s.ptStands = false → s.tmr[n].due ≤ s.pt → s.cfg (tm n) TMN.CFG_SMODE ≠ 3 →
    (s.cfg (tm n) TMN.CFG_SMODE = 1 → gateLevel s n) → s.tmr[n].reload → s.rd (tm n) TMN.RELOAD ≠ 0 → s.tmr[n].zeroSeen = false →
    ∃ t, exec (.timerCountStep n) s = .next t ∧ t.tmr[n].count = s.rd (tm n) TMN.RELOAD ∧ t.tmr[n].reload = false) ∧
  (∀ (n : Fin 16) (v : Word) (s : State), s.clockOff 0x48 = false → ∃ t, exec (.cmpWrite n v) s = .next t ∧
      t.rd (tm n) TMN.CMP = v.toNat % (TMN.CMP.top + 1) ∧ t.tmr[n].cmpPend = s.tmr[n].cmpPend ++ [⟨v.toNat, s.pt, s.tmr[n].lastTwo⟩] ∧
      t = { s with regs := t.regs, tmr := t.tmr }) ∧
  (∀ (n : Fin 16) (c : CmpPend) (rest : List CmpPend) (s : State), s.ptStands = false → s.tmr[n].cmpPend = c :: rest →
    c.at_ + 3 ≤ s.pt → s.clockOff 0x48 = false → (∀ d ∈ rest, s.pt < d.at_ + 3) →
    ∃ t, exec (.cmpActive n) s = .next t ∧ t.tmr[n].cmp = c.value ∧ t.tmr[n].cmpPend = rest ∧
      (c.window.contains c.value → t.flag (tm n) TMN.FLAGS_LATE ∧ t.flag (tm n) TMN.FLAGS_MATCH)) ∧
  (∀ (n : Fin 16) (level : Bool) (s : State), s.cfg (tm n) TMN.CFG_TSRC ≠ 0 → s.ptStands = false →
    s.clockOff 0x48 = false → (isLevelSource (s.cfg (tm n) TMN.CFG_TSRC) = false ∨
      (level != s.on (tm n) TMN.CFG_TINV) = true ∧ gateLevel s n = false) → s.cfg (tm n) TMN.CFG_SMODE = 2 →
    tmrRun s n → ∃ t, exec (.timerTrigger n level) s = .next t ∧ t.tmr[n].reload ∧ t.tmr[n].due = s.pt + 1) ∧
  (∀ (n : Fin 16) (level : Bool) (s : State), s.cfg (tm n) TMN.CFG_TSRC ≠ 0 → s.ptStands = false →
    s.clockOff 0x48 = false → (isLevelSource (s.cfg (tm n) TMN.CFG_TSRC) = false ∨
      (level != s.on (tm n) TMN.CFG_TINV) = true ∧ gateLevel s n = false) → s.cfg (tm n) TMN.CFG_SMODE = 4 →
    tmrRun s n = false → ∃ t, exec (.timerTrigger n level) s = .next t ∧ t.tmr[n].reload ∧ tmrRun t n) ∧
  (∀ (v : Word) (s : State), s.clockOff 0x48 = false → ∃ t, exec (.tmrSoft v) s = .next t ∧ t = { s with trigs := t.trigs } ∧
      (∀ n : Fin 16, bit v.toNat n.val → s.cfg (tm n) TMN.CFG_TSRC = 0x80 → ⟨16 + n.val, s.pt + 1⟩ ∈ t.trigs)) ∧
  (∀ (n : Fin 16) (level : Bool) (ago : Nat) (s : State), s.cfg (tm n) TMN.CAP_CFG_CSRC ≠ 0 →
    edgeTaken (s.cfg (tm n) TMN.CAP_CFG_CSRC) (s.cfg (tm n) TMN.CAP_CFG_EDGE) level → s.cfg (tm n) TMN.CAP_CFG_EDGE ≠ 0 →
    s.ptStands = false → s.clockOff 0x48 = false → s.tmr[n].queue.length < 4 →
    ago = (if 0x70 ≤ s.cfg (tm n) TMN.CAP_CFG_CSRC ∧ s.cfg (tm n) TMN.CAP_CFG_CSRC < 0x80 then min 2 s.pt else 0) →
    ∃ t, exec (.timerCapture ⟨n, level⟩) s = .next t ∧
      t.tmr[n].queue = s.tmr[n].queue ++ [⟨(s.pt - ago) % 2 ^ 32, capAngle s ago, s.tmr[n].count⟩] ∧
      t.flag (tm n) TMN.FLAGS_CAP) ∧
  (∀ (n : Fin 16) (level : Bool) (s : State), s.cfg (tm n) TMN.CAP_CFG_CSRC ≠ 0 →
    edgeTaken (s.cfg (tm n) TMN.CAP_CFG_CSRC) (s.cfg (tm n) TMN.CAP_CFG_EDGE) level → s.cfg (tm n) TMN.CAP_CFG_EDGE ≠ 0 →
    s.ptStands = false → s.clockOff 0x48 = false → 4 ≤ s.tmr[n].queue.length →
    ∃ t, exec (.timerCapture ⟨n, level⟩) s = .next t ∧ t.tmr = s.tmr ∧ t.flag (tm n) TMN.FLAGS_OVERRUN ∧
      t.rd (tm n) TMN.CAP_STAT_OVERRUN = sat TMN.CAP_STAT_OVERRUN.top (s.rd (tm n) TMN.CAP_STAT_OVERRUN + 1)) ∧
  (∀ (n : Fin 16) (c : Capture) (rest : List Capture) (s : State), s.clockOff 0x48 = false →
    s.tmr[n].queue = c :: rest →
    ∃ t, exec (.capPtRead n) s = .next t ∧ t.tmr[n].queue = rest ∧ t.respData = [toWord c.pt] ∧
      t.reg (tm n + 0x18) = c.angle ∧ t.reg (tm n + 0x1C) = toWord c.count ∧
      t = { s with regs := t.regs, tmr := t.tmr, respData := t.respData, respErr := false }) ∧
  (∀ (n : Fin 16) (s : State), s.clockOff 0x48 = false → s.tmr[n].queue = [] → ∃ t, exec (.capPtRead n) s = .next t ∧ t.respData = [0] ∧
      t.reg (tm n + 0x18) = 0 ∧ t.reg (tm n + 0x1C) = 0 ∧ t.tmr = s.tmr) ∧
  (∀ (n : Fin 16) (level : Bool) (s : State), s.cfg (tm n) TMN.CFG_TSRC ≠ 0 → s.ptStands = false →
    s.clockOff 0x48 = false → (isLevelSource (s.cfg (tm n) TMN.CFG_TSRC) = false ∨
      (level != s.on (tm n) TMN.CFG_TINV) = true ∧ gateLevel s n = false) → s.cfg (tm n) TMN.CFG_SMODE = 3 →
    tmrRun s n → s.tmr[n].reload = false → s.tmr[n].count ≠ 0 →
    ∃ t, exec (.timerTrigger n level) s = .next t ∧ t.tmr[n].count = s.tmr[n].count - 1) ∧
  (∀ (n : Fin 16) (level : Bool) (s : State), s.cfg (tm n) TMN.CFG_TSRC ≠ 0 → s.ptStands = false →
    s.clockOff 0x48 = false → (isLevelSource (s.cfg (tm n) TMN.CFG_TSRC) = false ∨
      (level != s.on (tm n) TMN.CFG_TINV) = true ∧ gateLevel s n = false) → s.cfg (tm n) TMN.CFG_SMODE = 3 →
    tmrRun s n → s.tmr[n].reload → s.rd (tm n) TMN.RELOAD ≠ 0 → s.tmr[n].zeroSeen = false →
    ∃ t, exec (.timerTrigger n level) s = .next t ∧ t.tmr[n].count = s.rd (tm n) TMN.RELOAD ∧ t.tmr[n].reload = false) ∧
  (∀ (n : Fin 16) (level : Bool) (s : State), s.cfg (tm n) TMN.CFG_TSRC ≠ 0 → s.ptStands = false →
    s.clockOff 0x48 = false → s.cfg (tm n) TMN.CFG_SMODE = 0 ∨ (s.cfg (tm n) TMN.CFG_SMODE = 4 ∧ tmrRun s n) →
    ∃ t, exec (.timerTrigger n level) s = .next t ∧ t.tmr[n] = { s.tmr[n] with level := level } ∧ t.regs = s.regs) ∧
  (∀ (n : Fin 16) (level : Bool) (s : State), s.cfg (tm n) TMN.CFG_TSRC ≠ 0 → s.ptStands = false →
    s.clockOff 0x48 = false → s.cfg (tm n) TMN.CFG_SMODE = 1 → ∃ t, exec (.timerTrigger n level) s = .next t ∧ t.regs = s.regs ∧
      (if level != s.on (tm n) TMN.CFG_TINV then
        (∀ d, s.tmr[n].left = some d → t.tmr[n].due = s.pt + d ∧ t.tmr[n].left = none)
      else s.tmr[n].left = none → t.tmr[n].left = some (s.tmr[n].due - s.pt))) ∧
  (∀ (n : Fin 16) (level : Bool) (s : State),
    edgeTaken (s.cfg (tm n) TMN.CAP_CFG_CSRC) (s.cfg (tm n) TMN.CAP_CFG_EDGE) level = false →
    ∃ t, exec (.timerCapture ⟨n, level⟩) s = .next t ∧ t = { s with trigs := t.trigs, tioIn := t.tioIn }) ∧
  (∀ (n : Fin 16) (v : Word) (s : State), s.clockOff 0x48 → exec (.tmrRunWrite v) s = .next (s.err 0x48) ∧
      exec (.cmpWrite n v) s = .next (s.err 0x48) ∧ exec (.tmrSoft v) s = .next (s.err 0x48) ∧
      exec (.cmpActive n) s = .next s ∧ exec (.capPtRead n) s = .next (s.respond 0))

/-- The Runnel instructions: an engine whose next word is due and well formed carries it out as R336 to R338 state, and PC
goes to the next word or to the jump's target; STOP and a malformed word end the engine and set FLAGS.STOP; an instruction
whose condition does not hold waits, and a waiting one completes when it holds; a pin action whose time has come is late;
a pin the engine does not drive is left, with FLAGS.PIN. Two clauses are the model's reading: Y of a WAITP that finds its level
already there (log entry 93), and LATE of an output SHIFT (log entry 94). -/
def Obligations.RunnelInstructionsRun : Prop :=
  (∀ (e : Fin 8) (w : Nat) (s : State), rnlDue e s = some w →
    (rop w = 0 ∨ rnlWellFormed w = false → ∃ t, exec (.rnlStop e) s = .next t ∧ rnlRun t e = false ∧
      t.flag (rn e) RNE.FLAGS_STOP) ∧
    (rop w = 1 → rnlWellFormed w → ownsPin s e (rpin w) → bit w 25 = false → ∃ t, exec (.rnlPin e) s = .next t ∧
      rget t e RNE.T = (rget s e RNE.T + rimm w) % 2 ^ 32 ∧ rget t e RNE.PC = (rget s e RNE.PC + 1) % 64 ∧
      bit t.rioOut (rpin w) =
        (match bits w 27 26 with | 0 => false | 1 => true | _ => !bit s.rioOut (rpin w))) ∧
    (rop w = 1 → rnlWellFormed w → ownsPin s e (rpin w) = false → ∃ t, exec (.rnlPin e) s = .next t ∧
      rget t e RNE.T = rget s e RNE.T ∧ rget t e RNE.PC = (rget s e RNE.PC + 1) % 64 ∧ t.rioOut = s.rioOut ∧
      t.flag (rn e) RNE.FLAGS_PIN) ∧
    (rop w = 1 → rnlWellFormed w → ownsPin s e (rpin w) → bit w 25 → reached s (rget s e RNE.T) = false →
      ∃ t, exec (.rnlPin e) s = .next t ∧ t.rnl[e].wait = .pin ∧ t = { s with rnl := t.rnl }) ∧
    (rop w = 2 → rnlWellFormed w → ∀ pins : Word, bit pins.toNat (rpin w) = bit w 27 →
      ∃ t, exec (.rnlWaitp e pins) s = .next t ∧ rget t e RNE.MISC_F = 0 ∧
        (bit w 25 → rget t e RNE.Y = (rnlCount s + 2 ^ 32 - 2) % 2 ^ 32) ∧
        rget t e RNE.PC = (rget s e RNE.PC + 1) % 64 ∧ t = { s with regs := t.regs, rnl := t.rnl, rioPins := pins.toNat }) ∧
    (rop w = 2 → rnlWellFormed w → (bit w 26 → reached s (rget s e RNE.T) = false) → ∀ pins : Word, bit pins.toNat (rpin w) ≠ bit w 27 →
      ∃ t, exec (.rnlWaitp e pins) s = .next t ∧ t.rnl[e].wait = .waitp ∧
        t = { s with rnl := t.rnl, rioPins := pins.toNat }) ∧
    (rop w = 3 → rnlWellFormed w → bit w 27 = false → rget s e RNE.MISC_DONE + 1 = bits w 5 0 →
      reached s (rget s e RNE.T) → ∀ pins : Word, ∃ t, exec (.rnlShift e pins) s = .next t ∧
        rget t e RNE.SR = (2 * rget s e RNE.SR + b2n (bit pins.toNat (rpin w))) % 2 ^ 32 ∧
        rget t e RNE.MISC_BC = min 32 (rget s e RNE.MISC_BC + 1) ∧
        rget t e RNE.T = (rget s e RNE.T + rget s e RNE.U) % 2 ^ 32 ∧ rget t e RNE.MISC_DONE = 0 ∧
        rget t e RNE.PC = (rget s e RNE.PC + 1) % 64) ∧
    (rop w = 4 → rnlWellFormed w → ∀ pins : Word, ∃ t, exec (.rnlJmp e pins) s = .next t ∧
      rget t e RNE.PC = (if jmpHolds { s with rioPins := pins.toNat } e w then bits w 5 0 else (rget s e RNE.PC + 1) % 64) ∧
      t = { s with regs := t.regs, rnl := t.rnl, rioPins := pins.toNat }) ∧
    (rop w = 5 → rnlWellFormed w → s.rnl[e].outF.length < 8 → ∃ t, exec (.rnlPush e) s = .next t ∧
      t.rnl[e].outF = s.rnl[e].outF ++ [if bit w 27 then rget s e RNE.SR else rget s e RNE.X] ∧
      (bit w 27 → rget t e RNE.SR = 0 ∧ rget t e RNE.MISC_BC = 0) ∧
      rget t e RNE.PC = (rget s e RNE.PC + 1) % 64) ∧
    (rop w = 6 → rnlWellFormed w → ∀ (v : Nat) (rest : List Nat), s.rnl[e].inF = v :: rest →
      ∃ t, exec (.rnlPull e) s = .next t ∧ t.rnl[e].inF = rest ∧ rget t e RNE.PC = (rget s e RNE.PC + 1) % 64 ∧
        (bits w 27 26 = 0 → rget t e RNE.X = v % 2 ^ 32) ∧ (bits w 27 26 = 1 → rget t e RNE.SR = v % 2 ^ 32 ∧ rget t e RNE.MISC_BC = 32) ∧
        (bits w 27 26 = 2 → rget t e RNE.T = v % 2 ^ 32) ∧ (bits w 27 26 = 3 → rget t e RNE.U = v % 2 ^ 32) ∧
        t = { s with regs := t.regs, rnl := t.rnl }) ∧
    (rop w = 7 → rnlWellFormed w → ∃ t, exec (.rnlMov e) s = .next t ∧ rget t e RNE.PC = (rget s e RNE.PC + 1) % 64 ∧
      (bits w 27 24 = 0 → rget t e RNE.X = rnlSrc s e w % 2 ^ 32) ∧
      (bits w 27 24 = 1 → rget t e RNE.Y = rnlSrc s e w % 2 ^ 32) ∧
      (bits w 27 24 = 2 → rget t e RNE.T = rnlSrc s e w % 2 ^ 32) ∧
      (bits w 27 24 = 3 → rget t e RNE.U = rnlSrc s e w % 2 ^ 32) ∧
      (bits w 27 24 = 4 → rget t e RNE.SR = rnlSrc s e w % 2 ^ 32 ∧ rget t e RNE.MISC_BC = 0) ∧
      (bits w 27 24 = 6 → rget t e RNE.MISC_C = rnlSrc s e w % 16) ∧ t = { s with regs := t.regs, rnl := t.rnl }) ∧
    (rop w = 8 → rnlWellFormed w → ∃ t, exec (.rnlAlu e) s = .next t ∧ rget t e RNE.PC = (rget s e RNE.PC + 1) % 64 ∧
      (bits w 27 24 = 0 → rget t e RNE.X = (rget s e RNE.X + rnlSrc s e w) % 2 ^ 32) ∧
      (bits w 27 24 = 1 → rget t e RNE.X = (rget s e RNE.X + 2 ^ 32 - rnlSrc s e w) % 2 ^ 32) ∧
      (bits w 27 24 = 2 → rnlSrc s e w ≠ 0 → rget t e RNE.X = divRound (rget s e RNE.X) (rnlSrc s e w) % 2 ^ 32) ∧
      (bits w 27 24 = 2 → rnlSrc s e w = 0 → rget t e RNE.X = rget s e RNE.X ∧ rget t e RNE.MISC_F = 1) ∧
      (bits w 27 24 = 2 → t.rnl[e].nextAt = s.pt / 2 * 2 + 72) ∧
      (bits w 27 24 = 5 → rget t e RNE.SR = (16 * rget s e RNE.SR + rget s e RNE.X % 16) % 2 ^ 32 ∧
        rget t e RNE.MISC_BC = min 32 (rget s e RNE.MISC_BC + 4)) ∧
      (bits w 27 24 = 6 → rget t e RNE.MISC_C = (rnlT4 (rget s e RNE.MISC_C) ^^^ (rget s e RNE.X % 16)) % 16) ∧
      (bits w 27 24 = 3 → rget t e RNE.MISC_F = b2n (decide (rget s e RNE.X < rnlSrc s e w))) ∧
      (bits w 27 24 = 4 → rget t e RNE.X = (rget s e RNE.X &&& rnlSrc s e w) % 2 ^ 32) ∧
      t = { s with regs := t.regs, rnl := t.rnl }) ∧
    (rop w = 9 → rnlWellFormed w → reached s (rget s e RNE.T) → ∃ t, exec (.rnlWaitt e) s = .next t ∧
      rget t e RNE.T = (rget s e RNE.T + rimm w) % 2 ^ 32 ∧ rget t e RNE.PC = (rget s e RNE.PC + 1) % 64 ∧
      t = { s with regs := t.regs, rnl := t.rnl }) ∧
    (rop w = 9 → rnlWellFormed w → reached s (rget s e RNE.T) = false → ∃ t, exec (.rnlWaitt e) s = .next t ∧
      t.rnl[e].wait = .waitt ∧ t = { s with rnl := t.rnl }) ∧
  (rop w = 1 → rnlWellFormed w → ownsPin s e (rpin w) → bit w 25 → reached s (rget s e RNE.T) →
      ∃ t, exec (.rnlPin e) s = .next t ∧ rget t e RNE.T = (rget s e RNE.T + rimm w) % 2 ^ 32 ∧ rget t e RNE.PC = (rget s e RNE.PC + 1) % 64 ∧
      t.flag (rn e) RNE.FLAGS_LATE ∧ bit t.rioOut (rpin w) =
        (match bits w 27 26 with | 0 => false | 1 => true | _ => !bit s.rioOut (rpin w))) ∧
  (rop w = 2 → rnlWellFormed w → bit w 26 → reached s (rget s e RNE.T) → ∀ pins : Word,
      bit pins.toNat (rpin w) ≠ bit w 27 → ∃ t, exec (.rnlWaitp e pins) s = .next t ∧ rget t e RNE.MISC_F = 1 ∧ rget t e RNE.PC = (rget s e RNE.PC + 1) % 64) ∧
  (rop w = 3 → rnlWellFormed w → bit w 27 → ownsPin s e (rpin w) → rget s e RNE.MISC_DONE + 1 = bits w 5 0 → reached s (rget s e RNE.T) →
      ∀ pins : Word, ∃ t, exec (.rnlShift e pins) s = .next t ∧ bit t.rioOut (rpin w) = bit (rget s e RNE.SR) 31 ∧
        rget t e RNE.SR = 2 * rget s e RNE.SR % 2 ^ 32 ∧ rget t e RNE.MISC_BC = rget s e RNE.MISC_BC - 1 ∧
        rget t e RNE.T = (rget s e RNE.T + rget s e RNE.U) % 2 ^ 32 ∧ rget t e RNE.MISC_DONE = 0 ∧
        t.flag (rn e) RNE.FLAGS_LATE ∧ rget t e RNE.PC = (rget s e RNE.PC + 1) % 64) ∧
  (rop w = 3 → rnlWellFormed w → bit w 27 → ownsPin s e (rpin w) = false → ∀ pins : Word,
      ∃ t, exec (.rnlShift e pins) s = .next t ∧ t.rioOut = s.rioOut ∧ t.flag (rn e) RNE.FLAGS_PIN ∧
        rget t e RNE.SR = rget s e RNE.SR ∧ rget t e RNE.MISC_DONE = 0 ∧ rget t e RNE.PC = (rget s e RNE.PC + 1) % 64) ∧
  (rop w = 3 → rnlWellFormed w → (bit w 27 → ownsPin s e (rpin w)) → rget s e RNE.MISC_DONE + 1 < bits w 5 0 →
      reached s (rget s e RNE.T) → ∀ pins : Word, ∃ t, exec (.rnlShift e pins) s = .next t ∧ t.rnl[e].wait = .shift ∧
        rget t e RNE.MISC_DONE = rget s e RNE.MISC_DONE + 1 ∧
        rget t e RNE.T = (rget s e RNE.T + rget s e RNE.U) % 2 ^ 32 ∧ rget t e RNE.PC = rget s e RNE.PC) ∧
  (rop w = 3 → rnlWellFormed w → (bit w 27 → ownsPin s e (rpin w)) → rget s e RNE.MISC_DONE < bits w 5 0 →
      reached s (rget s e RNE.T) = false → ∀ pins : Word, ∃ t, exec (.rnlShift e pins) s = .next t ∧
        t.rnl[e].wait = .shift ∧ t = { s with rnl := t.rnl, rioPins := pins.toNat }) ∧
  (rop w = 3 → rnlWellFormed w → (bit w 27 → ownsPin s e (rpin w)) → bits w 5 0 = 0 → ∀ pins : Word,
      ∃ t, exec (.rnlShift e pins) s = .next t ∧ rget t e RNE.SR = rget s e RNE.SR ∧ rget t e RNE.T = rget s e RNE.T ∧
        t.rioOut = s.rioOut ∧ rget t e RNE.PC = (rget s e RNE.PC + 1) % 64) ∧
  (rop w = 5 → rnlWellFormed w → 8 ≤ s.rnl[e].outF.length → bit w 26 → ∃ t, exec (.rnlPush e) s = .next t ∧
      t.rnl[e].wait = .push ∧ t = { s with rnl := t.rnl }) ∧
  (rop w = 5 → rnlWellFormed w → 8 ≤ s.rnl[e].outF.length → bit w 26 = false → ∃ t, exec (.rnlPush e) s = .next t ∧
      t.rnl[e].outF = s.rnl[e].outF ∧ rget t e RNE.MISC_F = 1 ∧ t.flag (rn e) RNE.FLAGS_DROP ∧
      t.rd (rn e) RNE.CNT_DROP = sat RNE.CNT_DROP.top (s.rd (rn e) RNE.CNT_DROP + 1) ∧ rget t e RNE.PC = (rget s e RNE.PC + 1) % 64) ∧
  (rop w = 6 → rnlWellFormed w → s.rnl[e].inF = [] → bit w 25 → ∃ t, exec (.rnlPull e) s = .next t ∧
      t.rnl[e].wait = .pull ∧ t = { s with rnl := t.rnl }) ∧
  (rop w = 6 → rnlWellFormed w → s.rnl[e].inF = [] → bit w 25 = false → ∃ t, exec (.rnlPull e) s = .next t ∧
      rget t e RNE.MISC_F = 1 ∧ rget t e RNE.PC = (rget s e RNE.PC + 1) % 64 ∧ rget t e RNE.X = rget s e RNE.X ∧ rget t e RNE.SR = rget s e RNE.SR ∧
      rget t e RNE.T = rget s e RNE.T ∧ rget t e RNE.U = rget s e RNE.U)) ∧
  (∀ (e : Fin 8) (w : Nat) (pins : Word) (s : State), rnlRun s e → s.ptStands = false →
    tget s.rnl[e].prog (rget s e RNE.PC) 0 = w → s.rnl[e].wait = .pin → reached s (rget s e RNE.T) →
    ownsPin s e (rpin w) → ∃ t, exec (.rnlWaitEnd e pins) s = .next t ∧
      t.rnl[e].wait = .none ∧ bit t.rioOut (rpin w) =
        (match bits w 27 26 with | 0 => false | 1 => true | _ => !bit s.rioOut (rpin w)) ∧
      rget t e RNE.T = (rget s e RNE.T + rimm w) % 2 ^ 32 ∧ rget t e RNE.PC = (rget s e RNE.PC + 1) % 64) ∧
  (∀ (e : Fin 8) (w : Nat) (pins : Word) (s : State), rnlRun s e → s.ptStands = false →
    tget s.rnl[e].prog (rget s e RNE.PC) 0 = w → s.rnl[e].wait = .waitp →
    bit pins.toNat (rpin w) = bit w 27 → ∃ t, exec (.rnlWaitEnd e pins) s = .next t ∧
      t.rnl[e].wait = .none ∧ rget t e RNE.MISC_F = 0 ∧
      (bit w 25 → rget t e RNE.Y = (rnlCount s + 2 ^ 32 - 2) % 2 ^ 32) ∧ rget t e RNE.PC = (rget s e RNE.PC + 1) % 64) ∧
  (∀ (e : Fin 8) (w : Nat) (pins : Word) (s : State), rnlRun s e → s.ptStands = false →
    tget s.rnl[e].prog (rget s e RNE.PC) 0 = w → s.rnl[e].wait = .waitp →
    bit pins.toNat (rpin w) ≠ bit w 27 → bit w 26 → reached s (rget s e RNE.T) →
    ∃ t, exec (.rnlWaitEnd e pins) s = .next t ∧
      t.rnl[e].wait = .none ∧ rget t e RNE.MISC_F = 1 ∧ rget t e RNE.PC = (rget s e RNE.PC + 1) % 64) ∧
  (∀ (e : Fin 8) (w : Nat) (pins : Word) (s : State), rnlRun s e → s.ptStands = false →
    tget s.rnl[e].prog (rget s e RNE.PC) 0 = w → s.rnl[e].wait = .shift → s.rnl[e].nextAt ≤ s.pt →
    bit w 27 = false → rget s e RNE.MISC_DONE + 1 = bits w 5 0 → reached s (rget s e RNE.T) →
    ∃ t, exec (.rnlWaitEnd e pins) s = .next t ∧
      t.rnl[e].wait = .none ∧ rget t e RNE.MISC_DONE = 0 ∧
      rget t e RNE.SR = (2 * rget s e RNE.SR + b2n (bit pins.toNat (rpin w))) % 2 ^ 32 ∧ rget t e RNE.PC = (rget s e RNE.PC + 1) % 64) ∧
  (∀ (e : Fin 8) (w : Nat) (pins : Word) (s : State), rnlRun s e → s.ptStands = false →
    tget s.rnl[e].prog (rget s e RNE.PC) 0 = w → s.rnl[e].wait = .shift → s.rnl[e].nextAt ≤ s.pt →
    bit w 27 → ownsPin s e (rpin w) → rget s e RNE.MISC_DONE + 1 = bits w 5 0 → reached s (rget s e RNE.T) →
    ∃ t, exec (.rnlWaitEnd e pins) s = .next t ∧
      t.rnl[e].wait = .none ∧ rget t e RNE.MISC_DONE = 0 ∧
      bit t.rioOut (rpin w) = bit (rget s e RNE.SR) 31 ∧ rget t e RNE.SR = 2 * rget s e RNE.SR % 2 ^ 32 ∧ rget t e RNE.PC = (rget s e RNE.PC + 1) % 64) ∧
  (∀ (e : Fin 8) (w : Nat) (pins : Word) (s : State), rnlRun s e → s.ptStands = false →
    tget s.rnl[e].prog (rget s e RNE.PC) 0 = w → s.rnl[e].wait = .push → s.rnl[e].outF.length < 8 →
    ∃ t, exec (.rnlWaitEnd e pins) s = .next t ∧
      t.rnl[e].wait = .none ∧
      t.rnl[e].outF = s.rnl[e].outF ++ [if bit w 27 then rget s e RNE.SR else rget s e RNE.X] ∧ rget t e RNE.PC = (rget s e RNE.PC + 1) % 64) ∧
  (∀ (e : Fin 8) (w : Nat) (pins : Word) (s : State), rnlRun s e → s.ptStands = false →
    tget s.rnl[e].prog (rget s e RNE.PC) 0 = w → s.rnl[e].wait = .pull →
    ∀ (v : Nat) (rest : List Nat), s.rnl[e].inF = v :: rest → ∃ t, exec (.rnlWaitEnd e pins) s = .next t ∧
      t.rnl[e].wait = .none ∧ t.rnl[e].inF = rest ∧
      (bits w 27 26 = 0 → rget t e RNE.X = v % 2 ^ 32) ∧ (bits w 27 26 = 1 → rget t e RNE.SR = v % 2 ^ 32) ∧
      (bits w 27 26 = 2 → rget t e RNE.T = v % 2 ^ 32) ∧ (bits w 27 26 = 3 → rget t e RNE.U = v % 2 ^ 32) ∧ rget t e RNE.PC = (rget s e RNE.PC + 1) % 64) ∧
  (∀ (e : Fin 8) (w : Nat) (pins : Word) (s : State), rnlRun s e → s.ptStands = false →
    tget s.rnl[e].prog (rget s e RNE.PC) 0 = w → s.rnl[e].wait = .waitt → reached s (rget s e RNE.T) →
    ∃ t, exec (.rnlWaitEnd e pins) s = .next t ∧
      t.rnl[e].wait = .none ∧ rget t e RNE.T = (rget s e RNE.T + rimm w) % 2 ^ 32 ∧ rget t e RNE.PC = (rget s e RNE.PC + 1) % 64) ∧
  (∀ (e : Fin 8) (pins : Word) (s : State), rnlRun s e → s.ptStands = false → reached s (rget s e RNE.T) = false →
    s.rnl[e].wait = .pin ∨ s.rnl[e].wait = .waitt → exec (.rnlWaitEnd e pins) s = .next { s with rioPins := pins.toNat })

/-- Runnel engines from outside: RUN starts an engine in the next clock with no instruction waiting, and stops one in the
next clock (R339); SHIFT_CLR empties a stopped engine's shift register (R339); a stopped engine's registers and program
are written, a running one's are not, and the write is counted (R340; that MISC.BC takes its six bits as written, above 32
too, is the model's reading, log entry 95); IN takes a word or counts it (R341), OUT gives its
oldest (R341); a waiting WAITT or PUSH whose condition holds completes (R336); with the page's ENABLE at 0 writes are
discarded and counted and a read gives 0 (R484). -/
def Obligations.RunnelsStartStopAndExchange : Prop :=
  (∀ (v : Word) (s : State), s.clockOff 0x50 = false → ∃ t, exec (.rnlRunWrite v) s = .next t ∧ t.rd RUN.base RUN.RUN_RUN = v.toNat % 256 ∧
      (∀ e : Fin 8, bit v.toNat e.val → bit (s.rd RUN.base RUN.RUN_RUN) e.val = false →
        t.rnl[e] = { s.rnl[e] with wait := .none, nextAt := s.pt / 2 * 2 + 2, stopAt := none }) ∧
      (∀ e : Fin 8, bit v.toNat e.val = false → bit (s.rd RUN.base RUN.RUN_RUN) e.val →
        t.rnl[e] = { s.rnl[e] with stopAt := some (s.pt / 2 * 2 + 2) }) ∧
      (∀ e : Fin 8, bit v.toNat e.val = bit (s.rd RUN.base RUN.RUN_RUN) e.val → t.rnl[e] = s.rnl[e]) ∧
      (∀ e : Fin 8, bit v.toNat e.val = false → t.rnl[e].stopAt = none → rnlRun t e = false) ∧
      t = { s with regs := t.regs, rnl := t.rnl }) ∧
  (∀ (e : Fin 8) (s : State), s.clockOff 0x50 = false → rnlRun s e = false → ∃ t, exec (.shiftClr e) s = .next t ∧ rget t e RNE.SR = 0 ∧
      rget t e RNE.MISC_BC = 0 ∧ rget t e RNE.MISC_DONE = 0 ∧ t = { s with regs := t.regs }) ∧
  (∀ (e : Fin 8) (s : State), s.clockOff 0x50 = false →
    rnlRun s e → ∃ t, exec (.shiftClr e) s = .next t ∧
      t.rd RUN.base HDR.ERR_COUNT = sat 65535 (s.rd RUN.base HDR.ERR_COUNT + 1) ∧ t.flag (rn e) RNE.FLAGS_PROGW ∧
      rget t e RNE.SR = rget s e RNE.SR) ∧
  (∀ (e : Fin 8) (s : State), rnlRun s e → s.ptStands = false → s.rnl[e].wait = .waitt → reached s (rget s e RNE.T) →
    ∀ pins : Word, ∃ t, exec (.rnlWaitEnd e pins) s = .next t ∧ t.rnl[e].wait = .none ∧
      rget t e RNE.PC = (rget s e RNE.PC + 1) % 64 ∧
      rget t e RNE.T = (rget s e RNE.T + rimm (tget s.rnl[e].prog (rget s e RNE.PC) 0)) % 2 ^ 32) ∧
  (∀ (e : Fin 8) (s : State), rnlRun s e → s.ptStands = false → s.rnl[e].wait = .push → s.rnl[e].outF.length < 8 →
    ∀ pins : Word, ∃ t, exec (.rnlWaitEnd e pins) s = .next t ∧ t.rnl[e].wait = .none ∧
      t.rnl[e].outF.length = s.rnl[e].outF.length + 1) ∧
  (∀ (e : Fin 8) (v : Word) (s : State), s.clockOff 0x50 = false →
    s.rnl[e].inF.length < 8 → ∃ t, exec (.rnlInWrite e v) s = .next t ∧
      t.rnl[e].inF = s.rnl[e].inF ++ [v.toNat] ∧ t = { s with rnl := t.rnl }) ∧
  (∀ (e : Fin 8) (v : Word) (s : State), s.clockOff 0x50 = false →
    8 ≤ s.rnl[e].inF.length → ∃ t, exec (.rnlInWrite e v) s = .next t ∧
      t.rd RUN.base HDR.ERR_COUNT = sat 65535 (s.rd RUN.base HDR.ERR_COUNT + 1) ∧ t = { s with regs := t.regs }) ∧
  (∀ (e : Fin 8) (v : Nat) (rest : List Nat) (s : State), s.clockOff 0x50 = false →
    s.rnl[e].outF = v :: rest → ∃ t, exec (.rnlOutRead e) s = .next t ∧
      t.rnl[e].outF = rest ∧ t.respData = [toWord v] ∧
      t = { s with rnl := t.rnl, respData := t.respData, respErr := false }) ∧
  (∀ (e : Fin 8) (s : State), s.clockOff 0x50 = false →
    s.rnl[e].outF = [] → ∃ t, exec (.rnlOutRead e) s = .next t ∧ t.respData = [0] ∧
      t.rnl = s.rnl) ∧
  (∀ (e : Fin 8) (v : Word) (s : State), s.clockOff 0x50 = false → rnlRun s e = false →
    (∃ t, exec (.rnlProgramWrite e 0x08 v) s = .next t ∧ rget t e RNE.PC = v.toNat % 64 ∧ t = { s with regs := t.regs }) ∧
    (∃ t, exec (.rnlProgramWrite e 0x28 v) s = .next t ∧ rget t e RNE.X = v.toNat ∧ t = { s with regs := t.regs }) ∧
    (∃ t, exec (.rnlProgramWrite e 0x14 v) s = .next t ∧
      t.rnl[e].prog = tset s.rnl[e].prog (rget s e RNE.PADDR_ADDR) v.toNat 0 ∧
      t = { s with rnl := t.rnl, regs := t.regs })) ∧
  (∀ (e : Fin 8) (v : Word) (s : State), s.clockOff 0x50 = false →
    rnlRun s e → ∃ t, exec (.rnlProgramWrite e 0x08 v) s = .next t ∧
      rget t e RNE.PC = rget s e RNE.PC ∧ t.flag (rn e) RNE.FLAGS_PROGW ∧
      t.rd RUN.base HDR.ERR_COUNT = sat 65535 (s.rd RUN.base HDR.ERR_COUNT + 1)) ∧
  (∀ (e : Fin 8) (v : Word) (s : State), s.clockOff 0x50 = false → rnlRun s e = false →
    (∃ t, exec (.rnlProgramWrite e 0x2C v) s = .next t ∧ rget t e RNE.Y = v.toNat ∧ t = { s with regs := t.regs }) ∧
    (∃ t, exec (.rnlProgramWrite e 0x30 v) s = .next t ∧ rget t e RNE.T = v.toNat ∧ t = { s with regs := t.regs }) ∧
    (∃ t, exec (.rnlProgramWrite e 0x34 v) s = .next t ∧ rget t e RNE.U = v.toNat ∧ t = { s with regs := t.regs }) ∧
    (∃ t, exec (.rnlProgramWrite e 0x38 v) s = .next t ∧ rget t e RNE.SR = v.toNat ∧ t = { s with regs := t.regs }) ∧
    (∃ t, exec (.rnlProgramWrite e 0x3C v) s = .next t ∧ rget t e RNE.MISC_BC = v.toNat / 2 ^ 16 % 64 ∧
      rget t e RNE.MISC_F = v.toNat / 2 ^ 8 % 2 ∧ rget t e RNE.MISC_C = v.toNat % 16 ∧ t = { s with regs := t.regs })) ∧
  (∀ (e : Fin 8) (r : BitVec 8) (v : Word) (s : State), s.clockOff 0x50 → exec (.rnlRunWrite v) s = .next (s.err 0x50) ∧
      exec (.shiftClr e) s = .next (s.err 0x50) ∧ exec (.rnlInWrite e v) s = .next (s.err 0x50) ∧
      exec (.rnlProgramWrite e r v) s = .next (s.err 0x50) ∧ exec (.rnlOutRead e) s = .next (s.respond 0))

/-- The life of a core (R355 to R357, R361 to R369): a frame begins at every 2,000 ticks, abandons a task that still runs,
but not that of a core parked since a PARK, which goes on (R370, log entry 179), and carries out a restart; an occupied
slot starts its task in a bank of its own with its argument, identity, cycle and epoch, while the frame slots run, and for
a TASK released before a disarm (log entry 178); an event enters the handler with PC, flags and RC saved on the hardware
stack; a far load delivers and a far store is posted when the access is served, which takes one cycle of its port; a wait
ends when its condition holds; CTL.RESTART is held for the next frame. -/
def Obligations.CoresFramesSlotsAndFarAccesses : Prop :=
  (∀ s : State, s.coreFrame < s.pt / 2000 → s.ptStands = false → s.dev.st ≠ .park → ∃ t, exec .coreFrameStart s = .next t ∧
    t.coreFrame = s.pt / 2000 ∧ t.pt = s.pt ∧ ∀ c : Fin 4, t.cores[c].started = [] ∧ t.cores[c].parked = false ∧
      (s.cores[c].parked = false → t.cores[c].task = none) ∧
      (s.cores[c].parked → s.flag (cr c) CORE.CTL_RESTART = false → t.cores[c].task = s.cores[c].task) ∧
      (s.flag (cr c) CORE.CTL_RESTART → t.cores[c].faulted = false ∧ t.cores[c].bg = bankAt 0 s.pt ∧
        t.flag (cr c) CORE.CTL_RESTART = false)) ∧
  (∀ (c : Fin 4) (k : Fin 64) (w : Nat) (s : State), slotWord s c k.val = some w → slotMay s w → s.ptStands = false →
    s.cores[c].on → s.cores[c].faulted = false → s.cores[c].parked = false → s.plan.acts = [] → slotOccupied s c k.val w →
    ∃ t, exec (.coreSlotStart c k) s = .next t ∧
      (∀ r, releaseFor s c k.val (s.coreFrame * 2000 + fsStart w) = r →
        t.cores[c].task = some ⟨k.val, r.map (·.idx), s.coreFrame * 2000 + fsStart w, fsBudget w, false,
          r.bind (·.order)⟩ ∧
        t.cores[c].tb = (match r with
          | some r => taskBank s s.cores[c].tb w r.arg (0x8000 + r.idx)
          | none => taskBank s s.cores[c].tb w 0 k.val)) ∧ k.val ∈ t.cores[c].started ∧ t.cores[c].bg = s.cores[c].bg) ∧
  (∀ (c : Fin 4) (s : State), coreDue c s ≠ none → s.cores[c].task = none → s.cores[c].bg.ie →
    (s.cores[c].bg.rc = 0 ∨ s.cores[c].bg.rpti) → coreReq s c →
    s.rd (cr c) CORE.HSP_LIM_LIM + 3 ≤ s.rd (cr c) CORE.HSP →
    ∃ t, exec (.coreEventEntry c) s = .next t ∧ t.rd (cr c) CORE.HSP = s.rd (cr c) CORE.HSP - 3 ∧
      dmem t c (s.rd (cr c) CORE.HSP - 1) = s.cores[c].bg.pc % 65536 ∧
      dmem t c (s.rd (cr c) CORE.HSP - 2) = s.cores[c].bg.flags false % 65536 ∧
      dmem t c (s.rd (cr c) CORE.HSP - 3) = s.cores[c].bg.rc % 65536 ∧
      t.cores[c].bg = { s.cores[c].bg with
        ie := false, rc := 0, pc := s.rd (cr c) CORE.VEC_ADDR, nextAt := s.pt + 4 } ∧
      t = { s with regs := t.regs, mem := t.mem, memc := t.memc, cores := t.cores }) ∧
  (∀ (c : Fin 4) (task : Bool) (f : FarAcc) (t0 : Nat) (s : State), farLive s c → (task → s.cores[c].orphans = []) →
    bankFar s c task = some f → farServed s c task f = some t0 → postedTo s c task (farPort s f) = [] →
    (f.load = false → peerOf s f.addr = none → regionOf (ownAddr f.addr) ≠ none →
      ∃ t, exec (.coreFarDone c task) s = .next t ∧ pathBank t c task = bankProceeds s.pt (pathBank s c task) ∧
        t.cores[c].posted = s.cores[c].posted ++ [(t0 + farLatency (ownAddr f.addr), task, f)] ∧
        t = { noteSlot c (farPort s f) t0 s with cores := t.cores }) ∧
    (f.load → f.addr < 0x100000 → f.addr % farSize f = 0 → s.pattern (f.addr / 8) = 0 →
      ∃ t, exec (.coreFarDone c task) s = .next t ∧
        pathBank t c task = bankProceeds s.pt (farDeliver f (s.leBytes f.addr (farSize f)) (pathBank s c task)) ∧
        t = { s with regs := t.regs, memc := t.memc, cores := t.cores })) ∧
  (∀ (c : Fin 4) (task : Bool) (s : State), coreLive s c → s.cores[c].task.isSome = task →
    (∀ n, (pathBank s c task).wait = .time n → ptReached s n → ∃ t, exec (.coreWaitEnd c task) s = .next t ∧
      pathBank t c task = bankProceeds s.pt (pathBank s c task) ∧ t = { s with cores := t.cores }) ∧
    (∀ pd n, (pathBank s c task).wait = .angle pd n → angleReached s n → ∃ t, exec (.coreWaitEnd c task) s = .next t ∧
      pathBank t c task = bankProceeds s.pt (angleMet s.pt pd (pathBank s c task)) ∧ t = { s with cores := t.cores }) ∧
    ((pathBank s c task).wait = .event → coreReq s c → ∃ t, exec (.coreWaitEnd c task) s = .next t ∧
      pathBank t c task = bankProceeds s.pt (pathBank s c task) ∧ t = { s with cores := t.cores })) ∧
  (∀ (c : Fin 4) (s : State), ∃ t, exec (.coreRestart c) s = .next t ∧ t.flag (cr c) CORE.CTL_RESTART ∧
    t = { s with regs := t.regs })

/-- The cores' arithmetic and logic (R351): the issued instruction writes D, AC or a predicate as R351 states, sets C and V
as it states, and the bank goes on to the next instruction; nothing else of the core or the device changes. -/
def Obligations.CoreArithmeticWritesItsResult : Prop :=
  ∀ (c : Fin 4) (w : Nat) (b : CoreBank) (s : State), coreIssues s c w → liveBank s.cores[c] = b →
    (cop w = 0x01 → ∃ t, exec (.coreNop c) s = .next t ∧ bankBecomes s t c (bankProceeds s.pt b)) ∧
    (cop w = 0x02 → ∃ t, exec (.coreAdd c) s = .next t ∧ bankBecomes s t c (bankProceeds s.pt
      { b.setW (cD w) (b.reg (cA w) + b.reg (cB w)) with c := decide (65536 ≤ b.reg (cA w) + b.reg (cB w)) })) ∧
    (cop w = 0x03 → ∃ t, exec (.coreAddc c) s = .next t ∧ bankBecomes s t c (bankProceeds s.pt
      { b.setW (cD w) (b.reg (cA w) + b.reg (cB w) + b2n b.c) with
        c := decide (65536 ≤ b.reg (cA w) + b.reg (cB w) + b2n b.c) })) ∧
    (cop w = 0x04 → ∃ t, exec (.coreSub c) s = .next t ∧ bankBecomes s t c (bankProceeds s.pt
      { b.setW (cD w) (b.reg (cA w) + 2 * 65536 - b.reg (cB w)) with c := decide (b.reg (cA w) < b.reg (cB w)) })) ∧
    (cop w = 0x05 → ∃ t, exec (.coreSubc c) s = .next t ∧ bankBecomes s t c (bankProceeds s.pt
      { b.setW (cD w) (b.reg (cA w) + 2 * 65536 - b.reg (cB w) - b2n b.c) with
        c := decide (b.reg (cA w) < b.reg (cB w) + b2n b.c) })) ∧
    (cop w = 0x06 → ∃ t, exec (.coreAdds c) s = .next t ∧ bankBecomes s t c (bankProceeds s.pt
      { b.setW (cD w) (unsigned 16 (clampI (-32768) 32767 (sreg b (cA w) + sreg b (cB w)))) with
        v := b.v || decide (clampI (-32768) 32767 (sreg b (cA w) + sreg b (cB w)) ≠ sreg b (cA w) + sreg b (cB w)) })) ∧
    (cop w = 0x07 → ∃ t, exec (.coreSubs c) s = .next t ∧ bankBecomes s t c (bankProceeds s.pt
      { b.setW (cD w) (unsigned 16 (clampI (-32768) 32767 (sreg b (cA w) - sreg b (cB w)))) with
        v := b.v || decide (clampI (-32768) 32767 (sreg b (cA w) - sreg b (cB w)) ≠ sreg b (cA w) - sreg b (cB w)) })) ∧
    (cop w = 0x08 → ∃ t, exec (.coreAnd c) s = .next t ∧
      bankBecomes s t c (bankProceeds s.pt (b.setW (cD w) (b.reg (cA w) &&& b.reg (cB w))))) ∧
    (cop w = 0x09 → ∃ t, exec (.coreOr c) s = .next t ∧
      bankBecomes s t c (bankProceeds s.pt (b.setW (cD w) (b.reg (cA w) ||| b.reg (cB w))))) ∧
    (cop w = 0x0A → ∃ t, exec (.coreXor c) s = .next t ∧
      bankBecomes s t c (bankProceeds s.pt (b.setW (cD w) (b.reg (cA w) ^^^ b.reg (cB w))))) ∧
    (cop w = 0x0B → ∃ t, exec (.coreAddi c) s = .next t ∧ bankBecomes s t c (bankProceeds s.pt
      { b.setW (cD w) (b.reg (cA w) + cS14 w) with c := decide (65536 ≤ b.reg (cA w) + cS14 w) })) ∧
    (cop w = 0x0C → ∃ t, exec (.coreAndi c) s = .next t ∧
      bankBecomes s t c (bankProceeds s.pt (b.setW (cD w) (b.reg (cA w) &&& bits w 13 0)))) ∧
    (cop w = 0x0D → ∃ t, exec (.coreOri c) s = .next t ∧
      bankBecomes s t c (bankProceeds s.pt (b.setW (cD w) (b.reg (cA w) ||| bits w 13 0)))) ∧
    (cop w = 0x0E → ∃ t, exec (.coreXori c) s = .next t ∧
      bankBecomes s t c (bankProceeds s.pt (b.setW (cD w) (b.reg (cA w) ^^^ bits w 13 0)))) ∧
    (cop w = 0x0F → ∃ t, exec (.coreShift c) s = .next t ∧ bankBecomes s t c (bankProceeds s.pt
      (let n := if bit w 11 then b.reg (bits w 7 4) % 16 else bits w 3 0
       if n = 0 then b.setW (cD w) (b.reg (cA w))
       else { b.setW (cD w) (shiftOf (bits w 13 12) (b.reg (cA w)) n).1 with
         c := (shiftOf (bits w 13 12) (b.reg (cA w)) n).2 }))) ∧
    (cop w = 0x10 → ∃ t, exec (.coreMov c) s = .next t ∧
      bankBecomes s t c (bankProceeds s.pt (b.setW (cD w) (b.reg (cA w))))) ∧
    (cop w = 0x11 → ∃ t, exec (.coreMovi c) s = .next t ∧
      bankBecomes s t c (bankProceeds s.pt (b.setW (cD w) (bits w 15 0)))) ∧
    (cop w = 0x12 → ∃ t, exec (.coreMpy c) s = .next t ∧ bankBecomes s t c { bankProceeds s.pt
      (b.setW (cD w) (if bit w 9 then unsigned 32 (sreg b (cA w) * sreg b (cB w)) / 65536
        else unsigned 32 (sreg b (cA w) * sreg b (cB w)))) with nextAt := s.pt + 2 }) ∧
    (cop w = 0x13 → ∃ t, exec (.coreMac c) s = .next t ∧
      bankBecomes s t c (bankProceeds s.pt (acAdd b (macProduct w (b.reg (cA w)) (b.reg (cB w)))))) ∧
    (cop w = 0x15 → ∃ t, exec (.coreCmp c) s = .next t ∧ bankBecomes s t c (bankProceeds s.pt (b.setPred (bits w 21 19)
      (ccHolds (bits w 18 16) (sreg b (bits w 15 12)) (sreg b (bits w 11 8)) (b.reg (bits w 15 12)) (b.reg (bits w 11 8)))))) ∧
    (cop w = 0x16 → ∃ t, exec (.coreCmpi c) s = .next t ∧ bankBecomes s t c (bankProceeds s.pt (b.setPred (bits w 21 19)
      (ccHolds (bits w 18 16) (sreg b (bits w 15 12)) (signed 12 (bits w 11 0)) (b.reg (bits w 15 12)) (bits w 11 0)))))

/-- The cores' accumulator moves, predicate logic, memory accesses, jumps and repeats (R349, R351, R353, R361): each issued
instruction does what R351 states for it; the part and the function R351 leaves undefined write a free value; a load reads and
a store writes the core's data memory; a far access leaves the bank waiting for it; a branch goes to its target. Three
points are the model's reading: LD with POST and D = A (log entry 102), MACM with A = B (log entry 101), and that a repeated word
is judged from the bits stored (log entry 100). -/
def Obligations.CoreMemoryJumpsAndRepeats : Prop :=
  ∀ (c : Fin 4) (w : Nat) (b : CoreBank) (s : State), coreIssues s c w → liveBank s.cores[c] = b →
    (cop w = 0x14 → bits w 9 8 = 0 → ∃ t, exec (.coreAcop c) s = .next t ∧
      bankBecomes s t c (bankProceeds s.pt { b with ac := 0 })) ∧
    (cop w = 0x14 → bits w 9 8 = 1 → ∃ t, exec (.coreAcop c) s = .next t ∧
      bankBecomes s t c (bankProceeds s.pt { b with ac := unsigned 40 (sreg b (cA w) * 65536 + b.reg (cB w)) })) ∧
    (cop w = 0x14 → bits w 9 8 = 2 → bits w 7 6 = 0 → ∃ t, exec (.coreAcop c) s = .next t ∧
      bankBecomes s t c (bankProceeds s.pt (b.setW (cD w) (b.ac % 65536)))) ∧
    (cop w = 0x14 → bits w 9 8 = 2 → bits w 7 6 = 1 → ∃ t, exec (.coreAcop c) s = .next t ∧
      bankBecomes s t c (bankProceeds s.pt (b.setW (cD w) (b.ac / 65536 % 65536)))) ∧
    (cop w = 0x14 → bits w 9 8 = 2 → bits w 7 6 = 2 → ∃ t, exec (.coreAcop c) s = .next t ∧
      bankBecomes s t c (bankProceeds s.pt (b.setW (cD w) (unsigned 16 (signed 8 (b.ac / 2 ^ 32)))))) ∧
    (cop w = 0x14 → bits w 9 8 = 2 → bits w 7 6 = 3 → ∃ t, exec (.coreAcop c) s = .next t ∧ t.free = s.free + 1 ∧
      liveBank t.cores[c] = bankProceeds s.pt (b.setW (cD w) (Config.acPart3 s.free).toNat)) ∧
    (cop w = 0x14 → bits w 9 8 = 3 → ∀ r : Int,
      r = (if bits w 4 0 = 0 then acOf b else (acOf b + 2 ^ (bits w 4 0 - 1)).fdiv (2 ^ bits w 4 0)) →
      ∃ t, exec (.coreAcop c) s = .next t ∧ bankBecomes s t c (bankProceeds s.pt
        { b.setW (cD w) (unsigned 16 (clampI (-32768) 32767 r)) with v := b.v || decide (clampI (-32768) 32767 r ≠ r) })) ∧
    (cop w = 0x17 → bits w 10 9 ≠ 3 → ∃ t, exec (.corePlog c) s = .next t ∧
      bankBecomes s t c (bankProceeds s.pt (b.setPred (bits w 21 19)
        (let x := b.pred (bits w 18 16) != bit w 12
         let y := b.pred (bits w 15 13) != bit w 11
         if bits w 10 9 = 0 then x && y else if bits w 10 9 = 1 then x || y else x != y)))) ∧
    (cop w = 0x17 → bits w 10 9 = 3 → ∃ t, exec (.corePlog c) s = .next t ∧ t.free = s.free + 1 ∧
      liveBank t.cores[c] = bankProceeds s.pt (b.setPred (bits w 21 19) (Config.plogFn3 s.free))) ∧
    (cop w = 0x18 → secBad s (dmemAddr c (nearAddr b w)) = 0 → ∃ t, exec (.coreLd c) s = .next t ∧
      bankBecomes s t c (bankProceeds s.pt (postAdd w (b.setW (cD w) (dmem s c (nearAddr b w)))))) ∧
    (cop w = 0x19 → ∃ t, exec (.coreSt c) s = .next t ∧ liveBank t.cores[c] = bankProceeds s.pt (postAdd w b) ∧
      dmem t c (nearAddr b w) = b.reg (cD w) % 65536 ∧
      (∀ a, a ≠ dmemAddr c (nearAddr b w) → a ≠ dmemAddr c (nearAddr b w) + 1 → t.byte a = s.byte a) ∧
      t = { s with cores := t.cores, mem := t.mem, memc := t.memc }) ∧
    (cop w = 0x1A → farAddr b w % (if bit w 13 then 4 else 2) = 0 → ∃ t, exec (.coreLdf c) s = .next t ∧
      ∃ f, bankBecomes s t c { b with wait := .far f } ∧ f.load ∧ f.addr = farAddr b w ∧ f.w32 = bit w 13 ∧ f.reg = cD w ∧
        f.issued = s.pt) ∧
    (cop w = 0x1B → farAddr b w % (if bit w 13 then 4 else 2) = 0 → ∃ t, exec (.coreStf c) s = .next t ∧
      ∃ f, bankBecomes s t c { b with wait := .far f } ∧ f.load = false ∧ f.addr = farAddr b w ∧ f.w32 = bit w 13 ∧
        f.data = (if bit w 13 then b.pair (cD w) else b.reg (cD w))) ∧
    (cop w = 0x1C → ∃ t, exec (.coreBr c) s = .next t ∧
      bankBecomes s t c { b with nextAt := s.pt + 2, wait := .none, rc := 0, pc := bits w 13 0 % 16384 }) ∧
    (cop w = 0x1D → ∃ t, exec (.coreCall c) s = .next t ∧ bankBecomes s t c
      { b with lk := (b.pc + 1) % 16384, nextAt := s.pt + 2, wait := .none, rc := 0, pc := bits w 13 0 % 16384 }) ∧
    (cop w = 0x1E → ∃ t, exec (.coreJr c) s = .next t ∧
      bankBecomes s t c { b with nextAt := s.pt + 2, wait := .none, rc := 0, pc := b.reg (cA w) % 16384 }) ∧
    (cop w = 0x1F → ∃ t, exec (.coreRet c) s = .next t ∧
      bankBecomes s t c { b with nextAt := s.pt + 2, wait := .none, rc := 0, pc := b.lk % 16384 }) ∧
    (cop w = 0x20 → (if bit w 20 then b.reg (cA w) else bits w 13 0) ≠ 0 →
      repeatable (cop (s.leBytes (imemAddr c (b.pc + 1)) 4)) →
      ∃ t, exec (if bit w 21 then .coreRpti c else .coreRpt c) s = .next t ∧ bankBecomes s t c { b with
        rc := if bit w 20 then b.reg (cA w) else bits w 13 0, rpti := bit w 21, pc := (b.pc + 1) % 16384,
        nextAt := s.pt + 1 }) ∧
    (cop w = 0x20 → (if bit w 20 then b.reg (cA w) else bits w 13 0) = 0 →
      ∃ t, exec (if bit w 21 then .coreRpti c else .coreRpt c) s = .next t ∧
        bankBecomes s t c { b with nextAt := s.pt + 1, wait := .none, rc := 0, pc := (b.pc + 2) % 16384 }) ∧
    (cop w = 0x29 → secBad s (dmemAddr c (b.reg (cA w))) = 0 → secBad s (dmemAddr c (b.reg (cB w))) = 0 →
      ∃ t, exec (.coreMacm c) s = .next t ∧
        liveBank t.cores[c] = bankProceeds s.pt
          (let x := (acAdd b (macProduct w (dmem s c (b.reg (cA w))) (dmem s c (b.reg (cB w))))).setW (cA w)
             (b.reg (cA w) + bits w 6 4)
           x.setW (cB w) (x.reg (cB w) + 1)) ∧ t.mem = s.mem)

/-- The cores' waits, events and control registers (R347, R355 to R360, R367): WFE, WAITPT and WAITA go on at once when what they
wait for has come, and otherwise leave the bank waiting; SEV raises its source; MFC and MTC move control registers, RC by MTC
and ANG0 by MFC left out; RETE returns from the hardware stack, and that a repeat it restores allows event entry (R353) is the
model's reading (log entry 99); ENDT ends the background or completes the task. -/
def Obligations.CoreWaitsEventsAndControlRegisters : Prop :=
  ∀ (c : Fin 4) (w : Nat) (b : CoreBank) (s : State), coreIssues s c w → liveBank s.cores[c] = b →
    (cop w = 0x21 → ∃ t, exec (.coreWfe c) s = .next t ∧
      bankBecomes s t c (if coreReq s c then bankProceeds s.pt b else { b with wait := .event })) ∧
    (cop w = 0x22 → ∃ t, exec (.coreSev c) s = .next t ∧ liveBank t.cores[c] = bankProceeds s.pt b ∧
      (∃ e ∈ t.inFlight, e.src = 240 + bits w 3 0 ∧ e.raisedAt = s.tick) ∧ t.mem = s.mem) ∧
    (cop w = 0x23 → ∃ t, exec (.coreWaitpt c) s = .next t ∧ bankBecomes s t c
      (if ptReached s (b.pair (cA w)) then bankProceeds s.pt b else { b with wait := .time (b.pair (cA w)) })) ∧
    (cop w = 0x24 → s.dev.epochOpen → b.pair (cA w) < devLen s → ∃ t, exec (.coreWaita c) s = .next t ∧
      bankBecomes s t c (if angleReached s (b.pair (cA w)) then bankProceeds s.pt (angleMet s.pt (bits w 21 19) b)
        else { b with wait := .angle (bits w 21 19) (b.pair (cA w)) })) ∧
    (cop w = 0x24 → s.dev.epochOpen = false → ∃ t, exec (.coreWaita c) s = .next t ∧
      bankBecomes s t c (bankProceeds s.pt (b.setPred (bits w 21 19) false))) ∧
    (cop w = 0x25 → bits w 4 0 ≠ 4 → bits w 4 0 ≠ 8 → ∃ t, exec (.coreMfc c) s = .next t ∧
      bankBecomes s t c (bankProceeds s.pt (b.setW (cD w) (cregRead s c b (bits w 4 0))))) ∧
    (cop w = 0x25 → bits w 4 0 = 4 → ∃ t, exec (.coreMfc c) s = .next t ∧
      bankBecomes s t c (bankProceeds s.pt ({ b with ptSnap := s.pt / 65536 }.setW (cD w) (s.pt % 65536)))) ∧
    (cop w = 0x26 → bits w 4 0 = 0 → ∃ t, exec (.coreMtc c) s = .next t ∧
      bankBecomes s t c ((bankProceeds s.pt b).setFlags (b.reg (cA w)))) ∧
    (cop w = 0x26 → bits w 4 0 = 1 → ∃ t, exec (.coreMtc c) s = .next t ∧
      bankBecomes s t c { bankProceeds s.pt b with lk := b.reg (cA w) % 16384 }) ∧
    (cop w = 0x26 → bits w 4 0 = 2 → s.cores[c].task = none → ∃ t, exec (.coreMtc c) s = .next t ∧
      t.rd (cr c) CORE.HSP = b.reg (cA w) % (CORE.HSP.top + 1) ∧ liveBank t.cores[c] = bankProceeds s.pt b) ∧
    (cop w = 0x27 → s.cores[c].task = none → secBad s (dmemAddr c (s.rd (cr c) CORE.HSP)) = 0 →
      secBad s (dmemAddr c (s.rd (cr c) CORE.HSP + 1)) = 0 → secBad s (dmemAddr c (s.rd (cr c) CORE.HSP + 2)) = 0 →
      ∃ t, exec (.coreRete c) s = .next t ∧ liveBank t.cores[c] = { b.setFlags (dmem s c (s.rd (cr c) CORE.HSP + 1)) with
          rc := dmem s c (s.rd (cr c) CORE.HSP), rpti := true, pc := dmem s c (s.rd (cr c) CORE.HSP + 2) % 16384,
          nextAt := s.pt + 4, wait := .none } ∧ t = { s with regs := t.regs, cores := t.cores }) ∧
    (cop w = 0x28 → s.cores[c].task = none → ∃ t, exec (.coreEndt c) s = .next t ∧ t.cores[c].idle ∧
      t = { s with cores := t.cores }) ∧
    (cop w = 0x28 → ∀ k, s.cores[c].task = some k → ∃ t, exec (.coreEndt c) s = .next t ∧ t.cores[c].task = none)

/-- The Catchment (R375 to R380): an event that has arrived is counted and leaves its way; with the count limit met, or at the
coalescing timeout, an idle source becomes pending at the next target its route names, with its count of events begun again; a
completion at the target it is pending at is noted, any other is a stray and recorded; SETPEND raises the source as if it had
fired. -/
def Obligations.CatchmentTakesAndCompletesEvents : Prop :=
  (∀ (src : BitVec 8) (e : RaisedEvt) (s : State), s.dev.st ≠ .park →
    s.inFlight.find? (fun e => decide (e.src = src.toNat) && decide (e.due ≤ s.tick)) = some e →
    ∃ t, exec (.catchEvent src) s = .next t ∧ t.inFlight = s.inFlight.erase e ∧
      t.rd (CSTAT.base src.toNat) CSTAT.STAT_COUNT =
        sat CSTAT.STAT_COUNT.top (s.rd (CSTAT.base src.toNat) CSTAT.STAT_COUNT + 1) ∧
      (∀ n tg, n = src.toNat → (s.csrc n).pend = none →
        s.cfg (CSRC.base n) CSRC.CFG_COAL_N ≤ sat 255 ((s.csrc n).acc + 1) →
        nextTarget (s.cfg (CSRC.base n) CSRC.CFG_ROUTE) ((s.csrc n).last.getD 6) = some tg →
        (t.csrc n).pend = some tg ∧ (t.csrc n).acc = 0) ∧
      t = { s with regs := t.regs, inFlight := t.inFlight, catch_ := t.catch_ }) ∧
  (∀ (src : BitVec 8) (tg : Nat) (s : State), (s.csrc src.toNat).acc ≠ 0 → s.ptStands = false → s.dev.st ≠ .park →
    (s.csrc src.toNat).pend = none → coalMet s src.toNat (s.csrc src.toNat) →
    nextTarget (s.cfg (CSRC.base src.toNat) CSRC.CFG_ROUTE) ((s.csrc src.toNat).last.getD 6) = some tg →
    ∃ t, exec (.catchCoalTimeout src) s = .next t ∧ (t.csrc src.toNat).pend = some tg ∧ (t.csrc src.toNat).acc = 0 ∧
      t = { s with regs := t.regs, catch_ := t.catch_ }) ∧
  (∀ (tg : Fin 7) (src : BitVec 8) (s : State), (s.csrc src.toNat).pend = some tg.val →
    (s.csrc src.toNat).completing = false → ∃ t, exec (.catchComplete tg src) s = .next t ∧
      t.csrc src.toNat = { s.csrc src.toNat with completing := true } ∧
      (∀ m, m ≠ src.toNat → t.csrc m = s.csrc m) ∧ t = { s with catch_ := t.catch_ }) ∧
  (∀ (tg : Fin 7) (src : BitVec 8) (s : State), (s.csrc src.toNat).pend ≠ some tg.val →
    ∃ t, exec (.catchComplete tg src) s = .next t ∧
      t.rd CATCH.base CATCH.STRAY_SRC = src.toNat ∧ t.rd CATCH.base CATCH.STRAY_TARGET = tg.val ∧
      t.flag CATCH.base CATCH.STRAY_VALID ∧ t = { s with regs := t.regs }) ∧
  (∀ (src : BitVec 8) (s : State), ∃ t, exec (.setpend src) s = .next t ∧
      (∃ e ∈ t.inFlight, e.src = src.toNat ∧ e.raisedAt = s.tick) ∧
      t = { s with regs := t.regs, inFlight := t.inFlight, sys := t.sys })

/-- The Flume (R385 to R397): a start of an idle channel that may start takes the programmed registers and runs, and a
start of a busy one is refused and counted; a beat whose read and write are answered moves its bytes, at most one access
of them, and one whose access fails halts the channel with the failing access; a fetched list element is taken; a resume
is the beat of the halted channel set running; an abort ends the transfer with RESULT 4; CTRL takes a value without
reserved codes while the channel is idle, that of a plan-slotted channel taints the plan and is refused while armed; with
the page's ENABLE at 0 writes are discarded and counted, and no beat moves (R484). -/
def Obligations.FlumeChannelsStartMoveAndEnd : Prop :=
  (∀ (c : Fin 32) (s : State), s.clockOff 0x60 = false → dueDma c s = none → planned s c = false → flumeState s c = 0 →
    fl s c FLC.COUNT_BYTES ≠ 0 → startOk s c → ∃ t, exec (.flumeStart c) s = .next t ∧ flumeState t c = 1 ∧
      fl t c FLC.CUR_SRC_ADDR = fl s c FLC.SRC_ADDR ∧ fl t c FLC.CUR_DST_ADDR = fl s c FLC.DST_ADDR ∧
      fl t c FLC.REMAIN_BYTES = fl s c FLC.COUNT_BYTES ∧ t.flume[c].ctrl = s.reg (fc c + 0xC) ∧
      t = { s with regs := t.regs, flume := t.flume }) ∧
  (∀ (c : Fin 32) (s : State), s.clockOff 0x60 = false → dueDma c s = none → planned s c = false → flumeState s c ≠ 0 →
    ∃ t, exec (.flumeStart c) s = .next t ∧
      t.rd FLUME.base HDR.ERR_COUNT = sat 65535 (s.rd FLUME.base HDR.ERR_COUNT + 1) ∧ t.flume = s.flume) ∧
  (∀ (c : Fin 32) (v u : Nat) (l : List Nat) (s s1 s2 : State), flumeState s c = 1 → s.clockOff 0x60 = false → busStopped s = false →
    chanAwaits s c = false → s.flume[c].appendEnd = none → s.flume[c].buf = none → s.flume[c].elLeft ≠ 0 →
    chanRead c (fl s c FLC.CUR_SRC_ADDR) (nextSize s c) s = (.done 0 v, s1) →
    l = swapBytes (flCtl s1 c FLC.CTRL_SWAP) (toBytes (nextSize s c) v) →
    chanWrite c (fl s1 c FLC.CUR_DST_ADDR) (pieceSize (fl s1 c FLC.CUR_DST_ADDR) l.length)
      (ofBytes (l.take (pieceSize (fl s1 c FLC.CUR_DST_ADDR) l.length)))
      (s1.updFlume c (fun x => { x with buf := some l })) = (.done 0 u, s2) →
    ∃ t, exec (.flumeBeat c) s = .next t ∧ t = chanAdvance c (pieceSize (fl s1 c FLC.CUR_DST_ADDR) l.length) l s2) ∧
  (∀ (c : Fin 32) (n : Nat) (l : List Nat) (s : State), flCtl s c FLC.CTRL_SUM = 0 → n < fl s c FLC.REMAIN_BYTES →
    n < s.flume[c].elLeft → fl (chanAdvance c n l s) c FLC.REMAIN_BYTES = fl s c FLC.REMAIN_BYTES - n ∧
      (chanAdvance c n l s).flume[c].elLeft = s.flume[c].elLeft - n ∧
      (chanAdvance c n l s).flume[c].buf = (if l.length ≤ n then none else some (l.drop n)) ∧
      (flCtl s c FLC.CTRL_SRC_FIX = 0 → fl (chanAdvance c n l s) c FLC.CUR_SRC_ADDR =
        (fl s c FLC.CUR_SRC_ADDR + n) % 2 ^ 32) ∧
      (flCtl s c FLC.CTRL_DST_FIX = 0 → fl (chanAdvance c n l s) c FLC.CUR_DST_ADDR =
        (fl s c FLC.CUR_DST_ADDR + n) % 2 ^ 32)) ∧
  (∀ (c : Fin 32) (s : State), s.clockOff 0x60 = false → flumeState s c = 2 → ∃ t, exec (.flumeResume c) s = .next t ∧
      exec (.flumeBeat c) (s.wr (fc c) FLC.STAT_STATE 1) = .next t) ∧
  (∀ (c : Fin 32) (s : State), s.clockOff 0x60 = false → flumeState s c ≠ 0 → s.plan.acts = [] → ∃ t, exec (.flumeAbort c) s = .next t ∧
      flumeState t c = 0 ∧ fl t c FLC.STAT_RESULT = 4 ∧ t.mem = s.mem) ∧
  (∀ (c : Fin 32) (v : Word) (s : State), s.clockOff 0x60 = false → planned s c = false → flumeState s c = 0 → ctrlBad c v.toNat = false →
    ∃ t, exec (.flumeCtrlWrite c v) s = .next t ∧ t.reg (fc c + 0xC) = v ∧ t = { s with regs := t.regs }) ∧
  (∀ (c : Fin 32) (v : Word) (s : State), s.clockOff 0x60 = false → planned s c = false → flumeState s c = 0 → ctrlBad c v.toNat →
    ∃ t, exec (.flumeCtrlWrite c v) s = .next t ∧ t.reg (fc c + 0xC) = s.reg (fc c + 0xC) ∧
      t.rd FLUME.base HDR.ERR_COUNT = sat 65535 (s.rd FLUME.base HDR.ERR_COUNT + 1)) ∧
  (∀ (c : Fin 32) (v u : Nat) (l : List Nat) (s s2 : State), flumeState s c = 1 → s.clockOff 0x60 = false → busStopped s = false →
    chanAwaits s c = false → s.flume[c].appendEnd = none → s.flume[c].buf = some l →
    chanWrite c (fl s c FLC.CUR_DST_ADDR) (pieceSize (fl s c FLC.CUR_DST_ADDR) l.length)
      (ofBytes (l.take (pieceSize (fl s c FLC.CUR_DST_ADDR) l.length))) s = (.done v u, s2) →
    ∃ t, exec (.flumeBeat c) s = .next t ∧
      (v = 0 → t = chanAdvance c (pieceSize (fl s c FLC.CUR_DST_ADDR) l.length) l s2) ∧
      (v ≠ 0 → flumeState t c = 2 ∧ fl t c FLC.STAT_FAIL_WR = 1 ∧
        fl t c FLC.FAIL_ADDR_ADDR = fl s c FLC.CUR_DST_ADDR % 2 ^ 32)) ∧
  (∀ (c : Fin 32) (st v : Nat) (s s1 : State), flumeState s c = 1 → s.clockOff 0x60 = false → busStopped s = false →
    chanAwaits s c = false → s.flume[c].appendEnd = none → s.flume[c].buf = none → s.flume[c].elLeft ≠ 0 → st ≠ 0 →
    chanRead c (fl s c FLC.CUR_SRC_ADDR) (nextSize s c) s = (.done st v, s1) →
    ∃ t, exec (.flumeBeat c) s = .next t ∧ flumeState t c = 2 ∧ fl t c FLC.STAT_FAIL_WR = 0 ∧
      fl t c FLC.FAIL_ADDR_ADDR = chanFrom s1 c (fl s c FLC.CUR_SRC_ADDR) % 2 ^ 32 ∧
      fl t c FLC.STAT_POISON = b2n (decide (st = 4))) ∧
  (∀ (c : Fin 32) (a w : Nat) (s s1 : State), flumeState s c = 1 → s.clockOff 0x60 = false → busStopped s = false →
    chanAwaits s c = false → s.flume[c].appendEnd = none → s.flume[c].buf = none → s.flume[c].elLeft = 0 →
    s.flume[c].nextEl = some a → chanRead c a 8 s = (.done 0 w, s1) →
    exec (.flumeBeat c) s = .next (takeElement c a w s1)) ∧
  (∀ (c : Fin 32) (v : Word) (s : State), s.clockOff 0x60 = false → flumeState s c ≠ 0 →
    (planned s c → s.armedOrLater = false) → exec (.flumeCtrlWrite c v) s = .next (s.err 0x60)) ∧
  (∀ (c : Fin 32) (v : Word) (s : State), s.clockOff 0x60 = false → planned s c → s.armedOrLater →
    exec (.flumeCtrlWrite c v) s = .next (s.err 0x05) ∧
      (dueDma c s = none → exec (.flumeStart c) s = .next (s.err 0x05))) ∧
  (∀ (c : Fin 32) (v : Word) (s : State), s.clockOff 0x60 = false → planned s c → s.armedOrLater = false →
    flumeState s c = 0 → ctrlBad c v.toNat = false → ∃ t, exec (.flumeCtrlWrite c v) s = .next t ∧
      t.reg (fc c + 0xC) = v ∧ t.rd PLAN.base PLAN.INFO_TAINTED = 1 ∧ t = { s with regs := t.regs }) ∧
  (∀ (c : Fin 32) (v : Word) (s : State), s.clockOff 0x60 → exec (.flumeAbort c) s = .next (s.err 0x60) ∧
      exec (.flumeResume c) s = .next (s.err 0x60) ∧ exec (.flumeBeat c) s = .next s ∧
      exec (.flumeCtrlWrite c v) s = .next (s.err 0x60) ∧
      (dueDma c s = none → exec (.flumeStart c) s = .next (s.err 0x60)))

/-- Accesses by address (R12, R139, R180, R434, R435, R437, R438), each in a cycle of its port that serves it, after which that
cycle serves no other (R444): a read of sound SRAM answers the bytes and changes no memory, a write changes the bytes it names and no other; a plan memory takes
writes while not armed, which taint the plan, else they are discarded and counted; an address outside every region ends in
a bus error and no access; a write of an ordinary register sets its RW and RW-S fields, clears the W1C bits written with
1, and keeps its other fields; an access whose cycle is another's waits and changes nothing (R139, log entry 150). In an open
cycle the winner of R445 is a member of a cluster that presents a request; where a round of turns stands is the model's, log
entry 199. -/
def Obligations.AccessesReadAndWrite : Prop :=
  (∀ (i : Initiator) (a : Word) (n : Nat) (s : State), accessForm a.toNat n → busStopped s = false →
    portOpen s i (portOf (targetOf s a.toNat)) → a.toNat < 0x100000 →
    s.pattern (a.toNat / 8) = 0 → ∃ t, exec (.memoryRead i a n) s = .next t ∧
      t.respData = (if n ≤ 4 then [toWord (s.leBytes a.toNat n)]
        else [toWord (s.leBytes a.toNat n), toWord (s.leBytes a.toNat n / 2 ^ 32)]) ∧ t.respErr = false ∧
      (∀ code, busAllows t code (portOf (targetOf s a.toNat)) = false) ∧
      t = { s with regs := t.regs, memc := t.memc, respData := t.respData, respErr := false }) ∧
  (∀ (port c : Nat) (asks : Nat → Bool) (s : State), (openWinner s port asks).1 = some c → asks c = true ∧ c ∈ clusterCodes) ∧
  (∀ (i : Initiator) (a : Word) (n : Nat) (s : State), accessForm a.toNat n → busStopped s = false →
    portOpen s i (portOf (targetOf s a.toNat)) → regionOf a.toNat = none →
    ∃ t, exec (.memoryRead i a n) s = .next t ∧ t.respErr ∧ t.respData = [] ∧ t.reg (MEM.base + 0x70) = a ∧ t.mem = s.mem) ∧
  (∀ (i : Initiator) (a : Word) (l : List Byte) (s : State), accessForm a.toNat l.length → busStopped s = false →
    portOpen s i (portOf (targetOf s a.toNat)) →
    a.toNat < 0x100000 → s.pattern (a.toNat / 8) = 0 → s.flag MEM.base MEM.INJ_CTL_ARM = false →
    ∃ t, exec (.memoryWrite i a l) s = .next t ∧ t.respErr = false ∧ t.pattern (a.toNat / 8) = 0 ∧
      (∀ k (h : k < l.length), t.byte (a.toNat + k) = l[k]) ∧
      (∀ x, x < a.toNat ∨ a.toNat + l.length ≤ x → t.byte x = s.byte x) ∧
      t = { s with regs := t.regs, mem := t.mem, memErr := t.memErr, memc := t.memc, respErr := false }) ∧
  (∀ (i : Initiator) (a : Word) (l : List Byte) (s : State), accessForm a.toNat l.length → busStopped s = false →
    portOpen s i (portOf (targetOf s a.toNat)) →
    isPlanMem a.toNat → s.armedOrLater → ∃ t, exec (.planMemoryWrite i a l) s = .next t ∧
      t.rd PLAN.base HDR.ERR_COUNT = sat 65535 (s.rd PLAN.base HDR.ERR_COUNT + 1) ∧ t.mem = s.mem ∧
      t = { s with regs := t.regs, memc := t.memc, respErr := false }) ∧
  (∀ (i : Initiator) (a : Word) (l : List Byte) (s : State), accessForm a.toNat l.length → busStopped s = false →
    portOpen s i (portOf (targetOf s a.toNat)) →
    isPlanMem a.toNat → s.armedOrLater = false → (a.toNat < 0x158000 → s.pattern (a.toNat / 8) = 0) →
    ∃ t, exec (.planMemoryWrite i a l) s = .next t ∧ t.flag PLAN.base PLAN.INFO_TAINTED ∧ t.respErr = false ∧
      (∀ k (h : k < l.length), t.byte (a.toNat + k) = l[k]) ∧
      (∀ x, x < a.toNat ∨ a.toNat + l.length ≤ x → t.byte x = s.byte x)) ∧
  (∀ (i : Initiator) (a v : Word) (s : State), busStopped s = false → portOpen s i (portOf (targetOf s a.toNat)) →
    0x400000 ≤ a.toNat → a.toNat < 0x480000 →
    a.toNat % 4 = 0 → profTableAt a.toNat = none → fieldsAt a.toNat ≠ [] → isTrkBReserved a.toNat = false →
    0x40 ≤ a.toNat % 0x1000 → s.clockOff (pageOf a.toNat) = false → writeActs i a.toNat v = none →
    ∃ t, exec (.registerWrite i a v) s = .next t ∧ t.respErr = false ∧
      (∀ f ∈ fieldsAt a.toNat, f.of (t.reg a.toNat) = match f.acc with
        | .rw | .rws => f.of v
        | .w1c => f.of (s.reg a.toNat) &&& (f.top ^^^ f.of v)
        | _ => f.of ((monBeat 9 (initCode i) s).reg a.toNat)) ∧
      t.mem = s.mem) ∧
  (∀ (i : Initiator) (a : Word) (n : Nat) (s : State), accessForm a.toNat n → busStopped s = false →
    portOpen s i (portOf (targetOf s a.toNat)) = false → ∃ t, exec (.memoryRead i a n) s = .next t ∧
      t = { s with memc := { s.memc with waits := s.memc.waits ++ [.access (.plain i) i a.toNat n false 0] },
                   respData := [], respErr := false }) ∧
  (∀ (i : Initiator) (a : Word) (l : List Byte) (s : State), accessForm a.toNat l.length → busStopped s = false →
    portOpen s i (portOf (targetOf s a.toNat)) = false → ∃ t, exec (.memoryWrite i a l) s = .next t ∧
      t = { s with memc := { s.memc with waits := s.memc.waits ++ [.access (.plain i) i a.toNat l.length true (leNat l)] },
                   respData := [], respErr := false }) ∧
  (∀ (i : Initiator) (a v : Word) (s : State), isRegAddr a.toNat → a.toNat % 4 = 0 → busStopped s = false →
    portOpen s i (portOf (targetOf s a.toNat)) = false → ∃ t, exec (.registerWrite i a v) s = .next t ∧
      t = { s with memc := { s.memc with waits := s.memc.waits ++ [.access (.plain i) i a.toNat 4 true v.toNat] },
                   respData := [], respErr := false })

/-- Peer accesses leave and end (R418 to R420), once port 0xA serves them (R139): an access through the window of another
device that a trained path leads to is sent as a MEM frame, with a tag of its own, the initiator's code, the byte enables,
the address in the peer and the words of a write, behind the port's earlier frames, and awaits its answer; without a path
it ends in a bus error; the oldest access without an answer in time ends in a bus error at its initiator; a write of SUB3
through a window sends one order with the four words, from an initiator with a buffer of its own. -/
def Obligations.PeerAccessesLeaveAndEnd : Prop :=
  (∀ (i : Initiator) (a v : Word) (w h : Bool) (p : Fin 2) (s : State), (peerOf s a.toNat).isSome →
    a.toNat % (if h then 2 else 4) = 0 →
    (a.toNat % 0x1000000 < 0x406040 ∨ 0x406058 ≤ a.toNat % 0x1000000) →
    pathPort s ((a.toNat - 0x10000000) / 0x1000000) = some p → busStopped s = false →
    portOpen s i 10 → ∃ t, exec (.peerAccess i a w h v) s = .next t ∧ t.respData = [] ∧ t.respErr = false ∧
      t.link.reqs = s.link.reqs ++ [⟨s.link.nextTag, (a.toNat - 0x10000000) / 0x1000000, a.toNat, w, h, .plain i,
        initCode i, s.tick⟩] ∧
      (∀ f, f = frameTo s 2 (if w then 2 else 1) ((a.toNat - 0x10000000) / 0x1000000)
          (wordsOf a.toNat (if h then 2 else 4) v.toNat).length s.link.nextTag (initCode i) 0
          (byteEnables a.toNat (if h then 2 else 4))
          ((a.toNat % 0x1000000 / 4 * 4) :: (if w then wordsOf a.toNat (if h then 2 else 4) v.toNat else [])) →
        if s.link.ports[p].unacked.length < 32 then
          t.link.ports[p].unacked = s.link.ports[p].unacked ++ [{ f with lseq := s.link.ports[p].txSeq }] ∧
          t.link.sent = s.link.sent ++ [(p.val, .frame { f with lseq := s.link.ports[p].txSeq })]
        else t.link.ports[p].waiting = s.link.ports[p].waiting ++ [f]) ∧
      t = { s with regs := t.regs, memc := t.memc, respData := [], respErr := false, link := t.link }) ∧
  (∀ (i : Initiator) (a v : Word) (w h : Bool) (s : State), (peerOf s a.toNat).isSome →
    a.toNat % (if h then 2 else 4) = 0 →
    (a.toNat % 0x1000000 < 0x406040 ∨ 0x406058 ≤ a.toNat % 0x1000000) →
    pathPort s ((a.toNat - 0x10000000) / 0x1000000) = none → busStopped s = false → portOpen s i 10 →
    ∃ t, exec (.peerAccess i a w h v) s = .next t ∧ t.respErr ∧ t.reg (MEM.base + 0x70) = a ∧
      t.respData = [] ∧ t.link = s.link ∧ t.mem = s.mem) ∧
  (∀ (i : Initiator) (r : PeerReq) (s : State), r.who = .plain i →
    s.link.reqs.find? (fun r => decide (r.at_ + 400 * s.cfg LINK.base LINK.TOL_MEM_TMO ≤ s.tick)) = some r →
    ∃ t, exec .peerAccessTimeout s = .next t ∧ t.respData = [] ∧ t.respErr ∧ t.link.reqs = s.link.reqs.erase r ∧
      t.mem = s.mem) ∧
  (∀ (i : Initiator) (j : Fin 8) (d : BitVec 3) (v : Word) (p : Fin 2) (s : State), submitterOf i = some j →
    d.toNat ≠ s.linkId → (∀ q ∈ s.link.remote[j].peers, q = none ∨ q = some d.toNat) → pathPort s d.toNat = some p →
    busStopped s = false → portOpen s i 10 → ∃ t, exec (.peerSubmit i d v) s = .next t ∧ t.respErr = false ∧
      (∃ r, t.link.reqs = s.link.reqs ++ [r] ∧ r.who = .order j ∧ r.dst = d.toNat ∧ r.tag = s.link.nextTag) ∧
      (s.link.ports[p].unacked.length < 32 → ∃ g ∈ t.link.ports[p].unacked, g.typ = 3 ∧ g.op = 1 ∧ g.dst = d.toNat ∧
        g.tag = s.link.nextTag ∧ g.body = s.link.remote[j].words ++ [v.toNat])) ∧
  (∀ (i : Initiator) (d : BitVec 3) (v : Word) (s : State), submitterOf i = none → d.toNat ≠ s.linkId →
    busStopped s = false → portOpen s i 10 → ∃ t, exec (.peerSubmit i d v) s = .next t ∧ t.respErr ∧ t.respData = [] ∧ t.link = s.link ∧ t.mem = s.mem)

/-- The scrubber (R440, R441): a free cycle of a port that it may take rewrites a posted correction, or reads the next word of
its pass; the port has then been served in the present frames. -/
def Obligations.ScrubberTakesFreeCycles : Prop :=
  (∀ (p : Fin 9) (a i j : Nat) (q : Option Nat) (s : State), scrubOpen s p.val →
    s.memc.wb.find? (fun e => e.1 == p.val) = some (p.val, a) → a < 0x158000 → a % 8 = 0 →
    eccDecode (s.pattern (a / 8)) = .corrected i q → j = a / 8 → ∃ t, exec (.scrubCycle p) s = .next t ∧ t.pattern j = 0 ∧
      t.leBytes a 8 = s.wordData j ∧ p.val ∈ t.memc.took ∧ t.memc.wb = s.memc.wb.erase (p.val, a) ∧
      (∀ x, x < a ∨ a + 8 ≤ x → t.byte x = s.byte x)) ∧
  (∀ (p : Fin 9) (s : State), scrubOpen s p.val → s.memc.wb.find? (fun e => e.1 == p.val) = none → p.val < 4 →
    tget s.memc.pos p.val 0 + 1 < passLength p.val → ∃ t, exec (.scrubCycle p) s = .next t ∧
      tget t.memc.pos p.val 0 = tget s.memc.pos p.val 0 + 1 ∧ p.val ∈ t.memc.took ∧
      (s.pattern (0x8000 * p.val + tget s.memc.pos p.val 0) = 0 → t.mem = s.mem ∧ t.memErr = s.memErr)) ∧
  (∀ (p : Fin 9) (s : State), scrubOpen s p.val = false → ∃ t, exec (.scrubCycle p) s = .next t ∧ t = s)

/-- The host port in generations 1 and 2 (R399 to R402, R405), while it takes frames: a generation 1 frame answers what
the frame before it read, and its own result is kept for the next: the ID, the window address, the snapshot of the device
angle, the half-word the window names; a write sets the window or writes the half-word; a bad frame is counted and
reported as code 1. A generation 2 READ returns the word, a WRITE writes it, each with status 0 and its TAG; one whose
cycle is another's waits (R139, log entry 150); a frame whose CRC, format or alignment fails makes no access and is
answered with its status; an abandoned response is counted. -/
def Obligations.HostPortAnswersFrames : Prop :=
  (∀ (a : BitVec 15) (s : State), s.host.gen = 1 → hostDeaf s = false →
    (∀ d, (a = 0 ∧ d = 0xC101) ∨ (a = 1 ∧ d = 0x6416) ∨ (a = 2 ∧ d = s.host.win % 65536) ∨ (a = 3 ∧ d = s.host.win / 65536) →
      ∃ t, exec (.hpsGen1Read a) s = .next t ∧ t.host.gen = s.rd HPS.base HPS.CFG_GEN ∧
        t.host.hpsOut = gen1Out s ∧ t.host.g1err = 0 ∧ t.host.g1data = d ∧ t = { s with host := t.host }) ∧
    (a = 0x10 → ∃ t, exec (.hpsGen1Read a) s = .next t ∧ t.host.g1err = 0 ∧ t.host.g1data = devAngle s % 65536 ∧
      t.host.g1snap = cvmWindow s ∧ t = { s with host := t.host }) ∧
    (a = 4 → s.host.win % 2 = 0 → s.host.win < 0x100000 → s.pattern (s.host.win / 8) = 0 →
      portOpen s .hps (portOf (targetOf s s.host.win)) →
      ∃ t, exec (.hpsGen1Read a) s = .next t ∧ t.host.g1err = 0 ∧ t.host.g1data = s.leBytes s.host.win 2 ∧
        t.host.win = s.host.win ∧ t = { s with host := t.host, regs := t.regs, memc := t.memc })) ∧
  (∀ (v : Half) (s : State), s.host.gen = 1 → hostDeaf s = false →
    (∃ t, exec (.hpsGen1Write 2 v) s = .next t ∧ t.host.win = s.host.win / 65536 * 65536 + v.toNat ∧
      t.host.hpsOut = gen1Out s ∧ t = { s with host := t.host }) ∧
    (∃ t, exec (.hpsGen1Write 3 v) s = .next t ∧ t.host.win = s.host.win % 65536 + v.toNat * 65536 ∧
      t = { s with host := t.host }) ∧
    (s.host.win % 2 = 0 → s.host.win < 0x100000 → s.pattern (s.host.win / 8) = 0 →
      portOpen s .hps (portOf (targetOf s s.host.win)) → ∃ t, exec (.hpsGen1Write 5 v) s = .next t ∧
      t.byte s.host.win = v.toNat % 256 ∧ t.byte (s.host.win + 1) = v.toNat / 256 ∧ t.host.win = s.host.win + 2 ∧
      ∀ x, x ≠ s.host.win → x ≠ s.host.win + 1 → t.byte x = s.byte x)) ∧
  (∀ s : State, s.host.gen = 1 → hostDeaf s = false → ∃ t, exec .hpsBadFrame s = .next t ∧ t.host.g1err = 1 ∧
    t.host.hpsOut = gen1Out s ∧ t.rd HPS.base HPS.CNT_FRAME = sat 65535 (s.rd HPS.base HPS.CNT_FRAME + 1) ∧ t.mem = s.mem) ∧
  (∀ (cmd addr : Word) (crc : Half) (s : State), s.host.gen ≠ 1 → s.host.hps = none → hostDeaf s = false →
    crc16 (beWords [cmd, addr]) = crc.toNat → cmdBad cmd 1 = false → addr.toNat % 4 = 0 →
    reqWords cmd = 1 → addr.toNat < 0x100000 → s.pattern (addr.toNat / 8) = 0 →
    portOpen s .hps (portOf (targetOf s addr.toNat)) →
    ∃ t, exec (.hpsGen2Read cmd addr crc) s = .next t ∧ t.host.hps = none ∧
      t.host.hpsOut = hpsResponse 0 (bits cmd.toNat 15 8) [toWord (s.leBytes addr.toNat 4)] ∧
      t = { s with host := t.host, regs := t.regs, memc := t.memc }) ∧
  (∀ (cmd addr v : Word) (crc : Half) (s : State), s.host.gen ≠ 1 → s.host.hps = none → hostDeaf s = false →
    crc16 (beWords [cmd, addr, v]) = crc.toNat → cmdBad cmd 2 = false → addr.toNat % 4 = 0 →
    reqWords cmd = 1 → addr.toNat < 0x100000 → s.pattern (addr.toNat / 8) = 0 →
    portOpen s .hps (portOf (targetOf s addr.toNat)) →
    ∃ t, exec (.hpsGen2Write cmd addr [v] crc) s = .next t ∧ t.host.hps = none ∧
      t.host.hpsOut = hpsResponse 0 (bits cmd.toNat 15 8) [] ∧ t.leBytes addr.toNat 4 = v.toNat ∧
      ∀ x, x < addr.toNat ∨ addr.toNat + 4 ≤ x → t.byte x = s.byte x) ∧
  (∀ (cmd addr : Word) (crc : Half) (s : State), s.host.gen ≠ 1 → s.host.hps = none → hostDeaf s = false →
    (crc16 (beWords [cmd, addr]) ≠ crc.toNat → ∃ t, exec (.hpsGen2Read cmd addr crc) s = .next t ∧
      t.host.hpsOut = hpsResponse 1 (bits cmd.toNat 15 8) (List.replicate (reqWords cmd) 0) ∧
      t.rd HPS.base HPS.CNT_CRC = sat 65535 (s.rd HPS.base HPS.CNT_CRC + 1) ∧ t.mem = s.mem) ∧
    (crc16 (beWords [cmd, addr]) = crc.toNat → cmdBad cmd 1 → ∃ t, exec (.hpsGen2Read cmd addr crc) s = .next t ∧
      t.host.hpsOut = hpsResponse 2 (bits cmd.toNat 15 8) (List.replicate (reqWords cmd) 0) ∧ t.mem = s.mem) ∧
    (crc16 (beWords [cmd, addr]) = crc.toNat → cmdBad cmd 1 = false → addr.toNat % 4 ≠ 0 →
      ∃ t, exec (.hpsGen2Read cmd addr crc) s = .next t ∧ t = { s with host := t.host } ∧
      t.host.hpsOut = hpsResponse 5 (bits cmd.toNat 15 8) (List.replicate (reqWords cmd) 0))) ∧
  (∀ (r : HostReq) (s : State), s.host.hps = some r → ∃ t, exec .hpsAbandon s = .next t ∧
    t.rd HPS.base HPS.ABANDON_COUNT = sat 65535 (s.rd HPS.base HPS.ABANDON_COUNT + 1) ∧
    t.host.hps = some { r with quiet := true } ∧ t = { s with host := t.host, regs := t.regs }) ∧
  (∀ (cmd addr : Word) (crc : Half) (s : State), s.host.gen ≠ 1 → s.host.hps = none → hostDeaf s = false →
    crc16 (beWords [cmd, addr]) = crc.toNat → cmdBad cmd 1 = false → addr.toNat % 4 = 0 →
    portOpen s .hps (portOf (targetOf s addr.toNat)) = false → ∃ t, exec (.hpsGen2Read cmd addr crc) s = .next t ∧
      t.host.hps.isSome ∧ t.host.hpsOut = s.host.hpsOut ∧
      t.memc.waits = s.memc.waits ++ [.access (.host false) .hps addr.toNat 4 false 0] ∧
      t = { s with host := t.host, memc := t.memc })

/-- The packet port HPQ (R403, R404, R429), while it takes packets: a packet with the next SEQ executes and LAST takes its
SEQ: a READ returns the word, a WRITE writes it, and the response is stored; a packet whose SEQ is LAST makes no access
and is answered with the stored response, REPLAY set; any other SEQ is answered with status 6; a packet whose CRC fails is
answered with status 1 and changes nothing but its counter and source, a WRITE's words for a staging buffer marking it
failed (R192); SEQ_RESET makes the next packet of any SEQ the first; with the page's ENABLE at 0 SEQ_RESET is discarded
and counted (R484). -/
def Obligations.PacketPortExecutesInSequence : Prop :=
  (∀ (h0 h1 crc : Word) (s : State), hostDeaf s = false → s.clockOff 0x69 = false → s.host.hpq = none →
    crc32 (beWords [h0, h1]) = crc.toNat →
    (let seq := bits h0.toNat 15 0
     let last := s.rd HPQ.base HPQ.SEQ_LAST
     (s.flag HPQ.base HPQ.SEQ_VALID = false ∨ seq = (last + 1) % 65536 → h0Bad h0 1 = false → h1.toNat % 4 = 0 →
      reqWords h0 = 1 → h1.toNat < 0x100000 → s.pattern (h1.toNat / 8) = 0 →
      portOpen s .hpq (portOf (targetOf s h1.toNat)) → ∃ t, exec (.hpqRead h0 h1 crc) s = .next t ∧
        t.host.hpqOut = hpqResponse 0 seq [toWord (s.leBytes h1.toNat 4)] ∧
        t.host.hpqLast = [toWord (s.leBytes h1.toNat 4)] ∧ t.host.hpqStatus = 0 ∧ t.host.hpq = none ∧
        t.rd HPQ.base HPQ.SEQ_LAST = seq ∧ t.flag HPQ.base HPQ.SEQ_VALID ∧
        t = { s with host := t.host, regs := t.regs, memc := t.memc }) ∧
     (s.flag HPQ.base HPQ.SEQ_VALID → seq = last → ∃ t, exec (.hpqRead h0 h1 crc) s = .next t ∧
        t.host.hpqOut = hpqResponse (s.host.hpqStatus + 128) last s.host.hpqLast ∧
        t.rd HPQ.base HPQ.CNT1_REPLAY = sat 65535 (s.rd HPQ.base HPQ.CNT1_REPLAY + 1) ∧
        t = { s with host := t.host, regs := t.regs }) ∧
     (s.flag HPQ.base HPQ.SEQ_VALID → seq ≠ last → seq ≠ (last + 1) % 65536 → ∃ t, exec (.hpqRead h0 h1 crc) s = .next t ∧
        t.host.hpqOut = hpqResponse 6 seq (List.replicate (reqWords h0) 0) ∧ t.host.hpqLast = s.host.hpqLast ∧
        t.rd HPQ.base HPQ.SEQ_LAST = last ∧ t.mem = s.mem))) ∧
  (∀ (h0 h1 crc : Word) (s : State), hostDeaf s = false → s.clockOff 0x69 = false → s.host.hpq = none →
    crc32 (beWords [h0, h1]) ≠ crc.toNat → ∃ t, exec (.hpqRead h0 h1 crc) s = .next t ∧
      t.rd HPQ.base HPQ.CNT0_CRC = sat 65535 (s.rd HPQ.base HPQ.CNT0_CRC + 1) ∧
      t = { (s.bump HPQ.base HPQ.CNT0_CRC).raise 233 with host := { s.host with
        hpqOut := hpqResponse 1 (bits h0.toNat 15 0) (List.replicate (reqWords h0) 0) } }) ∧
  (∀ (h0 h1 v crc : Word) (s : State), hostDeaf s = false → s.clockOff 0x69 = false → s.host.hpq = none →
    crc32 (beWords [h0, h1, v]) = crc.toNat → h0Bad h0 2 = false → h1.toNat % 4 = 0 → reqWords h0 = 1 →
    (s.flag HPQ.base HPQ.SEQ_VALID = false ∨ bits h0.toNat 15 0 = (s.rd HPQ.base HPQ.SEQ_LAST + 1) % 65536) →
    h1.toNat < 0x100000 → s.pattern (h1.toNat / 8) = 0 →
      portOpen s .hpq (portOf (targetOf s h1.toNat)) → ∃ t, exec (.hpqWrite h0 h1 [v] crc) s = .next t ∧
      t.host.hpqOut = hpqResponse 0 (bits h0.toNat 15 0) [] ∧ t.rd HPQ.base HPQ.SEQ_LAST = bits h0.toNat 15 0 ∧
      t.leBytes h1.toNat 4 = v.toNat ∧ ∀ x, x < h1.toNat ∨ h1.toNat + 4 ≤ x → t.byte x = s.byte x) ∧
  (∀ s : State, s.clockOff 0x69 = false → ∃ t, exec .hpqSeqReset s = .next t ∧ t.flag HPQ.base HPQ.SEQ_VALID = false ∧
    t.rd HPQ.base HPQ.SEQ_LAST = s.rd HPQ.base HPQ.SEQ_LAST ∧ t = { s with regs := t.regs }) ∧
  (∀ (h0 h1 crc : Word) (l : List Word) (s : State), hostDeaf s = false → s.clockOff 0x69 = false → s.host.hpq = none →
    l.length = reqWords h0 → crc32 (beWords (h0 :: h1 :: l)) ≠ crc.toNat → ∃ t, exec (.hpqWrite h0 h1 l crc) s = .next t ∧
      t.rd HPQ.base HPQ.CNT0_CRC = sat 65535 (s.rd HPQ.base HPQ.CNT0_CRC + 1) ∧
      t = { failedWrite .hpq h1.toNat (bit h0.toNat 27) l ((s.bump HPQ.base HPQ.CNT0_CRC).raise 233) with
        host := { s.host with hpqOut := hpqResponse 1 (bits h0.toNat 15 0) [] } }) ∧
  (∀ (h0 h1 crc : Word) (l : List Word) (s : State), hostDeaf s = false → s.clockOff 0x69 = false → s.host.hpq = none →
    l.length = reqWords h0 → crc32 (beWords (h0 :: h1 :: l)) = crc.toNat → s.flag HPQ.base HPQ.SEQ_VALID →
    bits h0.toNat 15 0 = s.rd HPQ.base HPQ.SEQ_LAST → ∃ t, exec (.hpqWrite h0 h1 l crc) s = .next t ∧
      t.host.hpqOut = hpqResponse (s.host.hpqStatus + 128) (s.rd HPQ.base HPQ.SEQ_LAST) s.host.hpqLast ∧
      t.rd HPQ.base HPQ.CNT1_REPLAY = sat 65535 (s.rd HPQ.base HPQ.CNT1_REPLAY + 1) ∧
      t = { s with host := t.host, regs := t.regs }) ∧
  (∀ (h0 h1 crc : Word) (l : List Word) (s : State), hostDeaf s = false → s.clockOff 0x69 = false → s.host.hpq = none →
    l.length = reqWords h0 → crc32 (beWords (h0 :: h1 :: l)) = crc.toNat → s.flag HPQ.base HPQ.SEQ_VALID →
    bits h0.toNat 15 0 ≠ s.rd HPQ.base HPQ.SEQ_LAST →
    bits h0.toNat 15 0 ≠ (s.rd HPQ.base HPQ.SEQ_LAST + 1) % 65536 → ∃ t, exec (.hpqWrite h0 h1 l crc) s = .next t ∧
      t.host.hpqOut = hpqResponse 6 (bits h0.toNat 15 0) [] ∧ t.host.hpqLast = s.host.hpqLast ∧
      t.rd HPQ.base HPQ.SEQ_LAST = s.rd HPQ.base HPQ.SEQ_LAST ∧ t.mem = s.mem) ∧
  (∀ s : State, s.clockOff 0x69 → exec .hpqSeqReset s = .next (s.err 0x69))

/-- The flash master (R406, R407, R429): each stage of the boot ends with the result the rule names or goes on to the
next: a header of another MAGIC is result 2, a bad header CRC 3, a good one sets HPS.CFG.GEN, and the init list is asked
of the flash with 0xEB; a bad init list is 4, its writes are made in order, one in a cycle of a port, the next waiting for a
cycle of its own (R139, R444), one that ends in a bus error is 5 with its ITEM, and after the last the image is asked for; the
image's bytes are copied to LOAD_ADDR beat by beat and the load begins; the load's failure is 6; with AUTO_ARM the boot arms,
result 1 or 7. A command sends the bytes of SRAM or keeps the bytes read, beat by beat, BUSY while it runs, and is ignored and
counted while another runs or ENABLE is 0 (R484). The model's choice: the load begins though a beat of the copy ended in a bus
error or lies beyond SRAM, and INIT_N is taken as it is (log entry 119). -/
def Obligations.FlashBootsAndRunsCommands : Prop :=
  (∀ (l : List Byte) (s : State), busStopped s = false → s.rd FL.base FL.BOOT_STAGE = 1 →
    (leAt l 0 4 ≠ 0x54425643 → ∃ t, exec (.flashBootStage l) s = .next t ∧ t.rd FL.base FL.BOOT_STAGE = 6 ∧
      t.rd FL.base FL.BOOT_RESULT = 2 ∧ t.flag FL.base FL.CTRL_BUSY = false) ∧
    (leAt l 0 4 = 0x54425643 → crc32 (l.take 0x20) ≠ leAt l 0x20 4 → ∃ t, exec (.flashBootStage l) s = .next t ∧
      t.rd FL.base FL.BOOT_STAGE = 6 ∧ t.rd FL.base FL.BOOT_RESULT = 3) ∧
    (leAt l 0 4 = 0x54425643 → crc32 (l.take 0x20) = leAt l 0x20 4 → ∃ t, exec (.flashBootStage l) s = .next t ∧
      t.rd FL.base FL.BOOT_STAGE = 2 ∧ t.rd HPS.base HPS.CFG_GEN = (if bit (leAt l 4 4) 1 then 1 else 2) ∧
      t.flash.flags = leAt l 4 4 ∧ t.flash.initN = leAt l 0xC 4 ∧ t.flash.imgSize = leAt l 0x14 4 ∧
      t.flash.loadAddr = leAt l 0x18 4 ∧ t.flash.initCrc = leAt l 0x1C 4 ∧
      t.flash.initOff = leAt l 8 4 ∧ t.flash.imgOff = leAt l 0x10 4 ∧
      t.flash.asks = some (0xEB, leAt l 8 4 % 0x1000000, 8 * leAt l 0xC 4) ∧ t = { s with regs := t.regs, flash := t.flash })) ∧
  (∀ (l : List Byte) (s : State), busStopped s = false → s.rd FL.base FL.BOOT_STAGE = 2 → s.link.reqs = [] →
    waitsAny s .fl = false →
    (crc32 (l.take (8 * s.flash.initN)) ≠ s.flash.initCrc → ∃ t, exec (.flashBootStage l) s = .next t ∧ t.rd FL.base FL.BOOT_STAGE = 6 ∧
      t.rd FL.base FL.BOOT_RESULT = 4) ∧
    (crc32 (l.take (8 * s.flash.initN)) = s.flash.initCrc → s.flash.initN = 0 → ∃ t, exec (.flashBootStage l) s = .next t ∧
      t.rd FL.base FL.BOOT_STAGE = 3 ∧ t.flash.asks = some (0xEB, s.flash.imgOff % 0x1000000, s.flash.imgSize) ∧ t.mem = s.mem) ∧
    (crc32 (l.take (8 * s.flash.initN)) = s.flash.initCrc → s.flag MEM.base MEM.INJ_CTL_ARM = false →
      ∀ a v : Nat, a = leAt l 0 4 / 4 * 4 → v = leAt l 4 4 → a < 0x100000 → s.pattern (a / 8) = 0 →
      portOpen s .fl (a / 0x40000) →
      (s.flash.initN = 1 → ∃ t, exec (.flashBootStage l) s = .next t ∧ t.rd FL.base FL.BOOT_STAGE = 3 ∧
        ∀ x, x < 0x100000 → t.byte x = if a ≤ x ∧ x < a + 4 then BitVec.ofNat 8 (v / 256 ^ (x - a)) else s.byte x) ∧
      (∀ b w : Nat, b = leAt l 8 4 / 4 * 4 → w = leAt l 12 4 → 2 ≤ s.flash.initN → b / 0x40000 = a / 0x40000 →
        ∃ t, exec (.flashBootStage l) s = .next t ∧ t.rd FL.base FL.BOOT_STAGE = 2 ∧
          t.memc.waits = s.memc.waits ++ [.access .boot .fl b 4 true w] ∧ t.flash.todo.length = s.flash.initN - 2 ∧
          ∀ x, x < 0x100000 → t.byte x = if a ≤ x ∧ x < a + 4 then BitVec.ofNat 8 (v / 256 ^ (x - a)) else s.byte x)) ∧
    (crc32 (l.take (8 * s.flash.initN)) = s.flash.initCrc → 0 < s.flash.initN → regionOf (leAt l 0 4 / 4 * 4) = none →
      portOpen s .fl 11 → ∃ t, exec (.flashBootStage l) s = .next t ∧ t.rd FL.base FL.BOOT_STAGE = 6 ∧
        t.rd FL.base FL.BOOT_RESULT = 5 ∧ t.rd FL.base FL.BOOT_ITEM = 0 ∧ t.mem = s.mem)) ∧
  (∀ (a v : Nat) (s : State), s.rd FL.base FL.BOOT_STAGE = 2 → s.flash.todo = [] → a < 0x100000 → a % 4 = 0 →
    s.pattern (a / 8) = 0 → s.flag MEM.base MEM.INJ_CTL_ARM = false →
    (takeWait (.access .boot .fl a 4 true v) s).rd FL.base FL.BOOT_STAGE = 3 ∧
      (∀ x, x < 0x100000 → (takeWait (.access .boot .fl a 4 true v) s).byte x =
        if a ≤ x ∧ x < a + 4 then BitVec.ofNat 8 (v / 256 ^ (x - a)) else s.byte x)) ∧
  (∀ (l d : List Byte) (a : Nat) (s : State), busStopped s = false → s.rd FL.base FL.BOOT_STAGE = 3 →
    a = s.flash.loadAddr → d = l.take s.flash.imgSize →
    (s.flash.job.isSome → exec (.flashBootStage l) s = .next s) ∧
    (s.flash.job = none → d = [] ∨ (portOpen s .fl (a / 0x40000) ∧ flSize a d.length = d.length) →
      a + d.length ≤ 0x100000 → s.flag MEM.base MEM.INJ_CTL_ARM = false →
      (∀ k, k < d.length → s.pattern ((a + k) / 8) = 0) → ∃ t, exec (.flashBootStage l) s = .next t ∧
        t.rd FL.base FL.BOOT_STAGE = 4 ∧ t.rd PLAN.base PLAN.LOAD_SIZE_SIZE = s.flash.imgSize % 2 ^ 32 ∧
        (s.islandHeld 2 = false → s.plan.load = .idle → s.dev.st = .strapped ∨ s.dev.st = .loaded → t.plan.load = .check) ∧
        (∀ k (h : k < d.length), t.byte (a + k) = d[k]) ∧ (∀ x, x < a ∨ a + d.length ≤ x → t.byte x = s.byte x)) ∧
    (s.flash.job = none → d ≠ [] → portOpen s .fl (portOf (targetOf s a)) = false → ∃ t, exec (.flashBootStage l) s = .next t ∧
      t = addWait (.access .flash .fl a (flSize a d.length) true (leNat (d.take (flSize a d.length))))
        { s with flash := { s.flash with job := some ⟨true, true, a, d.length, d⟩ } })) ∧
  (∀ (w boot : Bool) (a n m : Nat) (d : List Byte) (s t : State), s.flash.job = some ⟨w, boot, a, n, d⟩ → m = flSize a n → n ≠ 0 →
    a + n ≤ 0x100000 → s.flag MEM.base MEM.INJ_CTL_ARM = false → (∀ k, k < n → s.pattern ((a + k) / 8) = 0) →
    (w → d.length = n) → t = takeWait (.access .flash .fl a m w (leNat (d.take m))) s →
    (m = n ∨ (a + m) / 0x40000 = a / 0x40000 →
      if w then (∀ k (h : k < d.length), k < m → t.byte (a + k) = d[k]) ∧ (∀ x, x < a ∨ a + m ≤ x → t.byte x = s.byte x)
      else ∀ x, t.byte x = s.byte x) ∧
    (m = n → t.flash.job = none ∧ (boot → t.rd FL.base FL.BOOT_STAGE = 4) ∧
      (boot = false → w → t.flag FL.base FL.CTRL_BUSY = false ∧ ∃ e ∈ t.inFlight, e.src = 234 ∧ e.raisedAt = s.tick) ∧
      (boot = false → w = false → t.flash.sent = d ++ (List.range m).map (fun k => s.byte (a + k)))) ∧
    (m < n → (a + m) / 0x40000 = a / 0x40000 → ∀ l : List Byte,
      l = (if w then d.drop m else d ++ (List.range m).map (fun k => s.byte (a + k))) →
      t.flash.job = some ⟨w, boot, a + m, n - m, l⟩ ∧ t.memc.waits = s.memc.waits.erase (.access .flash .fl a m w (leNat (d.take m))) ++
        [.access .flash .fl (a + m) (flSize (a + m) (n - m)) w (leNat (l.take (flSize (a + m) (n - m))))])) ∧
  (∀ (l : List Byte) (s : State), busStopped s = false → s.rd FL.base FL.BOOT_STAGE = 4 → s.plan.load = .idle →
    ∃ t, exec (.flashBootStage l) s = .next t ∧ (if s.rd PLAN.base PLAN.LOAD_STAT_RESULT ≠ 0 then
      t.rd FL.base FL.BOOT_STAGE = 6 ∧ t.rd FL.base FL.BOOT_RESULT = 6
      else if bit s.flash.flags 0 then t.rd FL.base FL.BOOT_STAGE = 5
      else t.rd FL.base FL.BOOT_STAGE = 6 ∧ t.rd FL.base FL.BOOT_RESULT = 1)) ∧
  (∀ (l : List Byte) (s : State), busStopped s = false → s.rd FL.base FL.BOOT_STAGE = 5 →
    ∃ t, exec (.flashBootStage l) s = .next t ∧ t.rd FL.base FL.BOOT_STAGE = 6 ∧
      t.rd FL.base FL.BOOT_RESULT = (if t.dev.st = .armed then 1 else 7)) ∧
  (∀ s : State, s.clockOff 0x6A = false → s.flag FL.base FL.CTRL_BUSY = false → ∃ t, exec .flStart s = .next t ∧ t.flag FL.base FL.CTRL_BUSY ∧
    t.flash.sent = [] ∧ t = { s with regs := t.regs, flash := t.flash, memc := t.memc } ∧
    ∀ a n : Nat, a = s.rd FL.base FL.BUF_ADDR → n = s.rd FL.base FL.LEN_BYTES →
      (s.flag FL.base FL.OP_WRITE → n ≠ 0 → t.flash.job = some ⟨false, false, a, n, []⟩ ∧
        t.memc.waits = s.memc.waits ++ [.access .flash .fl a (flSize a n) false 0]) ∧
      (s.flag FL.base FL.OP_WRITE = false ∨ n = 0 → t.flash.job = s.flash.job ∧ t.memc = s.memc)) ∧
  (∀ s : State, s.clockOff 0x6A ∨ s.flag FL.base FL.CTRL_BUSY → ∃ t, exec .flStart s = .next t ∧
    t.rd FL.base HDR.ERR_COUNT = sat 65535 (s.rd FL.base HDR.ERR_COUNT + 1) ∧ t = { s with regs := t.regs }) ∧
  (∀ (l : List Byte) (s : State), s.flag FL.base FL.CTRL_BUSY → bootRuns s = false → busStopped s = false →
    s.flash.job = none → s.flag FL.base FL.OP_WRITE = false → l.length ≤ s.rd FL.base FL.LEN_BYTES → l ≠ [] →
    portOpen s .fl (portOf (targetOf s (s.rd FL.base FL.BUF_ADDR))) = false → ∃ t, exec (.flCommandDone l) s = .next t ∧
      t = addWait (.access .flash .fl (s.rd FL.base FL.BUF_ADDR) (flSize (s.rd FL.base FL.BUF_ADDR) l.length) true
          (leNat (l.take (flSize (s.rd FL.base FL.BUF_ADDR) l.length))))
        { s with flash := { s.flash with job := some ⟨true, false, s.rd FL.base FL.BUF_ADDR, l.length, l⟩ } }) ∧
  (∀ (l : List Byte) (s : State), s.flash.job.isSome → exec (.flCommandDone l) s = .next s) ∧
  (∀ (l : List Byte) (s : State), s.flag FL.base FL.CTRL_BUSY → bootRuns s = false → busStopped s = false →
    s.flash.job = none → s.flag FL.base FL.OP_WRITE = false → l.length ≤ s.rd FL.base FL.LEN_BYTES →
    l = [] ∨ (portOpen s .fl (s.rd FL.base FL.BUF_ADDR / 0x40000) ∧
      flSize (s.rd FL.base FL.BUF_ADDR) l.length = l.length) →
    s.rd FL.base FL.BUF_ADDR + l.length ≤ 0x100000 → s.flag MEM.base MEM.INJ_CTL_ARM = false →
    (∀ k, k < l.length → s.pattern ((s.rd FL.base FL.BUF_ADDR + k) / 8) = 0) →
    ∃ t, exec (.flCommandDone l) s = .next t ∧ t.flag FL.base FL.CTRL_BUSY = false ∧
      (∃ e ∈ t.inFlight, e.src = 234 ∧ e.raisedAt = s.tick) ∧
      (∀ k (h : k < l.length), t.byte (s.rd FL.base FL.BUF_ADDR + k) = l[k]) ∧
      (∀ x, x < s.rd FL.base FL.BUF_ADDR ∨ s.rd FL.base FL.BUF_ADDR + l.length ≤ x → t.byte x = s.byte x)) ∧
  (∀ (l : List Byte) (s : State), s.flag FL.base FL.CTRL_BUSY → bootRuns s = false → busStopped s = false →
    s.flash.job = none → s.flag FL.base FL.OP_WRITE → ∃ t, exec (.flCommandDone l) s = .next t ∧ t.flag FL.base FL.CTRL_BUSY = false ∧
      (∃ e ∈ t.inFlight, e.src = 234 ∧ e.raisedAt = s.tick) ∧ t.mem = s.mem)

/-- A link port trains and keeps its frames (R409 to R411, R416, R417): when training is done the port is UP on its lanes
with the latency measured over 64 round trips, and of two masters the lower ID stays MASTER with CONFLICT set (R426); a
training not done in 200 us ends DOWN, and a port that is DOWN trains again after 1 ms, at once if it has not trained
since the reset, on one lane where it was to; a PING is answered 32 ticks after its first symbol, a PONG adds its round
trip and the next PING goes out with PT (the model's pacing, log entry 182); an ACK frees every frame up to its LSEQ; a
retry timeout sends every unacknowledged frame again, the eighth retrains; a failed lane retrains on the other; an aborted
frame is answered with an ACK of the LSEQ before the expected one, and whether a copy that goes on is put out as aborted is free
(the model's reading, log entry 202); a neighbour with this device's ID keeps the port DOWN,
and the port does not train again (the model's reading, log entry 152). -/
def Obligations.LinkPortsTrainAndResend : Prop :=
  (∀ (p : Fin 2) (two m : Bool) (nid : BitVec 3) (s : State), s.held = false → portState s p = 1 → nid.toNat ≠ s.linkId →
    64 ≤ s.link.ports[p].pongs → ∃ t, exec (.linkTrainDone p two nid m) s = .next t ∧
      portState t p = (if two && !s.link.ports[p].oneLane then 2 else 3) ∧
      portLat t p = sat 65535 (divRound (s.link.ports[p].trips - 2048) 128) ∧ t.link.ports[p].timeouts = 0 ∧
      (m → s.rd LINK.base LINK.STAT_ROLE = 1 → t.flag LINK.base LINK.STAT_CONFLICT ∧
        t.rd LINK.base LINK.STAT_ROLE = (if nid.toNat < s.linkId then 2 else 1)) ∧
      t = { s with regs := t.regs, inFlight := t.inFlight, sys := t.sys, link := t.link }) ∧
  (∀ (p : Fin 2) (two m : Bool) (nid : BitVec 3) (s : State), s.held = false → portState s p = 1 → nid.toNat = s.linkId →
    ∃ t, exec (.linkTrainDone p two nid m) s = .next t ∧ portState t p = 0 ∧ t.flag LINK.base LINK.STAT_DUP_ID ∧
      exec (.trainingRetry p) t = .next t) ∧
  (∀ (p : Fin 2) (s : State), portState s p = 1 → s.link.ports[p].since + 80000 ≤ s.tick →
    ∃ t, exec (.linkTrainTimeout p) s = .next t ∧ portState t p = 0 ∧ t.link.ports[p].since = s.tick ∧
      t = { s with regs := t.regs, inFlight := t.inFlight, sys := t.sys, link := t.link }) ∧
  (∀ (p : Fin 2) (s : State), s.held = false → portState s p = 0 → s.link.ports[p].dup = false →
    s.link.ports[p].since = 0 ∨ s.link.ports[p].since + 400000 ≤ s.tick →
    ∃ t, exec (.trainingRetry p) s = .next t ∧ portState t p = 1 ∧ t.link.ports[p].pongs = 0 ∧ t.link.ports[p].trips = 0 ∧
      t.link.ports[p].oneLane = s.link.ports[p].oneLane ∧ t.link.sent = s.link.sent ++ [(p.val, .ping s.pt)] ∧
      t = { s with regs := t.regs, inFlight := t.inFlight, sys := t.sys, link := t.link }) ∧
  (∀ (p : Fin 2) (n : Nat) (s : State), s.held = false → portState s p ≠ 0 → ∃ t, exec (.ping p n) s = .next t ∧
      t.link = { s.link with sent := s.link.sent ++ [(p.val, .pong (n + 32))] } ∧ t = { s with link := t.link }) ∧
  (∀ (p : Fin 2) (n : Nat) (s : State), portState s p = 1 → s.link.ports[p].pongs < 64 →
    ∃ t, exec (.pong p n) s = .next t ∧ t = { s with link := t.link } ∧ t.link.ports[p] = { s.link.ports[p] with
        pongs := s.link.ports[p].pongs + 1, trips := s.link.ports[p].trips + n } ∧
      t.link.sent = s.link.sent ++ (if s.link.ports[p].pongs + 1 < 64 then [(p.val, .ping s.pt)] else [])) ∧
  (∀ (p : Fin 2) (q : Byte) (l r : List LinkFrame) (f : LinkFrame) (s : State), portUp s p →
    s.link.ports[p].unacked = l ++ f :: r → (∀ g ∈ l, g.lseq ≠ q.toNat) → f.lseq = q.toNat →
    ∃ t, exec (.linkAck p q) s = .next t ∧ r <+: t.link.ports[p].unacked ∧
      (s.link.ports[p].waiting = [] → t.link.ports[p].unacked = r) ∧ t.link.ports[p].timeouts = 0 ∧
      t = { s with link := t.link }) ∧
  (∀ (p : Fin 2) (s : State), portUp s p → s.link.ports[p].unacked ≠ [] →
    s.link.ports[p].ackAt + s.cfg LINK.base LINK.RETRY_CFG_TMO ≤ s.tick → s.link.ports[p].timeouts < 7 →
    ∃ t, exec (.linkRetryTimeout p) s = .next t ∧ t.link.ports[p].timeouts = s.link.ports[p].timeouts + 1 ∧
      t.link.sent = s.link.sent ++ s.link.ports[p].unacked.map (fun f => (p.val, .frame f)) ∧
      t.link.ports[p].unacked = s.link.ports[p].unacked ∧ t.link.ports[p].ackAt = s.tick ∧
      t = { s with regs := t.regs, link := t.link }) ∧
  (∀ (p : Fin 2) (s : State), portUp s p → s.link.ports[p].unacked ≠ [] →
    s.link.ports[p].ackAt + s.cfg LINK.base LINK.RETRY_CFG_TMO ≤ s.tick → 7 ≤ s.link.ports[p].timeouts →
    ∃ t, exec (.linkRetryTimeout p) s = .next t ∧ portState t p = 1 ∧ t.link.ports[p].timeouts = 0 ∧
      t.link.ports[p].unacked = s.link.ports[p].unacked) ∧
  (∀ (p : Fin 2) (s : State), portUp s p → ∃ t, exec (.laneFail p) s = .next t ∧ portState t p = 1 ∧
      t.link.ports[p].oneLane ∧ t.link.ports[p].unacked = s.link.ports[p].unacked ∧
      t = { s with regs := t.regs, inFlight := t.inFlight, sys := t.sys, link := t.link }) ∧
  (∀ (p : Fin 2) (s : State), s.held = false → portUp s p → ∃ t, exec (.frameAbort p) s = .next t ∧
      t = { s with free := s.free + 1, link := { s.link with
        sent := s.link.sent ++ [(p.val, .ack ((s.link.ports[p].rxSeq + 255) % 256))] ++
          (if sendsNow s (otherPort p) && Config.abortCopy s.free then [((otherPort p).val, .abort)] else []) } })

/-- HEART beats, roles and link resets (R412, R426 to R428): every microsecond a HEART goes out on each port that is UP, and
carries a reset command once; a HEART heard gives the path to its sender, and a MASTER's makes it the master heard; a HEART
with a reset for this device resets it, where CFG allows; a configured standby that misses HB_MISS windows takes over: MASTER,
TX_ANGLE, TAKES counted, and the next 8 HEARTs carry TAKE; a write of RST_CMD with GO arms the reset command. -/
def Obligations.HeartsCarryStateAndRoles : Prop :=
  (∀ s : State, s.held = false → heartDue s →
    ∃ t, exec .heartSend s = .next t ∧ t.link.hearts = (s.link.hearts + 1) % 65536 ∧ t.link.heartAt = some s.tick ∧
      t.link.rst = none ∧ t.link.takeLeft = s.link.takeLeft - 1 ∧
      (∀ p : Fin 2, portUp s p → (p.val, .frame (heartFrame s (decide (0 < s.link.takeLeft)))) ∈ t.link.sent) ∧
      t = { s with link := t.link }) ∧
  (∀ (p : Fin 2) (f : HeartFrame) (s : State), s.held = false → portUp s p → f.crcOk → f.src.toNat ≠ s.linkId →
    f.rst = false → ∃ t, exec (.heartReceive p f) s = .next t ∧
      pathOf t f.src.toNat = f.path.toNat + portLat s p ∧
      (∀ d, d ≠ f.src.toNat → heardOf t d = heardOf s d) ∧
      (f.role = 1 → t.rd LINK.base LINK.STAT_MASTER_ID = f.src.toNat ∧ t.link.masterHeard ∧ t.link.missed = 0 ∧
        (s.link.masterHeard = false → t.rd LINK.base LINK.STAT_ROLE = 2)) ∧
      t = { s with regs := t.regs, act := t.act, link := t.link }) ∧
  (∀ (p : Fin 2) (f : HeartFrame) (s : State), s.held = false → portUp s p → f.crcOk → f.src.toNat ≠ s.linkId →
    f.rst → f.rstId.toNat = s.linkId → s.on LINK.base LINK.CFG_RST_EN → ∃ t, exec (.heartReceive p f) s = .next t ∧
      t.dev.st = .reset ∧ t.sys.linkRst ∧ t.link.resetAt = some s.tick ∧ t.reg (SYS.base + 0x58) = 4) ∧
  (∀ s : State, s.held = false → s.on LINK.base LINK.CFG_TAKE_EN → s.rd LINK.base LINK.STAT_ROLE = 2 →
    s.link.window + 400 ≤ s.tick → s.link.missed + 1 < s.cfg LINK.base LINK.CFG_HB_MISS →
    ∃ t, exec .heartMiss s = .next t ∧
      t = { s with link := { s.link with missed := s.link.missed + 1, window := s.tick } }) ∧
  (∀ s : State, s.held = false → s.on LINK.base LINK.CFG_TAKE_EN → s.rd LINK.base LINK.STAT_ROLE = 2 →
    s.link.window + 400 ≤ s.tick → s.cfg LINK.base LINK.CFG_HB_MISS ≤ s.link.missed + 1 →
    ∃ t, exec .heartMiss s = .next t ∧ t.rd LINK.base LINK.STAT_ROLE = 1 ∧ t.on LINK.base LINK.CFG_TX_ANGLE ∧
      t.link.takeLeft = 8 ∧ t.link.missed = 0 ∧
      t.rd LINK.base LINK.TAKES_COUNT = sat LINK.TAKES_COUNT.top (s.rd LINK.base LINK.TAKES_COUNT + 1) ∧
      t = { s with regs := t.regs, act := t.act, inFlight := t.inFlight, sys := t.sys, link := t.link }) ∧
  (∀ (v : Word) (s : State), bit v.toNat 3 → ∃ t, exec (.linkRstCmd v) s = .next t ∧
      t.link = { s.link with rst := some (LINK.RST_CMD_ID.of v) } ∧ t = { s with regs := t.regs, link := t.link }) ∧
  (∀ (t0 : Nat) (s : State), s.link.heartAt = some t0 → s.tick < t0 + 400 → exec .heartSend s = .next s)

/-- ANGLE beats and the link-mode tracker (R413, R414, R423, R424): a sender gives each port that is UP one beat for every PT
that is a multiple of 40, with its angle, increment code, direction, epoch state and number; a good beat goes on out of the
other port and gives its sender's angle to the vote (R92); for a following device out of an epoch, in SYNC, a beat of the active
source sets Tracker A's increment and its accumulator, unless the estimate lies behind, which is held; a flywheel that runs out
is a loss of sync, from which the tracker enters STEADY (R110). The model's choice: how a beat becomes an estimate in 2^-32 au
(log entry 124), and that an angle at or above the cycle's length is taken modulo it (log entry 134). -/
def Obligations.AnglesLeadTheFollower : Prop :=
  (∀ s : State, s.ptStands = false → s.dev.st ≠ .park → s.on LINK.base LINK.CFG_TX_ANGLE →
    s.link.beatAngle ≠ s.pt / 40 + 1 → ∃ t, exec .angleSend s = .next t ∧ t.link.beatAngle = s.pt / 40 + 1 ∧
      (∀ p : Fin 2, portUp s p → (p.val, .angle (angleBits s.linkId s.dev.epochOpen (ctl s).astern (presented (ctl s))
        (incCode ((ctl s).stalled || s.dev.st == .stalled) (ctl s).atHorizon (ctl s).inc).1
        (incCode ((ctl s).stalled || s.dev.st == .stalled) (ctl s).atHorizon (ctl s).inc).2 s.dev.epoch)) ∈ t.link.sent) ∧
      t = { s with link := t.link }) ∧
  (∀ (p : Fin 2) (b : AngleBeat) (inc : Nat) (st : Bool) (s : State), beatInc b.exp.toNat b.mant.toNat = some (inc, st) →
    s.held = false → portUp s p → b.crcOk → b.src.toNat ≠ s.linkId → following s = false →
    ∃ t, exec (.angleReceive p b) s = .next t ∧
      (portUp s (otherPort p) → ((otherPort p).val, .angle (angleBits b.src.toNat b.isOpen b.astern b.angle.toNat b.exp.toNat
        b.mant.toNat b.epoch.toNat)) ∈ t.link.sent) ∧
      t.xchk.peers = ⟨theta s b.src.toNat b.angle.toNat inc b.astern / 2 ^ 32, s.pt, b.isOpen, inc, b.astern, b.src.toNat⟩ ::
        s.xchk.peers.filter (fun q => decide (q.src ≠ b.src.toNat)) ∧
      t = { s with xchk := t.xchk, link := t.link }) ∧
  (∀ (p : Fin 2) (b : AngleBeat) (inc : Nat) (s : State), beatInc b.exp.toNat b.mant.toNat = some (inc, false) →
    s.held = false → portUp s p → b.crcOk → b.src.toNat ≠ s.linkId → following s → s.ptStands = false →
    s.dev.st ≠ .park → s.dev.st ≠ .armed → s.rd LINK.base LINK.STAT_ACTIVE_SRC = b.src.toNat →
    s.trk[(0 : Fin 2)].acq = .sync → s.trk[(0 : Fin 2)].stalled = false → s.dev.epochOpen = false →
    b.isOpen → b.epoch.toNat = s.link.beatEpoch → b.astern = s.trk[(0 : Fin 2)].astern →
    ∃ t, exec (.angleReceive p b) s = .next t ∧ t.trk[(0 : Fin 2)].inc = inc ∧ t.link.beatAt = some s.tick ∧
      (2 * travel b.astern (fullA s) s.trk[(0 : Fin 2)].acc (theta s b.src.toNat b.angle.toNat inc b.astern) < fullA s →
        t.trk[(0 : Fin 2)].acc = theta s b.src.toNat b.angle.toNat inc b.astern ∧ t.link.hold = none) ∧
      (fullA s ≤ 2 * travel b.astern (fullA s) s.trk[(0 : Fin 2)].acc (theta s b.src.toNat b.angle.toNat inc b.astern) →
        t.trk[(0 : Fin 2)].acc = s.trk[(0 : Fin 2)].acc ∧
        t.link.hold = some (theta s b.src.toNat b.angle.toNat inc b.astern))) ∧
  (∀ s : State, following s → s.trk[(0 : Fin 2)].acq = .sync → s.ptStands = false → s.dev.epochOpen = false →
    (∀ n, s.link.beatAt = some n → n + 400 * s.cfg LINK.base LINK.CFG_FLY ≤ s.tick) →
    ∃ t, exec .flywheelExpire s = .next t ∧ t.trk[(0 : Fin 2)].acq = .steady ∧ t.link.hold = none ∧
      t.rd LINK.base LINK.TAKES_LOSSES = sat LINK.TAKES_LOSSES.top (s.rd LINK.base LINK.TAKES_LOSSES + 1))

/-- Peer accesses and orders over the link (R415, R416, R418, R420): a good frame for this device is acknowledged and
served word by word, at once where its port is open to the link and no earlier frame of its initiator waits, else when it is its
turn (R139, R418, log entries 150 and 199); a read is answered with RDRESP
and the words read, a write with WRACK and its status, each to the sender under its TAG and INIT; an order is judged as
the link's submission and answered with its result; a response ends the access it answers; a REPLY is kept for the reader
of SUB_RES and SUB_SEQ. A SUBMIT to a plan engine that is held is not answered (R467, log entry 184). -/
def Obligations.FramesAreServedAndAnswered : Prop :=
  (∀ (p : Fin 2) (f : MemFrame) (s : State), s.held = false → portUp s p → s.dev.st ≠ .park → f.dst.toNat = s.linkId →
    f.crcOk → f.lseq.toNat = s.link.ports[p].rxSeq →
    (portOpen s .link (portOf (memAddr f)) → s.memc.waits.any (sameSource f) = false →
      ∃ t, exec (.memRd p f) s = .next t ∧ t = frameRun p false f (f.len.toNat + 2) [] (acked p s)) ∧
    (portOpen s .link (portOf (memAddr f)) → s.memc.waits.any (sameSource f) = false → f.data.length = f.len.toNat + 1 →
      ∃ t, exec (.memWr p f) s = .next t ∧ t = frameRun p true f (f.len.toNat + 2) [] (acked p s)) ∧
    (portOpen s .link (portOf (memAddr f)) = false ∨ s.memc.waits.any (sameSource f) → ∃ t, exec (.memRd p f) s = .next t ∧
      t = addWait (.frame p false f []) (acked p s)) ∧
    (portOpen s .link (portOf (memAddr f)) = false ∨ s.memc.waits.any (sameSource f) → f.data.length = f.len.toNat + 1 →
      ∃ t, exec (.memWr p f) s = .next t ∧ t = addWait (.frame p true f []) (acked p s)) ∧
    (∀ (r : PeerReq) (i : Initiator), f.data.length = f.len.toNat + 1 → f.status = 0 →
      reqFor s f.src.toNat f.tag.toNat false = some r → r.who = .plain i → ∃ t, exec (.memRdresp p f) s = .next t ∧
        t.respData = [toWord (respValue r f.data)] ∧ t.respErr = false ∧ t.link.reqs = s.link.reqs.erase r ∧
        t = { s with respData := t.respData, respErr := false, link := t.link }) ∧
    (∀ (r : PeerReq) (i : Initiator), reqFor s f.src.toNat f.tag.toNat true = some r → r.who = .plain i →
      ∃ t, exec (.memWrack p f) s = .next t ∧ t.respErr = decide (f.status ≠ 0) ∧ t.link.reqs = s.link.reqs.erase r ∧
        t.mem = s.mem)) ∧
  (∀ (p : Fin 2) (w : Bool) (f : MemFrame) (st : Nat) (got : List Nat) (s : State), s.link.ports[p].unacked.length < 32 →
    ∃ g, (frameEnds p w f st got s).link.ports[p].unacked = s.link.ports[p].unacked ++ [g] ∧ g.typ = 2 ∧
      g.op = (if w then 4 else 3) ∧ g.dst = f.src.toNat ∧ g.tag = f.tag.toNat ∧ g.init = f.init.toNat ∧ g.status = st ∧
      g.body = (if w then [] else got ++ List.replicate (f.len.toNat + 1 - got.length) 0)) ∧
  (∀ (p : Fin 2) (w : Bool) (f : MemFrame) (k st v : Nat) (got : List Nat) (s u : State),
    (f.len.toNat + 1 ≤ got.length → frameRun p w f (k + 1) got s = frameEnds p w f 0 got s) ∧
    (got.length < f.len.toNat + 1 → busAllows s 0x12 (portOf (memAddr f + 4 * got.length)) = false →
      (frameRun p w f (k + 1) got s).memc.waits = .frame p w f got :: s.memc.waits ∧
        (frameRun p w f (k + 1) got s).mem = s.mem) ∧
    (got.length < f.len.toNat + 1 → busAllows s 0x12 (portOf (memAddr f + 4 * got.length)) → st ≠ 0 →
      frameWord w f got.length (takeTurn 0x12 (portOf (memAddr f + 4 * got.length)) s) = ((st, v), u) →
      frameRun p w f (k + 1) got s = frameEnds p w f st (got ++ [v]) u)) ∧
  (∀ (p : Fin 2) (f : OrderFrame) (s : State), s.held = false → portUp s p → s.dev.st ≠ .park → f.dst.toNat = s.linkId →
    f.crcOk → f.lseq.toNat = s.link.ports[p].rxSeq → s.link.ports[p].unacked.length < 32 → s.islandHeld 2 = false →
    ∃ t, exec (.orderSubmit p f) s = .next t ∧ t = serveOrder p f (acked p s) ∧
      ∃ g ∈ t.link.ports[p].unacked, g.typ = 3 ∧ g.op = 2 ∧ g.dst = f.src.toNat ∧ g.tag = f.tag.toNat ∧
        g.body = [t.hdg.staging[(2 : Fin 8)].res.toNat, t.hdg.staging[(2 : Fin 8)].seq.toNat]) ∧
  (∀ (p : Fin 2) (f : ReplyFrame) (r : PeerReq) (s : State), s.held = false → portUp s p → s.dev.st ≠ .park →
    f.dst.toNat = s.linkId → f.crcOk → f.lseq.toNat = s.link.ports[p].rxSeq →
    reqFor s f.src.toNat f.tag.toNat true = some r → r.who = .order 1 → s.host.gen = 1 →
    ∃ t, exec (.orderReply p f) s = .next t ∧ t.respErr = false ∧ t.link.reqs = s.link.reqs.erase r ∧
      tget t.link.remote[(1 : Fin 8)].replies f.src.toNat (0, 0) = (f.res, f.seq) ∧ t.host.g1err = 0) ∧
  (∀ (p : Fin 2) (f : OrderFrame) (s : State), s.held = false → portUp s p → s.dev.st ≠ .park → f.dst.toNat = s.linkId →
    f.crcOk → f.lseq.toNat = s.link.ports[p].rxSeq → s.islandHeld 2 → exec (.orderSubmit p f) s = .next (acked p s))

/-- Events and messages over the link (R377, R421, R430): an EVT enters the event FIFO and is acknowledged, or answered FULL; a
MSG enters the message FIFO with PT less PATH, or is discarded and counted; an EVTACK without FULL completes its source at the
link target, with FULL it stays pending and is sent again every 10 us; a pop returns the oldest entry and takes it. -/
def Obligations.EventsAndMessagesCrossTheLink : Prop :=
  (∀ (p : Fin 2) (f : EventFrame) (s : State), s.held = false → portUp s p → s.dev.st ≠ .park → f.bcast = false →
    f.dst.toNat = s.linkId → f.crcOk → f.lseq.toNat = s.link.ports[p].rxSeq →
    (s.link.ports[p].unacked.length < 32 → ∃ t, exec (.eventEvt p f) s = .next t ∧
      t.link.evtFifo = (if 8 ≤ s.link.evtFifo.length then s.link.evtFifo
        else s.link.evtFifo ++ [(f.source.toNat, f.count.toNat, f.src.toNat)]) ∧
      (∃ g ∈ t.link.ports[p].unacked, g.typ = 4 ∧ g.op = 3 ∧ g.dst = f.src.toNat ∧ g.tag = f.tag.toNat ∧
        g.body = [b2n (decide (8 ≤ s.link.evtFifo.length))]) ∧
      t.link.ports[p].rxSeq = (s.link.ports[p].rxSeq + 1) % 256) ∧
    (s.link.msgFifo.length < 16 → ∃ t, exec (.eventMsg p f) s = .next t ∧
      t.link.msgFifo = s.link.msgFifo ++ [(f.payload.toNat, f.stamp.toNat,
        (s.ptLo + 2 ^ 32 - pathOf s f.src.toNat % 2 ^ 32) % 2 ^ 32)]) ∧
    (16 ≤ s.link.msgFifo.length → ∃ t, exec (.eventMsg p f) s = .next t ∧ t.link.msgFifo = s.link.msgFifo ∧
      t.rd LINK.base LINK.FIFO_DROPS = sat LINK.FIFO_DROPS.top (s.rd LINK.base LINK.FIFO_DROPS + 1)) ∧
    (tget s.link.evts f.tag.toNat 0 = 1 → f.full → ∃ t, exec (.eventEvtack p f) s = .next t ∧
      tget t.link.evts f.tag.toNat 0 = 2 ∧ t = { s with link := t.link }) ∧
    (tget s.link.evts f.tag.toNat 0 = 1 → f.full = false → ∃ t, exec (.eventEvtack p f) s = .next t ∧
      tget t.link.evts f.tag.toNat 0 = 0 ∧ ((s.csrc f.tag.toNat).pend = some 6 →
        (s.csrc f.tag.toNat).completing = false → (t.csrc f.tag.toNat).completing))) ∧
  (∀ s : State, s.held = false → s.link.evtAt + 4000 ≤ s.tick → ∃ t, exec .evtResend s = .next t ∧
    t.link.evtAt = s.tick ∧ (∀ q, pathPort s (s.rd CATCH.base CATCH.LINK_CFG_DEST) = some q →
      ∀ e ∈ s.link.evts, e.2 = 2 → tget t.link.evts e.1 0 = 1) ∧ t = { s with link := t.link }) ∧
  (∀ (a n d : Nat) (l : List (Nat × Nat × Nat)) (s : State), s.link.evtFifo = (a, n, d) :: l →
    ∃ t, exec .evtPopRead s = .next t ∧ t.link = { s.link with evtFifo := l } ∧
      t.respData = [toWord (2 ^ 31 + d % 8 * 2 ^ 24 + n % 256 * 2 ^ 16 + a % 256)] ∧
      t = { s with link := t.link, respData := t.respData, respErr := false }) ∧
  (∀ s : State, s.link.evtFifo = [] → ∃ t, exec .evtPopRead s = .next t ∧ t = { s with respData := [0], respErr := false }) ∧
  (∀ (v x q : Nat) (l : List (Nat × Nat × Nat)) (s : State), s.link.msgFifo = (v, x, q) :: l →
    ∃ t, exec .msgPayRead s = .next t ∧ t.link = { s.link with msgFifo := l } ∧ t.respData = [toWord v] ∧
      t.rd LINK.base LINK.MSG_STAMP_STAMP = x % (LINK.MSG_STAMP_STAMP.top + 1) ∧
      t.rd LINK.base LINK.MSG_PT_PT = q % (LINK.MSG_PT_PT.top + 1) ∧
      t = { s with link := t.link, regs := t.regs, respData := t.respData, respErr := false })

/-- The bundle, islands, drive supply, clocks and heat (R14, R17, R25 to R27, R456, R459, R460, R467, R468, R477, R478):
what each event counts, latches, records and raises; the causes that end every output and put an armed device into
SPILLED, and how each clears; a fourth missed window ends the outputs; a tracker island's release with both PT counters
failed does not clear the cause (R468); the clock is chosen where the choice is due (R459); Tj is the hottest reading, the
warning has its hysteresis, and a second reading of 155 C in a row shuts the outputs down and holds them; the hold is
released below 135 C, but the D-die's outputs stay off where its bundle has failed (R463). Whose culvert stalled is free
(log entry 22). The model's choice: that a plan engine's release leaves no load in progress (log entry 149), and that a held
tracker tracks nothing (log entry 184). -/
def Obligations.BundleIslandsClocksAndHeat : Prop :=
  (∀ s : State, s.held = false → ∃ t, exec .bundleUncorr s = .next t ∧
    t.rd SYS.base SYS.D2D_CNT_UNCORR = sat 65535 (s.rd SYS.base SYS.D2D_CNT_UNCORR + 1) ∧ bit t.plan.spillCause 1 ∧
    (∃ e ∈ t.inFlight, e.src = 5 ∧ e.raisedAt = s.tick) ∧ (s.isArmed → t.dev.st = .spilled) ∧
    (s.isArmed = false → t.dev.st = s.dev.st)) ∧
  (∀ s : State, s.held = false → (∃ t, exec (.heartbeatWindow true) s = .next t ∧
      t = { s with sys := { s.sys with missedBeats := 0 } }) ∧
    (s.sys.missedBeats ≠ 3 → ∃ t, exec (.heartbeatWindow false) s = .next t ∧
      t = { s with sys := { s.sys with missedBeats := s.sys.missedBeats + 1 } }) ∧
    (s.sys.missedBeats = 3 → ∃ t, exec (.heartbeatWindow false) s = .next t ∧ t.sys.dHold ∧ t.sys.missedBeats = 4 ∧
      t.plan = s.plan ∧ t.dev = s.dev)) ∧
  (∀ (n : BitVec 16) (s : State), s.held = false → (∃ t, exec (.statusWindow true n) s = .next t ∧ t.sys.missedStatus = 0 ∧
      t.rd SYS.base SYS.D2D_CNT_CORR = sat 65535 (s.rd SYS.base SYS.D2D_CNT_CORR + n.toNat) ∧
      t = { s with regs := t.regs, sys := { s.sys with missedStatus := 0 } }) ∧
    (s.sys.missedStatus = 3 → ∃ t, exec (.statusWindow false n) s = .next t ∧ bit t.plan.spillCause 2 ∧
      (∃ e ∈ t.inFlight, e.src = 4 ∧ e.raisedAt = s.tick) ∧ (s.isArmed → t.dev.st = .spilled))) ∧
  (∀ s : State, ∃ t, exec .bundleRestore s = .next t ∧ t.sys.latched = [] ∧ bit t.plan.spillCause 1 = false ∧
    bit t.plan.spillCause 2 = false ∧ t.dev = s.dev) ∧
  (∀ s : State, s.held = false → ∃ (t : State) (writer : Fin 4), exec .culvertStall s = .next t ∧
    t.flag SYS.base SYS.RST_CAUSE_ISLAND ∧ t.rd SYS.base SYS.RST_CAUSE_ISLAND_ID = 6 ∧ bit t.plan.spillCause 3 ∧
    t.sys.islandRst = s.sys.islandRst ++ [(writer.val, s.tick)] ∧
    (∀ h : writer.val < 2, t.trk[writer.val].acq = .off) ∧ (∃ e ∈ t.inFlight, e.src = 3 ∧ e.raisedAt = s.tick) ∧
    (s.isArmed → t.dev.st = .spilled)) ∧
  (∀ (n k : Nat) (s : State), s.sys.islandRst = [(n, k)] → k + 4000 ≤ s.tick → bothPtFailed s = false →
    ∃ t, exec .islandResetRelease s = .next t ∧ t.sys.islandRst = [] ∧ bit t.plan.spillCause 3 = false ∧
      (∀ h : n < 2, t.trk[n] = initTracker) ∧ (n = 2 → t.plan.load = .idle) ∧ (n ≠ 2 → t.dev = s.dev)) ∧
  (∀ s : State, s.sys.vdrvLow = false → s.held = false → ∃ t, exec .vdrvUndervoltage s = .next t ∧ t.sys.vdrvLow ∧
    (∀ n : Fin 16, t.pwm[n].outA = false ∧ t.pwm[n].outB = false) ∧ t.rd SYS.base SYS.RST_CAUSE_ISLAND_ID = 4 ∧ bit t.plan.spillCause 4 ∧ (s.isArmed → t.dev.st = .spilled)) ∧
  (∀ s : State, s.sys.vdrvLow → ∃ t, exec .vdrvReturn s = .next t ∧ t.sys.vdrvLow = false ∧
    bit t.plan.spillCause 4 = false ∧ t = { s with plan := t.plan, sys := t.sys, pwm := t.pwm, regs := t.regs, inFlight := t.inFlight }) ∧
  (∀ (k : Half) (s : State), s.sys.clkDue → s.sys.warmBusy = false → (∃ t, exec (.clockSelect (.clkin25 k)) s = .next t ∧
      t.rd CLK.base CLK.STAT_SRC = 1 ∧ t.flag CLK.base CLK.STAT_REF50 = false ∧ t.rd CLK.base CLK.REF_FREQ_KHZ = k.toNat ∧
      t.flag CLK.base CLK.STAT_MAIN_LOCK ∧ t.sys.oscRetry = false ∧ t = { s with regs := t.regs, sys := t.sys }) ∧
    (∃ t, exec (.clockSelect .none) s = .next t ∧ t.sys.oscRetry ∧ t.flag SYS.base SYS.RST_CAUSE_CLK_FAIL)) ∧
  (∀ (k : ClockFaultKind) (s : State), s.sys.clockFault = false → s.held = false → ∃ t, exec (.clockFault k) s = .next t ∧
    t.sys.clockFault ∧ t.ptStands ∧ t.pt = s.pt ∧ t.flag CLK.base CLK.STAT_FAULT ∧
    t.rd CLK.base CLK.FAULT_CNT_COUNT = sat 65535 (s.rd CLK.base CLK.FAULT_CNT_COUNT + 1) ∧ bit t.plan.spillCause 5 ∧
    (∃ e ∈ t.inFlight, e.src = 2 ∧ e.raisedAt = s.tick) ∧ (s.isArmed → t.dev.st = .spilled)) ∧
  (∀ (v : Word) (s : State), s.sys.clockFault → ∃ t, exec (.clockRecover v) s = .next t ∧ t.sys.clockFault = false ∧
    t.flag CLK.base CLK.STAT_FAULT = false ∧ t.rd CLK.base CLK.LOST_US = v.toNat ∧ bit t.plan.spillCause 5 = false ∧
    t.pt = s.pt ∧ t.mem = s.mem ∧ t.dev = s.dev ∧ t.trk = s.trk ∧
    (s.sys.frozen → t = { s with regs := t.regs, plan := t.plan, sys := t.sys })) ∧
  (∀ (a b c d e f : Half) (s : State), s.held = false → ∃ t, exec (.thermMeasure a b c d e f) s = .next t ∧
    t.rd THERM.base THERM.TJ = unsigned 16 (hottest [a, b, c, d, e, f]) ∧
    (hottest [a, b, c, d, e, f] < 540 → t.flag THERM.base THERM.STAT_WARN = false) ∧
    (560 ≤ hottest [a, b, c, d, e, f] → t.flag THERM.base THERM.STAT_WARN) ∧
    (620 ≤ hottest [a, b, c, d, e, f] → s.sys.hot = 1 → t.flag THERM.base THERM.STAT_SHUT ∧
      t.flag THERM.base THERM.STAT_HOLD ∧ t.sys.dHold ∧ bit t.plan.spillCause 0 ∧
      (∃ x ∈ t.inFlight, x.src = 1 ∧ x.raisedAt = s.tick)) ∧
    (hottest [a, b, c, d, e, f] < 620 → t.sys.hot = 0 ∧ t.banks = s.banks)) ∧
  (∀ s : State, s.held = false → ∃ t, exec .dDieThermalTrip s = .next t ∧ t.sys.dHold ∧
    t.flag THERM.base THERM.STAT_HOLD ∧ t.plan = s.plan ∧ t.dev = s.dev) ∧
  (∀ s : State, 540 ≤ tjNow s → ∃ t, exec .thermRelease s = .next t ∧
    t.rd THERM.base HDR.ERR_COUNT = sat 65535 (s.rd THERM.base HDR.ERR_COUNT + 1) ∧ t = { s with regs := t.regs }) ∧
  (∀ s : State, tjNow s < 540 → s.flag THERM.base THERM.STAT_HOLD → (s.dev.st = .strapped ∨ s.dev.st = .loaded) →
    ∃ t, exec .thermRelease s = .next t ∧ t.flag THERM.base THERM.STAT_HOLD = false ∧
      t.sys.dHold = (s.sys.dHold && s.flag SYS.base SYS.STAT_BUNDLE_FAIL)) ∧
  (∀ (n k : Nat) (s : State), s.sys.islandRst = [(n, k)] → n < 2 → k + 4000 ≤ s.tick → bothPtFailed s →
    ∃ t, exec .islandResetRelease s = .next t ∧ t.sys.islandRst = [] ∧ t.plan.spillCause = s.plan.spillCause ∧
      t.rd SYS.base SYS.RST_CAUSE_ISLAND_ID = 0) ∧
  (∀ (obs : ClockObs) (s : State), s.sys.clkDue = false → exec (.clockSelect obs) s = .next s)

/-- PARK, wake and the debug freeze (R472 to R474, R484, R489, R493 to R495): a request is held or refused and counted by
the state and the timers, and held whatever runs in a freeze; it acts when nothing holds it; HPQ wakes nothing while its
ENABLE is 0, nor does a wheel that an armed plan does not name; a wake returns to the state before, an ARMED device goes
on to SYNCING on a crank edge; a freeze, asked for by a write or a breakpoint in an earlier tick, makes PT stand and
records its cause, PT and whether a disarm is due; a release ends it, is counted while not frozen, and undoes a freeze
asked for in its tick; a read of PT_LO keeps PT_HI. -/
def Obligations.ParkWakeAndFreeze : Prop :=
  (∀ s : State, s.sys.frozen ∨ ((s.dev.st = .strapped ∨ s.dev.st = .loaded ∨ s.dev.st = .armed) ∧ tmrOrRnlRuns s = false) →
    ∃ t, exec .park s = .next t ∧ t.flag SYS.base SYS.CMD_PARK ∧ t = { s with regs := t.regs }) ∧
  (∀ s : State, s.sys.frozen = false → (s.dev.st ≠ .strapped ∧ s.dev.st ≠ .loaded ∧ s.dev.st ≠ .armed) ∨ tmrOrRnlRuns s →
    ∃ t, exec .park s = .next t ∧ t.rd SYS.base HDR.ERR_COUNT = sat 65535 (s.rd SYS.base HDR.ERR_COUNT + 1) ∧
      t = { s with regs := t.regs }) ∧
  (∀ s : State, s.flag SYS.base SYS.CMD_PARK → s.plan.load = .idle → flumeRuns s = false → s.sys.frozen = false →
    (s.dev.st = .strapped ∨ s.dev.st = .loaded ∨ s.dev.st = .armed) → tmrOrRnlRuns s = false →
    ∃ t, exec .parkEnter s = .next t ∧ t.dev.st = .park ∧ t.sys.parkFrom = s.dev.st ∧
      t.flag SYS.base SYS.CMD_PARK = false ∧ t.mem = s.mem) ∧
  (∀ (c : WakeCause) (s : State), wakes c s = false → exec (.wake c) s = .next s) ∧
  (∀ s : State, (s.clockOff 0x69 → wakes .hpq s = false) ∧ (∀ w : Fin 4, s.sys.parkFrom = .armed →
    (∀ r ∈ s.plan.wheels, r.wheel ≠ w.val) → wakes (.wheel w) s = false)) ∧
  (∀ (c : WakeCause) (s : State), s.dev.st = .park → wakes c s →
    ∃ t, exec (.wake c) s = .next t ∧
    t.reg (SYS.base + 0x54) = (match c with | .wheel _ => 1 | .hps => 2 | .hpq => 2 | .linkFrame => 4) ∧
    t.dev.st = (match c with
      | .wheel w => if s.sys.parkFrom = .armed ∧ following s = false ∧ (cranksOn s 0 w || cranksOn s 1 w)
          then .syncing else s.sys.parkFrom
      | _ => s.sys.parkFrom) ∧ (∃ e ∈ t.inFlight, e.src = 7 ∧ e.raisedAt = s.tick)) ∧
  (∀ s : State, s.sys.frozen = false → s.sys.releasedAt ≠ some s.tick → ∃ t, exec .dbgFreeze s = .next t ∧
    t = { s with sys := { s.sys with
      freezeReq := 1, freezeReqAt := if s.sys.freezeReq = 0 then s.tick else s.sys.freezeReqAt } }) ∧
  (∀ s : State, s.sys.releasedAt = some s.tick → exec .dbgFreeze s = .next s) ∧
  (∀ s : State, s.on DBG.base DBG.BRK_CFG_PT_EN → s.ptStands = false → s.sys.freezeReq = 0 →
    s.pt = s.cfg DBG.base DBG.BRK_PT_HI_PT * 2 ^ 32 + s.cfg DBG.base DBG.BRK_PT_LO_PT →
    ∃ t, exec .brkPtMatch s = .next t ∧ t = { s with sys := { s.sys with freezeReq := 2, freezeReqAt := s.tick } }) ∧
  (∀ s : State, s.sys.freezeReq ≠ 0 → s.sys.freezeReq < 4 → s.sys.frozen = false → s.sys.freezeReqAt < s.tick → ∃ t, exec .freezeBegin s = .next t ∧
    t.sys.frozen ∧ t.ptStands ∧ t.pt = s.pt ∧ t.sys.freezeReq = 0 ∧ t.rd DBG.base DBG.STAT_CAUSE = s.sys.freezeReq ∧
    t.flag DBG.base DBG.STAT_DISARM_PEND = s.dev.epochOpen ∧ t.rd DBG.base DBG.FRZ_PT_PT = s.ptLo ∧
    (∀ b : Fin 16, t.banks[b].grant = none ∧ t.banks[b].queue = [])) ∧
  (∀ s : State, s.sys.frozen → ∃ t, exec .dbgRelease s = .next t ∧ t = { s with sys := { s.sys with releaseReq := true } }) ∧
  (∀ s : State, s.sys.frozen = false → ¬(s.sys.freezeReq = 1 ∧ s.sys.freezeReqAt = s.tick) →
    ∃ t, exec .dbgRelease s = .next t ∧
    t.rd DBG.base HDR.ERR_COUNT = sat 65535 (s.rd DBG.base HDR.ERR_COUNT + 1) ∧
    t = { s with regs := t.regs, sys := { s.sys with releasedAt := some s.tick } }) ∧
  (∀ s : State, s.sys.frozen = false → s.sys.freezeReq = 1 → s.sys.freezeReqAt = s.tick →
    ∃ t, exec .dbgRelease s = .next t ∧ t = { s with sys := { s.sys with freezeReq := 0, releasedAt := some s.tick } }) ∧
  (∀ s : State, ∃ t, exec .ptLoRead s = .next t ∧ t.respData = [toWord s.pt] ∧ t.respErr = false ∧
    t.reg (SYS.base + 0x64) = toWord (s.pt / 2 ^ 32) ∧
    t = { s with regs := t.regs, respData := t.respData, respErr := false })

/-- Resets (R455 to R466, R469, R470): a cold reset leaves every memory empty and the device in RESET with its own cause
and no other; the straps are sampled at the release of RESET_N, and again at a link reset's, where the balls are tied as
they were (R469, log entry 180); when the sequence is done, with the reference chosen and VDRV in range, the device is
STRAPPED with PT at 0 and its links train; a link reset is released 10 us after its HEART; a warm or supply reset keeps
the memories of supplies not lost, the queue and the last epoch, what its own tick decided not taken (R210); its release
starts PT at 0, and at its end the device is LOADED from the plan copy, or STRAPPED. The model's choice: the tied straps (log
entry 180), the state a reset's tick goes back to (log entry 186), and that memory emptied, or of a supply lost, reads as 0
(log entries 3 and 21). -/
def Obligations.ResetsBeginAndEnd : Prop :=
  (∀ s : State, (∃ t, exec (.powerOnReset false) s = .next t ∧ t.dev.st = .reset ∧ t.sys.vretDown ∧ t.sys.resetNLow ∧
      t.reg (SYS.base + 0x58) = 1 ∧ t.mem = [] ∧ t.hdg.queue = [] ∧ t.pending = s.pending) ∧
    (∃ t, exec (.powerOnReset true) s = .next t ∧ t = { s with sys := { s.sys with vretDown := false } })) ∧
  (∀ s : State, s.sys.resetNLow = false → ∃ t, exec .resetNAssert s = .next t ∧ t.dev.st = .reset ∧ t.sys.resetNLow ∧
    t.sys.coldBusy ∧ t.reg (SYS.base + 0x58) = 2 ∧ t.mem = [] ∧ t.dev.straps = s.dev.straps) ∧
  (∀ (b : BitVec 8) (s : State), s.sys.resetNLow → s.sys.vretDown = false → ∃ t, exec (.resetNRelease b) s = .next t ∧
    t.sys.resetNLow = false ∧ t.dev.straps = b ∧ t.rd HPS.base HPS.CFG_GEN = genOfStraps b ∧ t.host.gen = genOfStraps b ∧
    t.rd LINK.base LINK.STAT_ROLE = (if bit b.toNat 5 then 1 else 2) ∧
    t.dev = { s.dev with straps := b } ∧ t.sys = { s.sys with resetNLow := false, strapPins := b } ∧
    t = { s with regs := t.regs, act := t.act, dev := t.dev, sys := t.sys, host := t.host }) ∧
  (∀ (ok : Bool) (s : State), s.sys.coldBusy → s.sys.vretDown = false → s.sys.resetNLow = false → s.sys.linkRst = false →
    s.sys.oscRetry = false → s.sys.clkDue = false → s.sys.vdrvLow = false → s.sys.supplyDown = [] →
    ∃ t, exec (.coldResetDone ok) s = .next t ∧ t.dev.st = .strapped ∧
      t.pt = 0 ∧ t.sys.coldBusy = false ∧ (∀ p : Fin 2, portState t p = 1) ∧
      t.flag SYS.base SYS.STAT_D2D_UP = ok ∧ t.flag SYS.base SYS.STAT_BUNDLE_FAIL = !ok ∧ (ok = false → t.sys.dHold) ∧
      (s.dev.straps.toNat % 4 = 3 → t.rd FL.base FL.BOOT_STAGE = 1)) ∧
  (∀ (k : Nat) (s : State), s.link.resetAt = some k → s.sys.linkRst → k + 4000 ≤ s.tick →
    ∃ t, exec .linkResetRelease s = .next t ∧ t.sys.linkRst = false ∧ t.link.resetAt = none ∧
      t.dev = { s.dev with straps := s.sys.strapPins } ∧ t.host.gen = genOfStraps s.sys.strapPins ∧
      t = { s with regs := t.regs, act := t.act, dev := t.dev, sys := t.sys, link := t.link, host := t.host }) ∧
  (∀ s u : State, coldHeld s = false → u = (if s.sys.warmBusy then s else undoTick s) →
    ∃ t, exec .warmNAssert s = .next t ∧ t.dev.st = .reset ∧ t.sys.warmLow ∧
    t.sys.warmBusy ∧ t.flag SYS.base SYS.RST_CAUSE_WARM_N ∧ t.mem = s.mem ∧ t.memErr = s.memErr ∧
    t.hdg.queue = (foldS u.plan.acts flagOrder u).hdg.queue ∧ t.dev.epoch = u.dev.epoch ∧ t.dev.epochOpen = false ∧
    t.dev.straps = s.dev.straps ∧ seqLast t = seqLast u ∧ t.rd JRN.base JRN.WR_COUNT = u.rd JRN.base JRN.WR_COUNT) ∧
  (∀ s : State, s.sys.warmLow → s.sys.warmBusy → coldHeld s = false → s.sys.oscRetry = false → s.sys.supplyDown = [] →
    (s.sys.lostL → s.sys.clkDue = false) → ∃ t, exec .warmNRelease s = .next t ∧ t.sys.warmLow = false ∧ t.pt = 0 ∧ (∀ p : Fin 2, portState t p = 1) ∧
      t.sys.warmActs = [] ∧ t.dev.st = s.dev.st) ∧
  (∀ s : State, s.sys.warmBusy → s.held = false → s.dev.straps.toNat % 4 ≠ 3 →
    (s.flag PLAN.base PLAN.INFO_VALID = false → ∃ t, exec .warmResetDone s = .next t ∧ t.dev.st = .strapped ∧
      t.sys.warmBusy = false ∧ t.hdg.blocked = false ∧ t.mem = s.mem) ∧
    (s.flag PLAN.base PLAN.INFO_VALID → copyChecks s → (∀ c : Fin 4, s.cores[c].on = false) →
      ∃ t, exec .warmResetDone s = .next t ∧ t.dev.st = .loaded ∧ t.sys.warmBusy = false ∧ t.hdg.blocked = false)) ∧
  (∀ (sup : Supply) (s u : State), coldHeld s = false → u = (if s.sys.warmBusy then s else undoTick s) →
    ∃ t, exec (.supplyLoss sup) s = .next t ∧ t.dev.st = .reset ∧
    t.sys.supplyDown.contains sup ∧ t.flag SYS.base (supplyFld sup) ∧ t.hdg.queue = (foldS u.plan.acts flagOrder u).hdg.queue ∧
    (∀ a, 0x140000 ≤ a → a < 0x154000 → t.byte a = s.byte a) ∧
    (sup = .vddL → ∀ a, a < 0x140000 → t.byte a = 0)) ∧
  (∀ (sup : Supply) (s : State), s.sys.supplyDown = [sup] → s.sys.warmBusy → coldHeld s = false → s.sys.oscRetry = false →
    s.sys.warmLow = false → (s.sys.lostL → s.sys.clkDue = false) →
    ∃ t, exec (.supplyReturn sup) s = .next t ∧ t.sys.supplyDown = [] ∧ t.pt = 0 ∧
      (∀ p : Fin 2, portState t p = 1))

/-- The page header (R482 to R487, R495): a COMMIT is noted and is judged at the end of its tick, when it takes every
shadow of its page as it then stands, in one commit, the part of a word that waits for the disarm apart (R243, R431), or
refuses them all and counts; a soft reset is held for the next tick in STRAPPED and LOADED, takes the place of a COMMIT of
its page, and is else counted, in the next tick too; ENABLE is cleared only while its block is idle; a write of EVT_SET
raises each source it names, of the bits R483 reserves too (the model's reading, log entry 27). -/
def Obligations.PageHeadersCommitResetAndRaise : Prop :=
  (∀ (p : Byte) (s : State), shadowsOf p.toNat ≠ [] → s.sys.softResets.contains p.toNat = false →
    ∃ t, exec (.commit p) s = .next t ∧ p.toNat ∈ t.sys.commits ∧ (∀ q ∈ s.sys.commits, q ∈ t.sys.commits) ∧
      t = { s with sys := { s.sys with commits := t.sys.commits } }) ∧
  (∀ (p : Byte) (s : State), shadowsOf p.toNat ≠ [] → s.sys.commits = [p.toNat] → commitRefused s p.toNat = false →
    let t := commitsJudge s
    t.flag (pageBase p.toNat) HDR.STATUS_COMMIT_REF = false ∧
      (∀ a ∈ shadowsOf p.toNat, splitField a = none → ∃ c ∈ t.committed, c.addr = a ∧ c.value = s.reg a ∧
        c.mask = BitVec.allOnes 32 ∧ c.at_ = s.tick) ∧
      (s.armedOrLater → ∀ a ∈ shadowsOf p.toNat, ∀ f, splitField a = some f → ∃ c ∈ t.committed, c.addr = a ∧
        c.value = s.reg a ∧ c.when_ = .disarm ∧ c.mask = f.put 0 (2 ^ (f.hi - f.lo + 1) - 1)) ∧
      (∀ c ∈ s.committed, c.addr ∉ shadowsOf p.toNat → c ∈ t.committed) ∧
      t = { s with regs := t.regs, committed := t.committed, sys := { s.sys with commits := [] } }) ∧
  (∀ (p : Byte) (s : State), shadowsOf p.toNat ≠ [] → s.sys.commits = [p.toNat] → commitRefused s p.toNat →
    let t := commitsJudge s
    t.flag (pageBase p.toNat) HDR.STATUS_COMMIT_REF ∧
      t.rd (pageBase p.toNat) HDR.ERR_COUNT = sat 65535 (s.rd (pageBase p.toNat) HDR.ERR_COUNT + 1) ∧
      t = { s with regs := t.regs, sys := { s.sys with commits := [] } }) ∧
  (∀ (p : Byte) (s : State), softPage p.toNat → (s.dev.st = .strapped ∨ s.dev.st = .loaded) →
    ∃ t, exec (.softReset p) s = .next t ∧ t.sys.softResets.contains p.toNat ∧ p.toNat ∉ t.sys.commits ∧
      t = { s with sys := t.sys }) ∧
  (∀ (p : Byte) (s : State), (pageRowOf (pageBase p.toNat)).isSome →
    softPage p.toNat = false ∨ (s.dev.st ≠ .strapped ∧ s.dev.st ≠ .loaded) →
    ∃ t, exec (.softReset p) s = .next t ∧
      t.rd (pageBase p.toNat) HDR.ERR_COUNT = sat 65535 (s.rd (pageBase p.toNat) HDR.ERR_COUNT + 1) ∧
      t = { s with regs := t.regs }) ∧
  (∀ (p : Byte) (s : State), (pageRowOf (pageBase p.toNat)).isSome →
    ((p.toNat = 0x60 → ∀ a ∈ s.plan.acts, ¬(a.kind = 8 ∧ a.phase = .waiting)) → ∃ t, exec (.enableWrite p true) s = .next t ∧
      t.flag (pageBase p.toNat) HDR.CTRL_ENABLE ∧ t = { s with regs := t.regs }) ∧
    (pageIdle s p.toNat → ∃ t, exec (.enableWrite p false) s = .next t ∧
      t.flag (pageBase p.toNat) HDR.CTRL_ENABLE = false ∧ t = { s with regs := t.regs }) ∧
    (pageIdle s p.toNat = false → ∃ t, exec (.enableWrite p false) s = .next t ∧
      t.flag (pageBase p.toNat) HDR.CTRL_ENABLE = s.flag (pageBase p.toNat) HDR.CTRL_ENABLE ∧
      t.rd (pageBase p.toNat) HDR.ERR_COUNT = sat 65535 (s.rd (pageBase p.toNat) HDR.ERR_COUNT + 1))) ∧
  (∀ (p : Byte) (v : Word) (r : PageRow) (s : State), pageRowOf (pageBase p.toNat) = some r → ∃ t, exec (.evtSet p v) s = .next t ∧
    (∀ k, k < r.nsrc → bit v.toNat k → ∃ e ∈ t.inFlight, e.src = r.src + k ∧ e.raisedAt = s.tick) ∧
    t = { s with regs := t.regs, inFlight := t.inFlight, sys := t.sys }) ∧
  (∀ (p : Byte) (s : State), s.sys.softResets = [p.toNat] → s.dev.st ≠ .strapped → s.dev.st ≠ .loaded →
    actSoftResets s = { s with sys := { s.sys with softResets := [] } }.err p.toNat)

/-- Each command for a MEM or ORDER frame completes (R409, R415, R416, R418, R420). A good frame for this device is
acknowledged, and its own effect happens: a one-word read of sound SRAM is answered with RDRESP and the word, a one-word
write stores it and is answered with WRACK, a response ends the access of the core that waits for it, and one that answers
nothing is dropped; a SUBMIT is judged and answered with a REPLY of the result, a REPLY is kept for its core and completes
the core's SUB3. A good frame for another device goes on out of the other port under that hop's next LSEQ. A frame of an
unexpected LSEQ is discarded, and the LSEQ before the expected one acknowledged. A frame is served where its port is open
to the link (R139) and no earlier frame of its initiator waits (R418), and a SUBMIT judged as the records of the tick so far
leave the queue (the model's reading, log entry 10). -/
def Obligations.MemAndOrderFramesComplete : Prop :=
  (∀ (p : Fin 2) (f : MemFrame) (s : State), s.held = false → portUp s p → s.dev.st ≠ .park → f.dst.toNat = s.linkId →
    f.crcOk → f.lseq.toNat = s.link.ports[p].rxSeq →
    (f.len = 0 → f.be = 0xFF → memAddr f < 0x100000 → s.pattern (memAddr f / 8) = 0 → s.link.ports[p].unacked.length < 32 →
      portOpen s .link (portOf (memAddr f)) → s.memc.waits.any (sameSource f) = false →
      (∃ t, exec (.memRd p f) s = .next t ∧ t.link.ports[p].unacked = s.link.ports[p].unacked ++
          [{ frameTo s 2 3 f.src.toNat 1 f.tag.toNat f.init.toNat 0 0 [s.leBytes (memAddr f) 4] with
             lseq := s.link.ports[p].txSeq }] ∧
        t.link.ports[p].rxSeq = (s.link.ports[p].rxSeq + 1) % 256 ∧ t = { s with regs := t.regs, memc := t.memc, link := t.link }) ∧
      (∀ v : Word, f.data = [v] → ∃ t, exec (.memWr p f) s = .next t ∧ t.leBytes (memAddr f) 4 = v.toNat ∧
        (∀ x, x < memAddr f ∨ memAddr f + 4 ≤ x → t.byte x = s.byte x) ∧
        t.link.ports[p].unacked = s.link.ports[p].unacked ++
          [{ frameTo s 2 4 f.src.toNat 1 f.tag.toNat f.init.toNat 0 0 [] with lseq := s.link.ports[p].txSeq }] ∧
        t.link.ports[p].rxSeq = (s.link.ports[p].rxSeq + 1) % 256)) ∧
    (f.data.length = f.len.toNat + 1 → reqFor s f.src.toNat f.tag.toNat false = none →
      exec (.memRdresp p f) s = .next (acked p s)) ∧
    (reqFor s f.src.toNat f.tag.toNat true = none → exec (.memWrack p f) s = .next (acked p s)) ∧
    (∀ (r : PeerReq) (c : Fin 4) (task : Bool) (a : FarAcc), r.who = .core c task → (pathBank s c task).wait = .far a →
      a.addr / 4 = r.addr / 4 → (task → s.cores[c].task.isSome) → f.status = 0 →
      (f.data.length = f.len.toNat + 1 → a.load → reqFor s f.src.toNat f.tag.toNat false = some r →
        ∃ t, exec (.memRdresp p f) s = .next t ∧ t.link.reqs = s.link.reqs.erase r ∧
          pathBank t c task = bankProceeds s.pt (farDeliver a (respValue r f.data) (pathBank s c task)) ∧
          t = { s with link := t.link, cores := t.cores }) ∧
      (a.load = false → reqFor s f.src.toNat f.tag.toNat true = some r →
        ∃ t, exec (.memWrack p f) s = .next t ∧ t.link.reqs = s.link.reqs.erase r ∧
          pathBank t c task = bankProceeds s.pt (pathBank s c task) ∧ t = { s with link := t.link, cores := t.cores }))) ∧
  (∀ (p : Fin 2) (f : OrderFrame) (b : Staging) (r : Word) (s d : State), s.held = false → portUp s p → s.dev.st ≠ .park →
    f.dst.toNat = s.linkId → f.crcOk → f.lseq.toNat = s.link.ports[p].rxSeq → s.link.ports[p].unacked.length < 32 →
    s.islandHeld 2 = false → b = { s.hdg.staging[(2 : Fin 8)] with
      sub0 := f.sub0, sub1 := f.sub1, sub2 := f.sub2, sub3 := f.sub3, failed := f.failed } →
    d = flushRecs (updStaging 2 (fun _ => b) (acked p s)) → r = subRes (judge b d) (occ d + if judge b d = .ack then 1 else 0) →
    ∃ t, exec (.orderSubmit p f) s = .next t ∧ t.hdg.staging[(2 : Fin 8)].res = r ∧
      t.hdg.staging[(2 : Fin 8)].seq = f.sub0 ∧ t.hdg.staging[(2 : Fin 8)].failed = false ∧
      (judge b d = .ack → seqLast t = f.sub0.toNat) ∧
      (judge b d ≠ .ack → seqLast t = seqLast s ∧ t.hdg.queue = s.hdg.queue ∧ t.mem = s.mem) ∧
      t.link.ports[p].unacked = s.link.ports[p].unacked ++
        [{ frameTo s 3 2 f.src.toNat 1 f.tag.toNat f.init.toNat 0 0 [r.toNat, f.sub0.toNat] with
           lseq := s.link.ports[p].txSeq }]) ∧
  (∀ (p : Fin 2) (f : ReplyFrame) (s : State), s.held = false → portUp s p → s.dev.st ≠ .park →
    f.dst.toNat = s.linkId → f.crcOk → f.lseq.toNat = s.link.ports[p].rxSeq →
    (reqFor s f.src.toNat f.tag.toNat true = none → exec (.orderReply p f) s = .next (acked p s)) ∧
    (∀ (r : PeerReq) (c : Fin 4) (j : Fin 8) (a : FarAcc), reqFor s f.src.toNat f.tag.toNat true = some r →
      r.who = .order j → j.val = 3 + c.val → s.cores[c].bg.wait = .far a → a.load = false → a.addr / 4 = r.addr / 4 →
      s.cores[c].task = none → ∃ t, exec (.orderReply p f) s = .next t ∧
        tget t.link.remote[j].replies f.src.toNat (0, 0) = (f.res, f.seq) ∧ t.link.reqs = s.link.reqs.erase r ∧
        t.cores[c].bg = bankProceeds s.pt s.cores[c].bg)) ∧
  (∀ (p : Fin 2) (f : MemFrame) (g : OrderFrame) (h : ReplyFrame) (s : State), s.held = false → portUp s p →
    portState s (otherPort p) ≠ 0 → s.link.ports[otherPort p].unacked.length < 32 →
    (f.dst.toNat ≠ s.linkId → f.crcOk → f.lseq.toNat = s.link.ports[p].rxSeq →
      exec (.memRd p f) s = .next (sendFrame (otherPort p) (memOnward f 1) (acked p s)) ∧
      exec (.memWrack p f) s = .next (sendFrame (otherPort p) (memOnward f 4) (acked p s)) ∧
      (f.data.length = f.len.toNat + 1 →
        exec (.memWr p f) s = .next (sendFrame (otherPort p) (memOnward f 2) (acked p s)) ∧
        exec (.memRdresp p f) s = .next (sendFrame (otherPort p) (memOnward f 3) (acked p s)))) ∧
    (g.dst.toNat ≠ s.linkId → g.crcOk → g.lseq.toNat = s.link.ports[p].rxSeq → ∃ t, exec (.orderSubmit p g) s = .next t ∧
      t = { s with link := t.link } ∧ ∃ x ∈ t.link.ports[otherPort p].unacked, x.typ = 3 ∧ x.op = 1 ∧ x.dst = g.dst.toNat ∧
        x.src = g.src.toNat ∧ x.tag = g.tag.toNat ∧ x.lseq = s.link.ports[otherPort p].txSeq ∧
        x.body = [g.sub0.toNat, g.sub1.toNat, g.sub2.toNat, g.sub3.toNat]) ∧
    (h.dst.toNat ≠ s.linkId → h.crcOk → h.lseq.toNat = s.link.ports[p].rxSeq → ∃ t, exec (.orderReply p h) s = .next t ∧
      t = { s with link := t.link } ∧ ∃ x ∈ t.link.ports[otherPort p].unacked, x.typ = 3 ∧ x.op = 2 ∧ x.dst = h.dst.toNat ∧
        x.src = h.src.toNat ∧ x.tag = h.tag.toNat ∧ x.lseq = s.link.ports[otherPort p].txSeq ∧
        x.body = [h.res.toNat, h.seq.toNat])) ∧
  (∀ (p : Fin 2) (f : MemFrame) (g : OrderFrame) (h : ReplyFrame) (s : State), s.held = false → portUp s p →
    s.dev.st ≠ .park →
    (f.crcOk → f.lseq.toNat ≠ s.link.ports[p].rxSeq → exec (.memRd p f) s = .next (nacked p s) ∧
      exec (.memWrack p f) s = .next (nacked p s) ∧ (f.data.length = f.len.toNat + 1 →
        exec (.memWr p f) s = .next (nacked p s) ∧ exec (.memRdresp p f) s = .next (nacked p s))) ∧
    (g.crcOk → g.lseq.toNat ≠ s.link.ports[p].rxSeq → exec (.orderSubmit p g) s = .next (nacked p s)) ∧
    (h.crcOk → h.lseq.toNat ≠ s.link.ports[p].rxSeq → exec (.orderReply p h) s = .next (nacked p s)))

/-- The test access port (R510): one waiting TCK cycle passes in a tick of 2.5 ns, and nothing but the port and the
counter of free values moves with it; five cycles with TMS high reset the port from any state, to BYPASS; in BYPASS a
captured 0 leaves first and TDI follows one cycle behind; in the other instructions the chain shifts by one place; an
update drives what was shifted, on a ball with power and out of reset, and every ball has one cell; a ball without power
is high impedance (R475, R514); cycles wait in the order they come. The waiting cycles are the model's own input, and the
order of the chain's cells is free (log entry 146); the states between are those of IEEE 1149.1. -/
def Obligations.TestPortResetsShiftsAndBypasses : Prop :=
  (∀ (l : List Bool) (t : Tap) (d1 d2 d3 d4 d5 : Bool),
    let u := tapCycle l true d5 (tapCycle l true d4 (tapCycle l true d3 (tapCycle l true d2 (tapCycle l true d1 t))))
    u.st = .logicReset ∧ u.ir = .bypass ∧ u.tdo = none) ∧
  (∀ (l : List Bool) (t : Tap) (x y d1 d2 : Bool), t.st = .captureDr → t.ir = .bypass →
    let u := tapCycle l false d1 t
    let v := tapCycle l false d2 u
    u.tdo = some false ∧ v.tdo = some d2 ∧ (tapCycle l y x v).latch = t.latch ∧ (tapCycle l y x v).chain = t.chain) ∧
  (∀ (l : List Bool) (t : Tap) (d : Bool), t.st = .captureDr → t.ir ≠ .bypass → (tapCycle l false d t).chain = l) ∧
  (∀ (l : List Bool) (t : Tap) (tms d : Bool), t.st = .shiftDr → t.ir ≠ .bypass →
    (tapCycle l tms d t).chain = t.chain.tail ++ [d] ∧ (tapCycle l false d t).tdo = (t.chain.tail ++ [d]).head?) ∧
  (∀ (l : List Bool) (t : Tap) (d : Bool), t.st = .exit1Dr → t.ir ≠ .bypass → (tapCycle l true d t).latch = t.chain) ∧
  (∀ (s : State) (n : Nat), s.tap.ir = .extest → ballCanDrive n → ballShut s n = false →
    ballDrive s n = (match cellBalls.findIdx? (fun b => b == n) with
      | some k => some (s.tap.latch.getD k false)
      | none => ballOut s n)) ∧
  (∀ (s : State) (n : Nat), s.tap.ir ≠ .extest → ballDrive s n = ballOut s n) ∧
  (∀ (tms tdi : Bool) (r : List (Bool × Bool)) (s : State), s.tap.waiting = (tms, tdi) :: r →
    tapTick s = { s with
      tap := { tapCycle (cellBalls.map (cellLevel s)) tms tdi s.tap with waiting := r }
      free := s.free + 1 }) ∧
  (∀ s : State, s.tap.waiting = [] → tapTick s = s) ∧
  (∀ (a b : BitVec 5) (s : State), ∃ t, exec (.accumulatorTick a b) s = .next t ∧ t.tap.waiting = s.tap.waiting.drop 1) ∧
  (cellBalls.Perm (List.range tapBalls)) ∧
  (∀ (s : State) (n : Nat), ballShut s n → ballDrive s n = ballOut s n) ∧
  (∀ (s : State) (n : Nat), ballPowered s n = false → ballDrive s n = none)
end

