-- ==== Sys2Proof/Laws/State.lean ====
section
/-! SUPPORT. What each update of the state leaves alone, one lemma per field, and what it puts into the field it writes. -/

namespace Sys2Proof.Machine

variable (s : State)

@[simp] theorem State.setReg_pending (a : Nat) (w : Word) : (s.setReg a w).pending = s.pending := rfl
@[simp] theorem State.setReg_tick (a : Nat) (w : Word) : (s.setReg a w).tick = s.tick := rfl
@[simp] theorem State.setReg_pt (a : Nat) (w : Word) : (s.setReg a w).pt = s.pt := rfl
@[simp] theorem State.setReg_respData (a : Nat) (w : Word) : (s.setReg a w).respData = s.respData := rfl
@[simp] theorem State.setReg_respErr (a : Nat) (w : Word) : (s.setReg a w).respErr = s.respErr := rfl
@[simp] theorem State.setReg_free (a : Nat) (w : Word) : (s.setReg a w).free = s.free := rfl
@[simp] theorem State.setReg_act (a : Nat) (w : Word) : (s.setReg a w).act = s.act := rfl
@[simp] theorem State.setReg_committed (a : Nat) (w : Word) : (s.setReg a w).committed = s.committed := rfl
@[simp] theorem State.setReg_inFlight (a : Nat) (w : Word) : (s.setReg a w).inFlight = s.inFlight := rfl
@[simp] theorem State.setReg_mem (a : Nat) (w : Word) : (s.setReg a w).mem = s.mem := rfl
@[simp] theorem State.setReg_memErr (a : Nat) (w : Word) : (s.setReg a w).memErr = s.memErr := rfl
@[simp] theorem State.setReg_slotPoison (a : Nat) (w : Word) : (s.setReg a w).slotPoison = s.slotPoison := rfl
@[simp] theorem State.setReg_ptab (a : Nat) (w : Word) : (s.setReg a w).ptab = s.ptab := rfl
@[simp] theorem State.setReg_ptabLo (a : Nat) (w : Word) : (s.setReg a w).ptabLo = s.ptabLo := rfl
@[simp] theorem State.setReg_ptabSnap (a : Nat) (w : Word) : (s.setReg a w).ptabSnap = s.ptabSnap := rfl
@[simp] theorem State.setReg_dev (a : Nat) (w : Word) : (s.setReg a w).dev = s.dev := rfl
@[simp] theorem State.setReg_wheels (a : Nat) (w : Word) : (s.setReg a w).wheels = s.wheels := rfl
@[simp] theorem State.setReg_trk (a : Nat) (w : Word) : (s.setReg a w).trk = s.trk := rfl
@[simp] theorem State.setReg_xchk (a : Nat) (w : Word) : (s.setReg a w).xchk = s.xchk := rfl
@[simp] theorem State.setReg_plan (a : Nat) (w : Word) : (s.setReg a w).plan = s.plan := rfl
@[simp] theorem State.setReg_hdg (a : Nat) (w : Word) : (s.setReg a w).hdg = s.hdg := rfl
@[simp] theorem State.setReg_sys (a : Nat) (w : Word) : (s.setReg a w).sys = s.sys := rfl
@[simp] theorem State.setReg_memc (a : Nat) (w : Word) : (s.setReg a w).memc = s.memc := rfl
@[simp] theorem State.setReg_banks (a : Nat) (w : Word) : (s.setReg a w).banks = s.banks := rfl
@[simp] theorem State.setReg_lev (a : Nat) (w : Word) : (s.setReg a w).lev = s.lev := rfl
@[simp] theorem State.setReg_shp (a : Nat) (w : Word) : (s.setReg a w).shp = s.shp := rfl
@[simp] theorem State.setReg_trims (a : Nat) (w : Word) : (s.setReg a w).trims = s.trims := rfl
@[simp] theorem State.setReg_conv (a : Nat) (w : Word) : (s.setReg a w).conv = s.conv := rfl
@[simp] theorem State.setReg_dacAt (a : Nat) (w : Word) : (s.setReg a w).dacAt = s.dacAt := rfl
@[simp] theorem State.setReg_gates (a : Nat) (w : Word) : (s.setReg a w).gates = s.gates := rfl
@[simp] theorem State.setReg_gatesCut (a : Nat) (w : Word) : (s.setReg a w).gatesCut = s.gatesCut := rfl
@[simp] theorem State.setReg_trigs (a : Nat) (w : Word) : (s.setReg a w).trigs = s.trigs := rfl
@[simp] theorem State.setReg_pwm (a : Nat) (w : Word) : (s.setReg a w).pwm = s.pwm := rfl
@[simp] theorem State.setReg_tripPins (a : Nat) (w : Word) : (s.setReg a w).tripPins = s.tripPins := rfl
@[simp] theorem State.setReg_tmr (a : Nat) (w : Word) : (s.setReg a w).tmr = s.tmr := rfl
@[simp] theorem State.setReg_tioIn (a : Nat) (w : Word) : (s.setReg a w).tioIn = s.tioIn := rfl
@[simp] theorem State.setReg_rnl (a : Nat) (w : Word) : (s.setReg a w).rnl = s.rnl := rfl
@[simp] theorem State.setReg_rioOut (a : Nat) (w : Word) : (s.setReg a w).rioOut = s.rioOut := rfl
@[simp] theorem State.setReg_rioPins (a : Nat) (w : Word) : (s.setReg a w).rioPins = s.rioPins := rfl
@[simp] theorem State.setReg_catch_ (a : Nat) (w : Word) : (s.setReg a w).catch_ = s.catch_ := rfl
@[simp] theorem State.setReg_flume (a : Nat) (w : Word) : (s.setReg a w).flume = s.flume := rfl
@[simp] theorem State.setReg_cores (a : Nat) (w : Word) : (s.setReg a w).cores = s.cores := rfl
@[simp] theorem State.setReg_coreFrame (a : Nat) (w : Word) : (s.setReg a w).coreFrame = s.coreFrame := rfl
@[simp] theorem State.setReg_halves (a : Nat) (w : Word) : (s.setReg a w).halves = s.halves := rfl
@[simp] theorem State.setReg_link (a : Nat) (w : Word) : (s.setReg a w).link = s.link := rfl
@[simp] theorem State.setReg_host (a : Nat) (w : Word) : (s.setReg a w).host = s.host := rfl
@[simp] theorem State.setReg_flash (a : Nat) (w : Word) : (s.setReg a w).flash = s.flash := rfl
@[simp] theorem State.setReg_tap (a : Nat) (w : Word) : (s.setReg a w).tap = s.tap := rfl

@[simp] theorem State.setAct_pending (a : Nat) (w : Word) : (s.setAct a w).pending = s.pending := rfl
@[simp] theorem State.setAct_tick (a : Nat) (w : Word) : (s.setAct a w).tick = s.tick := rfl
@[simp] theorem State.setAct_pt (a : Nat) (w : Word) : (s.setAct a w).pt = s.pt := rfl
@[simp] theorem State.setAct_respData (a : Nat) (w : Word) : (s.setAct a w).respData = s.respData := rfl
@[simp] theorem State.setAct_respErr (a : Nat) (w : Word) : (s.setAct a w).respErr = s.respErr := rfl
@[simp] theorem State.setAct_free (a : Nat) (w : Word) : (s.setAct a w).free = s.free := rfl
@[simp] theorem State.setAct_regs (a : Nat) (w : Word) : (s.setAct a w).regs = s.regs := rfl
@[simp] theorem State.setAct_committed (a : Nat) (w : Word) : (s.setAct a w).committed = s.committed := rfl
@[simp] theorem State.setAct_inFlight (a : Nat) (w : Word) : (s.setAct a w).inFlight = s.inFlight := rfl
@[simp] theorem State.setAct_mem (a : Nat) (w : Word) : (s.setAct a w).mem = s.mem := rfl
@[simp] theorem State.setAct_memErr (a : Nat) (w : Word) : (s.setAct a w).memErr = s.memErr := rfl
@[simp] theorem State.setAct_slotPoison (a : Nat) (w : Word) : (s.setAct a w).slotPoison = s.slotPoison := rfl
@[simp] theorem State.setAct_ptab (a : Nat) (w : Word) : (s.setAct a w).ptab = s.ptab := rfl
@[simp] theorem State.setAct_ptabLo (a : Nat) (w : Word) : (s.setAct a w).ptabLo = s.ptabLo := rfl
@[simp] theorem State.setAct_ptabSnap (a : Nat) (w : Word) : (s.setAct a w).ptabSnap = s.ptabSnap := rfl
@[simp] theorem State.setAct_dev (a : Nat) (w : Word) : (s.setAct a w).dev = s.dev := rfl
@[simp] theorem State.setAct_wheels (a : Nat) (w : Word) : (s.setAct a w).wheels = s.wheels := rfl
@[simp] theorem State.setAct_trk (a : Nat) (w : Word) : (s.setAct a w).trk = s.trk := rfl
@[simp] theorem State.setAct_xchk (a : Nat) (w : Word) : (s.setAct a w).xchk = s.xchk := rfl
@[simp] theorem State.setAct_plan (a : Nat) (w : Word) : (s.setAct a w).plan = s.plan := rfl
@[simp] theorem State.setAct_hdg (a : Nat) (w : Word) : (s.setAct a w).hdg = s.hdg := rfl
@[simp] theorem State.setAct_sys (a : Nat) (w : Word) : (s.setAct a w).sys = s.sys := rfl
@[simp] theorem State.setAct_memc (a : Nat) (w : Word) : (s.setAct a w).memc = s.memc := rfl
@[simp] theorem State.setAct_banks (a : Nat) (w : Word) : (s.setAct a w).banks = s.banks := rfl
@[simp] theorem State.setAct_lev (a : Nat) (w : Word) : (s.setAct a w).lev = s.lev := rfl
@[simp] theorem State.setAct_shp (a : Nat) (w : Word) : (s.setAct a w).shp = s.shp := rfl
@[simp] theorem State.setAct_trims (a : Nat) (w : Word) : (s.setAct a w).trims = s.trims := rfl
@[simp] theorem State.setAct_conv (a : Nat) (w : Word) : (s.setAct a w).conv = s.conv := rfl
@[simp] theorem State.setAct_dacAt (a : Nat) (w : Word) : (s.setAct a w).dacAt = s.dacAt := rfl
@[simp] theorem State.setAct_gates (a : Nat) (w : Word) : (s.setAct a w).gates = s.gates := rfl
@[simp] theorem State.setAct_gatesCut (a : Nat) (w : Word) : (s.setAct a w).gatesCut = s.gatesCut := rfl
@[simp] theorem State.setAct_trigs (a : Nat) (w : Word) : (s.setAct a w).trigs = s.trigs := rfl
@[simp] theorem State.setAct_pwm (a : Nat) (w : Word) : (s.setAct a w).pwm = s.pwm := rfl
@[simp] theorem State.setAct_tripPins (a : Nat) (w : Word) : (s.setAct a w).tripPins = s.tripPins := rfl
@[simp] theorem State.setAct_tmr (a : Nat) (w : Word) : (s.setAct a w).tmr = s.tmr := rfl
@[simp] theorem State.setAct_tioIn (a : Nat) (w : Word) : (s.setAct a w).tioIn = s.tioIn := rfl
@[simp] theorem State.setAct_rnl (a : Nat) (w : Word) : (s.setAct a w).rnl = s.rnl := rfl
@[simp] theorem State.setAct_rioOut (a : Nat) (w : Word) : (s.setAct a w).rioOut = s.rioOut := rfl
@[simp] theorem State.setAct_rioPins (a : Nat) (w : Word) : (s.setAct a w).rioPins = s.rioPins := rfl
@[simp] theorem State.setAct_catch_ (a : Nat) (w : Word) : (s.setAct a w).catch_ = s.catch_ := rfl
@[simp] theorem State.setAct_flume (a : Nat) (w : Word) : (s.setAct a w).flume = s.flume := rfl
@[simp] theorem State.setAct_cores (a : Nat) (w : Word) : (s.setAct a w).cores = s.cores := rfl
@[simp] theorem State.setAct_coreFrame (a : Nat) (w : Word) : (s.setAct a w).coreFrame = s.coreFrame := rfl
@[simp] theorem State.setAct_halves (a : Nat) (w : Word) : (s.setAct a w).halves = s.halves := rfl
@[simp] theorem State.setAct_link (a : Nat) (w : Word) : (s.setAct a w).link = s.link := rfl
@[simp] theorem State.setAct_host (a : Nat) (w : Word) : (s.setAct a w).host = s.host := rfl
@[simp] theorem State.setAct_flash (a : Nat) (w : Word) : (s.setAct a w).flash = s.flash := rfl
@[simp] theorem State.setAct_tap (a : Nat) (w : Word) : (s.setAct a w).tap = s.tap := rfl

@[simp] theorem State.wr_pending (b : Nat) (f : Fld) (v : Nat) : (s.wr b f v).pending = s.pending := rfl
@[simp] theorem State.wr_tick (b : Nat) (f : Fld) (v : Nat) : (s.wr b f v).tick = s.tick := rfl
@[simp] theorem State.wr_pt (b : Nat) (f : Fld) (v : Nat) : (s.wr b f v).pt = s.pt := rfl
@[simp] theorem State.wr_respData (b : Nat) (f : Fld) (v : Nat) : (s.wr b f v).respData = s.respData := rfl
@[simp] theorem State.wr_respErr (b : Nat) (f : Fld) (v : Nat) : (s.wr b f v).respErr = s.respErr := rfl
@[simp] theorem State.wr_free (b : Nat) (f : Fld) (v : Nat) : (s.wr b f v).free = s.free := rfl
@[simp] theorem State.wr_act (b : Nat) (f : Fld) (v : Nat) : (s.wr b f v).act = s.act := rfl
@[simp] theorem State.wr_committed (b : Nat) (f : Fld) (v : Nat) : (s.wr b f v).committed = s.committed := rfl
@[simp] theorem State.wr_inFlight (b : Nat) (f : Fld) (v : Nat) : (s.wr b f v).inFlight = s.inFlight := rfl
@[simp] theorem State.wr_mem (b : Nat) (f : Fld) (v : Nat) : (s.wr b f v).mem = s.mem := rfl
@[simp] theorem State.wr_memErr (b : Nat) (f : Fld) (v : Nat) : (s.wr b f v).memErr = s.memErr := rfl
@[simp] theorem State.wr_slotPoison (b : Nat) (f : Fld) (v : Nat) : (s.wr b f v).slotPoison = s.slotPoison := rfl
@[simp] theorem State.wr_ptab (b : Nat) (f : Fld) (v : Nat) : (s.wr b f v).ptab = s.ptab := rfl
@[simp] theorem State.wr_ptabLo (b : Nat) (f : Fld) (v : Nat) : (s.wr b f v).ptabLo = s.ptabLo := rfl
@[simp] theorem State.wr_ptabSnap (b : Nat) (f : Fld) (v : Nat) : (s.wr b f v).ptabSnap = s.ptabSnap := rfl
@[simp] theorem State.wr_dev (b : Nat) (f : Fld) (v : Nat) : (s.wr b f v).dev = s.dev := rfl
@[simp] theorem State.wr_wheels (b : Nat) (f : Fld) (v : Nat) : (s.wr b f v).wheels = s.wheels := rfl
@[simp] theorem State.wr_trk (b : Nat) (f : Fld) (v : Nat) : (s.wr b f v).trk = s.trk := rfl
@[simp] theorem State.wr_xchk (b : Nat) (f : Fld) (v : Nat) : (s.wr b f v).xchk = s.xchk := rfl
@[simp] theorem State.wr_plan (b : Nat) (f : Fld) (v : Nat) : (s.wr b f v).plan = s.plan := rfl
@[simp] theorem State.wr_hdg (b : Nat) (f : Fld) (v : Nat) : (s.wr b f v).hdg = s.hdg := rfl
@[simp] theorem State.wr_sys (b : Nat) (f : Fld) (v : Nat) : (s.wr b f v).sys = s.sys := rfl
@[simp] theorem State.wr_memc (b : Nat) (f : Fld) (v : Nat) : (s.wr b f v).memc = s.memc := rfl
@[simp] theorem State.wr_banks (b : Nat) (f : Fld) (v : Nat) : (s.wr b f v).banks = s.banks := rfl
@[simp] theorem State.wr_lev (b : Nat) (f : Fld) (v : Nat) : (s.wr b f v).lev = s.lev := rfl
@[simp] theorem State.wr_shp (b : Nat) (f : Fld) (v : Nat) : (s.wr b f v).shp = s.shp := rfl
@[simp] theorem State.wr_trims (b : Nat) (f : Fld) (v : Nat) : (s.wr b f v).trims = s.trims := rfl
@[simp] theorem State.wr_conv (b : Nat) (f : Fld) (v : Nat) : (s.wr b f v).conv = s.conv := rfl
@[simp] theorem State.wr_dacAt (b : Nat) (f : Fld) (v : Nat) : (s.wr b f v).dacAt = s.dacAt := rfl
@[simp] theorem State.wr_gates (b : Nat) (f : Fld) (v : Nat) : (s.wr b f v).gates = s.gates := rfl
@[simp] theorem State.wr_gatesCut (b : Nat) (f : Fld) (v : Nat) : (s.wr b f v).gatesCut = s.gatesCut := rfl
@[simp] theorem State.wr_trigs (b : Nat) (f : Fld) (v : Nat) : (s.wr b f v).trigs = s.trigs := rfl
@[simp] theorem State.wr_pwm (b : Nat) (f : Fld) (v : Nat) : (s.wr b f v).pwm = s.pwm := rfl
@[simp] theorem State.wr_tripPins (b : Nat) (f : Fld) (v : Nat) : (s.wr b f v).tripPins = s.tripPins := rfl
@[simp] theorem State.wr_tmr (b : Nat) (f : Fld) (v : Nat) : (s.wr b f v).tmr = s.tmr := rfl
@[simp] theorem State.wr_tioIn (b : Nat) (f : Fld) (v : Nat) : (s.wr b f v).tioIn = s.tioIn := rfl
@[simp] theorem State.wr_rnl (b : Nat) (f : Fld) (v : Nat) : (s.wr b f v).rnl = s.rnl := rfl
@[simp] theorem State.wr_rioOut (b : Nat) (f : Fld) (v : Nat) : (s.wr b f v).rioOut = s.rioOut := rfl
@[simp] theorem State.wr_rioPins (b : Nat) (f : Fld) (v : Nat) : (s.wr b f v).rioPins = s.rioPins := rfl
@[simp] theorem State.wr_catch_ (b : Nat) (f : Fld) (v : Nat) : (s.wr b f v).catch_ = s.catch_ := rfl
@[simp] theorem State.wr_flume (b : Nat) (f : Fld) (v : Nat) : (s.wr b f v).flume = s.flume := rfl
@[simp] theorem State.wr_cores (b : Nat) (f : Fld) (v : Nat) : (s.wr b f v).cores = s.cores := rfl
@[simp] theorem State.wr_coreFrame (b : Nat) (f : Fld) (v : Nat) : (s.wr b f v).coreFrame = s.coreFrame := rfl
@[simp] theorem State.wr_halves (b : Nat) (f : Fld) (v : Nat) : (s.wr b f v).halves = s.halves := rfl
@[simp] theorem State.wr_link (b : Nat) (f : Fld) (v : Nat) : (s.wr b f v).link = s.link := rfl
@[simp] theorem State.wr_host (b : Nat) (f : Fld) (v : Nat) : (s.wr b f v).host = s.host := rfl
@[simp] theorem State.wr_flash (b : Nat) (f : Fld) (v : Nat) : (s.wr b f v).flash = s.flash := rfl
@[simp] theorem State.wr_tap (b : Nat) (f : Fld) (v : Nat) : (s.wr b f v).tap = s.tap := rfl

@[simp] theorem State.wrBoth_pending (b : Nat) (f : Fld) (v : Nat) : (s.wrBoth b f v).pending = s.pending := rfl
@[simp] theorem State.wrBoth_tick (b : Nat) (f : Fld) (v : Nat) : (s.wrBoth b f v).tick = s.tick := rfl
@[simp] theorem State.wrBoth_pt (b : Nat) (f : Fld) (v : Nat) : (s.wrBoth b f v).pt = s.pt := rfl
@[simp] theorem State.wrBoth_respData (b : Nat) (f : Fld) (v : Nat) : (s.wrBoth b f v).respData = s.respData := rfl
@[simp] theorem State.wrBoth_respErr (b : Nat) (f : Fld) (v : Nat) : (s.wrBoth b f v).respErr = s.respErr := rfl
@[simp] theorem State.wrBoth_free (b : Nat) (f : Fld) (v : Nat) : (s.wrBoth b f v).free = s.free := rfl
@[simp] theorem State.wrBoth_committed (b : Nat) (f : Fld) (v : Nat) : (s.wrBoth b f v).committed = s.committed := rfl
@[simp] theorem State.wrBoth_inFlight (b : Nat) (f : Fld) (v : Nat) : (s.wrBoth b f v).inFlight = s.inFlight := rfl
@[simp] theorem State.wrBoth_mem (b : Nat) (f : Fld) (v : Nat) : (s.wrBoth b f v).mem = s.mem := rfl
@[simp] theorem State.wrBoth_memErr (b : Nat) (f : Fld) (v : Nat) : (s.wrBoth b f v).memErr = s.memErr := rfl
@[simp] theorem State.wrBoth_slotPoison (b : Nat) (f : Fld) (v : Nat) : (s.wrBoth b f v).slotPoison = s.slotPoison := rfl
@[simp] theorem State.wrBoth_ptab (b : Nat) (f : Fld) (v : Nat) : (s.wrBoth b f v).ptab = s.ptab := rfl
@[simp] theorem State.wrBoth_ptabLo (b : Nat) (f : Fld) (v : Nat) : (s.wrBoth b f v).ptabLo = s.ptabLo := rfl
@[simp] theorem State.wrBoth_ptabSnap (b : Nat) (f : Fld) (v : Nat) : (s.wrBoth b f v).ptabSnap = s.ptabSnap := rfl
@[simp] theorem State.wrBoth_dev (b : Nat) (f : Fld) (v : Nat) : (s.wrBoth b f v).dev = s.dev := rfl
@[simp] theorem State.wrBoth_wheels (b : Nat) (f : Fld) (v : Nat) : (s.wrBoth b f v).wheels = s.wheels := rfl
@[simp] theorem State.wrBoth_trk (b : Nat) (f : Fld) (v : Nat) : (s.wrBoth b f v).trk = s.trk := rfl
@[simp] theorem State.wrBoth_xchk (b : Nat) (f : Fld) (v : Nat) : (s.wrBoth b f v).xchk = s.xchk := rfl
@[simp] theorem State.wrBoth_plan (b : Nat) (f : Fld) (v : Nat) : (s.wrBoth b f v).plan = s.plan := rfl
@[simp] theorem State.wrBoth_hdg (b : Nat) (f : Fld) (v : Nat) : (s.wrBoth b f v).hdg = s.hdg := rfl
@[simp] theorem State.wrBoth_sys (b : Nat) (f : Fld) (v : Nat) : (s.wrBoth b f v).sys = s.sys := rfl
@[simp] theorem State.wrBoth_memc (b : Nat) (f : Fld) (v : Nat) : (s.wrBoth b f v).memc = s.memc := rfl
@[simp] theorem State.wrBoth_banks (b : Nat) (f : Fld) (v : Nat) : (s.wrBoth b f v).banks = s.banks := rfl
@[simp] theorem State.wrBoth_lev (b : Nat) (f : Fld) (v : Nat) : (s.wrBoth b f v).lev = s.lev := rfl
@[simp] theorem State.wrBoth_shp (b : Nat) (f : Fld) (v : Nat) : (s.wrBoth b f v).shp = s.shp := rfl
@[simp] theorem State.wrBoth_trims (b : Nat) (f : Fld) (v : Nat) : (s.wrBoth b f v).trims = s.trims := rfl
@[simp] theorem State.wrBoth_conv (b : Nat) (f : Fld) (v : Nat) : (s.wrBoth b f v).conv = s.conv := rfl
@[simp] theorem State.wrBoth_dacAt (b : Nat) (f : Fld) (v : Nat) : (s.wrBoth b f v).dacAt = s.dacAt := rfl
@[simp] theorem State.wrBoth_gates (b : Nat) (f : Fld) (v : Nat) : (s.wrBoth b f v).gates = s.gates := rfl
@[simp] theorem State.wrBoth_gatesCut (b : Nat) (f : Fld) (v : Nat) : (s.wrBoth b f v).gatesCut = s.gatesCut := rfl
@[simp] theorem State.wrBoth_trigs (b : Nat) (f : Fld) (v : Nat) : (s.wrBoth b f v).trigs = s.trigs := rfl
@[simp] theorem State.wrBoth_pwm (b : Nat) (f : Fld) (v : Nat) : (s.wrBoth b f v).pwm = s.pwm := rfl
@[simp] theorem State.wrBoth_tripPins (b : Nat) (f : Fld) (v : Nat) : (s.wrBoth b f v).tripPins = s.tripPins := rfl
@[simp] theorem State.wrBoth_tmr (b : Nat) (f : Fld) (v : Nat) : (s.wrBoth b f v).tmr = s.tmr := rfl
@[simp] theorem State.wrBoth_tioIn (b : Nat) (f : Fld) (v : Nat) : (s.wrBoth b f v).tioIn = s.tioIn := rfl
@[simp] theorem State.wrBoth_rnl (b : Nat) (f : Fld) (v : Nat) : (s.wrBoth b f v).rnl = s.rnl := rfl
@[simp] theorem State.wrBoth_rioOut (b : Nat) (f : Fld) (v : Nat) : (s.wrBoth b f v).rioOut = s.rioOut := rfl
@[simp] theorem State.wrBoth_rioPins (b : Nat) (f : Fld) (v : Nat) : (s.wrBoth b f v).rioPins = s.rioPins := rfl
@[simp] theorem State.wrBoth_catch_ (b : Nat) (f : Fld) (v : Nat) : (s.wrBoth b f v).catch_ = s.catch_ := rfl
@[simp] theorem State.wrBoth_flume (b : Nat) (f : Fld) (v : Nat) : (s.wrBoth b f v).flume = s.flume := rfl
@[simp] theorem State.wrBoth_cores (b : Nat) (f : Fld) (v : Nat) : (s.wrBoth b f v).cores = s.cores := rfl
@[simp] theorem State.wrBoth_coreFrame (b : Nat) (f : Fld) (v : Nat) : (s.wrBoth b f v).coreFrame = s.coreFrame := rfl
@[simp] theorem State.wrBoth_halves (b : Nat) (f : Fld) (v : Nat) : (s.wrBoth b f v).halves = s.halves := rfl
@[simp] theorem State.wrBoth_link (b : Nat) (f : Fld) (v : Nat) : (s.wrBoth b f v).link = s.link := rfl
@[simp] theorem State.wrBoth_host (b : Nat) (f : Fld) (v : Nat) : (s.wrBoth b f v).host = s.host := rfl
@[simp] theorem State.wrBoth_flash (b : Nat) (f : Fld) (v : Nat) : (s.wrBoth b f v).flash = s.flash := rfl
@[simp] theorem State.wrBoth_tap (b : Nat) (f : Fld) (v : Nat) : (s.wrBoth b f v).tap = s.tap := rfl

@[simp] theorem State.bumpBy_pending (b : Nat) (f : Fld) (n : Nat) : (s.bumpBy b f n).pending = s.pending := rfl
@[simp] theorem State.bumpBy_tick (b : Nat) (f : Fld) (n : Nat) : (s.bumpBy b f n).tick = s.tick := rfl
@[simp] theorem State.bumpBy_pt (b : Nat) (f : Fld) (n : Nat) : (s.bumpBy b f n).pt = s.pt := rfl
@[simp] theorem State.bumpBy_respData (b : Nat) (f : Fld) (n : Nat) : (s.bumpBy b f n).respData = s.respData := rfl
@[simp] theorem State.bumpBy_respErr (b : Nat) (f : Fld) (n : Nat) : (s.bumpBy b f n).respErr = s.respErr := rfl
@[simp] theorem State.bumpBy_free (b : Nat) (f : Fld) (n : Nat) : (s.bumpBy b f n).free = s.free := rfl
@[simp] theorem State.bumpBy_act (b : Nat) (f : Fld) (n : Nat) : (s.bumpBy b f n).act = s.act := rfl
@[simp] theorem State.bumpBy_committed (b : Nat) (f : Fld) (n : Nat) : (s.bumpBy b f n).committed = s.committed := rfl
@[simp] theorem State.bumpBy_inFlight (b : Nat) (f : Fld) (n : Nat) : (s.bumpBy b f n).inFlight = s.inFlight := rfl
@[simp] theorem State.bumpBy_mem (b : Nat) (f : Fld) (n : Nat) : (s.bumpBy b f n).mem = s.mem := rfl
@[simp] theorem State.bumpBy_memErr (b : Nat) (f : Fld) (n : Nat) : (s.bumpBy b f n).memErr = s.memErr := rfl
@[simp] theorem State.bumpBy_slotPoison (b : Nat) (f : Fld) (n : Nat) : (s.bumpBy b f n).slotPoison = s.slotPoison := rfl
@[simp] theorem State.bumpBy_ptab (b : Nat) (f : Fld) (n : Nat) : (s.bumpBy b f n).ptab = s.ptab := rfl
@[simp] theorem State.bumpBy_ptabLo (b : Nat) (f : Fld) (n : Nat) : (s.bumpBy b f n).ptabLo = s.ptabLo := rfl
@[simp] theorem State.bumpBy_ptabSnap (b : Nat) (f : Fld) (n : Nat) : (s.bumpBy b f n).ptabSnap = s.ptabSnap := rfl
@[simp] theorem State.bumpBy_dev (b : Nat) (f : Fld) (n : Nat) : (s.bumpBy b f n).dev = s.dev := rfl
@[simp] theorem State.bumpBy_wheels (b : Nat) (f : Fld) (n : Nat) : (s.bumpBy b f n).wheels = s.wheels := rfl
@[simp] theorem State.bumpBy_trk (b : Nat) (f : Fld) (n : Nat) : (s.bumpBy b f n).trk = s.trk := rfl
@[simp] theorem State.bumpBy_xchk (b : Nat) (f : Fld) (n : Nat) : (s.bumpBy b f n).xchk = s.xchk := rfl
@[simp] theorem State.bumpBy_plan (b : Nat) (f : Fld) (n : Nat) : (s.bumpBy b f n).plan = s.plan := rfl
@[simp] theorem State.bumpBy_hdg (b : Nat) (f : Fld) (n : Nat) : (s.bumpBy b f n).hdg = s.hdg := rfl
@[simp] theorem State.bumpBy_sys (b : Nat) (f : Fld) (n : Nat) : (s.bumpBy b f n).sys = s.sys := rfl
@[simp] theorem State.bumpBy_memc (b : Nat) (f : Fld) (n : Nat) : (s.bumpBy b f n).memc = s.memc := rfl
@[simp] theorem State.bumpBy_banks (b : Nat) (f : Fld) (n : Nat) : (s.bumpBy b f n).banks = s.banks := rfl
@[simp] theorem State.bumpBy_lev (b : Nat) (f : Fld) (n : Nat) : (s.bumpBy b f n).lev = s.lev := rfl
@[simp] theorem State.bumpBy_shp (b : Nat) (f : Fld) (n : Nat) : (s.bumpBy b f n).shp = s.shp := rfl
@[simp] theorem State.bumpBy_trims (b : Nat) (f : Fld) (n : Nat) : (s.bumpBy b f n).trims = s.trims := rfl
@[simp] theorem State.bumpBy_conv (b : Nat) (f : Fld) (n : Nat) : (s.bumpBy b f n).conv = s.conv := rfl
@[simp] theorem State.bumpBy_dacAt (b : Nat) (f : Fld) (n : Nat) : (s.bumpBy b f n).dacAt = s.dacAt := rfl
@[simp] theorem State.bumpBy_gates (b : Nat) (f : Fld) (n : Nat) : (s.bumpBy b f n).gates = s.gates := rfl
@[simp] theorem State.bumpBy_gatesCut (b : Nat) (f : Fld) (n : Nat) : (s.bumpBy b f n).gatesCut = s.gatesCut := rfl
@[simp] theorem State.bumpBy_trigs (b : Nat) (f : Fld) (n : Nat) : (s.bumpBy b f n).trigs = s.trigs := rfl
@[simp] theorem State.bumpBy_pwm (b : Nat) (f : Fld) (n : Nat) : (s.bumpBy b f n).pwm = s.pwm := rfl
@[simp] theorem State.bumpBy_tripPins (b : Nat) (f : Fld) (n : Nat) : (s.bumpBy b f n).tripPins = s.tripPins := rfl
@[simp] theorem State.bumpBy_tmr (b : Nat) (f : Fld) (n : Nat) : (s.bumpBy b f n).tmr = s.tmr := rfl
@[simp] theorem State.bumpBy_tioIn (b : Nat) (f : Fld) (n : Nat) : (s.bumpBy b f n).tioIn = s.tioIn := rfl
@[simp] theorem State.bumpBy_rnl (b : Nat) (f : Fld) (n : Nat) : (s.bumpBy b f n).rnl = s.rnl := rfl
@[simp] theorem State.bumpBy_rioOut (b : Nat) (f : Fld) (n : Nat) : (s.bumpBy b f n).rioOut = s.rioOut := rfl
@[simp] theorem State.bumpBy_rioPins (b : Nat) (f : Fld) (n : Nat) : (s.bumpBy b f n).rioPins = s.rioPins := rfl
@[simp] theorem State.bumpBy_catch_ (b : Nat) (f : Fld) (n : Nat) : (s.bumpBy b f n).catch_ = s.catch_ := rfl
@[simp] theorem State.bumpBy_flume (b : Nat) (f : Fld) (n : Nat) : (s.bumpBy b f n).flume = s.flume := rfl
@[simp] theorem State.bumpBy_cores (b : Nat) (f : Fld) (n : Nat) : (s.bumpBy b f n).cores = s.cores := rfl
@[simp] theorem State.bumpBy_coreFrame (b : Nat) (f : Fld) (n : Nat) : (s.bumpBy b f n).coreFrame = s.coreFrame := rfl
@[simp] theorem State.bumpBy_halves (b : Nat) (f : Fld) (n : Nat) : (s.bumpBy b f n).halves = s.halves := rfl
@[simp] theorem State.bumpBy_link (b : Nat) (f : Fld) (n : Nat) : (s.bumpBy b f n).link = s.link := rfl
@[simp] theorem State.bumpBy_host (b : Nat) (f : Fld) (n : Nat) : (s.bumpBy b f n).host = s.host := rfl
@[simp] theorem State.bumpBy_flash (b : Nat) (f : Fld) (n : Nat) : (s.bumpBy b f n).flash = s.flash := rfl
@[simp] theorem State.bumpBy_tap (b : Nat) (f : Fld) (n : Nat) : (s.bumpBy b f n).tap = s.tap := rfl

@[simp] theorem State.bump_pending (b : Nat) (f : Fld) : (s.bump b f).pending = s.pending := rfl
@[simp] theorem State.bump_tick (b : Nat) (f : Fld) : (s.bump b f).tick = s.tick := rfl
@[simp] theorem State.bump_pt (b : Nat) (f : Fld) : (s.bump b f).pt = s.pt := rfl
@[simp] theorem State.bump_respData (b : Nat) (f : Fld) : (s.bump b f).respData = s.respData := rfl
@[simp] theorem State.bump_respErr (b : Nat) (f : Fld) : (s.bump b f).respErr = s.respErr := rfl
@[simp] theorem State.bump_free (b : Nat) (f : Fld) : (s.bump b f).free = s.free := rfl
@[simp] theorem State.bump_act (b : Nat) (f : Fld) : (s.bump b f).act = s.act := rfl
@[simp] theorem State.bump_committed (b : Nat) (f : Fld) : (s.bump b f).committed = s.committed := rfl
@[simp] theorem State.bump_inFlight (b : Nat) (f : Fld) : (s.bump b f).inFlight = s.inFlight := rfl
@[simp] theorem State.bump_mem (b : Nat) (f : Fld) : (s.bump b f).mem = s.mem := rfl
@[simp] theorem State.bump_memErr (b : Nat) (f : Fld) : (s.bump b f).memErr = s.memErr := rfl
@[simp] theorem State.bump_slotPoison (b : Nat) (f : Fld) : (s.bump b f).slotPoison = s.slotPoison := rfl
@[simp] theorem State.bump_ptab (b : Nat) (f : Fld) : (s.bump b f).ptab = s.ptab := rfl
@[simp] theorem State.bump_ptabLo (b : Nat) (f : Fld) : (s.bump b f).ptabLo = s.ptabLo := rfl
@[simp] theorem State.bump_ptabSnap (b : Nat) (f : Fld) : (s.bump b f).ptabSnap = s.ptabSnap := rfl
@[simp] theorem State.bump_dev (b : Nat) (f : Fld) : (s.bump b f).dev = s.dev := rfl
@[simp] theorem State.bump_wheels (b : Nat) (f : Fld) : (s.bump b f).wheels = s.wheels := rfl
@[simp] theorem State.bump_trk (b : Nat) (f : Fld) : (s.bump b f).trk = s.trk := rfl
@[simp] theorem State.bump_xchk (b : Nat) (f : Fld) : (s.bump b f).xchk = s.xchk := rfl
@[simp] theorem State.bump_plan (b : Nat) (f : Fld) : (s.bump b f).plan = s.plan := rfl
@[simp] theorem State.bump_hdg (b : Nat) (f : Fld) : (s.bump b f).hdg = s.hdg := rfl
@[simp] theorem State.bump_sys (b : Nat) (f : Fld) : (s.bump b f).sys = s.sys := rfl
@[simp] theorem State.bump_memc (b : Nat) (f : Fld) : (s.bump b f).memc = s.memc := rfl
@[simp] theorem State.bump_banks (b : Nat) (f : Fld) : (s.bump b f).banks = s.banks := rfl
@[simp] theorem State.bump_lev (b : Nat) (f : Fld) : (s.bump b f).lev = s.lev := rfl
@[simp] theorem State.bump_shp (b : Nat) (f : Fld) : (s.bump b f).shp = s.shp := rfl
@[simp] theorem State.bump_trims (b : Nat) (f : Fld) : (s.bump b f).trims = s.trims := rfl
@[simp] theorem State.bump_conv (b : Nat) (f : Fld) : (s.bump b f).conv = s.conv := rfl
@[simp] theorem State.bump_dacAt (b : Nat) (f : Fld) : (s.bump b f).dacAt = s.dacAt := rfl
@[simp] theorem State.bump_gates (b : Nat) (f : Fld) : (s.bump b f).gates = s.gates := rfl
@[simp] theorem State.bump_gatesCut (b : Nat) (f : Fld) : (s.bump b f).gatesCut = s.gatesCut := rfl
@[simp] theorem State.bump_trigs (b : Nat) (f : Fld) : (s.bump b f).trigs = s.trigs := rfl
@[simp] theorem State.bump_pwm (b : Nat) (f : Fld) : (s.bump b f).pwm = s.pwm := rfl
@[simp] theorem State.bump_tripPins (b : Nat) (f : Fld) : (s.bump b f).tripPins = s.tripPins := rfl
@[simp] theorem State.bump_tmr (b : Nat) (f : Fld) : (s.bump b f).tmr = s.tmr := rfl
@[simp] theorem State.bump_tioIn (b : Nat) (f : Fld) : (s.bump b f).tioIn = s.tioIn := rfl
@[simp] theorem State.bump_rnl (b : Nat) (f : Fld) : (s.bump b f).rnl = s.rnl := rfl
@[simp] theorem State.bump_rioOut (b : Nat) (f : Fld) : (s.bump b f).rioOut = s.rioOut := rfl
@[simp] theorem State.bump_rioPins (b : Nat) (f : Fld) : (s.bump b f).rioPins = s.rioPins := rfl
@[simp] theorem State.bump_catch_ (b : Nat) (f : Fld) : (s.bump b f).catch_ = s.catch_ := rfl
@[simp] theorem State.bump_flume (b : Nat) (f : Fld) : (s.bump b f).flume = s.flume := rfl
@[simp] theorem State.bump_cores (b : Nat) (f : Fld) : (s.bump b f).cores = s.cores := rfl
@[simp] theorem State.bump_coreFrame (b : Nat) (f : Fld) : (s.bump b f).coreFrame = s.coreFrame := rfl
@[simp] theorem State.bump_halves (b : Nat) (f : Fld) : (s.bump b f).halves = s.halves := rfl
@[simp] theorem State.bump_link (b : Nat) (f : Fld) : (s.bump b f).link = s.link := rfl
@[simp] theorem State.bump_host (b : Nat) (f : Fld) : (s.bump b f).host = s.host := rfl
@[simp] theorem State.bump_flash (b : Nat) (f : Fld) : (s.bump b f).flash = s.flash := rfl
@[simp] theorem State.bump_tap (b : Nat) (f : Fld) : (s.bump b f).tap = s.tap := rfl

@[simp] theorem State.bumpWrap_pending (b : Nat) (f : Fld) : (s.bumpWrap b f).pending = s.pending := rfl
@[simp] theorem State.bumpWrap_tick (b : Nat) (f : Fld) : (s.bumpWrap b f).tick = s.tick := rfl
@[simp] theorem State.bumpWrap_pt (b : Nat) (f : Fld) : (s.bumpWrap b f).pt = s.pt := rfl
@[simp] theorem State.bumpWrap_respData (b : Nat) (f : Fld) : (s.bumpWrap b f).respData = s.respData := rfl
@[simp] theorem State.bumpWrap_respErr (b : Nat) (f : Fld) : (s.bumpWrap b f).respErr = s.respErr := rfl
@[simp] theorem State.bumpWrap_free (b : Nat) (f : Fld) : (s.bumpWrap b f).free = s.free := rfl
@[simp] theorem State.bumpWrap_act (b : Nat) (f : Fld) : (s.bumpWrap b f).act = s.act := rfl
@[simp] theorem State.bumpWrap_committed (b : Nat) (f : Fld) : (s.bumpWrap b f).committed = s.committed := rfl
@[simp] theorem State.bumpWrap_inFlight (b : Nat) (f : Fld) : (s.bumpWrap b f).inFlight = s.inFlight := rfl
@[simp] theorem State.bumpWrap_mem (b : Nat) (f : Fld) : (s.bumpWrap b f).mem = s.mem := rfl
@[simp] theorem State.bumpWrap_memErr (b : Nat) (f : Fld) : (s.bumpWrap b f).memErr = s.memErr := rfl
@[simp] theorem State.bumpWrap_slotPoison (b : Nat) (f : Fld) : (s.bumpWrap b f).slotPoison = s.slotPoison := rfl
@[simp] theorem State.bumpWrap_ptab (b : Nat) (f : Fld) : (s.bumpWrap b f).ptab = s.ptab := rfl
@[simp] theorem State.bumpWrap_ptabLo (b : Nat) (f : Fld) : (s.bumpWrap b f).ptabLo = s.ptabLo := rfl
@[simp] theorem State.bumpWrap_ptabSnap (b : Nat) (f : Fld) : (s.bumpWrap b f).ptabSnap = s.ptabSnap := rfl
@[simp] theorem State.bumpWrap_dev (b : Nat) (f : Fld) : (s.bumpWrap b f).dev = s.dev := rfl
@[simp] theorem State.bumpWrap_wheels (b : Nat) (f : Fld) : (s.bumpWrap b f).wheels = s.wheels := rfl
@[simp] theorem State.bumpWrap_trk (b : Nat) (f : Fld) : (s.bumpWrap b f).trk = s.trk := rfl
@[simp] theorem State.bumpWrap_xchk (b : Nat) (f : Fld) : (s.bumpWrap b f).xchk = s.xchk := rfl
@[simp] theorem State.bumpWrap_plan (b : Nat) (f : Fld) : (s.bumpWrap b f).plan = s.plan := rfl
@[simp] theorem State.bumpWrap_hdg (b : Nat) (f : Fld) : (s.bumpWrap b f).hdg = s.hdg := rfl
@[simp] theorem State.bumpWrap_sys (b : Nat) (f : Fld) : (s.bumpWrap b f).sys = s.sys := rfl
@[simp] theorem State.bumpWrap_memc (b : Nat) (f : Fld) : (s.bumpWrap b f).memc = s.memc := rfl
@[simp] theorem State.bumpWrap_banks (b : Nat) (f : Fld) : (s.bumpWrap b f).banks = s.banks := rfl
@[simp] theorem State.bumpWrap_lev (b : Nat) (f : Fld) : (s.bumpWrap b f).lev = s.lev := rfl
@[simp] theorem State.bumpWrap_shp (b : Nat) (f : Fld) : (s.bumpWrap b f).shp = s.shp := rfl
@[simp] theorem State.bumpWrap_trims (b : Nat) (f : Fld) : (s.bumpWrap b f).trims = s.trims := rfl
@[simp] theorem State.bumpWrap_conv (b : Nat) (f : Fld) : (s.bumpWrap b f).conv = s.conv := rfl
@[simp] theorem State.bumpWrap_dacAt (b : Nat) (f : Fld) : (s.bumpWrap b f).dacAt = s.dacAt := rfl
@[simp] theorem State.bumpWrap_gates (b : Nat) (f : Fld) : (s.bumpWrap b f).gates = s.gates := rfl
@[simp] theorem State.bumpWrap_gatesCut (b : Nat) (f : Fld) : (s.bumpWrap b f).gatesCut = s.gatesCut := rfl
@[simp] theorem State.bumpWrap_trigs (b : Nat) (f : Fld) : (s.bumpWrap b f).trigs = s.trigs := rfl
@[simp] theorem State.bumpWrap_pwm (b : Nat) (f : Fld) : (s.bumpWrap b f).pwm = s.pwm := rfl
@[simp] theorem State.bumpWrap_tripPins (b : Nat) (f : Fld) : (s.bumpWrap b f).tripPins = s.tripPins := rfl
@[simp] theorem State.bumpWrap_tmr (b : Nat) (f : Fld) : (s.bumpWrap b f).tmr = s.tmr := rfl
@[simp] theorem State.bumpWrap_tioIn (b : Nat) (f : Fld) : (s.bumpWrap b f).tioIn = s.tioIn := rfl
@[simp] theorem State.bumpWrap_rnl (b : Nat) (f : Fld) : (s.bumpWrap b f).rnl = s.rnl := rfl
@[simp] theorem State.bumpWrap_rioOut (b : Nat) (f : Fld) : (s.bumpWrap b f).rioOut = s.rioOut := rfl
@[simp] theorem State.bumpWrap_rioPins (b : Nat) (f : Fld) : (s.bumpWrap b f).rioPins = s.rioPins := rfl
@[simp] theorem State.bumpWrap_catch_ (b : Nat) (f : Fld) : (s.bumpWrap b f).catch_ = s.catch_ := rfl
@[simp] theorem State.bumpWrap_flume (b : Nat) (f : Fld) : (s.bumpWrap b f).flume = s.flume := rfl
@[simp] theorem State.bumpWrap_cores (b : Nat) (f : Fld) : (s.bumpWrap b f).cores = s.cores := rfl
@[simp] theorem State.bumpWrap_coreFrame (b : Nat) (f : Fld) : (s.bumpWrap b f).coreFrame = s.coreFrame := rfl
@[simp] theorem State.bumpWrap_halves (b : Nat) (f : Fld) : (s.bumpWrap b f).halves = s.halves := rfl
@[simp] theorem State.bumpWrap_link (b : Nat) (f : Fld) : (s.bumpWrap b f).link = s.link := rfl
@[simp] theorem State.bumpWrap_host (b : Nat) (f : Fld) : (s.bumpWrap b f).host = s.host := rfl
@[simp] theorem State.bumpWrap_flash (b : Nat) (f : Fld) : (s.bumpWrap b f).flash = s.flash := rfl
@[simp] theorem State.bumpWrap_tap (b : Nat) (f : Fld) : (s.bumpWrap b f).tap = s.tap := rfl

@[simp] theorem State.err_pending (p : Nat) : (s.err p).pending = s.pending := rfl
@[simp] theorem State.err_tick (p : Nat) : (s.err p).tick = s.tick := rfl
@[simp] theorem State.err_pt (p : Nat) : (s.err p).pt = s.pt := rfl
@[simp] theorem State.err_respData (p : Nat) : (s.err p).respData = s.respData := rfl
@[simp] theorem State.err_respErr (p : Nat) : (s.err p).respErr = s.respErr := rfl
@[simp] theorem State.err_free (p : Nat) : (s.err p).free = s.free := rfl
@[simp] theorem State.err_act (p : Nat) : (s.err p).act = s.act := rfl
@[simp] theorem State.err_committed (p : Nat) : (s.err p).committed = s.committed := rfl
@[simp] theorem State.err_inFlight (p : Nat) : (s.err p).inFlight = s.inFlight := rfl
@[simp] theorem State.err_mem (p : Nat) : (s.err p).mem = s.mem := rfl
@[simp] theorem State.err_memErr (p : Nat) : (s.err p).memErr = s.memErr := rfl
@[simp] theorem State.err_slotPoison (p : Nat) : (s.err p).slotPoison = s.slotPoison := rfl
@[simp] theorem State.err_ptab (p : Nat) : (s.err p).ptab = s.ptab := rfl
@[simp] theorem State.err_ptabLo (p : Nat) : (s.err p).ptabLo = s.ptabLo := rfl
@[simp] theorem State.err_ptabSnap (p : Nat) : (s.err p).ptabSnap = s.ptabSnap := rfl
@[simp] theorem State.err_dev (p : Nat) : (s.err p).dev = s.dev := rfl
@[simp] theorem State.err_wheels (p : Nat) : (s.err p).wheels = s.wheels := rfl
@[simp] theorem State.err_trk (p : Nat) : (s.err p).trk = s.trk := rfl
@[simp] theorem State.err_xchk (p : Nat) : (s.err p).xchk = s.xchk := rfl
@[simp] theorem State.err_plan (p : Nat) : (s.err p).plan = s.plan := rfl
@[simp] theorem State.err_hdg (p : Nat) : (s.err p).hdg = s.hdg := rfl
@[simp] theorem State.err_sys (p : Nat) : (s.err p).sys = s.sys := rfl
@[simp] theorem State.err_memc (p : Nat) : (s.err p).memc = s.memc := rfl
@[simp] theorem State.err_banks (p : Nat) : (s.err p).banks = s.banks := rfl
@[simp] theorem State.err_lev (p : Nat) : (s.err p).lev = s.lev := rfl
@[simp] theorem State.err_shp (p : Nat) : (s.err p).shp = s.shp := rfl
@[simp] theorem State.err_trims (p : Nat) : (s.err p).trims = s.trims := rfl
@[simp] theorem State.err_conv (p : Nat) : (s.err p).conv = s.conv := rfl
@[simp] theorem State.err_dacAt (p : Nat) : (s.err p).dacAt = s.dacAt := rfl
@[simp] theorem State.err_gates (p : Nat) : (s.err p).gates = s.gates := rfl
@[simp] theorem State.err_gatesCut (p : Nat) : (s.err p).gatesCut = s.gatesCut := rfl
@[simp] theorem State.err_trigs (p : Nat) : (s.err p).trigs = s.trigs := rfl
@[simp] theorem State.err_pwm (p : Nat) : (s.err p).pwm = s.pwm := rfl
@[simp] theorem State.err_tripPins (p : Nat) : (s.err p).tripPins = s.tripPins := rfl
@[simp] theorem State.err_tmr (p : Nat) : (s.err p).tmr = s.tmr := rfl
@[simp] theorem State.err_tioIn (p : Nat) : (s.err p).tioIn = s.tioIn := rfl
@[simp] theorem State.err_rnl (p : Nat) : (s.err p).rnl = s.rnl := rfl
@[simp] theorem State.err_rioOut (p : Nat) : (s.err p).rioOut = s.rioOut := rfl
@[simp] theorem State.err_rioPins (p : Nat) : (s.err p).rioPins = s.rioPins := rfl
@[simp] theorem State.err_catch_ (p : Nat) : (s.err p).catch_ = s.catch_ := rfl
@[simp] theorem State.err_flume (p : Nat) : (s.err p).flume = s.flume := rfl
@[simp] theorem State.err_cores (p : Nat) : (s.err p).cores = s.cores := rfl
@[simp] theorem State.err_coreFrame (p : Nat) : (s.err p).coreFrame = s.coreFrame := rfl
@[simp] theorem State.err_halves (p : Nat) : (s.err p).halves = s.halves := rfl
@[simp] theorem State.err_link (p : Nat) : (s.err p).link = s.link := rfl
@[simp] theorem State.err_host (p : Nat) : (s.err p).host = s.host := rfl
@[simp] theorem State.err_flash (p : Nat) : (s.err p).flash = s.flash := rfl
@[simp] theorem State.err_tap (p : Nat) : (s.err p).tap = s.tap := rfl

@[simp] theorem State.setRaw_pending (n : Nat) : (s.setRaw n).pending = s.pending := by unfold State.setRaw; split <;> rfl
@[simp] theorem State.setRaw_tick (n : Nat) : (s.setRaw n).tick = s.tick := by unfold State.setRaw; split <;> rfl
@[simp] theorem State.setRaw_pt (n : Nat) : (s.setRaw n).pt = s.pt := by unfold State.setRaw; split <;> rfl
@[simp] theorem State.setRaw_respData (n : Nat) : (s.setRaw n).respData = s.respData := by unfold State.setRaw; split <;> rfl
@[simp] theorem State.setRaw_respErr (n : Nat) : (s.setRaw n).respErr = s.respErr := by unfold State.setRaw; split <;> rfl
@[simp] theorem State.setRaw_free (n : Nat) : (s.setRaw n).free = s.free := by unfold State.setRaw; split <;> rfl
@[simp] theorem State.setRaw_act (n : Nat) : (s.setRaw n).act = s.act := by unfold State.setRaw; split <;> rfl
@[simp] theorem State.setRaw_committed (n : Nat) : (s.setRaw n).committed = s.committed := by unfold State.setRaw; split <;> rfl
@[simp] theorem State.setRaw_inFlight (n : Nat) : (s.setRaw n).inFlight = s.inFlight := by unfold State.setRaw; split <;> rfl
@[simp] theorem State.setRaw_mem (n : Nat) : (s.setRaw n).mem = s.mem := by unfold State.setRaw; split <;> rfl
@[simp] theorem State.setRaw_memErr (n : Nat) : (s.setRaw n).memErr = s.memErr := by unfold State.setRaw; split <;> rfl
@[simp] theorem State.setRaw_slotPoison (n : Nat) : (s.setRaw n).slotPoison = s.slotPoison := by unfold State.setRaw; split <;> rfl
@[simp] theorem State.setRaw_ptab (n : Nat) : (s.setRaw n).ptab = s.ptab := by unfold State.setRaw; split <;> rfl
@[simp] theorem State.setRaw_ptabLo (n : Nat) : (s.setRaw n).ptabLo = s.ptabLo := by unfold State.setRaw; split <;> rfl
@[simp] theorem State.setRaw_ptabSnap (n : Nat) : (s.setRaw n).ptabSnap = s.ptabSnap := by unfold State.setRaw; split <;> rfl
@[simp] theorem State.setRaw_dev (n : Nat) : (s.setRaw n).dev = s.dev := by unfold State.setRaw; split <;> rfl
@[simp] theorem State.setRaw_wheels (n : Nat) : (s.setRaw n).wheels = s.wheels := by unfold State.setRaw; split <;> rfl
@[simp] theorem State.setRaw_trk (n : Nat) : (s.setRaw n).trk = s.trk := by unfold State.setRaw; split <;> rfl
@[simp] theorem State.setRaw_xchk (n : Nat) : (s.setRaw n).xchk = s.xchk := by unfold State.setRaw; split <;> rfl
@[simp] theorem State.setRaw_plan (n : Nat) : (s.setRaw n).plan = s.plan := by unfold State.setRaw; split <;> rfl
@[simp] theorem State.setRaw_hdg (n : Nat) : (s.setRaw n).hdg = s.hdg := by unfold State.setRaw; split <;> rfl
@[simp] theorem State.setRaw_sys (n : Nat) : (s.setRaw n).sys = s.sys := by unfold State.setRaw; split <;> rfl
@[simp] theorem State.setRaw_memc (n : Nat) : (s.setRaw n).memc = s.memc := by unfold State.setRaw; split <;> rfl
@[simp] theorem State.setRaw_banks (n : Nat) : (s.setRaw n).banks = s.banks := by unfold State.setRaw; split <;> rfl
@[simp] theorem State.setRaw_lev (n : Nat) : (s.setRaw n).lev = s.lev := by unfold State.setRaw; split <;> rfl
@[simp] theorem State.setRaw_shp (n : Nat) : (s.setRaw n).shp = s.shp := by unfold State.setRaw; split <;> rfl
@[simp] theorem State.setRaw_trims (n : Nat) : (s.setRaw n).trims = s.trims := by unfold State.setRaw; split <;> rfl
@[simp] theorem State.setRaw_conv (n : Nat) : (s.setRaw n).conv = s.conv := by unfold State.setRaw; split <;> rfl
@[simp] theorem State.setRaw_dacAt (n : Nat) : (s.setRaw n).dacAt = s.dacAt := by unfold State.setRaw; split <;> rfl
@[simp] theorem State.setRaw_gates (n : Nat) : (s.setRaw n).gates = s.gates := by unfold State.setRaw; split <;> rfl
@[simp] theorem State.setRaw_gatesCut (n : Nat) : (s.setRaw n).gatesCut = s.gatesCut := by unfold State.setRaw; split <;> rfl
@[simp] theorem State.setRaw_trigs (n : Nat) : (s.setRaw n).trigs = s.trigs := by unfold State.setRaw; split <;> rfl
@[simp] theorem State.setRaw_pwm (n : Nat) : (s.setRaw n).pwm = s.pwm := by unfold State.setRaw; split <;> rfl
@[simp] theorem State.setRaw_tripPins (n : Nat) : (s.setRaw n).tripPins = s.tripPins := by unfold State.setRaw; split <;> rfl
@[simp] theorem State.setRaw_tmr (n : Nat) : (s.setRaw n).tmr = s.tmr := by unfold State.setRaw; split <;> rfl
@[simp] theorem State.setRaw_tioIn (n : Nat) : (s.setRaw n).tioIn = s.tioIn := by unfold State.setRaw; split <;> rfl
@[simp] theorem State.setRaw_rnl (n : Nat) : (s.setRaw n).rnl = s.rnl := by unfold State.setRaw; split <;> rfl
@[simp] theorem State.setRaw_rioOut (n : Nat) : (s.setRaw n).rioOut = s.rioOut := by unfold State.setRaw; split <;> rfl
@[simp] theorem State.setRaw_rioPins (n : Nat) : (s.setRaw n).rioPins = s.rioPins := by unfold State.setRaw; split <;> rfl
@[simp] theorem State.setRaw_catch_ (n : Nat) : (s.setRaw n).catch_ = s.catch_ := by unfold State.setRaw; split <;> rfl
@[simp] theorem State.setRaw_flume (n : Nat) : (s.setRaw n).flume = s.flume := by unfold State.setRaw; split <;> rfl
@[simp] theorem State.setRaw_cores (n : Nat) : (s.setRaw n).cores = s.cores := by unfold State.setRaw; split <;> rfl
@[simp] theorem State.setRaw_coreFrame (n : Nat) : (s.setRaw n).coreFrame = s.coreFrame := by unfold State.setRaw; split <;> rfl
@[simp] theorem State.setRaw_halves (n : Nat) : (s.setRaw n).halves = s.halves := by unfold State.setRaw; split <;> rfl
@[simp] theorem State.setRaw_link (n : Nat) : (s.setRaw n).link = s.link := by unfold State.setRaw; split <;> rfl
@[simp] theorem State.setRaw_host (n : Nat) : (s.setRaw n).host = s.host := by unfold State.setRaw; split <;> rfl
@[simp] theorem State.setRaw_flash (n : Nat) : (s.setRaw n).flash = s.flash := by unfold State.setRaw; split <;> rfl
@[simp] theorem State.setRaw_tap (n : Nat) : (s.setRaw n).tap = s.tap := by unfold State.setRaw; split <;> rfl

@[simp] theorem State.sendEvt_pending (n : Nat) : (s.sendEvt n).pending = s.pending := by unfold State.sendEvt; split <;> rfl
@[simp] theorem State.sendEvt_tick (n : Nat) : (s.sendEvt n).tick = s.tick := by unfold State.sendEvt; split <;> rfl
@[simp] theorem State.sendEvt_pt (n : Nat) : (s.sendEvt n).pt = s.pt := by unfold State.sendEvt; split <;> rfl
@[simp] theorem State.sendEvt_respData (n : Nat) : (s.sendEvt n).respData = s.respData := by unfold State.sendEvt; split <;> rfl
@[simp] theorem State.sendEvt_respErr (n : Nat) : (s.sendEvt n).respErr = s.respErr := by unfold State.sendEvt; split <;> rfl
@[simp] theorem State.sendEvt_free (n : Nat) : (s.sendEvt n).free = s.free := by unfold State.sendEvt; split <;> rfl
@[simp] theorem State.sendEvt_regs (n : Nat) : (s.sendEvt n).regs = s.regs := by unfold State.sendEvt; split <;> rfl
@[simp] theorem State.sendEvt_act (n : Nat) : (s.sendEvt n).act = s.act := by unfold State.sendEvt; split <;> rfl
@[simp] theorem State.sendEvt_committed (n : Nat) : (s.sendEvt n).committed = s.committed := by unfold State.sendEvt; split <;> rfl
@[simp] theorem State.sendEvt_mem (n : Nat) : (s.sendEvt n).mem = s.mem := by unfold State.sendEvt; split <;> rfl
@[simp] theorem State.sendEvt_memErr (n : Nat) : (s.sendEvt n).memErr = s.memErr := by unfold State.sendEvt; split <;> rfl
@[simp] theorem State.sendEvt_slotPoison (n : Nat) : (s.sendEvt n).slotPoison = s.slotPoison := by unfold State.sendEvt; split <;> rfl
@[simp] theorem State.sendEvt_ptab (n : Nat) : (s.sendEvt n).ptab = s.ptab := by unfold State.sendEvt; split <;> rfl
@[simp] theorem State.sendEvt_ptabLo (n : Nat) : (s.sendEvt n).ptabLo = s.ptabLo := by unfold State.sendEvt; split <;> rfl
@[simp] theorem State.sendEvt_ptabSnap (n : Nat) : (s.sendEvt n).ptabSnap = s.ptabSnap := by unfold State.sendEvt; split <;> rfl
@[simp] theorem State.sendEvt_dev (n : Nat) : (s.sendEvt n).dev = s.dev := by unfold State.sendEvt; split <;> rfl
@[simp] theorem State.sendEvt_wheels (n : Nat) : (s.sendEvt n).wheels = s.wheels := by unfold State.sendEvt; split <;> rfl
@[simp] theorem State.sendEvt_trk (n : Nat) : (s.sendEvt n).trk = s.trk := by unfold State.sendEvt; split <;> rfl
@[simp] theorem State.sendEvt_xchk (n : Nat) : (s.sendEvt n).xchk = s.xchk := by unfold State.sendEvt; split <;> rfl
@[simp] theorem State.sendEvt_plan (n : Nat) : (s.sendEvt n).plan = s.plan := by unfold State.sendEvt; split <;> rfl
@[simp] theorem State.sendEvt_hdg (n : Nat) : (s.sendEvt n).hdg = s.hdg := by unfold State.sendEvt; split <;> rfl
@[simp] theorem State.sendEvt_sys (n : Nat) : (s.sendEvt n).sys = s.sys := by unfold State.sendEvt; split <;> rfl
@[simp] theorem State.sendEvt_memc (n : Nat) : (s.sendEvt n).memc = s.memc := by unfold State.sendEvt; split <;> rfl
@[simp] theorem State.sendEvt_banks (n : Nat) : (s.sendEvt n).banks = s.banks := by unfold State.sendEvt; split <;> rfl
@[simp] theorem State.sendEvt_lev (n : Nat) : (s.sendEvt n).lev = s.lev := by unfold State.sendEvt; split <;> rfl
@[simp] theorem State.sendEvt_shp (n : Nat) : (s.sendEvt n).shp = s.shp := by unfold State.sendEvt; split <;> rfl
@[simp] theorem State.sendEvt_trims (n : Nat) : (s.sendEvt n).trims = s.trims := by unfold State.sendEvt; split <;> rfl
@[simp] theorem State.sendEvt_conv (n : Nat) : (s.sendEvt n).conv = s.conv := by unfold State.sendEvt; split <;> rfl
@[simp] theorem State.sendEvt_dacAt (n : Nat) : (s.sendEvt n).dacAt = s.dacAt := by unfold State.sendEvt; split <;> rfl
@[simp] theorem State.sendEvt_gates (n : Nat) : (s.sendEvt n).gates = s.gates := by unfold State.sendEvt; split <;> rfl
@[simp] theorem State.sendEvt_gatesCut (n : Nat) : (s.sendEvt n).gatesCut = s.gatesCut := by unfold State.sendEvt; split <;> rfl
@[simp] theorem State.sendEvt_trigs (n : Nat) : (s.sendEvt n).trigs = s.trigs := by unfold State.sendEvt; split <;> rfl
@[simp] theorem State.sendEvt_pwm (n : Nat) : (s.sendEvt n).pwm = s.pwm := by unfold State.sendEvt; split <;> rfl
@[simp] theorem State.sendEvt_tripPins (n : Nat) : (s.sendEvt n).tripPins = s.tripPins := by unfold State.sendEvt; split <;> rfl
@[simp] theorem State.sendEvt_tmr (n : Nat) : (s.sendEvt n).tmr = s.tmr := by unfold State.sendEvt; split <;> rfl
@[simp] theorem State.sendEvt_tioIn (n : Nat) : (s.sendEvt n).tioIn = s.tioIn := by unfold State.sendEvt; split <;> rfl
@[simp] theorem State.sendEvt_rnl (n : Nat) : (s.sendEvt n).rnl = s.rnl := by unfold State.sendEvt; split <;> rfl
@[simp] theorem State.sendEvt_rioOut (n : Nat) : (s.sendEvt n).rioOut = s.rioOut := by unfold State.sendEvt; split <;> rfl
@[simp] theorem State.sendEvt_rioPins (n : Nat) : (s.sendEvt n).rioPins = s.rioPins := by unfold State.sendEvt; split <;> rfl
@[simp] theorem State.sendEvt_catch_ (n : Nat) : (s.sendEvt n).catch_ = s.catch_ := by unfold State.sendEvt; split <;> rfl
@[simp] theorem State.sendEvt_flume (n : Nat) : (s.sendEvt n).flume = s.flume := by unfold State.sendEvt; split <;> rfl
@[simp] theorem State.sendEvt_cores (n : Nat) : (s.sendEvt n).cores = s.cores := by unfold State.sendEvt; split <;> rfl
@[simp] theorem State.sendEvt_coreFrame (n : Nat) : (s.sendEvt n).coreFrame = s.coreFrame := by unfold State.sendEvt; split <;> rfl
@[simp] theorem State.sendEvt_halves (n : Nat) : (s.sendEvt n).halves = s.halves := by unfold State.sendEvt; split <;> rfl
@[simp] theorem State.sendEvt_link (n : Nat) : (s.sendEvt n).link = s.link := by unfold State.sendEvt; split <;> rfl
@[simp] theorem State.sendEvt_host (n : Nat) : (s.sendEvt n).host = s.host := by unfold State.sendEvt; split <;> rfl
@[simp] theorem State.sendEvt_flash (n : Nat) : (s.sendEvt n).flash = s.flash := by unfold State.sendEvt; split <;> rfl
@[simp] theorem State.sendEvt_tap (n : Nat) : (s.sendEvt n).tap = s.tap := by unfold State.sendEvt; split <;> rfl

@[simp] theorem State.brkSource_pending (n : Nat) : (s.brkSource n).pending = s.pending := by unfold State.brkSource; split <;> rfl
@[simp] theorem State.brkSource_tick (n : Nat) : (s.brkSource n).tick = s.tick := by unfold State.brkSource; split <;> rfl
@[simp] theorem State.brkSource_pt (n : Nat) : (s.brkSource n).pt = s.pt := by unfold State.brkSource; split <;> rfl
@[simp] theorem State.brkSource_respData (n : Nat) : (s.brkSource n).respData = s.respData := by unfold State.brkSource; split <;> rfl
@[simp] theorem State.brkSource_respErr (n : Nat) : (s.brkSource n).respErr = s.respErr := by unfold State.brkSource; split <;> rfl
@[simp] theorem State.brkSource_free (n : Nat) : (s.brkSource n).free = s.free := by unfold State.brkSource; split <;> rfl
@[simp] theorem State.brkSource_regs (n : Nat) : (s.brkSource n).regs = s.regs := by unfold State.brkSource; split <;> rfl
@[simp] theorem State.brkSource_act (n : Nat) : (s.brkSource n).act = s.act := by unfold State.brkSource; split <;> rfl
@[simp] theorem State.brkSource_committed (n : Nat) : (s.brkSource n).committed = s.committed := by unfold State.brkSource; split <;> rfl
@[simp] theorem State.brkSource_inFlight (n : Nat) : (s.brkSource n).inFlight = s.inFlight := by unfold State.brkSource; split <;> rfl
@[simp] theorem State.brkSource_mem (n : Nat) : (s.brkSource n).mem = s.mem := by unfold State.brkSource; split <;> rfl
@[simp] theorem State.brkSource_memErr (n : Nat) : (s.brkSource n).memErr = s.memErr := by unfold State.brkSource; split <;> rfl
@[simp] theorem State.brkSource_slotPoison (n : Nat) : (s.brkSource n).slotPoison = s.slotPoison := by unfold State.brkSource; split <;> rfl
@[simp] theorem State.brkSource_ptab (n : Nat) : (s.brkSource n).ptab = s.ptab := by unfold State.brkSource; split <;> rfl
@[simp] theorem State.brkSource_ptabLo (n : Nat) : (s.brkSource n).ptabLo = s.ptabLo := by unfold State.brkSource; split <;> rfl
@[simp] theorem State.brkSource_ptabSnap (n : Nat) : (s.brkSource n).ptabSnap = s.ptabSnap := by unfold State.brkSource; split <;> rfl
@[simp] theorem State.brkSource_dev (n : Nat) : (s.brkSource n).dev = s.dev := by unfold State.brkSource; split <;> rfl
@[simp] theorem State.brkSource_wheels (n : Nat) : (s.brkSource n).wheels = s.wheels := by unfold State.brkSource; split <;> rfl
@[simp] theorem State.brkSource_trk (n : Nat) : (s.brkSource n).trk = s.trk := by unfold State.brkSource; split <;> rfl
@[simp] theorem State.brkSource_xchk (n : Nat) : (s.brkSource n).xchk = s.xchk := by unfold State.brkSource; split <;> rfl
@[simp] theorem State.brkSource_plan (n : Nat) : (s.brkSource n).plan = s.plan := by unfold State.brkSource; split <;> rfl
@[simp] theorem State.brkSource_hdg (n : Nat) : (s.brkSource n).hdg = s.hdg := by unfold State.brkSource; split <;> rfl
@[simp] theorem State.brkSource_memc (n : Nat) : (s.brkSource n).memc = s.memc := by unfold State.brkSource; split <;> rfl
@[simp] theorem State.brkSource_banks (n : Nat) : (s.brkSource n).banks = s.banks := by unfold State.brkSource; split <;> rfl
@[simp] theorem State.brkSource_lev (n : Nat) : (s.brkSource n).lev = s.lev := by unfold State.brkSource; split <;> rfl
@[simp] theorem State.brkSource_shp (n : Nat) : (s.brkSource n).shp = s.shp := by unfold State.brkSource; split <;> rfl
@[simp] theorem State.brkSource_trims (n : Nat) : (s.brkSource n).trims = s.trims := by unfold State.brkSource; split <;> rfl
@[simp] theorem State.brkSource_conv (n : Nat) : (s.brkSource n).conv = s.conv := by unfold State.brkSource; split <;> rfl
@[simp] theorem State.brkSource_dacAt (n : Nat) : (s.brkSource n).dacAt = s.dacAt := by unfold State.brkSource; split <;> rfl
@[simp] theorem State.brkSource_gates (n : Nat) : (s.brkSource n).gates = s.gates := by unfold State.brkSource; split <;> rfl
@[simp] theorem State.brkSource_gatesCut (n : Nat) : (s.brkSource n).gatesCut = s.gatesCut := by unfold State.brkSource; split <;> rfl
@[simp] theorem State.brkSource_trigs (n : Nat) : (s.brkSource n).trigs = s.trigs := by unfold State.brkSource; split <;> rfl
@[simp] theorem State.brkSource_pwm (n : Nat) : (s.brkSource n).pwm = s.pwm := by unfold State.brkSource; split <;> rfl
@[simp] theorem State.brkSource_tripPins (n : Nat) : (s.brkSource n).tripPins = s.tripPins := by unfold State.brkSource; split <;> rfl
@[simp] theorem State.brkSource_tmr (n : Nat) : (s.brkSource n).tmr = s.tmr := by unfold State.brkSource; split <;> rfl
@[simp] theorem State.brkSource_tioIn (n : Nat) : (s.brkSource n).tioIn = s.tioIn := by unfold State.brkSource; split <;> rfl
@[simp] theorem State.brkSource_rnl (n : Nat) : (s.brkSource n).rnl = s.rnl := by unfold State.brkSource; split <;> rfl
@[simp] theorem State.brkSource_rioOut (n : Nat) : (s.brkSource n).rioOut = s.rioOut := by unfold State.brkSource; split <;> rfl
@[simp] theorem State.brkSource_rioPins (n : Nat) : (s.brkSource n).rioPins = s.rioPins := by unfold State.brkSource; split <;> rfl
@[simp] theorem State.brkSource_catch_ (n : Nat) : (s.brkSource n).catch_ = s.catch_ := by unfold State.brkSource; split <;> rfl
@[simp] theorem State.brkSource_flume (n : Nat) : (s.brkSource n).flume = s.flume := by unfold State.brkSource; split <;> rfl
@[simp] theorem State.brkSource_cores (n : Nat) : (s.brkSource n).cores = s.cores := by unfold State.brkSource; split <;> rfl
@[simp] theorem State.brkSource_coreFrame (n : Nat) : (s.brkSource n).coreFrame = s.coreFrame := by unfold State.brkSource; split <;> rfl
@[simp] theorem State.brkSource_halves (n : Nat) : (s.brkSource n).halves = s.halves := by unfold State.brkSource; split <;> rfl
@[simp] theorem State.brkSource_link (n : Nat) : (s.brkSource n).link = s.link := by unfold State.brkSource; split <;> rfl
@[simp] theorem State.brkSource_host (n : Nat) : (s.brkSource n).host = s.host := by unfold State.brkSource; split <;> rfl
@[simp] theorem State.brkSource_flash (n : Nat) : (s.brkSource n).flash = s.flash := by unfold State.brkSource; split <;> rfl
@[simp] theorem State.brkSource_tap (n : Nat) : (s.brkSource n).tap = s.tap := by unfold State.brkSource; split <;> rfl

@[simp] theorem State.raise_pending (n : Nat) : (s.raise n).pending = s.pending := by simp [State.raise]
@[simp] theorem State.raise_tick (n : Nat) : (s.raise n).tick = s.tick := by simp [State.raise]
@[simp] theorem State.raise_pt (n : Nat) : (s.raise n).pt = s.pt := by simp [State.raise]
@[simp] theorem State.raise_respData (n : Nat) : (s.raise n).respData = s.respData := by simp [State.raise]
@[simp] theorem State.raise_respErr (n : Nat) : (s.raise n).respErr = s.respErr := by simp [State.raise]
@[simp] theorem State.raise_free (n : Nat) : (s.raise n).free = s.free := by simp [State.raise]
@[simp] theorem State.raise_act (n : Nat) : (s.raise n).act = s.act := by simp [State.raise]
@[simp] theorem State.raise_committed (n : Nat) : (s.raise n).committed = s.committed := by simp [State.raise]
@[simp] theorem State.raise_mem (n : Nat) : (s.raise n).mem = s.mem := by simp [State.raise]
@[simp] theorem State.raise_memErr (n : Nat) : (s.raise n).memErr = s.memErr := by simp [State.raise]
@[simp] theorem State.raise_slotPoison (n : Nat) : (s.raise n).slotPoison = s.slotPoison := by simp [State.raise]
@[simp] theorem State.raise_ptab (n : Nat) : (s.raise n).ptab = s.ptab := by simp [State.raise]
@[simp] theorem State.raise_ptabLo (n : Nat) : (s.raise n).ptabLo = s.ptabLo := by simp [State.raise]
@[simp] theorem State.raise_ptabSnap (n : Nat) : (s.raise n).ptabSnap = s.ptabSnap := by simp [State.raise]
@[simp] theorem State.raise_dev (n : Nat) : (s.raise n).dev = s.dev := by simp [State.raise]
@[simp] theorem State.raise_wheels (n : Nat) : (s.raise n).wheels = s.wheels := by simp [State.raise]
@[simp] theorem State.raise_trk (n : Nat) : (s.raise n).trk = s.trk := by simp [State.raise]
@[simp] theorem State.raise_xchk (n : Nat) : (s.raise n).xchk = s.xchk := by simp [State.raise]
@[simp] theorem State.raise_plan (n : Nat) : (s.raise n).plan = s.plan := by simp [State.raise]
@[simp] theorem State.raise_hdg (n : Nat) : (s.raise n).hdg = s.hdg := by simp [State.raise]
@[simp] theorem State.raise_memc (n : Nat) : (s.raise n).memc = s.memc := by simp [State.raise]
@[simp] theorem State.raise_banks (n : Nat) : (s.raise n).banks = s.banks := by simp [State.raise]
@[simp] theorem State.raise_lev (n : Nat) : (s.raise n).lev = s.lev := by simp [State.raise]
@[simp] theorem State.raise_shp (n : Nat) : (s.raise n).shp = s.shp := by simp [State.raise]
@[simp] theorem State.raise_trims (n : Nat) : (s.raise n).trims = s.trims := by simp [State.raise]
@[simp] theorem State.raise_conv (n : Nat) : (s.raise n).conv = s.conv := by simp [State.raise]
@[simp] theorem State.raise_dacAt (n : Nat) : (s.raise n).dacAt = s.dacAt := by simp [State.raise]
@[simp] theorem State.raise_gates (n : Nat) : (s.raise n).gates = s.gates := by simp [State.raise]
@[simp] theorem State.raise_gatesCut (n : Nat) : (s.raise n).gatesCut = s.gatesCut := by simp [State.raise]
@[simp] theorem State.raise_trigs (n : Nat) : (s.raise n).trigs = s.trigs := by simp [State.raise]
@[simp] theorem State.raise_pwm (n : Nat) : (s.raise n).pwm = s.pwm := by simp [State.raise]
@[simp] theorem State.raise_tripPins (n : Nat) : (s.raise n).tripPins = s.tripPins := by simp [State.raise]
@[simp] theorem State.raise_tmr (n : Nat) : (s.raise n).tmr = s.tmr := by simp [State.raise]
@[simp] theorem State.raise_tioIn (n : Nat) : (s.raise n).tioIn = s.tioIn := by simp [State.raise]
@[simp] theorem State.raise_rnl (n : Nat) : (s.raise n).rnl = s.rnl := by simp [State.raise]
@[simp] theorem State.raise_rioOut (n : Nat) : (s.raise n).rioOut = s.rioOut := by simp [State.raise]
@[simp] theorem State.raise_rioPins (n : Nat) : (s.raise n).rioPins = s.rioPins := by simp [State.raise]
@[simp] theorem State.raise_catch_ (n : Nat) : (s.raise n).catch_ = s.catch_ := by simp [State.raise]
@[simp] theorem State.raise_flume (n : Nat) : (s.raise n).flume = s.flume := by simp [State.raise]
@[simp] theorem State.raise_cores (n : Nat) : (s.raise n).cores = s.cores := by simp [State.raise]
@[simp] theorem State.raise_coreFrame (n : Nat) : (s.raise n).coreFrame = s.coreFrame := by simp [State.raise]
@[simp] theorem State.raise_halves (n : Nat) : (s.raise n).halves = s.halves := by simp [State.raise]
@[simp] theorem State.raise_link (n : Nat) : (s.raise n).link = s.link := by simp [State.raise]
@[simp] theorem State.raise_host (n : Nat) : (s.raise n).host = s.host := by simp [State.raise]
@[simp] theorem State.raise_flash (n : Nat) : (s.raise n).flash = s.flash := by simp [State.raise]
@[simp] theorem State.raise_tap (n : Nat) : (s.raise n).tap = s.tap := by simp [State.raise]

@[simp] theorem State.raiseIf_pending (c : Bool) (n : Nat) : (s.raiseIf c n).pending = s.pending := by unfold State.raiseIf; split <;> simp
@[simp] theorem State.raiseIf_tick (c : Bool) (n : Nat) : (s.raiseIf c n).tick = s.tick := by unfold State.raiseIf; split <;> simp
@[simp] theorem State.raiseIf_pt (c : Bool) (n : Nat) : (s.raiseIf c n).pt = s.pt := by unfold State.raiseIf; split <;> simp
@[simp] theorem State.raiseIf_respData (c : Bool) (n : Nat) : (s.raiseIf c n).respData = s.respData := by unfold State.raiseIf; split <;> simp
@[simp] theorem State.raiseIf_respErr (c : Bool) (n : Nat) : (s.raiseIf c n).respErr = s.respErr := by unfold State.raiseIf; split <;> simp
@[simp] theorem State.raiseIf_free (c : Bool) (n : Nat) : (s.raiseIf c n).free = s.free := by unfold State.raiseIf; split <;> simp
@[simp] theorem State.raiseIf_act (c : Bool) (n : Nat) : (s.raiseIf c n).act = s.act := by unfold State.raiseIf; split <;> simp
@[simp] theorem State.raiseIf_committed (c : Bool) (n : Nat) : (s.raiseIf c n).committed = s.committed := by unfold State.raiseIf; split <;> simp
@[simp] theorem State.raiseIf_mem (c : Bool) (n : Nat) : (s.raiseIf c n).mem = s.mem := by unfold State.raiseIf; split <;> simp
@[simp] theorem State.raiseIf_memErr (c : Bool) (n : Nat) : (s.raiseIf c n).memErr = s.memErr := by unfold State.raiseIf; split <;> simp
@[simp] theorem State.raiseIf_slotPoison (c : Bool) (n : Nat) : (s.raiseIf c n).slotPoison = s.slotPoison := by unfold State.raiseIf; split <;> simp
@[simp] theorem State.raiseIf_ptab (c : Bool) (n : Nat) : (s.raiseIf c n).ptab = s.ptab := by unfold State.raiseIf; split <;> simp
@[simp] theorem State.raiseIf_ptabLo (c : Bool) (n : Nat) : (s.raiseIf c n).ptabLo = s.ptabLo := by unfold State.raiseIf; split <;> simp
@[simp] theorem State.raiseIf_ptabSnap (c : Bool) (n : Nat) : (s.raiseIf c n).ptabSnap = s.ptabSnap := by unfold State.raiseIf; split <;> simp
@[simp] theorem State.raiseIf_dev (c : Bool) (n : Nat) : (s.raiseIf c n).dev = s.dev := by unfold State.raiseIf; split <;> simp
@[simp] theorem State.raiseIf_wheels (c : Bool) (n : Nat) : (s.raiseIf c n).wheels = s.wheels := by unfold State.raiseIf; split <;> simp
@[simp] theorem State.raiseIf_trk (c : Bool) (n : Nat) : (s.raiseIf c n).trk = s.trk := by unfold State.raiseIf; split <;> simp
@[simp] theorem State.raiseIf_xchk (c : Bool) (n : Nat) : (s.raiseIf c n).xchk = s.xchk := by unfold State.raiseIf; split <;> simp
@[simp] theorem State.raiseIf_plan (c : Bool) (n : Nat) : (s.raiseIf c n).plan = s.plan := by unfold State.raiseIf; split <;> simp
@[simp] theorem State.raiseIf_hdg (c : Bool) (n : Nat) : (s.raiseIf c n).hdg = s.hdg := by unfold State.raiseIf; split <;> simp
@[simp] theorem State.raiseIf_memc (c : Bool) (n : Nat) : (s.raiseIf c n).memc = s.memc := by unfold State.raiseIf; split <;> simp
@[simp] theorem State.raiseIf_banks (c : Bool) (n : Nat) : (s.raiseIf c n).banks = s.banks := by unfold State.raiseIf; split <;> simp
@[simp] theorem State.raiseIf_lev (c : Bool) (n : Nat) : (s.raiseIf c n).lev = s.lev := by unfold State.raiseIf; split <;> simp
@[simp] theorem State.raiseIf_shp (c : Bool) (n : Nat) : (s.raiseIf c n).shp = s.shp := by unfold State.raiseIf; split <;> simp
@[simp] theorem State.raiseIf_trims (c : Bool) (n : Nat) : (s.raiseIf c n).trims = s.trims := by unfold State.raiseIf; split <;> simp
@[simp] theorem State.raiseIf_conv (c : Bool) (n : Nat) : (s.raiseIf c n).conv = s.conv := by unfold State.raiseIf; split <;> simp
@[simp] theorem State.raiseIf_dacAt (c : Bool) (n : Nat) : (s.raiseIf c n).dacAt = s.dacAt := by unfold State.raiseIf; split <;> simp
@[simp] theorem State.raiseIf_gates (c : Bool) (n : Nat) : (s.raiseIf c n).gates = s.gates := by unfold State.raiseIf; split <;> simp
@[simp] theorem State.raiseIf_gatesCut (c : Bool) (n : Nat) : (s.raiseIf c n).gatesCut = s.gatesCut := by unfold State.raiseIf; split <;> simp
@[simp] theorem State.raiseIf_trigs (c : Bool) (n : Nat) : (s.raiseIf c n).trigs = s.trigs := by unfold State.raiseIf; split <;> simp
@[simp] theorem State.raiseIf_pwm (c : Bool) (n : Nat) : (s.raiseIf c n).pwm = s.pwm := by unfold State.raiseIf; split <;> simp
@[simp] theorem State.raiseIf_tripPins (c : Bool) (n : Nat) : (s.raiseIf c n).tripPins = s.tripPins := by unfold State.raiseIf; split <;> simp
@[simp] theorem State.raiseIf_tmr (c : Bool) (n : Nat) : (s.raiseIf c n).tmr = s.tmr := by unfold State.raiseIf; split <;> simp
@[simp] theorem State.raiseIf_tioIn (c : Bool) (n : Nat) : (s.raiseIf c n).tioIn = s.tioIn := by unfold State.raiseIf; split <;> simp
@[simp] theorem State.raiseIf_rnl (c : Bool) (n : Nat) : (s.raiseIf c n).rnl = s.rnl := by unfold State.raiseIf; split <;> simp
@[simp] theorem State.raiseIf_rioOut (c : Bool) (n : Nat) : (s.raiseIf c n).rioOut = s.rioOut := by unfold State.raiseIf; split <;> simp
@[simp] theorem State.raiseIf_rioPins (c : Bool) (n : Nat) : (s.raiseIf c n).rioPins = s.rioPins := by unfold State.raiseIf; split <;> simp
@[simp] theorem State.raiseIf_catch_ (c : Bool) (n : Nat) : (s.raiseIf c n).catch_ = s.catch_ := by unfold State.raiseIf; split <;> simp
@[simp] theorem State.raiseIf_flume (c : Bool) (n : Nat) : (s.raiseIf c n).flume = s.flume := by unfold State.raiseIf; split <;> simp
@[simp] theorem State.raiseIf_cores (c : Bool) (n : Nat) : (s.raiseIf c n).cores = s.cores := by unfold State.raiseIf; split <;> simp
@[simp] theorem State.raiseIf_coreFrame (c : Bool) (n : Nat) : (s.raiseIf c n).coreFrame = s.coreFrame := by unfold State.raiseIf; split <;> simp
@[simp] theorem State.raiseIf_halves (c : Bool) (n : Nat) : (s.raiseIf c n).halves = s.halves := by unfold State.raiseIf; split <;> simp
@[simp] theorem State.raiseIf_link (c : Bool) (n : Nat) : (s.raiseIf c n).link = s.link := by unfold State.raiseIf; split <;> simp
@[simp] theorem State.raiseIf_host (c : Bool) (n : Nat) : (s.raiseIf c n).host = s.host := by unfold State.raiseIf; split <;> simp
@[simp] theorem State.raiseIf_flash (c : Bool) (n : Nat) : (s.raiseIf c n).flash = s.flash := by unfold State.raiseIf; split <;> simp
@[simp] theorem State.raiseIf_tap (c : Bool) (n : Nat) : (s.raiseIf c n).tap = s.tap := by unfold State.raiseIf; split <;> simp

@[simp] theorem State.setFault_pending (b : Nat) (f : Fld) (n : Nat) : (s.setFault b f n).pending = s.pending := by unfold State.setFault; split <;> simp
@[simp] theorem State.setFault_tick (b : Nat) (f : Fld) (n : Nat) : (s.setFault b f n).tick = s.tick := by unfold State.setFault; split <;> simp
@[simp] theorem State.setFault_pt (b : Nat) (f : Fld) (n : Nat) : (s.setFault b f n).pt = s.pt := by unfold State.setFault; split <;> simp
@[simp] theorem State.setFault_respData (b : Nat) (f : Fld) (n : Nat) : (s.setFault b f n).respData = s.respData := by unfold State.setFault; split <;> simp
@[simp] theorem State.setFault_respErr (b : Nat) (f : Fld) (n : Nat) : (s.setFault b f n).respErr = s.respErr := by unfold State.setFault; split <;> simp
@[simp] theorem State.setFault_free (b : Nat) (f : Fld) (n : Nat) : (s.setFault b f n).free = s.free := by unfold State.setFault; split <;> simp
@[simp] theorem State.setFault_act (b : Nat) (f : Fld) (n : Nat) : (s.setFault b f n).act = s.act := by unfold State.setFault; split <;> simp
@[simp] theorem State.setFault_committed (b : Nat) (f : Fld) (n : Nat) : (s.setFault b f n).committed = s.committed := by unfold State.setFault; split <;> simp
@[simp] theorem State.setFault_mem (b : Nat) (f : Fld) (n : Nat) : (s.setFault b f n).mem = s.mem := by unfold State.setFault; split <;> simp
@[simp] theorem State.setFault_memErr (b : Nat) (f : Fld) (n : Nat) : (s.setFault b f n).memErr = s.memErr := by unfold State.setFault; split <;> simp
@[simp] theorem State.setFault_slotPoison (b : Nat) (f : Fld) (n : Nat) : (s.setFault b f n).slotPoison = s.slotPoison := by unfold State.setFault; split <;> simp
@[simp] theorem State.setFault_ptab (b : Nat) (f : Fld) (n : Nat) : (s.setFault b f n).ptab = s.ptab := by unfold State.setFault; split <;> simp
@[simp] theorem State.setFault_ptabLo (b : Nat) (f : Fld) (n : Nat) : (s.setFault b f n).ptabLo = s.ptabLo := by unfold State.setFault; split <;> simp
@[simp] theorem State.setFault_ptabSnap (b : Nat) (f : Fld) (n : Nat) : (s.setFault b f n).ptabSnap = s.ptabSnap := by unfold State.setFault; split <;> simp
@[simp] theorem State.setFault_dev (b : Nat) (f : Fld) (n : Nat) : (s.setFault b f n).dev = s.dev := by unfold State.setFault; split <;> simp
@[simp] theorem State.setFault_wheels (b : Nat) (f : Fld) (n : Nat) : (s.setFault b f n).wheels = s.wheels := by unfold State.setFault; split <;> simp
@[simp] theorem State.setFault_trk (b : Nat) (f : Fld) (n : Nat) : (s.setFault b f n).trk = s.trk := by unfold State.setFault; split <;> simp
@[simp] theorem State.setFault_xchk (b : Nat) (f : Fld) (n : Nat) : (s.setFault b f n).xchk = s.xchk := by unfold State.setFault; split <;> simp
@[simp] theorem State.setFault_plan (b : Nat) (f : Fld) (n : Nat) : (s.setFault b f n).plan = s.plan := by unfold State.setFault; split <;> simp
@[simp] theorem State.setFault_hdg (b : Nat) (f : Fld) (n : Nat) : (s.setFault b f n).hdg = s.hdg := by unfold State.setFault; split <;> simp
@[simp] theorem State.setFault_memc (b : Nat) (f : Fld) (n : Nat) : (s.setFault b f n).memc = s.memc := by unfold State.setFault; split <;> simp
@[simp] theorem State.setFault_banks (b : Nat) (f : Fld) (n : Nat) : (s.setFault b f n).banks = s.banks := by unfold State.setFault; split <;> simp
@[simp] theorem State.setFault_lev (b : Nat) (f : Fld) (n : Nat) : (s.setFault b f n).lev = s.lev := by unfold State.setFault; split <;> simp
@[simp] theorem State.setFault_shp (b : Nat) (f : Fld) (n : Nat) : (s.setFault b f n).shp = s.shp := by unfold State.setFault; split <;> simp
@[simp] theorem State.setFault_trims (b : Nat) (f : Fld) (n : Nat) : (s.setFault b f n).trims = s.trims := by unfold State.setFault; split <;> simp
@[simp] theorem State.setFault_conv (b : Nat) (f : Fld) (n : Nat) : (s.setFault b f n).conv = s.conv := by unfold State.setFault; split <;> simp
@[simp] theorem State.setFault_dacAt (b : Nat) (f : Fld) (n : Nat) : (s.setFault b f n).dacAt = s.dacAt := by unfold State.setFault; split <;> simp
@[simp] theorem State.setFault_gates (b : Nat) (f : Fld) (n : Nat) : (s.setFault b f n).gates = s.gates := by unfold State.setFault; split <;> simp
@[simp] theorem State.setFault_gatesCut (b : Nat) (f : Fld) (n : Nat) : (s.setFault b f n).gatesCut = s.gatesCut := by unfold State.setFault; split <;> simp
@[simp] theorem State.setFault_trigs (b : Nat) (f : Fld) (n : Nat) : (s.setFault b f n).trigs = s.trigs := by unfold State.setFault; split <;> simp
@[simp] theorem State.setFault_pwm (b : Nat) (f : Fld) (n : Nat) : (s.setFault b f n).pwm = s.pwm := by unfold State.setFault; split <;> simp
@[simp] theorem State.setFault_tripPins (b : Nat) (f : Fld) (n : Nat) : (s.setFault b f n).tripPins = s.tripPins := by unfold State.setFault; split <;> simp
@[simp] theorem State.setFault_tmr (b : Nat) (f : Fld) (n : Nat) : (s.setFault b f n).tmr = s.tmr := by unfold State.setFault; split <;> simp
@[simp] theorem State.setFault_tioIn (b : Nat) (f : Fld) (n : Nat) : (s.setFault b f n).tioIn = s.tioIn := by unfold State.setFault; split <;> simp
@[simp] theorem State.setFault_rnl (b : Nat) (f : Fld) (n : Nat) : (s.setFault b f n).rnl = s.rnl := by unfold State.setFault; split <;> simp
@[simp] theorem State.setFault_rioOut (b : Nat) (f : Fld) (n : Nat) : (s.setFault b f n).rioOut = s.rioOut := by unfold State.setFault; split <;> simp
@[simp] theorem State.setFault_rioPins (b : Nat) (f : Fld) (n : Nat) : (s.setFault b f n).rioPins = s.rioPins := by unfold State.setFault; split <;> simp
@[simp] theorem State.setFault_catch_ (b : Nat) (f : Fld) (n : Nat) : (s.setFault b f n).catch_ = s.catch_ := by unfold State.setFault; split <;> simp
@[simp] theorem State.setFault_flume (b : Nat) (f : Fld) (n : Nat) : (s.setFault b f n).flume = s.flume := by unfold State.setFault; split <;> simp
@[simp] theorem State.setFault_cores (b : Nat) (f : Fld) (n : Nat) : (s.setFault b f n).cores = s.cores := by unfold State.setFault; split <;> simp
@[simp] theorem State.setFault_coreFrame (b : Nat) (f : Fld) (n : Nat) : (s.setFault b f n).coreFrame = s.coreFrame := by unfold State.setFault; split <;> simp
@[simp] theorem State.setFault_halves (b : Nat) (f : Fld) (n : Nat) : (s.setFault b f n).halves = s.halves := by unfold State.setFault; split <;> simp
@[simp] theorem State.setFault_link (b : Nat) (f : Fld) (n : Nat) : (s.setFault b f n).link = s.link := by unfold State.setFault; split <;> simp
@[simp] theorem State.setFault_host (b : Nat) (f : Fld) (n : Nat) : (s.setFault b f n).host = s.host := by unfold State.setFault; split <;> simp
@[simp] theorem State.setFault_flash (b : Nat) (f : Fld) (n : Nat) : (s.setFault b f n).flash = s.flash := by unfold State.setFault; split <;> simp
@[simp] theorem State.setFault_tap (b : Nat) (f : Fld) (n : Nat) : (s.setFault b f n).tap = s.tap := by unfold State.setFault; split <;> simp

@[simp] theorem State.enter_pending (d : DevState) : (s.enter d).pending = s.pending := by unfold State.enter; split <;> rfl
@[simp] theorem State.enter_tick (d : DevState) : (s.enter d).tick = s.tick := by unfold State.enter; split <;> rfl
@[simp] theorem State.enter_pt (d : DevState) : (s.enter d).pt = s.pt := by unfold State.enter; split <;> rfl
@[simp] theorem State.enter_respData (d : DevState) : (s.enter d).respData = s.respData := by unfold State.enter; split <;> rfl
@[simp] theorem State.enter_respErr (d : DevState) : (s.enter d).respErr = s.respErr := by unfold State.enter; split <;> rfl
@[simp] theorem State.enter_free (d : DevState) : (s.enter d).free = s.free := by unfold State.enter; split <;> rfl
@[simp] theorem State.enter_regs (d : DevState) : (s.enter d).regs = s.regs := by unfold State.enter; split <;> rfl
@[simp] theorem State.enter_act (d : DevState) : (s.enter d).act = s.act := by unfold State.enter; split <;> rfl
@[simp] theorem State.enter_committed (d : DevState) : (s.enter d).committed = s.committed := by unfold State.enter; split <;> rfl
@[simp] theorem State.enter_inFlight (d : DevState) : (s.enter d).inFlight = s.inFlight := by unfold State.enter; split <;> rfl
@[simp] theorem State.enter_mem (d : DevState) : (s.enter d).mem = s.mem := by unfold State.enter; split <;> rfl
@[simp] theorem State.enter_memErr (d : DevState) : (s.enter d).memErr = s.memErr := by unfold State.enter; split <;> rfl
@[simp] theorem State.enter_slotPoison (d : DevState) : (s.enter d).slotPoison = s.slotPoison := by unfold State.enter; split <;> rfl
@[simp] theorem State.enter_ptab (d : DevState) : (s.enter d).ptab = s.ptab := by unfold State.enter; split <;> rfl
@[simp] theorem State.enter_ptabLo (d : DevState) : (s.enter d).ptabLo = s.ptabLo := by unfold State.enter; split <;> rfl
@[simp] theorem State.enter_ptabSnap (d : DevState) : (s.enter d).ptabSnap = s.ptabSnap := by unfold State.enter; split <;> rfl
@[simp] theorem State.enter_wheels (d : DevState) : (s.enter d).wheels = s.wheels := by unfold State.enter; split <;> rfl
@[simp] theorem State.enter_xchk (d : DevState) : (s.enter d).xchk = s.xchk := by unfold State.enter; split <;> rfl
@[simp] theorem State.enter_plan (d : DevState) : (s.enter d).plan = s.plan := by unfold State.enter; split <;> rfl
@[simp] theorem State.enter_hdg (d : DevState) : (s.enter d).hdg = s.hdg := by unfold State.enter; split <;> rfl
@[simp] theorem State.enter_sys (d : DevState) : (s.enter d).sys = s.sys := by unfold State.enter; split <;> rfl
@[simp] theorem State.enter_memc (d : DevState) : (s.enter d).memc = s.memc := by unfold State.enter; split <;> rfl
@[simp] theorem State.enter_banks (d : DevState) : (s.enter d).banks = s.banks := by unfold State.enter; split <;> rfl
@[simp] theorem State.enter_lev (d : DevState) : (s.enter d).lev = s.lev := by unfold State.enter; split <;> rfl
@[simp] theorem State.enter_shp (d : DevState) : (s.enter d).shp = s.shp := by unfold State.enter; split <;> rfl
@[simp] theorem State.enter_trims (d : DevState) : (s.enter d).trims = s.trims := by unfold State.enter; split <;> rfl
@[simp] theorem State.enter_conv (d : DevState) : (s.enter d).conv = s.conv := by unfold State.enter; split <;> rfl
@[simp] theorem State.enter_dacAt (d : DevState) : (s.enter d).dacAt = s.dacAt := by unfold State.enter; split <;> rfl
@[simp] theorem State.enter_gates (d : DevState) : (s.enter d).gates = s.gates := by unfold State.enter; split <;> rfl
@[simp] theorem State.enter_gatesCut (d : DevState) : (s.enter d).gatesCut = s.gatesCut := by unfold State.enter; split <;> rfl
@[simp] theorem State.enter_trigs (d : DevState) : (s.enter d).trigs = s.trigs := by unfold State.enter; split <;> rfl
@[simp] theorem State.enter_pwm (d : DevState) : (s.enter d).pwm = s.pwm := by unfold State.enter; split <;> rfl
@[simp] theorem State.enter_tripPins (d : DevState) : (s.enter d).tripPins = s.tripPins := by unfold State.enter; split <;> rfl
@[simp] theorem State.enter_tmr (d : DevState) : (s.enter d).tmr = s.tmr := by unfold State.enter; split <;> rfl
@[simp] theorem State.enter_tioIn (d : DevState) : (s.enter d).tioIn = s.tioIn := by unfold State.enter; split <;> rfl
@[simp] theorem State.enter_rnl (d : DevState) : (s.enter d).rnl = s.rnl := by unfold State.enter; split <;> rfl
@[simp] theorem State.enter_rioOut (d : DevState) : (s.enter d).rioOut = s.rioOut := by unfold State.enter; split <;> rfl
@[simp] theorem State.enter_rioPins (d : DevState) : (s.enter d).rioPins = s.rioPins := by unfold State.enter; split <;> rfl
@[simp] theorem State.enter_catch_ (d : DevState) : (s.enter d).catch_ = s.catch_ := by unfold State.enter; split <;> rfl
@[simp] theorem State.enter_flume (d : DevState) : (s.enter d).flume = s.flume := by unfold State.enter; split <;> rfl
@[simp] theorem State.enter_cores (d : DevState) : (s.enter d).cores = s.cores := by unfold State.enter; split <;> rfl
@[simp] theorem State.enter_coreFrame (d : DevState) : (s.enter d).coreFrame = s.coreFrame := by unfold State.enter; split <;> rfl
@[simp] theorem State.enter_halves (d : DevState) : (s.enter d).halves = s.halves := by unfold State.enter; split <;> rfl
@[simp] theorem State.enter_link (d : DevState) : (s.enter d).link = s.link := by unfold State.enter; split <;> rfl
@[simp] theorem State.enter_host (d : DevState) : (s.enter d).host = s.host := by unfold State.enter; split <;> rfl
@[simp] theorem State.enter_flash (d : DevState) : (s.enter d).flash = s.flash := by unfold State.enter; split <;> rfl
@[simp] theorem State.enter_tap (d : DevState) : (s.enter d).tap = s.tap := by unfold State.enter; split <;> rfl

@[simp] theorem State.updWheel_pending (w : Fin 4) (f : Wheel → Wheel) : (s.updWheel w f).pending = s.pending := rfl
@[simp] theorem State.updWheel_tick (w : Fin 4) (f : Wheel → Wheel) : (s.updWheel w f).tick = s.tick := rfl
@[simp] theorem State.updWheel_pt (w : Fin 4) (f : Wheel → Wheel) : (s.updWheel w f).pt = s.pt := rfl
@[simp] theorem State.updWheel_respData (w : Fin 4) (f : Wheel → Wheel) : (s.updWheel w f).respData = s.respData := rfl
@[simp] theorem State.updWheel_respErr (w : Fin 4) (f : Wheel → Wheel) : (s.updWheel w f).respErr = s.respErr := rfl
@[simp] theorem State.updWheel_free (w : Fin 4) (f : Wheel → Wheel) : (s.updWheel w f).free = s.free := rfl
@[simp] theorem State.updWheel_regs (w : Fin 4) (f : Wheel → Wheel) : (s.updWheel w f).regs = s.regs := rfl
@[simp] theorem State.updWheel_act (w : Fin 4) (f : Wheel → Wheel) : (s.updWheel w f).act = s.act := rfl
@[simp] theorem State.updWheel_committed (w : Fin 4) (f : Wheel → Wheel) : (s.updWheel w f).committed = s.committed := rfl
@[simp] theorem State.updWheel_inFlight (w : Fin 4) (f : Wheel → Wheel) : (s.updWheel w f).inFlight = s.inFlight := rfl
@[simp] theorem State.updWheel_mem (w : Fin 4) (f : Wheel → Wheel) : (s.updWheel w f).mem = s.mem := rfl
@[simp] theorem State.updWheel_memErr (w : Fin 4) (f : Wheel → Wheel) : (s.updWheel w f).memErr = s.memErr := rfl
@[simp] theorem State.updWheel_slotPoison (w : Fin 4) (f : Wheel → Wheel) : (s.updWheel w f).slotPoison = s.slotPoison := rfl
@[simp] theorem State.updWheel_ptab (w : Fin 4) (f : Wheel → Wheel) : (s.updWheel w f).ptab = s.ptab := rfl
@[simp] theorem State.updWheel_ptabLo (w : Fin 4) (f : Wheel → Wheel) : (s.updWheel w f).ptabLo = s.ptabLo := rfl
@[simp] theorem State.updWheel_ptabSnap (w : Fin 4) (f : Wheel → Wheel) : (s.updWheel w f).ptabSnap = s.ptabSnap := rfl
@[simp] theorem State.updWheel_dev (w : Fin 4) (f : Wheel → Wheel) : (s.updWheel w f).dev = s.dev := rfl
@[simp] theorem State.updWheel_trk (w : Fin 4) (f : Wheel → Wheel) : (s.updWheel w f).trk = s.trk := rfl
@[simp] theorem State.updWheel_xchk (w : Fin 4) (f : Wheel → Wheel) : (s.updWheel w f).xchk = s.xchk := rfl
@[simp] theorem State.updWheel_plan (w : Fin 4) (f : Wheel → Wheel) : (s.updWheel w f).plan = s.plan := rfl
@[simp] theorem State.updWheel_hdg (w : Fin 4) (f : Wheel → Wheel) : (s.updWheel w f).hdg = s.hdg := rfl
@[simp] theorem State.updWheel_sys (w : Fin 4) (f : Wheel → Wheel) : (s.updWheel w f).sys = s.sys := rfl
@[simp] theorem State.updWheel_memc (w : Fin 4) (f : Wheel → Wheel) : (s.updWheel w f).memc = s.memc := rfl
@[simp] theorem State.updWheel_banks (w : Fin 4) (f : Wheel → Wheel) : (s.updWheel w f).banks = s.banks := rfl
@[simp] theorem State.updWheel_lev (w : Fin 4) (f : Wheel → Wheel) : (s.updWheel w f).lev = s.lev := rfl
@[simp] theorem State.updWheel_shp (w : Fin 4) (f : Wheel → Wheel) : (s.updWheel w f).shp = s.shp := rfl
@[simp] theorem State.updWheel_trims (w : Fin 4) (f : Wheel → Wheel) : (s.updWheel w f).trims = s.trims := rfl
@[simp] theorem State.updWheel_conv (w : Fin 4) (f : Wheel → Wheel) : (s.updWheel w f).conv = s.conv := rfl
@[simp] theorem State.updWheel_dacAt (w : Fin 4) (f : Wheel → Wheel) : (s.updWheel w f).dacAt = s.dacAt := rfl
@[simp] theorem State.updWheel_gates (w : Fin 4) (f : Wheel → Wheel) : (s.updWheel w f).gates = s.gates := rfl
@[simp] theorem State.updWheel_gatesCut (w : Fin 4) (f : Wheel → Wheel) : (s.updWheel w f).gatesCut = s.gatesCut := rfl
@[simp] theorem State.updWheel_trigs (w : Fin 4) (f : Wheel → Wheel) : (s.updWheel w f).trigs = s.trigs := rfl
@[simp] theorem State.updWheel_pwm (w : Fin 4) (f : Wheel → Wheel) : (s.updWheel w f).pwm = s.pwm := rfl
@[simp] theorem State.updWheel_tripPins (w : Fin 4) (f : Wheel → Wheel) : (s.updWheel w f).tripPins = s.tripPins := rfl
@[simp] theorem State.updWheel_tmr (w : Fin 4) (f : Wheel → Wheel) : (s.updWheel w f).tmr = s.tmr := rfl
@[simp] theorem State.updWheel_tioIn (w : Fin 4) (f : Wheel → Wheel) : (s.updWheel w f).tioIn = s.tioIn := rfl
@[simp] theorem State.updWheel_rnl (w : Fin 4) (f : Wheel → Wheel) : (s.updWheel w f).rnl = s.rnl := rfl
@[simp] theorem State.updWheel_rioOut (w : Fin 4) (f : Wheel → Wheel) : (s.updWheel w f).rioOut = s.rioOut := rfl
@[simp] theorem State.updWheel_rioPins (w : Fin 4) (f : Wheel → Wheel) : (s.updWheel w f).rioPins = s.rioPins := rfl
@[simp] theorem State.updWheel_catch_ (w : Fin 4) (f : Wheel → Wheel) : (s.updWheel w f).catch_ = s.catch_ := rfl
@[simp] theorem State.updWheel_flume (w : Fin 4) (f : Wheel → Wheel) : (s.updWheel w f).flume = s.flume := rfl
@[simp] theorem State.updWheel_cores (w : Fin 4) (f : Wheel → Wheel) : (s.updWheel w f).cores = s.cores := rfl
@[simp] theorem State.updWheel_coreFrame (w : Fin 4) (f : Wheel → Wheel) : (s.updWheel w f).coreFrame = s.coreFrame := rfl
@[simp] theorem State.updWheel_halves (w : Fin 4) (f : Wheel → Wheel) : (s.updWheel w f).halves = s.halves := rfl
@[simp] theorem State.updWheel_link (w : Fin 4) (f : Wheel → Wheel) : (s.updWheel w f).link = s.link := rfl
@[simp] theorem State.updWheel_host (w : Fin 4) (f : Wheel → Wheel) : (s.updWheel w f).host = s.host := rfl
@[simp] theorem State.updWheel_flash (w : Fin 4) (f : Wheel → Wheel) : (s.updWheel w f).flash = s.flash := rfl
@[simp] theorem State.updWheel_tap (w : Fin 4) (f : Wheel → Wheel) : (s.updWheel w f).tap = s.tap := rfl

@[simp] theorem State.updTrk_pending (t : Fin 2) (f : Tracker → Tracker) : (s.updTrk t f).pending = s.pending := rfl
@[simp] theorem State.updTrk_tick (t : Fin 2) (f : Tracker → Tracker) : (s.updTrk t f).tick = s.tick := rfl
@[simp] theorem State.updTrk_pt (t : Fin 2) (f : Tracker → Tracker) : (s.updTrk t f).pt = s.pt := rfl
@[simp] theorem State.updTrk_respData (t : Fin 2) (f : Tracker → Tracker) : (s.updTrk t f).respData = s.respData := rfl
@[simp] theorem State.updTrk_respErr (t : Fin 2) (f : Tracker → Tracker) : (s.updTrk t f).respErr = s.respErr := rfl
@[simp] theorem State.updTrk_free (t : Fin 2) (f : Tracker → Tracker) : (s.updTrk t f).free = s.free := rfl
@[simp] theorem State.updTrk_regs (t : Fin 2) (f : Tracker → Tracker) : (s.updTrk t f).regs = s.regs := rfl
@[simp] theorem State.updTrk_act (t : Fin 2) (f : Tracker → Tracker) : (s.updTrk t f).act = s.act := rfl
@[simp] theorem State.updTrk_committed (t : Fin 2) (f : Tracker → Tracker) : (s.updTrk t f).committed = s.committed := rfl
@[simp] theorem State.updTrk_inFlight (t : Fin 2) (f : Tracker → Tracker) : (s.updTrk t f).inFlight = s.inFlight := rfl
@[simp] theorem State.updTrk_mem (t : Fin 2) (f : Tracker → Tracker) : (s.updTrk t f).mem = s.mem := rfl
@[simp] theorem State.updTrk_memErr (t : Fin 2) (f : Tracker → Tracker) : (s.updTrk t f).memErr = s.memErr := rfl
@[simp] theorem State.updTrk_slotPoison (t : Fin 2) (f : Tracker → Tracker) : (s.updTrk t f).slotPoison = s.slotPoison := rfl
@[simp] theorem State.updTrk_ptab (t : Fin 2) (f : Tracker → Tracker) : (s.updTrk t f).ptab = s.ptab := rfl
@[simp] theorem State.updTrk_ptabLo (t : Fin 2) (f : Tracker → Tracker) : (s.updTrk t f).ptabLo = s.ptabLo := rfl
@[simp] theorem State.updTrk_ptabSnap (t : Fin 2) (f : Tracker → Tracker) : (s.updTrk t f).ptabSnap = s.ptabSnap := rfl
@[simp] theorem State.updTrk_dev (t : Fin 2) (f : Tracker → Tracker) : (s.updTrk t f).dev = s.dev := rfl
@[simp] theorem State.updTrk_wheels (t : Fin 2) (f : Tracker → Tracker) : (s.updTrk t f).wheels = s.wheels := rfl
@[simp] theorem State.updTrk_xchk (t : Fin 2) (f : Tracker → Tracker) : (s.updTrk t f).xchk = s.xchk := rfl
@[simp] theorem State.updTrk_plan (t : Fin 2) (f : Tracker → Tracker) : (s.updTrk t f).plan = s.plan := rfl
@[simp] theorem State.updTrk_hdg (t : Fin 2) (f : Tracker → Tracker) : (s.updTrk t f).hdg = s.hdg := rfl
@[simp] theorem State.updTrk_sys (t : Fin 2) (f : Tracker → Tracker) : (s.updTrk t f).sys = s.sys := rfl
@[simp] theorem State.updTrk_memc (t : Fin 2) (f : Tracker → Tracker) : (s.updTrk t f).memc = s.memc := rfl
@[simp] theorem State.updTrk_banks (t : Fin 2) (f : Tracker → Tracker) : (s.updTrk t f).banks = s.banks := rfl
@[simp] theorem State.updTrk_lev (t : Fin 2) (f : Tracker → Tracker) : (s.updTrk t f).lev = s.lev := rfl
@[simp] theorem State.updTrk_shp (t : Fin 2) (f : Tracker → Tracker) : (s.updTrk t f).shp = s.shp := rfl
@[simp] theorem State.updTrk_trims (t : Fin 2) (f : Tracker → Tracker) : (s.updTrk t f).trims = s.trims := rfl
@[simp] theorem State.updTrk_conv (t : Fin 2) (f : Tracker → Tracker) : (s.updTrk t f).conv = s.conv := rfl
@[simp] theorem State.updTrk_dacAt (t : Fin 2) (f : Tracker → Tracker) : (s.updTrk t f).dacAt = s.dacAt := rfl
@[simp] theorem State.updTrk_gates (t : Fin 2) (f : Tracker → Tracker) : (s.updTrk t f).gates = s.gates := rfl
@[simp] theorem State.updTrk_gatesCut (t : Fin 2) (f : Tracker → Tracker) : (s.updTrk t f).gatesCut = s.gatesCut := rfl
@[simp] theorem State.updTrk_trigs (t : Fin 2) (f : Tracker → Tracker) : (s.updTrk t f).trigs = s.trigs := rfl
@[simp] theorem State.updTrk_pwm (t : Fin 2) (f : Tracker → Tracker) : (s.updTrk t f).pwm = s.pwm := rfl
@[simp] theorem State.updTrk_tripPins (t : Fin 2) (f : Tracker → Tracker) : (s.updTrk t f).tripPins = s.tripPins := rfl
@[simp] theorem State.updTrk_tmr (t : Fin 2) (f : Tracker → Tracker) : (s.updTrk t f).tmr = s.tmr := rfl
@[simp] theorem State.updTrk_tioIn (t : Fin 2) (f : Tracker → Tracker) : (s.updTrk t f).tioIn = s.tioIn := rfl
@[simp] theorem State.updTrk_rnl (t : Fin 2) (f : Tracker → Tracker) : (s.updTrk t f).rnl = s.rnl := rfl
@[simp] theorem State.updTrk_rioOut (t : Fin 2) (f : Tracker → Tracker) : (s.updTrk t f).rioOut = s.rioOut := rfl
@[simp] theorem State.updTrk_rioPins (t : Fin 2) (f : Tracker → Tracker) : (s.updTrk t f).rioPins = s.rioPins := rfl
@[simp] theorem State.updTrk_catch_ (t : Fin 2) (f : Tracker → Tracker) : (s.updTrk t f).catch_ = s.catch_ := rfl
@[simp] theorem State.updTrk_flume (t : Fin 2) (f : Tracker → Tracker) : (s.updTrk t f).flume = s.flume := rfl
@[simp] theorem State.updTrk_cores (t : Fin 2) (f : Tracker → Tracker) : (s.updTrk t f).cores = s.cores := rfl
@[simp] theorem State.updTrk_coreFrame (t : Fin 2) (f : Tracker → Tracker) : (s.updTrk t f).coreFrame = s.coreFrame := rfl
@[simp] theorem State.updTrk_halves (t : Fin 2) (f : Tracker → Tracker) : (s.updTrk t f).halves = s.halves := rfl
@[simp] theorem State.updTrk_link (t : Fin 2) (f : Tracker → Tracker) : (s.updTrk t f).link = s.link := rfl
@[simp] theorem State.updTrk_host (t : Fin 2) (f : Tracker → Tracker) : (s.updTrk t f).host = s.host := rfl
@[simp] theorem State.updTrk_flash (t : Fin 2) (f : Tracker → Tracker) : (s.updTrk t f).flash = s.flash := rfl
@[simp] theorem State.updTrk_tap (t : Fin 2) (f : Tracker → Tracker) : (s.updTrk t f).tap = s.tap := rfl

@[simp] theorem State.updPlan_pending (f : Plan → Plan) : (s.updPlan f).pending = s.pending := rfl
@[simp] theorem State.updPlan_tick (f : Plan → Plan) : (s.updPlan f).tick = s.tick := rfl
@[simp] theorem State.updPlan_pt (f : Plan → Plan) : (s.updPlan f).pt = s.pt := rfl
@[simp] theorem State.updPlan_respData (f : Plan → Plan) : (s.updPlan f).respData = s.respData := rfl
@[simp] theorem State.updPlan_respErr (f : Plan → Plan) : (s.updPlan f).respErr = s.respErr := rfl
@[simp] theorem State.updPlan_free (f : Plan → Plan) : (s.updPlan f).free = s.free := rfl
@[simp] theorem State.updPlan_regs (f : Plan → Plan) : (s.updPlan f).regs = s.regs := rfl
@[simp] theorem State.updPlan_act (f : Plan → Plan) : (s.updPlan f).act = s.act := rfl
@[simp] theorem State.updPlan_committed (f : Plan → Plan) : (s.updPlan f).committed = s.committed := rfl
@[simp] theorem State.updPlan_inFlight (f : Plan → Plan) : (s.updPlan f).inFlight = s.inFlight := rfl
@[simp] theorem State.updPlan_mem (f : Plan → Plan) : (s.updPlan f).mem = s.mem := rfl
@[simp] theorem State.updPlan_memErr (f : Plan → Plan) : (s.updPlan f).memErr = s.memErr := rfl
@[simp] theorem State.updPlan_slotPoison (f : Plan → Plan) : (s.updPlan f).slotPoison = s.slotPoison := rfl
@[simp] theorem State.updPlan_ptab (f : Plan → Plan) : (s.updPlan f).ptab = s.ptab := rfl
@[simp] theorem State.updPlan_ptabLo (f : Plan → Plan) : (s.updPlan f).ptabLo = s.ptabLo := rfl
@[simp] theorem State.updPlan_ptabSnap (f : Plan → Plan) : (s.updPlan f).ptabSnap = s.ptabSnap := rfl
@[simp] theorem State.updPlan_dev (f : Plan → Plan) : (s.updPlan f).dev = s.dev := rfl
@[simp] theorem State.updPlan_wheels (f : Plan → Plan) : (s.updPlan f).wheels = s.wheels := rfl
@[simp] theorem State.updPlan_trk (f : Plan → Plan) : (s.updPlan f).trk = s.trk := rfl
@[simp] theorem State.updPlan_xchk (f : Plan → Plan) : (s.updPlan f).xchk = s.xchk := rfl
@[simp] theorem State.updPlan_hdg (f : Plan → Plan) : (s.updPlan f).hdg = s.hdg := rfl
@[simp] theorem State.updPlan_sys (f : Plan → Plan) : (s.updPlan f).sys = s.sys := rfl
@[simp] theorem State.updPlan_memc (f : Plan → Plan) : (s.updPlan f).memc = s.memc := rfl
@[simp] theorem State.updPlan_banks (f : Plan → Plan) : (s.updPlan f).banks = s.banks := rfl
@[simp] theorem State.updPlan_lev (f : Plan → Plan) : (s.updPlan f).lev = s.lev := rfl
@[simp] theorem State.updPlan_shp (f : Plan → Plan) : (s.updPlan f).shp = s.shp := rfl
@[simp] theorem State.updPlan_trims (f : Plan → Plan) : (s.updPlan f).trims = s.trims := rfl
@[simp] theorem State.updPlan_conv (f : Plan → Plan) : (s.updPlan f).conv = s.conv := rfl
@[simp] theorem State.updPlan_dacAt (f : Plan → Plan) : (s.updPlan f).dacAt = s.dacAt := rfl
@[simp] theorem State.updPlan_gates (f : Plan → Plan) : (s.updPlan f).gates = s.gates := rfl
@[simp] theorem State.updPlan_gatesCut (f : Plan → Plan) : (s.updPlan f).gatesCut = s.gatesCut := rfl
@[simp] theorem State.updPlan_trigs (f : Plan → Plan) : (s.updPlan f).trigs = s.trigs := rfl
@[simp] theorem State.updPlan_pwm (f : Plan → Plan) : (s.updPlan f).pwm = s.pwm := rfl
@[simp] theorem State.updPlan_tripPins (f : Plan → Plan) : (s.updPlan f).tripPins = s.tripPins := rfl
@[simp] theorem State.updPlan_tmr (f : Plan → Plan) : (s.updPlan f).tmr = s.tmr := rfl
@[simp] theorem State.updPlan_tioIn (f : Plan → Plan) : (s.updPlan f).tioIn = s.tioIn := rfl
@[simp] theorem State.updPlan_rnl (f : Plan → Plan) : (s.updPlan f).rnl = s.rnl := rfl
@[simp] theorem State.updPlan_rioOut (f : Plan → Plan) : (s.updPlan f).rioOut = s.rioOut := rfl
@[simp] theorem State.updPlan_rioPins (f : Plan → Plan) : (s.updPlan f).rioPins = s.rioPins := rfl
@[simp] theorem State.updPlan_catch_ (f : Plan → Plan) : (s.updPlan f).catch_ = s.catch_ := rfl
@[simp] theorem State.updPlan_flume (f : Plan → Plan) : (s.updPlan f).flume = s.flume := rfl
@[simp] theorem State.updPlan_cores (f : Plan → Plan) : (s.updPlan f).cores = s.cores := rfl
@[simp] theorem State.updPlan_coreFrame (f : Plan → Plan) : (s.updPlan f).coreFrame = s.coreFrame := rfl
@[simp] theorem State.updPlan_halves (f : Plan → Plan) : (s.updPlan f).halves = s.halves := rfl
@[simp] theorem State.updPlan_link (f : Plan → Plan) : (s.updPlan f).link = s.link := rfl
@[simp] theorem State.updPlan_host (f : Plan → Plan) : (s.updPlan f).host = s.host := rfl
@[simp] theorem State.updPlan_flash (f : Plan → Plan) : (s.updPlan f).flash = s.flash := rfl
@[simp] theorem State.updPlan_tap (f : Plan → Plan) : (s.updPlan f).tap = s.tap := rfl

@[simp] theorem State.updHdg_pending (f : Headgate → Headgate) : (s.updHdg f).pending = s.pending := rfl
@[simp] theorem State.updHdg_tick (f : Headgate → Headgate) : (s.updHdg f).tick = s.tick := rfl
@[simp] theorem State.updHdg_pt (f : Headgate → Headgate) : (s.updHdg f).pt = s.pt := rfl
@[simp] theorem State.updHdg_respData (f : Headgate → Headgate) : (s.updHdg f).respData = s.respData := rfl
@[simp] theorem State.updHdg_respErr (f : Headgate → Headgate) : (s.updHdg f).respErr = s.respErr := rfl
@[simp] theorem State.updHdg_free (f : Headgate → Headgate) : (s.updHdg f).free = s.free := rfl
@[simp] theorem State.updHdg_regs (f : Headgate → Headgate) : (s.updHdg f).regs = s.regs := rfl
@[simp] theorem State.updHdg_act (f : Headgate → Headgate) : (s.updHdg f).act = s.act := rfl
@[simp] theorem State.updHdg_committed (f : Headgate → Headgate) : (s.updHdg f).committed = s.committed := rfl
@[simp] theorem State.updHdg_inFlight (f : Headgate → Headgate) : (s.updHdg f).inFlight = s.inFlight := rfl
@[simp] theorem State.updHdg_mem (f : Headgate → Headgate) : (s.updHdg f).mem = s.mem := rfl
@[simp] theorem State.updHdg_memErr (f : Headgate → Headgate) : (s.updHdg f).memErr = s.memErr := rfl
@[simp] theorem State.updHdg_slotPoison (f : Headgate → Headgate) : (s.updHdg f).slotPoison = s.slotPoison := rfl
@[simp] theorem State.updHdg_ptab (f : Headgate → Headgate) : (s.updHdg f).ptab = s.ptab := rfl
@[simp] theorem State.updHdg_ptabLo (f : Headgate → Headgate) : (s.updHdg f).ptabLo = s.ptabLo := rfl
@[simp] theorem State.updHdg_ptabSnap (f : Headgate → Headgate) : (s.updHdg f).ptabSnap = s.ptabSnap := rfl
@[simp] theorem State.updHdg_dev (f : Headgate → Headgate) : (s.updHdg f).dev = s.dev := rfl
@[simp] theorem State.updHdg_wheels (f : Headgate → Headgate) : (s.updHdg f).wheels = s.wheels := rfl
@[simp] theorem State.updHdg_trk (f : Headgate → Headgate) : (s.updHdg f).trk = s.trk := rfl
@[simp] theorem State.updHdg_xchk (f : Headgate → Headgate) : (s.updHdg f).xchk = s.xchk := rfl
@[simp] theorem State.updHdg_plan (f : Headgate → Headgate) : (s.updHdg f).plan = s.plan := rfl
@[simp] theorem State.updHdg_sys (f : Headgate → Headgate) : (s.updHdg f).sys = s.sys := rfl
@[simp] theorem State.updHdg_memc (f : Headgate → Headgate) : (s.updHdg f).memc = s.memc := rfl
@[simp] theorem State.updHdg_banks (f : Headgate → Headgate) : (s.updHdg f).banks = s.banks := rfl
@[simp] theorem State.updHdg_lev (f : Headgate → Headgate) : (s.updHdg f).lev = s.lev := rfl
@[simp] theorem State.updHdg_shp (f : Headgate → Headgate) : (s.updHdg f).shp = s.shp := rfl
@[simp] theorem State.updHdg_trims (f : Headgate → Headgate) : (s.updHdg f).trims = s.trims := rfl
@[simp] theorem State.updHdg_conv (f : Headgate → Headgate) : (s.updHdg f).conv = s.conv := rfl
@[simp] theorem State.updHdg_dacAt (f : Headgate → Headgate) : (s.updHdg f).dacAt = s.dacAt := rfl
@[simp] theorem State.updHdg_gates (f : Headgate → Headgate) : (s.updHdg f).gates = s.gates := rfl
@[simp] theorem State.updHdg_gatesCut (f : Headgate → Headgate) : (s.updHdg f).gatesCut = s.gatesCut := rfl
@[simp] theorem State.updHdg_trigs (f : Headgate → Headgate) : (s.updHdg f).trigs = s.trigs := rfl
@[simp] theorem State.updHdg_pwm (f : Headgate → Headgate) : (s.updHdg f).pwm = s.pwm := rfl
@[simp] theorem State.updHdg_tripPins (f : Headgate → Headgate) : (s.updHdg f).tripPins = s.tripPins := rfl
@[simp] theorem State.updHdg_tmr (f : Headgate → Headgate) : (s.updHdg f).tmr = s.tmr := rfl
@[simp] theorem State.updHdg_tioIn (f : Headgate → Headgate) : (s.updHdg f).tioIn = s.tioIn := rfl
@[simp] theorem State.updHdg_rnl (f : Headgate → Headgate) : (s.updHdg f).rnl = s.rnl := rfl
@[simp] theorem State.updHdg_rioOut (f : Headgate → Headgate) : (s.updHdg f).rioOut = s.rioOut := rfl
@[simp] theorem State.updHdg_rioPins (f : Headgate → Headgate) : (s.updHdg f).rioPins = s.rioPins := rfl
@[simp] theorem State.updHdg_catch_ (f : Headgate → Headgate) : (s.updHdg f).catch_ = s.catch_ := rfl
@[simp] theorem State.updHdg_flume (f : Headgate → Headgate) : (s.updHdg f).flume = s.flume := rfl
@[simp] theorem State.updHdg_cores (f : Headgate → Headgate) : (s.updHdg f).cores = s.cores := rfl
@[simp] theorem State.updHdg_coreFrame (f : Headgate → Headgate) : (s.updHdg f).coreFrame = s.coreFrame := rfl
@[simp] theorem State.updHdg_halves (f : Headgate → Headgate) : (s.updHdg f).halves = s.halves := rfl
@[simp] theorem State.updHdg_link (f : Headgate → Headgate) : (s.updHdg f).link = s.link := rfl
@[simp] theorem State.updHdg_host (f : Headgate → Headgate) : (s.updHdg f).host = s.host := rfl
@[simp] theorem State.updHdg_flash (f : Headgate → Headgate) : (s.updHdg f).flash = s.flash := rfl
@[simp] theorem State.updHdg_tap (f : Headgate → Headgate) : (s.updHdg f).tap = s.tap := rfl

@[simp] theorem State.updDev_pending (f : Device → Device) : (s.updDev f).pending = s.pending := rfl
@[simp] theorem State.updDev_tick (f : Device → Device) : (s.updDev f).tick = s.tick := rfl
@[simp] theorem State.updDev_pt (f : Device → Device) : (s.updDev f).pt = s.pt := rfl
@[simp] theorem State.updDev_respData (f : Device → Device) : (s.updDev f).respData = s.respData := rfl
@[simp] theorem State.updDev_respErr (f : Device → Device) : (s.updDev f).respErr = s.respErr := rfl
@[simp] theorem State.updDev_free (f : Device → Device) : (s.updDev f).free = s.free := rfl
@[simp] theorem State.updDev_regs (f : Device → Device) : (s.updDev f).regs = s.regs := rfl
@[simp] theorem State.updDev_act (f : Device → Device) : (s.updDev f).act = s.act := rfl
@[simp] theorem State.updDev_committed (f : Device → Device) : (s.updDev f).committed = s.committed := rfl
@[simp] theorem State.updDev_inFlight (f : Device → Device) : (s.updDev f).inFlight = s.inFlight := rfl
@[simp] theorem State.updDev_mem (f : Device → Device) : (s.updDev f).mem = s.mem := rfl
@[simp] theorem State.updDev_memErr (f : Device → Device) : (s.updDev f).memErr = s.memErr := rfl
@[simp] theorem State.updDev_slotPoison (f : Device → Device) : (s.updDev f).slotPoison = s.slotPoison := rfl
@[simp] theorem State.updDev_ptab (f : Device → Device) : (s.updDev f).ptab = s.ptab := rfl
@[simp] theorem State.updDev_ptabLo (f : Device → Device) : (s.updDev f).ptabLo = s.ptabLo := rfl
@[simp] theorem State.updDev_ptabSnap (f : Device → Device) : (s.updDev f).ptabSnap = s.ptabSnap := rfl
@[simp] theorem State.updDev_wheels (f : Device → Device) : (s.updDev f).wheels = s.wheels := rfl
@[simp] theorem State.updDev_trk (f : Device → Device) : (s.updDev f).trk = s.trk := rfl
@[simp] theorem State.updDev_xchk (f : Device → Device) : (s.updDev f).xchk = s.xchk := rfl
@[simp] theorem State.updDev_plan (f : Device → Device) : (s.updDev f).plan = s.plan := rfl
@[simp] theorem State.updDev_hdg (f : Device → Device) : (s.updDev f).hdg = s.hdg := rfl
@[simp] theorem State.updDev_sys (f : Device → Device) : (s.updDev f).sys = s.sys := rfl
@[simp] theorem State.updDev_memc (f : Device → Device) : (s.updDev f).memc = s.memc := rfl
@[simp] theorem State.updDev_banks (f : Device → Device) : (s.updDev f).banks = s.banks := rfl
@[simp] theorem State.updDev_lev (f : Device → Device) : (s.updDev f).lev = s.lev := rfl
@[simp] theorem State.updDev_shp (f : Device → Device) : (s.updDev f).shp = s.shp := rfl
@[simp] theorem State.updDev_trims (f : Device → Device) : (s.updDev f).trims = s.trims := rfl
@[simp] theorem State.updDev_conv (f : Device → Device) : (s.updDev f).conv = s.conv := rfl
@[simp] theorem State.updDev_dacAt (f : Device → Device) : (s.updDev f).dacAt = s.dacAt := rfl
@[simp] theorem State.updDev_gates (f : Device → Device) : (s.updDev f).gates = s.gates := rfl
@[simp] theorem State.updDev_gatesCut (f : Device → Device) : (s.updDev f).gatesCut = s.gatesCut := rfl
@[simp] theorem State.updDev_trigs (f : Device → Device) : (s.updDev f).trigs = s.trigs := rfl
@[simp] theorem State.updDev_pwm (f : Device → Device) : (s.updDev f).pwm = s.pwm := rfl
@[simp] theorem State.updDev_tripPins (f : Device → Device) : (s.updDev f).tripPins = s.tripPins := rfl
@[simp] theorem State.updDev_tmr (f : Device → Device) : (s.updDev f).tmr = s.tmr := rfl
@[simp] theorem State.updDev_tioIn (f : Device → Device) : (s.updDev f).tioIn = s.tioIn := rfl
@[simp] theorem State.updDev_rnl (f : Device → Device) : (s.updDev f).rnl = s.rnl := rfl
@[simp] theorem State.updDev_rioOut (f : Device → Device) : (s.updDev f).rioOut = s.rioOut := rfl
@[simp] theorem State.updDev_rioPins (f : Device → Device) : (s.updDev f).rioPins = s.rioPins := rfl
@[simp] theorem State.updDev_catch_ (f : Device → Device) : (s.updDev f).catch_ = s.catch_ := rfl
@[simp] theorem State.updDev_flume (f : Device → Device) : (s.updDev f).flume = s.flume := rfl
@[simp] theorem State.updDev_cores (f : Device → Device) : (s.updDev f).cores = s.cores := rfl
@[simp] theorem State.updDev_coreFrame (f : Device → Device) : (s.updDev f).coreFrame = s.coreFrame := rfl
@[simp] theorem State.updDev_halves (f : Device → Device) : (s.updDev f).halves = s.halves := rfl
@[simp] theorem State.updDev_link (f : Device → Device) : (s.updDev f).link = s.link := rfl
@[simp] theorem State.updDev_host (f : Device → Device) : (s.updDev f).host = s.host := rfl
@[simp] theorem State.updDev_flash (f : Device → Device) : (s.updDev f).flash = s.flash := rfl
@[simp] theorem State.updDev_tap (f : Device → Device) : (s.updDev f).tap = s.tap := rfl

@[simp] theorem State.updBank_pending (b : Fin 16) (f : Bank → Bank) : (s.updBank b f).pending = s.pending := rfl
@[simp] theorem State.updBank_tick (b : Fin 16) (f : Bank → Bank) : (s.updBank b f).tick = s.tick := rfl
@[simp] theorem State.updBank_pt (b : Fin 16) (f : Bank → Bank) : (s.updBank b f).pt = s.pt := rfl
@[simp] theorem State.updBank_respData (b : Fin 16) (f : Bank → Bank) : (s.updBank b f).respData = s.respData := rfl
@[simp] theorem State.updBank_respErr (b : Fin 16) (f : Bank → Bank) : (s.updBank b f).respErr = s.respErr := rfl
@[simp] theorem State.updBank_free (b : Fin 16) (f : Bank → Bank) : (s.updBank b f).free = s.free := rfl
@[simp] theorem State.updBank_regs (b : Fin 16) (f : Bank → Bank) : (s.updBank b f).regs = s.regs := rfl
@[simp] theorem State.updBank_act (b : Fin 16) (f : Bank → Bank) : (s.updBank b f).act = s.act := rfl
@[simp] theorem State.updBank_committed (b : Fin 16) (f : Bank → Bank) : (s.updBank b f).committed = s.committed := rfl
@[simp] theorem State.updBank_inFlight (b : Fin 16) (f : Bank → Bank) : (s.updBank b f).inFlight = s.inFlight := rfl
@[simp] theorem State.updBank_mem (b : Fin 16) (f : Bank → Bank) : (s.updBank b f).mem = s.mem := rfl
@[simp] theorem State.updBank_memErr (b : Fin 16) (f : Bank → Bank) : (s.updBank b f).memErr = s.memErr := rfl
@[simp] theorem State.updBank_slotPoison (b : Fin 16) (f : Bank → Bank) : (s.updBank b f).slotPoison = s.slotPoison := rfl
@[simp] theorem State.updBank_ptab (b : Fin 16) (f : Bank → Bank) : (s.updBank b f).ptab = s.ptab := rfl
@[simp] theorem State.updBank_ptabLo (b : Fin 16) (f : Bank → Bank) : (s.updBank b f).ptabLo = s.ptabLo := rfl
@[simp] theorem State.updBank_ptabSnap (b : Fin 16) (f : Bank → Bank) : (s.updBank b f).ptabSnap = s.ptabSnap := rfl
@[simp] theorem State.updBank_dev (b : Fin 16) (f : Bank → Bank) : (s.updBank b f).dev = s.dev := rfl
@[simp] theorem State.updBank_wheels (b : Fin 16) (f : Bank → Bank) : (s.updBank b f).wheels = s.wheels := rfl
@[simp] theorem State.updBank_trk (b : Fin 16) (f : Bank → Bank) : (s.updBank b f).trk = s.trk := rfl
@[simp] theorem State.updBank_xchk (b : Fin 16) (f : Bank → Bank) : (s.updBank b f).xchk = s.xchk := rfl
@[simp] theorem State.updBank_plan (b : Fin 16) (f : Bank → Bank) : (s.updBank b f).plan = s.plan := rfl
@[simp] theorem State.updBank_hdg (b : Fin 16) (f : Bank → Bank) : (s.updBank b f).hdg = s.hdg := rfl
@[simp] theorem State.updBank_sys (b : Fin 16) (f : Bank → Bank) : (s.updBank b f).sys = s.sys := rfl
@[simp] theorem State.updBank_memc (b : Fin 16) (f : Bank → Bank) : (s.updBank b f).memc = s.memc := rfl
@[simp] theorem State.updBank_lev (b : Fin 16) (f : Bank → Bank) : (s.updBank b f).lev = s.lev := rfl
@[simp] theorem State.updBank_shp (b : Fin 16) (f : Bank → Bank) : (s.updBank b f).shp = s.shp := rfl
@[simp] theorem State.updBank_trims (b : Fin 16) (f : Bank → Bank) : (s.updBank b f).trims = s.trims := rfl
@[simp] theorem State.updBank_conv (b : Fin 16) (f : Bank → Bank) : (s.updBank b f).conv = s.conv := rfl
@[simp] theorem State.updBank_dacAt (b : Fin 16) (f : Bank → Bank) : (s.updBank b f).dacAt = s.dacAt := rfl
@[simp] theorem State.updBank_gates (b : Fin 16) (f : Bank → Bank) : (s.updBank b f).gates = s.gates := rfl
@[simp] theorem State.updBank_gatesCut (b : Fin 16) (f : Bank → Bank) : (s.updBank b f).gatesCut = s.gatesCut := rfl
@[simp] theorem State.updBank_trigs (b : Fin 16) (f : Bank → Bank) : (s.updBank b f).trigs = s.trigs := rfl
@[simp] theorem State.updBank_pwm (b : Fin 16) (f : Bank → Bank) : (s.updBank b f).pwm = s.pwm := rfl
@[simp] theorem State.updBank_tripPins (b : Fin 16) (f : Bank → Bank) : (s.updBank b f).tripPins = s.tripPins := rfl
@[simp] theorem State.updBank_tmr (b : Fin 16) (f : Bank → Bank) : (s.updBank b f).tmr = s.tmr := rfl
@[simp] theorem State.updBank_tioIn (b : Fin 16) (f : Bank → Bank) : (s.updBank b f).tioIn = s.tioIn := rfl
@[simp] theorem State.updBank_rnl (b : Fin 16) (f : Bank → Bank) : (s.updBank b f).rnl = s.rnl := rfl
@[simp] theorem State.updBank_rioOut (b : Fin 16) (f : Bank → Bank) : (s.updBank b f).rioOut = s.rioOut := rfl
@[simp] theorem State.updBank_rioPins (b : Fin 16) (f : Bank → Bank) : (s.updBank b f).rioPins = s.rioPins := rfl
@[simp] theorem State.updBank_catch_ (b : Fin 16) (f : Bank → Bank) : (s.updBank b f).catch_ = s.catch_ := rfl
@[simp] theorem State.updBank_flume (b : Fin 16) (f : Bank → Bank) : (s.updBank b f).flume = s.flume := rfl
@[simp] theorem State.updBank_cores (b : Fin 16) (f : Bank → Bank) : (s.updBank b f).cores = s.cores := rfl
@[simp] theorem State.updBank_coreFrame (b : Fin 16) (f : Bank → Bank) : (s.updBank b f).coreFrame = s.coreFrame := rfl
@[simp] theorem State.updBank_halves (b : Fin 16) (f : Bank → Bank) : (s.updBank b f).halves = s.halves := rfl
@[simp] theorem State.updBank_link (b : Fin 16) (f : Bank → Bank) : (s.updBank b f).link = s.link := rfl
@[simp] theorem State.updBank_host (b : Fin 16) (f : Bank → Bank) : (s.updBank b f).host = s.host := rfl
@[simp] theorem State.updBank_flash (b : Fin 16) (f : Bank → Bank) : (s.updBank b f).flash = s.flash := rfl
@[simp] theorem State.updBank_tap (b : Fin 16) (f : Bank → Bank) : (s.updBank b f).tap = s.tap := rfl

@[simp] theorem State.updShp_pending (b : Fin 16) (f : Shaper → Shaper) : (s.updShp b f).pending = s.pending := rfl
@[simp] theorem State.updShp_tick (b : Fin 16) (f : Shaper → Shaper) : (s.updShp b f).tick = s.tick := rfl
@[simp] theorem State.updShp_pt (b : Fin 16) (f : Shaper → Shaper) : (s.updShp b f).pt = s.pt := rfl
@[simp] theorem State.updShp_respData (b : Fin 16) (f : Shaper → Shaper) : (s.updShp b f).respData = s.respData := rfl
@[simp] theorem State.updShp_respErr (b : Fin 16) (f : Shaper → Shaper) : (s.updShp b f).respErr = s.respErr := rfl
@[simp] theorem State.updShp_free (b : Fin 16) (f : Shaper → Shaper) : (s.updShp b f).free = s.free := rfl
@[simp] theorem State.updShp_regs (b : Fin 16) (f : Shaper → Shaper) : (s.updShp b f).regs = s.regs := rfl
@[simp] theorem State.updShp_act (b : Fin 16) (f : Shaper → Shaper) : (s.updShp b f).act = s.act := rfl
@[simp] theorem State.updShp_committed (b : Fin 16) (f : Shaper → Shaper) : (s.updShp b f).committed = s.committed := rfl
@[simp] theorem State.updShp_inFlight (b : Fin 16) (f : Shaper → Shaper) : (s.updShp b f).inFlight = s.inFlight := rfl
@[simp] theorem State.updShp_mem (b : Fin 16) (f : Shaper → Shaper) : (s.updShp b f).mem = s.mem := rfl
@[simp] theorem State.updShp_memErr (b : Fin 16) (f : Shaper → Shaper) : (s.updShp b f).memErr = s.memErr := rfl
@[simp] theorem State.updShp_slotPoison (b : Fin 16) (f : Shaper → Shaper) : (s.updShp b f).slotPoison = s.slotPoison := rfl
@[simp] theorem State.updShp_ptab (b : Fin 16) (f : Shaper → Shaper) : (s.updShp b f).ptab = s.ptab := rfl
@[simp] theorem State.updShp_ptabLo (b : Fin 16) (f : Shaper → Shaper) : (s.updShp b f).ptabLo = s.ptabLo := rfl
@[simp] theorem State.updShp_ptabSnap (b : Fin 16) (f : Shaper → Shaper) : (s.updShp b f).ptabSnap = s.ptabSnap := rfl
@[simp] theorem State.updShp_dev (b : Fin 16) (f : Shaper → Shaper) : (s.updShp b f).dev = s.dev := rfl
@[simp] theorem State.updShp_wheels (b : Fin 16) (f : Shaper → Shaper) : (s.updShp b f).wheels = s.wheels := rfl
@[simp] theorem State.updShp_trk (b : Fin 16) (f : Shaper → Shaper) : (s.updShp b f).trk = s.trk := rfl
@[simp] theorem State.updShp_xchk (b : Fin 16) (f : Shaper → Shaper) : (s.updShp b f).xchk = s.xchk := rfl
@[simp] theorem State.updShp_plan (b : Fin 16) (f : Shaper → Shaper) : (s.updShp b f).plan = s.plan := rfl
@[simp] theorem State.updShp_hdg (b : Fin 16) (f : Shaper → Shaper) : (s.updShp b f).hdg = s.hdg := rfl
@[simp] theorem State.updShp_sys (b : Fin 16) (f : Shaper → Shaper) : (s.updShp b f).sys = s.sys := rfl
@[simp] theorem State.updShp_memc (b : Fin 16) (f : Shaper → Shaper) : (s.updShp b f).memc = s.memc := rfl
@[simp] theorem State.updShp_banks (b : Fin 16) (f : Shaper → Shaper) : (s.updShp b f).banks = s.banks := rfl
@[simp] theorem State.updShp_lev (b : Fin 16) (f : Shaper → Shaper) : (s.updShp b f).lev = s.lev := rfl
@[simp] theorem State.updShp_trims (b : Fin 16) (f : Shaper → Shaper) : (s.updShp b f).trims = s.trims := rfl
@[simp] theorem State.updShp_conv (b : Fin 16) (f : Shaper → Shaper) : (s.updShp b f).conv = s.conv := rfl
@[simp] theorem State.updShp_dacAt (b : Fin 16) (f : Shaper → Shaper) : (s.updShp b f).dacAt = s.dacAt := rfl
@[simp] theorem State.updShp_gates (b : Fin 16) (f : Shaper → Shaper) : (s.updShp b f).gates = s.gates := rfl
@[simp] theorem State.updShp_gatesCut (b : Fin 16) (f : Shaper → Shaper) : (s.updShp b f).gatesCut = s.gatesCut := rfl
@[simp] theorem State.updShp_trigs (b : Fin 16) (f : Shaper → Shaper) : (s.updShp b f).trigs = s.trigs := rfl
@[simp] theorem State.updShp_pwm (b : Fin 16) (f : Shaper → Shaper) : (s.updShp b f).pwm = s.pwm := rfl
@[simp] theorem State.updShp_tripPins (b : Fin 16) (f : Shaper → Shaper) : (s.updShp b f).tripPins = s.tripPins := rfl
@[simp] theorem State.updShp_tmr (b : Fin 16) (f : Shaper → Shaper) : (s.updShp b f).tmr = s.tmr := rfl
@[simp] theorem State.updShp_tioIn (b : Fin 16) (f : Shaper → Shaper) : (s.updShp b f).tioIn = s.tioIn := rfl
@[simp] theorem State.updShp_rnl (b : Fin 16) (f : Shaper → Shaper) : (s.updShp b f).rnl = s.rnl := rfl
@[simp] theorem State.updShp_rioOut (b : Fin 16) (f : Shaper → Shaper) : (s.updShp b f).rioOut = s.rioOut := rfl
@[simp] theorem State.updShp_rioPins (b : Fin 16) (f : Shaper → Shaper) : (s.updShp b f).rioPins = s.rioPins := rfl
@[simp] theorem State.updShp_catch_ (b : Fin 16) (f : Shaper → Shaper) : (s.updShp b f).catch_ = s.catch_ := rfl
@[simp] theorem State.updShp_flume (b : Fin 16) (f : Shaper → Shaper) : (s.updShp b f).flume = s.flume := rfl
@[simp] theorem State.updShp_cores (b : Fin 16) (f : Shaper → Shaper) : (s.updShp b f).cores = s.cores := rfl
@[simp] theorem State.updShp_coreFrame (b : Fin 16) (f : Shaper → Shaper) : (s.updShp b f).coreFrame = s.coreFrame := rfl
@[simp] theorem State.updShp_halves (b : Fin 16) (f : Shaper → Shaper) : (s.updShp b f).halves = s.halves := rfl
@[simp] theorem State.updShp_link (b : Fin 16) (f : Shaper → Shaper) : (s.updShp b f).link = s.link := rfl
@[simp] theorem State.updShp_host (b : Fin 16) (f : Shaper → Shaper) : (s.updShp b f).host = s.host := rfl
@[simp] theorem State.updShp_flash (b : Fin 16) (f : Shaper → Shaper) : (s.updShp b f).flash = s.flash := rfl
@[simp] theorem State.updShp_tap (b : Fin 16) (f : Shaper → Shaper) : (s.updShp b f).tap = s.tap := rfl

@[simp] theorem State.updConv_pending (k : Fin 4) (f : Converter → Converter) : (s.updConv k f).pending = s.pending := rfl
@[simp] theorem State.updConv_tick (k : Fin 4) (f : Converter → Converter) : (s.updConv k f).tick = s.tick := rfl
@[simp] theorem State.updConv_pt (k : Fin 4) (f : Converter → Converter) : (s.updConv k f).pt = s.pt := rfl
@[simp] theorem State.updConv_respData (k : Fin 4) (f : Converter → Converter) : (s.updConv k f).respData = s.respData := rfl
@[simp] theorem State.updConv_respErr (k : Fin 4) (f : Converter → Converter) : (s.updConv k f).respErr = s.respErr := rfl
@[simp] theorem State.updConv_free (k : Fin 4) (f : Converter → Converter) : (s.updConv k f).free = s.free := rfl
@[simp] theorem State.updConv_regs (k : Fin 4) (f : Converter → Converter) : (s.updConv k f).regs = s.regs := rfl
@[simp] theorem State.updConv_act (k : Fin 4) (f : Converter → Converter) : (s.updConv k f).act = s.act := rfl
@[simp] theorem State.updConv_committed (k : Fin 4) (f : Converter → Converter) : (s.updConv k f).committed = s.committed := rfl
@[simp] theorem State.updConv_inFlight (k : Fin 4) (f : Converter → Converter) : (s.updConv k f).inFlight = s.inFlight := rfl
@[simp] theorem State.updConv_mem (k : Fin 4) (f : Converter → Converter) : (s.updConv k f).mem = s.mem := rfl
@[simp] theorem State.updConv_memErr (k : Fin 4) (f : Converter → Converter) : (s.updConv k f).memErr = s.memErr := rfl
@[simp] theorem State.updConv_slotPoison (k : Fin 4) (f : Converter → Converter) : (s.updConv k f).slotPoison = s.slotPoison := rfl
@[simp] theorem State.updConv_ptab (k : Fin 4) (f : Converter → Converter) : (s.updConv k f).ptab = s.ptab := rfl
@[simp] theorem State.updConv_ptabLo (k : Fin 4) (f : Converter → Converter) : (s.updConv k f).ptabLo = s.ptabLo := rfl
@[simp] theorem State.updConv_ptabSnap (k : Fin 4) (f : Converter → Converter) : (s.updConv k f).ptabSnap = s.ptabSnap := rfl
@[simp] theorem State.updConv_dev (k : Fin 4) (f : Converter → Converter) : (s.updConv k f).dev = s.dev := rfl
@[simp] theorem State.updConv_wheels (k : Fin 4) (f : Converter → Converter) : (s.updConv k f).wheels = s.wheels := rfl
@[simp] theorem State.updConv_trk (k : Fin 4) (f : Converter → Converter) : (s.updConv k f).trk = s.trk := rfl
@[simp] theorem State.updConv_xchk (k : Fin 4) (f : Converter → Converter) : (s.updConv k f).xchk = s.xchk := rfl
@[simp] theorem State.updConv_plan (k : Fin 4) (f : Converter → Converter) : (s.updConv k f).plan = s.plan := rfl
@[simp] theorem State.updConv_hdg (k : Fin 4) (f : Converter → Converter) : (s.updConv k f).hdg = s.hdg := rfl
@[simp] theorem State.updConv_sys (k : Fin 4) (f : Converter → Converter) : (s.updConv k f).sys = s.sys := rfl
@[simp] theorem State.updConv_memc (k : Fin 4) (f : Converter → Converter) : (s.updConv k f).memc = s.memc := rfl
@[simp] theorem State.updConv_banks (k : Fin 4) (f : Converter → Converter) : (s.updConv k f).banks = s.banks := rfl
@[simp] theorem State.updConv_lev (k : Fin 4) (f : Converter → Converter) : (s.updConv k f).lev = s.lev := rfl
@[simp] theorem State.updConv_shp (k : Fin 4) (f : Converter → Converter) : (s.updConv k f).shp = s.shp := rfl
@[simp] theorem State.updConv_trims (k : Fin 4) (f : Converter → Converter) : (s.updConv k f).trims = s.trims := rfl
@[simp] theorem State.updConv_dacAt (k : Fin 4) (f : Converter → Converter) : (s.updConv k f).dacAt = s.dacAt := rfl
@[simp] theorem State.updConv_gates (k : Fin 4) (f : Converter → Converter) : (s.updConv k f).gates = s.gates := rfl
@[simp] theorem State.updConv_gatesCut (k : Fin 4) (f : Converter → Converter) : (s.updConv k f).gatesCut = s.gatesCut := rfl
@[simp] theorem State.updConv_trigs (k : Fin 4) (f : Converter → Converter) : (s.updConv k f).trigs = s.trigs := rfl
@[simp] theorem State.updConv_pwm (k : Fin 4) (f : Converter → Converter) : (s.updConv k f).pwm = s.pwm := rfl
@[simp] theorem State.updConv_tripPins (k : Fin 4) (f : Converter → Converter) : (s.updConv k f).tripPins = s.tripPins := rfl
@[simp] theorem State.updConv_tmr (k : Fin 4) (f : Converter → Converter) : (s.updConv k f).tmr = s.tmr := rfl
@[simp] theorem State.updConv_tioIn (k : Fin 4) (f : Converter → Converter) : (s.updConv k f).tioIn = s.tioIn := rfl
@[simp] theorem State.updConv_rnl (k : Fin 4) (f : Converter → Converter) : (s.updConv k f).rnl = s.rnl := rfl
@[simp] theorem State.updConv_rioOut (k : Fin 4) (f : Converter → Converter) : (s.updConv k f).rioOut = s.rioOut := rfl
@[simp] theorem State.updConv_rioPins (k : Fin 4) (f : Converter → Converter) : (s.updConv k f).rioPins = s.rioPins := rfl
@[simp] theorem State.updConv_catch_ (k : Fin 4) (f : Converter → Converter) : (s.updConv k f).catch_ = s.catch_ := rfl
@[simp] theorem State.updConv_flume (k : Fin 4) (f : Converter → Converter) : (s.updConv k f).flume = s.flume := rfl
@[simp] theorem State.updConv_cores (k : Fin 4) (f : Converter → Converter) : (s.updConv k f).cores = s.cores := rfl
@[simp] theorem State.updConv_coreFrame (k : Fin 4) (f : Converter → Converter) : (s.updConv k f).coreFrame = s.coreFrame := rfl
@[simp] theorem State.updConv_halves (k : Fin 4) (f : Converter → Converter) : (s.updConv k f).halves = s.halves := rfl
@[simp] theorem State.updConv_link (k : Fin 4) (f : Converter → Converter) : (s.updConv k f).link = s.link := rfl
@[simp] theorem State.updConv_host (k : Fin 4) (f : Converter → Converter) : (s.updConv k f).host = s.host := rfl
@[simp] theorem State.updConv_flash (k : Fin 4) (f : Converter → Converter) : (s.updConv k f).flash = s.flash := rfl
@[simp] theorem State.updConv_tap (k : Fin 4) (f : Converter → Converter) : (s.updConv k f).tap = s.tap := rfl

@[simp] theorem State.updPwm_pending (n : Fin 16) (f : PwmGen → PwmGen) : (s.updPwm n f).pending = s.pending := rfl
@[simp] theorem State.updPwm_tick (n : Fin 16) (f : PwmGen → PwmGen) : (s.updPwm n f).tick = s.tick := rfl
@[simp] theorem State.updPwm_pt (n : Fin 16) (f : PwmGen → PwmGen) : (s.updPwm n f).pt = s.pt := rfl
@[simp] theorem State.updPwm_respData (n : Fin 16) (f : PwmGen → PwmGen) : (s.updPwm n f).respData = s.respData := rfl
@[simp] theorem State.updPwm_respErr (n : Fin 16) (f : PwmGen → PwmGen) : (s.updPwm n f).respErr = s.respErr := rfl
@[simp] theorem State.updPwm_free (n : Fin 16) (f : PwmGen → PwmGen) : (s.updPwm n f).free = s.free := rfl
@[simp] theorem State.updPwm_regs (n : Fin 16) (f : PwmGen → PwmGen) : (s.updPwm n f).regs = s.regs := rfl
@[simp] theorem State.updPwm_act (n : Fin 16) (f : PwmGen → PwmGen) : (s.updPwm n f).act = s.act := rfl
@[simp] theorem State.updPwm_committed (n : Fin 16) (f : PwmGen → PwmGen) : (s.updPwm n f).committed = s.committed := rfl
@[simp] theorem State.updPwm_inFlight (n : Fin 16) (f : PwmGen → PwmGen) : (s.updPwm n f).inFlight = s.inFlight := rfl
@[simp] theorem State.updPwm_mem (n : Fin 16) (f : PwmGen → PwmGen) : (s.updPwm n f).mem = s.mem := rfl
@[simp] theorem State.updPwm_memErr (n : Fin 16) (f : PwmGen → PwmGen) : (s.updPwm n f).memErr = s.memErr := rfl
@[simp] theorem State.updPwm_slotPoison (n : Fin 16) (f : PwmGen → PwmGen) : (s.updPwm n f).slotPoison = s.slotPoison := rfl
@[simp] theorem State.updPwm_ptab (n : Fin 16) (f : PwmGen → PwmGen) : (s.updPwm n f).ptab = s.ptab := rfl
@[simp] theorem State.updPwm_ptabLo (n : Fin 16) (f : PwmGen → PwmGen) : (s.updPwm n f).ptabLo = s.ptabLo := rfl
@[simp] theorem State.updPwm_ptabSnap (n : Fin 16) (f : PwmGen → PwmGen) : (s.updPwm n f).ptabSnap = s.ptabSnap := rfl
@[simp] theorem State.updPwm_dev (n : Fin 16) (f : PwmGen → PwmGen) : (s.updPwm n f).dev = s.dev := rfl
@[simp] theorem State.updPwm_wheels (n : Fin 16) (f : PwmGen → PwmGen) : (s.updPwm n f).wheels = s.wheels := rfl
@[simp] theorem State.updPwm_trk (n : Fin 16) (f : PwmGen → PwmGen) : (s.updPwm n f).trk = s.trk := rfl
@[simp] theorem State.updPwm_xchk (n : Fin 16) (f : PwmGen → PwmGen) : (s.updPwm n f).xchk = s.xchk := rfl
@[simp] theorem State.updPwm_plan (n : Fin 16) (f : PwmGen → PwmGen) : (s.updPwm n f).plan = s.plan := rfl
@[simp] theorem State.updPwm_hdg (n : Fin 16) (f : PwmGen → PwmGen) : (s.updPwm n f).hdg = s.hdg := rfl
@[simp] theorem State.updPwm_sys (n : Fin 16) (f : PwmGen → PwmGen) : (s.updPwm n f).sys = s.sys := rfl
@[simp] theorem State.updPwm_memc (n : Fin 16) (f : PwmGen → PwmGen) : (s.updPwm n f).memc = s.memc := rfl
@[simp] theorem State.updPwm_banks (n : Fin 16) (f : PwmGen → PwmGen) : (s.updPwm n f).banks = s.banks := rfl
@[simp] theorem State.updPwm_lev (n : Fin 16) (f : PwmGen → PwmGen) : (s.updPwm n f).lev = s.lev := rfl
@[simp] theorem State.updPwm_shp (n : Fin 16) (f : PwmGen → PwmGen) : (s.updPwm n f).shp = s.shp := rfl
@[simp] theorem State.updPwm_trims (n : Fin 16) (f : PwmGen → PwmGen) : (s.updPwm n f).trims = s.trims := rfl
@[simp] theorem State.updPwm_conv (n : Fin 16) (f : PwmGen → PwmGen) : (s.updPwm n f).conv = s.conv := rfl
@[simp] theorem State.updPwm_dacAt (n : Fin 16) (f : PwmGen → PwmGen) : (s.updPwm n f).dacAt = s.dacAt := rfl
@[simp] theorem State.updPwm_gates (n : Fin 16) (f : PwmGen → PwmGen) : (s.updPwm n f).gates = s.gates := rfl
@[simp] theorem State.updPwm_gatesCut (n : Fin 16) (f : PwmGen → PwmGen) : (s.updPwm n f).gatesCut = s.gatesCut := rfl
@[simp] theorem State.updPwm_trigs (n : Fin 16) (f : PwmGen → PwmGen) : (s.updPwm n f).trigs = s.trigs := rfl
@[simp] theorem State.updPwm_tripPins (n : Fin 16) (f : PwmGen → PwmGen) : (s.updPwm n f).tripPins = s.tripPins := rfl
@[simp] theorem State.updPwm_tmr (n : Fin 16) (f : PwmGen → PwmGen) : (s.updPwm n f).tmr = s.tmr := rfl
@[simp] theorem State.updPwm_tioIn (n : Fin 16) (f : PwmGen → PwmGen) : (s.updPwm n f).tioIn = s.tioIn := rfl
@[simp] theorem State.updPwm_rnl (n : Fin 16) (f : PwmGen → PwmGen) : (s.updPwm n f).rnl = s.rnl := rfl
@[simp] theorem State.updPwm_rioOut (n : Fin 16) (f : PwmGen → PwmGen) : (s.updPwm n f).rioOut = s.rioOut := rfl
@[simp] theorem State.updPwm_rioPins (n : Fin 16) (f : PwmGen → PwmGen) : (s.updPwm n f).rioPins = s.rioPins := rfl
@[simp] theorem State.updPwm_catch_ (n : Fin 16) (f : PwmGen → PwmGen) : (s.updPwm n f).catch_ = s.catch_ := rfl
@[simp] theorem State.updPwm_flume (n : Fin 16) (f : PwmGen → PwmGen) : (s.updPwm n f).flume = s.flume := rfl
@[simp] theorem State.updPwm_cores (n : Fin 16) (f : PwmGen → PwmGen) : (s.updPwm n f).cores = s.cores := rfl
@[simp] theorem State.updPwm_coreFrame (n : Fin 16) (f : PwmGen → PwmGen) : (s.updPwm n f).coreFrame = s.coreFrame := rfl
@[simp] theorem State.updPwm_halves (n : Fin 16) (f : PwmGen → PwmGen) : (s.updPwm n f).halves = s.halves := rfl
@[simp] theorem State.updPwm_link (n : Fin 16) (f : PwmGen → PwmGen) : (s.updPwm n f).link = s.link := rfl
@[simp] theorem State.updPwm_host (n : Fin 16) (f : PwmGen → PwmGen) : (s.updPwm n f).host = s.host := rfl
@[simp] theorem State.updPwm_flash (n : Fin 16) (f : PwmGen → PwmGen) : (s.updPwm n f).flash = s.flash := rfl
@[simp] theorem State.updPwm_tap (n : Fin 16) (f : PwmGen → PwmGen) : (s.updPwm n f).tap = s.tap := rfl

@[simp] theorem State.updTmr_pending (n : Fin 16) (f : Timer → Timer) : (s.updTmr n f).pending = s.pending := rfl
@[simp] theorem State.updTmr_tick (n : Fin 16) (f : Timer → Timer) : (s.updTmr n f).tick = s.tick := rfl
@[simp] theorem State.updTmr_pt (n : Fin 16) (f : Timer → Timer) : (s.updTmr n f).pt = s.pt := rfl
@[simp] theorem State.updTmr_respData (n : Fin 16) (f : Timer → Timer) : (s.updTmr n f).respData = s.respData := rfl
@[simp] theorem State.updTmr_respErr (n : Fin 16) (f : Timer → Timer) : (s.updTmr n f).respErr = s.respErr := rfl
@[simp] theorem State.updTmr_free (n : Fin 16) (f : Timer → Timer) : (s.updTmr n f).free = s.free := rfl
@[simp] theorem State.updTmr_regs (n : Fin 16) (f : Timer → Timer) : (s.updTmr n f).regs = s.regs := rfl
@[simp] theorem State.updTmr_act (n : Fin 16) (f : Timer → Timer) : (s.updTmr n f).act = s.act := rfl
@[simp] theorem State.updTmr_committed (n : Fin 16) (f : Timer → Timer) : (s.updTmr n f).committed = s.committed := rfl
@[simp] theorem State.updTmr_inFlight (n : Fin 16) (f : Timer → Timer) : (s.updTmr n f).inFlight = s.inFlight := rfl
@[simp] theorem State.updTmr_mem (n : Fin 16) (f : Timer → Timer) : (s.updTmr n f).mem = s.mem := rfl
@[simp] theorem State.updTmr_memErr (n : Fin 16) (f : Timer → Timer) : (s.updTmr n f).memErr = s.memErr := rfl
@[simp] theorem State.updTmr_slotPoison (n : Fin 16) (f : Timer → Timer) : (s.updTmr n f).slotPoison = s.slotPoison := rfl
@[simp] theorem State.updTmr_ptab (n : Fin 16) (f : Timer → Timer) : (s.updTmr n f).ptab = s.ptab := rfl
@[simp] theorem State.updTmr_ptabLo (n : Fin 16) (f : Timer → Timer) : (s.updTmr n f).ptabLo = s.ptabLo := rfl
@[simp] theorem State.updTmr_ptabSnap (n : Fin 16) (f : Timer → Timer) : (s.updTmr n f).ptabSnap = s.ptabSnap := rfl
@[simp] theorem State.updTmr_dev (n : Fin 16) (f : Timer → Timer) : (s.updTmr n f).dev = s.dev := rfl
@[simp] theorem State.updTmr_wheels (n : Fin 16) (f : Timer → Timer) : (s.updTmr n f).wheels = s.wheels := rfl
@[simp] theorem State.updTmr_trk (n : Fin 16) (f : Timer → Timer) : (s.updTmr n f).trk = s.trk := rfl
@[simp] theorem State.updTmr_xchk (n : Fin 16) (f : Timer → Timer) : (s.updTmr n f).xchk = s.xchk := rfl
@[simp] theorem State.updTmr_plan (n : Fin 16) (f : Timer → Timer) : (s.updTmr n f).plan = s.plan := rfl
@[simp] theorem State.updTmr_hdg (n : Fin 16) (f : Timer → Timer) : (s.updTmr n f).hdg = s.hdg := rfl
@[simp] theorem State.updTmr_sys (n : Fin 16) (f : Timer → Timer) : (s.updTmr n f).sys = s.sys := rfl
@[simp] theorem State.updTmr_memc (n : Fin 16) (f : Timer → Timer) : (s.updTmr n f).memc = s.memc := rfl
@[simp] theorem State.updTmr_banks (n : Fin 16) (f : Timer → Timer) : (s.updTmr n f).banks = s.banks := rfl
@[simp] theorem State.updTmr_lev (n : Fin 16) (f : Timer → Timer) : (s.updTmr n f).lev = s.lev := rfl
@[simp] theorem State.updTmr_shp (n : Fin 16) (f : Timer → Timer) : (s.updTmr n f).shp = s.shp := rfl
@[simp] theorem State.updTmr_trims (n : Fin 16) (f : Timer → Timer) : (s.updTmr n f).trims = s.trims := rfl
@[simp] theorem State.updTmr_conv (n : Fin 16) (f : Timer → Timer) : (s.updTmr n f).conv = s.conv := rfl
@[simp] theorem State.updTmr_dacAt (n : Fin 16) (f : Timer → Timer) : (s.updTmr n f).dacAt = s.dacAt := rfl
@[simp] theorem State.updTmr_gates (n : Fin 16) (f : Timer → Timer) : (s.updTmr n f).gates = s.gates := rfl
@[simp] theorem State.updTmr_gatesCut (n : Fin 16) (f : Timer → Timer) : (s.updTmr n f).gatesCut = s.gatesCut := rfl
@[simp] theorem State.updTmr_trigs (n : Fin 16) (f : Timer → Timer) : (s.updTmr n f).trigs = s.trigs := rfl
@[simp] theorem State.updTmr_pwm (n : Fin 16) (f : Timer → Timer) : (s.updTmr n f).pwm = s.pwm := rfl
@[simp] theorem State.updTmr_tripPins (n : Fin 16) (f : Timer → Timer) : (s.updTmr n f).tripPins = s.tripPins := rfl
@[simp] theorem State.updTmr_tioIn (n : Fin 16) (f : Timer → Timer) : (s.updTmr n f).tioIn = s.tioIn := rfl
@[simp] theorem State.updTmr_rnl (n : Fin 16) (f : Timer → Timer) : (s.updTmr n f).rnl = s.rnl := rfl
@[simp] theorem State.updTmr_rioOut (n : Fin 16) (f : Timer → Timer) : (s.updTmr n f).rioOut = s.rioOut := rfl
@[simp] theorem State.updTmr_rioPins (n : Fin 16) (f : Timer → Timer) : (s.updTmr n f).rioPins = s.rioPins := rfl
@[simp] theorem State.updTmr_catch_ (n : Fin 16) (f : Timer → Timer) : (s.updTmr n f).catch_ = s.catch_ := rfl
@[simp] theorem State.updTmr_flume (n : Fin 16) (f : Timer → Timer) : (s.updTmr n f).flume = s.flume := rfl
@[simp] theorem State.updTmr_cores (n : Fin 16) (f : Timer → Timer) : (s.updTmr n f).cores = s.cores := rfl
@[simp] theorem State.updTmr_coreFrame (n : Fin 16) (f : Timer → Timer) : (s.updTmr n f).coreFrame = s.coreFrame := rfl
@[simp] theorem State.updTmr_halves (n : Fin 16) (f : Timer → Timer) : (s.updTmr n f).halves = s.halves := rfl
@[simp] theorem State.updTmr_link (n : Fin 16) (f : Timer → Timer) : (s.updTmr n f).link = s.link := rfl
@[simp] theorem State.updTmr_host (n : Fin 16) (f : Timer → Timer) : (s.updTmr n f).host = s.host := rfl
@[simp] theorem State.updTmr_flash (n : Fin 16) (f : Timer → Timer) : (s.updTmr n f).flash = s.flash := rfl
@[simp] theorem State.updTmr_tap (n : Fin 16) (f : Timer → Timer) : (s.updTmr n f).tap = s.tap := rfl

@[simp] theorem State.updRnl_pending (e : Fin 8) (f : Runnel → Runnel) : (s.updRnl e f).pending = s.pending := rfl
@[simp] theorem State.updRnl_tick (e : Fin 8) (f : Runnel → Runnel) : (s.updRnl e f).tick = s.tick := rfl
@[simp] theorem State.updRnl_pt (e : Fin 8) (f : Runnel → Runnel) : (s.updRnl e f).pt = s.pt := rfl
@[simp] theorem State.updRnl_respData (e : Fin 8) (f : Runnel → Runnel) : (s.updRnl e f).respData = s.respData := rfl
@[simp] theorem State.updRnl_respErr (e : Fin 8) (f : Runnel → Runnel) : (s.updRnl e f).respErr = s.respErr := rfl
@[simp] theorem State.updRnl_free (e : Fin 8) (f : Runnel → Runnel) : (s.updRnl e f).free = s.free := rfl
@[simp] theorem State.updRnl_regs (e : Fin 8) (f : Runnel → Runnel) : (s.updRnl e f).regs = s.regs := rfl
@[simp] theorem State.updRnl_act (e : Fin 8) (f : Runnel → Runnel) : (s.updRnl e f).act = s.act := rfl
@[simp] theorem State.updRnl_committed (e : Fin 8) (f : Runnel → Runnel) : (s.updRnl e f).committed = s.committed := rfl
@[simp] theorem State.updRnl_inFlight (e : Fin 8) (f : Runnel → Runnel) : (s.updRnl e f).inFlight = s.inFlight := rfl
@[simp] theorem State.updRnl_mem (e : Fin 8) (f : Runnel → Runnel) : (s.updRnl e f).mem = s.mem := rfl
@[simp] theorem State.updRnl_memErr (e : Fin 8) (f : Runnel → Runnel) : (s.updRnl e f).memErr = s.memErr := rfl
@[simp] theorem State.updRnl_slotPoison (e : Fin 8) (f : Runnel → Runnel) : (s.updRnl e f).slotPoison = s.slotPoison := rfl
@[simp] theorem State.updRnl_ptab (e : Fin 8) (f : Runnel → Runnel) : (s.updRnl e f).ptab = s.ptab := rfl
@[simp] theorem State.updRnl_ptabLo (e : Fin 8) (f : Runnel → Runnel) : (s.updRnl e f).ptabLo = s.ptabLo := rfl
@[simp] theorem State.updRnl_ptabSnap (e : Fin 8) (f : Runnel → Runnel) : (s.updRnl e f).ptabSnap = s.ptabSnap := rfl
@[simp] theorem State.updRnl_dev (e : Fin 8) (f : Runnel → Runnel) : (s.updRnl e f).dev = s.dev := rfl
@[simp] theorem State.updRnl_wheels (e : Fin 8) (f : Runnel → Runnel) : (s.updRnl e f).wheels = s.wheels := rfl
@[simp] theorem State.updRnl_trk (e : Fin 8) (f : Runnel → Runnel) : (s.updRnl e f).trk = s.trk := rfl
@[simp] theorem State.updRnl_xchk (e : Fin 8) (f : Runnel → Runnel) : (s.updRnl e f).xchk = s.xchk := rfl
@[simp] theorem State.updRnl_plan (e : Fin 8) (f : Runnel → Runnel) : (s.updRnl e f).plan = s.plan := rfl
@[simp] theorem State.updRnl_hdg (e : Fin 8) (f : Runnel → Runnel) : (s.updRnl e f).hdg = s.hdg := rfl
@[simp] theorem State.updRnl_sys (e : Fin 8) (f : Runnel → Runnel) : (s.updRnl e f).sys = s.sys := rfl
@[simp] theorem State.updRnl_memc (e : Fin 8) (f : Runnel → Runnel) : (s.updRnl e f).memc = s.memc := rfl
@[simp] theorem State.updRnl_banks (e : Fin 8) (f : Runnel → Runnel) : (s.updRnl e f).banks = s.banks := rfl
@[simp] theorem State.updRnl_lev (e : Fin 8) (f : Runnel → Runnel) : (s.updRnl e f).lev = s.lev := rfl
@[simp] theorem State.updRnl_shp (e : Fin 8) (f : Runnel → Runnel) : (s.updRnl e f).shp = s.shp := rfl
@[simp] theorem State.updRnl_trims (e : Fin 8) (f : Runnel → Runnel) : (s.updRnl e f).trims = s.trims := rfl
@[simp] theorem State.updRnl_conv (e : Fin 8) (f : Runnel → Runnel) : (s.updRnl e f).conv = s.conv := rfl
@[simp] theorem State.updRnl_dacAt (e : Fin 8) (f : Runnel → Runnel) : (s.updRnl e f).dacAt = s.dacAt := rfl
@[simp] theorem State.updRnl_gates (e : Fin 8) (f : Runnel → Runnel) : (s.updRnl e f).gates = s.gates := rfl
@[simp] theorem State.updRnl_gatesCut (e : Fin 8) (f : Runnel → Runnel) : (s.updRnl e f).gatesCut = s.gatesCut := rfl
@[simp] theorem State.updRnl_trigs (e : Fin 8) (f : Runnel → Runnel) : (s.updRnl e f).trigs = s.trigs := rfl
@[simp] theorem State.updRnl_pwm (e : Fin 8) (f : Runnel → Runnel) : (s.updRnl e f).pwm = s.pwm := rfl
@[simp] theorem State.updRnl_tripPins (e : Fin 8) (f : Runnel → Runnel) : (s.updRnl e f).tripPins = s.tripPins := rfl
@[simp] theorem State.updRnl_tmr (e : Fin 8) (f : Runnel → Runnel) : (s.updRnl e f).tmr = s.tmr := rfl
@[simp] theorem State.updRnl_tioIn (e : Fin 8) (f : Runnel → Runnel) : (s.updRnl e f).tioIn = s.tioIn := rfl
@[simp] theorem State.updRnl_rioOut (e : Fin 8) (f : Runnel → Runnel) : (s.updRnl e f).rioOut = s.rioOut := rfl
@[simp] theorem State.updRnl_rioPins (e : Fin 8) (f : Runnel → Runnel) : (s.updRnl e f).rioPins = s.rioPins := rfl
@[simp] theorem State.updRnl_catch_ (e : Fin 8) (f : Runnel → Runnel) : (s.updRnl e f).catch_ = s.catch_ := rfl
@[simp] theorem State.updRnl_flume (e : Fin 8) (f : Runnel → Runnel) : (s.updRnl e f).flume = s.flume := rfl
@[simp] theorem State.updRnl_cores (e : Fin 8) (f : Runnel → Runnel) : (s.updRnl e f).cores = s.cores := rfl
@[simp] theorem State.updRnl_coreFrame (e : Fin 8) (f : Runnel → Runnel) : (s.updRnl e f).coreFrame = s.coreFrame := rfl
@[simp] theorem State.updRnl_halves (e : Fin 8) (f : Runnel → Runnel) : (s.updRnl e f).halves = s.halves := rfl
@[simp] theorem State.updRnl_link (e : Fin 8) (f : Runnel → Runnel) : (s.updRnl e f).link = s.link := rfl
@[simp] theorem State.updRnl_host (e : Fin 8) (f : Runnel → Runnel) : (s.updRnl e f).host = s.host := rfl
@[simp] theorem State.updRnl_flash (e : Fin 8) (f : Runnel → Runnel) : (s.updRnl e f).flash = s.flash := rfl
@[simp] theorem State.updRnl_tap (e : Fin 8) (f : Runnel → Runnel) : (s.updRnl e f).tap = s.tap := rfl

@[simp] theorem State.updCore_pending (c : Fin 4) (f : Core → Core) : (s.updCore c f).pending = s.pending := rfl
@[simp] theorem State.updCore_tick (c : Fin 4) (f : Core → Core) : (s.updCore c f).tick = s.tick := rfl
@[simp] theorem State.updCore_pt (c : Fin 4) (f : Core → Core) : (s.updCore c f).pt = s.pt := rfl
@[simp] theorem State.updCore_respData (c : Fin 4) (f : Core → Core) : (s.updCore c f).respData = s.respData := rfl
@[simp] theorem State.updCore_respErr (c : Fin 4) (f : Core → Core) : (s.updCore c f).respErr = s.respErr := rfl
@[simp] theorem State.updCore_free (c : Fin 4) (f : Core → Core) : (s.updCore c f).free = s.free := rfl
@[simp] theorem State.updCore_regs (c : Fin 4) (f : Core → Core) : (s.updCore c f).regs = s.regs := rfl
@[simp] theorem State.updCore_act (c : Fin 4) (f : Core → Core) : (s.updCore c f).act = s.act := rfl
@[simp] theorem State.updCore_committed (c : Fin 4) (f : Core → Core) : (s.updCore c f).committed = s.committed := rfl
@[simp] theorem State.updCore_inFlight (c : Fin 4) (f : Core → Core) : (s.updCore c f).inFlight = s.inFlight := rfl
@[simp] theorem State.updCore_mem (c : Fin 4) (f : Core → Core) : (s.updCore c f).mem = s.mem := rfl
@[simp] theorem State.updCore_memErr (c : Fin 4) (f : Core → Core) : (s.updCore c f).memErr = s.memErr := rfl
@[simp] theorem State.updCore_slotPoison (c : Fin 4) (f : Core → Core) : (s.updCore c f).slotPoison = s.slotPoison := rfl
@[simp] theorem State.updCore_ptab (c : Fin 4) (f : Core → Core) : (s.updCore c f).ptab = s.ptab := rfl
@[simp] theorem State.updCore_ptabLo (c : Fin 4) (f : Core → Core) : (s.updCore c f).ptabLo = s.ptabLo := rfl
@[simp] theorem State.updCore_ptabSnap (c : Fin 4) (f : Core → Core) : (s.updCore c f).ptabSnap = s.ptabSnap := rfl
@[simp] theorem State.updCore_dev (c : Fin 4) (f : Core → Core) : (s.updCore c f).dev = s.dev := rfl
@[simp] theorem State.updCore_wheels (c : Fin 4) (f : Core → Core) : (s.updCore c f).wheels = s.wheels := rfl
@[simp] theorem State.updCore_trk (c : Fin 4) (f : Core → Core) : (s.updCore c f).trk = s.trk := rfl
@[simp] theorem State.updCore_xchk (c : Fin 4) (f : Core → Core) : (s.updCore c f).xchk = s.xchk := rfl
@[simp] theorem State.updCore_plan (c : Fin 4) (f : Core → Core) : (s.updCore c f).plan = s.plan := rfl
@[simp] theorem State.updCore_hdg (c : Fin 4) (f : Core → Core) : (s.updCore c f).hdg = s.hdg := rfl
@[simp] theorem State.updCore_sys (c : Fin 4) (f : Core → Core) : (s.updCore c f).sys = s.sys := rfl
@[simp] theorem State.updCore_memc (c : Fin 4) (f : Core → Core) : (s.updCore c f).memc = s.memc := rfl
@[simp] theorem State.updCore_banks (c : Fin 4) (f : Core → Core) : (s.updCore c f).banks = s.banks := rfl
@[simp] theorem State.updCore_lev (c : Fin 4) (f : Core → Core) : (s.updCore c f).lev = s.lev := rfl
@[simp] theorem State.updCore_shp (c : Fin 4) (f : Core → Core) : (s.updCore c f).shp = s.shp := rfl
@[simp] theorem State.updCore_trims (c : Fin 4) (f : Core → Core) : (s.updCore c f).trims = s.trims := rfl
@[simp] theorem State.updCore_conv (c : Fin 4) (f : Core → Core) : (s.updCore c f).conv = s.conv := rfl
@[simp] theorem State.updCore_dacAt (c : Fin 4) (f : Core → Core) : (s.updCore c f).dacAt = s.dacAt := rfl
@[simp] theorem State.updCore_gates (c : Fin 4) (f : Core → Core) : (s.updCore c f).gates = s.gates := rfl
@[simp] theorem State.updCore_gatesCut (c : Fin 4) (f : Core → Core) : (s.updCore c f).gatesCut = s.gatesCut := rfl
@[simp] theorem State.updCore_trigs (c : Fin 4) (f : Core → Core) : (s.updCore c f).trigs = s.trigs := rfl
@[simp] theorem State.updCore_pwm (c : Fin 4) (f : Core → Core) : (s.updCore c f).pwm = s.pwm := rfl
@[simp] theorem State.updCore_tripPins (c : Fin 4) (f : Core → Core) : (s.updCore c f).tripPins = s.tripPins := rfl
@[simp] theorem State.updCore_tmr (c : Fin 4) (f : Core → Core) : (s.updCore c f).tmr = s.tmr := rfl
@[simp] theorem State.updCore_tioIn (c : Fin 4) (f : Core → Core) : (s.updCore c f).tioIn = s.tioIn := rfl
@[simp] theorem State.updCore_rnl (c : Fin 4) (f : Core → Core) : (s.updCore c f).rnl = s.rnl := rfl
@[simp] theorem State.updCore_rioOut (c : Fin 4) (f : Core → Core) : (s.updCore c f).rioOut = s.rioOut := rfl
@[simp] theorem State.updCore_rioPins (c : Fin 4) (f : Core → Core) : (s.updCore c f).rioPins = s.rioPins := rfl
@[simp] theorem State.updCore_catch_ (c : Fin 4) (f : Core → Core) : (s.updCore c f).catch_ = s.catch_ := rfl
@[simp] theorem State.updCore_flume (c : Fin 4) (f : Core → Core) : (s.updCore c f).flume = s.flume := rfl
@[simp] theorem State.updCore_coreFrame (c : Fin 4) (f : Core → Core) : (s.updCore c f).coreFrame = s.coreFrame := rfl
@[simp] theorem State.updCore_halves (c : Fin 4) (f : Core → Core) : (s.updCore c f).halves = s.halves := rfl
@[simp] theorem State.updCore_link (c : Fin 4) (f : Core → Core) : (s.updCore c f).link = s.link := rfl
@[simp] theorem State.updCore_host (c : Fin 4) (f : Core → Core) : (s.updCore c f).host = s.host := rfl
@[simp] theorem State.updCore_flash (c : Fin 4) (f : Core → Core) : (s.updCore c f).flash = s.flash := rfl
@[simp] theorem State.updCore_tap (c : Fin 4) (f : Core → Core) : (s.updCore c f).tap = s.tap := rfl

@[simp] theorem State.updFlume_pending (c : Fin 32) (f : FlumeChan → FlumeChan) : (s.updFlume c f).pending = s.pending := rfl
@[simp] theorem State.updFlume_tick (c : Fin 32) (f : FlumeChan → FlumeChan) : (s.updFlume c f).tick = s.tick := rfl
@[simp] theorem State.updFlume_pt (c : Fin 32) (f : FlumeChan → FlumeChan) : (s.updFlume c f).pt = s.pt := rfl
@[simp] theorem State.updFlume_respData (c : Fin 32) (f : FlumeChan → FlumeChan) : (s.updFlume c f).respData = s.respData := rfl
@[simp] theorem State.updFlume_respErr (c : Fin 32) (f : FlumeChan → FlumeChan) : (s.updFlume c f).respErr = s.respErr := rfl
@[simp] theorem State.updFlume_free (c : Fin 32) (f : FlumeChan → FlumeChan) : (s.updFlume c f).free = s.free := rfl
@[simp] theorem State.updFlume_regs (c : Fin 32) (f : FlumeChan → FlumeChan) : (s.updFlume c f).regs = s.regs := rfl
@[simp] theorem State.updFlume_act (c : Fin 32) (f : FlumeChan → FlumeChan) : (s.updFlume c f).act = s.act := rfl
@[simp] theorem State.updFlume_committed (c : Fin 32) (f : FlumeChan → FlumeChan) : (s.updFlume c f).committed = s.committed := rfl
@[simp] theorem State.updFlume_inFlight (c : Fin 32) (f : FlumeChan → FlumeChan) : (s.updFlume c f).inFlight = s.inFlight := rfl
@[simp] theorem State.updFlume_mem (c : Fin 32) (f : FlumeChan → FlumeChan) : (s.updFlume c f).mem = s.mem := rfl
@[simp] theorem State.updFlume_memErr (c : Fin 32) (f : FlumeChan → FlumeChan) : (s.updFlume c f).memErr = s.memErr := rfl
@[simp] theorem State.updFlume_slotPoison (c : Fin 32) (f : FlumeChan → FlumeChan) : (s.updFlume c f).slotPoison = s.slotPoison := rfl
@[simp] theorem State.updFlume_ptab (c : Fin 32) (f : FlumeChan → FlumeChan) : (s.updFlume c f).ptab = s.ptab := rfl
@[simp] theorem State.updFlume_ptabLo (c : Fin 32) (f : FlumeChan → FlumeChan) : (s.updFlume c f).ptabLo = s.ptabLo := rfl
@[simp] theorem State.updFlume_ptabSnap (c : Fin 32) (f : FlumeChan → FlumeChan) : (s.updFlume c f).ptabSnap = s.ptabSnap := rfl
@[simp] theorem State.updFlume_dev (c : Fin 32) (f : FlumeChan → FlumeChan) : (s.updFlume c f).dev = s.dev := rfl
@[simp] theorem State.updFlume_wheels (c : Fin 32) (f : FlumeChan → FlumeChan) : (s.updFlume c f).wheels = s.wheels := rfl
@[simp] theorem State.updFlume_trk (c : Fin 32) (f : FlumeChan → FlumeChan) : (s.updFlume c f).trk = s.trk := rfl
@[simp] theorem State.updFlume_xchk (c : Fin 32) (f : FlumeChan → FlumeChan) : (s.updFlume c f).xchk = s.xchk := rfl
@[simp] theorem State.updFlume_plan (c : Fin 32) (f : FlumeChan → FlumeChan) : (s.updFlume c f).plan = s.plan := rfl
@[simp] theorem State.updFlume_hdg (c : Fin 32) (f : FlumeChan → FlumeChan) : (s.updFlume c f).hdg = s.hdg := rfl
@[simp] theorem State.updFlume_sys (c : Fin 32) (f : FlumeChan → FlumeChan) : (s.updFlume c f).sys = s.sys := rfl
@[simp] theorem State.updFlume_memc (c : Fin 32) (f : FlumeChan → FlumeChan) : (s.updFlume c f).memc = s.memc := rfl
@[simp] theorem State.updFlume_banks (c : Fin 32) (f : FlumeChan → FlumeChan) : (s.updFlume c f).banks = s.banks := rfl
@[simp] theorem State.updFlume_lev (c : Fin 32) (f : FlumeChan → FlumeChan) : (s.updFlume c f).lev = s.lev := rfl
@[simp] theorem State.updFlume_shp (c : Fin 32) (f : FlumeChan → FlumeChan) : (s.updFlume c f).shp = s.shp := rfl
@[simp] theorem State.updFlume_trims (c : Fin 32) (f : FlumeChan → FlumeChan) : (s.updFlume c f).trims = s.trims := rfl
@[simp] theorem State.updFlume_conv (c : Fin 32) (f : FlumeChan → FlumeChan) : (s.updFlume c f).conv = s.conv := rfl
@[simp] theorem State.updFlume_dacAt (c : Fin 32) (f : FlumeChan → FlumeChan) : (s.updFlume c f).dacAt = s.dacAt := rfl
@[simp] theorem State.updFlume_gates (c : Fin 32) (f : FlumeChan → FlumeChan) : (s.updFlume c f).gates = s.gates := rfl
@[simp] theorem State.updFlume_gatesCut (c : Fin 32) (f : FlumeChan → FlumeChan) : (s.updFlume c f).gatesCut = s.gatesCut := rfl
@[simp] theorem State.updFlume_trigs (c : Fin 32) (f : FlumeChan → FlumeChan) : (s.updFlume c f).trigs = s.trigs := rfl
@[simp] theorem State.updFlume_pwm (c : Fin 32) (f : FlumeChan → FlumeChan) : (s.updFlume c f).pwm = s.pwm := rfl
@[simp] theorem State.updFlume_tripPins (c : Fin 32) (f : FlumeChan → FlumeChan) : (s.updFlume c f).tripPins = s.tripPins := rfl
@[simp] theorem State.updFlume_tmr (c : Fin 32) (f : FlumeChan → FlumeChan) : (s.updFlume c f).tmr = s.tmr := rfl
@[simp] theorem State.updFlume_tioIn (c : Fin 32) (f : FlumeChan → FlumeChan) : (s.updFlume c f).tioIn = s.tioIn := rfl
@[simp] theorem State.updFlume_rnl (c : Fin 32) (f : FlumeChan → FlumeChan) : (s.updFlume c f).rnl = s.rnl := rfl
@[simp] theorem State.updFlume_rioOut (c : Fin 32) (f : FlumeChan → FlumeChan) : (s.updFlume c f).rioOut = s.rioOut := rfl
@[simp] theorem State.updFlume_rioPins (c : Fin 32) (f : FlumeChan → FlumeChan) : (s.updFlume c f).rioPins = s.rioPins := rfl
@[simp] theorem State.updFlume_catch_ (c : Fin 32) (f : FlumeChan → FlumeChan) : (s.updFlume c f).catch_ = s.catch_ := rfl
@[simp] theorem State.updFlume_cores (c : Fin 32) (f : FlumeChan → FlumeChan) : (s.updFlume c f).cores = s.cores := rfl
@[simp] theorem State.updFlume_coreFrame (c : Fin 32) (f : FlumeChan → FlumeChan) : (s.updFlume c f).coreFrame = s.coreFrame := rfl
@[simp] theorem State.updFlume_halves (c : Fin 32) (f : FlumeChan → FlumeChan) : (s.updFlume c f).halves = s.halves := rfl
@[simp] theorem State.updFlume_link (c : Fin 32) (f : FlumeChan → FlumeChan) : (s.updFlume c f).link = s.link := rfl
@[simp] theorem State.updFlume_host (c : Fin 32) (f : FlumeChan → FlumeChan) : (s.updFlume c f).host = s.host := rfl
@[simp] theorem State.updFlume_flash (c : Fin 32) (f : FlumeChan → FlumeChan) : (s.updFlume c f).flash = s.flash := rfl
@[simp] theorem State.updFlume_tap (c : Fin 32) (f : FlumeChan → FlumeChan) : (s.updFlume c f).tap = s.tap := rfl

@[simp] theorem State.updLink_pending (f : Link → Link) : (s.updLink f).pending = s.pending := rfl
@[simp] theorem State.updLink_tick (f : Link → Link) : (s.updLink f).tick = s.tick := rfl
@[simp] theorem State.updLink_pt (f : Link → Link) : (s.updLink f).pt = s.pt := rfl
@[simp] theorem State.updLink_respData (f : Link → Link) : (s.updLink f).respData = s.respData := rfl
@[simp] theorem State.updLink_respErr (f : Link → Link) : (s.updLink f).respErr = s.respErr := rfl
@[simp] theorem State.updLink_free (f : Link → Link) : (s.updLink f).free = s.free := rfl
@[simp] theorem State.updLink_regs (f : Link → Link) : (s.updLink f).regs = s.regs := rfl
@[simp] theorem State.updLink_act (f : Link → Link) : (s.updLink f).act = s.act := rfl
@[simp] theorem State.updLink_committed (f : Link → Link) : (s.updLink f).committed = s.committed := rfl
@[simp] theorem State.updLink_inFlight (f : Link → Link) : (s.updLink f).inFlight = s.inFlight := rfl
@[simp] theorem State.updLink_mem (f : Link → Link) : (s.updLink f).mem = s.mem := rfl
@[simp] theorem State.updLink_memErr (f : Link → Link) : (s.updLink f).memErr = s.memErr := rfl
@[simp] theorem State.updLink_slotPoison (f : Link → Link) : (s.updLink f).slotPoison = s.slotPoison := rfl
@[simp] theorem State.updLink_ptab (f : Link → Link) : (s.updLink f).ptab = s.ptab := rfl
@[simp] theorem State.updLink_ptabLo (f : Link → Link) : (s.updLink f).ptabLo = s.ptabLo := rfl
@[simp] theorem State.updLink_ptabSnap (f : Link → Link) : (s.updLink f).ptabSnap = s.ptabSnap := rfl
@[simp] theorem State.updLink_dev (f : Link → Link) : (s.updLink f).dev = s.dev := rfl
@[simp] theorem State.updLink_wheels (f : Link → Link) : (s.updLink f).wheels = s.wheels := rfl
@[simp] theorem State.updLink_trk (f : Link → Link) : (s.updLink f).trk = s.trk := rfl
@[simp] theorem State.updLink_xchk (f : Link → Link) : (s.updLink f).xchk = s.xchk := rfl
@[simp] theorem State.updLink_plan (f : Link → Link) : (s.updLink f).plan = s.plan := rfl
@[simp] theorem State.updLink_hdg (f : Link → Link) : (s.updLink f).hdg = s.hdg := rfl
@[simp] theorem State.updLink_sys (f : Link → Link) : (s.updLink f).sys = s.sys := rfl
@[simp] theorem State.updLink_memc (f : Link → Link) : (s.updLink f).memc = s.memc := rfl
@[simp] theorem State.updLink_banks (f : Link → Link) : (s.updLink f).banks = s.banks := rfl
@[simp] theorem State.updLink_lev (f : Link → Link) : (s.updLink f).lev = s.lev := rfl
@[simp] theorem State.updLink_shp (f : Link → Link) : (s.updLink f).shp = s.shp := rfl
@[simp] theorem State.updLink_trims (f : Link → Link) : (s.updLink f).trims = s.trims := rfl
@[simp] theorem State.updLink_conv (f : Link → Link) : (s.updLink f).conv = s.conv := rfl
@[simp] theorem State.updLink_dacAt (f : Link → Link) : (s.updLink f).dacAt = s.dacAt := rfl
@[simp] theorem State.updLink_gates (f : Link → Link) : (s.updLink f).gates = s.gates := rfl
@[simp] theorem State.updLink_gatesCut (f : Link → Link) : (s.updLink f).gatesCut = s.gatesCut := rfl
@[simp] theorem State.updLink_trigs (f : Link → Link) : (s.updLink f).trigs = s.trigs := rfl
@[simp] theorem State.updLink_pwm (f : Link → Link) : (s.updLink f).pwm = s.pwm := rfl
@[simp] theorem State.updLink_tripPins (f : Link → Link) : (s.updLink f).tripPins = s.tripPins := rfl
@[simp] theorem State.updLink_tmr (f : Link → Link) : (s.updLink f).tmr = s.tmr := rfl
@[simp] theorem State.updLink_tioIn (f : Link → Link) : (s.updLink f).tioIn = s.tioIn := rfl
@[simp] theorem State.updLink_rnl (f : Link → Link) : (s.updLink f).rnl = s.rnl := rfl
@[simp] theorem State.updLink_rioOut (f : Link → Link) : (s.updLink f).rioOut = s.rioOut := rfl
@[simp] theorem State.updLink_rioPins (f : Link → Link) : (s.updLink f).rioPins = s.rioPins := rfl
@[simp] theorem State.updLink_catch_ (f : Link → Link) : (s.updLink f).catch_ = s.catch_ := rfl
@[simp] theorem State.updLink_flume (f : Link → Link) : (s.updLink f).flume = s.flume := rfl
@[simp] theorem State.updLink_cores (f : Link → Link) : (s.updLink f).cores = s.cores := rfl
@[simp] theorem State.updLink_coreFrame (f : Link → Link) : (s.updLink f).coreFrame = s.coreFrame := rfl
@[simp] theorem State.updLink_halves (f : Link → Link) : (s.updLink f).halves = s.halves := rfl
@[simp] theorem State.updLink_host (f : Link → Link) : (s.updLink f).host = s.host := rfl
@[simp] theorem State.updLink_flash (f : Link → Link) : (s.updLink f).flash = s.flash := rfl
@[simp] theorem State.updLink_tap (f : Link → Link) : (s.updLink f).tap = s.tap := rfl

@[simp] theorem State.updPort_pending (p : Fin 2) (f : LinkPort → LinkPort) : (s.updPort p f).pending = s.pending := rfl
@[simp] theorem State.updPort_tick (p : Fin 2) (f : LinkPort → LinkPort) : (s.updPort p f).tick = s.tick := rfl
@[simp] theorem State.updPort_pt (p : Fin 2) (f : LinkPort → LinkPort) : (s.updPort p f).pt = s.pt := rfl
@[simp] theorem State.updPort_respData (p : Fin 2) (f : LinkPort → LinkPort) : (s.updPort p f).respData = s.respData := rfl
@[simp] theorem State.updPort_respErr (p : Fin 2) (f : LinkPort → LinkPort) : (s.updPort p f).respErr = s.respErr := rfl
@[simp] theorem State.updPort_free (p : Fin 2) (f : LinkPort → LinkPort) : (s.updPort p f).free = s.free := rfl
@[simp] theorem State.updPort_regs (p : Fin 2) (f : LinkPort → LinkPort) : (s.updPort p f).regs = s.regs := rfl
@[simp] theorem State.updPort_act (p : Fin 2) (f : LinkPort → LinkPort) : (s.updPort p f).act = s.act := rfl
@[simp] theorem State.updPort_committed (p : Fin 2) (f : LinkPort → LinkPort) : (s.updPort p f).committed = s.committed := rfl
@[simp] theorem State.updPort_inFlight (p : Fin 2) (f : LinkPort → LinkPort) : (s.updPort p f).inFlight = s.inFlight := rfl
@[simp] theorem State.updPort_mem (p : Fin 2) (f : LinkPort → LinkPort) : (s.updPort p f).mem = s.mem := rfl
@[simp] theorem State.updPort_memErr (p : Fin 2) (f : LinkPort → LinkPort) : (s.updPort p f).memErr = s.memErr := rfl
@[simp] theorem State.updPort_slotPoison (p : Fin 2) (f : LinkPort → LinkPort) : (s.updPort p f).slotPoison = s.slotPoison := rfl
@[simp] theorem State.updPort_ptab (p : Fin 2) (f : LinkPort → LinkPort) : (s.updPort p f).ptab = s.ptab := rfl
@[simp] theorem State.updPort_ptabLo (p : Fin 2) (f : LinkPort → LinkPort) : (s.updPort p f).ptabLo = s.ptabLo := rfl
@[simp] theorem State.updPort_ptabSnap (p : Fin 2) (f : LinkPort → LinkPort) : (s.updPort p f).ptabSnap = s.ptabSnap := rfl
@[simp] theorem State.updPort_dev (p : Fin 2) (f : LinkPort → LinkPort) : (s.updPort p f).dev = s.dev := rfl
@[simp] theorem State.updPort_wheels (p : Fin 2) (f : LinkPort → LinkPort) : (s.updPort p f).wheels = s.wheels := rfl
@[simp] theorem State.updPort_trk (p : Fin 2) (f : LinkPort → LinkPort) : (s.updPort p f).trk = s.trk := rfl
@[simp] theorem State.updPort_xchk (p : Fin 2) (f : LinkPort → LinkPort) : (s.updPort p f).xchk = s.xchk := rfl
@[simp] theorem State.updPort_plan (p : Fin 2) (f : LinkPort → LinkPort) : (s.updPort p f).plan = s.plan := rfl
@[simp] theorem State.updPort_hdg (p : Fin 2) (f : LinkPort → LinkPort) : (s.updPort p f).hdg = s.hdg := rfl
@[simp] theorem State.updPort_sys (p : Fin 2) (f : LinkPort → LinkPort) : (s.updPort p f).sys = s.sys := rfl
@[simp] theorem State.updPort_memc (p : Fin 2) (f : LinkPort → LinkPort) : (s.updPort p f).memc = s.memc := rfl
@[simp] theorem State.updPort_banks (p : Fin 2) (f : LinkPort → LinkPort) : (s.updPort p f).banks = s.banks := rfl
@[simp] theorem State.updPort_lev (p : Fin 2) (f : LinkPort → LinkPort) : (s.updPort p f).lev = s.lev := rfl
@[simp] theorem State.updPort_shp (p : Fin 2) (f : LinkPort → LinkPort) : (s.updPort p f).shp = s.shp := rfl
@[simp] theorem State.updPort_trims (p : Fin 2) (f : LinkPort → LinkPort) : (s.updPort p f).trims = s.trims := rfl
@[simp] theorem State.updPort_conv (p : Fin 2) (f : LinkPort → LinkPort) : (s.updPort p f).conv = s.conv := rfl
@[simp] theorem State.updPort_dacAt (p : Fin 2) (f : LinkPort → LinkPort) : (s.updPort p f).dacAt = s.dacAt := rfl
@[simp] theorem State.updPort_gates (p : Fin 2) (f : LinkPort → LinkPort) : (s.updPort p f).gates = s.gates := rfl
@[simp] theorem State.updPort_gatesCut (p : Fin 2) (f : LinkPort → LinkPort) : (s.updPort p f).gatesCut = s.gatesCut := rfl
@[simp] theorem State.updPort_trigs (p : Fin 2) (f : LinkPort → LinkPort) : (s.updPort p f).trigs = s.trigs := rfl
@[simp] theorem State.updPort_pwm (p : Fin 2) (f : LinkPort → LinkPort) : (s.updPort p f).pwm = s.pwm := rfl
@[simp] theorem State.updPort_tripPins (p : Fin 2) (f : LinkPort → LinkPort) : (s.updPort p f).tripPins = s.tripPins := rfl
@[simp] theorem State.updPort_tmr (p : Fin 2) (f : LinkPort → LinkPort) : (s.updPort p f).tmr = s.tmr := rfl
@[simp] theorem State.updPort_tioIn (p : Fin 2) (f : LinkPort → LinkPort) : (s.updPort p f).tioIn = s.tioIn := rfl
@[simp] theorem State.updPort_rnl (p : Fin 2) (f : LinkPort → LinkPort) : (s.updPort p f).rnl = s.rnl := rfl
@[simp] theorem State.updPort_rioOut (p : Fin 2) (f : LinkPort → LinkPort) : (s.updPort p f).rioOut = s.rioOut := rfl
@[simp] theorem State.updPort_rioPins (p : Fin 2) (f : LinkPort → LinkPort) : (s.updPort p f).rioPins = s.rioPins := rfl
@[simp] theorem State.updPort_catch_ (p : Fin 2) (f : LinkPort → LinkPort) : (s.updPort p f).catch_ = s.catch_ := rfl
@[simp] theorem State.updPort_flume (p : Fin 2) (f : LinkPort → LinkPort) : (s.updPort p f).flume = s.flume := rfl
@[simp] theorem State.updPort_cores (p : Fin 2) (f : LinkPort → LinkPort) : (s.updPort p f).cores = s.cores := rfl
@[simp] theorem State.updPort_coreFrame (p : Fin 2) (f : LinkPort → LinkPort) : (s.updPort p f).coreFrame = s.coreFrame := rfl
@[simp] theorem State.updPort_halves (p : Fin 2) (f : LinkPort → LinkPort) : (s.updPort p f).halves = s.halves := rfl
@[simp] theorem State.updPort_host (p : Fin 2) (f : LinkPort → LinkPort) : (s.updPort p f).host = s.host := rfl
@[simp] theorem State.updPort_flash (p : Fin 2) (f : LinkPort → LinkPort) : (s.updPort p f).flash = s.flash := rfl
@[simp] theorem State.updPort_tap (p : Fin 2) (f : LinkPort → LinkPort) : (s.updPort p f).tap = s.tap := rfl

@[simp] theorem State.updHost_pending (f : HostPorts → HostPorts) : (s.updHost f).pending = s.pending := rfl
@[simp] theorem State.updHost_tick (f : HostPorts → HostPorts) : (s.updHost f).tick = s.tick := rfl
@[simp] theorem State.updHost_pt (f : HostPorts → HostPorts) : (s.updHost f).pt = s.pt := rfl
@[simp] theorem State.updHost_respData (f : HostPorts → HostPorts) : (s.updHost f).respData = s.respData := rfl
@[simp] theorem State.updHost_respErr (f : HostPorts → HostPorts) : (s.updHost f).respErr = s.respErr := rfl
@[simp] theorem State.updHost_free (f : HostPorts → HostPorts) : (s.updHost f).free = s.free := rfl
@[simp] theorem State.updHost_regs (f : HostPorts → HostPorts) : (s.updHost f).regs = s.regs := rfl
@[simp] theorem State.updHost_act (f : HostPorts → HostPorts) : (s.updHost f).act = s.act := rfl
@[simp] theorem State.updHost_committed (f : HostPorts → HostPorts) : (s.updHost f).committed = s.committed := rfl
@[simp] theorem State.updHost_inFlight (f : HostPorts → HostPorts) : (s.updHost f).inFlight = s.inFlight := rfl
@[simp] theorem State.updHost_mem (f : HostPorts → HostPorts) : (s.updHost f).mem = s.mem := rfl
@[simp] theorem State.updHost_memErr (f : HostPorts → HostPorts) : (s.updHost f).memErr = s.memErr := rfl
@[simp] theorem State.updHost_slotPoison (f : HostPorts → HostPorts) : (s.updHost f).slotPoison = s.slotPoison := rfl
@[simp] theorem State.updHost_ptab (f : HostPorts → HostPorts) : (s.updHost f).ptab = s.ptab := rfl
@[simp] theorem State.updHost_ptabLo (f : HostPorts → HostPorts) : (s.updHost f).ptabLo = s.ptabLo := rfl
@[simp] theorem State.updHost_ptabSnap (f : HostPorts → HostPorts) : (s.updHost f).ptabSnap = s.ptabSnap := rfl
@[simp] theorem State.updHost_dev (f : HostPorts → HostPorts) : (s.updHost f).dev = s.dev := rfl
@[simp] theorem State.updHost_wheels (f : HostPorts → HostPorts) : (s.updHost f).wheels = s.wheels := rfl
@[simp] theorem State.updHost_trk (f : HostPorts → HostPorts) : (s.updHost f).trk = s.trk := rfl
@[simp] theorem State.updHost_xchk (f : HostPorts → HostPorts) : (s.updHost f).xchk = s.xchk := rfl
@[simp] theorem State.updHost_plan (f : HostPorts → HostPorts) : (s.updHost f).plan = s.plan := rfl
@[simp] theorem State.updHost_hdg (f : HostPorts → HostPorts) : (s.updHost f).hdg = s.hdg := rfl
@[simp] theorem State.updHost_sys (f : HostPorts → HostPorts) : (s.updHost f).sys = s.sys := rfl
@[simp] theorem State.updHost_memc (f : HostPorts → HostPorts) : (s.updHost f).memc = s.memc := rfl
@[simp] theorem State.updHost_banks (f : HostPorts → HostPorts) : (s.updHost f).banks = s.banks := rfl
@[simp] theorem State.updHost_lev (f : HostPorts → HostPorts) : (s.updHost f).lev = s.lev := rfl
@[simp] theorem State.updHost_shp (f : HostPorts → HostPorts) : (s.updHost f).shp = s.shp := rfl
@[simp] theorem State.updHost_trims (f : HostPorts → HostPorts) : (s.updHost f).trims = s.trims := rfl
@[simp] theorem State.updHost_conv (f : HostPorts → HostPorts) : (s.updHost f).conv = s.conv := rfl
@[simp] theorem State.updHost_dacAt (f : HostPorts → HostPorts) : (s.updHost f).dacAt = s.dacAt := rfl
@[simp] theorem State.updHost_gates (f : HostPorts → HostPorts) : (s.updHost f).gates = s.gates := rfl
@[simp] theorem State.updHost_gatesCut (f : HostPorts → HostPorts) : (s.updHost f).gatesCut = s.gatesCut := rfl
@[simp] theorem State.updHost_trigs (f : HostPorts → HostPorts) : (s.updHost f).trigs = s.trigs := rfl
@[simp] theorem State.updHost_pwm (f : HostPorts → HostPorts) : (s.updHost f).pwm = s.pwm := rfl
@[simp] theorem State.updHost_tripPins (f : HostPorts → HostPorts) : (s.updHost f).tripPins = s.tripPins := rfl
@[simp] theorem State.updHost_tmr (f : HostPorts → HostPorts) : (s.updHost f).tmr = s.tmr := rfl
@[simp] theorem State.updHost_tioIn (f : HostPorts → HostPorts) : (s.updHost f).tioIn = s.tioIn := rfl
@[simp] theorem State.updHost_rnl (f : HostPorts → HostPorts) : (s.updHost f).rnl = s.rnl := rfl
@[simp] theorem State.updHost_rioOut (f : HostPorts → HostPorts) : (s.updHost f).rioOut = s.rioOut := rfl
@[simp] theorem State.updHost_rioPins (f : HostPorts → HostPorts) : (s.updHost f).rioPins = s.rioPins := rfl
@[simp] theorem State.updHost_catch_ (f : HostPorts → HostPorts) : (s.updHost f).catch_ = s.catch_ := rfl
@[simp] theorem State.updHost_flume (f : HostPorts → HostPorts) : (s.updHost f).flume = s.flume := rfl
@[simp] theorem State.updHost_cores (f : HostPorts → HostPorts) : (s.updHost f).cores = s.cores := rfl
@[simp] theorem State.updHost_coreFrame (f : HostPorts → HostPorts) : (s.updHost f).coreFrame = s.coreFrame := rfl
@[simp] theorem State.updHost_halves (f : HostPorts → HostPorts) : (s.updHost f).halves = s.halves := rfl
@[simp] theorem State.updHost_link (f : HostPorts → HostPorts) : (s.updHost f).link = s.link := rfl
@[simp] theorem State.updHost_flash (f : HostPorts → HostPorts) : (s.updHost f).flash = s.flash := rfl
@[simp] theorem State.updHost_tap (f : HostPorts → HostPorts) : (s.updHost f).tap = s.tap := rfl

@[simp] theorem State.updSys_pending (f : Sys → Sys) : (s.updSys f).pending = s.pending := rfl
@[simp] theorem State.updSys_tick (f : Sys → Sys) : (s.updSys f).tick = s.tick := rfl
@[simp] theorem State.updSys_pt (f : Sys → Sys) : (s.updSys f).pt = s.pt := rfl
@[simp] theorem State.updSys_respData (f : Sys → Sys) : (s.updSys f).respData = s.respData := rfl
@[simp] theorem State.updSys_respErr (f : Sys → Sys) : (s.updSys f).respErr = s.respErr := rfl
@[simp] theorem State.updSys_free (f : Sys → Sys) : (s.updSys f).free = s.free := rfl
@[simp] theorem State.updSys_regs (f : Sys → Sys) : (s.updSys f).regs = s.regs := rfl
@[simp] theorem State.updSys_act (f : Sys → Sys) : (s.updSys f).act = s.act := rfl
@[simp] theorem State.updSys_committed (f : Sys → Sys) : (s.updSys f).committed = s.committed := rfl
@[simp] theorem State.updSys_inFlight (f : Sys → Sys) : (s.updSys f).inFlight = s.inFlight := rfl
@[simp] theorem State.updSys_mem (f : Sys → Sys) : (s.updSys f).mem = s.mem := rfl
@[simp] theorem State.updSys_memErr (f : Sys → Sys) : (s.updSys f).memErr = s.memErr := rfl
@[simp] theorem State.updSys_slotPoison (f : Sys → Sys) : (s.updSys f).slotPoison = s.slotPoison := rfl
@[simp] theorem State.updSys_ptab (f : Sys → Sys) : (s.updSys f).ptab = s.ptab := rfl
@[simp] theorem State.updSys_ptabLo (f : Sys → Sys) : (s.updSys f).ptabLo = s.ptabLo := rfl
@[simp] theorem State.updSys_ptabSnap (f : Sys → Sys) : (s.updSys f).ptabSnap = s.ptabSnap := rfl
@[simp] theorem State.updSys_dev (f : Sys → Sys) : (s.updSys f).dev = s.dev := rfl
@[simp] theorem State.updSys_wheels (f : Sys → Sys) : (s.updSys f).wheels = s.wheels := rfl
@[simp] theorem State.updSys_trk (f : Sys → Sys) : (s.updSys f).trk = s.trk := rfl
@[simp] theorem State.updSys_xchk (f : Sys → Sys) : (s.updSys f).xchk = s.xchk := rfl
@[simp] theorem State.updSys_plan (f : Sys → Sys) : (s.updSys f).plan = s.plan := rfl
@[simp] theorem State.updSys_hdg (f : Sys → Sys) : (s.updSys f).hdg = s.hdg := rfl
@[simp] theorem State.updSys_memc (f : Sys → Sys) : (s.updSys f).memc = s.memc := rfl
@[simp] theorem State.updSys_banks (f : Sys → Sys) : (s.updSys f).banks = s.banks := rfl
@[simp] theorem State.updSys_lev (f : Sys → Sys) : (s.updSys f).lev = s.lev := rfl
@[simp] theorem State.updSys_shp (f : Sys → Sys) : (s.updSys f).shp = s.shp := rfl
@[simp] theorem State.updSys_trims (f : Sys → Sys) : (s.updSys f).trims = s.trims := rfl
@[simp] theorem State.updSys_conv (f : Sys → Sys) : (s.updSys f).conv = s.conv := rfl
@[simp] theorem State.updSys_dacAt (f : Sys → Sys) : (s.updSys f).dacAt = s.dacAt := rfl
@[simp] theorem State.updSys_gates (f : Sys → Sys) : (s.updSys f).gates = s.gates := rfl
@[simp] theorem State.updSys_gatesCut (f : Sys → Sys) : (s.updSys f).gatesCut = s.gatesCut := rfl
@[simp] theorem State.updSys_trigs (f : Sys → Sys) : (s.updSys f).trigs = s.trigs := rfl
@[simp] theorem State.updSys_pwm (f : Sys → Sys) : (s.updSys f).pwm = s.pwm := rfl
@[simp] theorem State.updSys_tripPins (f : Sys → Sys) : (s.updSys f).tripPins = s.tripPins := rfl
@[simp] theorem State.updSys_tmr (f : Sys → Sys) : (s.updSys f).tmr = s.tmr := rfl
@[simp] theorem State.updSys_tioIn (f : Sys → Sys) : (s.updSys f).tioIn = s.tioIn := rfl
@[simp] theorem State.updSys_rnl (f : Sys → Sys) : (s.updSys f).rnl = s.rnl := rfl
@[simp] theorem State.updSys_rioOut (f : Sys → Sys) : (s.updSys f).rioOut = s.rioOut := rfl
@[simp] theorem State.updSys_rioPins (f : Sys → Sys) : (s.updSys f).rioPins = s.rioPins := rfl
@[simp] theorem State.updSys_catch_ (f : Sys → Sys) : (s.updSys f).catch_ = s.catch_ := rfl
@[simp] theorem State.updSys_flume (f : Sys → Sys) : (s.updSys f).flume = s.flume := rfl
@[simp] theorem State.updSys_cores (f : Sys → Sys) : (s.updSys f).cores = s.cores := rfl
@[simp] theorem State.updSys_coreFrame (f : Sys → Sys) : (s.updSys f).coreFrame = s.coreFrame := rfl
@[simp] theorem State.updSys_halves (f : Sys → Sys) : (s.updSys f).halves = s.halves := rfl
@[simp] theorem State.updSys_link (f : Sys → Sys) : (s.updSys f).link = s.link := rfl
@[simp] theorem State.updSys_host (f : Sys → Sys) : (s.updSys f).host = s.host := rfl
@[simp] theorem State.updSys_flash (f : Sys → Sys) : (s.updSys f).flash = s.flash := rfl
@[simp] theorem State.updSys_tap (f : Sys → Sys) : (s.updSys f).tap = s.tap := rfl

@[simp] theorem State.pendCommit_pending (w : ActsAt) (a : Nat) (v : Word) : (s.pendCommit w a v).pending = s.pending := rfl
@[simp] theorem State.pendCommit_tick (w : ActsAt) (a : Nat) (v : Word) : (s.pendCommit w a v).tick = s.tick := rfl
@[simp] theorem State.pendCommit_pt (w : ActsAt) (a : Nat) (v : Word) : (s.pendCommit w a v).pt = s.pt := rfl
@[simp] theorem State.pendCommit_respData (w : ActsAt) (a : Nat) (v : Word) : (s.pendCommit w a v).respData = s.respData := rfl
@[simp] theorem State.pendCommit_respErr (w : ActsAt) (a : Nat) (v : Word) : (s.pendCommit w a v).respErr = s.respErr := rfl
@[simp] theorem State.pendCommit_free (w : ActsAt) (a : Nat) (v : Word) : (s.pendCommit w a v).free = s.free := rfl
@[simp] theorem State.pendCommit_regs (w : ActsAt) (a : Nat) (v : Word) : (s.pendCommit w a v).regs = s.regs := rfl
@[simp] theorem State.pendCommit_act (w : ActsAt) (a : Nat) (v : Word) : (s.pendCommit w a v).act = s.act := rfl
@[simp] theorem State.pendCommit_inFlight (w : ActsAt) (a : Nat) (v : Word) : (s.pendCommit w a v).inFlight = s.inFlight := rfl
@[simp] theorem State.pendCommit_mem (w : ActsAt) (a : Nat) (v : Word) : (s.pendCommit w a v).mem = s.mem := rfl
@[simp] theorem State.pendCommit_memErr (w : ActsAt) (a : Nat) (v : Word) : (s.pendCommit w a v).memErr = s.memErr := rfl
@[simp] theorem State.pendCommit_slotPoison (w : ActsAt) (a : Nat) (v : Word) : (s.pendCommit w a v).slotPoison = s.slotPoison := rfl
@[simp] theorem State.pendCommit_ptab (w : ActsAt) (a : Nat) (v : Word) : (s.pendCommit w a v).ptab = s.ptab := rfl
@[simp] theorem State.pendCommit_ptabLo (w : ActsAt) (a : Nat) (v : Word) : (s.pendCommit w a v).ptabLo = s.ptabLo := rfl
@[simp] theorem State.pendCommit_ptabSnap (w : ActsAt) (a : Nat) (v : Word) : (s.pendCommit w a v).ptabSnap = s.ptabSnap := rfl
@[simp] theorem State.pendCommit_dev (w : ActsAt) (a : Nat) (v : Word) : (s.pendCommit w a v).dev = s.dev := rfl
@[simp] theorem State.pendCommit_wheels (w : ActsAt) (a : Nat) (v : Word) : (s.pendCommit w a v).wheels = s.wheels := rfl
@[simp] theorem State.pendCommit_trk (w : ActsAt) (a : Nat) (v : Word) : (s.pendCommit w a v).trk = s.trk := rfl
@[simp] theorem State.pendCommit_xchk (w : ActsAt) (a : Nat) (v : Word) : (s.pendCommit w a v).xchk = s.xchk := rfl
@[simp] theorem State.pendCommit_plan (w : ActsAt) (a : Nat) (v : Word) : (s.pendCommit w a v).plan = s.plan := rfl
@[simp] theorem State.pendCommit_hdg (w : ActsAt) (a : Nat) (v : Word) : (s.pendCommit w a v).hdg = s.hdg := rfl
@[simp] theorem State.pendCommit_sys (w : ActsAt) (a : Nat) (v : Word) : (s.pendCommit w a v).sys = s.sys := rfl
@[simp] theorem State.pendCommit_memc (w : ActsAt) (a : Nat) (v : Word) : (s.pendCommit w a v).memc = s.memc := rfl
@[simp] theorem State.pendCommit_banks (w : ActsAt) (a : Nat) (v : Word) : (s.pendCommit w a v).banks = s.banks := rfl
@[simp] theorem State.pendCommit_lev (w : ActsAt) (a : Nat) (v : Word) : (s.pendCommit w a v).lev = s.lev := rfl
@[simp] theorem State.pendCommit_shp (w : ActsAt) (a : Nat) (v : Word) : (s.pendCommit w a v).shp = s.shp := rfl
@[simp] theorem State.pendCommit_trims (w : ActsAt) (a : Nat) (v : Word) : (s.pendCommit w a v).trims = s.trims := rfl
@[simp] theorem State.pendCommit_conv (w : ActsAt) (a : Nat) (v : Word) : (s.pendCommit w a v).conv = s.conv := rfl
@[simp] theorem State.pendCommit_dacAt (w : ActsAt) (a : Nat) (v : Word) : (s.pendCommit w a v).dacAt = s.dacAt := rfl
@[simp] theorem State.pendCommit_gates (w : ActsAt) (a : Nat) (v : Word) : (s.pendCommit w a v).gates = s.gates := rfl
@[simp] theorem State.pendCommit_gatesCut (w : ActsAt) (a : Nat) (v : Word) : (s.pendCommit w a v).gatesCut = s.gatesCut := rfl
@[simp] theorem State.pendCommit_trigs (w : ActsAt) (a : Nat) (v : Word) : (s.pendCommit w a v).trigs = s.trigs := rfl
@[simp] theorem State.pendCommit_pwm (w : ActsAt) (a : Nat) (v : Word) : (s.pendCommit w a v).pwm = s.pwm := rfl
@[simp] theorem State.pendCommit_tripPins (w : ActsAt) (a : Nat) (v : Word) : (s.pendCommit w a v).tripPins = s.tripPins := rfl
@[simp] theorem State.pendCommit_tmr (w : ActsAt) (a : Nat) (v : Word) : (s.pendCommit w a v).tmr = s.tmr := rfl
@[simp] theorem State.pendCommit_tioIn (w : ActsAt) (a : Nat) (v : Word) : (s.pendCommit w a v).tioIn = s.tioIn := rfl
@[simp] theorem State.pendCommit_rnl (w : ActsAt) (a : Nat) (v : Word) : (s.pendCommit w a v).rnl = s.rnl := rfl
@[simp] theorem State.pendCommit_rioOut (w : ActsAt) (a : Nat) (v : Word) : (s.pendCommit w a v).rioOut = s.rioOut := rfl
@[simp] theorem State.pendCommit_rioPins (w : ActsAt) (a : Nat) (v : Word) : (s.pendCommit w a v).rioPins = s.rioPins := rfl
@[simp] theorem State.pendCommit_catch_ (w : ActsAt) (a : Nat) (v : Word) : (s.pendCommit w a v).catch_ = s.catch_ := rfl
@[simp] theorem State.pendCommit_flume (w : ActsAt) (a : Nat) (v : Word) : (s.pendCommit w a v).flume = s.flume := rfl
@[simp] theorem State.pendCommit_cores (w : ActsAt) (a : Nat) (v : Word) : (s.pendCommit w a v).cores = s.cores := rfl
@[simp] theorem State.pendCommit_coreFrame (w : ActsAt) (a : Nat) (v : Word) : (s.pendCommit w a v).coreFrame = s.coreFrame := rfl
@[simp] theorem State.pendCommit_halves (w : ActsAt) (a : Nat) (v : Word) : (s.pendCommit w a v).halves = s.halves := rfl
@[simp] theorem State.pendCommit_link (w : ActsAt) (a : Nat) (v : Word) : (s.pendCommit w a v).link = s.link := rfl
@[simp] theorem State.pendCommit_host (w : ActsAt) (a : Nat) (v : Word) : (s.pendCommit w a v).host = s.host := rfl
@[simp] theorem State.pendCommit_flash (w : ActsAt) (a : Nat) (v : Word) : (s.pendCommit w a v).flash = s.flash := rfl
@[simp] theorem State.pendCommit_tap (w : ActsAt) (a : Nat) (v : Word) : (s.pendCommit w a v).tap = s.tap := rfl

@[simp] theorem State.sendTrig_pending (d n : Nat) : (s.sendTrig d n).pending = s.pending := rfl
@[simp] theorem State.sendTrig_tick (d n : Nat) : (s.sendTrig d n).tick = s.tick := rfl
@[simp] theorem State.sendTrig_pt (d n : Nat) : (s.sendTrig d n).pt = s.pt := rfl
@[simp] theorem State.sendTrig_respData (d n : Nat) : (s.sendTrig d n).respData = s.respData := rfl
@[simp] theorem State.sendTrig_respErr (d n : Nat) : (s.sendTrig d n).respErr = s.respErr := rfl
@[simp] theorem State.sendTrig_free (d n : Nat) : (s.sendTrig d n).free = s.free := rfl
@[simp] theorem State.sendTrig_regs (d n : Nat) : (s.sendTrig d n).regs = s.regs := rfl
@[simp] theorem State.sendTrig_act (d n : Nat) : (s.sendTrig d n).act = s.act := rfl
@[simp] theorem State.sendTrig_committed (d n : Nat) : (s.sendTrig d n).committed = s.committed := rfl
@[simp] theorem State.sendTrig_inFlight (d n : Nat) : (s.sendTrig d n).inFlight = s.inFlight := rfl
@[simp] theorem State.sendTrig_mem (d n : Nat) : (s.sendTrig d n).mem = s.mem := rfl
@[simp] theorem State.sendTrig_memErr (d n : Nat) : (s.sendTrig d n).memErr = s.memErr := rfl
@[simp] theorem State.sendTrig_slotPoison (d n : Nat) : (s.sendTrig d n).slotPoison = s.slotPoison := rfl
@[simp] theorem State.sendTrig_ptab (d n : Nat) : (s.sendTrig d n).ptab = s.ptab := rfl
@[simp] theorem State.sendTrig_ptabLo (d n : Nat) : (s.sendTrig d n).ptabLo = s.ptabLo := rfl
@[simp] theorem State.sendTrig_ptabSnap (d n : Nat) : (s.sendTrig d n).ptabSnap = s.ptabSnap := rfl
@[simp] theorem State.sendTrig_dev (d n : Nat) : (s.sendTrig d n).dev = s.dev := rfl
@[simp] theorem State.sendTrig_wheels (d n : Nat) : (s.sendTrig d n).wheels = s.wheels := rfl
@[simp] theorem State.sendTrig_trk (d n : Nat) : (s.sendTrig d n).trk = s.trk := rfl
@[simp] theorem State.sendTrig_xchk (d n : Nat) : (s.sendTrig d n).xchk = s.xchk := rfl
@[simp] theorem State.sendTrig_plan (d n : Nat) : (s.sendTrig d n).plan = s.plan := rfl
@[simp] theorem State.sendTrig_hdg (d n : Nat) : (s.sendTrig d n).hdg = s.hdg := rfl
@[simp] theorem State.sendTrig_sys (d n : Nat) : (s.sendTrig d n).sys = s.sys := rfl
@[simp] theorem State.sendTrig_memc (d n : Nat) : (s.sendTrig d n).memc = s.memc := rfl
@[simp] theorem State.sendTrig_banks (d n : Nat) : (s.sendTrig d n).banks = s.banks := rfl
@[simp] theorem State.sendTrig_lev (d n : Nat) : (s.sendTrig d n).lev = s.lev := rfl
@[simp] theorem State.sendTrig_shp (d n : Nat) : (s.sendTrig d n).shp = s.shp := rfl
@[simp] theorem State.sendTrig_trims (d n : Nat) : (s.sendTrig d n).trims = s.trims := rfl
@[simp] theorem State.sendTrig_conv (d n : Nat) : (s.sendTrig d n).conv = s.conv := rfl
@[simp] theorem State.sendTrig_dacAt (d n : Nat) : (s.sendTrig d n).dacAt = s.dacAt := rfl
@[simp] theorem State.sendTrig_gates (d n : Nat) : (s.sendTrig d n).gates = s.gates := rfl
@[simp] theorem State.sendTrig_gatesCut (d n : Nat) : (s.sendTrig d n).gatesCut = s.gatesCut := rfl
@[simp] theorem State.sendTrig_pwm (d n : Nat) : (s.sendTrig d n).pwm = s.pwm := rfl
@[simp] theorem State.sendTrig_tripPins (d n : Nat) : (s.sendTrig d n).tripPins = s.tripPins := rfl
@[simp] theorem State.sendTrig_tmr (d n : Nat) : (s.sendTrig d n).tmr = s.tmr := rfl
@[simp] theorem State.sendTrig_tioIn (d n : Nat) : (s.sendTrig d n).tioIn = s.tioIn := rfl
@[simp] theorem State.sendTrig_rnl (d n : Nat) : (s.sendTrig d n).rnl = s.rnl := rfl
@[simp] theorem State.sendTrig_rioOut (d n : Nat) : (s.sendTrig d n).rioOut = s.rioOut := rfl
@[simp] theorem State.sendTrig_rioPins (d n : Nat) : (s.sendTrig d n).rioPins = s.rioPins := rfl
@[simp] theorem State.sendTrig_catch_ (d n : Nat) : (s.sendTrig d n).catch_ = s.catch_ := rfl
@[simp] theorem State.sendTrig_flume (d n : Nat) : (s.sendTrig d n).flume = s.flume := rfl
@[simp] theorem State.sendTrig_cores (d n : Nat) : (s.sendTrig d n).cores = s.cores := rfl
@[simp] theorem State.sendTrig_coreFrame (d n : Nat) : (s.sendTrig d n).coreFrame = s.coreFrame := rfl
@[simp] theorem State.sendTrig_halves (d n : Nat) : (s.sendTrig d n).halves = s.halves := rfl
@[simp] theorem State.sendTrig_link (d n : Nat) : (s.sendTrig d n).link = s.link := rfl
@[simp] theorem State.sendTrig_host (d n : Nat) : (s.sendTrig d n).host = s.host := rfl
@[simp] theorem State.sendTrig_flash (d n : Nat) : (s.sendTrig d n).flash = s.flash := rfl
@[simp] theorem State.sendTrig_tap (d n : Nat) : (s.sendTrig d n).tap = s.tap := rfl

@[simp] theorem State.takeTrig_pending (d : Nat) : (s.takeTrig d).pending = s.pending := by unfold State.takeTrig; split <;> rfl
@[simp] theorem State.takeTrig_tick (d : Nat) : (s.takeTrig d).tick = s.tick := by unfold State.takeTrig; split <;> rfl
@[simp] theorem State.takeTrig_pt (d : Nat) : (s.takeTrig d).pt = s.pt := by unfold State.takeTrig; split <;> rfl
@[simp] theorem State.takeTrig_respData (d : Nat) : (s.takeTrig d).respData = s.respData := by unfold State.takeTrig; split <;> rfl
@[simp] theorem State.takeTrig_respErr (d : Nat) : (s.takeTrig d).respErr = s.respErr := by unfold State.takeTrig; split <;> rfl
@[simp] theorem State.takeTrig_free (d : Nat) : (s.takeTrig d).free = s.free := by unfold State.takeTrig; split <;> rfl
@[simp] theorem State.takeTrig_regs (d : Nat) : (s.takeTrig d).regs = s.regs := by unfold State.takeTrig; split <;> rfl
@[simp] theorem State.takeTrig_act (d : Nat) : (s.takeTrig d).act = s.act := by unfold State.takeTrig; split <;> rfl
@[simp] theorem State.takeTrig_committed (d : Nat) : (s.takeTrig d).committed = s.committed := by unfold State.takeTrig; split <;> rfl
@[simp] theorem State.takeTrig_inFlight (d : Nat) : (s.takeTrig d).inFlight = s.inFlight := by unfold State.takeTrig; split <;> rfl
@[simp] theorem State.takeTrig_mem (d : Nat) : (s.takeTrig d).mem = s.mem := by unfold State.takeTrig; split <;> rfl
@[simp] theorem State.takeTrig_memErr (d : Nat) : (s.takeTrig d).memErr = s.memErr := by unfold State.takeTrig; split <;> rfl
@[simp] theorem State.takeTrig_slotPoison (d : Nat) : (s.takeTrig d).slotPoison = s.slotPoison := by unfold State.takeTrig; split <;> rfl
@[simp] theorem State.takeTrig_ptab (d : Nat) : (s.takeTrig d).ptab = s.ptab := by unfold State.takeTrig; split <;> rfl
@[simp] theorem State.takeTrig_ptabLo (d : Nat) : (s.takeTrig d).ptabLo = s.ptabLo := by unfold State.takeTrig; split <;> rfl
@[simp] theorem State.takeTrig_ptabSnap (d : Nat) : (s.takeTrig d).ptabSnap = s.ptabSnap := by unfold State.takeTrig; split <;> rfl
@[simp] theorem State.takeTrig_dev (d : Nat) : (s.takeTrig d).dev = s.dev := by unfold State.takeTrig; split <;> rfl
@[simp] theorem State.takeTrig_wheels (d : Nat) : (s.takeTrig d).wheels = s.wheels := by unfold State.takeTrig; split <;> rfl
@[simp] theorem State.takeTrig_trk (d : Nat) : (s.takeTrig d).trk = s.trk := by unfold State.takeTrig; split <;> rfl
@[simp] theorem State.takeTrig_xchk (d : Nat) : (s.takeTrig d).xchk = s.xchk := by unfold State.takeTrig; split <;> rfl
@[simp] theorem State.takeTrig_plan (d : Nat) : (s.takeTrig d).plan = s.plan := by unfold State.takeTrig; split <;> rfl
@[simp] theorem State.takeTrig_hdg (d : Nat) : (s.takeTrig d).hdg = s.hdg := by unfold State.takeTrig; split <;> rfl
@[simp] theorem State.takeTrig_sys (d : Nat) : (s.takeTrig d).sys = s.sys := by unfold State.takeTrig; split <;> rfl
@[simp] theorem State.takeTrig_memc (d : Nat) : (s.takeTrig d).memc = s.memc := by unfold State.takeTrig; split <;> rfl
@[simp] theorem State.takeTrig_banks (d : Nat) : (s.takeTrig d).banks = s.banks := by unfold State.takeTrig; split <;> rfl
@[simp] theorem State.takeTrig_lev (d : Nat) : (s.takeTrig d).lev = s.lev := by unfold State.takeTrig; split <;> rfl
@[simp] theorem State.takeTrig_shp (d : Nat) : (s.takeTrig d).shp = s.shp := by unfold State.takeTrig; split <;> rfl
@[simp] theorem State.takeTrig_trims (d : Nat) : (s.takeTrig d).trims = s.trims := by unfold State.takeTrig; split <;> rfl
@[simp] theorem State.takeTrig_conv (d : Nat) : (s.takeTrig d).conv = s.conv := by unfold State.takeTrig; split <;> rfl
@[simp] theorem State.takeTrig_dacAt (d : Nat) : (s.takeTrig d).dacAt = s.dacAt := by unfold State.takeTrig; split <;> rfl
@[simp] theorem State.takeTrig_gates (d : Nat) : (s.takeTrig d).gates = s.gates := by unfold State.takeTrig; split <;> rfl
@[simp] theorem State.takeTrig_gatesCut (d : Nat) : (s.takeTrig d).gatesCut = s.gatesCut := by unfold State.takeTrig; split <;> rfl
@[simp] theorem State.takeTrig_pwm (d : Nat) : (s.takeTrig d).pwm = s.pwm := by unfold State.takeTrig; split <;> rfl
@[simp] theorem State.takeTrig_tripPins (d : Nat) : (s.takeTrig d).tripPins = s.tripPins := by unfold State.takeTrig; split <;> rfl
@[simp] theorem State.takeTrig_tmr (d : Nat) : (s.takeTrig d).tmr = s.tmr := by unfold State.takeTrig; split <;> rfl
@[simp] theorem State.takeTrig_tioIn (d : Nat) : (s.takeTrig d).tioIn = s.tioIn := by unfold State.takeTrig; split <;> rfl
@[simp] theorem State.takeTrig_rnl (d : Nat) : (s.takeTrig d).rnl = s.rnl := by unfold State.takeTrig; split <;> rfl
@[simp] theorem State.takeTrig_rioOut (d : Nat) : (s.takeTrig d).rioOut = s.rioOut := by unfold State.takeTrig; split <;> rfl
@[simp] theorem State.takeTrig_rioPins (d : Nat) : (s.takeTrig d).rioPins = s.rioPins := by unfold State.takeTrig; split <;> rfl
@[simp] theorem State.takeTrig_catch_ (d : Nat) : (s.takeTrig d).catch_ = s.catch_ := by unfold State.takeTrig; split <;> rfl
@[simp] theorem State.takeTrig_flume (d : Nat) : (s.takeTrig d).flume = s.flume := by unfold State.takeTrig; split <;> rfl
@[simp] theorem State.takeTrig_cores (d : Nat) : (s.takeTrig d).cores = s.cores := by unfold State.takeTrig; split <;> rfl
@[simp] theorem State.takeTrig_coreFrame (d : Nat) : (s.takeTrig d).coreFrame = s.coreFrame := by unfold State.takeTrig; split <;> rfl
@[simp] theorem State.takeTrig_halves (d : Nat) : (s.takeTrig d).halves = s.halves := by unfold State.takeTrig; split <;> rfl
@[simp] theorem State.takeTrig_link (d : Nat) : (s.takeTrig d).link = s.link := by unfold State.takeTrig; split <;> rfl
@[simp] theorem State.takeTrig_host (d : Nat) : (s.takeTrig d).host = s.host := by unfold State.takeTrig; split <;> rfl
@[simp] theorem State.takeTrig_flash (d : Nat) : (s.takeTrig d).flash = s.flash := by unfold State.takeTrig; split <;> rfl
@[simp] theorem State.takeTrig_tap (d : Nat) : (s.takeTrig d).tap = s.tap := by unfold State.takeTrig; split <;> rfl

/-! ## The field an update writes -/

@[simp] theorem State.updWheel_self (w : Fin 4) (f : Wheel → Wheel) : (s.updWheel w f).wheels[w] = f s.wheels[w] := by simp [State.updWheel]

theorem State.updWheel_ne {w j : Fin 4} (h : j ≠ w) (f : Wheel → Wheel) : (s.updWheel w f).wheels[j] = s.wheels[j] := by
  have : (w : Nat) ≠ j := fun e => h (Fin.ext e.symm)
  simp [State.updWheel, this]

@[simp] theorem State.updTrk_self (t : Fin 2) (f : Tracker → Tracker) : (s.updTrk t f).trk[t] = f s.trk[t] := by simp [State.updTrk]

theorem State.updTrk_ne {t j : Fin 2} (h : j ≠ t) (f : Tracker → Tracker) : (s.updTrk t f).trk[j] = s.trk[j] := by
  have : (t : Nat) ≠ j := fun e => h (Fin.ext e.symm)
  simp [State.updTrk, this]

@[simp] theorem State.updPlan_self (f : Plan → Plan) : (s.updPlan f).plan = f s.plan := rfl

@[simp] theorem State.updHdg_self (f : Headgate → Headgate) : (s.updHdg f).hdg = f s.hdg := rfl

@[simp] theorem State.updDev_self (f : Device → Device) : (s.updDev f).dev = f s.dev := rfl

@[simp] theorem State.updBank_self (b : Fin 16) (f : Bank → Bank) : (s.updBank b f).banks[b] = f s.banks[b] := by simp [State.updBank]

theorem State.updBank_ne {b j : Fin 16} (h : j ≠ b) (f : Bank → Bank) : (s.updBank b f).banks[j] = s.banks[j] := by
  have : (b : Nat) ≠ j := fun e => h (Fin.ext e.symm)
  simp [State.updBank, this]

@[simp] theorem State.updShp_self (b : Fin 16) (f : Shaper → Shaper) : (s.updShp b f).shp[b] = f s.shp[b] := by simp [State.updShp]

theorem State.updShp_ne {b j : Fin 16} (h : j ≠ b) (f : Shaper → Shaper) : (s.updShp b f).shp[j] = s.shp[j] := by
  have : (b : Nat) ≠ j := fun e => h (Fin.ext e.symm)
  simp [State.updShp, this]

@[simp] theorem State.updConv_self (k : Fin 4) (f : Converter → Converter) : (s.updConv k f).conv[k] = f s.conv[k] := by simp [State.updConv]

theorem State.updConv_ne {k j : Fin 4} (h : j ≠ k) (f : Converter → Converter) : (s.updConv k f).conv[j] = s.conv[j] := by
  have : (k : Nat) ≠ j := fun e => h (Fin.ext e.symm)
  simp [State.updConv, this]

@[simp] theorem State.updPwm_self (n : Fin 16) (f : PwmGen → PwmGen) : (s.updPwm n f).pwm[n] = f s.pwm[n] := by simp [State.updPwm]

theorem State.updPwm_ne {n j : Fin 16} (h : j ≠ n) (f : PwmGen → PwmGen) : (s.updPwm n f).pwm[j] = s.pwm[j] := by
  have : (n : Nat) ≠ j := fun e => h (Fin.ext e.symm)
  simp [State.updPwm, this]

@[simp] theorem State.updTmr_self (n : Fin 16) (f : Timer → Timer) : (s.updTmr n f).tmr[n] = f s.tmr[n] := by simp [State.updTmr]

theorem State.updTmr_ne {n j : Fin 16} (h : j ≠ n) (f : Timer → Timer) : (s.updTmr n f).tmr[j] = s.tmr[j] := by
  have : (n : Nat) ≠ j := fun e => h (Fin.ext e.symm)
  simp [State.updTmr, this]

@[simp] theorem State.updRnl_self (e : Fin 8) (f : Runnel → Runnel) : (s.updRnl e f).rnl[e] = f s.rnl[e] := by simp [State.updRnl]

theorem State.updRnl_ne {e j : Fin 8} (h : j ≠ e) (f : Runnel → Runnel) : (s.updRnl e f).rnl[j] = s.rnl[j] := by
  have : (e : Nat) ≠ j := fun e => h (Fin.ext e.symm)
  simp [State.updRnl, this]

@[simp] theorem State.updCore_self (c : Fin 4) (f : Core → Core) : (s.updCore c f).cores[c] = f s.cores[c] := by simp [State.updCore]

theorem State.updCore_ne {c j : Fin 4} (h : j ≠ c) (f : Core → Core) : (s.updCore c f).cores[j] = s.cores[j] := by
  have : (c : Nat) ≠ j := fun e => h (Fin.ext e.symm)
  simp [State.updCore, this]

@[simp] theorem State.updFlume_self (c : Fin 32) (f : FlumeChan → FlumeChan) : (s.updFlume c f).flume[c] = f s.flume[c] := by simp [State.updFlume]

theorem State.updFlume_ne {c j : Fin 32} (h : j ≠ c) (f : FlumeChan → FlumeChan) : (s.updFlume c f).flume[j] = s.flume[j] := by
  have : (c : Nat) ≠ j := fun e => h (Fin.ext e.symm)
  simp [State.updFlume, this]

@[simp] theorem State.updLink_self (f : Link → Link) : (s.updLink f).link = f s.link := rfl

@[simp] theorem State.updPort_ports_self (p : Fin 2) (f : LinkPort → LinkPort) : (s.updPort p f).link.ports[p] = f s.link.ports[p] := by
  simp [State.updPort, State.updLink]

@[simp] theorem State.updHost_self (f : HostPorts → HostPorts) : (s.updHost f).host = f s.host := rfl

@[simp] theorem State.updSys_self (f : Sys → Sys) : (s.updSys f).sys = f s.sys := rfl

@[simp] theorem State.sendTrig_self (d n : Nat) : (s.sendTrig d n).trigs = s.trigs ++ [⟨d, s.pt + n⟩] := rfl

end Sys2Proof.Machine
end

