-- ==== Sys2Proof/Laws/Tables.lean ====
section
/-! SUPPORT. Tables: reading after a write, and the canonical form that every write keeps. -/

namespace Sys2Proof.Machine

variable {α : Type}

/-- Every key of a table is at least k. -/
def keysFrom (k : Nat) (t : List (Nat × α)) : Prop := ∀ e ∈ t, k ≤ e.1

/-- The canonical form, said recursively: the head is no default and all later keys are greater. -/
theorem tableWf_cons [DecidableEq α] (d : Nat → α) (k : Nat) (v : α) (t : List (Nat × α)) :
    tableWf d ((k, v) :: t) = true ↔ v ≠ d k ∧ keysFrom (k + 1) t ∧ tableWf d t = true := by
  induction t generalizing k v with
  | nil => simp [tableWf, keysFrom]
  | cons e t ih =>
    obtain ⟨k', v'⟩ := e
    have h := ih k' v'
    simp only [tableWf, Bool.and_eq_true, bne_iff_ne, ne_eq, decide_eq_true_eq] at *
    constructor
    · rintro ⟨⟨hv, hk⟩, ht⟩
      refine ⟨hv, ?_, ht⟩
      intro e he
      rcases List.mem_cons.1 he with rfl | he
      · exact hk
      · have := (h.1 ht).2.1 e he
        omega
    · rintro ⟨hv, hk, ht⟩
      exact ⟨⟨hv, hk (k', v') (by simp)⟩, ht⟩

theorem keysFrom_filter {k : Nat} {t : List (Nat × α)} (p : Nat × α → Bool) (h : keysFrom k t) : keysFrom k (t.filter p) :=
  fun e he => h e (List.mem_of_mem_filter he)

theorem keysFrom_mono {j k : Nat} {t : List (Nat × α)} (hjk : j ≤ k) (h : keysFrom k t) : keysFrom j t :=
  fun e he => le_trans hjk (h e he)

/-- Taking entries out keeps the canonical form. -/
theorem tableWf_filter [DecidableEq α] {d : Nat → α} {t : List (Nat × α)} (p : Nat × α → Bool) (h : tableWf d t = true) :
    tableWf d (t.filter p) = true := by
  induction t with
  | nil => exact h
  | cons e t ih =>
    obtain ⟨k, v⟩ := e
    obtain ⟨hv, hk, ht⟩ := (tableWf_cons d k v t).1 h
    by_cases hp : p (k, v)
    · rw [List.filter_cons_of_pos hp]
      exact (tableWf_cons d k v _).2 ⟨hv, keysFrom_filter p hk, ih ht⟩
    · rw [List.filter_cons_of_neg hp]
      exact ih ht

theorem tableWf_tdel [DecidableEq α] {d : Nat → α} {t : List (Nat × α)} (q : Nat) (h : tableWf d t = true) :
    tableWf d (tdel t q) = true := tableWf_filter _ h

theorem keysFrom_tins {k q : Nat} {v : α} {t : List (Nat × α)} (hq : k ≤ q) (h : keysFrom k t) : keysFrom k (tins t q v) := by
  induction t with
  | nil => intro e he; simp [tins] at he; subst he; exact hq
  | cons e t ih =>
    obtain ⟨k', w⟩ := e
    have ht : keysFrom k t := fun e he => h e (List.mem_cons_of_mem _ he)
    unfold tins
    split
    · intro e he
      rcases List.mem_cons.1 he with rfl | he
      · exact hq
      · exact h e he
    · intro e he
      rcases List.mem_cons.1 he with rfl | he
      · exact h _ (by simp)
      · exact ih ht e he

/-- Putting a value that is no default at a key that stands nowhere keeps the canonical form. -/
theorem tableWf_tins [DecidableEq α] {d : Nat → α} {t : List (Nat × α)} {q : Nat} {v : α} (hv : v ≠ d q)
    (hq : ∀ e ∈ t, e.1 ≠ q) (h : tableWf d t = true) : tableWf d (tins t q v) = true := by
  induction t with
  | nil => simp [tins, tableWf, hv]
  | cons e t ih =>
    obtain ⟨k, w⟩ := e
    obtain ⟨hw, hk, ht⟩ := (tableWf_cons d k w t).1 h
    unfold tins
    split
    · rename_i hlt
      refine (tableWf_cons d q v _).2 ⟨hv, ?_, h⟩
      intro e he
      rcases List.mem_cons.1 he with rfl | he
      · exact hlt
      · have := hk e he; omega
    · rename_i hge
      have hne : k ≠ q := hq (k, w) (by simp)
      refine (tableWf_cons d k w _).2 ⟨hw, keysFrom_tins (by omega) hk, ?_⟩
      exact ih (fun e he => hq e (List.mem_cons_of_mem _ he)) ht

/-- A write keeps the canonical form. -/
theorem tableWf_tset [DecidableEq α] {d : Nat → α} {t : List (Nat × α)} (q : Nat) (v : α) (h : tableWf d t = true) :
    tableWf d (tset t q v (d q)) = true := by
  unfold tset
  split
  · exact tableWf_tdel q h
  · rename_i hv
    refine tableWf_tins hv ?_ (tableWf_tdel q h)
    intro e he
    simpa using (List.mem_filter.1 he).2

/-- Taking a key out leaves every other key's value alone. -/
theorem tget_tdel_ne (t : List (Nat × α)) {q r : Nat} (d : α) (h : r ≠ q) : tget (tdel t q) r d = tget t r d := by
  induction t with
  | nil => rfl
  | cons e t ih =>
    obtain ⟨k, v⟩ := e
    unfold tdel at *
    by_cases hk : k = q
    · subst hk
      simp [tget, ih, Ne.symm h]
    · simp [hk, tget, ih]

/-- A key taken out reads as the default. -/
theorem tget_tdel_eq (t : List (Nat × α)) (q : Nat) (d : α) : tget (tdel t q) q d = d := by
  induction t with
  | nil => rfl
  | cons e t ih =>
    obtain ⟨k, v⟩ := e
    unfold tdel at *
    by_cases hk : k = q
    · subst hk
      simpa using ih
    · simp [hk, tget, ih]

theorem tget_tins_ne (t : List (Nat × α)) {q r : Nat} (v d : α) (h : r ≠ q) : tget (tins t q v) r d = tget t r d := by
  induction t with
  | nil => simp [tins, tget, Ne.symm h]
  | cons e t ih =>
    obtain ⟨k, w⟩ := e
    unfold tins
    split
    · simp [tget, Ne.symm h]
    · simp [tget, ih]

theorem tget_tins_eq (t : List (Nat × α)) (q : Nat) (v d : α) (hq : ∀ e ∈ t, e.1 ≠ q) : tget (tins t q v) q d = v := by
  induction t with
  | nil => simp [tins, tget]
  | cons e t ih =>
    obtain ⟨k, w⟩ := e
    have hne : k ≠ q := hq (k, w) (by simp)
    unfold tins
    split
    · simp [tget]
    · simp [tget, hne, ih (fun e he => hq e (List.mem_cons_of_mem _ he))]

/-- Reading back what was written. -/
@[simp] theorem tget_tset_eq [DecidableEq α] (t : List (Nat × α)) (q : Nat) (v d : α) : tget (tset t q v d) q d = v := by
  unfold tset
  split
  · rename_i h; rw [tget_tdel_eq, h]
  · refine tget_tins_eq _ q v d (fun e he => ?_)
    simpa using (List.mem_filter.1 he).2

/-- A write leaves every other key's value alone. -/
@[simp] theorem tget_tset_ne [DecidableEq α] (t : List (Nat × α)) {q r : Nat} (v d d' : α) (h : r ≠ q) :
    tget (tset t q v d) r d' = tget t r d' := by
  unfold tset
  split
  · exact tget_tdel_ne t d' h
  · rw [tget_tins_ne _ v d' h, tget_tdel_ne t d' h]

/-- Reading any key after a write. -/
theorem tget_tset [DecidableEq α] (t : List (Nat × α)) (q r : Nat) (v d : α) :
    tget (tset t q v d) r d = if r = q then v else tget t r d := by
  split
  · rename_i h; subst h; exact tget_tset_eq t r v d
  · rename_i h; exact tget_tset_ne t v d d h

end Sys2Proof.Machine
end

