-- ==== Sys2Proof/Laws/Regs.lean ====
section
/-! SUPPORT. Reading a register or a field of one after a write: the field written holds the value, cut to its width;
every other field, and every other register, holds what it held. -/

namespace Sys2Proof.Machine

/-- A field that lies in a word. -/
def Fld.fits (f : Fld) : Bool := decide (f.lo ≤ f.hi) && decide (f.hi ≤ 31)

/-- The number of values of a field. -/
def Fld.size (f : Fld) : Nat := 2 ^ (f.hi + 1 - f.lo)

theorem bits_eq (w hi lo : Nat) : bits w hi lo = w / 2 ^ lo % 2 ^ (hi + 1 - lo) := by
  unfold bits
  rw [Nat.shiftRight_eq_div_pow]

/-- The parts of a number above, in, and below a field. -/
theorem field_split (n lo k : Nat) : n = n / 2 ^ (lo + k) * 2 ^ (lo + k) + n / 2 ^ lo % 2 ^ k * 2 ^ lo + n % 2 ^ lo := by
  have h1 := Nat.div_add_mod n (2 ^ lo)
  have h2 := Nat.div_add_mod (n / 2 ^ lo) (2 ^ k)
  rw [Nat.div_div_eq_div_mul, ← pow_add] at h2
  calc n = 2 ^ lo * (n / 2 ^ lo) + n % 2 ^ lo := h1.symm
    _ = 2 ^ lo * (2 ^ k * (n / 2 ^ (lo + k)) + n / 2 ^ lo % 2 ^ k) + n % 2 ^ lo := by rw [h2]
    _ = _ := by rw [pow_add]; ring

/-- What `Fld.put` computes before it is cut to a word, by parts. -/
theorem put_nat (f : Fld) (n v : Nat) (h : f.lo ≤ f.hi) :
    n - bits n f.hi f.lo * 2 ^ f.lo + v % 2 ^ (f.hi + 1 - f.lo) * 2 ^ f.lo =
      n / 2 ^ (f.hi + 1) * 2 ^ (f.hi + 1) + v % 2 ^ (f.hi + 1 - f.lo) * 2 ^ f.lo + n % 2 ^ f.lo := by
  have hs := field_split n f.lo (f.hi + 1 - f.lo)
  rw [show f.lo + (f.hi + 1 - f.lo) = f.hi + 1 by omega] at hs
  rw [bits_eq]
  omega

theorem put_lt (f : Fld) (n v : Nat) (h : f.fits) (hn : n < 2 ^ 32) :
    n / 2 ^ (f.hi + 1) * 2 ^ (f.hi + 1) + v % 2 ^ (f.hi + 1 - f.lo) * 2 ^ f.lo + n % 2 ^ f.lo < 2 ^ 32 := by
  simp only [Fld.fits, Bool.and_eq_true, decide_eq_true_eq] at h
  have h1 : v % 2 ^ (f.hi + 1 - f.lo) ≤ 2 ^ (f.hi + 1 - f.lo) - 1 := by
    have := Nat.mod_lt v (show 0 < 2 ^ (f.hi + 1 - f.lo) by positivity)
    omega
  have h2 : n % 2 ^ f.lo < 2 ^ f.lo := Nat.mod_lt _ (by positivity)
  have h3 : v % 2 ^ (f.hi + 1 - f.lo) * 2 ^ f.lo + n % 2 ^ f.lo < 2 ^ (f.hi + 1) := by
    have e : 2 ^ (f.hi + 1) = 2 ^ (f.hi + 1 - f.lo) * 2 ^ f.lo := by rw [← pow_add]; congr 1; omega
    have := Nat.mul_le_mul_right (2 ^ f.lo) h1
    rw [Nat.sub_mul, one_mul] at this
    have hp : 2 ^ f.lo ≤ 2 ^ (f.hi + 1 - f.lo) * 2 ^ f.lo := Nat.le_mul_of_pos_left _ (by positivity)
    omega
  have h4 : n / 2 ^ (f.hi + 1) < 2 ^ (31 - f.hi) := by
    rw [Nat.div_lt_iff_lt_mul (by positivity), ← pow_add]
    rwa [show 31 - f.hi + (f.hi + 1) = 32 by omega]
  have e : (2 : Nat) ^ 32 = 2 ^ (31 - f.hi) * 2 ^ (f.hi + 1) := by rw [← pow_add]; congr 1; omega
  have : (n / 2 ^ (f.hi + 1) + 1) * 2 ^ (f.hi + 1) ≤ 2 ^ (31 - f.hi) * 2 ^ (f.hi + 1) := Nat.mul_le_mul_right _ h4
  rw [e]
  rw [add_mul, one_mul] at this
  omega

theorem put_toNat (f : Fld) (w : Word) (v : Nat) (h : f.fits) : (f.put w v).toNat =
    w.toNat / 2 ^ (f.hi + 1) * 2 ^ (f.hi + 1) + v % 2 ^ (f.hi + 1 - f.lo) * 2 ^ f.lo + w.toNat % 2 ^ f.lo := by
  have hl : f.lo ≤ f.hi := by simp only [Fld.fits, Bool.and_eq_true, decide_eq_true_eq] at h; exact h.1
  unfold Fld.put toWord
  rw [put_nat f _ v hl, BitVec.toNat_ofNat]
  exact Nat.mod_eq_of_lt (put_lt f _ v h w.isLt)

/-- A field put reads back, cut to its width. -/
theorem of_put (f : Fld) (w : Word) (v : Nat) (h : f.fits) : f.of (f.put w v) = v % f.size := by
  have hl : f.lo ≤ f.hi := by simp only [Fld.fits, Bool.and_eq_true, decide_eq_true_eq] at h; exact h.1
  unfold Fld.of Fld.size
  rw [bits_eq, put_toNat f w v h]
  have e : w.toNat / 2 ^ (f.hi + 1) * 2 ^ (f.hi + 1) =
      w.toNat / 2 ^ (f.hi + 1) * 2 ^ (f.hi + 1 - f.lo) * 2 ^ f.lo := by
    rw [mul_assoc, ← pow_add, show f.hi + 1 - f.lo + f.lo = f.hi + 1 by omega]
  rw [e, ← add_mul, Nat.add_comm, Nat.add_mul_div_right _ _ (by positivity), Nat.div_eq_of_lt (Nat.mod_lt _ (by positivity)),
    Nat.zero_add, Nat.add_comm, Nat.add_mul_mod_self_right, Nat.mod_mod]

theorem div_above (n m d x : Nat) (hx : x < m) : (n / m * m + x) / (m * d) = n / (m * d) := by
  rw [← Nat.div_div_eq_div_mul, ← Nat.div_div_eq_div_mul, Nat.add_comm, Nat.add_mul_div_right _ _ (by omega),
    Nat.div_eq_of_lt hx, Nat.zero_add]

/-- A field that shares no bit with the one put keeps its value. -/
theorem of_put_disj (f g : Fld) (w : Word) (v : Nat) (hf : f.fits) (hg : g.fits) (h : f.hi < g.lo ∨ g.hi < f.lo) :
    g.of (f.put w v) = g.of w := by
  have hl : f.lo ≤ f.hi := by simp only [Fld.fits, Bool.and_eq_true, decide_eq_true_eq] at hf; exact hf.1
  have hk : g.lo ≤ g.hi := by simp only [Fld.fits, Bool.and_eq_true, decide_eq_true_eq] at hg; exact hg.1
  unfold Fld.of
  rw [bits_eq, bits_eq, put_toNat f w v hf]
  have hm : w.toNat % 2 ^ f.lo < 2 ^ f.lo := Nat.mod_lt _ (by positivity)
  have hv : v % 2 ^ (f.hi + 1 - f.lo) < 2 ^ (f.hi + 1 - f.lo) := Nat.mod_lt _ (by positivity)
  rcases h with h | h
  · have hlow : v % 2 ^ (f.hi + 1 - f.lo) * 2 ^ f.lo + w.toNat % 2 ^ f.lo < 2 ^ (f.hi + 1) := by
      have e : 2 ^ (f.hi + 1) = 2 ^ (f.hi + 1 - f.lo) * 2 ^ f.lo := by rw [← pow_add]; congr 1; omega
      have := Nat.mul_le_mul_right (2 ^ f.lo) (show v % 2 ^ (f.hi + 1 - f.lo) + 1 ≤ 2 ^ (f.hi + 1 - f.lo) from hv)
      rw [add_mul, one_mul] at this
      omega
    obtain ⟨d, hd⟩ : ∃ d, g.lo = f.hi + 1 + d := ⟨g.lo - (f.hi + 1), by omega⟩
    rw [hd, Nat.pow_add 2 (f.hi + 1) d, Nat.add_assoc, div_above _ _ _ _ hlow]
  · have hs : ∀ y, (y * 2 ^ f.lo + w.toNat % 2 ^ f.lo) / 2 ^ g.lo % 2 ^ (g.hi + 1 - g.lo) =
        w.toNat % 2 ^ f.lo / 2 ^ g.lo % 2 ^ (g.hi + 1 - g.lo) := by
      intro y
      rw [show f.lo = g.lo + (g.hi + 1 - g.lo) + (f.lo - (g.hi + 1)) by omega, pow_add, pow_add]
      rw [show y * (2 ^ g.lo * 2 ^ (g.hi + 1 - g.lo) * 2 ^ (f.lo - (g.hi + 1))) =
        2 ^ g.lo * (2 ^ (g.hi + 1 - g.lo) * (y * 2 ^ (f.lo - (g.hi + 1)))) by ring]
      rw [Nat.mul_add_div (by positivity), Nat.mul_add_mod]
    have e1 : w.toNat / 2 ^ (f.hi + 1) * 2 ^ (f.hi + 1) =
        w.toNat / 2 ^ (f.hi + 1) * 2 ^ (f.hi + 1 - f.lo) * 2 ^ f.lo := by
      rw [mul_assoc, ← pow_add, show f.hi + 1 - f.lo + f.lo = f.hi + 1 by omega]
    have e2 : w.toNat = w.toNat / 2 ^ f.lo * 2 ^ f.lo + w.toNat % 2 ^ f.lo := by
      rw [Nat.mul_comm]; exact (Nat.div_add_mod _ _).symm
    rw [e1, ← add_mul, hs]
    conv_rhs => rw [e2, hs]

/-! ## Registers -/

@[simp] theorem reg_setReg_self (s : State) (a : Nat) (w : Word) : (s.setReg a w).reg a = w := by
  simp [State.setReg, State.reg]

@[simp] theorem reg_setReg_ne (s : State) {a b : Nat} (w : Word) (h : b ≠ a) : (s.setReg a w).reg b = s.reg b := by
  simp [State.setReg, State.reg, tget_tset_ne _ _ _ _ h]

@[simp] theorem reg_setAct (s : State) (a b : Nat) (w : Word) : (s.setAct a w).reg b = s.reg b := rfl

@[simp] theorem actReg_setAct_self (s : State) (a : Nat) (w : Word) : (s.setAct a w).actReg a = w := by
  simp [State.setAct, State.actReg]

@[simp] theorem actReg_setAct_ne (s : State) {a b : Nat} (w : Word) (h : b ≠ a) : (s.setAct a w).actReg b = s.actReg b := by
  simp [State.setAct, State.actReg, tget_tset_ne _ _ _ _ h]

@[simp] theorem actReg_setReg (s : State) (a b : Nat) (w : Word) : (s.setReg a w).actReg b = s.actReg b := rfl

@[simp] theorem actReg_wr (s : State) (a b : Nat) (f : Fld) (v : Nat) : (s.wr a f v).actReg b = s.actReg b := rfl

/-- A write of a field leaves every other register. -/
theorem reg_wr_ne (s : State) {a b : Nat} (f : Fld) (v : Nat) (h : b ≠ a + f.off) : (s.wr a f v).reg b = s.reg b := by
  simp [State.wr, h]

/-- The field written holds the value, cut to its width. -/
theorem rd_wr_self (s : State) (a : Nat) (f : Fld) (v : Nat) (h : f.fits) : (s.wr a f v).rd a f = v % f.size := by
  simp [State.rd, State.wr, of_put f _ v h]

/-- Fields of other registers hold what they held. -/
theorem rd_wr_ne (s : State) {a b : Nat} (f g : Fld) (v : Nat) (h : b + g.off ≠ a + f.off) : (s.wr a f v).rd b g = s.rd b g := by
  simp [State.rd, reg_wr_ne s f v h]

/-- Other fields of the register hold what they held. -/
theorem rd_wr_disj (s : State) {a b : Nat} (f g : Fld) (v : Nat) (hf : f.fits) (hg : g.fits) (h : f.hi < g.lo ∨ g.hi < f.lo) :
    (s.wr a f v).rd b g = s.rd b g := by
  by_cases e : b + g.off = a + f.off
  · simp [State.rd, State.wr, e, of_put_disj f g _ v hf hg h]
  · exact rd_wr_ne s f g v e

/-- A one-bit field written with 1 reads 1, with 0 reads 0. -/
theorem flag_wr_self (s : State) (a : Nat) (f : Fld) (v : Nat) (h : f.fits) : (s.wr a f v).flag a f = (v % f.size != 0) := by
  simp [State.flag, rd_wr_self s a f v h]

/-- A saturating counter advances by one, up to the greatest value of its field. -/
theorem rd_bumpBy_self (s : State) (a : Nat) (f : Fld) (n : Nat) (h : f.fits) :
    (s.bumpBy a f n).rd a f = sat f.top (s.rd a f + n) := by
  rw [State.bumpBy, rd_wr_self s a f _ h]
  refine Nat.mod_eq_of_lt ?_
  have : 0 < f.size := Nat.pos_of_ne_zero (by simp [Fld.size])
  have e : f.top = f.size - 1 := rfl
  unfold sat
  split <;> omega

theorem rd_bump_self (s : State) (a : Nat) (f : Fld) (h : f.fits) : (s.bump a f).rd a f = sat f.top (s.rd a f + 1) :=
  rd_bumpBy_self s a f 1 h

/-- A wrapping counter advances by one, modulo the number of values of its field. -/
theorem rd_bumpWrap_self (s : State) (a : Nat) (f : Fld) (h : f.fits) :
    (s.bumpWrap a f).rd a f = (s.rd a f + 1) % f.size := rd_wr_self s a f _ h

theorem reg_bump_ne (s : State) {a b : Nat} (f : Fld) (h : b ≠ a + f.off) : (s.bump a f).reg b = s.reg b := reg_wr_ne s f _ h

theorem reg_bumpWrap_ne (s : State) {a b : Nat} (f : Fld) (h : b ≠ a + f.off) : (s.bumpWrap a f).reg b = s.reg b :=
  reg_wr_ne s f _ h

/-- Raising a source writes EVT_RAW of a page and no other register. -/
theorem reg_raise_ne (s : State) (n : Nat) {b : Nat} (h : b % 0x1000 ≠ 0x10) : (s.raise n).reg b = s.reg b := by
  have e : ∀ t : State, (t.brkSource n).regs = t.regs := fun t => State.brkSource_regs t n
  have e' : ∀ t : State, (t.sendEvt n).regs = t.regs := fun t => State.sendEvt_regs t n
  simp only [State.raise, State.reg, e, e']
  unfold State.setRaw
  split
  · rfl
  · rename_i pg k _
    have hb : b ≠ pageBase pg + 0x10 := by unfold pageBase; omega
    exact reg_setReg_ne s _ hb

theorem rd_raise_ne (s : State) (n : Nat) {b : Nat} (f : Fld) (h : (b + f.off) % 0x1000 ≠ 0x10) :
    (s.raise n).rd b f = s.rd b f := by
  simp [State.rd, reg_raise_ne s n h]

theorem reg_raiseIf_ne (s : State) (c : Bool) (n : Nat) {b : Nat} (h : b % 0x1000 ≠ 0x10) : (s.raiseIf c n).reg b = s.reg b := by
  unfold State.raiseIf
  split
  · exact reg_raise_ne s n h
  · rfl

theorem rd_congr {s t : State} (h : s.regs = t.regs) (b : Nat) (f : Fld) : s.rd b f = t.rd b f := by
  simp [State.rd, State.reg, h]

theorem cfg_congr {s t : State} (h : s.regs = t.regs) (ha : s.act = t.act) (b : Nat) (f : Fld) : s.cfg b f = t.cfg b f := by
  simp [State.cfg, State.rd, State.reg, State.actReg, h, ha]

/-! ## Memory bytes -/

theorem byte_congr {s t : State} (h : s.mem = t.mem) (a : Nat) : s.byte a = t.byte a := by
  simp [State.byte, h]

end Sys2Proof.Machine
end

