-- ==== Sys2Proof/Laws/Sound.lean ====
section
/-! SUPPORT. What every state function keeps: the queue of waiting commands, the canonical form of the memory, the
switch masks of the banks as the interlocks leave them (R222), the range of the epoch number (R64), the two PT counters
alike (R468). -/

namespace Sys2Proof.Machine

/-- The queue is q; the memory is canonical; every bank's mask is legal; the epoch number has 16 bits, and 0 is never the
number of an open epoch; the check counter of PT is PT. -/
@[irreducible] def Good (q : List Instr) (s : State) : Prop :=
  s.pending = q ∧ Memory.wf s.mem = true ∧ (∀ b : Fin 16, maskLegal s.banks[b].mask) ∧ s.dev.epoch < 65536 ∧
    (s.dev.epochOpen = true → s.dev.epoch ≠ 0) ∧ s.sys.ptChk = s.pt

variable {q : List Instr} {s t : State}

/-- To show a statement it is enough to show another that implies it. -/
theorem sup {a : Prop} (p : Prop) (h : p) (k : p → a) : a := k h

/-- `Good` speaks of the queue, the memory, the banks, the epoch and PT only. -/
theorem good_eq (h : Good q s) (hp : t.pending = s.pending) (hm : t.mem = s.mem) (hb : t.banks = s.banks)
    (he : t.dev.epoch = s.dev.epoch) (ho : t.dev.epochOpen = s.dev.epochOpen) (ht : t.pt = s.pt)
    (hc : t.sys.ptChk = s.sys.ptChk) : Good q t := by
  unfold Good at *
  rw [hp, hm, hb, he, ho, ht, hc]
  exact h

theorem good_iff : Good q s ↔ s.pending = q ∧ Memory.wf s.mem = true ∧ (∀ b : Fin 16, maskLegal s.banks[b].mask) ∧
    s.dev.epoch < 65536 ∧ (s.dev.epochOpen = true → s.dev.epoch ≠ 0) ∧ s.sys.ptChk = s.pt := by
  unfold Good
  exact Iff.rfl

/-- The invariant said of the parts of the state it speaks of. -/
def GoodParts (q p : List Instr) (m : List Host.Cell) (b : Vector Bank 16) (e : Nat) (o : Bool) (pt chk : Nat) : Prop :=
  p = q ∧ Memory.wf m = true ∧ (∀ i : Fin 16, maskLegal b[i].mask) ∧ e < 65536 ∧ (o = true → e ≠ 0) ∧ chk = pt

theorem good_of_parts (h : GoodParts q s.pending s.mem s.banks s.dev.epoch s.dev.epochOpen s.pt s.sys.ptChk) :
    Good q s := good_iff.2 h

theorem parts_of_good (h : Good q s) : GoodParts q s.pending s.mem s.banks s.dev.epoch s.dev.epochOpen s.pt s.sys.ptChk :=
  good_iff.1 h

/-- A fold keeps it if every step does. -/
theorem foldS_good {α : Type} {l : List α} {f : α → State → State} (hf : ∀ x s, Good q s → Good q (f x s)) (h : Good q s) :
    Good q (foldS l f s) := by
  unfold foldS
  induction l generalizing s with
  | nil => exact h
  | cons x l ih => exact ih (hf x s h)

/-- An update of the device registers keeps it if it leaves the epoch alone. -/
theorem updDev_good {f : Device → Device} (h : Good q s) (he : (f s.dev).epoch = s.dev.epoch)
    (ho : (f s.dev).epochOpen = s.dev.epochOpen) : Good q (s.updDev f) := good_eq h rfl rfl rfl he ho rfl rfl

/-- An update of the system registers keeps it if it leaves the check counter of PT alone. -/
theorem updSys_good {f : Sys → Sys} (h : Good q s) (hc : (f s.sys).ptChk = s.sys.ptChk) : Good q (s.updSys f) :=
  good_eq h rfl rfl rfl rfl rfl rfl hc

/-- An update that leaves no epoch open, or one with a number from 1 to 65,535, keeps it. -/
theorem updDev_epoch_good {f : Device → Device} (h : Good q s) (hlt : (f s.dev).epoch < 65536)
    (ho : (f s.dev).epochOpen = true → (f s.dev).epoch ≠ 0) : Good q (s.updDev f) := by
  rw [good_iff] at *
  exact ⟨h.1, h.2.1, h.2.2.1, hlt, ho, h.2.2.2.2.2⟩

theorem good_epoch_lt (h : Good q s) : s.dev.epoch < 65536 := (good_iff.1 h).2.2.2.1

/-- A function that leaves the check counter of PT alone in all system registers keeps it. -/
theorem updSys_fun_good {f : Sys → Sys} (h : Good q s) (hf : ∀ y, (f y).ptChk = y.ptChk) : Good q (s.updSys f) :=
  updSys_good h (hf _)

/-- An update of one bank keeps it if it leaves the mask alone. -/
theorem updBank_good {b : Fin 16} {f : Bank → Bank} (h : Good q s) (hf : (f s.banks[b]).mask = s.banks[b].mask) :
    Good q (s.updBank b f) := by
  rw [good_iff] at *
  refine ⟨h.1, h.2.1, fun c => ?_, h.2.2.2⟩
  show maskLegal ((s.banks.set b (f s.banks[b])))[c].mask
  by_cases hc : (b : Nat) = c
  · have : b = c := Fin.ext hc
    subst this
    have h1 := h.2.2.1 b
    rw [← hf] at h1
    simpa using h1
  · simpa [Vector.getElem_set, hc] using h.2.2.1 c

/-- The interlocks leave a legal mask (R222). -/
theorem interlock_legal (c : Option (Fin 4)) (m : Nat) : maskLegal (interlock c m) := by
  unfold interlock maskLegal
  cases c with
  | none => simp only; split <;> (try split) <;> decide
  | some k =>
    simp only
    have : k = 0 ∨ k = 1 ∨ k = 2 ∨ k = 3 := by omega
    rcases this with rfl | rfl | rfl | rfl <;> split <;> (try split) <;> (try split) <;> decide

/-- A choice of two states that keep it keeps it. -/
theorem good_ite {c : Prop} [Decidable c] (h : Good q s) (k : Good q t) : Good q (if c then s else t) := by
  split
  · exact h
  · exact k

/-! ## Memory -/

theorem memWf_set {m : List Host.Cell} (a : Nat) (v : Byte) (h : Memory.wf m = true) : Memory.wf (memSet m a v) = true :=
  tableWf_tset a v h

theorem memWf_put {m : List Host.Cell} (a n v : Nat) (h : Memory.wf m = true) : Memory.wf (memPut m a n v) = true := by
  induction n generalizing m a v with
  | zero => exact h
  | succ n ih => exact ih _ _ (memWf_set _ _ h)

/-- A state whose memory alone has been written, in canonical form, is as good as before. -/
theorem good_mem (h : Good q s) (hm : Memory.wf s.mem = true → Memory.wf t.mem = true) (hp : t.pending = s.pending)
    (hb : t.banks = s.banks) (he : t.dev = s.dev) (ht : t.pt = s.pt) (hc : t.sys = s.sys) : Good q t := by
  rw [good_iff] at *
  rw [hp, hb, he, ht, hc]
  exact ⟨h.1, hm h.2.1, h.2.2⟩

end Sys2Proof.Machine
end

