-- ==== Sys2Proof/Laws/Memory.lean ====
section
/-! SUPPORT. The laws of memory: every operation keeps the canonical form, a byte written reads back, the others read as
before; a number stored in bytes reads back. -/

namespace Sys2Proof.Machine

/-- Reset memory is canonical. -/
theorem reset_memWf : Memory.wf State.reset.mem = true := rfl

theorem storeClean_memWf (w d : Nat) (s : State) (h : Memory.wf s.mem = true) : Memory.wf (storeClean w d s).mem = true :=
  memWf_put _ _ _ h
theorem storePoisoned_memWf (w d : Nat) (s : State) (h : Memory.wf s.mem = true) :
    Memory.wf (storePoisoned w d s).mem = true := memWf_put _ _ _ h
/-- The data a full write leaves in memory. -/
@[simp] theorem writeFull_mem (w d : Nat) (s : State) : (writeFull w d s).mem = memPut s.mem (8 * w) 8 d := by
  unfold writeFull
  dsimp only
  repeat' split
  all_goals rfl
theorem putWord_memWf (a d : Nat) (s : State) (h : Memory.wf s.mem = true) : Memory.wf (putWord a d s).mem = true := by
  simpa [putWord] using memWf_put _ _ _ h
theorem writeSec_memWf (a n v : Nat) (s : State) (h : Memory.wf s.mem = true) : Memory.wf (writeSec a n v s).mem = true :=
  memWf_put _ _ _ h

/-- The byte written reads back. -/
@[simp] theorem memSet_self (m : List Host.Cell) (a : Nat) (v : Byte) : tget (memSet m a v) a memDefault = v :=
  tget_tset_eq _ _ _ _

/-- Every other byte reads as before. -/
theorem memSet_ne (m : List Host.Cell) {a b : Nat} (v : Byte) (h : b ≠ a) :
    tget (memSet m a v) b memDefault = tget m b memDefault := tget_tset_ne _ _ _ _ h

/-- n bytes stored at an address leave every byte below it. -/
theorem memPut_below (n : Nat) : ∀ (m : List Host.Cell) (a v b : Nat), b < a →
    tget (memPut m a n v) b memDefault = tget m b memDefault := by
  induction n with
  | zero => exact fun _ _ _ _ _ => rfl
  | succ n ih => exact fun m a v b h => (ih _ _ _ _ (by omega)).trans (memSet_ne _ _ (by omega))

/-- n bytes stored at an address leave every byte above them. -/
theorem memPut_above (n : Nat) : ∀ (m : List Host.Cell) (a v b : Nat), a + n ≤ b →
    tget (memPut m a n v) b memDefault = tget m b memDefault := by
  induction n with
  | zero => exact fun _ _ _ _ _ => rfl
  | succ n ih => exact fun m a v b h => (ih _ _ _ _ (by omega)).trans (memSet_ne _ _ (by omega))

/-- Byte k of a number stored from an address. -/
theorem memPut_at (n : Nat) : ∀ (m : List Host.Cell) (a v k : Nat), k < n →
    tget (memPut m a n v) (a + k) memDefault = BitVec.ofNat 8 (v / 256 ^ k) := by
  induction n with
  | zero => exact fun _ _ _ k h => absurd h (Nat.not_lt_zero k)
  | succ n ih =>
    intro m a v k h
    cases k with
    | zero => exact (memPut_below n _ _ _ _ (by omega)).trans (by simp)
    | succ k =>
      have := ih (memSet m a (BitVec.ofNat 8 v)) (a + 1) (v / 256) k (by omega)
      rw [show a + (k + 1) = a + 1 + k by omega]
      refine this.trans ?_
      rw [Nat.div_div_eq_div_mul, pow_succ, Nat.mul_comm]

/-- What stands at an address reads through any state with the same bytes. -/
theorem leBytes_congr {s t : State} (n : Nat) : ∀ a : Nat, (∀ k, k < n → s.byte (a + k) = t.byte (a + k)) →
    s.leBytes a n = t.leBytes a n := by
  induction n with
  | zero => exact fun _ _ => rfl
  | succ n ih =>
    intro a h
    simp only [State.leBytes]
    rw [show s.byte a = t.byte a from h 0 (by omega), ih (a + 1) (fun k hk => by
      rw [show a + 1 + k = a + (k + 1) by omega]; exact h (k + 1) (by omega))]

/-- A number stored in n bytes reads back, cut to n bytes. -/
theorem leBytes_memPut (n : Nat) : ∀ (s : State) (m : List Host.Cell) (a v : Nat), s.mem = memPut m a n v →
    s.leBytes a n = v % 256 ^ n := by
  induction n with
  | zero => intro s m a v _; simp [State.leBytes, Nat.mod_one]
  | succ n ih =>
    intro s m a v h
    simp only [State.leBytes]
    rw [ih s (memSet m a (BitVec.ofNat 8 v)) (a + 1) (v / 256) h]
    have h0 : s.byte a = BitVec.ofNat 8 v := by
      have := memPut_at (n + 1) m a v 0 (by omega)
      rw [State.byte, h]
      simpa using this
    rw [h0, BitVec.toNat_ofNat, show (2 : Nat) ^ 8 = 256 from rfl, pow_succ, Nat.mul_comm (256 ^ n), Nat.mod_mul]

end Sys2Proof.Machine
end

