-- ==== Sys2Proof/Laws/PerInstr.lean ====
section
/-! SUPPORT. Per command: the commands whose operands could contradict each other are the only ones a check refuses. -/

namespace Sys2Proof.Laws.WellFormed

/-- The commands `Instr.wellFormed` checks. -/
def checked : Instr → Bool
  | .planMemoryWrite _ _ _ => true
  | .queueAreaWrite _ _ _ => true
  | .journalAreaWrite _ _ _ => true
  | .hpsGen2Write _ _ _ _ => true
  | .hpqWrite _ _ _ _ => true
  | .memWr _ _ => true
  | .memRdresp _ _ => true
  | .peerAccess _ _ _ _ _ => true
  | .memoryRead _ _ _ => true
  | .memoryWrite _ _ _ => true
  | .registerWrite _ _ _ => true
  | _ => false

/-- A command that no check names is well formed. -/
def Statement (i : Instr) : Prop := checked i = false → i.wellFormed = true

theorem vrEdge (w : Fin 4) (peak : BitVec 12) : Statement (.vrEdge w peak) := fun _ => rfl
theorem hallTransition (w : Fin 4) (level : Bool) (first : Nat) : Statement (.hallTransition w level first) := fun _ => rfl
theorem hallGlitch (w : Fin 4) (first : Nat) (back : Nat) : Statement (.hallGlitch w first back) := fun _ => rfl
theorem dirPulseLeading (w : Fin 4) : Statement (.dirPulseLeading w) := fun _ => rfl
theorem dirPulseClass (w : Fin 4) : Statement (.dirPulseClass w) := fun _ => rfl
theorem ptabDataLoWrite (v : Word) : Statement (.ptabDataLoWrite v) := fun _ => rfl
theorem ptabDataHiWrite (v : Word) : Statement (.ptabDataHiWrite v) := fun _ => rfl
theorem ptabDataLoRead : Statement (.ptabDataLoRead) := fun _ => rfl
theorem ptabDataHiRead : Statement (.ptabDataHiRead) := fun _ => rfl
theorem stampLoRead (w : Fin 4) : Statement (.stampLoRead w) := fun _ => rfl
theorem trackerCrankEdge (t : Fin 2) : Statement (.trackerCrankEdge t) := fun _ => rfl
theorem trackerCamEdge (t : Fin 2) : Statement (.trackerCamEdge t) := fun _ => rfl
theorem acqStallTimeout (t : Fin 2) : Statement (.acqStallTimeout t) := fun _ => rfl
theorem accumulatorTick (chkA : BitVec 5) (chkB : BitVec 5) : Statement (.accumulatorTick chkA chkB) := fun _ => rfl
theorem shadowClr (t : Fin 2) : Statement (.shadowClr t) := fun _ => rfl
theorem sigReset (t : Fin 2) : Statement (.sigReset t) := fun _ => rfl
theorem xchkRejoin : Statement (.xchkRejoin) := fun _ => rfl
theorem xchkHandback : Statement (.xchkHandback) := fun _ => rfl
theorem angleRead (t : Fin 2) : Statement (.angleRead t) := fun _ => rfl
theorem stallDeclare : Statement (.stallDeclare) := fun _ => rfl
theorem stallHoldExpire : Statement (.stallHoldExpire) := fun _ => rfl
theorem actionIssue (fid : BitVec 16) : Statement (.actionIssue fid) := fun _ => rfl
theorem actionTakeEffect (idx : Fin 16384) : Statement (.actionTakeEffect idx) := fun _ => rfl
theorem cutoffTake (slot : Fin 4096) : Statement (.cutoffTake slot) := fun _ => rfl
theorem maxDuration (idx : Fin 16384) : Statement (.maxDuration idx) := fun _ => rfl
theorem taskOverrun (c : Fin 4) : Statement (.taskOverrun c) := fun _ => rfl
theorem planLoad : Statement (.planLoad) := fun _ => rfl
theorem loadCheckPass : Statement (.loadCheckPass) := fun _ => rfl
theorem loadWritePass : Statement (.loadWritePass) := fun _ => rfl
theorem arm : Statement (.arm) := fun _ => rfl
theorem disarm : Statement (.disarm) := fun _ => rfl
theorem govClear : Statement (.govClear) := fun _ => rfl
theorem latePop : Statement (.latePop) := fun _ => rfl
theorem planMemoryWrite (init : Initiator) (addr : Word) (bytes : List Byte) : Statement (.planMemoryWrite init addr bytes) := fun h => Bool.noConfusion h
theorem subWrite (init : Initiator) (n : Fin 3) (v : Word) : Statement (.subWrite init n v) := fun _ => rfl
theorem sub3Submit (init : Initiator) (v : Word) : Statement (.sub3Submit init v) := fun _ => rfl
theorem queueAreaWrite (init : Initiator) (addr : Word) (bytes : List Byte) : Statement (.queueAreaWrite init addr bytes) := fun h => Bool.noConfusion h
theorem journalAreaWrite (init : Initiator) (addr : Word) (bytes : List Byte) : Statement (.journalAreaWrite init addr bytes) := fun h => Bool.noConfusion h
theorem jrnRdWrite (v : Word) : Statement (.jrnRdWrite v) := fun _ => rfl
theorem lossMarker : Statement (.lossMarker) := fun _ => rfl
theorem bankCommand (b : Fin 16) : Statement (.bankCommand b) := fun _ => rfl
theorem bankFree (b : Fin 16) : Statement (.bankFree b) := fun _ => rfl
theorem deferLimitExpire (b : Fin 16) : Statement (.deferLimitExpire b) := fun _ => rfl
theorem openLoadTimeout (b : Fin 16) : Statement (.openLoadTimeout b) := fun _ => rfl
theorem shortDetect (b : Fin 16) : Statement (.shortDetect b) := fun _ => rfl
theorem overcurrentTrip (b : Fin 16) : Statement (.overcurrentTrip b) := fun _ => rfl
theorem clampMiss (b : Fin 16) : Statement (.clampMiss b) := fun _ => rfl
theorem decayStuck (b : Fin 16) : Statement (.decayStuck b) := fun _ => rfl
theorem bootUv (b : Fin 16) (hs : Bool) : Statement (.bootUv b hs) := fun _ => rfl
theorem bootUvRelease (b : Fin 16) (hs : Bool) : Statement (.bootUvRelease b hs) := fun _ => rfl
theorem boostSample (b : Fin 16) (code : BitVec 10) : Statement (.boostSample b code) := fun _ => rfl
theorem bankUnlock (b : Fin 16) (v : Word) : Statement (.bankUnlock b v) := fun _ => rfl
theorem leveeSlice : Statement (.leveeSlice) := fun _ => rfl
theorem leveeExhaust (b : Fin 16) : Statement (.leveeExhaust b) := fun _ => rfl
theorem profileStart (b : Fin 16) : Statement (.profileStart b) := fun _ => rfl
theorem profileRestart (b : Fin 16) : Statement (.profileRestart b) := fun _ => rfl
theorem shpEnd (b : Fin 16) : Statement (.shpEnd b) := fun _ => rfl
theorem setsw (b : Fin 16) : Statement (.setsw b) := fun _ => rfl
theorem shpWaitt (b : Fin 16) : Statement (.shpWaitt b) := fun _ => rfl
theorem waiti (b : Fin 16) : Statement (.waiti b) := fun _ => rfl
theorem chop (b : Fin 16) : Statement (.chop b) := fun _ => rfl
theorem dipw (b : Fin 16) : Statement (.dipw b) := fun _ => rfl
theorem fastoff (b : Fin 16) : Statement (.fastoff b) := fun _ => rfl
theorem shpJmp (b : Fin 16) : Statement (.shpJmp b) := fun _ => rfl
theorem jif (b : Fin 16) : Statement (.jif b) := fun _ => rfl
theorem shpMark (b : Fin 16) : Statement (.shpMark b) := fun _ => rfl
theorem shpWaitEnd (b : Fin 16) : Statement (.shpWaitEnd b) := fun _ => rfl
theorem endRequest (b : Fin 16) : Statement (.endRequest b) := fun _ => rfl
theorem actionNormalEnd (b : Fin 16) : Statement (.actionNormalEnd b) := fun _ => rfl
theorem tailOverrun (b : Fin 16) : Statement (.tailOverrun b) := fun _ => rfl
theorem dipDetect (b : Fin 16) : Statement (.dipDetect b) := fun _ => rfl
theorem dipWindowClose (b : Fin 16) : Statement (.dipWindowClose b) := fun _ => rfl
theorem sampleClaim (k : Fin 4) : Statement (.sampleClaim k) := fun _ => rfl
theorem samplingInstant (k : Fin 4) : Statement (.samplingInstant k) := fun _ => rfl
theorem conversionResult (k : Fin 4) (raw : Half) : Statement (.conversionResult k raw) := fun _ => rfl
theorem recordWrite (k : Fin 4) : Statement (.recordWrite k) := fun _ => rfl
theorem openTrigger (k : Fin 4) (slot : Fin 4) : Statement (.openTrigger k slot) := fun _ => rfl
theorem openSlotPending (k : Fin 4) (slot : Fin 4) : Statement (.openSlotPending k slot) := fun _ => rfl
theorem convSoft (k : Fin 4) (v : Word) : Statement (.convSoft k v) := fun _ => rfl
theorem calZero (k : Fin 4) : Statement (.calZero k) := fun _ => rfl
theorem calFull (k : Fin 4) : Statement (.calFull k) := fun _ => rfl
theorem calAbort (k : Fin 4) : Statement (.calAbort k) := fun _ => rfl
theorem dacWrite (v : Word) : Statement (.dacWrite v) := fun _ => rfl
theorem ringMarkWrite (k : Fin 4) (r : Fin 8) (v : Word) : Statement (.ringMarkWrite k r v) := fun _ => rfl
theorem sumLoRead (k : Fin 4) (p : Fin 21) : Statement (.sumLoRead k p) := fun _ => rfl
theorem scanLoRead : Statement (.scanLoRead) := fun _ => rfl
theorem pwmRunWrite (v : Word) : Statement (.pwmRunWrite v) := fun _ => rfl
theorem pwmPeriodStart (n : Fin 16) : Statement (.pwmPeriodStart n) := fun _ => rfl
theorem pwmCountEdge (n : Fin 16) : Statement (.pwmCountEdge n) := fun _ => rfl
theorem pwmCountTrigger (n : Fin 16) : Statement (.pwmCountTrigger n) := fun _ => rfl
theorem loadAll (v : Word) : Statement (.loadAll v) := fun _ => rfl
theorem swCrossing (n : Fin 16) (rising : Bool) : Statement (.swCrossing n rising) := fun _ => rfl
theorem dtMeasureTimeout (n : Fin 16) : Statement (.dtMeasureTimeout n) := fun _ => rfl
theorem pwmForce (n : Fin 16) (v : Word) : Statement (.pwmForce n v) := fun _ => rfl
theorem tripInput (k : Fin 8) (level : Bool) : Statement (.tripInput k level) := fun _ => rfl
theorem blankEnd (n : Fin 16) : Statement (.blankEnd n) := fun _ => rfl
theorem tripClear (n : Fin 16) : Statement (.tripClear n) := fun _ => rfl
theorem tmrRunWrite (v : Word) : Statement (.tmrRunWrite v) := fun _ => rfl
theorem timerCountStep (n : Fin 16) : Statement (.timerCountStep n) := fun _ => rfl
theorem cmpWrite (n : Fin 16) (v : Word) : Statement (.cmpWrite n v) := fun _ => rfl
theorem cmpActive (n : Fin 16) : Statement (.cmpActive n) := fun _ => rfl
theorem timerTrigger (n : Fin 16) (level : Bool) : Statement (.timerTrigger n level) := fun _ => rfl
theorem tmrSoft (v : Word) : Statement (.tmrSoft v) := fun _ => rfl
theorem timerCapture (e : CapEdge) : Statement (.timerCapture e) := fun _ => rfl
theorem capPtRead (n : Fin 16) : Statement (.capPtRead n) := fun _ => rfl
theorem rnlRunWrite (v : Word) : Statement (.rnlRunWrite v) := fun _ => rfl
theorem shiftClr (e : Fin 8) : Statement (.shiftClr e) := fun _ => rfl
theorem rnlStop (e : Fin 8) : Statement (.rnlStop e) := fun _ => rfl
theorem rnlPin (e : Fin 8) : Statement (.rnlPin e) := fun _ => rfl
theorem rnlWaitp (e : Fin 8) (pins : Word) : Statement (.rnlWaitp e pins) := fun _ => rfl
theorem rnlShift (e : Fin 8) (pins : Word) : Statement (.rnlShift e pins) := fun _ => rfl
theorem rnlJmp (e : Fin 8) (pins : Word) : Statement (.rnlJmp e pins) := fun _ => rfl
theorem rnlPush (e : Fin 8) : Statement (.rnlPush e) := fun _ => rfl
theorem rnlPull (e : Fin 8) : Statement (.rnlPull e) := fun _ => rfl
theorem rnlMov (e : Fin 8) : Statement (.rnlMov e) := fun _ => rfl
theorem rnlAlu (e : Fin 8) : Statement (.rnlAlu e) := fun _ => rfl
theorem rnlWaitt (e : Fin 8) : Statement (.rnlWaitt e) := fun _ => rfl
theorem rnlWaitEnd (e : Fin 8) (pins : Word) : Statement (.rnlWaitEnd e pins) := fun _ => rfl
theorem rnlInWrite (e : Fin 8) (v : Word) : Statement (.rnlInWrite e v) := fun _ => rfl
theorem rnlOutRead (e : Fin 8) : Statement (.rnlOutRead e) := fun _ => rfl
theorem rnlProgramWrite (e : Fin 8) (reg : BitVec 8) (v : Word) : Statement (.rnlProgramWrite e reg v) := fun _ => rfl
theorem coreFrameStart : Statement (.coreFrameStart) := fun _ => rfl
theorem coreSlotStart (c : Fin 4) (slot : Fin 64) : Statement (.coreSlotStart c slot) := fun _ => rfl
theorem coreEventEntry (c : Fin 4) : Statement (.coreEventEntry c) := fun _ => rfl
theorem coreNop (c : Fin 4) : Statement (.coreNop c) := fun _ => rfl
theorem coreAdd (c : Fin 4) : Statement (.coreAdd c) := fun _ => rfl
theorem coreAddc (c : Fin 4) : Statement (.coreAddc c) := fun _ => rfl
theorem coreSub (c : Fin 4) : Statement (.coreSub c) := fun _ => rfl
theorem coreSubc (c : Fin 4) : Statement (.coreSubc c) := fun _ => rfl
theorem coreAdds (c : Fin 4) : Statement (.coreAdds c) := fun _ => rfl
theorem coreSubs (c : Fin 4) : Statement (.coreSubs c) := fun _ => rfl
theorem coreAnd (c : Fin 4) : Statement (.coreAnd c) := fun _ => rfl
theorem coreOr (c : Fin 4) : Statement (.coreOr c) := fun _ => rfl
theorem coreXor (c : Fin 4) : Statement (.coreXor c) := fun _ => rfl
theorem coreAddi (c : Fin 4) : Statement (.coreAddi c) := fun _ => rfl
theorem coreAndi (c : Fin 4) : Statement (.coreAndi c) := fun _ => rfl
theorem coreOri (c : Fin 4) : Statement (.coreOri c) := fun _ => rfl
theorem coreXori (c : Fin 4) : Statement (.coreXori c) := fun _ => rfl
theorem coreShift (c : Fin 4) : Statement (.coreShift c) := fun _ => rfl
theorem coreMov (c : Fin 4) : Statement (.coreMov c) := fun _ => rfl
theorem coreMovi (c : Fin 4) : Statement (.coreMovi c) := fun _ => rfl
theorem coreMpy (c : Fin 4) : Statement (.coreMpy c) := fun _ => rfl
theorem coreMac (c : Fin 4) : Statement (.coreMac c) := fun _ => rfl
theorem coreAcop (c : Fin 4) : Statement (.coreAcop c) := fun _ => rfl
theorem coreCmp (c : Fin 4) : Statement (.coreCmp c) := fun _ => rfl
theorem coreCmpi (c : Fin 4) : Statement (.coreCmpi c) := fun _ => rfl
theorem corePlog (c : Fin 4) : Statement (.corePlog c) := fun _ => rfl
theorem coreLd (c : Fin 4) : Statement (.coreLd c) := fun _ => rfl
theorem coreSt (c : Fin 4) : Statement (.coreSt c) := fun _ => rfl
theorem coreLdf (c : Fin 4) : Statement (.coreLdf c) := fun _ => rfl
theorem coreStf (c : Fin 4) : Statement (.coreStf c) := fun _ => rfl
theorem coreFarDone (c : Fin 4) (task : Bool) : Statement (.coreFarDone c task) := fun _ => rfl
theorem coreBr (c : Fin 4) : Statement (.coreBr c) := fun _ => rfl
theorem coreCall (c : Fin 4) : Statement (.coreCall c) := fun _ => rfl
theorem coreJr (c : Fin 4) : Statement (.coreJr c) := fun _ => rfl
theorem coreRet (c : Fin 4) : Statement (.coreRet c) := fun _ => rfl
theorem coreRpt (c : Fin 4) : Statement (.coreRpt c) := fun _ => rfl
theorem coreRpti (c : Fin 4) : Statement (.coreRpti c) := fun _ => rfl
theorem coreWfe (c : Fin 4) : Statement (.coreWfe c) := fun _ => rfl
theorem coreSev (c : Fin 4) : Statement (.coreSev c) := fun _ => rfl
theorem coreWaitpt (c : Fin 4) : Statement (.coreWaitpt c) := fun _ => rfl
theorem coreWaita (c : Fin 4) : Statement (.coreWaita c) := fun _ => rfl
theorem coreWaitEnd (c : Fin 4) (task : Bool) : Statement (.coreWaitEnd c task) := fun _ => rfl
theorem coreMfc (c : Fin 4) : Statement (.coreMfc c) := fun _ => rfl
theorem coreMtc (c : Fin 4) : Statement (.coreMtc c) := fun _ => rfl
theorem coreRete (c : Fin 4) : Statement (.coreRete c) := fun _ => rfl
theorem coreEndt (c : Fin 4) : Statement (.coreEndt c) := fun _ => rfl
theorem coreMacm (c : Fin 4) : Statement (.coreMacm c) := fun _ => rfl
theorem coreRestart (c : Fin 4) : Statement (.coreRestart c) := fun _ => rfl
theorem catchEvent (src : BitVec 8) : Statement (.catchEvent src) := fun _ => rfl
theorem catchCoalTimeout (src : BitVec 8) : Statement (.catchCoalTimeout src) := fun _ => rfl
theorem catchComplete (t : Fin 7) (src : BitVec 8) : Statement (.catchComplete t src) := fun _ => rfl
theorem setpend (src : BitVec 8) : Statement (.setpend src) := fun _ => rfl
theorem flumeStart (c : Fin 32) : Statement (.flumeStart c) := fun _ => rfl
theorem flumeBeat (c : Fin 32) : Statement (.flumeBeat c) := fun _ => rfl
theorem flumeResume (c : Fin 32) : Statement (.flumeResume c) := fun _ => rfl
theorem flumeAbort (c : Fin 32) : Statement (.flumeAbort c) := fun _ => rfl
theorem flumeCtrlWrite (c : Fin 32) (v : Word) : Statement (.flumeCtrlWrite c v) := fun _ => rfl
theorem hpsGen1Read (addr : BitVec 15) : Statement (.hpsGen1Read addr) := fun _ => rfl
theorem hpsGen1Write (addr : BitVec 15) (v : Half) : Statement (.hpsGen1Write addr v) := fun _ => rfl
theorem hpsBadFrame : Statement (.hpsBadFrame) := fun _ => rfl
theorem hpsGen2Read (cmd : Word) (addr : Word) (crc : Half) : Statement (.hpsGen2Read cmd addr crc) := fun _ => rfl
theorem hpsGen2Write (cmd : Word) (addr : Word) (data : List Word) (crc : Half) : Statement (.hpsGen2Write cmd addr data crc) := fun h => Bool.noConfusion h
theorem hpsAbandon : Statement (.hpsAbandon) := fun _ => rfl
theorem hpqRead (h0 : Word) (h1 : Word) (crc : Word) : Statement (.hpqRead h0 h1 crc) := fun _ => rfl
theorem hpqWrite (h0 : Word) (h1 : Word) (data : List Word) (crc : Word) : Statement (.hpqWrite h0 h1 data crc) := fun h => Bool.noConfusion h
theorem hpqSeqReset : Statement (.hpqSeqReset) := fun _ => rfl
theorem flashBootStage (bytes : List Byte) : Statement (.flashBootStage bytes) := fun _ => rfl
theorem flStart : Statement (.flStart) := fun _ => rfl
theorem flCommandDone (bytes : List Byte) : Statement (.flCommandDone bytes) := fun _ => rfl
theorem linkTrainDone (p : Fin 2) (twoLanes : Bool) (nid : BitVec 3) (nMaster : Bool) : Statement (.linkTrainDone p twoLanes nid nMaster) := fun _ => rfl
theorem linkTrainTimeout (p : Fin 2) : Statement (.linkTrainTimeout p) := fun _ => rfl
theorem ping (p : Fin 2) (arrived : Nat) : Statement (.ping p arrived) := fun _ => rfl
theorem pong (p : Fin 2) (trip : Nat) : Statement (.pong p trip) := fun _ => rfl
theorem linkAck (p : Fin 2) (lseq : Byte) : Statement (.linkAck p lseq) := fun _ => rfl
theorem linkRetryTimeout (p : Fin 2) : Statement (.linkRetryTimeout p) := fun _ => rfl
theorem laneFail (p : Fin 2) : Statement (.laneFail p) := fun _ => rfl
theorem heartSend : Statement (.heartSend) := fun _ => rfl
theorem heartReceive (p : Fin 2) (f : HeartFrame) : Statement (.heartReceive p f) := fun _ => rfl
theorem heartMiss : Statement (.heartMiss) := fun _ => rfl
theorem angleSend : Statement (.angleSend) := fun _ => rfl
theorem angleReceive (p : Fin 2) (beat : AngleBeat) : Statement (.angleReceive p beat) := fun _ => rfl
theorem flywheelExpire : Statement (.flywheelExpire) := fun _ => rfl
theorem memRd (p : Fin 2) (f : MemFrame) : Statement (.memRd p f) := fun _ => rfl
theorem memWr (p : Fin 2) (f : MemFrame) : Statement (.memWr p f) := fun h => Bool.noConfusion h
theorem memRdresp (p : Fin 2) (f : MemFrame) : Statement (.memRdresp p f) := fun h => Bool.noConfusion h
theorem memWrack (p : Fin 2) (f : MemFrame) : Statement (.memWrack p f) := fun _ => rfl
theorem orderSubmit (p : Fin 2) (f : OrderFrame) : Statement (.orderSubmit p f) := fun _ => rfl
theorem orderReply (p : Fin 2) (f : ReplyFrame) : Statement (.orderReply p f) := fun _ => rfl
theorem eventEvt (p : Fin 2) (f : EventFrame) : Statement (.eventEvt p f) := fun _ => rfl
theorem eventMsg (p : Fin 2) (f : EventFrame) : Statement (.eventMsg p f) := fun _ => rfl
theorem eventEvtack (p : Fin 2) (f : EventFrame) : Statement (.eventEvtack p f) := fun _ => rfl
theorem evtResend : Statement (.evtResend) := fun _ => rfl
theorem frameAbort (p : Fin 2) : Statement (.frameAbort p) := fun _ => rfl
theorem peerAccess (init : Initiator) (addr : Word) (write half : Bool) (v : Word) : Statement (.peerAccess init addr write half v) := fun h => Bool.noConfusion h
theorem peerAccessTimeout : Statement (.peerAccessTimeout) := fun _ => rfl
theorem peerSubmit (init : Initiator) (dst : BitVec 3) (v : Word) : Statement (.peerSubmit init dst v) := fun _ => rfl
theorem linkRstCmd (v : Word) : Statement (.linkRstCmd v) := fun _ => rfl
theorem evtPopRead : Statement (.evtPopRead) := fun _ => rfl
theorem msgPayRead : Statement (.msgPayRead) := fun _ => rfl
theorem memoryRead (init : Initiator) (addr : Word) (size : Nat) : Statement (.memoryRead init addr size) := fun h => Bool.noConfusion h
theorem memoryWrite (init : Initiator) (addr : Word) (bytes : List Byte) : Statement (.memoryWrite init addr bytes) := fun h => Bool.noConfusion h
theorem scrubCycle (port : Fin 9) : Statement (.scrubCycle port) := fun _ => rfl
theorem bundleUncorr : Statement (.bundleUncorr) := fun _ => rfl
theorem heartbeatWindow (seen : Bool) : Statement (.heartbeatWindow seen) := fun _ => rfl
theorem statusWindow (seen : Bool) (corrected : BitVec 16) : Statement (.statusWindow seen corrected) := fun _ => rfl
theorem bundleRestore : Statement (.bundleRestore) := fun _ => rfl
theorem culvertStall : Statement .culvertStall := fun _ => rfl
theorem islandResetRelease : Statement (.islandResetRelease) := fun _ => rfl
theorem powerOnReset (up : Bool) : Statement (.powerOnReset up) := fun _ => rfl
theorem resetNAssert : Statement (.resetNAssert) := fun _ => rfl
theorem resetNRelease (straps : BitVec 8) : Statement (.resetNRelease straps) := fun _ => rfl
theorem coldResetDone (bundleOk : Bool) : Statement (.coldResetDone bundleOk) := fun _ => rfl
theorem linkResetRelease : Statement (.linkResetRelease) := fun _ => rfl
theorem warmNAssert : Statement (.warmNAssert) := fun _ => rfl
theorem warmNRelease : Statement (.warmNRelease) := fun _ => rfl
theorem warmResetDone : Statement (.warmResetDone) := fun _ => rfl
theorem supplyLoss (sup : Supply) : Statement (.supplyLoss sup) := fun _ => rfl
theorem supplyReturn (sup : Supply) : Statement (.supplyReturn sup) := fun _ => rfl
theorem vdrvUndervoltage : Statement (.vdrvUndervoltage) := fun _ => rfl
theorem vdrvReturn : Statement (.vdrvReturn) := fun _ => rfl
theorem clockSelect (obs : ClockObs) : Statement (.clockSelect obs) := fun _ => rfl
theorem clockFault (kind : ClockFaultKind) : Statement (.clockFault kind) := fun _ => rfl
theorem clockRecover (lostUs : Word) : Statement (.clockRecover lostUs) := fun _ => rfl
theorem park : Statement (.park) := fun _ => rfl
theorem parkEnter : Statement (.parkEnter) := fun _ => rfl
theorem wake (cause : WakeCause) : Statement (.wake cause) := fun _ => rfl
theorem thermMeasure (t0 t1 t2 t3 t4 t5 : Half) : Statement (.thermMeasure t0 t1 t2 t3 t4 t5) := fun _ => rfl
theorem dDieThermalTrip : Statement (.dDieThermalTrip) := fun _ => rfl
theorem thermRelease : Statement (.thermRelease) := fun _ => rfl
theorem dbgFreeze : Statement (.dbgFreeze) := fun _ => rfl
theorem brkPtMatch : Statement (.brkPtMatch) := fun _ => rfl
theorem freezeBegin : Statement (.freezeBegin) := fun _ => rfl
theorem dbgRelease : Statement (.dbgRelease) := fun _ => rfl
theorem commit (page : Byte) : Statement (.commit page) := fun _ => rfl
theorem softReset (page : Byte) : Statement (.softReset page) := fun _ => rfl
theorem enableWrite (page : Byte) (on : Bool) : Statement (.enableWrite page on) := fun _ => rfl
theorem evtSet (page : Byte) (v : Word) : Statement (.evtSet page v) := fun _ => rfl
theorem ptLoRead : Statement (.ptLoRead) := fun _ => rfl
theorem registerWrite (init : Initiator) (addr : Word) (v : Word) : Statement (.registerWrite init addr v) := fun h => Bool.noConfusion h
theorem vrArm (w : Fin 4) (level : BitVec 12) : Statement (.vrArm w level) := fun _ => rfl
theorem bankSenseSample (b : Fin 16) (uv : Word) (clamp : Bool) : Statement (.bankSenseSample b uv clamp) := fun _ => rfl
theorem waitLimitExpire (idx : Fin 16384) : Statement (.waitLimitExpire idx) := fun _ => rfl
theorem trainingRetry (p : Fin 2) : Statement (.trainingRetry p) := fun _ => rfl

end Sys2Proof.Laws.WellFormed
end

