-- ==== Sys2Proof/Laws/SoundOps.lean ====
section
/-! SUPPORT. Every state function of Machine/Ops.lean keeps the invariant `Good` of Laws/Sound.lean. -/

namespace Sys2Proof.Machine

variable {qs : List Instr}

theorem State.setReg_good (s : State) (a : Nat) (w : Word) (hg : Good qs s) : Good qs (State.setReg s a w) := by
  unfold State.setReg
  repeat' first
    | with_reducible assumption
    | (refine fun _ => ?_)
    | lift_lets
    | intro x
    | split
    | with_reducible apply hf
    | (refine good_of_parts ?_; dsimp only; refine parts_of_good ?_; with_reducible assumption)

theorem State.setAct_good (s : State) (a : Nat) (w : Word) (hg : Good qs s) : Good qs (State.setAct s a w) := by
  unfold State.setAct
  repeat' first
    | with_reducible assumption
    | (refine fun _ => ?_)
    | lift_lets
    | intro x
    | split
    | with_reducible apply hf
    | (refine good_of_parts ?_; dsimp only; refine parts_of_good ?_; with_reducible assumption)

theorem State.wr_good (s : State) (base : Nat) (f : Fld) (v : Nat) (hg : Good qs s) : Good qs (State.wr s base f v) := by
  unfold State.wr
  repeat' first
    | with_reducible assumption
    | (refine fun _ => ?_)
    | lift_lets
    | intro x
    | split
    | with_reducible apply State.setReg_good

theorem State.wrBoth_good (s : State) (base : Nat) (f : Fld) (v : Nat) (hg : Good qs s) : Good qs (State.wrBoth s base f v) := by
  unfold State.wrBoth
  repeat' first
    | with_reducible assumption
    | (refine fun _ => ?_)
    | lift_lets
    | intro x
    | split
    | with_reducible apply State.wr_good
    | with_reducible apply State.setAct_good

theorem State.bumpBy_good (s : State) (base : Nat) (f : Fld) (n : Nat) (hg : Good qs s) : Good qs (State.bumpBy s base f n) := by
  unfold State.bumpBy
  repeat' first
    | with_reducible assumption
    | (refine fun _ => ?_)
    | lift_lets
    | intro x
    | split
    | with_reducible apply State.wr_good

theorem State.bump_good (s : State) (base : Nat) (f : Fld) (hg : Good qs s) : Good qs (State.bump s base f) := by
  unfold State.bump
  repeat' first
    | with_reducible assumption
    | (refine fun _ => ?_)
    | lift_lets
    | intro x
    | split
    | with_reducible apply State.bumpBy_good

theorem State.bumpWrap_good (s : State) (base : Nat) (f : Fld) (hg : Good qs s) : Good qs (State.bumpWrap s base f) := by
  unfold State.bumpWrap
  repeat' first
    | with_reducible assumption
    | (refine fun _ => ?_)
    | lift_lets
    | intro x
    | split
    | with_reducible apply State.wr_good

theorem State.err_good (s : State) (page : Nat) (hg : Good qs s) : Good qs (State.err s page) := by
  unfold State.err
  repeat' first
    | with_reducible assumption
    | (refine fun _ => ?_)
    | lift_lets
    | intro x
    | split
    | with_reducible apply State.bump_good

theorem State.restartPt_good (s : State) (h : Good qs s) : Good qs (State.restartPt s) := by
  rw [good_iff] at *
  exact ⟨h.1, h.2.1, h.2.2.1, h.2.2.2.1, h.2.2.2.2.1, rfl⟩

theorem State.countPt_good (s : State) (h : Good qs s) : Good qs (State.countPt s) := by
  rw [good_iff] at *
  refine ⟨h.1, h.2.1, h.2.2.1, h.2.2.2.1, h.2.2.2.2.1, ?_⟩
  show (s.sys.ptChk + 1) % 2 ^ 64 = (s.pt + 1) % 2 ^ 64
  rw [h.2.2.2.2.2]

theorem State.enter_good (s : State) (d : DevState) (h : Good qs s) : Good qs (State.enter s d) := by
  unfold State.enter
  split
  · exact h
  · exact good_eq h rfl rfl rfl rfl rfl rfl rfl

theorem State.clocked_good (s : State) (page : Nat) (f : State → State) (hf : ∀ s, Good qs s → Good qs (f s)) (hg : Good qs s) : Good qs (State.clocked s page f) := by
  unfold State.clocked
  repeat' first
    | with_reducible assumption
    | (refine fun _ => ?_)
    | lift_lets
    | intro x
    | split
    | with_reducible apply State.err_good
    | with_reducible apply hf

theorem State.setRaw_good (s : State) (src : Nat) (hg : Good qs s) : Good qs (State.setRaw s src) := by
  unfold State.setRaw
  repeat' first
    | with_reducible assumption
    | (refine fun _ => ?_)
    | lift_lets
    | intro x
    | split
    | with_reducible apply State.setReg_good

theorem State.sendEvt_good (s : State) (src : Nat) (hg : Good qs s) : Good qs (State.sendEvt s src) := by
  unfold State.sendEvt
  repeat' first
    | with_reducible assumption
    | (refine fun _ => ?_)
    | lift_lets
    | intro x
    | split
    | with_reducible apply hf
    | (refine good_of_parts ?_; dsimp only; refine parts_of_good ?_; with_reducible assumption)

theorem State.askFreeze_good (s : State) (cause : Nat) (hg : Good qs s) : Good qs (State.askFreeze s cause) := by
  unfold State.askFreeze
  repeat' first
    | with_reducible assumption
    | (refine fun _ => ?_)
    | lift_lets
    | (intro x; (have y : Sys := x; clear y); subst x)
    | (intro x; clear_value x)
    | intro x
    | split
    | (refine good_of_parts ?_; dsimp only; refine parts_of_good ?_; with_reducible assumption)

theorem State.brkSource_good (s : State) (src : Nat) (hg : Good qs s) : Good qs (State.brkSource s src) := by
  unfold State.brkSource
  repeat' first
    | with_reducible assumption
    | (refine fun _ => ?_)
    | lift_lets
    | intro x
    | split
    | with_reducible apply State.askFreeze_good

theorem State.raise_good (s : State) (src : Nat) (hg : Good qs s) : Good qs (State.raise s src) := by
  unfold State.raise
  repeat' first
    | with_reducible assumption
    | (refine fun _ => ?_)
    | lift_lets
    | intro x
    | split
    | with_reducible apply State.setRaw_good
    | with_reducible apply State.sendEvt_good
    | with_reducible apply State.brkSource_good

theorem State.raiseIf_good (s : State) (c : Bool) (src : Nat) (hg : Good qs s) : Good qs (State.raiseIf s c src) := by
  unfold State.raiseIf
  repeat' first
    | with_reducible assumption
    | (refine fun _ => ?_)
    | lift_lets
    | intro x
    | split
    | with_reducible apply State.raise_good

theorem State.setFault_good (s : State) (base : Nat) (f : Fld) (src : Nat) (hg : Good qs s) : Good qs (State.setFault s base f src) := by
  unfold State.setFault
  repeat' first
    | with_reducible assumption
    | (refine fun _ => ?_)
    | lift_lets
    | intro x
    | split
    | with_reducible apply State.wr_good
    | with_reducible apply State.raise_good

theorem State.updWheel_good (s : State) (w : Fin 4) (f : Wheel → Wheel) (hg : Good qs s) : Good qs (State.updWheel s w f) := by
  unfold State.updWheel
  repeat' first
    | with_reducible assumption
    | (refine fun _ => ?_)
    | lift_lets
    | intro x
    | split
    | with_reducible apply hf
    | (refine good_of_parts ?_; dsimp only; refine parts_of_good ?_; with_reducible assumption)

theorem State.updTrk_good (s : State) (t : Fin 2) (f : Tracker → Tracker) (hg : Good qs s) : Good qs (State.updTrk s t f) := by
  unfold State.updTrk
  repeat' first
    | with_reducible assumption
    | (refine fun _ => ?_)
    | lift_lets
    | intro x
    | split
    | with_reducible apply hf
    | (refine good_of_parts ?_; dsimp only; refine parts_of_good ?_; with_reducible assumption)

theorem State.updPlan_good (s : State) (f : Plan → Plan) (hg : Good qs s) : Good qs (State.updPlan s f) := by
  unfold State.updPlan
  repeat' first
    | with_reducible assumption
    | (refine fun _ => ?_)
    | lift_lets
    | intro x
    | split
    | with_reducible apply hf
    | (refine good_of_parts ?_; dsimp only; refine parts_of_good ?_; with_reducible assumption)

theorem State.updHdg_good (s : State) (f : Headgate → Headgate) (hg : Good qs s) : Good qs (State.updHdg s f) := by
  unfold State.updHdg
  repeat' first
    | with_reducible assumption
    | (refine fun _ => ?_)
    | lift_lets
    | intro x
    | split
    | with_reducible apply hf
    | (refine good_of_parts ?_; dsimp only; refine parts_of_good ?_; with_reducible assumption)

theorem State.updShp_good (s : State) (b : Fin 16) (f : Shaper → Shaper) (hg : Good qs s) : Good qs (State.updShp s b f) := by
  unfold State.updShp
  repeat' first
    | with_reducible assumption
    | (refine fun _ => ?_)
    | lift_lets
    | intro x
    | split
    | with_reducible apply hf
    | (refine good_of_parts ?_; dsimp only; refine parts_of_good ?_; with_reducible assumption)

theorem State.updConv_good (s : State) (k : Fin 4) (f : Converter → Converter) (hg : Good qs s) : Good qs (State.updConv s k f) := by
  unfold State.updConv
  repeat' first
    | with_reducible assumption
    | (refine fun _ => ?_)
    | lift_lets
    | intro x
    | split
    | with_reducible apply hf
    | (refine good_of_parts ?_; dsimp only; refine parts_of_good ?_; with_reducible assumption)

theorem State.updPwm_good (s : State) (n : Fin 16) (f : PwmGen → PwmGen) (hg : Good qs s) : Good qs (State.updPwm s n f) := by
  unfold State.updPwm
  repeat' first
    | with_reducible assumption
    | (refine fun _ => ?_)
    | lift_lets
    | intro x
    | split
    | with_reducible apply hf
    | (refine good_of_parts ?_; dsimp only; refine parts_of_good ?_; with_reducible assumption)

theorem State.updTmr_good (s : State) (n : Fin 16) (f : Timer → Timer) (hg : Good qs s) : Good qs (State.updTmr s n f) := by
  unfold State.updTmr
  repeat' first
    | with_reducible assumption
    | (refine fun _ => ?_)
    | lift_lets
    | intro x
    | split
    | with_reducible apply hf
    | (refine good_of_parts ?_; dsimp only; refine parts_of_good ?_; with_reducible assumption)

theorem State.updRnl_good (s : State) (e : Fin 8) (f : Runnel → Runnel) (hg : Good qs s) : Good qs (State.updRnl s e f) := by
  unfold State.updRnl
  repeat' first
    | with_reducible assumption
    | (refine fun _ => ?_)
    | lift_lets
    | intro x
    | split
    | with_reducible apply hf
    | (refine good_of_parts ?_; dsimp only; refine parts_of_good ?_; with_reducible assumption)

theorem State.updCore_good (s : State) (c : Fin 4) (f : Core → Core) (hg : Good qs s) : Good qs (State.updCore s c f) := by
  unfold State.updCore
  repeat' first
    | with_reducible assumption
    | (refine fun _ => ?_)
    | lift_lets
    | intro x
    | split
    | with_reducible apply hf
    | (refine good_of_parts ?_; dsimp only; refine parts_of_good ?_; with_reducible assumption)

theorem State.updFlume_good (s : State) (c : Fin 32) (f : FlumeChan → FlumeChan) (hg : Good qs s) : Good qs (State.updFlume s c f) := by
  unfold State.updFlume
  repeat' first
    | with_reducible assumption
    | (refine fun _ => ?_)
    | lift_lets
    | intro x
    | split
    | with_reducible apply hf
    | (refine good_of_parts ?_; dsimp only; refine parts_of_good ?_; with_reducible assumption)

theorem State.updLink_good (s : State) (f : Link → Link) (hg : Good qs s) : Good qs (State.updLink s f) := by
  unfold State.updLink
  repeat' first
    | with_reducible assumption
    | (refine fun _ => ?_)
    | lift_lets
    | intro x
    | split
    | with_reducible apply hf
    | (refine good_of_parts ?_; dsimp only; refine parts_of_good ?_; with_reducible assumption)

theorem State.updPort_good (s : State) (p : Fin 2) (f : LinkPort → LinkPort) (hg : Good qs s) : Good qs (State.updPort s p f) := by
  unfold State.updPort
  repeat' first
    | with_reducible assumption
    | (refine fun _ => ?_)
    | lift_lets
    | intro x
    | split
    | with_reducible apply State.updLink_good

theorem State.updHost_good (s : State) (f : HostPorts → HostPorts) (hg : Good qs s) : Good qs (State.updHost s f) := by
  unfold State.updHost
  repeat' first
    | with_reducible assumption
    | (refine fun _ => ?_)
    | lift_lets
    | intro x
    | split
    | with_reducible apply hf
    | (refine good_of_parts ?_; dsimp only; refine parts_of_good ?_; with_reducible assumption)

theorem State.drawFree_good (s : State) (hg : Good qs s) : Good qs (State.drawFree s).2 := by
  unfold State.drawFree
  repeat' first
    | with_reducible assumption
    | (refine fun _ => ?_)
    | lift_lets
    | intro x
    | split
    | with_reducible apply hf
    | (refine good_of_parts ?_; dsimp only; refine parts_of_good ?_; with_reducible assumption)

theorem State.actWhere_good (p : CommitPend → Bool) (s : State) (hg : Good qs s) : Good qs (State.actWhere p s) := by
  unfold State.actWhere
  repeat' first
    | with_reducible assumption
    | (refine fun _ => ?_)
    | lift_lets
    | (intro x; refine sup (Good qs x) ?_ ?_; (on_goal 1 => subst x); (on_goal 2 => (intro _; clear_value x)))
    | (intro x; clear_value x)
    | intro x
    | split
    | with_reducible apply foldS_good
    | with_reducible apply State.setAct_good
    | (refine good_of_parts ?_; dsimp only; refine parts_of_good ?_; with_reducible assumption)

theorem State.pendCommit_good (w : ActsAt) (a : Nat) (v : Word) (s : State) (hg : Good qs s) : Good qs (State.pendCommit w a v s) := by
  unfold State.pendCommit
  repeat' first
    | with_reducible assumption
    | (refine fun _ => ?_)
    | lift_lets
    | intro x
    | split
    | (refine good_of_parts ?_; dsimp only; refine parts_of_good ?_; with_reducible assumption)

theorem State.sendTrig_good (s : State) (dest delay : Nat) (hg : Good qs s) : Good qs (State.sendTrig s dest delay) := by
  unfold State.sendTrig
  repeat' first
    | with_reducible assumption
    | (refine fun _ => ?_)
    | lift_lets
    | intro x
    | split
    | with_reducible apply hf
    | (refine good_of_parts ?_; dsimp only; refine parts_of_good ?_; with_reducible assumption)

theorem State.fireIn_good (s : State) (code delay : Nat) (hg : Good qs s) : Good qs (State.fireIn s code delay) := by
  unfold State.fireIn
  repeat' first
    | with_reducible assumption
    | (refine fun _ => ?_)
    | lift_lets
    | (intro x; refine sup (Good qs x) ?_ ?_; (on_goal 1 => subst x); (on_goal 2 => (intro _; clear_value x)))
    | intro x
    | split
    | with_reducible apply foldS_good
    | with_reducible apply State.sendTrig_good

theorem State.fire_good (s : State) (code : Nat) (hg : Good qs s) : Good qs (State.fire s code) := by
  unfold State.fire
  repeat' first
    | with_reducible assumption
    | (refine fun _ => ?_)
    | lift_lets
    | intro x
    | split
    | with_reducible apply State.fireIn_good

theorem State.fireConv_good (s : State) (code : Nat) (hg : Good qs s) : Good qs (State.fireConv s code) := by
  unfold State.fireConv
  repeat' first
    | with_reducible assumption
    | (refine fun _ => ?_)
    | lift_lets
    | intro x
    | split
    | with_reducible apply foldS_good
    | with_reducible apply State.sendTrig_good

theorem State.takeTrig_good (s : State) (dest : Nat) (hg : Good qs s) : Good qs (State.takeTrig s dest) := by
  unfold State.takeTrig
  repeat' first
    | with_reducible assumption
    | (refine fun _ => ?_)
    | lift_lets
    | intro x
    | split
    | with_reducible apply hf
    | (refine good_of_parts ?_; dsimp only; refine parts_of_good ?_; with_reducible assumption)

end Sys2Proof.Machine
end

