-- ==== Sys2Proof/Laws/SoundMemory.lean ====
section
/-! SUPPORT. Every state function of Machine/Memory.lean keeps the invariant `Good` of Laws/Sound.lean. -/

namespace Sys2Proof.Machine

variable {qs : List Instr}

theorem storeClean_good (w d : Nat) (s : State) (h : Good qs s) : Good qs (storeClean w d s) :=
  good_mem h (memWf_put _ _ _) rfl rfl rfl rfl rfl

theorem storePoisoned_good (w d : Nat) (s : State) (h : Good qs s) : Good qs (storePoisoned w d s) :=
  good_mem h (memWf_put _ _ _) rfl rfl rfl rfl rfl

theorem noteCorrected_good (w : Nat) (s : State) (hg : Good qs s) : Good qs (noteCorrected w s) := by
  unfold noteCorrected
  repeat' first
    | with_reducible assumption
    | (refine fun _ => ?_)
    | lift_lets
    | (intro x; refine sup (Good qs x) ?_ ?_; (on_goal 1 => subst x); (on_goal 2 => (intro _; clear_value x)))
    | (intro x; clear_value x)
    | intro x
    | split
    | with_reducible apply State.bump_good
    | with_reducible apply State.setReg_good
    | with_reducible apply State.raiseIf_good
    | (refine good_of_parts ?_; dsimp only; refine parts_of_good ?_; with_reducible assumption)

theorem noteUncorrectable_good (w : Nat) (s : State) (hg : Good qs s) : Good qs (noteUncorrectable w s) := by
  unfold noteUncorrectable
  repeat' first
    | with_reducible assumption
    | (refine fun _ => ?_)
    | lift_lets
    | (intro x; refine sup (Good qs x) ?_ ?_; (on_goal 1 => subst x); (on_goal 2 => (intro _; clear_value x)))
    | (intro x; clear_value x)
    | intro x
    | split
    | with_reducible apply State.bump_good
    | with_reducible apply State.setReg_good
    | with_reducible apply State.raise_good
    | with_reducible apply State.wr_good
    | with_reducible apply storeClean_good
    | with_reducible apply storePoisoned_good
    | with_reducible apply hf
    | (refine good_of_parts ?_; dsimp only; refine parts_of_good ?_; with_reducible assumption)

theorem readWord_good (w : Nat) (s : State) (hg : Good qs s) : Good qs (readWord w s).2 := by
  unfold readWord
  repeat' first
    | with_reducible assumption
    | (refine fun _ => ?_)
    | lift_lets
    | intro x
    | split
    | with_reducible apply noteCorrected_good
    | with_reducible apply noteUncorrectable_good

theorem readDec_good (a n : Nat) (s : State) (hg : Good qs s) : Good qs (readDec a n s).2 := by
  unfold readDec
  repeat' first
    | with_reducible assumption
    | (refine fun _ => ?_)
    | lift_lets
    | (intro x; refine sup (Good qs x.2) ?_ ?_; (on_goal 1 => subst x); (on_goal 2 => (intro _; clear_value x)))
    | intro x
    | split
    | with_reducible apply readWord_good

theorem dropScrub_good (w : Nat) (s : State) (hg : Good qs s) : Good qs (dropScrub w s) := by
  unfold dropScrub
  refine good_of_parts ?_
  dsimp only
  exact parts_of_good hg

theorem postEntry_good (i : Nat) (s : State) (hg : Good qs s) : Good qs (postEntry i s) := by
  unfold postEntry
  repeat' first
    | with_reducible assumption
    | (refine fun _ => ?_)
    | lift_lets
    | (intro x; clear_value x)
    | intro x
    | split
    | (refine good_of_parts ?_; dsimp only; refine parts_of_good ?_; with_reducible assumption)

theorem writeFull_good (w d : Nat) (s : State) (hg : Good qs s) : Good qs (writeFull w d s) := by
  unfold writeFull
  repeat' first
    | with_reducible assumption
    | (refine fun _ => ?_)
    | lift_lets
    | (intro x; refine sup (Good qs x) ?_ ?_; (on_goal 1 => subst x); (on_goal 2 => (intro _; clear_value x)))
    | (intro x; clear_value x)
    | intro x
    | split
    | with_reducible apply dropScrub_good
    | with_reducible apply storeClean_good
    | with_reducible apply State.wr_good
    | with_reducible apply hf
    | (refine good_of_parts ?_; dsimp only; refine parts_of_good ?_; with_reducible assumption)

theorem writePart_good (a n v : Nat) (s : State) (hg : Good qs s) : Good qs (writePart a n v s) := by
  unfold writePart
  repeat' first
    | with_reducible assumption
    | (refine fun _ => ?_)
    | lift_lets
    | (intro x; refine sup (Good qs x) ?_ ?_; (on_goal 1 => subst x); (on_goal 2 => (intro _; clear_value x)))
    | (intro x; clear_value x)
    | intro x
    | split
    | with_reducible apply dropScrub_good
    | with_reducible apply storeClean_good
    | with_reducible apply noteCorrected_good
    | with_reducible apply storePoisoned_good
    | with_reducible apply noteUncorrectable_good

theorem writeDec_good (a n v : Nat) (s : State) (hg : Good qs s) : Good qs (writeDec a n v s) := by
  unfold writeDec
  repeat' first
    | with_reducible assumption
    | (refine fun _ => ?_)
    | lift_lets
    | intro x
    | split
    | with_reducible apply writeFull_good
    | with_reducible apply writePart_good

theorem putWord_good (a d : Nat) (s : State) (hg : Good qs s) : Good qs (putWord a d s) := by
  unfold putWord
  repeat' first
    | with_reducible assumption
    | (refine fun _ => ?_)
    | lift_lets
    | intro x
    | split
    | with_reducible apply writeFull_good

theorem noteMicrocode_good (j : Nat) (s : State) (hg : Good qs s) : Good qs (noteMicrocode j s) := by
  unfold noteMicrocode
  repeat' first
    | with_reducible assumption
    | (refine fun _ => ?_)
    | lift_lets
    | (intro x; refine sup (Good qs x) ?_ ?_; (on_goal 1 => subst x); (on_goal 2 => (intro _; clear_value x)))
    | (intro x; refine sup (Good qs x.2) ?_ ?_; (on_goal 1 => subst x); (on_goal 2 => (intro _; clear_value x)))
    | (intro x; clear_value x)
    | intro x
    | split
    | with_reducible apply State.drawFree_good
    | with_reducible apply State.wr_good
    | with_reducible apply State.bump_good
    | with_reducible apply State.setReg_good
    | with_reducible apply State.raise_good

theorem writeSec_good (a n v : Nat) (s : State) (h : Good qs s) : Good qs (writeSec a n v s) :=
  good_mem h (memWf_put _ _ _) rfl rfl rfl rfl rfl

theorem markBeat_good (port t : Nat) (s : State) (hg : Good qs s) : Good qs (markBeat port t s) := by
  unfold markBeat
  repeat' first
    | with_reducible assumption
    | (refine fun _ => ?_)
    | lift_lets
    | (intro x; clear_value x)
    | intro x
    | split
    | (refine good_of_parts ?_; dsimp only; refine parts_of_good ?_; with_reducible assumption)

theorem beatsEnd_good (s : State) (hg : Good qs s) : Good qs (beatsEnd s) := by
  unfold beatsEnd
  repeat' first
    | with_reducible assumption
    | (refine fun _ => ?_)
    | lift_lets
    | (intro x; clear_value x)
    | intro x
    | split
    | (refine good_of_parts ?_; dsimp only; refine parts_of_good ?_; with_reducible assumption)

theorem countBeat_good (port code t : Nat) (s : State) (hg : Good qs s) : Good qs (countBeat port code t s) := by
  unfold countBeat
  repeat' first
    | with_reducible assumption
    | (refine fun _ => ?_)
    | lift_lets
    | intro x
    | split
    | with_reducible apply State.bumpWrap_good

theorem beatAt_good (port code t : Nat) (s : State) (hg : Good qs s) : Good qs (beatAt port code t s) := by
  unfold beatAt
  repeat' first
    | with_reducible assumption
    | (refine fun _ => ?_)
    | lift_lets
    | intro x
    | split
    | with_reducible apply countBeat_good
    | with_reducible apply markBeat_good

theorem monBeat_good (port code : Nat) (s : State) (hg : Good qs s) : Good qs (monBeat port code s) := by
  unfold monBeat
  repeat' first
    | with_reducible assumption
    | (refine fun _ => ?_)
    | lift_lets
    | intro x
    | split
    | with_reducible apply beatAt_good

theorem busError_good (init : Initiator) (a : Nat) (write : Bool) (s : State) (hg : Good qs s) : Good qs (busError init a write s) := by
  unfold busError
  repeat' first
    | with_reducible assumption
    | (refine fun _ => ?_)
    | lift_lets
    | (intro x; refine sup (Good qs x) ?_ ?_; (on_goal 1 => subst x); (on_goal 2 => (intro _; clear_value x)))
    | intro x
    | split
    | with_reducible apply State.setReg_good
    | with_reducible apply State.raise_good
    | with_reducible apply hf
    | (refine good_of_parts ?_; dsimp only; refine parts_of_good ?_; with_reducible assumption)

end Sys2Proof.Machine
end

