-- ==== Sys2Proof/Laws/SoundWheels.lean ====
section
/-! SUPPORT. Every state function of Machine/Wheels.lean keeps the invariant `Good` of Laws/Sound.lean. -/

namespace Sys2Proof.Machine

variable {qs : List Instr}

theorem State.respond_good (s : State) (d : Word) (hg : Good qs s) : Good qs (State.respond s d) := by
  unfold State.respond
  repeat' first
    | with_reducible assumption
    | (refine fun _ => ?_)
    | lift_lets
    | intro x
    | split
    | with_reducible apply hf
    | (refine good_of_parts ?_; dsimp only; refine parts_of_good ?_; with_reducible assumption)

theorem ptabAdvance_good (s : State) (hg : Good qs s) : Good qs (ptabAdvance s) := by
  unfold ptabAdvance
  repeat' first
    | with_reducible assumption
    | (refine fun _ => ?_)
    | lift_lets
    | intro x
    | split
    | with_reducible apply State.wr_good

theorem ptabLoWrite_good (v : Word) (s : State) (hg : Good qs s) : Good qs (ptabLoWrite v s) := by
  unfold ptabLoWrite
  repeat' first
    | with_reducible assumption
    | (refine fun _ => ?_)
    | lift_lets
    | intro x
    | split
    | with_reducible apply hf
    | (refine good_of_parts ?_; dsimp only; refine parts_of_good ?_; with_reducible assumption)

theorem ptabHiWrite_good (v : Word) (s : State) (hg : Good qs s) : Good qs (ptabHiWrite v s) := by
  unfold ptabHiWrite
  repeat' first
    | with_reducible assumption
    | (refine fun _ => ?_)
    | lift_lets
    | intro x
    | split
    | with_reducible apply State.err_good
    | with_reducible apply ptabAdvance_good
    | with_reducible apply hf
    | (refine good_of_parts ?_; dsimp only; refine parts_of_good ?_; with_reducible assumption)

theorem ptabLoRead_good (s : State) (hg : Good qs s) : Good qs (ptabLoRead s) := by
  unfold ptabLoRead
  repeat' first
    | with_reducible assumption
    | (refine fun _ => ?_)
    | lift_lets
    | (intro x; clear_value x)
    | intro x
    | split
    | with_reducible apply State.respond_good
    | with_reducible apply hf
    | (refine good_of_parts ?_; dsimp only; refine parts_of_good ?_; with_reducible assumption)

theorem ptabHiRead_good (s : State) (hg : Good qs s) : Good qs (ptabHiRead s) := by
  unfold ptabHiRead
  repeat' first
    | with_reducible assumption
    | (refine fun _ => ?_)
    | lift_lets
    | intro x
    | split
    | with_reducible apply ptabAdvance_good
    | with_reducible apply State.respond_good

theorem stampLoRead_good (w : Fin 4) (s : State) (hg : Good qs s) : Good qs (stampLoRead w s) := by
  unfold stampLoRead
  repeat' first
    | with_reducible assumption
    | (refine fun _ => ?_)
    | lift_lets
    | (intro x; clear_value x)
    | intro x
    | split
    | with_reducible apply State.setReg_good
    | with_reducible apply State.respond_good

theorem notePtFailed_good (t : Fin 2) (k : Nat) (s : State) (hg : Good qs s) : Good qs (notePtFailed t k s) := by
  unfold notePtFailed
  repeat' first
    | with_reducible assumption
    | (refine fun _ => ?_)
    | lift_lets
    | intro x
    | split
    | with_reducible apply updSys_good
    | with_reducible rfl

theorem setIfault_good (t : Fin 2) (k : Nat) (s : State) (hg : Good qs s) : Good qs (setIfault t k s) := by
  unfold setIfault
  repeat' first
    | with_reducible assumption
    | (refine fun _ => ?_)
    | lift_lets
    | (intro x; refine sup (Good qs x) ?_ ?_; (on_goal 1 => subst x); (on_goal 2 => (intro _; clear_value x)))
    | (intro x; clear_value x)
    | intro x
    | split
    | with_reducible apply notePtFailed_good
    | with_reducible apply State.setReg_good
    | with_reducible apply State.updTrk_good
    | with_reducible apply State.raiseIf_good

theorem wheelFault_good (w : Fin 4) (f : Fld) (s : State) (hg : Good qs s) : Good qs (wheelFault w f s) := by
  unfold wheelFault
  repeat' first
    | with_reducible assumption
    | (refine fun _ => ?_)
    | lift_lets
    | (intro x; refine sup (Good qs x) ?_ ?_; (on_goal 1 => subst x); (on_goal 2 => (intro _; clear_value x)))
    | intro x
    | split
    | with_reducible apply foldS_good
    | with_reducible apply State.setFault_good
    | with_reducible apply setIfault_good

theorem freezeEdge_good (s : State) (hg : Good qs s) : Good qs (freezeEdge s) := by
  unfold freezeEdge
  repeat' first
    | with_reducible assumption
    | (refine fun _ => ?_)
    | lift_lets
    | intro x
    | split
    | with_reducible apply State.bump_good

theorem keepWheelWord_good (w : Fin 4) (off : Nat) (old : Word) (s : State) (hg : Good qs s) : Good qs (keepWheelWord w off old s) := by
  unfold keepWheelWord
  repeat' first
    | with_reducible assumption
    | (refine fun _ => ?_)
    | lift_lets
    | intro x
    | split
    | with_reducible apply State.updWheel_good

theorem deliverEdge_good (w : Fin 4) (e : EdgeIn) (s : State) (hg : Good qs s) : Good qs (deliverEdge w e s) := by
  unfold deliverEdge
  repeat' first
    | with_reducible assumption
    | (refine fun _ => ?_)
    | lift_lets
    | intro x
    | split
    | with_reducible apply foldS_good
    | with_reducible apply State.updTrk_good

theorem acceptEdge_good (w : Fin 4) (stamp delay : Nat) (s : State) (hg : Good qs s) : Good qs (acceptEdge w stamp delay s) := by
  unfold acceptEdge
  repeat' first
    | with_reducible assumption
    | (refine fun _ => ?_)
    | lift_lets
    | (intro x; refine sup (Good qs x) ?_ ?_; (on_goal 1 => subst x); (on_goal 2 => (intro _; clear_value x)))
    | (intro x; clear_value x)
    | intro x
    | split
    | with_reducible apply foldS_good
    | with_reducible apply State.wr_good
    | with_reducible apply State.updTrk_good
    | with_reducible apply wheelFault_good
    | with_reducible apply State.bumpWrap_good
    | with_reducible apply State.updWheel_good
    | with_reducible apply State.raise_good
    | with_reducible apply State.fireIn_good
    | with_reducible apply State.enter_good
    | with_reducible apply deliverEdge_good

theorem vrArmStep_good (w : Fin 4) (level : BitVec 12) (s : State) (hg : Good qs s) : Good qs (vrArmStep w level s) := by
  unfold vrArmStep
  repeat' first
    | with_reducible assumption
    | (refine fun _ => ?_)
    | lift_lets
    | (intro x; clear_value x)
    | intro x
    | split
    | with_reducible apply State.updWheel_good

theorem vrEdgeStep_good (w : Fin 4) (peak : BitVec 12) (s : State) (hg : Good qs s) : Good qs (vrEdgeStep w peak s) := by
  unfold vrEdgeStep
  repeat' first
    | with_reducible assumption
    | (refine fun _ => ?_)
    | lift_lets
    | (intro x; refine sup (Good qs x) ?_ ?_; (on_goal 1 => subst x); (on_goal 2 => (intro _; clear_value x)))
    | (intro x; clear_value x)
    | intro x
    | split
    | with_reducible apply State.updWheel_good
    | with_reducible apply freezeEdge_good
    | with_reducible apply State.wr_good
    | with_reducible apply wheelFault_good
    | with_reducible apply acceptEdge_good

theorem hallHigh_good (w : Fin 4) (stamp : Nat) (s : State) (hg : Good qs s) : Good qs (hallHigh w stamp s) := by
  unfold hallHigh
  repeat' first
    | with_reducible assumption
    | (refine fun _ => ?_)
    | lift_lets
    | (intro x; clear_value x)
    | intro x
    | split
    | with_reducible apply State.wr_good
    | with_reducible apply State.updWheel_good

theorem hallTransitionStep_good (w : Fin 4) (level : Bool) (first : Nat) (s : State) (hg : Good qs s) : Good qs (hallTransitionStep w level first s) := by
  unfold hallTransitionStep
  repeat' first
    | with_reducible assumption
    | (refine fun _ => ?_)
    | lift_lets
    | (intro x; refine sup (Good qs x) ?_ ?_; (on_goal 1 => subst x); (on_goal 2 => (intro _; clear_value x)))
    | (intro x; clear_value x)
    | intro x
    | split
    | with_reducible apply State.updWheel_good
    | with_reducible apply freezeEdge_good
    | with_reducible apply acceptEdge_good
    | with_reducible apply hallHigh_good

theorem hallGlitchStep_good (w : Fin 4) (first back : Nat) (s : State) (hg : Good qs s) : Good qs (hallGlitchStep w first back s) := by
  unfold hallGlitchStep
  repeat' first
    | with_reducible assumption
    | (refine fun _ => ?_)
    | lift_lets
    | (intro x; clear_value x)
    | intro x
    | split
    | with_reducible apply State.bump_good

theorem dirLeadingStep_good (w : Fin 4) (s : State) (hg : Good qs s) : Good qs (dirLeadingStep w s) := by
  unfold dirLeadingStep
  repeat' first
    | with_reducible assumption
    | (refine fun _ => ?_)
    | lift_lets
    | (intro x; refine sup (Good qs x) ?_ ?_; (on_goal 1 => subst x); (on_goal 2 => (intro _; clear_value x)))
    | (intro x; clear_value x)
    | intro x
    | split
    | with_reducible apply State.updWheel_good
    | with_reducible apply freezeEdge_good
    | with_reducible apply acceptEdge_good

theorem dirClassRegs_good (w : Fin 4) (width cls : Nat) (s : State) (hg : Good qs s) : Good qs (dirClassRegs w width cls s) := by
  unfold dirClassRegs
  repeat' first
    | with_reducible assumption
    | (refine fun _ => ?_)
    | lift_lets
    | (intro x; refine sup (Good qs x) ?_ ?_; (on_goal 1 => subst x); (on_goal 2 => (intro _; clear_value x)))
    | (intro x; clear_value x)
    | intro x
    | split
    | with_reducible apply State.wr_good
    | with_reducible apply State.raiseIf_good
    | with_reducible apply wheelFault_good

end Sys2Proof.Machine
end

