-- ==== Sys2Proof/Laws/SoundJournal.lean ====
section
/-! SUPPORT. Every state function of Machine/Journal.lean keeps the invariant `Good` of Laws/Sound.lean. -/

namespace Sys2Proof.Machine

variable {qs : List Instr}

theorem jrnPut_good (w0 w1 : Nat) (s : State) (hg : Good qs s) : Good qs (jrnPut w0 w1 s) := by
  unfold jrnPut
  repeat' first
    | with_reducible assumption
    | (refine fun _ => ?_)
    | lift_lets
    | (intro x; refine sup (Good qs x) ?_ ?_; (on_goal 1 => subst x); (on_goal 2 => (intro _; clear_value x)))
    | (intro x; clear_value x)
    | intro x
    | split
    | with_reducible apply putWord_good
    | with_reducible apply State.bumpWrap_good
    | with_reducible apply State.raise_good
    | with_reducible apply State.raiseIf_good

theorem tryLoss_good (s : State) (hg : Good qs s) : Good qs (tryLoss s) := by
  unfold tryLoss
  repeat' first
    | with_reducible assumption
    | (refine fun _ => ?_)
    | lift_lets
    | (intro x; clear_value x)
    | intro x
    | split
    | with_reducible apply jrnPut_good
    | with_reducible apply State.updHdg_good

theorem jrnLost_good (s : State) (hg : Good qs s) : Good qs (jrnLost s) := by
  unfold jrnLost
  repeat' first
    | with_reducible assumption
    | (refine fun _ => ?_)
    | lift_lets
    | intro x
    | split
    | with_reducible apply State.bump_good
    | with_reducible apply State.updHdg_good
    | with_reducible apply State.raise_good

theorem jrnNow_good (w0 w1 : Nat) (s : State) (hg : Good qs s) : Good qs (jrnNow w0 w1 s) := by
  unfold jrnNow
  repeat' first
    | with_reducible assumption
    | (refine fun _ => ?_)
    | lift_lets
    | (intro x; refine sup (Good qs x) ?_ ?_; (on_goal 1 => subst x); (on_goal 2 => (intro _; clear_value x)))
    | intro x
    | split
    | with_reducible apply tryLoss_good
    | with_reducible apply jrnPut_good
    | with_reducible apply jrnLost_good

theorem jrnLater_good (r : JrnRec) (s : State) (hg : Good qs s) : Good qs (jrnLater r s) := by
  unfold jrnLater
  repeat' first
    | with_reducible assumption
    | (refine fun _ => ?_)
    | lift_lets
    | intro x
    | split
    | with_reducible apply State.updHdg_good

theorem jrnOther_good (w0 w1 : Nat) (s : State) (hg : Good qs s) : Good qs (jrnOther w0 w1 s) := by
  unfold jrnOther
  repeat' first
    | with_reducible assumption
    | (refine fun _ => ?_)
    | lift_lets
    | (intro x; refine sup (Good qs x) ?_ ?_; (on_goal 1 => subst x); (on_goal 2 => (intro _; clear_value x)))
    | intro x
    | split
    | with_reducible apply tryLoss_good
    | with_reducible apply jrnLater_good
    | with_reducible apply jrnLost_good

theorem jrnClosed_good (cause angle : Nat) (s : State) (hg : Good qs s) : Good qs (jrnClosed cause angle s) := by
  unfold jrnClosed
  repeat' first
    | with_reducible assumption
    | (refine fun _ => ?_)
    | lift_lets
    | intro x
    | split
    | with_reducible apply jrnLater_good

theorem jrnOpened_good (angle : Nat) (s : State) (hg : Good qs s) : Good qs (jrnOpened angle s) := by
  unfold jrnOpened
  repeat' first
    | with_reducible assumption
    | (refine fun _ => ?_)
    | lift_lets
    | intro x
    | split
    | with_reducible apply jrnLater_good

theorem jrnAction_good (outcome code idx angle : Nat) (s : State) (hg : Good qs s) : Good qs (jrnAction outcome code idx angle s) := by
  unfold jrnAction
  repeat' first
    | with_reducible assumption
    | (refine fun _ => ?_)
    | lift_lets
    | intro x
    | split
    | with_reducible apply jrnOther_good

theorem jrnPeriodic_good (core slot angle : Nat) (s : State) (hg : Good qs s) : Good qs (jrnPeriodic core slot angle s) := by
  unfold jrnPeriodic
  repeat' first
    | with_reducible assumption
    | (refine fun _ => ?_)
    | lift_lets
    | intro x
    | split
    | with_reducible apply jrnOther_good

theorem queueEntryBad_good (seq : Nat) (s : State) (hg : Good qs s) : Good qs (queueEntryBad seq s).2 := by
  unfold queueEntryBad
  repeat' first
    | with_reducible assumption
    | (refine fun _ => ?_)
    | lift_lets
    | (intro x; refine sup (Good qs x.2) ?_ ?_; (on_goal 1 => subst x); (on_goal 2 => (intro _; clear_value x)))
    | intro x
    | split
    | with_reducible apply readWord_good

theorem journalHead_good (o : Order) (s : State) (hg : Good qs s) : Good qs (journalHead o s) := by
  unfold journalHead
  repeat' first
    | with_reducible assumption
    | (refine fun _ => ?_)
    | lift_lets
    | (intro x; refine sup (Good qs x) ?_ ?_; (on_goal 1 => subst x); (on_goal 2 => (intro _; clear_value x)))
    | (intro x; refine sup (Good qs x.2) ?_ ?_; (on_goal 1 => subst x); (on_goal 2 => (intro _; clear_value x)))
    | (intro x; clear_value x)
    | intro x
    | split
    | with_reducible apply queueEntryBad_good
    | with_reducible apply tryLoss_good
    | with_reducible apply jrnPut_good
    | with_reducible apply State.updHdg_good

theorem drainHead_good (n : Nat) (s : State) (h : Good qs s) : Good qs (drainHead n s) := by
  induction n generalizing s with
  | zero => exact h
  | succ n ih =>
    unfold drainHead
    repeat' first
      | with_reducible assumption
      | (refine fun _ => ?_)
      | lift_lets
      | intro x
      | split
      | with_reducible apply ih
      | with_reducible apply journalHead_good

theorem drainQueue_good (s : State) (hg : Good qs s) : Good qs (drainQueue s) := by
  unfold drainQueue
  repeat' first
    | with_reducible assumption
    | (refine fun _ => ?_)
    | lift_lets
    | intro x
    | split
    | with_reducible apply drainHead_good

theorem jrnFlush_good (p : JrnRec → Bool) (r : JrnRec) (s : State) (hg : Good qs s) : Good qs (jrnFlush p r s) := by
  unfold jrnFlush
  repeat' first
    | with_reducible assumption
    | (refine fun _ => ?_)
    | lift_lets
    | intro x
    | split
    | with_reducible apply jrnPut_good
    | with_reducible apply jrnNow_good

theorem flushRecs_good (s : State) (hg : Good qs s) : Good qs (flushRecs s) := by
  unfold flushRecs
  repeat' first
    | with_reducible assumption
    | (refine fun _ => ?_)
    | lift_lets
    | (intro x; refine sup (Good qs x) ?_ ?_; (on_goal 1 => subst x); (on_goal 2 => (intro _; clear_value x)))
    | (intro x; clear_value x)
    | intro x
    | split
    | with_reducible apply foldS_good
    | with_reducible apply tryLoss_good
    | with_reducible apply State.updHdg_good
    | with_reducible apply drainQueue_good
    | with_reducible apply jrnFlush_good

theorem updOrder_good (seq : Nat) (f : Order → Order) (s : State) (hg : Good qs s) : Good qs (updOrder seq f s) := by
  unfold updOrder
  repeat' first
    | with_reducible assumption
    | (refine fun _ => ?_)
    | lift_lets
    | intro x
    | split
    | with_reducible apply State.updHdg_good

theorem endOrder_good (seq st reason data : Nat) (s : State) (hg : Good qs s) : Good qs (endOrder seq st reason data s) := by
  unfold endOrder
  repeat' first
    | with_reducible assumption
    | (refine fun _ => ?_)
    | lift_lets
    | intro x
    | split
    | with_reducible apply updOrder_good

theorem endOrdersWhere_good (p : Order → Bool) (f : Order → Nat × Nat × Nat) (s : State) (hg : Good qs s) : Good qs (endOrdersWhere p f s) := by
  unfold endOrdersWhere
  repeat' first
    | with_reducible assumption
    | (refine fun _ => ?_)
    | lift_lets
    | intro x
    | split
    | with_reducible apply State.updHdg_good

theorem expireOrders_good (reason : Nat) (s : State) (hg : Good qs s) : Good qs (expireOrders reason s) := by
  unfold expireOrders
  repeat' first
    | with_reducible assumption
    | (refine fun _ => ?_)
    | lift_lets
    | intro x
    | split
    | with_reducible apply endOrdersWhere_good

theorem closeCycleOrders_good (c : Nat) (s : State) (hg : Good qs s) : Good qs (closeCycleOrders c s) := by
  unfold closeCycleOrders
  repeat' first
    | with_reducible assumption
    | (refine fun _ => ?_)
    | lift_lets
    | intro x
    | split
    | with_reducible apply endOrdersWhere_good

theorem applyOrder_good (slot value : Nat) (s : State) (hg : Good qs s) : Good qs (applyOrder slot value s) := by
  unfold applyOrder
  repeat' first
    | with_reducible assumption
    | (refine fun _ => ?_)
    | lift_lets
    | (intro x; refine sup (Good qs x) ?_ ?_; (on_goal 1 => subst x); (on_goal 2 => (intro _; clear_value x)))
    | intro x
    | split
    | with_reducible apply writePart_good
    | with_reducible apply hf
    | (refine good_of_parts ?_; dsimp only; refine parts_of_good ?_; with_reducible assumption)

theorem dropBadOrders_good (l : List Order) (s : State) (hg : Good qs s) : Good qs (dropBadOrders l s) := by
  unfold dropBadOrders
  repeat' first
    | with_reducible assumption
    | (refine fun _ => ?_)
    | lift_lets
    | (intro x; refine sup (Good qs x.2) ?_ ?_; (on_goal 1 => subst x); (on_goal 2 => (intro _; clear_value x)))
    | intro x
    | split
    | with_reducible apply foldS_good
    | with_reducible apply queueEntryBad_good
    | with_reducible apply updOrder_good

theorem takeCutoff_good (slot : Nat) (s : State) (hg : Good qs s) : Good qs (takeCutoff slot s) := by
  unfold takeCutoff
  repeat' first
    | with_reducible assumption
    | (refine fun _ => ?_)
    | lift_lets
    | (intro x; refine sup (Good qs x) ?_ ?_; (on_goal 1 => subst x); (on_goal 2 => (intro _; clear_value x)))
    | (intro x; clear_value x)
    | intro x
    | split
    | with_reducible apply foldS_good
    | with_reducible apply dropBadOrders_good
    | with_reducible apply endOrder_good
    | with_reducible apply applyOrder_good
    | with_reducible apply updOrder_good
    | with_reducible apply State.updPlan_good

theorem acceptOrder_good (n : Nat) (b : Staging) (s : State) (hg : Good qs s) : Good qs (acceptOrder n b s) := by
  unfold acceptOrder
  repeat' first
    | with_reducible assumption
    | (refine fun _ => ?_)
    | lift_lets
    | (intro x; refine sup (Good qs x) ?_ ?_; (on_goal 1 => subst x); (on_goal 2 => (intro _; clear_value x)))
    | (intro x; clear_value x)
    | intro x
    | split
    | with_reducible apply putWord_good
    | with_reducible apply State.updHdg_good
    | with_reducible apply State.wr_good
    | with_reducible apply State.raiseIf_good
    | with_reducible apply endOrder_good

theorem updStaging_good (j : Fin 8) (f : Staging → Staging) (s : State) (hg : Good qs s) : Good qs (updStaging j f s) := by
  unfold updStaging
  repeat' first
    | with_reducible assumption
    | (refine fun _ => ?_)
    | lift_lets
    | intro x
    | split
    | with_reducible apply State.updHdg_good

theorem submit_good (j : Fin 8) (s : State) (hg : Good qs s) : Good qs (submit j s) := by
  unfold submit
  repeat' first
    | with_reducible assumption
    | (refine fun _ => ?_)
    | lift_lets
    | (intro x; refine sup (Good qs x) ?_ ?_; (on_goal 1 => subst x); (on_goal 2 => (intro _; clear_value x)))
    | (intro x; clear_value x)
    | intro x
    | split
    | with_reducible apply flushRecs_good
    | with_reducible apply acceptOrder_good
    | with_reducible apply State.bump_good
    | with_reducible apply State.raise_good
    | with_reducible apply updStaging_good

theorem subWriteStep_good (init : Initiator) (n : Fin 3) (v : Word) (s : State) (hg : Good qs s) : Good qs (subWriteStep init n v s) := by
  unfold subWriteStep
  repeat' first
    | with_reducible assumption
    | (refine fun _ => ?_)
    | lift_lets
    | intro x
    | split
    | with_reducible apply busError_good
    | with_reducible apply State.err_good
    | with_reducible apply updStaging_good

theorem sub3Step_good (init : Initiator) (v : Word) (s : State) (hg : Good qs s) : Good qs (sub3Step init v s) := by
  unfold sub3Step
  repeat' first
    | with_reducible assumption
    | (refine fun _ => ?_)
    | lift_lets
    | (intro x; refine sup (Good qs x) ?_ ?_; (on_goal 1 => subst x); (on_goal 2 => (intro _; clear_value x)))
    | intro x
    | split
    | with_reducible apply busError_good
    | with_reducible apply State.err_good
    | with_reducible apply submit_good
    | with_reducible apply updStaging_good
    | with_reducible apply State.respond_good

theorem sub3Bus_good (init : Initiator) (v : Word) (s : State) (hg : Good qs s) : Good qs (sub3Bus init v s) := by
  unfold sub3Bus
  repeat' first
    | with_reducible assumption
    | (refine fun _ => ?_)
    | lift_lets
    | intro x
    | split
    | with_reducible apply State.updHdg_good
    | with_reducible apply sub3Step_good

theorem jrnRdStep_good (v : Word) (s : State) (hg : Good qs s) : Good qs (jrnRdStep v s) := by
  unfold jrnRdStep
  repeat' first
    | with_reducible assumption
    | (refine fun _ => ?_)
    | lift_lets
    | intro x
    | split
    | with_reducible apply State.updHdg_good

theorem jrnRdAct_good (v : Word) (s : State) (hg : Good qs s) : Good qs (jrnRdAct v s) := by
  unfold jrnRdAct
  repeat' first
    | with_reducible assumption
    | (refine fun _ => ?_)
    | lift_lets
    | (intro x; clear_value x)
    | intro x
    | split
    | with_reducible apply State.wr_good
    | with_reducible apply State.err_good

theorem jrnRdEnd_good (s : State) (hg : Good qs s) : Good qs (jrnRdEnd s) := by
  unfold jrnRdEnd
  repeat' first
    | with_reducible assumption
    | (refine fun _ => ?_)
    | lift_lets
    | (intro x; clear_value x)
    | intro x
    | split
    | with_reducible apply foldS_good
    | with_reducible apply jrnRdAct_good
    | with_reducible apply State.updHdg_good

theorem flumeSubsEnd_good (s : State) (hg : Good qs s) : Good qs (flumeSubsEnd s) := by
  unfold flumeSubsEnd
  repeat' first
    | with_reducible assumption
    | (refine fun _ => ?_)
    | lift_lets
    | (intro x; clear_value x)
    | intro x
    | split
    | with_reducible apply foldS_good
    | with_reducible apply sub3Step_good
    | with_reducible apply State.updHdg_good

theorem recordsEnd_good (s : State) (hg : Good qs s) : Good qs (recordsEnd s) := by
  unfold recordsEnd
  repeat' first
    | with_reducible assumption
    | (refine fun _ => ?_)
    | lift_lets
    | intro x
    | split
    | with_reducible apply flushRecs_good

theorem undoTick_good (s : State) (hg : Good qs s) : Good qs (undoTick s) := by
  unfold undoTick
  refine State.wr_good _ _ _ _ (State.wr_good _ _ _ _ (State.wr_good _ _ _ _ (good_iff.2 ?_)))
  rw [good_iff] at hg
  refine ⟨hg.1, hg.2.1, hg.2.2.1, BitVec.isLt _, ?_, hg.2.2.2.2.2⟩
  intro h h0
  simp only [Bool.and_eq_true, bne_iff_ne, ne_eq] at h
  exact h.2 (BitVec.eq_of_toNat_eq h0)

end Sys2Proof.Machine
end

