-- ==== Sys2Proof/Laws/SoundPlanBase.lean ====
section
/-! SUPPORT. Every state function of Machine/PlanBase.lean keeps the invariant `Good` of Laws/Sound.lean. -/

namespace Sys2Proof.Machine

variable {qs : List Instr}

theorem undoGovClear_good (s : State) (hg : Good qs s) : Good qs (undoGovClear s) := by
  unfold undoGovClear
  repeat' first
    | with_reducible assumption
    | lift_lets
    | (intro x; refine sup (Good qs x) ?_ ?_; (on_goal 1 => subst x); (on_goal 2 => (intro _; clear_value x)))
    | split
    | with_reducible apply State.enter_good
    | with_reducible apply State.err_good
    | with_reducible apply State.setReg_good
    | with_reducible apply State.updPlan_good

theorem markViolation_good (s : State) (hg : Good qs s) : Good qs (markViolation s) := by
  unfold markViolation
  exact good_eq hg rfl rfl rfl rfl rfl rfl rfl

theorem violation_good (cause src : Nat) (s : State) (hg : Good qs s) : Good qs (violation cause src s) := by
  unfold violation
  repeat' first
    | with_reducible assumption
    | (refine fun _ => ?_)
    | lift_lets
    | (intro x; refine sup (Good qs x) ?_ ?_; (on_goal 1 => subst x); (on_goal 2 => (intro _; clear_value x)))
    | (intro x; refine sup (∀ s, Good qs s → Good qs (x s)) ?_ ?_; (on_goal 1 => subst x); (on_goal 2 => (intro hf; clear_value x)))
    | intro x
    | split
    | with_reducible apply undoGovClear_good
    | with_reducible apply markViolation_good
    | with_reducible apply State.bump_good
    | with_reducible apply State.raise_good
    | with_reducible apply State.wr_good
    | with_reducible apply State.enter_good
    | with_reducible apply hf

theorem enterRunning_good (s : State) (hg : Good qs s) : Good qs (enterRunning s) := by
  unfold enterRunning
  repeat' first
    | with_reducible assumption
    | (refine fun _ => ?_)
    | lift_lets
    | intro x
    | split
    | with_reducible apply State.enter_good
    | with_reducible apply State.raise_good

theorem updActs_good (f : List Act → List Act) (s : State) (hg : Good qs s) : Good qs (updActs f s) := by
  unfold updActs
  repeat' first
    | with_reducible assumption
    | (refine fun _ => ?_)
    | lift_lets
    | intro x
    | split
    | with_reducible apply State.updPlan_good

theorem updAct_good (serial : Nat) (f : Act → Act) (s : State) (hg : Good qs s) : Good qs (updAct serial f s) := by
  unfold updAct
  repeat' first
    | with_reducible assumption
    | (refine fun _ => ?_)
    | lift_lets
    | intro x
    | split
    | with_reducible apply updActs_good

theorem dropActEntry_good (serial : Nat) (s : State) (hg : Good qs s) : Good qs (dropActEntry serial s) := by
  unfold dropActEntry
  repeat' first
    | with_reducible assumption
    | (refine fun _ => ?_)
    | lift_lets
    | intro x
    | split
    | with_reducible apply updActs_good

theorem flagOrder_good (a : Act) (s : State) (hg : Good qs s) : Good qs (flagOrder a s) := by
  unfold flagOrder
  repeat' first
    | with_reducible assumption
    | (refine fun _ => ?_)
    | lift_lets
    | intro x
    | split
    | with_reducible apply updOrder_good

theorem truncateAct_good (angle : Nat) (a : Act) (s : State) (hg : Good qs s) : Good qs (truncateAct angle a s) := by
  unfold truncateAct
  repeat' first
    | with_reducible assumption
    | (refine fun _ => ?_)
    | lift_lets
    | (intro x; refine sup (Good qs x) ?_ ?_; (on_goal 1 => subst x); (on_goal 2 => (intro _; clear_value x)))
    | intro x
    | split
    | with_reducible apply dropActEntry_good
    | with_reducible apply flagOrder_good
    | with_reducible apply endOrder_good
    | with_reducible apply jrnAction_good

theorem dropAct_good (reason : Nat) (a : Act) (s : State) (hg : Good qs s) : Good qs (dropAct reason a s) := by
  unfold dropAct
  repeat' first
    | with_reducible assumption
    | (refine fun _ => ?_)
    | lift_lets
    | (intro x; refine sup (Good qs x) ?_ ?_; (on_goal 1 => subst x); (on_goal 2 => (intro _; clear_value x)))
    | intro x
    | split
    | with_reducible apply dropActEntry_good
    | with_reducible apply flagOrder_good
    | with_reducible apply endOrder_good
    | with_reducible apply jrnAction_good

theorem applyAct_good (a : Act) (s : State) (hg : Good qs s) : Good qs (applyAct a s) := by
  unfold applyAct
  repeat' first
    | with_reducible assumption
    | (refine fun _ => ?_)
    | lift_lets
    | (intro x; refine sup (Good qs x) ?_ ?_; (on_goal 1 => subst x); (on_goal 2 => (intro _; clear_value x)))
    | intro x
    | split
    | with_reducible apply dropActEntry_good
    | with_reducible apply flagOrder_good
    | with_reducible apply endOrder_good

theorem anomalyAct_good (code : Nat) (a : Act) (s : State) (hg : Good qs s) : Good qs (anomalyAct code a s) := by
  unfold anomalyAct
  repeat' first
    | with_reducible assumption
    | (refine fun _ => ?_)
    | lift_lets
    | (intro x; clear_value x)
    | intro x
    | split
    | with_reducible apply updAct_good
    | with_reducible apply jrnAction_good

theorem truncateWhere_good (p : Act → Bool) (angle : Nat) (s : State) (hg : Good qs s) : Good qs (truncateWhere p angle s) := by
  unfold truncateWhere
  repeat' first
    | with_reducible assumption
    | (refine fun _ => ?_)
    | lift_lets
    | intro x
    | split
    | with_reducible apply foldS_good
    | with_reducible apply truncateAct_good

theorem orderProgress_good (a : Act) (n : Nat) (s : State) (hg : Good qs s) : Good qs (orderProgress a n s) := by
  unfold orderProgress
  repeat' first
    | with_reducible assumption
    | (refine fun _ => ?_)
    | lift_lets
    | intro x
    | split
    | with_reducible apply updOrder_good

theorem contention_good (excused : Bool) (s : State) (hg : Good qs s) : Good qs (contention excused s) := by
  unfold contention
  repeat' first
    | with_reducible assumption
    | (refine fun _ => ?_)
    | lift_lets
    | intro x
    | split
    | with_reducible apply State.bump_good
    | with_reducible apply violation_good

theorem countShadow_good (a : Act) (s : State) (hg : Good qs s) : Good qs (countShadow a s) := by
  unfold countShadow
  repeat' first
    | with_reducible assumption
    | (refine fun _ => ?_)
    | lift_lets
    | intro x
    | split
    | with_reducible apply State.bump_good

end Sys2Proof.Machine
end

