-- ==== Sys2Proof/Laws/SoundConv.lean ====
section
/-! SUPPORT. Every state function of Machine/Conv.lean keeps the invariant `Good` of Laws/Sound.lean. -/

namespace Sys2Proof.Machine

variable {qs : List Instr}

theorem moveMux_good (k : Fin 4) (s : State) (hg : Good qs s) : Good qs (moveMux k s) := by
  unfold moveMux
  repeat' first
    | with_reducible assumption
    | (refine fun _ => ?_)
    | lift_lets
    | intro x
    | split
    | with_reducible apply State.updConv_good

theorem sampleCaptures_good (s : State) (hg : Good qs s) : Good qs (sampleCaptures s) := by
  unfold sampleCaptures
  repeat' first
    | with_reducible assumption
    | (refine fun _ => ?_)
    | lift_lets
    | intro x
    | split
    | with_reducible apply foldS_good
    | with_reducible apply moveMux_good

theorem restartRing_good (k : Fin 4) (r : Nat) (s : State) (hg : Good qs s) : Good qs (restartRing k r s) := by
  unfold restartRing
  repeat' first
    | with_reducible assumption
    | (refine fun _ => ?_)
    | lift_lets
    | (intro x; refine sup (Good qs x) ?_ ?_; (on_goal 1 => subst x); (on_goal 2 => (intro _; clear_value x)))
    | (intro x; clear_value x)
    | intro x
    | split
    | with_reducible apply foldS_good
    | with_reducible apply State.updConv_good
    | with_reducible apply State.wr_good

theorem actConv_good (k : Fin 4) (p : CommitPend → Bool) (s : State) (hg : Good qs s) : Good qs (actConv k p s) := by
  unfold actConv
  repeat' first
    | with_reducible assumption
    | (refine fun _ => ?_)
    | lift_lets
    | (intro x; refine sup (Good qs x) ?_ ?_; (on_goal 1 => subst x); (on_goal 2 => (intro _; clear_value x)))
    | (intro x; clear_value x)
    | intro x
    | split
    | with_reducible apply foldS_good
    | with_reducible apply State.actWhere_good
    | with_reducible apply State.updConv_good
    | with_reducible apply moveMux_good
    | with_reducible apply restartRing_good

theorem convScanStart_good (k : Fin 4) (s : State) (hg : Good qs s) : Good qs (convScanStart k s) := by
  unfold convScanStart
  repeat' first
    | with_reducible assumption
    | (refine fun _ => ?_)
    | lift_lets
    | (intro x; refine sup (Good qs x) ?_ ?_; (on_goal 1 => subst x); (on_goal 2 => (intro _; clear_value x)))
    | (intro x; refine sup (Good qs x) ?_ ?_; (on_goal 1 => subst x); (on_goal 2 => intro _))
    | (intro x; clear_value x)
    | intro x
    | split
    | with_reducible apply actConv_good
    | (refine good_of_parts ?_; dsimp only; refine parts_of_good ?_; with_reducible assumption)

theorem beginScan_good (k : Fin 4) (x : Scan) (at_ : Nat) (s : State) (hg : Good qs s) : Good qs (beginScan k x at_ s) := by
  unfold beginScan
  repeat' first
    | with_reducible assumption
    | (refine fun _ => ?_)
    | lift_lets
    | (intro x; clear_value x)
    | intro x
    | split
    | with_reducible apply moveMux_good
    | with_reducible apply State.updConv_good

theorem claimConv_good (k : Fin 4) (a : Act) (s : State) (hg : Good qs s) : Good qs (claimConv k a s) := by
  unfold claimConv
  repeat' first
    | with_reducible assumption
    | (refine fun _ => ?_)
    | lift_lets
    | (intro x; refine sup (Good qs x) ?_ ?_; (on_goal 1 => subst x); (on_goal 2 => (intro _; clear_value x)))
    | (intro x; clear_value x)
    | intro x
    | split
    | with_reducible apply convScanStart_good
    | with_reducible apply State.bump_good
    | with_reducible apply State.wr_good
    | with_reducible apply State.updConv_good
    | with_reducible apply updAct_good
    | with_reducible apply beginScan_good

theorem resumeScan_good (k : Fin 4) (x : Scan) (s : State) (hg : Good qs s) : Good qs (resumeScan k x s) := by
  unfold resumeScan
  repeat' first
    | with_reducible assumption
    | (refine fun _ => ?_)
    | lift_lets
    | (intro x; refine sup (Good qs x) ?_ ?_; (on_goal 1 => subst x); (on_goal 2 => (intro _; clear_value x)))
    | intro x
    | split
    | with_reducible apply convScanStart_good
    | with_reducible apply State.updConv_good
    | with_reducible apply beginScan_good

theorem grantSlot_good (k : Fin 4) (j : Fin 4) (s : State) (hg : Good qs s) : Good qs (grantSlot k j s) := by
  unfold grantSlot
  repeat' first
    | with_reducible assumption
    | (refine fun _ => ?_)
    | lift_lets
    | (intro x; refine sup (Good qs x) ?_ ?_; (on_goal 1 => subst x); (on_goal 2 => (intro _; clear_value x)))
    | (intro x; clear_value x)
    | intro x
    | split
    | with_reducible apply convScanStart_good
    | with_reducible apply State.updConv_good
    | with_reducible apply State.bump_good
    | with_reducible apply beginScan_good

theorem claimWaiting_good (k : Fin 4) (s : State) (hg : Good qs s) : Good qs (claimWaiting k s) := by
  unfold claimWaiting
  repeat' first
    | with_reducible assumption
    | (refine fun _ => ?_)
    | lift_lets
    | (intro x; refine sup (Good qs x) ?_ ?_; (on_goal 1 => subst x); (on_goal 2 => (intro _; clear_value x)))
    | intro x
    | split
    | with_reducible apply State.updConv_good
    | with_reducible apply claimConv_good
    | with_reducible apply dropAct_good

theorem serveConv_good (k : Fin 4) (s : State) (hg : Good qs s) : Good qs (serveConv k s) := by
  unfold serveConv
  repeat' first
    | with_reducible assumption
    | (refine fun _ => ?_)
    | lift_lets
    | (intro x; refine sup (Good qs x) ?_ ?_; (on_goal 1 => subst x); (on_goal 2 => (intro _; clear_value x)))
    | (intro x; clear_value x)
    | intro x
    | split
    | with_reducible apply foldS_good
    | with_reducible apply claimWaiting_good
    | with_reducible apply resumeScan_good
    | with_reducible apply grantSlot_good
    | with_reducible apply moveMux_good

theorem sampleClaimStep_good (k : Fin 4) (s : State) (hg : Good qs s) : Good qs (sampleClaimStep k s) := by
  unfold sampleClaimStep
  repeat' first
    | with_reducible assumption
    | (refine fun _ => ?_)
    | lift_lets
    | (intro x; refine sup (Good qs x) ?_ ?_; (on_goal 1 => subst x); (on_goal 2 => (intro _; clear_value x)))
    | (intro x; clear_value x)
    | intro x
    | split
    | with_reducible apply applyAct_good
    | with_reducible apply countShadow_good
    | with_reducible apply State.bump_good
    | with_reducible apply claimConv_good
    | with_reducible apply contention_good
    | with_reducible apply dropAct_good
    | with_reducible apply updAct_good
    | with_reducible apply State.updConv_good

theorem sampleWaitExpire_good (a : Act) (s : State) (hg : Good qs s) : Good qs (sampleWaitExpire a s) := by
  unfold sampleWaitExpire
  repeat' first
    | with_reducible assumption
    | (refine fun _ => ?_)
    | lift_lets
    | (intro x; clear_value x)
    | intro x
    | split
    | with_reducible apply dropAct_good
    | with_reducible apply State.updConv_good

theorem ungrant_good (k j : Fin 4) (s : State) (hg : Good qs s) : Good qs (ungrant k j s) := by
  unfold ungrant
  repeat' first
    | with_reducible assumption
    | (refine fun _ => ?_)
    | lift_lets
    | intro x
    | split
    | with_reducible apply State.updConv_good

theorem slotPends_good (k j : Fin 4) (s : State) (hg : Good qs s) : Good qs (slotPends k j s) := by
  unfold slotPends
  repeat' first
    | with_reducible assumption
    | (refine fun _ => ?_)
    | lift_lets
    | intro x
    | split
    | with_reducible apply serveConv_good
    | with_reducible apply ungrant_good
    | with_reducible apply State.updConv_good

theorem judgeTrigger_good (k j : Fin 4) (s : State) (hg : Good qs s) : Good qs (judgeTrigger k j s) := by
  unfold judgeTrigger
  repeat' first
    | with_reducible assumption
    | (refine fun _ => ?_)
    | lift_lets
    | (intro x; clear_value x)
    | intro x
    | split
    | with_reducible apply State.bump_good
    | with_reducible apply State.raise_good
    | with_reducible apply slotPends_good
    | with_reducible apply State.updConv_good

theorem openTriggerStep_good (k j : Fin 4) (s : State) (hg : Good qs s) : Good qs (openTriggerStep k j s) := by
  unfold openTriggerStep
  repeat' first
    | with_reducible assumption
    | (refine fun _ => ?_)
    | lift_lets
    | intro x
    | split
    | with_reducible apply judgeTrigger_good
    | with_reducible apply State.takeTrig_good

theorem slotPendingStep_good (k j : Fin 4) (s : State) (hg : Good qs s) : Good qs (slotPendingStep k j s) := by
  unfold slotPendingStep
  repeat' first
    | with_reducible assumption
    | (refine fun _ => ?_)
    | lift_lets
    | intro x
    | split
    | with_reducible apply slotPends_good

theorem convSoftStep_good (k : Fin 4) (v : Word) (s : State) (hg : Good qs s) : Good qs (convSoftStep k v s) := by
  unfold convSoftStep
  repeat' first
    | with_reducible assumption
    | (refine fun _ => ?_)
    | lift_lets
    | intro x
    | split
    | with_reducible apply foldS_good
    | with_reducible apply judgeTrigger_good

theorem sampleEffect_good (x : Scan) (s : State) (hg : Good qs s) : Good qs (sampleEffect x s) := by
  unfold sampleEffect
  repeat' first
    | with_reducible assumption
    | (refine fun _ => ?_)
    | lift_lets
    | (intro x; refine sup (Good qs x) ?_ ?_; (on_goal 1 => subst x); (on_goal 2 => (intro _; clear_value x)))
    | intro x
    | split
    | with_reducible apply updAct_good
    | with_reducible apply flagOrder_good
    | with_reducible apply countShadow_good
    | with_reducible apply endOrder_good

theorem samplingStep_good (k : Fin 4) (s : State) (hg : Good qs s) : Good qs (samplingStep k s) := by
  unfold samplingStep
  repeat' first
    | with_reducible assumption
    | (refine fun _ => ?_)
    | lift_lets
    | (intro x; refine sup (Good qs x) ?_ ?_; (on_goal 1 => subst x); (on_goal 2 => (intro _; clear_value x)))
    | (intro x; clear_value x)
    | intro x
    | split
    | with_reducible apply sampleEffect_good
    | with_reducible apply moveMux_good
    | with_reducible apply State.updConv_good

theorem calEnd_good (k : Fin 4) (res : Nat) (s : State) (hg : Good qs s) : Good qs (calEnd k res s) := by
  unfold calEnd
  repeat' first
    | with_reducible assumption
    | (refine fun _ => ?_)
    | lift_lets
    | (intro x; refine sup (Good qs x) ?_ ?_; (on_goal 1 => subst x); (on_goal 2 => (intro _; clear_value x)))
    | (intro x; clear_value x)
    | intro x
    | split
    | with_reducible apply State.updConv_good
    | with_reducible apply State.wr_good
    | with_reducible apply State.raise_good

theorem putCoef_good (k : Fin 4) (p g o : Nat) (s : State) (hg : Good qs s) : Good qs (putCoef k p g o s) := by
  unfold putCoef
  repeat' first
    | with_reducible assumption
    | (refine fun _ => ?_)
    | lift_lets
    | (intro x; clear_value x)
    | intro x
    | split
    | with_reducible apply State.setReg_good
    | with_reducible apply State.pendCommit_good

theorem calFullEnd_good (k : Fin 4) (m : CalRun) (f : Nat) (s : State) (hg : Good qs s) : Good qs (calFullEnd k m f s) := by
  unfold calFullEnd
  repeat' first
    | with_reducible assumption
    | (refine fun _ => ?_)
    | lift_lets
    | (intro x; refine sup (Good qs x) ?_ ?_; (on_goal 1 => subst x); (on_goal 2 => (intro _; clear_value x)))
    | (intro x; clear_value x)
    | intro x
    | split
    | with_reducible apply State.wr_good
    | with_reducible apply calEnd_good
    | with_reducible apply putCoef_good

theorem calTake_good (k : Fin 4) (raw : Nat) (s : State) (hg : Good qs s) : Good qs (calTake k raw s) := by
  unfold calTake
  repeat' first
    | with_reducible assumption
    | (refine fun _ => ?_)
    | lift_lets
    | (intro x; refine sup (Good qs x) ?_ ?_; (on_goal 1 => subst x); (on_goal 2 => (intro _; clear_value x)))
    | (intro x; clear_value x)
    | intro x
    | split
    | with_reducible apply State.updConv_good
    | with_reducible apply State.wr_good
    | with_reducible apply calEnd_good
    | with_reducible apply calFullEnd_good

theorem calStartStep_good (full : Bool) (k : Fin 4) (s : State) (hg : Good qs s) : Good qs (calStartStep full k s) := by
  unfold calStartStep
  repeat' first
    | with_reducible assumption
    | (refine fun _ => ?_)
    | lift_lets
    | (intro x; refine sup (Good qs x) ?_ ?_; (on_goal 1 => subst x); (on_goal 2 => (intro _; clear_value x)))
    | (intro x; clear_value x)
    | intro x
    | split
    | with_reducible apply State.err_good
    | with_reducible apply State.updConv_good
    | with_reducible apply State.wr_good

theorem calAbortStep_good (k : Fin 4) (s : State) (hg : Good qs s) : Good qs (calAbortStep k s) := by
  unfold calAbortStep
  repeat' first
    | with_reducible assumption
    | (refine fun _ => ?_)
    | lift_lets
    | intro x
    | split
    | with_reducible apply calEnd_good

theorem checkFail_good (bitNo src : Nat) (s : State) (hg : Good qs s) : Good qs (checkFail bitNo src s) := by
  unfold checkFail
  repeat' first
    | with_reducible assumption
    | (refine fun _ => ?_)
    | lift_lets
    | (intro x; clear_value x)
    | intro x
    | split
    | with_reducible apply State.setReg_good
    | with_reducible apply State.raise_good

theorem pairCheck_good (k : Fin 4) (v : Conversion) (res : Nat) (s : State) (hg : Good qs s) : Good qs (pairCheck k v res s).2 := by
  unfold pairCheck
  repeat' first
    | with_reducible assumption
    | (refine fun _ => ?_)
    | lift_lets
    | (intro x; refine sup (Good qs x) ?_ ?_; (on_goal 1 => subst x); (on_goal 2 => (intro _; clear_value x)))
    | (intro x; clear_value x)
    | intro x
    | split
    | with_reducible apply State.updConv_good
    | with_reducible apply State.bump_good
    | with_reducible apply State.wr_good
    | with_reducible apply checkFail_good

theorem checkResult_good (k : Fin 4) (v : Conversion) (res : Nat) (s : State) (hg : Good qs s) : Good qs (checkResult k v res s).2 := by
  unfold checkResult
  repeat' first
    | with_reducible assumption
    | (refine fun _ => ?_)
    | lift_lets
    | intro x
    | split
    | with_reducible apply pairCheck_good
    | with_reducible apply checkFail_good

theorem recLost_good (k : Fin 4) (s : State) (hg : Good qs s) : Good qs (recLost k s) := by
  unfold recLost
  repeat' first
    | with_reducible assumption
    | (refine fun _ => ?_)
    | lift_lets
    | intro x
    | split
    | with_reducible apply State.bump_good
    | with_reducible apply State.raise_good

theorem putRecord_good (k : Fin 4) (v : Conversion) (res : Nat) (sat_ chk : Bool) (s : State) (hg : Good qs s) : Good qs (putRecord k v res sat_ chk s) := by
  unfold putRecord
  repeat' first
    | with_reducible assumption
    | (refine fun _ => ?_)
    | lift_lets
    | (intro x; clear_value x)
    | intro x
    | split
    | with_reducible apply recLost_good
    | with_reducible apply State.updConv_good

theorem cvmPut_good (k : Fin 4) (p res : Nat) (s : State) (hg : Good qs s) : Good qs (cvmPut k p res s) := by
  unfold cvmPut
  repeat' first
    | with_reducible assumption
    | (refine fun _ => ?_)
    | lift_lets
    | intro x
    | split
    | with_reducible apply State.updConv_good

theorem deliver_good (k : Fin 4) (v : Conversion) (raw : Nat) (s : State) (hg : Good qs s) : Good qs (deliver k v raw s) := by
  unfold deliver
  repeat' first
    | with_reducible assumption
    | (refine fun _ => ?_)
    | lift_lets
    | (intro x; refine sup (Good qs x) ?_ ?_; (on_goal 1 => subst x); (on_goal 2 => (intro _; clear_value x)))
    | (intro x; refine sup (Good qs x.2) ?_ ?_; (on_goal 1 => subst x); (on_goal 2 => (intro _; clear_value x)))
    | (intro x; clear_value x)
    | intro x
    | split
    | with_reducible apply checkResult_good
    | with_reducible apply State.wr_good
    | with_reducible apply cvmPut_good
    | with_reducible apply putRecord_good

theorem endScan_good (k : Fin 4) (x : Scan) (s : State) (hg : Good qs s) : Good qs (endScan k x s) := by
  unfold endScan
  repeat' first
    | with_reducible assumption
    | (refine fun _ => ?_)
    | lift_lets
    | (intro x; refine sup (Good qs x) ?_ ?_; (on_goal 1 => subst x); (on_goal 2 => (intro _; clear_value x)))
    | intro x
    | split
    | with_reducible apply State.bumpWrap_good
    | with_reducible apply dropActEntry_good
    | with_reducible apply State.raiseIf_good

theorem settleConv_good (k : Fin 4) (s : State) (hg : Good qs s) : Good qs (settleConv k s) := by
  unfold settleConv
  repeat' first
    | with_reducible assumption
    | (refine fun _ => ?_)
    | lift_lets
    | (intro x; refine sup (Good qs x) ?_ ?_; (on_goal 1 => subst x); (on_goal 2 => (intro _; clear_value x)))
    | (intro x; clear_value x)
    | intro x
    | split
    | with_reducible apply endScan_good
    | with_reducible apply State.updConv_good
    | with_reducible apply serveConv_good

theorem conversionStep_good (k : Fin 4) (raw : Nat) (s : State) (hg : Good qs s) : Good qs (conversionStep k raw s) := by
  unfold conversionStep
  repeat' first
    | with_reducible assumption
    | (refine fun _ => ?_)
    | lift_lets
    | intro x
    | split
    | with_reducible apply State.updConv_good
    | with_reducible apply deliver_good
    | with_reducible apply settleConv_good
    | with_reducible apply calTake_good
    | (dsimp only; split)

theorem ringMarkStep_good (k : Fin 4) (r : Fin 8) (v : Word) (s : State) (hg : Good qs s) : Good qs (ringMarkStep k r v s) := by
  unfold ringMarkStep
  repeat' first
    | with_reducible assumption
    | (refine fun _ => ?_)
    | lift_lets
    | (intro x; clear_value x)
    | intro x
    | split
    | with_reducible apply State.wr_good
    | with_reducible apply State.err_good

theorem sumLoReadStep_good (k : Fin 4) (p : Fin 21) (s : State) (hg : Good qs s) : Good qs (sumLoReadStep k p s) := by
  unfold sumLoReadStep
  repeat' first
    | with_reducible assumption
    | (refine fun _ => ?_)
    | lift_lets
    | (intro x; refine sup (Good qs x) ?_ ?_; (on_goal 1 => subst x); (on_goal 2 => (intro _; clear_value x)))
    | (intro x; clear_value x)
    | intro x
    | split
    | with_reducible apply State.wr_good
    | with_reducible apply State.updConv_good
    | with_reducible apply State.respond_good

theorem scanLoReadStep_good (s : State) (hg : Good qs s) : Good qs (scanLoReadStep s) := by
  unfold scanLoReadStep
  repeat' first
    | with_reducible assumption
    | (refine fun _ => ?_)
    | lift_lets
    | (intro x; refine sup (Good qs x) ?_ ?_; (on_goal 1 => subst x); (on_goal 2 => (intro _; clear_value x)))
    | (intro x; clear_value x)
    | intro x
    | split
    | with_reducible apply State.wr_good
    | with_reducible apply State.respond_good

theorem dacWriteStep_good (v : Word) (s : State) (hg : Good qs s) : Good qs (dacWriteStep v s) := by
  unfold dacWriteStep
  repeat' first
    | with_reducible assumption
    | (refine fun _ => ?_)
    | lift_lets
    | (intro x; refine sup (Good qs x) ?_ ?_; (on_goal 1 => subst x); (on_goal 2 => (intro _; clear_value x)))
    | intro x
    | split
    | with_reducible apply State.wr_good
    | (refine good_of_parts ?_; dsimp only; refine parts_of_good ?_; with_reducible assumption)

theorem spillClaim_good (k : Fin 4) (s : State) (hg : Good qs s) : Good qs (spillClaim k s) := by
  unfold spillClaim
  repeat' first
    | with_reducible assumption
    | (refine fun _ => ?_)
    | lift_lets
    | intro x
    | split
    | with_reducible apply claimConv_good

theorem unsample_good (k : Fin 4) (s : State) (hg : Good qs s) : Good qs (unsample k s) := by
  unfold unsample
  repeat' first
    | with_reducible assumption
    | (refine fun _ => ?_)
    | lift_lets
    | (intro x; refine sup (Good qs x) ?_ ?_; (on_goal 1 => subst x); (on_goal 2 => (intro _; clear_value x)))
    | intro x
    | split
    | with_reducible apply updOrder_good
    | with_reducible apply State.updConv_good

theorem spillSamples_good (s : State) (hg : Good qs s) : Good qs (spillSamples s) := by
  unfold spillSamples
  repeat' first
    | with_reducible assumption
    | (refine fun _ => ?_)
    | lift_lets
    | intro x
    | split
    | with_reducible apply foldS_good
    | with_reducible apply unsample_good
    | with_reducible apply spillClaim_good

theorem spillConv_good (k : Fin 4) (s : State) (hg : Good qs s) : Good qs (spillConv k s) := by
  unfold spillConv
  repeat' first
    | with_reducible assumption
    | (refine fun _ => ?_)
    | lift_lets
    | (intro x; refine sup (Good qs x) ?_ ?_; (on_goal 1 => subst x); (on_goal 2 => (intro _; clear_value x)))
    | intro x
    | split
    | with_reducible apply State.updConv_good
    | with_reducible apply settleConv_good

end Sys2Proof.Machine
end

