-- ==== Sys2Proof/Laws/SoundCatch.lean ====
section
/-! SUPPORT. Every state function of Machine/Catch.lean keeps the invariant `Good` of Laws/Sound.lean. -/

namespace Sys2Proof.Machine

variable {qs : List Instr}

theorem State.setCsrc_good (s : State) (n : Nat) (x : CatchSrc) (hg : Good qs s) : Good qs (State.setCsrc s n x) := by
  unfold State.setCsrc
  repeat' first
    | with_reducible assumption
    | (refine fun _ => ?_)
    | lift_lets
    | intro x
    | split
    | with_reducible apply hf
    | (refine good_of_parts ?_; dsimp only; refine parts_of_good ?_; with_reducible assumption)

theorem tryPend_good (n since : Nat) (s : State) (hg : Good qs s) : Good qs (tryPend n since s) := by
  unfold tryPend
  repeat' first
    | with_reducible assumption
    | (refine fun _ => ?_)
    | lift_lets
    | (intro x; clear_value x)
    | intro x
    | split
    | with_reducible apply State.setCsrc_good
    | with_reducible apply State.bumpWrap_good

theorem takeEvent_good (n : Nat) (s : State) (hg : Good qs s) : Good qs (takeEvent n s) := by
  unfold takeEvent
  repeat' first
    | with_reducible assumption
    | (refine fun _ => ?_)
    | lift_lets
    | (intro x; refine sup (Good qs x) ?_ ?_; (on_goal 1 => subst x); (on_goal 2 => (intro _; clear_value x)))
    | (intro x; clear_value x)
    | intro x
    | split
    | with_reducible apply State.bump_good
    | with_reducible apply State.setCsrc_good
    | with_reducible apply tryPend_good

theorem catchEventStep_good (n : Nat) (s : State) (hg : Good qs s) : Good qs (catchEventStep n s) := by
  unfold catchEventStep
  repeat' first
    | with_reducible assumption
    | (refine fun _ => ?_)
    | lift_lets
    | intro x
    | split
    | with_reducible apply takeEvent_good
    | (refine good_of_parts ?_; dsimp only; refine parts_of_good ?_; with_reducible assumption)

theorem catchAll_good (s : State) (hg : Good qs s) : Good qs (catchAll s) := by
  unfold catchAll
  repeat' first
    | with_reducible assumption
    | (refine fun _ => ?_)
    | lift_lets
    | intro x
    | split
    | with_reducible apply foldS_good
    | with_reducible apply catchEventStep_good

theorem completeStep_good (t n : Nat) (s : State) (hg : Good qs s) : Good qs (completeStep t n s) := by
  unfold completeStep
  repeat' first
    | with_reducible assumption
    | (refine fun _ => ?_)
    | lift_lets
    | (intro x; refine sup (Good qs x) ?_ ?_; (on_goal 1 => subst x); (on_goal 2 => (intro _; clear_value x)))
    | (intro x; clear_value x)
    | intro x
    | split
    | with_reducible apply State.setCsrc_good
    | with_reducible apply State.bump_good
    | with_reducible apply State.wr_good

theorem catchTick_good (s : State) (hg : Good qs s) : Good qs (catchTick s) := by
  unfold catchTick
  repeat' first
    | with_reducible assumption
    | (refine fun _ => ?_)
    | lift_lets
    | (intro x; clear_value x)
    | intro x
    | split
    | with_reducible apply foldS_good
    | with_reducible apply tryPend_good
    | with_reducible apply State.setCsrc_good

theorem catchRetest_good (s : State) (hg : Good qs s) : Good qs (catchRetest s) := by
  unfold catchRetest
  repeat' first
    | with_reducible assumption
    | (refine fun _ => ?_)
    | lift_lets
    | intro x
    | split
    | with_reducible apply foldS_good
    | with_reducible apply tryPend_good

theorem countWrite_good (n : Nat) (s : State) (hg : Good qs s) : Good qs (countWrite n s) :=
  State.wr_good _ _ _ _ hg

end Sys2Proof.Machine
end

