-- ==== Sys2Proof/Laws/SoundCores.lean ====
section
/-! SUPPORT. Every state function of Machine/Cores.lean keeps the invariant `Good` of Laws/Sound.lean. -/

namespace Sys2Proof.Machine

variable {qs : List Instr}

theorem dmemPut_good (n : Fin 4) (w v : Nat) (s : State) (hg : Good qs s) : Good qs (dmemPut n w v s) := by
  unfold dmemPut
  repeat' first
    | with_reducible assumption
    | (refine fun _ => ?_)
    | lift_lets
    | intro x
    | split
    | with_reducible apply writeSec_good

theorem updLive_good (c : Fin 4) (f : CoreBank → CoreBank) (s : State) (hg : Good qs s) : Good qs (updLive c f s) := by
  unfold updLive
  repeat' first
    | with_reducible assumption
    | (refine fun _ => ?_)
    | lift_lets
    | intro x
    | split
    | with_reducible apply State.updCore_good

theorem deadlineAct_good (idx : Nat) (order : Option Nat) (s : State) (hg : Good qs s) : Good qs (deadlineAct idx order s) := by
  unfold deadlineAct
  repeat' first
    | with_reducible assumption
    | (refine fun _ => ?_)
    | lift_lets
    | (intro x; refine sup (Good qs x) ?_ ?_; (on_goal 1 => subst x); (on_goal 2 => (intro _; clear_value x)))
    | (intro x; clear_value x)
    | intro x
    | split
    | with_reducible apply jrnAction_good
    | with_reducible apply updOrder_good

theorem deadlineRecord_good (c : Fin 4) (t : TaskRun) (s : State) (hg : Good qs s) : Good qs (deadlineRecord c t s) := by
  unfold deadlineRecord
  repeat' first
    | with_reducible assumption
    | (refine fun _ => ?_)
    | lift_lets
    | intro x
    | split
    | with_reducible apply deadlineAct_good
    | with_reducible apply jrnPeriodic_good

theorem noteOverrun_good (c : Fin 4) (t : TaskRun) (s : State) (hg : Good qs s) : Good qs (noteOverrun c t s) := by
  unfold noteOverrun
  repeat' first
    | with_reducible assumption
    | (refine fun _ => ?_)
    | lift_lets
    | (intro x; refine sup (Good qs x) ?_ ?_; (on_goal 1 => subst x); (on_goal 2 => (intro _; clear_value x)))
    | intro x
    | split
    | with_reducible apply State.updCore_good
    | with_reducible apply violation_good

theorem farGone_good (c : Fin 4) (task : Bool) (s : State) (hg : Good qs s) : Good qs (farGone c task s) := by
  unfold farGone
  repeat' first
    | with_reducible assumption
    | (refine fun _ => ?_)
    | lift_lets
    | intro x
    | split
    | with_reducible apply State.updLink_good

theorem abandonTask_good (c : Fin 4) (s : State) (hg : Good qs s) : Good qs (abandonTask c s) := by
  unfold abandonTask
  repeat' first
    | with_reducible assumption
    | (refine fun _ => ?_)
    | lift_lets
    | (intro x; refine sup (Good qs x) ?_ ?_; (on_goal 1 => subst x); (on_goal 2 => (intro _; clear_value x)))
    | (intro x; clear_value x)
    | intro x
    | split
    | with_reducible apply noteOverrun_good
    | with_reducible apply State.bump_good
    | with_reducible apply farGone_good
    | with_reducible apply State.updCore_good
    | with_reducible apply deadlineRecord_good

theorem coreFault_good (cause : Nat) (c : Fin 4) (s : State) (hg : Good qs s) : Good qs (coreFault cause c s) := by
  unfold coreFault
  repeat' first
    | with_reducible assumption
    | (refine fun _ => ?_)
    | lift_lets
    | (intro x; refine sup (Good qs x) ?_ ?_; (on_goal 1 => subst x); (on_goal 2 => (intro _; clear_value x)))
    | (intro x; clear_value x)
    | intro x
    | split
    | with_reducible apply State.setReg_good
    | with_reducible apply State.raise_good
    | with_reducible apply State.updCore_good
    | with_reducible apply noteOverrun_good
    | with_reducible apply deadlineRecord_good

theorem coreNext_good (c : Fin 4) (n : Nat) (s : State) (hg : Good qs s) : Good qs (coreNext c n s) := by
  unfold coreNext
  repeat' first
    | with_reducible assumption
    | (refine fun _ => ?_)
    | lift_lets
    | intro x
    | split
    | with_reducible apply updLive_good

theorem coreJump_good (c : Fin 4) (n target : Nat) (s : State) (hg : Good qs s) : Good qs (coreJump c n target s) := by
  unfold coreJump
  repeat' first
    | with_reducible assumption
    | (refine fun _ => ?_)
    | lift_lets
    | intro x
    | split
    | with_reducible apply updLive_good

theorem coreExec_good (c : Fin 4) (op : Nat) (f : Nat → CoreBank → State → State) (s : State) (hg : Good qs s) (hf : ∀ a0 a1 s, Good qs s → Good qs (f a0 a1 s)) : Good qs (coreExec c op f s) := by
  unfold coreExec
  repeat' first
    | with_reducible assumption
    | (refine fun _ => ?_)
    | lift_lets
    | (intro x; refine sup (Good qs x) ?_ ?_; (on_goal 1 => subst x); (on_goal 2 => (intro _; clear_value x)))
    | (intro x; clear_value x)
    | intro x
    | split
    | with_reducible apply coreFault_good
    | with_reducible apply State.wr_good
    | with_reducible apply State.bump_good
    | with_reducible apply coreNext_good
    | with_reducible apply hf

theorem coreWriteD_good (c : Fin 4) (n w v : Nat) (s : State) (hg : Good qs s) : Good qs (coreWriteD c n w v s) := by
  unfold coreWriteD
  repeat' first
    | with_reducible assumption
    | (refine fun _ => ?_)
    | lift_lets
    | intro x
    | split
    | with_reducible apply coreNext_good
    | with_reducible apply updLive_good

theorem coreAlu_good (c : Fin 4) (w v : Nat) (carry : Bool) (s : State) (hg : Good qs s) : Good qs (coreAlu c w v carry s) := by
  unfold coreAlu
  repeat' first
    | with_reducible assumption
    | (refine fun _ => ?_)
    | lift_lets
    | intro x
    | split
    | with_reducible apply coreNext_good
    | with_reducible apply updLive_good

theorem addWith_good (c : Fin 4) (w a b : Nat) (cin : Bool) (s : State) (hg : Good qs s) : Good qs (addWith c w a b cin s) := by
  unfold addWith
  repeat' first
    | with_reducible assumption
    | (refine fun _ => ?_)
    | lift_lets
    | (intro x; clear_value x)
    | intro x
    | split
    | with_reducible apply coreAlu_good

theorem subWith_good (c : Fin 4) (w a b : Nat) (cin : Bool) (s : State) (hg : Good qs s) : Good qs (subWith c w a b cin s) := by
  unfold subWith
  repeat' first
    | with_reducible assumption
    | (refine fun _ => ?_)
    | lift_lets
    | intro x
    | split
    | with_reducible apply coreAlu_good

theorem satWith_good (c : Fin 4) (w : Nat) (r : Int) (s : State) (hg : Good qs s) : Good qs (satWith c w r s) := by
  unfold satWith
  repeat' first
    | with_reducible assumption
    | (refine fun _ => ?_)
    | lift_lets
    | (intro x; clear_value x)
    | intro x
    | split
    | with_reducible apply coreNext_good
    | with_reducible apply updLive_good

theorem shiftStep_good (c : Fin 4) (w : Nat) (b : CoreBank) (s : State) (hg : Good qs s) : Good qs (shiftStep c w b s) := by
  unfold shiftStep
  repeat' first
    | with_reducible assumption
    | (refine fun _ => ?_)
    | lift_lets
    | (intro x; clear_value x)
    | intro x
    | split
    | with_reducible apply coreWriteD_good
    | with_reducible apply coreAlu_good

theorem mpyStep_good (c : Fin 4) (w : Nat) (b : CoreBank) (s : State) (hg : Good qs s) : Good qs (mpyStep c w b s) := by
  unfold mpyStep
  repeat' first
    | with_reducible assumption
    | (refine fun _ => ?_)
    | lift_lets
    | (intro x; clear_value x)
    | intro x
    | split
    | with_reducible apply coreWriteD_good

theorem macStep_good (c : Fin 4) (w : Nat) (b : CoreBank) (s : State) (hg : Good qs s) : Good qs (macStep c w b s) := by
  unfold macStep
  repeat' first
    | with_reducible assumption
    | (refine fun _ => ?_)
    | lift_lets
    | intro x
    | split
    | with_reducible apply coreNext_good
    | with_reducible apply updLive_good

theorem acopStep_good (c : Fin 4) (w : Nat) (b : CoreBank) (s : State) (hg : Good qs s) : Good qs (acopStep c w b s) := by
  unfold acopStep
  repeat' first
    | with_reducible assumption
    | (refine fun _ => ?_)
    | lift_lets
    | (intro x; refine sup (Good qs x.2) ?_ ?_; (on_goal 1 => subst x); (on_goal 2 => (intro _; clear_value x)))
    | (intro x; clear_value x)
    | intro x
    | split
    | with_reducible apply coreNext_good
    | with_reducible apply updLive_good
    | with_reducible apply coreWriteD_good
    | with_reducible apply State.drawFree_good
    | with_reducible apply satWith_good

theorem cmpStep_good (c : Fin 4) (w : Nat) (b : CoreBank) (s : State) (hg : Good qs s) : Good qs (cmpStep c w b s) := by
  unfold cmpStep
  repeat' first
    | with_reducible assumption
    | (refine fun _ => ?_)
    | lift_lets
    | (intro x; clear_value x)
    | intro x
    | split
    | with_reducible apply coreNext_good
    | with_reducible apply updLive_good

theorem cmpiStep_good (c : Fin 4) (w : Nat) (b : CoreBank) (s : State) (hg : Good qs s) : Good qs (cmpiStep c w b s) := by
  unfold cmpiStep
  repeat' first
    | with_reducible assumption
    | (refine fun _ => ?_)
    | lift_lets
    | (intro x; clear_value x)
    | intro x
    | split
    | with_reducible apply coreNext_good
    | with_reducible apply updLive_good

theorem plogStep_good (c : Fin 4) (w : Nat) (b : CoreBank) (s : State) (hg : Good qs s) : Good qs (plogStep c w b s) := by
  unfold plogStep
  repeat' first
    | with_reducible assumption
    | (refine fun _ => ?_)
    | lift_lets
    | (intro x; refine sup (Good qs x.2) ?_ ?_; (on_goal 1 => subst x); (on_goal 2 => (intro _; clear_value x)))
    | (intro x; refine sup (∀ a s, Good qs s → Good qs (x a s)) ?_ ?_; (on_goal 1 => subst x); (on_goal 2 => (intro hf; clear_value x)))
    | (intro x; clear_value x)
    | intro x
    | split
    | with_reducible apply coreNext_good
    | with_reducible apply updLive_good
    | with_reducible apply State.drawFree_good
    | with_reducible apply hf

theorem withData_good (c : Fin 4) (ws : List Nat) (f : State → State) (s : State) (hg : Good qs s) (hf : ∀  s, Good qs s → Good qs (f  s)) : Good qs (withData c ws f s) := by
  unfold withData
  repeat' first
    | with_reducible assumption
    | (refine fun _ => ?_)
    | lift_lets
    | (intro x; clear_value x)
    | intro x
    | split
    | with_reducible apply coreFault_good
    | with_reducible apply State.wr_good
    | with_reducible apply State.bumpBy_good
    | with_reducible apply hf

theorem ldStep_good (c : Fin 4) (w : Nat) (b : CoreBank) (s : State) (hg : Good qs s) : Good qs (ldStep c w b s) := by
  unfold ldStep
  repeat' first
    | with_reducible assumption
    | (refine fun _ => ?_)
    | lift_lets
    | (intro x; clear_value x)
    | intro x
    | split
    | with_reducible apply withData_good
    | with_reducible apply coreNext_good
    | with_reducible apply updLive_good

theorem stStep_good (c : Fin 4) (w : Nat) (b : CoreBank) (s : State) (hg : Good qs s) : Good qs (stStep c w b s) := by
  unfold stStep
  repeat' first
    | with_reducible assumption
    | (refine fun _ => ?_)
    | lift_lets
    | intro x
    | split
    | with_reducible apply coreNext_good
    | with_reducible apply updLive_good
    | with_reducible apply dmemPut_good

theorem macmStep_good (c : Fin 4) (w : Nat) (b : CoreBank) (s : State) (hg : Good qs s) : Good qs (macmStep c w b s) := by
  unfold macmStep
  repeat' first
    | with_reducible assumption
    | (refine fun _ => ?_)
    | lift_lets
    | (intro x; clear_value x)
    | intro x
    | split
    | with_reducible apply withData_good
    | with_reducible apply coreNext_good
    | with_reducible apply updLive_good

theorem rptStep_good (c : Fin 4) (w : Nat) (b : CoreBank) (s : State) (hg : Good qs s) : Good qs (rptStep c w b s) := by
  unfold rptStep
  repeat' first
    | with_reducible assumption
    | (refine fun _ => ?_)
    | lift_lets
    | (intro x; clear_value x)
    | intro x
    | split
    | with_reducible apply coreJump_good
    | with_reducible apply coreFault_good
    | with_reducible apply updLive_good

theorem rptExec_good (c : Fin 4) (int : Bool) (s : State) (hg : Good qs s) : Good qs (rptExec c int s) := by
  unfold rptExec
  repeat' first
    | with_reducible assumption
    | (refine fun _ => ?_)
    | lift_lets
    | intro x
    | split
    | with_reducible apply coreExec_good
    | with_reducible apply rptStep_good

theorem coreWaitFor_good (c : Fin 4) (x : CoreWait) (s : State) (hg : Good qs s) : Good qs (coreWaitFor c x s) := by
  unfold coreWaitFor
  repeat' first
    | with_reducible assumption
    | (refine fun _ => ?_)
    | lift_lets
    | intro x
    | split
    | with_reducible apply updLive_good

theorem wfeStep_good (c : Fin 4) (_w : Nat) (_b : CoreBank) (s : State) (hg : Good qs s) : Good qs (wfeStep c _w _b s) := by
  unfold wfeStep
  repeat' first
    | with_reducible assumption
    | (refine fun _ => ?_)
    | lift_lets
    | intro x
    | split
    | with_reducible apply coreNext_good
    | with_reducible apply coreWaitFor_good

theorem sevStep_good (c : Fin 4) (w : Nat) (_b : CoreBank) (s : State) (hg : Good qs s) : Good qs (sevStep c w _b s) := by
  unfold sevStep
  repeat' first
    | with_reducible assumption
    | (refine fun _ => ?_)
    | lift_lets
    | intro x
    | split
    | with_reducible apply coreNext_good
    | with_reducible apply State.raise_good

theorem waitptStep_good (c : Fin 4) (w : Nat) (b : CoreBank) (s : State) (hg : Good qs s) : Good qs (waitptStep c w b s) := by
  unfold waitptStep
  repeat' first
    | with_reducible assumption
    | (refine fun _ => ?_)
    | lift_lets
    | (intro x; clear_value x)
    | intro x
    | split
    | with_reducible apply coreNext_good
    | with_reducible apply coreWaitFor_good

theorem waitaStep_good (c : Fin 4) (w : Nat) (b : CoreBank) (s : State) (hg : Good qs s) : Good qs (waitaStep c w b s) := by
  unfold waitaStep
  repeat' first
    | with_reducible assumption
    | (refine fun _ => ?_)
    | lift_lets
    | (intro x; clear_value x)
    | intro x
    | split
    | with_reducible apply coreNext_good
    | with_reducible apply updLive_good
    | with_reducible apply coreWaitFor_good

theorem updBankOf_good (c : Fin 4) (task : Bool) (f : CoreBank → CoreBank) (s : State) (hg : Good qs s) : Good qs (updBankOf c task f s) := by
  unfold updBankOf
  repeat' first
    | with_reducible assumption
    | (refine fun _ => ?_)
    | lift_lets
    | intro x
    | split
    | with_reducible apply State.updCore_good

theorem coreWaitEndStep_good (c : Fin 4) (task : Bool) (s : State) (hg : Good qs s) : Good qs (coreWaitEndStep c task s) := by
  unfold coreWaitEndStep
  repeat' first
    | with_reducible assumption
    | (refine fun _ => ?_)
    | lift_lets
    | (intro x; clear_value x)
    | intro x
    | split
    | with_reducible apply updBankOf_good

theorem coresEpochClose_good (s : State) (hg : Good qs s) : Good qs (coresEpochClose s) := by
  unfold coresEpochClose
  repeat' first
    | with_reducible assumption
    | (refine fun _ => ?_)
    | lift_lets
    | (intro x; clear_value x)
    | intro x
    | split
    | with_reducible apply foldS_good
    | with_reducible apply State.updCore_good

theorem mfcStep_good (c : Fin 4) (w : Nat) (b : CoreBank) (s : State) (hg : Good qs s) : Good qs (mfcStep c w b s) := by
  unfold mfcStep
  repeat' first
    | with_reducible assumption
    | (refine fun _ => ?_)
    | lift_lets
    | (intro x; refine sup (Good qs x) ?_ ?_; (on_goal 1 => subst x); (on_goal 2 => (intro _; clear_value x)))
    | (intro x; clear_value x)
    | intro x
    | split
    | with_reducible apply updLive_good
    | with_reducible apply coreWriteD_good

theorem mtcStep_good (c : Fin 4) (w : Nat) (b : CoreBank) (s : State) (hg : Good qs s) : Good qs (mtcStep c w b s) := by
  unfold mtcStep
  repeat' first
    | with_reducible assumption
    | (refine fun _ => ?_)
    | lift_lets
    | (intro x; refine sup (Good qs x) ?_ ?_; (on_goal 1 => subst x); (on_goal 2 => (intro _; clear_value x)))
    | (intro x; clear_value x)
    | intro x
    | split
    | with_reducible apply coreNext_good
    | with_reducible apply updLive_good
    | with_reducible apply State.wr_good

theorem reteStep_good (c : Fin 4) (_w : Nat) (_b : CoreBank) (s : State) (hg : Good qs s) : Good qs (reteStep c _w _b s) := by
  unfold reteStep
  repeat' first
    | with_reducible assumption
    | (refine fun _ => ?_)
    | lift_lets
    | (intro x; refine sup (Good qs x) ?_ ?_; (on_goal 1 => subst x); (on_goal 2 => (intro _; clear_value x)))
    | (intro x; clear_value x)
    | intro x
    | split
    | with_reducible apply coreFault_good
    | with_reducible apply withData_good
    | with_reducible apply State.wr_good
    | with_reducible apply updLive_good

theorem taskDone_good (c : Fin 4) (t : TaskRun) (s : State) (hg : Good qs s) : Good qs (taskDone c t s) := by
  unfold taskDone
  repeat' first
    | with_reducible assumption
    | (refine fun _ => ?_)
    | lift_lets
    | (intro x; refine sup (Good qs x) ?_ ?_; (on_goal 1 => subst x); (on_goal 2 => (intro _; clear_value x)))
    | (intro x; clear_value x)
    | intro x
    | split
    | with_reducible apply noteOverrun_good
    | with_reducible apply State.updCore_good

theorem endtStep_good (c : Fin 4) (_w : Nat) (_b : CoreBank) (s : State) (hg : Good qs s) : Good qs (endtStep c _w _b s) := by
  unfold endtStep
  repeat' first
    | with_reducible assumption
    | (refine fun _ => ?_)
    | lift_lets
    | intro x
    | split
    | with_reducible apply taskDone_good
    | with_reducible apply State.updCore_good

theorem eventEntryStep_good (c : Fin 4) (s : State) (hg : Good qs s) : Good qs (eventEntryStep c s) := by
  unfold eventEntryStep
  repeat' first
    | with_reducible assumption
    | (refine fun _ => ?_)
    | lift_lets
    | (intro x; refine sup (Good qs x) ?_ ?_; (on_goal 1 => subst x); (on_goal 2 => (intro _; clear_value x)))
    | (intro x; clear_value x)
    | intro x
    | split
    | with_reducible apply coreFault_good
    | with_reducible apply dmemPut_good
    | with_reducible apply State.wr_good
    | with_reducible apply State.bumpWrap_good
    | with_reducible apply State.updCore_good

theorem restartCore_good (c : Fin 4) (s : State) (hg : Good qs s) : Good qs (restartCore c s) := by
  unfold restartCore
  repeat' first
    | with_reducible assumption
    | (refine fun _ => ?_)
    | lift_lets
    | (intro x; refine sup (Good qs x) ?_ ?_; (on_goal 1 => subst x); (on_goal 2 => (intro _; clear_value x)))
    | intro x
    | split
    | with_reducible apply State.setReg_good
    | with_reducible apply State.wr_good
    | with_reducible apply farGone_good
    | with_reducible apply State.updCore_good

theorem flushFailed_good (c : Fin 4) (s : State) (hg : Good qs s) : Good qs (flushFailed c s) := by
  unfold flushFailed
  repeat' first
    | with_reducible assumption
    | (refine fun _ => ?_)
    | lift_lets
    | (intro x; refine sup (Good qs x) ?_ ?_; (on_goal 1 => subst x); (on_goal 2 => (intro _; clear_value x)))
    | (intro x; clear_value x)
    | intro x
    | split
    | with_reducible apply foldS_good
    | with_reducible apply State.updCore_good
    | with_reducible apply deadlineAct_good

theorem frameStartStep_good (s : State) (hg : Good qs s) : Good qs (frameStartStep s) := by
  unfold frameStartStep
  repeat' first
    | with_reducible assumption
    | (refine fun _ => ?_)
    | lift_lets
    | (intro x; refine sup (Good qs x) ?_ ?_; (on_goal 1 => subst x); (on_goal 2 => (intro _; clear_value x)))
    | (intro x; refine sup (Good qs x) ?_ ?_; (on_goal 1 => subst x); (on_goal 2 => intro _))
    | intro x
    | split
    | with_reducible apply foldS_good
    | with_reducible apply flushFailed_good
    | with_reducible apply abandonTask_good
    | with_reducible apply State.updCore_good
    | with_reducible apply restartCore_good
    | (refine good_of_parts ?_; dsimp only; refine parts_of_good ?_; with_reducible assumption)

theorem slotStartStep_good (c : Fin 4) (k : Fin 64) (s : State) (hg : Good qs s) : Good qs (slotStartStep c k s) := by
  unfold slotStartStep
  repeat' first
    | with_reducible assumption
    | (refine fun _ => ?_)
    | lift_lets
    | (intro x; refine sup (Good qs x) ?_ ?_; (on_goal 1 => subst x); (on_goal 2 => (intro _; clear_value x)))
    | (intro x; clear_value x)
    | intro x
    | split
    | with_reducible apply State.updCore_good
    | with_reducible apply abandonTask_good

theorem slotsFromNow_good (c : Fin 4) (s : State) (hg : Good qs s) : Good qs (slotsFromNow c s) := by
  unfold slotsFromNow
  repeat' first
    | with_reducible assumption
    | (refine fun _ => ?_)
    | lift_lets
    | intro x
    | split
    | with_reducible apply State.updCore_good

theorem dropReleases_good (s : State) (hg : Good qs s) : Good qs (dropReleases s) := by
  unfold dropReleases
  repeat' first
    | with_reducible assumption
    | (refine fun _ => ?_)
    | lift_lets
    | intro x
    | split
    | with_reducible apply foldS_good
    | with_reducible apply State.updCore_good

theorem taskOverrunStep_good (c : Fin 4) (s : State) (hg : Good qs s) : Good qs (taskOverrunStep c s) := by
  unfold taskOverrunStep
  repeat' first
    | with_reducible assumption
    | (refine fun _ => ?_)
    | lift_lets
    | (intro x; refine sup (Good qs x) ?_ ?_; (on_goal 1 => subst x); (on_goal 2 => (intro _; clear_value x)))
    | intro x
    | split
    | with_reducible apply flushFailed_good
    | with_reducible apply noteOverrun_good
    | with_reducible apply abandonTask_good

theorem taskRelease_good (a : Act) (s : State) (hg : Good qs s) : Good qs (taskRelease a s) := by
  unfold taskRelease
  repeat' first
    | with_reducible assumption
    | (refine fun _ => ?_)
    | lift_lets
    | (intro x; refine sup (Good qs x) ?_ ?_; (on_goal 1 => subst x); (on_goal 2 => (intro _; clear_value x)))
    | intro x
    | split
    | with_reducible apply applyAct_good
    | with_reducible apply countShadow_good
    | with_reducible apply State.updCore_good

theorem taskEffect_good (a : Act) (s : State) (hg : Good qs s) : Good qs (taskEffect a s) := by
  unfold taskEffect
  repeat' first
    | with_reducible assumption
    | (refine fun _ => ?_)
    | lift_lets
    | (intro x; clear_value x)
    | intro x
    | split
    | with_reducible apply taskRelease_good
    | with_reducible apply updAct_good
    | with_reducible apply contention_good

theorem taskServe_good (c : Fin 4) (s : State) (hg : Good qs s) : Good qs (taskServe c s) := by
  unfold taskServe
  repeat' first
    | with_reducible assumption
    | (refine fun _ => ?_)
    | lift_lets
    | (intro x; clear_value x)
    | intro x
    | split
    | with_reducible apply foldS_good
    | with_reducible apply taskRelease_good
    | with_reducible apply dropAct_good

theorem taskWaitExpire_good (a : Act) (s : State) (hg : Good qs s) : Good qs (taskWaitExpire a s) := by
  unfold taskWaitExpire
  repeat' first
    | with_reducible assumption
    | (refine fun _ => ?_)
    | lift_lets
    | intro x
    | split
    | with_reducible apply dropAct_good

theorem farStep_good (load : Bool) (c : Fin 4) (w : Nat) (b : CoreBank) (s : State) (hg : Good qs s) : Good qs (farStep load c w b s) := by
  unfold farStep
  repeat' first
    | with_reducible assumption
    | (refine fun _ => ?_)
    | lift_lets
    | (intro x; clear_value x)
    | intro x
    | split
    | with_reducible apply coreFault_good
    | with_reducible apply coreWaitFor_good

theorem coreRestartStep_good (c : Fin 4) (s : State) (hg : Good qs s) : Good qs (coreRestartStep c s) := by
  unfold coreRestartStep
  repeat' first
    | with_reducible assumption
    | (refine fun _ => ?_)
    | lift_lets
    | intro x
    | split
    | with_reducible apply State.wr_good

end Sys2Proof.Machine
end

