-- ==== Sys2Proof/Laws/SoundEnvelope.lean ====
section
/-! SUPPORT. Every state function of Machine/Envelope.lean keeps the invariant `Good` of Laws/Sound.lean. -/

namespace Sys2Proof.Machine

variable {qs : List Instr}

theorem envelopeEdge_good (n v stamp : Nat) (resume : Bool) (s : State) (hg : Good qs s) : Good qs (envelopeEdge n v stamp resume s) := by
  unfold envelopeEdge
  repeat' first
    | with_reducible assumption
    | (refine fun _ => ?_)
    | lift_lets
    | (intro x; refine sup (Good qs x) ?_ ?_; (on_goal 1 => subst x); (on_goal 2 => (intro _; clear_value x)))
    | (intro x; clear_value x)
    | intro x
    | split
    | with_reducible apply State.updPlan_good
    | with_reducible apply violation_good

theorem dueEnvelope_good (s : State) (hg : Good qs s) : Good qs (dueEnvelope s) := by
  unfold dueEnvelope
  repeat' first
    | with_reducible assumption
    | (refine fun _ => ?_)
    | lift_lets
    | (intro x; clear_value x)
    | intro x
    | split
    | with_reducible apply envelopeEdge_good

end Sys2Proof.Machine
end

