-- ==== Sys2Proof/Laws/SoundPwm.lean ====
section
/-! SUPPORT. Every state function of Machine/Pwm.lean keeps the invariant `Good` of Laws/Sound.lean. -/

namespace Sys2Proof.Machine

variable {qs : List Instr}

theorem pwmFlag_good (n : Fin 16) (f : Fld) (s : State) (hg : Good qs s) : Good qs (pwmFlag n f s) := by
  unfold pwmFlag
  repeat' first
    | with_reducible assumption
    | (refine fun _ => ?_)
    | lift_lets
    | intro x
    | split
    | with_reducible apply State.setFault_good

theorem putOutputs_good (n : Fin 16) (a b live : Bool) (s : State) (hg : Good qs s) : Good qs (putOutputs n a b live s) := by
  unfold putOutputs
  repeat' first
    | with_reducible assumption
    | (refine fun _ => ?_)
    | lift_lets
    | (intro x; clear_value x)
    | intro x
    | split
    | with_reducible apply State.updPwm_good

theorem takeForce_good (n : Fin 16) (s : State) (hg : Good qs s) : Good qs (takeForce n s) := by
  unfold takeForce
  repeat' first
    | with_reducible assumption
    | (refine fun _ => ?_)
    | lift_lets
    | intro x
    | split
    | with_reducible apply State.updPwm_good

theorem noteForces_good (n : Fin 16) (s : State) (hg : Good qs s) : Good qs (noteForces n s) := by
  unfold noteForces
  repeat' first
    | with_reducible assumption
    | (refine fun _ => ?_)
    | lift_lets
    | (intro x; refine sup (Good qs x) ?_ ?_; (on_goal 1 => subst x); (on_goal 2 => (intro _; clear_value x)))
    | (intro x; clear_value x)
    | intro x
    | split
    | with_reducible apply State.updPwm_good
    | with_reducible apply pwmFlag_good
    | with_reducible apply State.wr_good

theorem settlePwm_good (n : Fin 16) (s : State) (hg : Good qs s) : Good qs (settlePwm n s) := by
  unfold settlePwm
  repeat' first
    | with_reducible assumption
    | (refine fun _ => ?_)
    | lift_lets
    | (intro x; refine sup (Good qs x) ?_ ?_; (on_goal 1 => subst x); (on_goal 2 => (intro _; clear_value x)))
    | (intro x; clear_value x)
    | intro x
    | split
    | with_reducible apply putOutputs_good
    | with_reducible apply noteForces_good
    | with_reducible apply takeForce_good

theorem settleAll_good (s : State) (hg : Good qs s) : Good qs (settleAll s) := by
  unfold settleAll
  repeat' first
    | with_reducible assumption
    | (refine fun _ => ?_)
    | lift_lets
    | intro x
    | split
    | with_reducible apply foldS_good
    | with_reducible apply settlePwm_good

theorem settleSafe_good (n : Fin 16) (s : State) (hg : Good qs s) : Good qs (settleSafe n s) := by
  unfold settleSafe
  repeat' first
    | with_reducible assumption
    | (refine fun _ => ?_)
    | lift_lets
    | intro x
    | split
    | with_reducible apply settlePwm_good

theorem tripPwm_good (n : Fin 16) (s : State) (hg : Good qs s) : Good qs (tripPwm n s) := by
  unfold tripPwm
  repeat' first
    | with_reducible assumption
    | (refine fun _ => ?_)
    | lift_lets
    | (intro x; refine sup (Good qs x) ?_ ?_; (on_goal 1 => subst x); (on_goal 2 => (intro _; clear_value x)))
    | intro x
    | split
    | with_reducible apply pwmFlag_good
    | with_reducible apply State.bump_good
    | with_reducible apply settlePwm_good
    | with_reducible apply State.updPwm_good

theorem judgeTrip_good (n : Fin 16) (s : State) (hg : Good qs s) : Good qs (judgeTrip n s) := by
  unfold judgeTrip
  repeat' first
    | with_reducible assumption
    | (refine fun _ => ?_)
    | lift_lets
    | (intro x; clear_value x)
    | intro x
    | split
    | with_reducible apply State.reset_good
    | with_reducible apply tripPwm_good

theorem tripInputStep_good (k : Fin 8) (level : Bool) (s : State) (hg : Good qs s) : Good qs (tripInputStep k level s) := by
  unfold tripInputStep
  repeat' first
    | with_reducible assumption
    | (refine fun _ => ?_)
    | lift_lets
    | (intro x; clear_value x)
    | intro x
    | split
    | with_reducible apply foldS_good
    | with_reducible apply judgeTrip_good
    | with_reducible apply hf
    | (refine good_of_parts ?_; dsimp only; refine parts_of_good ?_; with_reducible assumption)

theorem blankEndStep_good (n : Fin 16) (s : State) (hg : Good qs s) : Good qs (blankEndStep n s) := by
  unfold blankEndStep
  repeat' first
    | with_reducible assumption
    | (refine fun _ => ?_)
    | lift_lets
    | intro x
    | split
    | with_reducible apply judgeTrip_good
    | with_reducible apply State.updPwm_good

theorem tripClearStep_good (n : Fin 16) (s : State) (hg : Good qs s) : Good qs (tripClearStep n s) := by
  unfold tripClearStep
  repeat' first
    | with_reducible assumption
    | (refine fun _ => ?_)
    | lift_lets
    | intro x
    | split
    | with_reducible apply State.err_good
    | with_reducible apply State.wr_good

theorem requestLoad_good (g : Nat) (s : State) (hg : Good qs s) : Good qs (requestLoad g s) := by
  unfold requestLoad
  repeat' first
    | with_reducible assumption
    | (refine fun _ => ?_)
    | lift_lets
    | intro x
    | split
    | with_reducible apply foldS_good
    | with_reducible apply State.updPwm_good

theorem clearLoadAll_good (s : State) (hg : Good qs s) : Good qs (clearLoadAll s) := by
  unfold clearLoadAll
  repeat' first
    | with_reducible assumption
    | (refine fun _ => ?_)
    | lift_lets
    | (intro x; clear_value x)
    | intro x
    | split
    | with_reducible apply foldS_good
    | with_reducible apply State.wr_good

theorem actShadow_good (a : Nat) (s : State) (hg : Good qs s) : Good qs (actShadow a s) := by
  unfold actShadow
  repeat' first
    | with_reducible assumption
    | (refine fun _ => ?_)
    | lift_lets
    | intro x
    | split
    | with_reducible apply State.setAct_good

theorem loadDone_good (n : Fin 16) (s : State) (hg : Good qs s) : Good qs (loadDone n s) := by
  unfold loadDone
  repeat' first
    | with_reducible assumption
    | (refine fun _ => ?_)
    | lift_lets
    | (intro x; refine sup (Good qs x) ?_ ?_; (on_goal 1 => subst x); (on_goal 2 => (intro _; clear_value x)))
    | intro x
    | split
    | with_reducible apply State.updPwm_good
    | with_reducible apply State.bumpWrap_good
    | with_reducible apply pwmFlag_good
    | with_reducible apply clearLoadAll_good

theorem actLoad_good (n : Fin 16) (s : State) (hg : Good qs s) : Good qs (actLoad n s) := by
  unfold actLoad
  repeat' first
    | with_reducible assumption
    | (refine fun _ => ?_)
    | lift_lets
    | intro x
    | split
    | with_reducible apply actShadow_good

theorem noteZero_good (n : Fin 16) (s : State) (hg : Good qs s) : Good qs (noteZero n s) := by
  unfold noteZero
  repeat' first
    | with_reducible assumption
    | (refine fun _ => ?_)
    | lift_lets
    | intro x
    | split
    | with_reducible apply pwmFlag_good

theorem followLoad_good (m : Fin 16) (old : Nat) (n : Fin 16) (s : State) (hg : Good qs s) : Good qs (followLoad m old n s) := by
  unfold followLoad
  repeat' first
    | with_reducible assumption
    | (refine fun _ => ?_)
    | lift_lets
    | (intro x; refine sup (Good qs x) ?_ ?_; (on_goal 1 => subst x); (on_goal 2 => (intro _; clear_value x)))
    | (intro x; clear_value x)
    | intro x
    | split
    | with_reducible apply actShadow_good
    | with_reducible apply State.updPwm_good
    | with_reducible apply settlePwm_good
    | with_reducible apply noteZero_good

theorem takeLoad_good (starts : Bool) (n : Fin 16) (s : State) (hg : Good qs s) : Good qs (takeLoad starts n s) := by
  unfold takeLoad
  repeat' first
    | with_reducible assumption
    | (refine fun _ => ?_)
    | lift_lets
    | (intro x; clear_value x)
    | intro x
    | split
    | with_reducible apply foldS_good
    | with_reducible apply loadDone_good
    | with_reducible apply actLoad_good
    | with_reducible apply actShadow_good
    | with_reducible apply followLoad_good
    | with_reducible apply noteZero_good

theorem takeDead_good (n : Fin 16) (at_ : Nat) (s : State) (hg : Good qs s) : Good qs (takeDead n at_ s) := by
  unfold takeDead
  repeat' first
    | with_reducible assumption
    | (refine fun _ => ?_)
    | lift_lets
    | (intro x; refine sup (Good qs x) ?_ ?_; (on_goal 1 => subst x); (on_goal 2 => (intro _; clear_value x)))
    | (intro x; clear_value x)
    | intro x
    | split
    | with_reducible apply State.wr_good
    | with_reducible apply State.updPwm_good

theorem startRefresh_good (n : Fin 16) (s : State) (hg : Good qs s) : Good qs (startRefresh n s) := by
  unfold startRefresh
  repeat' first
    | with_reducible assumption
    | (refine fun _ => ?_)
    | lift_lets
    | (intro x; clear_value x)
    | intro x
    | split
    | with_reducible apply pwmFlag_good
    | with_reducible apply State.bump_good
    | with_reducible apply State.updPwm_good

theorem actPwm_good (n : Fin 16) (s : State) (hg : Good qs s) : Good qs (actPwm n s) := by
  unfold actPwm
  repeat' first
    | with_reducible assumption
    | (refine fun _ => ?_)
    | lift_lets
    | intro x
    | split
    | with_reducible apply State.actWhere_good

theorem beginPeriod_good (n : Fin 16) (s : State) (hg : Good qs s) : Good qs (beginPeriod n s) := by
  unfold beginPeriod
  repeat' first
    | with_reducible assumption
    | (refine fun _ => ?_)
    | lift_lets
    | intro x
    | split
    | with_reducible apply State.updPwm_good

theorem periodTrigger_good (n : Fin 16) (s : State) (hg : Good qs s) : Good qs (periodTrigger n s) := by
  unfold periodTrigger
  repeat' first
    | with_reducible assumption
    | (refine fun _ => ?_)
    | lift_lets
    | intro x
    | split
    | with_reducible apply State.fire_good

theorem openPeriod_good (n : Fin 16) (start : Int) (whole starts : Bool) (s : State) (hg : Good qs s) : Good qs (openPeriod n start whole starts s) := by
  unfold openPeriod
  repeat' first
    | with_reducible assumption
    | (refine fun _ => ?_)
    | lift_lets
    | (intro x; refine sup (Good qs x) ?_ ?_; (on_goal 1 => subst x); (on_goal 2 => (intro _; clear_value x)))
    | intro x
    | split
    | with_reducible apply actPwm_good
    | with_reducible apply State.updPwm_good
    | with_reducible apply beginPeriod_good
    | with_reducible apply takeDead_good
    | with_reducible apply noteZero_good
    | with_reducible apply takeLoad_good
    | with_reducible apply settlePwm_good
    | with_reducible apply startRefresh_good
    | with_reducible apply periodTrigger_good

theorem periodStartStep_good (n : Fin 16) (s : State) (hg : Good qs s) : Good qs (periodStartStep n s) := by
  unfold periodStartStep
  repeat' first
    | with_reducible assumption
    | (refine fun _ => ?_)
    | lift_lets
    | (intro x; clear_value x)
    | intro x
    | split
    | with_reducible apply takeLoad_good
    | with_reducible apply openPeriod_good
    | with_reducible apply State.updPwm_good

theorem countEdgeStep_good (n : Fin 16) (s : State) (hg : Good qs s) : Good qs (countEdgeStep n s) := by
  unfold countEdgeStep
  repeat' first
    | with_reducible assumption
    | (refine fun _ => ?_)
    | lift_lets
    | intro x
    | split
    | with_reducible apply settlePwm_good

theorem countTriggerStep_good (n : Fin 16) (s : State) (hg : Good qs s) : Good qs (countTriggerStep n s) := by
  unfold countTriggerStep
  repeat' first
    | with_reducible assumption
    | (refine fun _ => ?_)
    | lift_lets
    | (intro x; clear_value x)
    | intro x
    | split
    | with_reducible apply State.fire_good
    | with_reducible apply State.fireConv_good

theorem startGen_good (n : Fin 16) (s : State) (hg : Good qs s) : Good qs (startGen n s) := by
  unfold startGen
  repeat' first
    | with_reducible assumption
    | (refine fun _ => ?_)
    | lift_lets
    | (intro x; refine sup (Good qs x) ?_ ?_; (on_goal 1 => subst x); (on_goal 2 => (intro _; clear_value x)))
    | (intro x; clear_value x)
    | intro x
    | split
    | with_reducible apply State.updPwm_good
    | with_reducible apply actShadow_good
    | with_reducible apply openPeriod_good

theorem startDue_good (s : State) (hg : Good qs s) : Good qs (startDue s) := by
  unfold startDue
  repeat' first
    | with_reducible assumption
    | (refine fun _ => ?_)
    | lift_lets
    | (intro x; refine sup (Good qs x) ?_ ?_; (on_goal 1 => subst x); (on_goal 2 => (intro _; clear_value x)))
    | (intro x; clear_value x)
    | intro x
    | split
    | with_reducible apply foldS_good
    | with_reducible apply startGen_good

theorem stopGen_good (n : Fin 16) (s : State) (hg : Good qs s) : Good qs (stopGen n s) := by
  unfold stopGen
  repeat' first
    | with_reducible assumption
    | (refine fun _ => ?_)
    | lift_lets
    | intro x
    | split
    | with_reducible apply actPwm_good
    | with_reducible apply State.updPwm_good

theorem pwmRunStep_good (v : Word) (s : State) (hg : Good qs s) : Good qs (pwmRunStep v s) := by
  unfold pwmRunStep
  repeat' first
    | with_reducible assumption
    | (refine fun _ => ?_)
    | lift_lets
    | (intro x; refine sup (Good qs x) ?_ ?_; (on_goal 1 => subst x); (on_goal 2 => (intro _; clear_value x)))
    | (intro x; clear_value x)
    | intro x
    | split
    | with_reducible apply foldS_good
    | with_reducible apply State.wr_good
    | with_reducible apply State.updPwm_good
    | with_reducible apply startDue_good
    | with_reducible apply settleAll_good
    | with_reducible apply stopGen_good

theorem resumePwm_good (s : State) (hg : Good qs s) : Good qs (resumePwm s) := by
  unfold resumePwm
  repeat' first
    | with_reducible assumption
    | (refine fun _ => ?_)
    | lift_lets
    | intro x
    | split
    | with_reducible apply foldS_good
    | with_reducible apply settleSafe_good
    | with_reducible apply startDue_good

theorem loadAllStep_good (v : Word) (s : State) (hg : Good qs s) : Good qs (loadAllStep v s) := by
  unfold loadAllStep
  repeat' first
    | with_reducible assumption
    | (refine fun _ => ?_)
    | lift_lets
    | (intro x; refine sup (Good qs x) ?_ ?_; (on_goal 1 => subst x); (on_goal 2 => (intro _; clear_value x)))
    | intro x
    | split
    | with_reducible apply foldS_good
    | with_reducible apply State.wr_good
    | with_reducible apply clearLoadAll_good
    | with_reducible apply requestLoad_good

theorem noteSoft_good (n : Fin 16) (off : Nat) (s : State) (hg : Good qs s) : Good qs (noteSoft n off s) := by
  unfold noteSoft
  repeat' first
    | with_reducible assumption
    | (refine fun _ => ?_)
    | lift_lets
    | intro x
    | split
    | with_reducible apply State.updPwm_good

theorem propEffect_good (n : Fin 16) (target v : Nat) (s : State) (hg : Good qs s) : Good qs (propEffect n target v s) := by
  unfold propEffect
  repeat' first
    | with_reducible assumption
    | (refine fun _ => ?_)
    | lift_lets
    | (intro x; refine sup (Good qs x) ?_ ?_; (on_goal 1 => subst x); (on_goal 2 => (intro _; clear_value x)))
    | intro x
    | split
    | with_reducible apply State.wr_good
    | with_reducible apply requestLoad_good

theorem pwmForceStep_good (n : Fin 16) (v : Word) (s : State) (hg : Good qs s) : Good qs (pwmForceStep n v s) := by
  unfold pwmForceStep
  repeat' first
    | with_reducible assumption
    | (refine fun _ => ?_)
    | lift_lets
    | (intro x; refine sup (Good qs x) ?_ ?_; (on_goal 1 => subst x); (on_goal 2 => (intro _; clear_value x)))
    | intro x
    | split
    | with_reducible apply takeForce_good
    | with_reducible apply State.wr_good
    | with_reducible apply settlePwm_good
    | with_reducible apply State.updPwm_good

theorem measEnd_good (n : Fin 16) (ab : Bool) (next : Nat) (s : State) (hg : Good qs s) : Good qs (measEnd n ab next s) := by
  unfold measEnd
  repeat' first
    | with_reducible assumption
    | (refine fun _ => ?_)
    | lift_lets
    | intro x
    | split
    | with_reducible apply State.updPwm_good

theorem swCrossingStep_good (n : Fin 16) (rising : Bool) (s : State) (hg : Good qs s) : Good qs (swCrossingStep n rising s) := by
  unfold swCrossingStep
  repeat' first
    | with_reducible assumption
    | (refine fun _ => ?_)
    | lift_lets
    | (intro x; refine sup (Good qs x) ?_ ?_; (on_goal 1 => subst x); (on_goal 2 => (intro _; clear_value x)))
    | (intro x; clear_value x)
    | intro x
    | split
    | with_reducible apply foldS_good
    | with_reducible apply State.updPwm_good
    | with_reducible apply measEnd_good
    | with_reducible apply State.wr_good

theorem dtTimeoutStep_good (n : Fin 16) (s : State) (hg : Good qs s) : Good qs (dtTimeoutStep n s) := by
  unfold dtTimeoutStep
  repeat' first
    | with_reducible assumption
    | (refine fun _ => ?_)
    | lift_lets
    | (intro x; refine sup (Good qs x) ?_ ?_; (on_goal 1 => subst x); (on_goal 2 => (intro _; clear_value x)))
    | (intro x; clear_value x)
    | intro x
    | split
    | with_reducible apply foldS_good
    | with_reducible apply State.updPwm_good
    | with_reducible apply measEnd_good
    | with_reducible apply State.bump_good

theorem spillPwm_good (untilArm : Bool) (s : State) (hg : Good qs s) : Good qs (spillPwm untilArm s) := by
  unfold spillPwm
  repeat' first
    | with_reducible assumption
    | (refine fun _ => ?_)
    | lift_lets
    | intro x
    | split
    | with_reducible apply foldS_good
    | with_reducible apply settleAll_good
    | with_reducible apply State.updPwm_good

theorem releasePwm_good (why : HoldEnd) (s : State) (hg : Good qs s) : Good qs (releasePwm why s) := by
  unfold releasePwm
  repeat' first
    | with_reducible assumption
    | (refine fun _ => ?_)
    | lift_lets
    | intro x
    | split
    | with_reducible apply foldS_good
    | with_reducible apply State.updPwm_good

end Sys2Proof.Machine
end

