-- ==== Sys2Proof/Laws/SoundBanks.lean ====
section
/-! SUPPORT. Every state function of Machine/Banks.lean keeps the invariant `Good` of Laws/Sound.lean. -/

namespace Sys2Proof.Machine

variable {qs : List Instr}

theorem levSwitch_good (u : Nat) (on : Bool) (s : State) (hg : Good qs s) : Good qs (levSwitch u on s) := by
  unfold levSwitch
  repeat' first
    | with_reducible assumption
    | (refine fun _ => ?_)
    | lift_lets
    | (intro x; clear_value x)
    | intro x
    | split
    | with_reducible apply hf
    | (refine good_of_parts ?_; dsimp only; refine parts_of_good ?_; with_reducible assumption)

theorem leveeSliceStep_good (s : State) (hg : Good qs s) : Good qs (leveeSliceStep s) := by
  unfold leveeSliceStep
  repeat' first
    | with_reducible assumption
    | (refine fun _ => ?_)
    | lift_lets
    | (intro x; clear_value x)
    | intro x
    | split
    | with_reducible apply hf
    | (refine good_of_parts ?_; dsimp only; refine parts_of_good ?_; with_reducible assumption)

theorem leveeRestart_good (s : State) (hg : Good qs s) : Good qs (leveeRestart s) := by
  unfold leveeRestart
  repeat' first
    | with_reducible assumption
    | (refine fun _ => ?_)
    | lift_lets
    | (intro x; clear_value x)
    | intro x
    | split
    | with_reducible apply hf
    | (refine good_of_parts ?_; dsimp only; refine parts_of_good ?_; with_reducible assumption)

theorem shpFlag_good (b : Fin 16) (k : Nat) (s : State) (hg : Good qs s) : Good qs (shpFlag b k s) := by
  unfold shpFlag
  repeat' first
    | with_reducible assumption
    | (refine fun _ => ?_)
    | lift_lets
    | (intro x; clear_value x)
    | intro x
    | split
    | with_reducible apply State.setReg_good
    | with_reducible apply State.raise_good

theorem clearDip_good (b : Fin 16) (s : State) (hg : Good qs s) : Good qs (clearDip b s) := by
  unfold clearDip
  repeat' first
    | with_reducible assumption
    | (refine fun _ => ?_)
    | lift_lets
    | intro x
    | split
    | with_reducible apply State.updShp_good

theorem closeDip_good (b : Fin 16) (s : State) (hg : Good qs s) : Good qs (closeDip b s) := by
  unfold closeDip
  repeat' first
    | with_reducible assumption
    | (refine fun _ => ?_)
    | lift_lets
    | (intro x; clear_value x)
    | intro x
    | split
    | with_reducible apply clearDip_good
    | with_reducible apply shpFlag_good
    | with_reducible apply State.bump_good

theorem levFollow_good (b : Fin 16) (m : Nat) (s : State) (hg : Good qs s) : Good qs (levFollow b m s) := by
  unfold levFollow
  repeat' first
    | with_reducible assumption
    | (refine fun _ => ?_)
    | lift_lets
    | intro x
    | split
    | with_reducible apply foldS_good
    | with_reducible apply levSwitch_good

/-- The switches are commanded through the interlocks, so the mask stays legal (R222). -/

theorem sendMask_good (b : Fin 16) (m : Nat) (s : State) (hg : Good qs s) : Good qs (sendMask b m s) := by
  unfold sendMask
  repeat' first
    | with_reducible assumption
    | (refine fun _ => ?_)
    | lift_lets
    | intro x
    | split
    | with_reducible apply updBank_good
    | with_reducible rfl

theorem setMask_good (b : Fin 16) (m : Nat) (s : State) (h : Good qs s) : Good qs (setMask b m s) := by
  have key : ∀ (s : State) (f : Bank → Bank), Good qs s → maskLegal (f s.banks[b]).mask → Good qs (s.updBank b f) := by
    intro s f h hm
    rw [good_iff] at *
    refine ⟨h.1, h.2.1, fun c => ?_, h.2.2.2⟩
    show maskLegal ((s.banks.set b (f s.banks[b])))[c].mask
    by_cases hc : (b : Nat) = c
    · have : b = c := Fin.ext hc
      subst this
      simpa using hm
    · simpa [Vector.getElem_set, hc] using h.2.2.1 c
  unfold setMask
  lift_lets
  intro x s1
  have h1 : Good qs s1 := by
    subst s1
    split
    · exact State.setFault_good _ _ _ _ h
    · exact h
  clear_value s1
  intro m' s2
  have h2 : Good qs s2 := closeDip_good _ _ h1
  clear_value s2
  intro s3
  have h3 : Good qs s3 := key s2 _ h2 (interlock_legal _ _)
  clear_value s3
  split
  · split
    · exact sendMask_good _ _ _ h1
    · exact h1
  · exact levFollow_good _ _ _ (sendMask_good _ _ _ h3)

theorem fastDecay_good (b : Fin 16) (s : State) (hg : Good qs s) : Good qs (fastDecay b s) := by
  unfold fastDecay
  repeat' first
    | with_reducible assumption
    | (refine fun _ => ?_)
    | lift_lets
    | intro x
    | split
    | with_reducible apply sendMask_good
    | with_reducible apply setMask_good

theorem gateReached_good (b : Fin 16) (m : Nat) (s : State) (hg : Good qs s) : Good qs (gateReached b m s) := by
  unfold gateReached
  repeat' first
    | with_reducible assumption
    | (refine fun _ => ?_)
    | lift_lets
    | (intro x; clear_value x)
    | intro x
    | split
    | with_reducible apply updBank_good
    | with_reducible rfl

theorem gatesDue_good (b : Fin 16) (s : State) (hg : Good qs s) : Good qs (gatesDue b s) := by
  unfold gatesDue
  repeat' first
    | with_reducible assumption
    | (refine fun _ => ?_)
    | lift_lets
    | (intro x; refine sup (Good qs x) ?_ ?_; (on_goal 1 => subst x); (on_goal 2 => (intro _; clear_value x)))
    | (intro x; clear_value x)
    | intro x
    | split
    | with_reducible apply foldS_good
    | with_reducible apply gateReached_good
    | with_reducible apply updBank_good
    | with_reducible rfl

theorem gatesTick_good (s : State) (hg : Good qs s) : Good qs (gatesTick s) := by
  unfold gatesTick
  repeat' first
    | with_reducible assumption
    | (refine fun _ => ?_)
    | lift_lets
    | intro x
    | split
    | with_reducible apply foldS_good
    | with_reducible apply gatesDue_good

theorem stopShaper_good (b : Fin 16) (s : State) (hg : Good qs s) : Good qs (stopShaper b s) := by
  unfold stopShaper
  repeat' first
    | with_reducible assumption
    | (refine fun _ => ?_)
    | lift_lets
    | (intro x; refine sup (Good qs x) ?_ ?_; (on_goal 1 => subst x); (on_goal 2 => (intro _; clear_value x)))
    | intro x
    | split
    | with_reducible apply noteMicrocode_good
    | with_reducible apply State.updShp_good

theorem spillBank_good (b : Fin 16) (s : State) (hg : Good qs s) : Good qs (spillBank b s) := by
  unfold spillBank
  repeat' first
    | with_reducible assumption
    | (refine fun _ => ?_)
    | lift_lets
    | (intro x; refine sup (Good qs x) ?_ ?_; (on_goal 1 => subst x); (on_goal 2 => (intro _; clear_value x)))
    | (intro x; clear_value x)
    | intro x
    | split
    | with_reducible apply fastDecay_good
    | with_reducible apply stopShaper_good
    | with_reducible apply updBank_good
    | with_reducible rfl

theorem dropPromise_good (b : Fin 16) (s : State) (hg : Good qs s) : Good qs (dropPromise b s) := by
  unfold dropPromise
  repeat' first
    | with_reducible assumption
    | (refine fun _ => ?_)
    | lift_lets
    | intro x
    | split
    | with_reducible apply updBank_good
    | with_reducible rfl

theorem truncateBank_good (b : Fin 16) (s : State) (hg : Good qs s) : Good qs (truncateBank b s) := by
  unfold truncateBank
  repeat' first
    | with_reducible assumption
    | (refine fun _ => ?_)
    | lift_lets
    | (intro x; refine sup (Good qs x) ?_ ?_; (on_goal 1 => subst x); (on_goal 2 => (intro _; clear_value x)))
    | intro x
    | split
    | with_reducible apply dropPromise_good
    | with_reducible apply truncateWhere_good
    | with_reducible apply spillBank_good

theorem grantTo_good (b : Fin 16) (a : Act) (effectAt : Nat) (s : State) (hg : Good qs s) : Good qs (grantTo b a effectAt s) := by
  unfold grantTo
  repeat' first
    | with_reducible assumption
    | (refine fun _ => ?_)
    | lift_lets
    | (intro x; refine sup (Good qs x) ?_ ?_; (on_goal 1 => subst x); (on_goal 2 => (intro _; clear_value x)))
    | intro x
    | split
    | with_reducible apply updAct_good
    | with_reducible apply updBank_good
    | with_reducible rfl

theorem sluiceDrop_good (b : Fin 16) (a : Act) (s : State) (hg : Good qs s) : Good qs (sluiceDrop b a s) := by
  unfold sluiceDrop
  repeat' first
    | with_reducible assumption
    | (refine fun _ => ?_)
    | lift_lets
    | intro x
    | split
    | with_reducible apply dropAct_good
    | with_reducible apply State.bump_good
    | with_reducible apply State.raise_good

theorem contend_good (b : Fin 16) (a : Act) (s : State) (hg : Good qs s) : Good qs (contend b a s) := by
  unfold contend
  repeat' first
    | with_reducible assumption
    | (refine fun _ => ?_)
    | lift_lets
    | (intro x; refine sup (Good qs x) ?_ ?_; (on_goal 1 => subst x); (on_goal 2 => (intro _; clear_value x)))
    | (intro x; clear_value x)
    | intro x
    | split
    | with_reducible apply sluiceDrop_good
    | with_reducible apply contention_good
    | with_reducible apply updAct_good
    | with_reducible apply updBank_good
    | with_reducible rfl

theorem newCommand_good (b : Fin 16) (a : Act) (s : State) (hg : Good qs s) : Good qs (newCommand b a s) := by
  unfold newCommand
  repeat' first
    | with_reducible assumption
    | (refine fun _ => ?_)
    | lift_lets
    | (intro x; refine sup (Good qs x) ?_ ?_; (on_goal 1 => subst x); (on_goal 2 => (intro _; clear_value x)))
    | (intro x; clear_value x)
    | intro x
    | split
    | with_reducible apply sluiceDrop_good
    | with_reducible apply contention_good
    | with_reducible apply updAct_good
    | with_reducible apply updBank_good
    | with_reducible rfl

theorem restartWaits_good (b : Fin 16) (a : Act) (s : State) (hg : Good qs s) : Good qs (restartWaits b a s) := by
  unfold restartWaits
  repeat' first
    | with_reducible assumption
    | (refine fun _ => ?_)
    | lift_lets
    | (intro x; clear_value x)
    | intro x
    | split
    | with_reducible apply sluiceDrop_good
    | with_reducible apply contention_good
    | with_reducible apply updBank_good
    | with_reducible rfl

theorem restartsWait_good (b : Fin 16) (s : State) (hg : Good qs s) : Good qs (restartsWait b s) := by
  unfold restartsWait
  repeat' first
    | with_reducible assumption
    | (refine fun _ => ?_)
    | lift_lets
    | (intro x; clear_value x)
    | intro x
    | split
    | with_reducible apply foldS_good
    | with_reducible apply restartWaits_good
    | with_reducible apply updBank_good
    | with_reducible rfl

theorem bankCommandStep_good (b : Fin 16) (s : State) (hg : Good qs s) : Good qs (bankCommandStep b s) := by
  unfold bankCommandStep
  repeat' first
    | with_reducible assumption
    | (refine fun _ => ?_)
    | lift_lets
    | (intro x; clear_value x)
    | intro x
    | split
    | with_reducible apply sluiceDrop_good
    | with_reducible apply newCommand_good
    | with_reducible apply grantTo_good
    | with_reducible apply contend_good

theorem expireWaiting_good (b : Fin 16) (earliest : Act → Nat) (s : State) (hg : Good qs s) : Good qs (expireWaiting b earliest s) := by
  unfold expireWaiting
  repeat' first
    | with_reducible assumption
    | (refine fun _ => ?_)
    | lift_lets
    | (intro x; refine sup (Good qs x) ?_ ?_; (on_goal 1 => subst x); (on_goal 2 => (intro _; clear_value x)))
    | (intro x; clear_value x)
    | intro x
    | split
    | with_reducible apply foldS_good
    | with_reducible apply sluiceDrop_good
    | with_reducible apply contention_good
    | with_reducible apply updBank_good
    | with_reducible rfl

theorem dropLocked_good (b : Fin 16) (s : State) (hg : Good qs s) : Good qs (dropLocked b s) := by
  unfold dropLocked
  repeat' first
    | with_reducible assumption
    | (refine fun _ => ?_)
    | lift_lets
    | (intro x; refine sup (Good qs x) ?_ ?_; (on_goal 1 => subst x); (on_goal 2 => (intro _; clear_value x)))
    | (intro x; clear_value x)
    | intro x
    | split
    | with_reducible apply foldS_good
    | with_reducible apply sluiceDrop_good
    | with_reducible apply contention_good
    | with_reducible apply updBank_good
    | with_reducible rfl

theorem grantOldest_good (b : Fin 16) (s : State) (hg : Good qs s) : Good qs (grantOldest b s) := by
  unfold grantOldest
  repeat' first
    | with_reducible assumption
    | (refine fun _ => ?_)
    | lift_lets
    | (intro x; refine sup (Good qs x) ?_ ?_; (on_goal 1 => subst x); (on_goal 2 => (intro _; clear_value x)))
    | (intro x; clear_value x)
    | intro x
    | split
    | with_reducible apply updBank_good
    | with_reducible apply State.bump_good
    | with_reducible apply State.raise_good
    | with_reducible apply State.wr_good
    | with_reducible apply updAct_good
    | with_reducible apply contention_good
    | with_reducible apply grantTo_good
    | with_reducible apply hf
    | with_reducible rfl

theorem actUnlock_good (b : Fin 16) (s : State) (hg : Good qs s) : Good qs (actUnlock b s) := by
  unfold actUnlock
  repeat' first
    | with_reducible assumption
    | (refine fun _ => ?_)
    | lift_lets
    | (intro x; refine sup (Good qs x) ?_ ?_; (on_goal 1 => subst x); (on_goal 2 => (intro _; clear_value x)))
    | (intro x; clear_value x)
    | intro x
    | split
    | with_reducible apply State.setReg_good
    | with_reducible apply updBank_good
    | with_reducible apply hf
    | with_reducible rfl

theorem becomeFree_good (b : Fin 16) (s : State) (hg : Good qs s) : Good qs (becomeFree b s) := by
  unfold becomeFree
  repeat' first
    | with_reducible assumption
    | (refine fun _ => ?_)
    | lift_lets
    | (intro x; refine sup (Good qs x) ?_ ?_; (on_goal 1 => subst x); (on_goal 2 => (intro _; clear_value x)))
    | intro x
    | split
    | with_reducible apply grantOldest_good
    | with_reducible apply dropLocked_good
    | with_reducible apply expireWaiting_good
    | with_reducible apply actUnlock_good
    | with_reducible apply updBank_good
    | with_reducible rfl

theorem bankFreeStep_good (b : Fin 16) (s : State) (hg : Good qs s) : Good qs (bankFreeStep b s) := by
  unfold bankFreeStep
  repeat' first
    | with_reducible assumption
    | (refine fun _ => ?_)
    | lift_lets
    | intro x
    | split
    | with_reducible apply becomeFree_good

theorem deferLimitStep_good (b : Fin 16) (s : State) (hg : Good qs s) : Good qs (deferLimitStep b s) := by
  unfold deferLimitStep
  repeat' first
    | with_reducible assumption
    | (refine fun _ => ?_)
    | lift_lets
    | intro x
    | split
    | with_reducible apply expireWaiting_good

theorem bankUnlockStep_good (b : Fin 16) (v : Word) (s : State) (hg : Good qs s) : Good qs (bankUnlockStep b v s) := by
  unfold bankUnlockStep
  repeat' first
    | with_reducible assumption
    | (refine fun _ => ?_)
    | lift_lets
    | (intro x; refine sup (Good qs x) ?_ ?_; (on_goal 1 => subst x); (on_goal 2 => (intro _; clear_value x)))
    | (intro x; clear_value x)
    | intro x
    | split
    | with_reducible apply State.setReg_good
    | with_reducible apply actUnlock_good

theorem openLoadStep_good (b : Fin 16) (s : State) (hg : Good qs s) : Good qs (openLoadStep b s) := by
  unfold openLoadStep
  repeat' first
    | with_reducible assumption
    | (refine fun _ => ?_)
    | lift_lets
    | (intro x; refine sup (Good qs x) ?_ ?_; (on_goal 1 => subst x); (on_goal 2 => (intro _; clear_value x)))
    | (intro x; clear_value x)
    | intro x
    | split
    | with_reducible apply updBank_good
    | with_reducible apply State.setReg_good
    | with_reducible apply State.raise_good
    | with_reducible apply hf
    | with_reducible rfl

theorem tripBank_good (b : Fin 16) (s : State) (hg : Good qs s) : Good qs (tripBank b s) := by
  unfold tripBank
  repeat' first
    | with_reducible assumption
    | (refine fun _ => ?_)
    | lift_lets
    | intro x
    | split
    | with_reducible apply truncateBank_good
    | with_reducible apply fastDecay_good

theorem shortStep_good (b : Fin 16) (s : State) (hg : Good qs s) : Good qs (shortStep b s) := by
  unfold shortStep
  repeat' first
    | with_reducible assumption
    | (refine fun _ => ?_)
    | lift_lets
    | (intro x; refine sup (Good qs x) ?_ ?_; (on_goal 1 => subst x); (on_goal 2 => (intro _; clear_value x)))
    | (intro x; clear_value x)
    | intro x
    | split
    | with_reducible apply tripBank_good
    | with_reducible apply State.setReg_good
    | with_reducible apply State.raise_good
    | with_reducible apply updBank_good
    | with_reducible rfl

theorem overcurrentStep_good (b : Fin 16) (s : State) (hg : Good qs s) : Good qs (overcurrentStep b s) := by
  unfold overcurrentStep
  repeat' first
    | with_reducible assumption
    | (refine fun _ => ?_)
    | lift_lets
    | (intro x; refine sup (Good qs x) ?_ ?_; (on_goal 1 => subst x); (on_goal 2 => (intro _; clear_value x)))
    | (intro x; clear_value x)
    | intro x
    | split
    | with_reducible apply tripBank_good
    | with_reducible apply State.setFault_good
    | with_reducible apply updBank_good
    | with_reducible rfl

theorem clampMissStep_good (b : Fin 16) (s : State) (hg : Good qs s) : Good qs (clampMissStep b s) := by
  unfold clampMissStep
  repeat' first
    | with_reducible assumption
    | (refine fun _ => ?_)
    | lift_lets
    | (intro x; refine sup (Good qs x) ?_ ?_; (on_goal 1 => subst x); (on_goal 2 => (intro _; clear_value x)))
    | (intro x; clear_value x)
    | intro x
    | split
    | with_reducible apply State.setFault_good
    | with_reducible apply updBank_good
    | with_reducible rfl

theorem decayStuckStep_good (b : Fin 16) (s : State) (hg : Good qs s) : Good qs (decayStuckStep b s) := by
  unfold decayStuckStep
  repeat' first
    | with_reducible assumption
    | (refine fun _ => ?_)
    | lift_lets
    | (intro x; refine sup (Good qs x) ?_ ?_; (on_goal 1 => subst x); (on_goal 2 => (intro _; clear_value x)))
    | (intro x; clear_value x)
    | intro x
    | split
    | with_reducible apply State.setFault_good
    | with_reducible apply updBank_good
    | with_reducible rfl

theorem bootUvStep_good (b : Fin 16) (hs : Bool) (s : State) (hg : Good qs s) : Good qs (bootUvStep b hs s) := by
  unfold bootUvStep
  repeat' first
    | with_reducible assumption
    | (refine fun _ => ?_)
    | lift_lets
    | intro x
    | split
    | with_reducible apply updBank_good
    | with_reducible apply State.setFault_good
    | with_reducible apply hf
    | with_reducible rfl

theorem bootReleaseStep_good (b : Fin 16) (hs : Bool) (s : State) (hg : Good qs s) : Good qs (bootReleaseStep b hs s) := by
  unfold bootReleaseStep
  repeat' first
    | with_reducible assumption
    | (refine fun _ => ?_)
    | lift_lets
    | intro x
    | split
    | with_reducible apply updBank_good
    | with_reducible apply hf
    | with_reducible rfl

theorem boostSampleStep_good (b : Fin 16) (code : BitVec 10) (s : State) (hg : Good qs s) : Good qs (boostSampleStep b code s) := by
  unfold boostSampleStep
  repeat' first
    | with_reducible assumption
    | (refine fun _ => ?_)
    | lift_lets
    | (intro x; refine sup (Good qs x) ?_ ?_; (on_goal 1 => subst x); (on_goal 2 => (intro _; clear_value x)))
    | intro x
    | split
    | with_reducible apply State.wr_good
    | with_reducible apply State.setFault_good

theorem leveeDrop_good (b : Fin 16) (a : Act) (s : State) (hg : Good qs s) : Good qs (leveeDrop b a s) := by
  unfold leveeDrop
  repeat' first
    | with_reducible assumption
    | (refine fun _ => ?_)
    | lift_lets
    | (intro x; refine sup (Good qs x) ?_ ?_; (on_goal 1 => subst x); (on_goal 2 => (intro _; clear_value x)))
    | intro x
    | split
    | with_reducible apply State.bump_good
    | with_reducible apply dropAct_good
    | with_reducible apply State.raise_good

theorem leveeExhaustStep_good (b : Fin 16) (s : State) (hg : Good qs s) : Good qs (leveeExhaustStep b s) := by
  unfold leveeExhaustStep
  repeat' first
    | with_reducible assumption
    | (refine fun _ => ?_)
    | lift_lets
    | (intro x; refine sup (Good qs x) ?_ ?_; (on_goal 1 => subst x); (on_goal 2 => (intro _; clear_value x)))
    | intro x
    | split
    | with_reducible apply truncateBank_good
    | with_reducible apply State.bump_good
    | with_reducible apply State.raise_good

end Sys2Proof.Machine
end

