-- ==== Sys2Proof/Laws/SoundShaper.lean ====
section
/-! SUPPORT. Every state function of Machine/Shaper.lean keeps the invariant `Good` of Laws/Sound.lean. -/

namespace Sys2Proof.Machine

variable {qs : List Instr}

theorem actProfileShadows_good (b : Fin 16) (s : State) (hg : Good qs s) : Good qs (actProfileShadows b s) := by
  unfold actProfileShadows
  repeat' first
    | with_reducible assumption
    | (refine fun _ => ?_)
    | lift_lets
    | intro x
    | split
    | with_reducible apply State.actWhere_good

theorem startProfile_good (b : Fin 16) (ch : Fin 4) (slot pc : Nat) (restarted : Bool) (s : State) (hg : Good qs s) : Good qs (startProfile b ch slot pc restarted s) := by
  unfold startProfile
  repeat' first
    | with_reducible assumption
    | (refine fun _ => ?_)
    | lift_lets
    | (intro x; refine sup (Good qs x) ?_ ?_; (on_goal 1 => subst x); (on_goal 2 => (intro _; clear_value x)))
    | intro x
    | split
    | with_reducible apply actProfileShadows_good
    | with_reducible apply State.updShp_good

theorem profileStartStep_good (b : Fin 16) (s : State) (hg : Good qs s) : Good qs (profileStartStep b s) := by
  unfold profileStartStep
  repeat' first
    | with_reducible assumption
    | (refine fun _ => ?_)
    | lift_lets
    | intro x
    | split
    | with_reducible apply becomeFree_good
    | with_reducible apply restartsWait_good
    | with_reducible apply sluiceDrop_good
    | with_reducible apply startProfile_good
    | with_reducible apply leveeDrop_good

theorem ucUncorrectable_good (b : Fin 16) (s : State) (hg : Good qs s) : Good qs (ucUncorrectable b s) := by
  unfold ucUncorrectable
  repeat' first
    | with_reducible assumption
    | (refine fun _ => ?_)
    | lift_lets
    | (intro x; clear_value x)
    | intro x
    | split
    | with_reducible apply shpFlag_good
    | with_reducible apply truncateBank_good
    | with_reducible apply noteMicrocode_good

theorem ucExec_good (b : Fin 16) (op : Nat) (f : Nat → State → State) (s : State) (hf : ∀ x s, Good qs s → Good qs (f x s)) (hg : Good qs s) : Good qs (ucExec b op f s) := by
  unfold ucExec
  repeat' first
    | with_reducible assumption
    | (refine fun _ => ?_)
    | lift_lets
    | (intro x; refine sup (Good qs x) ?_ ?_; (on_goal 1 => subst x); (on_goal 2 => (intro _; clear_value x)))
    | intro x
    | split
    | with_reducible apply ucUncorrectable_good
    | with_reducible apply State.bump_good
    | with_reducible apply hf

theorem ucNext_good (b : Fin 16) (n : Nat) (s : State) (hg : Good qs s) : Good qs (ucNext b n s) := by
  unfold ucNext
  repeat' first
    | with_reducible assumption
    | (refine fun _ => ?_)
    | lift_lets
    | intro x
    | split
    | with_reducible apply State.updShp_good

theorem ucGoto_good (b : Fin 16) (a : Nat) (s : State) (hg : Good qs s) : Good qs (ucGoto b a s) := by
  unfold ucGoto
  repeat' first
    | with_reducible assumption
    | (refine fun _ => ?_)
    | lift_lets
    | intro x
    | split
    | with_reducible apply State.updShp_good

theorem ucWaitFor_good (b : Fin 16) (w : ShpWait) (s : State) (hg : Good qs s) : Good qs (ucWaitFor b w s) := by
  unfold ucWaitFor
  repeat' first
    | with_reducible assumption
    | (refine fun _ => ?_)
    | lift_lets
    | intro x
    | split
    | with_reducible apply State.updShp_good

theorem ucLevel_good (b : Fin 16) (rise : Bool) (lv n : Nat) (s : State) (hg : Good qs s) : Good qs (ucLevel b rise lv n s) := by
  unfold ucLevel
  repeat' first
    | with_reducible assumption
    | (refine fun _ => ?_)
    | lift_lets
    | (intro x; refine sup (Good qs x) ?_ ?_; (on_goal 1 => subst x); (on_goal 2 => (intro _; clear_value x)))
    | intro x
    | split
    | with_reducible apply State.updShp_good
    | with_reducible apply ucNext_good
    | with_reducible apply ucWaitFor_good

theorem noteDelay_good (b : Fin 16) (ch : Fin 4) (d : Nat) (s : State) (hg : Good qs s) : Good qs (noteDelay b ch d s) := by
  unfold noteDelay
  repeat' first
    | with_reducible assumption
    | (refine fun _ => ?_)
    | lift_lets
    | intro x
    | split
    | with_reducible apply State.wr_good
    | with_reducible apply State.bump_good

theorem filterDelay_good (b : Fin 16) (s : State) (hg : Good qs s) : Good qs (filterDelay b s) := by
  unfold filterDelay
  repeat' first
    | with_reducible assumption
    | (refine fun _ => ?_)
    | lift_lets
    | (intro x; clear_value x)
    | intro x
    | split
    | with_reducible apply State.wr_good

theorem ucEnd_good (b : Fin 16) (_w : Nat) (s : State) (hg : Good qs s) : Good qs (ucEnd b _w s) := by
  unfold ucEnd
  repeat' first
    | with_reducible assumption
    | (refine fun _ => ?_)
    | lift_lets
    | (intro x; refine sup (Good qs x) ?_ ?_; (on_goal 1 => subst x); (on_goal 2 => (intro _; clear_value x)))
    | intro x
    | split
    | with_reducible apply fastDecay_good
    | with_reducible apply closeDip_good
    | with_reducible apply State.updShp_good

theorem ucSetsw_good (b : Fin 16) (w : Nat) (s : State) (hg : Good qs s) : Good qs (ucSetsw b w s) := by
  unfold ucSetsw
  repeat' first
    | with_reducible assumption
    | (refine fun _ => ?_)
    | lift_lets
    | (intro x; clear_value x)
    | intro x
    | split
    | with_reducible apply ucNext_good
    | with_reducible apply setMask_good

theorem ucWaitt_good (b : Fin 16) (w : Nat) (s : State) (hg : Good qs s) : Good qs (ucWaitt b w s) := by
  unfold ucWaitt
  repeat' first
    | with_reducible assumption
    | (refine fun _ => ?_)
    | lift_lets
    | intro x
    | split
    | with_reducible apply ucNext_good
    | with_reducible apply ucWaitFor_good

theorem ucWaiti_good (b : Fin 16) (w : Nat) (s : State) (hg : Good qs s) : Good qs (ucWaiti b w s) := by
  unfold ucWaiti
  repeat' first
    | with_reducible assumption
    | (refine fun _ => ?_)
    | lift_lets
    | intro x
    | split
    | with_reducible apply ucLevel_good

theorem ucChop_good (b : Fin 16) (w : Nat) (s : State) (hg : Good qs s) : Good qs (ucChop b w s) := by
  unfold ucChop
  repeat' first
    | with_reducible assumption
    | (refine fun _ => ?_)
    | lift_lets
    | (intro x; refine sup (Good qs x) ?_ ?_; (on_goal 1 => subst x); (on_goal 2 => (intro _; clear_value x)))
    | (intro x; clear_value x)
    | intro x
    | split
    | with_reducible apply ucNext_good
    | with_reducible apply State.updShp_good
    | with_reducible apply ucWaitFor_good
    | with_reducible apply setMask_good

theorem ucDipw_good (b : Fin 16) (w : Nat) (s : State) (hg : Good qs s) : Good qs (ucDipw b w s) := by
  unfold ucDipw
  repeat' first
    | with_reducible assumption
    | (refine fun _ => ?_)
    | lift_lets
    | (intro x; refine sup (Good qs x) ?_ ?_; (on_goal 1 => subst x); (on_goal 2 => (intro _; clear_value x)))
    | (intro x; clear_value x)
    | intro x
    | split
    | with_reducible apply State.updShp_good
    | with_reducible apply ucWaitFor_good
    | with_reducible apply ucNext_good

theorem ucFastoff_good (b : Fin 16) (w : Nat) (s : State) (hg : Good qs s) : Good qs (ucFastoff b w s) := by
  unfold ucFastoff
  repeat' first
    | with_reducible assumption
    | (refine fun _ => ?_)
    | lift_lets
    | intro x
    | split
    | with_reducible apply ucLevel_good
    | with_reducible apply fastDecay_good

theorem ucJmp_good (b : Fin 16) (w : Nat) (s : State) (hg : Good qs s) : Good qs (ucJmp b w s) := by
  unfold ucJmp
  repeat' first
    | with_reducible assumption
    | (refine fun _ => ?_)
    | lift_lets
    | intro x
    | split
    | with_reducible apply ucGoto_good

theorem ucJif_good (b : Fin 16) (w : Nat) (s : State) (hg : Good qs s) : Good qs (ucJif b w s) := by
  unfold ucJif
  repeat' first
    | with_reducible assumption
    | (refine fun _ => ?_)
    | lift_lets
    | (intro x; clear_value x)
    | intro x
    | split
    | with_reducible apply ucGoto_good
    | with_reducible apply ucNext_good

theorem ucMark_good (b : Fin 16) (w : Nat) (s : State) (hg : Good qs s) : Good qs (ucMark b w s) := by
  unfold ucMark
  repeat' first
    | with_reducible assumption
    | (refine fun _ => ?_)
    | lift_lets
    | (intro x; refine sup (Good qs x) ?_ ?_; (on_goal 1 => subst x); (on_goal 2 => (intro _; clear_value x)))
    | intro x
    | split
    | with_reducible apply State.setReg_good
    | with_reducible apply ucNext_good
    | with_reducible apply shpFlag_good

theorem ucWaitEnd_good (b : Fin 16) (s : State) (hg : Good qs s) : Good qs (ucWaitEnd b s) := by
  unfold ucWaitEnd
  repeat' first
    | with_reducible assumption
    | (refine fun _ => ?_)
    | lift_lets
    | (intro x; refine sup (Good qs x) ?_ ?_; (on_goal 1 => subst x); (on_goal 2 => (intro _; clear_value x)))
    | (intro x; clear_value x)
    | intro x
    | split
    | with_reducible apply ucNext_good
    | with_reducible apply State.updShp_good

theorem chopSample_good (b : Fin 16) (s : State) (hg : Good qs s) : Good qs (chopSample b s) := by
  unfold chopSample
  repeat' first
    | with_reducible assumption
    | (refine fun _ => ?_)
    | lift_lets
    | (intro x; clear_value x)
    | intro x
    | split
    | with_reducible apply setMask_good
    | with_reducible apply State.updShp_good
    | (dsimp only; split)

theorem dipSample_good (b : Fin 16) (code : Nat) (s : State) (hg : Good qs s) : Good qs (dipSample b code s) := by
  unfold dipSample
  repeat' first
    | with_reducible assumption
    | (refine fun _ => ?_)
    | lift_lets
    | (intro x; clear_value x)
    | intro x
    | split
    | with_reducible apply State.updShp_good

theorem dipDetectStep_good (b : Fin 16) (s : State) (hg : Good qs s) : Good qs (dipDetectStep b s) := by
  unfold dipDetectStep
  repeat' first
    | with_reducible assumption
    | (refine fun _ => ?_)
    | lift_lets
    | (intro x; refine sup (Good qs x) ?_ ?_; (on_goal 1 => subst x); (on_goal 2 => (intro _; clear_value x)))
    | (intro x; clear_value x)
    | intro x
    | split
    | with_reducible apply noteDelay_good
    | with_reducible apply clearDip_good
    | with_reducible apply State.updShp_good

theorem dipRise_good (b : Fin 16) (s : State) (hg : Good qs s) : Good qs (dipRise b s) := by
  unfold dipRise
  repeat' first
    | with_reducible assumption
    | (refine fun _ => ?_)
    | lift_lets
    | (intro x; clear_value x)
    | intro x
    | split
    | with_reducible apply State.updShp_good

theorem dipCloseStep_good (b : Fin 16) (s : State) (hg : Good qs s) : Good qs (dipCloseStep b s) := by
  unfold dipCloseStep
  repeat' first
    | with_reducible assumption
    | (refine fun _ => ?_)
    | lift_lets
    | intro x
    | split
    | with_reducible apply closeDip_good

theorem senseSampleStep_good (b : Fin 16) (uv : Word) (clamp : Bool) (s : State) (hg : Good qs s) : Good qs (senseSampleStep b uv clamp s) := by
  unfold senseSampleStep
  repeat' first
    | with_reducible assumption
    | (refine fun _ => ?_)
    | lift_lets
    | (intro x; refine sup (Good qs x) ?_ ?_; (on_goal 1 => subst x); (on_goal 2 => (intro _; clear_value x)))
    | (intro x; clear_value x)
    | intro x
    | split
    | with_reducible apply State.wr_good
    | with_reducible apply chopSample_good
    | with_reducible apply dipDetectStep_good
    | with_reducible apply dipSample_good
    | with_reducible apply dipRise_good
    | with_reducible apply updBank_good
    | with_reducible rfl

theorem requestEnd_good (b : Fin 16) (a : Act) (s : State) (hg : Good qs s) : Good qs (requestEnd b a s) := by
  unfold requestEnd
  repeat' first
    | with_reducible assumption
    | (refine fun _ => ?_)
    | lift_lets
    | (intro x; refine sup (Good qs x) ?_ ?_; (on_goal 1 => subst x); (on_goal 2 => (intro _; clear_value x)))
    | intro x
    | split
    | with_reducible apply updAct_good
    | with_reducible apply State.updShp_good

theorem endRequestStep_good (b : Fin 16) (s : State) (hg : Good qs s) : Good qs (endRequestStep b s) := by
  unfold endRequestStep
  repeat' first
    | with_reducible assumption
    | (refine fun _ => ?_)
    | lift_lets
    | intro x
    | split
    | with_reducible apply requestEnd_good

theorem maxDurationStep_good (idx : Fin 16384) (s : State) (h : Good qs s) : Good qs (maxDurationStep idx s) := by
  unfold maxDurationStep
  split
  · dsimp only
    split
    · exact requestEnd_good _ _ _ (anomalyAct_good _ _ _ h)
    · exact h
  · exact h

theorem normalEndStep_good (b : Fin 16) (s : State) (hg : Good qs s) : Good qs (normalEndStep b s) := by
  unfold normalEndStep
  repeat' first
    | with_reducible assumption
    | (refine fun _ => ?_)
    | lift_lets
    | (intro x; refine sup (Good qs x) ?_ ?_; (on_goal 1 => subst x); (on_goal 2 => (intro _; clear_value x)))
    | intro x
    | split
    | with_reducible apply filterDelay_good
    | with_reducible apply applyAct_good
    | with_reducible apply State.updShp_good
    | with_reducible apply restartsWait_good
    | with_reducible apply updBank_good
    | with_reducible rfl
    | (dsimp only; split)

theorem restartEnds_good (b : Fin 16) (a : Act) (s : State) (hg : Good qs s) : Good qs (restartEnds b a s) := by
  unfold restartEnds
  repeat' first
    | with_reducible assumption
    | (refine fun _ => ?_)
    | lift_lets
    | (intro x; refine sup (Good qs x) ?_ ?_; (on_goal 1 => subst x); (on_goal 2 => (intro _; clear_value x)))
    | intro x
    | split
    | with_reducible apply anomalyAct_good
    | with_reducible apply clearDip_good
    | with_reducible apply applyAct_good

theorem restartRuns_good (b : Fin 16) (n : Act) (inst : Nat) (s : State) (hg : Good qs s) : Good qs (restartRuns b n inst s) := by
  unfold restartRuns
  repeat' first
    | with_reducible assumption
    | (refine fun _ => ?_)
    | lift_lets
    | (intro x; refine sup (Good qs x) ?_ ?_; (on_goal 1 => subst x); (on_goal 2 => (intro _; clear_value x)))
    | intro x
    | split
    | with_reducible apply updAct_good
    | with_reducible apply shpFlag_good
    | with_reducible apply State.bump_good
    | with_reducible apply startProfile_good
    | with_reducible apply updBank_good
    | with_reducible rfl

theorem profileRestartStep_good (b : Fin 16) (s : State) (hg : Good qs s) : Good qs (profileRestartStep b s) := by
  unfold profileRestartStep
  repeat' first
    | with_reducible assumption
    | (refine fun _ => ?_)
    | lift_lets
    | intro x
    | split
    | with_reducible apply restartRuns_good
    | with_reducible apply restartEnds_good
    | with_reducible apply leveeDrop_good
    | with_reducible apply updBank_good
    | with_reducible rfl

theorem tailOverrunStep_good (b : Fin 16) (s : State) (hg : Good qs s) : Good qs (tailOverrunStep b s) := by
  unfold tailOverrunStep
  repeat' first
    | with_reducible assumption
    | (refine fun _ => ?_)
    | lift_lets
    | intro x
    | split
    | with_reducible apply shpFlag_good
    | with_reducible apply truncateBank_good
    | with_reducible apply State.bump_good

theorem snapshotTrims_good (trev : Nat) (s : State) (hg : Good qs s) : Good qs (snapshotTrims trev s) := by
  unfold snapshotTrims
  repeat' first
    | with_reducible assumption
    | (refine fun _ => ?_)
    | lift_lets
    | (intro x; refine sup (Good qs x) ?_ ?_; (on_goal 1 => subst x); (on_goal 2 => (intro _; clear_value x)))
    | (intro x; clear_value x)
    | intro x
    | split
    | with_reducible apply foldS_good
    | with_reducible apply State.wr_good
    | with_reducible apply hf
    | (refine good_of_parts ?_; dsimp only; refine parts_of_good ?_; with_reducible assumption)

theorem clearTrims_good (s : State) (hg : Good qs s) : Good qs (clearTrims s) := by
  unfold clearTrims
  repeat' first
    | with_reducible assumption
    | (refine fun _ => ?_)
    | lift_lets
    | (intro x; refine sup (Good qs x) ?_ ?_; (on_goal 1 => subst x); (on_goal 2 => (intro _; clear_value x)))
    | intro x
    | split
    | with_reducible apply foldS_good
    | with_reducible apply State.wr_good
    | with_reducible apply hf
    | (refine good_of_parts ?_; dsimp only; refine parts_of_good ?_; with_reducible assumption)

theorem clearDelays_good (s : State) (hg : Good qs s) : Good qs (clearDelays s) := by
  unfold clearDelays
  repeat' first
    | with_reducible assumption
    | (refine fun _ => ?_)
    | lift_lets
    | intro x
    | split
    | with_reducible apply foldS_good
    | with_reducible apply clearTrims_good
    | with_reducible apply State.setReg_good

theorem swapTrims_good (s : State) (hg : Good qs s) : Good qs (swapTrims s) := by
  unfold swapTrims
  repeat' first
    | with_reducible assumption
    | (refine fun _ => ?_)
    | lift_lets
    | (intro x; refine sup (Good qs x) ?_ ?_; (on_goal 1 => subst x); (on_goal 2 => (intro _; clear_value x)))
    | (intro x; clear_value x)
    | intro x
    | split
    | with_reducible apply foldS_good
    | with_reducible apply State.wr_good
    | with_reducible apply State.bumpWrap_good
    | with_reducible apply State.bump_good
    | with_reducible apply State.err_good
    | with_reducible apply hf
    | (refine good_of_parts ?_; dsimp only; refine parts_of_good ?_; with_reducible assumption)

end Sys2Proof.Machine
end

