-- ==== Sys2Proof/Laws/SoundTimers.lean ====
section
/-! SUPPORT. Every state function of Machine/Timers.lean keeps the invariant `Good` of Laws/Sound.lean. -/

namespace Sys2Proof.Machine

variable {qs : List Instr}

theorem tmrFlag_good (n : Fin 16) (f : Fld) (s : State) (hg : Good qs s) : Good qs (tmrFlag n f s) := by
  unfold tmrFlag
  repeat' first
    | with_reducible assumption
    | (refine fun _ => ?_)
    | lift_lets
    | intro x
    | split
    | with_reducible apply State.wr_good
    | with_reducible apply State.raiseIf_good

theorem tioAct_good (n : Fin 16) (op : Nat) (s : State) (hg : Good qs s) : Good qs (tioAct n op s) := by
  unfold tioAct
  repeat' first
    | with_reducible assumption
    | (refine fun _ => ?_)
    | lift_lets
    | (intro x; refine sup (Good qs x) ?_ ?_; (on_goal 1 => subst x); (on_goal 2 => (intro _; clear_value x)))
    | (intro x; clear_value x)
    | intro x
    | split
    | with_reducible apply State.updTmr_good
    | with_reducible apply State.fire_good

theorem spillTio_good (s : State) (hg : Good qs s) : Good qs (spillTio s) := by
  unfold spillTio
  repeat' first
    | with_reducible assumption
    | (refine fun _ => ?_)
    | lift_lets
    | (intro x; refine sup (Good qs x) ?_ ?_; (on_goal 1 => subst x); (on_goal 2 => (intro _; clear_value x)))
    | (intro x; clear_value x)
    | intro x
    | split
    | with_reducible apply foldS_good
    | with_reducible apply State.updTmr_good
    | with_reducible apply State.fire_good

theorem releaseTio_good (s : State) (hg : Good qs s) : Good qs (releaseTio s) := by
  unfold releaseTio
  repeat' first
    | with_reducible assumption
    | (refine fun _ => ?_)
    | lift_lets
    | intro x
    | split
    | with_reducible apply foldS_good
    | with_reducible apply State.updTmr_good

theorem matchEvent_good (n : Fin 16) (s : State) (hg : Good qs s) : Good qs (matchEvent n s) := by
  unfold matchEvent
  repeat' first
    | with_reducible assumption
    | (refine fun _ => ?_)
    | lift_lets
    | (intro x; refine sup (Good qs x) ?_ ?_; (on_goal 1 => subst x); (on_goal 2 => (intro _; clear_value x)))
    | intro x
    | split
    | with_reducible apply tmrFlag_good
    | with_reducible apply State.fire_good
    | with_reducible apply State.fireConv_good
    | with_reducible apply tioAct_good

theorem zeroEvent_good (n : Fin 16) (s : State) (hg : Good qs s) : Good qs (zeroEvent n s) := by
  unfold zeroEvent
  repeat' first
    | with_reducible assumption
    | (refine fun _ => ?_)
    | lift_lets
    | (intro x; refine sup (Good qs x) ?_ ?_; (on_goal 1 => subst x); (on_goal 2 => (intro _; clear_value x)))
    | intro x
    | split
    | with_reducible apply State.updTmr_good
    | with_reducible apply tmrFlag_good
    | with_reducible apply State.fire_good
    | with_reducible apply State.fireConv_good
    | with_reducible apply tioAct_good

theorem cmpTake_good (n : Fin 16) (c : CmpPend) (s : State) (hg : Good qs s) : Good qs (cmpTake n c s) := by
  unfold cmpTake
  repeat' first
    | with_reducible assumption
    | (refine fun _ => ?_)
    | lift_lets
    | (intro x; refine sup (Good qs x) ?_ ?_; (on_goal 1 => subst x); (on_goal 2 => (intro _; clear_value x)))
    | intro x
    | split
    | with_reducible apply State.updTmr_good
    | with_reducible apply matchEvent_good
    | with_reducible apply tmrFlag_good

theorem cmpActivate_good (n : Fin 16) (s : State) (hg : Good qs s) : Good qs (cmpActivate n s) := by
  unfold cmpActivate
  repeat' first
    | with_reducible assumption
    | (refine fun _ => ?_)
    | lift_lets
    | (intro x; refine sup (Good qs x) ?_ ?_; (on_goal 1 => subst x); (on_goal 2 => (intro _; clear_value x)))
    | (intro x; clear_value x)
    | intro x
    | split
    | with_reducible apply foldS_good
    | with_reducible apply State.updTmr_good
    | with_reducible apply cmpTake_good

theorem stopTimer_good (n : Fin 16) (s : State) (hg : Good qs s) : Good qs (stopTimer n s) := by
  unfold stopTimer
  repeat' first
    | with_reducible assumption
    | (refine fun _ => ?_)
    | lift_lets
    | (intro x; clear_value x)
    | intro x
    | split
    | with_reducible apply State.wr_good
    | (refine good_of_parts ?_; dsimp only; refine parts_of_good ?_; with_reducible assumption)

theorem gateChange_good (n : Fin 16) (s : State) (hg : Good qs s) : Good qs (gateChange n s) := by
  unfold gateChange
  repeat' first
    | with_reducible assumption
    | (refine fun _ => ?_)
    | lift_lets
    | (intro x; clear_value x)
    | intro x
    | split
    | with_reducible apply State.updTmr_good

theorem gateActs_good (n : Fin 16) (s : State) (hg : Good qs s) : Good qs (gateActs n s) := by
  unfold gateActs
  repeat' first
    | with_reducible assumption
    | (refine fun _ => ?_)
    | lift_lets
    | (intro x; refine sup (Good qs x) ?_ ?_; (on_goal 1 => subst x); (on_goal 2 => (intro _; clear_value x)))
    | intro x
    | split
    | with_reducible apply State.updTmr_good
    | with_reducible apply gateChange_good

theorem tioMoved_good (n : Fin 16) (before : Bool) (s : State) (hg : Good qs s) : Good qs (tioMoved n before s) := by
  unfold tioMoved
  repeat' first
    | with_reducible assumption
    | (refine fun _ => ?_)
    | lift_lets
    | intro x
    | split
    | with_reducible apply State.fire_good

theorem stepCount_good (n : Fin 16) (s : State) (hg : Good qs s) : Good qs (stepCount n s) := by
  unfold stepCount
  repeat' first
    | with_reducible assumption
    | (refine fun _ => ?_)
    | lift_lets
    | (intro x; refine sup (Good qs x) ?_ ?_; (on_goal 1 => subst x); (on_goal 2 => (intro _; clear_value x)))
    | (intro x; clear_value x)
    | intro x
    | split
    | with_reducible apply cmpActivate_good
    | with_reducible apply stopTimer_good
    | with_reducible apply State.updTmr_good
    | with_reducible apply matchEvent_good
    | with_reducible apply zeroEvent_good

theorem takeStep_good (n : Fin 16) (s : State) (hg : Good qs s) : Good qs (takeStep n s) := by
  unfold takeStep
  repeat' first
    | with_reducible assumption
    | (refine fun _ => ?_)
    | lift_lets
    | (intro x; refine sup (Good qs x) ?_ ?_; (on_goal 1 => subst x); (on_goal 2 => (intro _; clear_value x)))
    | (intro x; clear_value x)
    | intro x
    | split
    | with_reducible apply tioMoved_good
    | with_reducible apply State.actWhere_good
    | with_reducible apply stepCount_good
    | with_reducible apply gateActs_good

theorem countStepStep_good (n : Fin 16) (s : State) (hg : Good qs s) : Good qs (countStepStep n s) := by
  unfold countStepStep
  repeat' first
    | with_reducible assumption
    | (refine fun _ => ?_)
    | lift_lets
    | (intro x; clear_value x)
    | intro x
    | split
    | with_reducible apply takeStep_good

theorem startTimer_good (n : Fin 16) (s : State) (hg : Good qs s) : Good qs (startTimer n s) := by
  unfold startTimer
  repeat' first
    | with_reducible assumption
    | (refine fun _ => ?_)
    | lift_lets
    | (intro x; refine sup (Good qs x) ?_ ?_; (on_goal 1 => subst x); (on_goal 2 => (intro _; clear_value x)))
    | (intro x; clear_value x)
    | intro x
    | split
    | with_reducible apply State.wr_good
    | with_reducible apply State.updTmr_good

theorem tmrRunStep_good (v : Word) (s : State) (hg : Good qs s) : Good qs (tmrRunStep v s) := by
  unfold tmrRunStep
  repeat' first
    | with_reducible assumption
    | (refine fun _ => ?_)
    | lift_lets
    | (intro x; clear_value x)
    | intro x
    | split
    | with_reducible apply foldS_good
    | with_reducible apply startTimer_good
    | with_reducible apply stopTimer_good

theorem cmpWriteStep_good (n : Fin 16) (v : Word) (s : State) (hg : Good qs s) : Good qs (cmpWriteStep n v s) := by
  unfold cmpWriteStep
  repeat' first
    | with_reducible assumption
    | (refine fun _ => ?_)
    | lift_lets
    | (intro x; refine sup (Good qs x) ?_ ?_; (on_goal 1 => subst x); (on_goal 2 => (intro _; clear_value x)))
    | intro x
    | split
    | with_reducible apply State.wr_good
    | with_reducible apply State.updTmr_good

theorem noteTio_good (src : Nat) (level : Bool) (s : State) (hg : Good qs s) : Good qs (noteTio src level s) := by
  unfold noteTio
  repeat' first
    | with_reducible assumption
    | (refine fun _ => ?_)
    | lift_lets
    | (intro x; clear_value x)
    | intro x
    | split
    | with_reducible apply hf
    | (refine good_of_parts ?_; dsimp only; refine parts_of_good ?_; with_reducible assumption)

theorem timerTriggerStep_good (n : Fin 16) (level : Bool) (s : State) (hg : Good qs s) : Good qs (timerTriggerStep n level s) := by
  unfold timerTriggerStep
  repeat' first
    | with_reducible assumption
    | (refine fun _ => ?_)
    | lift_lets
    | (intro x; refine sup (Good qs x) ?_ ?_; (on_goal 1 => subst x); (on_goal 2 => (intro _; clear_value x)))
    | (intro x; clear_value x)
    | intro x
    | split
    | with_reducible apply noteTio_good
    | with_reducible apply State.takeTrig_good
    | with_reducible apply State.updTmr_good
    | with_reducible apply gateChange_good
    | with_reducible apply takeStep_good
    | with_reducible apply startTimer_good

theorem tmrSoftStep_good (v : Word) (s : State) (hg : Good qs s) : Good qs (tmrSoftStep v s) := by
  unfold tmrSoftStep
  repeat' first
    | with_reducible assumption
    | (refine fun _ => ?_)
    | lift_lets
    | (intro x; refine sup (Good qs x) ?_ ?_; (on_goal 1 => subst x); (on_goal 2 => (intro _; clear_value x)))
    | intro x
    | split
    | with_reducible apply foldS_good
    | with_reducible apply State.sendTrig_good

theorem capKeep_good (s : State) (hg : Good qs s) : Good qs (capKeep s) := by
  unfold capKeep
  repeat' first
    | with_reducible assumption
    | (refine fun _ => ?_)
    | lift_lets
    | intro x
    | split
    | with_reducible apply updDev_good
    | with_reducible rfl

theorem timerCaptureStep_good (n : Fin 16) (level : Bool) (s : State) (hg : Good qs s) : Good qs (timerCaptureStep n level s) := by
  unfold timerCaptureStep
  repeat' first
    | with_reducible assumption
    | (refine fun _ => ?_)
    | lift_lets
    | (intro x; refine sup (Good qs x) ?_ ?_; (on_goal 1 => subst x); (on_goal 2 => (intro _; clear_value x)))
    | (intro x; clear_value x)
    | intro x
    | split
    | with_reducible apply noteTio_good
    | with_reducible apply State.takeTrig_good
    | with_reducible apply tmrFlag_good
    | with_reducible apply State.bump_good
    | with_reducible apply State.updTmr_good

theorem capPtReadStep_good (n : Fin 16) (s : State) (hg : Good qs s) : Good qs (capPtReadStep n s) := by
  unfold capPtReadStep
  repeat' first
    | with_reducible assumption
    | (refine fun _ => ?_)
    | lift_lets
    | (intro x; refine sup (Good qs x) ?_ ?_; (on_goal 1 => subst x); (on_goal 2 => (intro _; clear_value x)))
    | intro x
    | split
    | with_reducible apply State.setReg_good
    | with_reducible apply State.respond_good
    | with_reducible apply State.updTmr_good

end Sys2Proof.Machine
end

