-- ==== Sys2Proof/Laws/SoundSpillway.lean ====
section
/-! SUPPORT. Every state function of Machine/Spillway.lean keeps the invariant `Good` of Laws/Sound.lean. -/

namespace Sys2Proof.Machine

variable {qs : List Instr}

theorem wheelModeActs_good (w : Fin 4) (s : State) (hg : Good qs s) : Good qs (wheelModeActs w s) := by
  unfold wheelModeActs
  repeat' first
    | with_reducible assumption
    | (refine fun _ => ?_)
    | lift_lets
    | (intro x; refine sup (Good qs x) ?_ ?_; (on_goal 1 => subst x); (on_goal 2 => (intro _; clear_value x)))
    | intro x
    | split
    | with_reducible apply foldS_good
    | with_reducible apply State.updTrk_good
    | with_reducible apply State.wr_good
    | with_reducible apply State.updWheel_good

theorem dcfgActs_good (b : Fin 16) (k : Fin 4) (old new : Word) (s : State) (hg : Good qs s) : Good qs (dcfgActs b k old new s) := by
  unfold dcfgActs
  repeat' first
    | with_reducible assumption
    | (refine fun _ => ?_)
    | lift_lets
    | (intro x; refine sup (Good qs x) ?_ ?_; (on_goal 1 => subst x); (on_goal 2 => (intro _; clear_value x)))
    | (intro x; clear_value x)
    | intro x
    | split
    | with_reducible apply State.setReg_good
    | with_reducible apply State.wr_good
    | with_reducible apply hf
    | (refine good_of_parts ?_; dsimp only; refine parts_of_good ?_; with_reducible assumption)

theorem commitEffect_good (a : Nat) (old new : Word) (s : State) (hg : Good qs s) : Good qs (commitEffect a old new s) := by
  have trips := foldS_good (l := allGens) (f := judgeTrip) (fun n s h => judgeTrip_good n s h) hg
  unfold commitEffect
  refine good_ite ?_ (good_ite (good_ite hg (State.wr_good _ _ _ _ hg)) (good_ite ?_ (good_ite
    (keepWheelWord_good _ _ _ _ hg) (good_ite ?_ (good_ite trips (good_ite (good_ite (State.updTrk_good _ _ _ hg) hg) (good_ite
    (gateActs_good _ _ (tioMoved_good _ _ _ hg)) (good_ite (settleSafe_good _ _ hg) hg))))))))
  · exact good_ite hg (leveeRestart_good _ hg)
  · exact good_ite hg (wheelModeActs_good _ _ hg)
  · split
    · exact dcfgActs_good _ _ _ _ _ hg
    · exact hg

theorem actCommitted_good (p : CommitPend → Bool) (s : State) (hg : Good qs s) : Good qs (actCommitted p s) := by
  unfold actCommitted
  repeat' first
    | with_reducible assumption
    | (refine fun _ => ?_)
    | lift_lets
    | (intro x; refine sup (Good qs x) ?_ ?_; (on_goal 1 => subst x); (on_goal 2 => (intro _; clear_value x)))
    | (intro x; clear_value x)
    | intro x
    | split
    | with_reducible apply foldS_good
    | with_reducible apply State.actWhere_good
    | with_reducible apply commitEffect_good
    | with_reducible apply catchRetest_good

theorem setGate_good (m : Nat) (v : Bool) (s : State) (hg : Good qs s) : Good qs (setGate m v s) := by
  unfold setGate
  repeat' first
    | with_reducible assumption
    | (refine fun _ => ?_)
    | lift_lets
    | intro x
    | split
    | with_reducible apply State.fire_good
    | with_reducible apply hf
    | (refine good_of_parts ?_; dsimp only; refine parts_of_good ?_; with_reducible assumption)

theorem windowAct_good (m : Nat) (v : Bool) (s : State) (hg : Good qs s) : Good qs (windowAct m v s) := by
  unfold windowAct
  repeat' first
    | with_reducible assumption
    | (refine fun _ => ?_)
    | lift_lets
    | intro x
    | split
    | with_reducible apply setGate_good
    | (refine good_of_parts ?_; dsimp only; refine parts_of_good ?_; with_reducible assumption)

theorem spillOutputs_good (untilArm : Bool) (s : State) (hg : Good qs s) : Good qs (spillOutputs untilArm s) := by
  unfold spillOutputs
  repeat' first
    | with_reducible assumption
    | (refine fun _ => ?_)
    | lift_lets
    | (intro x; refine sup (Good qs x) ?_ ?_; (on_goal 1 => subst x); (on_goal 2 => (intro _; clear_value x)))
    | intro x
    | split
    | with_reducible apply foldS_good
    | with_reducible apply spillBank_good
    | with_reducible apply spillTio_good
    | with_reducible apply spillPwm_good
    | with_reducible apply spillConv_good
    | with_reducible apply setGate_good
    | (refine good_of_parts ?_; dsimp only; refine parts_of_good ?_; with_reducible assumption)

theorem truncateAll_good (s : State) (hg : Good qs s) : Good qs (truncateAll s) := by
  unfold truncateAll
  repeat' first
    | with_reducible assumption
    | (refine fun _ => ?_)
    | lift_lets
    | (intro x; refine sup (Good qs x) ?_ ?_; (on_goal 1 => subst x); (on_goal 2 => (intro _; clear_value x)))
    | intro x
    | split
    | with_reducible apply foldS_good
    | with_reducible apply dropPromise_good
    | with_reducible apply normalEndStep_good
    | with_reducible apply spillSamples_good
    | with_reducible apply truncateWhere_good

theorem endActions_good (s : State) (hg : Good qs s) : Good qs (endActions s) := by
  unfold endActions
  repeat' first
    | with_reducible assumption
    | (refine fun _ => ?_)
    | lift_lets
    | (intro x; refine sup (Good qs x) ?_ ?_; (on_goal 1 => subst x); (on_goal 2 => (intro _; clear_value x)))
    | intro x
    | split
    | with_reducible apply foldS_good
    | with_reducible apply truncateAll_good
    | with_reducible apply spillConv_good
    | with_reducible apply spillBank_good

theorem recordLoss_good (t : Fin 2) (cause : Nat) (s : State) (hg : Good qs s) : Good qs (recordLoss t cause s) := by
  unfold recordLoss
  repeat' first
    | with_reducible assumption
    | (refine fun _ => ?_)
    | lift_lets
    | (intro x; refine sup (Good qs x) ?_ ?_; (on_goal 1 => subst x); (on_goal 2 => (intro _; clear_value x)))
    | (intro x; clear_value x)
    | intro x
    | split
    | with_reducible apply State.wr_good

theorem leaveSync_good (t : Fin 2) (cause : Nat) (q : Acq) (s : State) (hg : Good qs s) : Good qs (leaveSync t cause q s) := by
  unfold leaveSync
  repeat' first
    | with_reducible assumption
    | (refine fun _ => ?_)
    | lift_lets
    | (intro x; refine sup (Good qs x) ?_ ?_; (on_goal 1 => subst x); (on_goal 2 => (intro _; clear_value x)))
    | intro x
    | split
    | with_reducible apply recordLoss_good
    | with_reducible apply State.raise_good
    | with_reducible apply State.updTrk_good

theorem trackersOff_good (s : State) (hg : Good qs s) : Good qs (trackersOff s) := by
  unfold trackersOff
  repeat' first
    | with_reducible assumption
    | (refine fun _ => ?_)
    | lift_lets
    | intro x
    | split
    | with_reducible apply foldS_good
    | with_reducible apply leaveSync_good
    | with_reducible apply State.updTrk_good

theorem judgeControl_good (s : State) (hg : Good qs s) : Good qs (judgeControl s) := by
  unfold judgeControl
  repeat' first
    | with_reducible assumption
    | (refine fun _ => ?_)
    | lift_lets
    | (intro x; clear_value x)
    | intro x
    | split
    | with_reducible apply updDev_good
    | with_reducible apply hf
    | with_reducible rfl

theorem closeEpoch_good (cause reason : Nat) (s : State) (hg : Good qs s) : Good qs (closeEpoch cause reason s) := by
  have key : ∀ s, Good qs s →
      Good qs (s.updDev (fun d => { d with epochOpen := false, hold := none, handing := false, step := none })) := fun s h =>
    updDev_epoch_good h (good_epoch_lt h) (fun h => by simp at h)
  unfold closeEpoch
  refine good_ite (actCommitted_good _ _ (coresEpochClose_good _ (key _ (foldS_good
    (fun t s h => State.updTrk_good _ _ _ h) (jrnClosed_good _ _ _ (expireOrders_good _ _ hg)))))) hg

theorem disarmNow_good (s : State) (hg : Good qs s) : Good qs (disarmNow s) := by
  unfold disarmNow
  repeat' first
    | with_reducible assumption
    | (refine fun _ => ?_)
    | lift_lets
    | (intro x; refine sup (Good qs x) ?_ ?_; (on_goal 1 => subst x); (on_goal 2 => (intro _; clear_value x)))
    | intro x
    | split
    | with_reducible apply truncateAll_good
    | with_reducible apply spillOutputs_good
    | with_reducible apply closeEpoch_good
    | with_reducible apply trackersOff_good
    | with_reducible apply State.wr_good
    | with_reducible apply actCommitted_good
    | with_reducible apply State.enter_good

theorem pendingDisarm_good (s : State) (hg : Good qs s) : Good qs (pendingDisarm s) := by
  unfold pendingDisarm
  repeat' first
    | with_reducible assumption
    | (refine fun _ => ?_)
    | lift_lets
    | intro x
    | split
    | with_reducible apply disarmNow_good
    | with_reducible apply State.wr_good
    | with_reducible apply State.err_good

theorem spillDevice_good (cause : Nat) (s : State) (hg : Good qs s) : Good qs (spillDevice cause s) := by
  unfold spillDevice
  repeat' first
    | with_reducible assumption
    | (refine fun _ => ?_)
    | lift_lets
    | (intro x; refine sup (Good qs x) ?_ ?_; (on_goal 1 => subst x); (on_goal 2 => (intro _; clear_value x)))
    | intro x
    | split
    | with_reducible apply dueEnvelope_good
    | with_reducible apply spillOutputs_good
    | with_reducible apply truncateAll_good
    | with_reducible apply State.updPlan_good
    | with_reducible apply pendingDisarm_good
    | with_reducible apply trackersOff_good
    | with_reducible apply closeEpoch_good
    | with_reducible apply State.enter_good

theorem spillCleared_good (cause : Nat) (s : State) (hg : Good qs s) : Good qs (spillCleared cause s) := by
  unfold spillCleared
  repeat' first
    | with_reducible assumption
    | (refine fun _ => ?_)
    | lift_lets
    | intro x
    | split
    | with_reducible apply State.updPlan_good

theorem holdTracker_good (t : Fin 2) (s : State) (hg : Good qs s) : Good qs (holdTracker t s) := by
  unfold holdTracker
  repeat' first
    | with_reducible assumption
    | (refine fun _ => ?_)
    | lift_lets
    | (intro x; refine sup (Good qs x) ?_ ?_; (on_goal 1 => subst x); (on_goal 2 => (intro _; clear_value x)))
    | intro x
    | split
    | with_reducible apply updSys_good
    | with_reducible rfl
    | with_reducible apply State.updTrk_good

theorem holdTrackers_good (t : Fin 2) (s : State) (hg : Good qs s) : Good qs (holdTrackers t s) := by
  unfold holdTrackers
  repeat' first
    | with_reducible assumption
    | (refine fun _ => ?_)
    | lift_lets
    | (intro x; refine sup (Good qs x) ?_ ?_; (on_goal 1 => subst x); (on_goal 2 => (intro _; clear_value x)))
    | (intro x; clear_value x)
    | intro x
    | split
    | with_reducible apply holdTracker_good

theorem islandFault_good (id : Nat) (rst : Option Nat) (cause : Nat) (s : State) (hg : Good qs s) : Good qs (islandFault id rst cause s) := by
  unfold islandFault
  repeat' first
    | with_reducible assumption
    | (refine fun _ => ?_)
    | lift_lets
    | (intro x; refine sup (Good qs x) ?_ ?_; (on_goal 1 => subst x); (on_goal 2 => (intro _; clear_value x)))
    | intro x
    | split
    | with_reducible apply State.wr_good
    | with_reducible apply updSys_good
    | with_reducible rfl
    | with_reducible apply spillDevice_good
    | with_reducible apply State.raise_good
    | with_reducible apply holdTrackers_good

end Sys2Proof.Machine
end

