-- ==== Sys2Proof/Laws/SoundPlanRun.lean ====
section
/-! SUPPORT. Every state function of Machine/PlanRun.lean keeps the invariant `Good` of Laws/Sound.lean. -/

namespace Sys2Proof.Machine

variable {qs : List Instr}

theorem updFurrow_good (g : Furrow) (h : Furrow → Furrow) (s : State) (hg : Good qs s) : Good qs (updFurrow g h s) := by
  unfold updFurrow
  repeat' first
    | with_reducible assumption
    | (refine fun _ => ?_)
    | lift_lets
    | intro x
    | split
    | with_reducible apply State.updPlan_good

theorem readEntry_good (i : Nat) (s : State) (hg : Good qs s) : Good qs (readEntry i s).2 := by
  unfold readEntry
  repeat' first
    | with_reducible assumption
    | (refine fun _ => ?_)
    | lift_lets
    | (intro x; refine sup (Good qs x.2) ?_ ?_; (on_goal 1 => subst x); (on_goal 2 => (intro _; clear_value x)))
    | (intro x; clear_value x)
    | intro x
    | split
    | with_reducible apply readWord_good

theorem badEntry_good (f : Furrow) (i : Nat) (s : State) (hg : Good qs s) : Good qs (badEntry f i s) :=
  updFurrow_good _ _ _ (postEntry_good i _ (jrnAction_good 6 5 i (devAngle s) s hg))

theorem loadHead_good (n : Nat) (f : Furrow) (s : State) (h : Good qs s) : Good qs (loadHead n f s) := by
  induction n generalizing f s with
  | zero => exact updFurrow_good _ _ _ h
  | succ n ih =>
    unfold loadHead
    repeat' first
      | with_reducible assumption
      | (refine fun _ => ?_)
      | lift_lets
      | (intro x; refine sup (Good qs x.2) ?_ ?_; (on_goal 1 => subst x); (on_goal 2 => (intro _; clear_value x)))
      | intro x
      | split
      | with_reducible apply ih
      | with_reducible apply badEntry_good
      | with_reducible apply readEntry_good
      | with_reducible apply updFurrow_good

theorem advanceHead_good (f : Furrow) (s : State) (hg : Good qs s) : Good qs (advanceHead f s) := by
  unfold advanceHead
  repeat' first
    | with_reducible assumption
    | (refine fun _ => ?_)
    | lift_lets
    | intro x
    | split
    | with_reducible apply loadHead_good

theorem placeHeads_good (s : State) (hg : Good qs s) : Good qs (placeHeads s) := by
  unfold placeHeads
  repeat' first
    | with_reducible assumption
    | (refine fun _ => ?_)
    | lift_lets
    | (intro x; refine sup (Good qs x) ?_ ?_; (on_goal 1 => subst x); (on_goal 2 => (intro _; clear_value x)))
    | (intro x; clear_value x)
    | intro x
    | split
    | with_reducible apply foldS_good
    | with_reducible apply State.updPlan_good
    | with_reducible apply loadHead_good

theorem reachSlot_good (slot idx cyc : Nat) (s : State) (hg : Good qs s) : Good qs (reachSlot slot idx cyc s).2 := by
  unfold reachSlot
  repeat' first
    | with_reducible assumption
    | (refine fun _ => ?_)
    | lift_lets
    | (intro x; refine sup (Good qs x) ?_ ?_; (on_goal 1 => subst x); (on_goal 2 => (intro _; clear_value x)))
    | (intro x; clear_value x)
    | intro x
    | split
    | with_reducible apply State.updPlan_good
    | with_reducible apply updOrder_good

theorem logLate_good (idx late : Nat) (s : State) (hg : Good qs s) : Good qs (logLate idx late s) := by
  unfold logLate
  repeat' first
    | with_reducible assumption
    | (refine fun _ => ?_)
    | lift_lets
    | (intro x; refine sup (Good qs x) ?_ ?_; (on_goal 1 => subst x); (on_goal 2 => (intro _; clear_value x)))
    | (intro x; clear_value x)
    | intro x
    | split
    | with_reducible apply State.bump_good
    | with_reducible apply State.wr_good
    | with_reducible apply State.updPlan_good
    | with_reducible apply State.raiseIf_good

theorem issueAct_good (a : Act) (late : Option Nat) (s : State) (hg : Good qs s) : Good qs (issueAct a late s) := by
  unfold issueAct
  repeat' first
    | with_reducible assumption
    | (refine fun _ => ?_)
    | lift_lets
    | (intro x; refine sup (Good qs x) ?_ ?_; (on_goal 1 => subst x); (on_goal 2 => (intro _; clear_value x)))
    | (intro x; clear_value x)
    | intro x
    | split
    | with_reducible apply State.updPlan_good
    | with_reducible apply orderProgress_good
    | with_reducible apply flagOrder_good
    | with_reducible apply logLate_good

theorem reachAction_good (i pos tick : Nat) (swept : Option Nat) (dead : Bool) (s : State) (hg : Good qs s) : Good qs (reachAction i pos tick swept dead s) := by
  unfold reachAction
  repeat' first
    | with_reducible assumption
    | (refine fun _ => ?_)
    | lift_lets
    | (intro x; refine sup (Good qs x) ?_ ?_; (on_goal 1 => subst x); (on_goal 2 => (intro _; clear_value x)))
    | (intro x; refine sup (Good qs x.2) ?_ ?_; (on_goal 1 => subst x); (on_goal 2 => (intro _; clear_value x)))
    | (intro x; clear_value x)
    | intro x
    | split
    | with_reducible apply readDec_good
    | with_reducible apply reachSlot_good
    | with_reducible apply dropAct_good
    | with_reducible apply endOrder_good
    | with_reducible apply jrnAction_good
    | with_reducible apply State.bump_good
    | with_reducible apply issueAct_good

theorem reachHead_good (f : Furrow) (pos tick : Nat) (swept : Option Nat) (s : State) (hg : Good qs s) : Good qs (reachHead f pos tick swept s) := by
  unfold reachHead
  repeat' first
    | with_reducible assumption
    | (refine fun _ => ?_)
    | lift_lets
    | intro x
    | split
    | with_reducible apply advanceHead_good
    | with_reducible apply reachAction_good

theorem actionIssueStep_good (fid : Nat) (s : State) (hg : Good qs s) : Good qs (actionIssueStep fid s) := by
  unfold actionIssueStep
  repeat' first
    | with_reducible assumption
    | (refine fun _ => ?_)
    | lift_lets
    | (intro x; clear_value x)
    | intro x
    | split
    | with_reducible apply reachHead_good

theorem cutoffStep_good (k : Nat) (s : State) (hg : Good qs s) : Good qs (cutoffStep k s) := by
  unfold cutoffStep
  repeat' first
    | with_reducible assumption
    | (refine fun _ => ?_)
    | lift_lets
    | intro x
    | split
    | with_reducible apply takeCutoff_good

theorem govClearAct_good (s : State) (hg : Good qs s) : Good qs (govClearAct s) := by
  unfold govClearAct
  repeat' first
    | with_reducible assumption
    | (refine fun _ => ?_)
    | lift_lets
    | (intro x; refine sup (Good qs x) ?_ ?_; (on_goal 1 => subst x); (on_goal 2 => (intro _; clear_value x)))
    | intro x
    | split
    | with_reducible apply State.wr_good
    | with_reducible apply State.err_good
    | with_reducible apply State.setReg_good
    | with_reducible apply State.enter_good
    | with_reducible apply State.updPlan_good

theorem suppressionEnd_good (s : State) (hg : Good qs s) : Good qs (suppressionEnd s) := by
  unfold suppressionEnd
  repeat' first
    | with_reducible assumption
    | (refine fun _ => ?_)
    | lift_lets
    | (intro x; clear_value x)
    | intro x
    | split
    | with_reducible apply hf
    | (refine good_of_parts ?_; dsimp only; refine parts_of_good ?_; with_reducible assumption)

theorem resumeFurrows_good (s : State) (hg : Good qs s) : Good qs (resumeFurrows s) := by
  unfold resumeFurrows
  repeat' first
    | with_reducible assumption
    | (refine fun _ => ?_)
    | lift_lets
    | intro x
    | split
    | with_reducible apply State.updPlan_good

theorem deviceBoundary_good (s : State) (hg : Good qs s) : Good qs (deviceBoundary s) := by
  unfold deviceBoundary
  repeat' first
    | with_reducible assumption
    | (refine fun _ => ?_)
    | lift_lets
    | (intro x; refine sup (Good qs x) ?_ ?_; (on_goal 1 => subst x); (on_goal 2 => (intro _; clear_value x)))
    | intro x
    | split
    | with_reducible apply closeCycleOrders_good
    | with_reducible apply resumeFurrows_good
    | with_reducible apply State.updPlan_good
    | with_reducible apply govClearAct_good
    | with_reducible apply suppressionEnd_good
    | with_reducible apply swapTrims_good
    | with_reducible apply State.fire_good
    | with_reducible apply actCommitted_good
    | with_reducible apply updDev_good
    | with_reducible rfl

theorem sweepLoop_good (n stop tick : Nat) (late : Nat → Option Nat) (s : State) (h : Good qs s) :
    Good qs (sweepLoop n stop tick late s) := by
  induction n generalizing s with
  | zero => exact h
  | succ n ih =>
    unfold sweepLoop
    repeat' first
      | with_reducible assumption
      | (refine fun _ => ?_)
      | lift_lets
      | intro x
      | split
      | with_reducible apply ih
      | with_reducible apply deviceBoundary_good
      | with_reducible apply takeCutoff_good
      | with_reducible apply reachHead_good

theorem sweepEnds_good (stop tick : Nat) (s : State) (hg : Good qs s) : Good qs (sweepEnds stop tick s) := by
  unfold sweepEnds
  repeat' first
    | with_reducible assumption
    | (refine fun _ => ?_)
    | lift_lets
    | intro x
    | split
    | with_reducible apply updActs_good

theorem issueEnds_good (s : State) (hg : Good qs s) : Good qs (issueEnds s) := by
  unfold issueEnds
  repeat' first
    | with_reducible assumption
    | (refine fun _ => ?_)
    | lift_lets
    | intro x
    | split
    | with_reducible apply updActs_good

theorem sweepTo_good (stop tick : Nat) (s : State) (hg : Good qs s) : Good qs (sweepTo stop tick s) := by
  unfold sweepTo
  repeat' first
    | with_reducible assumption
    | (refine fun _ => ?_)
    | lift_lets
    | intro x
    | split
    | with_reducible apply sweepLoop_good
    | with_reducible apply sweepEnds_good

theorem passBoundary_good (pos : Nat) (s : State) (hg : Good qs s) : Good qs (passBoundary pos s) := by
  unfold passBoundary
  repeat' first
    | with_reducible assumption
    | (refine fun _ => ?_)
    | lift_lets
    | intro x
    | split
    | with_reducible apply sweepLoop_good

theorem reachPos_good (pos : Nat) (s : State) (hg : Good qs s) : Good qs (reachPos pos s) := by
  unfold reachPos
  repeat' first
    | with_reducible assumption
    | (refine fun _ => ?_)
    | lift_lets
    | intro x
    | split
    | with_reducible apply deviceBoundary_good
    | with_reducible apply passBoundary_good

theorem openEpoch_good (s : State) (hg : Good qs s) : Good qs (openEpoch s) := by
  have hlt := good_epoch_lt hg
  unfold openEpoch
  lift_lets
  intro e s1
  have h1 : Good qs s1 := updDev_epoch_good hg (by subst e; dsimp only; split <;> omega) (fun _ => by subst e; dsimp only; split <;> omega)
  clear_value s1
  repeat' first
    | with_reducible assumption
    | (refine fun _ => ?_)
    | lift_lets
    | (intro x; refine sup (Good qs x) ?_ ?_; (on_goal 1 => subst x); (on_goal 2 => (intro _; clear_value x)))
    | (intro x; clear_value x)
    | intro x
    | split
    | with_reducible apply State.updPlan_good
    | with_reducible apply foldS_good
    | with_reducible apply State.updTrk_good
    | with_reducible apply jrnOpened_good
    | with_reducible apply releaseTio_good
    | with_reducible apply releasePwm_good
    | with_reducible apply enterRunning_good
    | with_reducible apply placeHeads_good
    | with_reducible apply State.fire_good
    | (refine good_of_parts ?_; dsimp only; refine parts_of_good ?_; with_reducible assumption)

theorem spoilLearning_good (s : State) (hg : Good qs s) : Good qs (spoilLearning s) := by
  unfold spoilLearning
  repeat' first
    | with_reducible assumption
    | (refine fun _ => ?_)
    | lift_lets
    | (intro x; refine sup (Good qs x) ?_ ?_; (on_goal 1 => subst x); (on_goal 2 => (intro _; clear_value x)))
    | intro x
    | split
    | with_reducible apply foldS_good
    | with_reducible apply State.updTrk_good
    | with_reducible apply State.updPlan_good

theorem decideHandover_good (s : State) (hg : Good qs s) : Good qs (decideHandover s) := by
  unfold decideHandover
  repeat' first
    | with_reducible assumption
    | (refine fun _ => ?_)
    | lift_lets
    | intro x
    | split
    | with_reducible apply updDev_good
    | with_reducible rfl

theorem handoverState_good (s : State) (hg : Good qs s) : Good qs (handoverState s) := by
  unfold handoverState
  repeat' first
    | with_reducible assumption
    | (refine fun _ => ?_)
    | lift_lets
    | intro x
    | split
    | with_reducible apply pendingDisarm_good
    | with_reducible apply enterRunning_good
    | with_reducible apply endActions_good
    | with_reducible apply State.enter_good
    | with_reducible apply State.raise_good

theorem handover_good (pos old : Nat) (s : State) (hg : Good qs s) : Good qs (handover pos old s) := by
  unfold handover
  repeat' first
    | with_reducible assumption
    | (refine fun _ => ?_)
    | lift_lets
    | (intro x; refine sup (Good qs x) ?_ ?_; (on_goal 1 => subst x); (on_goal 2 => (intro _; clear_value x)))
    | intro x
    | split
    | with_reducible apply State.updTrk_good
    | with_reducible apply State.bump_good
    | with_reducible apply State.raise_good
    | with_reducible apply spoilLearning_good
    | with_reducible apply updDev_good
    | with_reducible rfl

theorem handoverSweep_good (s : State) (hg : Good qs s) : Good qs (handoverSweep s) := by
  unfold handoverSweep
  repeat' first
    | with_reducible assumption
    | (refine fun _ => ?_)
    | lift_lets
    | (intro x; refine sup (Good qs x) ?_ ?_; (on_goal 1 => subst x); (on_goal 2 => (intro _; clear_value x)))
    | (intro x; clear_value x)
    | intro x
    | split
    | with_reducible apply reachPos_good
    | with_reducible apply sweepTo_good
    | with_reducible apply handoverState_good
    | with_reducible apply updDev_good
    | with_reducible rfl

end Sys2Proof.Machine
end

