-- ==== Sys2Proof/Laws/SoundLearn.lean ====
section
/-! SUPPORT. Every state function of Machine/Learn.lean keeps the invariant `Good` of Laws/Sound.lean. -/

namespace Sys2Proof.Machine

variable {qs : List Instr}

theorem shadowClear_good (t : Fin 2) (s : State) (hg : Good qs s) : Good qs (shadowClear t s) := by
  unfold shadowClear
  repeat' first
    | with_reducible assumption
    | (refine fun _ => ?_)
    | lift_lets
    | intro x
    | split
    | with_reducible apply State.updTrk_good

theorem setAstern_good (t : Fin 2) (a : Bool) (s : State) (hg : Good qs s) : Good qs (setAstern t a s) := by
  unfold setAstern
  repeat' first
    | with_reducible assumption
    | (refine fun _ => ?_)
    | lift_lets
    | (intro x; refine sup (Good qs x) ?_ ?_; (on_goal 1 => subst x); (on_goal 2 => (intro _; clear_value x)))
    | intro x
    | split
    | with_reducible apply State.updTrk_good
    | with_reducible apply shadowClear_good

theorem sigClear_good (t : Fin 2) (s : State) (hg : Good qs s) : Good qs (sigClear t s) := by
  unfold sigClear
  repeat' first
    | with_reducible assumption
    | (refine fun _ => ?_)
    | lift_lets
    | intro x
    | split
    | with_reducible apply State.updTrk_good

theorem shadowMeasure_good (t : Fin 2) (prev n : Nat) (hn : Bool) (tj : Nat) (s : State) (hg : Good qs s) : Good qs (shadowMeasure t prev n hn tj s) := by
  unfold shadowMeasure
  repeat' first
    | with_reducible assumption
    | (refine fun _ => ?_)
    | lift_lets
    | (intro x; refine sup (Good qs x) ?_ ?_; (on_goal 1 => subst x); (on_goal 2 => (intro _; clear_value x)))
    | (intro x; clear_value x)
    | intro x
    | split
    | with_reducible apply State.bump_good
    | with_reducible apply State.updTrk_good

theorem toggleBank_good (t : Fin 2) (s : State) (hg : Good qs s) : Good qs (toggleBank t s) := by
  unfold toggleBank
  repeat' first
    | with_reducible assumption
    | (refine fun _ => ?_)
    | lift_lets
    | intro x
    | split
    | with_reducible apply State.wr_good

theorem shadowBoundary_good (t : Fin 2) (s : State) (hg : Good qs s) : Good qs (shadowBoundary t s) := by
  unfold shadowBoundary
  repeat' first
    | with_reducible assumption
    | (refine fun _ => ?_)
    | lift_lets
    | (intro x; refine sup (Good qs x) ?_ ?_; (on_goal 1 => subst x); (on_goal 2 => (intro _; clear_value x)))
    | (intro x; clear_value x)
    | intro x
    | split
    | with_reducible apply shadowClear_good
    | with_reducible apply State.wr_good
    | with_reducible apply State.updTrk_good
    | with_reducible apply State.bump_good
    | with_reducible apply toggleBank_good

theorem addRevolution_good (t : Fin 2) (t0 trev : Nat) (s : State) (hg : Good qs s) : Good qs (addRevolution t t0 trev s) := by
  unfold addRevolution
  repeat' first
    | with_reducible assumption
    | (refine fun _ => ?_)
    | lift_lets
    | (intro x; clear_value x)
    | intro x
    | split
    | with_reducible apply State.updTrk_good

theorem signatureEdge_good (t : Fin 2) (i stamp : Nat) (s : State) (hg : Good qs s) : Good qs (signatureEdge t i stamp s) := by
  unfold signatureEdge
  repeat' first
    | with_reducible assumption
    | (refine fun _ => ?_)
    | lift_lets
    | (intro x; refine sup (Good qs x) ?_ ?_; (on_goal 1 => subst x); (on_goal 2 => (intro _; clear_value x)))
    | (intro x; refine sup (∀ a s, Good qs s → Good qs (x a s)) ?_ ?_; (on_goal 1 => subst x); (on_goal 2 => (intro hf; clear_value x)))
    | (intro x; clear_value x)
    | intro x
    | split
    | (dsimp only; split)
    | with_reducible apply State.updTrk_good
    | with_reducible apply addRevolution_good
    | with_reducible apply State.bump_good
    | with_reducible apply hf

theorem moveHorizon_good (t : Fin 2) (s : State) (hg : Good qs s) : Good qs (moveHorizon t s) := by
  unfold moveHorizon
  repeat' first
    | with_reducible assumption
    | (refine fun _ => ?_)
    | lift_lets
    | (intro x; clear_value x)
    | intro x
    | split
    | with_reducible apply State.updTrk_good

theorem sigResetAct_good (t : Fin 2) (s : State) (hg : Good qs s) : Good qs (sigResetAct t s) := by
  unfold sigResetAct
  repeat' first
    | with_reducible assumption
    | (refine fun _ => ?_)
    | lift_lets
    | intro x
    | split
    | with_reducible apply moveHorizon_good
    | with_reducible apply sigClear_good
    | with_reducible apply State.wr_good

theorem signatureBoundary_good (t : Fin 2) (s : State) (hg : Good qs s) : Good qs (signatureBoundary t s) := by
  unfold signatureBoundary
  repeat' first
    | with_reducible assumption
    | (refine fun _ => ?_)
    | lift_lets
    | (intro x; clear_value x)
    | intro x
    | split
    | with_reducible apply sigResetAct_good
    | with_reducible apply moveHorizon_good
    | with_reducible apply State.bump_good
    | with_reducible apply State.updTrk_good

theorem ownBoundary_good (t : Fin 2) (s : State) (hg : Good qs s) : Good qs (ownBoundary t s) := by
  unfold ownBoundary
  repeat' first
    | with_reducible assumption
    | (refine fun _ => ?_)
    | lift_lets
    | (intro x; refine sup (Good qs x) ?_ ?_; (on_goal 1 => subst x); (on_goal 2 => (intro _; clear_value x)))
    | intro x
    | split
    | with_reducible apply signatureBoundary_good
    | with_reducible apply shadowBoundary_good
    | with_reducible apply sigResetAct_good
    | with_reducible apply actCommitted_good
    | with_reducible apply State.updTrk_good

theorem ownPassed_good (t : Fin 2) (before after : Nat) (s : State) (hg : Good qs s) : Good qs (ownPassed t before after s) := by
  unfold ownPassed
  repeat' first
    | with_reducible assumption
    | (refine fun _ => ?_)
    | lift_lets
    | (intro x; clear_value x)
    | intro x
    | split
    | with_reducible apply ownBoundary_good

theorem shadowClrStep_good (t : Fin 2) (s : State) (hg : Good qs s) : Good qs (shadowClrStep t s) := by
  unfold shadowClrStep
  repeat' first
    | with_reducible assumption
    | (refine fun _ => ?_)
    | lift_lets
    | intro x
    | split
    | with_reducible apply State.wr_good

theorem sigResetStep_good (t : Fin 2) (s : State) (hg : Good qs s) : Good qs (sigResetStep t s) := by
  unfold sigResetStep
  repeat' first
    | with_reducible assumption
    | (refine fun _ => ?_)
    | lift_lets
    | intro x
    | split
    | with_reducible apply State.wr_good

end Sys2Proof.Machine
end

