-- ==== Sys2Proof/Laws/SoundAcquire.lean ====
section
/-! SUPPORT. Every state function of Machine/Acquire.lean keeps the invariant `Good` of Laws/Sound.lean. -/

namespace Sys2Proof.Machine

variable {qs : List Instr}

theorem noteLinkLoss_good (t : Fin 2) (s : State) (hg : Good qs s) : Good qs (noteLinkLoss t s) := by
  unfold noteLinkLoss
  repeat' first
    | with_reducible assumption
    | (refine fun _ => ?_)
    | lift_lets
    | intro x
    | split
    | with_reducible apply State.updLink_good
    | with_reducible apply State.bump_good
    | with_reducible apply State.raise_good

theorem loseSyncTo_good (q : Acq) (t : Fin 2) (cause : Nat) (s : State) (hg : Good qs s) : Good qs (loseSyncTo q t cause s) := by
  unfold loseSyncTo
  repeat' first
    | with_reducible assumption
    | (refine fun _ => ?_)
    | lift_lets
    | (intro x; refine sup (Good qs x) ?_ ?_; (on_goal 1 => subst x); (on_goal 2 => (intro _; clear_value x)))
    | (intro x; clear_value x)
    | intro x
    | split
    | with_reducible apply noteLinkLoss_good
    | with_reducible apply leaveSync_good
    | with_reducible apply decideHandover_good
    | with_reducible apply closeEpoch_good
    | with_reducible apply spillOutputs_good
    | with_reducible apply truncateAll_good
    | with_reducible apply dueEnvelope_good
    | with_reducible apply pendingDisarm_good
    | with_reducible apply judgeControl_good
    | with_reducible apply State.enter_good
    | with_reducible apply updDev_good
    | with_reducible rfl

theorem loseSync_good (t : Fin 2) (cause : Nat) (s : State) (hg : Good qs s) : Good qs (loseSync t cause s) := by
  unfold loseSync
  repeat' first
    | with_reducible assumption
    | (refine fun _ => ?_)
    | lift_lets
    | intro x
    | split
    | with_reducible apply loseSyncTo_good

theorem loseHold_good (t : Fin 2) (s : State) (hg : Good qs s) : Good qs (loseHold t s) := by
  unfold loseHold
  repeat' first
    | with_reducible assumption
    | (refine fun _ => ?_)
    | lift_lets
    | intro x
    | split
    | with_reducible apply loseSyncTo_good

theorem acqRestart_good (t : Fin 2) (s : State) (hg : Good qs s) : Good qs (acqRestart t s) := by
  unfold acqRestart
  repeat' first
    | with_reducible assumption
    | (refine fun _ => ?_)
    | lift_lets
    | intro x
    | split
    | with_reducible apply State.bump_good
    | with_reducible apply State.raise_good
    | with_reducible apply State.updTrk_good

theorem spuriousEdge_good (t : Fin 2) (eighth : State → State) (s : State) (hg : Good qs s) (heighth : ∀  s, Good qs s → Good qs (eighth  s)) : Good qs (spuriousEdge t eighth s) := by
  unfold spuriousEdge
  repeat' first
    | with_reducible assumption
    | (refine fun _ => ?_)
    | lift_lets
    | (intro x; refine sup (Good qs x) ?_ ?_; (on_goal 1 => subst x); (on_goal 2 => (intro _; clear_value x)))
    | intro x
    | split
    | with_reducible apply State.bump_good
    | with_reducible apply State.raise_good
    | with_reducible apply State.updTrk_good
    | with_reducible apply heighth

theorem declareSync_good (t : Fin 2) (p : Nat) (h : Bool) (s : State) (hg : Good qs s) : Good qs (declareSync t p h s) := by
  unfold declareSync
  repeat' first
    | with_reducible assumption
    | (refine fun _ => ?_)
    | lift_lets
    | (intro x; refine sup (Good qs x) ?_ ?_; (on_goal 1 => subst x); (on_goal 2 => (intro _; clear_value x)))
    | (intro x; clear_value x)
    | intro x
    | split
    | with_reducible apply setAstern_good
    | with_reducible apply State.updTrk_good
    | with_reducible apply State.wr_good
    | with_reducible apply State.raise_good
    | with_reducible apply openEpoch_good

theorem failedTry_good (t : Fin 2) (s : State) (hg : Good qs s) : Good qs (failedTry t s) := by
  unfold failedTry
  repeat' first
    | with_reducible assumption
    | (refine fun _ => ?_)
    | lift_lets
    | (intro x; refine sup (Good qs x) ?_ ?_; (on_goal 1 => subst x); (on_goal 2 => (intro _; clear_value x)))
    | intro x
    | split
    | with_reducible apply State.updTrk_good
    | with_reducible apply acqRestart_good
    | with_reducible apply State.raise_good

theorem evaluateCam_good (t : Fin 2) (e : EdgeIn) (s : State) (hg : Good qs s) : Good qs (evaluateCam t e s) := by
  unfold evaluateCam
  repeat' first
    | with_reducible assumption
    | (refine fun _ => ?_)
    | lift_lets
    | intro x
    | split
    | with_reducible apply declareSync_good
    | with_reducible apply failedTry_good

theorem enterPhase_good (t : Fin 2) (s : State) (hg : Good qs s) : Good qs (enterPhase t s) := by
  unfold enterPhase
  repeat' first
    | with_reducible assumption
    | (refine fun _ => ?_)
    | lift_lets
    | (intro x; refine sup (Good qs x) ?_ ?_; (on_goal 1 => subst x); (on_goal 2 => (intro _; clear_value x)))
    | (intro x; clear_value x)
    | intro x
    | split
    | with_reducible apply State.updTrk_good
    | with_reducible apply evaluateCam_good

theorem confirmEdge_good (t : Fin 2) (tj prev : Nat) (cls : Option Nat) (s : State) (hg : Good qs s) : Good qs (confirmEdge t tj prev cls s) := by
  unfold confirmEdge
  repeat' first
    | with_reducible assumption
    | (refine fun _ => ?_)
    | lift_lets
    | (intro x; refine sup (Good qs x) ?_ ?_; (on_goal 1 => subst x); (on_goal 2 => (intro _; clear_value x)))
    | (intro x; clear_value x)
    | intro x
    | split
    | with_reducible apply State.updTrk_good
    | with_reducible apply acqRestart_good
    | with_reducible apply declareSync_good
    | with_reducible apply enterPhase_good

theorem phaseEdge_good (t : Fin 2) (tj prev : Nat) (cls : Option Nat) (s : State) (hg : Good qs s) : Good qs (phaseEdge t tj prev cls s) := by
  unfold phaseEdge
  repeat' first
    | with_reducible assumption
    | (refine fun _ => ?_)
    | lift_lets
    | (intro x; refine sup (Good qs x) ?_ ?_; (on_goal 1 => subst x); (on_goal 2 => (intro _; clear_value x)))
    | (intro x; clear_value x)
    | intro x
    | split
    | with_reducible apply State.updTrk_good
    | with_reducible apply acqRestart_good
    | with_reducible apply failedTry_good

theorem searchEdge_good (t : Fin 2) (tj prev : Nat) (s : State) (hg : Good qs s) : Good qs (searchEdge t tj prev s) := by
  unfold searchEdge
  repeat' first
    | with_reducible assumption
    | (refine fun _ => ?_)
    | lift_lets
    | (intro x; refine sup (∀ a, Good qs (x a)) ?_ ?_; (on_goal 1 => subst x); (on_goal 2 => (intro hf; clear_value x)))
    | (intro x; clear_value x)
    | intro x
    | split
    | with_reducible apply State.updTrk_good
    | with_reducible apply acqRestart_good
    | with_reducible apply hf

theorem acqEdge_good (t : Fin 2) (e : EdgeIn) (s : State) (hg : Good qs s) : Good qs (acqEdge t e s) := by
  unfold acqEdge
  repeat' first
    | with_reducible assumption
    | (refine fun _ => ?_)
    | lift_lets
    | (intro x; refine sup (Good qs x) ?_ ?_; (on_goal 1 => subst x); (on_goal 2 => (intro _; clear_value x)))
    | (intro x; clear_value x)
    | intro x
    | split
    | with_reducible apply State.updTrk_good
    | with_reducible apply spuriousEdge_good
    | with_reducible apply acqRestart_good
    | with_reducible apply searchEdge_good
    | with_reducible apply confirmEdge_good
    | with_reducible apply phaseEdge_good

theorem turnHistory_good (t : Fin 2) (lead : Nat) (rev : Bool) (s : State) (hg : Good qs s) : Good qs (turnHistory t lead rev s) := by
  unfold turnHistory
  repeat' first
    | with_reducible assumption
    | (refine fun _ => ?_)
    | lift_lets
    | (intro x; clear_value x)
    | intro x
    | split
    | with_reducible apply setAstern_good
    | with_reducible apply State.updTrk_good

theorem acqClass_good (t : Fin 2) (lead cls : Nat) (s : State) (hg : Good qs s) : Good qs (acqClass t lead cls s) := by
  unfold acqClass
  repeat' first
    | with_reducible assumption
    | (refine fun _ => ?_)
    | lift_lets
    | (intro x; refine sup (Good qs x) ?_ ?_; (on_goal 1 => subst x); (on_goal 2 => (intro _; clear_value x)))
    | (intro x; clear_value x)
    | intro x
    | split
    | with_reducible apply State.updTrk_good
    | with_reducible apply turnHistory_good
    | with_reducible apply acqRestart_good
    | with_reducible apply setAstern_good

theorem acqTimeoutStep_good (t : Fin 2) (s : State) (hg : Good qs s) : Good qs (acqTimeoutStep t s) := by
  unfold acqTimeoutStep
  repeat' first
    | with_reducible assumption
    | (refine fun _ => ?_)
    | lift_lets
    | (intro x; clear_value x)
    | intro x
    | split
    | with_reducible apply State.updTrk_good

end Sys2Proof.Machine
end

