-- ==== Sys2Proof/Laws/SoundFlumeBase.lean ====
section
/-! SUPPORT. Every state function of Machine/FlumeBase.lean keeps the invariant `Good` of Laws/Sound.lean. -/

namespace Sys2Proof.Machine

variable {qs : List Instr}

theorem sumByte_good (c : Fin 32) (b : Nat) (s : State) (hg : Good qs s) : Good qs (sumByte c b s) := by
  unfold sumByte
  repeat' first
    | with_reducible assumption
    | (refine fun _ => ?_)
    | lift_lets
    | intro x
    | split
    | with_reducible apply State.wr_good
    | with_reducible apply State.updFlume_good

theorem sumFlush_good (c : Fin 32) (s : State) (hg : Good qs s) : Good qs (sumFlush c s) := by
  unfold sumFlush
  repeat' first
    | with_reducible assumption
    | (refine fun _ => ?_)
    | lift_lets
    | intro x
    | split
    | with_reducible apply State.wr_good
    | with_reducible apply State.updFlume_good

theorem flumeEvt_good (c : Fin 32) (s : State) (hg : Good qs s) : Good qs (flumeEvt c s) := by
  unfold flumeEvt
  repeat' first
    | with_reducible assumption
    | (refine fun _ => ?_)
    | lift_lets
    | intro x
    | split
    | with_reducible apply State.raise_good

theorem flumeEnd_good (c : Fin 32) (res : Nat) (s : State) (hg : Good qs s) : Good qs (flumeEnd c res s) := by
  unfold flumeEnd
  repeat' first
    | with_reducible assumption
    | (refine fun _ => ?_)
    | lift_lets
    | (intro x; refine sup (Good qs x) ?_ ?_; (on_goal 1 => subst x); (on_goal 2 => (intro _; clear_value x)))
    | intro x
    | split
    | with_reducible apply sumFlush_good
    | with_reducible apply State.wr_good
    | with_reducible apply State.bumpWrap_good
    | with_reducible apply State.updFlume_good
    | with_reducible apply flumeEvt_good

theorem flumeHalt_good (c : Fin 32) (a : Nat) (write poison : Bool) (s : State) (hg : Good qs s) : Good qs (flumeHalt c a write poison s) := by
  unfold flumeHalt
  repeat' first
    | with_reducible assumption
    | (refine fun _ => ?_)
    | lift_lets
    | (intro x; refine sup (Good qs x) ?_ ?_; (on_goal 1 => subst x); (on_goal 2 => (intro _; clear_value x)))
    | intro x
    | split
    | with_reducible apply State.wr_good
    | with_reducible apply flumeEvt_good
    | with_reducible apply State.bump_good

theorem startChan_good (c : Fin 32) (s : State) (hg : Good qs s) : Good qs (startChan c s) := by
  unfold startChan
  repeat' first
    | with_reducible assumption
    | (refine fun _ => ?_)
    | lift_lets
    | (intro x; refine sup (Good qs x) ?_ ?_; (on_goal 1 => subst x); (on_goal 2 => (intro _; clear_value x)))
    | (intro x; clear_value x)
    | intro x
    | split
    | with_reducible apply State.wr_good
    | with_reducible apply State.updFlume_good
    | with_reducible apply flumeEnd_good

theorem softStart_good (c : Fin 32) (s : State) (hg : Good qs s) : Good qs (softStart c s) := by
  unfold softStart
  repeat' first
    | with_reducible assumption
    | (refine fun _ => ?_)
    | lift_lets
    | intro x
    | split
    | with_reducible apply State.err_good
    | with_reducible apply startChan_good
    | with_reducible apply State.wr_good

theorem abortChan_good (c : Fin 32) (s : State) (hg : Good qs s) : Good qs (abortChan c s) := by
  unfold abortChan
  repeat' first
    | with_reducible assumption
    | (refine fun _ => ?_)
    | lift_lets
    | (intro x; refine sup (Good qs x) ?_ ?_; (on_goal 1 => subst x); (on_goal 2 => (intro _; clear_value x)))
    | intro x
    | split
    | with_reducible apply State.updLink_good
    | with_reducible apply flumeEnd_good

theorem resumeChan_good (c : Fin 32) (s : State) (hg : Good qs s) : Good qs (resumeChan c s) := by
  unfold resumeChan
  repeat' first
    | with_reducible assumption
    | (refine fun _ => ?_)
    | lift_lets
    | intro x
    | split
    | with_reducible apply State.wr_good

theorem progWrite_good (c : Fin 32) (bad : Bool) (f : State → State) (s : State) (hf : ∀ s, Good qs s → Good qs (f s)) (hg : Good qs s) : Good qs (progWrite c bad f s) := by
  unfold progWrite
  repeat' first
    | with_reducible assumption
    | (refine fun _ => ?_)
    | lift_lets
    | intro x
    | split
    | with_reducible apply State.err_good
    | with_reducible apply State.wr_good
    | with_reducible apply hf

theorem ctrlWriteStep_good (c : Fin 32) (v : Word) (s : State) (hg : Good qs s) : Good qs (ctrlWriteStep c v s) := by
  unfold ctrlWriteStep
  repeat' first
    | with_reducible assumption
    | (refine fun _ => ?_)
    | lift_lets
    | intro x
    | split
    | with_reducible apply State.err_good
    | with_reducible apply progWrite_good
    | with_reducible apply State.setReg_good

theorem dmaStart_good (a : Act) (s : State) (hg : Good qs s) : Good qs (dmaStart a s) := by
  unfold dmaStart
  repeat' first
    | with_reducible assumption
    | (refine fun _ => ?_)
    | lift_lets
    | intro x
    | split
    | with_reducible apply startChan_good
    | with_reducible apply applyAct_good
    | with_reducible apply countShadow_good
    | with_reducible apply State.updFlume_good

theorem dmaEffect_good (a : Act) (s : State) (hg : Good qs s) : Good qs (dmaEffect a s) := by
  unfold dmaEffect
  repeat' first
    | with_reducible assumption
    | (refine fun _ => ?_)
    | lift_lets
    | (intro x; refine sup (Good qs x) ?_ ?_; (on_goal 1 => subst x); (on_goal 2 => (intro _; clear_value x)))
    | (intro x; clear_value x)
    | intro x
    | split
    | with_reducible apply updAct_good
    | with_reducible apply dmaStart_good
    | with_reducible apply contention_good

theorem dmaServeN_good (n : Nat) (c : Fin 32) (s : State) (hg : Good qs s) : Good qs (dmaServeN n c s) := by
  induction n generalizing s with
  | zero => exact hg
  | succ n ih =>
    unfold dmaServeN
    repeat' first
      | with_reducible assumption
      | split
      | with_reducible apply ih
      | with_reducible apply dmaStart_good
      | with_reducible apply dropAct_good

theorem dmaServe_good (c : Fin 32) (s : State) (hg : Good qs s) : Good qs (dmaServe c s) := by
  unfold dmaServe
  repeat' first
    | with_reducible assumption
    | (refine fun _ => ?_)
    | lift_lets
    | intro x
    | split
    | with_reducible apply dmaServeN_good

theorem dmaWaitExpire_good (a : Act) (s : State) (hg : Good qs s) : Good qs (dmaWaitExpire a s) := by
  unfold dmaWaitExpire
  repeat' first
    | with_reducible assumption
    | (refine fun _ => ?_)
    | lift_lets
    | intro x
    | split
    | with_reducible apply dropAct_good

theorem flumeStartStep_good (c : Fin 32) (s : State) (hg : Good qs s) : Good qs (flumeStartStep c s) := by
  unfold flumeStartStep
  repeat' first
    | with_reducible assumption
    | (refine fun _ => ?_)
    | lift_lets
    | intro x
    | split
    | with_reducible apply dmaServe_good
    | with_reducible apply dmaEffect_good
    | with_reducible apply State.err_good
    | with_reducible apply softStart_good

end Sys2Proof.Machine
end

