-- ==== Sys2Proof/Laws/SoundRunnels.lean ====
section
/-! SUPPORT. Every state function of Machine/Runnels.lean keeps the invariant `Good` of Laws/Sound.lean. -/

namespace Sys2Proof.Machine

variable {qs : List Instr}

theorem rset_good (e : Fin 8) (f : Fld) (v : Nat) (s : State) (hg : Good qs s) : Good qs (rset e f v s) := by
  unfold rset
  repeat' first
    | with_reducible assumption
    | (refine fun _ => ?_)
    | lift_lets
    | intro x
    | split
    | with_reducible apply State.wr_good

theorem rnlFlag_good (e : Fin 8) (f : Fld) (s : State) (hg : Good qs s) : Good qs (rnlFlag e f s) := by
  unfold rnlFlag
  repeat' first
    | with_reducible assumption
    | (refine fun _ => ?_)
    | lift_lets
    | intro x
    | split
    | with_reducible apply State.wr_good
    | with_reducible apply State.raiseIf_good

theorem seePins_good (pins : Word) (s : State) (hg : Good qs s) : Good qs (seePins pins s) := by
  unfold seePins
  repeat' first
    | with_reducible assumption
    | (refine fun _ => ?_)
    | lift_lets
    | intro x
    | split
    | with_reducible apply hf
    | (refine good_of_parts ?_; dsimp only; refine parts_of_good ?_; with_reducible assumption)

theorem rnlExec_good (e : Fin 8) (op : Nat) (f : Nat → State → State) (s : State) (hg : Good qs s) (hf : ∀ a0 s, Good qs s → Good qs (f a0 s)) : Good qs (rnlExec e op f s) := by
  unfold rnlExec
  repeat' first
    | with_reducible assumption
    | (refine fun _ => ?_)
    | lift_lets
    | intro x
    | split
    | with_reducible apply hf

theorem rnlNext_good (e : Fin 8) (n : Nat) (s : State) (hg : Good qs s) : Good qs (rnlNext e n s) := by
  unfold rnlNext
  repeat' first
    | with_reducible assumption
    | (refine fun _ => ?_)
    | lift_lets
    | (intro x; refine sup (Good qs x) ?_ ?_; (on_goal 1 => subst x); (on_goal 2 => (intro _; clear_value x)))
    | intro x
    | split
    | with_reducible apply rset_good
    | with_reducible apply State.updRnl_good

theorem rnlWait_good (e : Fin 8) (w : RnlWait) (s : State) (hg : Good qs s) : Good qs (rnlWait e w s) := by
  unfold rnlWait
  repeat' first
    | with_reducible assumption
    | (refine fun _ => ?_)
    | lift_lets
    | intro x
    | split
    | with_reducible apply State.updRnl_good

theorem advanceT_good (e : Fin 8) (d : Nat) (s : State) (hg : Good qs s) : Good qs (advanceT e d s) := by
  unfold advanceT
  repeat' first
    | with_reducible assumption
    | (refine fun _ => ?_)
    | lift_lets
    | intro x
    | split
    | with_reducible apply rset_good

theorem drivePin_good (k : Nat) (v : Bool) (s : State) (hg : Good qs s) : Good qs (drivePin k v s) := by
  unfold drivePin
  repeat' first
    | with_reducible assumption
    | (refine fun _ => ?_)
    | lift_lets
    | (intro x; clear_value x)
    | intro x
    | split
    | (refine good_of_parts ?_; dsimp only; refine parts_of_good ?_; with_reducible assumption)

theorem pinLate_good (e : Fin 8) (s : State) (hg : Good qs s) : Good qs (pinLate e s) := by
  unfold pinLate
  repeat' first
    | with_reducible assumption
    | (refine fun _ => ?_)
    | lift_lets
    | intro x
    | split
    | with_reducible apply rnlFlag_good
    | with_reducible apply State.bump_good

theorem rnlStopStep_good (e : Fin 8) (s : State) (hg : Good qs s) : Good qs (rnlStopStep e s) := by
  unfold rnlStopStep
  repeat' first
    | with_reducible assumption
    | (refine fun _ => ?_)
    | lift_lets
    | (intro x; refine sup (Good qs x) ?_ ?_; (on_goal 1 => subst x); (on_goal 2 => (intro _; clear_value x)))
    | (intro x; clear_value x)
    | intro x
    | split
    | with_reducible apply rnlNext_good
    | with_reducible apply State.updRnl_good
    | with_reducible apply rnlFlag_good
    | with_reducible apply State.wr_good

theorem pinForeign_good (e : Fin 8) (s : State) (hg : Good qs s) : Good qs (pinForeign e s) := by
  unfold pinForeign
  repeat' first
    | with_reducible assumption
    | (refine fun _ => ?_)
    | lift_lets
    | intro x
    | split
    | with_reducible apply rnlNext_good
    | with_reducible apply rnlFlag_good

theorem pinDo_good (e : Fin 8) (w : Nat) (s : State) (hg : Good qs s) : Good qs (pinDo e w s) := by
  unfold pinDo
  repeat' first
    | with_reducible assumption
    | (refine fun _ => ?_)
    | lift_lets
    | (intro x; clear_value x)
    | intro x
    | split
    | with_reducible apply rnlNext_good
    | with_reducible apply advanceT_good
    | with_reducible apply drivePin_good
    | with_reducible apply pinForeign_good

theorem rnlPinF_good (e : Fin 8) (w : Nat) (s : State) (hg : Good qs s) : Good qs (rnlPinF e w s) := by
  unfold rnlPinF
  repeat' first
    | with_reducible assumption
    | (refine fun _ => ?_)
    | lift_lets
    | intro x
    | split
    | with_reducible apply pinDo_good
    | with_reducible apply pinLate_good
    | with_reducible apply rnlWait_good

theorem waitpDone_good (e : Fin 8) (w : Nat) (s : State) (hg : Good qs s) : Good qs (waitpDone e w s) := by
  unfold waitpDone
  repeat' first
    | with_reducible assumption
    | (refine fun _ => ?_)
    | lift_lets
    | (intro x; refine sup (Good qs x) ?_ ?_; (on_goal 1 => subst x); (on_goal 2 => (intro _; clear_value x)))
    | intro x
    | split
    | with_reducible apply rset_good
    | with_reducible apply rnlNext_good

theorem waitpTry_good (e : Fin 8) (w : Nat) (s : State) (hg : Good qs s) : Good qs (waitpTry e w s) := by
  unfold waitpTry
  repeat' first
    | with_reducible assumption
    | (refine fun _ => ?_)
    | lift_lets
    | intro x
    | split
    | with_reducible apply waitpDone_good
    | with_reducible apply rnlNext_good
    | with_reducible apply rset_good
    | with_reducible apply rnlWait_good

theorem shiftBit_good (e : Fin 8) (w : Nat) (s : State) (hg : Good qs s) : Good qs (shiftBit e w s) := by
  unfold shiftBit
  repeat' first
    | with_reducible assumption
    | (refine fun _ => ?_)
    | lift_lets
    | (intro x; refine sup (Good qs x) ?_ ?_; (on_goal 1 => subst x); (on_goal 2 => (intro _; clear_value x)))
    | (intro x; clear_value x)
    | intro x
    | split
    | with_reducible apply rset_good
    | with_reducible apply drivePin_good
    | with_reducible apply advanceT_good

theorem shiftTry_good (e : Fin 8) (w : Nat) (s : State) (hg : Good qs s) : Good qs (shiftTry e w s) := by
  unfold shiftTry
  repeat' first
    | with_reducible assumption
    | (refine fun _ => ?_)
    | lift_lets
    | (intro x; refine sup (Good qs x) ?_ ?_; (on_goal 1 => subst x); (on_goal 2 => (intro _; clear_value x)))
    | (intro x; clear_value x)
    | intro x
    | split
    | with_reducible apply pinForeign_good
    | with_reducible apply rset_good
    | with_reducible apply shiftBit_good
    | with_reducible apply rnlNext_good
    | with_reducible apply State.updRnl_good
    | with_reducible apply rnlWait_good

theorem rnlShiftF_good (e : Fin 8) (w : Nat) (s : State) (hg : Good qs s) : Good qs (rnlShiftF e w s) := by
  unfold rnlShiftF
  repeat' first
    | with_reducible assumption
    | (refine fun _ => ?_)
    | lift_lets
    | (intro x; clear_value x)
    | intro x
    | split
    | with_reducible apply shiftTry_good
    | with_reducible apply pinLate_good

theorem rnlJmpF_good (e : Fin 8) (w : Nat) (s : State) (hg : Good qs s) : Good qs (rnlJmpF e w s) := by
  unfold rnlJmpF
  repeat' first
    | with_reducible assumption
    | (refine fun _ => ?_)
    | lift_lets
    | (intro x; refine sup (Good qs x) ?_ ?_; (on_goal 1 => subst x); (on_goal 2 => (intro _; clear_value x)))
    | intro x
    | split
    | with_reducible apply rnlNext_good
    | with_reducible apply rset_good

theorem pushOut_good (e : Fin 8) (v : Nat) (s : State) (hg : Good qs s) : Good qs (pushOut e v s) := by
  unfold pushOut
  repeat' first
    | with_reducible assumption
    | (refine fun _ => ?_)
    | lift_lets
    | (intro x; refine sup (Good qs x) ?_ ?_; (on_goal 1 => subst x); (on_goal 2 => (intro _; clear_value x)))
    | intro x
    | split
    | with_reducible apply State.updRnl_good
    | with_reducible apply rnlFlag_good

theorem pushDo_good (e : Fin 8) (w : Nat) (s : State) (hg : Good qs s) : Good qs (pushDo e w s) := by
  unfold pushDo
  repeat' first
    | with_reducible assumption
    | (refine fun _ => ?_)
    | lift_lets
    | (intro x; refine sup (Good qs x) ?_ ?_; (on_goal 1 => subst x); (on_goal 2 => (intro _; clear_value x)))
    | (intro x; clear_value x)
    | intro x
    | split
    | with_reducible apply rnlFlag_good
    | with_reducible apply rset_good
    | with_reducible apply State.bump_good
    | with_reducible apply pushOut_good
    | with_reducible apply rnlNext_good

theorem rnlPushF_good (e : Fin 8) (w : Nat) (s : State) (hg : Good qs s) : Good qs (rnlPushF e w s) := by
  unfold rnlPushF
  repeat' first
    | with_reducible assumption
    | (refine fun _ => ?_)
    | lift_lets
    | intro x
    | split
    | with_reducible apply rnlWait_good
    | with_reducible apply pushDo_good

theorem pullDo_good (e : Fin 8) (w : Nat) (s : State) (hg : Good qs s) : Good qs (pullDo e w s) := by
  unfold pullDo
  repeat' first
    | with_reducible assumption
    | (refine fun _ => ?_)
    | lift_lets
    | (intro x; refine sup (Good qs x) ?_ ?_; (on_goal 1 => subst x); (on_goal 2 => (intro _; clear_value x)))
    | intro x
    | split
    | with_reducible apply rnlNext_good
    | with_reducible apply rset_good
    | with_reducible apply State.updRnl_good

theorem rnlPullF_good (e : Fin 8) (w : Nat) (s : State) (hg : Good qs s) : Good qs (rnlPullF e w s) := by
  unfold rnlPullF
  repeat' first
    | with_reducible assumption
    | (refine fun _ => ?_)
    | lift_lets
    | intro x
    | split
    | with_reducible apply rnlWait_good
    | with_reducible apply pullDo_good

theorem rnlMovF_good (e : Fin 8) (w : Nat) (s : State) (hg : Good qs s) : Good qs (rnlMovF e w s) := by
  unfold rnlMovF
  repeat' first
    | with_reducible assumption
    | (refine fun _ => ?_)
    | lift_lets
    | (intro x; clear_value x)
    | intro x
    | split
    | with_reducible apply rnlNext_good
    | with_reducible apply rset_good

theorem rnlAluF_good (e : Fin 8) (w : Nat) (s : State) (hg : Good qs s) : Good qs (rnlAluF e w s) := by
  unfold rnlAluF
  repeat' first
    | with_reducible assumption
    | (refine fun _ => ?_)
    | lift_lets
    | (intro x; clear_value x)
    | intro x
    | split
    | with_reducible apply rnlNext_good
    | with_reducible apply rset_good

theorem waittDone_good (e : Fin 8) (w : Nat) (s : State) (hg : Good qs s) : Good qs (waittDone e w s) := by
  unfold waittDone
  repeat' first
    | with_reducible assumption
    | (refine fun _ => ?_)
    | lift_lets
    | intro x
    | split
    | with_reducible apply rnlNext_good
    | with_reducible apply advanceT_good

theorem rnlWaittF_good (e : Fin 8) (w : Nat) (s : State) (hg : Good qs s) : Good qs (rnlWaittF e w s) := by
  unfold rnlWaittF
  repeat' first
    | with_reducible assumption
    | (refine fun _ => ?_)
    | lift_lets
    | intro x
    | split
    | with_reducible apply waittDone_good
    | with_reducible apply rnlWait_good

theorem rnlWaitEndStep_good (e : Fin 8) (s : State) (hg : Good qs s) : Good qs (rnlWaitEndStep e s) := by
  unfold rnlWaitEndStep
  repeat' first
    | with_reducible assumption
    | (refine fun _ => ?_)
    | lift_lets
    | (intro x; clear_value x)
    | intro x
    | split
    | with_reducible apply pinDo_good
    | with_reducible apply waitpTry_good
    | with_reducible apply shiftTry_good
    | with_reducible apply pushDo_good
    | with_reducible apply pullDo_good
    | with_reducible apply waittDone_good

theorem rnlRunStep_good (v : Word) (s : State) (hg : Good qs s) : Good qs (rnlRunStep v s) := by
  unfold rnlRunStep
  repeat' first
    | with_reducible assumption
    | (refine fun _ => ?_)
    | lift_lets
    | (intro x; refine sup (Good qs x) ?_ ?_; (on_goal 1 => subst x); (on_goal 2 => (intro _; clear_value x)))
    | (intro x; clear_value x)
    | intro x
    | split
    | with_reducible apply foldS_good
    | with_reducible apply State.wr_good
    | with_reducible apply State.updRnl_good

theorem progRefused_good (e : Fin 8) (s : State) (hg : Good qs s) : Good qs (progRefused e s) := by
  unfold progRefused
  repeat' first
    | with_reducible assumption
    | (refine fun _ => ?_)
    | lift_lets
    | intro x
    | split
    | with_reducible apply rnlFlag_good
    | with_reducible apply State.err_good

theorem shiftClrStep_good (e : Fin 8) (s : State) (hg : Good qs s) : Good qs (shiftClrStep e s) := by
  unfold shiftClrStep
  repeat' first
    | with_reducible assumption
    | (refine fun _ => ?_)
    | lift_lets
    | intro x
    | split
    | with_reducible apply progRefused_good
    | with_reducible apply rset_good

theorem paddrAuto_good (e : Fin 8) (s : State) (hg : Good qs s) : Good qs (paddrAuto e s) := by
  unfold paddrAuto
  repeat' first
    | with_reducible assumption
    | (refine fun _ => ?_)
    | lift_lets
    | intro x
    | split
    | with_reducible apply rset_good

theorem rnlProgStep_good (e : Fin 8) (reg : Nat) (v : Word) (s : State) (hg : Good qs s) : Good qs (rnlProgStep e reg v s) := by
  unfold rnlProgStep
  repeat' first
    | with_reducible assumption
    | (refine fun _ => ?_)
    | lift_lets
    | (intro x; clear_value x)
    | intro x
    | split
    | with_reducible apply progRefused_good
    | with_reducible apply rset_good
    | with_reducible apply paddrAuto_good
    | with_reducible apply State.updRnl_good

theorem rnlInStep_good (e : Fin 8) (v : Word) (s : State) (hg : Good qs s) : Good qs (rnlInStep e v s) := by
  unfold rnlInStep
  repeat' first
    | with_reducible assumption
    | (refine fun _ => ?_)
    | lift_lets
    | intro x
    | split
    | with_reducible apply State.err_good
    | with_reducible apply State.updRnl_good

theorem rnlOutStep_good (e : Fin 8) (s : State) (hg : Good qs s) : Good qs (rnlOutStep e s) := by
  unfold rnlOutStep
  repeat' first
    | with_reducible assumption
    | (refine fun _ => ?_)
    | lift_lets
    | intro x
    | split
    | with_reducible apply State.respond_good
    | with_reducible apply State.updRnl_good

end Sys2Proof.Machine
end

