-- ==== Sys2Proof/Laws/SoundCommit.lean ====
section
/-! SUPPORT. Every state function of Machine/Commit.lean keeps the invariant `Good` of Laws/Sound.lean. -/

namespace Sys2Proof.Machine

variable {qs : List Instr}

theorem pendShadow_good (a : Nat) (s : State) (hg : Good qs s) : Good qs (pendShadow a s) := by
  unfold pendShadow
  repeat' first
    | with_reducible assumption
    | (refine fun _ => ?_)
    | lift_lets
    | (intro x; clear_value x)
    | intro x
    | split
    | with_reducible apply State.pendCommit_good
    | (refine good_of_parts ?_; dsimp only; refine parts_of_good ?_; with_reducible assumption)

theorem commitStep_good (p : Nat) (s : State) (hg : Good qs s) : Good qs (commitStep p s) := by
  unfold commitStep
  repeat' first
    | with_reducible assumption
    | (refine fun _ => ?_)
    | lift_lets
    | (intro x; (have y : Sys := x; clear y); subst x)
    | (intro x; clear_value x)
    | intro x
    | split
    | (refine good_of_parts ?_; dsimp only; refine parts_of_good ?_; with_reducible assumption)

theorem commitJudge_good (p : Nat) (s : State) (hg : Good qs s) : Good qs (commitJudge p s) := by
  unfold commitJudge
  repeat' first
    | with_reducible assumption
    | (refine fun _ => ?_)
    | lift_lets
    | intro x
    | split
    | with_reducible apply foldS_good
    | with_reducible apply State.wr_good
    | with_reducible apply State.err_good
    | with_reducible apply pendShadow_good

theorem commitsJudge_good (s : State) (hg : Good qs s) : Good qs (commitsJudge s) := by
  unfold commitsJudge
  repeat' first
    | with_reducible assumption
    | (refine fun _ => ?_)
    | lift_lets
    | (intro x; (have y : Sys := x; clear y); subst x)
    | (intro x; clear_value x)
    | intro x
    | split
    | with_reducible apply foldS_good
    | with_reducible apply commitJudge_good
    | (refine good_of_parts ?_; dsimp only; refine parts_of_good ?_; with_reducible assumption)

theorem softResetStep_good (p : Nat) (s : State) (hg : Good qs s) : Good qs (softResetStep p s) := by
  unfold softResetStep
  repeat' first
    | with_reducible assumption
    | (refine fun _ => ?_)
    | lift_lets
    | (intro x; (have y : Sys := x; clear y); subst x)
    | (intro x; clear_value x)
    | intro x
    | split
    | with_reducible apply State.err_good
    | (refine good_of_parts ?_; dsimp only; refine parts_of_good ?_; with_reducible assumption)

theorem resetRegsFrom_good (o p : Nat) (s : State) (hg : Good qs s) : Good qs (resetRegsFrom o p s) := by
  unfold resetRegsFrom
  repeat' first
    | with_reducible assumption
    | (refine fun _ => ?_)
    | lift_lets
    | (intro x; clear_value x)
    | intro x
    | split
    | (refine good_of_parts ?_; dsimp only; refine parts_of_good ?_; with_reducible assumption)

theorem resetRegs_good (p : Nat) (s : State) (hg : Good qs s) : Good qs (resetRegs p s) := by
  unfold resetRegs
  repeat' first
    | with_reducible assumption
    | (refine fun _ => ?_)
    | lift_lets
    | intro x
    | split
    | with_reducible apply resetRegsFrom_good

theorem resetPage_good (p : Nat) (s : State) (hg : Good qs s) : Good qs (resetPage p s) := by
  unfold resetPage
  repeat' first
    | with_reducible assumption
    | (refine fun _ => ?_)
    | lift_lets
    | intro x
    | split
    | with_reducible apply resetRegsFrom_good

theorem strapConv_good (k : Fin 4) (s : State) (hg : Good qs s) : Good qs (strapConv k s) := by
  unfold strapConv
  repeat' first
    | with_reducible assumption
    | (refine fun _ => ?_)
    | lift_lets
    | (intro x; clear_value x)
    | intro x
    | split
    | with_reducible apply State.setReg_good
    | with_reducible apply State.setAct_good

theorem flashReset_good (s : State) (hg : Good qs s) : Good qs (flashReset s) := by
  unfold flashReset
  repeat' first
    | with_reducible assumption
    | (refine fun _ => ?_)
    | lift_lets
    | (intro x; refine sup (Good qs x) ?_ ?_; (on_goal 1 => subst x); (on_goal 2 => (intro _; clear_value x)))
    | (intro x; clear_value x)
    | intro x
    | split
    | with_reducible apply State.updLink_good
    | (refine good_of_parts ?_; dsimp only; refine parts_of_good ?_; with_reducible assumption)

theorem resetUnits_good (p : Nat) (s : State) (hg : Good qs s) : Good qs (resetUnits p s) := by
  unfold resetUnits
  repeat' first
    | with_reducible assumption
    | (refine fun _ => ?_)
    | lift_lets
    | (intro x; refine sup (Good qs x) ?_ ?_; (on_goal 1 => subst x); (on_goal 2 => (intro _; clear_value x)))
    | (intro x; clear_value x)
    | intro x
    | split
    | with_reducible apply strapConv_good
    | with_reducible apply State.updConv_good
    | with_reducible apply flashReset_good
    | (refine good_of_parts ?_; dsimp only; refine parts_of_good ?_; with_reducible assumption)

theorem doSoftReset_good (p : Nat) (s : State) (hg : Good qs s) : Good qs (doSoftReset p s) := by
  unfold doSoftReset
  repeat' first
    | with_reducible assumption
    | (refine fun _ => ?_)
    | lift_lets
    | intro x
    | split
    | with_reducible apply resetUnits_good
    | with_reducible apply resetRegs_good

theorem actSoftResets_good (s : State) (hg : Good qs s) : Good qs (actSoftResets s) := by
  unfold actSoftResets
  repeat' first
    | with_reducible assumption
    | (refine fun _ => ?_)
    | lift_lets
    | (intro x; (have y : Sys := x; clear y); subst x)
    | (intro x; clear_value x)
    | intro x
    | split
    | with_reducible apply foldS_good
    | with_reducible apply doSoftReset_good
    | with_reducible apply State.err_good
    | (refine good_of_parts ?_; dsimp only; refine parts_of_good ?_; with_reducible assumption)

theorem enableStep_good (p : Nat) (on : Bool) (s : State) (hg : Good qs s) : Good qs (enableStep p on s) := by
  unfold enableStep
  repeat' first
    | with_reducible assumption
    | (refine fun _ => ?_)
    | lift_lets
    | (intro x; refine sup (Good qs x) ?_ ?_; (on_goal 1 => subst x); (on_goal 2 => (intro _; clear_value x)))
    | intro x
    | split
    | with_reducible apply foldS_good
    | with_reducible apply State.wr_good
    | with_reducible apply dmaServe_good
    | with_reducible apply State.err_good

theorem evtSetStep_good (p v : Nat) (s : State) (hg : Good qs s) : Good qs (evtSetStep p v s) := by
  unfold evtSetStep
  repeat' first
    | with_reducible assumption
    | (refine fun _ => ?_)
    | lift_lets
    | intro x
    | split
    | with_reducible apply foldS_good
    | with_reducible apply State.raiseIf_good

theorem ctrlStep_good (p : Nat) (v : Word) (s : State) (hg : Good qs s) : Good qs (ctrlStep p v s) := by
  unfold ctrlStep
  repeat' first
    | with_reducible assumption
    | (refine fun _ => ?_)
    | lift_lets
    | (intro x; refine sup (Good qs x) ?_ ?_; (on_goal 1 => subst x); (on_goal 2 => (intro _; clear_value x)))
    | intro x
    | split
    | with_reducible apply softResetStep_good
    | with_reducible apply commitStep_good
    | with_reducible apply enableStep_good
    | with_reducible apply State.wr_good

theorem evtRawStep_good (p : Nat) (v : Word) (s : State) (hg : Good qs s) : Good qs (evtRawStep p v s) := by
  unfold evtRawStep
  repeat' first
    | with_reducible assumption
    | (refine fun _ => ?_)
    | lift_lets
    | (intro x; clear_value x)
    | intro x
    | split
    | with_reducible apply foldS_good
    | with_reducible apply State.setReg_good

end Sys2Proof.Machine
end

