-- ==== Sys2Proof/Laws/SoundLinkBase.lean ====
section
/-! SUPPORT. Every state function of Machine/LinkBase.lean keeps the invariant `Good` of Laws/Sound.lean. -/

namespace Sys2Proof.Machine

variable {qs : List Instr}

theorem setPort_good (p : Fin 2) (n : Nat) (s : State) (hg : Good qs s) : Good qs (setPort p n s) := by
  unfold setPort
  repeat' first
    | with_reducible assumption
    | (refine fun _ => ?_)
    | lift_lets
    | intro x
    | split
    | with_reducible apply State.wr_good
    | with_reducible apply State.updPort_good
    | with_reducible apply State.raise_good

theorem putOut_good (p : Fin 2) (x : LinkTx) (s : State) (hg : Good qs s) : Good qs (putOut p x s) := by
  unfold putOut
  repeat' first
    | with_reducible assumption
    | (refine fun _ => ?_)
    | lift_lets
    | intro x
    | split
    | with_reducible apply State.updLink_good

theorem sendFrame_good (p : Fin 2) (f : LinkFrame) (s : State) (hg : Good qs s) : Good qs (sendFrame p f s) := by
  unfold sendFrame
  repeat' first
    | with_reducible assumption
    | (refine fun _ => ?_)
    | lift_lets
    | (intro x; refine sup (Good qs x) ?_ ?_; (on_goal 1 => subst x); (on_goal 2 => (intro _; clear_value x)))
    | (intro x; clear_value x)
    | intro x
    | split
    | with_reducible apply State.updPort_good
    | with_reducible apply putOut_good

theorem sendWaiting_good (p : Fin 2) (s : State) (hg : Good qs s) : Good qs (sendWaiting p s) := by
  unfold sendWaiting
  repeat' first
    | with_reducible assumption
    | (refine fun _ => ?_)
    | lift_lets
    | (intro x; clear_value x)
    | intro x
    | split
    | with_reducible apply foldS_good
    | with_reducible apply sendFrame_good
    | with_reducible apply State.updPort_good

theorem peerSend_good (who : PeerWho) (init a n : Nat) (write : Bool) (v : Nat) (s : State) (hg : Good qs s) : Good qs (peerSend who init a n write v s).2 := by
  unfold peerSend
  repeat' first
    | with_reducible assumption
    | (refine fun _ => ?_)
    | lift_lets
    | (intro x; refine sup (Good qs x) ?_ ?_; (on_goal 1 => subst x); (on_goal 2 => (intro _; clear_value x)))
    | (intro x; clear_value x)
    | intro x
    | split
    | with_reducible apply monBeat_good
    | with_reducible apply State.updLink_good
    | with_reducible apply sendFrame_good

theorem remoteWrite_good (j : Fin 8) (n : Nat) (peer : Nat) (v : Word) (s : State) (hg : Good qs s) : Good qs (remoteWrite j n peer v s) := by
  unfold remoteWrite
  repeat' first
    | with_reducible assumption
    | (refine fun _ => ?_)
    | lift_lets
    | intro x
    | split
    | with_reducible apply State.updLink_good

theorem remoteFail_good (j : Fin 8) (s : State) (hg : Good qs s) : Good qs (remoteFail j s) := by
  unfold remoteFail
  repeat' first
    | with_reducible assumption
    | (refine fun _ => ?_)
    | lift_lets
    | intro x
    | split
    | with_reducible apply State.updLink_good

theorem remoteResult_good (j : Fin 8) (peer : Nat) (res seq : Word) (s : State) (hg : Good qs s) : Good qs (remoteResult j peer res seq s) := by
  unfold remoteResult
  repeat' first
    | with_reducible assumption
    | (refine fun _ => ?_)
    | lift_lets
    | intro x
    | split
    | with_reducible apply State.updLink_good

theorem remoteSubmit_good (init : Initiator) (j : Fin 8) (peer : Nat) (v : Word) (s : State) (hg : Good qs s) : Good qs (remoteSubmit init j peer v s).2 := by
  unfold remoteSubmit
  repeat' first
    | with_reducible assumption
    | (refine fun _ => ?_)
    | lift_lets
    | (intro x; refine sup (Good qs x) ?_ ?_; (on_goal 1 => subst x); (on_goal 2 => (intro _; clear_value x)))
    | (intro x; clear_value x)
    | intro x
    | split
    | with_reducible apply State.bump_good
    | with_reducible apply State.raise_good
    | with_reducible apply remoteResult_good
    | with_reducible apply monBeat_good
    | with_reducible apply State.updLink_good
    | with_reducible apply sendFrame_good

theorem evtPopStep_good (s : State) (hg : Good qs s) : Good qs (evtPopStep s) := by
  unfold evtPopStep
  repeat' first
    | with_reducible assumption
    | (refine fun _ => ?_)
    | lift_lets
    | intro x
    | split
    | with_reducible apply State.respond_good
    | with_reducible apply State.updLink_good

theorem msgPayStep_good (s : State) (hg : Good qs s) : Good qs (msgPayStep s) := by
  unfold msgPayStep
  repeat' first
    | with_reducible assumption
    | (refine fun _ => ?_)
    | lift_lets
    | (intro x; refine sup (Good qs x) ?_ ?_; (on_goal 1 => subst x); (on_goal 2 => (intro _; clear_value x)))
    | intro x
    | split
    | with_reducible apply State.respond_good
    | with_reducible apply State.updLink_good
    | with_reducible apply State.wr_good

theorem rstCmdStep_good (v : Word) (s : State) (hg : Good qs s) : Good qs (rstCmdStep v s) := by
  unfold rstCmdStep
  repeat' first
    | with_reducible assumption
    | (refine fun _ => ?_)
    | lift_lets
    | (intro x; refine sup (Good qs x) ?_ ?_; (on_goal 1 => subst x); (on_goal 2 => (intro _; clear_value x)))
    | intro x
    | split
    | with_reducible apply State.wr_good
    | with_reducible apply State.updLink_good

end Sys2Proof.Machine
end

