-- ==== Sys2Proof/Laws/SoundCycles.lean ====
section
/-! SUPPORT. Every state function of Machine/Cycles.lean keeps the invariant `Good` of Laws/Sound.lean. -/

namespace Sys2Proof.Machine

variable {qs : List Instr}


theorem setRot_good (port : Nat) (r : Rot) (s : State) (hg : Good qs s) : Good qs (setRot port r s) := by
  unfold setRot
  repeat' first
    | with_reducible assumption
    | (refine fun _ => ?_)
    | lift_lets
    | (intro x; clear_value x)
    | intro x
    | split
    | (refine good_of_parts ?_; dsimp only; refine parts_of_good ?_; with_reducible assumption)

theorem takeTurn_good (code port : Nat) (s : State) (hg : Good qs s) : Good qs (takeTurn code port s) := by
  unfold takeTurn
  repeat' first
    | with_reducible assumption
    | (refine fun _ => ?_)
    | lift_lets
    | intro x
    | split
    | with_reducible apply setRot_good

theorem addWait_good (r : WaitReq) (s : State) (hg : Good qs s) : Good qs (addWait r s) := by
  unfold addWait
  repeat' first
    | with_reducible assumption
    | (refine fun _ => ?_)
    | lift_lets
    | (intro x; clear_value x)
    | intro x
    | split
    | (refine good_of_parts ?_; dsimp only; refine parts_of_good ?_; with_reducible assumption)

end Sys2Proof.Machine
end

