-- ==== Sys2Proof/Laws/SoundTracker.lean ====
section
/-! SUPPORT. Every state function of Machine/Tracker.lean keeps the invariant `Good` of Laws/Sound.lean. -/

namespace Sys2Proof.Machine

variable {qs : List Instr}

theorem trimSnapshot_good (t : Fin 2) (angle : Nat) (s : State) (hg : Good qs s) : Good qs (trimSnapshot t angle s) := by
  unfold trimSnapshot
  repeat' first
    | with_reducible assumption
    | (refine fun _ => ?_)
    | lift_lets
    | (intro x; clear_value x)
    | intro x
    | split
    | with_reducible apply snapshotTrims_good
    | (refine good_of_parts ?_; dsimp only; refine parts_of_good ?_; with_reducible assumption)

theorem noteJump_good (t : Fin 2) (step : Nat) (s : State) (hg : Good qs s) : Good qs (noteJump t step s) := by
  unfold noteJump
  repeat' first
    | with_reducible assumption
    | (refine fun _ => ?_)
    | lift_lets
    | (intro x; refine sup (Good qs x) ?_ ?_; (on_goal 1 => subst x); (on_goal 2 => (intro _; clear_value x)))
    | (intro x; clear_value x)
    | intro x
    | split
    | with_reducible apply State.wr_good

theorem deviceStep_good (t : Fin 2) (before old truth : Nat) (s : State) (hg : Good qs s) : Good qs (deviceStep t before old truth s) := by
  unfold deviceStep
  repeat' first
    | with_reducible assumption
    | (refine fun _ => ?_)
    | lift_lets
    | (intro x; refine sup (Good qs x) ?_ ?_; (on_goal 1 => subst x); (on_goal 2 => (intro _; clear_value x)))
    | (intro x; clear_value x)
    | intro x
    | split
    | with_reducible apply sweepTo_good
    | with_reducible apply reachPos_good
    | with_reducible apply updDev_good
    | with_reducible rfl

theorem acceptSync_good (t : Fin 2) (e : EdgeIn) (resume verify : Bool) (s : State) (hg : Good qs s) : Good qs (acceptSync t e resume verify s) := by
  unfold acceptSync
  repeat' first
    | with_reducible assumption
    | (refine fun _ => ?_)
    | lift_lets
    | (intro x; refine sup (Good qs x) ?_ ?_; (on_goal 1 => subst x); (on_goal 2 => (intro _; clear_value x)))
    | (intro x; clear_value x)
    | intro x
    | split
    | with_reducible apply noteJump_good
    | with_reducible apply signatureEdge_good
    | with_reducible apply shadowMeasure_good
    | with_reducible apply State.updTrk_good
    | with_reducible apply deviceStep_good
    | with_reducible apply trimSnapshot_good
    | with_reducible apply ownPassed_good
    | with_reducible apply envelopeEdge_good

theorem resumeMotion_good (t : Fin 2) (e : EdgeIn) (verify : Bool) (s : State) (hg : Good qs s) : Good qs (resumeMotion t e verify s) := by
  unfold resumeMotion
  repeat' first
    | with_reducible assumption
    | (refine fun _ => ?_)
    | lift_lets
    | (intro x; refine sup (Good qs x) ?_ ?_; (on_goal 1 => subst x); (on_goal 2 => (intro _; clear_value x)))
    | intro x
    | split
    | with_reducible apply State.bump_good
    | with_reducible apply enterRunning_good
    | with_reducible apply pendingDisarm_good
    | with_reducible apply acceptSync_good

theorem syncEdge_good (t : Fin 2) (e : EdgeIn) (s : State) (hg : Good qs s) : Good qs (syncEdge t e s) := by
  unfold syncEdge
  repeat' first
    | with_reducible assumption
    | (refine fun _ => ?_)
    | lift_lets
    | intro x
    | split
    | with_reducible apply State.updTrk_good
    | with_reducible apply resumeMotion_good
    | with_reducible apply spuriousEdge_good
    | with_reducible apply loseSync_good
    | with_reducible apply acceptSync_good

theorem crankEdgeStep_good (t : Fin 2) (s : State) (hg : Good qs s) : Good qs (crankEdgeStep t s) := by
  unfold crankEdgeStep
  repeat' first
    | with_reducible assumption
    | (refine fun _ => ?_)
    | lift_lets
    | (intro x; refine sup (Good qs x) ?_ ?_; (on_goal 1 => subst x); (on_goal 2 => (intro _; clear_value x)))
    | intro x
    | split
    | with_reducible apply State.updTrk_good
    | with_reducible apply State.fire_good
    | with_reducible apply syncEdge_good
    | with_reducible apply acqEdge_good

theorem phaseMeasure_good (t : Fin 2) (w : Fin 4) (raw : Int) (s : State) (hg : Good qs s) : Good qs (phaseMeasure t w raw s) := by
  unfold phaseMeasure
  repeat' first
    | with_reducible assumption
    | (refine fun _ => ?_)
    | lift_lets
    | (intro x; refine sup (Good qs x) ?_ ?_; (on_goal 1 => subst x); (on_goal 2 => (intro _; clear_value x)))
    | (intro x; clear_value x)
    | intro x
    | split
    | with_reducible apply State.wr_good
    | with_reducible apply State.updTrk_good
    | with_reducible apply State.raiseIf_good

theorem camMiss_good (t : Fin 2) (w : Nat) (s : State) (hg : Good qs s) : Good qs (camMiss t w s) := by
  unfold camMiss
  repeat' first
    | with_reducible assumption
    | (refine fun _ => ?_)
    | lift_lets
    | (intro x; refine sup (Good qs x) ?_ ?_; (on_goal 1 => subst x); (on_goal 2 => (intro _; clear_value x)))
    | intro x
    | split
    | with_reducible apply State.bump_good
    | with_reducible apply State.updTrk_good
    | with_reducible apply loseSync_good

theorem syncCam_good (t : Fin 2) (e : EdgeIn) (s : State) (hg : Good qs s) : Good qs (syncCam t e s) := by
  unfold syncCam
  repeat' first
    | with_reducible assumption
    | (refine fun _ => ?_)
    | lift_lets
    | (intro x; refine sup (Good qs x) ?_ ?_; (on_goal 1 => subst x); (on_goal 2 => (intro _; clear_value x)))
    | (intro x; clear_value x)
    | intro x
    | split
    | with_reducible apply State.updTrk_good
    | with_reducible apply phaseMeasure_good
    | with_reducible apply camMiss_good

theorem camEdgeStep_good (t : Fin 2) (s : State) (hg : Good qs s) : Good qs (camEdgeStep t s) := by
  unfold camEdgeStep
  repeat' first
    | with_reducible assumption
    | (refine fun _ => ?_)
    | lift_lets
    | (intro x; refine sup (Good qs x) ?_ ?_; (on_goal 1 => subst x); (on_goal 2 => (intro _; clear_value x)))
    | intro x
    | split
    | with_reducible apply State.updTrk_good
    | with_reducible apply evaluateCam_good
    | with_reducible apply syncCam_good

theorem declareStall_good (t : Fin 2) (s : State) (hg : Good qs s) : Good qs (declareStall t s) := by
  unfold declareStall
  repeat' first
    | with_reducible assumption
    | (refine fun _ => ?_)
    | lift_lets
    | (intro x; refine sup (Good qs x) ?_ ?_; (on_goal 1 => subst x); (on_goal 2 => (intro _; clear_value x)))
    | (intro x; clear_value x)
    | intro x
    | split
    | with_reducible apply State.bump_good
    | with_reducible apply State.wr_good
    | with_reducible apply loseHold_good
    | with_reducible apply State.updTrk_good
    | with_reducible apply endActions_good
    | with_reducible apply State.updPlan_good
    | with_reducible apply State.enter_good
    | with_reducible apply State.raise_good

theorem stallDeclareStep_good (s : State) (hg : Good qs s) : Good qs (stallDeclareStep s) := by
  unfold stallDeclareStep
  repeat' first
    | with_reducible assumption
    | (refine fun _ => ?_)
    | lift_lets
    | intro x
    | split
    | with_reducible apply foldS_good
    | with_reducible apply declareStall_good

theorem holdExpireStep_good (s : State) (hg : Good qs s) : Good qs (holdExpireStep s) := by
  unfold holdExpireStep
  repeat' first
    | with_reducible assumption
    | (refine fun _ => ?_)
    | lift_lets
    | (intro x; clear_value x)
    | intro x
    | split
    | with_reducible apply foldS_good
    | with_reducible apply loseHold_good

theorem turnTracker_good (t : Fin 2) (lead : Nat) (s : State) (hg : Good qs s) : Good qs (turnTracker t lead s) := by
  unfold turnTracker
  repeat' first
    | with_reducible assumption
    | (refine fun _ => ?_)
    | lift_lets
    | (intro x; refine sup (Good qs x) ?_ ?_; (on_goal 1 => subst x); (on_goal 2 => (intro _; clear_value x)))
    | (intro x; clear_value x)
    | intro x
    | split
    | with_reducible apply setAstern_good
    | with_reducible apply State.updTrk_good

theorem ownTurned_good (t : Fin 2) (before : Nat) (s : State) (hg : Good qs s) : Good qs (ownTurned t before s) := by
  unfold ownTurned
  repeat' first
    | with_reducible assumption
    | (refine fun _ => ?_)
    | lift_lets
    | (intro x; clear_value x)
    | intro x
    | split
    | with_reducible apply ownPassed_good

theorem deviceTurned_good (before : Nat) (s : State) (hg : Good qs s) : Good qs (deviceTurned before s) := by
  unfold deviceTurned
  repeat' first
    | with_reducible assumption
    | (refine fun _ => ?_)
    | lift_lets
    | (intro x; clear_value x)
    | intro x
    | split
    | with_reducible apply deviceBoundary_good

theorem reversalWith_good (t : Fin 2) (turn : State → State) (s : State) (hturn : ∀ s, Good qs s → Good qs (turn s)) (hg : Good qs s) : Good qs (reversalWith t turn s) := by
  unfold reversalWith
  repeat' first
    | with_reducible assumption
    | (refine fun _ => ?_)
    | lift_lets
    | (intro x; refine sup (Good qs x) ?_ ?_; (on_goal 1 => subst x); (on_goal 2 => (intro _; clear_value x)))
    | (intro x; clear_value x)
    | intro x
    | split
    | with_reducible apply State.bump_good
    | with_reducible apply State.raise_good
    | with_reducible apply loseSync_good
    | with_reducible apply clearTrims_good
    | with_reducible apply endActions_good
    | with_reducible apply State.updPlan_good
    | with_reducible apply ownTurned_good
    | with_reducible apply deviceTurned_good
    | with_reducible apply enterRunning_good
    | with_reducible apply pendingDisarm_good
    | with_reducible apply placeHeads_good
    | with_reducible apply hturn
    | with_reducible apply updDev_good
    | with_reducible rfl

theorem reversal_good (t : Fin 2) (lead : Nat) (s : State) (hg : Good qs s) : Good qs (reversal t lead s) := by
  unfold reversal
  repeat' first
    | with_reducible assumption
    | (refine fun _ => ?_)
    | lift_lets
    | intro x
    | split
    | with_reducible apply reversalWith_good
    | with_reducible apply turnTracker_good

theorem pulseReversal_good (t : Fin 2) (lead : Nat) (rev : Bool) (s : State) (hg : Good qs s) : Good qs (pulseReversal t lead rev s) := by
  unfold pulseReversal
  repeat' first
    | with_reducible assumption
    | (refine fun _ => ?_)
    | lift_lets
    | (intro x; refine sup (Good qs x) ?_ ?_; (on_goal 1 => subst x); (on_goal 2 => (intro _; clear_value x)))
    | intro x
    | split
    | with_reducible apply reversal_good
    | with_reducible apply turnHistory_good

theorem classedPulse_good (t : Fin 2) (lead cls : Nat) (s : State) (hg : Good qs s) : Good qs (classedPulse t lead cls s) := by
  unfold classedPulse
  repeat' first
    | with_reducible assumption
    | (refine fun _ => ?_)
    | lift_lets
    | (intro x; refine sup (Good qs x) ?_ ?_; (on_goal 1 => subst x); (on_goal 2 => (intro _; clear_value x)))
    | (intro x; clear_value x)
    | intro x
    | split
    | with_reducible apply acqClass_good
    | with_reducible apply State.updTrk_good
    | with_reducible apply pulseReversal_good
    | with_reducible apply resumeMotion_good

theorem dirClassStep_good (w : Fin 4) (s : State) (hg : Good qs s) : Good qs (dirClassStep w s) := by
  unfold dirClassStep
  repeat' first
    | with_reducible assumption
    | (refine fun _ => ?_)
    | lift_lets
    | (intro x; refine sup (Good qs x) ?_ ?_; (on_goal 1 => subst x); (on_goal 2 => (intro _; clear_value x)))
    | (intro x; clear_value x)
    | intro x
    | split
    | with_reducible apply foldS_good
    | with_reducible apply State.updWheel_good
    | with_reducible apply dirClassRegs_good
    | with_reducible apply classedPulse_good

theorem angleReadStep_good (t : Fin 2) (s : State) (hg : Good qs s) : Good qs (angleReadStep t s) := by
  unfold angleReadStep
  repeat' first
    | with_reducible assumption
    | (refine fun _ => ?_)
    | lift_lets
    | (intro x; refine sup (Good qs x) ?_ ?_; (on_goal 1 => subst x); (on_goal 2 => (intro _; clear_value x)))
    | (intro x; clear_value x)
    | intro x
    | split
    | with_reducible apply State.wr_good
    | with_reducible apply State.respond_good

end Sys2Proof.Machine
end

