-- ==== Sys2Proof/Laws/SoundXchk.lean ====
section
/-! SUPPORT. Every state function of Machine/Xchk.lean keeps the invariant `Good` of Laws/Sound.lean. -/

namespace Sys2Proof.Machine

variable {qs : List Instr}

theorem leaveXchk_good (t : Fin 2) (s : State) (hg : Good qs s) : Good qs (leaveXchk t s) := by
  unfold leaveXchk
  repeat' first
    | with_reducible assumption
    | (refine fun _ => ?_)
    | lift_lets
    | intro x
    | split
    | with_reducible apply State.updTrk_good

theorem giveControl_good (t : Fin 2) (s : State) (hg : Good qs s) : Good qs (giveControl t s) := by
  unfold giveControl
  repeat' first
    | with_reducible assumption
    | (refine fun _ => ?_)
    | lift_lets
    | intro x
    | split
    | with_reducible apply leaveXchk_good
    | with_reducible apply decideHandover_good

theorem hardDisagreement_good (start : Bool) (s : State) (hg : Good qs s) : Good qs (hardDisagreement start s) := by
  unfold hardDisagreement
  repeat' first
    | with_reducible assumption
    | (refine fun _ => ?_)
    | lift_lets
    | (intro x; refine sup (Good qs x) ?_ ?_; (on_goal 1 => subst x); (on_goal 2 => (intro _; clear_value x)))
    | (intro x; clear_value x)
    | intro x
    | split
    | with_reducible apply setIfault_good
    | with_reducible apply giveControl_good
    | with_reducible apply State.raise_good
    | with_reducible apply State.wr_good
    | with_reducible apply violation_good
    | (refine good_of_parts ?_; dsimp only; refine parts_of_good ?_; with_reducible assumption)

theorem faultyDisagreement_good (start : Bool) (s : State) (hg : Good qs s) : Good qs (faultyDisagreement start s) := by
  unfold faultyDisagreement
  repeat' first
    | with_reducible assumption
    | (refine fun _ => ?_)
    | lift_lets
    | intro x
    | split
    | with_reducible apply State.raise_good
    | with_reducible apply State.wr_good

theorem compareAngles_good (s : State) (hg : Good qs s) : Good qs (compareAngles s) := by
  unfold compareAngles
  repeat' first
    | with_reducible assumption
    | (refine fun _ => ?_)
    | lift_lets
    | (intro x; refine sup (Good qs x) ?_ ?_; (on_goal 1 => subst x); (on_goal 2 => (intro _; clear_value x)))
    | (intro x; clear_value x)
    | intro x
    | split
    | with_reducible apply State.wr_good
    | with_reducible apply State.bump_good
    | with_reducible apply State.raise_good
    | with_reducible apply faultyDisagreement_good
    | with_reducible apply hardDisagreement_good
    | (refine good_of_parts ?_; dsimp only; refine parts_of_good ?_; with_reducible assumption)

theorem noCompare_good (s : State) (hg : Good qs s) : Good qs (noCompare s) := by
  unfold noCompare
  repeat' first
    | with_reducible assumption
    | (refine fun _ => ?_)
    | lift_lets
    | (intro x; refine sup (Good qs x) ?_ ?_; (on_goal 1 => subst x); (on_goal 2 => (intro _; clear_value x)))
    | (intro x; clear_value x)
    | intro x
    | split
    | with_reducible apply State.wr_good
    | with_reducible apply hf
    | (refine good_of_parts ?_; dsimp only; refine parts_of_good ?_; with_reducible assumption)

theorem faultOutcome_good (s : State) (hg : Good qs s) : Good qs (faultOutcome s) := by
  unfold faultOutcome
  repeat' first
    | with_reducible assumption
    | (refine fun _ => ?_)
    | lift_lets
    | (intro x; clear_value x)
    | intro x
    | split
    | with_reducible apply giveControl_good
    | with_reducible apply leaveXchk_good

theorem faultSpills_good (f : Option (Fin 2)) (s : State) (hg : Good qs s) : Good qs (faultSpills f s) := by
  unfold faultSpills
  repeat' first
    | with_reducible assumption
    | (refine fun _ => ?_)
    | lift_lets
    | intro x
    | split
    | with_reducible apply islandFault_good

theorem handbackAct_good (s : State) (hg : Good qs s) : Good qs (handbackAct s) := by
  unfold handbackAct
  repeat' first
    | with_reducible assumption
    | (refine fun _ => ?_)
    | lift_lets
    | (intro x; refine sup (Good qs x) ?_ ?_; (on_goal 1 => subst x); (on_goal 2 => (intro _; clear_value x)))
    | (intro x; clear_value x)
    | intro x
    | split
    | with_reducible apply State.wr_good
    | with_reducible apply State.err_good
    | with_reducible apply decideHandover_good
    | (refine good_of_parts ?_; dsimp only; refine parts_of_good ?_; with_reducible assumption)

theorem faultsAct_good (s : State) (hg : Good qs s) : Good qs (faultsAct s) := by
  unfold faultsAct
  repeat' first
    | with_reducible assumption
    | (refine fun _ => ?_)
    | lift_lets
    | intro x
    | split
    | with_reducible apply faultOutcome_good

theorem xchkTick_good (s : State) (hg : Good qs s) : Good qs (xchkTick s) := by
  unfold xchkTick
  repeat' first
    | with_reducible assumption
    | (refine fun _ => ?_)
    | lift_lets
    | (intro x; refine sup (Good qs x) ?_ ?_; (on_goal 1 => subst x); (on_goal 2 => (intro _; clear_value x)))
    | intro x
    | split
    | with_reducible apply compareAngles_good
    | with_reducible apply noCompare_good
    | with_reducible apply handbackAct_good

theorem rejoinStep_good (s : State) (hg : Good qs s) : Good qs (rejoinStep s) := by
  unfold rejoinStep
  repeat' first
    | with_reducible assumption
    | (refine fun _ => ?_)
    | lift_lets
    | intro x
    | split
    | with_reducible apply foldS_good
    | with_reducible apply State.updTrk_good

theorem handbackStep_good (s : State) (hg : Good qs s) : Good qs (handbackStep s) := by
  unfold handbackStep
  repeat' first
    | with_reducible assumption
    | (refine fun _ => ?_)
    | lift_lets
    | intro x
    | split
    | with_reducible apply State.wr_good
    | with_reducible apply State.err_good

end Sys2Proof.Machine
end

