-- ==== Sys2Proof/Laws/SoundPlanLoad.lean ====
section
/-! SUPPORT. Every state function of Machine/PlanLoad.lean keeps the invariant `Good` of Laws/Sound.lean. -/

namespace Sys2Proof.Machine

variable {qs : List Instr}

theorem setBoth_good (a : Nat) (w : Word) (s : State) (hg : Good qs s) : Good qs (setBoth a w s) := by
  unfold setBoth
  repeat' first
    | with_reducible assumption
    | (refine fun _ => ?_)
    | lift_lets
    | (intro x; refine sup (Good qs x) ?_ ?_; (on_goal 1 => subst x); (on_goal 2 => (intro _; clear_value x)))
    | intro x
    | split
    | with_reducible apply State.setReg_good
    | with_reducible apply State.setAct_good
    | with_reducible apply hf
    | (refine good_of_parts ?_; dsimp only; refine parts_of_good ?_; with_reducible assumption)

theorem writeTrkCfg_good (s : State) (hg : Good qs s) : Good qs (writeTrkCfg s) := by
  unfold writeTrkCfg
  repeat' first
    | with_reducible assumption
    | (refine fun _ => ?_)
    | lift_lets
    | intro x
    | split
    | with_reducible apply setBoth_good

theorem putLe8_good (a v : Nat) (s : State) (hg : Good qs s) : Good qs (putLe8 a v s) := by
  unfold putLe8
  repeat' first
    | with_reducible assumption
    | (refine fun _ => ?_)
    | lift_lets
    | (intro x; clear_value x)
    | intro x
    | split
    | with_reducible apply writeFull_good
    | with_reducible apply writeDec_good

theorem loadWheelInfo_good (g : Image) (s : State) (hg : Good qs s) : Good qs (loadWheelInfo g s) := by
  unfold loadWheelInfo
  repeat' first
    | with_reducible assumption
    | (refine fun _ => ?_)
    | lift_lets
    | intro x
    | split
    | with_reducible apply State.updPlan_good

theorem loadWheelCfg_good (g : Image) (s : State) (hg : Good qs s) : Good qs (loadWheelCfg g s) := by
  unfold loadWheelCfg
  repeat' first
    | with_reducible assumption
    | (refine fun _ => ?_)
    | lift_lets
    | intro x
    | split
    | with_reducible apply writeTrkCfg_good
    | with_reducible apply loadWheelInfo_good

theorem loadPatterns_good (g : Image) (s : State) (hg : Good qs s) : Good qs (loadPatterns g s) := by
  unfold loadPatterns
  repeat' first
    | with_reducible assumption
    | (refine fun _ => ?_)
    | lift_lets
    | intro x
    | split
    | with_reducible apply foldS_good
    | with_reducible apply hf
    | (refine good_of_parts ?_; dsimp only; refine parts_of_good ?_; with_reducible assumption)

theorem loadMicrocode_good (g : Image) (s : State) (hg : Good qs s) : Good qs (loadMicrocode g s) := by
  unfold loadMicrocode
  repeat' first
    | with_reducible assumption
    | (refine fun _ => ?_)
    | lift_lets
    | (intro x; refine sup (Good qs x) ?_ ?_; (on_goal 1 => subst x); (on_goal 2 => (intro _; clear_value x)))
    | intro x
    | split
    | with_reducible apply foldS_good
    | with_reducible apply writeSec_good
    | with_reducible apply State.updPlan_good

theorem loadCore_good (g : Image) (c : Fin 4) (s : State) (hg : Good qs s) : Good qs (loadCore g c s) := by
  unfold loadCore
  repeat' first
    | with_reducible assumption
    | (refine fun _ => ?_)
    | lift_lets
    | (intro x; refine sup (Good qs x) ?_ ?_; (on_goal 1 => subst x); (on_goal 2 => (intro _; clear_value x)))
    | (intro x; clear_value x)
    | intro x
    | split
    | with_reducible apply foldS_good
    | with_reducible apply State.wr_good
    | with_reducible apply writeSec_good
    | with_reducible apply dmemPut_good
    | with_reducible apply State.updCore_good

theorem loadFlume_good (g : Image) (s : State) (hg : Good qs s) : Good qs (loadFlume g s) := by
  unfold loadFlume
  repeat' first
    | with_reducible assumption
    | (refine fun _ => ?_)
    | lift_lets
    | (intro x; refine sup (Good qs x) ?_ ?_; (on_goal 1 => subst x); (on_goal 2 => (intro _; clear_value x)))
    | (intro x; clear_value x)
    | intro x
    | split
    | with_reducible apply foldS_good
    | with_reducible apply State.setReg_good
    | with_reducible apply State.wr_good
    | with_reducible apply writeDec_good

theorem loadScan_good (g : Image) (s : State) (hg : Good qs s) : Good qs (loadScan g s) := by
  unfold loadScan
  repeat' first
    | with_reducible assumption
    | (refine fun _ => ?_)
    | lift_lets
    | intro x
    | split
    | with_reducible apply foldS_good
    | with_reducible apply State.wr_good
    | with_reducible apply State.updPlan_good

theorem loadBusmap_good (g : Image) (s : State) (hg : Good qs s) : Good qs (loadBusmap g s) := by
  unfold loadBusmap
  repeat' first
    | with_reducible assumption
    | (refine fun _ => ?_)
    | lift_lets
    | intro x
    | split
    | with_reducible apply foldS_good
    | with_reducible apply State.updPlan_good

theorem loadEnvelope_good (g : Image) (s : State) (hg : Good qs s) : Good qs (loadEnvelope g s) := by
  unfold loadEnvelope
  repeat' first
    | with_reducible assumption
    | (refine fun _ => ?_)
    | lift_lets
    | intro x
    | split
    | with_reducible apply State.updPlan_good

theorem loadTrims_good (g : Image) (s : State) (hg : Good qs s) : Good qs (loadTrims g s) := by
  unfold loadTrims
  repeat' first
    | with_reducible assumption
    | (refine fun _ => ?_)
    | lift_lets
    | intro x
    | split
    | with_reducible apply foldS_good
    | with_reducible apply State.wr_good

theorem slotDefaults_good (s : State) (hg : Good qs s) : Good qs (slotDefaults s) := by
  unfold slotDefaults
  repeat' first
    | with_reducible assumption
    | (refine fun _ => ?_)
    | lift_lets
    | (intro x; refine sup (Good qs x) ?_ ?_; (on_goal 1 => subst x); (on_goal 2 => (intro _; clear_value x)))
    | (intro x; clear_value x)
    | intro x
    | split
    | with_reducible apply foldS_good
    | with_reducible apply storeClean_good
    | with_reducible apply hf
    | (refine good_of_parts ?_; dsimp only; refine parts_of_good ?_; with_reducible assumption)

theorem loadSlots_good (g : Image) (s : State) (hg : Good qs s) : Good qs (loadSlots g s) := by
  unfold loadSlots
  repeat' first
    | with_reducible assumption
    | (refine fun _ => ?_)
    | lift_lets
    | (intro x; clear_value x)
    | intro x
    | split
    | with_reducible apply foldS_good
    | with_reducible apply slotDefaults_good
    | with_reducible apply State.updPlan_good

theorem loadFurrows_good (g : Image) (s : State) (hg : Good qs s) : Good qs (loadFurrows g s) := by
  unfold loadFurrows
  repeat' first
    | with_reducible assumption
    | (refine fun _ => ?_)
    | lift_lets
    | intro x
    | split
    | with_reducible apply State.updPlan_good

theorem loadActions_good (g : Image) (s : State) (hg : Good qs s) : Good qs (loadActions g s) := by
  unfold loadActions
  repeat' first
    | with_reducible assumption
    | (refine fun _ => ?_)
    | lift_lets
    | intro x
    | split
    | with_reducible apply foldS_good
    | with_reducible apply putWord_good

theorem loadCopy_good (g : Image) (s : State) (hg : Good qs s) : Good qs (loadCopy g s) := by
  unfold loadCopy
  repeat' first
    | with_reducible assumption
    | (refine fun _ => ?_)
    | lift_lets
    | (intro x; clear_value x)
    | intro x
    | split
    | with_reducible apply foldS_good
    | with_reducible apply putLe8_good

theorem readSpan_good (w n : Nat) (s : State) (h : Good qs s) : Good qs (readSpan w n s).2 := by
  induction n generalizing w s with
  | zero => exact h
  | succ n ih =>
    unfold readSpan
    repeat' first
      | with_reducible assumption
      | (refine fun _ => ?_)
      | lift_lets
      | (intro x; refine sup (Good qs x.2) ?_ ?_; (on_goal 1 => subst x); (on_goal 2 => (intro _; clear_value x)))
      | intro x
      | split
      | with_reducible apply ih
      | with_reducible apply readWord_good

theorem readSects_good (g : Image) (t : Nat) (s : State) (hg : Good qs s) : Good qs (readSects g t s).2 := by
  unfold readSects
  have key : ∀ (l : List Sect) (r : Bool × State), Good qs r.2 → Good qs (l.foldl (fun r e =>
      (r.1 || (readSpan ((g.base + e.off) / 8) (e.size / 8) r.2).1, (readSpan ((g.base + e.off) / 8) (e.size / 8) r.2).2)) r).2 := by
    intro l
    induction l with
    | nil => exact fun _ h => h
    | cons e l ih => exact fun r h => ih _ (readSpan_good _ _ _ h)
  exact key _ _ hg

theorem writeSteps_good (g : Image) : ∀ e ∈ writeSteps g, ∀ s, Good qs s → Good qs (e.2 s) := by
  intro e he s h
  unfold writeSteps at he
  simp only [List.mem_cons, List.not_mem_nil, or_false] at he
  rcases he with rfl | rfl | rfl | rfl | rfl | rfl | rfl | rfl | rfl | rfl | rfl | rfl | rfl
  · exact loadWheelCfg_good _ _ h
  · exact loadPatterns_good _ _ h
  · exact loadMicrocode_good _ _ h
  · exact foldS_good (fun c s h => loadCore_good _ _ _ h) h
  · exact loadFlume_good _ _ h
  · exact loadScan_good _ _ h
  · exact loadBusmap_good _ _ h
  · exact loadEnvelope_good _ _ h
  · exact loadTrims_good _ _ h
  · exact loadSlots_good _ _ h
  · exact loadFurrows_good _ _ h
  · exact loadActions_good _ _ h
  · exact loadCopy_good _ _ h

theorem runSteps_good (g : Image) (l : List (Nat × (State → State))) (hl : ∀ e ∈ l, ∀ s, Good qs s → Good qs (e.2 s)) (s : State)
    (h : Good qs s) : Good qs (runSteps g l s).2 := by
  induction l generalizing s with
  | nil => exact h
  | cons e l ih =>
    have hr := readSects_good g e.1 s h
    unfold runSteps
    dsimp only
    split
    · exact hr
    · exact ih (fun e he => hl e (List.mem_cons_of_mem _ he)) _ (hl e (by simp) _ hr)

theorem clearRecords_good (s : State) (hg : Good qs s) : Good qs (clearRecords s) := by
  unfold clearRecords
  repeat' first
    | with_reducible assumption
    | (refine fun _ => ?_)
    | lift_lets
    | (intro x; refine sup (Good qs x) ?_ ?_; (on_goal 1 => subst x); (on_goal 2 => (intro _; clear_value x)))
    | (intro x; clear_value x)
    | intro x
    | split
    | with_reducible apply State.updPlan_good
    | with_reducible apply State.wr_good
    | with_reducible apply State.setReg_good

theorem endLoad_good (result sect item : Nat) (s : State) (hg : Good qs s) : Good qs (endLoad result sect item s) := by
  unfold endLoad
  repeat' first
    | with_reducible assumption
    | (refine fun _ => ?_)
    | lift_lets
    | (intro x; refine sup (Good qs x) ?_ ?_; (on_goal 1 => subst x); (on_goal 2 => (intro _; clear_value x)))
    | intro x
    | split
    | with_reducible apply State.setReg_good
    | with_reducible apply State.wr_good
    | with_reducible apply State.updPlan_good
    | with_reducible apply State.raise_good

theorem planInfo_good (g : Image) (s : State) (hg : Good qs s) : Good qs (planInfo g s) := by
  unfold planInfo
  repeat' first
    | with_reducible assumption
    | (refine fun _ => ?_)
    | lift_lets
    | (intro x; refine sup (Good qs x) ?_ ?_; (on_goal 1 => subst x); (on_goal 2 => (intro _; clear_value x)))
    | intro x
    | split
    | with_reducible apply State.wr_good
    | with_reducible apply State.setReg_good

theorem clearLearned_good (s : State) (hg : Good qs s) : Good qs (clearLearned s) := by
  unfold clearLearned
  repeat' first
    | with_reducible assumption
    | (refine fun _ => ?_)
    | lift_lets
    | intro x
    | split
    | with_reducible apply foldS_good
    | with_reducible apply clearDelays_good
    | with_reducible apply sigClear_good
    | with_reducible apply shadowClear_good

theorem planWritten_good (g : Image) (s : State) (hg : Good qs s) : Good qs (planWritten g s) := by
  unfold planWritten
  repeat' first
    | with_reducible assumption
    | (refine fun _ => ?_)
    | lift_lets
    | (intro x; refine sup (Good qs x) ?_ ?_; (on_goal 1 => subst x); (on_goal 2 => (intro _; clear_value x)))
    | (intro x; clear_value x)
    | intro x
    | split
    | with_reducible apply foldS_good
    | with_reducible apply clearLearned_good
    | with_reducible apply clearRecords_good
    | with_reducible apply planInfo_good
    | with_reducible apply dropReleases_good
    | with_reducible apply State.updPlan_good
    | with_reducible apply restartCore_good
    | with_reducible apply endLoad_good
    | with_reducible apply State.enter_good
    | with_reducible apply updDev_good
    | with_reducible rfl
    | (refine good_of_parts ?_; dsimp only; refine parts_of_good ?_; with_reducible assumption)

theorem planLoadStep_good (s : State) (hg : Good qs s) : Good qs (planLoadStep s) := by
  unfold planLoadStep
  repeat' first
    | with_reducible assumption
    | (refine fun _ => ?_)
    | lift_lets
    | (intro x; refine sup (Good qs x) ?_ ?_; (on_goal 1 => subst x); (on_goal 2 => (intro _; clear_value x)))
    | intro x
    | split
    | with_reducible apply State.err_good
    | with_reducible apply State.wr_good
    | with_reducible apply State.updPlan_good
    | with_reducible apply endLoad_good

theorem checkPassStep_good (s : State) (hg : Good qs s) : Good qs (checkPassStep s) := by
  unfold checkPassStep
  repeat' first
    | with_reducible assumption
    | (refine fun _ => ?_)
    | lift_lets
    | (intro x; refine sup (Good qs x) ?_ ?_; (on_goal 1 => subst x); (on_goal 2 => (intro _; clear_value x)))
    | (intro x; clear_value x)
    | intro x
    | split
    | with_reducible apply readSpan_good
    | with_reducible apply endLoad_good
    | with_reducible apply State.updPlan_good

theorem writePassStep_good (s : State) (hg : Good qs s) : Good qs (writePassStep s) := by
  unfold writePassStep
  repeat' first
    | with_reducible assumption
    | (refine fun _ => ?_)
    | lift_lets
    | (intro x; refine sup (Good qs x.2) ?_ ?_; (on_goal 1 => subst x); (on_goal 2 => (intro _; clear_value x)))
    | (intro x; clear_value x)
    | intro x
    | split
    | with_reducible apply readSpan_good
    | with_reducible apply runSteps_good
    | with_reducible apply writeSteps_good
    | with_reducible apply endLoad_good
    | with_reducible apply State.wr_good
    | with_reducible apply State.enter_good
    | with_reducible apply planWritten_good

theorem armResult_good (r : Nat) (s : State) (hg : Good qs s) : Good qs (armResult r s) := by
  unfold armResult
  repeat' first
    | with_reducible assumption
    | (refine fun _ => ?_)
    | lift_lets
    | intro x
    | split
    | with_reducible apply State.wr_good

theorem releaseDDie_good (why : HoldEnd) (s : State) (hg : Good qs s) : Good qs (releaseDDie why s) := by
  unfold releaseDDie
  repeat' first
    | with_reducible assumption
    | (refine fun _ => ?_)
    | lift_lets
    | (intro x; (have y : Sys := x; clear y); subst x)
    | (intro x; refine sup (Good qs x) ?_ ?_; (on_goal 1 => subst x); (on_goal 2 => (intro _; clear_value x)))
    | (intro x; clear_value x)
    | intro x
    | split
    | with_reducible apply releasePwm_good
    | (refine good_of_parts ?_; dsimp only; refine parts_of_good ?_; with_reducible assumption)

theorem releaseHolds_good (why : HoldEnd) (s : State) (hg : Good qs s) : Good qs (releaseHolds why s) := by
  unfold releaseHolds
  repeat' first
    | with_reducible assumption
    | (refine fun _ => ?_)
    | lift_lets
    | intro x
    | split
    | with_reducible apply releaseTio_good
    | with_reducible apply releaseDDie_good
    | with_reducible apply State.wr_good

theorem armFromLoaded_good (s : State) (hg : Good qs s) : Good qs (armFromLoaded s) := by
  unfold armFromLoaded
  repeat' first
    | with_reducible assumption
    | (refine fun _ => ?_)
    | lift_lets
    | intro x
    | split
    | with_reducible apply releaseDDie_good

theorem armStep_good (s : State) (hg : Good qs s) : Good qs (armStep s) := by
  unfold armStep
  repeat' first
    | with_reducible assumption
    | (refine fun _ => ?_)
    | lift_lets
    | (intro x; refine sup (Good qs x) ?_ ?_; (on_goal 1 => subst x); (on_goal 2 => (intro _; clear_value x)))
    | intro x
    | split
    | with_reducible apply foldS_good
    | with_reducible apply armResult_good
    | with_reducible apply State.raise_good
    | with_reducible apply writeTrkCfg_good
    | with_reducible apply judgeControl_good
    | with_reducible apply armFromLoaded_good
    | with_reducible apply releaseHolds_good
    | with_reducible apply State.updTrk_good
    | with_reducible apply slotsFromNow_good
    | with_reducible apply State.enter_good

theorem disarmStep_good (s : State) (hg : Good qs s) : Good qs (disarmStep s) := by
  unfold disarmStep
  repeat' first
    | with_reducible assumption
    | (refine fun _ => ?_)
    | lift_lets
    | intro x
    | split
    | with_reducible apply disarmNow_good
    | with_reducible apply State.wr_good
    | with_reducible apply State.err_good

theorem govClearStep_good (s : State) (hg : Good qs s) : Good qs (govClearStep s) := by
  unfold govClearStep
  repeat' first
    | with_reducible assumption
    | (refine fun _ => ?_)
    | lift_lets
    | intro x
    | split
    | with_reducible apply State.wr_good
    | with_reducible apply State.err_good

theorem latePopStep_good (s : State) (hg : Good qs s) : Good qs (latePopStep s) := by
  unfold latePopStep
  repeat' first
    | with_reducible assumption
    | (refine fun _ => ?_)
    | lift_lets
    | intro x
    | split
    | with_reducible apply State.respond_good
    | with_reducible apply State.updPlan_good

end Sys2Proof.Machine
end

