-- ==== Sys2Proof/Laws/SoundSysCmd.lean ====
section
/-! SUPPORT. Every state function of Machine/SysCmd.lean keeps the invariant `Good` of Laws/Sound.lean. -/

namespace Sys2Proof.Machine

variable {qs : List Instr}

theorem parkStep_good (s : State) (hg : Good qs s) : Good qs (parkStep s) := by
  unfold parkStep
  repeat' first
    | with_reducible assumption
    | (refine fun _ => ?_)
    | lift_lets
    | intro x
    | split
    | with_reducible apply State.err_good
    | with_reducible apply State.wr_good

theorem freezeStep_good (s : State) (hg : Good qs s) : Good qs (freezeStep s) := by
  unfold freezeStep
  repeat' first
    | with_reducible assumption
    | (refine fun _ => ?_)
    | lift_lets
    | intro x
    | split
    | with_reducible apply State.askFreeze_good

theorem releaseStep_good (s : State) (hg : Good qs s) : Good qs (releaseStep s) := by
  unfold releaseStep
  repeat' first
    | with_reducible assumption
    | (refine fun _ => ?_)
    | lift_lets
    | (intro x; (have y : Sys := x; clear y); subst x)
    | (intro x; refine sup (Good qs x) ?_ ?_; (on_goal 1 => subst x); (on_goal 2 => (intro _; clear_value x)))
    | (intro x; clear_value x)
    | intro x
    | split
    | with_reducible apply updSys_good
    | with_reducible rfl
    | with_reducible apply State.err_good
    | (refine good_of_parts ?_; dsimp only; refine parts_of_good ?_; with_reducible assumption)

theorem dbgCtrlStep_good (v : Word) (s : State) (hg : Good qs s) : Good qs (dbgCtrlStep v s) := by
  unfold dbgCtrlStep
  repeat' first
    | with_reducible assumption
    | (refine fun _ => ?_)
    | lift_lets
    | (intro x; refine sup (Good qs x) ?_ ?_; (on_goal 1 => subst x); (on_goal 2 => (intro _; clear_value x)))
    | (intro x; clear_value x)
    | intro x
    | split
    | with_reducible apply freezeStep_good
    | with_reducible apply releaseStep_good

theorem brkPtStep_good (s : State) (hg : Good qs s) : Good qs (brkPtStep s) := by
  unfold brkPtStep
  repeat' first
    | with_reducible assumption
    | (refine fun _ => ?_)
    | lift_lets
    | (intro x; clear_value x)
    | intro x
    | split
    | with_reducible apply State.askFreeze_good

theorem freezeBegin_good (s : State) (hg : Good qs s) : Good qs (freezeBegin s) := by
  unfold freezeBegin
  repeat' first
    | with_reducible assumption
    | (refine fun _ => ?_)
    | lift_lets
    | (intro x; (have y : Sys := x; clear y); subst x)
    | (intro x; refine sup (Good qs x) ?_ ?_; (on_goal 1 => subst x); (on_goal 2 => (intro _; clear_value x)))
    | (intro x; clear_value x)
    | intro x
    | split
    | with_reducible apply foldS_good
    | with_reducible apply State.wr_good
    | with_reducible apply State.bump_good
    | with_reducible apply truncateBank_good
    | (refine good_of_parts ?_; dsimp only; refine parts_of_good ?_; with_reducible assumption)

theorem trackersWait_good (s : State) (hg : Good qs s) : Good qs (trackersWait s) := by
  unfold trackersWait
  repeat' first
    | with_reducible assumption
    | (refine fun _ => ?_)
    | lift_lets
    | intro x
    | split
    | with_reducible apply foldS_good
    | with_reducible apply leaveSync_good
    | with_reducible apply State.updTrk_good

theorem freezeEnd_good (s : State) (hg : Good qs s) : Good qs (freezeEnd s) := by
  unfold freezeEnd
  repeat' first
    | with_reducible assumption
    | (refine fun _ => ?_)
    | lift_lets
    | (intro x; (have y : Sys := x; clear y); subst x)
    | (intro x; refine sup (Good qs x) ?_ ?_; (on_goal 1 => subst x); (on_goal 2 => (intro _; clear_value x)))
    | (intro x; clear_value x)
    | intro x
    | split
    | with_reducible apply resumePwm_good
    | with_reducible apply disarmNow_good
    | with_reducible apply State.wr_good
    | with_reducible apply trackersWait_good
    | (refine good_of_parts ?_; dsimp only; refine parts_of_good ?_; with_reducible assumption)

theorem thermReleaseStep_good (s : State) (hg : Good qs s) : Good qs (thermReleaseStep s) := by
  unfold thermReleaseStep
  repeat' first
    | with_reducible assumption
    | (refine fun _ => ?_)
    | lift_lets
    | intro x
    | split
    | with_reducible apply State.err_good
    | with_reducible apply releaseHolds_good

theorem ptLoReadStep_good (s : State) (hg : Good qs s) : Good qs (ptLoReadStep s) := by
  unfold ptLoReadStep
  repeat' first
    | with_reducible assumption
    | (refine fun _ => ?_)
    | lift_lets
    | intro x
    | split
    | with_reducible apply State.setReg_good
    | with_reducible apply State.respond_good

end Sys2Proof.Machine
end

