-- ==== Sys2Proof/Laws/SoundBus.lean ====
section
/-! SUPPORT. Every state function of Machine/Bus.lean keeps the invariant `Good` of Laws/Sound.lean. -/

namespace Sys2Proof.Machine

variable {qs : List Instr}

theorem setHalf_good (p : BusPath) (h : HalfPath) (s : State) (hg : Good qs s) : Good qs (setHalf p h s) := by
  unfold setHalf
  repeat' first
    | with_reducible assumption
    | (refine fun _ => ?_)
    | lift_lets
    | intro x
    | split
    | with_reducible apply updBankOf_good
    | with_reducible apply hf
    | (refine good_of_parts ?_; dsimp only; refine parts_of_good ?_; with_reducible assumption)

theorem pdataRead_good (e : Fin 8) (s : State) (hg : Good qs s) : Good qs (pdataRead e s) := by
  unfold pdataRead
  repeat' first
    | with_reducible assumption
    | (refine fun _ => ?_)
    | lift_lets
    | intro x
    | split
    | with_reducible apply paddrAuto_good
    | with_reducible apply State.respond_good

theorem readActs1_good (p o : Nat) (f : State → State) (hf : readActs1 p o = some f) (s : State) (hg : Good qs s) :
    Good qs (f s) := by
  unfold readActs1 at hf
  try dsimp only at hf
  repeat' split at hf
  all_goals first
    | (simp only [reduceCtorEq] at hf; done)
    | (replace hf := Option.some.inj hf
       subst hf
       repeat' first
        | with_reducible assumption
        | split
        | with_reducible apply ptLoReadStep_good
        | with_reducible apply angleReadStep_good
        | with_reducible apply ptabLoRead_good
        | with_reducible apply ptabHiRead_good
        | with_reducible apply stampLoRead_good
        | with_reducible apply latePopStep_good
        | with_reducible apply sumLoReadStep_good
        | (dsimp only; done)
        | (refine good_of_parts ?_; dsimp only; refine parts_of_good ?_; with_reducible assumption))

theorem readActs2_good (p o : Nat) (f : State → State) (hf : readActs2 p o = some f) (s : State) (hg : Good qs s) :
    Good qs (f s) := by
  unfold readActs2 at hf
  try dsimp only at hf
  repeat' split at hf
  all_goals first
    | (simp only [reduceCtorEq] at hf; done)
    | (replace hf := Option.some.inj hf
       subst hf
       repeat' first
        | with_reducible assumption
        | split
        | with_reducible apply scanLoReadStep_good
        | with_reducible apply capPtReadStep_good
        | with_reducible apply pdataRead_good
        | with_reducible apply rnlOutStep_good
        | with_reducible apply evtPopStep_good
        | with_reducible apply msgPayStep_good
        | (dsimp only; done)
        | (refine good_of_parts ?_; dsimp only; refine parts_of_good ?_; with_reducible assumption))

theorem readActs_good (s : State) (a : Nat) (f : State → State) (hf : readActs s a = some f) (s : State) (hg : Good qs s) :
    Good qs (f s) := by
  unfold readActs at hf
  try dsimp only at hf
  repeat' split at hf
  all_goals first
    | (simp only [reduceCtorEq] at hf; done)
    | with_reducible exact readActs1_good _ _ _ hf _ hg
    | with_reducible exact readActs2_good _ _ _ hf _ hg
    | (replace hf := Option.some.inj hf
       subst hf
       repeat' first
        | with_reducible assumption
        | split
        | (dsimp only; done)
        | (dsimp only; split)
        | dsimp only
        | (refine good_of_parts ?_; dsimp only; refine parts_of_good ?_; with_reducible assumption))

theorem regRead_good (init : Initiator) (a : Nat) (s : State) (hg : Good qs s) : Good qs (regRead init a s).2 := by
  unfold regRead
  repeat' first
    | with_reducible assumption
    | (refine fun _ => ?_)
    | lift_lets
    | intro x
    | split
    | exact readActs_good _ _ _ (by assumption) _ (by assumption)

theorem plainWrite_good (a : Nat) (v : Word) (s : State) (hg : Good qs s) : Good qs (plainWrite a v s) := by
  unfold plainWrite
  repeat' first
    | with_reducible assumption
    | (refine fun _ => ?_)
    | lift_lets
    | intro x
    | split
    | with_reducible apply foldS_good
    | with_reducible apply State.setReg_good

theorem planCmdStep_good (v : Word) (s : State) (hg : Good qs s) : Good qs (planCmdStep v s) := by
  unfold planCmdStep
  repeat' first
    | with_reducible assumption
    | (refine fun _ => ?_)
    | lift_lets
    | (intro x; refine sup (Good qs x) ?_ ?_; (on_goal 1 => subst x); (on_goal 2 => (intro _; clear_value x)))
    | intro x
    | split
    | with_reducible apply planLoadStep_good
    | with_reducible apply armStep_good
    | with_reducible apply disarmStep_good

theorem profileWrite_good (k : Nat) (v : Word) (s : State) (hg : Good qs s) : Good qs (profileWrite k v s) := by
  unfold profileWrite
  repeat' first
    | with_reducible assumption
    | (refine fun _ => ?_)
    | lift_lets
    | intro x
    | split
    | with_reducible apply State.err_good
    | with_reducible apply State.updPlan_good
    | with_reducible apply State.wr_good

theorem calCmdStep_good (k : Fin 4) (v : Word) (s : State) (hg : Good qs s) : Good qs (calCmdStep k v s) := by
  unfold calCmdStep
  repeat' first
    | with_reducible assumption
    | (refine fun _ => ?_)
    | lift_lets
    | (intro x; refine sup (Good qs x) ?_ ?_; (on_goal 1 => subst x); (on_goal 2 => (intro _; clear_value x)))
    | intro x
    | split
    | with_reducible apply calStartStep_good
    | with_reducible apply calAbortStep_good

theorem calCfgStep_good (k : Fin 4) (v : Word) (s : State) (hg : Good qs s) : Good qs (calCfgStep k v s) := by
  unfold calCfgStep
  repeat' first
    | with_reducible assumption
    | (refine fun _ => ?_)
    | lift_lets
    | intro x
    | split
    | with_reducible apply plainWrite_good
    | with_reducible apply State.wr_good

theorem pwmFlagsStep_good (n : Fin 16) (v : Word) (s : State) (hg : Good qs s) : Good qs (pwmFlagsStep n v s) := by
  unfold pwmFlagsStep
  repeat' first
    | with_reducible assumption
    | (refine fun _ => ?_)
    | lift_lets
    | (intro x; refine sup (Good qs x) ?_ ?_; (on_goal 1 => subst x); (on_goal 2 => (intro _; clear_value x)))
    | intro x
    | split
    | with_reducible apply plainWrite_good
    | with_reducible apply tripClearStep_good

theorem flumeCmdStep_good (c : Fin 32) (v : Word) (s : State) (hg : Good qs s) : Good qs (flumeCmdStep c v s) := by
  unfold flumeCmdStep
  repeat' first
    | with_reducible assumption
    | (refine fun _ => ?_)
    | lift_lets
    | (intro x; refine sup (Good qs x) ?_ ?_; (on_goal 1 => subst x); (on_goal 2 => (intro _; clear_value x)))
    | intro x
    | split
    | with_reducible apply softStart_good
    | with_reducible apply dmaServe_good
    | with_reducible apply abortChan_good
    | with_reducible apply resumeChan_good

theorem hpsCfgStep_good (v : Word) (s : State) (hg : Good qs s) : Good qs (hpsCfgStep v s) := by
  unfold hpsCfgStep
  repeat' first
    | with_reducible assumption
    | (refine fun _ => ?_)
    | lift_lets
    | (intro x; clear_value x)
    | intro x
    | split
    | with_reducible apply State.wr_good

theorem seqResetStep_good (s : State) (hg : Good qs s) : Good qs (seqResetStep s) := by
  unfold seqResetStep
  repeat' first
    | with_reducible assumption
    | (refine fun _ => ?_)
    | lift_lets
    | intro x
    | split
    | with_reducible apply State.wr_good

theorem flStartStep_good (s : State) (hg : Good qs s) : Good qs (flStartStep s) := by
  unfold flStartStep
  repeat' first
    | with_reducible assumption
    | (refine fun _ => ?_)
    | lift_lets
    | (intro x; refine sup (Good qs x) ?_ ?_; (on_goal 1 => subst x); (on_goal 2 => (intro _; clear_value x)))
    | (intro x; clear_value x)
    | intro x
    | split
    | with_reducible apply State.err_good
    | with_reducible apply State.wr_good
    | with_reducible apply addWait_good
    | (refine good_of_parts ?_; dsimp only; refine parts_of_good ?_; with_reducible assumption)

theorem slotMaxStep_good (c : Fin 4) (v : Word) (s : State) (hg : Good qs s) : Good qs (slotMaxStep c v s) := by
  unfold slotMaxStep
  repeat' first
    | with_reducible assumption
    | (refine fun _ => ?_)
    | lift_lets
    | (intro x; clear_value x)
    | intro x
    | split
    | with_reducible apply State.updCore_good

theorem coreCtlWrite_good (c : Fin 4) (a : Nat) (v : Word) (s : State) (hg : Good qs s) : Good qs (coreCtlWrite c a v s) := by
  unfold coreCtlWrite
  repeat' first
    | with_reducible assumption
    | (refine fun _ => ?_)
    | lift_lets
    | (intro x; clear_value x)
    | intro x
    | split
    | with_reducible apply coreRestartStep_good
    | with_reducible apply slotMaxStep_good
    | with_reducible apply plainWrite_good

theorem writeActs1_good (init : Initiator) (p o a : Nat) (v : Word) (f : State → State) (hf : writeActs1 init p o a v = some f) (s : State) (hg : Good qs s) :
    Good qs (f s) := by
  unfold writeActs1 at hf
  try dsimp only at hf
  repeat' split at hf
  all_goals first
    | (simp only [reduceCtorEq] at hf; done)
    | (replace hf := Option.some.inj hf
       subst hf
       repeat' first
        | with_reducible assumption
        | split
        | with_reducible apply parkStep_good
        | with_reducible apply plainWrite_good
        | with_reducible apply shadowClrStep_good
        | with_reducible apply sigResetStep_good
        | with_reducible apply rejoinStep_good
        | with_reducible apply handbackStep_good
        | with_reducible apply ptabLoWrite_good
        | with_reducible apply ptabHiWrite_good
        | with_reducible apply planCmdStep_good
        | with_reducible apply govClearStep_good
        | with_reducible apply subWriteStep_good
        | with_reducible apply sub3Bus_good
        | with_reducible apply jrnRdStep_good
        | with_reducible apply bankUnlockStep_good
        | (dsimp only; done)
        | (refine good_of_parts ?_; dsimp only; refine parts_of_good ?_; with_reducible assumption))

theorem writeActs2_good (p o : Nat) (v : Word) (f : State → State) (hf : writeActs2 p o v = some f) (s : State) (hg : Good qs s) :
    Good qs (f s) := by
  unfold writeActs2 at hf
  try dsimp only at hf
  repeat' split at hf
  all_goals first
    | (simp only [reduceCtorEq] at hf; done)
    | (replace hf := Option.some.inj hf
       subst hf
       repeat' first
        | with_reducible assumption
        | split
        | with_reducible apply convSoftStep_good
        | with_reducible apply calCfgStep_good
        | with_reducible apply calCmdStep_good
        | with_reducible apply ringMarkStep_good
        | with_reducible apply dacWriteStep_good
        | with_reducible apply loadAllStep_good
        | with_reducible apply pwmRunStep_good
        | with_reducible apply pwmForceStep_good
        | with_reducible apply pwmFlagsStep_good
        | with_reducible apply tmrRunStep_good
        | with_reducible apply tmrSoftStep_good
        | with_reducible apply cmpWriteStep_good
        | (dsimp only; done)
        | (refine good_of_parts ?_; dsimp only; refine parts_of_good ?_; with_reducible assumption))

theorem rneWrite_good (e : Fin 8) (r : Nat) (v : Word) (f : State → State) (hf : rneWrite e r v = some f) (s : State) (hg : Good qs s) :
    Good qs (f s) := by
  unfold rneWrite at hf
  try dsimp only at hf
  repeat' split at hf
  all_goals first
    | (simp only [reduceCtorEq] at hf; done)
    | (replace hf := Option.some.inj hf
       subst hf
       repeat' first
        | with_reducible assumption
        | split
        | with_reducible apply shiftClrStep_good
        | with_reducible apply rnlInStep_good
        | with_reducible apply rnlProgStep_good
        | (dsimp only; done)
        | (refine good_of_parts ?_; dsimp only; refine parts_of_good ?_; with_reducible assumption))

theorem flcWrite_good (c : Fin 32) (r a : Nat) (v : Word) (f : State → State) (hf : flcWrite c r a v = some f) (s : State) (hg : Good qs s) :
    Good qs (f s) := by
  unfold flcWrite at hf
  try dsimp only at hf
  repeat' split at hf
  all_goals first
    | (simp only [reduceCtorEq] at hf; done)
    | (replace hf := Option.some.inj hf
       subst hf
       repeat' first
        | with_reducible assumption
        | (refine fun _ => ?_)
        | intro x
        | split
        | with_reducible apply progWrite_good
        | with_reducible apply plainWrite_good
        | with_reducible apply ctrlWriteStep_good
        | with_reducible apply flumeCmdStep_good)

theorem writeActs3_good (p o a : Nat) (v : Word) (f : State → State) (hf : writeActs3 p o a v = some f) (s : State) (hg : Good qs s) :
    Good qs (f s) := by
  unfold writeActs3 at hf
  try dsimp only at hf
  repeat' split at hf
  all_goals first
    | (simp only [reduceCtorEq] at hf; done)
    | with_reducible exact rneWrite_good _ _ _ _ hf _ hg
    | with_reducible exact flcWrite_good _ _ _ _ _ hf _ hg
    | (replace hf := Option.some.inj hf
       subst hf
       repeat' first
        | with_reducible assumption
        | split
        | with_reducible apply rnlRunStep_good
        | with_reducible apply State.raise_good
        | with_reducible apply countWrite_good
        | with_reducible apply completeStep_good
        | with_reducible apply State.wr_good
        | (dsimp only; done)
        | (refine good_of_parts ?_; dsimp only; refine parts_of_good ?_; with_reducible assumption))

theorem writeActs4_good (p o a : Nat) (v : Word) (f : State → State) (hf : writeActs4 p o a v = some f) (s : State) (hg : Good qs s) :
    Good qs (f s) := by
  unfold writeActs4 at hf
  try dsimp only at hf
  repeat' split at hf
  all_goals first
    | (simp only [reduceCtorEq] at hf; done)
    | (replace hf := Option.some.inj hf
       subst hf
       repeat' first
        | with_reducible assumption
        | split
        | with_reducible apply hpsCfgStep_good
        | with_reducible apply seqResetStep_good
        | with_reducible apply flStartStep_good
        | with_reducible apply rstCmdStep_good
        | with_reducible apply plainWrite_good
        | with_reducible apply State.wr_good
        | with_reducible apply thermReleaseStep_good
        | with_reducible apply dbgCtrlStep_good
        | (dsimp only; done)
        | (refine good_of_parts ?_; dsimp only; refine parts_of_good ?_; with_reducible assumption))

theorem writeActs_good (init : Initiator) (a : Nat) (v : Word) (f : State → State) (hf : writeActs init a v = some f) (s : State) (hg : Good qs s) :
    Good qs (f s) := by
  unfold writeActs at hf
  try dsimp only at hf
  repeat' split at hf
  all_goals first
    | (simp only [reduceCtorEq] at hf; done)
    | with_reducible exact writeActs1_good _ _ _ _ _ _ hf _ hg
    | with_reducible exact writeActs2_good _ _ _ _ hf _ hg
    | with_reducible exact writeActs3_good _ _ _ _ _ hf _ hg
    | with_reducible exact writeActs4_good _ _ _ _ _ hf _ hg
    | (replace hf := Option.some.inj hf
       subst hf
       repeat' first
        | with_reducible assumption
        | split
        | (dsimp only; done)
        | (dsimp only; split)
        | dsimp only
        | (refine good_of_parts ?_; dsimp only; refine parts_of_good ?_; with_reducible assumption))

theorem headerWrite_good (p o : Nat) (v : Word) (s : State) (hg : Good qs s) : Good qs (headerWrite p o v s) := by
  unfold headerWrite
  repeat' first
    | with_reducible assumption
    | (refine fun _ => ?_)
    | lift_lets
    | intro x
    | split
    | with_reducible apply ctrlStep_good
    | with_reducible apply evtRawStep_good
    | with_reducible apply evtSetStep_good
    | with_reducible apply State.wr_good
    | with_reducible apply plainWrite_good

theorem noteLoadReg_good (a : Nat) (s : State) (hg : Good qs s) : Good qs (noteLoadReg a s) := by
  unfold noteLoadReg
  repeat' first
    | with_reducible assumption
    | (refine fun _ => ?_)
    | lift_lets
    | (intro x; clear_value x)
    | intro x
    | split
    | with_reducible apply noteSoft_good

theorem regWrite_good (init : Initiator) (a : Nat) (v : Word) (s : State) (hg : Good qs s) : Good qs (regWrite init a v s) := by
  unfold regWrite
  repeat' first
    | with_reducible assumption
    | (refine fun _ => ?_)
    | lift_lets
    | intro x
    | split
    | exact writeActs_good _ _ _ _ (by assumption) _ (by assumption)
    | with_reducible apply coreCtlWrite_good
    | with_reducible apply profileWrite_good
    | with_reducible apply headerWrite_good
    | with_reducible apply State.err_good
    | with_reducible apply noteLoadReg_good
    | with_reducible apply plainWrite_good

theorem halfRead_good (p : BusPath) (a : Nat) (s : State) (hg : Good qs s) : Good qs (halfRead p a s).2 := by
  unfold halfRead
  repeat' first
    | with_reducible assumption
    | (refine fun _ => ?_)
    | lift_lets
    | (intro x; refine sup (Good qs x.2) ?_ ?_; (on_goal 1 => subst x); (on_goal 2 => (intro _; clear_value x)))
    | (intro x; clear_value x)
    | intro x
    | split
    | with_reducible apply regRead_good
    | with_reducible apply setHalf_good

theorem halfDiscard_good (p : BusPath) (s : State) (hg : Good qs s) : Good qs (halfDiscard p s) := by
  unfold halfDiscard
  repeat' first
    | with_reducible assumption
    | (refine fun _ => ?_)
    | lift_lets
    | intro x
    | split
    | with_reducible apply State.bump_good
    | with_reducible apply State.wr_good

theorem halfWrite_good (p : BusPath) (a v : Nat) (s : State) (hg : Good qs s) : Good qs (halfWrite p a v s).2 := by
  unfold halfWrite
  repeat' first
    | with_reducible assumption
    | (refine fun _ => ?_)
    | lift_lets
    | (intro x; clear_value x)
    | intro x
    | split
    | with_reducible apply setHalf_good
    | with_reducible apply regWrite_good
    | with_reducible apply halfDiscard_good

theorem planMemWrite_good (f : State → State) (s : State) (hg : Good qs s) (hf : ∀  s, Good qs s → Good qs (f  s)) : Good qs (planMemWrite f s) := by
  unfold planMemWrite
  repeat' first
    | with_reducible assumption
    | (refine fun _ => ?_)
    | lift_lets
    | intro x
    | split
    | with_reducible apply State.err_good
    | with_reducible apply State.wr_good
    | with_reducible apply hf

theorem writeSecs_good (a n v : Nat) (s : State) (hg : Good qs s) : Good qs (writeSecs a n v s) :=
  foldS_good (fun _ _ h => good_eq h rfl rfl rfl rfl rfl rfl rfl) (good_mem hg (memWf_put _ _ _) rfl rfl rfl rfl rfl)

theorem secRead_good (w : Nat) (s : State) (hg : Good qs s) : Good qs (secRead w s) := by
  unfold secRead
  repeat' first
    | with_reducible assumption
    | (refine fun _ => ?_)
    | lift_lets
    | (intro x; clear_value x)
    | intro x
    | split
    | with_reducible apply State.bump_good
    | with_reducible apply noteMicrocode_good
    | with_reducible apply State.wr_good

theorem pathBeat_good (p : BusPath) (port : Nat) (s : State) (hg : Good qs s) : Good qs (pathBeat p port s) := by
  unfold pathBeat
  repeat' first
    | with_reducible assumption
    | (refine fun _ => ?_)
    | lift_lets
    | intro x
    | split
    | with_reducible apply monBeat_good

theorem busRead_good (p : BusPath) (addr n : Nat) (s : State) (hg : Good qs s) : Good qs (busRead p addr n s).2 := by
  unfold busRead
  repeat' first
    | with_reducible assumption
    | (refine fun _ => ?_)
    | lift_lets
    | (intro x; refine sup (Good qs x) ?_ ?_; (on_goal 1 => subst x); (on_goal 2 => (intro _; clear_value x)))
    | (intro x; refine sup (Good qs x.2) ?_ ?_; (on_goal 1 => subst x); (on_goal 2 => (intro _; clear_value x)))
    | (intro x; clear_value x)
    | intro x
    | split
    | with_reducible apply foldS_good
    | with_reducible apply busError_good
    | with_reducible apply pathBeat_good
    | with_reducible apply readDec_good
    | with_reducible apply secRead_good
    | with_reducible apply regRead_good
    | with_reducible apply halfRead_good

theorem busWrite_good (p : BusPath) (addr n v : Nat) (s : State) (hg : Good qs s) : Good qs (busWrite p addr n v s).2 := by
  unfold busWrite
  repeat' first
    | with_reducible assumption
    | (refine fun _ => ?_)
    | lift_lets
    | (intro x; refine sup (Good qs x) ?_ ?_; (on_goal 1 => subst x); (on_goal 2 => (intro _; clear_value x)))
    | (intro x; clear_value x)
    | intro x
    | split
    | with_reducible apply busError_good
    | with_reducible apply pathBeat_good
    | with_reducible apply writeDec_good
    | with_reducible apply planMemWrite_good
    | with_reducible apply writeSecs_good
    | with_reducible apply State.err_good
    | with_reducible apply regWrite_good
    | with_reducible apply halfWrite_good

end Sys2Proof.Machine
end

