-- ==== Sys2Proof/Laws/SoundBusCmd.lean ====
section
/-! SUPPORT. Every state function of Machine/BusCmd.lean keeps the invariant `Good` of Laws/Sound.lean. -/

namespace Sys2Proof.Machine

variable {qs : List Instr}

theorem remoteSubWrite_good (init : Initiator) (a : Nat) (v : Word) (s : State) (hg : Good qs s) :
    Good qs (remoteSubWrite init a v s).2 := by
  simp only [remoteSubWrite]
  split
  · exact busError_good _ _ _ _ hg
  · split
    · exact monBeat_good _ _ _ (remoteWrite_good _ _ _ _ _ hg)
    · split
      · exact remoteSubmit_good _ _ _ _ _ hg
      · exact remoteSubmit_good _ _ _ _ _ hg
      · exact busError_good _ _ _ _ (remoteSubmit_good _ _ _ _ _ hg)

theorem remoteSubHalf_good (p : BusPath) (a v : Nat) (s : State) (hg : Good qs s) : Good qs (remoteSubHalf p a v s).2 := by
  unfold remoteSubHalf
  repeat' first
    | with_reducible assumption
    | (refine fun _ => ?_)
    | lift_lets
    | (intro x; clear_value x)
    | intro x
    | split
    | with_reducible apply setHalf_good
    | with_reducible apply remoteSubWrite_good
    | with_reducible apply halfDiscard_good

theorem peerHalf_good (p : BusPath) (a : Nat) (s : State) (hg : Good qs s) : Good qs (peerHalf p a s) := by
  unfold peerHalf
  repeat' first
    | with_reducible assumption
    | (refine fun _ => ?_)
    | lift_lets
    | (intro x; clear_value x)
    | intro x
    | split
    | with_reducible apply halfDiscard_good
    | (refine good_of_parts ?_; dsimp only; refine parts_of_good ?_; with_reducible assumption)

theorem accessDo_good (who : PeerWho) (p : BusPath) (a n : Nat) (write : Bool) (v : Nat) (s : State) (hg : Good qs s) : Good qs (accessDo who p a n write v s).2 := by
  unfold accessDo
  repeat' first
    | with_reducible assumption
    | (refine fun _ => ?_)
    | lift_lets
    | (intro x; refine sup (Good qs x) ?_ ?_; (on_goal 1 => subst x); (on_goal 2 => (intro _; clear_value x)))
    | (intro x; refine sup (Good qs x.2) ?_ ?_; (on_goal 1 => subst x); (on_goal 2 => (intro _; clear_value x)))
    | (intro x; clear_value x)
    | intro x
    | split
    | with_reducible apply busWrite_good
    | with_reducible apply busRead_good
    | with_reducible apply remoteSubWrite_good
    | with_reducible apply remoteSubHalf_good
    | with_reducible apply monBeat_good
    | with_reducible apply peerHalf_good
    | with_reducible apply peerSend_good
    | with_reducible apply busError_good

theorem accessBegin_good (who : PeerWho) (init : Initiator) (a n : Nat) (write : Bool) (v : Nat) (s : State) (hg : Good qs s) : Good qs (accessBegin who init a n write v s).2 := by
  unfold accessBegin
  repeat' first
    | with_reducible assumption
    | (refine fun _ => ?_)
    | lift_lets
    | (intro x; clear_value x)
    | intro x
    | split
    | with_reducible apply accessDo_good
    | with_reducible apply takeTurn_good
    | with_reducible apply addWait_good

theorem answer_good (st v n : Nat) (s : State) (hg : Good qs s) : Good qs (answer st v n s) := by
  unfold answer
  repeat' first
    | with_reducible assumption
    | (refine fun _ => ?_)
    | lift_lets
    | intro x
    | split
    | with_reducible apply hf
    | (refine good_of_parts ?_; dsimp only; refine parts_of_good ?_; with_reducible assumption)

theorem plainAccess_good (init : Initiator) (a n : Nat) (write : Bool) (v : Nat) (s : State) (hg : Good qs s) : Good qs (plainAccess init a n write v s) := by
  unfold plainAccess
  repeat' first
    | with_reducible assumption
    | (refine fun _ => ?_)
    | lift_lets
    | (intro x; refine sup (Good qs x) ?_ ?_; (on_goal 1 => subst x); (on_goal 2 => (intro _; clear_value x)))
    | (intro x; refine sup (Good qs x.2) ?_ ?_; (on_goal 1 => subst x); (on_goal 2 => (intro _; clear_value x)))
    | intro x
    | split
    | with_reducible apply accessBegin_good
    | with_reducible apply answer_good
    | (refine good_of_parts ?_; dsimp only; refine parts_of_good ?_; with_reducible assumption)

end Sys2Proof.Machine
end

