-- ==== Sys2Proof/Laws/SoundArbiter.lean ====
section
/-! SUPPORT. Every state function of Machine/Arbiter.lean keeps the invariant `Good` of Laws/Sound.lean. -/

namespace Sys2Proof.Machine

variable {qs : List Instr}

theorem ringHwm_good (k : Fin 4) (r : Nat) (s : State) (hg : Good qs s) : Good qs (ringHwm k r s) := by
  unfold ringHwm
  repeat' first
    | with_reducible assumption
    | (refine fun _ => ?_)
    | lift_lets
    | (intro x; clear_value x)
    | intro x
    | split
    | with_reducible apply State.wr_good
    | with_reducible apply State.raise_good

theorem recordWrite_good (k : Fin 4) (e : RecEntry) (rest : List RecEntry) (s : State) (hg : Good qs s) :
    Good qs (recordWrite k e rest s) := by
  unfold recordWrite
  lift_lets
  intro base wp len a s1 s2 fill s3 s4
  have h2 : Good qs s2 := monBeat_good _ _ _ (writeDec_good _ _ _ _ (State.updConv_good _ _ _ hg))
  have h3 : Good qs s3 := good_ite (State.raise_good _ _ (State.bump_good _ _ _ h2)) h2
  have h4 : Good qs s4 := State.updConv_good _ _ _ h3
  exact good_ite h2 (ringHwm_good _ _ _ (State.bumpWrap_good _ _ _ h4))

theorem recordWriteStep_good (k : Fin 4) (s : State) (hg : Good qs s) : Good qs (recordWriteStep k s) := by
  unfold recordWriteStep
  repeat' first
    | with_reducible assumption
    | (refine fun _ => ?_)
    | lift_lets
    | intro x
    | split
    | with_reducible apply recordWrite_good
    | with_reducible apply takeTurn_good
    | (dsimp only; split)

end Sys2Proof.Machine
end

