-- ==== Sys2Proof/Laws/SoundEffect.lean ====
section
/-! SUPPORT. Every state function of Machine/Effect.lean keeps the invariant `Good` of Laws/Sound.lean. -/

namespace Sys2Proof.Machine

variable {qs : List Instr}

theorem linkMessage_good (a : Act) (s : State) (hg : Good qs s) : Good qs (linkMessage a s) := by
  unfold linkMessage
  repeat' first
    | with_reducible assumption
    | (refine fun _ => ?_)
    | lift_lets
    | (intro x; clear_value x)
    | intro x
    | split
    | with_reducible apply foldS_good
    | with_reducible apply sendFrame_good

theorem grantBegins_good (a : Act) (s : State) (hg : Good qs s) : Good qs (grantBegins a s) := by
  unfold grantBegins
  dsimp only
  split
  · exact State.bumpWrap_good _ _ _ hg
  · exact hg

theorem kindEffect_good (a : Act) (s : State) (hg : Good qs s) : Good qs (kindEffect a s) := by
  unfold kindEffect
  repeat' first
    | with_reducible assumption
    | (refine fun _ => ?_)
    | lift_lets
    | (intro x; clear_value x)
    | intro x
    | split
    | with_reducible apply applyAct_good
    | with_reducible apply propEffect_good
    | with_reducible apply sampleClaimStep_good
    | with_reducible apply taskEffect_good
    | with_reducible apply tioAct_good
    | with_reducible apply windowAct_good
    | with_reducible apply dmaEffect_good
    | with_reducible apply linkMessage_good
    | with_reducible apply orderProgress_good
    | with_reducible apply updAct_good
    | with_reducible apply grantBegins_good

theorem takeEffectStep_good (idx : Nat) (s : State) (hg : Good qs s) : Good qs (takeEffectStep idx s) := by
  unfold takeEffectStep
  repeat' first
    | with_reducible assumption
    | (refine fun _ => ?_)
    | lift_lets
    | intro x
    | split
    | with_reducible apply kindEffect_good
    | with_reducible apply countShadow_good

theorem waitLimitStep_good (idx : Nat) (s : State) (hg : Good qs s) : Good qs (waitLimitStep idx s) := by
  unfold waitLimitStep
  repeat' first
    | with_reducible assumption
    | (refine fun _ => ?_)
    | lift_lets
    | intro x
    | split
    | with_reducible apply sampleWaitExpire_good
    | with_reducible apply taskWaitExpire_good
    | with_reducible apply dmaWaitExpire_good

end Sys2Proof.Machine
end

