-- ==== Sys2Proof/Laws/SoundFarAccess.lean ====
section
/-! SUPPORT. Every state function of Machine/FarAccess.lean keeps the invariant `Good` of Laws/Sound.lean. -/

namespace Sys2Proof.Machine

variable {qs : List Instr}

theorem useGrant_good (c : Fin 4) (port t : Nat) (s : State) (hg : Good qs s) : Good qs (useGrant c port t s) := by
  unfold useGrant
  repeat' first
    | with_reducible assumption
    | (refine fun _ => ?_)
    | lift_lets
    | (intro x; clear_value x)
    | intro x
    | split
    | (refine good_of_parts ?_; dsimp only; refine parts_of_good ?_; with_reducible assumption)

theorem coreBeat_good (c : Fin 4) (port t : Nat) (s : State) (hg : Good qs s) : Good qs (coreBeat c port t s) := by
  unfold coreBeat
  repeat' first
    | with_reducible assumption
    | (refine fun _ => ?_)
    | lift_lets
    | intro x
    | split
    | with_reducible apply beatAt_good

theorem noteSlot_good (c : Fin 4) (port t : Nat) (s : State) (hg : Good qs s) : Good qs (noteSlot c port t s) := by
  unfold noteSlot
  repeat' first
    | with_reducible assumption
    | (refine fun _ => ?_)
    | lift_lets
    | intro x
    | split
    | with_reducible apply coreBeat_good
    | with_reducible apply State.updCore_good
    | with_reducible apply useGrant_good
    | with_reducible apply takeTurn_good

theorem endtFirst_good (c : Fin 4) (s : State) (hg : Good qs s) : Good qs (endtFirst c s) := by
  unfold endtFirst
  repeat' first
    | with_reducible assumption
    | (refine fun _ => ?_)
    | lift_lets
    | (intro x; clear_value x)
    | intro x
    | split
    | with_reducible apply taskDone_good

theorem taskStops_good (c : Fin 4) (s : State) (hg : Good qs s) : Good qs (taskStops c s) := by
  unfold taskStops
  repeat' first
    | with_reducible assumption
    | (refine fun _ => ?_)
    | lift_lets
    | intro x
    | split
    | with_reducible apply State.updCore_good

theorem farFault_good (c : Fin 4) (task : Bool) (s : State) (hg : Good qs s) : Good qs (farFault c task s) := by
  unfold farFault
  repeat' first
    | with_reducible assumption
    | (refine fun _ => ?_)
    | lift_lets
    | (intro x; refine sup (Good qs x) ?_ ?_; (on_goal 1 => subst x); (on_goal 2 => (intro _; clear_value x)))
    | (intro x; clear_value x)
    | intro x
    | split
    | with_reducible apply endtFirst_good
    | with_reducible apply coreFault_good
    | with_reducible apply State.setReg_good
    | with_reducible apply State.raise_good
    | with_reducible apply taskStops_good
    | with_reducible apply State.updCore_good

theorem farEnds_good (c : Fin 4) (task : Bool) (f : FarAcc) (st v : Nat) (s : State) (hg : Good qs s) : Good qs (farEnds c task f st v s) := by
  unfold farEnds
  repeat' first
    | with_reducible assumption
    | (refine fun _ => ?_)
    | lift_lets
    | intro x
    | split
    | with_reducible apply farFault_good
    | with_reducible apply updBankOf_good

theorem farPost_good (c : Fin 4) (task : Bool) (f : FarAcc) (t : Nat) (s : State) (hg : Good qs s) : Good qs (farPost c task f t s) := by
  unfold farPost
  repeat' first
    | with_reducible assumption
    | (refine fun _ => ?_)
    | lift_lets
    | (intro x; clear_value x)
    | intro x
    | split
    | with_reducible apply foldS_good
    | with_reducible apply State.updCore_good

theorem orphanGone_good (c : Fin 4) (f : FarAcc) (s : State) (hg : Good qs s) : Good qs (orphanGone c f s) := by
  unfold orphanGone
  repeat' first
    | with_reducible assumption
    | (refine fun _ => ?_)
    | lift_lets
    | intro x
    | split
    | with_reducible apply State.updCore_good

theorem farOrphan_good (c : Fin 4) (f : FarAcc) (t : Nat) (s : State) (hg : Good qs s) : Good qs (farOrphan c f t s) := by
  unfold farOrphan
  repeat' first
    | with_reducible assumption
    | (refine fun _ => ?_)
    | lift_lets
    | (intro x; refine sup (Good qs x) ?_ ?_; (on_goal 1 => subst x); (on_goal 2 => (intro _; clear_value x)))
    | (intro x; refine sup (Good qs x.2) ?_ ?_; (on_goal 1 => subst x); (on_goal 2 => (intro _; clear_value x)))
    | intro x
    | split
    | with_reducible apply noteSlot_good
    | with_reducible apply accessDo_good
    | with_reducible apply orphanGone_good
    | with_reducible apply farFault_good
    | with_reducible apply farPost_good

theorem farServe_good (c : Fin 4) (task : Bool) (f : FarAcc) (t : Nat) (s : State) (hg : Good qs s) : Good qs (farServe c task f t s) := by
  unfold farServe
  repeat' first
    | with_reducible assumption
    | (refine fun _ => ?_)
    | lift_lets
    | (intro x; refine sup (Good qs x.2) ?_ ?_; (on_goal 1 => subst x); (on_goal 2 => (intro _; clear_value x)))
    | (intro x; clear_value x)
    | intro x
    | split
    | with_reducible apply accessDo_good
    | with_reducible apply noteSlot_good
    | with_reducible apply farEnds_good
    | with_reducible apply busRead_good
    | with_reducible apply busError_good
    | with_reducible apply farPost_good

theorem farDoneStep_good (c : Fin 4) (task : Bool) (s : State) (hg : Good qs s) : Good qs (farDoneStep c task s) := by
  unfold farDoneStep
  repeat' first
    | with_reducible assumption
    | (refine fun _ => ?_)
    | lift_lets
    | intro x
    | split
    | with_reducible apply farOrphan_good
    | with_reducible apply farServe_good

theorem postedAct_good (c : Fin 4) (task : Bool) (f : FarAcc) (s : State) (hg : Good qs s) : Good qs (postedAct c task f s) := by
  unfold postedAct
  repeat' first
    | with_reducible assumption
    | (refine fun _ => ?_)
    | lift_lets
    | (intro x; refine sup (Good qs x.2) ?_ ?_; (on_goal 1 => subst x); (on_goal 2 => (intro _; clear_value x)))
    | intro x
    | split
    | with_reducible apply busWrite_good
    | with_reducible apply farFault_good

theorem postedDue_good (p : FarAcc → Bool) (c : Fin 4) (s : State) (hg : Good qs s) : Good qs (postedDue p c s) := by
  unfold postedDue
  repeat' first
    | with_reducible assumption
    | (refine fun _ => ?_)
    | lift_lets
    | (intro x; refine sup (Good qs x) ?_ ?_; (on_goal 1 => subst x); (on_goal 2 => (intro _; clear_value x)))
    | (intro x; clear_value x)
    | intro x
    | split
    | with_reducible apply foldS_good
    | with_reducible apply State.updCore_good
    | with_reducible apply postedAct_good

theorem postedEnd_good (s : State) (hg : Good qs s) : Good qs (postedEnd s) := by
  unfold postedEnd
  repeat' first
    | with_reducible assumption
    | (refine fun _ => ?_)
    | lift_lets
    | intro x
    | split
    | with_reducible apply foldS_good
    | with_reducible apply postedDue_good

theorem postedTick_good (s : State) (hg : Good qs s) : Good qs (postedTick s) := by
  unfold postedTick
  repeat' first
    | with_reducible assumption
    | (refine fun _ => ?_)
    | lift_lets
    | intro x
    | split
    | with_reducible apply foldS_good
    | with_reducible apply postedDue_good

theorem farAnswer_good (c : Fin 4) (task : Bool) (a st v : Nat) (s : State) (hg : Good qs s) : Good qs (farAnswer c task a st v s) := by
  unfold farAnswer
  repeat' first
    | with_reducible assumption
    | (refine fun _ => ?_)
    | lift_lets
    | intro x
    | split
    | with_reducible apply farEnds_good

end Sys2Proof.Machine
end

