-- ==== Sys2Proof/Laws/SoundHostPorts.lean ====
section
/-! SUPPORT. Every state function of Machine/HostPorts.lean keeps the invariant `Good` of Laws/Sound.lean. -/

namespace Sys2Proof.Machine

variable {qs : List Instr}

theorem failedWord_good (init : Initiator) (a : Nat) (v : Word) (s : State) (hg : Good qs s) : Good qs (failedWord init a v s) := by
  unfold failedWord
  repeat' first
    | with_reducible assumption
    | (refine fun _ => ?_)
    | lift_lets
    | (intro x; clear_value x)
    | intro x
    | split
    | with_reducible apply remoteFail_good
    | with_reducible apply remoteWrite_good
    | with_reducible apply updStaging_good

theorem failedWrite_good (init : Initiator) (a : Nat) (fix : Bool) (data : List Word) (s : State) (hg : Good qs s) :
    Good qs (failedWrite init a fix data s) := by
  have key : ∀ (k : Nat) (l : List Word) (x : Nat × State), Good qs x.2 →
      Good qs (l.foldl (fun (x : Nat × State) v => (x.1 + k, failedWord init x.1 v x.2)) x).2 := by
    intro k l
    induction l with
    | nil => intro x hx; exact hx
    | cons v l ih => intro x hx; exact ih _ (failedWord_good _ _ _ _ hx)
  exact key _ data (_, s) hg

theorem setHostReq_good (hpq : Bool) (r : Option HostReq) (s : State) (hg : Good qs s) : Good qs (setHostReq hpq r s) := by
  unfold setHostReq
  repeat' first
    | with_reducible assumption
    | (refine fun _ => ?_)
    | lift_lets
    | intro x
    | split
    | with_reducible apply State.updHost_good

theorem genEdge_good (s : State) (hg : Good qs s) : Good qs (genEdge s) := by
  unfold genEdge
  repeat' first
    | with_reducible assumption
    | (refine fun _ => ?_)
    | lift_lets
    | intro x
    | split
    | with_reducible apply State.updHost_good

theorem hostReply_good (hpq quiet executed : Bool) (st tag : Nat) (words : List Word) (s : State) (hg : Good qs s) : Good qs (hostReply hpq quiet executed st tag words s) := by
  unfold hostReply
  repeat' first
    | with_reducible assumption
    | (refine fun _ => ?_)
    | lift_lets
    | intro x
    | split
    | with_reducible apply State.updHost_good
    | with_reducible apply genEdge_good

theorem hostEnds_good (hpq : Bool) (r : HostReq) (st : Nat) (s : State) (hg : Good qs s) : Good qs (hostEnds hpq r st s) := by
  unfold hostEnds
  repeat' first
    | with_reducible assumption
    | (refine fun _ => ?_)
    | lift_lets
    | intro x
    | split
    | with_reducible apply hostReply_good
    | with_reducible apply setHostReq_good

theorem hostRun_good (hpq : Bool) (k : Nat) (r : HostReq) (s : State) (h : Good qs s) : Good qs (hostRun hpq k r s) := by
  induction k generalizing r s with
  | zero => exact setHostReq_good _ _ _ h
  | succ k ih =>
    unfold hostRun
    repeat' first
      | with_reducible assumption
      | (refine fun _ => ?_)
      | lift_lets
      | (intro x; refine sup (Good qs x.2) ?_ ?_; (on_goal 1 => subst x); (on_goal 2 => (intro _; clear_value x)))
      | intro x
      | split
      | with_reducible apply ih
      | with_reducible apply setHostReq_good
      | with_reducible apply hostEnds_good
      | with_reducible apply accessBegin_good

theorem hostAnswer_good (hpq : Bool) (st v : Nat) (s : State) (hg : Good qs s) : Good qs (hostAnswer hpq st v s) := by
  unfold hostAnswer
  repeat' first
    | with_reducible assumption
    | (refine fun _ => ?_)
    | lift_lets
    | intro x
    | split
    | with_reducible apply hostEnds_good
    | with_reducible apply hostRun_good

theorem hpsMalformed_good (s : State) (hg : Good qs s) : Good qs (hpsMalformed s) := by
  unfold hpsMalformed
  repeat' first
    | with_reducible assumption
    | (refine fun _ => ?_)
    | lift_lets
    | intro x
    | split
    | with_reducible apply State.bump_good
    | with_reducible apply State.raise_good

theorem gen2Step_good (write : Bool) (cmd addr : Word) (data : List Word) (crc : Half) (s : State) (hg : Good qs s) : Good qs (gen2Step write cmd addr data crc s) := by
  unfold gen2Step
  repeat' first
    | with_reducible assumption
    | (refine fun _ => ?_)
    | lift_lets
    | (intro x; refine sup (Good qs x) ?_ ?_; (on_goal 1 => subst x); (on_goal 2 => (intro _; clear_value x)))
    | (intro x; clear_value x)
    | intro x
    | split
    | with_reducible apply State.bump_good
    | with_reducible apply State.raise_good
    | with_reducible apply failedWrite_good
    | with_reducible apply hostReply_good
    | with_reducible apply hpsMalformed_good
    | with_reducible apply hostRun_good

theorem abandonStep_good (s : State) (hg : Good qs s) : Good qs (abandonStep s) := by
  unfold abandonStep
  repeat' first
    | with_reducible assumption
    | (refine fun _ => ?_)
    | lift_lets
    | intro x
    | split
    | with_reducible apply genEdge_good
    | with_reducible apply setHostReq_good
    | with_reducible apply State.bump_good
    | with_reducible apply State.updHost_good

theorem hpqExecute_good (write : Bool) (h0 h1 : Word) (data : List Word) (s : State) (hg : Good qs s) : Good qs (hpqExecute write h0 h1 data s) := by
  unfold hpqExecute
  repeat' first
    | with_reducible assumption
    | (refine fun _ => ?_)
    | lift_lets
    | (intro x; refine sup (Good qs x) ?_ ?_; (on_goal 1 => subst x); (on_goal 2 => (intro _; clear_value x)))
    | (intro x; clear_value x)
    | intro x
    | split
    | with_reducible apply State.wr_good
    | with_reducible apply hostReply_good
    | with_reducible apply State.bump_good
    | with_reducible apply State.raise_good
    | with_reducible apply hostRun_good

theorem hpqReplay_good (s : State) (hg : Good qs s) : Good qs (hpqReplay s) := by
  unfold hpqReplay
  repeat' first
    | with_reducible assumption
    | (refine fun _ => ?_)
    | lift_lets
    | (intro x; refine sup (Good qs x) ?_ ?_; (on_goal 1 => subst x); (on_goal 2 => (intro _; clear_value x)))
    | intro x
    | split
    | with_reducible apply State.bump_good
    | with_reducible apply State.updHost_good

theorem hpqStep_good (write : Bool) (h0 h1 : Word) (data : List Word) (crc : Word) (s : State) (hg : Good qs s) : Good qs (hpqStep write h0 h1 data crc s) := by
  unfold hpqStep
  repeat' first
    | with_reducible assumption
    | (refine fun _ => ?_)
    | lift_lets
    | (intro x; refine sup (Good qs x) ?_ ?_; (on_goal 1 => subst x); (on_goal 2 => (intro _; clear_value x)))
    | (intro x; clear_value x)
    | intro x
    | split
    | with_reducible apply State.bump_good
    | with_reducible apply State.raise_good
    | with_reducible apply failedWrite_good
    | with_reducible apply hostReply_good
    | with_reducible apply hpqExecute_good
    | with_reducible apply hpqReplay_good

theorem gen1Result_good (err data : Nat) (s : State) (hg : Good qs s) : Good qs (gen1Result err data s) := by
  unfold gen1Result
  repeat' first
    | with_reducible assumption
    | (refine fun _ => ?_)
    | lift_lets
    | intro x
    | split
    | with_reducible apply State.updHost_good

theorem gen1Access_good (a : Nat) (write : Bool) (v : Nat) (s : State) (hg : Good qs s) : Good qs (gen1Access a write v s) := by
  unfold gen1Access
  repeat' first
    | with_reducible assumption
    | (refine fun _ => ?_)
    | lift_lets
    | (intro x; refine sup (Good qs x.2) ?_ ?_; (on_goal 1 => subst x); (on_goal 2 => (intro _; clear_value x)))
    | intro x
    | split
    | with_reducible apply accessBegin_good
    | with_reducible apply gen1Result_good

theorem gen1Window_good (inc write : Bool) (v : Nat) (s : State) (hg : Good qs s) : Good qs (gen1Window inc write v s) := by
  unfold gen1Window
  repeat' first
    | with_reducible assumption
    | (refine fun _ => ?_)
    | lift_lets
    | (intro x; refine sup (Good qs x) ?_ ?_; (on_goal 1 => subst x); (on_goal 2 => (intro _; clear_value x)))
    | intro x
    | split
    | with_reducible apply gen1Result_good
    | with_reducible apply gen1Access_good
    | with_reducible apply State.updHost_good

theorem gen1Read_good (a : Nat) (s : State) (hg : Good qs s) : Good qs (gen1Read a s) := by
  unfold gen1Read
  repeat' first
    | with_reducible assumption
    | (refine fun _ => ?_)
    | lift_lets
    | intro x
    | split
    | with_reducible apply gen1Result_good
    | with_reducible apply gen1Window_good
    | with_reducible apply State.updHost_good
    | with_reducible apply gen1Access_good

theorem gen1Write_good (a v : Nat) (s : State) (hg : Good qs s) : Good qs (gen1Write a v s) := by
  unfold gen1Write
  repeat' first
    | with_reducible assumption
    | (refine fun _ => ?_)
    | lift_lets
    | intro x
    | split
    | with_reducible apply gen1Result_good
    | with_reducible apply State.updHost_good
    | with_reducible apply gen1Window_good
    | with_reducible apply gen1Access_good

theorem gen1Frame_good (f : State → State) (s : State) (hg : Good qs s) (hf : ∀  s, Good qs s → Good qs (f  s)) : Good qs (gen1Frame f s) := by
  unfold gen1Frame
  repeat' first
    | with_reducible assumption
    | (refine fun _ => ?_)
    | lift_lets
    | (intro x; refine sup (Good qs x) ?_ ?_; (on_goal 1 => subst x); (on_goal 2 => (intro _; clear_value x)))
    | intro x
    | split
    | with_reducible apply State.updHost_good
    | with_reducible apply genEdge_good
    | with_reducible apply hf

theorem gen1Answer_good (write : Bool) (st v : Nat) (s : State) (hg : Good qs s) : Good qs (gen1Answer write st v s) := by
  unfold gen1Answer
  repeat' first
    | with_reducible assumption
    | (refine fun _ => ?_)
    | lift_lets
    | intro x
    | split
    | with_reducible apply gen1Result_good

end Sys2Proof.Machine
end

