-- ==== Sys2Proof/Laws/SoundFlashBoot.lean ====
section
/-! SUPPORT. Every state function of Machine/FlashBoot.lean keeps the invariant `Good` of Laws/Sound.lean. -/

namespace Sys2Proof.Machine

variable {qs : List Instr}

theorem flWord_good (a v : Nat) (s : State) (hg : Good qs s) : Good qs (flWord a v s).2 := by
  unfold flWord
  repeat' first
    | with_reducible assumption
    | (refine fun _ => ?_)
    | lift_lets
    | intro x
    | split
    | with_reducible apply accessBegin_good

theorem askFlash_good (a n : Nat) (s : State) (hg : Good qs s) : Good qs (askFlash a n s) := by
  unfold askFlash
  repeat' first
    | with_reducible assumption
    | (refine fun _ => ?_)
    | lift_lets
    | (intro x; clear_value x)
    | intro x
    | split
    | (refine good_of_parts ?_; dsimp only; refine parts_of_good ?_; with_reducible assumption)

theorem bootBegin_good (s : State) (hg : Good qs s) : Good qs (bootBegin s) := by
  unfold bootBegin
  repeat' first
    | with_reducible assumption
    | (refine fun _ => ?_)
    | lift_lets
    | (intro x; refine sup (Good qs x) ?_ ?_; (on_goal 1 => subst x); (on_goal 2 => (intro _; clear_value x)))
    | intro x
    | split
    | with_reducible apply askFlash_good
    | with_reducible apply State.wr_good

theorem bootEnd_good (r : Nat) (s : State) (hg : Good qs s) : Good qs (bootEnd r s) := by
  unfold bootEnd
  repeat' first
    | with_reducible assumption
    | (refine fun _ => ?_)
    | lift_lets
    | (intro x; refine sup (Good qs x) ?_ ?_; (on_goal 1 => subst x); (on_goal 2 => (intro _; clear_value x)))
    | (intro x; clear_value x)
    | intro x
    | split
    | with_reducible apply State.wr_good
    | with_reducible apply State.raise_good
    | (refine good_of_parts ?_; dsimp only; refine parts_of_good ?_; with_reducible assumption)

theorem bootHeader_good (h : List Byte) (s : State) (hg : Good qs s) : Good qs (bootHeader h s) := by
  unfold bootHeader
  repeat' first
    | with_reducible assumption
    | (refine fun _ => ?_)
    | lift_lets
    | (intro x; refine sup (Good qs x) ?_ ?_; (on_goal 1 => subst x); (on_goal 2 => (intro _; clear_value x)))
    | (intro x; clear_value x)
    | intro x
    | split
    | with_reducible apply bootEnd_good
    | with_reducible apply askFlash_good
    | with_reducible apply State.wr_good
    | (refine good_of_parts ?_; dsimp only; refine parts_of_good ?_; with_reducible assumption)

theorem bootWrites_good (l : List (Nat × Nat)) (s : State) (h : Good qs s) : Good qs (bootWrites l s) := by
  induction l generalizing s with
  | nil => exact askFlash_good _ _ _ (State.wr_good _ _ _ _ h)
  | cons e l ih =>
    unfold bootWrites
    repeat' first
      | with_reducible assumption
      | (refine fun _ => ?_)
      | lift_lets
      | (intro x; refine sup (Good qs x) ?_ ?_; (on_goal 1 => subst x); (on_goal 2 => (intro _; clear_value x)))
      | (intro x; refine sup (Good qs x.2) ?_ ?_; (on_goal 1 => subst x); (on_goal 2 => (intro _; clear_value x)))
      | (intro x; clear_value x)
      | intro x
      | split
      | with_reducible apply ih
      | with_reducible apply flWord_good
      | with_reducible apply bootEnd_good
      | with_reducible apply State.wr_good
      | (refine good_of_parts ?_; dsimp only; refine parts_of_good ?_; with_reducible assumption)

theorem bootAnswer_good (st : Nat) (s : State) (hg : Good qs s) : Good qs (bootAnswer st s) := by
  unfold bootAnswer
  repeat' first
    | with_reducible assumption
    | (refine fun _ => ?_)
    | lift_lets
    | intro x
    | split
    | with_reducible apply bootEnd_good
    | with_reducible apply State.wr_good
    | with_reducible apply bootWrites_good

theorem bootInit_good (l : List Byte) (s : State) (hg : Good qs s) : Good qs (bootInit l s) := by
  unfold bootInit
  repeat' first
    | with_reducible assumption
    | (refine fun _ => ?_)
    | lift_lets
    | (intro x; clear_value x)
    | intro x
    | split
    | with_reducible apply bootEnd_good
    | with_reducible apply bootWrites_good
    | (refine good_of_parts ?_; dsimp only; refine parts_of_good ?_; with_reducible assumption)

theorem bootCopied_good (s : State) (hg : Good qs s) : Good qs (bootCopied s) := by
  unfold bootCopied
  repeat' first
    | with_reducible assumption
    | (refine fun _ => ?_)
    | lift_lets
    | (intro x; refine sup (Good qs x) ?_ ?_; (on_goal 1 => subst x); (on_goal 2 => (intro _; clear_value x)))
    | (intro x; clear_value x)
    | intro x
    | split
    | with_reducible apply State.wr_good
    | with_reducible apply planLoadStep_good
    | (refine good_of_parts ?_; dsimp only; refine parts_of_good ?_; with_reducible assumption)

theorem flBytes_good (n st v : Nat) (s : State) (hg : Good qs s) : Good qs (flBytes n st v s).2 := by
  unfold flBytes
  repeat' first
    | with_reducible assumption
    | (refine fun _ => ?_)
    | lift_lets
    | (intro x; refine sup (Good qs x) ?_ ?_; (on_goal 1 => subst x); (on_goal 2 => (intro _; clear_value x)))
    | (intro x; refine sup (Good qs x.2) ?_ ?_; (on_goal 1 => subst x); (on_goal 2 => (intro _; clear_value x)))
    | intro x
    | split
    | with_reducible apply State.drawFree_good
    | (refine good_of_parts ?_; dsimp only; refine parts_of_good ?_; with_reducible assumption)

theorem flTake_good (n st v : Nat) (s : State) (hg : Good qs s) : Good qs (flTake n st v s) := by
  unfold flTake
  repeat' first
    | with_reducible assumption
    | (refine fun _ => ?_)
    | lift_lets
    | (intro x; refine sup (Good qs x) ?_ ?_; (on_goal 1 => subst x); (on_goal 2 => (intro _; clear_value x)))
    | (intro x; refine sup (Good qs x.2) ?_ ?_; (on_goal 1 => subst x); (on_goal 2 => (intro _; clear_value x)))
    | (intro x; clear_value x)
    | intro x
    | split
    | with_reducible apply flBytes_good
    | (refine good_of_parts ?_; dsimp only; refine parts_of_good ?_; with_reducible assumption)

theorem flEnds_good (j : FlJob) (s : State) (hg : Good qs s) : Good qs (flEnds j s) := by
  unfold flEnds
  repeat' first
    | with_reducible assumption
    | (refine fun _ => ?_)
    | lift_lets
    | (intro x; refine sup (Good qs x) ?_ ?_; (on_goal 1 => subst x); (on_goal 2 => (intro _; clear_value x)))
    | (intro x; clear_value x)
    | intro x
    | split
    | with_reducible apply bootCopied_good
    | with_reducible apply State.wr_good
    | with_reducible apply State.raise_good
    | (refine good_of_parts ?_; dsimp only; refine parts_of_good ?_; with_reducible assumption)

theorem flRun_good (k : Nat) (s : State) (hg : Good qs s) : Good qs (flRun k s) := by
  induction k generalizing s with
  | zero => exact hg
  | succ k ih =>
    unfold flRun
    split
    · exact hg
    · refine good_ite (flEnds_good _ _ hg) ?_
      dsimp only
      split
      · exact accessBegin_good _ _ _ _ _ _ _ hg
      · exact ih _ (flTake_good _ _ _ _ (accessBegin_good _ _ _ _ _ _ _ hg))

theorem flAnswer_good (st v : Nat) (s : State) (hg : Good qs s) : Good qs (flAnswer st v s) := by
  unfold flAnswer
  repeat' first
    | with_reducible assumption
    | (refine fun _ => ?_)
    | lift_lets
    | intro x
    | split
    | with_reducible apply flRun_good
    | with_reducible apply flTake_good

theorem flStore_good (boot : Bool) (a : Nat) (l : List Byte) (s : State) (hg : Good qs s) : Good qs (flStore boot a l s) := by
  unfold flStore
  repeat' first
    | with_reducible assumption
    | (refine fun _ => ?_)
    | lift_lets
    | (intro x; clear_value x)
    | intro x
    | split
    | with_reducible apply flRun_good
    | (refine good_of_parts ?_; dsimp only; refine parts_of_good ?_; with_reducible assumption)

theorem bootImage_good (l : List Byte) (s : State) (hg : Good qs s) : Good qs (bootImage l s) := by
  unfold bootImage
  repeat' first
    | with_reducible assumption
    | (refine fun _ => ?_)
    | lift_lets
    | intro x
    | split
    | with_reducible apply flStore_good

theorem bootLoaded_good (s : State) (hg : Good qs s) : Good qs (bootLoaded s) := by
  unfold bootLoaded
  repeat' first
    | with_reducible assumption
    | (refine fun _ => ?_)
    | lift_lets
    | intro x
    | split
    | with_reducible apply bootEnd_good
    | with_reducible apply State.wr_good

theorem bootArm_good (s : State) (hg : Good qs s) : Good qs (bootArm s) := by
  unfold bootArm
  repeat' first
    | with_reducible assumption
    | (refine fun _ => ?_)
    | lift_lets
    | (intro x; refine sup (Good qs x) ?_ ?_; (on_goal 1 => subst x); (on_goal 2 => (intro _; clear_value x)))
    | intro x
    | split
    | with_reducible apply armStep_good
    | with_reducible apply bootEnd_good

theorem bootStageStep_good (bytes : List Byte) (s : State) (hg : Good qs s) : Good qs (bootStageStep bytes s) := by
  unfold bootStageStep
  repeat' first
    | with_reducible assumption
    | (refine fun _ => ?_)
    | lift_lets
    | intro x
    | split
    | with_reducible apply bootHeader_good
    | with_reducible apply bootInit_good
    | with_reducible apply bootImage_good
    | with_reducible apply bootLoaded_good
    | with_reducible apply bootArm_good

theorem flDoneStep_good (bytes : List Byte) (s : State) (hg : Good qs s) : Good qs (flDoneStep bytes s) := by
  unfold flDoneStep
  repeat' first
    | with_reducible assumption
    | (refine fun _ => ?_)
    | lift_lets
    | intro x
    | split
    | with_reducible apply State.wr_good
    | with_reducible apply State.raise_good
    | with_reducible apply flStore_good

end Sys2Proof.Machine
end

