-- ==== Sys2Proof/Laws/SoundFlume.lean ====
section
/-! SUPPORT. Every state function of Machine/Flume.lean keeps the invariant `Good` of Laws/Sound.lean. -/

namespace Sys2Proof.Machine

variable {qs : List Instr}

theorem chanTurn_good (c : Fin 32) (a : Nat) (s : State) (hg : Good qs s) : Good qs (chanTurn c a s) := by
  unfold chanTurn
  repeat' first
    | with_reducible assumption
    | (refine fun _ => ?_)
    | lift_lets
    | intro x
    | split
    | with_reducible apply takeTurn_good

theorem pieceRead_good (c : Fin 32) (b m : Nat) (s : State) (hg : Good qs s) : Good qs (pieceRead c b m s).2 := by
  unfold pieceRead
  repeat' first
    | with_reducible assumption
    | (refine fun _ => ?_)
    | lift_lets
    | (intro x; refine sup (Good qs x.2) ?_ ?_; (on_goal 1 => subst x); (on_goal 2 => (intro _; clear_value x)))
    | intro x
    | split
    | with_reducible apply accessDo_good

theorem joinPiece_good (c : Fin 32) (n m v : Nat) (s : State) (hg : Good qs s) : Good qs (joinPiece c n m v s).2 := by
  unfold joinPiece
  repeat' first
    | with_reducible assumption
    | (refine fun _ => ?_)
    | lift_lets
    | (intro x; clear_value x)
    | intro x
    | split
    | with_reducible apply State.updFlume_good

theorem chanRead_good (c : Fin 32) (a n : Nat) (s : State) (hg : Good qs s) : Good qs (chanRead c a n s).2 := by
  unfold chanRead
  repeat' first
    | with_reducible assumption
    | (refine fun _ => ?_)
    | lift_lets
    | (intro x; refine sup (Good qs x.2) ?_ ?_; (on_goal 1 => subst x); (on_goal 2 => (intro _; clear_value x)))
    | (intro x; clear_value x)
    | intro x
    | split
    | with_reducible apply pieceRead_good
    | with_reducible apply chanTurn_good
    | with_reducible apply joinPiece_good

theorem chanWrite_good (c : Fin 32) (a n v : Nat) (s : State) (hg : Good qs s) : Good qs (chanWrite c a n v s).2 := by
  unfold chanWrite
  repeat' first
    | with_reducible assumption
    | (refine fun _ => ?_)
    | lift_lets
    | intro x
    | split
    | with_reducible apply accessDo_good
    | with_reducible apply chanTurn_good

theorem chanEnds_good (c : Fin 32) (res : Nat) (s : State) (hg : Good qs s) : Good qs (chanEnds c res s) := by
  unfold chanEnds
  repeat' first
    | with_reducible assumption
    | (refine fun _ => ?_)
    | lift_lets
    | intro x
    | split
    | with_reducible apply dmaServe_good
    | with_reducible apply flumeEnd_good

theorem dataEnds_good (c : Fin 32) (res : Nat) (s : State) (hg : Good qs s) : Good qs (dataEnds c res s) := by
  unfold dataEnds
  repeat' first
    | with_reducible assumption
    | (refine fun _ => ?_)
    | lift_lets
    | intro x
    | split
    | with_reducible apply sumFlush_good
    | with_reducible apply State.updFlume_good
    | with_reducible apply chanEnds_good

theorem appendValue_good (c : Fin 32) (s : State) (hg : Good qs s) : Good qs (appendValue c s).2 := by
  unfold appendValue
  repeat' first
    | with_reducible assumption
    | (refine fun _ => ?_)
    | lift_lets
    | (intro x; refine sup (Good qs x.2) ?_ ?_; (on_goal 1 => subst x); (on_goal 2 => (intro _; clear_value x)))
    | intro x
    | split
    | with_reducible apply State.drawFree_good

theorem appendDone_good (c : Fin 32) (res n : Nat) (l : List Nat) (s : State) (hg : Good qs s) : Good qs (appendDone c res n l s) := by
  unfold appendDone
  repeat' first
    | with_reducible assumption
    | (refine fun _ => ?_)
    | lift_lets
    | intro x
    | split
    | with_reducible apply chanEnds_good
    | with_reducible apply State.updFlume_good

theorem appendBeat_good (c : Fin 32) (res : Nat) (s : State) (hg : Good qs s) : Good qs (appendBeat c res s) := by
  unfold appendBeat
  repeat' first
    | with_reducible assumption
    | (refine fun _ => ?_)
    | lift_lets
    | (intro x; refine sup (Good qs x) ?_ ?_; (on_goal 1 => subst x); (on_goal 2 => (intro _; clear_value x)))
    | (intro x; refine sup (Good qs x.2) ?_ ?_; (on_goal 1 => subst x); (on_goal 2 => (intro _; clear_value x)))
    | (intro x; clear_value x)
    | intro x
    | split
    | with_reducible apply appendValue_good
    | with_reducible apply State.updFlume_good
    | with_reducible apply chanWrite_good
    | with_reducible apply appendDone_good
    | with_reducible apply flumeHalt_good

theorem takeElement_good (c : Fin 32) (a w : Nat) (s : State) (hg : Good qs s) : Good qs (takeElement c a w s) := by
  unfold takeElement
  repeat' first
    | with_reducible assumption
    | (refine fun _ => ?_)
    | lift_lets
    | (intro x; refine sup (Good qs x) ?_ ?_; (on_goal 1 => subst x); (on_goal 2 => (intro _; clear_value x)))
    | (intro x; clear_value x)
    | intro x
    | split
    | with_reducible apply State.wr_good
    | with_reducible apply chanEnds_good
    | with_reducible apply State.updFlume_good

theorem readEnds_good (c : Fin 32) (a : Nat) (f : Nat → State → State) (x : AccessResult × State)
    (hf : ∀ w s, Good qs s → Good qs (f w s)) (hg : Good qs x.2) : Good qs (readEnds c a f x) := by
  unfold readEnds
  repeat' first
    | with_reducible assumption
    | split
    | with_reducible apply hf
    | with_reducible apply flumeHalt_good

theorem elementBeat_good (c : Fin 32) (a : Nat) (s : State) (hg : Good qs s) : Good qs (elementBeat c a s) := by
  unfold elementBeat
  repeat' first
    | with_reducible assumption
    | (refine fun _ => ?_)
    | lift_lets
    | intro x
    | split
    | with_reducible apply readEnds_good
    | with_reducible apply takeElement_good
    | with_reducible apply chanRead_good

theorem chanAdvance_good (c : Fin 32) (n : Nat) (l : List Nat) (s : State) (hg : Good qs s) : Good qs (chanAdvance c n l s) := by
  unfold chanAdvance
  repeat' first
    | with_reducible assumption
    | (refine fun _ => ?_)
    | lift_lets
    | (intro x; refine sup (Good qs x) ?_ ?_; (on_goal 1 => subst x); (on_goal 2 => (intro _; clear_value x)))
    | intro x
    | split
    | with_reducible apply foldS_good
    | with_reducible apply sumByte_good
    | with_reducible apply State.wr_good
    | with_reducible apply State.updFlume_good
    | with_reducible apply flumeEvt_good
    | with_reducible apply dataEnds_good

theorem writeBeat_good (c : Fin 32) (l : List Nat) (s : State) (hg : Good qs s) : Good qs (writeBeat c l s) := by
  unfold writeBeat
  repeat' first
    | with_reducible assumption
    | (refine fun _ => ?_)
    | lift_lets
    | (intro x; refine sup (Good qs x.2) ?_ ?_; (on_goal 1 => subst x); (on_goal 2 => (intro _; clear_value x)))
    | (intro x; clear_value x)
    | intro x
    | split
    | with_reducible apply chanWrite_good
    | with_reducible apply chanAdvance_good
    | with_reducible apply flumeHalt_good

theorem takeData_good (c : Fin 32) (n v : Nat) (s : State) (hg : Good qs s) : Good qs (takeData c n v s) := by
  unfold takeData
  repeat' first
    | with_reducible assumption
    | (refine fun _ => ?_)
    | lift_lets
    | (intro x; clear_value x)
    | intro x
    | split
    | with_reducible apply writeBeat_good
    | with_reducible apply State.updFlume_good

theorem dataBeat_good (c : Fin 32) (s : State) (hg : Good qs s) : Good qs (dataBeat c s) := by
  unfold dataBeat
  repeat' first
    | with_reducible assumption
    | (refine fun _ => ?_)
    | lift_lets
    | (intro x; clear_value x)
    | intro x
    | split
    | with_reducible apply readEnds_good
    | with_reducible apply takeData_good
    | with_reducible apply chanRead_good

theorem beatStep_good (c : Fin 32) (s : State) (hg : Good qs s) : Good qs (beatStep c s) := by
  unfold beatStep
  repeat' first
    | with_reducible assumption
    | (refine fun _ => ?_)
    | lift_lets
    | (intro x; clear_value x)
    | intro x
    | split
    | with_reducible apply appendBeat_good
    | with_reducible apply writeBeat_good
    | with_reducible apply dataBeat_good
    | with_reducible apply elementBeat_good

theorem chanReadAnswer_good (c : Fin 32) (a n : Nat) (f : Nat → State → State) (v : Nat) (s : State) (hf : ∀ x s, Good qs s → Good qs (f x s)) (hg : Good qs s) : Good qs (chanReadAnswer c a n f v s) := by
  unfold chanReadAnswer
  repeat' first
    | with_reducible assumption
    | (refine fun _ => ?_)
    | lift_lets
    | (intro x; clear_value x)
    | intro x
    | split
    | with_reducible apply readEnds_good
    | with_reducible apply joinPiece_good
    | with_reducible apply hf

theorem chanAnswer_good (c : Fin 32) (write : Bool) (st v : Nat) (s : State) (hg : Good qs s) : Good qs (chanAnswer c write st v s) := by
  unfold chanAnswer
  repeat' first
    | with_reducible assumption
    | (refine fun _ => ?_)
    | lift_lets
    | (intro x; clear_value x)
    | intro x
    | split
    | with_reducible apply flumeHalt_good
    | with_reducible apply appendDone_good
    | with_reducible apply chanAdvance_good
    | with_reducible apply chanReadAnswer_good
    | with_reducible apply takeData_good
    | with_reducible apply takeElement_good

end Sys2Proof.Machine
end

