-- ==== Sys2Proof/Laws/SoundFollower.lean ====
section
/-! SUPPORT. Every state function of Machine/Follower.lean keeps the invariant `Good` of Laws/Sound.lean. -/

namespace Sys2Proof.Machine

variable {qs : List Instr}

theorem crossEntry_good (n : Nat) (h : Bool) (s : State) (hg : Good qs s) : Good qs (crossEntry n h s) := by
  unfold crossEntry
  repeat' first
    | with_reducible assumption
    | (refine fun _ => ?_)
    | lift_lets
    | (intro x; refine sup (Good qs x) ?_ ?_; (on_goal 1 => subst x); (on_goal 2 => (intro _; clear_value x)))
    | (intro x; clear_value x)
    | intro x
    | split
    | with_reducible apply State.updTrk_good
    | with_reducible apply envelopeEdge_good
    | with_reducible apply trimSnapshot_good

theorem crossEntries_good (k old new : Nat) (s : State) (h : Good qs s) : Good qs (crossEntries k old new s) := by
  induction k generalizing old s with
  | zero => exact h
  | succ k ih =>
    unfold crossEntries
    repeat' first
      | with_reducible assumption
      | (refine fun _ => ?_)
      | lift_lets
      | (intro x; clear_value x)
      | intro x
      | split
      | with_reducible apply ih
      | with_reducible apply crossEntry_good

theorem followLoss_good (s : State) (hg : Good qs s) : Good qs (followLoss s) := by
  unfold followLoss
  repeat' first
    | with_reducible assumption
    | (refine fun _ => ?_)
    | lift_lets
    | intro x
    | split
    | with_reducible apply loseSync_good

theorem followEst_good (est inc : Nat) (s : State) (hg : Good qs s) : Good qs (followEst est inc s) := by
  unfold followEst
  repeat' first
    | with_reducible assumption
    | (refine fun _ => ?_)
    | lift_lets
    | (intro x; refine sup (Good qs x) ?_ ?_; (on_goal 1 => subst x); (on_goal 2 => (intro _; clear_value x)))
    | (intro x; clear_value x)
    | intro x
    | split
    | with_reducible apply State.updTrk_good
    | with_reducible apply State.updLink_good
    | with_reducible apply reachPos_good
    | with_reducible apply sweepTo_good
    | with_reducible apply crossEntries_good

theorem followSync_good (est inc : Nat) (astern : Bool) (s : State) (hg : Good qs s) : Good qs (followSync est inc astern s) := by
  unfold followSync
  repeat' first
    | with_reducible assumption
    | (refine fun _ => ?_)
    | lift_lets
    | (intro x; refine sup (Good qs x) ?_ ?_; (on_goal 1 => subst x); (on_goal 2 => (intro _; clear_value x)))
    | (intro x; clear_value x)
    | intro x
    | split
    | with_reducible apply setAstern_good
    | with_reducible apply State.updTrk_good
    | with_reducible apply State.updLink_good
    | with_reducible apply State.wr_good
    | with_reducible apply State.raise_good
    | with_reducible apply openEpoch_good

theorem followTurn_good (est inc : Nat) (s : State) (hg : Good qs s) : Good qs (followTurn est inc s) := by
  unfold followTurn
  repeat' first
    | with_reducible assumption
    | (refine fun _ => ?_)
    | lift_lets
    | (intro x; refine sup (Good qs x) ?_ ?_; (on_goal 1 => subst x); (on_goal 2 => (intro _; clear_value x)))
    | (intro x; clear_value x)
    | intro x
    | split
    | with_reducible apply setAstern_good
    | with_reducible apply State.updLink_good
    | with_reducible apply State.updTrk_good

theorem followResume_good (est inc : Nat) (s : State) (hg : Good qs s) : Good qs (followResume est inc s) := by
  unfold followResume
  repeat' first
    | with_reducible assumption
    | (refine fun _ => ?_)
    | lift_lets
    | (intro x; refine sup (Good qs x) ?_ ?_; (on_goal 1 => subst x); (on_goal 2 => (intro _; clear_value x)))
    | intro x
    | split
    | with_reducible apply State.bump_good
    | with_reducible apply enterRunning_good
    | with_reducible apply State.updTrk_good
    | with_reducible apply pendingDisarm_good
    | with_reducible apply followEst_good

theorem reportStall_good (stalled : Bool) (s : State) (hg : Good qs s) : Good qs (reportStall stalled s) := by
  unfold reportStall
  repeat' first
    | with_reducible assumption
    | (refine fun _ => ?_)
    | lift_lets
    | intro x
    | split
    | with_reducible apply declareStall_good

theorem syncBeat_good (b : AngleBeat) (inc : Nat) (stalled : Bool) (s : State) (hg : Good qs s) : Good qs (syncBeat b inc stalled s) := by
  unfold syncBeat
  repeat' first
    | with_reducible assumption
    | (refine fun _ => ?_)
    | lift_lets
    | (intro x; clear_value x)
    | intro x
    | split
    | with_reducible apply followLoss_good
    | with_reducible apply reportStall_good
    | with_reducible apply reversalWith_good
    | with_reducible apply followTurn_good
    | with_reducible apply followResume_good
    | with_reducible apply followEst_good

theorem activeBeat_good (b : AngleBeat) (inc : Nat) (stalled : Bool) (s : State) (hg : Good qs s) : Good qs (activeBeat b inc stalled s) := by
  unfold activeBeat
  repeat' first
    | with_reducible assumption
    | (refine fun _ => ?_)
    | lift_lets
    | (intro x; refine sup (Good qs x) ?_ ?_; (on_goal 1 => subst x); (on_goal 2 => (intro _; clear_value x)))
    | intro x
    | split
    | with_reducible apply State.updLink_good
    | with_reducible apply beatAt_good
    | with_reducible apply State.enter_good
    | with_reducible apply syncBeat_good
    | with_reducible apply reportStall_good
    | with_reducible apply followSync_good

theorem takeOver_good (b : AngleBeat) (inc : Nat) (s : State) (hg : Good qs s) : Good qs (takeOver b inc s).2 := by
  unfold takeOver
  repeat' first
    | with_reducible assumption
    | (refine fun _ => ?_)
    | lift_lets
    | (intro x; refine sup (Good qs x) ?_ ?_; (on_goal 1 => subst x); (on_goal 2 => (intro _; clear_value x)))
    | (intro x; clear_value x)
    | intro x
    | split
    | with_reducible apply State.updLink_good
    | with_reducible apply State.wr_good
    | with_reducible apply State.bump_good
    | with_reducible apply State.raise_good
    | with_reducible apply followLoss_good

theorem followBeat_good (b : AngleBeat) (inc : Nat) (stalled : Bool) (s : State) (hg : Good qs s) : Good qs (followBeat b inc stalled s) := by
  unfold followBeat
  repeat' first
    | with_reducible assumption
    | (refine fun _ => ?_)
    | lift_lets
    | (intro x; refine sup (Good qs x.2) ?_ ?_; (on_goal 1 => subst x); (on_goal 2 => (intro _; clear_value x)))
    | intro x
    | split
    | with_reducible apply activeBeat_good
    | with_reducible apply takeOver_good

theorem notePeer_good (b : AngleBeat) (inc : Nat) (s : State) (hg : Good qs s) : Good qs (notePeer b inc s) := by
  unfold notePeer
  repeat' first
    | with_reducible assumption
    | (refine fun _ => ?_)
    | lift_lets
    | (intro x; clear_value x)
    | intro x
    | split
    | (refine good_of_parts ?_; dsimp only; refine parts_of_good ?_; with_reducible assumption)

theorem followTick_good (s : State) (hg : Good qs s) : Good qs (followTick s) := by
  unfold followTick
  repeat' first
    | with_reducible assumption
    | (refine fun _ => ?_)
    | lift_lets
    | (intro x; clear_value x)
    | intro x
    | split
    | with_reducible apply State.updTrk_good
    | with_reducible apply State.updLink_good

theorem flyExpireStep_good (s : State) (hg : Good qs s) : Good qs (flyExpireStep s) := by
  unfold flyExpireStep
  repeat' first
    | with_reducible assumption
    | (refine fun _ => ?_)
    | lift_lets
    | (intro x; clear_value x)
    | intro x
    | split
    | with_reducible apply followLoss_good

end Sys2Proof.Machine
end

