-- ==== Sys2Proof/Laws/SoundReset.lean ====
section
/-! SUPPORT. Every state function of Machine/Reset.lean keeps the invariant `Good` of Laws/Sound.lean. -/

namespace Sys2Proof.Machine

variable {qs : List Instr}

theorem strapRegs_good (s : State) (hg : Good qs s) : Good qs (strapRegs s) := by
  unfold strapRegs
  repeat' first
    | with_reducible assumption
    | (refine fun _ => ?_)
    | lift_lets
    | (intro x; refine sup (Good qs x) ?_ ?_; (on_goal 1 => subst x); (on_goal 2 => (intro _; clear_value x)))
    | (intro x; clear_value x)
    | intro x
    | split
    | with_reducible apply foldS_good
    | with_reducible apply State.wrBoth_good
    | with_reducible apply strapConv_good
    | with_reducible apply State.wr_good
    | with_reducible apply State.updHost_good

theorem initBanks_legal (i : Fin 16) : maskLegal (Vector.replicate 16 initBank)[i].mask := by
  simp [maskLegal, initBank]

theorem coldState_good (s : State) (hg : Good qs s) : Good qs (coldState s) := by
  rw [good_iff] at *
  refine ⟨hg.1, rfl, ?_, (by simp [coldState, initDevice]), ?_⟩
  · exact initBanks_legal
  · exact ⟨fun h => absurd h (by simp [coldState, initDevice]), rfl⟩

theorem coldBegin_good (cause : Nat) (s : State) (hg : Good qs s) : Good qs (coldBegin cause s) := by
  unfold coldBegin
  repeat' first
    | with_reducible assumption
    | (refine fun _ => ?_)
    | lift_lets
    | intro x
    | split
    | with_reducible apply strapRegs_good
    | with_reducible apply coldState_good
    | with_reducible apply State.setReg_good

theorem sampleStraps_good (s : State) (hg : Good qs s) : Good qs (sampleStraps s) := by
  unfold sampleStraps
  repeat' first
    | with_reducible assumption
    | (refine fun _ => ?_)
    | lift_lets
    | intro x
    | split
    | with_reducible apply strapRegs_good
    | with_reducible apply updDev_good
    | with_reducible rfl

theorem powerOnStep_good (up : Bool) (s : State) (hg : Good qs s) : Good qs (powerOnStep up s) := by
  unfold powerOnStep
  repeat' first
    | with_reducible assumption
    | (refine fun _ => ?_)
    | lift_lets
    | intro x
    | split
    | with_reducible apply updSys_good
    | with_reducible rfl
    | with_reducible apply coldBegin_good

theorem resetAssertStep_good (s : State) (hg : Good qs s) : Good qs (resetAssertStep s) := by
  unfold resetAssertStep
  repeat' first
    | with_reducible assumption
    | (refine fun _ => ?_)
    | lift_lets
    | intro x
    | split
    | with_reducible apply coldBegin_good
    | with_reducible apply updSys_good
    | with_reducible rfl

theorem resetReleaseStep_good (straps : BitVec 8) (s : State) (hg : Good qs s) : Good qs (resetReleaseStep straps s) := by
  unfold resetReleaseStep
  repeat' first
    | with_reducible assumption
    | (refine fun _ => ?_)
    | lift_lets
    | intro x
    | split
    | with_reducible apply sampleStraps_good
    | with_reducible apply updSys_good
    | with_reducible rfl

theorem linkReset_good (s : State) (hg : Good qs s) : Good qs (linkReset s) := by
  unfold linkReset
  repeat' first
    | with_reducible assumption
    | (refine fun _ => ?_)
    | lift_lets
    | (intro x; refine sup (Good qs x) ?_ ?_; (on_goal 1 => subst x); (on_goal 2 => (intro _; clear_value x)))
    | intro x
    | split
    | with_reducible apply coldBegin_good
    | with_reducible apply updSys_good
    | with_reducible rfl
    | with_reducible apply State.updLink_good

theorem linkReleaseStep_good (s : State) (hg : Good qs s) : Good qs (linkReleaseStep s) := by
  unfold linkReleaseStep
  repeat' first
    | with_reducible assumption
    | (refine fun _ => ?_)
    | lift_lets
    | intro x
    | split
    | with_reducible apply sampleStraps_good
    | with_reducible apply updSys_good
    | with_reducible rfl
    | with_reducible apply State.updLink_good

theorem sendPing_good (p : Fin 2) (s : State) (hg : Good qs s) : Good qs (sendPing p s) := by
  unfold sendPing
  repeat' first
    | with_reducible assumption
    | (refine fun _ => ?_)
    | lift_lets
    | intro x
    | split
    | with_reducible apply putOut_good

theorem startTraining_good (p : Fin 2) (oneLane : Bool) (s : State) (hg : Good qs s) : Good qs (startTraining p oneLane s) := by
  unfold startTraining
  repeat' first
    | with_reducible assumption
    | (refine fun _ => ?_)
    | lift_lets
    | (intro x; refine sup (Good qs x) ?_ ?_; (on_goal 1 => subst x); (on_goal 2 => (intro _; clear_value x)))
    | intro x
    | split
    | with_reducible apply setPort_good
    | with_reducible apply State.updPort_good
    | with_reducible apply sendPing_good
    | with_reducible apply State.updLink_good

theorem bootIfStrapped_good (s : State) (hg : Good qs s) : Good qs (bootIfStrapped s) := by
  unfold bootIfStrapped
  repeat' first
    | with_reducible assumption
    | (refine fun _ => ?_)
    | lift_lets
    | intro x
    | split
    | with_reducible apply bootBegin_good

theorem coldDoneStep_good (bundleOk : Bool) (s : State) (hg : Good qs s) : Good qs (coldDoneStep bundleOk s) := by
  unfold coldDoneStep
  repeat' first
    | with_reducible assumption
    | (refine fun _ => ?_)
    | lift_lets
    | (intro x; (have y : Sys := x; clear y); subst x)
    | (intro x; refine sup (Good qs x) ?_ ?_; (on_goal 1 => subst x); (on_goal 2 => (intro _; clear_value x)))
    | (intro x; clear_value x)
    | intro x
    | split
    | with_reducible apply updSys_good
    | with_reducible rfl
    | with_reducible apply State.wr_good
    | with_reducible apply State.enter_good
    | with_reducible apply State.restartPt_good
    | with_reducible apply bootIfStrapped_good
    | with_reducible apply startTraining_good
    | (refine good_of_parts ?_; dsimp only; refine parts_of_good ?_; with_reducible assumption)

theorem copyFields_good (l : List (Nat × Fld)) (old : State) (s : State) (hg : Good qs s) : Good qs (copyFields l old s) := by
  unfold copyFields
  repeat' first
    | with_reducible assumption
    | (refine fun _ => ?_)
    | lift_lets
    | intro x
    | split
    | with_reducible apply foldS_good
    | with_reducible apply State.wr_good

theorem warmRegs_good (lostL lostD : Bool) (old : State) (s : State) (hg : Good qs s) : Good qs (warmRegs lostL lostD old s) := by
  unfold warmRegs
  repeat' first
    | with_reducible assumption
    | (refine fun _ => ?_)
    | lift_lets
    | (intro x; refine sup (Good qs x) ?_ ?_; (on_goal 1 => subst x); (on_goal 2 => (intro _; clear_value x)))
    | intro x
    | split
    | with_reducible apply strapRegs_good
    | with_reducible apply copyFields_good
    | with_reducible apply State.wr_good
    | with_reducible apply hf
    | (refine good_of_parts ?_; dsimp only; refine parts_of_good ?_; with_reducible assumption)

theorem warmMem_good (lostL lostD : Bool) (old : State) (s : State) (ho : Good qs old) (hg : Good qs s) :
    Good qs (warmMem lostL lostD old s) :=
  good_mem hg (fun _ => tableWf_filter _ (good_iff.1 ho).2.1) rfl rfl rfl rfl rfl

theorem lockBanks_legal (v : Vector Bank 16) (i : Fin 16) :
    maskLegal (v.map (fun (b : Bank) => { initBank with chLock := b.chLock, bankLock := b.bankLock }))[i].mask := by
  simp [maskLegal, initBank]

theorem warmDDie_good (lostD : Bool) (old : State) (s : State) (hg : Good qs s) : Good qs (warmDDie lostD old s) := by
  have key : Good qs (if lostD then s else { s with
    lev := old.lev
    banks := old.banks.map (fun (b : Bank) => { initBank with chLock := b.chLock, bankLock := b.bankLock }) }) := by
    split
    · exact hg
    · rw [good_iff] at *
      exact ⟨hg.1, hg.2.1, lockBanks_legal _, hg.2.2.2⟩
  simp only [warmDDie]
  split
  · exact good_eq key rfl rfl rfl rfl rfl rfl rfl
  · exact key

theorem warmLDie_good (lostL : Bool) (old : State) (s : State) (hg : Good qs s) : Good qs (warmLDie lostL old s) := by
  unfold warmLDie
  repeat' first
    | with_reducible assumption
    | (refine fun _ => ?_)
    | lift_lets
    | (intro x; clear_value x)
    | intro x
    | split
    | with_reducible apply hf
    | (refine good_of_parts ?_; dsimp only; refine parts_of_good ?_; with_reducible assumption)

theorem warmState_good (lostL lostD : Bool) (old : State) (hg : Good qs old) : Good qs (warmState lostL lostD old) := by
  have key : Good qs { coldState old with dev := { (coldState old).dev with epoch := old.dev.epoch, cycle := old.dev.cycle } } := by
    have h := coldState_good old hg
    rw [good_iff] at *
    exact ⟨h.1, h.2.1, h.2.2.1, hg.2.2.2.1, fun h => absurd h (by simp [coldState, initDevice]), rfl⟩
  simp only [warmState]
  refine warmLDie_good _ _ _ (warmDDie_good _ _ _ (warmMem_good _ _ _ _ hg (warmRegs_good _ _ _ _ ?_)))
  exact good_eq key rfl rfl rfl rfl rfl rfl rfl

theorem warmBegin_good (lostL lostD : Bool) (s : State) (hg : Good qs s) : Good qs (warmBegin lostL lostD s) := by
  unfold warmBegin
  repeat' first
    | with_reducible assumption
    | (refine fun _ => ?_)
    | lift_lets
    | (intro x; refine sup (Good qs x) ?_ ?_; (on_goal 1 => subst x); (on_goal 2 => (intro _; clear_value x)))
    | (intro x; clear_value x)
    | intro x
    | split
    | with_reducible apply foldS_good
    | with_reducible apply undoTick_good
    | with_reducible apply flagOrder_good
    | with_reducible apply updSys_good
    | with_reducible rfl
    | with_reducible apply spillBank_good
    | with_reducible apply recordLoss_good
    | with_reducible apply warmState_good

theorem warmAssertStep_good (s : State) (hg : Good qs s) : Good qs (warmAssertStep s) := by
  unfold warmAssertStep
  repeat' first
    | with_reducible assumption
    | (refine fun _ => ?_)
    | lift_lets
    | (intro x; refine sup (Good qs x) ?_ ?_; (on_goal 1 => subst x); (on_goal 2 => (intro _; clear_value x)))
    | intro x
    | split
    | with_reducible apply updSys_good
    | with_reducible rfl
    | with_reducible apply warmBegin_good
    | with_reducible apply State.wr_good

theorem warmRecords_good (s : State) (hg : Good qs s) : Good qs (warmRecords s) := by
  unfold warmRecords
  repeat' first
    | with_reducible assumption
    | (refine fun _ => ?_)
    | lift_lets
    | (intro x; refine sup (Good qs x) ?_ ?_; (on_goal 1 => subst x); (on_goal 2 => (intro _; clear_value x)))
    | intro x
    | split
    | with_reducible apply foldS_good
    | with_reducible apply jrnNow_good
    | with_reducible apply drainQueue_good
    | with_reducible apply endOrdersWhere_good

theorem warmReleaseCycle_good (s : State) (hg : Good qs s) :
    Good qs (if s.sys.lostL then s.updDev (fun d => { d with cycle := 0 }) else s) := by
  split
  · exact updDev_good hg rfl rfl
  · exact hg

theorem warmReleaseLev_good (s : State) (hg : Good qs s) : Good qs (if s.sys.lostD then leveeRestart s else s) := by
  split
  · exact leveeRestart_good _ hg
  · exact hg

theorem warmRelease_good (s : State) (hg : Good qs s) : Good qs (warmRelease s) := by
  unfold warmRelease
  split
  · exact hg
  · exact startTraining_good _ _ _ (startTraining_good _ _ _ (updSys_fun_good (warmReleaseCycle_good _
      (warmRecords_good _ (warmReleaseLev_good _ (updSys_fun_good (State.restartPt_good _ hg) (fun _ => rfl))))) (fun _ => rfl)))

theorem warmReleaseStep_good (s : State) (hg : Good qs s) : Good qs (warmReleaseStep s) := by
  unfold warmReleaseStep
  repeat' first
    | with_reducible assumption
    | (refine fun _ => ?_)
    | lift_lets
    | intro x
    | split
    | with_reducible apply warmRelease_good
    | with_reducible apply updSys_good
    | with_reducible rfl

theorem planFromCopy_good (s : State) (hg : Good qs s) : Good qs (planFromCopy s) := by
  unfold planFromCopy
  repeat' first
    | with_reducible assumption
    | (refine fun _ => ?_)
    | lift_lets
    | (intro x; refine sup (Good qs x) ?_ ?_; (on_goal 1 => subst x); (on_goal 2 => (intro _; clear_value x)))
    | (intro x; clear_value x)
    | intro x
    | split
    | with_reducible apply loadPatterns_good
    | with_reducible apply loadWheelInfo_good
    | with_reducible apply loadEnvelope_good
    | with_reducible apply loadBusmap_good
    | with_reducible apply loadScan_good
    | with_reducible apply loadMicrocode_good
    | with_reducible apply loadActions_good
    | with_reducible apply loadFurrows_good
    | with_reducible apply loadSlots_good
    | with_reducible apply loadTrims_good
    | with_reducible apply clearLearned_good
    | with_reducible apply clearRecords_good
    | with_reducible apply planInfo_good
    | with_reducible apply State.wr_good
    | (refine good_of_parts ?_; dsimp only; refine parts_of_good ?_; with_reducible assumption)

theorem warmDoneStep_good (s : State) (hg : Good qs s) : Good qs (warmDoneStep s) := by
  unfold warmDoneStep
  repeat' first
    | with_reducible assumption
    | (refine fun _ => ?_)
    | lift_lets
    | (intro x; refine sup (Good qs x) ?_ ?_; (on_goal 1 => subst x); (on_goal 2 => (intro _; clear_value x)))
    | intro x
    | split
    | with_reducible apply foldS_good
    | with_reducible apply updSys_good
    | with_reducible rfl
    | with_reducible apply State.updHdg_good
    | with_reducible apply restartCore_good
    | with_reducible apply planFromCopy_good
    | with_reducible apply State.enter_good
    | with_reducible apply State.wr_good
    | with_reducible apply bootIfStrapped_good

theorem supplyLossStep_good (sup : Supply) (s : State) (hg : Good qs s) : Good qs (supplyLossStep sup s) := by
  have h : Good qs (s.updSys (fun y =>
      { y with supplyDown := if y.supplyDown.contains sup then y.supplyDown else y.supplyDown ++ [sup] })) :=
    updSys_good hg rfl
  simp only [supplyLossStep]
  split
  · exact h
  · exact State.wr_good _ _ _ _ (warmBegin_good _ _ _ h)

theorem supplyReturnStep_good (sup : Supply) (s : State) (hg : Good qs s) : Good qs (supplyReturnStep sup s) := by
  unfold supplyReturnStep
  repeat' first
    | with_reducible assumption
    | (refine fun _ => ?_)
    | lift_lets
    | intro x
    | split
    | with_reducible apply warmRelease_good
    | with_reducible apply updSys_good
    | with_reducible rfl

end Sys2Proof.Machine
end

