-- ==== Sys2Proof/Laws/SoundPower.lean ====
section
/-! SUPPORT. Every state function of Machine/Power.lean keeps the invariant `Good` of Laws/Sound.lean. -/

namespace Sys2Proof.Machine

variable {qs : List Instr}

theorem dDieEnds_good (s : State) (hg : Good qs s) : Good qs (dDieEnds s) := by
  unfold dDieEnds
  repeat' first
    | with_reducible assumption
    | (refine fun _ => ?_)
    | lift_lets
    | (intro x; refine sup (Good qs x) ?_ ?_; (on_goal 1 => subst x); (on_goal 2 => (intro _; clear_value x)))
    | (intro x; clear_value x)
    | intro x
    | split
    | with_reducible apply foldS_good
    | with_reducible apply spillPwm_good
    | with_reducible apply spillBank_good
    | with_reducible apply updSys_good
    | with_reducible rfl

theorem bundleUncorrStep_good (s : State) (hg : Good qs s) : Good qs (bundleUncorrStep s) := by
  unfold bundleUncorrStep
  repeat' first
    | with_reducible assumption
    | (refine fun _ => ?_)
    | lift_lets
    | intro x
    | split
    | with_reducible apply spillDevice_good
    | with_reducible apply State.bump_good
    | with_reducible apply State.raise_good

theorem heartbeatStep_good (seen : Bool) (s : State) (hg : Good qs s) : Good qs (heartbeatStep seen s) := by
  unfold heartbeatStep
  repeat' first
    | with_reducible assumption
    | (refine fun _ => ?_)
    | lift_lets
    | (intro x; refine sup (Good qs x) ?_ ?_; (on_goal 1 => subst x); (on_goal 2 => (intro _; clear_value x)))
    | (intro x; clear_value x)
    | intro x
    | split
    | with_reducible apply updSys_good
    | with_reducible rfl
    | with_reducible apply dDieEnds_good

theorem statusStep_good (seen : Bool) (corrected : Nat) (s : State) (hg : Good qs s) : Good qs (statusStep seen corrected s) := by
  unfold statusStep
  repeat' first
    | with_reducible assumption
    | (refine fun _ => ?_)
    | lift_lets
    | (intro x; refine sup (Good qs x) ?_ ?_; (on_goal 1 => subst x); (on_goal 2 => (intro _; clear_value x)))
    | (intro x; clear_value x)
    | intro x
    | split
    | with_reducible apply State.bumpBy_good
    | with_reducible apply updSys_good
    | with_reducible rfl
    | with_reducible apply spillDevice_good
    | with_reducible apply State.raise_good

theorem bundleRestoreStep_good (s : State) (hg : Good qs s) : Good qs (bundleRestoreStep s) := by
  unfold bundleRestoreStep
  repeat' first
    | with_reducible assumption
    | (refine fun _ => ?_)
    | lift_lets
    | (intro x; refine sup (Good qs x) ?_ ?_; (on_goal 1 => subst x); (on_goal 2 => (intro _; clear_value x)))
    | (intro x; clear_value x)
    | intro x
    | split
    | with_reducible apply truncateWhere_good
    | with_reducible apply updSys_good
    | with_reducible rfl
    | with_reducible apply spillCleared_good

theorem culvertStep_good (s : State) (hg : Good qs s) : Good qs (culvertStep s) := by
  unfold culvertStep
  repeat' first
    | with_reducible assumption
    | split
    | with_reducible apply islandFault_good
    | with_reducible apply State.drawFree_good

theorem resetTracker_good (t : Fin 2) (s : State) (hg : Good qs s) : Good qs (resetTracker t s) := by
  unfold resetTracker
  repeat' first
    | with_reducible assumption
    | (refine fun _ => ?_)
    | lift_lets
    | (intro x; refine sup (Good qs x) ?_ ?_; (on_goal 1 => subst x); (on_goal 2 => (intro _; clear_value x)))
    | intro x
    | split
    | with_reducible apply resetPage_good
    | with_reducible apply State.wrBoth_good
    | with_reducible apply State.updTrk_good

theorem resetEngine_good (old : State) (hg : Good qs old) : Good qs (resetEngine old) := by
  unfold resetEngine
  repeat' first
    | with_reducible assumption
    | (refine fun _ => ?_)
    | lift_lets
    | (intro x; refine sup (Good qs x) ?_ ?_; (on_goal 1 => subst x); (on_goal 2 => (intro _; clear_value x)))
    | intro x
    | split
    | with_reducible apply copyFields_good
    | with_reducible apply resetPage_good
    | with_reducible apply State.updHdg_good
    | with_reducible apply State.updPlan_good
    | with_reducible apply State.wr_good
    | with_reducible apply State.enter_good
    | with_reducible apply endOrdersWhere_good

theorem releaseIsland_good (n : Nat) (s : State) (hg : Good qs s) : Good qs (releaseIsland n s) := by
  unfold releaseIsland
  repeat' first
    | with_reducible assumption
    | (refine fun _ => ?_)
    | lift_lets
    | (intro x; refine sup (Good qs x) ?_ ?_; (on_goal 1 => subst x); (on_goal 2 => (intro _; clear_value x)))
    | (intro x; clear_value x)
    | intro x
    | split
    | with_reducible apply foldS_good
    | with_reducible apply resetTracker_good
    | with_reducible apply resetEngine_good
    | with_reducible apply doSoftReset_good
    | with_reducible apply resetPage_good

theorem copyPt_good (t : Fin 2) (s : State) (hg : Good qs s) : Good qs (copyPt t s) := by
  have h := (good_iff.1 hg).2.2.2.2.2
  have key : Good qs (if t = 0 then { s with pt := s.sys.ptChk } else s.updSys (fun y => { y with ptChk := s.pt })) :=
    good_ite (good_eq hg rfl rfl rfl rfl rfl h rfl) (updSys_good hg h.symm)
  unfold copyPt
  exact updSys_fun_good key (fun _ => rfl)

theorem reloadPt_good (n : Nat) (s : State) (hg : Good qs s) : Good qs (reloadPt n s) := by
  unfold reloadPt
  repeat' first
    | with_reducible assumption
    | (refine fun _ => ?_)
    | lift_lets
    | (intro x; refine sup (Good qs x) ?_ ?_; (on_goal 1 => subst x); (on_goal 2 => (intro _; clear_value x)))
    | (intro x; clear_value x)
    | intro x
    | split
    | with_reducible apply copyPt_good

theorem islandReleaseStep_good (s : State) (hg : Good qs s) : Good qs (islandReleaseStep s) := by
  unfold islandReleaseStep
  repeat' first
    | with_reducible assumption
    | (refine fun _ => ?_)
    | lift_lets
    | (intro x; refine sup (Good qs x) ?_ ?_; (on_goal 1 => subst x); (on_goal 2 => (intro _; clear_value x)))
    | (intro x; clear_value x)
    | intro x
    | split
    | with_reducible apply foldS_good
    | with_reducible apply reloadPt_good
    | with_reducible apply releaseIsland_good
    | with_reducible apply updSys_good
    | with_reducible rfl
    | with_reducible apply State.wr_good
    | with_reducible apply spillCleared_good

theorem vdrvLowStep_good (s : State) (hg : Good qs s) : Good qs (vdrvLowStep s) := by
  unfold vdrvLowStep
  repeat' first
    | with_reducible assumption
    | (refine fun _ => ?_)
    | lift_lets
    | (intro x; refine sup (Good qs x) ?_ ?_; (on_goal 1 => subst x); (on_goal 2 => (intro _; clear_value x)))
    | intro x
    | split
    | with_reducible apply settleAll_good
    | with_reducible apply updSys_good
    | with_reducible rfl
    | with_reducible apply islandFault_good

theorem vdrvReturnStep_good (s : State) (hg : Good qs s) : Good qs (vdrvReturnStep s) := by
  unfold vdrvReturnStep
  repeat' first
    | with_reducible assumption
    | (refine fun _ => ?_)
    | lift_lets
    | intro x
    | split
    | with_reducible apply spillCleared_good
    | with_reducible apply settleAll_good
    | with_reducible apply updSys_good
    | with_reducible rfl

theorem clockChosen_good (src : Nat) (ref50 : Bool) (khz : Half) (s : State) (hg : Good qs s) : Good qs (clockChosen src ref50 khz s) := by
  unfold clockChosen
  repeat' first
    | with_reducible assumption
    | (refine fun _ => ?_)
    | lift_lets
    | (intro x; refine sup (Good qs x) ?_ ?_; (on_goal 1 => subst x); (on_goal 2 => (intro _; clear_value x)))
    | intro x
    | split
    | with_reducible apply State.wr_good
    | with_reducible apply warmRelease_good
    | with_reducible apply updSys_good
    | with_reducible rfl

theorem clockSelectStep_good (obs : ClockObs) (s : State) (hg : Good qs s) : Good qs (clockSelectStep obs s) := by
  unfold clockSelectStep
  repeat' first
    | with_reducible assumption
    | (refine fun _ => ?_)
    | lift_lets
    | intro x
    | split
    | with_reducible apply clockChosen_good
    | with_reducible apply updSys_good
    | with_reducible rfl
    | with_reducible apply State.wr_good

theorem clockShows_good (kind : ClockFaultKind) (s : State) (hg : Good qs s) : Good qs (clockShows kind s) := by
  unfold clockShows
  repeat' first
    | with_reducible assumption
    | (refine fun _ => ?_)
    | lift_lets
    | intro x
    | split
    | with_reducible apply State.wr_good

theorem clockFaultStep_good (kind : ClockFaultKind) (s : State) (hg : Good qs s) : Good qs (clockFaultStep kind s) := by
  unfold clockFaultStep
  repeat' first
    | with_reducible assumption
    | (refine fun _ => ?_)
    | lift_lets
    | (intro x; refine sup (Good qs x) ?_ ?_; (on_goal 1 => subst x); (on_goal 2 => (intro _; clear_value x)))
    | intro x
    | split
    | with_reducible apply clockShows_good
    | with_reducible apply updSys_good
    | with_reducible rfl
    | with_reducible apply State.wr_good
    | with_reducible apply State.bump_good
    | with_reducible apply islandFault_good
    | with_reducible apply State.raise_good

theorem clockRecoverStep_good (lostUs : Word) (s : State) (hg : Good qs s) : Good qs (clockRecoverStep lostUs s) := by
  unfold clockRecoverStep
  repeat' first
    | with_reducible assumption
    | (refine fun _ => ?_)
    | lift_lets
    | (intro x; refine sup (Good qs x) ?_ ?_; (on_goal 1 => subst x); (on_goal 2 => (intro _; clear_value x)))
    | intro x
    | split
    | with_reducible apply updSys_good
    | with_reducible rfl
    | with_reducible apply State.wr_good
    | with_reducible apply spillCleared_good
    | with_reducible apply resumePwm_good

theorem parkEnterStep_good (s : State) (hg : Good qs s) : Good qs (parkEnterStep s) := by
  unfold parkEnterStep
  repeat' first
    | with_reducible assumption
    | (refine fun _ => ?_)
    | lift_lets
    | (intro x; refine sup (Good qs x) ?_ ?_; (on_goal 1 => subst x); (on_goal 2 => (intro _; clear_value x)))
    | (intro x; clear_value x)
    | intro x
    | split
    | with_reducible apply foldS_good
    | with_reducible apply State.wr_good
    | with_reducible apply catchAll_good
    | with_reducible apply State.updCore_good
    | with_reducible apply updSys_good
    | with_reducible rfl
    | with_reducible apply State.enter_good
    | with_reducible apply State.err_good

theorem wakeUp_good (s : State) (hg : Good qs s) : Good qs (wakeUp s) := by
  unfold wakeUp
  repeat' first
    | with_reducible assumption
    | (refine fun _ => ?_)
    | lift_lets
    | (intro x; refine sup (Good qs x) ?_ ?_; (on_goal 1 => subst x); (on_goal 2 => (intro _; clear_value x)))
    | (intro x; clear_value x)
    | intro x
    | split
    | with_reducible apply State.enter_good
    | with_reducible apply State.raise_good
    | with_reducible apply hf
    | (refine good_of_parts ?_; dsimp only; refine parts_of_good ?_; with_reducible assumption)

theorem wakeStep_good (cause : WakeCause) (s : State) (hg : Good qs s) : Good qs (wakeStep cause s) := by
  unfold wakeStep
  repeat' first
    | with_reducible assumption
    | (refine fun _ => ?_)
    | lift_lets
    | (intro x; refine sup (Good qs x) ?_ ?_; (on_goal 1 => subst x); (on_goal 2 => (intro _; clear_value x)))
    | (intro x; clear_value x)
    | intro x
    | split
    | with_reducible apply wakeUp_good
    | with_reducible apply State.setReg_good
    | with_reducible apply State.enter_good

theorem thermalShut_good (s : State) (hg : Good qs s) : Good qs (thermalShut s) := by
  unfold thermalShut
  repeat' first
    | with_reducible assumption
    | (refine fun _ => ?_)
    | lift_lets
    | (intro x; refine sup (Good qs x) ?_ ?_; (on_goal 1 => subst x); (on_goal 2 => (intro _; clear_value x)))
    | intro x
    | split
    | with_reducible apply wakeUp_good
    | with_reducible apply spillDevice_good
    | with_reducible apply State.raise_good
    | with_reducible apply State.wr_good
    | with_reducible apply State.bump_good
    | with_reducible apply updSys_good
    | with_reducible rfl

theorem thermalWarn_good (tj : Int) (s : State) (hg : Good qs s) : Good qs (thermalWarn tj s) := by
  unfold thermalWarn
  repeat' first
    | with_reducible assumption
    | (refine fun _ => ?_)
    | lift_lets
    | intro x
    | split
    | with_reducible apply State.wr_good
    | with_reducible apply State.bump_good
    | with_reducible apply State.raise_good

theorem thermMeasureStep_good (l : List Half) (s : State) (hg : Good qs s) : Good qs (thermMeasureStep l s) := by
  unfold thermMeasureStep
  repeat' first
    | with_reducible assumption
    | (refine fun _ => ?_)
    | lift_lets
    | (intro x; refine sup (Good qs x) ?_ ?_; (on_goal 1 => subst x); (on_goal 2 => (intro _; clear_value x)))
    | (intro x; clear_value x)
    | intro x
    | split
    | with_reducible apply foldS_good
    | with_reducible apply State.setReg_good
    | with_reducible apply State.wr_good
    | with_reducible apply thermalWarn_good
    | with_reducible apply spillCleared_good
    | with_reducible apply updSys_good
    | with_reducible rfl
    | with_reducible apply thermalShut_good

theorem dDieTripStep_good (s : State) (hg : Good qs s) : Good qs (dDieTripStep s) := by
  unfold dDieTripStep
  repeat' first
    | with_reducible assumption
    | (refine fun _ => ?_)
    | lift_lets
    | intro x
    | split
    | with_reducible apply dDieEnds_good
    | with_reducible apply State.wr_good

end Sys2Proof.Machine
end

