-- ==== Sys2Proof/Laws/SoundLink.lean ====
section
/-! SUPPORT. Every state function of Machine/Link.lean keeps the invariant `Good` of Laws/Sound.lean. -/

namespace Sys2Proof.Machine

variable {qs : List Instr}

theorem resendAll_good (p : Fin 2) (s : State) (hg : Good qs s) : Good qs (resendAll p s) := by
  unfold resendAll
  repeat' first
    | with_reducible assumption
    | (refine fun _ => ?_)
    | lift_lets
    | (intro x; refine sup (Good qs x) ?_ ?_; (on_goal 1 => subst x); (on_goal 2 => (intro _; clear_value x)))
    | (intro x; clear_value x)
    | intro x
    | split
    | with_reducible apply foldS_good
    | with_reducible apply putOut_good
    | with_reducible apply State.bumpBy_good
    | with_reducible apply State.updPort_good

theorem roleConflict_good (nid : Nat) (s : State) (hg : Good qs s) : Good qs (roleConflict nid s) := by
  unfold roleConflict
  repeat' first
    | with_reducible assumption
    | (refine fun _ => ?_)
    | lift_lets
    | (intro x; refine sup (Good qs x) ?_ ?_; (on_goal 1 => subst x); (on_goal 2 => (intro _; clear_value x)))
    | intro x
    | split
    | with_reducible apply State.setFault_good
    | with_reducible apply State.wr_good

theorem portComesUp_good (p : Fin 2) (twoLanes : Bool) (s : State) (hg : Good qs s) : Good qs (portComesUp p twoLanes s) := by
  unfold portComesUp
  repeat' first
    | with_reducible assumption
    | (refine fun _ => ?_)
    | lift_lets
    | (intro x; refine sup (Good qs x) ?_ ?_; (on_goal 1 => subst x); (on_goal 2 => (intro _; clear_value x)))
    | (intro x; clear_value x)
    | intro x
    | split
    | with_reducible apply State.wr_good
    | with_reducible apply setPort_good
    | with_reducible apply State.updPort_good
    | with_reducible apply sendWaiting_good
    | with_reducible apply resendAll_good

theorem trainDoneStep_good (p : Fin 2) (twoLanes : Bool) (nid : Nat) (nMaster : Bool) (s : State) (hg : Good qs s) : Good qs (trainDoneStep p twoLanes nid nMaster s) := by
  unfold trainDoneStep
  repeat' first
    | with_reducible assumption
    | (refine fun _ => ?_)
    | lift_lets
    | (intro x; refine sup (Good qs x) ?_ ?_; (on_goal 1 => subst x); (on_goal 2 => (intro _; clear_value x)))
    | intro x
    | split
    | with_reducible apply setPort_good
    | with_reducible apply State.setFault_good
    | with_reducible apply State.updPort_good
    | with_reducible apply portComesUp_good
    | with_reducible apply roleConflict_good

theorem trainTimeoutStep_good (p : Fin 2) (s : State) (hg : Good qs s) : Good qs (trainTimeoutStep p s) := by
  unfold trainTimeoutStep
  repeat' first
    | with_reducible assumption
    | (refine fun _ => ?_)
    | lift_lets
    | intro x
    | split
    | with_reducible apply setPort_good

theorem trainRetryStep_good (p : Fin 2) (s : State) (hg : Good qs s) : Good qs (trainRetryStep p s) := by
  unfold trainRetryStep
  repeat' first
    | with_reducible assumption
    | (refine fun _ => ?_)
    | lift_lets
    | (intro x; clear_value x)
    | intro x
    | split
    | with_reducible apply startTraining_good

theorem pingStep_good (p : Fin 2) (arrived : Nat) (s : State) (hg : Good qs s) : Good qs (pingStep p arrived s) := by
  unfold pingStep
  repeat' first
    | with_reducible assumption
    | (refine fun _ => ?_)
    | lift_lets
    | intro x
    | split
    | with_reducible apply putOut_good

theorem pongStep_good (p : Fin 2) (trip : Nat) (s : State) (hg : Good qs s) : Good qs (pongStep p trip s) := by
  unfold pongStep
  repeat' first
    | with_reducible assumption
    | (refine fun _ => ?_)
    | lift_lets
    | (intro x; refine sup (Good qs x) ?_ ?_; (on_goal 1 => subst x); (on_goal 2 => (intro _; clear_value x)))
    | (intro x; clear_value x)
    | intro x
    | split
    | with_reducible apply State.updPort_good
    | with_reducible apply sendPing_good

theorem ackStep_good (p : Fin 2) (lseq : Nat) (s : State) (hg : Good qs s) : Good qs (ackStep p lseq s) := by
  unfold ackStep
  repeat' first
    | with_reducible assumption
    | (refine fun _ => ?_)
    | lift_lets
    | (intro x; clear_value x)
    | intro x
    | split
    | with_reducible apply sendWaiting_good
    | with_reducible apply State.updPort_good

theorem retryStep_good (p : Fin 2) (s : State) (hg : Good qs s) : Good qs (retryStep p s) := by
  unfold retryStep
  repeat' first
    | with_reducible assumption
    | (refine fun _ => ?_)
    | lift_lets
    | (intro x; refine sup (Good qs x) ?_ ?_; (on_goal 1 => subst x); (on_goal 2 => (intro _; clear_value x)))
    | (intro x; clear_value x)
    | intro x
    | split
    | with_reducible apply resendAll_good
    | with_reducible apply State.updPort_good
    | with_reducible apply startTraining_good
    | with_reducible apply State.bump_good
    | with_reducible apply State.raise_good

theorem laneFailStep_good (p : Fin 2) (s : State) (hg : Good qs s) : Good qs (laneFailStep p s) := by
  unfold laneFailStep
  repeat' first
    | with_reducible assumption
    | (refine fun _ => ?_)
    | lift_lets
    | intro x
    | split
    | with_reducible apply startTraining_good

theorem putBoth_good (x : LinkTx) (s : State) (hg : Good qs s) : Good qs (putBoth x s) := by
  unfold putBoth
  repeat' first
    | with_reducible assumption
    | (refine fun _ => ?_)
    | lift_lets
    | intro x
    | split
    | with_reducible apply foldS_good
    | with_reducible apply putOut_good

theorem sendHeart_good (take : Bool) (s : State) (hg : Good qs s) : Good qs (sendHeart take s) := by
  unfold sendHeart
  repeat' first
    | with_reducible assumption
    | (refine fun _ => ?_)
    | lift_lets
    | (intro x; refine sup (Good qs x) ?_ ?_; (on_goal 1 => subst x); (on_goal 2 => (intro _; clear_value x)))
    | intro x
    | split
    | with_reducible apply putBoth_good
    | with_reducible apply State.updLink_good

theorem heartSendStep_good (s : State) (hg : Good qs s) : Good qs (heartSendStep s) := by
  unfold heartSendStep
  repeat' first
    | with_reducible assumption
    | (refine fun _ => ?_)
    | lift_lets
    | (intro x; clear_value x)
    | intro x
    | split
    | with_reducible apply sendHeart_good
    | with_reducible apply State.updLink_good

theorem heartMissStep_good (s : State) (hg : Good qs s) : Good qs (heartMissStep s) := by
  unfold heartMissStep
  repeat' first
    | with_reducible assumption
    | (refine fun _ => ?_)
    | lift_lets
    | (intro x; refine sup (Good qs x) ?_ ?_; (on_goal 1 => subst x); (on_goal 2 => (intro _; clear_value x)))
    | (intro x; clear_value x)
    | intro x
    | split
    | with_reducible apply State.updLink_good
    | with_reducible apply State.wr_good
    | with_reducible apply State.wrBoth_good
    | with_reducible apply sendHeart_good
    | with_reducible apply State.bump_good
    | with_reducible apply State.raise_good

theorem hearMaster_good (src : Nat) (s : State) (hg : Good qs s) : Good qs (hearMaster src s) := by
  unfold hearMaster
  repeat' first
    | with_reducible assumption
    | (refine fun _ => ?_)
    | lift_lets
    | (intro x; refine sup (Good qs x) ?_ ?_; (on_goal 1 => subst x); (on_goal 2 => (intro _; clear_value x)))
    | intro x
    | split
    | with_reducible apply State.wr_good
    | with_reducible apply State.wrBoth_good
    | with_reducible apply State.updLink_good

theorem forwardHeart_good (p : Fin 2) (f : HeartFrame) (s : State) (hg : Good qs s) : Good qs (forwardHeart p f s) := by
  unfold forwardHeart
  repeat' first
    | with_reducible assumption
    | (refine fun _ => ?_)
    | lift_lets
    | (intro x; clear_value x)
    | intro x
    | split
    | with_reducible apply putOut_good

theorem heartReceiveStep_good (p : Fin 2) (f : HeartFrame) (s : State) (hg : Good qs s) : Good qs (heartReceiveStep p f s) := by
  unfold heartReceiveStep
  repeat' first
    | with_reducible assumption
    | (refine fun _ => ?_)
    | lift_lets
    | (intro x; refine sup (Good qs x) ?_ ?_; (on_goal 1 => subst x); (on_goal 2 => (intro _; clear_value x)))
    | (intro x; clear_value x)
    | intro x
    | split
    | with_reducible apply State.updLink_good
    | with_reducible apply forwardHeart_good
    | with_reducible apply hearMaster_good
    | with_reducible apply linkReset_good

theorem putAngle_good (p : Fin 2) (w : Nat) (s : State) (hg : Good qs s) : Good qs (putAngle p w s) := by
  unfold putAngle
  repeat' first
    | with_reducible assumption
    | (refine fun _ => ?_)
    | lift_lets
    | intro x
    | split
    | with_reducible apply State.updLink_good

theorem angleSendStep_good (s : State) (hg : Good qs s) : Good qs (angleSendStep s) := by
  unfold angleSendStep
  repeat' first
    | with_reducible assumption
    | (refine fun _ => ?_)
    | lift_lets
    | (intro x; refine sup (Good qs x) ?_ ?_; (on_goal 1 => subst x); (on_goal 2 => (intro _; clear_value x)))
    | (intro x; clear_value x)
    | intro x
    | split
    | with_reducible apply putAngle_good
    | with_reducible apply State.updLink_good

theorem angleReceiveStep_good (p : Fin 2) (b : AngleBeat) (s : State) (hg : Good qs s) : Good qs (angleReceiveStep p b s) := by
  unfold angleReceiveStep
  repeat' first
    | with_reducible assumption
    | (refine fun _ => ?_)
    | lift_lets
    | (intro x; refine sup (Good qs x) ?_ ?_; (on_goal 1 => subst x); (on_goal 2 => (intro _; clear_value x)))
    | (intro x; clear_value x)
    | intro x
    | split
    | with_reducible apply putAngle_good
    | with_reducible apply followBeat_good
    | with_reducible apply notePeer_good

theorem sendEvtFrame_good (src : Nat) (s : State) (hg : Good qs s) : Good qs (sendEvtFrame src s) := by
  unfold sendEvtFrame
  repeat' first
    | with_reducible assumption
    | (refine fun _ => ?_)
    | lift_lets
    | (intro x; refine sup (Good qs x) ?_ ?_; (on_goal 1 => subst x); (on_goal 2 => (intro _; clear_value x)))
    | (intro x; clear_value x)
    | intro x
    | split
    | with_reducible apply State.updLink_good
    | with_reducible apply sendFrame_good

theorem evtResendStep_good (s : State) (hg : Good qs s) : Good qs (evtResendStep s) := by
  unfold evtResendStep
  repeat' first
    | with_reducible assumption
    | (refine fun _ => ?_)
    | lift_lets
    | (intro x; clear_value x)
    | intro x
    | split
    | with_reducible apply foldS_good
    | with_reducible apply sendEvtFrame_good
    | with_reducible apply State.updLink_good

theorem submitEnds_good (j : Fin 8) (r : PeerReq) (st : Nat) (s : State) (hg : Good qs s) : Good qs (submitEnds j r st s) := by
  unfold submitEnds
  repeat' first
    | with_reducible assumption
    | (refine fun _ => ?_)
    | lift_lets
    | (intro x; refine sup (Good qs x) ?_ ?_; (on_goal 1 => subst x); (on_goal 2 => (intro _; clear_value x)))
    | (intro x; clear_value x)
    | intro x
    | split
    | with_reducible apply hostAnswer_good
    | with_reducible apply gen1Answer_good
    | with_reducible apply chanAnswer_good
    | with_reducible apply farAnswer_good
    | (refine good_of_parts ?_; dsimp only; refine parts_of_good ?_; with_reducible assumption)

theorem goneFails_good (r : PeerReq) (s : State) (hg : Good qs s) : Good qs (goneFails r s) := by
  unfold goneFails
  repeat' first
    | with_reducible assumption
    | (refine fun _ => ?_)
    | lift_lets
    | intro x
    | split
    | with_reducible apply farFault_good

theorem waitEnds_good (who : PeerWho) (n : Nat) (write : Bool) (st v : Nat) (s : State) (hg : Good qs s) : Good qs (waitEnds who n write st v s) := by
  unfold waitEnds
  repeat' first
    | with_reducible assumption
    | (refine fun _ => ?_)
    | lift_lets
    | intro x
    | split
    | with_reducible apply answer_good
    | with_reducible apply hostAnswer_good
    | with_reducible apply gen1Answer_good
    | with_reducible apply bootAnswer_good
    | with_reducible apply flAnswer_good
    | (refine good_of_parts ?_; dsimp only; refine parts_of_good ?_; with_reducible assumption)

theorem completePeer_good (r : PeerReq) (st v : Nat) (s : State) (hg : Good qs s) : Good qs (completePeer r st v s) := by
  unfold completePeer
  repeat' first
    | with_reducible assumption
    | (refine fun _ => ?_)
    | lift_lets
    | (intro x; refine sup (Good qs x) ?_ ?_; (on_goal 1 => subst x); (on_goal 2 => (intro _; clear_value x)))
    | intro x
    | split
    | with_reducible apply State.updLink_good
    | with_reducible apply busError_good
    | with_reducible apply answer_good
    | with_reducible apply farAnswer_good
    | with_reducible apply chanAnswer_good
    | with_reducible apply hostAnswer_good
    | with_reducible apply gen1Answer_good
    | with_reducible apply bootAnswer_good
    | with_reducible apply flAnswer_good
    | with_reducible apply submitEnds_good
    | with_reducible apply goneFails_good
    | (refine good_of_parts ?_; dsimp only; refine parts_of_good ?_; with_reducible assumption)

theorem peerTimeoutStep_good (s : State) (hg : Good qs s) : Good qs (peerTimeoutStep s) := by
  unfold peerTimeoutStep
  repeat' first
    | with_reducible assumption
    | (refine fun _ => ?_)
    | lift_lets
    | intro x
    | split
    | with_reducible apply completePeer_good

end Sys2Proof.Machine
end

