-- ==== Sys2Proof/Laws/SoundLinkRx.lean ====
section
/-! SUPPORT. Every state function of Machine/LinkRx.lean keeps the invariant `Good` of Laws/Sound.lean. -/

namespace Sys2Proof.Machine

variable {qs : List Instr}

theorem receive_good (p : Fin 2) (h : Arrival) (f : LinkFrame) (deliver : State → State) (s : State) (hdeliver : ∀ s, Good qs s → Good qs (deliver s)) (hg : Good qs s) : Good qs (receive p h f deliver s) := by
  unfold receive
  repeat' first
    | with_reducible assumption
    | (refine fun _ => ?_)
    | lift_lets
    | (intro x; refine sup (Good qs x) ?_ ?_; (on_goal 1 => subst x); (on_goal 2 => (intro _; clear_value x)))
    | (intro x; clear_value x)
    | intro x
    | split
    | with_reducible apply putOut_good
    | with_reducible apply State.updPort_good
    | with_reducible apply sendFrame_good
    | with_reducible apply deliver_good
    | with_reducible apply hdeliver

theorem frameWord_good (write : Bool) (f : MemFrame) (i : Nat) (s : State) (hg : Good qs s) : Good qs (frameWord write f i s).2 := by
  unfold frameWord
  repeat' first
    | with_reducible assumption
    | (refine fun _ => ?_)
    | lift_lets
    | (intro x; refine sup (Good qs x.2) ?_ ?_; (on_goal 1 => subst x); (on_goal 2 => (intro _; clear_value x)))
    | intro x
    | split
    | with_reducible apply busWrite_good
    | with_reducible apply busRead_good

theorem frameEnds_good (p : Fin 2) (write : Bool) (f : MemFrame) (st : Nat) (got : List Nat) (s : State) (hg : Good qs s) : Good qs (frameEnds p write f st got s) := by
  unfold frameEnds
  repeat' first
    | with_reducible assumption
    | (refine fun _ => ?_)
    | lift_lets
    | (intro x; clear_value x)
    | intro x
    | split
    | with_reducible apply sendFrame_good

theorem frameRun_good (p : Fin 2) (write : Bool) (f : MemFrame) (k : Nat) (got : List Nat) (s : State) (hg : Good qs s) :
    Good qs (frameRun p write f k got s) := by
  induction k generalizing got s with
  | zero => exact hg
  | succ k ih =>
    unfold frameRun
    dsimp only
    refine good_ite (frameEnds_good _ _ _ _ _ _ hg) ?_
    split
    · have h := frameWord_good write f got.length _ (takeTurn_good 0x12 (portOf (memAddr f + 4 * got.length)) s hg)
      exact good_ite (ih _ _ h) (frameEnds_good _ _ _ _ _ _ h)
    · exact good_eq hg rfl rfl rfl rfl rfl rfl rfl

theorem frameServe_good (p : Fin 2) (write : Bool) (f : MemFrame) (s : State) (hg : Good qs s) : Good qs (frameServe p write f s) := by
  unfold frameServe
  repeat' first
    | with_reducible assumption
    | (refine fun _ => ?_)
    | lift_lets
    | intro x
    | split
    | with_reducible apply frameRun_good
    | with_reducible apply addWait_good

theorem waitBeat_good (r : WaitReq) (s : State) (hg : Good qs s) : Good qs (waitBeat r s) := by
  unfold waitBeat
  repeat' first
    | with_reducible assumption
    | (refine fun _ => ?_)
    | lift_lets
    | (intro x; refine sup (Good qs x.2) ?_ ?_; (on_goal 1 => subst x); (on_goal 2 => (intro _; clear_value x)))
    | (intro x; clear_value x)
    | intro x
    | split
    | with_reducible apply frameWord_good
    | with_reducible apply frameRun_good
    | with_reducible apply frameEnds_good
    | with_reducible apply accessDo_good
    | with_reducible apply waitEnds_good

theorem takeWait_good (r : WaitReq) (s : State) (hg : Good qs s) : Good qs (takeWait r s) := by
  unfold takeWait
  repeat' first
    | with_reducible assumption
    | (refine fun _ => ?_)
    | lift_lets
    | (intro x; clear_value x)
    | intro x
    | split
    | with_reducible apply waitBeat_good
    | (refine good_of_parts ?_; dsimp only; refine parts_of_good ?_; with_reducible assumption)

theorem grantCycle_good (code port : Nat) (s : State) (hg : Good qs s) : Good qs (grantCycle code port s) := by
  unfold grantCycle
  repeat' first
    | with_reducible assumption
    | (refine fun _ => ?_)
    | lift_lets
    | (intro x; clear_value x)
    | intro x
    | split
    | with_reducible apply beatAt_good
    | (refine good_of_parts ?_; dsimp only; refine parts_of_good ?_; with_reducible assumption)

theorem serveWinner_good (code port : Nat) (s : State) (hg : Good qs s) : Good qs (serveWinner code port s) := by
  unfold serveWinner
  repeat' first
    | with_reducible assumption
    | (refine fun _ => ?_)
    | lift_lets
    | intro x
    | split
    | with_reducible apply takeWait_good
    | with_reducible apply grantCycle_good

theorem openEnd_good (port : Nat) (s : State) (hg : Good qs s) : Good qs (openEnd port s) := by
  unfold openEnd
  repeat' first
    | with_reducible assumption
    | (refine fun _ => ?_)
    | lift_lets
    | (intro x; refine sup (Good qs x) ?_ ?_; (on_goal 1 => subst x); (on_goal 2 => (intro _; clear_value x)))
    | (intro x; clear_value x)
    | intro x
    | split
    | with_reducible apply setRot_good
    | with_reducible apply serveWinner_good
    | with_reducible apply takeWait_good

theorem portEnd_good (port : Nat) (s : State) (hg : Good qs s) : Good qs (portEnd port s) := by
  unfold portEnd
  repeat' first
    | with_reducible assumption
    | (refine fun _ => ?_)
    | lift_lets
    | (intro x; clear_value x)
    | intro x
    | split
    | with_reducible apply takeWait_good
    | with_reducible apply openEnd_good

theorem nowhereEnd_good (s : State) (hg : Good qs s) : Good qs (nowhereEnd s) := by
  unfold nowhereEnd
  repeat' first
    | with_reducible assumption
    | (refine fun _ => ?_)
    | lift_lets
    | intro x
    | split
    | with_reducible apply foldS_good
    | with_reducible apply takeWait_good

theorem portsEnd_good (s : State) (hg : Good qs s) : Good qs (portsEnd s) := by
  unfold portsEnd
  repeat' first
    | with_reducible assumption
    | (refine fun _ => ?_)
    | lift_lets
    | intro x
    | split
    | with_reducible apply foldS_good
    | with_reducible apply portEnd_good
    | with_reducible apply nowhereEnd_good

theorem takeResponse_good (f : MemFrame) (write : Bool) (s : State) (hg : Good qs s) : Good qs (takeResponse f write s) := by
  unfold takeResponse
  repeat' first
    | with_reducible assumption
    | (refine fun _ => ?_)
    | lift_lets
    | intro x
    | split
    | with_reducible apply completePeer_good

theorem serveOrder_good (p : Fin 2) (f : OrderFrame) (s : State) (hg : Good qs s) : Good qs (serveOrder p f s) := by
  unfold serveOrder
  repeat' first
    | with_reducible assumption
    | (refine fun _ => ?_)
    | lift_lets
    | (intro x; refine sup (Good qs x) ?_ ?_; (on_goal 1 => subst x); (on_goal 2 => (intro _; clear_value x)))
    | (intro x; clear_value x)
    | intro x
    | split
    | with_reducible apply updStaging_good
    | with_reducible apply submit_good
    | with_reducible apply sendFrame_good

theorem takeReply_good (f : ReplyFrame) (s : State) (hg : Good qs s) : Good qs (takeReply f s) := by
  unfold takeReply
  repeat' first
    | with_reducible assumption
    | (refine fun _ => ?_)
    | lift_lets
    | intro x
    | split
    | with_reducible apply completePeer_good
    | with_reducible apply remoteResult_good

theorem takeEvt_good (p : Fin 2) (f : EventFrame) (s : State) (hg : Good qs s) : Good qs (takeEvt p f s) := by
  unfold takeEvt
  repeat' first
    | with_reducible assumption
    | (refine fun _ => ?_)
    | lift_lets
    | (intro x; refine sup (Good qs x) ?_ ?_; (on_goal 1 => subst x); (on_goal 2 => (intro _; clear_value x)))
    | (intro x; clear_value x)
    | intro x
    | split
    | with_reducible apply State.updLink_good
    | with_reducible apply State.raise_good
    | with_reducible apply sendFrame_good

theorem takeMsg_good (f : EventFrame) (s : State) (hg : Good qs s) : Good qs (takeMsg f s) := by
  unfold takeMsg
  repeat' first
    | with_reducible assumption
    | (refine fun _ => ?_)
    | lift_lets
    | (intro x; clear_value x)
    | intro x
    | split
    | with_reducible apply State.bump_good
    | with_reducible apply State.raise_good
    | with_reducible apply State.updLink_good

theorem takeEvtAck_good (f : EventFrame) (s : State) (hg : Good qs s) : Good qs (takeEvtAck f s) := by
  unfold takeEvtAck
  repeat' first
    | with_reducible assumption
    | (refine fun _ => ?_)
    | lift_lets
    | (intro x; clear_value x)
    | intro x
    | split
    | with_reducible apply State.updLink_good
    | with_reducible apply completeStep_good

theorem memRdStep_good (p : Fin 2) (f : MemFrame) (s : State) (hg : Good qs s) : Good qs (memRdStep p f s) := by
  unfold memRdStep
  repeat' first
    | with_reducible assumption
    | (refine fun _ => ?_)
    | lift_lets
    | intro x
    | split
    | with_reducible apply receive_good
    | with_reducible apply frameServe_good

theorem memWrStep_good (p : Fin 2) (f : MemFrame) (s : State) (hg : Good qs s) : Good qs (memWrStep p f s) := by
  unfold memWrStep
  repeat' first
    | with_reducible assumption
    | (refine fun _ => ?_)
    | lift_lets
    | intro x
    | split
    | with_reducible apply receive_good
    | with_reducible apply frameServe_good

theorem memRdrespStep_good (p : Fin 2) (f : MemFrame) (s : State) (hg : Good qs s) : Good qs (memRdrespStep p f s) := by
  unfold memRdrespStep
  repeat' first
    | with_reducible assumption
    | (refine fun _ => ?_)
    | lift_lets
    | intro x
    | split
    | with_reducible apply receive_good
    | with_reducible apply takeResponse_good

theorem memWrackStep_good (p : Fin 2) (f : MemFrame) (s : State) (hg : Good qs s) : Good qs (memWrackStep p f s) := by
  unfold memWrackStep
  repeat' first
    | with_reducible assumption
    | (refine fun _ => ?_)
    | lift_lets
    | intro x
    | split
    | with_reducible apply receive_good
    | with_reducible apply takeResponse_good

theorem orderSubmitStep_good (p : Fin 2) (f : OrderFrame) (s : State) (hg : Good qs s) : Good qs (orderSubmitStep p f s) := by
  unfold orderSubmitStep
  repeat' first
    | with_reducible assumption
    | (refine fun _ => ?_)
    | lift_lets
    | (intro x; clear_value x)
    | intro x
    | split
    | with_reducible apply receive_good
    | with_reducible apply serveOrder_good

theorem orderReplyStep_good (p : Fin 2) (f : ReplyFrame) (s : State) (hg : Good qs s) : Good qs (orderReplyStep p f s) := by
  unfold orderReplyStep
  repeat' first
    | with_reducible assumption
    | (refine fun _ => ?_)
    | lift_lets
    | (intro x; clear_value x)
    | intro x
    | split
    | with_reducible apply receive_good
    | with_reducible apply takeReply_good

theorem eventEvtStep_good (p : Fin 2) (f : EventFrame) (s : State) (hg : Good qs s) : Good qs (eventEvtStep p f s) := by
  unfold eventEvtStep
  repeat' first
    | with_reducible assumption
    | (refine fun _ => ?_)
    | lift_lets
    | intro x
    | split
    | with_reducible apply receive_good
    | with_reducible apply takeEvt_good

theorem eventMsgStep_good (p : Fin 2) (f : EventFrame) (s : State) (hg : Good qs s) : Good qs (eventMsgStep p f s) := by
  unfold eventMsgStep
  repeat' first
    | with_reducible assumption
    | (refine fun _ => ?_)
    | lift_lets
    | intro x
    | split
    | with_reducible apply receive_good
    | with_reducible apply takeMsg_good

theorem eventEvtackStep_good (p : Fin 2) (f : EventFrame) (s : State) (hg : Good qs s) : Good qs (eventEvtackStep p f s) := by
  unfold eventEvtackStep
  repeat' first
    | with_reducible assumption
    | (refine fun _ => ?_)
    | lift_lets
    | intro x
    | split
    | with_reducible apply receive_good
    | with_reducible apply takeEvtAck_good

theorem frameAbortStep_good (p : Fin 2) (s : State) (hg : Good qs s) : Good qs (frameAbortStep p s) := by
  unfold frameAbortStep
  repeat' first
    | with_reducible assumption
    | (refine fun _ => ?_)
    | lift_lets
    | (intro x; refine sup (Good qs x) ?_ ?_; (on_goal 1 => subst x); (on_goal 2 => (intro _; clear_value x)))
    | (intro x; refine sup (Good qs x.2) ?_ ?_; (on_goal 1 => subst x); (on_goal 2 => (intro _; clear_value x)))
    | intro x
    | split
    | with_reducible apply State.drawFree_good
    | with_reducible apply putOut_good

end Sys2Proof.Machine
end

