-- ==== Sys2Proof/Laws/SoundScrub.lean ====
section
/-! SUPPORT. Every state function of Machine/Scrub.lean keeps the invariant `Good` of Laws/Sound.lean. -/

namespace Sys2Proof.Machine

variable {qs : List Instr}

theorem rewriteEntry_good (e : Nat × Nat) (s : State) (hg : Good qs s) : Good qs (rewriteEntry e s) := by
  unfold rewriteEntry
  repeat' first
    | with_reducible assumption
    | (refine fun _ => ?_)
    | lift_lets
    | (intro x; refine sup (Good qs x) ?_ ?_; (on_goal 1 => subst x); (on_goal 2 => (intro _; clear_value x)))
    | (intro x; clear_value x)
    | intro x
    | split
    | with_reducible apply storeClean_good
    | (refine good_of_parts ?_; dsimp only; refine parts_of_good ?_; with_reducible assumption)

theorem writeBack_good (e : Nat × Nat) (s : State) (hg : Good qs s) : Good qs (writeBack e s) := by
  unfold writeBack
  repeat' first
    | with_reducible assumption
    | (refine fun _ => ?_)
    | lift_lets
    | (intro x; refine sup (Good qs x) ?_ ?_; (on_goal 1 => subst x); (on_goal 2 => (intro _; clear_value x)))
    | (intro x; clear_value x)
    | intro x
    | split
    | with_reducible apply storeClean_good
    | with_reducible apply writeSec_good
    | (refine good_of_parts ?_; dsimp only; refine parts_of_good ?_; with_reducible assumption)

theorem wbAdd_good (a : Nat) (s : State) (hg : Good qs s) : Good qs (wbAdd a s) := by
  unfold wbAdd
  repeat' first
    | with_reducible assumption
    | (refine fun _ => ?_)
    | lift_lets
    | (intro x; clear_value x)
    | intro x
    | split
    | (refine good_of_parts ?_; dsimp only; refine parts_of_good ?_; with_reducible assumption)

theorem passRead_good (a : Nat) (s : State) (hg : Good qs s) : Good qs (passRead a s) := by
  unfold passRead
  repeat' first
    | with_reducible assumption
    | (refine fun _ => ?_)
    | lift_lets
    | (intro x; refine sup (Good qs x.2) ?_ ?_; (on_goal 1 => subst x); (on_goal 2 => (intro _; clear_value x)))
    | intro x
    | split
    | with_reducible apply readWord_good
    | with_reducible apply postEntry_good
    | with_reducible apply wbAdd_good
    | with_reducible apply State.bump_good
    | with_reducible apply noteMicrocode_good

theorem readCopy_good (s : State) (hg : Good qs s) : Good qs (readCopy s) := by
  unfold readCopy
  repeat' first
    | with_reducible assumption
    | (refine fun _ => ?_)
    | lift_lets
    | intro x
    | split
    | with_reducible apply foldS_good
    | with_reducible apply readWord_good

theorem copyCheck_good (s : State) (hg : Good qs s) : Good qs (copyCheck s) := by
  unfold copyCheck
  repeat' first
    | with_reducible assumption
    | (refine fun _ => ?_)
    | lift_lets
    | intro x
    | split
    | with_reducible apply State.wr_good
    | with_reducible apply State.updPlan_good
    | with_reducible apply violation_good
    | (dsimp only; split)

theorem passDone_good (port : Nat) (s : State) (hg : Good qs s) : Good qs (passDone port s) := by
  unfold passDone
  repeat' first
    | with_reducible assumption
    | (refine fun _ => ?_)
    | lift_lets
    | intro x
    | split
    | with_reducible apply copyCheck_good
    | with_reducible apply readCopy_good
    | with_reducible apply State.bumpWrap_good

theorem passStep_good (port : Nat) (s : State) (hg : Good qs s) : Good qs (passStep port s) := by
  unfold passStep
  repeat' first
    | with_reducible assumption
    | (refine fun _ => ?_)
    | lift_lets
    | (intro x; refine sup (Good qs x) ?_ ?_; (on_goal 1 => subst x); (on_goal 2 => (intro _; clear_value x)))
    | (intro x; clear_value x)
    | intro x
    | split
    | with_reducible apply passRead_good
    | with_reducible apply passDone_good
    | with_reducible apply hf
    | (refine good_of_parts ?_; dsimp only; refine parts_of_good ?_; with_reducible assumption)

theorem scrubStep_good (port : Nat) (s : State) (hg : Good qs s) : Good qs (scrubStep port s) := by
  unfold scrubStep
  repeat' first
    | with_reducible assumption
    | (refine fun _ => ?_)
    | lift_lets
    | (intro x; refine sup (Good qs x) ?_ ?_; (on_goal 1 => subst x); (on_goal 2 => (intro _; clear_value x)))
    | (intro x; clear_value x)
    | intro x
    | split
    | with_reducible apply markBeat_good
    | with_reducible apply writeBack_good
    | with_reducible apply rewriteEntry_good
    | with_reducible apply passStep_good
    | (refine good_of_parts ?_; dsimp only; refine parts_of_good ?_; with_reducible assumption)

theorem scrubFrame_good (s : State) (hg : Good qs s) : Good qs (scrubFrame s) := by
  unfold scrubFrame
  repeat' first
    | with_reducible assumption
    | (refine fun _ => ?_)
    | lift_lets
    | (intro x; refine sup (Good qs x) ?_ ?_; (on_goal 1 => subst x); (on_goal 2 => (intro _; clear_value x)))
    | (intro x; clear_value x)
    | intro x
    | split
    | with_reducible apply State.bumpBy_good
    | with_reducible apply hf
    | (refine good_of_parts ?_; dsimp only; refine parts_of_good ?_; with_reducible assumption)

end Sys2Proof.Machine
end

