-- ==== Sys2Proof/Laws/SoundTap.lean ====
section
/-! SUPPORT. Every state function of Machine/Tap.lean keeps the invariant `Good` of Laws/Sound.lean. -/

namespace Sys2Proof.Machine

variable {qs : List Instr}

theorem tapTick_good (s : State) (hg : Good qs s) : Good qs (tapTick s) := by
  unfold tapTick
  split
  · exact hg
  · exact good_eq hg rfl rfl rfl rfl rfl rfl rfl

end Sys2Proof.Machine
end

