-- ==== Sys2Proof/Laws/SoundTick.lean ====
section
/-! SUPPORT. Every state function of Machine/Tick.lean keeps the invariant `Good` of Laws/Sound.lean. -/

namespace Sys2Proof.Machine

variable {qs : List Instr}

theorem accumulate_good (s : State) (hg : Good qs s) : Good qs (accumulate s) := by
  unfold accumulate
  repeat' first
    | with_reducible assumption
    | (refine fun _ => ?_)
    | lift_lets
    | (intro x; refine sup (Good qs x) ?_ ?_; (on_goal 1 => subst x); (on_goal 2 => (intro _; clear_value x)))
    | intro x
    | split
    | with_reducible apply followTick_good
    | with_reducible apply State.updTrk_good

theorem releaseHold_good (before : Nat) (s : State) (hg : Good qs s) : Good qs (releaseHold before s) := by
  unfold releaseHold
  repeat' first
    | with_reducible assumption
    | (refine fun _ => ?_)
    | lift_lets
    | (intro x; clear_value x)
    | intro x
    | split
    | with_reducible apply updDev_good
    | with_reducible apply hf
    | with_reducible rfl

theorem deviceMoves_good (pos old : Nat) (s : State) (hg : Good qs s) : Good qs (deviceMoves pos old s) := by
  unfold deviceMoves
  repeat' first
    | with_reducible assumption
    | (refine fun _ => ?_)
    | lift_lets
    | (intro x; clear_value x)
    | intro x
    | split
    | with_reducible apply reachPos_good

theorem trackerMoves_good (t : Fin 2) (old : Nat) (s : State) (hg : Good qs s) : Good qs (trackerMoves t old s) := by
  unfold trackerMoves
  repeat' first
    | with_reducible assumption
    | (refine fun _ => ?_)
    | lift_lets
    | (intro x; refine sup (Good qs x) ?_ ?_; (on_goal 1 => subst x); (on_goal 2 => (intro _; clear_value x)))
    | (intro x; clear_value x)
    | intro x
    | split
    | with_reducible apply ownPassed_good
    | with_reducible apply crossEntries_good

theorem handoverEdge_good (s : State) (hg : Good qs s) : Good qs (handoverEdge s) := by
  unfold handoverEdge
  repeat' first
    | with_reducible assumption
    | (refine fun _ => ?_)
    | lift_lets
    | intro x
    | split
    | with_reducible apply crankEdgeStep_good

theorem anglesTick_good (s : State) (hg : Good qs s) : Good qs (anglesTick s) := by
  unfold anglesTick
  repeat' first
    | with_reducible assumption
    | (refine fun _ => ?_)
    | lift_lets
    | (intro x; refine sup (Good qs x) ?_ ?_; (on_goal 1 => subst x); (on_goal 2 => (intro _; clear_value x)))
    | (intro x; clear_value x)
    | intro x
    | split
    | with_reducible apply accumulate_good
    | with_reducible apply handoverSweep_good
    | with_reducible apply handoverEdge_good
    | with_reducible apply handover_good
    | with_reducible apply trackerMoves_good
    | with_reducible apply deviceMoves_good
    | with_reducible apply releaseHold_good

theorem checkBits_good (t : Fin 2) (v : Nat) (s : State) (hg : Good qs s) : Good qs (checkBits t v s) := by
  unfold checkBits
  repeat' first
    | with_reducible assumption
    | (refine fun _ => ?_)
    | lift_lets
    | intro x
    | split
    | with_reducible apply foldS_good
    | with_reducible apply setIfault_good

theorem checksTick_good (a b : Nat) (s : State) (hg : Good qs s) : Good qs (checksTick a b s) := by
  unfold checksTick
  repeat' first
    | with_reducible assumption
    | (refine fun _ => ?_)
    | lift_lets
    | (intro x; clear_value x)
    | intro x
    | split
    | with_reducible apply checkBits_good

theorem commitsTick_good (s : State) (hg : Good qs s) : Good qs (commitsTick s) := by
  unfold commitsTick
  repeat' first
    | with_reducible assumption
    | (refine fun _ => ?_)
    | lift_lets
    | (intro x; refine sup (Good qs x) ?_ ?_; (on_goal 1 => subst x); (on_goal 2 => (intro _; clear_value x)))
    | intro x
    | split
    | with_reducible apply foldS_good
    | with_reducible apply actConv_good
    | with_reducible apply actCommitted_good

theorem evtsDone_good (n : Nat) (s : State) (hg : Good qs s) : Good qs (evtsDone n s) := by
  unfold evtsDone
  repeat' first
    | with_reducible assumption
    | (refine fun _ => ?_)
    | lift_lets
    | intro x
    | with_reducible apply State.updLink_good

theorem evtsEnd_good (s : State) (hg : Good qs s) : Good qs (evtsEnd s) := by
  unfold evtsEnd
  repeat' first
    | with_reducible assumption
    | (refine fun _ => ?_)
    | lift_lets
    | intro x
    | with_reducible apply foldS_good
    | with_reducible apply evtsDone_good

theorem evtsTick_good (s : State) (hg : Good qs s) : Good qs (evtsTick s) := by
  unfold evtsTick
  repeat' first
    | with_reducible assumption
    | (refine fun _ => ?_)
    | lift_lets
    | (intro x; clear_value x)
    | intro x
    | split
    | with_reducible apply foldS_good
    | with_reducible apply sendEvtFrame_good

theorem frameTick_good (s : State) (hg : Good qs s) : Good qs (frameTick s) := by
  unfold frameTick
  repeat' first
    | with_reducible assumption
    | (refine fun _ => ?_)
    | lift_lets
    | intro x
    | split
    | with_reducible apply scrubFrame_good
    | with_reducible apply State.bumpWrap_good

theorem interconnectTick_good (s : State) (hg : Good qs s) : Good qs (interconnectTick s) := by
  unfold interconnectTick
  repeat' first
    | with_reducible assumption
    | (refine fun _ => ?_)
    | lift_lets
    | (intro x; refine sup (Good qs x) ?_ ?_; (on_goal 1 => subst x); (on_goal 2 => (intro _; clear_value x)))
    | intro x
    | split
    | with_reducible apply postedTick_good
    | with_reducible apply catchTick_good
    | with_reducible apply evtsEnd_good
    | with_reducible apply evtsTick_good
    | with_reducible apply frameTick_good

theorem planTimeTick_good (chkA chkB : Nat) (s : State) (hg : Good qs s) : Good qs (planTimeTick chkA chkB s) := by
  unfold planTimeTick
  repeat' first
    | with_reducible assumption
    | (refine fun _ => ?_)
    | lift_lets
    | (intro x; refine sup (Good qs x) ?_ ?_; (on_goal 1 => subst x); (on_goal 2 => (intro _; clear_value x)))
    | (intro x; clear_value x)
    | intro x
    | split
    | with_reducible apply capKeep_good
    | with_reducible apply State.countPt_good
    | with_reducible apply faultSpills_good
    | with_reducible apply anglesTick_good
    | with_reducible apply faultsAct_good
    | with_reducible apply issueEnds_good
    | with_reducible apply xchkTick_good
    | with_reducible apply checksTick_good
    | with_reducible apply sampleCaptures_good
    | (refine good_of_parts ?_; dsimp only; refine parts_of_good ?_; with_reducible assumption)

theorem tickEnds_good (s : State) (hg : Good qs s) : Good qs (tickEnds s) := by
  unfold tickEnds
  repeat' first
    | with_reducible assumption
    | (refine fun _ => ?_)
    | lift_lets
    | intro x
    | split
    | with_reducible apply beatsEnd_good
    | with_reducible apply jrnRdEnd_good
    | with_reducible apply recordsEnd_good
    | with_reducible apply flumeSubsEnd_good
    | with_reducible apply postedEnd_good
    | with_reducible apply commitsJudge_good
    | with_reducible apply portsEnd_good

theorem tickBegins_good (s : State) (hg : Good qs s) : Good qs (tickBegins s) := good_eq hg rfl rfl rfl rfl rfl rfl rfl

theorem accumulatorTickStep_good (chkA chkB : Nat) (s : State) (hg : Good qs s) :
    Good qs (accumulatorTickStep chkA chkB s) := by
  have h := tickBegins_good _ (tickEnds_good _ hg)
  exact good_ite h (freezeEnd_good _ (interconnectTick_good _ (actSoftResets_good _ (commitsTick_good _
    (planTimeTick_good _ _ _ (gatesTick_good _ h))))))

end Sys2Proof.Machine
end

