-- ==== Sys2Proof/Tests/Slice0.lean ====
section
/-! SUPPORT. Tests of the model: for every statement with hypotheses a state and operands that meet them, clause by
clause; an ill-formed command for each check of well-formedness; values the spec works out; and a few single steps. -/

namespace Sys2Proof.Tests
open Sys2Proof.Machine

set_option linter.unusedVariables false
set_option Elab.async false

/-- The state after reset, n ticks on. -/
def later (n : Nat) : State :=
  { State.reset with pt := n, tick := n, sys := { State.reset.sys with ptChk := n } }

/-- The state after reset, n ticks on, in a device state. -/
def inState (d : DevState) (n : Nat) : State := (later n).updDev (fun x => { x with st := d })

/-- A state in which an epoch is open and the device runs, n ticks on. -/
def runs (n : Nat) : State :=
  (later n).updDev (fun x => { x with st := .running, epochOpen := true, epoch := 1 })

/-- An action with an entry's first word, in a phase. -/
def anAct (w0 : Nat) (ph : ActPhase) : Act :=
  { idx := 3, w0 := w0, w1 := 0, value := 0, serial := 7, issued := 0, target := 0, start := 0, epoch := 1, cycle := 0,
    cycNo := 0, order := none, dlim := 0, aheadSwept := false, swept := false, late := false, inShadow := false,
    deferred := false, anom := false, phase := ph, effectAt := 0, endReq := none }

/-- A state with actions in flight. -/
def withActs (l : List Act) (s : State) : State := s.updPlan (fun p => { p with acts := l })

/-- A state with a sensor kind at a wheel. -/
def sensor (w : Fin 4) (k : Nat) (s : State) : State := s.wrBoth (WHN.base w) WHN.MODE_SENSOR k

/-- A register bank with every register 0. -/
def freshBank : CoreBank := initCoreBank

/-- Memory that holds these bytes from an address on. -/
def cellsAt (a : Nat) (l : List Nat) : List Host.Cell :=
  (l.zipIdx.map (fun e => (a + e.2, BitVec.ofNat 8 e.1))).filter (fun e => e.2 ≠ 0)

/-- A device whose core c runs its background in a bank, the word at 0 of its instruction memory. -/
def coreWith (c : Fin 4) (w : Nat) (b : CoreBank) (n : Nat) : State :=
  { (inState .loaded n).updCore c (fun x => { x with on := true, idle := false, bg := b }) with
    mem := cellsAt (imemAddr c 0) [w % 256, w / 2 ^ 8 % 256, w / 2 ^ 16 % 256, w / 2 ^ 24 % 256] }

/-- A furrow of window gates with one action, the entry 0 of the action table. -/
def aFurrow : Furrow :=
  { astern := false, cls := 6, inst := 3, first := 0, count := 1, head := 0, headCyc := 0, loadedAt := 0, dead := false }

/-- A running device whose furrow's head, a window gate's action at angle 0, has been reached. -/
def readyToIssue : State :=
  { (runs 216).updPlan (fun x => { x with furrows := [aFurrow] }) with
    mem := cellsAt 0x100003 [0x1C] ++ cellsAt 0x154000 [1] }

/-- A running device that has passed the cut-off of slot 5, at angle 100. -/
def readyToCut : State :=
  ((runs 20).updPlan (fun x => { x with slotDef := [(5, 2 ^ 26 + 100)] })).updTrk 0 (fun x =>
      { x with acc := 100 * 2 ^ 32 })

/-- The words of a small plan image that are not 0, by offset, laid out as R153 to R175 state: one crank wheel of two
teeth, one action that opens window gate 0 at 0x100000 au, one slot, one furrow, no microcode and nothing else; every
CRC as R154 gives it; 1424 bytes. -/
def smallImage : List (Nat × Nat) :=
  [(0x0, 0x40000232464950), (0x8, 0x59000000000), (0x10, 0x770000000A), (0x38, 0x2266DB8100000040), (0x40,
   0xE800000001), (0x48, 0x409A951800000028), (0x50, 0x11000000002), (0x58, 0x444BE00A00000018), (0x60,
   0x12800000003), (0x68, 0x63C1597A00000010), (0x70, 0x13800000004), (0x78, 0x2A65D11B00000018), (0x80,
   0x15000000005), (0x88, 0xD8BEDE4200000408), (0x90, 0x55800000007), (0x98, 0xECBB4B5500000010), (0xA0,
   0x56800000008), (0xA8, 0x6522DF6900000008), (0xB0, 0x57000000009), (0xB8, 0x6522DF6900000008), (0xC0,
   0x5780000000A), (0xC8, 0x665885EA00000010), (0xD0, 0x5880000000B), (0xD8, 0x6522DF6900000008), (0xE0,
   0x194A7FE8), (0xE8, 0x100002), (0xF0, 0x1), (0xF8, 0x200020100), (0x108, 0x4C4B40), (0x110, 0x1), (0x118,
   0x1C100000), (0x120, 0xFFFF0000), (0x128, 0x1), (0x130, 0x8000000000000001), (0x138, 0x100000001), (0x140,
   0x100006000), (0x148, 0xFFFF), (0x578, 0x8000000001000), (0x580, 0x1F4)]

/-- Memory that holds the small image from address 0 on. -/
def imageCells : List Host.Cell :=
  (smallImage.flatMap (fun e => (List.range 8).map (fun i => (e.1 + i, BitVec.ofNat 8 (e.2 / 256 ^ i))))).filter
    (fun e => e.2 ≠ 0)

/-- A device that loads the small image, in a pass of the load. -/
def loads (l : LoadPhase) : State :=
  { State.reset.updPlan (fun x => { x with load := l, loadSize := 1424, copyBase := 0x80000 }) with mem := imageCells }


/-- Memory that holds a 32-bit word at an address. -/
def wordAt (a w : Nat) : List Host.Cell := cellsAt a [w % 256, w / 2 ^ 8 % 256, w / 2 ^ 16 % 256, w / 2 ^ 24 % 256]

/-- A device whose plan has slot 0 and in which the order interface has staged the next order of cycle 0. -/
def staged : State :=
  { (runs 9).updPlan (fun x => { x with nslot := 1, slotDef := [(0, 2 ^ 26 + 100)] }) with
    hdg := { State.reset.hdg with
      staging := State.reset.hdg.staging.set 0 ⟨1, 0x10000, 0, 0, false, 0, 0⟩ } }

/-- A running device in which action a holds bank 0 at channel 0. -/
def held (n : Nat) (a : Act) : State :=
  (withActs [a] (runs n)).updBank 0 (fun x => { x with grant := some 0, holder := some 7 })

/-- The same while the bank's shaper runs the profile. -/
def driven (n : Nat) (a : Act) : State := (held n a).updShp 0 (fun x => { x with running := true })

/-- A running device whose shaper 0 has the word at address 0 of the microcode due. -/
def ucRuns (w : Nat) : State :=
  { (runs 9).updShp 0 (fun x => { x with running := true }) with mem := wordAt 0x180000 w }

/-- A conversion that was sampled at a PT. -/
def convAt (n : Nat) : Conversion := ⟨false, 0, 3, n, 0, 0, false, false, 0, 0, 0, 0, false, none⟩

/-- A scan of open slot 0 with position 2 left. -/
def aScan : Scan := ⟨none, 0, 4, 0, 0, 0, false, false, 0, true, 0, false, false⟩

/-- Open trigger slot j of converter k with a source, a mask, a delay, and nothing in progress. -/
def trigSlot (k j : Fin 4) (src : Nat) : State :=
  ((((runs 9).wrBoth (CSLOT.base k j) CSLOT.TRG_CFG_SRC src).wrBoth (CSLOT.base k j) CSLOT.TRG_MASK_MASK 1).wrBoth
    (CSLOT.base k j) CSLOT.TRG_CFG_DELAY 3)

/-- PWM generator n runs with a period of 100 steps, its first period starting at PT 0; p ticks on. -/
def pwmOn (n : Fin 16) (p : Nat) : State :=
  (((runs p).wrBoth PWM.base PWM.RUN (2 ^ n.val)).wrBoth (pw n) PWN.PERIOD_P 100).updPwm n (fun x => { x with t0 := 0 })

/-- Timer n runs in a start mode, at a count, its count step due. -/
def tmrOn (n : Fin 16) (mode count : Nat) : State :=
  (((runs 9).wrBoth TMR.base TMR.RUN (2 ^ n.val)).wrBoth (tm n) TMN.CFG_SMODE mode).updTmr n
    (fun x => { x with due := 9, count := count, reload := false })

/-- Timer n captures from source 1 at rising edges. -/
def tmrCap (n : Fin 16) : State :=
  ((runs 9).wrBoth (tm n) TMN.CAP_CFG_CSRC 1).wrBoth (tm n) TMN.CAP_CFG_EDGE 1

/-- Runnel e runs with a program of one word, at a PT of 9. -/
def rnlOn (e : Fin 8) (w : Nat) : State :=
  ((runs 9).wrBoth RUN.base RUN.RUN_RUN (2 ^ e.val)).updRnl e (fun x => { x with prog := [(0, w)] })

/-- Runnel e drives every pin. -/
def ownsAll (e : Fin 8) (s : State) : State :=
  foldS [0, 1, 2, 3] (fun k s => s.setAct (PINOWN.base k) (BitVec.ofNat 32 (e.val * 0x11111111)))
    (s.wrBoth RUN.base RUN.PIN_OE_OE 0xFFFFFFFF)

/-- A running device whose Flume channel c runs a transfer of 8 bytes from 0x40 to 0x40080. -/
def copying (c : Fin 32) : State :=
  (((((runs 9).wr (fc c) FLC.STAT_STATE 1).wr (fc c) FLC.REMAIN_BYTES 8).wr (fc c) FLC.CUR_SRC_ADDR 0x40).wr
    (fc c) FLC.CUR_DST_ADDR 0x40080).updFlume c (fun x => { x with elLeft := 8 })

/-- What the channel's read of that beat leaves. -/
def copyRead (c : Fin 32) : State := (chanRead c 0x40 8 (copying c)).2

/-- What its write leaves. -/
def copyWritten (c : Fin 32) : State :=
  (chanWrite c 0x40080 8 0 ((copyRead c).updFlume c (fun x => { x with buf := some (List.replicate 8 0) }))).2

/-- A running device with both link ports up that has heard device 1 at the upstream port. -/
def linked (n : Nat) : State :=
  { (((runs n).wr LINK.base LINK.STAT_UP 2).wr LINK.base LINK.STAT_DOWN 2) with
    link := { State.reset.link with heard := [(1, ⟨0, 0, 0⟩)] } }

/-- A peer access under way to device 1. -/
def peerReq (w : Bool) (who : PeerWho) : PeerReq := ⟨5, 1, 0x11000040, w, false, who, 0, 0⟩

/-- A frame of the link to this device with TAG 5, in sequence, as received from device 1. -/
def memFrame (data : List Word) : MemFrame := ⟨1, 0, 0, 5, 0, 0, 0xF, 0, 0x40, data, true⟩

/-- An EVENT frame of the same kind. -/
def eventFrame (full : Bool) : EventFrame := ⟨1, 0, false, 0, 5, 77, 3, full, 99, 100, true⟩

/-- An outgoing frame with a link sequence number. -/
def sentFrame (q : Nat) : LinkFrame := ⟨2, 0, 0, 1, false, q, 0, 5, 0, 0, 0xF, [0x40]⟩

/-- A HEART from device 1. -/
def heart (rst : Bool) : HeartFrame := ⟨1, 2, 1, false, false, 4, rst, 0, 1, 7, true⟩

/-- An ANGLE beat from device 1. -/
def angleBeat : AngleBeat := ⟨1, true, false, 100, 9, 243, 0, true⟩

/-- A device in the gen 2 framing of its host port. -/
def gen2 : State := (runs 9).updHost (fun x => { x with gen := 2 })

/-- The CRC words of frames of the host ports. -/
def crcHps (l : List Word) : Half := BitVec.ofNat 16 (crc16 (beWords l))
def crcHpq (l : List Word) : Word := BitVec.ofNat 32 (crc32 (beWords l))

/-- A host request in progress. -/
def hostReq : HostReq := ⟨false, false, 0x40, 2, 1, 3, [], [5], false⟩

/-- A number as bytes, low first. -/
def asBytes (n v : Nat) : List Byte := (List.range n).map (fun i => BitVec.ofNat 8 (v / 256 ^ i))

/-- A flash boot header: magic, zeros, and the CRC of its first 32 bytes. -/
def bootHeader : List Byte :=
  let l := asBytes 4 0x54425643 ++ asBytes 28 0
  l ++ asBytes 4 (crc32 l)

/-- A device in a stage of the flash boot. -/
def boots (g : Nat) : State := (inState .strapped 9).wr FL.base FL.BOOT_STAGE g

/-- At a port, the host cluster's turn is member m's: HPS, HPQ, the link, FL (R445). -/
def turnTo (port m : Nat) (s : State) : State := setRot port { initRot with host := m } s

/-- The flash master has a transfer under way. -/
def moving (j : FlJob) (s : State) : State := { s with flash := { s.flash with job := some j } }

/-- The pattern of a crank wheel of five places with the last tooth missing, in units of a fifth of a revolution, each
entry with a KIND. -/
def gapWheel (kind : Nat) : List (Nat × Nat) :=
  ((List.range 4).map (fun i => (i, 4718592 * i + kind * 2 ^ 26))).filter (fun e => e.2 ≠ 0)

/-- Tracker 0 on that wheel in an acquisition state, its last crank edge at PT 3,000 at entry 2, its last period 1,000
ticks, with an edge before it. -/
def toothed (q : Acq) (e : EdgeIn) (s : State) : State :=
  let b := TRK.base 0
  { (((((((s.wrBoth b TRK.CFG_TEETH 4).wrBoth b TRK.PLAUS_LO 1024).wrBoth b TRK.PLAUS_HI 8192).wrBoth
      b TRK.ACQ_FEAT_TOL 8).wrBoth b TRK.ACQ_PHASE_TRIES 3).wrBoth b TRK.CFG_CONFIRM 1).updTrk 0 (fun x => { x with
        acq := q, nEdges := 2, lastStamp := 3000, prevStamp := 2000, period := 1000, tpred := 1000, pos := 2
        stamps := [3000, 2000], acc := 9437183 * 2 ^ 32, horizon := 14155775, edges := [e] })) with
    ptab := gapWheel 0, pt := e.due, tick := e.due }

/-- A crank edge of wheel 0 at a stamp. -/
def edgeAt (n : Nat) : EdgeIn := ⟨0, n, n + 10, none⟩

/-- Tracker 0 on that wheel with a cam wheel 1 of one entry, in a cycle of two revolutions,
    and a cam edge at PT 3,500. -/
def cammed (q : Acq) (a : Nat) (s : State) : State :=
  let b := TRK.base 0
  let t := toothed q ⟨1, 3500, 3510, none⟩
    ((((s.wrBoth b TRK.CFG_CAM_EN 1).wrBoth b TRK.CFG_CAM 1).wrBoth b TRK.CFG_CAMFEAT 1).wrBoth b TRK.CFG_CYCLE720 1)
  { t.updTrk 0 (fun x => { x with base := x.acc, baseAt := x.lastStamp }) with ptab := t.ptab ++ [(1024, a)] }

/-! ## A plan image that checks -/

/-- The directory of the small image. -/
def smallDir : List Sect :=
  [⟨1, 0, 0xE8, 0x28, 0x409A9518⟩, ⟨2, 0, 0x110, 0x18, 0x444BE00A⟩, ⟨3, 0, 0x128, 0x10, 0x63C1597A⟩,
   ⟨4, 0, 0x138, 0x18, 0x2A65D11B⟩, ⟨5, 0, 0x150, 0x408, 0xD8BEDE42⟩, ⟨7, 0, 0x558, 0x10, 0xECBB4B55⟩,
   ⟨8, 0, 0x568, 8, 0x6522DF69⟩, ⟨9, 0, 0x570, 8, 0x6522DF69⟩, ⟨10, 0, 0x578, 0x10, 0x665885EA⟩,
   ⟨11, 0, 0x588, 8, 0x6522DF69⟩]

/-- The small image as the check pass reads it. -/
def smallRead : Image := ⟨loads .check, 0, smallDir⟩

/-- A byte of the small image, found in its list of words. -/
def smallByte (a : Nat) : Nat := tget smallImage (8 * (a / 8)) 0 / 256 ^ (a % 8) % 256

theorem tget_absent {α : Type} (l : List (Nat × α)) (q : Nat) (d : α) (h : ∀ e ∈ l, e.1 ≠ q) : tget l q d = d := by
  induction l with
  | nil => rfl
  | cons e l ih =>
    rw [tget, if_neg (h e (by simp))]
    exact ih (fun x hx => h x (by simp [hx]))

theorem tget_filter {α : Type} (p : Nat × α → Bool) (l : List (Nat × α)) (q : Nat) (d : α)
    (hp : ∀ e, p e = false → e.2 = d) (h : l.Pairwise (fun x y => x.1 < y.1)) : tget (l.filter p) q d = tget l q d := by
  induction l with
  | nil => rfl
  | cons e l ih =>
    rw [List.pairwise_cons] at h
    rw [List.filter_cons]
    by_cases he : p e = true
    · rw [if_pos he, tget, tget, ih h.2]
    · rw [if_neg he, ih h.2, tget]
      by_cases hk : e.1 = q
      · rw [if_pos hk, hp e (by simpa using he)]
        exact tget_absent l q d (fun x hx => by have := h.1 x hx; omega)
      · rw [if_neg hk]

theorem tget_words (l : List (Nat × Nat)) (hl : ∀ e ∈ l, e.1 % 8 = 0) (w i : Nat) (hi : i < 8) :
    tget (l.flatMap (fun e => (List.range 8).map (fun i => (e.1 + i, BitVec.ofNat 8 (e.2 / 256 ^ i))))) (8 * w + i) 0 =
      BitVec.ofNat 8 (tget l (8 * w) 0 / 256 ^ i) := by
  induction l with
  | nil => simp [tget]
  | cons e l ih =>
    have h := ih (fun x hx => hl x (by simp [hx]))
    have h8 := hl e (by simp)
    rw [List.flatMap_cons]
    by_cases hk : e.1 = 8 * w
    · obtain ⟨a, v⟩ := e
      simp only at hk
      subst hk
      interval_cases i <;> simp [tget, List.range_succ]
    · rw [tget, if_neg hk, ← h]
      obtain ⟨a, v⟩ := e
      simp only at hk h8
      simp [tget, List.range_succ, show ∀ j, j < 8 → a + j ≠ 8 * w + i from fun j hj => by omega]
      intro; omega

theorem smallImage_word (w : Nat) : tget smallImage (8 * w) 0 < 2 ^ 64 := by
  have h : ∀ l : List (Nat × Nat), (∀ e ∈ l, e.2 < 2 ^ 64) → tget l (8 * w) 0 < 2 ^ 64 := by
    intro l hl
    induction l with
    | nil => simp [tget]
    | cons e l ih =>
      rw [tget]
      split
      · exact hl e (by simp)
      · exact ih (fun x hx => hl x (by simp [hx]))
  exact h smallImage (by decide +kernel)

theorem small_byte (p : LoadPhase) (w i : Nat) (hi : i < 8) :
    ((loads p).byte (8 * w + i)).toNat = tget smallImage (8 * w) 0 / 256 ^ i % 256 := by
  have h : tget imageCells (8 * w + i) 0 = BitVec.ofNat 8 (tget smallImage (8 * w) 0 / 256 ^ i) := by
    rw [imageCells, tget_filter _ _ _ _ (by simp) (List.isChain_iff_pairwise.mp (by decide +kernel))]
    exact tget_words smallImage (by decide +kernel) w i hi
  show (tget imageCells (8 * w + i) 0).toNat = _
  rw [h, BitVec.toNat_ofNat]

theorem dataByte_small (p : LoadPhase) (a : Nat) : dataByte (loads p) a = smallByte a := by
  have hw : (loads p).wordData (a / 8) = tget smallImage (8 * (a / 8)) 0 := by
    have h0 : eccResidue ((loads p).pattern (a / 8)) = 0 := by
      show eccResidue 0 = 0
      decide +kernel
    have hb := small_byte p (a / 8)
    have h := hb 0 (by omega)
    have hlt := smallImage_word (a / 8)
    rw [State.wordData, h0]
    simp only [State.leBytes, Nat.add_assoc, Nat.reduceAdd]
    simp only [Nat.add_zero] at h
    rw [h, hb 1 (by omega), hb 2 (by omega), hb 3 (by omega), hb 4 (by omega), hb 5 (by omega), hb 6 (by omega),
        hb 7 (by omega)]
    generalize tget smallImage (8 * (a / 8)) 0 = v at hlt
    rw [show bits 0 77 14 = 0 by decide, Nat.xor_zero]
    norm_num
    omega
  rw [dataByte, hw, smallByte, show (256 : Nat) = 2 ^ 8 by rfl, ← Nat.pow_mul]

/-- Bytes of the small image as one number. -/
def smallNum (a : Nat) : Nat → Nat
  | 0 => 0
  | n + 1 => smallByte a + 256 * smallNum (a + 1) n

theorem leData_small (p : LoadPhase) (n a : Nat) : leData (loads p) a n = smallNum a n := by
  induction n generalizing a with
  | zero => rfl
  | succ n ih => rw [leData, smallNum, dataByte_small, ih]

theorem smallRead_eq : imageAt (loads .check) 0 = smallRead := by
  have hs : sectAt (loads .check) 0 = fun i =>
      ⟨smallNum (0x40 + 16 * i) 2, smallNum (0x42 + 16 * i) 2, smallNum (0x44 + 16 * i) 4,
        smallNum (0x48 + 16 * i) 4, smallNum (0x4C + 16 * i) 4⟩ := by
    funext i
    simp only [sectAt, leData_small, Nat.zero_add, Nat.add_right_comm _ (16 * i), Nat.reduceAdd]
  have h : (imageAt (loads .check) 0).dir = smallDir := by
    simp only [imageAt, hs, leData_small]
    decide +kernel
  rw [smallRead, ← h, imageAt]

/-- Bytes through the CRC of R154, its end inversion left out. -/
theorem crcOf_small (a n : Nat) :
    crcOf (loads .check) a n =
      (List.range n).foldl (fun c i => crcByte c (smallByte (a + i))) 0xFFFFFFFF ^^^ 0xFFFFFFFF := by
  simp only [crcOf, dataByte_small]

theorem smallByte_zero (a : Nat) (h : 0x150 ≤ a) (h' : a < 0x558) : smallByte a = 0 := by
  have hk : ∀ e ∈ smallImage, e.1 + 8 ≤ 0x150 ∨ 0x558 ≤ e.1 := by decide +kernel
  rw [smallByte, tget_absent smallImage _ _ (fun e he => by have := hk e he; omega)]
  simp

theorem smallNum_zero (n a : Nat) (h : 0x150 ≤ a) (h' : a + n ≤ 0x558) : smallNum a n = 0 := by
  induction n generalizing a with
  | zero => rfl
  | succ n ih => rw [smallNum, smallByte_zero a h (by omega), ih (a + 1) (by omega) (by omega)]

theorem smallRead_le (o n : Nat) : smallRead.le o n = smallNum o n := by
  rw [Image.le, smallRead, leData_small, Nat.zero_add]

/-- The microcode section of the small image holds 0 only. -/
theorem small_mcode (o n : Nat) (h : o + n ≤ 0x408) : smallRead.rd 5 o n = 0 := by
  have hs : smallRead.sect 5 0 = some ⟨5, 0, 0x150, 0x408, 0xD8BEDE42⟩ := by decide +kernel
  rw [Image.rd, hs]
  exact (smallRead_le _ _).trans (smallNum_zero _ _ (by simp only; omega) (by simp only; omega))

/-- n zero bytes through the CRC. -/
def crcZeros (c : Nat) : Nat → Nat
  | 0 => c
  | n + 1 => crcZeros (crcByte c 0) n

theorem crcZeros_zero (c : Nat) : crcZeros c 0 = c := (rfl)
theorem crcZeros_succ (c n : Nat) : crcZeros c (n + 1) = crcZeros (crcByte c 0) n := (rfl)

theorem crcZeros_add (m n c : Nat) : crcZeros c (m + n) = crcZeros (crcZeros c m) n := by
  induction m generalizing c with
  | zero => simp only [Nat.zero_add, crcZeros_zero]
  | succ m ih => simp only [Nat.add_right_comm m 1 n, crcZeros_succ, ih]

theorem foldl_zeros (f : Nat → Nat) (l : List Nat) (h : ∀ i ∈ l, f i = 0) (c : Nat) :
    l.foldl (fun c i => crcByte c (f i)) c = crcZeros c l.length := by
  induction l generalizing c with
  | nil => rfl
  | cons i l ih =>
    rw [List.foldl_cons, h i (by simp), ih (fun j hj => h j (by simp [hj])), List.length_cons, crcZeros_succ]

theorem small_crc_mcode : crcOf (loads .check) 0x150 0x408 = 0xD8BEDE42 := by
  have h0 : crcZeros 0xFFFFFFFF 129 = 0xA3815771 := by decide +kernel
  have h1 : crcZeros 0xA3815771 129 = 0x51964065 := by decide +kernel
  have h2 : crcZeros 0x51964065 129 = 0xC6FC13EC := by decide +kernel
  have h3 : crcZeros 0xC6FC13EC 129 = 0x538D84E8 := by decide +kernel
  have h4 : crcZeros 0x538D84E8 129 = 0xCDD98F42 := by decide +kernel
  have h5 : crcZeros 0xCDD98F42 129 = 0x5EF693D7 := by decide +kernel
  have h6 : crcZeros 0x5EF693D7 129 = 0xBD33C867 := by decide +kernel
  have h7 : crcZeros 0xBD33C867 129 = 0x274121BD := by decide +kernel
  rw [crcOf_small, foldl_zeros _ _ (fun i hi => smallByte_zero _ (by omega) (by have := List.mem_range.mp hi; omega)),
    List.length_range, show (0x408 : Nat) = 129 + (129 + (129 + (129 + (129 + (129 + (129 + 129)))))) by rfl]
  simp only [crcZeros_add, h0, h1, h2, h3, h4, h5, h6, h7]
  rfl

theorem small_sect_crc : (List.range 10).all (fun i => !sectCrcBad smallRead i) = true := by
  have h : ∀ i, i < 10 → i ≠ 4 → sectCrcBad smallRead i = false := by
    simp only [sectCrcBad, smallRead, crcOf_small]
    decide +kernel
  have h4 : sectCrcBad smallRead 4 = false := by
    show (crcOf (loads .check) 0x150 0x408 != 0xD8BEDE42) = false
    rw [small_crc_mcode]
    rfl
  rw [List.all_eq_true]
  intro i hi
  by_cases hk : i = 4
  · rw [hk, h4]; rfl
  · rw [h i (List.mem_range.mp hi) hk]; rfl

theorem small_outer : outerCheck smallRead 1424 = none := by
  have h1 : headerBad smallRead = false := by
    simp only [headerBad, Image.zero, smallRead_le]
    decide +kernel
  have h2 : decide (crcOf smallRead.st smallRead.base 0x3C ≠ smallRead.le 0x3C 4) = false := by
    simp only [smallRead_le]
    rw [show smallRead.st = loads .check by rfl, crcOf_small]
    decide +kernel
  have h3 : decide (crcOf smallRead.st (smallRead.base + 0x40) (16 * smallRead.dir.length) ≠
      smallRead.le (0x40 + 16 * smallRead.dir.length) 4) = false := by
    simp only [smallRead_le]
    rw [show smallRead.st = loads .check by rfl, crcOf_small]
    decide +kernel
  have h4 : smallRead.imageSize = 1424 := by
    rw [Image.imageSize, smallRead_le]
    decide +kernel
  have h5 : (List.range 10).all (fun i => !dirBad smallRead i) = true := by
    simp only [dirBad, h4]
    decide +kernel
  have h6 : (!smallRead.zero (0x44 + 16 * smallRead.dir.length) 4 || !typesThere smallRead) = false := by
    simp only [Image.zero, smallRead_le]
    decide +kernel
  have hf : ∀ (f : Nat → Bool) (k : Nat), (List.range 10).all (fun i => !f i) = true →
      firstItem 10 (fun i => if f i then some k else none) = none := by
    intro f k h
    rw [firstItem, List.findSome?_eq_none_iff]
    intro i hi
    have := List.all_eq_true.mp h i hi
    simp only [Bool.not_eq_true'] at this
    rw [this]
    rfl
  rw [outerCheck]
  simp only [h1, h2, h3, h4, h6]
  rw [show smallRead.dir.length = 10 by rfl, hf _ 3 h5, hf _ 5 small_sect_crc]
  rfl

theorem small_contents : (contentChecks (loads .check) smallRead).all (fun e => e.2.isNone) = true := by
  have hw : wheelCheck (loads .check) smallRead = none := by decide +kernel
  have ha : actionCheck smallRead = none := by decide +kernel
  have hs : slotCheck smallRead = none := by decide +kernel
  have hf : furrowCheck smallRead = none := by decide +kernel
  have hm : mcodeCheck smallRead = none := by
    have h0 : smallRead.nword = 0 := small_mcode 0 4 (by omega)
    have hp : ∀ p, p < 256 → smallRead.prof p = 0 := fun p hp => small_mcode _ 4 (by omega)
    have hz : ∀ o n, o + n ≤ 0x408 → smallRead.secZero 5 o n = true := by
      intro o n h
      rw [Image.secZero, List.all_eq_true]
      intro i hi
      rw [small_mcode _ _ (by have := List.mem_range.mp hi; omega)]
      rfl
    have hi : firstItem 256 (fun p => if profOk smallRead (smallRead.prof p) then none else some 8) = none := by
      rw [firstItem, List.findSome?_eq_none_iff]
      intro i hi
      rw [hp i (List.mem_range.mp hi)]
      rfl
    rw [mcodeCheck, h0, hi, show smallRead.size 5 = 0x408 by decide +kernel, hz 4 4 (by omega), hz _ _ (by omega)]
    rfl
  have hc : ∀ c, c < 4 → coreCheck smallRead c = none := by decide +kernel
  have hl : flumeCheck smallRead = none := by decide +kernel
  have hb : busmapCheck smallRead = none := by decide +kernel
  have hn : scanCheck smallRead = none := by decide +kernel
  have he : envelopeCheck smallRead = none := by decide +kernel
  have ht : trimCheck smallRead = none := by decide +kernel
  simp only [contentChecks, hw, ha, hs, hf, hm, hc 0, hc 1, hc 2, hc 3, hl, hb, hn, he, ht, Nat.reduceLT]
  rfl

theorem small_check : checkPlan (loads .check) = none := by
  have hp : placeBad smallRead 0x80000 = false := by decide +kernel
  have hg : ∀ l : List (Nat × Option (Nat × Nat)), l.all (fun e => e.2.isNone) = true → firstSect l = none := by
    intro l
    induction l with
    | nil => intro; rfl
    | cons e l ih =>
      intro h
      rw [List.all_cons, Bool.and_eq_true] at h
      obtain ⟨t, x⟩ := e
      cases x with
      | none => exact ih h.2
      | some x => cases h.1
  have ha : (loads .check).plan.loadAddr = 0 := by rfl
  have hn : (loads .check).plan.loadSize = 1424 := by rfl
  have hb : (loads .check).plan.copyBase = 0x80000 := by rfl
  rw [checkPlan]
  simp only [ha, hn, hb, smallRead_eq, hp]
  rw [if_neg (by decide)]
  apply hg
  rw [List.all_append, List.all_cons, small_contents, small_outer]
  rfl

/-! ## Every statement with hypotheses has a state that meets them -/

theorem witness_stepRunsTheCommandInFront :
    ∃ (c : Instr) (rest : List Instr) (s : State), s.pending = c :: rest :=
  ⟨.park, [.disarm], { State.reset with pending := [.park, .disarm] }, by decide +kernel⟩

theorem witness_emptyQueueIdles :
    ∃ (s : State), s.pending = [] :=
  ⟨State.reset, by decide +kernel⟩

theorem witness_accumulatorAdvancesByThePitchExactly :
    (∃ (p : Nat) (tp : Nat), 0 < tp ∧ p * 2 ^ 32 / tp ≤ incMax) ∧
    (∃ (p : Nat) (tp : Nat), 0 < tp ∧ p * 2 ^ 32 / tp ≤ incMax) :=
  ⟨⟨65536, 4097, by decide +kernel⟩,
   ⟨15, 1, by decide +kernel⟩⟩

theorem witness_anglesStayBehindTheHorizon :
    (∃ (astern : Bool) (len : Nat) (a : Nat) (hz : Nat) (x : Nat), 0 < len ∧ a < len ∧ hz < len) ∧
    (∃ (astern : Bool) (len : Nat) (a : Nat) (hz : Nat) (x : Nat), 0 < len ∧ a < len ∧ hz < len) ∧
    (∃ (k : Fin 2) (s : State), s.trk[k].acq = .sync ∧ s.trk[k].stalled = false ∧ s.trk[k].atHorizon = false ∧
        s.trk[k].acc < cycleLen s k * 2 ^ 32 ∧ s.trk[k].horizon < cycleLen s k ∧ s.trk[k].inc ≤ incMax) :=
  ⟨⟨false, 23592960, 23592959, 0, 5, by decide +kernel⟩,
   ⟨true, 1, 0, 0, 0, by decide +kernel⟩,
   ⟨1, (later 9).updTrk 1 (fun x => { x with acq := .sync, horizon := 23592959, inc := incMax }), by decide +kernel⟩⟩

theorem witness_errorsOfUpToTwoBitsAreCorrected :
    (∃ (i : Nat), i < 79) ∧
    (∃ (i : Nat), i < 79) ∧
    (∃ (i : Nat) (j : Nat), i < j ∧ j < 79) ∧
    (∃ (i : Nat) (j : Nat), i < j ∧ j < 79) :=
  ⟨⟨0, by decide +kernel⟩,
   ⟨78, by decide +kernel⟩,
   ⟨0, 1, by decide +kernel⟩,
   ⟨77, 78, by decide +kernel⟩⟩

theorem witness_errorsOfThreeBitsAreReported :
    (∃ (i : Nat) (j : Nat) (k : Nat), i < j ∧ j < k ∧ k < 79) ∧
    (∃ (i : Nat) (j : Nat) (k : Nat), i < j ∧ j < k ∧ k < 79) :=
  ⟨⟨0, 1, 2, by decide +kernel⟩,
   ⟨76, 77, 78, by decide +kernel⟩⟩

theorem witness_wholeWordsReadBack :
    (∃ (w : Nat) (v : Nat) (s : State), v < 2 ^ 64 ∧ s.flag MEM.base MEM.INJ_CTL_ARM = false ∧ 8 * w < 0x154000) ∧
    (∃ (w : Nat) (v : Nat) (s : State), v < 2 ^ 64 ∧ s.flag MEM.base MEM.INJ_CTL_ARM = false ∧ 8 * w < 0x154000) :=
  ⟨⟨0, 2 ^ 64 - 1, State.reset, by decide +kernel⟩,
   ⟨0x2A7FF, 1, State.reset, by decide +kernel⟩⟩

theorem witness_poisonStaysUntilAWholeWrite :
    ∃ (a : Nat) (n : Nat) (v : Nat) (s : State), s.pattern (a / 8) = poisonPattern ∧ n < 8 ∧ a < 0x154000 :=
  ⟨3, 7, 5, { State.reset with memErr := [(0, poisonPattern)] }, by decide +kernel⟩

theorem witness_zeroCountStartsEndAtOnce :
    (∃ (c : Fin 32) (s : State), dueDma c s = none ∧ s.clockOff 0x60 = false ∧
        ((planned s c → s.armedOrLater = false)) ∧ flumeState s c = 0 ∧ fl s c FLC.COUNT_BYTES = 0) ∧
    (∃ (c : Fin 32) (s : State), dueDma c s = none ∧ s.clockOff 0x60 = false ∧
        ((planned s c → s.armedOrLater = false)) ∧ flumeState s c = 0 ∧ fl s c FLC.COUNT_BYTES = 0) ∧
    (∃ (c : Fin 32) (s : State), fl s c FLC.COUNT_BYTES = 0) :=
  ⟨⟨31, State.reset, by decide +kernel⟩,
   ⟨0, State.reset.wr FLUME.base FLUME.PLANNED_PLAN 1, by decide +kernel⟩,
   ⟨0, State.reset, by decide +kernel⟩⟩

theorem witness_falseGuardsChangeNothing :
    ∃ (c : Fin 4) (pc : Nat) (w : Nat) (s : State) (x : Nat × Instr), coreDue c s = some pc ∧
        secBad s (imemAddr c pc) = 0 ∧ s.leBytes (imemAddr c pc) 4 = w ∧ guardHolds (liveBank s.cores[c]) w = false ∧
        x.1 = cop w ∧ x ∈ coreCommands c :=
  ⟨1, 0, 0x8A000000, coreWith 1 0x8A000000 freshBank 9, (0x28, .coreEndt 1), by decide +kernel⟩

theorem witness_planTimeRestartsAtResets :
    (∃ (ok : Bool) (s : State), s.sys.coldBusy ∧ s.sys.vretDown = false ∧ s.sys.resetNLow = false ∧
        s.sys.linkRst = false ∧ s.sys.oscRetry = false ∧ s.sys.clkDue = false ∧ s.sys.supplyDown = [] ∧
        s.sys.vdrvLow = false) ∧
    (∃ (s : State), s.sys.warmLow ∧ s.sys.warmBusy ∧ coldHeld s = false ∧ s.sys.oscRetry = false ∧
        s.sys.clkDue = false ∧ s.sys.supplyDown = []) ∧
    (∃ (sup : Supply) (s : State), s.sys.supplyDown = [sup] ∧ s.sys.warmBusy ∧ coldHeld s = false ∧
        s.sys.oscRetry = false ∧ s.sys.clkDue = false ∧ s.sys.warmLow = false) ∧
    (∃ (s : State), s.sys.ptChk = s.pt) ∧
    (∃ (s : State), s.sys.ptChk = s.pt) ∧
    (∃ (s : State), s.held = false) ∧
    (∃ (k : Half) (s : State), s.sys.clkDue ∧ s.sys.warmBusy ∧ coldHeld s = false ∧ s.sys.warmLow = false ∧
        s.sys.supplyDown = []) :=
  ⟨⟨true, (later 9).updSys (fun x => { x with coldBusy := true }), by decide +kernel⟩,
   ⟨(later 9).updSys (fun x => { x with warmLow := true, warmBusy := true }), by decide +kernel⟩,
   ⟨.vddD, (later 9).updSys (fun x => { x with supplyDown := [.vddD], warmBusy := true }), by decide +kernel⟩,
   ⟨runs 9, by decide +kernel⟩,
   ⟨(later 9).updSys (fun x => { x with islandRst := [(2, 9)], ptChk := 9 }), by decide +kernel⟩,
   ⟨later 9, by decide +kernel⟩,
   ⟨25000, (later 9).updSys (fun x => { x with clkDue := true, warmBusy := true }), by decide +kernel⟩⟩

theorem witness_correctedResultsFollowOffsetAndGain :
    (∃ (k : Word) (raw : Nat) (v : Int), raw < 65536 ∧
        v = (((raw : Int) - signed 16 (COEF.COEF_OFFSET.of k)) * COEF.COEF_GAIN.of k + 16384) >>> (15 : Nat)) ∧
    (∃ (k : Word) (raw : Nat) (v : Int), raw < 65536 ∧
        v = (((raw : Int) - signed 16 (COEF.COEF_OFFSET.of k)) * COEF.COEF_GAIN.of k + 16384) >>> (15 : Nat)) ∧
    (∃ (k : Word) (raw : Nat), raw < 65536 ∧ COEF.COEF_OFFSET.of k = 0 ∧ COEF.COEF_GAIN.of k = 0x8000) :=
  ⟨⟨0x8000FFFF, 65535, 65536, by decide +kernel⟩,
   ⟨0x80000001, 0, -1, by decide +kernel⟩,
   ⟨0x80000000, 65535, by decide +kernel⟩⟩

theorem witness_frontEndsStampToothEdges :
    (∃ (w : Fin 4) (peak : BitVec 12) (s : State), frontEndLive s ∧ sensorOf s w = 1 ∧ s.wheels[w].armed ∧
        s.sys.frozen = false) ∧
    (∃ (w : Fin 4) (first : Nat) (s : State), frontEndLive s ∧ sensorOf s w = 2 ∧
        s.wheels[w].level ≠ toothLevel s w ∧ first + filtTicks s w first ≤ s.pt ∧ s.sys.frozen = false) ∧
    (∃ (w : Fin 4) (s : State), frontEndLive s ∧ sensorOf s w = 3 ∧ s.wheels[w].level = toothLevel s w ∧
        s.wheels[w].taken = false ∧ s.on (WHN.base w) WHN.MODE_BOTHFLANK = false ∧ s.sys.frozen = false) :=
  ⟨⟨3, 100, (sensor 3 1 (later 20)).updWheel 3 (fun x => { x with armed := true }), by decide +kernel⟩,
   ⟨0, 10, sensor 0 2 (later 210), by decide +kernel⟩,
   ⟨2, (sensor 2 3 (later 50)).updWheel 2 (fun x => { x with level := true, taken := false, levelStamp := 40 }),
       by decide +kernel⟩⟩

theorem witness_patternTablesAndFrontEndRegisters :
    (∃ (w : Fin 4) (first : Nat) (back : Nat) (s : State), frontEndLive s ∧ (sensorOf s w = 2 ∨ sensorOf s w = 3) ∧
        first < back ∧ back ≤ first + filtTicks s w first ∧ back ≤ s.pt) ∧
    (∃ (w : Fin 4) (first : Nat) (back : Nat) (s : State), frontEndLive s ∧ (sensorOf s w = 2 ∨ sensorOf s w = 3) ∧
        first < back ∧ back ≤ first + filtTicks s w first ∧ back ≤ s.pt) ∧
    (∃ (w : Fin 4) (level : BitVec 12) (s : State), frontEndLive s ∧ sensorOf s w = 1 ∧ s.wheels[w].armed = false ∧
        vrThreshold8 s w < 8 * level.toNat) ∧
    (∃ (v : Word) (s : State), s.armedOrLater = false) ∧
    (∃ (v : Word) (s : State), s.armedOrLater) :=
  ⟨⟨1, 10, 210, sensor 1 2 (later 210), by decide +kernel⟩,
   ⟨1, 9, 10, sensor 1 3 (later 210), by decide +kernel⟩,
   ⟨2, 41, sensor 2 1 (later 5), by decide +kernel⟩,
   ⟨7, State.reset, by decide +kernel⟩,
   ⟨7, inState .armed 5, by decide +kernel⟩⟩

theorem witness_trackersTakeEdgesAndTimeOut :
    (∃ (k : Fin 2) (e : EdgeIn) (s : State), crankDue s k = some e ∧ s.ptStands = false ∧ s.trk[k].acq ≠ .off ∧
        s.trk[k].acq ≠ .sync ∧ s.trk[k].nEdges = 0) ∧
    (∃ (k : Fin 2) (e : EdgeIn) (s : State), s.trk[k].edges.find? (fun e =>
        e.wheel != crankWheel s k && decide (e.due ≤ s.pt)) = some e ∧ s.ptStands = false ∧
        s.trk[k].edges.any (fun c => c.wheel == crankWheel s k && c.stamp == e.stamp) = false ∧
        camWheel s k = some e.wheel ∧ (s.trk[k].acq = .wait ∨ s.trk[k].acq = .steady ∨ s.trk[k].acq = .search ∨ s.trk[k].acq = .confirm)) ∧
    (∃ (k : Fin 2) (s : State), s.trk[k].acq ≠ .off ∧ s.trk[k].acq ≠ .wait ∧ s.trk[k].acq ≠ .sync ∧
        400000 * s.cfg (TRK.base k) TRK.STALL_CFG_TIMEOUT ≤ s.pt - s.trk[k].lastStamp) ∧
    (∃ (k : Fin 2) (e : EdgeIn) (s : State), crankDue s k = some e ∧ s.ptStands = false ∧ s.trk[k].acq ≠ .off ∧
        s.trk[k].acq ≠ .sync ∧ s.trk[k].nEdges = 1) ∧
    (∃ (k : Fin 2) (e : EdgeIn) (s : State), crankDue s k = some e ∧ s.ptStands = false ∧ s.trk[k].acq ≠ .off ∧
        s.trk[k].acq ≠ .sync ∧ 2 ≤ s.trk[k].nEdges ∧ acqSpurious s k (e.stamp - s.trk[k].lastStamp)) ∧
    (∃ (k : Fin 2) (e : EdgeIn) (s : State), crankDue s k = some e ∧ s.ptStands = false ∧ s.trk[k].acq ≠ .off ∧
        s.trk[k].acq ≠ .sync ∧ 2 ≤ s.trk[k].nEdges ∧ acqSpurious s k (e.stamp - s.trk[k].lastStamp)) ∧
    (∃ (k : Fin 2) (e : EdgeIn) (s : State), crankDue s k = some e ∧ s.ptStands = false ∧ s.trk[k].acq ≠ .off ∧
        s.trk[k].acq ≠ .sync ∧ 2 ≤ s.trk[k].nEdges ∧ acqSpurious s k (e.stamp - s.trk[k].lastStamp) = false ∧
        acqImplausible s k (e.stamp - s.trk[k].lastStamp)) ∧
    (∃ (k : Fin 2) (e : EdgeIn) (s : State) (r : Nat), crankDue s k = some e ∧ s.ptStands = false ∧
        s.trk[k].acq = .steady ∧ 2 ≤ s.trk[k].nEdges ∧ acqSpurious s k (e.stamp - s.trk[k].lastStamp) = false ∧
        acqImplausible s k (e.stamp - s.trk[k].lastStamp) = false ∧
        r = (if steadyEdge (e.stamp - s.trk[k].lastStamp) s.trk[k].period then s.trk[k].run + 1 else 0)) ∧
    (∃ (k : Fin 2) (e : EdgeIn) (s : State) (r : Nat), crankDue s k = some e ∧ s.ptStands = false ∧
        s.trk[k].acq = .steady ∧ 2 ≤ s.trk[k].nEdges ∧ acqSpurious s k (e.stamp - s.trk[k].lastStamp) = false ∧
        acqImplausible s k (e.stamp - s.trk[k].lastStamp) = false ∧
        r = (if steadyEdge (e.stamp - s.trk[k].lastStamp) s.trk[k].period then s.trk[k].run + 1 else 0)) ∧
    (∃ (k : Fin 2) (e : EdgeIn) (s : State) (l : List Nat), crankDue s k = some e ∧ s.ptStands = false ∧
        s.trk[k].acq = .search ∧ 2 ≤ s.trk[k].nEdges ∧ acqSpurious s k (e.stamp - s.trk[k].lastStamp) = false ∧
        acqImplausible s k (e.stamp - s.trk[k].lastStamp) = false ∧ widthCoded s k = false ∧
        l = (List.range (teeth s k)).filter (fun p =>
        isFeature s k p && ratioMatches s k (e.stamp - s.trk[k].lastStamp) s.trk[k].period p)) ∧
    (∃ (k : Fin 2) (e : EdgeIn) (s : State) (l : List Nat), crankDue s k = some e ∧ s.ptStands = false ∧
        s.trk[k].acq = .search ∧ 2 ≤ s.trk[k].nEdges ∧ acqSpurious s k (e.stamp - s.trk[k].lastStamp) = false ∧
        acqImplausible s k (e.stamp - s.trk[k].lastStamp) = false ∧ widthCoded s k = false ∧
        l = (List.range (teeth s k)).filter (fun p =>
        isFeature s k p && ratioMatches s k (e.stamp - s.trk[k].lastStamp) s.trk[k].period p)) ∧
    (∃ (k : Fin 2) (e : EdgeIn) (s : State) (l : List Nat), crankDue s k = some e ∧ s.ptStands = false ∧
        s.trk[k].acq = .search ∧ 2 ≤ s.trk[k].nEdges ∧ acqSpurious s k (e.stamp - s.trk[k].lastStamp) = false ∧
        acqImplausible s k (e.stamp - s.trk[k].lastStamp) = false ∧ widthCoded s k = false ∧
        l = (List.range (teeth s k)).filter (fun p =>
        isFeature s k p && ratioMatches s k (e.stamp - s.trk[k].lastStamp) s.trk[k].period p)) ∧
    (∃ (k : Fin 2) (e : EdgeIn) (s : State) (l : List Nat), crankDue s k = some e ∧ s.ptStands = false ∧
        s.trk[k].acq = .search ∧ 2 ≤ s.trk[k].nEdges ∧ acqSpurious s k (e.stamp - s.trk[k].lastStamp) = false ∧
        acqImplausible s k (e.stamp - s.trk[k].lastStamp) = false ∧ widthCoded s k ∧
        l = (List.range (teeth s k)).filter (sequenceMatches (s.updTrk k (fun x => x.note (teeth s k) e)) k) ∧ l ≠ []) ∧
    (∃ (k : Fin 2) (e : EdgeIn) (s : State) (l : List Cand), crankDue s k = some e ∧ s.ptStands = false ∧
        s.trk[k].acq = .confirm ∧ 2 ≤ s.trk[k].nEdges ∧ acqSpurious s k (e.stamp - s.trk[k].lastStamp) = false ∧
        acqImplausible s k (e.stamp - s.trk[k].lastStamp) = false ∧
        l = stepCands s k (e.stamp - s.trk[k].lastStamp) s.trk[k].period e.wclass s.trk[k].cands ∧ l = []) ∧
    (∃ (k : Fin 2) (e : EdgeIn) (s : State) (l : List Cand), crankDue s k = some e ∧ s.ptStands = false ∧
        s.trk[k].acq = .confirm ∧ 2 ≤ s.trk[k].nEdges ∧ acqSpurious s k (e.stamp - s.trk[k].lastStamp) = false ∧
        acqImplausible s k (e.stamp - s.trk[k].lastStamp) = false ∧
        l = stepCands s k (e.stamp - s.trk[k].lastStamp) s.trk[k].period e.wclass s.trk[k].cands ∧ l ≠ [] ∧
        l.all (fun c => decide (s.cfg (TRK.base k) TRK.CFG_CONFIRM ≤ c.count)) = false ∧ 1 < l.length ∧
        4 * teeth s k ≤ s.trk[k].stateEdges + 1) ∧
    (∃ (k : Fin 2) (e : EdgeIn) (s : State) (l : List Cand), crankDue s k = some e ∧ s.ptStands = false ∧
        s.trk[k].acq = .confirm ∧ 2 ≤ s.trk[k].nEdges ∧ acqSpurious s k (e.stamp - s.trk[k].lastStamp) = false ∧
        acqImplausible s k (e.stamp - s.trk[k].lastStamp) = false ∧
        l = stepCands s k (e.stamp - s.trk[k].lastStamp) s.trk[k].period e.wclass s.trk[k].cands ∧ l ≠ [] ∧
        l.all (fun c => decide (s.cfg (TRK.base k) TRK.CFG_CONFIRM ≤ c.count)) = false ∧
        (l.length = 1 ∨ s.trk[k].stateEdges + 1 < 4 * teeth s k)) ∧
    (∃ (k : Fin 2) (e : EdgeIn) (s : State) (l : List Cand), crankDue s k = some e ∧ s.ptStands = false ∧
        s.trk[k].acq = .confirm ∧ 2 ≤ s.trk[k].nEdges ∧ acqSpurious s k (e.stamp - s.trk[k].lastStamp) = false ∧
        acqImplausible s k (e.stamp - s.trk[k].lastStamp) = false ∧
        l = stepCands s k (e.stamp - s.trk[k].lastStamp) s.trk[k].period e.wclass s.trk[k].cands ∧ l ≠ [] ∧
        l.all (fun c => decide (s.cfg (TRK.base k) TRK.CFG_CONFIRM ≤ c.count)) = false ∧
        (l.length = 1 ∨ s.trk[k].stateEdges + 1 < 4 * teeth s k)) ∧
    (∃ (k : Fin 2) (e : EdgeIn) (s : State) (l : List Cand) (c : Cand), crankDue s k = some e ∧ s.ptStands = false ∧
        s.trk[k].acq = .confirm ∧ 2 ≤ s.trk[k].nEdges ∧ acqSpurious s k (e.stamp - s.trk[k].lastStamp) = false ∧
        acqImplausible s k (e.stamp - s.trk[k].lastStamp) = false ∧
        l = stepCands s k (e.stamp - s.trk[k].lastStamp) s.trk[k].period e.wclass s.trk[k].cands ∧ l = [c] ∧
        s.cfg (TRK.base k) TRK.CFG_CONFIRM ≤ c.count ∧ cyc720 s k = false ∧ (s.dev.control ≠ k ∨ s.dev.epochOpen)) ∧
    (∃ (k : Fin 2) (e : EdgeIn) (s : State) (l : List Cand) (c : Cand), crankDue s k = some e ∧ s.ptStands = false ∧
        s.trk[k].acq = .confirm ∧ 2 ≤ s.trk[k].nEdges ∧ acqSpurious s k (e.stamp - s.trk[k].lastStamp) = false ∧
        acqImplausible s k (e.stamp - s.trk[k].lastStamp) = false ∧
        l = stepCands s k (e.stamp - s.trk[k].lastStamp) s.trk[k].period e.wclass s.trk[k].cands ∧ l = [c] ∧
        s.cfg (TRK.base k) TRK.CFG_CONFIRM ≤ c.count ∧ cyc720 s k ∧ s.trk[k].lastCam = none) ∧
    (∃ (k : Fin 2) (e : EdgeIn) (s : State) (l : List Cand), crankDue s k = some e ∧ s.ptStands = false ∧
        s.trk[k].acq = .phase ∧ 2 ≤ s.trk[k].nEdges ∧ acqSpurious s k (e.stamp - s.trk[k].lastStamp) = false ∧
        acqImplausible s k (e.stamp - s.trk[k].lastStamp) = false ∧
        l = stepCands s k (e.stamp - s.trk[k].lastStamp) s.trk[k].period e.wclass s.trk[k].cands ∧ l = []) ∧
    (∃ (k : Fin 2) (e : EdgeIn) (s : State) (l : List Cand), crankDue s k = some e ∧ s.ptStands = false ∧
        s.trk[k].acq = .phase ∧ 2 ≤ s.trk[k].nEdges ∧ acqSpurious s k (e.stamp - s.trk[k].lastStamp) = false ∧
        acqImplausible s k (e.stamp - s.trk[k].lastStamp) = false ∧
        l = stepCands s k (e.stamp - s.trk[k].lastStamp) s.trk[k].period e.wclass s.trk[k].cands ∧ l ≠ [] ∧
        s.trk[k].stateEdges + 1 < 2 * teeth s k) ∧
    (∃ (k : Fin 2) (e : EdgeIn) (s : State) (l : List Cand), crankDue s k = some e ∧ s.ptStands = false ∧
        s.trk[k].acq = .phase ∧ 2 ≤ s.trk[k].nEdges ∧ acqSpurious s k (e.stamp - s.trk[k].lastStamp) = false ∧
        acqImplausible s k (e.stamp - s.trk[k].lastStamp) = false ∧
        l = stepCands s k (e.stamp - s.trk[k].lastStamp) s.trk[k].period e.wclass s.trk[k].cands ∧ l ≠ [] ∧
        2 * teeth s k ≤ s.trk[k].stateEdges + 1 ∧ s.trk[k].tries + 1 < s.cfg (TRK.base k) TRK.ACQ_PHASE_TRIES) ∧
    (∃ (k : Fin 2) (e : EdgeIn) (s : State), crankDue s k = some e ∧ s.ptStands = false ∧ s.trk[k].acq = .sync ∧
        s.trk[k].stalled = false ∧ edgeClass s k e = .spurious ∧ s.trk[k].spurRun < 7) ∧
    (∃ (k : Fin 2) (e : EdgeIn) (s : State), crankDue s k = some e ∧ s.ptStands = false ∧ s.trk[k].acq = .sync ∧
        s.trk[k].stalled = false ∧ edgeClass s k e = .spurious ∧ s.trk[k].spurRun < 7) ∧
    (∃ (k : Fin 2) (e : EdgeIn) (s : State), crankDue s k = some e ∧ s.ptStands = false ∧ s.trk[k].acq = .sync ∧
        s.trk[k].stalled = false ∧ edgeClass s k e = .spurious ∧ 7 ≤ s.trk[k].spurRun ∧
        (s.dev.control ≠ k ∨ s.dev.epochOpen = false) ∧ s.dev.handing = false) ∧
    (∃ (k : Fin 2) (e : EdgeIn) (c : Nat) (s : State), crankDue s k = some e ∧ s.ptStands = false ∧
        s.trk[k].acq = .sync ∧ s.trk[k].stalled = false ∧ edgeClass s k e = .lost c ∧
        (s.dev.control ≠ k ∨ s.dev.epochOpen = false) ∧ s.dev.handing = false) ∧
    (∃ (k : Fin 2) (e : EdgeIn) (c : Nat) (s : State), crankDue s k = some e ∧ s.ptStands = false ∧
        s.trk[k].acq = .sync ∧ s.trk[k].stalled = false ∧ edgeClass s k e = .lost c ∧
        (s.dev.control ≠ k ∨ s.dev.epochOpen = false) ∧ s.dev.handing = false) ∧
    (∃ (k : Fin 2) (e : EdgeIn) (c : Nat) (s : State), crankDue s k = some e ∧ s.ptStands = false ∧
        s.trk[k].acq = .sync ∧ s.trk[k].stalled = false ∧ edgeClass s k e = .lost c ∧
        (s.dev.control ≠ k ∨ s.dev.epochOpen = false) ∧ s.dev.handing = false) ∧
    (∃ (k : Fin 2) (e : EdgeIn) (c : Nat) (s : State), crankDue s k = some e ∧ s.ptStands = false ∧
        s.trk[k].acq = .sync ∧ s.trk[k].stalled = false ∧ edgeClass s k e = .lost c ∧
        (s.dev.control ≠ k ∨ s.dev.epochOpen = false) ∧ s.dev.handing = false) ∧
    (∃ (k : Fin 2) (e : EdgeIn) (c : Nat) (s : State), crankDue s k = some e ∧ s.ptStands = false ∧
        s.trk[k].acq = .sync ∧ s.trk[k].stalled = false ∧ edgeClass s k e = .lost c ∧ s.dev.control = k ∧
        s.dev.epochOpen ∧ s.dev.handing = false ∧ canHandover s k = false) ∧
    (∃ (k : Fin 2) (e : EdgeIn) (s : State), crankDue s k = some e ∧ s.ptStands = false ∧ s.trk[k].acq = .sync ∧
        s.trk[k].stalled = false ∧ edgeClass s k e = .accepted ∧ (s.dev.control ≠ k ∨ s.dev.epochOpen = false) ∧
        s.committed = []) ∧
    (∃ (k : Fin 2) (e : EdgeIn) (s : State) (a : Nat) (y : Nat), crankDue s k = some e ∧ s.ptStands = false ∧
        s.trk[k].acq = .sync ∧ s.trk[k].stalled = false ∧ edgeClass s k e = .accepted ∧ s.dev.control = k ∧
        s.dev.epochOpen ∧ s.dev.step = none ∧ s.committed = [] ∧ s.plan.furrows = [] ∧ s.plan.slotDef = [] ∧
        a = trueAngle s k (nextIdx s.trk[k].astern (teeth s k) s.trk[k].pos) (nextHalf s.trk[k].astern (teeth s k) s.trk[k].pos s.trk[k].half) ∧
        y = presented (loadFrom s k (nextIdx s.trk[k].astern (teeth s k) s.trk[k].pos) (nextHalf s.trk[k].astern (teeth s k) s.trk[k].pos s.trk[k].half) e.stamp (e.stamp - s.trk[k].lastStamp) s.pt) ∧
        2 * travel s.trk[k].astern (cycleLen s k) (devAngle s) a < cycleLen s k ∧
        nowPos s + travel s.trk[k].astern (cycleLen s k) (devAngle s) a + travel s.trk[k].astern (cycleLen s k) a y < (s.dev.cycNo + 1) * devLen s ∧
        travelPos s.trk[k].astern (cycleLen s k) (presented s.trk[k]) + travel s.trk[k].astern (cycleLen s k) (presented s.trk[k]) y < cycleLen s k) ∧
    (∃ (k : Fin 2) (e : EdgeIn) (s : State), crankDue s k = some e ∧ s.ptStands = false ∧ s.trk[k].acq = .sync ∧
        s.trk[k].stalled ∧ sensorOf s (crankWheel s k) ≠ 3 ∧ (s.dev.control ≠ k ∨ s.dev.epochOpen = false) ∧
        s.dev.st ≠ .stalled ∧ s.committed = [] ∧ s.flag PLAN.base PLAN.CMD_DISARM = false) ∧
    (∃ (k : Fin 2) (e : EdgeIn) (s : State), crankDue s k = some e ∧ s.ptStands = false ∧ s.trk[k].acq = .sync ∧
        s.trk[k].stalled ∧ sensorOf s (crankWheel s k) = 3) ∧
    (∃ (k : Fin 2) (e : EdgeIn) (p : Nat) (h : Bool) (s : State), s.trk[k].edges.find? (fun e =>
        e.wheel != crankWheel s k && decide (e.due ≤ s.pt)) = some e ∧ s.ptStands = false ∧
        s.trk[k].edges.any (fun c => c.wheel == crankWheel s k && c.stamp == e.stamp) = false ∧
        camWheel s k = some e.wheel ∧ s.trk[k].acq = .phase ∧ hypotheses s k e = [(p, h)] ∧
        (s.dev.control ≠ k ∨ s.dev.epochOpen)) ∧
    (∃ (k : Fin 2) (e : EdgeIn) (s : State), s.trk[k].edges.find? (fun e =>
        e.wheel != crankWheel s k && decide (e.due ≤ s.pt)) = some e ∧ s.ptStands = false ∧
        s.trk[k].edges.any (fun c => c.wheel == crankWheel s k && c.stamp == e.stamp) = false ∧
        camWheel s k = some e.wheel ∧ s.trk[k].acq = .phase ∧ (hypotheses s k e).length ≠ 1 ∧
        s.trk[k].tries + 1 < s.cfg (TRK.base k) TRK.ACQ_PHASE_TRIES) ∧
    (∃ (k : Fin 2) (e : EdgeIn) (c : Nat) (s : State), s.trk[k].edges.find? (fun e =>
        e.wheel != crankWheel s k && decide (e.due ≤ s.pt)) = some e ∧ s.ptStands = false ∧
        s.trk[k].edges.any (fun c => c.wheel == crankWheel s k && c.stamp == e.stamp) = false ∧
        camWheel s k = some e.wheel ∧ s.trk[k].acq = .sync ∧ (camEntries s k e.wheel).find? (fun c =>
        within (cycleLen s k) (4096 * s.cfg (TRK.base k) TRK.ACQ_CAM_WIN) (entNominal c) (angleAt s k e.stamp)) = some c) ∧
    (∃ (k : Fin 2) (e : EdgeIn) (s : State), s.trk[k].edges.find? (fun e =>
        e.wheel != crankWheel s k && decide (e.due ≤ s.pt)) = some e ∧ s.ptStands = false ∧
        s.trk[k].edges.any (fun c => c.wheel == crankWheel s k && c.stamp == e.stamp) = false ∧
        camWheel s k = some e.wheel ∧ s.trk[k].acq = .sync ∧ cyc720 s k ∧ (camEntries s k e.wheel).find? (fun c =>
        within (cycleLen s k) (4096 * s.cfg (TRK.base k) TRK.ACQ_CAM_WIN) (entNominal c) (angleAt s k e.stamp)) = none ∧
        s.trk[k].camMissRun + 1 < s.cfg (TRK.base k) TRK.ACQ_PHASE_TRIES) ∧
    (∃ (k : Fin 2) (e : EdgeIn) (s : State), s.trk[k].edges.find? (fun e =>
        e.wheel != crankWheel s k && decide (e.due ≤ s.pt)) = some e ∧ s.ptStands = false ∧
        s.trk[k].edges.any (fun c => c.wheel == crankWheel s k && c.stamp == e.stamp) = false ∧
        s.trk[k].acq = .sync ∧ (¬ (cyc720 s k ∧ camWheel s k = some e.wheel)) ∧
        (camEntries s k e.wheel).find? (fun c =>
        within (cycleLen s k) (4096 * s.cfg (TRK.base k) TRK.ACQ_CAM_WIN) (entNominal c) (angleAt s k e.stamp)) = none) ∧
    (∃ (k : Fin 2) (e : EdgeIn) (s : State), s.trk[k].edges.find? (fun e =>
        e.wheel != crankWheel s k && decide (e.due ≤ s.pt)) = some e ∧ s.ptStands = false ∧
        s.trk[k].edges.any (fun c => c.wheel == crankWheel s k && c.stamp == e.stamp) = false ∧
        (s.trk[k].acq = .off ∨ (camWheel s k ≠ some e.wheel ∧ s.trk[k].acq ≠ .sync))) ∧
    (∃ (k : Fin 2) (e : EdgeIn) (s : State), s.trk[k].edges.find? (fun e =>
        e.wheel != crankWheel s k && decide (e.due ≤ s.pt)) = some e ∧ s.ptStands = false ∧
        s.trk[k].edges.any (fun c => c.wheel == crankWheel s k && c.stamp == e.stamp) = false ∧
        (s.trk[k].acq = .off ∨ (camWheel s k ≠ some e.wheel ∧ s.trk[k].acq ≠ .sync))) :=
  ⟨⟨1, ⟨0, 5, 15, none⟩, (later 15).updTrk 1 (fun x => { x with acq := .wait, edges := [⟨0, 5, 15, none⟩] }),
      by decide +kernel⟩,
   ⟨0, ⟨1, 5, 15, none⟩, ((later 15).updTrk 0 (fun x =>
       { x with acq := .confirm, edges := [⟨1, 5, 15, none⟩] })).wrBoth (TRK.base 0) TRK.CFG_CAM_EN 1 |>.wrBoth (TRK.base 0) TRK.CFG_CAM 1,
       by decide +kernel⟩,
   ⟨0, (later 4000000000).updTrk 0 (fun x => { x with acq := .steady }), by decide +kernel⟩,
   ⟨0, edgeAt 4000, (toothed .steady (edgeAt 4000) (runs 9)).updTrk 0 (fun x => { x with nEdges := 1 }),
       by decide +kernel⟩,
   ⟨0, edgeAt 3100, toothed .steady (edgeAt 3100) (runs 9), by decide +kernel⟩,
   ⟨0, edgeAt 3100, (toothed .search (edgeAt 3100) (runs 9)).updTrk 0 (fun x => { x with spurRun := 7 }),
       by decide +kernel⟩,
   ⟨0, edgeAt 8000, toothed .steady (edgeAt 8000) (runs 9), by decide +kernel⟩,
   ⟨0, edgeAt 4000, toothed .steady (edgeAt 4000) (runs 9), 1, by decide +kernel⟩,
   ⟨0, edgeAt 5000, toothed .steady (edgeAt 5000) (runs 9), 0, by decide +kernel⟩,
   ⟨0, edgeAt 4000, toothed .search (edgeAt 4000) (runs 9), [], by decide +kernel⟩,
   ⟨0, edgeAt 4500, toothed .search (edgeAt 4500) (runs 9), [], by decide +kernel⟩,
   ⟨0, edgeAt 5000, toothed .search (edgeAt 5000) (runs 9), [0], by decide +kernel⟩,
   ⟨0, ⟨0, 4000, 4010, some 0⟩, { (toothed .search ⟨0, 4000, 4010, some 0⟩ (runs 9)).wrBoth (TRK.base 0) TRK.ACQ_SEQLEN 0 with ptab := gapWheel 8 },
       [0, 1, 2, 3], by decide +kernel⟩,
   ⟨0, edgeAt 5000, (toothed .confirm (edgeAt 5000) (runs 9)).updTrk 0 (fun x => { x with cands := [⟨2, 0⟩] }), [],
       by decide +kernel⟩,
   ⟨0, edgeAt 4000, (toothed .confirm (edgeAt 4000) (runs 9)).updTrk 0 (fun x =>
       { x with cands := [⟨1, 0⟩, ⟨2, 0⟩], stateEdges := 15 }), [⟨2, 0⟩, ⟨3, 0⟩], by decide +kernel⟩,
   ⟨0, edgeAt 4000, (toothed .confirm (edgeAt 4000) (runs 9)).updTrk 0 (fun x =>
       { x with cands := [⟨1, 0⟩], stateEdges := 99 }), [⟨2, 0⟩], by decide +kernel⟩,
   ⟨0, edgeAt 4000, (toothed .confirm (edgeAt 4000) (runs 9)).updTrk 0 (fun x =>
       { x with cands := [⟨1, 0⟩, ⟨2, 0⟩], stateEdges := 14 }), [⟨2, 0⟩, ⟨3, 0⟩], by decide +kernel⟩,
   ⟨0, edgeAt 5000, (toothed .confirm (edgeAt 5000) (runs 9)).updTrk 0 (fun x => { x with cands := [⟨3, 0⟩] }), [⟨0,
       1⟩], ⟨0, 1⟩, by decide +kernel⟩,
   ⟨0, edgeAt 5000, (toothed .confirm (edgeAt 5000) ((runs 9).wrBoth (TRK.base 0) TRK.CFG_CYCLE720 1)).updTrk 0 (fun x =>
       { x with cands := [⟨3, 0⟩] }), [⟨0, 1⟩], ⟨0, 1⟩, by decide +kernel⟩,
   ⟨0, edgeAt 5000, (toothed .phase (edgeAt 5000) (runs 9)).updTrk 0 (fun x => { x with cands := [⟨2, 0⟩] }), [],
       by decide +kernel⟩,
   ⟨0, edgeAt 4000, (toothed .phase (edgeAt 4000) (runs 9)).updTrk 0 (fun x =>
       { x with cands := [⟨1, 0⟩], stateEdges := 6 }), [⟨2, 0⟩], by decide +kernel⟩,
   ⟨0, edgeAt 4000, (toothed .phase (edgeAt 4000) (runs 9)).updTrk 0 (fun x =>
       { x with cands := [⟨1, 0⟩], stateEdges := 7 }), [⟨2, 0⟩], by decide +kernel⟩,
   ⟨0, edgeAt 3100, toothed .sync (edgeAt 3100) (runs 9), by decide +kernel⟩,
   ⟨0, edgeAt 3100, (toothed .sync (edgeAt 3100) (runs 9)).updTrk 0 (fun x => { x with spurRun := 6 }),
       by decide +kernel⟩,
   ⟨0, edgeAt 3100, (toothed .sync (edgeAt 3100) (later 9)).updTrk 0 (fun x => { x with spurRun := 7 }),
       by decide +kernel⟩,
   ⟨0, edgeAt 8000, 3, toothed .sync (edgeAt 8000) (later 9), by decide +kernel⟩,
   ⟨0, edgeAt 4600, 2, (toothed .sync (edgeAt 4600) (later 9)).updTrk 0 (fun x => { x with pos := 3 }),
       by decide +kernel⟩,
   ⟨0, edgeAt 4600, 7, (toothed .sync (edgeAt 4600) (later 9)).updTrk 0 (fun x =>
       { x with pos := 3, verify := true }), by decide +kernel⟩,
   ⟨0, edgeAt 4300, 1, (toothed .sync (edgeAt 4300) ((later 9).wrBoth (TRK.base 0) TRK.MOTION_CFG_GAP_LIM 20)).updTrk 0 (fun x =>
       { x with pos := 1 }), by decide +kernel⟩,
   ⟨0, edgeAt 8000, 3, toothed .sync (edgeAt 8000) (runs 9), by decide +kernel⟩,
   ⟨0, edgeAt 4000, (toothed .sync (edgeAt 4000) (later 9)).updTrk 0 (fun x => { x with pos := 1 }), by decide +kernel⟩,
   ⟨0, edgeAt 4000, (toothed .sync (edgeAt 4000) (runs 9)).updTrk 0 (fun x => { x with pos := 1 }), 9437184, 9437343,
       by decide +kernel⟩,
   ⟨0, edgeAt 9000, (toothed .sync (edgeAt 9000) (later 9)).updTrk 0 (fun x => { x with pos := 1, stalled := true }),
       by decide +kernel⟩,
   ⟨0, edgeAt 9000, (toothed .sync (edgeAt 9000) (sensor 0 3 (later 9))).updTrk 0 (fun x =>
       { x with pos := 1, stalled := true }), by decide +kernel⟩,
   ⟨0, ⟨1, 3500, 3510, none⟩, 2, false, (cammed .phase 11796480 (runs 9)).updTrk 0 (fun x =>
       { x with cands := [⟨2, 1⟩] }), by decide +kernel⟩,
   ⟨0, ⟨1, 3500, 3510, none⟩, (cammed .phase 4718592 (runs 9)).updTrk 0 (fun x => { x with cands := [⟨2, 1⟩] }),
       by decide +kernel⟩,
   ⟨0, ⟨1, 3500, 3510, none⟩, 9437184, (cammed .sync 9437184 (runs 9)).updTrk 0 (fun x =>
       { x with camMissRun := 1 }), by decide +kernel⟩,
   ⟨0, ⟨1, 3500, 3510, none⟩, (cammed .sync 1 (runs 9)).updTrk 0 (fun x => { x with camMissRun := 1 }),
       by decide +kernel⟩,
   ⟨0, ⟨1, 3500, 3510, none⟩, ((cammed .sync 1 (runs 9)).updTrk 0 (fun x =>
       { x with camMissRun := 1 })).wrBoth (TRK.base 0) TRK.CFG_CYCLE720 0, by decide +kernel⟩,
   ⟨0, ⟨1, 3500, 3510, none⟩, cammed .off 1 (runs 9), by decide +kernel⟩,
   ⟨0, ⟨1, 3500, 3510, none⟩, (cammed .steady 1 (runs 9)).wrBoth (TRK.base 0) TRK.CFG_CAM_EN 0, by decide +kernel⟩⟩

theorem witness_trackerRegistersActAndSnapshot :
    (∃ (s : State), s.trk[otherTrk s.dev.control].inXchk) ∧
    (∃ (s : State), s.trk[otherTrk s.dev.control].inXchk = false) :=
  ⟨⟨State.reset, by decide +kernel⟩,
   ⟨State.reset.updTrk 1 (fun x => { x with inXchk := false }), by decide +kernel⟩⟩

theorem witness_stallsHoldsAndPulseClasses :
    (∃ (k : Fin 2) (s : State), s.ptStands = false ∧ stallDue s k ∧ crankDue s k = none ∧
        s.trk[otherTrk k].acq ≠ .sync ∧ s.cfg (TRK.base k) TRK.HOLD_CFG_HOLD ≠ 0 ∧ s.dev.control = k ∧
        s.dev.epochOpen) ∧
    (∃ (k : Fin 2) (s : State), s.ptStands = false ∧ s.trk[k].acq = .sync ∧ s.trk[k].stalled ∧ crankDue s k = none ∧
        400000 * s.cfg (TRK.base k) TRK.HOLD_CFG_HOLD ≤ s.pt - s.trk[k].stallPt ∧ s.trk[otherTrk k].acq ≠ .sync ∧
        s.dev.control ≠ k ∧ s.dev.handing = false) ∧
    (∃ (w : Fin 4) (lead : Nat) (s : State), frontEndLive s ∧ sensorOf s w = 3 ∧ s.wheels[w].level ≠ toothLevel s w ∧
        s.wheels[w].taken = false ∧ s.wheels[w].pulse = some lead ∧ s.sys.frozen = false ∧ cranksOn s 0 w = false ∧
        cranksOn s 1 w = false) :=
  ⟨⟨0, ((runs 4000000000).updTrk 0 (fun x => { x with acq := .sync })).wrBoth (TRK.base 0) TRK.HOLD_CFG_HOLD 1,
      by decide +kernel⟩,
   ⟨1, (later 400000000).updTrk 1 (fun x => { x with acq := .sync, stalled := true }), by decide +kernel⟩,
   ⟨0, 10, (sensor 0 3 (later 400)).updWheel 0 (fun x =>
       { x with taken := false, pulse := some 10, levelStamp := 300 }), by decide +kernel⟩⟩

theorem witness_ticksAdvancePlanTime :
    ∃ (s : State), s.ptStands = false ∧ following s = false ∧ s.dev.epochOpen = false ∧ s.dev.handing = false ∧
        s.committed = [] ∧ s.sys.commits = [] ∧ s.sys.softResets = [] ∧ (∀ c : Fin 4, s.cores[c].posted = []) ∧
        s.memc.waits = [] ∧ (∀ k : Fin 2, s.trk[k].sigNew = none ∧ s.flag (TRK.base k) TRK.SIG_CFG_RESET = false) :=
  ⟨later 5, by decide +kernel⟩

theorem witness_plansLoadArmAndDisarm :
    (∃ (s : State), s.islandHeld 2 = false ∧ s.plan.load = .idle ∧ (s.dev.st = .strapped ∨ s.dev.st = .loaded)) ∧
    (∃ (s : State), s.islandHeld 2 = false ∧ s.plan.load = .idle ∧ (s.dev.st = .strapped ∨ s.dev.st = .loaded)) ∧
    (∃ (s : State), s.islandHeld 2 = false ∧ s.plan.load = .check ∧ checkPlan s = none) ∧
    (∃ (s : State), s.islandHeld 2 = false ∧ s.plan.load = .write ∧
        (readSpan ((imageAt s s.plan.loadAddr).base / 8) (dirEnd (imageAt s s.plan.loadAddr) / 8) s).1 = false ∧
        (runSteps (imageAt s s.plan.loadAddr) (writeSteps (imageAt s s.plan.loadAddr)) (readSpan ((imageAt s s.plan.loadAddr).base / 8) (dirEnd (imageAt s s.plan.loadAddr) / 8) s).2).1 = false) ∧
    (∃ (s : State), s.islandHeld 2 = false ∧ armRefusal s = none) ∧
    (∃ (s : State), s.islandHeld 2 = false ∧ armRefusal s = none) ∧
    (∃ (s : State), s.islandHeld 2 = false ∧
        (s.dev.st = .armed ∨ s.dev.st = .syncing ∨ s.dev.st = .running ∨ s.dev.st = .governed)) ∧
    (∃ (s : State), s.islandHeld 2 = false ∧
        (s.dev.st = .armed ∨ s.dev.st = .syncing ∨ s.dev.st = .running ∨ s.dev.st = .governed)) ∧
    (∃ (s : State), s.islandHeld 2 = false ∧ s.dev.st = .stalled) :=
  ⟨⟨State.reset, by decide +kernel⟩,
   ⟨inState .loaded 5, by decide +kernel⟩,
   ⟨loads .check, by decide +kernel, rfl, small_check⟩,
   ⟨loads .write, by decide +kernel⟩,
   ⟨inState .loaded 5, by decide +kernel⟩,
   ⟨inState .spilled 5, by decide +kernel⟩,
   ⟨inState .armed 5, by decide +kernel⟩,
   ⟨runs 5, by decide +kernel⟩,
   ⟨inState .stalled 5, by decide +kernel⟩⟩

theorem witness_actionsIssueTakeEffectAndEnd :
    (∃ (fid : BitVec 16) (f : Furrow) (s : State), furrowOf s fid.toNat = some f ∧ planRuns s ∧ s.dev.st = .running ∧
        edgeKnown s ≤ s.pt ∧ issuesFirst s f = false ∧
        headPos s f ≤ projPos s (leadOf (entKindOf (actWord0 s f.head))) ∧
        projPos s (leadOf (entKindOf (actWord0 s f.head))) - headPos s f ≤ lookback s ∧ f.dead = false ∧
        tget s.plan.issuedIn f.head 0 ≠ cycOf s (headPos s f) + 1 ∧ entCritical (actWord0 s f.head) = false ∧
        (readDec (slotAddr (entSlot (actWord0 s f.head))) 4 s).1.2 = false ∧
        noEvent (actWord0 s f.head) (slotData s (entSlot (actWord0 s f.head))) = false ∧
        patchRefused (actWord0 s f.head) (actWord1 s f.head) (slotData s (entSlot (actWord0 s f.head))) = false ∧
        valueOk (entKindOf (actWord0 s f.head)) (slotData s (entSlot (actWord0 s f.head)))) ∧
    (∃ (idx : Fin 16384) (a : Act) (s : State), s.ptStands = false ∧ dueEntry s idx.val = some a ∧
        goesFirst s a = false ∧ a.kind = 7) ∧
    (∃ (idx : Fin 16384) (a : Act) (s : State), s.ptStands = false ∧ dueEntry s idx.val = some a ∧
        goesFirst s a = false ∧ a.isBank) ∧
    (∃ (slot : Fin 4096) (p : Nat) (s : State), cutPos s slot.val = some p ∧ planRuns s ∧ p ≤ nowPos s) ∧
    (∃ (idx : Fin 16384) (a : Act) (s : State), s.plan.acts.find? (fun a =>
        decide (a.idx = idx.val) && a.isBank && decide (a.phase = .effect)) = some a ∧
        a.effectAt + entMax a.w1 ≤ s.pt ∧ s.shp[Fin.ofNat 16 a.bank].endReqAt = none ∧
        s.banks[Fin.ofNat 16 a.bank].holder = some a.serial ∧ s.shp[Fin.ofNat 16 a.bank].running ∧ endDue s a = false) ∧
    (∃ (idx : Fin 16384) (a : Act) (s : State), waitingEntry s idx.val = some a ∧ a.kind = 5 ∧
        a.target + a.dlim < s.pt) ∧
    (∃ (idx : Fin 16384) (a : Act) (s : State), waitingEntry s idx.val = some a ∧ a.kind = 8 ∧ dmaLimit a < s.pt) ∧
    (∃ (s : State), s.islandHeld 2 = false ∧ govLatched s) ∧
    (∃ (i : Nat) (l : Nat) (rest : List (Nat × Nat)) (s : State), s.plan.lateLog = (i, l) :: rest) ∧
    (∃ (s : State), s.plan.lateLog = []) ∧
    (∃ (c : Fin 4) (k : TaskRun) (s : State), s.ptStands = false ∧ s.cores[c].task = some k ∧ k.overrun = false ∧
        k.start + k.budget ≤ s.pt ∧ s.dev.st ≠ .park ∧ s.cores[c].parked = false ∧ nextSlotCome s c = false) ∧
    (∃ (c : Fin 4) (k : TaskRun) (s : State), s.ptStands = false ∧ s.cores[c].task = some k ∧ k.overrun = false ∧
        k.start + k.budget ≤ s.pt ∧ s.dev.st ≠ .park ∧ s.cores[c].parked = false ∧ nextSlotCome s c) ∧
    (∃ (idx : Fin 16384) (a : Act) (s : State), waitingEntry s idx.val = some a ∧ a.kind = 4 ∧
        s.conv[Fin.ofNat 4 (scanConv (scanEnt s a))].waiting = some a.serial ∧ waitLimit s a < s.pt) ∧
    (∃ (idx : Fin 16384) (a : Act) (n : Fin 16) (s : State), s.ptStands = false ∧ dueEntry s idx.val = some a ∧
        goesFirst s a = false ∧ a.kind = 3 ∧ entRes a.w0 / 16 % 16 = n.val ∧
        softWrote s n (propOff (entRes a.w0 % 16)) = false) ∧
    (∃ (idx : Fin 16384) (a : Act) (n : Fin 16) (s : State), s.ptStands = false ∧ dueEntry s idx.val = some a ∧
        goesFirst s a = false ∧ a.kind = 3 ∧ entRes a.w0 / 16 % 16 = n.val ∧
        softWrote s n (propOff (entRes a.w0 % 16)) = false) ∧
    (∃ (idx : Fin 16384) (a : Act) (n : Fin 16) (s : State), s.ptStands = false ∧ dueEntry s idx.val = some a ∧
        goesFirst s a = false ∧ a.kind = 3 ∧ entRes a.w0 / 16 % 16 = n.val ∧
        softWrote s n (propOff (entRes a.w0 % 16)) = false) ∧
    (∃ (idx : Fin 16384) (a : Act) (s : State), s.ptStands = false ∧ dueEntry s idx.val = some a ∧
        goesFirst s a = false ∧ a.kind = 4) ∧
    (∃ (idx : Fin 16384) (a : Act) (s : State), s.ptStands = false ∧ dueEntry s idx.val = some a ∧
        goesFirst s a = false ∧ a.kind = 5 ∧ slotHeld s a = none) ∧
    (∃ (idx : Fin 16384) (a : Act) (n : Fin 16) (s : State), s.ptStands = false ∧ dueEntry s idx.val = some a ∧
        goesFirst s a = false ∧ a.kind = 6 ∧ entRes a.w0 % 16 = n.val ∧ s.tmr[n].held = false ∧ a.value % 4 ≠ 0) ∧
    (∃ (idx : Fin 16384) (a : Act) (n : Fin 16) (s : State), s.ptStands = false ∧ dueEntry s idx.val = some a ∧
        goesFirst s a = false ∧ a.kind = 6 ∧ entRes a.w0 % 16 = n.val ∧ s.tmr[n].held = false ∧ a.value % 4 ≠ 0) ∧
    (∃ (idx : Fin 16384) (a : Act) (n : Fin 16) (s : State), s.ptStands = false ∧ dueEntry s idx.val = some a ∧
        goesFirst s a = false ∧ a.kind = 6 ∧ entRes a.w0 % 16 = n.val ∧ s.tmr[n].held = false ∧ a.value % 4 ≠ 0) ∧
    (∃ (idx : Fin 16384) (a : Act) (s : State), s.ptStands = false ∧ dueEntry s idx.val = some a ∧
        goesFirst s a = false ∧ a.kind = 8 ∧ s.clockOff 0x60 = false ∧ flumeState s (dmaChan a) = 0 ∧
        fl s (dmaChan a) FLC.COUNT_BYTES ≠ 0 ∧ startOk s (dmaChan a)) ∧
    (∃ (idx : Fin 16384) (a : Act) (p : Fin 2) (s : State), s.ptStands = false ∧ dueEntry s idx.val = some a ∧
        goesFirst s a = false ∧ a.kind = 9 ∧ s.dev.epochOpen ∧ entRes a.w0 < 128 ∧
        pathPort s (entRes a.w0 % 8) = some p ∧ s.link.ports[p].unacked.length < 32) :=
  ⟨⟨0x6003, aFurrow, readyToIssue, by decide +kernel⟩,
   ⟨3, { anAct 0x1C000000 .issued with value := 2 },
       withActs [{ anAct 0x1C000000 .issued with value := 2 }] (runs 5), by decide +kernel⟩,
   ⟨3, anAct 0x04000000 .granted, withActs [anAct 0x04000000 .granted] (runs 5) |>.updBank 0 (fun x =>
       { x with holder := some 7 }) |>.updShp 0 (fun x => { x with running := true }), by decide +kernel⟩,
   ⟨5, 100, readyToCut, by decide +kernel⟩,
   ⟨3, { anAct 0x1000000004000000 .effect with w1 := 0x10000, value := 5 },
       withActs [{ anAct 0x1000000004000000 .effect with w1 := 0x10000, value := 5 }] (runs 40) |>.updBank 0 (fun x =>
       { x with holder := some 7 }) |>.updShp 0 (fun x => { x with running := true }), by decide +kernel⟩,
   ⟨3, anAct 0x14000000 .waiting, withActs [anAct 0x14000000 .waiting] (runs 5), by decide +kernel⟩,
   ⟨3, anAct 0x20000000 .waiting, withActs [anAct 0x20000000 .waiting] (runs 5), by decide +kernel⟩,
   ⟨State.reset.wr PLAN.base PLAN.GOV_LATCH 1, by decide +kernel⟩,
   ⟨4, 9, [], State.reset.updPlan (fun x => { x with lateLog := [(4, 9)] }), by decide +kernel⟩,
   ⟨State.reset, by decide +kernel⟩,
   ⟨2, ⟨5, some 9, 0, 100, false, none⟩, (runs 100).updCore 2 (fun x =>
       { x with on := true, task := some ⟨5, some 9, 0, 100, false, none⟩ }), by decide +kernel⟩,
   ⟨2, ⟨5, some 9, 0, 100, false, none⟩, { (runs 2100).updCore 2 (fun x => { x with on := true, task := some ⟨5, some 9, 0, 100, false, none⟩ }) with coreFrame := 0 },
       by decide +kernel⟩,
   ⟨3, { anAct 0x10000000 .waiting with value := 1 },
       ((withActs [{ anAct 0x10000000 .waiting with value := 1 }] (runs 50)).updPlan (fun x =>
       { x with scan := [(0, 2 ^ 32)] })).updConv 0 (fun x => { x with waiting := some 7 }), by decide +kernel⟩,
   ⟨3, { anAct 0x200C000000 .issued with value := 500 }, 2,
       (withActs [{ anAct 0x200C000000 .issued with value := 500 }] (runs 5)), by decide +kernel⟩,
   ⟨3, { anAct 0x210C000000 .issued with value := 500 }, 2,
       (withActs [{ anAct 0x210C000000 .issued with value := 500 }] (runs 5)), by decide +kernel⟩,
   ⟨3, { anAct 0x220C000000 .issued with value := 500 }, 2,
       (withActs [{ anAct 0x220C000000 .issued with value := 500 }] (runs 5)), by decide +kernel⟩,
   ⟨3, { anAct 0x10000000 .issued with value := 1 },
       (withActs [{ anAct 0x10000000 .issued with value := 1 }] (runs 5)).updPlan (fun x =>
       { x with scan := [(0, 2 ^ 32)] }), by decide +kernel⟩,
   ⟨3, { anAct 0x8514000000 .issued with value := 7 },
       (withActs [{ anAct 0x8514000000 .issued with value := 7 }] (runs 5)), by decide +kernel⟩,
   ⟨3, { anAct 0x518000000 .issued with value := 1 }, 5,
       (withActs [{ anAct 0x518000000 .issued with value := 1 }] (runs 5)), by decide +kernel⟩,
   ⟨3, { anAct 0x518000000 .issued with value := 2 }, 5,
       (withActs [{ anAct 0x518000000 .issued with value := 2 }] (runs 5)), by decide +kernel⟩,
   ⟨3, { anAct 0x518000000 .issued with value := 3 }, 5,
       (withActs [{ anAct 0x518000000 .issued with value := 3 }] (runs 5)), by decide +kernel⟩,
   ⟨3, { anAct 0x320000000 .issued with value := 0 },
       (((withActs [{ anAct 0x320000000 .issued with value := 0 }] (runs 5)).wr (fc 3) FLC.COUNT_BYTES 8).wr (fc 3) FLC.SRC_ADDR 0x40).wr (fc 3) FLC.DST_ADDR 0x80,
       by decide +kernel⟩,
   ⟨3, { anAct 0x124000000 .issued with value := 9 }, 0,
       (withActs [{ anAct 0x124000000 .issued with value := 9 }] (linked 5)), by decide +kernel⟩⟩

theorem witness_headgateTakesAndRefusesOrders :
    (∃ (init : Initiator) (n : Fin 3) (v : Word) (j : Fin 8) (s : State), submitterOf init = some j ∧
        s.islandHeld 2 = false) ∧
    (∃ (init : Initiator) (n : Fin 3) (v : Word) (j : Fin 8) (s : State), submitterOf init = some j ∧
        s.islandHeld 2 = false) ∧
    (∃ (init : Initiator) (n : Fin 3) (v : Word) (s : State), submitterOf init = none) ∧
    (∃ (init : Initiator) (v : Word) (j : Fin 8) (s : State) (d : State), submitterOf init = some j ∧
        s.held = false ∧ s.islandHeld 2 = false ∧ d = flushRecs (updStaging j (fun b => { b with sub3 := v }) s) ∧
        judge { s.hdg.staging[j] with sub3 := v } d = .ack ∧
        ((bits s.hdg.staging[j].sub1.toNat 15 0 = s.dev.cycle → cutoffTaken (bits v.toNat 11 0) s = false))) ∧
    (∃ (init : Initiator) (v : Word) (j : Fin 8) (s : State) (d : State), submitterOf init = some j ∧
        s.held = false ∧ s.islandHeld 2 = false ∧ d = flushRecs (updStaging j (fun b => { b with sub3 := v }) s) ∧
        judge { s.hdg.staging[j] with sub3 := v } d = .dup) ∧
    (∃ (init : Initiator) (v : Word) (j : Fin 8) (k : Nat) (s : State) (d : State), submitterOf init = some j ∧
        s.held = false ∧ s.islandHeld 2 = false ∧ d = flushRecs (updStaging j (fun b => { b with sub3 := v }) s) ∧
        judge { s.hdg.staging[j] with sub3 := v } d = .refused k) ∧
    (∃ (init : Initiator) (a : Word) (l : List Byte) (s : State), regionOf a.toNat = some .queue) ∧
    (∃ (init : Initiator) (a : Word) (l : List Byte) (s : State), regionOf a.toNat = some .queue) ∧
    (∃ (init : Initiator) (a : Word) (l : List Byte) (s : State), regionOf a.toNat = some .journal) ∧
    (∃ (init : Initiator) (a : Word) (l : List Byte) (s : State), regionOf a.toNat = some .journal) ∧
    (∃ (init : Initiator) (v : Word) (s : State), s.held) ∧
    (∃ (v : Word) (s : State), s.hdg.rdWrites = [v] ∧
        (v.toNat + 2 ^ 32 - s.rd JRN.base JRN.RD_COUNT) % 2 ^ 32 ≤ jrnFill s) ∧
    (∃ (v : Word) (s : State), s.hdg.rdWrites = [v] ∧
        jrnFill s < (v.toNat + 2 ^ 32 - s.rd JRN.base JRN.RD_COUNT) % 2 ^ 32) ∧
    (∃ (a : BitVec 5) (b : BitVec 5) (s : State), s.held ∧ s.sys.commits = []) ∧
    (∃ (s : State), 0 < s.hdg.lossPend ∧ occ s + s.hdg.recs.countP JrnRec.isAction < jrnFree s) :=
  ⟨⟨.hpq, 2, 7, 0, State.reset, by decide +kernel⟩,
   ⟨.flume 31, 0, 5, 7, State.reset, by decide +kernel⟩,
   ⟨.fl, 1, 5, State.reset, by decide +kernel⟩,
   ⟨.hpq, 0x10000, 0, staged, flushRecs (updStaging 0 (fun b => { b with sub3 := 0x10000 }) staged), by decide +kernel⟩,
   ⟨.core 3, 0, 6, State.reset, flushRecs (updStaging 6 (fun b => { b with sub3 := 0 }) State.reset),
       by decide +kernel⟩,
   ⟨.hpq, 0x10005, 0, 8, staged, flushRecs (updStaging 0 (fun b => { b with sub3 := 0x10005 }) staged),
       by decide +kernel⟩,
   ⟨.hpq, 0x150000, [0], State.reset, by decide +kernel⟩,
   ⟨.hpq, 0x153FFF, [0], State.reset, by decide +kernel⟩,
   ⟨.hpq, 0x140000, [0], State.reset, by decide +kernel⟩,
   ⟨.hpq, 0x14FFFF, [0], State.reset, by decide +kernel⟩,
   ⟨.hpq, 5, (runs 9).updSys (fun x => { x with warmLow := true }), by decide +kernel⟩,
   ⟨0, State.reset.updHdg (fun x => { x with rdWrites := [0] }), by decide +kernel⟩,
   ⟨1, State.reset.updHdg (fun x => { x with rdWrites := [1] }), by decide +kernel⟩,
   ⟨0, 0, State.reset.updSys (fun x => { x with warmLow := true }), by decide +kernel⟩,
   ⟨State.reset.updHdg (fun x => { x with lossPend := 1 }), by decide +kernel⟩⟩

theorem witness_banksGrantFreeAndCheck :
    (∃ (b : Fin 16) (a : Act) (s : State), s.plan.acts.find? (fun a =>
        a.isBank && decide (a.bank = b.val) && decide (a.phase = .issued)) = some a ∧ a.issued + 8 ≤ s.pt ∧
        locked s.banks[b] a.chan = false ∧ bankFreeNow s.banks[b] ∧ s.banks[b].queue = []) ∧
    (∃ (b : Fin 16) (a : Act) (s : State), s.plan.acts.find? (fun a =>
        a.isBank && decide (a.bank = b.val) && decide (a.phase = .issued)) = some a ∧ a.issued + 8 ≤ s.pt ∧
        locked s.banks[b] a.chan) ∧
    (∃ (b : Fin 16) (e : Nat) (s : State), s.banks[b].ended = some e ∧ e + 40 ≤ s.tick ∧ s.banks[b].zeroSeen ∧
        s.banks[b].queue = []) ∧
    (∃ (b : Fin 16) (q : Nat) (a : Act) (s : State), s.banks[b].queue = [q] ∧ findAct s q = some a ∧
        a.target + a.dlim < earliestEffect s b a) ∧
    (∃ (b : Fin 16) (t0 : Nat) (ch : Fin 4) (s : State), s.banks[b].checkAt = some t0 ∧ s.banks[b].grant = some ch ∧
        s.cfg (BANK.base b) BANK.OPEN_CFG_T ≠ 0 ∧ s.banks[b].openDone = false ∧
        t0 + 16 * s.cfg (BANK.base b) BANK.OPEN_CFG_T ≤ s.tick ∧
        bit (s.reg (BANK.base b + 0x5C)).toNat (8 + ch.val) = false) ∧
    (∃ (b : Fin 16) (t0 : Nat) (ch : Fin 4) (s : State), s.banks[b].checkAt = some t0 ∧ s.banks[b].grant = some ch ∧
        s.cfg (BANK.base b) BANK.SHORT_CFG_T ≠ 0 ∧ s.banks[b].shortDone = false ∧
        s.tick < t0 + 16 * s.cfg (BANK.base b) BANK.SHORT_CFG_T ∧
        s.cfg (BANK.base b) BANK.SHORT_CFG_LVL ≤ s.rd (BANK.base b) BANK.SENSE_I) ∧
    (∃ (b : Fin 16) (s : State), s.cfg (BANK.base b) BANK.OC_CFG_LVL ≤ s.rd (BANK.base b) BANK.SENSE_I) ∧
    (∃ (b : Fin 16) (t0 : Nat) (s : State), s.banks[b].clampAt = some t0 ∧ s.on (BANK.base b) BANK.CFG_CLAMP_EN ∧
        t0 + 200 ≤ s.tick ∧ s.banks[b].clampSeen = false) ∧
    (∃ (b : Fin 16) (t0 : Nat) (s : State), s.banks[b].decayAt = some t0 ∧ s.banks[b].stuckDone = false ∧
        t0 + 400 * s.cfg (BANK.base b) BANK.DECAY_CFG_TMO ≤ s.tick) ∧
    (∃ (b : Fin 16) (v : Word) (s : State), notGranted s b) ∧
    (∃ (b : Fin 16) (v : Word) (s : State), notGranted s b = false) ∧
    (∃ (b : Fin 16) (uv : Word) (clamp : Bool) (s : State), s.shp[b].dipFrom = none ∧ s.shp[b].running = false) :=
  ⟨⟨0, anAct 0x04000000 .issued, withActs [anAct 0x04000000 .issued] (runs 8), by decide +kernel⟩,
   ⟨0, anAct 0x04000000 .issued, (withActs [anAct 0x04000000 .issued] (runs 8)).updBank 0 (fun x =>
       { x with bankLock := true }), by decide +kernel⟩,
   ⟨15, 0, (runs 40).updBank 15 (fun x => { x with ended := some 0, zeroSeen := true }), by decide +kernel⟩,
   ⟨2, 7, anAct 0x0400000800000000 .waiting,
       (withActs [anAct 0x0400000800000000 .waiting] (runs 40)).updBank 2 (fun x => { x with queue := [7] }),
       by decide +kernel⟩,
   ⟨1, 0, 3, (runs 2000).updBank 1 (fun x =>
       { x with checkAt := some 0, grant := some 3, openDone := false, shortDone := false }), by decide +kernel⟩,
   ⟨1, 0, 3, ((runs 159).updBank 1 (fun x =>
       { x with checkAt := some 0, grant := some 3, openDone := false, shortDone := false })).wrBoth (BANK.base 1) BANK.SHORT_CFG_T 10 |>.wr (BANK.base 1) BANK.SENSE_I 0xFFF,
       by decide +kernel⟩,
   ⟨4, (runs 5).wr (BANK.base 4) BANK.SENSE_I 0xF80, by decide +kernel⟩,
   ⟨3, 0, ((runs 200).wrBoth (BANK.base 3) BANK.CFG_CLAMP_EN 1).updBank 3 (fun x => { x with clampAt := some 0 }),
       by decide +kernel⟩,
   ⟨3, 0, (runs 40000).updBank 3 (fun x => { x with decayAt := some 0, stuckDone := false }), by decide +kernel⟩,
   ⟨0, 1, State.reset, by decide +kernel⟩,
   ⟨0, 1, State.reset.updBank 0 (fun x => { x with grant := some 2 }), by decide +kernel⟩,
   ⟨9, 0x800, true, State.reset, by decide +kernel⟩⟩

theorem witness_shaperProfilesStartAndEnd :
    (∃ (s : State), s.sys.coldBusy = false ∧ s.lev.sliceStart + levWindow s * 6250 ≤ s.tick) ∧
    (∃ (b : Fin 16) (ch : Fin 4) (a : Act) (s : State), s.banks[b].grant = some ch ∧ holderAct s b = some a ∧
        a.phase = .effect ∧ endReached s b = false ∧
        (levLimit s b true ≤ levUsed s (64 + b.val) ∨ levLimit s b false ≤ levUsed s (4 * b.val + ch.val))) ∧
    (∃ (b : Fin 16) (ch : Fin 4) (a : Act) (s : State), s.banks[b].grant = some ch ∧ holderAct s b = some a ∧
        a.phase = .effect ∧ endReached s b = false ∧
        (levLimit s b true ≤ levUsed s (64 + b.val) ∨ levLimit s b false ≤ levUsed s (4 * b.val + ch.val))) ∧
    (∃ (b : Fin 16) (ch : Fin 4) (a : Act) (s : State), s.banks[b].grant = some ch ∧ holderAct s b = some a ∧
        a.phase = .granted ∧ s.shp[b].running = false ∧ s.shp[b].endAt = none ∧ a.effectAt ≤ s.pt + 8 ∧
        s.ptStands = false ∧ s.sys.dHold = false ∧ locked s.banks[b] a.chan = false ∧ leveeAllows s b a) ∧
    (∃ (b : Fin 16) (r : Nat) (rest : List Nat) (n : Act) (a : Act) (s : State), s.banks[b].restart = r :: rest ∧
        findAct s r = some n ∧ holderAct s b = some a ∧ restartInst n (a.effectAt, entMin a.w1) ≤ s.pt + 8 ∧
        a.phase = .effect ∧ s.shp[b].running ∧ s.ptStands = false ∧ leveeAllows s b n) ∧
    (∃ (b : Fin 16) (a : Act) (s : State), holderAct s b = some a ∧ a.phase = .effect ∧ s.shp[b].endReqAt = none ∧
        endDue s a ∧ s.shp[b].running) ∧
    (∃ (b : Fin 16) (a : Act) (e : Nat) (s : State), holderAct s b = some a ∧ s.shp[b].endAt = some e ∧
        a.phase = .effect ∧ max e (a.effectAt + entMin a.w1) ≤ s.pt) ∧
    (∃ (b : Fin 16) (e : Nat) (s : State), s.shp[b].endReqAt = some e ∧ s.shp[b].running ∧
        e + 400 * s.cfg SHP.base SHP.CFG_TAIL_MAX ≤ s.pt) ∧
    (∃ (b : Fin 16) (f : Nat) (sl : Int) (a : Act) (s : State), s.shp[b].dipFrom = some f ∧
        dipSlope s.shp[b].dipCodes (s.cfg (SHPB.base b) SHPB.DIP_CFG_SPAN) = some sl ∧ holderAct s b = some a ∧
        s.shp[b].dipRisen ∧ sl ≤ signed 8 (s.cfg (SHPB.base b) SHPB.DIP_CFG_TH)) ∧
    (∃ (b : Fin 16) (f : Nat) (s : State), s.shp[b].dipFrom = some f ∧ s.shp[b].dipUntil ≤ s.pt) ∧
    (∃ (b : Fin 16) (u : Nat) (s : State), s.shp[b].running ∧ s.ptStands = false ∧ s.shp[b].wait = .time u ∧ u ≤ s.pt) ∧
    (∃ (b : Fin 16) (rise : Bool) (lv : Nat) (u : Nat) (s : State), s.shp[b].running ∧ s.ptStands = false ∧
        s.shp[b].wait = .level rise lv u ∧ u ≤ s.pt) ∧
    (∃ (b : Fin 16) (rise : Bool) (lv : Nat) (u : Nat) (s : State), s.shp[b].running ∧ s.ptStands = false ∧
        s.shp[b].wait = .level rise lv u ∧ s.pt < u ∧ levelHolds (senseCode s b) rise lv) ∧
    (∃ (b : Fin 16) (rise : Bool) (lv : Nat) (u : Nat) (s : State), s.shp[b].running ∧ s.ptStands = false ∧
        s.shp[b].wait = .level rise lv u ∧ s.pt < u ∧ levelHolds (senseCode s b) rise lv) ∧
    (∃ (b : Fin 16) (fast : Bool) (hi : Nat) (lo : Nat) (u : Nat) (s : State), s.shp[b].running ∧
        s.ptStands = false ∧ s.shp[b].wait = .chop true fast hi lo u ∧ s.shp[b].e) ∧
    (∃ (b : Fin 16) (ue : Bool) (fast : Bool) (hi : Nat) (lo : Nat) (u : Nat) (s : State), s.shp[b].running ∧
        s.ptStands = false ∧ s.shp[b].wait = .chop ue fast hi lo u ∧ ((ue = false ∨ s.shp[b].e = false)) ∧ u ≤ s.pt) ∧
    (∃ (b : Fin 16) (ue : Bool) (fast : Bool) (hi : Nat) (lo : Nat) (u : Nat) (s : State), s.shp[b].running ∧
        s.ptStands = false ∧ s.shp[b].wait = .chop ue fast hi lo u ∧ ((ue = false ∨ s.shp[b].e = false)) ∧ u ≤ s.pt) ∧
    (∃ (b : Fin 16) (u : Nat) (s : State), s.shp[b].running ∧ s.ptStands = false ∧ s.shp[b].wait = .dip u ∧
        s.shp[b].d) ∧
    (∃ (b : Fin 16) (u : Nat) (s : State), s.shp[b].running ∧ s.ptStands = false ∧ s.shp[b].wait = .dip u ∧
        s.shp[b].d = false ∧ u ≤ s.pt) ∧
    (∃ (b : Fin 16) (s : State), (s.shp[b].dipFrom = none ∨ s.pt < s.shp[b].dipUntil)) ∧
    (∃ (b : Fin 16) (s : State), (s.shp[b].dipFrom = none ∨ s.pt < s.shp[b].dipUntil)) :=
  ⟨⟨(later 1562500).updSys (fun x => { x with coldBusy := false }), by decide +kernel⟩,
   ⟨0, 0, anAct 0x04000000 .effect, { driven 9 (anAct 0x04000000 .effect) with lev := ⟨[(64, ⟨[], 40000000, none⟩)], 0⟩ },
       by decide +kernel⟩,
   ⟨0, 0, anAct 0x04000000 .effect, { driven 9 (anAct 0x04000000 .effect) with lev := ⟨[(0, ⟨[30000000], 0, none⟩)], 0⟩ },
       by decide +kernel⟩,
   ⟨0, 0, { anAct 0x04000000 .granted with effectAt := 17 },
       held 9 { anAct 0x04000000 .granted with effectAt := 17 }, by decide +kernel⟩,
   ⟨0, 8, [], { anAct 0x04000000 .granted with serial := 8 }, anAct 0x04000000 .effect,
       (withActs [anAct 0x04000000 .effect,
       { anAct 0x04000000 .granted with serial := 8 }] (driven 9 (anAct 0x04000000 .effect))).updBank 0 (fun x =>
       { x with restart := [8] }), by decide +kernel⟩,
   ⟨0, anAct 0x04000000 .effect, driven 9 (anAct 0x04000000 .effect), by decide +kernel⟩,
   ⟨0, anAct 0x04000000 .effect, 3, (driven 9 (anAct 0x04000000 .effect)).updShp 0 (fun x =>
       { x with running := false, endAt := some 3 }), by decide +kernel⟩,
   ⟨0, 0, (driven 200000 (anAct 0x04000000 .effect)).updShp 0 (fun x => { x with endReqAt := some 0 }),
       by decide +kernel⟩,
   ⟨0, 1, 0, anAct 0x04000000 .effect, (driven 9 (anAct 0x04000000 .effect)).updShp 0 (fun x =>
       { x with dipFrom := some 1, dipCodes := [9, 8, 7, 8, 9], dipRisen := true }), by decide +kernel⟩,
   ⟨0, 1, (driven 9 (anAct 0x04000000 .effect)).updShp 0 (fun x => { x with dipFrom := some 1, dipUntil := 9 }),
       by decide +kernel⟩,
   ⟨0, 9, (driven 9 (anAct 0x04000000 .effect)).updShp 0 (fun x => { x with wait := .time 9 }), by decide +kernel⟩,
   ⟨0, true, 100, 9, (driven 9 (anAct 0x04000000 .effect)).updShp 0 (fun x => { x with wait := .level true 100 9 }),
       by decide +kernel⟩,
   ⟨0, true, 0, 19, (driven 9 (anAct 0x04000000 .effect)).updShp 0 (fun x => { x with wait := .level true 0 19 }),
       by decide +kernel⟩,
   ⟨15, false, 100, 19, (driven 9 (anAct 0x04000000 .effect)).updShp 15 (fun x =>
       { x with running := true, wait := .level false 100 19 }), by decide +kernel⟩,
   ⟨0, true, 7, 5, 19, (driven 9 (anAct 0x04000000 .effect)).updShp 0 (fun x =>
       { x with wait := .chop true true 7 5 19, e := true }), by decide +kernel⟩,
   ⟨0, true, false, 7, 5, 9, (driven 9 (anAct 0x04000000 .effect)).updShp 0 (fun x =>
       { x with wait := .chop true false 7 5 9 }), by decide +kernel⟩,
   ⟨0, false, false, 7, 5, 9, (driven 9 (anAct 0x04000000 .effect)).updShp 0 (fun x =>
       { x with wait := .chop false false 7 5 9, e := true }), by decide +kernel⟩,
   ⟨0, 19, (driven 9 (anAct 0x04000000 .effect)).updShp 0 (fun x => { x with wait := .dip 19, d := true }),
       by decide +kernel⟩,
   ⟨0, 9, (driven 9 (anAct 0x04000000 .effect)).updShp 0 (fun x => { x with wait := .dip 9 }), by decide +kernel⟩,
   ⟨0, (driven 9 (anAct 0x04000000 .effect)), by decide +kernel⟩,
   ⟨0, (driven 9 (anAct 0x04000000 .effect)).updShp 0 (fun x => { x with dipFrom := some 1, dipUntil := 10 }),
       by decide +kernel⟩⟩

theorem witness_shaperMicrocodeRuns :
    (∃ (b : Fin 16) (w : Nat) (s : State), ucDue b s = some w ∧ secBad s (ucAddress s.shp[b].pc) = 0 ∧ ucOp w = 0) ∧
    (∃ (b : Fin 16) (w : Nat) (s : State), ucDue b s = some w ∧ secBad s (ucAddress s.shp[b].pc) = 0 ∧ ucOp w = 1) ∧
    (∃ (b : Fin 16) (w : Nat) (s : State), ucDue b s = some w ∧ secBad s (ucAddress s.shp[b].pc) = 0 ∧ ucOp w = 2) ∧
    (∃ (b : Fin 16) (w : Nat) (s : State), ucDue b s = some w ∧ secBad s (ucAddress s.shp[b].pc) = 0 ∧ ucOp w = 3) ∧
    (∃ (b : Fin 16) (w : Nat) (s : State), ucDue b s = some w ∧ secBad s (ucAddress s.shp[b].pc) = 0 ∧ ucOp w = 4 ∧
        ucSteps w ≠ 0) ∧
    (∃ (b : Fin 16) (w : Nat) (s : State), ucDue b s = some w ∧ secBad s (ucAddress s.shp[b].pc) = 0 ∧ ucOp w = 4 ∧
        ucSteps w = 0) ∧
    (∃ (b : Fin 16) (w : Nat) (s : State), ucDue b s = some w ∧ secBad s (ucAddress s.shp[b].pc) = 0 ∧ ucOp w = 5) ∧
    (∃ (b : Fin 16) (w : Nat) (s : State), ucDue b s = some w ∧ secBad s (ucAddress s.shp[b].pc) = 0 ∧ ucOp w = 6) ∧
    (∃ (b : Fin 16) (w : Nat) (s : State), ucDue b s = some w ∧ secBad s (ucAddress s.shp[b].pc) = 0 ∧ ucOp w = 7) ∧
    (∃ (b : Fin 16) (w : Nat) (s : State), ucDue b s = some w ∧ secBad s (ucAddress s.shp[b].pc) = 0 ∧ ucOp w = 8) ∧
    (∃ (b : Fin 16) (w : Nat) (s : State), ucDue b s = some w ∧ secBad s (ucAddress s.shp[b].pc) = 0 ∧ ucOp w = 9) ∧
    (∃ (b : Fin 16) (w : Nat) (s : State), ucDue b s = some w ∧ secBad s (ucAddress s.shp[b].pc) = 0 ∧ ucOp w = 9 ∧
        bit w 4) :=
  ⟨⟨0, 0, ucRuns 0, by decide +kernel⟩,
   ⟨0, 0x10000000, ucRuns 0x10000000, by decide +kernel⟩,
   ⟨0, 0x20000000, ucRuns 0x20000000, by decide +kernel⟩,
   ⟨0, 0x30000000, ucRuns 0x30000000, by decide +kernel⟩,
   ⟨0, 0x40000100, ucRuns 0x40000100, by decide +kernel⟩,
   ⟨0, 0x40000000, ucRuns 0x40000000, by decide +kernel⟩,
   ⟨0, 0x50000000, ucRuns 0x50000000, by decide +kernel⟩,
   ⟨0, 0x60000000, ucRuns 0x60000000, by decide +kernel⟩,
   ⟨0, 0x70000000, ucRuns 0x70000000, by decide +kernel⟩,
   ⟨0, 0x80000000, ucRuns 0x80000000, by decide +kernel⟩,
   ⟨0, 0x90000000, ucRuns 0x90000000, by decide +kernel⟩,
   ⟨0, 0x90000010, ucRuns 0x90000010, by decide +kernel⟩⟩

theorem witness_convertersSampleAndConvert :
    (∃ (k : Fin 4) (a : Act) (s : State), dueSample k s = some a ∧ convStands s = false ∧
        scanMask (scanEnt s a) &&& bits a.value 20 0 ≠ 0 ∧ s.conv[k].run = none) ∧
    (∃ (k : Fin 4) (x : Scan) (p : Nat) (s : State), s.conv[k].run = some x ∧ lowestPos x.left = some p ∧
        x.nextAt ≤ s.pt ∧ s.conv[k].nextOk ≤ s.pt ∧ convStands s = false) ∧
    (∃ (k : Fin 4) (raw : Half) (v : Conversion) (u : Conversion) (rest : List Conversion) (s : State),
        s.conv[k].convs = v :: u :: rest ∧ v.at_ + 80 ≤ s.pt ∧ convStands s = false ∧ v.cal = false) ∧
    (∃ (k : Fin 4) (e : RecEntry) (rest : List RecEntry) (s : State), s.conv[k].fifo = e :: rest ∧ e.ring < 8 ∧
        busAllows s 0x40 (portOf (recAddr s k e))) ∧
    (∃ (k : Fin 4) (e : RecEntry) (rest : List RecEntry) (s : State), s.conv[k].fifo = e :: rest ∧
        busAllows s 0x40 (portOf (recAddr s k e)) = false) ∧
    (∃ (k : Fin 4) (a : Act) (s : State), dueSample k s = some a ∧ convStands s = false ∧
        scanMask (scanEnt s a) &&& bits a.value 20 0 = 0) ∧
    (∃ (k : Fin 4) (raw : Half) (v : Conversion) (x : Scan) (s : State), s.conv[k].convs = [v] ∧ v.at_ + 80 ≤ s.pt ∧
        convStands s = false ∧ v.cal = false ∧ s.conv[k].run = some x ∧ x.left ≠ 0 ∧ s.conv[k].susp = none) ∧
    (∃ (k : Fin 4) (raw : Half) (v : Conversion) (x : Scan) (s : State), s.conv[k].convs = [v] ∧ v.at_ + 80 ≤ s.pt ∧
        convStands s = false ∧ v.cal = false ∧ s.conv[k].run = some x ∧ x.left = 0 ∧ s.conv[k].susp = none ∧
        s.conv[k].waiting = none ∧ s.conv[k].pend = 0) ∧
    (∃ (k : Fin 4) (raw : Half) (v : Conversion) (u : Conversion) (rest : List Conversion) (m : CalRun) (s : State),
        s.conv[k].convs = v :: u :: rest ∧ v.at_ + 80 ≤ s.pt ∧ convStands s = false ∧ v.cal ∧
        s.on (CONV.base k) CONV.CFG_PATH ∧ v.take ∧ s.conv[k].cal = some m ∧ m.taken + 1 < m.n) :=
  ⟨⟨0, { anAct 0x10000000 .issued with value := 1 },
      (withActs [{ anAct 0x10000000 .issued with value := 1 }] (runs 5)).updPlan (fun x =>
      { x with scan := [(0, 2 ^ 32)] }), by decide +kernel⟩,
   ⟨2, aScan, 2, (runs 5).updConv 2 (fun x => { x with run := some aScan }), by decide +kernel⟩,
   ⟨1, 0x800, convAt 5, convAt 25, [], (runs 85).updConv 1 (fun x => { x with convs := [convAt 5, convAt 25] }),
       by decide +kernel⟩,
   ⟨1, ⟨1, 2, 7, 0, 0, none⟩, [], (runs 85).updConv 1 (fun x => { x with fifo := [⟨1, 2, 7, 0, 0, none⟩] }),
       by decide +kernel⟩,
   ⟨1, ⟨1, 2, 7, 0, 0, none⟩, [], ((runs 85).updPlan (fun x => { x with busmap := [(0, [0x40])] })).updConv 1 (fun x =>
       { x with fifo := [⟨1, 2, 7, 0, 0, none⟩] }), by decide +kernel⟩,
   ⟨0, { anAct 0x10000000 .issued with value := 2 },
       (withActs [{ anAct 0x10000000 .issued with value := 2 }] (runs 5)).updPlan (fun x =>
       { x with scan := [(0, 2 ^ 32)] }), by decide +kernel⟩,
   ⟨1, 0x800, convAt 5, aScan, (runs 85).updConv 1 (fun x => { x with convs := [convAt 5], run := some aScan }),
       by decide +kernel⟩,
   ⟨1, 0x800, convAt 5, { aScan with left := 0 }, (runs 85).updConv 1 (fun x =>
       { x with convs := [convAt 5], run := some { aScan with left := 0 } }), by decide +kernel⟩,
   ⟨1, 0x800, { convAt 5 with cal := true, take := true }, convAt 25, [], ⟨true, 3, 4, 0, 0, 0, false⟩,
       ((runs 85).wrBoth (CONV.base 1) CONV.CFG_PATH 1).updConv 1 (fun x =>
       { x with convs := [{ convAt 5 with cal := true, take := true }, convAt 25], cal := some ⟨true, 3, 4, 0, 0, 0, false⟩ }),
       by decide +kernel⟩⟩

theorem witness_converterTriggersAndRegisters :
    (∃ (k : Fin 4) (j : Fin 4) (s : State), s.cfg (CSLOT.base k j) CSLOT.TRG_CFG_SRC ≠ 0 ∧ convStands s = false ∧
        gatedOff s k j = false ∧ slotBusy s s.conv[k] j = false ∧ s.cfg (CSLOT.base k j) CSLOT.TRG_MASK_MASK ≠ 0 ∧
        s.cfg (CSLOT.base k j) CSLOT.TRG_CFG_DELAY ≠ 0) ∧
    (∃ (k : Fin 4) (j : Fin 4) (s : State), s.cfg (CSLOT.base k j) CSLOT.TRG_CFG_SRC ≠ 0 ∧ convStands s = false ∧
        gatedOff s k j) ∧
    (∃ (k : Fin 4) (j : Fin 4) (u : Nat) (x : Scan) (s : State), s.conv[k].delays[j] = some u ∧ u ≤ s.pt ∧
        convStands s = false ∧ s.conv[k].run = some x ∧
        ((x.split = true ∨ x.act.isSome ∨ x.first = false ∨ x.slot ≤ j.val ∨ x.clock ≠ s.clockOf 5 s.tick))) ∧
    (∃ (k : Fin 4) (j : Fin 4) (u : Nat) (x : Scan) (s : State), s.conv[k].delays[j] = some u ∧ u ≤ s.pt ∧
        convStands s = false ∧ s.conv[k].run = some x ∧
        ((x.split = true ∨ x.act.isSome ∨ x.first = false ∨ x.slot ≤ j.val ∨ x.clock ≠ s.clockOf 5 s.tick))) ∧
    (∃ (k : Fin 4) (j : Fin 4) (s : State), s.cfg (CSLOT.base k j) CSLOT.TRG_CFG_SRC = 0x30 ∧ convStands s = false ∧
        gatedOff s k j = false ∧ slotBusy s s.conv[k] j = false ∧ s.cfg (CSLOT.base k j) CSLOT.TRG_MASK_MASK ≠ 0 ∧
        s.cfg (CSLOT.base k j) CSLOT.TRG_CFG_DELAY ≠ 0) ∧
    (∃ (k : Fin 4) (s : State), s.islandHeld 3 = false ∧ s.conv[k].cal = none) ∧
    (∃ (k : Fin 4) (s : State), s.islandHeld 3 = false ∧ s.conv[k].cal = none) ∧
    (∃ (k : Fin 4) (s : State), s.conv[k].cal.isSome) ∧
    (∃ (v : Word) (s : State), s.islandHeld 3 = false) ∧
    (∃ (k : Fin 4) (r : Fin 8) (v : Word) (s : State),
        (v.toNat + 2 ^ 32 - s.rd (CRING.base k r) CRING.MARK_COUNT) % 2 ^ 32 ≤ (clockWp s k r.val + 2 ^ 32 - s.rd (CRING.base k r) CRING.MARK_COUNT) % 2 ^ 32) ∧
    (∃ (k : Fin 4) (r : Fin 8) (v : Word) (s : State),
        (clockWp s k r.val + 2 ^ 32 - s.rd (CRING.base k r) CRING.MARK_COUNT) % 2 ^ 32 < (v.toNat + 2 ^ 32 - s.rd (CRING.base k r) CRING.MARK_COUNT) % 2 ^ 32) ∧
    (∃ (k : Fin 4) (p : Fin 21) (s : State), s.conv[k].accIn.filter (fun e =>
        e.1 == s.clockOf 5 s.tick && e.2.1 == p.val) = none) ∧
    (∃ (k : Fin 4) (p : Fin 21) (res : Nat) (a : CvmAcc) (s : State), s.conv[k].accIn = some (s.clockOf 5 s.tick,
        p.val, res, a)) ∧
    (∃ (k : Fin 4) (j : Fin 4) (s : State), s.cfg (CSLOT.base k j) CSLOT.TRG_CFG_SRC ≠ 0 ∧ convStands s = false ∧
        gatedOff s k j = false ∧ slotBusy s s.conv[k] j) ∧
    (∃ (k : Fin 4) (s : State), s.islandHeld 3 = false ∧ s.conv[k].cal.isSome) ∧
    (∃ (k : Fin 4) (v : Word) (s : State), s.islandHeld 3) :=
  ⟨⟨0, 1, trigSlot 0 1 5, by decide +kernel⟩,
   ⟨2, 3, (trigSlot 2 3 5).wrBoth (CSLOT.base 2 3) CSLOT.TRG_CFG_GATE 1 |>.wrBoth (CSLOT.base 2 3) CSLOT.TRG_CFG_GATE_INV 0,
       by decide +kernel⟩,
   ⟨2, 3, 9, aScan, (trigSlot 2 3 5).updConv 2 (fun x =>
       { x with delays := x.delays.set 3 (some 9), run := some aScan }), by decide +kernel⟩,
   ⟨2, 0, 9, { aScan with slot := 3, first := false }, (trigSlot 2 0 5).updConv 2 (fun x =>
       { x with delays := x.delays.set 0 (some 9), run := some { aScan with slot := 3, first := false } }),
       by decide +kernel⟩,
   ⟨3, 0, trigSlot 3 0 0x30, by decide +kernel⟩,
   ⟨1, State.reset, by decide +kernel⟩,
   ⟨1, State.reset, by decide +kernel⟩,
   ⟨1, State.reset.updConv 1 (fun x => { x with cal := some ⟨true, 1, 2, 0, 0, 0, false⟩ }), by decide +kernel⟩,
   ⟨5, State.reset, by decide +kernel⟩,
   ⟨1, 7, 0, State.reset, by decide +kernel⟩,
   ⟨1, 7, 1, State.reset, by decide +kernel⟩,
   ⟨1, 20, runs 9, by decide +kernel⟩,
   ⟨1, 20, 5, cvmEmpty, (runs 9).updConv 1 (fun x =>
       { x with accIn := some ((runs 9).clockOf 5 9, 20, 5, cvmEmpty) }), by decide +kernel⟩,
   ⟨0, 1, (trigSlot 0 1 5).updConv 0 (fun x => { x with delays := x.delays.set 1 (some 30) }), by decide +kernel⟩,
   ⟨1, State.reset.updConv 1 (fun x => { x with cal := some ⟨true, 1, 2, 0, 0, 0, false⟩ }), by decide +kernel⟩,
   ⟨1, 5, (runs 9).updSys (fun x => { x with islandRst := [(3, 9)] }), by decide +kernel⟩⟩

theorem witness_pwmCountsAndLoads :
    (∃ (n : Fin 16) (s : State), pwmRun s n ∧ s.ptStands = false ∧ follows s n = false ∧ pwP s n ≠ 0 ∧
        pwTicks s n ≤ ownTau s n) ∧
    (∃ (n : Fin 16) (s : State), s.dev.st ≠ .reset ∧ s.sys.vdrvLow = false ∧ s.ptStands = false ∧ pwmSafe s n) ∧
    (∃ (n : Fin 16) (s : State), s.dev.st ≠ .reset ∧ s.sys.vdrvLow = false ∧ s.ptStands = false ∧ pwmSafe s n = false) ∧
    (∃ (n : Fin 16) (s : State), pwmRun s n ∧ pwmRun s (counterOf s n) ∧ s.ptStands = false ∧
        s.cfg (pw n) PWN.TRIG_CFG_DIV ≠ 0 ∧ s.cfg (pw n) PWN.TRIG_CFG_AT < pwP s n ∧
        tau s n = s.cfg (pw n) PWN.TRIG_CFG_AT * pwStep s n ∧ s.pwm[n].periodNo % s.cfg (pw n) PWN.TRIG_CFG_DIV = 0) ∧
    (∃ (n : Fin 16) (s : State), (s.dev.st = .reset ∨ s.sys.vdrvLow)) ∧
    (∃ (n : Fin 16) (s : State), (s.dev.st = .reset ∨ s.sys.vdrvLow)) ∧
    (∃ (n : Fin 16) (p : Nat) (s : State), s.dev.st ≠ .reset ∧ s.sys.vdrvLow = false ∧ s.ptStands = false ∧
        s.pwm[n].forcePt = some p) ∧
    (∃ (n : Fin 16) (p : Nat) (s : State), s.dev.st ≠ .reset ∧ s.sys.vdrvLow = false ∧ s.ptStands = false ∧
        s.pwm[n].forcePt = some p) :=
  ⟨⟨3, pwmOn 3 100, by decide +kernel⟩,
   ⟨3, (pwmOn 3 20).updPwm 3 (fun x => { x with tripHeld := true }), by decide +kernel⟩,
   ⟨3, pwmOn 3 20, by decide +kernel⟩,
   ⟨3, (((pwmOn 3 20).wrBoth (pw 3) PWN.TRIG_CFG_DIV 1).wrBoth (pw 3) PWN.TRIG_CFG_AT 20), by decide +kernel⟩,
   ⟨3, { pwmOn 3 20 with dev := { (runs 9).dev with st := .reset } }, by decide +kernel⟩,
   ⟨3, (pwmOn 3 20).updSys (fun x => { x with vdrvLow := true }), by decide +kernel⟩,
   ⟨3, 0, (pwmOn 3 20).updPwm 3 (fun x => { x with forcePt := some 0 }), by decide +kernel⟩,
   ⟨3, 20, (pwmOn 3 20).updPwm 3 (fun x => { x with forcePt := some 20 }), by decide +kernel⟩⟩

theorem witness_pwmDeadTimesForcesAndTrips :
    (∃ (n : Fin 16) (rising : Bool) (t0 : Nat) (s : State), s.pwm[n].meas.filter (fun e =>
        decide (e.1 ≠ rising) && decide (s.pt - e.2 ≤ s.cfg (pw n) PWN.DT_CFG_DT_MAX)) = [(!rising, t0)] ∧
        s.ptStands = false) ∧
    (∃ (n : Fin 16) (rising : Bool) (t0 : Nat) (s : State), s.pwm[n].meas.filter (fun e =>
        decide (e.1 ≠ rising) && decide (s.pt - e.2 ≤ s.cfg (pw n) PWN.DT_CFG_DT_MAX)) = [(!rising, t0)] ∧
        s.ptStands = false) ∧
    (∃ (n : Fin 16) (ab : Bool) (t0 : Nat) (s : State), s.pwm[n].meas.filter (fun e =>
        decide (e.2 + s.cfg (pw n) PWN.DT_CFG_DT_MAX ≤ s.pt)) = [(ab, t0)] ∧ s.ptStands = false ∧
        s.on (pw n) (if ab then PWN.CFG_ADAPT_AB else PWN.CFG_ADAPT_BA)) ∧
    (∃ (n : Fin 16) (ab : Bool) (t0 : Nat) (s : State), s.pwm[n].meas.filter (fun e =>
        decide (e.2 + s.cfg (pw n) PWN.DT_CFG_DT_MAX ≤ s.pt)) = [(ab, t0)] ∧ s.ptStands = false ∧
        s.on (pw n) (if ab then PWN.CFG_ADAPT_AB else PWN.CFG_ADAPT_BA)) ∧
    (∃ (n : Fin 16) (u : Nat) (s : State), s.pwm[n].blank = some u ∧ u ≤ s.tick ∧ tripMapped s n = false) ∧
    (∃ (n : Fin 16) (u : Nat) (s : State), s.pwm[n].blank = some u ∧ u ≤ s.tick ∧ tripMapped s n ∧ s.dev.st ≠ .reset) ∧
    (∃ (n : Fin 16) (s : State), tripMapped s n = false) ∧
    (∃ (n : Fin 16) (s : State), tripMapped s n) ∧
    (∃ (n : Fin 16) (p : Nat) (s : State), s.dev.st ≠ .reset ∧ s.sys.vdrvLow = false ∧ s.ptStands = false ∧
        s.pwm[n].forcePt = some p ∧ stepCome s n p ∧ compl s n ∧ s.rd (pw n) PWN.FORCE_FA = 2 ∧
        s.rd (pw n) PWN.FORCE_FB = 2 ∧ s.pwm[n].forcedBoth = false) ∧
    (∃ (n : Fin 16) (rising : Bool) (s : State), s.pwm[n].meas.filter (fun e =>
        decide (e.1 ≠ rising) && decide (s.pt - e.2 ≤ s.cfg (pw n) PWN.DT_CFG_DT_MAX)) = []) ∧
    (∃ (n : Fin 16) (rising : Bool) (s : State), s.pwm[n].meas.filter (fun e =>
        decide (e.1 ≠ rising) && decide (s.pt - e.2 ≤ s.cfg (pw n) PWN.DT_CFG_DT_MAX)) = []) ∧
    (∃ (n : Fin 16) (ab : Bool) (t0 : Nat) (s : State), s.pwm[n].meas.filter (fun e =>
        decide (e.2 + s.cfg (pw n) PWN.DT_CFG_DT_MAX ≤ s.pt)) = [(ab, t0)] ∧ s.ptStands = false ∧
        s.on (pw n) (if ab then PWN.CFG_ADAPT_AB else PWN.CFG_ADAPT_BA) = false) :=
  ⟨⟨2, true, 0, ((pwmOn 2 40).updPwm 2 (fun x => { x with meas := [(false, 0)] })), by decide +kernel⟩,
   ⟨2, false, 3, ((pwmOn 2 40).updPwm 2 (fun x => { x with meas := [(false, 0), (true, 3)] })), by decide +kernel⟩,
   ⟨2, true, 0, ((pwmOn 2 40).updPwm 2 (fun x =>
       { x with meas := [(true, 0)] })).wrBoth (pw 2) PWN.CFG_ADAPT_AB 1 |>.wrBoth (pw 2) PWN.DT_CFG_DT_MAX 40,
       by decide +kernel⟩,
   ⟨2, false, 0, ((pwmOn 2 40).updPwm 2 (fun x =>
       { x with meas := [(false, 0), (true, 30)] })).wrBoth (pw 2) PWN.CFG_ADAPT_BA 1 |>.wrBoth (pw 2) PWN.DT_CFG_DT_MAX 40,
       by decide +kernel⟩,
   ⟨2, 40, (pwmOn 2 40).updPwm 2 (fun x => { x with blank := some 40 }), by decide +kernel⟩,
   ⟨2, 40, (((pwmOn 2 40).updPwm 2 (fun x =>
       { x with blank := some 40 })).wrBoth (pw 2) PWN.TRIP_CFG_MAP 1).wrBoth PWM.base PWM.TRIP_POL_POL 1,
       by decide +kernel⟩,
   ⟨2, pwmOn 2 40, by decide +kernel⟩,
   ⟨2, ((pwmOn 2 40).wrBoth (pw 2) PWN.TRIP_CFG_MAP 1).wrBoth PWM.base PWM.TRIP_POL_POL 1, by decide +kernel⟩,
   ⟨2, 0, ((((pwmOn 2 40).updPwm 2 (fun x =>
       { x with forcePt := some 0 })).wr (pw 2) PWN.FORCE_FA 2).wr (pw 2) PWN.FORCE_FB 2), by decide +kernel⟩,
   ⟨2, true, pwmOn 2 40, by decide +kernel⟩,
   ⟨2, true, ((pwmOn 2 40).updPwm 2 (fun x => { x with meas := [(true, 3)] })), by decide +kernel⟩,
   ⟨2, true, 0, ((pwmOn 2 40).updPwm 2 (fun x => { x with meas := [(true, 0)] })).wrBoth (pw 2) PWN.DT_CFG_DT_MAX 40,
       by decide +kernel⟩⟩

theorem witness_timersCountMatchAndCapture :
    (∃ (v : Word) (s : State), s.clockOff 0x48 = false) ∧
    (∃ (n : Fin 16) (s : State), tmrRun s n ∧ s.ptStands = false ∧ s.tmr[n].due ≤ s.pt ∧
        s.cfg (tm n) TMN.CFG_SMODE ≠ 3 ∧ ((s.cfg (tm n) TMN.CFG_SMODE = 1 → gateLevel s n)) ∧
        s.tmr[n].reload = false ∧ s.tmr[n].count ≠ 0) ∧
    (∃ (n : Fin 16) (s : State), tmrRun s n ∧ s.ptStands = false ∧ s.tmr[n].due ≤ s.pt ∧
        s.cfg (tm n) TMN.CFG_SMODE ≠ 3 ∧ ((s.cfg (tm n) TMN.CFG_SMODE = 1 → gateLevel s n)) ∧ s.tmr[n].reload ∧
        s.rd (tm n) TMN.RELOAD ≠ 0 ∧ s.tmr[n].zeroSeen = false) ∧
    (∃ (n : Fin 16) (v : Word) (s : State), s.clockOff 0x48 = false) ∧
    (∃ (n : Fin 16) (c : CmpPend) (rest : List CmpPend) (s : State), s.ptStands = false ∧
        s.tmr[n].cmpPend = c :: rest ∧ c.at_ + 3 ≤ s.pt ∧ s.clockOff 0x48 = false ∧ (∀ d ∈ rest, s.pt < d.at_ + 3)) ∧
    (∃ (n : Fin 16) (level : Bool) (s : State), s.cfg (tm n) TMN.CFG_TSRC ≠ 0 ∧ s.ptStands = false ∧
        s.clockOff 0x48 = false ∧ ((isLevelSource (s.cfg (tm n) TMN.CFG_TSRC) = false ∨ (level != s.on (tm n) TMN.CFG_TINV) = true ∧
        gateLevel s n = false)) ∧ s.cfg (tm n) TMN.CFG_SMODE = 2 ∧ tmrRun s n) ∧
    (∃ (n : Fin 16) (level : Bool) (s : State), s.cfg (tm n) TMN.CFG_TSRC ≠ 0 ∧ s.ptStands = false ∧
        s.clockOff 0x48 = false ∧ ((isLevelSource (s.cfg (tm n) TMN.CFG_TSRC) = false ∨ (level != s.on (tm n) TMN.CFG_TINV) = true ∧
        gateLevel s n = false)) ∧ s.cfg (tm n) TMN.CFG_SMODE = 4 ∧ tmrRun s n = false) ∧
    (∃ (v : Word) (s : State), s.clockOff 0x48 = false) ∧
    (∃ (n : Fin 16) (level : Bool) (ago : Nat) (s : State), s.cfg (tm n) TMN.CAP_CFG_CSRC ≠ 0 ∧
        edgeTaken (s.cfg (tm n) TMN.CAP_CFG_CSRC) (s.cfg (tm n) TMN.CAP_CFG_EDGE) level ∧
        s.cfg (tm n) TMN.CAP_CFG_EDGE ≠ 0 ∧ s.ptStands = false ∧ s.clockOff 0x48 = false ∧
        s.tmr[n].queue.length < 4 ∧ ago = (if 0x70 ≤ s.cfg (tm n) TMN.CAP_CFG_CSRC ∧
        s.cfg (tm n) TMN.CAP_CFG_CSRC < 0x80 then min 2 s.pt else 0)) ∧
    (∃ (n : Fin 16) (level : Bool) (ago : Nat) (s : State), s.cfg (tm n) TMN.CAP_CFG_CSRC ≠ 0 ∧
        edgeTaken (s.cfg (tm n) TMN.CAP_CFG_CSRC) (s.cfg (tm n) TMN.CAP_CFG_EDGE) level ∧
        s.cfg (tm n) TMN.CAP_CFG_EDGE ≠ 0 ∧ s.ptStands = false ∧ s.clockOff 0x48 = false ∧
        s.tmr[n].queue.length < 4 ∧ ago = (if 0x70 ≤ s.cfg (tm n) TMN.CAP_CFG_CSRC ∧
        s.cfg (tm n) TMN.CAP_CFG_CSRC < 0x80 then min 2 s.pt else 0)) ∧
    (∃ (n : Fin 16) (level : Bool) (s : State), s.cfg (tm n) TMN.CAP_CFG_CSRC ≠ 0 ∧
        edgeTaken (s.cfg (tm n) TMN.CAP_CFG_CSRC) (s.cfg (tm n) TMN.CAP_CFG_EDGE) level ∧
        s.cfg (tm n) TMN.CAP_CFG_EDGE ≠ 0 ∧ s.ptStands = false ∧ s.clockOff 0x48 = false ∧ 4 ≤ s.tmr[n].queue.length) ∧
    (∃ (n : Fin 16) (c : Capture) (rest : List Capture) (s : State), s.clockOff 0x48 = false ∧
        s.tmr[n].queue = c :: rest) ∧
    (∃ (n : Fin 16) (s : State), s.clockOff 0x48 = false ∧ s.tmr[n].queue = []) ∧
    (∃ (n : Fin 16) (level : Bool) (s : State), s.cfg (tm n) TMN.CFG_TSRC ≠ 0 ∧ s.ptStands = false ∧
        s.clockOff 0x48 = false ∧ ((isLevelSource (s.cfg (tm n) TMN.CFG_TSRC) = false ∨ (level != s.on (tm n) TMN.CFG_TINV) = true ∧
        gateLevel s n = false)) ∧ s.cfg (tm n) TMN.CFG_SMODE = 3 ∧ tmrRun s n ∧ s.tmr[n].reload = false ∧
        s.tmr[n].count ≠ 0) ∧
    (∃ (n : Fin 16) (level : Bool) (s : State), s.cfg (tm n) TMN.CFG_TSRC ≠ 0 ∧ s.ptStands = false ∧
        s.clockOff 0x48 = false ∧ ((isLevelSource (s.cfg (tm n) TMN.CFG_TSRC) = false ∨ (level != s.on (tm n) TMN.CFG_TINV) = true ∧
        gateLevel s n = false)) ∧ s.cfg (tm n) TMN.CFG_SMODE = 3 ∧ tmrRun s n ∧ s.tmr[n].reload ∧
        s.rd (tm n) TMN.RELOAD ≠ 0 ∧ s.tmr[n].zeroSeen = false) ∧
    (∃ (n : Fin 16) (level : Bool) (s : State), s.cfg (tm n) TMN.CFG_TSRC ≠ 0 ∧ s.ptStands = false ∧
        s.clockOff 0x48 = false ∧ (s.cfg (tm n) TMN.CFG_SMODE = 0 ∨ (s.cfg (tm n) TMN.CFG_SMODE = 4 ∧ tmrRun s n))) ∧
    (∃ (n : Fin 16) (level : Bool) (s : State), s.cfg (tm n) TMN.CFG_TSRC ≠ 0 ∧ s.ptStands = false ∧
        s.clockOff 0x48 = false ∧ (s.cfg (tm n) TMN.CFG_SMODE = 0 ∨ (s.cfg (tm n) TMN.CFG_SMODE = 4 ∧ tmrRun s n))) ∧
    (∃ (n : Fin 16) (level : Bool) (s : State), s.cfg (tm n) TMN.CFG_TSRC ≠ 0 ∧ s.ptStands = false ∧
        s.clockOff 0x48 = false ∧ s.cfg (tm n) TMN.CFG_SMODE = 1) ∧
    (∃ (n : Fin 16) (level : Bool) (s : State), s.cfg (tm n) TMN.CFG_TSRC ≠ 0 ∧ s.ptStands = false ∧
        s.clockOff 0x48 = false ∧ s.cfg (tm n) TMN.CFG_SMODE = 1) ∧
    (∃ (n : Fin 16) (level : Bool) (s : State),
        edgeTaken (s.cfg (tm n) TMN.CAP_CFG_CSRC) (s.cfg (tm n) TMN.CAP_CFG_EDGE) level = false) ∧
    (∃ (n : Fin 16) (v : Word) (s : State), s.clockOff 0x48) :=
  ⟨⟨0x8001, runs 9, by decide +kernel⟩,
   ⟨15, tmrOn 15 0 5, by decide +kernel⟩,
   ⟨15, ((tmrOn 15 0 0).updTmr 15 (fun x => { x with reload := true })).wrBoth (tm 15) TMN.RELOAD 8, by decide +kernel⟩,
   ⟨15, 5, runs 9, by decide +kernel⟩,
   ⟨3, ⟨5, 6, []⟩, [], (tmrOn 3 0 5).updTmr 3 (fun x => { x with cmpPend := [⟨5, 6, []⟩] }), by decide +kernel⟩,
   ⟨3, true, (tmrOn 3 2 5).wrBoth (tm 3) TMN.CFG_TSRC 1, by decide +kernel⟩,
   ⟨3, false, ((runs 9).wrBoth (tm 3) TMN.CFG_SMODE 4).wrBoth (tm 3) TMN.CFG_TSRC 1, by decide +kernel⟩,
   ⟨0x8001, (runs 9).wrBoth (tm 15) TMN.CFG_TSRC 0x80, by decide +kernel⟩,
   ⟨6, true, 0, tmrCap 6, by decide +kernel⟩,
   ⟨6, false, 2, ((runs 9).wrBoth (tm 6) TMN.CAP_CFG_CSRC 0x71).wrBoth (tm 6) TMN.CAP_CFG_EDGE 3, by decide +kernel⟩,
   ⟨6, true, (tmrCap 6).updTmr 6 (fun x => { x with queue := List.replicate 4 ⟨1, 2, 3⟩ }), by decide +kernel⟩,
   ⟨6, ⟨1, 2, 3⟩, [], (tmrCap 6).updTmr 6 (fun x => { x with queue := [⟨1, 2, 3⟩] }), by decide +kernel⟩,
   ⟨6, State.reset, by decide +kernel⟩,
   ⟨3, true, (tmrOn 3 3 5).wrBoth (tm 3) TMN.CFG_TSRC 1, by decide +kernel⟩,
   ⟨3, true, (((tmrOn 3 3 5).wrBoth (tm 3) TMN.CFG_TSRC 1).wrBoth (tm 3) TMN.RELOAD 8).updTmr 3 (fun x =>
       { x with reload := true }), by decide +kernel⟩,
   ⟨3, true, (tmrOn 3 0 5).wrBoth (tm 3) TMN.CFG_TSRC 1, by decide +kernel⟩,
   ⟨3, true, (tmrOn 3 4 5).wrBoth (tm 3) TMN.CFG_TSRC 1, by decide +kernel⟩,
   ⟨3, true, ((tmrOn 3 1 5).wrBoth (tm 3) TMN.CFG_TSRC 1).updTmr 3 (fun x => { x with left := some 4 }),
       by decide +kernel⟩,
   ⟨3, false, (tmrOn 3 1 5).wrBoth (tm 3) TMN.CFG_TSRC 1, by decide +kernel⟩,
   ⟨6, false, ((runs 9).wrBoth (tm 6) TMN.CAP_CFG_CSRC 0x71).wrBoth (tm 6) TMN.CAP_CFG_EDGE 1, by decide +kernel⟩,
   ⟨6, 5, (runs 9).wrBoth TMR.base HDR.CTRL_ENABLE 0, by decide +kernel⟩⟩

theorem witness_runnelInstructionsRun :
    (∃ (e : Fin 8) (w : Nat) (s : State), rnlDue e s = some w ∧ (rop w = 0 ∨ rnlWellFormed w = false)) ∧
    (∃ (e : Fin 8) (w : Nat) (s : State), rnlDue e s = some w ∧ (rop w = 0 ∨ rnlWellFormed w = false)) ∧
    (∃ (e : Fin 8) (w : Nat) (s : State), rnlDue e s = some w ∧ (rop w = 0 ∨ rnlWellFormed w = false)) ∧
    (∃ (e : Fin 8) (w : Nat) (s : State), rnlDue e s = some w ∧ (rop w = 0 ∨ rnlWellFormed w = false)) ∧
    (∃ (e : Fin 8) (w : Nat) (s : State), rnlDue e s = some w ∧ rop w = 1 ∧ rnlWellFormed w ∧ ownsPin s e (rpin w) ∧
        bit w 25 = false) ∧
    (∃ (e : Fin 8) (w : Nat) (s : State), rnlDue e s = some w ∧ rop w = 1 ∧ rnlWellFormed w ∧
        ownsPin s e (rpin w) = false) ∧
    (∃ (e : Fin 8) (w : Nat) (s : State), rnlDue e s = some w ∧ rop w = 1 ∧ rnlWellFormed w ∧ ownsPin s e (rpin w) ∧
        bit w 25 ∧ reached s (rget s e RNE.T) = false) ∧
    (∃ (e : Fin 8) (w : Nat) (s : State) (pins : Word), rnlDue e s = some w ∧ rop w = 2 ∧ rnlWellFormed w ∧
        bit pins.toNat (rpin w) = bit w 27) ∧
    (∃ (e : Fin 8) (w : Nat) (s : State) (pins : Word), rnlDue e s = some w ∧ rop w = 2 ∧ rnlWellFormed w ∧
        bit pins.toNat (rpin w) = bit w 27) ∧
    (∃ (e : Fin 8) (w : Nat) (s : State) (pins : Word), rnlDue e s = some w ∧ rop w = 2 ∧ rnlWellFormed w ∧
        ((bit w 26 → reached s (rget s e RNE.T) = false)) ∧ bit pins.toNat (rpin w) ≠ bit w 27) ∧
    (∃ (e : Fin 8) (w : Nat) (s : State) (pins : Word), rnlDue e s = some w ∧ rop w = 3 ∧ rnlWellFormed w ∧
        bit w 27 = false ∧ rget s e RNE.MISC_DONE + 1 = bits w 5 0 ∧ reached s (rget s e RNE.T)) ∧
    (∃ (e : Fin 8) (w : Nat) (s : State) (pins : Word), rnlDue e s = some w ∧ rop w = 4 ∧ rnlWellFormed w) ∧
    (∃ (e : Fin 8) (w : Nat) (s : State), rnlDue e s = some w ∧ rop w = 5 ∧ rnlWellFormed w ∧
        s.rnl[e].outF.length < 8) ∧
    (∃ (e : Fin 8) (w : Nat) (s : State) (v : Nat) (rest : List Nat), rnlDue e s = some w ∧ rop w = 6 ∧
        rnlWellFormed w ∧ s.rnl[e].inF = v :: rest) ∧
    (∃ (e : Fin 8) (w : Nat) (s : State), rnlDue e s = some w ∧ rop w = 7 ∧ rnlWellFormed w) ∧
    (∃ (e : Fin 8) (w : Nat) (s : State), rnlDue e s = some w ∧ rop w = 7 ∧ rnlWellFormed w) ∧
    (∃ (e : Fin 8) (w : Nat) (s : State), rnlDue e s = some w ∧ rop w = 8 ∧ rnlWellFormed w) ∧
    (∃ (e : Fin 8) (w : Nat) (s : State), rnlDue e s = some w ∧ rop w = 8 ∧ rnlWellFormed w) ∧
    (∃ (e : Fin 8) (w : Nat) (s : State), rnlDue e s = some w ∧ rop w = 9 ∧ rnlWellFormed w ∧
        reached s (rget s e RNE.T)) ∧
    (∃ (e : Fin 8) (w : Nat) (s : State), rnlDue e s = some w ∧ rop w = 9 ∧ rnlWellFormed w ∧
        reached s (rget s e RNE.T) = false) ∧
    (∃ (e : Fin 8) (w : Nat) (s : State), rnlDue e s = some w ∧ rop w = 1 ∧ rnlWellFormed w ∧ ownsPin s e (rpin w) ∧
        bit w 25 ∧ reached s (rget s e RNE.T)) ∧
    (∃ (e : Fin 8) (w : Nat) (s : State), rnlDue e s = some w ∧ rop w = 1 ∧ rnlWellFormed w ∧ ownsPin s e (rpin w) ∧
        bit w 25 ∧ reached s (rget s e RNE.T)) ∧
    (∃ (e : Fin 8) (w : Nat) (s : State) (pins : Word), rnlDue e s = some w ∧ rop w = 2 ∧ rnlWellFormed w ∧
        bit w 26 ∧ reached s (rget s e RNE.T) ∧ bit pins.toNat (rpin w) ≠ bit w 27) ∧
    (∃ (e : Fin 8) (w : Nat) (s : State) (pins : Word), rnlDue e s = some w ∧ rop w = 3 ∧ rnlWellFormed w ∧
        bit w 27 ∧ ownsPin s e (rpin w) ∧ rget s e RNE.MISC_DONE + 1 = bits w 5 0 ∧ reached s (rget s e RNE.T)) ∧
    (∃ (e : Fin 8) (w : Nat) (s : State) (pins : Word), rnlDue e s = some w ∧ rop w = 3 ∧ rnlWellFormed w ∧
        bit w 27 ∧ ownsPin s e (rpin w) = false) ∧
    (∃ (e : Fin 8) (w : Nat) (s : State) (pins : Word), rnlDue e s = some w ∧ rop w = 3 ∧ rnlWellFormed w ∧
        ((bit w 27 → ownsPin s e (rpin w))) ∧ rget s e RNE.MISC_DONE + 1 < bits w 5 0 ∧ reached s (rget s e RNE.T)) ∧
    (∃ (e : Fin 8) (w : Nat) (s : State) (pins : Word), rnlDue e s = some w ∧ rop w = 3 ∧ rnlWellFormed w ∧
        ((bit w 27 → ownsPin s e (rpin w))) ∧ rget s e RNE.MISC_DONE + 1 < bits w 5 0 ∧ reached s (rget s e RNE.T)) ∧
    (∃ (e : Fin 8) (w : Nat) (s : State) (pins : Word), rnlDue e s = some w ∧ rop w = 3 ∧ rnlWellFormed w ∧
        ((bit w 27 → ownsPin s e (rpin w))) ∧ rget s e RNE.MISC_DONE < bits w 5 0 ∧
        reached s (rget s e RNE.T) = false) ∧
    (∃ (e : Fin 8) (w : Nat) (s : State) (pins : Word), rnlDue e s = some w ∧ rop w = 3 ∧ rnlWellFormed w ∧
        ((bit w 27 → ownsPin s e (rpin w))) ∧ bits w 5 0 = 0) ∧
    (∃ (e : Fin 8) (w : Nat) (s : State), rnlDue e s = some w ∧ rop w = 5 ∧ rnlWellFormed w ∧
        8 ≤ s.rnl[e].outF.length ∧ bit w 26) ∧
    (∃ (e : Fin 8) (w : Nat) (s : State), rnlDue e s = some w ∧ rop w = 5 ∧ rnlWellFormed w ∧
        8 ≤ s.rnl[e].outF.length ∧ bit w 26 = false) ∧
    (∃ (e : Fin 8) (w : Nat) (s : State), rnlDue e s = some w ∧ rop w = 6 ∧ rnlWellFormed w ∧ s.rnl[e].inF = [] ∧
        bit w 25) ∧
    (∃ (e : Fin 8) (w : Nat) (s : State), rnlDue e s = some w ∧ rop w = 6 ∧ rnlWellFormed w ∧ s.rnl[e].inF = [] ∧
        bit w 25 = false) ∧
    (∃ (e : Fin 8) (w : Nat) (pins : Word) (s : State), rnlRun s e ∧ s.ptStands = false ∧
        tget s.rnl[e].prog (rget s e RNE.PC) 0 = w ∧ s.rnl[e].wait = .pin ∧ reached s (rget s e RNE.T) ∧
        ownsPin s e (rpin w)) ∧
    (∃ (e : Fin 8) (w : Nat) (pins : Word) (s : State), rnlRun s e ∧ s.ptStands = false ∧
        tget s.rnl[e].prog (rget s e RNE.PC) 0 = w ∧ s.rnl[e].wait = .pin ∧ reached s (rget s e RNE.T) ∧
        ownsPin s e (rpin w)) ∧
    (∃ (e : Fin 8) (w : Nat) (pins : Word) (s : State), rnlRun s e ∧ s.ptStands = false ∧
        tget s.rnl[e].prog (rget s e RNE.PC) 0 = w ∧ s.rnl[e].wait = .pin ∧ reached s (rget s e RNE.T) ∧
        ownsPin s e (rpin w)) ∧
    (∃ (e : Fin 8) (w : Nat) (pins : Word) (s : State), rnlRun s e ∧ s.ptStands = false ∧
        tget s.rnl[e].prog (rget s e RNE.PC) 0 = w ∧ s.rnl[e].wait = .waitp ∧ bit pins.toNat (rpin w) = bit w 27) ∧
    (∃ (e : Fin 8) (w : Nat) (pins : Word) (s : State), rnlRun s e ∧ s.ptStands = false ∧
        tget s.rnl[e].prog (rget s e RNE.PC) 0 = w ∧ s.rnl[e].wait = .waitp ∧ bit pins.toNat (rpin w) ≠ bit w 27 ∧
        bit w 26 ∧ reached s (rget s e RNE.T)) ∧
    (∃ (e : Fin 8) (w : Nat) (pins : Word) (s : State), rnlRun s e ∧ s.ptStands = false ∧
        tget s.rnl[e].prog (rget s e RNE.PC) 0 = w ∧ s.rnl[e].wait = .shift ∧ s.rnl[e].nextAt ≤ s.pt ∧
        bit w 27 = false ∧ rget s e RNE.MISC_DONE + 1 = bits w 5 0 ∧ reached s (rget s e RNE.T)) ∧
    (∃ (e : Fin 8) (w : Nat) (pins : Word) (s : State), rnlRun s e ∧ s.ptStands = false ∧
        tget s.rnl[e].prog (rget s e RNE.PC) 0 = w ∧ s.rnl[e].wait = .shift ∧ s.rnl[e].nextAt ≤ s.pt ∧ bit w 27 ∧
        ownsPin s e (rpin w) ∧ rget s e RNE.MISC_DONE + 1 = bits w 5 0 ∧ reached s (rget s e RNE.T)) ∧
    (∃ (e : Fin 8) (w : Nat) (pins : Word) (s : State), rnlRun s e ∧ s.ptStands = false ∧
        tget s.rnl[e].prog (rget s e RNE.PC) 0 = w ∧ s.rnl[e].wait = .push ∧ s.rnl[e].outF.length < 8) ∧
    (∃ (e : Fin 8) (w : Nat) (pins : Word) (s : State) (v : Nat) (rest : List Nat), rnlRun s e ∧ s.ptStands = false ∧
        tget s.rnl[e].prog (rget s e RNE.PC) 0 = w ∧ s.rnl[e].wait = .pull ∧ s.rnl[e].inF = v :: rest) ∧
    (∃ (e : Fin 8) (w : Nat) (pins : Word) (s : State) (v : Nat) (rest : List Nat), rnlRun s e ∧ s.ptStands = false ∧
        tget s.rnl[e].prog (rget s e RNE.PC) 0 = w ∧ s.rnl[e].wait = .pull ∧ s.rnl[e].inF = v :: rest) ∧
    (∃ (e : Fin 8) (w : Nat) (pins : Word) (s : State) (v : Nat) (rest : List Nat), rnlRun s e ∧ s.ptStands = false ∧
        tget s.rnl[e].prog (rget s e RNE.PC) 0 = w ∧ s.rnl[e].wait = .pull ∧ s.rnl[e].inF = v :: rest) ∧
    (∃ (e : Fin 8) (w : Nat) (pins : Word) (s : State) (v : Nat) (rest : List Nat), rnlRun s e ∧ s.ptStands = false ∧
        tget s.rnl[e].prog (rget s e RNE.PC) 0 = w ∧ s.rnl[e].wait = .pull ∧ s.rnl[e].inF = v :: rest) ∧
    (∃ (e : Fin 8) (w : Nat) (pins : Word) (s : State), rnlRun s e ∧ s.ptStands = false ∧
        tget s.rnl[e].prog (rget s e RNE.PC) 0 = w ∧ s.rnl[e].wait = .waitt ∧ reached s (rget s e RNE.T)) ∧
    (∃ (e : Fin 8) (pins : Word) (s : State), rnlRun s e ∧ s.ptStands = false ∧ reached s (rget s e RNE.T) = false ∧
        (s.rnl[e].wait = .pin ∨ s.rnl[e].wait = .waitt)) ∧
    (∃ (e : Fin 8) (pins : Word) (s : State), rnlRun s e ∧ s.ptStands = false ∧ reached s (rget s e RNE.T) = false ∧
        (s.rnl[e].wait = .pin ∨ s.rnl[e].wait = .waitt)) :=
  ⟨⟨0, 0, rnlOn 0 0, by decide +kernel⟩,
   ⟨0, 0x00000001, rnlOn 0 0x00000001, by decide +kernel⟩,
   ⟨0, 0x97000000, rnlOn 0 0x97000000, by decide +kernel⟩,
   ⟨0, 0xA0000000, rnlOn 0 0xA0000000, by decide +kernel⟩,
   ⟨1, 0x10000005, ownsAll 1 (rnlOn 1 0x10000005), by decide +kernel⟩,
   ⟨1, 0x10000005, rnlOn 1 0x10000005, by decide +kernel⟩,
   ⟨1, 0x12000000, ownsAll 1 ((rnlOn 1 0x12000000).wr (rn 1) RNE.T 5), by decide +kernel⟩,
   ⟨1, 0x20000000, rnlOn 1 0x20000000, 0, by decide +kernel⟩,
   ⟨7, 0x28000000, rnlOn 7 0x28000000, 1, by decide +kernel⟩,
   ⟨1, 0x28000000, rnlOn 1 0x28000000, 0, by decide +kernel⟩,
   ⟨1, 0x30000001, rnlOn 1 0x30000001, 0, by decide +kernel⟩,
   ⟨1, 0x40000000, rnlOn 1 0x40000000, 0, by decide +kernel⟩,
   ⟨1, 0x50000000, rnlOn 1 0x50000000, by decide +kernel⟩,
   ⟨1, 0x60000000, (rnlOn 1 0x60000000).updRnl 1 (fun x => { x with inF := [9] }), 9, [], by decide +kernel⟩,
   ⟨1, 0x70000000, rnlOn 1 0x70000000, by decide +kernel⟩,
   ⟨1, 0x76700000, rnlOn 1 0x76700000, by decide +kernel⟩,
   ⟨1, 0x80000000, rnlOn 1 0x80000000, by decide +kernel⟩,
   ⟨1, 0x84700000, rnlOn 1 0x84700000, by decide +kernel⟩,
   ⟨1, 0x90000000, rnlOn 1 0x90000000, by decide +kernel⟩,
   ⟨1, 0x90000000, (rnlOn 1 0x90000000).wr (rn 1) RNE.T 5, by decide +kernel⟩,
   ⟨1, 0x12000005, ownsAll 1 (rnlOn 1 0x12000005), by decide +kernel⟩,
   ⟨1, 0x1A00001F, ownsAll 1 (rnlOn 1 0x1A00001F), by decide +kernel⟩,
   ⟨1, 0x2C000000, rnlOn 1 0x2C000000, 0, by decide +kernel⟩,
   ⟨1, 0x38000001, ownsAll 1 (rnlOn 1 0x38000001), 0, by decide +kernel⟩,
   ⟨1, 0x38000001, rnlOn 1 0x38000001, 0, by decide +kernel⟩,
   ⟨1, 0x38000002, ownsAll 1 (rnlOn 1 0x38000002), 0, by decide +kernel⟩,
   ⟨1, 0x30000020, rnlOn 1 0x30000020, 0, by decide +kernel⟩,
   ⟨1, 0x30000001, (rnlOn 1 0x30000001).wr (rn 1) RNE.T 5, 0, by decide +kernel⟩,
   ⟨1, 0x30000000, rnlOn 1 0x30000000, 0, by decide +kernel⟩,
   ⟨1, 0x54000000, (rnlOn 1 0x54000000).updRnl 1 (fun x => { x with outF := List.replicate 8 1 }), by decide +kernel⟩,
   ⟨1, 0x50000000, (rnlOn 1 0x50000000).updRnl 1 (fun x => { x with outF := List.replicate 8 1 }), by decide +kernel⟩,
   ⟨1, 0x62000000, rnlOn 1 0x62000000, by decide +kernel⟩,
   ⟨1, 0x60000000, rnlOn 1 0x60000000, by decide +kernel⟩,
   ⟨1, 0x12000005, 0, ownsAll 1 ((rnlOn 1 0x12000005).updRnl 1 (fun x => { x with wait := .pin })), by decide +kernel⟩,
   ⟨1, 0x16000005, 0, ownsAll 1 ((rnlOn 1 0x16000005).updRnl 1 (fun x => { x with wait := .pin })), by decide +kernel⟩,
   ⟨1, 0x1A000005, 0, ownsAll 1 ((rnlOn 1 0x1A000005).updRnl 1 (fun x => { x with wait := .pin })), by decide +kernel⟩,
   ⟨1, 0x2A000000, 1, (rnlOn 1 0x2A000000).updRnl 1 (fun x => { x with wait := .waitp }), by decide +kernel⟩,
   ⟨1, 0x2C000000, 0, (rnlOn 1 0x2C000000).updRnl 1 (fun x => { x with wait := .waitp }), by decide +kernel⟩,
   ⟨1, 0x30000001, 1, (rnlOn 1 0x30000001).updRnl 1 (fun x => { x with wait := .shift }), by decide +kernel⟩,
   ⟨1, 0x38000001, 1, ownsAll 1 ((rnlOn 1 0x38000001).updRnl 1 (fun x => { x with wait := .shift })),
       by decide +kernel⟩,
   ⟨1, 0x54000000, 1, (rnlOn 1 0x54000000).updRnl 1 (fun x => { x with wait := .push }), by decide +kernel⟩,
   ⟨1, 0x62000000, 1, (rnlOn 1 0x62000000).updRnl 1 (fun x => { x with wait := .pull, inF := [9, 8] }), 9, [8],
       by decide +kernel⟩,
   ⟨1, 0x66000000, 1, (rnlOn 1 0x66000000).updRnl 1 (fun x => { x with wait := .pull, inF := [9, 8] }), 9, [8],
       by decide +kernel⟩,
   ⟨1, 0x6A000000, 1, (rnlOn 1 0x6a000000).updRnl 1 (fun x => { x with wait := .pull, inF := [9, 8] }), 9, [8],
       by decide +kernel⟩,
   ⟨1, 0x6E000000, 1, (rnlOn 1 0x6e000000).updRnl 1 (fun x => { x with wait := .pull, inF := [9, 8] }), 9, [8],
       by decide +kernel⟩,
   ⟨1, 0x90000007, 1, (rnlOn 1 0x90000007).updRnl 1 (fun x => { x with wait := .waitt }), by decide +kernel⟩,
   ⟨1, 1, ((rnlOn 1 0x90000007).updRnl 1 (fun x => { x with wait := .waitt })).wr (rn 1) RNE.T 5, by decide +kernel⟩,
   ⟨1, 1, ownsAll 1 (((rnlOn 1 0x12000007).updRnl 1 (fun x => { x with wait := .pin })).wr (rn 1) RNE.T 5),
       by decide +kernel⟩⟩

theorem witness_runnelsStartStopAndExchange :
    (∃ (v : Word) (s : State), s.clockOff 0x50 = false) ∧
    (∃ (e : Fin 8) (s : State), s.clockOff 0x50 = false ∧ rnlRun s e = false) ∧
    (∃ (e : Fin 8) (s : State), s.clockOff 0x50 = false ∧ rnlRun s e) ∧
    (∃ (e : Fin 8) (s : State) (pins : Word), rnlRun s e ∧ s.ptStands = false ∧ s.rnl[e].wait = .waitt ∧
        reached s (rget s e RNE.T)) ∧
    (∃ (e : Fin 8) (s : State) (pins : Word), rnlRun s e ∧ s.ptStands = false ∧ s.rnl[e].wait = .push ∧
        s.rnl[e].outF.length < 8) ∧
    (∃ (e : Fin 8) (v : Word) (s : State), s.clockOff 0x50 = false ∧ s.rnl[e].inF.length < 8) ∧
    (∃ (e : Fin 8) (v : Word) (s : State), s.clockOff 0x50 = false ∧ 8 ≤ s.rnl[e].inF.length) ∧
    (∃ (e : Fin 8) (v : Nat) (rest : List Nat) (s : State), s.clockOff 0x50 = false ∧ s.rnl[e].outF = v :: rest) ∧
    (∃ (e : Fin 8) (s : State), s.clockOff 0x50 = false ∧ s.rnl[e].outF = []) ∧
    (∃ (e : Fin 8) (v : Word) (s : State), s.clockOff 0x50 = false ∧ rnlRun s e = false) ∧
    (∃ (e : Fin 8) (v : Word) (s : State), s.clockOff 0x50 = false ∧ rnlRun s e = false) ∧
    (∃ (e : Fin 8) (v : Word) (s : State), s.clockOff 0x50 = false ∧ rnlRun s e = false) ∧
    (∃ (e : Fin 8) (v : Word) (s : State), s.clockOff 0x50 = false ∧ rnlRun s e) ∧
    (∃ (e : Fin 8) (v : Word) (s : State), s.clockOff 0x50 = false ∧ rnlRun s e = false) ∧
    (∃ (e : Fin 8) (v : Word) (s : State), s.clockOff 0x50 = false ∧ rnlRun s e = false) ∧
    (∃ (e : Fin 8) (v : Word) (s : State), s.clockOff 0x50 = false ∧ rnlRun s e = false) ∧
    (∃ (e : Fin 8) (v : Word) (s : State), s.clockOff 0x50 = false ∧ rnlRun s e = false) ∧
    (∃ (e : Fin 8) (v : Word) (s : State), s.clockOff 0x50 = false ∧ rnlRun s e = false) ∧
    (∃ (e : Fin 8) (r : BitVec 8) (v : Word) (s : State), s.clockOff 0x50) :=
  ⟨⟨0x81, (runs 9).wrBoth RUN.base RUN.RUN_RUN 0x82, by decide +kernel⟩,
   ⟨2, State.reset, by decide +kernel⟩,
   ⟨2, rnlOn 2 0, by decide +kernel⟩,
   ⟨2, (rnlOn 2 0x90000000).updRnl 2 (fun x => { x with wait := .waitt }), 0, by decide +kernel⟩,
   ⟨2, (rnlOn 2 0x50000000).updRnl 2 (fun x => { x with wait := .push }), 0, by decide +kernel⟩,
   ⟨7, 9, State.reset, by decide +kernel⟩,
   ⟨7, 9, State.reset.updRnl 7 (fun x => { x with inF := List.replicate 8 1 }), by decide +kernel⟩,
   ⟨7, 1, [2], State.reset.updRnl 7 (fun x => { x with outF := [1, 2] }), by decide +kernel⟩,
   ⟨7, State.reset, by decide +kernel⟩,
   ⟨7, 9, State.reset, by decide +kernel⟩,
   ⟨7, 9, State.reset, by decide +kernel⟩,
   ⟨7, 9, State.reset, by decide +kernel⟩,
   ⟨7, 9, rnlOn 7 0, by decide +kernel⟩,
   ⟨7, 0x12345678, State.reset, by decide +kernel⟩,
   ⟨7, 0x12345678, State.reset, by decide +kernel⟩,
   ⟨7, 0x12345678, State.reset, by decide +kernel⟩,
   ⟨7, 0x12345678, State.reset, by decide +kernel⟩,
   ⟨7, 0x12345678, State.reset, by decide +kernel⟩,
   ⟨7, 0x28, 9, (runs 9).wrBoth RUN.base HDR.CTRL_ENABLE 0, by decide +kernel⟩⟩

theorem witness_coresFramesSlotsAndFarAccesses :
    (∃ (s : State), s.coreFrame < s.pt / 2000 ∧ s.ptStands = false ∧ s.dev.st ≠ .park) ∧
    (∃ (c : Fin 4) (k : Fin 64) (w : Nat) (s : State), slotWord s c k.val = some w ∧ slotMay s w ∧
        s.ptStands = false ∧ s.cores[c].on ∧ s.cores[c].faulted = false ∧ s.cores[c].parked = false ∧
        s.plan.acts = [] ∧ slotOccupied s c k.val w) ∧
    (∃ (c : Fin 4) (k : Fin 64) (w : Nat) (s : State), slotWord s c k.val = some w ∧ slotMay s w ∧
        s.ptStands = false ∧ s.cores[c].on ∧ s.cores[c].faulted = false ∧ s.cores[c].parked = false ∧
        s.plan.acts = [] ∧ slotOccupied s c k.val w) ∧
    (∃ (c : Fin 4) (s : State), coreDue c s ≠ none ∧ s.cores[c].task = none ∧ s.cores[c].bg.ie ∧
        ((s.cores[c].bg.rc = 0 ∨ s.cores[c].bg.rpti)) ∧ coreReq s c ∧
        s.rd (cr c) CORE.HSP_LIM_LIM + 3 ≤ s.rd (cr c) CORE.HSP) ∧
    (∃ (c : Fin 4) (s : State), coreDue c s ≠ none ∧ s.cores[c].task = none ∧ s.cores[c].bg.ie ∧
        ((s.cores[c].bg.rc = 0 ∨ s.cores[c].bg.rpti)) ∧ coreReq s c ∧
        s.rd (cr c) CORE.HSP_LIM_LIM + 3 ≤ s.rd (cr c) CORE.HSP) ∧
    (∃ (c : Fin 4) (task : Bool) (f : FarAcc) (t0 : Nat) (s : State), farLive s c ∧
        ((task → s.cores[c].orphans = [])) ∧ bankFar s c task = some f ∧ farServed s c task f = some t0 ∧
        postedTo s c task (farPort s f) = [] ∧ f.load = false ∧ peerOf s f.addr = none ∧
        regionOf (ownAddr f.addr) ≠ none) ∧
    (∃ (c : Fin 4) (task : Bool) (f : FarAcc) (t0 : Nat) (s : State), farLive s c ∧
        ((task → s.cores[c].orphans = [])) ∧ bankFar s c task = some f ∧ farServed s c task f = some t0 ∧
        postedTo s c task (farPort s f) = [] ∧ f.load = false ∧ peerOf s f.addr = none ∧
        regionOf (ownAddr f.addr) ≠ none) ∧
    (∃ (c : Fin 4) (task : Bool) (f : FarAcc) (t0 : Nat) (s : State), farLive s c ∧
        ((task → s.cores[c].orphans = [])) ∧ bankFar s c task = some f ∧ farServed s c task f = some t0 ∧
        postedTo s c task (farPort s f) = [] ∧ f.load = false ∧ peerOf s f.addr = none ∧
        regionOf (ownAddr f.addr) ≠ none) ∧
    (∃ (c : Fin 4) (task : Bool) (f : FarAcc) (t0 : Nat) (s : State), farLive s c ∧
        ((task → s.cores[c].orphans = [])) ∧ bankFar s c task = some f ∧ farServed s c task f = some t0 ∧
        postedTo s c task (farPort s f) = [] ∧ f.load = false ∧ peerOf s f.addr = none ∧
        regionOf (ownAddr f.addr) ≠ none) ∧
    (∃ (c : Fin 4) (task : Bool) (f : FarAcc) (t0 : Nat) (s : State), farLive s c ∧
        ((task → s.cores[c].orphans = [])) ∧ bankFar s c task = some f ∧ farServed s c task f = some t0 ∧
        postedTo s c task (farPort s f) = [] ∧ f.load ∧ f.addr < 0x100000 ∧ f.addr % farSize f = 0 ∧
        s.pattern (f.addr / 8) = 0) ∧
    (∃ (c : Fin 4) (task : Bool) (f : FarAcc) (t0 : Nat) (s : State), farLive s c ∧
        ((task → s.cores[c].orphans = [])) ∧ bankFar s c task = some f ∧ farServed s c task f = some t0 ∧
        postedTo s c task (farPort s f) = [] ∧ f.load ∧ f.addr < 0x100000 ∧ f.addr % farSize f = 0 ∧
        s.pattern (f.addr / 8) = 0) ∧
    (∃ (c : Fin 4) (task : Bool) (s : State) (n : Nat), coreLive s c ∧ s.cores[c].task.isSome = task ∧
        (pathBank s c task).wait = .time n ∧ ptReached s n) ∧
    (∃ (c : Fin 4) (task : Bool) (s : State) (pd : Nat) (n : Nat), coreLive s c ∧ s.cores[c].task.isSome = task ∧
        (pathBank s c task).wait = .angle pd n ∧ angleReached s n) ∧
    (∃ (c : Fin 4) (task : Bool) (s : State), coreLive s c ∧ s.cores[c].task.isSome = task ∧
        (pathBank s c task).wait = .event ∧ coreReq s c) :=
  ⟨⟨runs 2000, by decide +kernel⟩,
   ⟨0, 63, 0, (runs 9).updCore 0 (fun x => { x with on := true, frame := List.replicate 64 0 }), by decide +kernel⟩,
   ⟨2, 0, 0x800000, (runs 9).updCore 2 (fun x =>
       { x with on := true, frame := [0x800000], releases := [⟨0, 3, 0, 0, false, none⟩] }), by decide +kernel⟩,
   ⟨1, { coreWith 1 0 { freshBank with ie := true } 9 with catch_ := [(5, { catchIdle with pend := some 1, since := 2 })] },
       by decide +kernel⟩,
   ⟨1, { coreWith 1 0 { freshBank with ie := true, rc := 2, rpti := true } 9 with catch_ := [(5, { catchIdle with pend := some 1, since := 2 })] },
       by decide +kernel⟩,
   ⟨1, false, ⟨false, 0, true, 0, 7, 0⟩, 99,
       coreWith 1 0 { freshBank with wait := .far ⟨false, 0, true, 0, 7, 0⟩ } 99, by decide +kernel⟩,
   ⟨1, false, ⟨false, 0x2FFFFC, true, 0, 7, 0⟩, 99,
       coreWith 1 0 { freshBank with wait := .far ⟨false, 0x2FFFFC, true, 0, 7, 0⟩ } 99, by decide +kernel⟩,
   ⟨1, false, ⟨false, 0x47FFFC, true, 0, 7, 0⟩, 99,
       coreWith 1 0 { freshBank with wait := .far ⟨false, 0x47FFFC, true, 0, 7, 0⟩ } 99, by decide +kernel⟩,
   ⟨1, true, ⟨false, 0, true, 0, 7, 0⟩, 99, (coreWith 1 0 freshBank 99).updCore 1 (fun x =>
       { x with task := some ⟨5, none, 0, 100, false, none⟩, tb := { freshBank with wait := .far ⟨false, 0, true, 0, 7, 0⟩ } }),
       by decide +kernel⟩,
   ⟨1, false, ⟨true, 0, true, 3, 0, 0⟩, 95,
       { coreWith 1 0 { freshBank with wait := .far ⟨true, 0, true, 3, 0, 0⟩ } 99 with memc := { State.reset.memc with grants := [(0, 95, 2)] } },
       by decide +kernel⟩,
   ⟨1, false, ⟨true, 0xFFFFC, true, 3, 0, 0⟩, 95,
       { coreWith 1 0 { freshBank with wait := .far ⟨true, 0xFFFFC, true, 3, 0, 0⟩ } 99 with memc := { State.reset.memc with grants := [(3, 95, 2)] } },
       by decide +kernel⟩,
   ⟨3, false, coreWith 3 0 { freshBank with wait := .time 9 } 9, 9, by decide +kernel⟩,
   ⟨3, false, { coreWith 3 0 { freshBank with wait := .angle 5 0 } 9 with dev := (runs 9).dev }, 5, 0,
       by decide +kernel⟩,
   ⟨1, false, { coreWith 1 0 { freshBank with wait := .event } 9 with catch_ := [(5, { catchIdle with pend := some 1, since := 2 })] },
       by decide +kernel⟩⟩

theorem witness_coreArithmeticWritesItsResult :
    (∃ (c : Fin 4) (w : Nat) (b : CoreBank) (s : State), coreIssues s c w ∧ liveBank s.cores[c] = b ∧ cop w = 0x01) ∧
    (∃ (c : Fin 4) (w : Nat) (b : CoreBank) (s : State), coreIssues s c w ∧ liveBank s.cores[c] = b ∧ cop w = 0x02) ∧
    (∃ (c : Fin 4) (w : Nat) (b : CoreBank) (s : State), coreIssues s c w ∧ liveBank s.cores[c] = b ∧ cop w = 0x03) ∧
    (∃ (c : Fin 4) (w : Nat) (b : CoreBank) (s : State), coreIssues s c w ∧ liveBank s.cores[c] = b ∧ cop w = 0x04) ∧
    (∃ (c : Fin 4) (w : Nat) (b : CoreBank) (s : State), coreIssues s c w ∧ liveBank s.cores[c] = b ∧ cop w = 0x05) ∧
    (∃ (c : Fin 4) (w : Nat) (b : CoreBank) (s : State), coreIssues s c w ∧ liveBank s.cores[c] = b ∧ cop w = 0x06) ∧
    (∃ (c : Fin 4) (w : Nat) (b : CoreBank) (s : State), coreIssues s c w ∧ liveBank s.cores[c] = b ∧ cop w = 0x07) ∧
    (∃ (c : Fin 4) (w : Nat) (b : CoreBank) (s : State), coreIssues s c w ∧ liveBank s.cores[c] = b ∧ cop w = 0x08) ∧
    (∃ (c : Fin 4) (w : Nat) (b : CoreBank) (s : State), coreIssues s c w ∧ liveBank s.cores[c] = b ∧ cop w = 0x09) ∧
    (∃ (c : Fin 4) (w : Nat) (b : CoreBank) (s : State), coreIssues s c w ∧ liveBank s.cores[c] = b ∧ cop w = 0x0A) ∧
    (∃ (c : Fin 4) (w : Nat) (b : CoreBank) (s : State), coreIssues s c w ∧ liveBank s.cores[c] = b ∧ cop w = 0x0B) ∧
    (∃ (c : Fin 4) (w : Nat) (b : CoreBank) (s : State), coreIssues s c w ∧ liveBank s.cores[c] = b ∧ cop w = 0x0C) ∧
    (∃ (c : Fin 4) (w : Nat) (b : CoreBank) (s : State), coreIssues s c w ∧ liveBank s.cores[c] = b ∧ cop w = 0x0D) ∧
    (∃ (c : Fin 4) (w : Nat) (b : CoreBank) (s : State), coreIssues s c w ∧ liveBank s.cores[c] = b ∧ cop w = 0x0E) ∧
    (∃ (c : Fin 4) (w : Nat) (b : CoreBank) (s : State), coreIssues s c w ∧ liveBank s.cores[c] = b ∧ cop w = 0x0F) ∧
    (∃ (c : Fin 4) (w : Nat) (b : CoreBank) (s : State), coreIssues s c w ∧ liveBank s.cores[c] = b ∧ cop w = 0x10) ∧
    (∃ (c : Fin 4) (w : Nat) (b : CoreBank) (s : State), coreIssues s c w ∧ liveBank s.cores[c] = b ∧ cop w = 0x11) ∧
    (∃ (c : Fin 4) (w : Nat) (b : CoreBank) (s : State), coreIssues s c w ∧ liveBank s.cores[c] = b ∧ cop w = 0x12) ∧
    (∃ (c : Fin 4) (w : Nat) (b : CoreBank) (s : State), coreIssues s c w ∧ liveBank s.cores[c] = b ∧ cop w = 0x13) ∧
    (∃ (c : Fin 4) (w : Nat) (b : CoreBank) (s : State), coreIssues s c w ∧ liveBank s.cores[c] = b ∧ cop w = 0x15) ∧
    (∃ (c : Fin 4) (w : Nat) (b : CoreBank) (s : State), coreIssues s c w ∧ liveBank s.cores[c] = b ∧ cop w = 0x16) :=
  ⟨⟨0, 0x400000, freshBank, coreWith 0 0x400000 freshBank 9, ⟨0, by decide +kernel⟩, by decide +kernel⟩,
   ⟨1, 0x800000, freshBank, coreWith 1 0x800000 freshBank 9, ⟨0, by decide +kernel⟩, by decide +kernel⟩,
   ⟨2, 0xc00000, freshBank, coreWith 2 0xc00000 freshBank 9, ⟨0, by decide +kernel⟩, by decide +kernel⟩,
   ⟨3, 0x1000000, freshBank, coreWith 3 0x1000000 freshBank 9, ⟨0, by decide +kernel⟩, by decide +kernel⟩,
   ⟨0, 0x1400000, freshBank, coreWith 0 0x1400000 freshBank 9, ⟨0, by decide +kernel⟩, by decide +kernel⟩,
   ⟨1, 0x1800000, freshBank, coreWith 1 0x1800000 freshBank 9, ⟨0, by decide +kernel⟩, by decide +kernel⟩,
   ⟨2, 0x1c00000, freshBank, coreWith 2 0x1c00000 freshBank 9, ⟨0, by decide +kernel⟩, by decide +kernel⟩,
   ⟨3, 0x2000000, freshBank, coreWith 3 0x2000000 freshBank 9, ⟨0, by decide +kernel⟩, by decide +kernel⟩,
   ⟨0, 0x2400000, freshBank, coreWith 0 0x2400000 freshBank 9, ⟨0, by decide +kernel⟩, by decide +kernel⟩,
   ⟨1, 0x2800000, freshBank, coreWith 1 0x2800000 freshBank 9, ⟨0, by decide +kernel⟩, by decide +kernel⟩,
   ⟨2, 0x2c00000, freshBank, coreWith 2 0x2c00000 freshBank 9, ⟨0, by decide +kernel⟩, by decide +kernel⟩,
   ⟨3, 0x3000000, freshBank, coreWith 3 0x3000000 freshBank 9, ⟨0, by decide +kernel⟩, by decide +kernel⟩,
   ⟨0, 0x3400000, freshBank, coreWith 0 0x3400000 freshBank 9, ⟨0, by decide +kernel⟩, by decide +kernel⟩,
   ⟨1, 0x3800000, freshBank, coreWith 1 0x3800000 freshBank 9, ⟨0, by decide +kernel⟩, by decide +kernel⟩,
   ⟨2, 0x3c00000, freshBank, coreWith 2 0x3c00000 freshBank 9, ⟨0, by decide +kernel⟩, by decide +kernel⟩,
   ⟨3, 0x4000000, freshBank, coreWith 3 0x4000000 freshBank 9, ⟨0, by decide +kernel⟩, by decide +kernel⟩,
   ⟨0, 0x4400000, freshBank, coreWith 0 0x4400000 freshBank 9, ⟨0, by decide +kernel⟩, by decide +kernel⟩,
   ⟨1, 0x4800000, freshBank, coreWith 1 0x4800000 freshBank 9, ⟨0, by decide +kernel⟩, by decide +kernel⟩,
   ⟨2, 0x4c00000, freshBank, coreWith 2 0x4c00000 freshBank 9, ⟨0, by decide +kernel⟩, by decide +kernel⟩,
   ⟨3, 0x5400000, freshBank, coreWith 3 0x5400000 freshBank 9, ⟨0, by decide +kernel⟩, by decide +kernel⟩,
   ⟨0, 0x5800000, freshBank, coreWith 0 0x5800000 freshBank 9, ⟨0, by decide +kernel⟩, by decide +kernel⟩⟩

theorem witness_coreMemoryJumpsAndRepeats :
    (∃ (c : Fin 4) (w : Nat) (b : CoreBank) (s : State), coreIssues s c w ∧ liveBank s.cores[c] = b ∧ cop w = 0x14 ∧
        bits w 9 8 = 0) ∧
    (∃ (c : Fin 4) (w : Nat) (b : CoreBank) (s : State), coreIssues s c w ∧ liveBank s.cores[c] = b ∧ cop w = 0x14 ∧
        bits w 9 8 = 1) ∧
    (∃ (c : Fin 4) (w : Nat) (b : CoreBank) (s : State), coreIssues s c w ∧ liveBank s.cores[c] = b ∧ cop w = 0x14 ∧
        bits w 9 8 = 2 ∧ bits w 7 6 = 0) ∧
    (∃ (c : Fin 4) (w : Nat) (b : CoreBank) (s : State), coreIssues s c w ∧ liveBank s.cores[c] = b ∧ cop w = 0x14 ∧
        bits w 9 8 = 2 ∧ bits w 7 6 = 1) ∧
    (∃ (c : Fin 4) (w : Nat) (b : CoreBank) (s : State), coreIssues s c w ∧ liveBank s.cores[c] = b ∧ cop w = 0x14 ∧
        bits w 9 8 = 2 ∧ bits w 7 6 = 2) ∧
    (∃ (c : Fin 4) (w : Nat) (b : CoreBank) (s : State), coreIssues s c w ∧ liveBank s.cores[c] = b ∧ cop w = 0x14 ∧
        bits w 9 8 = 2 ∧ bits w 7 6 = 3) ∧
    (∃ (c : Fin 4) (w : Nat) (b : CoreBank) (s : State) (r : Int), coreIssues s c w ∧ liveBank s.cores[c] = b ∧
        cop w = 0x14 ∧ bits w 9 8 = 3 ∧ r = (if bits w 4 0 = 0 then acOf b else (acOf b + 2 ^ (bits w 4 0 - 1)).fdiv (2 ^ bits w 4 0))) ∧
    (∃ (c : Fin 4) (w : Nat) (b : CoreBank) (s : State) (r : Int), coreIssues s c w ∧ liveBank s.cores[c] = b ∧
        cop w = 0x14 ∧ bits w 9 8 = 3 ∧ r = (if bits w 4 0 = 0 then acOf b else (acOf b + 2 ^ (bits w 4 0 - 1)).fdiv (2 ^ bits w 4 0))) ∧
    (∃ (c : Fin 4) (w : Nat) (b : CoreBank) (s : State), coreIssues s c w ∧ liveBank s.cores[c] = b ∧ cop w = 0x17 ∧
        bits w 10 9 ≠ 3) ∧
    (∃ (c : Fin 4) (w : Nat) (b : CoreBank) (s : State), coreIssues s c w ∧ liveBank s.cores[c] = b ∧ cop w = 0x17 ∧
        bits w 10 9 ≠ 3) ∧
    (∃ (c : Fin 4) (w : Nat) (b : CoreBank) (s : State), coreIssues s c w ∧ liveBank s.cores[c] = b ∧ cop w = 0x17 ∧
        bits w 10 9 = 3) ∧
    (∃ (c : Fin 4) (w : Nat) (b : CoreBank) (s : State), coreIssues s c w ∧ liveBank s.cores[c] = b ∧ cop w = 0x18 ∧
        secBad s (dmemAddr c (nearAddr b w)) = 0) ∧
    (∃ (c : Fin 4) (w : Nat) (b : CoreBank) (s : State), coreIssues s c w ∧ liveBank s.cores[c] = b ∧ cop w = 0x19) ∧
    (∃ (c : Fin 4) (w : Nat) (b : CoreBank) (s : State), coreIssues s c w ∧ liveBank s.cores[c] = b ∧ cop w = 0x1A ∧
        farAddr b w % (if bit w 13 then 4 else 2) = 0) ∧
    (∃ (c : Fin 4) (w : Nat) (b : CoreBank) (s : State), coreIssues s c w ∧ liveBank s.cores[c] = b ∧ cop w = 0x1B ∧
        farAddr b w % (if bit w 13 then 4 else 2) = 0) ∧
    (∃ (c : Fin 4) (w : Nat) (b : CoreBank) (s : State), coreIssues s c w ∧ liveBank s.cores[c] = b ∧ cop w = 0x1C) ∧
    (∃ (c : Fin 4) (w : Nat) (b : CoreBank) (s : State), coreIssues s c w ∧ liveBank s.cores[c] = b ∧ cop w = 0x1D) ∧
    (∃ (c : Fin 4) (w : Nat) (b : CoreBank) (s : State), coreIssues s c w ∧ liveBank s.cores[c] = b ∧ cop w = 0x1E) ∧
    (∃ (c : Fin 4) (w : Nat) (b : CoreBank) (s : State), coreIssues s c w ∧ liveBank s.cores[c] = b ∧ cop w = 0x1F) ∧
    (∃ (c : Fin 4) (w : Nat) (b : CoreBank) (s : State), coreIssues s c w ∧ liveBank s.cores[c] = b ∧ cop w = 0x20 ∧
        (if bit w 20 then b.reg (cA w) else bits w 13 0) ≠ 0 ∧ repeatable (cop (s.leBytes (imemAddr c (b.pc + 1)) 4))) ∧
    (∃ (c : Fin 4) (w : Nat) (b : CoreBank) (s : State), coreIssues s c w ∧ liveBank s.cores[c] = b ∧ cop w = 0x20 ∧
        (if bit w 20 then b.reg (cA w) else bits w 13 0) = 0) ∧
    (∃ (c : Fin 4) (w : Nat) (b : CoreBank) (s : State), coreIssues s c w ∧ liveBank s.cores[c] = b ∧ cop w = 0x29 ∧
        secBad s (dmemAddr c (b.reg (cA w))) = 0 ∧ secBad s (dmemAddr c (b.reg (cB w))) = 0) :=
  ⟨⟨1, 0x5000000, freshBank, coreWith 1 0x5000000 freshBank 9, ⟨0, by decide +kernel⟩, by decide +kernel⟩,
   ⟨1, 0x5000100, freshBank, coreWith 1 0x5000100 freshBank 9, ⟨0, by decide +kernel⟩, by decide +kernel⟩,
   ⟨1, 0x5000200, freshBank, coreWith 1 0x5000200 freshBank 9, ⟨0, by decide +kernel⟩, by decide +kernel⟩,
   ⟨1, 0x5000240, freshBank, coreWith 1 0x5000240 freshBank 9, ⟨0, by decide +kernel⟩, by decide +kernel⟩,
   ⟨1, 0x5000280, freshBank, coreWith 1 0x5000280 freshBank 9, ⟨0, by decide +kernel⟩, by decide +kernel⟩,
   ⟨1, 0x50002c0, freshBank, coreWith 1 0x50002c0 freshBank 9, ⟨0, by decide +kernel⟩, by decide +kernel⟩,
   ⟨1, 0x5000300, freshBank, coreWith 1 0x5000300 freshBank 9, 0, ⟨0, by decide +kernel⟩, by decide +kernel⟩,
   ⟨1, 0x5000304, freshBank, coreWith 1 0x5000304 freshBank 9, 0, ⟨0, by decide +kernel⟩, by decide +kernel⟩,
   ⟨1, 0x5c00000, freshBank, coreWith 1 0x5c00000 freshBank 9, ⟨0, by decide +kernel⟩, by decide +kernel⟩,
   ⟨1, 0x5c00400, freshBank, coreWith 1 0x5c00400 freshBank 9, ⟨0, by decide +kernel⟩, by decide +kernel⟩,
   ⟨1, 0x5c00600, freshBank, coreWith 1 0x5c00600 freshBank 9, ⟨0, by decide +kernel⟩, by decide +kernel⟩,
   ⟨1, 0x6000000, freshBank, coreWith 1 0x6000000 freshBank 9, ⟨0, by decide +kernel⟩, by decide +kernel⟩,
   ⟨1, 0x6400000, freshBank, coreWith 1 0x6400000 freshBank 9, ⟨0, by decide +kernel⟩, by decide +kernel⟩,
   ⟨1, 0x6800000, freshBank, coreWith 1 0x6800000 freshBank 9, ⟨0, by decide +kernel⟩, by decide +kernel⟩,
   ⟨1, 0x6c00000, freshBank, coreWith 1 0x6c00000 freshBank 9, ⟨0, by decide +kernel⟩, by decide +kernel⟩,
   ⟨1, 0x7000000, freshBank, coreWith 1 0x7000000 freshBank 9, ⟨0, by decide +kernel⟩, by decide +kernel⟩,
   ⟨1, 0x7400000, freshBank, coreWith 1 0x7400000 freshBank 9, ⟨0, by decide +kernel⟩, by decide +kernel⟩,
   ⟨1, 0x7800000, freshBank, coreWith 1 0x7800000 freshBank 9, ⟨0, by decide +kernel⟩, by decide +kernel⟩,
   ⟨1, 0x7c00000, freshBank, coreWith 1 0x7c00000 freshBank 9, ⟨0, by decide +kernel⟩, by decide +kernel⟩,
   ⟨1, 0x8000001, freshBank, { coreWith 1 0x8000001 freshBank 9 with mem := wordAt 0x240000 0x8000001 ++ wordAt 0x240004 0x400000 },
       ⟨0, by decide +kernel⟩, by decide +kernel⟩,
   ⟨1, 0x8000000, freshBank, coreWith 1 0x8000000 freshBank 9, ⟨0, by decide +kernel⟩, by decide +kernel⟩,
   ⟨1, 0xa400000, freshBank, coreWith 1 0xa400000 freshBank 9, ⟨0, by decide +kernel⟩, by decide +kernel⟩⟩

theorem witness_coreWaitsEventsAndControlRegisters :
    (∃ (c : Fin 4) (w : Nat) (b : CoreBank) (s : State), coreIssues s c w ∧ liveBank s.cores[c] = b ∧ cop w = 0x21) ∧
    (∃ (c : Fin 4) (w : Nat) (b : CoreBank) (s : State), coreIssues s c w ∧ liveBank s.cores[c] = b ∧ cop w = 0x22) ∧
    (∃ (c : Fin 4) (w : Nat) (b : CoreBank) (s : State), coreIssues s c w ∧ liveBank s.cores[c] = b ∧ cop w = 0x23) ∧
    (∃ (c : Fin 4) (w : Nat) (b : CoreBank) (s : State), coreIssues s c w ∧ liveBank s.cores[c] = b ∧ cop w = 0x24 ∧
        s.dev.epochOpen ∧ b.pair (cA w) < devLen s) ∧
    (∃ (c : Fin 4) (w : Nat) (b : CoreBank) (s : State), coreIssues s c w ∧ liveBank s.cores[c] = b ∧ cop w = 0x24 ∧
        s.dev.epochOpen = false) ∧
    (∃ (c : Fin 4) (w : Nat) (b : CoreBank) (s : State), coreIssues s c w ∧ liveBank s.cores[c] = b ∧ cop w = 0x25 ∧
        bits w 4 0 ≠ 4 ∧ bits w 4 0 ≠ 8) ∧
    (∃ (c : Fin 4) (w : Nat) (b : CoreBank) (s : State), coreIssues s c w ∧ liveBank s.cores[c] = b ∧ cop w = 0x25 ∧
        bits w 4 0 ≠ 4 ∧ bits w 4 0 ≠ 8) ∧
    (∃ (c : Fin 4) (w : Nat) (b : CoreBank) (s : State), coreIssues s c w ∧ liveBank s.cores[c] = b ∧ cop w = 0x25 ∧
        bits w 4 0 = 4) ∧
    (∃ (c : Fin 4) (w : Nat) (b : CoreBank) (s : State), coreIssues s c w ∧ liveBank s.cores[c] = b ∧ cop w = 0x26 ∧
        bits w 4 0 = 0) ∧
    (∃ (c : Fin 4) (w : Nat) (b : CoreBank) (s : State), coreIssues s c w ∧ liveBank s.cores[c] = b ∧ cop w = 0x26 ∧
        bits w 4 0 = 1) ∧
    (∃ (c : Fin 4) (w : Nat) (b : CoreBank) (s : State), coreIssues s c w ∧ liveBank s.cores[c] = b ∧ cop w = 0x26 ∧
        bits w 4 0 = 2 ∧ s.cores[c].task = none) ∧
    (∃ (c : Fin 4) (w : Nat) (b : CoreBank) (s : State), coreIssues s c w ∧ liveBank s.cores[c] = b ∧ cop w = 0x27 ∧
        s.cores[c].task = none ∧ secBad s (dmemAddr c (s.rd (cr c) CORE.HSP)) = 0 ∧
        secBad s (dmemAddr c (s.rd (cr c) CORE.HSP + 1)) = 0 ∧ secBad s (dmemAddr c (s.rd (cr c) CORE.HSP + 2)) = 0) ∧
    (∃ (c : Fin 4) (w : Nat) (b : CoreBank) (s : State), coreIssues s c w ∧ liveBank s.cores[c] = b ∧ cop w = 0x28 ∧
        s.cores[c].task = none) ∧
    (∃ (c : Fin 4) (w : Nat) (b : CoreBank) (s : State) (k : TaskRun), coreIssues s c w ∧ liveBank s.cores[c] = b ∧
        cop w = 0x28 ∧ s.cores[c].task = some k) :=
  ⟨⟨1, 0x8400000, freshBank, coreWith 1 0x8400000 freshBank 9, ⟨0, by decide +kernel⟩, by decide +kernel⟩,
   ⟨1, 0x8800000, freshBank, coreWith 1 0x8800000 freshBank 9, ⟨0, by decide +kernel⟩, by decide +kernel⟩,
   ⟨1, 0x8c00000, freshBank, coreWith 1 0x8c00000 freshBank 9, ⟨0, by decide +kernel⟩, by decide +kernel⟩,
   ⟨1, 0x9000000, freshBank, (coreWith 1 0x9000000 freshBank 9).updDev (fun x => { x with epochOpen := true }), ⟨0,
       by decide +kernel⟩, by decide +kernel⟩,
   ⟨1, 0x9000000, freshBank, coreWith 1 0x9000000 freshBank 9, ⟨0, by decide +kernel⟩, by decide +kernel⟩,
   ⟨1, 0x9400000, freshBank, coreWith 1 0x9400000 freshBank 9, ⟨0, by decide +kernel⟩, by decide +kernel⟩,
   ⟨1, 0x940001f, freshBank, coreWith 1 0x940001f freshBank 9, ⟨0, by decide +kernel⟩, by decide +kernel⟩,
   ⟨1, 0x9400004, freshBank, coreWith 1 0x9400004 freshBank 9, ⟨0, by decide +kernel⟩, by decide +kernel⟩,
   ⟨1, 0x9800000, freshBank, coreWith 1 0x9800000 freshBank 9, ⟨0, by decide +kernel⟩, by decide +kernel⟩,
   ⟨1, 0x9800001, freshBank, coreWith 1 0x9800001 freshBank 9, ⟨0, by decide +kernel⟩, by decide +kernel⟩,
   ⟨1, 0x9800002, freshBank, coreWith 1 0x9800002 freshBank 9, ⟨0, by decide +kernel⟩, by decide +kernel⟩,
   ⟨1, 0x9c00000, freshBank, coreWith 1 0x9c00000 freshBank 9, ⟨0, by decide +kernel⟩, by decide +kernel⟩,
   ⟨1, 0xa000000, freshBank, coreWith 1 0xa000000 freshBank 9, ⟨0, by decide +kernel⟩, by decide +kernel⟩,
   ⟨1, 0xa000000, freshBank, (coreWith 1 0xa000000 freshBank 9).updCore 1 (fun x =>
       { x with task := some ⟨5, none, 0, 100, false, none⟩, tb := freshBank }), ⟨5, none, 0, 100, false, none⟩, ⟨0,
       by decide +kernel⟩, by decide +kernel⟩⟩

theorem witness_catchmentTakesAndCompletesEvents :
    (∃ (src : BitVec 8) (e : RaisedEvt) (s : State), s.dev.st ≠ .park ∧ s.inFlight.find? (fun e =>
        decide (e.src = src.toNat) && decide (e.due ≤ s.tick)) = some e) ∧
    (∃ (src : BitVec 8) (tg : Nat) (s : State), (s.csrc src.toNat).acc ≠ 0 ∧ s.ptStands = false ∧ s.dev.st ≠ .park ∧
        (s.csrc src.toNat).pend = none ∧ coalMet s src.toNat (s.csrc src.toNat) ∧
        nextTarget (s.cfg (CSRC.base src.toNat) CSRC.CFG_ROUTE) ((s.csrc src.toNat).last.getD 6) = some tg) ∧
    (∃ (tg : Fin 7) (src : BitVec 8) (s : State), (s.csrc src.toNat).pend = some tg.val ∧
        (s.csrc src.toNat).completing = false) ∧
    (∃ (tg : Fin 7) (src : BitVec 8) (s : State), (s.csrc src.toNat).pend ≠ some tg.val) :=
  ⟨⟨5, ⟨5, 7, 9⟩, { runs 9 with inFlight := [⟨5, 7, 9⟩] }, by decide +kernel⟩,
   ⟨255, 3, { (runs 9).wrBoth (CSRC.base 255) CSRC.CFG_ROUTE 8 with catch_ := [(255, { catchIdle with acc := 1 })] },
       by decide +kernel⟩,
   ⟨6, 9, { runs 9 with catch_ := [(9, { catchIdle with pend := some 6 })] }, by decide +kernel⟩,
   ⟨6, 9, State.reset, by decide +kernel⟩⟩

theorem witness_flumeChannelsStartMoveAndEnd :
    (∃ (c : Fin 32) (s : State), s.clockOff 0x60 = false ∧ dueDma c s = none ∧ planned s c = false ∧
        flumeState s c = 0 ∧ fl s c FLC.COUNT_BYTES ≠ 0 ∧ startOk s c) ∧
    (∃ (c : Fin 32) (s : State), s.clockOff 0x60 = false ∧ dueDma c s = none ∧ planned s c = false ∧
        flumeState s c ≠ 0) ∧
    (∃ (c : Fin 32) (v : Nat) (u : Nat) (l : List Nat) (s : State) (s1 : State) (s2 : State), flumeState s c = 1 ∧
        s.clockOff 0x60 = false ∧ busStopped s = false ∧ chanAwaits s c = false ∧ s.flume[c].appendEnd = none ∧
        s.flume[c].buf = none ∧ s.flume[c].elLeft ≠ 0 ∧
        chanRead c (fl s c FLC.CUR_SRC_ADDR) (nextSize s c) s = (.done 0 v, s1) ∧
        l = swapBytes (flCtl s1 c FLC.CTRL_SWAP) (toBytes (nextSize s c) v) ∧
        chanWrite c (fl s1 c FLC.CUR_DST_ADDR) (pieceSize (fl s1 c FLC.CUR_DST_ADDR) l.length) (ofBytes (l.take (pieceSize (fl s1 c FLC.CUR_DST_ADDR) l.length))) (s1.updFlume c (fun x =>
        { x with buf := some l })) = (.done 0 u, s2)) ∧
    (∃ (c : Fin 32) (n : Nat) (l : List Nat) (s : State), flCtl s c FLC.CTRL_SUM = 0 ∧ n < fl s c FLC.REMAIN_BYTES ∧
        n < s.flume[c].elLeft) ∧
    (∃ (c : Fin 32) (n : Nat) (l : List Nat) (s : State), flCtl s c FLC.CTRL_SUM = 0 ∧ n < fl s c FLC.REMAIN_BYTES ∧
        n < s.flume[c].elLeft) ∧
    (∃ (c : Fin 32) (s : State), s.clockOff 0x60 = false ∧ flumeState s c = 2) ∧
    (∃ (c : Fin 32) (s : State), s.clockOff 0x60 = false ∧ flumeState s c ≠ 0 ∧ s.plan.acts = []) ∧
    (∃ (c : Fin 32) (v : Word) (s : State), s.clockOff 0x60 = false ∧ planned s c = false ∧ flumeState s c = 0 ∧
        ctrlBad c v.toNat = false) ∧
    (∃ (c : Fin 32) (v : Word) (s : State), s.clockOff 0x60 = false ∧ planned s c = false ∧ flumeState s c = 0 ∧
        ctrlBad c v.toNat) ∧
    (∃ (c : Fin 32) (v : Word) (s : State), s.clockOff 0x60 = false ∧ planned s c = false ∧ flumeState s c = 0 ∧
        ctrlBad c v.toNat) ∧
    (∃ (c : Fin 32) (v : Nat) (u : Nat) (l : List Nat) (s : State) (s2 : State), flumeState s c = 1 ∧
        s.clockOff 0x60 = false ∧ busStopped s = false ∧ chanAwaits s c = false ∧ s.flume[c].appendEnd = none ∧
        s.flume[c].buf = some l ∧ chanWrite c (fl s c FLC.CUR_DST_ADDR) (pieceSize (fl s c FLC.CUR_DST_ADDR) l.length) (ofBytes (l.take (pieceSize (fl s c FLC.CUR_DST_ADDR) l.length))) s = (.done v u,
        s2)) ∧
    (∃ (c : Fin 32) (v : Nat) (u : Nat) (l : List Nat) (s : State) (s2 : State), flumeState s c = 1 ∧
        s.clockOff 0x60 = false ∧ busStopped s = false ∧ chanAwaits s c = false ∧ s.flume[c].appendEnd = none ∧
        s.flume[c].buf = some l ∧ chanWrite c (fl s c FLC.CUR_DST_ADDR) (pieceSize (fl s c FLC.CUR_DST_ADDR) l.length) (ofBytes (l.take (pieceSize (fl s c FLC.CUR_DST_ADDR) l.length))) s = (.done v u,
        s2)) ∧
    (∃ (c : Fin 32) (st : Nat) (v : Nat) (s : State) (s1 : State), flumeState s c = 1 ∧ s.clockOff 0x60 = false ∧
        busStopped s = false ∧ chanAwaits s c = false ∧ s.flume[c].appendEnd = none ∧ s.flume[c].buf = none ∧
        s.flume[c].elLeft ≠ 0 ∧ st ≠ 0 ∧ chanRead c (fl s c FLC.CUR_SRC_ADDR) (nextSize s c) s = (.done st v, s1)) ∧
    (∃ (c : Fin 32) (a : Nat) (w : Nat) (s : State) (s1 : State), flumeState s c = 1 ∧ s.clockOff 0x60 = false ∧
        busStopped s = false ∧ chanAwaits s c = false ∧ s.flume[c].appendEnd = none ∧ s.flume[c].buf = none ∧
        s.flume[c].elLeft = 0 ∧ s.flume[c].nextEl = some a ∧ chanRead c a 8 s = (.done 0 w, s1)) ∧
    (∃ (c : Fin 32) (v : Word) (s : State), s.clockOff 0x60 = false ∧ flumeState s c ≠ 0 ∧
        ((planned s c → s.armedOrLater = false))) ∧
    (∃ (c : Fin 32) (v : Word) (s : State), s.clockOff 0x60 = false ∧ planned s c ∧ s.armedOrLater) ∧
    (∃ (c : Fin 32) (v : Word) (s : State), s.clockOff 0x60 = false ∧ planned s c ∧ s.armedOrLater) ∧
    (∃ (c : Fin 32) (v : Word) (s : State), s.clockOff 0x60 = false ∧ planned s c ∧ s.armedOrLater = false ∧
        flumeState s c = 0 ∧ ctrlBad c v.toNat = false) ∧
    (∃ (c : Fin 32) (v : Word) (s : State), s.clockOff 0x60) :=
  ⟨⟨31, (runs 9).wr (fc 31) FLC.COUNT_BYTES 8, by decide +kernel⟩,
   ⟨31, copying 31, by decide +kernel⟩,
   ⟨0, 0, 0, List.replicate 8 0, copying 0, copyRead 0, copyWritten 0, by decide +kernel⟩,
   ⟨0, 2, [1, 2], copying 0, by decide +kernel⟩,
   ⟨0, 1, [1, 2], copying 0, by decide +kernel⟩,
   ⟨2, (copying 2).wr (fc 2) FLC.STAT_STATE 2, by decide +kernel⟩,
   ⟨2, copying 2, by decide +kernel⟩,
   ⟨27, 0x8000, State.reset, by decide +kernel⟩,
   ⟨27, 0x80000000, State.reset, by decide +kernel⟩,
   ⟨27, 0xC000, State.reset, by decide +kernel⟩,
   ⟨0, 0, 0, List.replicate 8 0, ((copying 0).updFlume 0 (fun x => { x with buf := some (List.replicate 8 0) })),
       (chanWrite 0 0x40080 8 0 ((copying 0).updFlume 0 (fun x => { x with buf := some (List.replicate 8 0) }))).2,
       by decide +kernel⟩,
   ⟨0, 3, 0, List.replicate 8 0, (((copying 0).updFlume 0 (fun x =>
       { x with buf := some (List.replicate 8 0) })).wr (fc 0) FLC.CUR_DST_ADDR 0x158000),
       (chanWrite 0 0x158000 8 0 (((copying 0).updFlume 0 (fun x =>
       { x with buf := some (List.replicate 8 0) })).wr (fc 0) FLC.CUR_DST_ADDR 0x158000)).2, by decide +kernel⟩,
   ⟨0, 3, 0, ((copying 0).wr (fc 0) FLC.CUR_SRC_ADDR 0x158000),
       (chanRead 0 0x158000 8 ((copying 0).wr (fc 0) FLC.CUR_SRC_ADDR 0x158000)).2, by decide +kernel⟩,
   ⟨0, 0x40, 0, ((copying 0).updFlume 0 (fun x => { x with elLeft := 0, nextEl := some 0x40 })),
       (chanRead 0 0x40 8 ((copying 0).updFlume 0 (fun x => { x with elLeft := 0, nextEl := some 0x40 }))).2,
       by decide +kernel⟩,
   ⟨27, 5, copying 27, by decide +kernel⟩,
   ⟨27, 5, (runs 9).wr FLUME.base FLUME.PLANNED_PLAN (2 ^ 27), by decide +kernel⟩,
   ⟨0, 5, (inState .armed 9).wr FLUME.base FLUME.PLANNED_PLAN 1, by decide +kernel⟩,
   ⟨27, 0x8000, (inState .loaded 9).wr FLUME.base FLUME.PLANNED_PLAN (2 ^ 27), by decide +kernel⟩,
   ⟨27, 5, (runs 9).wrBoth FLUME.base HDR.CTRL_ENABLE 0, by decide +kernel⟩⟩

theorem witness_accessesReadAndWrite :
    (∃ (i : Initiator) (a : Word) (n : Nat) (s : State), accessForm a.toNat n ∧ busStopped s = false ∧
        portOpen s i (portOf (targetOf s a.toNat)) ∧ a.toNat < 0x100000 ∧ s.pattern (a.toNat / 8) = 0) ∧
    (∃ (i : Initiator) (a : Word) (n : Nat) (s : State), accessForm a.toNat n ∧ busStopped s = false ∧
        portOpen s i (portOf (targetOf s a.toNat)) ∧ a.toNat < 0x100000 ∧ s.pattern (a.toNat / 8) = 0) ∧
    (∃ (port : Nat) (c : Nat) (asks : Nat → Bool) (s : State), (openWinner s port asks).1 = some c) ∧
    (∃ (i : Initiator) (a : Word) (n : Nat) (s : State), accessForm a.toNat n ∧ busStopped s = false ∧
        portOpen s i (portOf (targetOf s a.toNat)) ∧ regionOf a.toNat = none) ∧
    (∃ (i : Initiator) (a : Word) (l : List Byte) (s : State), accessForm a.toNat l.length ∧ busStopped s = false ∧
        portOpen s i (portOf (targetOf s a.toNat)) ∧ a.toNat < 0x100000 ∧ s.pattern (a.toNat / 8) = 0 ∧
        s.flag MEM.base MEM.INJ_CTL_ARM = false) ∧
    (∃ (i : Initiator) (a : Word) (l : List Byte) (s : State), accessForm a.toNat l.length ∧ busStopped s = false ∧
        portOpen s i (portOf (targetOf s a.toNat)) ∧ a.toNat < 0x100000 ∧ s.pattern (a.toNat / 8) = 0 ∧
        s.flag MEM.base MEM.INJ_CTL_ARM = false) ∧
    (∃ (i : Initiator) (a : Word) (l : List Byte) (s : State), accessForm a.toNat l.length ∧ busStopped s = false ∧
        portOpen s i (portOf (targetOf s a.toNat)) ∧ isPlanMem a.toNat ∧ s.armedOrLater) ∧
    (∃ (i : Initiator) (a : Word) (l : List Byte) (s : State), accessForm a.toNat l.length ∧ busStopped s = false ∧
        portOpen s i (portOf (targetOf s a.toNat)) ∧ isPlanMem a.toNat ∧ s.armedOrLater) ∧
    (∃ (i : Initiator) (a : Word) (l : List Byte) (s : State), accessForm a.toNat l.length ∧ busStopped s = false ∧
        portOpen s i (portOf (targetOf s a.toNat)) ∧ isPlanMem a.toNat ∧ s.armedOrLater = false ∧
        ((a.toNat < 0x158000 → s.pattern (a.toNat / 8) = 0))) ∧
    (∃ (i : Initiator) (a : Word) (l : List Byte) (s : State), accessForm a.toNat l.length ∧ busStopped s = false ∧
        portOpen s i (portOf (targetOf s a.toNat)) ∧ isPlanMem a.toNat ∧ s.armedOrLater = false ∧
        ((a.toNat < 0x158000 → s.pattern (a.toNat / 8) = 0))) ∧
    (∃ (i : Initiator) (a : Word) (v : Word) (s : State), busStopped s = false ∧
        portOpen s i (portOf (targetOf s a.toNat)) ∧ 0x400000 ≤ a.toNat ∧ a.toNat < 0x480000 ∧ a.toNat % 4 = 0 ∧
        profTableAt a.toNat = none ∧ fieldsAt a.toNat ≠ [] ∧ isTrkBReserved a.toNat = false ∧
        0x40 ≤ a.toNat % 0x1000 ∧ s.clockOff (pageOf a.toNat) = false ∧ writeActs i a.toNat v = none) ∧
    (∃ (i : Initiator) (a : Word) (n : Nat) (s : State), accessForm a.toNat n ∧ busStopped s = false ∧
        portOpen s i (portOf (targetOf s a.toNat)) = false) ∧
    (∃ (i : Initiator) (a : Word) (l : List Byte) (s : State), accessForm a.toNat l.length ∧ busStopped s = false ∧
        portOpen s i (portOf (targetOf s a.toNat)) = false) ∧
    (∃ (i : Initiator) (a : Word) (l : List Byte) (s : State), accessForm a.toNat l.length ∧ busStopped s = false ∧
        portOpen s i (portOf (targetOf s a.toNat)) = false) ∧
    (∃ (i : Initiator) (a : Word) (v : Word) (s : State), isRegAddr a.toNat ∧ a.toNat % 4 = 0 ∧
        busStopped s = false ∧ portOpen s i (portOf (targetOf s a.toNat)) = false) :=
  ⟨⟨.hpq, 0, 8, turnTo 0 1 State.reset, by decide +kernel⟩,
   ⟨.hps, 0xFFFFF, 1, State.reset, by decide +kernel⟩,
   ⟨3, 0x11, (fun c => c == 0x11), turnTo 3 1 State.reset, by decide +kernel⟩,
   ⟨.hpq, 0x158000, 4, State.reset, by decide +kernel⟩,
   ⟨.fl, 0, [1, 2, 3, 4, 5, 6, 7, 8], turnTo 0 3 State.reset, by decide +kernel⟩,
   ⟨.hps, 0xFFFFF, [1], State.reset, by decide +kernel⟩,
   ⟨.hps, 0x100000, [1, 2], runs 9, by decide +kernel⟩,
   ⟨.hpq, 0x183FFF, [1], turnTo (portOf 0x183FFF) 1 (inState .armed 9), by decide +kernel⟩,
   ⟨.hps, 0x157FFF, [1], State.reset, by decide +kernel⟩,
   ⟨.hpq, 0x200000, [1, 2, 3, 4], turnTo (portOf 0x200000) 1 (inState .loaded 9), by decide +kernel⟩,
   ⟨.hps, BitVec.ofNat 32 (CSRC.base 5 + CSRC.CFG_ROUTE.off), 3, State.reset, by decide +kernel⟩,
   ⟨.hpq, 0, 8, { State.reset with memc := { State.reset.memc with waits := [.access (.plain .hpq) .hpq 64 4 false 0] } },
       by decide +kernel⟩,
   ⟨.hpq, 0xFFFF8, [1, 2], { State.reset with memc := { State.reset.memc with waits := [.access (.plain .hpq) .hpq 786432 4 false 0] } },
       by decide +kernel⟩,
   ⟨.hpq, 0xFFFF8, [1, 2], State.reset, by decide +kernel⟩,
   ⟨.hps, 0x400060, 5, { State.reset with memc := { State.reset.memc with waits := [.access (.plain .hps) .hps 4194368 4 false 0] } },
       by decide +kernel⟩⟩

theorem witness_peerAccessesLeaveAndEnd :
    (∃ (i : Initiator) (a : Word) (v : Word) (w : Bool) (h : Bool) (p : Fin 2) (s : State),
        (peerOf s a.toNat).isSome ∧ a.toNat % (if h then 2 else 4) = 0 ∧
        ((a.toNat % 0x1000000 < 0x406040 ∨ 0x406058 ≤ a.toNat % 0x1000000)) ∧
        pathPort s ((a.toNat - 0x10000000) / 0x1000000) = some p ∧ busStopped s = false ∧ portOpen s i 10) ∧
    (∃ (i : Initiator) (a : Word) (v : Word) (w : Bool) (h : Bool) (p : Fin 2) (s : State),
        (peerOf s a.toNat).isSome ∧ a.toNat % (if h then 2 else 4) = 0 ∧
        ((a.toNat % 0x1000000 < 0x406040 ∨ 0x406058 ≤ a.toNat % 0x1000000)) ∧
        pathPort s ((a.toNat - 0x10000000) / 0x1000000) = some p ∧ busStopped s = false ∧ portOpen s i 10) ∧
    (∃ (i : Initiator) (a : Word) (v : Word) (w : Bool) (h : Bool) (p : Fin 2) (s : State),
        (peerOf s a.toNat).isSome ∧ a.toNat % (if h then 2 else 4) = 0 ∧
        ((a.toNat % 0x1000000 < 0x406040 ∨ 0x406058 ≤ a.toNat % 0x1000000)) ∧
        pathPort s ((a.toNat - 0x10000000) / 0x1000000) = some p ∧ busStopped s = false ∧ portOpen s i 10) ∧
    (∃ (i : Initiator) (a : Word) (v : Word) (w : Bool) (h : Bool) (s : State), (peerOf s a.toNat).isSome ∧
        a.toNat % (if h then 2 else 4) = 0 ∧ ((a.toNat % 0x1000000 < 0x406040 ∨ 0x406058 ≤ a.toNat % 0x1000000)) ∧
        pathPort s ((a.toNat - 0x10000000) / 0x1000000) = none ∧ busStopped s = false ∧ portOpen s i 10) ∧
    (∃ (i : Initiator) (r : PeerReq) (s : State), r.who = .plain i ∧ s.link.reqs.find? (fun r =>
        decide (r.at_ + 400 * s.cfg LINK.base LINK.TOL_MEM_TMO ≤ s.tick)) = some r) ∧
    (∃ (i : Initiator) (j : Fin 8) (d : BitVec 3) (v : Word) (p : Fin 2) (s : State), submitterOf i = some j ∧
        d.toNat ≠ s.linkId ∧ ((∀ q ∈ s.link.remote[j].peers, q = none ∨ q = some d.toNat)) ∧
        pathPort s d.toNat = some p ∧ busStopped s = false ∧ portOpen s i 10) ∧
    (∃ (i : Initiator) (d : BitVec 3) (v : Word) (s : State), submitterOf i = none ∧ d.toNat ≠ s.linkId ∧
        busStopped s = false ∧ portOpen s i 10) :=
  ⟨⟨.hps, 0x11000000, 5, false, true, 0, linked 9, by decide +kernel⟩,
   ⟨.core 1, 0x1140603C, 5, true, false, 0, linked 9, by decide +kernel⟩,
   ⟨.core 1, 0x11406058, 5, true, false, 0, linked 9, by decide +kernel⟩,
   ⟨.hpq, 0x17000000, 5, false, false, turnTo 10 1 (linked 9), by decide +kernel⟩,
   ⟨.hpq, peerReq false (.plain .hpq), (linked 1000000).updLink (fun x =>
       { x with reqs := [peerReq false (.plain .hpq)] }), by decide +kernel⟩,
   ⟨.hps, 1, 1, 0x10000, 0, linked 9, by decide +kernel⟩,
   ⟨.fl, 1, 0x10000, turnTo 10 3 (linked 9), by decide +kernel⟩⟩

theorem witness_scrubberTakesFreeCycles :
    (∃ (p : Fin 9) (a : Nat) (i : Nat) (j : Nat) (q : Option Nat) (s : State), scrubOpen s p.val ∧
        s.memc.wb.find? (fun e => e.1 == p.val) = some (p.val, a) ∧ a < 0x158000 ∧ a % 8 = 0 ∧
        eccDecode (s.pattern (a / 8)) = .corrected i q ∧ j = a / 8) ∧
    (∃ (p : Fin 9) (s : State), scrubOpen s p.val ∧ s.memc.wb.find? (fun e => e.1 == p.val) = none ∧ p.val < 4 ∧
        tget s.memc.pos p.val 0 + 1 < passLength p.val) ∧
    (∃ (p : Fin 9) (s : State), scrubOpen s p.val = false) :=
  ⟨⟨0, 0x40, 3, 8, none, { ((runs 9).wrBoth MEM.base MEM.SCRUB_CFG_EN 1) with memErr := [(8, 8)], memc := { State.reset.memc with wb := [(0, 0x40)] } },
      by decide +kernel⟩,
   ⟨3, (runs 9).wrBoth MEM.base MEM.SCRUB_CFG_EN 1, by decide +kernel⟩,
   ⟨5, State.reset, by decide +kernel⟩⟩

theorem witness_hostPortAnswersFrames :
    (∃ (a : BitVec 15) (s : State) (d : Nat), s.host.gen = 1 ∧ hostDeaf s = false ∧ ((a = 0 ∧ d = 0xC101) ∨ (a = 1 ∧
        d = 0x6416) ∨ (a = 2 ∧ d = s.host.win % 65536) ∨ (a = 3 ∧ d = s.host.win / 65536))) ∧
    (∃ (a : BitVec 15) (s : State) (d : Nat), s.host.gen = 1 ∧ hostDeaf s = false ∧ ((a = 0 ∧ d = 0xC101) ∨ (a = 1 ∧
        d = 0x6416) ∨ (a = 2 ∧ d = s.host.win % 65536) ∨ (a = 3 ∧ d = s.host.win / 65536))) ∧
    (∃ (a : BitVec 15) (s : State) (d : Nat), s.host.gen = 1 ∧ hostDeaf s = false ∧ ((a = 0 ∧ d = 0xC101) ∨ (a = 1 ∧
        d = 0x6416) ∨ (a = 2 ∧ d = s.host.win % 65536) ∨ (a = 3 ∧ d = s.host.win / 65536))) ∧
    (∃ (a : BitVec 15) (s : State) (d : Nat), s.host.gen = 1 ∧ hostDeaf s = false ∧ ((a = 0 ∧ d = 0xC101) ∨ (a = 1 ∧
        d = 0x6416) ∨ (a = 2 ∧ d = s.host.win % 65536) ∨ (a = 3 ∧ d = s.host.win / 65536))) ∧
    (∃ (a : BitVec 15) (s : State), s.host.gen = 1 ∧ hostDeaf s = false ∧ a = 0x10) ∧
    (∃ (a : BitVec 15) (s : State), s.host.gen = 1 ∧ hostDeaf s = false ∧ a = 4 ∧ s.host.win % 2 = 0 ∧
        s.host.win < 0x100000 ∧ s.pattern (s.host.win / 8) = 0 ∧ portOpen s .hps (portOf (targetOf s s.host.win))) ∧
    (∃ (a : BitVec 15) (s : State), s.host.gen = 1 ∧ hostDeaf s = false ∧ a = 4 ∧ s.host.win % 2 = 0 ∧
        s.host.win < 0x100000 ∧ s.pattern (s.host.win / 8) = 0 ∧ portOpen s .hps (portOf (targetOf s s.host.win))) ∧
    (∃ (v : Half) (s : State), s.host.gen = 1 ∧ hostDeaf s = false) ∧
    (∃ (v : Half) (s : State), s.host.gen = 1 ∧ hostDeaf s = false) ∧
    (∃ (v : Half) (s : State), s.host.gen = 1 ∧ hostDeaf s = false ∧ s.host.win % 2 = 0 ∧ s.host.win < 0x100000 ∧
        s.pattern (s.host.win / 8) = 0 ∧ portOpen s .hps (portOf (targetOf s s.host.win))) ∧
    (∃ (s : State), s.host.gen = 1 ∧ hostDeaf s = false) ∧
    (∃ (cmd : Word) (addr : Word) (crc : Half) (s : State), s.host.gen ≠ 1 ∧ s.host.hps = none ∧ hostDeaf s = false ∧
        crc16 (beWords [cmd, addr]) = crc.toNat ∧ cmdBad cmd 1 = false ∧ addr.toNat % 4 = 0 ∧ reqWords cmd = 1 ∧
        addr.toNat < 0x100000 ∧ s.pattern (addr.toNat / 8) = 0 ∧ portOpen s .hps (portOf (targetOf s addr.toNat))) ∧
    (∃ (cmd : Word) (addr : Word) (v : Word) (crc : Half) (s : State), s.host.gen ≠ 1 ∧ s.host.hps = none ∧
        hostDeaf s = false ∧ crc16 (beWords [cmd, addr, v]) = crc.toNat ∧ cmdBad cmd 2 = false ∧ addr.toNat % 4 = 0 ∧
        reqWords cmd = 1 ∧ addr.toNat < 0x100000 ∧ s.pattern (addr.toNat / 8) = 0 ∧
        portOpen s .hps (portOf (targetOf s addr.toNat))) ∧
    (∃ (cmd : Word) (addr : Word) (crc : Half) (s : State), s.host.gen ≠ 1 ∧ s.host.hps = none ∧ hostDeaf s = false ∧
        crc16 (beWords [cmd, addr]) ≠ crc.toNat) ∧
    (∃ (cmd : Word) (addr : Word) (crc : Half) (s : State), s.host.gen ≠ 1 ∧ s.host.hps = none ∧ hostDeaf s = false ∧
        crc16 (beWords [cmd, addr]) = crc.toNat ∧ cmdBad cmd 1) ∧
    (∃ (cmd : Word) (addr : Word) (crc : Half) (s : State), s.host.gen ≠ 1 ∧ s.host.hps = none ∧ hostDeaf s = false ∧
        crc16 (beWords [cmd, addr]) = crc.toNat ∧ cmdBad cmd 1 = false ∧ addr.toNat % 4 ≠ 0) ∧
    (∃ (r : HostReq) (s : State), s.host.hps = some r) ∧
    (∃ (cmd : Word) (addr : Word) (crc : Half) (s : State), s.host.gen ≠ 1 ∧ s.host.hps = none ∧ hostDeaf s = false ∧
        crc16 (beWords [cmd, addr]) = crc.toNat ∧ cmdBad cmd 1 = false ∧ addr.toNat % 4 = 0 ∧
        portOpen s .hps (portOf (targetOf s addr.toNat)) = false) :=
  ⟨⟨0, runs 9, 0xC101, by decide +kernel⟩,
   ⟨1, runs 9, 0x6416, by decide +kernel⟩,
   ⟨2, runs 9, 0, by decide +kernel⟩,
   ⟨3, runs 9, 0, by decide +kernel⟩,
   ⟨0x10, runs 9, by decide +kernel⟩,
   ⟨4, runs 9, by decide +kernel⟩,
   ⟨4, (runs 9).updHost (fun x => { x with win := 0xFFFFE }), by decide +kernel⟩,
   ⟨7, runs 9, by decide +kernel⟩,
   ⟨7, runs 9, by decide +kernel⟩,
   ⟨7, runs 9, by decide +kernel⟩,
   ⟨runs 9, by decide +kernel⟩,
   ⟨0x10000000, 0x40, crcHps [0x10000000, 0x40], gen2, by decide +kernel⟩,
   ⟨0x20000000, 0x40, 9, crcHps [0x20000000, 0x40, 9], gen2, by decide +kernel⟩,
   ⟨0x10000000, 0x40, crcHps [0x10000000, 0x40] + 1, gen2, by decide +kernel⟩,
   ⟨0x10000001, 0x40, crcHps [0x10000001, 0x40], gen2, by decide +kernel⟩,
   ⟨0x10000000, 0x42, crcHps [0x10000000, 0x42], gen2, by decide +kernel⟩,
   ⟨hostReq, gen2.updHost (fun x => { x with hps := some hostReq }), by decide +kernel⟩,
   ⟨0x10000000, 0x40, crcHps [0x10000000, 0x40],
       { gen2 with memc := { State.reset.memc with waits := [.access (.plain .hps) .hps 0 4 false 0] } },
       by decide +kernel⟩⟩

theorem witness_packetPortExecutesInSequence :
    (∃ (h0 : Word) (h1 : Word) (crc : Word) (s : State), hostDeaf s = false ∧ s.clockOff 0x69 = false ∧
        s.host.hpq = none ∧ crc32 (beWords [h0, h1]) = crc.toNat) ∧
    (∃ (h0 : Word) (h1 : Word) (crc : Word) (s : State), hostDeaf s = false ∧ s.clockOff 0x69 = false ∧
        s.host.hpq = none ∧ crc32 (beWords [h0, h1]) ≠ crc.toNat) ∧
    (∃ (h0 : Word) (h1 : Word) (v : Word) (crc : Word) (s : State), hostDeaf s = false ∧ s.clockOff 0x69 = false ∧
        s.host.hpq = none ∧ crc32 (beWords [h0, h1, v]) = crc.toNat ∧ h0Bad h0 2 = false ∧ h1.toNat % 4 = 0 ∧
        reqWords h0 = 1 ∧ ((s.flag HPQ.base HPQ.SEQ_VALID = false ∨ bits h0.toNat 15 0 = (s.rd HPQ.base HPQ.SEQ_LAST + 1) % 65536)) ∧
        h1.toNat < 0x100000 ∧ s.pattern (h1.toNat / 8) = 0 ∧ portOpen s .hpq (portOf (targetOf s h1.toNat))) ∧
    (∃ (h0 : Word) (h1 : Word) (v : Word) (crc : Word) (s : State), hostDeaf s = false ∧ s.clockOff 0x69 = false ∧
        s.host.hpq = none ∧ crc32 (beWords [h0, h1, v]) = crc.toNat ∧ h0Bad h0 2 = false ∧ h1.toNat % 4 = 0 ∧
        reqWords h0 = 1 ∧ ((s.flag HPQ.base HPQ.SEQ_VALID = false ∨ bits h0.toNat 15 0 = (s.rd HPQ.base HPQ.SEQ_LAST + 1) % 65536)) ∧
        h1.toNat < 0x100000 ∧ s.pattern (h1.toNat / 8) = 0 ∧ portOpen s .hpq (portOf (targetOf s h1.toNat))) ∧
    (∃ (s : State), s.clockOff 0x69 = false) ∧
    (∃ (h0 : Word) (h1 : Word) (crc : Word) (l : List Word) (s : State), hostDeaf s = false ∧
        s.clockOff 0x69 = false ∧ s.host.hpq = none ∧ l.length = reqWords h0 ∧
        crc32 (beWords (h0 :: h1 :: l)) ≠ crc.toNat) ∧
    (∃ (h0 : Word) (h1 : Word) (crc : Word) (l : List Word) (s : State), hostDeaf s = false ∧
        s.clockOff 0x69 = false ∧ s.host.hpq = none ∧ l.length = reqWords h0 ∧
        crc32 (beWords (h0 :: h1 :: l)) = crc.toNat ∧ s.flag HPQ.base HPQ.SEQ_VALID ∧
        bits h0.toNat 15 0 = s.rd HPQ.base HPQ.SEQ_LAST) ∧
    (∃ (h0 : Word) (h1 : Word) (crc : Word) (l : List Word) (s : State), hostDeaf s = false ∧
        s.clockOff 0x69 = false ∧ s.host.hpq = none ∧ l.length = reqWords h0 ∧
        crc32 (beWords (h0 :: h1 :: l)) = crc.toNat ∧ s.flag HPQ.base HPQ.SEQ_VALID ∧
        bits h0.toNat 15 0 ≠ s.rd HPQ.base HPQ.SEQ_LAST ∧
        bits h0.toNat 15 0 ≠ (s.rd HPQ.base HPQ.SEQ_LAST + 1) % 65536) ∧
    (∃ (h0 : Word) (h1 : Word) (crc : Word) (l : List Word) (s : State), hostDeaf s = false ∧
        s.clockOff 0x69 = false ∧ s.host.hpq = none ∧ l.length = reqWords h0 ∧
        crc32 (beWords (h0 :: h1 :: l)) = crc.toNat ∧ s.flag HPQ.base HPQ.SEQ_VALID ∧
        bits h0.toNat 15 0 ≠ s.rd HPQ.base HPQ.SEQ_LAST ∧
        bits h0.toNat 15 0 ≠ (s.rd HPQ.base HPQ.SEQ_LAST + 1) % 65536) ∧
    (∃ (s : State), s.clockOff 0x69) :=
  ⟨⟨0x10000000, 0x40, crcHpq [0x10000000, 0x40], gen2, by decide +kernel⟩,
   ⟨0x10000000, 0x40, crcHpq [0x10000000, 0x40] + 1, gen2, by decide +kernel⟩,
   ⟨0x20000000, 0x40, 9, crcHpq [0x20000000, 0x40, 9], turnTo 0 1 gen2, by decide +kernel⟩,
   ⟨0x20000000, 0x40, 9, crcHpq [0x20000000, 0x40, 9],
       turnTo 0 1 ((gen2.wr HPQ.base HPQ.SEQ_VALID 1).wr HPQ.base HPQ.SEQ_LAST 0xFFFF), by decide +kernel⟩,
   ⟨((gen2.wr HPQ.base HPQ.SEQ_VALID 1).wr HPQ.base HPQ.SEQ_LAST 5), by decide +kernel⟩,
   ⟨0x20000000, 0x40, crcHpq [0x20000000, 0x40, 9] + 1, [9], gen2, by decide +kernel⟩,
   ⟨0x20000005, 0x40, crcHpq [0x20000005, 0x40, 9], [9],
       ((gen2.wr HPQ.base HPQ.SEQ_VALID 1).wr HPQ.base HPQ.SEQ_LAST 5), by decide +kernel⟩,
   ⟨0x20000007, 0x40, crcHpq [0x20000007, 0x40, 9], [9],
       ((gen2.wr HPQ.base HPQ.SEQ_VALID 1).wr HPQ.base HPQ.SEQ_LAST 5), by decide +kernel⟩,
   ⟨0x20000004, 0x40, crcHpq [0x20000004, 0x40, 9], [9],
       ((gen2.wr HPQ.base HPQ.SEQ_VALID 1).wr HPQ.base HPQ.SEQ_LAST 5), by decide +kernel⟩,
   ⟨gen2.wrBoth HPQ.base HDR.CTRL_ENABLE 0, by decide +kernel⟩⟩

theorem witness_flashBootsAndRunsCommands :
    (∃ (l : List Byte) (s : State), busStopped s = false ∧ s.rd FL.base FL.BOOT_STAGE = 1 ∧ leAt l 0 4 ≠ 0x54425643) ∧
    (∃ (l : List Byte) (s : State), busStopped s = false ∧ s.rd FL.base FL.BOOT_STAGE = 1 ∧ leAt l 0 4 = 0x54425643 ∧
        crc32 (l.take 0x20) ≠ leAt l 0x20 4) ∧
    (∃ (l : List Byte) (s : State), busStopped s = false ∧ s.rd FL.base FL.BOOT_STAGE = 1 ∧ leAt l 0 4 = 0x54425643 ∧
        crc32 (l.take 0x20) = leAt l 0x20 4) ∧
    (∃ (l : List Byte) (s : State), busStopped s = false ∧ s.rd FL.base FL.BOOT_STAGE = 2 ∧ s.link.reqs = [] ∧
        waitsAny s .fl = false ∧ crc32 (l.take (8 * s.flash.initN)) ≠ s.flash.initCrc) ∧
    (∃ (l : List Byte) (s : State), busStopped s = false ∧ s.rd FL.base FL.BOOT_STAGE = 2 ∧ s.link.reqs = [] ∧
        waitsAny s .fl = false ∧ crc32 (l.take (8 * s.flash.initN)) = s.flash.initCrc ∧ s.flash.initN = 0) ∧
    (∃ (l : List Byte) (s : State) (a : Nat) (v : Nat), busStopped s = false ∧ s.rd FL.base FL.BOOT_STAGE = 2 ∧
        s.link.reqs = [] ∧ waitsAny s .fl = false ∧ crc32 (l.take (8 * s.flash.initN)) = s.flash.initCrc ∧
        s.flag MEM.base MEM.INJ_CTL_ARM = false ∧ a = leAt l 0 4 / 4 * 4 ∧ v = leAt l 4 4 ∧ a < 0x100000 ∧
        s.pattern (a / 8) = 0 ∧ portOpen s .fl (a / 0x40000) ∧ s.flash.initN = 1) ∧
    (∃ (l : List Byte) (s : State) (a : Nat) (v : Nat) (b : Nat) (w : Nat), busStopped s = false ∧
        s.rd FL.base FL.BOOT_STAGE = 2 ∧ s.link.reqs = [] ∧ waitsAny s .fl = false ∧
        crc32 (l.take (8 * s.flash.initN)) = s.flash.initCrc ∧ s.flag MEM.base MEM.INJ_CTL_ARM = false ∧
        a = leAt l 0 4 / 4 * 4 ∧ v = leAt l 4 4 ∧ a < 0x100000 ∧ s.pattern (a / 8) = 0 ∧
        portOpen s .fl (a / 0x40000) ∧ b = leAt l 8 4 / 4 * 4 ∧ w = leAt l 12 4 ∧ 2 ≤ s.flash.initN ∧
        b / 0x40000 = a / 0x40000) ∧
    (∃ (l : List Byte) (s : State), busStopped s = false ∧ s.rd FL.base FL.BOOT_STAGE = 2 ∧ s.link.reqs = [] ∧
        waitsAny s .fl = false ∧ crc32 (l.take (8 * s.flash.initN)) = s.flash.initCrc ∧ 0 < s.flash.initN ∧
        regionOf (leAt l 0 4 / 4 * 4) = none ∧ portOpen s .fl 11) ∧
    (∃ (a : Nat) (v : Nat) (s : State), s.rd FL.base FL.BOOT_STAGE = 2 ∧ s.flash.todo = [] ∧ a < 0x100000 ∧
        a % 4 = 0 ∧ s.pattern (a / 8) = 0 ∧ s.flag MEM.base MEM.INJ_CTL_ARM = false) ∧
    (∃ (l : List Byte) (d : List Byte) (a : Nat) (s : State), busStopped s = false ∧ s.rd FL.base FL.BOOT_STAGE = 3 ∧
        a = s.flash.loadAddr ∧ d = l.take s.flash.imgSize ∧ s.flash.job.isSome) ∧
    (∃ (l : List Byte) (d : List Byte) (a : Nat) (s : State), busStopped s = false ∧ s.rd FL.base FL.BOOT_STAGE = 3 ∧
        a = s.flash.loadAddr ∧ d = l.take s.flash.imgSize ∧ s.flash.job = none ∧
        (d = [] ∨ (portOpen s .fl (a / 0x40000) ∧ flSize a d.length = d.length)) ∧ a + d.length ≤ 0x100000 ∧
        s.flag MEM.base MEM.INJ_CTL_ARM = false ∧ ((∀ k, k < d.length → s.pattern ((a + k) / 8) = 0))) ∧
    (∃ (l : List Byte) (d : List Byte) (a : Nat) (s : State), busStopped s = false ∧ s.rd FL.base FL.BOOT_STAGE = 3 ∧
        a = s.flash.loadAddr ∧ d = l.take s.flash.imgSize ∧ s.flash.job = none ∧
        (d = [] ∨ (portOpen s .fl (a / 0x40000) ∧ flSize a d.length = d.length)) ∧ a + d.length ≤ 0x100000 ∧
        s.flag MEM.base MEM.INJ_CTL_ARM = false ∧ ((∀ k, k < d.length → s.pattern ((a + k) / 8) = 0))) ∧
    (∃ (l : List Byte) (d : List Byte) (a : Nat) (s : State), busStopped s = false ∧ s.rd FL.base FL.BOOT_STAGE = 3 ∧
        a = s.flash.loadAddr ∧ d = l.take s.flash.imgSize ∧ s.flash.job = none ∧ d ≠ [] ∧
        portOpen s .fl (portOf (targetOf s a)) = false) ∧
    (∃ (w : Bool) (boot : Bool) (a : Nat) (n : Nat) (m : Nat) (d : List Byte) (s : State) (t : State),
        s.flash.job = some ⟨w, boot, a, n, d⟩ ∧ m = flSize a n ∧ n ≠ 0 ∧ a + n ≤ 0x100000 ∧
        s.flag MEM.base MEM.INJ_CTL_ARM = false ∧ ((∀ k, k < n → s.pattern ((a + k) / 8) = 0)) ∧
        ((w → d.length = n)) ∧ t = takeWait (.access .flash .fl a m w (leNat (d.take m))) s ∧
        (m = n ∨ (a + m) / 0x40000 = a / 0x40000)) ∧
    (∃ (w : Bool) (boot : Bool) (a : Nat) (n : Nat) (m : Nat) (d : List Byte) (s : State) (t : State),
        s.flash.job = some ⟨w, boot, a, n, d⟩ ∧ m = flSize a n ∧ n ≠ 0 ∧ a + n ≤ 0x100000 ∧
        s.flag MEM.base MEM.INJ_CTL_ARM = false ∧ ((∀ k, k < n → s.pattern ((a + k) / 8) = 0)) ∧
        ((w → d.length = n)) ∧ t = takeWait (.access .flash .fl a m w (leNat (d.take m))) s ∧
        (m = n ∨ (a + m) / 0x40000 = a / 0x40000)) ∧
    (∃ (w : Bool) (boot : Bool) (a : Nat) (n : Nat) (m : Nat) (d : List Byte) (s : State) (t : State),
        s.flash.job = some ⟨w, boot, a, n, d⟩ ∧ m = flSize a n ∧ n ≠ 0 ∧ a + n ≤ 0x100000 ∧
        s.flag MEM.base MEM.INJ_CTL_ARM = false ∧ ((∀ k, k < n → s.pattern ((a + k) / 8) = 0)) ∧
        ((w → d.length = n)) ∧ t = takeWait (.access .flash .fl a m w (leNat (d.take m))) s ∧ m = n) ∧
    (∃ (w : Bool) (boot : Bool) (a : Nat) (n : Nat) (m : Nat) (d : List Byte) (s : State) (t : State),
        s.flash.job = some ⟨w, boot, a, n, d⟩ ∧ m = flSize a n ∧ n ≠ 0 ∧ a + n ≤ 0x100000 ∧
        s.flag MEM.base MEM.INJ_CTL_ARM = false ∧ ((∀ k, k < n → s.pattern ((a + k) / 8) = 0)) ∧
        ((w → d.length = n)) ∧ t = takeWait (.access .flash .fl a m w (leNat (d.take m))) s ∧ m = n) ∧
    (∃ (w : Bool) (boot : Bool) (a : Nat) (n : Nat) (m : Nat) (d : List Byte) (s : State) (t : State) (l : List Byte),
        s.flash.job = some ⟨w, boot, a, n, d⟩ ∧ m = flSize a n ∧ n ≠ 0 ∧ a + n ≤ 0x100000 ∧
        s.flag MEM.base MEM.INJ_CTL_ARM = false ∧ ((∀ k, k < n → s.pattern ((a + k) / 8) = 0)) ∧
        ((w → d.length = n)) ∧ t = takeWait (.access .flash .fl a m w (leNat (d.take m))) s ∧ m < n ∧
        (a + m) / 0x40000 = a / 0x40000 ∧ l = (if w then d.drop m else d ++ (List.range m).map (fun k =>
        s.byte (a + k)))) ∧
    (∃ (w : Bool) (boot : Bool) (a : Nat) (n : Nat) (m : Nat) (d : List Byte) (s : State) (t : State) (l : List Byte),
        s.flash.job = some ⟨w, boot, a, n, d⟩ ∧ m = flSize a n ∧ n ≠ 0 ∧ a + n ≤ 0x100000 ∧
        s.flag MEM.base MEM.INJ_CTL_ARM = false ∧ ((∀ k, k < n → s.pattern ((a + k) / 8) = 0)) ∧
        ((w → d.length = n)) ∧ t = takeWait (.access .flash .fl a m w (leNat (d.take m))) s ∧ m < n ∧
        (a + m) / 0x40000 = a / 0x40000 ∧ l = (if w then d.drop m else d ++ (List.range m).map (fun k =>
        s.byte (a + k)))) ∧
    (∃ (l : List Byte) (s : State), busStopped s = false ∧ s.rd FL.base FL.BOOT_STAGE = 4 ∧ s.plan.load = .idle) ∧
    (∃ (l : List Byte) (s : State), busStopped s = false ∧ s.rd FL.base FL.BOOT_STAGE = 4 ∧ s.plan.load = .idle) ∧
    (∃ (l : List Byte) (s : State), busStopped s = false ∧ s.rd FL.base FL.BOOT_STAGE = 4 ∧ s.plan.load = .idle) ∧
    (∃ (l : List Byte) (s : State), busStopped s = false ∧ s.rd FL.base FL.BOOT_STAGE = 5) ∧
    (∃ (l : List Byte) (s : State), busStopped s = false ∧ s.rd FL.base FL.BOOT_STAGE = 5) ∧
    (∃ (s : State), s.clockOff 0x6A = false ∧ s.flag FL.base FL.CTRL_BUSY = false) ∧
    (∃ (s : State), s.clockOff 0x6A = false ∧ s.flag FL.base FL.CTRL_BUSY = false) ∧
    (∃ (s : State), (s.clockOff 0x6A ∨ s.flag FL.base FL.CTRL_BUSY)) ∧
    (∃ (s : State), (s.clockOff 0x6A ∨ s.flag FL.base FL.CTRL_BUSY)) ∧
    (∃ (l : List Byte) (s : State), s.flag FL.base FL.CTRL_BUSY ∧ bootRuns s = false ∧ busStopped s = false ∧
        s.flash.job = none ∧ s.flag FL.base FL.OP_WRITE = false ∧ l.length ≤ s.rd FL.base FL.LEN_BYTES ∧ l ≠ [] ∧
        portOpen s .fl (portOf (targetOf s (s.rd FL.base FL.BUF_ADDR))) = false) ∧
    (∃ (l : List Byte) (s : State), s.flash.job.isSome) ∧
    (∃ (l : List Byte) (s : State), s.flag FL.base FL.CTRL_BUSY ∧ bootRuns s = false ∧ busStopped s = false ∧
        s.flash.job = none ∧ s.flag FL.base FL.OP_WRITE = false ∧ l.length ≤ s.rd FL.base FL.LEN_BYTES ∧
        (l = [] ∨ (portOpen s .fl (s.rd FL.base FL.BUF_ADDR / 0x40000) ∧
        flSize (s.rd FL.base FL.BUF_ADDR) l.length = l.length)) ∧ s.rd FL.base FL.BUF_ADDR + l.length ≤ 0x100000 ∧
        s.flag MEM.base MEM.INJ_CTL_ARM = false ∧ ((∀ k,
        k < l.length → s.pattern ((s.rd FL.base FL.BUF_ADDR + k) / 8) = 0))) ∧
    (∃ (l : List Byte) (s : State), s.flag FL.base FL.CTRL_BUSY ∧ bootRuns s = false ∧ busStopped s = false ∧
        s.flash.job = none ∧ s.flag FL.base FL.OP_WRITE = false ∧ l.length ≤ s.rd FL.base FL.LEN_BYTES ∧
        (l = [] ∨ (portOpen s .fl (s.rd FL.base FL.BUF_ADDR / 0x40000) ∧
        flSize (s.rd FL.base FL.BUF_ADDR) l.length = l.length)) ∧ s.rd FL.base FL.BUF_ADDR + l.length ≤ 0x100000 ∧
        s.flag MEM.base MEM.INJ_CTL_ARM = false ∧ ((∀ k,
        k < l.length → s.pattern ((s.rd FL.base FL.BUF_ADDR + k) / 8) = 0))) ∧
    (∃ (l : List Byte) (s : State), s.flag FL.base FL.CTRL_BUSY ∧ bootRuns s = false ∧ busStopped s = false ∧
        s.flash.job = none ∧ s.flag FL.base FL.OP_WRITE) :=
  ⟨⟨[], boots 1, by decide +kernel⟩,
   ⟨bootHeader.set 4 1, boots 1, by decide +kernel⟩,
   ⟨bootHeader, boots 1, by decide +kernel⟩,
   ⟨asBytes 8 0x900000040, { boots 2 with flash := { State.reset.flash with initN := 1, initCrc := 5 } },
       by decide +kernel⟩,
   ⟨[], boots 2, by decide +kernel⟩,
   ⟨asBytes 8 0x900000040, { turnTo 0 3 (boots 2) with flash := { State.reset.flash with initN := 1, initCrc := crc32 (asBytes 8 0x900000040) } },
       0x40, 9, by decide +kernel⟩,
   ⟨(asBytes 8 0x900000040 ++ asBytes 8 0x900000040),
       { turnTo 0 3 (boots 2) with flash := { State.reset.flash with initN := 2, initCrc := crc32 (asBytes 8 0x900000040 ++ asBytes 8 0x900000040) } },
       0x40, 9, 0x40, 9, by decide +kernel⟩,
   ⟨asBytes 8 0x900158000, { boots 2 with flash := { State.reset.flash with initN := 1, initCrc := crc32 (asBytes 8 0x900158000) } },
       by decide +kernel⟩,
   ⟨0xFFFFC, 9, boots 2, by decide +kernel⟩,
   ⟨[1, 2], [], 0, moving ⟨true, true, 0, 2, [1, 2]⟩ (boots 3), by decide +kernel⟩,
   ⟨[1, 2], [1, 2], 0xFFFFE, { turnTo 3 3 (boots 3) with flash := { State.reset.flash with imgSize := 2, loadAddr := 0xFFFFE } },
       by decide +kernel⟩,
   ⟨[], [], 0, boots 3, by decide +kernel⟩,
   ⟨[1, 2], [1, 2], 0x10000, { boots 3 with flash := { State.reset.flash with imgSize := 2, loadAddr := 65536 } },
       by decide +kernel⟩,
   ⟨true, false, 0xFFFFE, 2, 2, [1, 2], moving ⟨true, false, 0xFFFFE, 2, [1, 2]⟩ (runs 9),
       takeWait (.access .flash .fl 0xFFFFE 2 true (leNat (([1, 2] : List Byte).take 2))) (moving ⟨true, false,
       0xFFFFE, 2, [1, 2]⟩ (runs 9)), by decide +kernel⟩,
   ⟨false, false, 0x10, 9, 8, [], moving ⟨false, false, 0x10, 9, []⟩ (runs 9),
       takeWait (.access .flash .fl 0x10 8 false (leNat (([] : List Byte).take 8))) (moving ⟨false, false, 0x10, 9,
       []⟩ (runs 9)), by decide +kernel⟩,
   ⟨true, true, 0xFFFFE, 2, 2, [1, 2], moving ⟨true, true, 0xFFFFE, 2, [1, 2]⟩ (boots 3),
       takeWait (.access .flash .fl 0xFFFFE 2 true (leNat (([1, 2] : List Byte).take 2))) (moving ⟨true, true,
       0xFFFFE, 2, [1, 2]⟩ (boots 3)), by decide +kernel⟩,
   ⟨false, false, 0x10, 3, 3, [7], moving ⟨false, false, 0x10, 3, [7]⟩ (runs 9),
       takeWait (.access .flash .fl 0x10 3 false (leNat (([7] : List Byte).take 3))) (moving ⟨false, false, 0x10, 3,
       [7]⟩ (runs 9)), by decide +kernel⟩,
   ⟨true, true, 0xE, 3, 2, [1, 2, 3], moving ⟨true, true, 0xE, 3, [1, 2, 3]⟩ (boots 3),
       takeWait (.access .flash .fl 0xE 2 true (leNat (([1, 2, 3] : List Byte).take 2))) (moving ⟨true, true, 0xE, 3,
       [1, 2, 3]⟩ (boots 3)), [3], by decide +kernel⟩,
   ⟨false, false, 0x10, 9, 8, [], moving ⟨false, false, 0x10, 9, []⟩ (runs 9),
       takeWait (.access .flash .fl 0x10 8 false (leNat (([] : List Byte).take 8))) (moving ⟨false, false, 0x10, 9,
       []⟩ (runs 9)), [0, 0, 0, 0, 0, 0, 0, 0], by decide +kernel⟩,
   ⟨[], boots 4, by decide +kernel⟩,
   ⟨[], { boots 4 with flash := { State.reset.flash with flags := 1 } }, by decide +kernel⟩,
   ⟨[], (boots 4).wr PLAN.base PLAN.LOAD_STAT_RESULT 3, by decide +kernel⟩,
   ⟨[], boots 5, by decide +kernel⟩,
   ⟨[], (inState .armed 9).wr FL.base FL.BOOT_STAGE 5, by decide +kernel⟩,
   ⟨State.reset, by decide +kernel⟩,
   ⟨{ ((State.reset.wr FL.base FL.OP_WRITE 1).wr FL.base FL.LEN_BYTES 4) with mem := wordAt 0 5 }, by decide +kernel⟩,
   ⟨State.reset.wr FL.base FL.CTRL_BUSY 1, by decide +kernel⟩,
   ⟨(runs 9).wrBoth FL.base HDR.CTRL_ENABLE 0, by decide +kernel⟩,
   ⟨[1, 2, 3, 4], ((runs 9).wr FL.base FL.CTRL_BUSY 1).wr FL.base FL.LEN_BYTES 4, by decide +kernel⟩,
   ⟨[1, 2], moving ⟨true, false, 0, 2, [1, 2]⟩ (runs 9), by decide +kernel⟩,
   ⟨[1, 2, 3, 4], turnTo 0 3 (((runs 9).wr FL.base FL.CTRL_BUSY 1).wr FL.base FL.LEN_BYTES 4), by decide +kernel⟩,
   ⟨[], ((runs 9).wr FL.base FL.CTRL_BUSY 1).wr FL.base FL.LEN_BYTES 4, by decide +kernel⟩,
   ⟨[], (((runs 9).wr FL.base FL.CTRL_BUSY 1).wr FL.base FL.OP_WRITE 1).wr FL.base FL.LEN_BYTES 4, by decide +kernel⟩⟩

theorem witness_linkPortsTrainAndResend :
    (∃ (p : Fin 2) (two : Bool) (m : Bool) (nid : BitVec 3) (s : State), s.held = false ∧ portState s p = 1 ∧
        nid.toNat ≠ s.linkId ∧ 64 ≤ s.link.ports[p].pongs) ∧
    (∃ (p : Fin 2) (two : Bool) (m : Bool) (nid : BitVec 3) (s : State), s.held = false ∧ portState s p = 1 ∧
        nid.toNat = s.linkId) ∧
    (∃ (p : Fin 2) (s : State), portState s p = 1 ∧ s.link.ports[p].since + 80000 ≤ s.tick) ∧
    (∃ (p : Fin 2) (s : State), s.held = false ∧ portState s p = 0 ∧ s.link.ports[p].dup = false ∧
        (s.link.ports[p].since = 0 ∨ s.link.ports[p].since + 400000 ≤ s.tick)) ∧
    (∃ (p : Fin 2) (n : Nat) (s : State), s.held = false ∧ portState s p ≠ 0) ∧
    (∃ (p : Fin 2) (n : Nat) (s : State), portState s p = 1 ∧ s.link.ports[p].pongs < 64) ∧
    (∃ (p : Fin 2) (q : Byte) (l : List LinkFrame) (r : List LinkFrame) (f : LinkFrame) (s : State), portUp s p ∧
        s.link.ports[p].unacked = l ++ f :: r ∧ (∀ g ∈ l, g.lseq ≠ q.toNat) ∧ f.lseq = q.toNat) ∧
    (∃ (p : Fin 2) (s : State), portUp s p ∧ s.link.ports[p].unacked ≠ [] ∧
        s.link.ports[p].ackAt + s.cfg LINK.base LINK.RETRY_CFG_TMO ≤ s.tick ∧ s.link.ports[p].timeouts < 7) ∧
    (∃ (p : Fin 2) (s : State), portUp s p ∧ s.link.ports[p].unacked ≠ [] ∧
        s.link.ports[p].ackAt + s.cfg LINK.base LINK.RETRY_CFG_TMO ≤ s.tick ∧ 7 ≤ s.link.ports[p].timeouts) ∧
    (∃ (p : Fin 2) (s : State), portUp s p) ∧
    (∃ (p : Fin 2) (s : State), s.held = false ∧ portUp s p) :=
  ⟨⟨0, true, false, 1, (((linked 9).wr LINK.base LINK.STAT_UP 1).updPort 0 (fun x =>
      { x with pongs := 64, trips := 6400 })), by decide +kernel⟩,
   ⟨0, true, false, 0, (((linked 9).wr LINK.base LINK.STAT_UP 1).updPort 0 (fun x =>
       { x with pongs := 64, trips := 6400 })), by decide +kernel⟩,
   ⟨0, (((linked 80000).wr LINK.base LINK.STAT_UP 1).updPort 0 (fun x => { x with since := 0 })), by decide +kernel⟩,
   ⟨1, (runs 400000).wr LINK.base LINK.STAT_DOWN 0, by decide +kernel⟩,
   ⟨0, 30, (((linked 9).wr LINK.base LINK.STAT_UP 1).updPort 0 (fun x => { x with pongs := 3 })), by decide +kernel⟩,
   ⟨0, 30, (((linked 9).wr LINK.base LINK.STAT_UP 1).updPort 0 (fun x => { x with pongs := 63 })), by decide +kernel⟩,
   ⟨1, 5, [sentFrame 4], [sentFrame 6], sentFrame 5, (linked 9).updPort 1 (fun x =>
       { x with unacked := [sentFrame 4, sentFrame 5, sentFrame 6] }), by decide +kernel⟩,
   ⟨1, (linked 9999999).updPort 1 (fun x => { x with unacked := [sentFrame 4], timeouts := 6 }), by decide +kernel⟩,
   ⟨1, (linked 9999999).updPort 1 (fun x => { x with unacked := [sentFrame 4], timeouts := 7 }), by decide +kernel⟩,
   ⟨1, linked 9, by decide +kernel⟩,
   ⟨1, linked 9, by decide +kernel⟩⟩

theorem witness_heartsCarryStateAndRoles :
    (∃ (s : State), s.held = false ∧ heartDue s) ∧
    (∃ (s : State), s.held = false ∧ heartDue s) ∧
    (∃ (p : Fin 2) (f : HeartFrame) (s : State), s.held = false ∧ portUp s p ∧ f.crcOk ∧ f.src.toNat ≠ s.linkId ∧
        f.rst = false) ∧
    (∃ (p : Fin 2) (f : HeartFrame) (s : State), s.held = false ∧ portUp s p ∧ f.crcOk ∧ f.src.toNat ≠ s.linkId ∧
        f.rst ∧ f.rstId.toNat = s.linkId ∧ s.on LINK.base LINK.CFG_RST_EN) ∧
    (∃ (s : State), s.held = false ∧ s.on LINK.base LINK.CFG_TAKE_EN ∧ s.rd LINK.base LINK.STAT_ROLE = 2 ∧
        s.link.window + 400 ≤ s.tick ∧ s.link.missed + 1 < s.cfg LINK.base LINK.CFG_HB_MISS) ∧
    (∃ (s : State), s.held = false ∧ s.on LINK.base LINK.CFG_TAKE_EN ∧ s.rd LINK.base LINK.STAT_ROLE = 2 ∧
        s.link.window + 400 ≤ s.tick ∧ s.cfg LINK.base LINK.CFG_HB_MISS ≤ s.link.missed + 1) ∧
    (∃ (v : Word) (s : State), bit v.toNat 3) ∧
    (∃ (t0 : Nat) (s : State), s.link.heartAt = some t0 ∧ s.tick < t0 + 400) :=
  ⟨⟨linked 9, by decide +kernel⟩,
   ⟨(linked 1400).updLink (fun x => { x with hearts := 3, heartAt := some 1000 }), by decide +kernel⟩,
   ⟨1, heart false, linked 9, by decide +kernel⟩,
   ⟨1, heart true, (linked 9).wrBoth LINK.base LINK.CFG_RST_EN 1, by decide +kernel⟩,
   ⟨((((linked 400).wrBoth LINK.base LINK.CFG_TAKE_EN 1).wr LINK.base LINK.STAT_ROLE 2).wrBoth LINK.base LINK.CFG_HB_MISS 3).updLink (fun x =>
       { x with missed := 1 }), by decide +kernel⟩,
   ⟨((((linked 400).wrBoth LINK.base LINK.CFG_TAKE_EN 1).wr LINK.base LINK.STAT_ROLE 2).wrBoth LINK.base LINK.CFG_HB_MISS 3).updLink (fun x =>
       { x with missed := 2 }), by decide +kernel⟩,
   ⟨8, linked 9, by decide +kernel⟩,
   ⟨1000, (linked 1399).updLink (fun x => { x with hearts := 3, heartAt := some 1000 }), by decide +kernel⟩⟩

theorem witness_anglesLeadTheFollower :
    (∃ (s : State), s.ptStands = false ∧ s.dev.st ≠ .park ∧ s.on LINK.base LINK.CFG_TX_ANGLE ∧
        s.link.beatAngle ≠ s.pt / 40 + 1) ∧
    (∃ (p : Fin 2) (b : AngleBeat) (inc : Nat) (st : Bool) (s : State), beatInc b.exp.toNat b.mant.toNat = some (inc,
        st) ∧ s.held = false ∧ portUp s p ∧ b.crcOk ∧ b.src.toNat ≠ s.linkId ∧ following s = false) ∧
    (∃ (p : Fin 2) (b : AngleBeat) (inc : Nat) (s : State), beatInc b.exp.toNat b.mant.toNat = some (inc, false) ∧
        s.held = false ∧ portUp s p ∧ b.crcOk ∧ b.src.toNat ≠ s.linkId ∧ following s ∧ s.ptStands = false ∧
        s.dev.st ≠ .park ∧ s.dev.st ≠ .armed ∧ s.rd LINK.base LINK.STAT_ACTIVE_SRC = b.src.toNat ∧
        s.trk[(0 : Fin 2)].acq = .sync ∧ s.trk[(0 : Fin 2)].stalled = false ∧ s.dev.epochOpen = false ∧ b.isOpen ∧
        b.epoch.toNat = s.link.beatEpoch ∧ b.astern = s.trk[(0 : Fin 2)].astern) ∧
    (∃ (s : State), following s ∧ s.trk[(0 : Fin 2)].acq = .sync ∧ s.ptStands = false ∧ s.dev.epochOpen = false ∧
        ((∀ n, s.link.beatAt = some n → n + 400 * s.cfg LINK.base LINK.CFG_FLY ≤ s.tick))) :=
  ⟨⟨(linked 9).wrBoth LINK.base LINK.CFG_TX_ANGLE 1, by decide +kernel⟩,
   ⟨1, angleBeat, (512 + 243) * 2 ^ 23, false, linked 9, by decide +kernel⟩,
   ⟨1, angleBeat, (512 + 243) * 2 ^ 23, ((((linked 9).wrBoth LINK.base LINK.CFG_FOLLOW 1).wr LINK.base LINK.STAT_ACTIVE_SRC 1).updTrk 0 (fun x =>
       { x with acq := .sync })).updDev (fun x => { x with epochOpen := false }), by decide +kernel⟩,
   ⟨((((linked 9).wrBoth LINK.base LINK.CFG_FOLLOW 1).wr LINK.base LINK.STAT_ACTIVE_SRC 1).updTrk 0 (fun x =>
       { x with acq := .sync })).updDev (fun x => { x with epochOpen := false }), by decide +kernel⟩⟩

theorem witness_framesAreServedAndAnswered :
    (∃ (p : Fin 2) (f : MemFrame) (s : State), s.held = false ∧ portUp s p ∧ s.dev.st ≠ .park ∧
        f.dst.toNat = s.linkId ∧ f.crcOk ∧ f.lseq.toNat = s.link.ports[p].rxSeq ∧
        portOpen s .link (portOf (memAddr f)) ∧ s.memc.waits.any (sameSource f) = false) ∧
    (∃ (p : Fin 2) (f : MemFrame) (s : State), s.held = false ∧ portUp s p ∧ s.dev.st ≠ .park ∧
        f.dst.toNat = s.linkId ∧ f.crcOk ∧ f.lseq.toNat = s.link.ports[p].rxSeq ∧
        portOpen s .link (portOf (memAddr f)) ∧ s.memc.waits.any (sameSource f) = false ∧
        f.data.length = f.len.toNat + 1) ∧
    (∃ (p : Fin 2) (f : MemFrame) (s : State), s.held = false ∧ portUp s p ∧ s.dev.st ≠ .park ∧
        f.dst.toNat = s.linkId ∧ f.crcOk ∧ f.lseq.toNat = s.link.ports[p].rxSeq ∧
        (portOpen s .link (portOf (memAddr f)) = false ∨ s.memc.waits.any (sameSource f))) ∧
    (∃ (p : Fin 2) (f : MemFrame) (s : State), s.held = false ∧ portUp s p ∧ s.dev.st ≠ .park ∧
        f.dst.toNat = s.linkId ∧ f.crcOk ∧ f.lseq.toNat = s.link.ports[p].rxSeq ∧
        (portOpen s .link (portOf (memAddr f)) = false ∨ s.memc.waits.any (sameSource f)) ∧
        f.data.length = f.len.toNat + 1) ∧
    (∃ (p : Fin 2) (f : MemFrame) (s : State) (r : PeerReq) (i : Initiator), s.held = false ∧ portUp s p ∧
        s.dev.st ≠ .park ∧ f.dst.toNat = s.linkId ∧ f.crcOk ∧ f.lseq.toNat = s.link.ports[p].rxSeq ∧
        f.data.length = f.len.toNat + 1 ∧ f.status = 0 ∧ reqFor s f.src.toNat f.tag.toNat false = some r ∧
        r.who = .plain i) ∧
    (∃ (p : Fin 2) (f : MemFrame) (s : State) (r : PeerReq) (i : Initiator), s.held = false ∧ portUp s p ∧
        s.dev.st ≠ .park ∧ f.dst.toNat = s.linkId ∧ f.crcOk ∧ f.lseq.toNat = s.link.ports[p].rxSeq ∧
        reqFor s f.src.toNat f.tag.toNat true = some r ∧ r.who = .plain i) ∧
    (∃ (p : Fin 2) (w : Bool) (f : MemFrame) (st : Nat) (got : List Nat) (s : State),
        s.link.ports[p].unacked.length < 32) ∧
    (∃ (p : Fin 2) (w : Bool) (f : MemFrame) (st : Nat) (got : List Nat) (s : State),
        s.link.ports[p].unacked.length < 32) ∧
    (∃ (p : Fin 2) (w : Bool) (f : MemFrame) (k : Nat) (st : Nat) (v : Nat) (got : List Nat) (s : State) (u : State),
        f.len.toNat + 1 ≤ got.length) ∧
    (∃ (p : Fin 2) (w : Bool) (f : MemFrame) (k : Nat) (st : Nat) (v : Nat) (got : List Nat) (s : State) (u : State),
        got.length < f.len.toNat + 1 ∧ busAllows s 0x12 (portOf (memAddr f + 4 * got.length)) = false) ∧
    (∃ (p : Fin 2) (w : Bool) (f : MemFrame) (k : Nat) (st : Nat) (v : Nat) (got : List Nat) (s : State) (u : State),
        got.length < f.len.toNat + 1 ∧ busAllows s 0x12 (portOf (memAddr f + 4 * got.length)) ∧ st ≠ 0 ∧
        frameWord w f got.length (takeTurn 0x12 (portOf (memAddr f + 4 * got.length)) s) = ((st, v), u)) ∧
    (∃ (p : Fin 2) (f : OrderFrame) (s : State), s.held = false ∧ portUp s p ∧ s.dev.st ≠ .park ∧
        f.dst.toNat = s.linkId ∧ f.crcOk ∧ f.lseq.toNat = s.link.ports[p].rxSeq ∧
        s.link.ports[p].unacked.length < 32 ∧ s.islandHeld 2 = false) ∧
    (∃ (p : Fin 2) (f : ReplyFrame) (r : PeerReq) (s : State), s.held = false ∧ portUp s p ∧ s.dev.st ≠ .park ∧
        f.dst.toNat = s.linkId ∧ f.crcOk ∧ f.lseq.toNat = s.link.ports[p].rxSeq ∧
        reqFor s f.src.toNat f.tag.toNat true = some r ∧ r.who = .order 1 ∧ s.host.gen = 1) ∧
    (∃ (p : Fin 2) (f : OrderFrame) (s : State), s.held = false ∧ portUp s p ∧ s.dev.st ≠ .park ∧
        f.dst.toNat = s.linkId ∧ f.crcOk ∧ f.lseq.toNat = s.link.ports[p].rxSeq ∧ s.islandHeld 2) :=
  ⟨⟨0, memFrame [], turnTo 0 2 (linked 9), by decide +kernel⟩,
   ⟨0, memFrame [7], turnTo 0 2 (linked 9), by decide +kernel⟩,
   ⟨0, memFrame [], linked 9, by decide +kernel⟩,
   ⟨0, memFrame [7], linked 9, by decide +kernel⟩,
   ⟨0, memFrame [7], (linked 9).updLink (fun x => { x with reqs := [peerReq false (.plain .hpq)] }),
       peerReq false (.plain .hpq), .hpq, by decide +kernel⟩,
   ⟨0, memFrame [], (linked 9).updLink (fun x => { x with reqs := [peerReq true (.plain .hps)] }),
       peerReq true (.plain .hps), .hps, by decide +kernel⟩,
   ⟨0, false, memFrame [], 4, [5], linked 9, by decide +kernel⟩,
   ⟨1, true, memFrame [], 0, [], linked 9, by decide +kernel⟩,
   ⟨0, false, memFrame [], 1, 0, 0, [5], linked 9, linked 9, by decide +kernel⟩,
   ⟨0, false, memFrame [], 1, 0, 0, [], linked 9, linked 9, by decide +kernel⟩,
   ⟨0, false, { memFrame [] with be := 0x50 }, 1, 5, 0, [], turnTo 0 2 (linked 9),
       takeTurn 0x12 0 (turnTo 0 2 (linked 9)), by decide +kernel⟩,
   ⟨1, ⟨1, 0, 0, 5, 0, false, 1, 0x10000, 0, 0x10000, true⟩, linked 9, by decide +kernel⟩,
   ⟨0, ⟨1, 0, 0, 5, 0, 6, 1, true⟩, peerReq true (.order 1), ((linked 9).updHost (fun x =>
       { x with gen := 1 })).updLink (fun x => { x with reqs := [peerReq true (.order 1)] }), by decide +kernel⟩,
   ⟨1, ⟨1, 0, 0, 5, 0, false, 1, 0x10000, 0, 0x10000, true⟩, (linked 9).updSys (fun x =>
       { x with islandRst := [(2, 9)] }), by decide +kernel⟩⟩

theorem witness_eventsAndMessagesCrossTheLink :
    (∃ (p : Fin 2) (f : EventFrame) (s : State), s.held = false ∧ portUp s p ∧ s.dev.st ≠ .park ∧ f.bcast = false ∧
        f.dst.toNat = s.linkId ∧ f.crcOk ∧ f.lseq.toNat = s.link.ports[p].rxSeq ∧ s.link.ports[p].unacked.length < 32) ∧
    (∃ (p : Fin 2) (f : EventFrame) (s : State), s.held = false ∧ portUp s p ∧ s.dev.st ≠ .park ∧ f.bcast = false ∧
        f.dst.toNat = s.linkId ∧ f.crcOk ∧ f.lseq.toNat = s.link.ports[p].rxSeq ∧ s.link.msgFifo.length < 16) ∧
    (∃ (p : Fin 2) (f : EventFrame) (s : State), s.held = false ∧ portUp s p ∧ s.dev.st ≠ .park ∧ f.bcast = false ∧
        f.dst.toNat = s.linkId ∧ f.crcOk ∧ f.lseq.toNat = s.link.ports[p].rxSeq ∧ 16 ≤ s.link.msgFifo.length) ∧
    (∃ (p : Fin 2) (f : EventFrame) (s : State), s.held = false ∧ portUp s p ∧ s.dev.st ≠ .park ∧ f.bcast = false ∧
        f.dst.toNat = s.linkId ∧ f.crcOk ∧ f.lseq.toNat = s.link.ports[p].rxSeq ∧
        tget s.link.evts f.tag.toNat 0 = 1 ∧ f.full) ∧
    (∃ (p : Fin 2) (f : EventFrame) (s : State), s.held = false ∧ portUp s p ∧ s.dev.st ≠ .park ∧ f.bcast = false ∧
        f.dst.toNat = s.linkId ∧ f.crcOk ∧ f.lseq.toNat = s.link.ports[p].rxSeq ∧
        tget s.link.evts f.tag.toNat 0 = 1 ∧ f.full = false) ∧
    (∃ (s : State), s.held = false ∧ s.link.evtAt + 4000 ≤ s.tick) ∧
    (∃ (a : Nat) (n : Nat) (d : Nat) (l : List (Nat × Nat × Nat)) (s : State), s.link.evtFifo = (a, n, d) :: l) ∧
    (∃ (s : State), s.link.evtFifo = []) ∧
    (∃ (v : Nat) (x : Nat) (q : Nat) (l : List (Nat × Nat × Nat)) (s : State), s.link.msgFifo = (v, x, q) :: l) :=
  ⟨⟨0, eventFrame false, linked 9, by decide +kernel⟩,
   ⟨0, eventFrame false, linked 9, by decide +kernel⟩,
   ⟨0, eventFrame false, (linked 9).updLink (fun x => { x with msgFifo := List.replicate 16 (1, 2, 3) }),
       by decide +kernel⟩,
   ⟨0, eventFrame true, (linked 9).updLink (fun x => { x with evts := [(5, 1)] }), by decide +kernel⟩,
   ⟨0, eventFrame false, (linked 9).updLink (fun x => { x with evts := [(5, 1)] }), by decide +kernel⟩,
   ⟨linked 4000, by decide +kernel⟩,
   ⟨1, 2, 3, [], (linked 9).updLink (fun x => { x with evtFifo := [(1, 2, 3)] }), by decide +kernel⟩,
   ⟨State.reset, by decide +kernel⟩,
   ⟨1, 2, 3, [], (linked 9).updLink (fun x => { x with msgFifo := [(1, 2, 3)] }), by decide +kernel⟩⟩

theorem witness_bundleIslandsClocksAndHeat :
    (∃ (s : State), s.held = false) ∧
    (∃ (s : State), s.held = false) ∧
    (∃ (s : State), s.held = false ∧ s.sys.missedBeats ≠ 3) ∧
    (∃ (s : State), s.held = false ∧ s.sys.missedBeats = 3) ∧
    (∃ (n : BitVec 16) (s : State), s.held = false) ∧
    (∃ (n : BitVec 16) (s : State), s.held = false ∧ s.sys.missedStatus = 3) ∧
    (∃ (s : State), s.held = false) ∧
    (∃ (n : Nat) (k : Nat) (s : State), s.sys.islandRst = [(n, k)] ∧ k + 4000 ≤ s.tick ∧ bothPtFailed s = false) ∧
    (∃ (s : State), s.sys.vdrvLow = false ∧ s.held = false) ∧
    (∃ (s : State), s.sys.vdrvLow) ∧
    (∃ (k : Half) (s : State), s.sys.clkDue ∧ s.sys.warmBusy = false) ∧
    (∃ (k : Half) (s : State), s.sys.clkDue ∧ s.sys.warmBusy = false) ∧
    (∃ (k : ClockFaultKind) (s : State), s.sys.clockFault = false ∧ s.held = false) ∧
    (∃ (v : Word) (s : State), s.sys.clockFault) ∧
    (∃ (a : Half) (b : Half) (c : Half) (d : Half) (e : Half) (f : Half) (s : State), s.held = false) ∧
    (∃ (s : State), s.held = false) ∧
    (∃ (s : State), 540 ≤ tjNow s) ∧
    (∃ (s : State), tjNow s < 540 ∧ s.flag THERM.base THERM.STAT_HOLD ∧ ((s.dev.st = .strapped ∨ s.dev.st = .loaded))) ∧
    (∃ (n : Nat) (k : Nat) (s : State), s.sys.islandRst = [(n, k)] ∧ n < 2 ∧ k + 4000 ≤ s.tick ∧ bothPtFailed s) ∧
    (∃ (obs : ClockObs) (s : State), s.sys.clkDue = false) :=
  ⟨⟨runs 9, by decide +kernel⟩,
   ⟨runs 9, by decide +kernel⟩,
   ⟨runs 9, by decide +kernel⟩,
   ⟨(runs 9).updSys (fun x => { x with missedBeats := 3 }), by decide +kernel⟩,
   ⟨5, runs 9, by decide +kernel⟩,
   ⟨5, (runs 9).updSys (fun x => { x with missedStatus := 3 }), by decide +kernel⟩,
   ⟨runs 9, by decide +kernel⟩,
   ⟨4, 9, (runs 4009).updSys (fun x => { x with islandRst := [(4, 9)] }), by decide +kernel⟩,
   ⟨runs 9, by decide +kernel⟩,
   ⟨(runs 9).updSys (fun x => { x with vdrvLow := true }), by decide +kernel⟩,
   ⟨9, (later 9).updSys (fun x => { x with coldBusy := true, clkDue := true }), by decide +kernel⟩,
   ⟨9, (later 9).updSys (fun x => { x with coldBusy := true, clkDue := true }), by decide +kernel⟩,
   ⟨.mainPll, runs 9, by decide +kernel⟩,
   ⟨9, (runs 9).updSys (fun x => { x with clockFault := true }), by decide +kernel⟩,
   ⟨1, 2, 3, 4, 5, 6, runs 9, by decide +kernel⟩,
   ⟨runs 9, by decide +kernel⟩,
   ⟨(runs 9).wr THERM.base THERM.TJ 540, by decide +kernel⟩,
   ⟨(((inState .loaded 9).wr THERM.base THERM.TJ 539).wr THERM.base THERM.STAT_HOLD 1), by decide +kernel⟩,
   ⟨1, 9, (runs 4009).updSys (fun x => { x with islandRst := [(1, 9)], ptFailed := 12 }), by decide +kernel⟩,
   ⟨.none, runs 9, by decide +kernel⟩⟩

theorem witness_parkWakeAndFreeze :
    (∃ (s : State), (s.sys.frozen ∨ ((s.dev.st = .strapped ∨ s.dev.st = .loaded ∨ s.dev.st = .armed) ∧
        tmrOrRnlRuns s = false))) ∧
    (∃ (s : State), (s.sys.frozen ∨ ((s.dev.st = .strapped ∨ s.dev.st = .loaded ∨ s.dev.st = .armed) ∧
        tmrOrRnlRuns s = false))) ∧
    (∃ (s : State), (s.sys.frozen ∨ ((s.dev.st = .strapped ∨ s.dev.st = .loaded ∨ s.dev.st = .armed) ∧
        tmrOrRnlRuns s = false))) ∧
    (∃ (s : State), (s.sys.frozen ∨ ((s.dev.st = .strapped ∨ s.dev.st = .loaded ∨ s.dev.st = .armed) ∧
        tmrOrRnlRuns s = false))) ∧
    (∃ (s : State), s.sys.frozen = false ∧ ((s.dev.st ≠ .strapped ∧ s.dev.st ≠ .loaded ∧
        s.dev.st ≠ .armed) ∨ tmrOrRnlRuns s)) ∧
    (∃ (s : State), s.sys.frozen = false ∧ ((s.dev.st ≠ .strapped ∧ s.dev.st ≠ .loaded ∧
        s.dev.st ≠ .armed) ∨ tmrOrRnlRuns s)) ∧
    (∃ (s : State), s.flag SYS.base SYS.CMD_PARK ∧ s.plan.load = .idle ∧ flumeRuns s = false ∧ s.sys.frozen = false ∧
        ((s.dev.st = .strapped ∨ s.dev.st = .loaded ∨ s.dev.st = .armed)) ∧ tmrOrRnlRuns s = false) ∧
    (∃ (c : WakeCause) (s : State), wakes c s = false) ∧
    (∃ (c : WakeCause) (s : State), wakes c s = false) ∧
    (∃ (s : State), s.clockOff 0x69) ∧
    (∃ (s : State) (w : Fin 4), s.sys.parkFrom = .armed ∧ (∀ r ∈ s.plan.wheels, r.wheel ≠ w.val)) ∧
    (∃ (c : WakeCause) (s : State), s.dev.st = .park ∧ wakes c s) ∧
    (∃ (c : WakeCause) (s : State), s.dev.st = .park ∧ wakes c s) ∧
    (∃ (c : WakeCause) (s : State), s.dev.st = .park ∧ wakes c s) ∧
    (∃ (c : WakeCause) (s : State), s.dev.st = .park ∧ wakes c s) ∧
    (∃ (c : WakeCause) (s : State), s.dev.st = .park ∧ wakes c s) ∧
    (∃ (s : State), s.sys.frozen = false ∧ s.sys.releasedAt ≠ some s.tick) ∧
    (∃ (s : State), s.sys.releasedAt = some s.tick) ∧
    (∃ (s : State), s.on DBG.base DBG.BRK_CFG_PT_EN ∧ s.ptStands = false ∧ s.sys.freezeReq = 0 ∧
        s.pt = s.cfg DBG.base DBG.BRK_PT_HI_PT * 2 ^ 32 + s.cfg DBG.base DBG.BRK_PT_LO_PT) ∧
    (∃ (s : State), s.sys.freezeReq ≠ 0 ∧ s.sys.freezeReq < 4 ∧ s.sys.frozen = false ∧ s.sys.freezeReqAt < s.tick) ∧
    (∃ (s : State), s.sys.frozen) ∧
    (∃ (s : State), s.sys.frozen = false ∧ (¬(s.sys.freezeReq = 1 ∧ s.sys.freezeReqAt = s.tick))) ∧
    (∃ (s : State), s.sys.frozen = false ∧ s.sys.freezeReq = 1 ∧ s.sys.freezeReqAt = s.tick) :=
  ⟨⟨inState .strapped 9, by decide +kernel⟩,
   ⟨inState .loaded 9, by decide +kernel⟩,
   ⟨inState .armed 9, by decide +kernel⟩,
   ⟨(((runs 9).wr TMR.base TMR.RUN 1).updSys (fun x => { x with frozen := true })), by decide +kernel⟩,
   ⟨runs 9, by decide +kernel⟩,
   ⟨(inState .armed 9).wr TMR.base TMR.RUN 1, by decide +kernel⟩,
   ⟨(inState .loaded 9).wr SYS.base SYS.CMD_PARK 1, by decide +kernel⟩,
   ⟨.hpq, (inState .park 9).wrBoth HPQ.base HDR.CTRL_ENABLE 0, by decide +kernel⟩,
   ⟨.wheel 3, (inState .park 9).updSys (fun x => { x with parkFrom := .armed }), by decide +kernel⟩,
   ⟨(inState .park 9).wrBoth HPQ.base HDR.CTRL_ENABLE 0, by decide +kernel⟩,
   ⟨(inState .park 9).updSys (fun x => { x with parkFrom := .armed }), 3, by decide +kernel⟩,
   ⟨.hps, inState .park 9, by decide +kernel⟩,
   ⟨.hpq, inState .park 9, by decide +kernel⟩,
   ⟨.wheel 0, (inState .park 9).updSys (fun x => { x with parkFrom := .loaded }), by decide +kernel⟩,
   ⟨.linkFrame, inState .park 9, by decide +kernel⟩,
   ⟨.wheel 2, ((inState .park 9).updSys (fun x => { x with parkFrom := .armed })).updPlan (fun x =>
       { x with wheels := [⟨2, 0, 3, 4⟩] }), by decide +kernel⟩,
   ⟨runs 9, by decide +kernel⟩,
   ⟨(runs 9).updSys (fun x => { x with releasedAt := some 9 }), by decide +kernel⟩,
   ⟨((runs (2 ^ 32 + 9)).wrBoth DBG.base DBG.BRK_CFG_PT_EN 1).wrBoth DBG.base DBG.BRK_PT_HI_PT 1 |>.wrBoth DBG.base DBG.BRK_PT_LO_PT 9,
       by decide +kernel⟩,
   ⟨(runs 9).updSys (fun x => { x with freezeReq := 1, freezeReqAt := 8 }), by decide +kernel⟩,
   ⟨(runs 9).updSys (fun x => { x with frozen := true }), by decide +kernel⟩,
   ⟨runs 9, by decide +kernel⟩,
   ⟨(runs 9).updSys (fun x => { x with freezeReq := 1, freezeReqAt := 9 }), by decide +kernel⟩⟩

theorem witness_resetsBeginAndEnd :
    (∃ (s : State), s.sys.resetNLow = false) ∧
    (∃ (b : BitVec 8) (s : State), s.sys.resetNLow ∧ s.sys.vretDown = false) ∧
    (∃ (ok : Bool) (s : State), s.sys.coldBusy ∧ s.sys.vretDown = false ∧ s.sys.resetNLow = false ∧
        s.sys.linkRst = false ∧ s.sys.oscRetry = false ∧ s.sys.clkDue = false ∧ s.sys.vdrvLow = false ∧
        s.sys.supplyDown = []) ∧
    (∃ (k : Nat) (s : State), s.link.resetAt = some k ∧ s.sys.linkRst ∧ k + 4000 ≤ s.tick) ∧
    (∃ (s : State) (u : State), coldHeld s = false ∧ u = (if s.sys.warmBusy then s else undoTick s)) ∧
    (∃ (s : State), s.sys.warmLow ∧ s.sys.warmBusy ∧ coldHeld s = false ∧ s.sys.oscRetry = false ∧
        s.sys.supplyDown = [] ∧ ((s.sys.lostL → s.sys.clkDue = false))) ∧
    (∃ (s : State), s.sys.warmBusy ∧ s.held = false ∧ s.dev.straps.toNat % 4 ≠ 3 ∧
        s.flag PLAN.base PLAN.INFO_VALID = false) ∧
    (∃ (s : State), s.sys.warmBusy ∧ s.held = false ∧ s.dev.straps.toNat % 4 ≠ 3 ∧ s.flag PLAN.base PLAN.INFO_VALID ∧
        copyChecks s ∧ (∀ c : Fin 4, s.cores[c].on = false)) ∧
    (∃ (sup : Supply) (s : State) (u : State), coldHeld s = false ∧ u = (if s.sys.warmBusy then s else undoTick s)) ∧
    (∃ (sup : Supply) (s : State), s.sys.supplyDown = [sup] ∧ s.sys.warmBusy ∧ coldHeld s = false ∧
        s.sys.oscRetry = false ∧ s.sys.warmLow = false ∧ ((s.sys.lostL → s.sys.clkDue = false))) :=
  ⟨⟨runs 9, by decide +kernel⟩,
   ⟨5, (later 9).updSys (fun x => { x with resetNLow := true }), by decide +kernel⟩,
   ⟨true, (later 9).updSys (fun x => { x with coldBusy := true }), by decide +kernel⟩,
   ⟨9, ((later 4009).updSys (fun x => { x with linkRst := true })).updLink (fun x => { x with resetAt := some 9 }),
       by decide +kernel⟩,
   ⟨runs 9, undoTick (runs 9), by decide +kernel⟩,
   ⟨(later 9).updSys (fun x => { x with warmLow := true, warmBusy := true }), by decide +kernel⟩,
   ⟨(later 9).updSys (fun x => { x with warmBusy := true }), by decide +kernel⟩,
   ⟨{ ((later 9).updSys (fun x => { x with warmBusy := true })).wr PLAN.base PLAN.INFO_VALID 1 with mem := wordAt 0x3C 0x4128908 },
       by decide +kernel⟩,
   ⟨.vddL, runs 9, undoTick (runs 9), by decide +kernel⟩,
   ⟨.vddL, (later 9).updSys (fun x => { x with warmBusy := true, supplyDown := [.vddL] }), by decide +kernel⟩⟩

theorem witness_pageHeadersCommitResetAndRaise :
    (∃ (p : Byte) (s : State), shadowsOf p.toNat ≠ [] ∧ s.sys.softResets.contains p.toNat = false) ∧
    (∃ (p : Byte) (s : State), shadowsOf p.toNat ≠ [] ∧ s.sys.softResets.contains p.toNat = false) ∧
    (∃ (p : Byte) (s : State), shadowsOf p.toNat ≠ [] ∧ s.sys.commits = [p.toNat] ∧ commitRefused s p.toNat = false) ∧
    (∃ (p : Byte) (s : State), shadowsOf p.toNat ≠ [] ∧ s.sys.commits = [p.toNat] ∧ commitRefused s p.toNat) ∧
    (∃ (p : Byte) (s : State), shadowsOf p.toNat ≠ [] ∧ s.sys.commits = [p.toNat] ∧ commitRefused s p.toNat) ∧
    (∃ (p : Byte) (s : State), softPage p.toNat ∧ ((s.dev.st = .strapped ∨ s.dev.st = .loaded))) ∧
    (∃ (p : Byte) (s : State), softPage p.toNat ∧ ((s.dev.st = .strapped ∨ s.dev.st = .loaded))) ∧
    (∃ (p : Byte) (s : State), (pageRowOf (pageBase p.toNat)).isSome ∧
        (softPage p.toNat = false ∨ (s.dev.st ≠ .strapped ∧ s.dev.st ≠ .loaded))) ∧
    (∃ (p : Byte) (s : State), (pageRowOf (pageBase p.toNat)).isSome ∧ ((p.toNat = 0x60 → ∀ a ∈ s.plan.acts,
        ¬(a.kind = 8 ∧ a.phase = .waiting)))) ∧
    (∃ (p : Byte) (s : State), (pageRowOf (pageBase p.toNat)).isSome ∧ pageIdle s p.toNat) ∧
    (∃ (p : Byte) (s : State), (pageRowOf (pageBase p.toNat)).isSome ∧ pageIdle s p.toNat = false) ∧
    (∃ (p : Byte) (s : State), (pageRowOf (pageBase p.toNat)).isSome ∧ pageIdle s p.toNat = false) ∧
    (∃ (p : Byte) (v : Word) (r : PageRow) (s : State), pageRowOf (pageBase p.toNat) = some r) ∧
    (∃ (p : Byte) (s : State), s.sys.softResets = [p.toNat] ∧ s.dev.st ≠ .strapped ∧ s.dev.st ≠ .loaded) :=
  ⟨⟨0x05, State.reset, by decide +kernel⟩,
   ⟨0x58, State.reset, by decide +kernel⟩,
   ⟨0x05, State.reset.updSys (fun x => { x with commits := [0x05] }), by decide +kernel⟩,
   ⟨0x05, (State.reset.wr PLAN.base PLAN.LOOKBACK_AU 63).updSys (fun x => { x with commits := [0x05] }),
       by decide +kernel⟩,
   ⟨0x58, (State.reset.wr (CSRC.base 255) CSRC.CFG_COAL_N 0).updSys (fun x => { x with commits := [0x58] }),
       by decide +kernel⟩,
   ⟨0x04, inState .loaded 9, by decide +kernel⟩,
   ⟨0x6A, inState .strapped 9, by decide +kernel⟩,
   ⟨0x70, State.reset, by decide +kernel⟩,
   ⟨0x00, State.reset, by decide +kernel⟩,
   ⟨0x48, State.reset, by decide +kernel⟩,
   ⟨0x48, State.reset.wr TMR.base TMR.RUN 1, by decide +kernel⟩,
   ⟨0x10, State.reset, by decide +kernel⟩,
   ⟨0x70, 0, ⟨0x70, 0x0073, 0, 235, 5⟩, State.reset, by decide +kernel⟩,
   ⟨0x04, (inState .armed 9).updSys (fun x => { x with softResets := [0x04] }), by decide +kernel⟩⟩

theorem witness_memAndOrderFramesComplete :
    (∃ (p : Fin 2) (f : MemFrame) (s : State), s.held = false ∧ portUp s p ∧ s.dev.st ≠ .park ∧
        f.dst.toNat = s.linkId ∧ f.crcOk ∧ f.lseq.toNat = s.link.ports[p].rxSeq ∧ f.len = 0 ∧ f.be = 0xFF ∧
        memAddr f < 0x100000 ∧ s.pattern (memAddr f / 8) = 0 ∧ s.link.ports[p].unacked.length < 32 ∧
        portOpen s .link (portOf (memAddr f)) ∧ s.memc.waits.any (sameSource f) = false) ∧
    (∃ (p : Fin 2) (f : MemFrame) (s : State) (v : Word), s.held = false ∧ portUp s p ∧ s.dev.st ≠ .park ∧
        f.dst.toNat = s.linkId ∧ f.crcOk ∧ f.lseq.toNat = s.link.ports[p].rxSeq ∧ f.len = 0 ∧ f.be = 0xFF ∧
        memAddr f < 0x100000 ∧ s.pattern (memAddr f / 8) = 0 ∧ s.link.ports[p].unacked.length < 32 ∧
        portOpen s .link (portOf (memAddr f)) ∧ s.memc.waits.any (sameSource f) = false ∧ f.data = [v]) ∧
    (∃ (p : Fin 2) (f : MemFrame) (s : State), s.held = false ∧ portUp s p ∧ s.dev.st ≠ .park ∧
        f.dst.toNat = s.linkId ∧ f.crcOk ∧ f.lseq.toNat = s.link.ports[p].rxSeq ∧ f.data.length = f.len.toNat + 1 ∧
        reqFor s f.src.toNat f.tag.toNat false = none) ∧
    (∃ (p : Fin 2) (f : MemFrame) (s : State), s.held = false ∧ portUp s p ∧ s.dev.st ≠ .park ∧
        f.dst.toNat = s.linkId ∧ f.crcOk ∧ f.lseq.toNat = s.link.ports[p].rxSeq ∧
        reqFor s f.src.toNat f.tag.toNat true = none) ∧
    (∃ (p : Fin 2) (f : MemFrame) (s : State) (r : PeerReq) (c : Fin 4) (task : Bool) (a : FarAcc), s.held = false ∧
        portUp s p ∧ s.dev.st ≠ .park ∧ f.dst.toNat = s.linkId ∧ f.crcOk ∧ f.lseq.toNat = s.link.ports[p].rxSeq ∧
        r.who = .core c task ∧ (pathBank s c task).wait = .far a ∧ a.addr / 4 = r.addr / 4 ∧
        ((task → s.cores[c].task.isSome)) ∧ f.status = 0 ∧ f.data.length = f.len.toNat + 1 ∧ a.load ∧
        reqFor s f.src.toNat f.tag.toNat false = some r) ∧
    (∃ (p : Fin 2) (f : MemFrame) (s : State) (r : PeerReq) (c : Fin 4) (task : Bool) (a : FarAcc), s.held = false ∧
        portUp s p ∧ s.dev.st ≠ .park ∧ f.dst.toNat = s.linkId ∧ f.crcOk ∧ f.lseq.toNat = s.link.ports[p].rxSeq ∧
        r.who = .core c task ∧ (pathBank s c task).wait = .far a ∧ a.addr / 4 = r.addr / 4 ∧
        ((task → s.cores[c].task.isSome)) ∧ f.status = 0 ∧ f.data.length = f.len.toNat + 1 ∧ a.load ∧
        reqFor s f.src.toNat f.tag.toNat false = some r) ∧
    (∃ (p : Fin 2) (f : MemFrame) (s : State) (r : PeerReq) (c : Fin 4) (task : Bool) (a : FarAcc), s.held = false ∧
        portUp s p ∧ s.dev.st ≠ .park ∧ f.dst.toNat = s.linkId ∧ f.crcOk ∧ f.lseq.toNat = s.link.ports[p].rxSeq ∧
        r.who = .core c task ∧ (pathBank s c task).wait = .far a ∧ a.addr / 4 = r.addr / 4 ∧
        ((task → s.cores[c].task.isSome)) ∧ f.status = 0 ∧ a.load = false ∧
        reqFor s f.src.toNat f.tag.toNat true = some r) ∧
    (∃ (p : Fin 2) (f : OrderFrame) (b : Staging) (r : Word) (s : State) (d : State), s.held = false ∧ portUp s p ∧
        s.dev.st ≠ .park ∧ f.dst.toNat = s.linkId ∧ f.crcOk ∧ f.lseq.toNat = s.link.ports[p].rxSeq ∧
        s.link.ports[p].unacked.length < 32 ∧ s.islandHeld 2 = false ∧
        b = { s.hdg.staging[(2 : Fin 8)] with sub0 := f.sub0, sub1 := f.sub1, sub2 := f.sub2, sub3 := f.sub3, failed := f.failed } ∧
        d = flushRecs (updStaging 2 (fun _ => b) (acked p s)) ∧
        r = subRes (judge b d) (occ d + if judge b d = .ack then 1 else 0)) ∧
    (∃ (p : Fin 2) (f : ReplyFrame) (s : State), s.held = false ∧ portUp s p ∧ s.dev.st ≠ .park ∧
        f.dst.toNat = s.linkId ∧ f.crcOk ∧ f.lseq.toNat = s.link.ports[p].rxSeq ∧
        reqFor s f.src.toNat f.tag.toNat true = none) ∧
    (∃ (p : Fin 2) (f : ReplyFrame) (s : State) (r : PeerReq) (c : Fin 4) (j : Fin 8) (a : FarAcc), s.held = false ∧
        portUp s p ∧ s.dev.st ≠ .park ∧ f.dst.toNat = s.linkId ∧ f.crcOk ∧ f.lseq.toNat = s.link.ports[p].rxSeq ∧
        reqFor s f.src.toNat f.tag.toNat true = some r ∧ r.who = .order j ∧ j.val = 3 + c.val ∧
        s.cores[c].bg.wait = .far a ∧ a.load = false ∧ a.addr / 4 = r.addr / 4 ∧ s.cores[c].task = none) ∧
    (∃ (p : Fin 2) (f : MemFrame) (g : OrderFrame) (h : ReplyFrame) (s : State), s.held = false ∧ portUp s p ∧
        portState s (otherPort p) ≠ 0 ∧ s.link.ports[otherPort p].unacked.length < 32 ∧ f.dst.toNat ≠ s.linkId ∧
        f.crcOk ∧ f.lseq.toNat = s.link.ports[p].rxSeq) ∧
    (∃ (p : Fin 2) (f : MemFrame) (g : OrderFrame) (h : ReplyFrame) (s : State), s.held = false ∧ portUp s p ∧
        portState s (otherPort p) ≠ 0 ∧ s.link.ports[otherPort p].unacked.length < 32 ∧ g.dst.toNat ≠ s.linkId ∧
        g.crcOk ∧ g.lseq.toNat = s.link.ports[p].rxSeq) ∧
    (∃ (p : Fin 2) (f : MemFrame) (g : OrderFrame) (h : ReplyFrame) (s : State), s.held = false ∧ portUp s p ∧
        portState s (otherPort p) ≠ 0 ∧ s.link.ports[otherPort p].unacked.length < 32 ∧ h.dst.toNat ≠ s.linkId ∧
        h.crcOk ∧ h.lseq.toNat = s.link.ports[p].rxSeq) ∧
    (∃ (p : Fin 2) (f : MemFrame) (g : OrderFrame) (h : ReplyFrame) (s : State), s.held = false ∧ portUp s p ∧
        s.dev.st ≠ .park ∧ f.crcOk ∧ f.lseq.toNat ≠ s.link.ports[p].rxSeq) ∧
    (∃ (p : Fin 2) (f : MemFrame) (g : OrderFrame) (h : ReplyFrame) (s : State), s.held = false ∧ portUp s p ∧
        s.dev.st ≠ .park ∧ g.crcOk ∧ g.lseq.toNat ≠ s.link.ports[p].rxSeq) ∧
    (∃ (p : Fin 2) (f : MemFrame) (g : OrderFrame) (h : ReplyFrame) (s : State), s.held = false ∧ portUp s p ∧
        s.dev.st ≠ .park ∧ h.crcOk ∧ h.lseq.toNat ≠ s.link.ports[p].rxSeq) :=
  ⟨⟨0, { memFrame [] with be := 0xFF }, turnTo 0 2 (linked 9), by decide +kernel⟩,
   ⟨1, { memFrame [7] with be := 0xFF }, turnTo 0 2 (linked 9), 7, by decide +kernel⟩,
   ⟨0, memFrame [7], linked 9, by decide +kernel⟩,
   ⟨0, memFrame [7], linked 9, by decide +kernel⟩,
   ⟨0, memFrame [7], ((linked 9).updCore 2 (fun x =>
       { x with bg := { freshBank with wait := .far ⟨true, 0x11000040, true, 3, 7, 0⟩ } })).updLink (fun x =>
       { x with reqs := [peerReq false (.core 2 false)] }), peerReq false (.core 2 false), 2, false, ⟨true,
       0x11000040, true, 3, 7, 0⟩, by decide +kernel⟩,
   ⟨0, memFrame [7], ((linked 9).updCore 2 (fun x =>
       { x with task := some ⟨5, none, 0, 100, false, none⟩, tb := { freshBank with wait := .far ⟨true, 0x11000040, true, 3, 7, 0⟩ } })).updLink (fun x =>
       { x with reqs := [peerReq false (.core 2 true)] }), peerReq false (.core 2 true), 2, true, ⟨true, 0x11000040,
       true, 3, 7, 0⟩, by decide +kernel⟩,
   ⟨0, memFrame [], ((linked 9).updCore 2 (fun x =>
       { x with bg := { freshBank with wait := .far ⟨false, 0x11000040, true, 3, 7, 0⟩ } })).updLink (fun x =>
       { x with reqs := [peerReq true (.core 2 false)] }), peerReq true (.core 2 false), 2, false, ⟨false,
       0x11000040, true, 3, 7, 0⟩, by decide +kernel⟩,
   ⟨0, ⟨1, 0, 0, 5, 0, false, 1, 0x10000, 0, 0x10000, true⟩, ⟨1, 0x10000, 0, 0x10000, false, 0, 0⟩, subRes (judge ⟨1,
       0x10000, 0, 0x10000, false, 0, 0⟩ (flushRecs (updStaging 2 (fun _ => ⟨1, 0x10000, 0, 0x10000, false, 0,
       0⟩) (acked 0 (linked 9))))) (occ (flushRecs (updStaging 2 (fun _ => ⟨1, 0x10000, 0, 0x10000, false, 0,
       0⟩) (acked 0 (linked 9)))) + if judge ⟨1, 0x10000, 0, 0x10000, false, 0, 0⟩ (flushRecs (updStaging 2 (fun _ =>
       ⟨1, 0x10000, 0, 0x10000, false, 0, 0⟩) (acked 0 (linked 9)))) = .ack then 1 else 0), linked 9,
       flushRecs (updStaging 2 (fun _ => ⟨1, 0x10000, 0, 0x10000, false, 0, 0⟩) (acked 0 (linked 9))),
       by decide +kernel⟩,
   ⟨1, ⟨1, 0, 0, 5, 0, 3, 4, true⟩, linked 9, by decide +kernel⟩,
   ⟨0, ⟨1, 0, 0, 5, 0, 3, 4, true⟩, ((linked 9).updCore 2 (fun x =>
       { x with bg := { freshBank with wait := .far ⟨false, 0x11000040, true, 3, 7, 0⟩ } })).updLink (fun x =>
       { x with reqs := [peerReq true (.order 5)] }), peerReq true (.order 5), 2, 5, ⟨false, 0x11000040, true, 3, 7,
       0⟩, by decide +kernel⟩,
   ⟨0, { memFrame [7] with dst := 3 }, ⟨1, 3, 0, 5, 0, false, 1, 0x10000, 0, 0x10000, true⟩, ⟨1, 3, 0, 5, 0, 3, 4,
       true⟩, linked 9, by decide +kernel⟩,
   ⟨0, { memFrame [7] with dst := 3 }, ⟨1, 3, 0, 5, 0, false, 1, 0x10000, 0, 0x10000, true⟩, ⟨1, 3, 0, 5, 0, 3, 4,
       true⟩, linked 9, by decide +kernel⟩,
   ⟨0, { memFrame [7] with dst := 3 }, ⟨1, 3, 0, 5, 0, false, 1, 0x10000, 0, 0x10000, true⟩, ⟨1, 3, 0, 5, 0, 3, 4,
       true⟩, linked 9, by decide +kernel⟩,
   ⟨1, { memFrame [7] with lseq := 9 }, ⟨1, 0, 9, 5, 0, false, 1, 0x10000, 0, 0x10000, true⟩, ⟨1, 0, 9, 5, 0, 3, 4,
       true⟩, linked 9, by decide +kernel⟩,
   ⟨1, { memFrame [7] with lseq := 9 }, ⟨1, 0, 9, 5, 0, false, 1, 0x10000, 0, 0x10000, true⟩, ⟨1, 0, 9, 5, 0, 3, 4,
       true⟩, linked 9, by decide +kernel⟩,
   ⟨1, { memFrame [7] with lseq := 9 }, ⟨1, 0, 9, 5, 0, false, 1, 0x10000, 0, 0x10000, true⟩, ⟨1, 0, 9, 5, 0, 3, 4,
       true⟩, linked 9, by decide +kernel⟩⟩

theorem witness_testPortResetsShiftsAndBypasses :
    (∃ (l : List Bool) (t : Tap) (x : Bool) (y : Bool) (d1 : Bool) (d2 : Bool), t.st = .captureDr ∧ t.ir = .bypass) ∧
    (∃ (l : List Bool) (t : Tap) (d : Bool), t.st = .captureDr ∧ t.ir ≠ .bypass) ∧
    (∃ (l : List Bool) (t : Tap) (tms : Bool) (d : Bool), t.st = .shiftDr ∧ t.ir ≠ .bypass) ∧
    (∃ (l : List Bool) (t : Tap) (d : Bool), t.st = .exit1Dr ∧ t.ir ≠ .bypass) ∧
    (∃ (s : State) (n : Nat), s.tap.ir = .extest ∧ ballCanDrive n ∧ ballShut s n = false) ∧
    (∃ (s : State) (n : Nat), s.tap.ir ≠ .extest) ∧
    (∃ (tms : Bool) (tdi : Bool) (r : List (Bool × Bool)) (s : State), s.tap.waiting = (tms, tdi) :: r) ∧
    (∃ (s : State), s.tap.waiting = []) ∧
    (∃ (s : State) (n : Nat), ballShut s n) ∧
    (∃ (s : State) (n : Nat), ballShut s n) ∧
    (∃ (s : State) (n : Nat), ballPowered s n = false) ∧
    (∃ (s : State) (n : Nat), ballPowered s n = false) :=
  ⟨⟨[], { initTap with st := .captureDr, ir := .bypass, chain := [true, false] }, true, false, true, true,
      by decide +kernel⟩,
   ⟨[true], { initTap with st := .captureDr, ir := .sample, chain := [true, false] }, true, by decide +kernel⟩,
   ⟨[], { initTap with st := .shiftDr, ir := .extest, chain := [true, false] }, false, true, by decide +kernel⟩,
   ⟨[], { initTap with st := .exit1Dr, ir := .sample, chain := [true, false] }, true, by decide +kernel⟩,
   ⟨{ runs 9 with tap := { initTap with ir := .extest } }, 0, by decide +kernel⟩,
   ⟨State.reset, 5, by decide +kernel⟩,
   ⟨true, false, [(false, true)], { runs 9 with tap := { initTap with waiting := [(true, false), (false, true)] } },
       by decide +kernel⟩,
   ⟨runs 9, by decide +kernel⟩,
   ⟨inState .reset 9, 300, by decide +kernel⟩,
   ⟨(runs 9).updSys (fun x => { x with supplyDown := [.vio] }), 5, by decide +kernel⟩,
   ⟨(runs 9).updSys (fun x => { x with supplyDown := [.vddL] }), 300, by decide +kernel⟩,
   ⟨(runs 9).updSys (fun x => { x with supplyDown := [.vddD] }), 300 - 21, by decide +kernel⟩⟩

theorem witness_everyStepKeepsTheSafeStates : ∃ (s : State) (t : State), Inv s ∧ step s = .next t ∧ t.mem = [(64,
    1)] := by
  have h : Inv { runs 9 with mem := [(64, 1)], pending := [.ptLoRead, .park] } :=
    ⟨by decide +kernel, fun b => ⟨by revert b; decide +kernel, by revert b; decide +kernel⟩, by decide +kernel,
        fun _ => by decide +kernel, rfl⟩
  exact ⟨{ runs 9 with mem := [(64, 1)], pending := [.ptLoRead, .park] }, _, h, rfl, rfl⟩

/-! ## The well-formedness checks refuse what R364, R401, R415, R434 and R444 make no command -/

theorem test_illFormed_memoryRead_crossing : Instr.wellFormed (.memoryRead .hpq 4 5) = false := by decide
theorem test_illFormed_memoryRead_register : Instr.wellFormed (.memoryRead .hpq 0x40A001 2) = false := by decide
theorem test_illFormed_memoryWrite_empty : Instr.wellFormed (.memoryWrite .hpq 0 []) = false := by decide
theorem test_illFormed_planMemoryWrite : Instr.wellFormed (.planMemoryWrite .hpq 0x140000 [1]) = false := by decide
theorem test_illFormed_registerWrite : Instr.wellFormed (.registerWrite .hpq 0x406042 5) = false := by decide
theorem test_illFormed_peerAccess : Instr.wellFormed (.peerAccess .hpq 0x11000002 false false 0) = false := by decide
theorem test_illFormed_peerAccess_own : Instr.wellFormed (.peerAccess .hpq 0x40000 true true 0) = false := by decide
theorem test_illFormed_queueAreaWrite : Instr.wellFormed (.queueAreaWrite .hpq 0x154000 [1]) = false := by decide
theorem test_illFormed_journalAreaWrite : Instr.wellFormed (.journalAreaWrite .hpq 0x150000 [1]) = false := by decide
theorem test_illFormed_hpsGen2Write : Instr.wellFormed (.hpsGen2Write 0x20010000 0x40 [1] 0) = false := by decide
theorem test_illFormed_hpqWrite : Instr.wellFormed (.hpqWrite 0x20000000 0x40 [1, 2] 0) = false := by decide
theorem test_illFormed_memWr : Instr.wellFormed (.memWr 0 (memFrame [])) = false := by decide
theorem test_illFormed_memRdresp : Instr.wellFormed (.memRdresp 1 (memFrame [1, 2])) = false := by decide
theorem test_wellFormed_planMemoryWrite : Instr.wellFormed (.planMemoryWrite .hpq 0x13FFFF [1]) = true := by decide

/-- An ill-formed command stops, under that name. -/
theorem test_illFormed_stops : exec (.memoryRead .hpq 4 5) State.reset = .fault .illFormed := by rfl

/-! ## Values the spec works out -/

/-- The digits "123456789". -/
def digits : List Byte := [0x31, 0x32, 0x33, 0x34, 0x35, 0x36, 0x37, 0x38, 0x39]

/-- R154. -/
theorem test_crc32_digits : crc32 digits = 0xCBF43926 := by decide +kernel
/-- R401: the CRC of a gen 2 frame. -/
theorem test_crc16_digits : crc16 digits = 0x29B1 := by decide +kernel
/-- R389: Fletcher-32 of "abcde" from SEED 0. -/
theorem test_fletcher_abcde : fletcherWord (fletcherWord (fletcherWord 0 0x6261) 0x6463) 0x65 = 0xF04FC729 := by decide +kernel
/-- The example of R413 and R428 (chapter 15): 1.47456 au per tick is sent as EXP 9, MANT 243. -/
theorem test_angle_code : incCode false false (147456 * 2 ^ 32 / 100000) = (9, 243) := by decide +kernel
/-- The same example: EXP 9, MANT 243 decodes as 755 times 2^23. -/
theorem test_angle_decode : beatInc 9 243 = some (755 * 2 ^ 23, false) := by decide +kernel
/-- R284 worked by hand with G = 32582 and O = 0x051E: (57672 * 32582 + 16384) >> 15 = 57345. -/
theorem test_calibrated_result : correct 0x7F46051E 58982 = (57345, false) := by decide +kernel
/-- The example of chapter 09: a filter at 8960.00 ticks with K = 2 goes to 9017.25 at a dip of 9189 ticks,
    in 1/256 tick. -/
theorem test_dip_filter : filterStep (256 * 8960) (256 * 9189) 2 = 256 * 9017 + 64 := by decide +kernel

/-! ## Single steps -/

/-- The state after a command that answers one; otherwise the state before. -/
def after (c : Instr) (s : State) : State := match exec c s with | .next t => t | _ => s

/-- R351 (W and C of ADD): ADD of 0xFFFF and 1 gives 0 and sets C. -/
theorem test_core_add_wraps :
    let b := { freshBank with w := (freshBank.w.set 1 0xFFFF).set 2 1 }
    let t := after (.coreAdd 0) (coreWith 0 0x008C4800 b 9)
    (t.cores[(0 : Fin 4)].bg.w[(3 : Fin 16)], t.cores[(0 : Fin 4)].bg.c) = (0, true) := by decide +kernel
/-- R321: a timer counts down by one. -/
theorem test_timer_counts_down :
    (after (.timerCountStep 15) (tmrOn 15 0 5)).tmr[(15 : Fin 16)].count = 4 := by decide +kernel
/-- R29, R182: a disarm leaves LOADED. -/
theorem test_disarm_loads : (after .disarm (runs 9)).dev.st = .loaded := by decide +kernel
/-- R336: PULL takes the oldest entry of the IN FIFO. -/
theorem test_runnel_pull :
    (after (.rnlPull 1) ((rnlOn 1 0x60000000).updRnl 1 (fun x =>
        { x with inF := [9, 8] }))).rnl[(1 : Fin 8)].inF = [8] := by
  decide +kernel
/-- R19: a tick advances PT. -/
theorem test_tick_advances : (after (.accumulatorTick 0 0) (later 41)).pt = 42 := by decide +kernel

end Sys2Proof.Tests
end

namespace Sys2Proof.Machine

/-! ## Regions by address (R434) -/

/-- The regions, each with its addresses. -/
inductive RegionAt (a : Nat) : Option Region → Prop
  | sram (h : a < 0x100000) : RegionAt a (some (.sram (a / 0x40000)))
  | actions (h : 0x100000 ≤ a) (h' : a < 0x140000) : RegionAt a (some .actions)
  | journal (h : 0x140000 ≤ a) (h' : a < 0x150000) : RegionAt a (some .journal)
  | queue (h : 0x150000 ≤ a) (h' : a < 0x154000) : RegionAt a (some .queue)
  | slots (h : 0x154000 ≤ a) (h' : a < 0x158000) : RegionAt a (some .slots)
  | microcode (h : 0x180000 ≤ a) (h' : a < 0x184000) : RegionAt a (some .microcode)
  | imem (h : 0x200000 ≤ a) (h' : a < 0x300000) (ho : (a - 0x200000) % 0x40000 < 0x10000) :
      RegionAt a (some (.imem ((a - 0x200000) / 0x40000)))
  | dmem (h : 0x200000 ≤ a) (h' : a < 0x300000) (ho : 0x20000 ≤ (a - 0x200000) % 0x40000)
      (ho' : (a - 0x200000) % 0x40000 < 0x30000) : RegionAt a (some (.dmem ((a - 0x200000) / 0x40000)))
  | coreCtl (h : 0x200000 ≤ a) (h' : a < 0x300000) (ho : 0x30000 ≤ (a - 0x200000) % 0x40000) :
      RegionAt a (some (.coreCtl ((a - 0x200000) / 0x40000)))
  | coreGap (h : 0x200000 ≤ a) (h' : a < 0x300000) (ho : 0x10000 ≤ (a - 0x200000) % 0x40000)
      (ho' : (a - 0x200000) % 0x40000 < 0x20000) : RegionAt a none
  | pages (h : 0x400000 ≤ a) (h' : a < 0x480000) : RegionAt a (some .pages)
  | peer (h : 0x10000000 ≤ a) (h' : a < 0x18000000) : RegionAt a (some (.peer ((a - 0x10000000) / 0x1000000)))
  | gap (h : 0x158000 ≤ a) (hm : a < 0x180000 ∨ 0x184000 ≤ a) (hc : a < 0x200000 ∨ 0x300000 ≤ a)
      (hp : a < 0x400000 ∨ 0x480000 ≤ a) (hw : a < 0x10000000 ∨ 0x18000000 ≤ a) : RegionAt a none

/-- Every address lies in its region's range. -/
theorem regionAt (a : Nat) : RegionAt a (regionOf a) := by
  unfold regionOf
  dsimp only
  split_ifs
  · exact .sram ‹_›
  · exact .actions (by omega) ‹_›
  · exact .journal (by omega) ‹_›
  · exact .queue (by omega) ‹_›
  · exact .slots (by omega) ‹_›
  · exact .microcode (by omega) (by omega)
  · exact .imem (by omega) (by omega) ‹_›
  · exact .dmem (by omega) (by omega) (by omega) (by omega)
  · exact .coreCtl (by omega) (by omega) ‹_›
  · exact .coreGap (by omega) (by omega) (by omega) (by omega)
  · exact .pages (by omega) (by omega)
  · exact .peer (by omega) (by omega)
  · exact .gap (by omega) (by omega) (by omega) (by omega) (by omega)

/-- The regions of R434 that hold registers of the device itself. -/
def isOwnReg : Option Region → Bool
  | some .pages | some (.coreCtl _) => true
  | _ => false

/-- The peer windows of R434. -/
def isWindow : Option Region → Bool
  | some (.peer _) => true
  | _ => false

section
variable {a : Nat} {r : Option Region}

theorem RegionAt.queue_iff (h : RegionAt a r) : r = some .queue ↔ 0x150000 ≤ a ∧ a < 0x154000 := by
  cases h <;> simp <;> omega

theorem RegionAt.journal_iff (h : RegionAt a r) : r = some .journal ↔ 0x140000 ≤ a ∧ a < 0x150000 := by
  cases h <;> simp <;> omega

theorem RegionAt.isOwnReg (h : RegionAt a r) : isOwnReg r = ownRegRegion a := by
  rw [Bool.eq_iff_iff]
  cases h <;> simp [Machine.isOwnReg, ownRegRegion] <;> omega

theorem RegionAt.isWindow (h : RegionAt a r) : isWindow r = inPeerWindow a := by
  rw [Bool.eq_iff_iff]
  cases h <;> simp [Machine.isWindow, inPeerWindow] <;> omega

/-- `isRegAddr` by the kinds of region: a register of this device, or behind a window one of the device there. -/
theorem isRegAddr_eq (a : Nat) :
    isRegAddr a = (isOwnReg (regionOf a) || (isWindow (regionOf a) && isOwnReg (regionOf (a % 0x1000000)))) := by
  unfold isRegAddr
  rcases regionOf a with _ | r
  · rfl
  · cases r with
    | peer d =>
      rcases regionOf (a % 0x1000000) with _ | r
      · rfl
      · cases r <;> rfl
    | _ => rfl

theorem isRegAddr_eq_regRegion (a : Nat) : isRegAddr a = regRegion a := by
  rw [isRegAddr_eq, (regionAt a).isOwnReg, (regionAt a).isWindow, (regionAt (a % 0x1000000)).isOwnReg]
  rfl

theorem accessForm_eq_oneAccess (a n : Nat) : accessForm a n = oneAccess a n := by
  unfold accessForm oneAccess
  rw [isRegAddr_eq_regRegion]

theorem hostWords_eq_reqWords (w : Word) : hostWords w = reqWords w := by
  simp [hostWords, reqWords, bits_eq]

theorem isPlanMem_eq_planMemory (a : Nat) : isPlanMem a = planMemory a := by
  have h := regionAt a
  unfold isPlanMem
  rw [Bool.eq_iff_iff]
  generalize regionOf a = r at *
  cases h <;> simp [planMemory] <;> omega

end

/-! ## Commands and their form -/

section
open Sys2Proof.Laws.WellFormed (checked)

/-- A command runs where it is well formed, and stops as ill formed where it is not. -/
def Answers (c : Instr) (s : State) : Prop :=
  if c.wellFormed then ∃ t, exec c s = .next t else exec c s = .fault .illFormed

section
variable {c : Instr} {s t : State} {p : Prop} [Decidable p]

theorem answers_of_next (hw : c.wellFormed = true) (he : exec c s = .next t) : Answers c s := by
  rw [Answers, if_pos hw]
  exact ⟨t, he⟩

/-- A command that runs under a guard answers if the guard is its form. -/
theorem answers_of_guard (hw : c.wellFormed = true ↔ p) (he : exec c s = if p then .next t else .fault .illFormed) :
    Answers c s := by
  unfold Answers
  by_cases hp : p
  · rw [if_pos (hw.2 hp)]
    exact ⟨t, he.trans (if_pos hp)⟩
  · rw [if_neg (mt hw.1 hp)]
    exact he.trans (if_neg hp)

/-- A command that a check refuses answers if the check finds what is not its form. -/
theorem answers_of_check (hw : c.wellFormed = true ↔ ¬ p) (he : exec c s = if p then .fault .illFormed else .next t) :
    Answers c s := answers_of_guard hw (by rw [he, ite_not])

end

/-- A command no check names has no contradictory operands and no branch that stops: it runs. -/
theorem answers_of_unchecked (c : Instr) (s : State) (h : checked c = false) : Answers c s := by
  cases c with
  | planMemoryWrite | queueAreaWrite | journalAreaWrite | hpsGen2Write | hpqWrite | memWr | memRdresp | peerAccess
  | memoryRead | memoryWrite | registerWrite => cases h
  | _ => exact answers_of_next rfl rfl

/-- The commands with a check test just what `Instr.wellFormed` asks. -/
theorem answers_of_checked (c : Instr) (s : State) (h : checked c = true) : Answers c s := by
  cases c with
  | memoryRead i a n => exact answers_of_check (by simp [Instr.wellFormed, accessForm_eq_oneAccess]) rfl
  | memoryWrite i a l => exact answers_of_check (by simp [Instr.wellFormed, accessForm_eq_oneAccess]) rfl
  | planMemoryWrite i a l =>
    exact answers_of_check (by simp [Instr.wellFormed, accessForm_eq_oneAccess, isPlanMem_eq_planMemory]) rfl
  | registerWrite i a v => exact answers_of_check (by simp [Instr.wellFormed, isRegAddr_eq_regRegion]) rfl
  | peerAccess i a w half v => exact answers_of_check (by simp [Instr.wellFormed, inPeerWindow]; omega) rfl
  | queueAreaWrite i a l => exact answers_of_guard (by simp [Instr.wellFormed, (regionAt _).queue_iff]) rfl
  | journalAreaWrite i a l => exact answers_of_guard (by simp [Instr.wellFormed, (regionAt _).journal_iff]) rfl
  | hpsGen2Write h a l k => exact answers_of_check (by simp [Instr.wellFormed, hostWords_eq_reqWords]) rfl
  | hpqWrite h a l k => exact answers_of_check (by simp [Instr.wellFormed, hostWords_eq_reqWords]) rfl
  | memWr p f => exact answers_of_check (by simp [Instr.wellFormed]) rfl
  | memRdresp p f => exact answers_of_check (by simp [Instr.wellFormed]) rfl
  | _ => cases h

/-- Settles O6: a command without a check always runs, and the checks of the others test just their form. -/
theorem wellFormedCommandsAlwaysRun : Obligations.WellFormedCommandsAlwaysRun := by
  intro c s
  cases h : checked c with
  | false => exact answers_of_unchecked c s h
  | true => exact answers_of_checked c s h

end

end Sys2Proof.Machine

namespace Sys2Proof.Machine

/-! ## Bytes of a word -/

theorem leBytes_add (s : State) (m n : Nat) : ∀ a : Nat,
    s.leBytes a (m + n) = s.leBytes a m + 256 ^ m * s.leBytes (a + m) n := by
  induction m with
  | zero => intro a; simp [State.leBytes]
  | succ m ih =>
    intro a
    rw [Nat.succ_add, State.leBytes, State.leBytes, ih (a + 1), show a + 1 + m = a + (m + 1) by omega]
    ring

theorem leBytes_lt (s : State) (n : Nat) : ∀ a : Nat, s.leBytes a n < 256 ^ n := by
  induction n with
  | zero => intro a; simp [State.leBytes]
  | succ n ih =>
    intro a
    have h := ih (a + 1)
    have hb : (s.byte a).toNat < 256 := (s.byte a).isLt
    rw [State.leBytes, pow_succ]
    omega

/-- The n bytes k places above the lowest of a longer number. -/
theorem leBytes_part (s : State) (a k n r : Nat) :
    s.leBytes a (k + (n + r)) / 256 ^ k % 256 ^ n = s.leBytes (a + k) n := by
  rw [leBytes_add, Nat.add_mul_div_left _ _ (by positivity), Nat.div_eq_of_lt (leBytes_lt s k a), Nat.zero_add,
    leBytes_add, Nat.add_mul_mod_self_left, Nat.mod_eq_of_lt (leBytes_lt s n _)]

theorem leBytes_byte (s : State) (a k n : Nat) (h : k < n) :
    BitVec.ofNat 8 (s.leBytes a n / 256 ^ k) = s.byte (a + k) := by
  obtain ⟨r, rfl⟩ : ∃ r, n = k + (1 + r) := ⟨n - k - 1, by omega⟩
  have hp := leBytes_part s a k 1 r
  apply BitVec.eq_of_toNat_eq
  rw [BitVec.toNat_ofNat, show (2 : Nat) ^ 8 = 256 ^ 1 from rfl, hp]
  simp [State.leBytes]

/-- Byte k of the number a list of bytes spells. -/
theorem leNat_byte : ∀ (l : List Byte) (k : Nat) (h : k < l.length), BitVec.ofNat 8 (leNat l / 256 ^ k) = l[k]
  | b :: l, 0, _ => by
    apply BitVec.eq_of_toNat_eq
    have hb : b.toNat < 256 := b.isLt
    simpa [leNat, BitVec.toNat_ofNat] using hb
  | b :: l, k + 1, h => by
    have hb : b.toNat < 256 := b.isLt
    rw [List.getElem_cons_succ, ← leNat_byte l k (by simpa using h), leNat, pow_succ', ← Nat.div_div_eq_div_mul,
      Nat.add_mul_div_left _ _ (by norm_num), Nat.div_eq_of_lt hb, Nat.zero_add]

/-- A number stored in two parts, the lower one first. -/
theorem memPut_append (p : Nat) : ∀ (m : List Host.Cell) (a q x y : Nat), x < 256 ^ p →
    memPut m a (p + q) (x + 256 ^ p * y) = memPut (memPut m a p x) (a + p) q y := by
  induction p with
  | zero =>
    intro m a q x y hx
    obtain rfl : x = 0 := by simpa using hx
    simp [memPut]
  | succ p ih =>
    intro m a q x y hx
    have hd : (x + 256 ^ (p + 1) * y) / 256 = x / 256 + 256 ^ p * y := by
      rw [pow_succ', mul_assoc, Nat.add_mul_div_left _ _ (by norm_num)]
    have hb : BitVec.ofNat 8 (x + 256 ^ (p + 1) * y) = BitVec.ofNat 8 x := by
      apply BitVec.eq_of_toNat_eq
      rw [BitVec.toNat_ofNat, BitVec.toNat_ofNat, pow_succ', mul_assoc]
      exact Nat.add_mul_mod_self_left _ _ _
    rw [Nat.succ_add, memPut, memPut, hd, hb, ih _ _ _ _ _ (by rw [pow_succ] at hx; omega),
      show a + 1 + p = a + (p + 1) by omega]

/-- Any byte after n bytes have been stored. -/
theorem tget_memPut (m : List Host.Cell) (a n v x : Nat) : tget (memPut m a n v) x memDefault =
    if a ≤ x ∧ x < a + n then BitVec.ofNat 8 (v / 256 ^ (x - a)) else tget m x memDefault := by
  split
  next h =>
    obtain ⟨k, rfl⟩ : ∃ k, x = a + k := ⟨x - a, by omega⟩
    rw [memPut_at n m a v k (by omega), Nat.add_sub_cancel_left]
  next h =>
    by_cases hx : x < a
    · exact memPut_below n m a v x hx
    · exact memPut_above n m a v x (by omega)

/-- Storing bytes where they were read changes nothing. -/
theorem tget_memPut_leBytes (s : State) (m : List Host.Cell) (a n x : Nat)
    (hm : ∀ y, a ≤ y → y < a + n → tget m y memDefault = s.byte y) :
    tget (memPut m a n (s.leBytes a n)) x memDefault = tget m x memDefault := by
  rw [tget_memPut]
  split
  next h => rw [leBytes_byte s a _ n (by omega), hm x h.1 h.2, Nat.add_sub_cancel' h.1]
  next => rfl

/-! ## Words of a DEC-TED memory without an error (R437, R438) -/

theorem wordData_sound (s : State) (w : Nat) (h : s.pattern w = 0) : s.wordData w = s.leBytes (8 * w) 8 := by
  simp [State.wordData, h, eccResidue, eccDecode, bits]

/-- A read inside a sound word delivers the bytes and changes nothing (R437). -/
theorem readDec_sound (s : State) (a n : Nat) (hf : a % 8 + n ≤ 8) (ha : a < 0x154000) (h : s.pattern (a / 8) = 0) :
    readDec a n s = ((s.leBytes a n, false), s) := by
  have hw : readWord (a / 8) s = ((s.leBytes (8 * (a / 8)) 8, false), s) := by
    simp [readWord, h, eccDecode, wordData_sound]
  have hp := leBytes_part s (8 * (a / 8)) (a % 8) n (8 - (a % 8 + n))
  rw [show a % 8 + (n + (8 - (a % 8 + n))) = 8 by omega, show 8 * (a / 8) + a % 8 = a by omega] at hp
  have hs : ¬ 0x154000 ≤ a := by omega
  simp only [readDec, hw, if_neg hs]
  rw [pow_mul, pow_mul, show (2 : Nat) ^ 8 = 256 from rfl, hp]

/-- From s to t the n bytes at a have become those of v, and no other byte has changed. -/
def Stores (a n v : Nat) (s t : State) : Prop :=
  ∀ x, t.byte x = if a ≤ x ∧ x < a + n then BitVec.ofNat 8 (v / 256 ^ (x - a)) else s.byte x

theorem stores_of_memPut {a n v : Nat} {s t : State} (h : t.mem = memPut s.mem a n v) : Stores a n v s t := by
  intro x
  rw [State.byte, h, tget_memPut]
  rfl

theorem Stores.congr {a n v : Nat} {s s' t t' : State} (h : Stores a n v s t) (hs : s'.mem = s.mem) (ht : t'.mem = t.mem) :
    Stores a n v s' t' := by
  intro x
  rw [byte_congr ht, byte_congr hs]
  exact h x

/-- The bytes of a list stored read back, and every other byte reads as before. -/
theorem Stores.bytes {a : Nat} {l : List Byte} {s t : State} (h : Stores a l.length (leNat l) s t) :
    (∀ k (hk : k < l.length), t.byte (a + k) = l[k]) ∧ (∀ x, x < a ∨ a + l.length ≤ x → t.byte x = s.byte x) := by
  constructor
  · intro k hk
    rw [h, if_pos (by omega), Nat.add_sub_cancel_left, leNat_byte l k hk]
  · intro x hx
    rw [h, if_neg (by omega)]

/-- Cutting a number to n bytes leaves its lower bytes. -/
theorem ofNat_mod_div (v n k : Nat) (h : k < n) : BitVec.ofNat 8 (v % 256 ^ n / 256 ^ k) = BitVec.ofNat 8 (v / 256 ^ k) := by
  obtain ⟨r, rfl⟩ : ∃ r, n = k + (1 + r) := ⟨n - k - 1, by omega⟩
  apply BitVec.eq_of_toNat_eq
  rw [BitVec.toNat_ofNat, BitVec.toNat_ofNat, show (2 : Nat) ^ 8 = 256 from rfl, pow_add, pow_add, pow_one,
    Nat.mod_mul_right_div_self, Nat.mod_mul_right_mod]

/-- The word a partial write leaves: its bytes below, the bytes written, its bytes above (R438). -/
theorem merge_eq (s : State) (b o n r v : Nat) (hn : 0 < n) (d : Nat) (hd : d = s.leBytes b (o + (n + r))) :
    d - bits d (8 * o + 8 * n - 1) (8 * o) * 2 ^ (8 * o) + v % 2 ^ (8 * n) * 2 ^ (8 * o) =
      s.leBytes b o + 256 ^ o * (v % 256 ^ n + 256 ^ n * s.leBytes (b + o + n) r) := by
  have hp := leBytes_part s b o n r
  rw [bits_eq, show 8 * o + 8 * n - 1 + 1 - 8 * o = 8 * n by omega, pow_mul, pow_mul, show (2 : Nat) ^ 8 = 256 from rfl, hd,
    hp, leBytes_add s o, leBytes_add s n]
  generalize s.leBytes b o = x
  generalize s.leBytes (b + o) n = y
  generalize s.leBytes (b + o + n) r = z
  rw [show x + 256 ^ o * (y + 256 ^ n * z) = x + 256 ^ o * (256 ^ n * z) + y * 256 ^ o by ring, Nat.add_sub_cancel]
  ring

/-- A partial write of a sound word: the bytes are merged into what it holds, and it is stored sound (R438). -/
theorem writePart_sound (s : State) (a n v : Nat) (h : s.pattern (a / 8) = 0) : writePart a n v s =
    dropScrub (a / 8) (storeClean (a / 8) (s.leBytes (8 * (a / 8)) 8 -
      bits (s.leBytes (8 * (a / 8)) 8) (8 * (a % 8) + 8 * n - 1) (8 * (a % 8)) * 2 ^ (8 * (a % 8)) +
      v % 2 ^ (8 * n) * 2 ^ (8 * (a % 8))) s) := by
  simp [writePart, h, eccDecode, wordData_sound]

theorem writePart_stores (s : State) (a n v : Nat) (hn : 0 < n) (hf : a % 8 + n ≤ 8) (h : s.pattern (a / 8) = 0) :
    Stores a n v s (writePart a n v s) := by
  obtain ⟨r, hr⟩ : ∃ r, 8 = a % 8 + (n + r) := ⟨8 - (a % 8 + n), by omega⟩
  have hb : 8 * (a / 8) + a % 8 = a := by omega
  have hlo := leBytes_lt s (a % 8) (8 * (a / 8))
  have hv : v % 256 ^ n < 256 ^ n := Nat.mod_lt _ (by positivity)
  have hm := congrArg State.mem (writePart_sound s a n v h)
  change _ = memPut s.mem (8 * (a / 8)) 8 _ at hm
  rw [merge_eq s (8 * (a / 8)) (a % 8) n r v hn _ (by rw [← hr])] at hm
  have hs : memPut s.mem (8 * (a / 8)) 8 = memPut s.mem (8 * (a / 8)) (a % 8 + (n + r)) := by rw [← hr]
  rw [hs, memPut_append _ _ _ _ _ _ hlo, hb, memPut_append _ _ _ _ _ _ hv] at hm
  -- the bytes below and above are stored where they stand
  have hlow : ∀ x, tget (memPut s.mem (8 * (a / 8)) (a % 8) (s.leBytes (8 * (a / 8)) (a % 8))) x memDefault = s.byte x :=
    fun x => tget_memPut_leBytes s _ _ _ x (fun _ _ _ => rfl)
  intro x
  rw [State.byte, hm, tget_memPut_leBytes]
  · rw [tget_memPut, hlow]
    split
    next hx => rw [ofNat_mod_div v n (x - a) (by omega)]
    next => rfl
  · intro y hy _
    rw [tget_memPut, if_neg (by omega), hlow]

theorem writeDec_stores (s : State) (a n v : Nat) (hn : 0 < n) (hf : a % 8 + n ≤ 8) (h : s.pattern (a / 8) = 0) :
    Stores a n v s (writeDec a n v s) := by
  unfold writeDec
  split
  next hw =>
    have ha : 8 * (a / 8) = a := by omega
    exact stores_of_memPut (by rw [writeFull_mem, ha, hw.1])
  next => exact writePart_stores s a n v hn hf h

theorem writeFull_memErr (w d : Nat) (s : State) : (writeFull w d s).memErr = tset s.memErr w (injPattern s w) 0 := by
  unfold writeFull
  dsimp only
  repeat' split
  all_goals rfl

theorem injPattern_eq_zero (s : State) (w : Nat) (h : s.flag MEM.base MEM.INJ_CTL_ARM = false) : injPattern s w = 0 := by
  simp [injPattern, h]

/-- A write leaves a sound word sound, unless an injection is armed (R438, R449). -/
theorem writeDec_pattern (s : State) (a n v : Nat) (h : s.pattern (a / 8) = 0)
    (hi : s.flag MEM.base MEM.INJ_CTL_ARM = false) : (writeDec a n v s).pattern (a / 8) = 0 := by
  unfold writeDec
  split
  · rw [State.pattern, writeFull_memErr, injPattern_eq_zero s _ hi, tget_tset_eq]
  · rw [writePart_sound s a n v h]
    exact tget_tset_eq s.memErr _ 0 0

/-- From s to t at most registers, memory, its error patterns and the bookkeeping of the memory controller have changed. -/
def MemOnly (s t : State) : Prop := t = { s with regs := t.regs, mem := t.mem, memErr := t.memErr, memc := t.memc }

theorem MemOnly.trans {s t u : State} (h : MemOnly s t) (h' : MemOnly t u) : MemOnly s u := by
  unfold MemOnly at *
  rw [h'] at *
  rw [h]

theorem dropScrub_memOnly (w : Nat) (s : State) : MemOnly s (dropScrub w s) := rfl

theorem storeClean_memOnly (w d : Nat) (s : State) : MemOnly s (storeClean w d s) := rfl

theorem setErr_memOnly (e : List (Nat × Nat)) (s : State) : MemOnly s { s with memErr := e } := rfl

theorem wr_memOnly (b : Nat) (f : Fld) (v : Nat) (s : State) : MemOnly s (s.wr b f v) := rfl

theorem writeFull_memOnly (w d : Nat) (s : State) (hw : 8 * w < 0x154000) : MemOnly s (writeFull w d s) := by
  have hs : ¬ (0x154000 ≤ 8 * w ∧ 8 * w < 0x158000) := fun h => absurd hw (Nat.not_lt.2 h.1)
  unfold writeFull
  dsimp only
  rw [if_neg hs]
  refine MemOnly.trans ?_ (dropScrub_memOnly w _)
  have hd : MemOnly s { storeClean w d s with memErr := tset s.memErr w (injPattern s w) 0 } :=
    (storeClean_memOnly w d s).trans (setErr_memOnly _ _)
  split
  · exact hd.trans (wr_memOnly _ _ _ _)
  · exact hd

theorem writeDec_memOnly (s : State) (a n v : Nat) (ha : a < 0x154000) (h : s.pattern (a / 8) = 0) :
    MemOnly s (writeDec a n v s) := by
  unfold writeDec
  split
  · exact writeFull_memOnly _ _ _ (by omega)
  · rw [writePart_sound s a n v h]
    exact (storeClean_memOnly _ _ _).trans (dropScrub_memOnly _ _)

end Sys2Proof.Machine

namespace Sys2Proof.Machine

/-! ## The state in which an access is carried out (R139, R444) -/

/-- From s to t at most registers and the bookkeeping of the memory controller have changed. -/
def RegsMemcOnly (s t : State) : Prop := t = { s with regs := t.regs, memc := t.memc }

theorem RegsMemcOnly.trans {s t u : State} (h : RegsMemcOnly s t) (h' : RegsMemcOnly t u) : RegsMemcOnly s u := by
  unfold RegsMemcOnly at *
  rw [h'] at *
  rw [h]

theorem RegsMemcOnly.memOnly {s t : State} (h : RegsMemcOnly s t) : MemOnly s t := by
  unfold RegsMemcOnly MemOnly at *
  rw [h]

section
variable {s t : State} (h : RegsMemcOnly s t)
include h

theorem RegsMemcOnly.mem : t.mem = s.mem := by rw [show t = _ from h]
theorem RegsMemcOnly.memErr : t.memErr = s.memErr := by rw [show t = _ from h]
theorem RegsMemcOnly.pt : t.pt = s.pt := by rw [show t = _ from h]
theorem RegsMemcOnly.dev : t.dev = s.dev := by rw [show t = _ from h]
theorem RegsMemcOnly.sys : t.sys = s.sys := by rw [show t = _ from h]

end

theorem wr_regsMemcOnly (b : Nat) (f : Fld) (v : Nat) (s : State) : RegsMemcOnly s (s.wr b f v) := rfl

theorem takeTurn_regsMemcOnly (code port : Nat) (s : State) : RegsMemcOnly s (takeTurn code port s) := by
  unfold takeTurn
  split <;> rfl

@[simp] theorem takeTurn_regs (code port : Nat) (s : State) : (takeTurn code port s).regs = s.regs := by
  unfold takeTurn
  split <;> rfl

/-- The counters of beats, which a beat may advance (R450). -/
def beatCounters : List Fld := [XBAR.MON_OPEN_BEATS, XBAR.MON_LENT_BEATS, XBAR.MON_PLAN_BEATS]

/-- A beat is counted in no counter or in one. -/
theorem countBeat_cases (port code t : Nat) (s : State) :
    countBeat port code t s = s ∨ ∃ f ∈ beatCounters, countBeat port code t s = s.bumpWrap XBAR.base f := by
  unfold countBeat
  split_ifs
  · exact .inl rfl
  · exact .inr ⟨_, by simp [beatCounters], rfl⟩
  · exact .inr ⟨_, by simp [beatCounters], rfl⟩
  · exact .inr ⟨_, by simp [beatCounters], rfl⟩

theorem countBeat_regsMemcOnly (port code t : Nat) (s : State) : RegsMemcOnly s (countBeat port code t s) := by
  obtain h | ⟨f, -, h⟩ := countBeat_cases port code t s
  · rw [h]; rfl
  · rw [h]; exact wr_regsMemcOnly _ _ _ _

theorem countBeat_memc (port code t : Nat) (s : State) : (countBeat port code t s).memc = s.memc := by
  obtain h | ⟨f, -, h⟩ := countBeat_cases port code t s
  · rw [h]
  · rw [h]; rfl

theorem countBeat_reg_ne (port code t : Nat) (s : State) {b : Nat} (hb : ∀ f ∈ beatCounters, b ≠ XBAR.base + f.off) :
    (countBeat port code t s).reg b = s.reg b := by
  obtain h | ⟨f, hf, h⟩ := countBeat_cases port code t s
  · rw [h]
  · rw [h]; exact reg_bumpWrap_ne s f (hb f hf)

theorem monBeat_regsMemcOnly (port code : Nat) (s : State) : RegsMemcOnly s (monBeat port code s) :=
  RegsMemcOnly.trans (t := markBeat port s.pt s) rfl (countBeat_regsMemcOnly _ _ _ _)

theorem monBeat_reg_ne (port code : Nat) (s : State) {b : Nat} (hb : ∀ f ∈ beatCounters, b ≠ XBAR.base + f.off) :
    (monBeat port code s).reg b = s.reg b := countBeat_reg_ne _ _ _ _ hb

theorem monBeat_beatTaken (port code : Nat) (s : State) : beatTaken (monBeat port code s) port s.pt = true := by
  simp [beatTaken, monBeat, beatAt, countBeat_memc, markBeat]

/-- A beat is counted by registers, BUSMAP and PT; the rotations have no part in it. -/
theorem monBeat_setRot_regs (port code p : Nat) (r : Rot) (s : State) :
    (monBeat port code (setRot p r s)).regs = (monBeat port code s).regs := by
  unfold monBeat beatAt countBeat
  simp only [apply_ite State.regs]
  rfl

theorem monBeat_takeTurn_regs (port code c p : Nat) (s : State) :
    (monBeat port code (takeTurn c p s)).regs = (monBeat port code s).regs := by
  unfold takeTurn
  split
  · rfl
  · exact monBeat_setRot_regs _ _ _ _ _

/-- An initiator's access at a port is carried out: the turn of the cycle is taken, and its beat counted. -/
def served (i : Initiator) (port : Nat) (s : State) : State :=
  monBeat port (initCode i) (takeTurn (initCode i) port s)

theorem served_regsMemcOnly (i : Initiator) (port : Nat) (s : State) : RegsMemcOnly s (served i port s) :=
  (takeTurn_regsMemcOnly _ _ _).trans (monBeat_regsMemcOnly _ _ _)

@[simp] theorem served_mem (i : Initiator) (port : Nat) (s : State) : (served i port s).mem = s.mem :=
  (served_regsMemcOnly i port s).mem
@[simp] theorem served_memErr (i : Initiator) (port : Nat) (s : State) : (served i port s).memErr = s.memErr :=
  (served_regsMemcOnly i port s).memErr
@[simp] theorem served_dev (i : Initiator) (port : Nat) (s : State) : (served i port s).dev = s.dev :=
  (served_regsMemcOnly i port s).dev
@[simp] theorem served_sys (i : Initiator) (port : Nat) (s : State) : (served i port s).sys = s.sys :=
  (served_regsMemcOnly i port s).sys

theorem served_reg_ne (i : Initiator) (port : Nat) (s : State) {b : Nat}
    (hb : ∀ f ∈ beatCounters, b ≠ XBAR.base + f.off) : (served i port s).reg b = s.reg b := by
  rw [served, monBeat_reg_ne _ _ _ hb]
  exact congrArg (fun r => tget r b (resetValue b)) (takeTurn_regs _ _ s)

@[simp] theorem served_pattern (i : Initiator) (port w : Nat) (s : State) : (served i port s).pattern w = s.pattern w := by
  rw [State.pattern, served_memErr]
  rfl

@[simp] theorem served_armedOrLater (i : Initiator) (port : Nat) (s : State) :
    (served i port s).armedOrLater = s.armedOrLater := by
  rw [State.armedOrLater, served_dev, served_sys]
  rfl

theorem served_rd_ne (i : Initiator) (port : Nat) (s : State) {b : Nat} {f : Fld}
    (hb : ∀ g ∈ beatCounters, b + f.off ≠ XBAR.base + g.off) : (served i port s).rd b f = s.rd b f := by
  rw [State.rd, served_reg_ne i port s hb]
  rfl

/-- A cycle that has moved its beat serves nobody else (R444). -/
theorem busAllows_eq_false {s : State} {port : Nat} (code : Nat) (hp : port < 11) (h : beatTaken s port s.pt = true) :
    busAllows s code port = false := by
  rw [busAllows, if_neg (by omega), if_pos h]

theorem served_beatTaken (i : Initiator) (port : Nat) (s : State) :
    beatTaken (served i port s) port (served i port s).pt = true := by
  have h := monBeat_beatTaken port (initCode i) (takeTurn (initCode i) port s)
  rwa [← (monBeat_regsMemcOnly port (initCode i) _).pt] at h

end Sys2Proof.Machine

namespace Sys2Proof.Machine

/-! ## Accesses of this device's own addresses -/

section
variable {a : Nat} (hw : isWindow (regionOf a) = false)
include hw

theorem peerOf_own (s : State) : peerOf s a = none := by
  unfold peerOf
  split
  next h => simp [h, isWindow] at hw
  next => rfl

theorem ownAddr_own : ownAddr a = a := by
  unfold ownAddr
  split
  next h => simp [h, isWindow] at hw
  next => rfl

theorem targetOf_own (s : State) : targetOf s a = a := by simp [targetOf, peerOf_own hw, ownAddr_own hw]

/-- A read in a cycle that serves it returns what the bus reads (R139). -/
theorem plainAccess_read {i : Initiator} {n : Nat} {s : State} (ho : portOpen s i (portOf (targetOf s a)) = true) :
    plainAccess i a n false 0 s =
      answer (busRead (.plain i) a n (takeTurn (initCode i) (portOf a) s)).1.1
        (busRead (.plain i) a n (takeTurn (initCode i) (portOf a) s)).1.2 n
        (busRead (.plain i) a n (takeTurn (initCode i) (portOf a) s)).2 := by
  rw [targetOf_own hw] at ho
  simp [plainAccess, accessBegin, accessDo, targetOf_own hw, ho, peerOf_own hw]

/-- A write in a cycle that serves it does what the bus writes (R139). -/
theorem plainAccess_write {i : Initiator} {n v : Nat} {s : State} (ho : portOpen s i (portOf (targetOf s a)) = true) :
    plainAccess i a n true v s =
      { (busWrite (.plain i) a n v (takeTurn (initCode i) (portOf a) s)).2 with
        respErr := decide ((busWrite (.plain i) a n v (takeTurn (initCode i) (portOf a) s)).1 ≠ 0) } := by
  rw [targetOf_own hw] at ho
  simp [plainAccess, accessBegin, accessDo, targetOf_own hw, ho, peerOf_own hw]

end

/-- An access without a cycle of its own waits, and changes nothing else (R139). -/
theorem plainAccess_waits {i : Initiator} {a n v : Nat} {w : Bool} {s : State}
    (ho : portOpen s i (portOf (targetOf s a)) = false) : plainAccess i a n w v s =
      { s with memc := { s.memc with waits := s.memc.waits ++ [.access (.plain i) i a n w v] },
               respData := [], respErr := false } := by
  simp [plainAccess, accessBegin, ho, addWait]

/-! ## What the bus does in each region -/

theorem regionOf_sram {a : Nat} (h : a < 0x100000) : regionOf a = some (.sram (a / 0x40000)) := by
  rw [regionOf, if_pos h]

theorem regionOf_pages {a : Nat} (h : 0x400000 ≤ a) (h' : a < 0x480000) : regionOf a = some .pages := by
  have hr := regionAt a
  generalize regionOf a = r at *
  cases hr with
  | pages => rfl
  | _ => omega

theorem busRead_none {i : Initiator} {a n : Nat} (s : State) (h : regionOf a = none) :
    busRead (.plain i) a n s = ((3, 0), busError i a false s) := by
  have hw : isWindow (regionOf a) = false := by rw [h]; rfl
  simp [busRead, peerOf_own hw, ownAddr_own hw, h, pathInit]

theorem busRead_sram {i : Initiator} {a n : Nat} {s : State} (h : a < 0x100000) (hf : a % 8 + n ≤ 8)
    (hp : s.pattern (a / 8) = 0) : busRead (.plain i) a n (takeTurn (initCode i) (portOf a) s) =
      ((0, s.leBytes a n), served i (portOf a) s) := by
  have hr := regionOf_sram h
  have hw : isWindow (regionOf a) = false := by rw [hr]; rfl
  have hd := readDec_sound (served i (portOf a) s) a n hf (by omega) (by rwa [served_pattern])
  have hl : (served i (portOf a) s).leBytes a n = s.leBytes a n :=
    leBytes_congr n a (fun k _ => byte_congr (served_mem ..) _)
  rw [hl] at hd
  simp only [served, portOf, hr] at hd ⊢
  simp [busRead, peerOf_own hw, ownAddr_own hw, hr, pathBeat, pathInit, hd]

theorem busWrite_sram {i : Initiator} {a n v : Nat} {s : State} (h : a < 0x100000) :
    busWrite (.plain i) a n v (takeTurn (initCode i) (portOf a) s) = (0, writeDec a n v (served i (portOf a) s)) := by
  have hr := regionOf_sram h
  have hw : isWindow (regionOf a) = false := by rw [hr]; rfl
  simp [busWrite, peerOf_own hw, ownAddr_own hw, hr, pathBeat, pathInit, served, portOf]

/-- How the bytes of a plan memory are written, by its code (R434). -/
def planWrite (a n v : Nat) : State → State := if a < 0x158000 then writeDec a n v else writeSecs a n v

theorem isPlanMem_cases {a : Nat} (h : isPlanMem a = true) :
    (a < 0x158000 ∧ (regionOf a = some .actions ∨ regionOf a = some .slots)) ∨
    (¬ a < 0x158000 ∧ (regionOf a = some .microcode ∨ ∃ n, regionOf a = some (.imem n))) := by
  have hr := regionAt a
  unfold isPlanMem at h
  generalize regionOf a = r at *
  cases hr with
  | actions => exact .inl ⟨by omega, .inl rfl⟩
  | slots => exact .inl ⟨by omega, .inr rfl⟩
  | microcode => exact .inr ⟨by omega, .inl rfl⟩
  | imem => exact .inr ⟨by omega, .inr ⟨_, rfl⟩⟩
  | _ => cases h

theorem isPlanMem_own {a : Nat} (h : isPlanMem a = true) : isWindow (regionOf a) = false := by
  obtain ⟨-, hr | hr⟩ | ⟨-, hr | ⟨n, hr⟩⟩ := isPlanMem_cases h <;> rw [hr] <;> rfl

theorem busWrite_planMem {i : Initiator} {a n v : Nat} {s : State} (h : isPlanMem a = true) :
    busWrite (.plain i) a n v (takeTurn (initCode i) (portOf a) s) =
      (0, planMemWrite (planWrite a n v) (served i (portOf a) s)) := by
  have hw := isPlanMem_own h
  obtain ⟨ha, hr | hr⟩ | ⟨ha, hr | ⟨m, hr⟩⟩ := isPlanMem_cases h <;>
    simp [busWrite, peerOf_own hw, ownAddr_own hw, hr, ha, pathBeat, pathInit, served, portOf, planWrite]

/-- A state function that leaves memory alone leaves it alone over a list. -/
theorem foldS_mem {α : Type} {f : α → State → State} (hf : ∀ x s, (f x s).mem = s.mem) (l : List α) (s : State) :
    (foldS l f s).mem = s.mem := by
  unfold foldS
  induction l generalizing s with
  | nil => rfl
  | cons x l ih => exact (ih _).trans (hf x s)

theorem writeSecs_stores (a n v : Nat) (s : State) : Stores a n v s (writeSecs a n v s) := by
  apply stores_of_memPut
  unfold writeSecs
  refine foldS_mem ?_ _ _
  exact fun _ _ => rfl

theorem planWrite_stores {a n v : Nat} {s : State} (hn : 0 < n) (hf : a % 8 + n ≤ 8)
    (hp : a < 0x158000 → s.pattern (a / 8) = 0) : Stores a n v s (planWrite a n v s) := by
  unfold planWrite
  split
  next h => exact writeDec_stores s a n v hn hf (hp h)
  next => exact writeSecs_stores a n v s

/-! ## Commands in their form -/

theorem accessForm_beat {a n : Nat} (h : accessForm a n = true) : 0 < n ∧ a % 8 + n ≤ 8 := by
  simp only [accessForm, Bool.and_eq_true, decide_eq_true_eq] at h
  exact h.1

section
variable {i : Initiator} {a v : Word} {n : Nat} {l : List Byte} {s : State} (hb : busStopped s = false)
include hb

theorem exec_memoryRead (hf : accessForm a.toNat n = true) :
    exec (.memoryRead i a n) s = .next (plainAccess i a.toNat n false 0 s) := by
  simp [exec, execMemoryRead, hf, hb]

theorem exec_memoryWrite (hf : accessForm a.toNat l.length = true) :
    exec (.memoryWrite i a l) s = .next (plainAccess i a.toNat l.length true (leNat l) s) := by
  simp [exec, execMemoryWrite, hf, hb]

theorem exec_planMemoryWrite (hf : accessForm a.toNat l.length = true) (hp : isPlanMem a.toNat = true) :
    exec (.planMemoryWrite i a l) s = .next (plainAccess i a.toNat l.length true (leNat l) s) := by
  simp [exec, execPlanMemoryWrite, hf, hp, hb]

theorem exec_registerWrite (hr : isRegAddr a.toNat = true) (ha : a.toNat % 4 = 0) :
    exec (.registerWrite i a v) s = .next (plainAccess i a.toNat 4 true v.toNat s) := by
  simp [exec, execRegisterWrite, hr, ha, hb]

end

/-! ## What each access leaves -/

section
variable {i : Initiator} {a n v : Nat} {s : State}

theorem read_sram (hf : a % 8 + n ≤ 8) (ho : portOpen s i (portOf (targetOf s a)) = true) (ha : a < 0x100000)
    (hp : s.pattern (a / 8) = 0) :
    plainAccess i a n false 0 s = answer 0 (s.leBytes a n) n (served i (portOf a) s) := by
  have hw : isWindow (regionOf a) = false := by rw [regionOf_sram ha]; rfl
  rw [plainAccess_read hw ho, busRead_sram ha hf hp]

theorem read_none (ho : portOpen s i (portOf (targetOf s a)) = true) (hr : regionOf a = none) :
    plainAccess i a n false 0 s =
      answer 3 0 n (busError i a false (takeTurn (initCode i) (portOf a) s)) := by
  have hw : isWindow (regionOf a) = false := by rw [hr]; rfl
  rw [plainAccess_read hw ho, busRead_none _ hr]

theorem write_sram (ho : portOpen s i (portOf (targetOf s a)) = true) (ha : a < 0x100000) :
    plainAccess i a n true v s = { writeDec a n v (served i (portOf a) s) with respErr := false } := by
  have hw : isWindow (regionOf a) = false := by rw [regionOf_sram ha]; rfl
  rw [plainAccess_write hw ho, busWrite_sram ha]
  rfl

theorem write_planMem (ho : portOpen s i (portOf (targetOf s a)) = true) (hm : isPlanMem a = true) :
    plainAccess i a n true v s =
      { planMemWrite (planWrite a n v) (served i (portOf a) s) with respErr := false } := by
  rw [plainAccess_write (isPlanMem_own hm) ho, busWrite_planMem hm]
  rfl

end

/-- A bus error is recorded with its address, and changes no memory (R435). -/
theorem busError_records (i : Initiator) (a : Nat) (w : Bool) (s : State) :
    (busError i a w s).reg (MEM.base + 0x70) = toWord a ∧ (busError i a w s).mem = s.mem := by
  constructor
  · show (State.raise _ 14).reg _ = _
    rw [reg_raise_ne _ _ (by decide), reg_setReg_ne _ _ (by decide), reg_setReg_self]
  · simp [busError]

end Sys2Proof.Machine

namespace Sys2Proof.Machine

/-! ## The winner of an open cycle (R445) -/

/-- A rotation gives the turn to a member that asks. -/
theorem pickMember_asks {asks : Nat → Bool} {w : Nat → Nat} {n last had m k : Nat}
    (h : pickMember asks w n last had = some (m, k)) : m < n ∧ asks m = true := by
  unfold pickMember at h
  split at h
  next hl =>
    obtain ⟨rfl, -⟩ := Prod.mk.inj (Option.some.inj h)
    exact ⟨hl.1, hl.2.2⟩
  next =>
    obtain ⟨j, hj, he⟩ := Option.map_eq_some_iff.1 h
    obtain ⟨rfl, -⟩ := Prod.mk.inj he
    have hn := List.mem_range.1 (List.mem_of_find?_eq_some hj)
    have ha : asks ((last + 1 + j) % n) = true := by simpa using List.find?_some hj
    exact ⟨Nat.mod_lt _ (by omega), ha⟩

theorem greatestAt_lt {l : List Int} (h : l ≠ []) : greatestAt l < l.length := by
  refine List.foldlRecOn (motive := (· < l.length)) _ _ (List.length_pos_of_ne_nil h) ?_
  intro k hk i hi
  split
  · exact List.mem_range.1 hi
  · exact hk

/-- Every turn of a round is a member's. -/
theorem turnsFrom_lt {w : List Nat} (hw : w ≠ []) : ∀ (n : Nat) (l : List Int), l.length = w.length →
    ∀ x ∈ turnsFrom w n l, x < w.length
  | 0, _, _, x, hx => by simp [turnsFrom] at hx
  | n + 1, l, hl, x, hx => by
    have hz : (List.zipWith (fun (a : Int) (b : Nat) => a + b) l w).length = w.length := by simp [hl]
    rw [turnsFrom] at hx
    rcases List.mem_cons.1 hx with rfl | hx
    · have := greatestAt_lt (l := List.zipWith (fun (a : Int) (b : Nat) => a + b) l w)
        (by intro h; rw [h] at hz; exact hw (List.length_eq_zero_iff.1 hz.symm))
      omega
    · exact turnsFrom_lt hw n _ (by rw [List.length_set, hz]) x hx

theorem hostTurns_lt (s : State) (k : Nat) : (hostTurns s).getD k 0 < 4 := by
  rw [List.getD_eq_getElem?_getD]
  rcases h : (hostTurns s)[k]? with _ | x
  · decide
  · exact turnsFrom_lt (by simp) _ _ (by simp) x (List.mem_of_getElem? h)

/-- A turn that comes to a cluster serves a member that presents a request, if any. -/
theorem clusterPick_asks {s : State} {asks : Nat → Bool} {k c : Nat} {r : Rot}
    (h : (clusterPick s asks k r).1 = some c) : asks c = true ∧ c ∈ clusterCodes := by
  unfold clusterPick at h
  split at h
  · split at h
    next m n hp =>
      obtain ⟨hm, ha⟩ := pickMember_asks hp
      obtain rfl := Option.some.inj h
      exact ⟨ha, by simp [clusterCodes]; omega⟩
    next => cases h
  · split at h
    · split at h
      next m n hp =>
        obtain ⟨hm, ha⟩ := pickMember_asks hp
        obtain rfl := Option.some.inj h
        refine ⟨ha, ?_⟩
        split
        · simp [clusterCodes]
        · simp [clusterCodes]; omega
      next => cases h
    · dsimp only at h
      split at h
      next ha =>
        obtain rfl := Option.some.inj h
        have := hostTurns_lt s (r.host % (hostTurns s).length)
        exact ⟨ha, by simp only [clusterCodes, List.mem_append, List.mem_cons]; omega⟩
      next => cases h

theorem offerTurn_asks {s : State} {asks : Nat → Bool} {c : Nat} : ∀ {l : List Nat} {r : Rot},
    (offerTurn s asks l r).1 = some c → asks c = true ∧ c ∈ clusterCodes
  | [], _, h => by cases h
  | k :: l, r, h => by
    unfold offerTurn at h
    dsimp only at h
    split at h
    next hc => exact clusterPick_asks (hc.trans h)
    next => exact offerTurn_asks h

/-! ## A write of an ordinary register (R12) -/

/-- Two fields without a common bit. -/
def Apart (f g : Fld) : Prop := f.hi < g.lo ∨ g.hi < f.lo

theorem Apart.symm {f g : Fld} (h : Apart f g) : Apart g f := Or.symm h

/-- Fields that lie in a word and share no bit with another one at the same offset. -/
def fieldsSound (fs : List Fld) : Bool :=
  fs.all Fld.fits && decide (fs.Pairwise (fun f g => f.off = g.off → f.hi < g.lo ∨ g.hi < f.lo))

theorem regBlocks_sound : regBlocks.all (fun b => fieldsSound b.fields) = true := by decide +kernel

/-- The register at an address that a list of blocks holds is one of a block. -/
theorem fieldsIn_eq (a : Nat) : ∀ bs : List RegBlock,
    fieldsIn bs a = [] ∨ ∃ b ∈ bs, ∃ o, fieldsIn bs a = b.fields.filter (fun f => f.off == o)
  | [] => .inl rfl
  | b :: bs => by
    unfold fieldsIn
    split
    next =>
      obtain h | ⟨b', hb, h⟩ := fieldsIn_eq a bs
      · exact .inl h
      · exact .inr ⟨b', List.mem_cons_of_mem _ hb, h⟩
    next hne =>
      right
      refine ⟨b, by simp, ?_⟩
      unfold RegBlock.fieldsAt at *
      rcases h : b.offsetOf a with _ | o
      · simp [h] at hne
      · exact ⟨o, rfl⟩

/-- The fields of a register outside the header lie in a word and share no bit. -/
theorem fieldsAt_sound {a : Nat} (h : 0x40 ≤ a % 0x1000) :
    (fieldsAt a).Pairwise Apart ∧ ∀ f ∈ fieldsAt a, f.fits = true := by
  rw [fieldsAt, if_neg (by omega)]
  obtain he | ⟨b, hb, o, he⟩ := fieldsIn_eq a regBlocks
  · simp [he]
  · have hs := List.all_eq_true.1 regBlocks_sound b hb
    simp only [fieldsSound, Bool.and_eq_true, decide_eq_true_eq, List.all_eq_true] at hs
    obtain ⟨hfit, hpair⟩ := hs
    rw [he]
    refine ⟨?_, fun f hf => hfit f (List.mem_of_mem_filter hf)⟩
    refine (hpair.filter _).imp_of_mem ?_
    intro f g hf hg hfg
    have h1 : f.off = o := by simpa using (List.mem_filter.1 hf).2
    have h2 : g.off = o := by simpa using (List.mem_filter.1 hg).2
    exact hfg (h1.trans h2.symm)

/-- What a field holds after a write of its register, from what it held (R12). -/
def written (f : Fld) (v : Word) (x : Nat) : Nat :=
  match f.acc with
  | .rw | .rws => f.of v
  | .w1c => x &&& (f.top ^^^ f.of v)
  | _ => x

theorem of_lt_size (f : Fld) (w : Word) : f.of w < f.size := by
  rw [Fld.of, bits_eq]
  exact Nat.mod_lt _ (by positivity)

theorem of_fieldWrite_self {f : Fld} (h : f.fits = true) (v w : Word) : f.of (fieldWrite v w f) = written f v (f.of w) := by
  unfold fieldWrite written
  cases f.acc with
  | rw | rws => exact (of_put f w _ h).trans (Nat.mod_eq_of_lt (of_lt_size f v))
  | w1c => exact (of_put f w _ h).trans (Nat.mod_eq_of_lt (Nat.and_le_left.trans_lt (of_lt_size f w)))
  | _ => rfl

theorem of_fieldWrite_apart {f g : Fld} (hf : f.fits = true) (hg : g.fits = true) (h : Apart f g) (v w : Word) :
    g.of (fieldWrite v w f) = g.of w := by
  unfold fieldWrite
  split
  · exact of_put_disj f g w _ hf hg h
  · exact of_put_disj f g w _ hf hg h
  · exact of_put_disj f g w _ hf hg h
  · rfl

theorem of_foldl_apart {f : Fld} (hf : f.fits = true) (v : Word) : ∀ (fs : List Fld) (w : Word),
    (∀ g ∈ fs, g.fits = true ∧ Apart f g) → f.of (fs.foldl (fieldWrite v) w) = f.of w
  | [], _, _ => rfl
  | g :: fs, w, h => by
    have hg := h g (by simp)
    rw [List.foldl_cons, of_foldl_apart hf v fs _ (fun k hk => h k (List.mem_cons_of_mem _ hk)),
      of_fieldWrite_apart hg.1 hf hg.2.symm]

/-- Each field of a register written takes its own share of the write. -/
theorem of_foldl_mem {f : Fld} (v : Word) : ∀ (fs : List Fld) (w : Word), fs.Pairwise Apart →
    (∀ g ∈ fs, g.fits = true) → f ∈ fs → f.of (fs.foldl (fieldWrite v) w) = written f v (f.of w)
  | g :: fs, w, hp, hfit, hm => by
    obtain ⟨hg, hp⟩ := List.pairwise_cons.1 hp
    have hfs : ∀ k ∈ fs, k.fits = true := fun k hk => hfit k (List.mem_cons_of_mem _ hk)
    rw [List.foldl_cons]
    rcases List.mem_cons.1 hm with rfl | hm
    · have hf := hfit f (by simp)
      rw [of_foldl_apart hf v fs _ (fun k hk => ⟨hfs k hk, hg k hk⟩), of_fieldWrite_self hf]
    · rw [of_foldl_mem v fs _ hp hfs hm, of_fieldWrite_apart (hfit g (by simp)) (hfs f hm) (hg f hm)]

/-- A write of a register outside the header, field by field. -/
theorem of_plainWrite {a : Nat} (h : 0x40 ≤ a % 0x1000) (v : Word) (s : State) {f : Fld} (hf : f ∈ fieldsAt a) :
    f.of ((plainWrite a v s).reg a) = written f v (f.of (s.reg a)) := by
  rw [plainWrite, reg_setReg_self]
  exact of_foldl_mem v _ _ (fieldsAt_sound h).1 (fieldsAt_sound h).2 hf

theorem noteLoadReg_reg (a b : Nat) (s : State) : (noteLoadReg a s).reg b = s.reg b := by
  unfold noteLoadReg
  dsimp only
  split <;> rfl

theorem noteLoadReg_mem (a : Nat) (s : State) : (noteLoadReg a s).mem = s.mem := by
  unfold noteLoadReg
  dsimp only
  split <;> rfl

theorem beatCounters_offset : ∀ g ∈ beatCounters, (XBAR.base + g.off) % 0x1000 ≠ 8 := by decide

@[simp] theorem served_clockOff (i : Initiator) (port p : Nat) (s : State) :
    (served i port s).clockOff p = s.clockOff p := by
  have hne : ∀ g ∈ beatCounters, pageBase p + HDR.CTRL_ENABLE.off ≠ XBAR.base + g.off := by
    intro g hg he
    have h1 : (XBAR.base + g.off) % 0x1000 ≠ 8 := beatCounters_offset g hg
    rw [← he] at h1
    unfold pageBase at h1
    exact h1 (by show (0x400000 + p * 0x1000 + 8) % 0x1000 = 8; omega)
  rw [State.clockOff, State.flag, served_rd_ne i port s hne]
  rfl

/-- The staging registers act when they are written, so a register whose write does not act is none of them (R192). -/
theorem subDenied_eq_false {i : Initiator} {a : Nat} {v : Word} (ha : a % 4 = 0) (h : writeActs i a v = none) :
    subDenied i a = false := by
  refine Bool.eq_false_iff.2 fun hd => ?_
  rw [subDenied, Bool.and_eq_true, Bool.and_eq_true] at hd
  obtain ⟨⟨hd1, hd2⟩, -⟩ := hd
  have h1 : 0x406040 ≤ a := of_decide_eq_true hd1
  have h2 : a < 0x406050 := of_decide_eq_true hd2
  have hc : a = 0x406040 ∨ a = 0x406044 ∨ a = 0x406048 ∨ a = 0x40604C := by omega
  rcases hc with rfl | rfl | rfl | rfl <;> simp [writeActs, writeActs1, pageOf] at h

theorem w1c_not_counted {a : Nat} {f : Fld} (hf : f ∈ fieldsAt a) (hacc : f.acc = .w1c) :
    ∀ g ∈ beatCounters, a ≠ XBAR.base + g.off := by
  rintro g hg rfl
  have : ∀ g ∈ beatCounters, ∀ f ∈ fieldsAt (XBAR.base + g.off), f.acc ≠ .w1c := by decide +kernel
  exact this g hg f hf hacc

end Sys2Proof.Machine

namespace Sys2Proof.Machine

/-! ## Where a register is written over the bus -/

theorem busWrite_pages {i : Initiator} {a : Nat} {v : Word} {s : State} (h : 0x400000 ≤ a) (h' : a < 0x480000)
    (ha : a % 4 = 0) (hd : subDenied i a = false) :
    busWrite (.plain i) a 4 v.toNat (takeTurn (initCode i) (portOf a) s) = (0, regWrite i a v (served i (portOf a) s)) := by
  have hr := regionOf_pages h h'
  have hw : isWindow (regionOf a) = false := by rw [hr]; rfl
  have hv : toWord v.toNat = v := BitVec.ofNat_toNat _ _ |>.trans (by simp)
  simp [busWrite, peerOf_own hw, ownAddr_own hw, hr, pathBeat, pathInit, served, portOf, hd, ha, hv]

/-- A write of a register without a behaviour of its own (R12). -/
theorem regWrite_plain {i : Initiator} {a : Nat} {v : Word} {s : State} (h : 0x400000 ≤ a)
    (hprof : profTableAt a = none) (hne : fieldsAt a ≠ []) (hres : isTrkBReserved a = false) (ho : 0x40 ≤ a % 0x1000)
    (hc : s.clockOff (pageOf a) = false) (hact : writeActs i a v = none) :
    regWrite i a v s = noteLoadReg a (plainWrite a v s) := by
  rw [regWrite, if_neg (by omega), hprof]
  simp [hne, hres, hc, hact, show ¬ a % 0x1000 < 0x40 by omega]

theorem write_pages {i : Initiator} {a : Nat} {v : Word} {s : State} (hopen : portOpen s i (portOf (targetOf s a)) = true)
    (h : 0x400000 ≤ a) (h' : a < 0x480000) (ha : a % 4 = 0)
    (hprof : profTableAt a = none) (hne : fieldsAt a ≠ []) (hres : isTrkBReserved a = false) (ho : 0x40 ≤ a % 0x1000)
    (hc : s.clockOff (pageOf a) = false) (hact : writeActs i a v = none) :
    plainAccess i a 4 true v.toNat s =
      { noteLoadReg a (plainWrite a v (served i (portOf a) s)) with respErr := false } := by
  have hw : isWindow (regionOf a) = false := by rw [regionOf_pages h h']; rfl
  rw [plainAccess_write hw hopen, busWrite_pages h h' ha (subDenied_eq_false ha hact),
    regWrite_plain h hprof hne hres ho (by rwa [served_clockOff]) hact]
  rfl

/-- A field after the write, said of what the register held before the beat was counted. -/
theorem written_served {a : Nat} {f : Fld} (hf : f ∈ fieldsAt a) (i : Initiator) (port : Nat) (v : Word) (s : State) :
    written f v (f.of ((served i port s).reg a)) = match f.acc with
      | .rw | .rws => f.of v
      | .w1c => f.of (s.reg a) &&& (f.top ^^^ f.of v)
      | _ => f.of ((monBeat port (initCode i) s).reg a) := by
  have hm : (served i port s).reg a = (monBeat port (initCode i) s).reg a := by
    rw [State.reg, served, monBeat_takeTurn_regs]
    rfl
  unfold written
  cases hacc : f.acc with
  | rw | rws => rfl
  | w1c => rw [served_reg_ne i port s (w1c_not_counted hf hacc)]
  | _ => rw [hm]

/-! ## The clauses of O44 -/

theorem answer_done (v n : Nat) (s : State) : answer 0 v n s =
    { s with respData := if n ≤ 4 then [toWord v] else [toWord v, toWord (v / 2 ^ 32)], respErr := false } := rfl

theorem flag_setRespErr (s : State) (e : Bool) (b : Nat) (f : Fld) :
    State.flag { s with respErr := e } b f = s.flag b f := rfl

theorem Stores.setRespErr {a n v : Nat} {s t : State} (h : Stores a n v s t) (e : Bool) :
    Stores a n v s { t with respErr := e } := h

theorem Stores.wr {a n v : Nat} {s t : State} (h : Stores a n v s t) (b : Nat) (f : Fld) (x : Nat) :
    Stores a n v s (t.wr b f x) := h

theorem portOf_sram {a : Nat} (h : a < 0x100000) (s : State) : portOf (targetOf s a) = portOf a ∧ portOf a < 11 := by
  have hr := regionOf_sram h
  refine ⟨by rw [targetOf_own (by rw [hr]; rfl)], ?_⟩
  rw [portOf, hr]
  show a / 0x40000 < 11
  omega

/-- A read of sound SRAM answers the bytes, and takes the cycle (R437, R444). -/
theorem memoryRead_sound (i : Initiator) (a : Word) (n : Nat) (s : State) (hf : accessForm a.toNat n = true)
    (hb : busStopped s = false) (ho : portOpen s i (portOf (targetOf s a.toNat)) = true) (ha : a.toNat < 0x100000)
    (hp : s.pattern (a.toNat / 8) = 0) :
    ∃ t, exec (.memoryRead i a n) s = .next t ∧
      t.respData = (if n ≤ 4 then [toWord (s.leBytes a.toNat n)]
        else [toWord (s.leBytes a.toNat n), toWord (s.leBytes a.toNat n / 2 ^ 32)]) ∧ t.respErr = false ∧
      (∀ code, busAllows t code (portOf (targetOf s a.toNat)) = false) ∧
      t = { s with regs := t.regs, memc := t.memc, respData := t.respData, respErr := false } := by
  obtain ⟨hport, hlt⟩ := portOf_sram ha s
  have hbeat := served_beatTaken i (portOf a.toNat) s
  have honly := served_regsMemcOnly i (portOf a.toNat) s
  refine ⟨_, exec_memoryRead hb hf, ?_⟩
  rw [read_sram (accessForm_beat hf).2 ho ha hp, answer_done, hport]
  refine ⟨rfl, rfl, fun code => busAllows_eq_false code hlt hbeat, ?_⟩
  rw [show served i (portOf a.toNat) s = _ from honly]

/-- An address outside every region answers with a bus error (R435). -/
theorem memoryRead_nowhere (i : Initiator) (a : Word) (n : Nat) (s : State) (hf : accessForm a.toNat n = true)
    (hb : busStopped s = false) (ho : portOpen s i (portOf (targetOf s a.toNat)) = true) (hr : regionOf a.toNat = none) :
    ∃ t, exec (.memoryRead i a n) s = .next t ∧ t.respErr ∧ t.respData = [] ∧ t.reg (MEM.base + 0x70) = a ∧
      t.mem = s.mem := by
  obtain ⟨hreg, hmem⟩ := busError_records i a.toNat false (takeTurn (initCode i) (portOf a.toNat) s)
  refine ⟨_, exec_memoryRead hb hf, ?_⟩
  rw [read_none ho hr]
  refine ⟨rfl, rfl, hreg.trans (by simp [toWord]), hmem.trans (takeTurn_regsMemcOnly _ _ _).mem⟩

/-- A write of sound SRAM changes the bytes it names and no other (R438). -/
theorem memoryWrite_sound (i : Initiator) (a : Word) (l : List Byte) (s : State) (hf : accessForm a.toNat l.length = true)
    (hb : busStopped s = false) (ho : portOpen s i (portOf (targetOf s a.toNat)) = true) (ha : a.toNat < 0x100000)
    (hp : s.pattern (a.toNat / 8) = 0) (hi : s.flag MEM.base MEM.INJ_CTL_ARM = false) :
    ∃ t, exec (.memoryWrite i a l) s = .next t ∧ t.respErr = false ∧ t.pattern (a.toNat / 8) = 0 ∧
      (∀ k (h : k < l.length), t.byte (a.toNat + k) = l[k]) ∧
      (∀ x, x < a.toNat ∨ a.toNat + l.length ≤ x → t.byte x = s.byte x) ∧
      t = { s with regs := t.regs, mem := t.mem, memErr := t.memErr, memc := t.memc, respErr := false } := by
  obtain ⟨hn, hbeat⟩ := accessForm_beat hf
  have hp' : (served i (portOf a.toNat) s).pattern (a.toNat / 8) = 0 := by rwa [served_pattern]
  have hi' : (served i (portOf a.toNat) s).flag MEM.base MEM.INJ_CTL_ARM = false := by
    rw [State.flag, served_rd_ne i _ s (by decide)]
    exact hi
  have hst := (writeDec_stores _ a.toNat l.length (leNat l) hn hbeat hp').congr (served_mem ..).symm rfl
  have honly := (served_regsMemcOnly i (portOf a.toNat) s).memOnly.trans
    (writeDec_memOnly _ a.toNat l.length (leNat l) (by omega) hp')
  have hpat := writeDec_pattern _ a.toNat l.length (leNat l) hp' hi'
  refine ⟨_, exec_memoryWrite hb hf, ?_⟩
  rw [write_sram ho ha]
  refine ⟨rfl, hpat, hst.bytes.1, hst.bytes.2, ?_⟩
  generalize writeDec a.toNat l.length (leNat l) (served i (portOf a.toNat) s) = u at honly
  rw [show u = _ from honly]

/-- While armed a write to a plan memory is discarded and counted (R180). -/
theorem planMemoryWrite_armed (i : Initiator) (a : Word) (l : List Byte) (s : State)
    (hf : accessForm a.toNat l.length = true) (hb : busStopped s = false)
    (ho : portOpen s i (portOf (targetOf s a.toNat)) = true) (hm : isPlanMem a.toNat = true)
    (harm : s.armedOrLater = true) :
    ∃ t, exec (.planMemoryWrite i a l) s = .next t ∧
      t.rd PLAN.base HDR.ERR_COUNT = sat 65535 (s.rd PLAN.base HDR.ERR_COUNT + 1) ∧ t.mem = s.mem ∧
      t = { s with regs := t.regs, memc := t.memc, respErr := false } := by
  have hrd : (served i (portOf a.toNat) s).rd PLAN.base HDR.ERR_COUNT = s.rd PLAN.base HDR.ERR_COUNT :=
    served_rd_ne i _ s (by decide)
  have honly := (served_regsMemcOnly i (portOf a.toNat) s).trans (t := served i (portOf a.toNat) s)
    (u := (served i (portOf a.toNat) s).err 0x05) (wr_regsMemcOnly _ _ _ _)
  have hcount : ((served i (portOf a.toNat) s).err 0x05).rd PLAN.base HDR.ERR_COUNT =
      sat 65535 (s.rd PLAN.base HDR.ERR_COUNT + 1) := (rd_bump_self _ PLAN.base HDR.ERR_COUNT rfl).trans (by rw [hrd]; rfl)
  refine ⟨_, exec_planMemoryWrite hb hf hm, ?_⟩
  rw [write_planMem ho hm, planMemWrite, if_pos (by rwa [served_armedOrLater])]
  refine ⟨hcount, honly.mem, ?_⟩
  generalize (served i (portOf a.toNat) s).err 0x05 = u at honly
  rw [show u = _ from honly]

/-- Not armed, a plan memory takes a write, which taints the plan (R180). -/
theorem planMemoryWrite_unarmed (i : Initiator) (a : Word) (l : List Byte) (s : State)
    (hf : accessForm a.toNat l.length = true) (hb : busStopped s = false)
    (ho : portOpen s i (portOf (targetOf s a.toNat)) = true) (hm : isPlanMem a.toNat = true)
    (harm : s.armedOrLater = false) (hp : a.toNat < 0x158000 → s.pattern (a.toNat / 8) = 0) :
    ∃ t, exec (.planMemoryWrite i a l) s = .next t ∧ t.flag PLAN.base PLAN.INFO_TAINTED ∧ t.respErr = false ∧
      (∀ k (h : k < l.length), t.byte (a.toNat + k) = l[k]) ∧
      (∀ x, x < a.toNat ∨ a.toNat + l.length ≤ x → t.byte x = s.byte x) := by
  obtain ⟨hn, hbeat⟩ := accessForm_beat hf
  have hst := (planWrite_stores (s := served i (portOf a.toNat) s) (v := leNat l) hn hbeat
    (by simpa using hp)).congr (served_mem ..).symm rfl
  have htaint (u : State) : (u.wr PLAN.base PLAN.INFO_TAINTED 1).flag PLAN.base PLAN.INFO_TAINTED = true :=
    flag_wr_self u PLAN.base PLAN.INFO_TAINTED 1 rfl
  refine ⟨_, exec_planMemoryWrite hb hf hm, ?_⟩
  rw [write_planMem ho hm, planMemWrite, if_neg (by simp [harm])]
  exact ⟨(flag_setRespErr _ _ _ _).trans (htaint _), rfl, ((hst.wr _ _ _).setRespErr _).bytes⟩

/-- A write of an ordinary register acts field by field, as the access codes say (R12). -/
theorem registerWrite_fields (i : Initiator) (a v : Word) (s : State) (hb : busStopped s = false)
    (hopen : portOpen s i (portOf (targetOf s a.toNat)) = true) (h : 0x400000 ≤ a.toNat) (h' : a.toNat < 0x480000)
    (ha : a.toNat % 4 = 0) (hprof : profTableAt a.toNat = none) (hne : fieldsAt a.toNat ≠ [])
    (hres : isTrkBReserved a.toNat = false) (ho : 0x40 ≤ a.toNat % 0x1000) (hc : s.clockOff (pageOf a.toNat) = false)
    (hact : writeActs i a.toNat v = none) :
    ∃ t, exec (.registerWrite i a v) s = .next t ∧ t.respErr = false ∧
      (∀ f ∈ fieldsAt a.toNat, f.of (t.reg a.toNat) = match f.acc with
        | .rw | .rws => f.of v
        | .w1c => f.of (s.reg a.toNat) &&& (f.top ^^^ f.of v)
        | _ => f.of ((monBeat 9 (initCode i) s).reg a.toNat)) ∧
      t.mem = s.mem := by
  have hr := regionOf_pages h h'
  have hport : portOf a.toNat = 9 := by rw [portOf, hr]; rfl
  have hreg : isRegAddr a.toNat = true := by rw [isRegAddr_eq, hr]; rfl
  refine ⟨_, exec_registerWrite hb hreg ha, ?_⟩
  rw [write_pages hopen h h' ha hprof hne hres ho hc hact, hport]
  refine ⟨rfl, fun f hf => ?_, (noteLoadReg_mem _ _).trans (served_mem ..)⟩
  calc f.of ((noteLoadReg a.toNat (plainWrite a.toNat v (served i 9 s))).reg a.toNat)
      = f.of ((plainWrite a.toNat v (served i 9 s)).reg a.toNat) := by rw [noteLoadReg_reg]
    _ = written f v (f.of ((served i 9 s).reg a.toNat)) := of_plainWrite ho v _ hf
    _ = _ := written_served hf i 9 v s

/-- Settles O44: each clause by the lemma on its access; an access that waits is begun and no more. -/
theorem accessesReadAndWrite : Obligations.AccessesReadAndWrite :=
  ⟨memoryRead_sound, fun _ _ _ _ h => offerTurn_asks h, memoryRead_nowhere, memoryWrite_sound, planMemoryWrite_armed,
    planMemoryWrite_unarmed, registerWrite_fields,
    fun _ _ _ _ hf hb ho => ⟨_, exec_memoryRead hb hf, plainAccess_waits ho⟩,
    fun _ _ _ _ hf hb ho => ⟨_, exec_memoryWrite hb hf, plainAccess_waits ho⟩,
    fun _ _ _ _ hr ha hb ho => ⟨_, exec_registerWrite hb hr ha, plainAccess_waits ho⟩⟩

end Sys2Proof.Machine

namespace Sys2Proof.Machine

/-! ## Every command keeps the invariant -/

section

/-- A command's effect keeps what `Good` says, where it answers a next state. -/
def Keeps (f : State → Host.Outcome State Fault Refusal) : Prop :=
  ∀ (q : List Instr) (s t : State), Good q s → f s = .next t → Good q t

variable {f : State → State} {o : State → Host.Outcome State Fault Refusal} {r : Fault} {p : Prop} [Decidable p]

theorem keeps_step (hf : ∀ {q : List Instr} (s : State), Good q s → Good q (f s)) : Keeps (fun s => .next (f s)) := by
  intro q s t hg ht
  cases ht
  exact hf s hg

theorem keeps_fault : Keeps (fun _ => .fault r) := fun _ _ _ _ h => nomatch h

/-- A command that a check refuses keeps it if the command that passes does. -/
theorem keeps_guard (ho : Keeps o) : Keeps (fun s => if p then .fault r else o s) := by
  split
  · exact keeps_fault
  · exact ho

theorem keeps_form (ho : Keeps o) : Keeps (fun s => if p then o s else .fault r) := by
  split
  · exact ho
  · exact keeps_fault

/-- A write of a block whose clock may be stopped (R484). -/
theorem keeps_clocked {page : Nat} (hf : ∀ {q : List Instr} (s : State), Good q s → Good q (f s)) :
    Keeps (fun s => .next (s.clocked page f)) := keeps_step fun s h => s.clocked_good page f hf h

/-- An access over the crossbar, which a reset or PARK stops. -/
theorem keeps_access (i : Initiator) (a n : Nat) (w : Bool) (v : Nat) :
    Keeps (fun s => .next (if busStopped s then s else plainAccess i a n w v s)) :=
  keeps_step fun _ h => good_ite h (plainAccess_good _ _ _ _ _ _ h)

theorem keeps_gen1 (hf : ∀ {q : List Instr} (s : State), Good q s → Good q (f s)) :
    Keeps (fun s => .next (gen1Frame f s)) := keeps_step fun _ h => gen1Frame_good _ _ h hf

/-- An instruction of a core. -/
theorem keeps_coreExec {c : Fin 4} {op : Nat} {g : Nat → CoreBank → State → State}
    (hg : ∀ {q : List Instr} (w : Nat) (b : CoreBank) (s : State), Good q s → Good q (g w b s)) :
    Keeps (fun s => .next (coreExec c op g s)) := keeps_step fun _ h => coreExec_good _ _ _ _ h hg

/-- A microcode instruction of a shaper. -/
theorem keeps_ucExec {b : Fin 16} {op : Nat} {g : Nat → State → State}
    (hg : ∀ {q : List Instr} (w : Nat) (s : State), Good q s → Good q (g w s)) :
    Keeps (fun s => .next (ucExec b op g s)) := keeps_step fun _ h => ucExec_good _ _ _ _ hg h

/-- An instruction of a Runnel engine. -/
theorem keeps_rnlExec {e : Fin 8} {op : Nat} {g : Nat → State → State}
    (hg : ∀ {q : List Instr} (w : Nat) (s : State), Good q s → Good q (g w s)) :
    Keeps (fun s => .next (rnlExec e op g s)) := keeps_step fun _ h => rnlExec_good _ _ _ _ h hg

/-- An instruction of a Runnel engine that looks at the pins first. -/
theorem keeps_rnl_pins {e : Fin 8} {op : Nat} {pins : Word} {g : Nat → State → State}
    (hg : ∀ {q : List Instr} (w : Nat) (s : State), Good q s → Good q (g w s)) :
    Keeps (fun s => .next (rnlExec e op g (seePins pins s))) :=
  keeps_step fun _ h => rnlExec_good _ _ _ _ (seePins_good _ _ h) hg

/-- Every command keeps it: each by the lemma on its own effect. -/
theorem exec_keeps (c : Instr) : Keeps (exec c) := by
  cases c with
  | vrEdge => exact keeps_step (vrEdgeStep_good _ _)
  | hallTransition => exact keeps_step (hallTransitionStep_good _ _ _)
  | hallGlitch => exact keeps_step (hallGlitchStep_good _ _ _)
  | dirPulseLeading => exact keeps_step (dirLeadingStep_good _)
  | dirPulseClass => exact keeps_step (dirClassStep_good _)
  | ptabDataLoWrite => exact keeps_step (ptabLoWrite_good _)
  | ptabDataHiWrite => exact keeps_step (ptabHiWrite_good _)
  | ptabDataLoRead => exact keeps_step ptabLoRead_good
  | ptabDataHiRead => exact keeps_step ptabHiRead_good
  | stampLoRead => exact keeps_step (stampLoRead_good _)
  | trackerCrankEdge => exact keeps_step (crankEdgeStep_good _)
  | trackerCamEdge => exact keeps_step (camEdgeStep_good _)
  | acqStallTimeout => exact keeps_step (acqTimeoutStep_good _)
  | accumulatorTick => exact keeps_step fun _ h => tapTick_good _ (accumulatorTickStep_good _ _ _ h)
  | shadowClr => exact keeps_step (shadowClrStep_good _)
  | sigReset => exact keeps_step (sigResetStep_good _)
  | xchkRejoin => exact keeps_step rejoinStep_good
  | xchkHandback => exact keeps_step handbackStep_good
  | angleRead => exact keeps_step (angleReadStep_good _)
  | stallDeclare => exact keeps_step stallDeclareStep_good
  | stallHoldExpire => exact keeps_step holdExpireStep_good
  | actionIssue => exact keeps_step (actionIssueStep_good _)
  | actionTakeEffect => exact keeps_step (takeEffectStep_good _)
  | cutoffTake => exact keeps_step (cutoffStep_good _)
  | maxDuration => exact keeps_step (maxDurationStep_good _)
  | taskOverrun => exact keeps_step (taskOverrunStep_good _)
  | planLoad => exact keeps_step planLoadStep_good
  | loadCheckPass => exact keeps_step checkPassStep_good
  | loadWritePass => exact keeps_step writePassStep_good
  | arm => exact keeps_step armStep_good
  | disarm => exact keeps_step disarmStep_good
  | govClear => exact keeps_step govClearStep_good
  | latePop => exact keeps_step latePopStep_good
  | planMemoryWrite => exact keeps_guard (keeps_access _ _ _ _ _)
  | subWrite => exact keeps_step (subWriteStep_good _ _ _)
  | sub3Submit => exact keeps_step (sub3Step_good _ _)
  | queueAreaWrite => exact keeps_form (keeps_step fun s => s.err_good _)
  | journalAreaWrite => exact keeps_form (keeps_step fun s => s.err_good _)
  | jrnRdWrite => exact keeps_step (jrnRdStep_good _)
  | lossMarker => exact keeps_step tryLoss_good
  | bankCommand => exact keeps_step (bankCommandStep_good _)
  | bankFree => exact keeps_step (bankFreeStep_good _)
  | deferLimitExpire => exact keeps_step (deferLimitStep_good _)
  | openLoadTimeout => exact keeps_step (openLoadStep_good _)
  | shortDetect => exact keeps_step (shortStep_good _)
  | overcurrentTrip => exact keeps_step (overcurrentStep_good _)
  | clampMiss => exact keeps_step (clampMissStep_good _)
  | decayStuck => exact keeps_step (decayStuckStep_good _)
  | bootUv => exact keeps_step (bootUvStep_good _ _)
  | bootUvRelease => exact keeps_step (bootReleaseStep_good _ _)
  | boostSample => exact keeps_step (boostSampleStep_good _ _)
  | bankUnlock => exact keeps_step (bankUnlockStep_good _ _)
  | leveeSlice => exact keeps_step leveeSliceStep_good
  | leveeExhaust => exact keeps_step (leveeExhaustStep_good _)
  | profileStart => exact keeps_step (profileStartStep_good _)
  | profileRestart => exact keeps_step (profileRestartStep_good _)
  | shpEnd => exact keeps_ucExec (ucEnd_good _)
  | setsw => exact keeps_ucExec (ucSetsw_good _)
  | shpWaitt => exact keeps_ucExec (ucWaitt_good _)
  | waiti => exact keeps_ucExec (ucWaiti_good _)
  | chop => exact keeps_ucExec (ucChop_good _)
  | dipw => exact keeps_ucExec (ucDipw_good _)
  | fastoff => exact keeps_ucExec (ucFastoff_good _)
  | shpJmp => exact keeps_ucExec (ucJmp_good _)
  | jif => exact keeps_ucExec (ucJif_good _)
  | shpMark => exact keeps_ucExec (ucMark_good _)
  | shpWaitEnd => exact keeps_step (ucWaitEnd_good _)
  | endRequest => exact keeps_step (endRequestStep_good _)
  | actionNormalEnd => exact keeps_step (normalEndStep_good _)
  | tailOverrun => exact keeps_step (tailOverrunStep_good _)
  | dipDetect => exact keeps_step (dipDetectStep_good _)
  | dipWindowClose => exact keeps_step (dipCloseStep_good _)
  | sampleClaim => exact keeps_step (sampleClaimStep_good _)
  | samplingInstant => exact keeps_step (samplingStep_good _)
  | conversionResult => exact keeps_step (conversionStep_good _ _)
  | recordWrite => exact keeps_step (recordWriteStep_good _)
  | openTrigger => exact keeps_step (openTriggerStep_good _ _)
  | openSlotPending => exact keeps_step (slotPendingStep_good _ _)
  | convSoft => exact keeps_step (convSoftStep_good _ _)
  | calZero => exact keeps_step (calStartStep_good _ _)
  | calFull => exact keeps_step (calStartStep_good _ _)
  | calAbort => exact keeps_step (calAbortStep_good _)
  | dacWrite => exact keeps_step (dacWriteStep_good _)
  | ringMarkWrite => exact keeps_step (ringMarkStep_good _ _ _)
  | sumLoRead => exact keeps_step (sumLoReadStep_good _ _)
  | scanLoRead => exact keeps_step scanLoReadStep_good
  | pwmRunWrite => exact keeps_step (pwmRunStep_good _)
  | pwmPeriodStart => exact keeps_step (periodStartStep_good _)
  | pwmCountEdge => exact keeps_step (countEdgeStep_good _)
  | pwmCountTrigger => exact keeps_step (countTriggerStep_good _)
  | loadAll => exact keeps_step (loadAllStep_good _)
  | swCrossing => exact keeps_step (swCrossingStep_good _ _)
  | dtMeasureTimeout => exact keeps_step (dtTimeoutStep_good _)
  | pwmForce => exact keeps_step (pwmForceStep_good _ _)
  | tripInput => exact keeps_step (tripInputStep_good _ _)
  | blankEnd => exact keeps_step (blankEndStep_good _)
  | tripClear => exact keeps_step (tripClearStep_good _)
  | tmrRunWrite => exact keeps_clocked (tmrRunStep_good _)
  | timerCountStep => exact keeps_step (countStepStep_good _)
  | cmpWrite => exact keeps_clocked (cmpWriteStep_good _ _)
  | cmpActive => exact keeps_step fun _ h => good_ite h (cmpActivate_good _ _ h)
  | timerTrigger => exact keeps_step (timerTriggerStep_good _ _)
  | tmrSoft => exact keeps_clocked (tmrSoftStep_good _)
  | timerCapture => exact keeps_step (timerCaptureStep_good _ _)
  | capPtRead => exact keeps_step fun s h => good_ite (s.respond_good _ h) (capPtReadStep_good _ _ h)
  | rnlRunWrite => exact keeps_clocked (rnlRunStep_good _)
  | shiftClr => exact keeps_clocked (shiftClrStep_good _)
  | rnlStop => exact keeps_step (rnlStopStep_good _)
  | rnlPin => exact keeps_rnlExec (rnlPinF_good _)
  | rnlWaitp => exact keeps_rnl_pins (waitpTry_good _)
  | rnlShift => exact keeps_rnl_pins (rnlShiftF_good _)
  | rnlJmp => exact keeps_rnl_pins (rnlJmpF_good _)
  | rnlPush => exact keeps_rnlExec (rnlPushF_good _)
  | rnlPull => exact keeps_rnlExec (rnlPullF_good _)
  | rnlMov => exact keeps_rnlExec (rnlMovF_good _)
  | rnlAlu => exact keeps_rnlExec (rnlAluF_good _)
  | rnlWaitt => exact keeps_rnlExec (rnlWaittF_good _)
  | rnlWaitEnd => exact keeps_step fun _ h => rnlWaitEndStep_good _ _ (seePins_good _ _ h)
  | rnlInWrite => exact keeps_clocked (rnlInStep_good _ _)
  | rnlOutRead => exact keeps_step fun s h => good_ite (s.respond_good _ h) (rnlOutStep_good _ _ h)
  | rnlProgramWrite => exact keeps_clocked (rnlProgStep_good _ _ _)
  | coreFrameStart => exact keeps_step frameStartStep_good
  | coreSlotStart => exact keeps_step fun _ h => taskServe_good _ _ (slotStartStep_good _ _ _ h)
  | coreEventEntry => exact keeps_step (eventEntryStep_good _)
  | coreNop => exact keeps_coreExec fun _ _ => coreNext_good _ _
  | coreAdd => exact keeps_coreExec fun _ _ => addWith_good _ _ _ _ _
  | coreAddc => exact keeps_coreExec fun _ _ => addWith_good _ _ _ _ _
  | coreSub => exact keeps_coreExec fun _ _ => subWith_good _ _ _ _ _
  | coreSubc => exact keeps_coreExec fun _ _ => subWith_good _ _ _ _ _
  | coreAdds => exact keeps_coreExec fun _ _ => satWith_good _ _ _
  | coreSubs => exact keeps_coreExec fun _ _ => satWith_good _ _ _
  | coreAnd => exact keeps_coreExec fun _ _ => coreWriteD_good _ _ _ _
  | coreOr => exact keeps_coreExec fun _ _ => coreWriteD_good _ _ _ _
  | coreXor => exact keeps_coreExec fun _ _ => coreWriteD_good _ _ _ _
  | coreAddi => exact keeps_coreExec fun _ _ => addWith_good _ _ _ _ _
  | coreAndi => exact keeps_coreExec fun _ _ => coreWriteD_good _ _ _ _
  | coreOri => exact keeps_coreExec fun _ _ => coreWriteD_good _ _ _ _
  | coreXori => exact keeps_coreExec fun _ _ => coreWriteD_good _ _ _ _
  | coreShift => exact keeps_coreExec (shiftStep_good _)
  | coreMov => exact keeps_coreExec fun _ _ => coreWriteD_good _ _ _ _
  | coreMovi => exact keeps_coreExec fun _ _ => coreWriteD_good _ _ _ _
  | coreMpy => exact keeps_coreExec (mpyStep_good _)
  | coreMac => exact keeps_coreExec (macStep_good _)
  | coreAcop => exact keeps_coreExec (acopStep_good _)
  | coreCmp => exact keeps_coreExec (cmpStep_good _)
  | coreCmpi => exact keeps_coreExec (cmpiStep_good _)
  | corePlog => exact keeps_coreExec (plogStep_good _)
  | coreLd => exact keeps_coreExec (ldStep_good _)
  | coreSt => exact keeps_coreExec (stStep_good _)
  | coreLdf => exact keeps_coreExec (farStep_good _ _)
  | coreStf => exact keeps_coreExec (farStep_good _ _)
  | coreFarDone => exact keeps_step (farDoneStep_good _ _)
  | coreBr => exact keeps_coreExec fun _ _ => coreJump_good _ _ _
  | coreCall => exact keeps_coreExec fun _ _ _ h => coreJump_good _ _ _ _ (updLive_good _ _ _ h)
  | coreJr => exact keeps_coreExec fun _ _ => coreJump_good _ _ _
  | coreRet => exact keeps_coreExec fun _ _ => coreJump_good _ _ _
  | coreRpt => exact keeps_step (rptExec_good _ _)
  | coreRpti => exact keeps_step (rptExec_good _ _)
  | coreWfe => exact keeps_coreExec (wfeStep_good _)
  | coreSev => exact keeps_coreExec (sevStep_good _)
  | coreWaitpt => exact keeps_coreExec (waitptStep_good _)
  | coreWaita => exact keeps_coreExec (waitaStep_good _)
  | coreWaitEnd => exact keeps_step (coreWaitEndStep_good _ _)
  | coreMfc => exact keeps_coreExec (mfcStep_good _)
  | coreMtc => exact keeps_coreExec (mtcStep_good _)
  | coreRete => exact keeps_coreExec (reteStep_good _)
  | coreEndt => exact keeps_coreExec (endtStep_good _)
  | coreMacm => exact keeps_coreExec (macmStep_good _)
  | coreRestart => exact keeps_step (coreRestartStep_good _)
  | catchEvent => exact keeps_step (catchEventStep_good _)
  | catchCoalTimeout => exact keeps_step fun _ h => good_ite h (tryPend_good _ _ _ h)
  | catchComplete => exact keeps_step (completeStep_good _ _)
  | setpend => exact keeps_step fun s => s.raise_good _
  | flumeStart => exact keeps_step (flumeStartStep_good _)
  | flumeBeat => exact keeps_step (beatStep_good _)
  | flumeResume => exact keeps_clocked fun _ h => good_ite (beatStep_good _ _ (resumeChan_good _ _ h)) h
  | flumeAbort => exact keeps_clocked fun _ h => dmaServe_good _ _ (abortChan_good _ _ h)
  | flumeCtrlWrite => exact keeps_step (ctrlWriteStep_good _ _)
  | hpsGen1Read => exact keeps_gen1 (gen1Read_good _)
  | hpsGen1Write => exact keeps_gen1 (gen1Write_good _ _)
  | hpsBadFrame => exact keeps_gen1 fun _ h => gen1Result_good _ _ _ (hpsMalformed_good _ h)
  | hpsGen2Read => exact keeps_step (gen2Step_good _ _ _ _ _)
  | hpsGen2Write => exact keeps_guard (keeps_step (gen2Step_good _ _ _ _ _))
  | hpsAbandon => exact keeps_step abandonStep_good
  | hpqRead => exact keeps_step (hpqStep_good _ _ _ _ _)
  | hpqWrite => exact keeps_guard (keeps_step (hpqStep_good _ _ _ _ _))
  | hpqSeqReset => exact keeps_step fun s h => good_ite (s.err_good _ h) (seqResetStep_good _ h)
  | flashBootStage => exact keeps_step (bootStageStep_good _)
  | flStart => exact keeps_step flStartStep_good
  | flCommandDone => exact keeps_step (flDoneStep_good _)
  | linkTrainDone => exact keeps_step (trainDoneStep_good _ _ _ _)
  | linkTrainTimeout => exact keeps_step (trainTimeoutStep_good _)
  | ping => exact keeps_step (pingStep_good _ _)
  | pong => exact keeps_step (pongStep_good _ _)
  | linkAck => exact keeps_step (ackStep_good _ _)
  | linkRetryTimeout => exact keeps_step (retryStep_good _)
  | laneFail => exact keeps_step (laneFailStep_good _)
  | heartSend => exact keeps_step heartSendStep_good
  | heartReceive => exact keeps_step (heartReceiveStep_good _ _)
  | heartMiss => exact keeps_step heartMissStep_good
  | angleSend => exact keeps_step angleSendStep_good
  | angleReceive => exact keeps_step (angleReceiveStep_good _ _)
  | flywheelExpire => exact keeps_step flyExpireStep_good
  | memRd => exact keeps_step (memRdStep_good _ _)
  | memWr => exact keeps_guard (keeps_step (memWrStep_good _ _))
  | memRdresp => exact keeps_guard (keeps_step (memRdrespStep_good _ _))
  | memWrack => exact keeps_step (memWrackStep_good _ _)
  | orderSubmit => exact keeps_step (orderSubmitStep_good _ _)
  | orderReply => exact keeps_step (orderReplyStep_good _ _)
  | eventEvt => exact keeps_step (eventEvtStep_good _ _)
  | eventMsg => exact keeps_step (eventMsgStep_good _ _)
  | eventEvtack => exact keeps_step (eventEvtackStep_good _ _)
  | evtResend => exact keeps_step evtResendStep_good
  | frameAbort => exact keeps_step (frameAbortStep_good _)
  | peerAccess => exact keeps_guard (keeps_access _ _ _ _ _)
  | peerAccessTimeout => exact keeps_step peerTimeoutStep_good
  | peerSubmit => exact keeps_access _ _ _ _ _
  | linkRstCmd => exact keeps_step (rstCmdStep_good _)
  | evtPopRead => exact keeps_step evtPopStep_good
  | msgPayRead => exact keeps_step msgPayStep_good
  | memoryRead => exact keeps_guard (keeps_access _ _ _ _ _)
  | memoryWrite => exact keeps_guard (keeps_access _ _ _ _ _)
  | scrubCycle => exact keeps_step (scrubStep_good _)
  | bundleUncorr => exact keeps_step bundleUncorrStep_good
  | heartbeatWindow => exact keeps_step (heartbeatStep_good _)
  | statusWindow => exact keeps_step (statusStep_good _ _)
  | bundleRestore => exact keeps_step bundleRestoreStep_good
  | culvertStall => exact keeps_step culvertStep_good
  | islandResetRelease => exact keeps_step islandReleaseStep_good
  | powerOnReset => exact keeps_step (powerOnStep_good _)
  | resetNAssert => exact keeps_step resetAssertStep_good
  | resetNRelease => exact keeps_step (resetReleaseStep_good _)
  | coldResetDone => exact keeps_step (coldDoneStep_good _)
  | linkResetRelease => exact keeps_step linkReleaseStep_good
  | warmNAssert => exact keeps_step warmAssertStep_good
  | warmNRelease => exact keeps_step warmReleaseStep_good
  | warmResetDone => exact keeps_step warmDoneStep_good
  | supplyLoss => exact keeps_step (supplyLossStep_good _)
  | supplyReturn => exact keeps_step (supplyReturnStep_good _)
  | vdrvUndervoltage => exact keeps_step vdrvLowStep_good
  | vdrvReturn => exact keeps_step vdrvReturnStep_good
  | clockSelect => exact keeps_step (clockSelectStep_good _)
  | clockFault => exact keeps_step (clockFaultStep_good _)
  | clockRecover => exact keeps_step (clockRecoverStep_good _)
  | park => exact keeps_step parkStep_good
  | parkEnter => exact keeps_step parkEnterStep_good
  | wake => exact keeps_step (wakeStep_good _)
  | thermMeasure => exact keeps_step (thermMeasureStep_good _)
  | dDieThermalTrip => exact keeps_step dDieTripStep_good
  | thermRelease => exact keeps_step thermReleaseStep_good
  | dbgFreeze => exact keeps_step freezeStep_good
  | brkPtMatch => exact keeps_step brkPtStep_good
  | freezeBegin => exact keeps_step freezeBegin_good
  | dbgRelease => exact keeps_step releaseStep_good
  | commit => exact keeps_step (commitStep_good _)
  | softReset => exact keeps_step (softResetStep_good _)
  | enableWrite => exact keeps_step (enableStep_good _ _)
  | evtSet => exact keeps_step (evtSetStep_good _ _)
  | ptLoRead => exact keeps_step ptLoReadStep_good
  | registerWrite => exact keeps_guard (keeps_access _ _ _ _ _)
  | vrArm => exact keeps_step (vrArmStep_good _ _)
  | bankSenseSample => exact keeps_step (senseSampleStep_good _ _ _)
  | waitLimitExpire => exact keeps_step (waitLimitStep_good _)
  | trainingRetry => exact keeps_step (trainRetryStep_good _)

end

/-- The invariant with the commands that wait is `Good`. -/
theorem good_iff_inv (q : List Instr) (s : State) : Good q s ↔ s.pending = q ∧ Inv s := good_iff

/-- Settles O5: an empty queue idles, and otherwise the command in front keeps the invariant and the rest of the queue. -/
theorem everyStepKeepsTheSafeStates : Obligations.EveryStepKeepsTheSafeStates := by
  intro s t hinv ht
  unfold step at ht
  split at ht
  next hq =>
    cases ht
    exact ⟨hinv, by rw [hq, List.tail_nil]⟩
  next c rest hq =>
    have hgood : Good rest { s with pending := rest } := (good_iff_inv _ _).2 ⟨rfl, hinv⟩
    obtain ⟨hrest, hsafe⟩ := (good_iff_inv _ _).1 (exec_keeps c _ _ t hgood ht)
    exact ⟨hsafe, by rw [hrest, hq, List.tail_cons]⟩

/-- Settles O1: it is how `step` is defined on a queue with a front. -/
theorem stepRunsTheCommandInFront : Obligations.StepRunsTheCommandInFront := by
  intro c rest s hq
  rw [step, hq]

/-- Settles O2: it is how `step` is defined on an empty queue. -/
theorem emptyQueueIdles : Obligations.EmptyQueueIdles := by
  intro s hq
  rw [step, hq]

/-- Settles O4: every unit as `State.reset` writes it; no control register the statement names is among those it lists. -/
theorem resetLeavesTheBlockDisarmed : Obligations.ResetLeavesTheBlockDisarmed := by
  have htrk : ∀ k : Fin 2, State.reset.trk[k].acq = .off := by decide
  have hbanks : ∀ b : Fin 16, State.reset.banks[b].mask = 0 ∧ State.reset.banks[b].grant = none ∧
      State.reset.banks[b].queue = [] := by decide
  have hcores : ∀ c : Fin 4, State.reset.cores[c].on = false ∧ State.reset.rd (cr c) CORE.HSP = 0x8000 := by decide
  have hflume : ∀ c : Fin 32, flumeState State.reset c = 0 := by decide
  have hports : ∀ p : Fin 2, portState State.reset p = 1 := by decide
  exact ⟨rfl, rfl, rfl, rfl, htrk, hbanks, rfl, rfl, hcores, rfl, rfl, rfl, rfl, hflume, hports, rfl, rfl⟩

end Sys2Proof.Machine

namespace Sys2Proof.Machine

/-! ## What bookkeeping leaves alone

Most effects write journal records, orders, memory words and events beside what they are for. `State.desk` shows all of the
state but these, in three layers, the outer ones kept by fewer functions: `Desk` by records, orders and memory alone; `Calm`
by everything that ends outputs; `Clock` by everything but a tick, a freeze and a reset. -/

/-- The system units without a freeze asked for, which any raised source may ask (R493). -/
def Sys.calm (y : Sys) : Sys := { y with freezeReq := 0, freezeReqAt := 0 }

/-- The time of a state, and whether PT stands. -/
structure Clock where
  tick : Nat
  pt : Nat
  stands : Bool

/-- A register of the system pages SYS, CLK and THERM (R488), beyond its header. -/
def sysAddr (a : Nat) : Bool :=
  (decide (a / 0x1000 = 0x400) || decide (a / 0x1000 = 0x401) || decide (a / 0x1000 = 0x47C)) && decide (0x40 ≤ a % 0x1000)

/-- A register of the Headgate, the journal or the memory controller, or EVT_RAW of any page (R483). -/
def deskAddr (a : Nat) : Bool :=
  decide (a / 0x1000 = 0x406) || decide (a / 0x1000 = 0x407) || decide (a / 0x1000 = 0x478) || decide (a % 0x1000 = 0x10)

/-- A source has been raised in this tick and its event is on its way (R375). -/
def State.sent (s : State) (n : Nat) : Bool := s.inFlight.any (fun e => decide (e.src = n) && decide (e.raisedAt = s.tick))

/-- What an end of outputs leaves: the system units, their registers and sources, the causes of SPILLED, and the device
state of a device that is not armed. -/
structure Calm where
  clock : Clock
  sys : Sys
  cause : Nat
  unarmed : Option DevState
  sysReg : Nat → Word
  sent : Nat → Bool

/-- What records, orders and memory leave. -/
structure Desk where
  calm : Calm
  rest : State
  reg : Nat → Word

/-- The state but for records, orders, memory and events. -/
def State.desk (s : State) : Desk :=
  { calm := { clock := ⟨s.tick, s.pt, s.ptStands⟩, sys := s.sys.calm, cause := s.plan.spillCause,
              unarmed := if s.isArmed then none else some s.dev.st
              sysReg := fun a => if sysAddr a then s.reg a else 0
              sent := fun n => decide (n < 12) && s.sent n }
    rest := { s with regs := [], inFlight := [], sys := s.sys.calm, mem := [], memErr := [], slotPoison := [],
                     memc := initMemc, hdg := initHdg, respData := [], respErr := false }
    reg := fun a => if deskAddr a then 0 else s.reg a }

variable {s t : State}

section
variable (h : t.desk = s.desk)
include h

theorem Desk.plan_eq : t.plan = s.plan := congrArg (fun d : Desk => d.rest.plan) h
theorem Desk.dev_eq : t.dev = s.dev := congrArg (fun d : Desk => d.rest.dev) h
theorem Desk.cores_eq : t.cores = s.cores := congrArg (fun d : Desk => d.rest.cores) h
theorem Desk.conv_eq : t.conv = s.conv := congrArg (fun d : Desk => d.rest.conv) h
theorem Desk.shp_eq : t.shp = s.shp := congrArg (fun d : Desk => d.rest.shp) h
theorem Desk.banks_eq : t.banks = s.banks := congrArg (fun d : Desk => d.rest.banks) h
theorem Desk.pt_eq : t.pt = s.pt := congrArg (fun d : Desk => d.rest.pt) h
theorem Desk.tick_eq : t.tick = s.tick := congrArg (fun d : Desk => d.rest.tick) h

theorem Desk.reg_eq {a : Nat} (ha : deskAddr a = false) : t.reg a = s.reg a := by
  have := congrFun (congrArg Desk.reg h) a
  simpa [State.desk, ha] using this

theorem Desk.rd_eq {b : Nat} {f : Fld} (ha : deskAddr (b + f.off) = false) : t.rd b f = s.rd b f := by
  rw [State.rd, Desk.reg_eq h ha, State.rd]

end

/-! ### Registers and events -/

theorem setReg_desk (s : State) {a : Nat} (w : Word) (ha : deskAddr a = true) (hs : sysAddr a = false) :
    (s.setReg a w).desk = s.desk := by
  have hne (b : Nat) (g : Nat → Bool) (hg : g b ≠ g a) : (s.setReg a w).reg b = s.reg b :=
    reg_setReg_ne s w (fun e => hg (by rw [e]))
  have hreg : (fun b => if deskAddr b then 0 else (s.setReg a w).reg b) = fun b => if deskAddr b then 0 else s.reg b := by
    funext b
    split
    · rfl
    · exact hne b deskAddr (by simp_all)
  have hsys : (fun b => if sysAddr b then (s.setReg a w).reg b else 0) = fun b => if sysAddr b then s.reg b else 0 := by
    funext b
    split
    · exact hne b sysAddr (by simp_all)
    · rfl
  unfold State.desk
  rw [hreg, hsys]
  rfl

theorem setReg_calm (s : State) {a : Nat} (w : Word) (hs : sysAddr a = false) : (s.setReg a w).desk.calm = s.desk.calm := by
  have hsys : (fun b => if sysAddr b then (s.setReg a w).reg b else 0) = fun b => if sysAddr b then s.reg b else 0 := by
    funext b
    split
    next hb =>
      refine reg_setReg_ne s w fun e => ?_
      rw [e, hs] at hb
      cases hb
    · rfl
  unfold State.desk
  dsimp only
  rw [hsys]
  rfl

@[simp] theorem setReg_clock (s : State) (a : Nat) (w : Word) : (s.setReg a w).desk.calm.clock = s.desk.calm.clock := (rfl)

theorem wr_desk (s : State) {b : Nat} {f : Fld} (v : Nat) (ha : deskAddr (b + f.off) = true) (hs : sysAddr (b + f.off) = false) :
    (s.wr b f v).desk = s.desk := setReg_desk s _ ha hs
theorem wr_calm (s : State) {b : Nat} {f : Fld} (v : Nat) (hs : sysAddr (b + f.off) = false) :
    (s.wr b f v).desk.calm = s.desk.calm := setReg_calm s _ hs
@[simp] theorem wr_clock (s : State) (b : Nat) (f : Fld) (v : Nat) : (s.wr b f v).desk.calm.clock = s.desk.calm.clock := (rfl)
theorem bumpBy_desk (s : State) {b : Nat} {f : Fld} (n : Nat) (ha : deskAddr (b + f.off) = true)
    (hs : sysAddr (b + f.off) = false) : (s.bumpBy b f n).desk = s.desk := wr_desk s _ ha hs
theorem bumpBy_calm (s : State) {b : Nat} {f : Fld} (n : Nat) (hs : sysAddr (b + f.off) = false) :
    (s.bumpBy b f n).desk.calm = s.desk.calm := wr_calm s _ hs
@[simp] theorem bumpBy_clock (s : State) (b : Nat) (f : Fld) (n : Nat) :
    (s.bumpBy b f n).desk.calm.clock = s.desk.calm.clock := (rfl)
theorem bump_desk (s : State) {b : Nat} {f : Fld} (ha : deskAddr (b + f.off) = true) (hs : sysAddr (b + f.off) = false) :
    (s.bump b f).desk = s.desk := wr_desk s _ ha hs
theorem bump_calm (s : State) {b : Nat} {f : Fld} (hs : sysAddr (b + f.off) = false) :
    (s.bump b f).desk.calm = s.desk.calm := wr_calm s _ hs
@[simp] theorem bump_clock (s : State) (b : Nat) (f : Fld) : (s.bump b f).desk.calm.clock = s.desk.calm.clock := (rfl)
theorem bumpWrap_desk (s : State) {b : Nat} {f : Fld} (ha : deskAddr (b + f.off) = true) (hs : sysAddr (b + f.off) = false) :
    (s.bumpWrap b f).desk = s.desk := wr_desk s _ ha hs
theorem bumpWrap_calm (s : State) {b : Nat} {f : Fld} (hs : sysAddr (b + f.off) = false) :
    (s.bumpWrap b f).desk.calm = s.desk.calm := wr_calm s _ hs
@[simp] theorem bumpWrap_clock (s : State) (b : Nat) (f : Fld) : (s.bumpWrap b f).desk.calm.clock = s.desk.calm.clock := (rfl)

/-- A header's ERR_COUNT is no register of the system (R482). -/
theorem err_calm (s : State) (p : Nat) : (s.err p).desk.calm = s.desk.calm := by
  refine bump_calm s ?_
  have : (pageBase p + HDR.ERR_COUNT.off) % 0x1000 < 0x40 := by
    show (0x400000 + p * 0x1000 + 0x1C) % 0x1000 < 0x40
    omega
  simp [sysAddr, this]

theorem eventRaw_desk (p : Nat) : deskAddr (pageBase p + 0x10) = true ∧ sysAddr (pageBase p + 0x10) = false := by
  have h : (pageBase p + 0x10) % 0x1000 = 0x10 := by unfold pageBase; omega
  simp [deskAddr, sysAddr, h]

theorem setRaw_desk (s : State) (n : Nat) : (s.setRaw n).desk = s.desk := by
  unfold State.setRaw
  split
  · rfl
  next p k _ => exact setReg_desk s _ (eventRaw_desk p).1 (eventRaw_desk p).2

/-- An event on its way is one more for its own source alone. -/
theorem sent_sendEvt_ne (s : State) {m n : Nat} (h : n ≠ m) : (s.sendEvt m).sent n = s.sent n := by
  unfold State.sendEvt
  split
  · rfl
  · simp [State.sent, h.symm]

theorem sendEvt_desk (s : State) {n : Nat} (h : 12 ≤ n) : (s.sendEvt n).desk = s.desk := by
  have hsent : (fun m => decide (m < 12) && (s.sendEvt n).sent m) = fun m => decide (m < 12) && s.sent m := by
    funext m
    by_cases hm : m < 12
    · rw [sent_sendEvt_ne s (by omega)]
    · simp [hm]
  unfold State.desk
  rw [hsent]
  unfold State.sendEvt
  split <;> rfl

theorem brkSource_desk (s : State) (n : Nat) : (s.brkSource n).desk = s.desk := by
  unfold State.brkSource
  split <;> rfl

/-- Sources 0 to 11 are those of the system page, and only the system raises them (R488). -/
theorem raise_desk (s : State) {n : Nat} (h : 12 ≤ n) : (s.raise n).desk = s.desk := by
  rw [State.raise, brkSource_desk, sendEvt_desk _ h, setRaw_desk]

theorem raiseIf_desk (s : State) (c : Bool) {n : Nat} (h : 12 ≤ n) : (s.raiseIf c n).desk = s.desk := by
  unfold State.raiseIf
  split
  · exact raise_desk s h
  · rfl

/-- The source raised has been raised in this tick. -/
theorem sent_raise_self (s : State) (n : Nat) : (s.raise n).sent n = true := by
  have h : (s.setRaw n).tick = s.tick := State.setRaw_tick s n
  have hb (u : State) : (u.brkSource n).sent n = u.sent n := by
    unfold State.brkSource
    split <;> rfl
  rw [State.raise, hb]
  unfold State.sendEvt
  split
  next h => exact h
  next => simp [State.sent]

/-- A source raised before stays raised. -/
theorem sent_raise (s : State) {n m : Nat} (h : s.sent n = true) : (s.raise m).sent n = true := by
  by_cases e : n = m
  · rw [e, sent_raise_self]
  · have hr : (s.setRaw m).sent n = s.sent n := by rw [State.sent, State.setRaw_inFlight, State.setRaw_tick, State.sent]
    have hb (u : State) : (u.brkSource m).sent n = u.sent n := by
      unfold State.brkSource
      split <;> rfl
    rw [State.raise, hb, sent_sendEvt_ne _ e, hr, h]

theorem exists_of_sent {n k : Nat} (h : s.sent n = true) (hk : s.tick = k) :
    ∃ e ∈ s.inFlight, e.src = n ∧ e.raisedAt = k := by
  obtain ⟨e, he, hp⟩ := List.any_eq_true.1 h
  rw [Bool.and_eq_true, decide_eq_true_eq, decide_eq_true_eq, hk] at hp
  exact ⟨e, he, hp⟩

/-- A state function that keeps a view keeps it over a list. -/
theorem foldS_keeps {α β : Type} {v : State → β} {f : α → State → State} (hf : ∀ x s, v (f x s) = v s) (l : List α) (s : State) :
    v (foldS l f s) = v s := by
  unfold foldS
  induction l generalizing s with
  | nil => rfl
  | cons x l ih => exact (ih _).trans (hf x s)

/-! ### Memory, records and orders -/

@[simp] theorem storeClean_desk (w d : Nat) (s : State) : (storeClean w d s).desk = s.desk := (rfl)
@[simp] theorem storePoisoned_desk (w d : Nat) (s : State) : (storePoisoned w d s).desk = s.desk := (rfl)
@[simp] theorem dropScrub_desk (w : Nat) (s : State) : (dropScrub w s).desk = s.desk := (rfl)

@[simp] theorem updHdg_desk (s : State) (f : Headgate → Headgate) : (s.updHdg f).desk = s.desk := (rfl)

theorem with_memc_desk (s : State) (m : MemCtl) : ({ s with memc := m } : State).desk = s.desk := (rfl)
theorem with_slotPoison_desk (s : State) (l : List (Nat × Nat)) : ({ s with slotPoison := l } : State).desk = s.desk := (rfl)
theorem with_memErr_desk (s : State) (l : List (Nat × Nat)) : ({ s with memErr := l } : State).desk = s.desk := (rfl)

@[simp] theorem noteCorrected_desk (w : Nat) (s : State) : (noteCorrected w s).desk = s.desk := by
  unfold noteCorrected
  simp (disch := decide) only [raiseIf_desk, with_memc_desk, bump_desk, setReg_desk, apply_ite State.desk, ite_self]

@[simp] theorem noteUncorrectable_desk (w : Nat) (s : State) : (noteUncorrectable w s).desk = s.desk := by
  have hsrc : 12 ≤ if 0x140000 ≤ 8 * w ∧ 8 * w < 0x154000 then 61 else 13 := by split <;> decide
  unfold noteUncorrectable
  simp (disch := decide) only [with_slotPoison_desk, storeClean_desk, storePoisoned_desk, wr_desk, raise_desk _ hsrc,
    bump_desk, setReg_desk, apply_ite State.desk, ite_self]

@[simp] theorem readWord_desk (w : Nat) (s : State) : (readWord w s).2.desk = s.desk := by
  unfold readWord
  split
  · rfl
  · exact noteCorrected_desk w s
  · exact noteUncorrectable_desk w s

@[simp] theorem readDec_desk (a n : Nat) (s : State) : (readDec a n s).2.desk = s.desk := readWord_desk _ s

@[simp] theorem writeFull_desk (w d : Nat) (s : State) : (writeFull w d s).desk = s.desk := by
  unfold writeFull
  simp (disch := decide) only [with_slotPoison_desk, dropScrub_desk, wr_desk, with_memErr_desk, storeClean_desk,
    apply_ite State.desk, ite_self]

@[simp] theorem putWord_desk (a d : Nat) (s : State) : (putWord a d s).desk = s.desk := writeFull_desk _ _ s

@[simp] theorem writePart_desk (a n v : Nat) (s : State) : (writePart a n v s).desk = s.desk := by
  unfold writePart
  dsimp only
  rw [dropScrub_desk]
  split
  · exact storeClean_desk _ _ s
  · rw [storeClean_desk, noteCorrected_desk]
  · simp only [storeClean_desk, storePoisoned_desk, noteUncorrectable_desk, apply_ite State.desk, ite_self]

@[simp] theorem postEntry_desk (i : Nat) (s : State) : (postEntry i s).desk = s.desk := by
  unfold postEntry
  split <;> rfl

@[simp] theorem jrnPut_desk (w0 w1 : Nat) (s : State) : (jrnPut w0 w1 s).desk = s.desk := by
  unfold jrnPut
  simp (disch := decide) only [raiseIf_desk, raise_desk, bumpWrap_desk, putWord_desk]

@[simp] theorem tryLoss_desk (s : State) : (tryLoss s).desk = s.desk := by
  unfold tryLoss
  split
  · rw [updHdg_desk, jrnPut_desk]
  · rfl

@[simp] theorem jrnLost_desk (s : State) : (jrnLost s).desk = s.desk := by
  unfold jrnLost
  simp (disch := decide) only [raise_desk, updHdg_desk, bump_desk]

@[simp] theorem jrnNow_desk (w0 w1 : Nat) (s : State) : (jrnNow w0 w1 s).desk = s.desk := by
  unfold jrnNow
  simp only [apply_ite State.desk, jrnPut_desk, jrnLost_desk, tryLoss_desk, ite_self]

@[simp] theorem jrnLater_desk (r : JrnRec) (s : State) : (jrnLater r s).desk = s.desk := updHdg_desk s _

@[simp] theorem jrnOther_desk (w0 w1 : Nat) (s : State) : (jrnOther w0 w1 s).desk = s.desk := by
  unfold jrnOther
  simp only [apply_ite State.desk, jrnLater_desk, jrnLost_desk, tryLoss_desk, ite_self]

@[simp] theorem jrnClosed_desk (c a : Nat) (s : State) : (jrnClosed c a s).desk = s.desk := jrnLater_desk _ s
@[simp] theorem jrnOpened_desk (a : Nat) (s : State) : (jrnOpened a s).desk = s.desk := jrnLater_desk _ s
@[simp] theorem jrnAction_desk (o c i a : Nat) (s : State) : (jrnAction o c i a s).desk = s.desk := jrnOther_desk _ _ s
@[simp] theorem jrnPeriodic_desk (c k a : Nat) (s : State) : (jrnPeriodic c k a s).desk = s.desk := jrnOther_desk _ _ s

@[simp] theorem queueEntryBad_desk (q : Nat) (s : State) : (queueEntryBad q s).2.desk = s.desk := by
  simp [queueEntryBad]

@[simp] theorem journalHead_desk (o : Order) (s : State) : (journalHead o s).desk = s.desk := by
  simp only [journalHead, updHdg_desk, jrnPut_desk, tryLoss_desk, queueEntryBad_desk]

@[simp] theorem drainHead_desk (n : Nat) (s : State) : (drainHead n s).desk = s.desk := by
  induction n generalizing s with
  | zero => rfl
  | succ n ih =>
    unfold drainHead
    split
    · rfl
    · split
      · rw [ih, journalHead_desk]
      · rfl

@[simp] theorem drainQueue_desk (s : State) : (drainQueue s).desk = s.desk := drainHead_desk _ s

@[simp] theorem jrnFlush_desk (p : JrnRec → Bool) (r : JrnRec) (s : State) : (jrnFlush p r s).desk = s.desk := by
  unfold jrnFlush
  split
  · rfl
  · split
    · exact jrnPut_desk _ _ s
    · exact jrnNow_desk _ _ s
    · exact jrnNow_desk _ _ s

@[simp] theorem flushRecs_desk (s : State) : (flushRecs s).desk = s.desk := by
  have hl (p : JrnRec → Bool) (l : List JrnRec) (u : State) : (foldS l (jrnFlush p) u).desk = u.desk :=
    foldS_keeps (v := State.desk) (jrnFlush_desk p) l u
  unfold flushRecs
  dsimp only
  rw [hl, hl, drainQueue_desk, hl, updHdg_desk, tryLoss_desk]

@[simp] theorem updOrder_desk (q : Nat) (f : Order → Order) (s : State) : (updOrder q f s).desk = s.desk := updHdg_desk s _
@[simp] theorem endOrder_desk (q st r d : Nat) (s : State) : (endOrder q st r d s).desk = s.desk := updHdg_desk s _
@[simp] theorem endOrdersWhere_desk (p : Order → Bool) (f : Order → Nat × Nat × Nat) (s : State) :
    (endOrdersWhere p f s).desk = s.desk := updHdg_desk s _
@[simp] theorem expireOrders_desk (r : Nat) (s : State) : (expireOrders r s).desk = s.desk := updHdg_desk s _
@[simp] theorem closeCycleOrders_desk (c : Nat) (s : State) : (closeCycleOrders c s).desk = s.desk := updHdg_desk s _

@[simp] theorem applyOrder_desk (k v : Nat) (s : State) : (applyOrder k v s).desk = s.desk := by
  rw [applyOrder, with_slotPoison_desk, writePart_desk]

@[simp] theorem dropBadOrders_desk (l : List Order) (s : State) : (dropBadOrders l s).desk = s.desk :=
  foldS_keeps (v := State.desk) (fun o u => by
    dsimp only
    split
    · rw [updOrder_desk, queueEntryBad_desk]
    · exact queueEntryBad_desk _ u) l s

@[simp] theorem flagOrder_desk (a : Act) (s : State) : (flagOrder a s).desk = s.desk := by
  unfold flagOrder
  split
  · rfl
  · exact updOrder_desk _ _ s

@[simp] theorem orderProgress_desk (a : Act) (n : Nat) (s : State) : (orderProgress a n s).desk = s.desk := by
  unfold orderProgress
  split
  · rfl
  · exact updOrder_desk _ _ s

@[simp] theorem updStaging_desk (j : Fin 8) (f : Staging → Staging) (s : State) : (updStaging j f s).desk = s.desk :=
  updHdg_desk s _

@[simp] theorem respond_desk (s : State) (d : Word) : (s.respond d).desk = s.desk := (rfl)

@[simp] theorem acceptOrder_desk (n : Nat) (b : Staging) (s : State) : (acceptOrder n b s).desk = s.desk := by
  unfold acceptOrder
  simp (disch := decide) only [apply_ite State.desk, endOrder_desk, raiseIf_desk, wr_desk, updHdg_desk, putWord_desk, ite_self]

theorem refusalCounter_addr (k : Nat) :
    deskAddr (HDG.base + (refusalCounter k).off) = true ∧ sysAddr (HDG.base + (refusalCounter k).off) = false := by
  unfold refusalCounter
  split <;> decide

@[simp] theorem submit_desk (j : Fin 8) (s : State) : (submit j s).desk = s.desk := by
  unfold submit
  dsimp only
  rw [updStaging_desk]
  split
  · exact acceptOrder_desk _ _ s
  · exact bump_desk s (by decide) (by decide)
  next k _ =>
    rw [raise_desk _ (by decide), bump_desk s (refusalCounter_addr k).1 (refusalCounter_addr k).2]

end Sys2Proof.Machine

namespace Sys2Proof.Machine

/-! ## Actions in flight

The list of actions is changed by `updActs` alone; the records and orders written beside it are desk work. -/

section
variable {s t : State}

/-- A change of the list of actions does the same to two states that differ in records and orders only. -/
theorem updActs_desk (h : t.desk = s.desk) (f : List Act → List Act) : (updActs f t).desk = (updActs f s).desk :=
  congrArg (fun d : Desk => { d with rest := updActs f d.rest }) h

theorem applyAct_desk (a : Act) (s : State) : (applyAct a s).desk = (dropActEntry a.serial s).desk := by
  have h := updActs_desk (flagOrder_desk a s) (fun l => l.filter (fun x => x.serial != a.serial))
  unfold applyAct
  split
  · exact (endOrder_desk ..).trans h
  · exact h

theorem dropAct_desk (reason : Nat) (a : Act) (s : State) : (dropAct reason a s).desk = (dropActEntry a.serial s).desk := by
  have h := updActs_desk (flagOrder_desk a s) (fun l => l.filter (fun x => x.serial != a.serial))
  unfold dropAct
  split
  · exact (endOrder_desk ..).trans h
  · exact (jrnAction_desk ..).trans h


theorem plan_of_desk {n : Nat} (h : t.desk = (dropActEntry n s).desk) :
    t.plan.acts = s.plan.acts.filter (fun x => x.serial != n) := by rw [Desk.plan_eq h]; rfl

/-! ### Cut-offs, waits and the governed latch -/

/-- A slot's cut-off is taken once it has been passed (R196). -/
theorem cutoffTake_takes {slot : Fin 4096} {p : Nat} (hp : cutPos s slot.val = some p) (hr : planRuns s) (hn : p ≤ nowPos s) :
    ∃ t, exec (.cutoffTake slot) s = .next t ∧ cutoffTaken slot.val t ∧ t.dev = s.dev := by
  have hd : (takeCutoff slot.val s).dev = s.dev := by
    have hdrop := dropBadOrders_desk (cutoffOrders slot.val s) s
    unfold takeCutoff
    dsimp only
    split
    · show (dropBadOrders (cutoffOrders slot.val s) s).dev = s.dev
      exact Desk.dev_eq hdrop
    next win _ =>
      have hend (o : Order) (u : State) : (if o.seq = win.seq then u else endOrder o.seq 3 0 win.seq u).desk = u.desk := by
        split
        · rfl
        · exact endOrder_desk _ _ _ _ u
      show (applyOrder slot.val win.value _).dev = s.dev
      refine Desk.dev_eq ?_
      rw [applyOrder_desk, updOrder_desk, foldS_keeps (v := State.desk) hend, hdrop]
  refine ⟨takeCutoff slot.val s, ?_, ?_, hd⟩
  · show Host.Outcome.next (cutoffStep slot.val s) = _
    simp only [cutoffStep, hp, hr, hn, and_self, if_true]
  · have hc : (takeCutoff slot.val s).dev.cycNo = s.dev.cycNo := by rw [hd]
    have ht (x : SlotCyc) (l : List (Nat × SlotCyc)) : tget (tset l slot.val x ⟨0, none⟩) slot.val ⟨0, none⟩ = x :=
      tget_tset_eq ..
    unfold cutoffTaken
    rw [hc]
    unfold takeCutoff
    dsimp only [State.updPlan]
    rw [ht, beq_iff_eq]
    exact congrArg (fun d : Device => d.cycNo + 1) hd

/-- An entry found waiting waits. -/
theorem waitingEntry_phase {i : Nat} {a : Act} (hw : waitingEntry s i = some a) : a.phase = .waiting := by
  have := List.find?_some hw
  simp only [Bool.and_eq_true, beq_iff_eq] at this
  exact this.1.2

theorem taskWait_expires {idx : Fin 16384} {a : Act} (hw : waitingEntry s idx.val = some a) (hk : a.kind = 5)
    (hl : a.target + a.dlim < s.pt) :
    ∃ t, exec (.waitLimitExpire idx) s = .next t ∧ t.plan.acts = s.plan.acts.filter (fun x => x.serial != a.serial) := by
  refine ⟨dropAct 2 a s, ?_, plan_of_desk (dropAct_desk 2 a s)⟩
  show Host.Outcome.next (waitLimitStep idx.val s) = _
  simp [waitLimitStep, hw, hk, taskWaitExpire, hl, waitingEntry_phase hw]


theorem dmaWait_expires {idx : Fin 16384} {a : Act} (hw : waitingEntry s idx.val = some a) (hk : a.kind = 8)
    (hl : dmaLimit a < s.pt) :
    ∃ t, exec (.waitLimitExpire idx) s = .next t ∧ t.plan.acts = s.plan.acts.filter (fun x => x.serial != a.serial) := by
  refine ⟨dropAct 2 a s, ?_, plan_of_desk (dropAct_desk 2 a s)⟩
  show Host.Outcome.next (waitLimitStep idx.val s) = _
  simp [waitLimitStep, hw, hk, dmaWaitExpire, hl, waitingEntry_phase hw]

theorem sampleWait_expires {idx : Fin 16384} {a : Act} (hw : waitingEntry s idx.val = some a) (hk : a.kind = 4)
    (hc : s.conv[Fin.ofNat 4 (scanConv (scanEnt s a))].waiting = some a.serial) (hl : waitLimit s a < s.pt) :
    ∃ t, exec (.waitLimitExpire idx) s = .next t ∧ t.plan.acts = s.plan.acts.filter (fun x => x.serial != a.serial) ∧
      t.conv[Fin.ofNat 4 (scanConv (scanEnt s a))].waiting = none := by
  let u := s.updConv (Fin.ofNat 4 (scanConv (scanEnt s a))) (fun c => { c with waiting := none })
  have h := dropAct_desk 2 a u
  have hacts : (dropAct 2 a u).plan.acts = u.plan.acts.filter (fun x => x.serial != a.serial) := plan_of_desk h
  have hconv : (dropAct 2 a u).conv = (dropActEntry a.serial u).conv := Desk.conv_eq h
  refine ⟨dropAct 2 a u, ?_, hacts, ?_⟩
  · show Host.Outcome.next (waitLimitStep idx.val s) = _
    simp only [waitLimitStep, hw, hk, sampleWaitExpire, hc, hl, if_true, and_self]
    rfl
  · rw [hconv]
    simp [u, State.updConv, dropActEntry, updActs, State.updPlan]

theorem wr_only_regs (s : State) (b : Nat) (f : Fld) (v : Nat) : s.wr b f v = { s with regs := (s.wr b f v).regs } := rfl

theorem govClear_requests (hi : s.islandHeld 2 = false) (hg : govLatched s) :
    ∃ t, exec .govClear s = .next t ∧ t.flag PLAN.base PLAN.GOV_CLEAR ∧ t = { s with regs := t.regs } := by
  refine ⟨s.wr PLAN.base PLAN.GOV_CLEAR 1, ?_, ?_, wr_only_regs s _ _ _⟩
  · show Host.Outcome.next (govClearStep s) = _
    simp [govClearStep, hi, hg]
  · exact flag_wr_self s PLAN.base PLAN.GOV_CLEAR 1 rfl

theorem latePop_takes_oldest {i l : Nat} {rest : List (Nat × Nat)} (h : s.plan.lateLog = (i, l) :: rest) :
    ∃ t, exec .latePop s = .next t ∧ t.plan.lateLog = rest ∧
      t.respData = [toWord (2 ^ 31 + l % 2 ^ 14 * 2 ^ 16 + i % 2 ^ 14)] ∧
      t = { s with plan := t.plan, respData := t.respData, respErr := t.respErr } := by
  refine ⟨_, rfl, ?_⟩
  simp only [latePopStep, h]
  exact ⟨rfl, rfl, rfl⟩

theorem latePop_of_empty (h : s.plan.lateLog = []) :
    ∃ t, exec .latePop s = .next t ∧ t.respData = [0] ∧ t.plan = s.plan := by
  refine ⟨_, rfl, ?_⟩
  simp only [latePopStep, h]
  exact ⟨rfl, rfl⟩

/-- A request ends the waveform of a running bank now. -/
theorem requestEnd_of_running {b : Fin 16} (a : Act) (h : s.shp[b].running) :
    (requestEnd b a s).shp[b].endReqAt = some s.pt ∧ (requestEnd b a s).shp[b].e ∧ (requestEnd b a s).banks = s.banks := by
  have he : requestEnd b a s = (updAct a.serial (fun x => { x with endReq := some s.pt }) s).updShp b
      (fun x => { x with e := true, endReqAt := some s.pt }) := if_pos h
  rw [he]
  simp [State.updShp, updAct, updActs, State.updPlan]

/-- A bank action at its greatest duration gets an end request (R106, R257). -/
theorem maxDuration_ends {idx : Fin 16384} {a : Act}
    (hf : s.plan.acts.find? (fun a => decide (a.idx = idx.val) && a.isBank && decide (a.phase = .effect)) = some a)
    (hmax : a.effectAt + entMax a.w1 ≤ s.pt) (hreq : s.shp[Fin.ofNat 16 a.bank].endReqAt = none)
    (hhold : s.banks[Fin.ofNat 16 a.bank].holder = some a.serial) (hrun : s.shp[Fin.ofNat 16 a.bank].running)
    (hdue : endDue s a = false) :
    ∃ t, exec (.maxDuration idx) s = .next t ∧ t.shp[Fin.ofNat 16 a.bank].endReqAt = some s.pt ∧
      t.shp[Fin.ofNat 16 a.bank].e ∧ t.banks = s.banks := by
  have hanom : (anomalyAct 1 a s).desk = (updAct a.serial (fun x => { x with anom := x.anom || jrnRoom s }) s).desk :=
    updActs_desk (jrnAction_desk ..) _
  have hpt : (anomalyAct 1 a s).pt = s.pt := (Desk.pt_eq hanom).trans rfl
  have hshp : (anomalyAct 1 a s).shp = s.shp := (Desk.shp_eq hanom).trans rfl
  have hbanks : (anomalyAct 1 a s).banks = s.banks := (Desk.banks_eq hanom).trans rfl
  have hstep : maxDurationStep idx s = requestEnd (Fin.ofNat 16 a.bank) a (anomalyAct 1 a s) := by
    have hn : s.shp[Fin.ofNat 16 a.bank].endReqAt.isNone := by rw [hreq]; rfl
    simp only [maxDurationStep, hf]
    exact if_pos ⟨hmax, hn, hhold, hrun, hdue⟩
  obtain ⟨hat, he, hb⟩ := requestEnd_of_running a (s := anomalyAct 1 a s) (b := Fin.ofNat 16 a.bank) (by rw [hshp, hrun])
  exact ⟨_, congrArg Host.Outcome.next hstep, by rw [hat, hpt], he, hb.trans hbanks⟩


/-! ### Issue -/

theorem reachSlot_frame (slot idx cyc : Nat) (s : State) :
    (reachSlot slot idx cyc s).2.plan.acts = s.plan.acts ∧ (reachSlot slot idx cyc s).2.dev = s.dev := by
  unfold reachSlot
  dsimp only
  split
  · split
    · exact ⟨rfl, rfl⟩
    · exact ⟨rfl, rfl⟩
  · exact ⟨rfl, rfl⟩

theorem updFurrow_acts (g : Furrow) (h : Furrow → Furrow) (s : State) : (updFurrow g h s).plan.acts = s.plan.acts := rfl

theorem badEntry_acts (f : Furrow) (i : Nat) (s : State) : (badEntry f i s).plan.acts = s.plan.acts := by
  have h : (postEntry i (jrnAction 6 5 i (devAngle s) s)).desk = s.desk := by rw [postEntry_desk, jrnAction_desk]
  rw [badEntry, updFurrow_acts, Desk.plan_eq h]

theorem readEntry_acts (i : Nat) (s : State) : (readEntry i s).2.plan.acts = s.plan.acts :=
  congrArg Plan.acts (Desk.plan_eq ((readWord_desk _ _).trans (readWord_desk _ s)))

theorem loadHead_acts (n : Nat) (f : Furrow) (s : State) : (loadHead n f s).plan.acts = s.plan.acts := by
  induction n generalizing f s with
  | zero => rfl
  | succ n ih =>
    unfold loadHead
    dsimp only
    split
    · rw [ih, badEntry_acts, readEntry_acts]
    · exact readEntry_acts f.head s

theorem issueAct_acts (a : Act) (s : State) : (issueAct a none s).plan.acts = s.plan.acts ++ [{ a with late := false }] :=
  congrArg Plan.acts (Desk.plan_eq ((orderProgress_desk ..).trans (flagOrder_desk ..)))

/-- Out of GOVERNED, a sound action in its time that is not critical is not disposed of (R136, R142). -/
theorem disposal_of_running {w0 w1 v : Nat} (hr : s.dev.st = .running) (hc : entCritical w0 = false) :
    disposal s false w0 w1 v none = none := by
  simp [disposal, hc, envelopeDrop, hr]

/-- An action reached in time, sound and not refused, is issued (R136). -/
theorem reachAction_issues {i pos k : Nat} (hr : s.dev.st = .running)
    (hin : tget s.plan.issuedIn i 0 ≠ cycOf s pos + 1) (hc : entCritical (actWord0 s i) = false)
    (hread : (readDec (slotAddr (entSlot (actWord0 s i))) 4 s).1.2 = false)
    (hev : noEvent (actWord0 s i) (slotData s (entSlot (actWord0 s i))) = false)
    (hpatch : patchRefused (actWord0 s i) (actWord1 s i) (slotData s (entSlot (actWord0 s i))) = false)
    (hv : valueOk (entKindOf (actWord0 s i)) (slotData s (entSlot (actWord0 s i)))) :
    ∃ a, (reachAction i pos k none false s).plan.acts = s.plan.acts ++ [a] ∧ a.idx = i ∧ a.phase = .issued ∧
      a.late = false := by
  have hdesk := readDec_desk (slotAddr (entSlot (actWord0 s i))) 4 s
  have hframe := reachSlot_frame (entSlot (actWord0 s i)) i (cycOf s pos) (readDec (slotAddr (entSlot (actWord0 s i))) 4 s).2
  have hacts := hframe.1.trans (congrArg Plan.acts (Desk.plan_eq hdesk))
  have hdev := hframe.2.trans (Desk.dev_eq hdesk)
  have hd := disposal_of_running (w1 := actWord1 s i) (v := slotData s (entSlot (actWord0 s i)))
    (by rw [hdev, hr] : (reachSlot _ i (cycOf s pos) _).2.dev.st = .running) hc
  simp only [reachAction, hin, hread, hev, hpatch, hv, hd, if_false, if_true, Bool.false_eq_true, issueAct_acts, hacts]
  exact ⟨_, rfl, rfl, rfl, rfl⟩

/-- The head of a furrow is issued when the projected angle has reached its start (R21, R136, R160). -/
theorem actionIssue_issues {fid : BitVec 16} {f : Furrow} (hf : furrowOf s fid.toNat = some f) (hp : planRuns s)
    (hr : s.dev.st = .running) (hk : edgeKnown s ≤ s.pt) (hfirst : issuesFirst s f = false)
    (hreach : headPos s f ≤ projPos s (leadOf (entKindOf (actWord0 s f.head))))
    (hlook : projPos s (leadOf (entKindOf (actWord0 s f.head))) - headPos s f ≤ lookback s) (hdead : f.dead = false)
    (hin : tget s.plan.issuedIn f.head 0 ≠ cycOf s (headPos s f) + 1) (hc : entCritical (actWord0 s f.head) = false)
    (hread : (readDec (slotAddr (entSlot (actWord0 s f.head))) 4 s).1.2 = false)
    (hev : noEvent (actWord0 s f.head) (slotData s (entSlot (actWord0 s f.head))) = false)
    (hpatch : patchRefused (actWord0 s f.head) (actWord1 s f.head) (slotData s (entSlot (actWord0 s f.head))) = false)
    (hv : valueOk (entKindOf (actWord0 s f.head)) (slotData s (entSlot (actWord0 s f.head)))) :
    ∃ t, exec (.actionIssue fid) s = .next t ∧
      ∃ a, t.plan.acts = s.plan.acts ++ [a] ∧ a.idx = f.head ∧ a.phase = .issued ∧ a.late = false := by
  have hstep : actionIssueStep fid.toNat s = advanceHead f (reachAction f.head (headPos s f) s.pt none false s) := by
    simp only [actionIssueStep, hf, hp, hfirst, hlook, reachHead, hdead, not_lt.2 hk, not_lt.2 hreach, Bool.true_eq_false,
      Bool.false_eq_true, or_self, if_false, if_true]
  refine ⟨_, congrArg Host.Outcome.next hstep, ?_⟩
  rw [advanceHead, loadHead_acts]
  exact reachAction_issues hr hin hc hread hev hpatch hv

end
end Sys2Proof.Machine

namespace Sys2Proof.Machine

/-! ### What an action's taking effect does -/

section
variable {s t : State} {idx : Fin 16384} {a : Act}

/-- The next action of its consumer takes effect by its kind (R22, R160). -/
theorem exec_takeEffect (hp : s.ptStands = false) (hd : dueEntry s idx.val = some a) (hg : goesFirst s a = false) :
    exec (.actionTakeEffect idx) s =
      .next (if a.kind = 4 ∨ a.kind = 5 ∨ a.kind = 8 then kindEffect a s else kindEffect a (countShadow a s)) := by
  show Host.Outcome.next (takeEffectStep idx.val s) = _
  simp [takeEffectStep, hp, hd, hg]

theorem countShadow_only_regs (a : Act) (s : State) : countShadow a s = { s with regs := (countShadow a s).regs } := by
  unfold countShadow
  split <;> rfl

@[simp] theorem countShadow_plan (a : Act) (s : State) : (countShadow a s).plan = s.plan := by rw [countShadow_only_regs]
@[simp] theorem countShadow_pt (a : Act) (s : State) : (countShadow a s).pt = s.pt := by rw [countShadow_only_regs]
@[simp] theorem countShadow_cores (a : Act) (s : State) : (countShadow a s).cores = s.cores := by rw [countShadow_only_regs]
@[simp] theorem countShadow_tmr (a : Act) (s : State) : (countShadow a s).tmr = s.tmr := by rw [countShadow_only_regs]
@[simp] theorem countShadow_pwm (a : Act) (s : State) : (countShadow a s).pwm = s.pwm := by rw [countShadow_only_regs]
@[simp] theorem countShadow_dev (a : Act) (s : State) : (countShadow a s).dev = s.dev := by rw [countShadow_only_regs]
@[simp] theorem countShadow_link (a : Act) (s : State) : (countShadow a s).link = s.link := by rw [countShadow_only_regs]
@[simp] theorem countShadow_tick (a : Act) (s : State) : (countShadow a s).tick = s.tick := by rw [countShadow_only_regs]

/-- The count of shadowed issues is SHADOW_CNT of the plan engine's page. -/
theorem countShadow_rd (a : Act) (s : State) {b : Nat} {f : Fld} (h : b + f.off ≠ 0x405074) :
    (countShadow a s).rd b f = s.rd b f := by
  unfold countShadow
  split
  · rw [State.rd, reg_bump_ne s _ h, State.rd]
  · rfl

/-- An action applied is over and leaves the list. -/
theorem applyAct_acts (a : Act) (s : State) : (applyAct a s).plan.acts = s.plan.acts.filter (fun x => x.serial != a.serial) :=
  plan_of_desk (applyAct_desk a s)

/-- A kind that is over with its effect leaves the list of actions in flight, whatever unit it drives. -/
theorem applyAct_acts_of {u : State} (h : u.plan.acts = s.plan.acts) :
    (applyAct a u).plan.acts = s.plan.acts.filter (fun x => x.serial != a.serial) := by rw [applyAct_acts, h]

/-! ### BANK -/

theorem bankAction_takesEffect (hp : s.ptStands = false) (hd : dueEntry s idx.val = some a) (hg : goesFirst s a = false)
    (hb : a.isBank) :
    ∃ t, exec (.actionTakeEffect idx) s = .next t ∧ t.plan.acts = s.plan.acts.map (fun x =>
      if x.serial = a.serial then { x with phase := .effect } else x) := by
  have hk : a.kind = 1 ∨ a.kind = 2 := by simpa [Act.isBank] using hb
  have hstep : (if a.kind = 4 ∨ a.kind = 5 ∨ a.kind = 8 then kindEffect a s else kindEffect a (countShadow a s)) =
      orderProgress a 3 (updAct a.serial (fun x => { x with phase := .effect }) (grantBegins a (countShadow a s))) := by
    obtain hk | hk := hk <;> simp [hk, kindEffect]
  have hgrant : (grantBegins a (countShadow a s)).plan = s.plan := by
    unfold grantBegins
    dsimp only
    split
    · exact countShadow_plan a s
    · exact countShadow_plan a s
  refine ⟨_, (exec_takeEffect hp hd hg).trans (congrArg _ hstep), ?_⟩
  rw [Desk.plan_eq (orderProgress_desk ..)]
  show (grantBegins a (countShadow a s)).plan.acts.map _ = _
  rw [hgrant]

/-! ### WINDOW -/

/-- Adding a power of two to a number without that bit sets it, taking it from a number with it clears it. -/
theorem bit_add_two_pow {g m : Nat} (h : bit g m = false) : bit (g + 2 ^ m) m = true := by
  rw [bit, Nat.add_comm, Nat.testBit_two_pow_add_eq, show g.testBit m = false from h]
  rfl

theorem bit_sub_two_pow {g m : Nat} (h : bit g m = true) : bit (g - 2 ^ m) m = false := by
  have hle : 2 ^ m ≤ g := Nat.ge_two_pow_of_testBit h
  have hbit := Nat.testBit_two_pow_add_eq (g - 2 ^ m) m
  rw [Nat.add_sub_cancel' hle, show g.testBit m = true from h] at hbit
  simpa [bit] using hbit.symm

/-- The state but for the triggers on their way. -/
def State.noTrigs (s : State) : State := { s with trigs := [] }

/-- An event on its way to the timers changes nothing but the triggers (R325). -/
theorem fire_noTrigs (s : State) (code : Nat) : (s.fire code).noTrigs = s.noTrigs :=
  foldS_keeps (v := State.noTrigs) (fun n u => by
    dsimp only
    split <;> split <;> rfl) (List.range 16) s

theorem fire_plan (s : State) (code : Nat) : (s.fire code).plan = s.plan := by
  show (s.fire code).noTrigs.plan = s.noTrigs.plan
  rw [fire_noTrigs]
theorem fire_gates (s : State) (code : Nat) : (s.fire code).gates = s.gates := by
  show (s.fire code).noTrigs.gates = s.noTrigs.gates
  rw [fire_noTrigs]
theorem fire_tmr (s : State) (code : Nat) : (s.fire code).tmr = s.tmr := by
  show (s.fire code).noTrigs.tmr = s.noTrigs.tmr
  rw [fire_noTrigs]

theorem setGate_gates (m : Nat) (v : Bool) (s : State) : bit (setGate m v s).gates m = v := by
  unfold setGate
  split
  next h => exact h
  next h =>
    rw [fire_gates]
    cases v with
    | true => exact bit_add_two_pow (by simpa using h)
    | false => exact bit_sub_two_pow (by simpa using h)

theorem setGate_plan (m : Nat) (v : Bool) (s : State) : (setGate m v s).plan = s.plan := by
  unfold setGate
  split
  · rfl
  · rw [fire_plan]

theorem windowAct_plan (m : Nat) (v : Bool) (s : State) : (windowAct m v s).plan = s.plan := setGate_plan m v _

theorem applyAct_gates (a : Act) (s : State) : (applyAct a s).gates = s.gates :=
  (congrArg (fun d : Desk => d.rest.gates) (applyAct_desk a s)).trans rfl

theorem windowAction_takesEffect (hp : s.ptStands = false) (hd : dueEntry s idx.val = some a) (hg : goesFirst s a = false)
    (hk : a.kind = 7) :
    ∃ t, exec (.actionTakeEffect idx) s = .next t ∧ bit t.gates (entRes a.w0 % 16) = decide (a.value % 4 = 2) ∧
      t.plan.acts = s.plan.acts.filter (fun x => x.serial != a.serial) := by
  refine ⟨applyAct a (windowAct (entRes a.w0 % 16) (decide (a.value % 4 = 2)) (countShadow a s)), ?_, ?_, ?_⟩
  · rw [exec_takeEffect hp hd hg]
    simp [hk, kindEffect]
  · rw [applyAct_gates]
    exact setGate_gates _ _ _
  · exact applyAct_acts_of (by rw [windowAct_plan, countShadow_plan])

/-! ### SAMPLE and TASK -/

theorem sampleAction_claims (hp : s.ptStands = false) (hd : dueEntry s idx.val = some a) (hg : goesFirst s a = false)
    (hk : a.kind = 4) :
    exec (.actionTakeEffect idx) s = exec (.sampleClaim (Fin.ofNat 4 (scanConv (scanEnt s a)))) s := by
  rw [exec_takeEffect hp hd hg]
  simp only [hk, kindEffect, true_or, if_true]
  rfl

theorem taskAction_releases (hp : s.ptStands = false) (hd : dueEntry s idx.val = some a) (hg : goesFirst s a = false)
    (hk : a.kind = 5) (hs : slotHeld s a = none) :
    ∃ t, exec (.actionTakeEffect idx) s = .next t ∧ t.plan.acts = s.plan.acts.filter (fun x => x.serial != a.serial) ∧
      t.cores[taskCore a].releases = s.cores[taskCore a].releases ++
        [⟨taskSlot a, a.idx, a.value % 65536, s.pt, a.excused, a.order⟩] := by
  have h := applyAct_desk a (countShadow a s)
  have hcores : (applyAct a (countShadow a s)).cores = s.cores := (Desk.cores_eq h).trans (countShadow_cores a s)
  have hpt : (applyAct a (countShadow a s)).pt = s.pt := (Desk.pt_eq h).trans (countShadow_pt a s)
  refine ⟨taskRelease a s, ?_, applyAct_acts_of (by rw [countShadow_plan]), ?_⟩
  · rw [exec_takeEffect hp hd hg]
    simp [hk, kindEffect, taskEffect, hs]
  · simp [taskRelease, State.updCore, hcores, hpt]


/-! ### PROP -/

theorem requestLoad_frame (g : Nat) (s : State) : (requestLoad g s).plan = s.plan ∧ (requestLoad g s).regs = s.regs :=
  Prod.mk.inj (foldS_keeps (v := fun u => (u.plan, u.regs)) (fun n u => by split <;> rfl) allGens s)

/-- The registers of the PWM generators are not those of the desk. -/
theorem pwm_deskAddr (n : Fin 16) {k : Nat} (hk : k < 0x80) : deskAddr (pw n + k) = false := by
  have h1 : (0x440100 + n.val * 0x80 + k) / 0x1000 = 0x440 := by omega
  have h2 : (0x440100 + n.val * 0x80 + k) % 0x1000 ≠ 0x10 := by omega
  show deskAddr (0x440100 + n.val * 0x80 + k) = false
  simp [deskAddr, h1, h2]

theorem softWrote_countShadow (a : Act) (s : State) (n : Fin 16) (off : Nat) :
    softWrote (countShadow a s) n off = softWrote s n off := by
  rw [countShadow_only_regs]
  rfl

/-- PROP writes the generator's shadow where software has not written it in the same clock (R160). -/
theorem propEffect_writes {n : Fin 16} {target : Nat} (v : Nat) (hs : softWrote s n (propOff target) = false) :
    (propEffect n target v s).plan = s.plan ∧
      (target = 0 → (propEffect n target v s).rd (pw n) PWN.DUTY_A_COUNT = v % 65536) ∧
      (target = 1 → (propEffect n target v s).rd (pw n) PWN.DUTY_B_COUNT = v % 65536) ∧
      (target = 2 → (propEffect n target v s).rd (pw n) PWN.PERIOD_P = v % 65536) := by
  have hload (u : State) (f : Fld) : (requestLoad (u.cfg (pw n) PWN.CFG_GROUP) u).rd (pw n) f = u.rd (pw n) f :=
    rd_congr (requestLoad_frame _ u).2 _ f
  unfold propEffect
  dsimp only
  rw [hs, if_neg Bool.false_ne_true]
  refine ⟨?_, ?_, ?_, ?_⟩
  · rw [(requestLoad_frame _ _).1]
    split <;> rfl
  · rintro rfl
    rw [hload]
    show ((s.wr (pw n) PWN.DUTY_A_COUNT v).wr (pw n) PWN.DUTY_A_FRAC 0).rd (pw n) PWN.DUTY_A_COUNT = v % 65536
    rw [rd_wr_disj _ _ _ _ rfl rfl (by decide), rd_wr_self _ _ _ _ rfl]
    rfl
  · rintro rfl
    rw [hload]
    show ((s.wr (pw n) PWN.DUTY_B_COUNT v).wr (pw n) PWN.DUTY_B_FRAC 0).rd (pw n) PWN.DUTY_B_COUNT = v % 65536
    rw [rd_wr_disj _ _ _ _ rfl rfl (by decide), rd_wr_self _ _ _ _ rfl]
    rfl
  · rintro rfl
    rw [hload]
    exact rd_wr_self s (pw n) PWN.PERIOD_P v rfl

theorem propAction_writes {n : Fin 16} (hp : s.ptStands = false) (hd : dueEntry s idx.val = some a)
    (hg : goesFirst s a = false) (hk : a.kind = 3) (hn : entRes a.w0 / 16 % 16 = n.val)
    (hs : softWrote s n (propOff (entRes a.w0 % 16)) = false) :
    ∃ t, exec (.actionTakeEffect idx) s = .next t ∧ t.plan.acts = s.plan.acts.filter (fun x => x.serial != a.serial) ∧
      (entRes a.w0 % 16 = 0 → t.rd (pw n) PWN.DUTY_A_COUNT = a.value % 65536) ∧
      (entRes a.w0 % 16 = 1 → t.rd (pw n) PWN.DUTY_B_COUNT = a.value % 65536) ∧
      (entRes a.w0 % 16 = 2 → t.rd (pw n) PWN.PERIOD_P = a.value % 65536) := by
  have hfin : Fin.ofNat 16 (entRes a.w0 / 16) = n := Fin.ext hn
  obtain ⟨hplan, h0, h1, h2⟩ := propEffect_writes (s := countShadow a s) (n := n) (target := entRes a.w0 % 16)
    (a.value % 65536) (by rw [softWrote_countShadow, hs])
  rw [Nat.mod_mod] at h0 h1 h2
  have hrd (u : State) (f : Fld) (hf : f.off < 0x80) : (applyAct a u).rd (pw n) f = u.rd (pw n) f :=
    (Desk.rd_eq (applyAct_desk a u) (pwm_deskAddr n hf)).trans rfl
  refine ⟨applyAct a (propEffect n (entRes a.w0 % 16) (a.value % 65536) (countShadow a s)), ?_,
    applyAct_acts_of (hplan.trans (countShadow_plan a s) ▸ rfl), ?_, ?_, ?_⟩
  · rw [exec_takeEffect hp hd hg]
    simp [hk, kindEffect, ← hfin]
  · rw [hrd _ _ (by decide)]
    exact h0
  · rw [hrd _ _ (by decide)]
    exact h1
  · rw [hrd _ _ (by decide)]
    exact h2

/-! ### MARK -/

theorem applyAct_tmr (a : Act) (s : State) : (applyAct a s).tmr = s.tmr :=
  (congrArg (fun d : Desk => d.rest.tmr) (applyAct_desk a s)).trans rfl

/-- The level a MARK gives a ball: 1 clears, 2 sets, 3 toggles. -/
def markLevel (op : Nat) (b : Bool) : Bool := if op = 1 then false else if op = 2 then true else !b

theorem tioAct_drives {n : Fin 16} {op : Nat} (hh : s.tmr[n].held = false) (h0 : op ≠ 0) :
    (tioAct n op s).plan = s.plan ∧ (tioAct n op s).tmr[n].tio = markLevel op s.tmr[n].tio := by
  have hgo : ¬(op = 0 ∨ s.tmr[n].held = true ∧ s.on (tm n) TMN.CFG_TIO_OE = true) := by
    rw [hh]
    simp [h0]
  have hset (v : Bool) : (s.updTmr n (fun x => { x with tio := v })).tmr[n].tio = v := by simp [State.updTmr]
  unfold tioAct
  dsimp only
  rw [if_neg hgo]
  generalize hv : (if op = 1 then false else if op = 2 then true else !s.tmr[n].tio) = v
  split
  · exact ⟨rfl, (hset v).trans hv.symm⟩
  · exact ⟨fire_plan _ _, (congrArg (fun l : Vector Timer 16 => l[n].tio) (fire_tmr _ _)).trans ((hset v).trans hv.symm)⟩

theorem markAction_drives {n : Fin 16} (hp : s.ptStands = false) (hd : dueEntry s idx.val = some a)
    (hg : goesFirst s a = false) (hk : a.kind = 6) (hn : entRes a.w0 % 16 = n.val) (hh : s.tmr[n].held = false)
    (h0 : a.value % 4 ≠ 0) :
    ∃ t, exec (.actionTakeEffect idx) s = .next t ∧ t.plan.acts = s.plan.acts.filter (fun x => x.serial != a.serial) ∧
      t.tmr[n].tio = markLevel (a.value % 4) s.tmr[n].tio := by
  have hfin : Fin.ofNat 16 (entRes a.w0) = n := Fin.ext hn
  obtain ⟨hplan, htio⟩ := tioAct_drives (s := countShadow a s) (n := n) (op := a.value % 4)
    (by rw [countShadow_tmr, hh]) h0
  refine ⟨applyAct a (tioAct n (a.value % 4) (countShadow a s)), ?_,
    applyAct_acts_of (hplan.trans (countShadow_plan a s) ▸ rfl), ?_⟩
  · rw [exec_takeEffect hp hd hg]
    simp [hk, kindEffect, ← hfin]
  · rw [applyAct_tmr, htio, countShadow_tmr]

end
end Sys2Proof.Machine

namespace Sys2Proof.Machine
section
variable {s t : State} {idx : Fin 16384} {a : Act}

/-! ### DMA -/

/-- The registers of the flume's channels are not those of the desk. -/
theorem flume_deskAddr (c : Fin 32) {k : Nat} (hk : k < 0x40) : deskAddr (fc c + k) = false := by
  have h1 : (0x460100 + c.val * 0x40 + k) / 0x1000 = 0x460 := by omega
  have h2 : (0x460100 + c.val * 0x40 + k) % 0x1000 ≠ 0x10 := by omega
  show deskAddr (0x460100 + c.val * 0x40 + k) = false
  simp [deskAddr, h1, h2]

/-- A start depends on the registers that software sets, SRC to CTRL. -/
theorem startOk_congr {c : Fin 32} (h : ∀ f : Fld, f.off < 0x14 → fl t c f = fl s c f) : startOk t c = startOk s c := by
  have hflag (f : Fld) (hf : f.off < 0x14) : t.flag (fc c) f = s.flag (fc c) f := congrArg (· != 0) (h f hf)
  simp (disch := decide) only [startOk, h, hflag]

/-- The registers of a channel as a start leaves them (R388). -/
def chanStarted (c : Fin 32) (s : State) : State :=
  let s := ((s.wr (fc c) FLC.CUR_SRC_ADDR (fl s c FLC.SRC_ADDR)).wr (fc c) FLC.CUR_DST_ADDR (fl s c FLC.DST_ADDR)).wr
    (fc c) FLC.REMAIN_BYTES (fl s c FLC.COUNT_BYTES)
  ((s.wr (fc c) FLC.SUM (fl s c FLC.SEED)).wr (fc c) FLC.STAT_RESULT 0).wr (fc c) FLC.STAT_STATE 1

/-- A start leaves what software has set. -/
theorem fl_chanStarted (c : Fin 32) (s : State) (f : Fld) (hf : f.off < 0x14) : fl (chanStarted c s) c f = fl s c f := by
  unfold chanStarted fl
  dsimp only
  have hne (g : Fld) (hg : 0x14 ≤ g.off) : fc c + f.off ≠ fc c + g.off := by omega
  iterate 6 rw [rd_wr_ne _ _ _ _ (hne _ (by decide))]

theorem flumeState_chanStarted (c : Fin 32) (s : State) : flumeState (chanStarted c s) c = 1 := rd_wr_self _ _ _ _ rfl

theorem chanStarted_plan (c : Fin 32) (s : State) : (chanStarted c s).plan = s.plan := by
  unfold chanStarted
  dsimp only
  iterate 6 rw [State.wr_plan]

theorem fl_updFlume (c : Fin 32) (g : FlumeChan → FlumeChan) (s : State) (f : Fld) : fl (s.updFlume c g) c f = fl s c f := rfl

theorem startChan_eq (c : Fin 32) (s : State) : ∃ g, startChan c s =
    let t := (chanStarted c s).updFlume c g
    if fl s c FLC.COUNT_BYTES = 0 then flumeEnd c 2 t else if startOk t c = false then flumeEnd c 5 t else t := by
  unfold startChan chanStarted
  dsimp only
  exact ⟨_, rfl⟩

/-- A channel with bytes to move and a sound setting runs once it is started. -/
theorem startChan_runs {c : Fin 32} (hn : fl s c FLC.COUNT_BYTES ≠ 0) (hok : startOk s c) :
    (startChan c s).plan = s.plan ∧ flumeState (startChan c s) c = 1 := by
  obtain ⟨g, hstart⟩ := startChan_eq c s
  have hok' : startOk ((chanStarted c s).updFlume c g) c = true :=
    (startOk_congr (fun f hf => (fl_updFlume c g _ f).trans (fl_chanStarted c s f hf))).trans hok
  rw [hstart]
  dsimp only
  rw [if_neg hn, if_neg (by rw [hok']; decide)]
  refine ⟨(State.updFlume_plan _ c g).trans (chanStarted_plan c s), ?_⟩
  exact (fl_updFlume c g _ FLC.STAT_STATE).trans (flumeState_chanStarted c s)

theorem dmaAction_starts (hp : s.ptStands = false) (hd : dueEntry s idx.val = some a) (hg : goesFirst s a = false)
    (hk : a.kind = 8) (hon : s.clockOff 0x60 = false) (hidle : flumeState s (dmaChan a) = 0)
    (hn : fl s (dmaChan a) FLC.COUNT_BYTES ≠ 0) (hok : startOk s (dmaChan a)) :
    ∃ t, exec (.actionTakeEffect idx) s = .next t ∧ t.plan.acts = s.plan.acts.filter (fun x => x.serial != a.serial) ∧
      flumeState t (dmaChan a) = 1 := by
  have hfl (f : Fld) (hf : f.off < 0x40) : fl (applyAct a (countShadow a s)) (dmaChan a) f = fl s (dmaChan a) f := by
    have hne : fc (dmaChan a) + f.off ≠ 0x405074 := by
      show 0x460100 + (dmaChan a).val * 0x40 + f.off ≠ 0x405074
      omega
    exact (Desk.rd_eq (applyAct_desk a _) (flume_deskAddr _ hf)).trans (countShadow_rd a s hne)
  obtain ⟨hplan, hrun⟩ := startChan_runs (s := applyAct a (countShadow a s)) (c := dmaChan a)
    (by rw [hfl _ (by decide)]; exact hn) ((startOk_congr (fun f hf => hfl f (by omega))).trans hok)
  refine ⟨dmaStart a s, ?_, ?_, ?_⟩
  · rw [exec_takeEffect hp hd hg]
    simp [hk, kindEffect, dmaEffect, hon, hidle]
  · show (startChan (dmaChan a) (applyAct a (countShadow a s))).plan.acts = _
    rw [hplan, applyAct_acts, countShadow_plan]
  · exact hrun

/-! ### LINK -/

/-- A frame sent while the port has room is among those not acknowledged (R401). -/
theorem sendFrame_kept (p : Fin 2) (f : LinkFrame) (h : s.link.ports[p].unacked.length < 32) :
    (sendFrame p f s).plan = s.plan ∧
      { f with lseq := s.link.ports[p].txSeq } ∈ (sendFrame p f s).link.ports[p].unacked := by
  unfold sendFrame
  dsimp only
  rw [if_neg (by omega)]
  split
  · exact ⟨rfl, by simp [putOut, State.updPort, State.updLink]⟩
  · exact ⟨rfl, by simp [State.updPort, State.updLink]⟩

theorem pathPort_countShadow (a : Act) (s : State) (d : Nat) : pathPort (countShadow a s) d = pathPort s d := by
  have hup (p : Fin 2) : portUp (countShadow a s) p = portUp s p := by
    unfold portUp portState
    rw [countShadow_rd]
    unfold portFld
    split <;> decide
  unfold pathPort heardOf
  rw [countShadow_link]
  split <;> simp only [hup]

theorem linkAction_sends {p : Fin 2} (hp : s.ptStands = false) (hd : dueEntry s idx.val = some a)
    (hg : goesFirst s a = false) (hk : a.kind = 9) (hopen : s.dev.epochOpen) (hres : entRes a.w0 < 128)
    (hpath : pathPort s (entRes a.w0 % 8) = some p) (hroom : s.link.ports[p].unacked.length < 32) :
    ∃ t, exec (.actionTakeEffect idx) s = .next t ∧ t.plan.acts = s.plan.acts.filter (fun x => x.serial != a.serial) ∧
      ∃ g ∈ t.link.ports[p].unacked, g.typ = 4 ∧ g.dst = entRes a.w0 % 8 ∧ g.body.head? = some (a.value % 2 ^ 32) := by
  have hb : bit (entRes a.w0) 7 = false := Nat.testBit_lt_two_pow hres
  have hsend : linkMessage a (countShadow a s) =
      sendFrame p (msgFrame (countShadow a s) a false (entRes a.w0 % 8)) (countShadow a s) := by
    simp [linkMessage, hopen, hb, pathPort_countShadow, hpath]
  obtain ⟨hplan, hkept⟩ := sendFrame_kept (s := countShadow a s) p (msgFrame (countShadow a s) a false (entRes a.w0 % 8))
    (by rw [countShadow_link]; exact hroom)
  have hlink (u : State) : (applyAct a u).link = u.link := (congrArg (fun d : Desk => d.rest.link) (applyAct_desk a u)).trans rfl
  refine ⟨applyAct a (linkMessage a (countShadow a s)), ?_, ?_, ?_⟩
  · rw [exec_takeEffect hp hd hg]
    simp [hk, kindEffect]
  · exact applyAct_acts_of (by rw [hsend, hplan, countShadow_plan])
  · rw [hlink, hsend]
    exact ⟨_, hkept, rfl, rfl, rfl⟩

end
end Sys2Proof.Machine

namespace Sys2Proof.Machine

/-! ### Violations (R147) -/

/-- A violation once it has been counted: it raises its source, is recorded and may take the device into GOVERNED. -/
def afterCounted (cause src : Nat) (s : State) : State :=
  let s := undoGovClear (markViolation (s.raise src))
  let seen := fun (s : State) => s.wr PLAN.base PLAN.GOV_SEEN (s.rd PLAN.base PLAN.GOV_SEEN ||| 2 ^ (cause - 1))
  if s.dev.began = .running then
    let s := if govLatched s then s
      else (s.wr PLAN.base PLAN.GOV_LATCH 1).wr PLAN.base PLAN.GOV_FIRST cause
    let s := seen s
    if s.dev.st = .running then (s.enter .governed).raise 48 else s
  else if govLatched s then seen s
  else s

theorem violation_eq (cause src : Nat) (s : State) :
    violation cause src s = afterCounted cause src (s.bump PLAN.base (govCounter cause)) := rfl

/-- What the writes of GOV and of the plan engine's ERR_COUNT, the entry into GOVERNED and source 48 keep. -/
structure GovKeeps (P : State → Prop) : Prop where
  gov : ∀ u w, P u → P (u.setReg 0x405064 w)
  err : ∀ u w, P u → P (u.setReg 0x40501C w)
  viol : ∀ u x, P u → P (u.updPlan (fun p => { p with violAt := x }))
  kept : ∀ u x, P u → P (u.updPlan (fun p => { p with govKept := x }))
  enter : ∀ u, u.dev.st = .running → P u → P (u.enter .governed)
  raise : ∀ u, P u → P (u.raise 48)

section
variable {P : State → Prop} {s : State} (k : GovKeeps P)
include k

theorem undoGovClear_keeps (h : P s) : P (undoGovClear s) := by
  unfold undoGovClear
  split
  · split
    · dsimp only
      split
      next hr => exact k.enter _ hr (k.kept _ _ (k.err _ _ (k.gov _ _ h)))
      · exact k.kept _ _ (k.err _ _ (k.gov _ _ h))
    · exact h
  · exact h

/-- A counted violation keeps it too. -/
theorem afterCounted_keeps (cause src : Nat) (h : P (s.raise src)) : P (afterCounted cause src s) := by
  have hu : P (undoGovClear (markViolation (s.raise src))) := undoGovClear_keeps k (k.viol _ _ h)
  have hlatch {u : State} (hu : P u) : P (if govLatched u then u
      else (u.wr PLAN.base PLAN.GOV_LATCH 1).wr PLAN.base PLAN.GOV_FIRST cause) := by
    split
    · exact hu
    · exact k.gov _ _ (k.gov _ _ hu)
  unfold afterCounted
  dsimp only
  split
  · have hl := hlatch hu
    revert hl
    generalize ite (govLatched _ = true) _ _ = w
    intro hl
    split
    next hr => exact k.raise _ (k.enter _ hr (k.gov _ _ hl))
    · exact k.gov _ _ hl
  · split
    · exact k.gov _ _ hu
    · exact hu

end

section
variable {s t : State} {idx : Fin 16384} {a : Act}

/-- What decides whether a core's next slot has come (R145). -/
structure SlotView where
  slots : List Nat × List Nat × List Release
  frame : Nat
  pt : Nat
  run : Bool
  park : Bool

def State.slotView (s : State) (c : Fin 4) : SlotView :=
  ⟨(s.cores[c].frame, s.cores[c].started, s.cores[c].releases), s.coreFrame, s.pt, slotsRun s, decide (s.dev.st = .park)⟩

theorem nextSlotCome_congr {c : Fin 4} (h : t.slotView c = s.slotView c) : nextSlotCome t c = nextSlotCome s c := by
  obtain ⟨hslots, hframe, hpt, hrun, hpark⟩ := SlotView.mk.inj h
  obtain ⟨hf, hs⟩ := Prod.mk.inj hslots
  obtain ⟨hst, hrel⟩ := Prod.mk.inj hs
  have hpark' : decide (t.dev.st ≠ .park) = decide (s.dev.st ≠ .park) := by simpa using hpark
  simp only [nextSlotCome, slotDue, slotWord, slotMay, slotOccupied, releaseFor, hf, hst, hrel, hframe, hpt, hrun, hpark']

theorem enter_governed_slotView (h : s.dev.st = .running) (c : Fin 4) : (s.enter .governed).slotView c = s.slotView c := by
  simp [State.slotView, slotsRun, State.armedOrLater, State.enter, h]

theorem raise_parkFrom (s : State) (n : Nat) : (s.raise n).sys.parkFrom = s.sys.parkFrom := by
  have hb (u : State) : (u.brkSource n).sys.parkFrom = u.sys.parkFrom := by
    unfold State.brkSource
    split <;> rfl
  rw [State.raise, hb, State.sendEvt_sys, State.setRaw_sys]

theorem raise_slotView (s : State) (n : Nat) (c : Fin 4) : (s.raise n).slotView c = s.slotView c := by
  simp [State.slotView, slotsRun, State.armedOrLater, raise_parkFrom]

theorem violation_slotView (cause src : Nat) (s : State) (c : Fin 4) : (violation cause src s).slotView c = s.slotView c :=
  afterCounted_keeps (P := fun u => u.slotView c = s.slotView c)
    { gov := fun _ _ h => h, err := fun _ _ h => h, viol := fun _ _ h => h, kept := fun _ _ h => h
      enter := fun _ hr h => (enter_governed_slotView hr c).trans h
      raise := fun u h => (raise_slotView u 48 c).trans h } cause src (raise_slotView _ src c)

theorem violation_cores (cause src : Nat) (s : State) : (violation cause src s).cores = s.cores :=
  afterCounted_keeps (P := fun u => u.cores = s.cores)
    { gov := fun _ _ h => h, err := fun _ _ h => h, viol := fun _ _ h => h, kept := fun _ _ h => h
      enter := fun u _ h => (State.enter_cores u _).trans h
      raise := fun u h => (State.raise_cores u 48).trans h } cause src (State.raise_cores _ src)

/-- A violation's own source is on its way (R142). -/
theorem violation_sent (cause src : Nat) (s : State) : (violation cause src s).sent src = true :=
  afterCounted_keeps (P := fun u => u.sent src = true)
    { gov := fun _ _ h => h, err := fun _ _ h => h, viol := fun _ _ h => h, kept := fun _ _ h => h
      enter := fun u _ h => by rw [State.sent, State.enter_inFlight, State.enter_tick]; exact h
      raise := fun _ h => sent_raise _ h } cause src (sent_raise_self _ src)

theorem violation_tick (cause src : Nat) (s : State) : (violation cause src s).tick = s.tick :=
  afterCounted_keeps (P := fun u => u.tick = s.tick)
    { gov := fun _ _ h => h, err := fun _ _ h => h, viol := fun _ _ h => h, kept := fun _ _ h => h
      enter := fun u _ h => (State.enter_tick u _).trans h
      raise := fun u h => (State.raise_tick u 48).trans h } cause src (State.raise_tick _ src)

/-- A violation counts in its own counter (R184). -/
theorem violation_counts (src : Nat) (s : State) : (violation 4 src s).rd PLAN.base PLAN.GOV_CNT1_DEADLINE =
    sat PLAN.GOV_CNT1_DEADLINE.top (s.rd PLAN.base PLAN.GOV_CNT1_DEADLINE + 1) := by
  have hset (u : State) (b : Nat) (w : Word) (hb : 0x40506C ≠ b) :
      (u.setReg b w).rd PLAN.base PLAN.GOV_CNT1_DEADLINE = u.rd PLAN.base PLAN.GOV_CNT1_DEADLINE :=
    congrArg PLAN.GOV_CNT1_DEADLINE.of (reg_setReg_ne u w hb)
  have hraise (u : State) (n : Nat) :
      (u.raise n).rd PLAN.base PLAN.GOV_CNT1_DEADLINE = u.rd PLAN.base PLAN.GOV_CNT1_DEADLINE :=
    rd_raise_ne u n _ (by decide)
  rw [← rd_bump_self s PLAN.base PLAN.GOV_CNT1_DEADLINE rfl]
  refine afterCounted_keeps (P := fun u => u.rd PLAN.base PLAN.GOV_CNT1_DEADLINE = _)
    { gov := fun u w h => (hset u _ w (by decide)).trans h
      err := fun u w h => (hset u _ w (by decide)).trans h
      viol := fun _ _ h => h
      kept := fun _ _ h => h
      enter := fun u _ h => (rd_congr (State.enter_regs u _) _ _).trans h
      raise := fun u h => (hraise u 48).trans h } 4 src (hraise _ src)

/-! ### A task at the end of its budget (R145) -/

@[simp] theorem deadlineAct_desk (i : Nat) (o : Option Nat) (s : State) : (deadlineAct i o s).desk = s.desk := by
  unfold deadlineAct
  dsimp only
  split
  · rw [updOrder_desk, jrnAction_desk]
  · exact jrnAction_desk ..

@[simp] theorem deadlineRecord_desk (c : Fin 4) (k : TaskRun) (s : State) : (deadlineRecord c k s).desk = s.desk := by
  unfold deadlineRecord
  split
  · exact deadlineAct_desk ..
  · exact jrnPeriodic_desk ..

/-- A change of one core. -/
theorem updCore_desk (h : t.desk = s.desk) (c : Fin 4) (f : Core → Core) : (t.updCore c f).desk = (s.updCore c f).desk :=
  congrArg (fun d : Desk => { d with rest := d.rest.updCore c f }) h

/-- A change of a core's task, failures or statistics leaves its slots. -/
theorem updCore_slotView (c : Fin 4) (f : Core → Core) (h1 : (f s.cores[c]).frame = s.cores[c].frame)
    (h2 : (f s.cores[c]).started = s.cores[c].started) (h3 : (f s.cores[c]).releases = s.cores[c].releases) :
    (s.updCore c f).slotView c = s.slotView c := by
  have hc : (s.updCore c f).cores[c] = f s.cores[c] := by simp [State.updCore]
  unfold State.slotView
  rw [hc, h1, h2, h3]
  rfl

/-- The failures of a core's tasks whose time has come are recorded and dropped. -/
theorem flushFailed_desk (c : Fin 4) (s : State) : ∃ f, (flushFailed c s).desk =
    (s.updCore c (fun x => { x with failed := f })).desk := by
  refine ⟨s.cores[c].failed.filter (fun e => !decide (e.1 ≤ s.pt)), ?_⟩
  exact foldS_keeps (v := State.desk) (fun e u => deadlineAct_desk e.2.1 e.2.2 u)
    (s.cores[c].failed.filter (fun e => decide (e.1 ≤ s.pt))) _

/-- The overrun of a task is noted in its core and counted as a violation of cause 4. -/
theorem noteOverrun_of_first {c : Fin 4} {k : TaskRun} (h : k.overrun = false) (s : State) : noteOverrun c k s =
    violation 4 52 (s.updCore c (fun x => noteRun k.slot 0 true { x with task := some { k with overrun := true } })) := by
  simp [noteOverrun, h]

theorem noteOverrun_of_noted {c : Fin 4} {k : TaskRun} (h : k.overrun) (s : State) : noteOverrun c k s = s := by
  simp [noteOverrun, h]

/-- A running task past its budget, whose failures have been flushed: what `u` is for the state `s`. -/
structure Flushed (c : Fin 4) (s u : State) : Prop where
  task : u.cores[c].task = s.cores[c].task
  parked : u.cores[c].parked = s.cores[c].parked
  slot : u.slotView c = s.slotView c
  stands : u.ptStands = s.ptStands
  dev : u.dev = s.dev
  tick : u.tick = s.tick
  reg : ∀ a, deskAddr a = false → u.reg a = s.reg a

theorem flushFailed_flushed (c : Fin 4) (s : State) : Flushed c s (flushFailed c s) := by
  obtain ⟨f, h⟩ := flushFailed_desk c s
  have hview : (s.updCore c (fun x => { x with failed := f })).slotView c = s.slotView c :=
    updCore_slotView c _ rfl rfl rfl
  exact {
    task := by rw [Desk.cores_eq h]; simp [State.updCore]
    parked := by rw [Desk.cores_eq h]; simp [State.updCore]
    slot := (congrArg (fun d : Desk => d.rest.slotView c) h).trans hview
    stands := congrArg (fun d : Desk => d.rest.ptStands) h
    dev := (Desk.dev_eq h).trans rfl
    tick := (Desk.tick_eq h).trans rfl
    reg := fun a ha => (Desk.reg_eq h ha).trans rfl }

theorem noteOverrun_task {c : Fin 4} {k : TaskRun} (h : k.overrun = false) (s : State) :
    (noteOverrun c k s).cores[c].task = some { k with overrun := true } := by
  rw [noteOverrun_of_first h, violation_cores]
  simp [State.updCore, noteRun]

theorem noteOverrun_slotView {c : Fin 4} {k : TaskRun} (h : k.overrun = false) (s : State) :
    (noteOverrun c k s).slotView c = s.slotView c := by
  rw [noteOverrun_of_first h, violation_slotView]
  exact updCore_slotView c _ rfl rfl rfl

/-- A deadline passed is counted in GOV_CNT1 (R145, R184). -/
theorem noteOverrun_counts {c : Fin 4} {k : TaskRun} (h : k.overrun = false) (s : State) :
    (noteOverrun c k s).rd PLAN.base PLAN.GOV_CNT1_DEADLINE =
      sat PLAN.GOV_CNT1_DEADLINE.top (s.rd PLAN.base PLAN.GOV_CNT1_DEADLINE + 1) := by
  rw [noteOverrun_of_first h, violation_counts]
  rfl

/-- The core's counter of abandoned tasks. -/
theorem violation_abandons (src : Nat) (s : State) (c : Fin 4) :
    (violation 4 src s).rd (cr c) CORE.CNT_ABANDONS = s.rd (cr c) CORE.CNT_ABANDONS := by
  have hset (u : State) (b : Nat) (w : Word) (hb : 0x300000 ≤ b) :
      (u.setReg b w).rd (cr c) CORE.CNT_ABANDONS = u.rd (cr c) CORE.CNT_ABANDONS :=
    congrArg CORE.CNT_ABANDONS.of (reg_setReg_ne u w (by
      show 0x230000 + c.val * 0x40000 + 0x28 ≠ b
      omega))
  have hraise (u : State) (n : Nat) : (u.raise n).rd (cr c) CORE.CNT_ABANDONS = u.rd (cr c) CORE.CNT_ABANDONS :=
    rd_raise_ne u n _ (by
      show (0x230000 + c.val * 0x40000 + 0x28) % 0x1000 ≠ 0x10
      omega)
  exact afterCounted_keeps (P := fun u => u.rd (cr c) CORE.CNT_ABANDONS = s.rd (cr c) CORE.CNT_ABANDONS)
    { gov := fun u w h => (hset u _ w (by decide)).trans h
      err := fun u w h => (hset u _ w (by decide)).trans h
      viol := fun _ _ h => h
      kept := fun _ _ h => h
      enter := fun u _ h => (rd_congr (State.enter_regs u _) _ _).trans h
      raise := fun u h => (hraise u 48).trans h } 4 src ((hraise _ src).trans (hset _ _ _ (by decide)))

theorem core_deskAddr (c : Fin 4) : deskAddr (cr c + CORE.CNT_ABANDONS.off) = false := by
  have h1 : (0x230000 + c.val * 0x40000 + 0x28) / 0x1000 < 0x400 := by omega
  have h2 : (0x230000 + c.val * 0x40000 + 0x28) % 0x1000 ≠ 0x10 := by omega
  show deskAddr (0x230000 + c.val * 0x40000 + 0x28) = false
  simp only [deskAddr, h2, decide_false, Bool.or_false, Bool.or_eq_false_iff, decide_eq_false_iff_not]
  omega

/-- An abandoned task is gone from its core, is counted, and leaves the other counters. -/
theorem abandonTask_of_noted {c : Fin 4} {k : TaskRun} (hk : s.cores[c].task = some k) (ho : k.overrun) :
    (abandonTask c s).cores[c].task = none ∧
      (abandonTask c s).rd (cr c) CORE.CNT_ABANDONS = sat CORE.CNT_ABANDONS.top (s.rd (cr c) CORE.CNT_ABANDONS + 1) ∧
      (abandonTask c s).rd PLAN.base PLAN.GOV_CNT1_DEADLINE = s.rd PLAN.base PLAN.GOV_CNT1_DEADLINE := by
  have ha := core_deskAddr c
  unfold abandonTask
  rw [hk]
  dsimp only
  rw [noteOverrun_of_noted ho, Desk.cores_eq (deadlineRecord_desk ..), Desk.rd_eq (deadlineRecord_desk ..) ha,
    Desk.rd_eq (deadlineRecord_desk ..) (by decide)]
  have hregs (f : Core → Core) (u : State) : (farGone c true (u.updCore c f)).regs = u.regs := rfl
  rw [rd_congr (hregs _ _), rd_congr (hregs _ _)]
  refine ⟨?_, rd_bump_self s (cr c) CORE.CNT_ABANDONS rfl, ?_⟩
  · have hself (g : Core → Core) (u : State) : (farGone c true (u.updCore c g)).cores[c] = g u.cores[c] := by
      simp [farGone, State.updLink, State.updCore]
    rw [hself]
    rfl
  · exact congrArg PLAN.GOV_CNT1_DEADLINE.of (reg_bump_ne s _ (by
      show 0x40506C ≠ 0x230000 + c.val * 0x40000 + 0x28
      omega))

theorem taskOverrun_eq {c : Fin 4} {k : TaskRun} (hp : s.ptStands = false) (hk : s.cores[c].task = some k)
    (hb : k.start + k.budget ≤ s.pt) (hpark : s.dev.st ≠ .park) (hcore : s.cores[c].parked = false) (ho : k.overrun = false) :
    exec (.taskOverrun c) s = .next (if nextSlotCome s c then abandonTask c (noteOverrun c k (flushFailed c s))
      else noteOverrun c k (flushFailed c s)) := by
  obtain ⟨htask, hparked, hslot, hstands, hdev, -, -⟩ := flushFailed_flushed c s
  have hpt : (flushFailed c s).pt = s.pt := congrArg SlotView.pt hslot
  have hgo : ¬((flushFailed c s).pt < k.start + k.budget ∨ (flushFailed c s).ptStands = true ∨
      (flushFailed c s).dev.st = .park ∨ (flushFailed c s).cores[c].parked = true) := by
    rw [hpt, hstands, hdev, hparked, hp, hcore]
    simp [hpark, hb]
  have hnext := nextSlotCome_congr ((noteOverrun_slotView ho (flushFailed c s)).trans hslot)
  show Host.Outcome.next (taskOverrunStep c s) = _
  unfold taskOverrunStep
  rw [hp]
  dsimp only
  rw [if_neg Bool.false_ne_true, htask.trans hk]
  dsimp only
  rw [if_neg hgo, hnext]

theorem taskOverrun_violates {c : Fin 4} {k : TaskRun} (hp : s.ptStands = false) (hk : s.cores[c].task = some k)
    (ho : k.overrun = false) (hb : k.start + k.budget ≤ s.pt) (hpark : s.dev.st ≠ .park) (hcore : s.cores[c].parked = false) :
    (nextSlotCome s c = false → ∃ t, exec (.taskOverrun c) s = .next t ∧ t.cores[c].task = some { k with overrun := true } ∧
      t.rd PLAN.base PLAN.GOV_CNT1_DEADLINE = sat PLAN.GOV_CNT1_DEADLINE.top (s.rd PLAN.base PLAN.GOV_CNT1_DEADLINE + 1) ∧
      (∃ x ∈ t.inFlight, x.src = 52 ∧ x.raisedAt = s.tick)) ∧
    (nextSlotCome s c → ∃ t, exec (.taskOverrun c) s = .next t ∧ t.cores[c].task = none ∧
      t.rd PLAN.base PLAN.GOV_CNT1_DEADLINE = sat PLAN.GOV_CNT1_DEADLINE.top (s.rd PLAN.base PLAN.GOV_CNT1_DEADLINE + 1) ∧
      t.rd (cr c) CORE.CNT_ABANDONS = sat CORE.CNT_ABANDONS.top (s.rd (cr c) CORE.CNT_ABANDONS + 1)) := by
  have hexec := taskOverrun_eq hp hk hb hpark hcore ho
  obtain ⟨-, -, -, -, -, htick, hreg⟩ := flushFailed_flushed c s
  have hcount : (noteOverrun c k (flushFailed c s)).rd PLAN.base PLAN.GOV_CNT1_DEADLINE = _ :=
    (noteOverrun_counts ho _).trans (congrArg (fun w => sat _ (PLAN.GOV_CNT1_DEADLINE.of w + 1)) (hreg 0x40506C (by decide)))
  refine ⟨fun hn => ?_, fun hn => ?_⟩
  · rw [hn] at hexec
    refine ⟨_, hexec, noteOverrun_task ho _, hcount, ?_⟩
    rw [if_neg Bool.false_ne_true, noteOverrun_of_first ho]
    exact exists_of_sent (violation_sent 4 52 _) ((violation_tick 4 52 _).trans htick)
  · rw [hn, if_pos rfl] at hexec
    obtain ⟨hgone, habandons, hkeep⟩ := abandonTask_of_noted (noteOverrun_task ho (flushFailed c s)) rfl
    have hsame : (noteOverrun c k (flushFailed c s)).rd (cr c) CORE.CNT_ABANDONS = s.rd (cr c) CORE.CNT_ABANDONS := by
      rw [noteOverrun_of_first ho, violation_abandons]
      exact congrArg CORE.CNT_ABANDONS.of (hreg _ (core_deskAddr c))
    exact ⟨_, hexec, hgone, hkeep.trans hcount, habandons.trans (by rw [hsame])⟩

end

/-- Settles O26: a clause per event, issue, effects by kind, cut-offs, limits and overruns. -/
theorem actionsIssueTakeEffectAndEnd : Obligations.ActionsIssueTakeEffectAndEnd :=
  ⟨fun _ _ _ hf hp hr hk hfirst hreach hlook hdead hin hc hread hev hpatch hv =>
      actionIssue_issues hf hp hr hk hfirst hreach hlook hdead hin hc hread hev hpatch hv,
    fun _ _ _ hp hd hg hk => windowAction_takesEffect hp hd hg hk,
    fun _ _ _ hp hd hg hb => bankAction_takesEffect hp hd hg hb,
    fun _ _ _ hp hr hn => cutoffTake_takes hp hr hn,
    fun _ _ _ hf hmax hreq hhold hrun hdue => maxDuration_ends hf hmax hreq hhold hrun hdue,
    fun _ _ _ hw hk hl => taskWait_expires hw hk hl,
    fun _ _ _ hw hk hl => dmaWait_expires hw hk hl,
    fun _ hi hg => govClear_requests hi hg,
    fun _ _ _ _ h => latePop_takes_oldest h,
    fun _ h => latePop_of_empty h,
    fun _ _ _ hp hk ho hb hpark hcore => taskOverrun_violates hp hk ho hb hpark hcore,
    fun _ _ _ hw hk hc hl => sampleWait_expires hw hk hc hl,
    fun _ _ _ _ hp hd hg hk hn hs => propAction_writes hp hd hg hk hn hs,
    fun _ _ _ hp hd hg hk => sampleAction_claims hp hd hg hk,
    fun _ _ _ hp hd hg hk hs => taskAction_releases hp hd hg hk hs,
    fun _ a _ _ hp hd hg hk hn hh h0 => by
      obtain ⟨t, ht, hacts, htio⟩ := markAction_drives hp hd hg hk hn hh h0
      refine ⟨t, ht, hacts, htio.trans ?_⟩
      have hop := Nat.mod_lt a.value (by decide : 4 > 0)
      revert hop
      generalize a.value % 4 = op
      intro hop
      interval_cases op <;> rfl,
    fun _ _ _ hp hd hg hk hon hidle hn hok => dmaAction_starts hp hd hg hk hon hidle hn hok,
    fun _ _ _ _ hp hd hg hk hopen hres hpath hroom => linkAction_sends hp hd hg hk hopen hres hpath hroom⟩

end Sys2Proof.Machine

namespace Sys2Proof.Machine

/-! ## What an end of outputs leaves alone

Everything that ends outputs keeps `Calm`; what does not move a PWM output keeps the generators too. -/

structure Still where
  calm : Calm
  pwm : Vector PwmGen 16

def Desk.still (d : Desk) : Still := ⟨d.calm, d.rest.pwm⟩

/-- A base of registers that are not the system's own. -/
def unitBase (b : Nat) : Bool := decide (0x402000 ≤ b) && decide (b ≤ 0x47B000)

section
variable {s t : State}

theorem sysAddr_of_unit {b k : Nat} (hb : unitBase b) (hk : k < 0x1000) : sysAddr (b + k) = false := by
  simp only [unitBase, Bool.and_eq_true, decide_eq_true_eq] at hb
  have h1 : (b + k) / 0x1000 ≠ 0x400 := by omega
  have h2 : (b + k) / 0x1000 ≠ 0x401 := by omega
  have h3 : (b + k) / 0x1000 ≠ 0x47C := by omega
  simp [sysAddr, h1, h2, h3]

theorem unitBase_of_le {b : Nat} (h : 0x402000 ≤ b) (h' : b ≤ 0x47B000) : unitBase b := by simp [unitBase, h, h']

@[simp] theorem unit_trk (t : Fin 2) : unitBase (TRK.base t) := unitBase_of_le (by unfold TRK.base; omega) (by unfold TRK.base; omega)
@[simp] theorem unit_whn (w : Fin 4) : unitBase (WHN.base w) := unitBase_of_le (by unfold WHN.base; omega) (by unfold WHN.base; omega)
@[simp] theorem unit_bank (b : Fin 16) : unitBase (BANK.base b) := unitBase_of_le (by unfold BANK.base; omega) (by unfold BANK.base; omega)
@[simp] theorem unit_shpb (b : Fin 16) : unitBase (SHPB.base b) := unitBase_of_le (by unfold SHPB.base; omega) (by unfold SHPB.base; omega)
@[simp] theorem unit_shpc (b : Fin 16) (k : Fin 4) : unitBase (SHPC.base b k) :=
  unitBase_of_le (by unfold SHPC.base; omega) (by unfold SHPC.base; omega)
@[simp] theorem unit_conv (k : Fin 4) : unitBase (CONV.base k) := unitBase_of_le (by unfold CONV.base; omega) (by unfold CONV.base; omega)
@[simp] theorem unit_pw (n : Fin 16) : unitBase (pw n) :=
  unitBase_of_le (by unfold pw PWN.base; omega) (by unfold pw PWN.base; omega)

/-- The state but for registers and events, with what of these is the system's own. -/
structure Bare where
  calm : Calm
  rest : State

def State.bare (s : State) : Bare := ⟨s.desk.calm, { s with regs := [], inFlight := [], sys := s.sys.calm }⟩

theorem still_of_bare (h : t.bare = s.bare) : t.desk.still = s.desk.still :=
  congrArg (fun d : Bare => (⟨d.calm, d.rest.pwm⟩ : Still)) h

theorem setReg_bare (s : State) {b k : Nat} (w : Word) (hb : unitBase b) (hk : k < 0x1000) :
    (s.setReg (b + k) w).bare = s.bare :=
  congrArg (fun c => (⟨c, { s with regs := [], inFlight := [], sys := s.sys.calm }⟩ : Bare))
    (setReg_calm s w (sysAddr_of_unit hb hk))
theorem wr_bare (s : State) {b : Nat} {f : Fld} (v : Nat) (hb : unitBase b) (hf : f.off < 0x1000) :
    (s.wr b f v).bare = s.bare := setReg_bare s _ hb hf
theorem bump_bare (s : State) {b : Nat} {f : Fld} (hb : unitBase b) (hf : f.off < 0x1000) :
    (s.bump b f).bare = s.bare := setReg_bare s _ hb hf
theorem bumpWrap_bare (s : State) {b : Nat} {f : Fld} (hb : unitBase b) (hf : f.off < 0x1000) :
    (s.bumpWrap b f).bare = s.bare := setReg_bare s _ hb hf

theorem raise_bare (s : State) {n : Nat} (h : 12 ≤ n) : (s.raise n).bare = s.bare := by
  have hcalm : (s.raise n).desk.calm = s.desk.calm := by rw [raise_desk s h]
  have hbrk (u : State) : ({ u.brkSource n with regs := [], inFlight := [], sys := (u.brkSource n).sys.calm } : State) =
      { u with regs := [], inFlight := [], sys := u.sys.calm } := by
    unfold State.brkSource
    split <;> rfl
  have hsend (u : State) : ({ u.sendEvt n with regs := [], inFlight := [], sys := (u.sendEvt n).sys.calm } : State) =
      { u with regs := [], inFlight := [], sys := u.sys.calm } := by
    unfold State.sendEvt
    split <;> rfl
  have hraw : ({ s.setRaw n with regs := [], inFlight := [], sys := (s.setRaw n).sys.calm } : State) =
      { s with regs := [], inFlight := [], sys := s.sys.calm } := by
    unfold State.setRaw
    split <;> rfl
  unfold State.bare
  rw [hcalm, State.raise, hbrk, hsend, hraw]

theorem setFault_bare (s : State) {b : Nat} {f : Fld} {n : Nat} (hb : unitBase b) (hf : f.off < 0x1000) (h : 12 ≤ n) :
    (s.setFault b f n).bare = s.bare := by
  unfold State.setFault
  split
  · rfl
  · rw [raise_bare _ h, wr_bare _ _ hb hf]

theorem setReg_still (s : State) {b k : Nat} (w : Word) (hb : unitBase b) (hk : k < 0x1000) :
    (s.setReg (b + k) w).desk.still = s.desk.still := still_of_bare (setReg_bare s w hb hk)
theorem wr_still (s : State) {b : Nat} {f : Fld} (v : Nat) (hb : unitBase b) (hf : f.off < 0x1000) :
    (s.wr b f v).desk.still = s.desk.still := setReg_still s _ hb hf
theorem bump_still (s : State) {b : Nat} {f : Fld} (hb : unitBase b) (hf : f.off < 0x1000) :
    (s.bump b f).desk.still = s.desk.still := setReg_still s _ hb hf
theorem bumpWrap_still (s : State) {b : Nat} {f : Fld} (hb : unitBase b) (hf : f.off < 0x1000) :
    (s.bumpWrap b f).desk.still = s.desk.still := setReg_still s _ hb hf
theorem err_still (s : State) (p : Nat) : (s.err p).desk.still = s.desk.still :=
  congrArg (fun c => (⟨c, s.pwm⟩ : Still)) (err_calm s p)

theorem raise_still (s : State) {n : Nat} (h : 12 ≤ n) : (s.raise n).desk.still = s.desk.still := by rw [raise_desk s h]
theorem raiseIf_still (s : State) (c : Bool) {n : Nat} (h : 12 ≤ n) : (s.raiseIf c n).desk.still = s.desk.still := by
  rw [raiseIf_desk s c h]

@[simp] theorem updTrk_still (s : State) (t : Fin 2) (f : Tracker → Tracker) : (s.updTrk t f).desk.still = s.desk.still := (rfl)
@[simp] theorem updWheel_still (s : State) (w : Fin 4) (f : Wheel → Wheel) : (s.updWheel w f).desk.still = s.desk.still := (rfl)
@[simp] theorem updBank_still (s : State) (b : Fin 16) (f : Bank → Bank) : (s.updBank b f).desk.still = s.desk.still := (rfl)
@[simp] theorem updShp_still (s : State) (b : Fin 16) (f : Shaper → Shaper) : (s.updShp b f).desk.still = s.desk.still := (rfl)
@[simp] theorem updConv_still (s : State) (k : Fin 4) (f : Converter → Converter) : (s.updConv k f).desk.still = s.desk.still := (rfl)
@[simp] theorem updTmr_still (s : State) (n : Fin 16) (f : Timer → Timer) : (s.updTmr n f).desk.still = s.desk.still := (rfl)
@[simp] theorem updCore_still (s : State) (c : Fin 4) (f : Core → Core) : (s.updCore c f).desk.still = s.desk.still := (rfl)
@[simp] theorem setCsrc_still (s : State) (n : Nat) (x : CatchSrc) : (s.setCsrc n x).desk.still = s.desk.still := (rfl)
@[simp] theorem setAct_still (s : State) (a : Nat) (w : Word) : (s.setAct a w).desk.still = s.desk.still := (rfl)
@[simp] theorem sendTrig_still (s : State) (d k : Nat) : (s.sendTrig d k).desk.still = s.desk.still := (rfl)
@[simp] theorem drawFree_still (s : State) : s.drawFree.2.desk.still = s.desk.still := (rfl)
@[simp] theorem updActs_still (s : State) (f : List Act → List Act) : (updActs f s).desk.still = s.desk.still := (rfl)
@[simp] theorem updAct_still (n : Nat) (f : Act → Act) (s : State) : (updAct n f s).desk.still = s.desk.still := (rfl)
@[simp] theorem dropActEntry_still (n : Nat) (s : State) : (dropActEntry n s).desk.still = s.desk.still := (rfl)
theorem with_committed_still (s : State) (l : List CommitPend) :
    ({ s with committed := l } : State).desk.still = s.desk.still := (rfl)
theorem with_lev_still (s : State) (l : Levee) : ({ s with lev := l } : State).desk.still = s.desk.still := (rfl)
theorem with_trims_still (s : State) (l : Trims) : ({ s with trims := l } : State).desk.still = s.desk.still := (rfl)
theorem with_gates_still (s : State) (g : Nat) : ({ s with gates := g } : State).desk.still = s.desk.still := (rfl)
theorem with_gatesCut_still (s : State) (g : Nat) : ({ s with gatesCut := g } : State).desk.still = s.desk.still := (rfl)

@[simp] theorem fire_still (s : State) (code : Nat) : (s.fire code).desk.still = s.desk.still :=
  foldS_keeps (v := fun u => u.desk.still) (fun n u => by
    dsimp only
    split <;> split <;> rfl) (List.range 16) s

@[simp] theorem actWhere_still (p : CommitPend → Bool) (s : State) : (s.actWhere p).desk.still = s.desk.still :=
  foldS_keeps (v := fun u => u.desk.still) (f := fun (c : CommitPend) u => u.setAct c.addr (c.acts (u.actReg c.addr)))
    (fun _ u => setAct_still u _ _) _ _

@[simp] theorem keepWheelWord_still (w : Fin 4) (off : Nat) (old : Word) (s : State) :
    (keepWheelWord w off old s).desk.still = s.desk.still := updWheel_still s w _

/-! ### Actions and violations -/

@[simp] theorem applyAct_still (a : Act) (s : State) : (applyAct a s).desk.still = s.desk.still := by
  rw [applyAct_desk, dropActEntry_still]

@[simp] theorem dropAct_still (r : Nat) (a : Act) (s : State) : (dropAct r a s).desk.still = s.desk.still := by
  rw [dropAct_desk, dropActEntry_still]

@[simp] theorem truncateAct_still (angle : Nat) (a : Act) (s : State) : (truncateAct angle a s).desk.still = s.desk.still := by
  unfold truncateAct
  dsimp only
  split
  · rw [endOrder_desk, dropActEntry_still, flagOrder_desk]
  · rw [jrnAction_desk, dropActEntry_still, flagOrder_desk]

@[simp] theorem truncateWhere_still (p : Act → Bool) (angle : Nat) (s : State) :
    (truncateWhere p angle s).desk.still = s.desk.still :=
  foldS_keeps (v := fun u => u.desk.still) (truncateAct_still angle) _ s

theorem enter_governed_still (h : s.dev.st = .running) : (s.enter .governed).desk.still = s.desk.still := by
  have h1 : s.isArmed = true := by simp [State.isArmed, h]
  have h2 : (s.enter .governed).isArmed = true := by simp [State.isArmed, State.enter, h]
  unfold State.desk Desk.still
  rw [h1, h2]
  unfold State.enter
  split <;> rfl

theorem violation_still (cause : Nat) {src : Nat} (h : 12 ≤ src) (s : State) :
    (violation cause src s).desk.still = s.desk.still := by
  have hc : (govCounter cause).off < 0x1000 := by unfold govCounter; split <;> decide
  refine afterCounted_keeps (P := fun u => u.desk.still = s.desk.still)
    { gov := fun u w hu => (setReg_still (b := PLAN.base) (k := 0x64) u w rfl (by decide)).trans hu
      err := fun u w hu => (setReg_still (b := PLAN.base) (k := 0x1C) u w rfl (by decide)).trans hu
      viol := fun _ _ hu => hu
      kept := fun _ _ hu => hu
      enter := fun _ hr hu => (enter_governed_still hr).trans hu
      raise := fun u hu => (raise_still u (by decide)).trans hu } cause src ?_
  rw [raise_still _ h, bump_still _ rfl hc]

@[simp] theorem contention_still (e : Bool) (s : State) : (contention e s).desk.still = s.desk.still := by
  unfold contention
  split
  · exact bump_still s rfl (by decide)
  · exact violation_still 3 (by decide) s

@[simp] theorem envelopeEdge_still (n v stamp : Nat) (r : Bool) (s : State) :
    (envelopeEdge n v stamp r s).desk.still = s.desk.still := by
  have hb (u : State) (b : Bool) : (u.updPlan (fun p => { p with speedBad := b })).desk.still = u.desk.still := rfl
  have hr (u : State) (b : Option Nat) : (u.updPlan (fun p => { p with revStamp := b })).desk.still = u.desk.still := rfl
  have hp (u : State) (b c : Option Nat) :
      (u.updPlan (fun p => { p with revStamp := b, revPrev := c })).desk.still = u.desk.still := rfl
  have hspeed : (if r then s else
      let out := decide (v < s.plan.rpmMin) || decide (s.plan.rpmMax < v)
      let s := s.updPlan (fun p => { p with speedBad := out })
      if out then violation 1 49 s else s).desk.still = s.desk.still := by
    dsimp only
    split
    · rfl
    · split
      · rw [violation_still 1 (by decide), hb]
      · rw [hb]
  unfold envelopeEdge
  dsimp only at hspeed ⊢
  split
  · rfl
  · revert hspeed
    generalize ite (r = true) s _ = u
    intro hu
    split
    · exact hu
    · split
      · rw [hr, hu]
      · simp only [apply_ite State.desk, apply_ite Desk.still, violation_still 2 (by decide : 12 ≤ 50), hp, hu, ite_self]

@[simp] theorem dueEnvelope_still (s : State) : (dueEnvelope s).desk.still = s.desk.still := by
  unfold dueEnvelope
  dsimp only
  split
  · rfl
  · split
    · rfl
    · split
      · exact envelopeEdge_still ..
      · rfl

/-! ### Converters -/

@[simp] theorem moveMux_still (k : Fin 4) (s : State) : (moveMux k s).desk.still = s.desk.still := updConv_still s k _

theorem restartRing_still (k : Fin 4) {r : Nat} (hr : r < 8) (s : State) : (restartRing k r s).desk.still = s.desk.still := by
  have hb : unitBase (CRING.base k r) := unitBase_of_le (by unfold CRING.base; omega) (by unfold CRING.base; omega)
  unfold restartRing
  simp +decide only [wr_still, hb, updConv_still]

theorem foldS_keeps_mem {α β : Type} {v : State → β} {f : α → State → State} (l : List α)
    (hf : ∀ x ∈ l, ∀ s, v (f x s) = v s) (s : State) : v (foldS l f s) = v s := by
  induction l generalizing s with
  | nil => rfl
  | cons x l ih =>
    have hx := hf x (List.mem_cons_self ..) s
    exact (ih (fun y hy => hf y (List.mem_cons_of_mem _ hy)) (f x s)).trans hx

@[simp] theorem actConv_still (k : Fin 4) (p : CommitPend → Bool) (s : State) : (actConv k p s).desk.still = s.desk.still := by
  have hring (u : State) : (foldS (List.range 8) (fun r t => if ringCfg t k r = ringCfg s k r then t else restartRing k r t)
      u).desk.still = u.desk.still :=
    foldS_keeps_mem (v := fun u => u.desk.still) _ (fun r hr t => by
      split
      · rfl
      · exact restartRing_still k (List.mem_range.1 hr) t) u
  unfold actConv
  dsimp only
  rw [hring]
  simp only [apply_ite State.desk, apply_ite Desk.still, moveMux_still, updConv_still, actWhere_still, ite_self]

@[simp] theorem convScanStart_still (k : Fin 4) (s : State) : (convScanStart k s).desk.still = s.desk.still := by
  rw [convScanStart, actConv_still, with_committed_still]

@[simp] theorem beginScan_still (k : Fin 4) (x : Scan) (n : Nat) (s : State) : (beginScan k x n s).desk.still = s.desk.still := by
  rw [beginScan, moveMux_still, updConv_still]

@[simp] theorem claimConv_still (k : Fin 4) (a : Act) (s : State) : (claimConv k a s).desk.still = s.desk.still := by
  unfold claimConv
  simp +decide only [beginScan_still, updAct_still, updConv_still, apply_ite State.desk, apply_ite Desk.still, wr_still,
    bump_still, unit_conv, convScanStart_still, ite_self]

@[simp] theorem resumeScan_still (k : Fin 4) (x : Scan) (s : State) : (resumeScan k x s).desk.still = s.desk.still := by
  simp only [resumeScan, beginScan_still, updConv_still, convScanStart_still]

@[simp] theorem grantSlot_still (k j : Fin 4) (s : State) : (grantSlot k j s).desk.still = s.desk.still := by
  unfold grantSlot
  simp +decide only [apply_ite State.desk, apply_ite Desk.still, bump_still, unit_conv, beginScan_still, updConv_still,
    convScanStart_still, ite_self]

@[simp] theorem claimWaiting_still (k : Fin 4) (s : State) : (claimWaiting k s).desk.still = s.desk.still := by
  unfold claimWaiting
  split
  · rfl
  · dsimp only
    split
    · exact updConv_still s k _
    · split
      · rw [claimConv_still, updConv_still]
      · rw [dropAct_still, updConv_still]

@[simp] theorem serveConv_still (k : Fin 4) (s : State) : (serveConv k s).desk.still = s.desk.still := by
  have hslots (u : State) : (foldS (List.finRange 4) (fun j s => if s.conv[k].run.isNone = true ∧ bit s.conv[k].pend j.val = true ∧
      lowerComes s k j = false then grantSlot k j s else s) u).desk.still = u.desk.still :=
    foldS_keeps (v := fun u => u.desk.still) (fun j t => by
      split
      · exact grantSlot_still k j t
      · rfl) _ u
  unfold serveConv
  dsimp only
  split
  · rfl
  · split
    · exact claimWaiting_still k s
    · split
      · rw [resumeScan_still, claimWaiting_still]
      · simp only [apply_ite State.desk, apply_ite Desk.still, moveMux_still, hslots, claimWaiting_still, ite_self]

@[simp] theorem endScan_still (k : Fin 4) (x : Scan) (s : State) : (endScan k x s).desk.still = s.desk.still := by
  have hc : ((s.bumpWrap (CONV.base k) CONV.CNT0_SCANS)).desk.still = s.desk.still :=
    bumpWrap_still s (unit_conv k) (by decide)
  unfold endScan
  dsimp only
  split
  · rw [dropActEntry_still, hc]
  · rw [raiseIf_still _ _ (by omega), hc]

@[simp] theorem settleConv_still (k : Fin 4) (s : State) : (settleConv k s).desk.still = s.desk.still := by
  have hend (c : Converter) (x : Scan) (u : State) (f : Converter → Converter) :
      (if scanDone c x then endScan k x (u.updConv k f) else u).desk.still = u.desk.still := by
    split
    · rw [endScan_still, updConv_still]
    · rfl
  unfold settleConv
  dsimp only
  rw [serveConv_still]
  split
  · rw [hend]
    split
    · rw [hend]
    · rfl
  · split
    · rw [hend]
    · rfl

@[simp] theorem spillClaim_still (k : Fin 4) (s : State) : (spillClaim k s).desk.still = s.desk.still := by
  unfold spillClaim
  split
  · split
    · rfl
    · exact claimConv_still ..
  · rfl

@[simp] theorem unsample_still (k : Fin 4) (s : State) : (unsample k s).desk.still = s.desk.still := by
  unfold unsample
  split
  · rfl
  · dsimp only
    rw [updConv_still]
    split
    · rw [updOrder_desk]
    · rfl

@[simp] theorem spillSamples_still (s : State) : (spillSamples s).desk.still = s.desk.still :=
  foldS_keeps (v := fun u => u.desk.still) (fun k u => by rw [unsample_still, spillClaim_still]) _ s

@[simp] theorem spillConv_still (k : Fin 4) (s : State) : (spillConv k s).desk.still = s.desk.still := by
  rw [spillConv, settleConv_still, updConv_still]

/-! ### Banks, timers, trackers and cores -/

/-- The banks' units aside: their drivers, shapers and derating. -/
def Bare.sansBanks (d : Bare) : Bare :=
  { d with rest := { d.rest with
      free := 0, banks := Vector.replicate 16 initBank, shp := Vector.replicate 16 initShaper, lev := initLevee } }

@[simp] theorem drawFree_banks (s : State) : s.drawFree.2.bare.sansBanks = s.bare.sansBanks := (rfl)
@[simp] theorem updBank_banks (s : State) (b : Fin 16) (f : Bank → Bank) : (s.updBank b f).bare.sansBanks = s.bare.sansBanks := (rfl)
@[simp] theorem updShp_banks (s : State) (b : Fin 16) (f : Shaper → Shaper) : (s.updShp b f).bare.sansBanks = s.bare.sansBanks := (rfl)

@[simp] theorem noteMicrocode_banks (j : Nat) (s : State) : (noteMicrocode j s).bare.sansBanks = s.bare.sansBanks := by
  have hm (u : State) (k : Nat) (w : Word) (hk : k < 0x1000) : (u.setReg (MEM.base + k) w).bare = u.bare :=
    setReg_bare u w (b := MEM.base) rfl hk
  unfold noteMicrocode
  dsimp only
  rw [raise_bare _ (by decide), hm _ _ _ (by decide), hm _ _ _ (by decide), bump_bare _ rfl (by decide),
    wr_bare _ _ rfl (by decide), drawFree_banks]

@[simp] theorem shpFlag_banks (b : Fin 16) (k : Nat) (s : State) : (shpFlag b k s).bare.sansBanks = s.bare.sansBanks := by
  unfold shpFlag
  dsimp only
  split
  · rfl
  · rw [raise_bare _ (by omega), setReg_bare _ _ (unit_shpb b) (by decide)]

@[simp] theorem clearDip_banks (b : Fin 16) (s : State) : (clearDip b s).bare.sansBanks = s.bare.sansBanks := updShp_banks s b _

@[simp] theorem closeDip_banks (b : Fin 16) (s : State) : (closeDip b s).bare.sansBanks = s.bare.sansBanks := by
  unfold closeDip
  dsimp only
  split
  · rfl
  · rw [clearDip_banks, shpFlag_banks, bump_bare _ (unit_shpc b _) (by decide)]

@[simp] theorem levSwitch_banks (u : Nat) (on : Bool) (s : State) : (levSwitch u on s).bare.sansBanks = s.bare.sansBanks := (rfl)

@[simp] theorem levFollow_banks (b : Fin 16) (m : Nat) (s : State) : (levFollow b m s).bare.sansBanks = s.bare.sansBanks := by
  unfold levFollow
  rw [foldS_keeps (v := fun u => u.bare.sansBanks) (fun _ u => levSwitch_banks _ _ u), levSwitch_banks]

@[simp] theorem sendMask_banks (b : Fin 16) (m : Nat) (s : State) : (sendMask b m s).bare.sansBanks = s.bare.sansBanks :=
  updBank_banks s b _

@[simp] theorem setMask_banks (b : Fin 16) (m : Nat) (s : State) : (setMask b m s).bare.sansBanks = s.bare.sansBanks := by
  have hf : (s.setFault (BANK.base b) BANK.FAULT_HS_BOTH (65 + 4 * b.val)).bare = s.bare :=
    setFault_bare s (unit_bank b) (by decide) (by omega)
  unfold setMask
  simp only [apply_ite State.bare, apply_ite Bare.sansBanks, sendMask_banks, levFollow_banks, updBank_banks, closeDip_banks, hf,
    ite_self]

@[simp] theorem fastDecay_banks (b : Fin 16) (s : State) : (fastDecay b s).bare.sansBanks = s.bare.sansBanks := by
  unfold fastDecay
  split
  · exact sendMask_banks b 0 s
  · exact setMask_banks b 0 s

@[simp] theorem stopShaper_banks (b : Fin 16) (s : State) : (stopShaper b s).bare.sansBanks = s.bare.sansBanks := by
  unfold stopShaper
  dsimp only
  rw [updShp_banks]
  split
  · exact noteMicrocode_banks _ s
  · rfl

@[simp] theorem spillBank_banks (b : Fin 16) (s : State) : (spillBank b s).bare.sansBanks = s.bare.sansBanks := by
  simp only [spillBank, updBank_banks, fastDecay_banks, stopShaper_banks]

theorem still_of_banks (h : t.bare.sansBanks = s.bare.sansBanks) : t.desk.still = s.desk.still :=
  congrArg (fun d : Bare => (⟨d.calm, d.rest.pwm⟩ : Still)) h

@[simp] theorem spillBank_still (b : Fin 16) (s : State) : (spillBank b s).desk.still = s.desk.still :=
  still_of_banks (spillBank_banks b s)

@[simp] theorem leveeRestart_still (s : State) : (leveeRestart s).desk.still = s.desk.still := (rfl)

@[simp] theorem dropPromise_still (b : Fin 16) (s : State) : (dropPromise b s).desk.still = s.desk.still := by
  unfold dropPromise
  split
  · rfl
  · exact updBank_still s b _

@[simp] theorem sluiceDrop_still (b : Fin 16) (a : Act) (s : State) : (sluiceDrop b a s).desk.still = s.desk.still := by
  rw [sluiceDrop, dropAct_still, raise_still _ (by omega), bump_still _ (unit_bank b) (by decide)]

@[simp] theorem restartWaits_still (b : Fin 16) (a : Act) (s : State) : (restartWaits b a s).desk.still = s.desk.still := by
  unfold restartWaits
  dsimp only
  split
  · rw [sluiceDrop_still, contention_still]
  · exact updBank_still s b _

@[simp] theorem restartsWait_still (b : Fin 16) (s : State) : (restartsWait b s).desk.still = s.desk.still := by
  unfold restartsWait
  dsimp only
  rw [foldS_keeps (v := fun u => u.desk.still) (restartWaits_still b), updBank_still]

@[simp] theorem filterDelay_still (b : Fin 16) (s : State) : (filterDelay b s).desk.still = s.desk.still := by
  have hw (u : State) (f : Fld) (v : Nat) (hf : f.off < 0x1000) :
      (u.wr (SHPC.base b s.shp[b].chan) f v).desk.still = u.desk.still := wr_still u v (unit_shpc b _) hf
  unfold filterDelay
  dsimp only
  split
  · split
    · rfl
    · split
      · exact hw _ _ _ (by decide)
      · rw [hw _ _ _ (by decide), hw _ _ _ (by decide)]
  · rfl

@[simp] theorem normalEndStep_still (b : Fin 16) (s : State) : (normalEndStep b s).desk.still = s.desk.still := by
  unfold normalEndStep
  split
  · dsimp only
    split
    · rfl
    · rw [restartsWait_still, updBank_still, updShp_still, applyAct_still, filterDelay_still]
  · rfl

@[simp] theorem truncateAll_still (s : State) : (truncateAll s).desk.still = s.desk.still := by
  unfold truncateAll
  dsimp only
  rw [truncateWhere_still, foldS_keeps (v := fun u => u.desk.still) (fun b u => by rw [dropPromise_still, normalEndStep_still]),
    spillSamples_still]

@[simp] theorem spillTio_still (s : State) : (spillTio s).desk.still = s.desk.still :=
  foldS_keeps (v := fun u => u.desk.still) (fun n u => by
    simp only [apply_ite State.desk, apply_ite Desk.still, fire_still, updTmr_still, ite_self]) _ s

@[simp] theorem gateChange_still (n : Fin 16) (s : State) : (gateChange n s).desk.still = s.desk.still := by
  unfold gateChange
  dsimp only
  split
  · split
    · exact updTmr_still s n _
    · rfl
  · split
    · exact updTmr_still s n _
    · rfl

@[simp] theorem gateActs_still (n : Fin 16) (s : State) : (gateActs n s).desk.still = s.desk.still := by
  unfold gateActs
  dsimp only
  split
  all_goals
    split
    · simp only [gateChange_still, updTmr_still]
    · split <;> simp only [updTmr_still]

@[simp] theorem tioMoved_still (n : Fin 16) (b : Bool) (s : State) : (tioMoved n b s).desk.still = s.desk.still := by
  unfold tioMoved
  split
  · rfl
  · exact fire_still s _

@[simp] theorem wheelModeActs_still (w : Fin 4) (s : State) : (wheelModeActs w s).desk.still = s.desk.still := by
  unfold wheelModeActs
  dsimp only
  rw [updWheel_still, wr_still _ _ (unit_whn w) (by decide), foldS_keeps (v := fun u => u.desk.still) (fun t u => by
    split
    · exact updTrk_still u t _
    · rfl)]

@[simp] theorem dcfgActs_still (b : Fin 16) (k : Fin 4) (old new : Word) (s : State) :
    (dcfgActs b k old new s).desk.still = s.desk.still := by
  unfold dcfgActs
  split
  · rfl
  · dsimp only
    rw [with_trims_still, wr_still _ _ (unit_shpc b k) (by decide), setReg_still _ _ (unit_shpc b k) (by decide)]

@[simp] theorem setGate_still (m : Nat) (v : Bool) (s : State) : (setGate m v s).desk.still = s.desk.still := by
  unfold setGate
  split
  · rfl
  · rw [fire_still, with_gates_still]

@[simp] theorem tryPend_still (n k : Nat) (s : State) : (tryPend n k s).desk.still = s.desk.still := by
  unfold tryPend
  dsimp only
  split
  · rfl
  · split
    · rfl
    · rw [bumpWrap_still _ rfl (by decide), setCsrc_still]

@[simp] theorem catchRetest_still (s : State) : (catchRetest s).desk.still = s.desk.still :=
  foldS_keeps (v := fun u => u.desk.still) (fun e u => by
    split
    · rfl
    · exact tryPend_still ..) _ s

@[simp] theorem coresEpochClose_still (s : State) : (coresEpochClose s).desk.still = s.desk.still :=
  foldS_keeps (v := fun u => u.desk.still) (fun c u => updCore_still u c _) _ s

@[simp] theorem recordLoss_still (t : Fin 2) (cause : Nat) (s : State) : (recordLoss t cause s).desk.still = s.desk.still := by
  unfold recordLoss
  simp +decide only [wr_still, unit_trk]

@[simp] theorem leaveSync_still (t : Fin 2) (cause : Nat) (q : Acq) (s : State) :
    (leaveSync t cause q s).desk.still = s.desk.still := by
  unfold leaveSync
  split
  · dsimp only
    rw [updTrk_still, raise_still _ (by omega), recordLoss_still]
  · rfl

@[simp] theorem trackersOff_still (s : State) : (trackersOff s).desk.still = s.desk.still :=
  foldS_keeps (v := fun u => u.desk.still) (fun t u => by rw [updTrk_still, leaveSync_still]) _ s

end
end Sys2Proof.Machine

namespace Sys2Proof.Machine
section
variable {s t : State}

/-! ### Outputs

The functions that move PWM outputs keep everything but the generators. -/

def Bare.sansPwm (d : Bare) : Bare := { d with rest := { d.rest with pwm := Vector.replicate 16 initPwm } }

theorem calm_of_pwm (h : t.bare.sansPwm = s.bare.sansPwm) : t.desk.still.calm = s.desk.still.calm := congrArg Bare.calm h

@[simp] theorem updPwm_sansPwm (s : State) (n : Fin 16) (f : PwmGen → PwmGen) : (s.updPwm n f).bare.sansPwm = s.bare.sansPwm := (rfl)

theorem pwmFlag_bare (n : Fin 16) {f : Fld} (hf : f.off < 0x1000) (s : State) : (pwmFlag n f s).bare = s.bare :=
  setFault_bare s (unit_pw n) hf (by omega)

@[simp] theorem putOutputs_sansPwm (n : Fin 16) (a b l : Bool) (s : State) :
    (putOutputs n a b l s).bare.sansPwm = s.bare.sansPwm := updPwm_sansPwm s n _

@[simp] theorem takeForce_sansPwm (n : Fin 16) (s : State) : (takeForce n s).bare.sansPwm = s.bare.sansPwm := by
  unfold takeForce
  split
  · rfl
  · split
    · exact updPwm_sansPwm s n _
    · rfl

@[simp] theorem noteForces_sansPwm (n : Fin 16) (s : State) : (noteForces n s).bare.sansPwm = s.bare.sansPwm := by
  unfold noteForces
  dsimp only
  split
  · rfl
  · split
    · rw [pwmFlag_bare _ (by decide), updPwm_sansPwm]
    · rw [wr_bare _ _ (unit_pw n) (by decide), updPwm_sansPwm]

@[simp] theorem settlePwm_sansPwm (n : Fin 16) (s : State) : (settlePwm n s).bare.sansPwm = s.bare.sansPwm := by
  unfold settlePwm
  simp only [apply_ite State.bare, apply_ite Bare.sansPwm, putOutputs_sansPwm, noteForces_sansPwm, takeForce_sansPwm, ite_self]

@[simp] theorem settleAll_sansPwm (s : State) : (settleAll s).bare.sansPwm = s.bare.sansPwm :=
  foldS_keeps (v := fun u => u.bare.sansPwm) settlePwm_sansPwm _ s

@[simp] theorem settleSafe_sansPwm (n : Fin 16) (s : State) : (settleSafe n s).bare.sansPwm = s.bare.sansPwm := by
  unfold settleSafe
  split
  · exact settlePwm_sansPwm n s
  · rfl

@[simp] theorem tripPwm_sansPwm (n : Fin 16) (s : State) : (tripPwm n s).bare.sansPwm = s.bare.sansPwm := by
  rw [tripPwm, settlePwm_sansPwm, updPwm_sansPwm, pwmFlag_bare _ (by decide), bump_bare _ (unit_pw n) (by decide)]

@[simp] theorem judgeTrip_sansPwm (n : Fin 16) (s : State) : (judgeTrip n s).bare.sansPwm = s.bare.sansPwm := by
  unfold judgeTrip
  simp only [apply_ite State.bare, apply_ite Bare.sansPwm, tripPwm_sansPwm, ite_self]

@[simp] theorem spillPwm_sansPwm (u : Bool) (s : State) : (spillPwm u s).bare.sansPwm = s.bare.sansPwm := by
  rw [spillPwm, settleAll_sansPwm, foldS_keeps (v := fun u => u.bare.sansPwm) (fun n u => by
    split
    · exact updPwm_sansPwm u n _
    · rfl)]

/-- What a committed register does beside acting is one of these (R486). -/
theorem commitEffect_of {P : State → Prop} (a : Nat) (old new : Word) (hs : P s) (hlev : P (leveeRestart s))
    (hlink : ∀ v, P (s.wr LINK.base LINK.STAT_ACTIVE_SRC v)) (hmode : ∀ w, P (wheelModeActs w s))
    (hkeep : ∀ w off, P (keepWheelWord w off old s)) (hdcfg : ∀ b k, P (dcfgActs b k old new s))
    (htrip : P (foldS allGens judgeTrip s)) (hspoil : ∀ t, P (s.updTrk t Tracker.spoil))
    (htmr : ∀ n b, P (gateActs n (tioMoved n b s))) (hsafe : ∀ n, P (settleSafe n s)) : P (commitEffect a old new s) := by
  have hite {c : Prop} [Decidable c] {x y : State} (hx : P x) (hy : P y) : P (if c then x else y) := by split <;> assumption
  unfold commitEffect
  refine hite (hite hs hlev) (hite (hite hs (hlink _)) (hite (hite hs (hmode _)) (hite (hkeep _ _) (hite ?_
    (hite htrip (hite (hite (hspoil _) hs) (hite (htmr _ _) (hite (hsafe _) hs))))))))
  split
  · exact hdcfg _ _
  · exact hs

theorem wr_link_still (v : Nat) (s : State) : (s.wr LINK.base LINK.STAT_ACTIVE_SRC v).desk.still = s.desk.still :=
  wr_still s v rfl (by decide)

@[simp] theorem commitEffect_calm (a : Nat) (old new : Word) (s : State) :
    (commitEffect a old new s).desk.still.calm = s.desk.still.calm :=
  commitEffect_of (P := fun u => u.desk.still.calm = s.desk.still.calm) a old new rfl (by rw [leveeRestart_still])
    (fun v => by rw [wr_link_still]) (fun w => by rw [wheelModeActs_still]) (fun w off => by rw [keepWheelWord_still])
    (fun b k => by rw [dcfgActs_still]) (calm_of_pwm (foldS_keeps (v := fun u => u.bare.sansPwm) judgeTrip_sansPwm _ s))
    (fun t => by rw [updTrk_still]) (fun n b => by rw [gateActs_still, tioMoved_still]) (fun n => calm_of_pwm (settleSafe_sansPwm n s))

@[simp] theorem actCommitted_calm (p : CommitPend → Bool) (s : State) :
    (actCommitted p s).desk.still.calm = s.desk.still.calm := by
  unfold actCommitted
  simp only [apply_ite State.desk, apply_ite Desk.still, catchRetest_still, ite_self]
  rw [foldS_keeps (v := fun u => u.desk.still.calm) (fun c u => commitEffect_calm _ _ _ u), actWhere_still]

@[simp] theorem spillOutputs_calm (u : Bool) (s : State) : (spillOutputs u s).desk.still.calm = s.desk.still.calm := by
  unfold spillOutputs
  dsimp only
  rw [foldS_keeps (v := fun u => u.desk.still) (fun m u => setGate_still m false u), with_gatesCut_still,
    foldS_keeps (v := fun u => u.desk.still) spillConv_still, spillTio_still, calm_of_pwm (spillPwm_sansPwm _ _),
    foldS_keeps (v := fun u => u.desk.still) spillBank_still]

@[simp] theorem closeEpoch_calm (cause reason : Nat) (s : State) :
    (closeEpoch cause reason s).desk.still.calm = s.desk.still.calm := by
  have hdev (u : State) : (u.updDev (fun d => { d with epochOpen := false, hold := none, handing := false, step := none })).desk.still
    = u.desk.still := (rfl)
  unfold closeEpoch
  dsimp only
  split
  · rw [actCommitted_calm, coresEpochClose_still, hdev, foldS_keeps (v := fun u => u.desk.still) (fun t u => updTrk_still u t _),
      jrnClosed_desk, expireOrders_desk]
  · rfl

/-! ### SPILLED -/

theorem isArmed_of_calm (h : t.desk.calm.unarmed = s.desk.calm.unarmed) : t.isArmed = s.isArmed := by
  have hu : (if t.isArmed then none else some t.dev.st) = (if s.isArmed then none else some s.dev.st) := h
  by_cases ht : t.isArmed <;> by_cases hs : s.isArmed <;> simp_all

theorem st_of_calm {x : DevState} (h : t.desk.calm.unarmed = some x) : t.dev.st = x := by
  have hu : (if t.isArmed then none else some t.dev.st) = some x := h
  split at hu
  · cases hu
  · exact Option.some.inj hu

theorem enter_spilled_calm (h : s.isArmed) :
    (s.enter .spilled).desk.calm = { s.desk.calm with unarmed := some .spilled } := by
  have hne : s.dev.st ≠ .spilled := by
    intro e
    simp [State.isArmed, e] at h
  have he : (s.enter .spilled).isArmed = false := by simp [State.isArmed, State.enter, hne]
  have hst : (s.enter .spilled).dev.st = .spilled := by simp [State.enter, hne]
  unfold State.desk
  rw [he, hst]
  unfold State.enter
  rw [if_neg hne]
  rfl

theorem pendingDisarm_of_spilled (h : s.dev.st = .spilled) : (pendingDisarm s).desk.still = s.desk.still := by
  unfold pendingDisarm
  split
  · rw [h]
    dsimp only
    rw [err_still, wr_still _ _ rfl (by decide)]
  · rfl

/-- An end of outputs by a cause sets the cause, takes an armed device into SPILLED and leaves the system's own state (R29). -/
theorem spillDevice_calm (cause : Nat) (s : State) : (spillDevice cause s).desk.calm =
    { s.desk.calm with cause := s.plan.spillCause ||| 2 ^ cause,
                       unarmed := some (if s.isArmed then .spilled else s.dev.st) } := by
  have hdue : (if s.isArmed then dueEnvelope s else s).desk.still = s.desk.still := by
    split
    · exact dueEnvelope_still s
    · rfl
  have hout (l : Bool) : (spillOutputs l (truncateAll (if s.isArmed then dueEnvelope s else s))).desk.calm = s.desk.calm := by
    show (spillOutputs l _).desk.still.calm = s.desk.still.calm
    rw [spillOutputs_calm, truncateAll_still, hdue]
  have hcause (u : State) : (u.updPlan (fun p => { p with spillCause := p.spillCause ||| 2 ^ cause })).desk.calm =
      { u.desk.calm with cause := u.desk.calm.cause ||| 2 ^ cause } := (rfl)
  unfold spillDevice
  dsimp only
  generalize hu : (spillOutputs _ (truncateAll _)).updPlan _ = u
  have hcalm : u.desk.calm = { s.desk.calm with cause := s.plan.spillCause ||| 2 ^ cause } := by
    rw [← hu, hcause, hout]
    rfl
  have harm : u.isArmed = s.isArmed := isArmed_of_calm (by rw [hcalm])
  have hend : (trackersOff (closeEpoch 9 4 u)).desk.calm = u.desk.calm := by
    show (trackersOff (closeEpoch 9 4 u)).desk.still.calm = u.desk.still.calm
    rw [trackersOff_still, closeEpoch_calm]
  by_cases hs : s.isArmed
  · rw [if_pos (harm.trans hs), if_pos hs]
    have henter := enter_spilled_calm ((isArmed_of_calm (by rw [hend])).trans (harm.trans hs))
    have hpend := congrArg Still.calm (pendingDisarm_of_spilled (st_of_calm (by rw [henter])))
    refine (hpend.trans henter).trans ?_
    rw [hend, hcalm]
  · rw [if_neg (by rwa [harm]), if_neg hs, hcalm]
    have hun : s.desk.calm.unarmed = some s.dev.st := if_neg hs
    rw [← hun]

end
end Sys2Proof.Machine

namespace Sys2Proof.Machine
section
variable {s t u : State}

theorem reg_of_calm (h : t.desk.calm.sysReg = s.desk.calm.sysReg) {a : Nat} (ha : sysAddr a) : t.reg a = s.reg a := by
  have := congrFun h a
  simpa [State.desk, ha] using this

theorem sent_of_calm (h : t.desk.calm.sent = s.desk.calm.sent) {n : Nat} (hn : n < 12) : t.sent n = s.sent n := by
  have := congrFun h n
  simpa [State.desk, hn] using this

theorem bit_or_two_pow (c k : Nat) : bit (c ||| 2 ^ k) k = true := by simp [bit, Nat.testBit_or, Nat.testBit_two_pow_self]

/-- What an end of outputs by a cause leaves of the system, and what it makes of the device (R29, R478). -/
structure Spilled (cause : Nat) (s t : State) : Prop where
  tick : t.tick = s.tick
  pt : t.pt = s.pt
  stands : t.ptStands = s.ptStands
  sys : t.sys.calm = s.sys.calm
  reg : ∀ a, sysAddr a → t.reg a = s.reg a
  sent : ∀ n, n < 12 → t.sent n = s.sent n
  caused : bit t.plan.spillCause cause
  armed : s.isArmed → t.dev.st = .spilled
  unarmed : s.isArmed = false → t.dev.st = s.dev.st

theorem spillDevice_spilled (cause : Nat) (s : State) : Spilled cause s (spillDevice cause s) := by
  have h := spillDevice_calm cause s
  have hst := st_of_calm (t := spillDevice cause s) (by rw [h])
  exact {
    tick := congrArg (fun c : Calm => c.clock.tick) h
    pt := congrArg (fun c : Calm => c.clock.pt) h
    stands := congrArg (fun c : Calm => c.clock.stands) h
    sys := congrArg Calm.sys h
    reg := fun a ha => reg_of_calm (by rw [h]) ha
    sent := fun n hn => sent_of_calm (by rw [h]) hn
    caused := by
      have hc : (spillDevice cause s).plan.spillCause = s.plan.spillCause ||| 2 ^ cause := congrArg Calm.cause h
      rw [hc, bit_or_two_pow]
    armed := fun ha => hst.trans (if_pos ha)
    unarmed := fun ha => hst.trans (if_neg (by rw [ha]; decide)) }

theorem Spilled.rd {c : Nat} (h : Spilled c s t) {b : Nat} {f : Fld} (ha : sysAddr (b + f.off)) : t.rd b f = s.rd b f :=
  congrArg f.of (h.reg _ ha)

/-- The source raised with it is on its way. -/
theorem raised_in_tick (s : State) (n : Nat) : ∃ e ∈ (s.raise n).inFlight, e.src = n ∧ e.raisedAt = s.tick :=
  exists_of_sent (sent_raise_self s n) (State.raise_tick s n)

/-! ### The bundle (R14, R25 to R27) -/

theorem bundleUncorr_spills (hh : s.held = false) : ∃ t, exec .bundleUncorr s = .next t ∧
    t.rd SYS.base SYS.D2D_CNT_UNCORR = sat 65535 (s.rd SYS.base SYS.D2D_CNT_UNCORR + 1) ∧ bit t.plan.spillCause 1 ∧
    (∃ e ∈ t.inFlight, e.src = 5 ∧ e.raisedAt = s.tick) ∧ (s.isArmed → t.dev.st = .spilled) ∧
    (s.isArmed = false → t.dev.st = s.dev.st) := by
  have h := spillDevice_spilled 1 (s.bump SYS.base SYS.D2D_CNT_UNCORR)
  refine ⟨(spillDevice 1 (s.bump SYS.base SYS.D2D_CNT_UNCORR)).raise 5, ?_, ?_, ?_, ?_, ?_, ?_⟩
  · show Host.Outcome.next (bundleUncorrStep s) = _
    simp [bundleUncorrStep, hh]
  · rw [rd_raise_ne _ _ _ (by decide), h.rd (by decide), rd_bump_self _ _ _ rfl]
    rfl
  · rw [State.raise_plan]
    exact h.caused
  · have := raised_in_tick (spillDevice 1 (s.bump SYS.base SYS.D2D_CNT_UNCORR)) 5
    rwa [h.tick] at this
  · rw [State.raise_dev]
    exact h.armed
  · rw [State.raise_dev]
    exact h.unarmed

theorem Bare.plan_of_banks (h : t.bare.sansBanks = s.bare.sansBanks) : t.plan = s.plan :=
  congrArg (fun d : Bare => d.rest.plan) h
theorem Bare.dev_of_banks (h : t.bare.sansBanks = s.bare.sansBanks) : t.dev = s.dev :=
  congrArg (fun d : Bare => d.rest.dev) h
theorem Bare.sys_of_banks (h : t.bare.sansBanks = s.bare.sansBanks) : t.sys.calm = s.sys.calm :=
  congrArg (fun d : Bare => d.rest.sys) h
theorem Bare.plan_of_pwm (h : t.bare.sansPwm = s.bare.sansPwm) : t.plan = s.plan := congrArg (fun d : Bare => d.rest.plan) h
theorem Bare.dev_of_pwm (h : t.bare.sansPwm = s.bare.sansPwm) : t.dev = s.dev := congrArg (fun d : Bare => d.rest.dev) h
theorem Bare.sys_of_pwm (h : t.bare.sansPwm = s.bare.sansPwm) : t.sys.calm = s.sys.calm :=
  congrArg (fun d : Bare => d.rest.sys) h

/-- The D-die ends its outputs by itself: the device and the plan go on (R25). -/
theorem dDieEnds_frame (s : State) : (dDieEnds s).plan = s.plan ∧ (dDieEnds s).dev = s.dev ∧ (dDieEnds s).sys.dHold ∧
    (dDieEnds s).sys.missedBeats = s.sys.missedBeats := by
  have hb : (foldS (List.finRange 16) spillBank s).bare.sansBanks = s.bare.sansBanks :=
    foldS_keeps (v := fun u => u.bare.sansBanks) spillBank_banks _ s
  have hp := spillPwm_sansPwm true (foldS (List.finRange 16) spillBank s)
  have hsys := (Bare.sys_of_pwm hp).trans (Bare.sys_of_banks hb)
  unfold dDieEnds
  dsimp only
  generalize spillPwm true _ = u at *
  have hbeats : u.sys.missedBeats = s.sys.missedBeats := by
    have := congrArg Sys.missedBeats hsys
    exact this
  exact ⟨(Bare.plan_of_pwm hp).trans (Bare.plan_of_banks hb), (Bare.dev_of_pwm hp).trans (Bare.dev_of_banks hb), rfl,
    hbeats⟩

theorem heartbeat_window (hh : s.held = false) : (∃ t, exec (.heartbeatWindow true) s = .next t ∧
      t = { s with sys := { s.sys with missedBeats := 0 } }) ∧
    (s.sys.missedBeats ≠ 3 → ∃ t, exec (.heartbeatWindow false) s = .next t ∧
      t = { s with sys := { s.sys with missedBeats := s.sys.missedBeats + 1 } }) ∧
    (s.sys.missedBeats = 3 → ∃ t, exec (.heartbeatWindow false) s = .next t ∧ t.sys.dHold ∧ t.sys.missedBeats = 4 ∧
      t.plan = s.plan ∧ t.dev = s.dev) := by
  have hmiss : heartbeatStep false s = if s.sys.missedBeats + 1 = 4 then
      dDieEnds (s.updSys (fun y => { y with missedBeats := s.sys.missedBeats + 1 }))
      else s.updSys (fun y => { y with missedBeats := s.sys.missedBeats + 1 }) := by
    simp only [heartbeatStep, hh, Bool.false_eq_true, if_false]
  refine ⟨⟨_, rfl, ?_⟩, fun hn => ⟨_, congrArg Host.Outcome.next hmiss, ?_⟩, fun hn => ?_⟩
  · simp only [heartbeatStep, hh, Bool.false_eq_true, if_false, if_true]
    rfl
  · rw [if_neg (by omega)]
    rfl
  · obtain ⟨hplan, hdev, hhold, hbeats⟩ := dDieEnds_frame (s.updSys (fun y => { y with missedBeats := s.sys.missedBeats + 1 }))
    rw [if_pos (by omega)] at hmiss
    exact ⟨_, congrArg Host.Outcome.next hmiss, hhold, hbeats.trans (congrArg (· + 1) hn), hplan, hdev⟩

theorem dDieTrip_holds (hh : s.held = false) : ∃ t, exec .dDieThermalTrip s = .next t ∧ t.sys.dHold ∧
    t.flag THERM.base THERM.STAT_HOLD ∧ t.plan = s.plan ∧ t.dev = s.dev := by
  obtain ⟨hplan, hdev, hhold, -⟩ := dDieEnds_frame s
  refine ⟨(dDieEnds s).wr THERM.base THERM.STAT_HOLD 1, ?_, ?_,
    flag_wr_self (dDieEnds s) THERM.base THERM.STAT_HOLD 1 rfl, (State.wr_plan ..).trans hplan, (State.wr_dev ..).trans hdev⟩
  · show Host.Outcome.next (dDieTripStep s) = _
    simp [dDieTripStep, hh]
  · rw [State.wr_sys]
    exact hhold

theorem bumpBy_updSys_eq (s : State) (b : Nat) (f : Fld) (n : Nat) (g : Sys → Sys) :
    (s.bumpBy b f n).updSys g = { s with regs := ((s.bumpBy b f n).updSys g).regs, sys := g s.sys } := rfl

theorem status_window {n : BitVec 16} (hh : s.held = false) :
    (∃ t, exec (.statusWindow true n) s = .next t ∧ t.sys.missedStatus = 0 ∧
      t.rd SYS.base SYS.D2D_CNT_CORR = sat 65535 (s.rd SYS.base SYS.D2D_CNT_CORR + n.toNat) ∧
      t = { s with regs := t.regs, sys := { s.sys with missedStatus := 0 } }) ∧
    (s.sys.missedStatus = 3 → ∃ t, exec (.statusWindow false n) s = .next t ∧ bit t.plan.spillCause 2 ∧
      (∃ e ∈ t.inFlight, e.src = 4 ∧ e.raisedAt = s.tick) ∧ (s.isArmed → t.dev.st = .spilled)) := by
  refine ⟨⟨(s.bumpBy SYS.base SYS.D2D_CNT_CORR n.toNat).updSys (fun y => { y with missedStatus := 0 }), ?_, rfl, ?_,
    bumpBy_updSys_eq s _ _ _ _⟩, fun hn => ?_⟩
  · show Host.Outcome.next (statusStep true n.toNat s) = _
    simp [statusStep, hh]
  · exact rd_bumpBy_self s SYS.base SYS.D2D_CNT_CORR n.toNat rfl
  · let u := (s.bumpBy SYS.base SYS.D2D_CNT_CORR n.toNat).updSys (fun y => { y with missedStatus := s.sys.missedStatus + 1 })
    have h := spillDevice_spilled 2 u
    refine ⟨(spillDevice 2 u).raise 4, ?_, ?_, ?_, ?_⟩
    · show Host.Outcome.next (statusStep false n.toNat s) = _
      simp [statusStep, hh, hn, u]
    · rw [State.raise_plan]
      exact h.caused
    · have := raised_in_tick (spillDevice 2 u) 4
      rwa [h.tick] at this
    · rw [State.raise_dev]
      exact h.armed

/-- Taking a bit that is set leaves the other bits. -/
theorem bit_sub_two_pow_ne {g m k : Nat} (h : bit g m = true) (hk : k ≠ m) : bit (g - 2 ^ m) k = bit g k := by
  have hle : 2 ^ m ≤ g := Nat.ge_two_pow_of_testBit h
  obtain hlt | hgt := Nat.lt_or_gt_of_ne hk
  · have := Nat.testBit_two_pow_add_gt hlt (g - 2 ^ m)
    rw [Nat.add_sub_cancel' hle] at this
    exact this.symm
  · have hr : 2 ^ m ≤ g % 2 ^ k := by
      refine Nat.ge_two_pow_of_testBit (i := m) ?_
      rw [Nat.testBit_mod_two_pow]
      simp [hgt, show g.testBit m = true from h]
    have hdiv : (g - 2 ^ m) / 2 ^ k = g / 2 ^ k := by
      have hg := Nat.div_add_mod g (2 ^ k)
      have hlt := Nat.mod_lt g (Nat.two_pow_pos k)
      have he : g - 2 ^ m = 2 ^ k * (g / 2 ^ k) + (g % 2 ^ k - 2 ^ m) := by omega
      rw [he, Nat.mul_add_div (Nat.two_pow_pos k), Nat.div_eq_of_lt (lt_of_le_of_lt (Nat.sub_le (g % 2 ^ k) (2 ^ m)) hlt),
        Nat.add_zero]
    simp only [bit, Nat.testBit_eq_decide_div_mod_eq, hdiv]

/-- A cause that has cleared is gone, and no other cause comes with it (R29). -/
theorem spillCleared_clears (k : Nat) (s : State) : bit (spillCleared k s).plan.spillCause k = false := by
  unfold spillCleared
  dsimp only [State.updPlan]
  split
  next h => exact bit_sub_two_pow h
  next h => simpa using h

theorem spillCleared_other {k j : Nat} (hj : j ≠ k) (s : State) :
    bit (spillCleared k s).plan.spillCause j = bit s.plan.spillCause j := by
  unfold spillCleared
  dsimp only [State.updPlan]
  split
  next h => exact bit_sub_two_pow_ne h hj
  · rfl

theorem truncateAct_desk (n : Nat) (a : Act) (s : State) : (truncateAct n a s).desk = (dropActEntry a.serial s).desk := by
  have h := updActs_desk (flagOrder_desk a s) (fun l => l.filter (fun x => x.serial != a.serial))
  unfold truncateAct
  split
  · exact (endOrder_desk ..).trans h
  · exact (jrnAction_desk ..).trans h

theorem truncateWhere_dev (p : Act → Bool) (n : Nat) (s : State) : (truncateWhere p n s).dev = s.dev :=
  foldS_keeps (v := State.dev) (fun a u => (Desk.dev_eq (truncateAct_desk n a u)).trans rfl) _ s

theorem bundleRestore_clears (s : State) : ∃ t, exec .bundleRestore s = .next t ∧ t.sys.latched = [] ∧
    bit t.plan.spillCause 1 = false ∧ bit t.plan.spillCause 2 = false ∧ t.dev = s.dev := by
  obtain ⟨u, hu⟩ : ∃ u, u = truncateWhere (fun a => a.isBank && decide (a.phase ≠ .issued) && s.sys.latched.contains a.idx)
      (devAngle s) s := ⟨_, rfl⟩
  have hstep : exec .bundleRestore s = .next (spillCleared 2 (spillCleared 1 (u.updSys (fun y => { y with latched := [] })))) := by
    rw [hu]
    rfl
  refine ⟨_, hstep, rfl, ?_, spillCleared_clears 2 _, ?_⟩
  · exact (spillCleared_other (by decide) _).trans (spillCleared_clears 1 _)
  · show u.dev = s.dev
    rw [hu, truncateWhere_dev]

end
end Sys2Proof.Machine

namespace Sys2Proof.Machine
section
variable {s t u : State}

/-! ### Islands (R17, R467) -/

theorem raise_sys (s : State) (n : Nat) : (s.raise n).sys.calm = s.sys.calm := by
  have hb (u : State) : (u.brkSource n).sys.calm = u.sys.calm := by
    unfold State.brkSource
    split <;> rfl
  rw [State.raise, hb, State.sendEvt_sys, State.setRaw_sys]

theorem isArmed_congr (hst : t.dev.st = s.dev.st) (hpark : t.sys.parkFrom = s.sys.parkFrom) : t.isArmed = s.isArmed := by
  unfold State.isArmed
  rw [hst, hpark]

theorem raise_isArmed (s : State) (n : Nat) : (s.raise n).isArmed = s.isArmed :=
  isArmed_congr (by rw [State.raise_dev]) (raise_parkFrom s n)

/-- An island is on the list of those held in reset, from this tick on. -/
def islandListed (rst : Option Nat) (s : State) : State :=
  s.updSys (fun y => { y with islandRst := y.islandRst ++ rst.toList.map (fun n => (n, s.tick)) })

theorem islandListed_isArmed (rst : Option Nat) (s : State) : (islandListed rst s).isArmed = s.isArmed := rfl
theorem islandListed_rd (rst : Option Nat) (s : State) (b : Nat) (f : Fld) : (islandListed rst s).rd b f = s.rd b f := rfl
theorem wr_isArmed (s : State) (b : Nat) (f : Fld) (v : Nat) : (s.wr b f v).isArmed = s.isArmed := rfl
theorem wr_sent (s : State) (b : Nat) (f : Fld) (v n : Nat) : (s.wr b f v).sent n = s.sent n := rfl
theorem islandListed_sys (rst : Option Nat) (s : State) : (islandListed rst s).sys.calm =
    { s.sys.calm with islandRst := s.sys.islandRst ++ rst.toList.map (fun n => (n, s.tick)) } := rfl

/-- An island fault as RST_CAUSE, the list of held islands and source 3 record it, before the outputs end. -/
def islandMarked (id : Nat) (rst : Option Nat) (s : State) : State :=
  (islandListed rst ((s.wr SYS.base SYS.RST_CAUSE_ISLAND 1).wr SYS.base SYS.RST_CAUSE_ISLAND_ID id)).raise 3

theorem islandMarked_isArmed (id : Nat) (rst : Option Nat) (s : State) : (islandMarked id rst s).isArmed = s.isArmed := by
  rw [islandMarked, raise_isArmed, islandListed_isArmed, wr_isArmed, wr_isArmed]

theorem islandMarked_sys (id : Nat) (rst : Option Nat) (s : State) : (islandMarked id rst s).sys.calm =
    { s.sys.calm with islandRst := s.sys.islandRst ++ rst.toList.map (fun n => (n, s.tick)) } := by
  rw [islandMarked, raise_sys, islandListed_sys]
  simp only [State.wr_sys, State.wr_tick]

theorem islandMarked_id {id : Nat} (h : id < 8) (rst : Option Nat) (s : State) :
    (islandMarked id rst s).rd SYS.base SYS.RST_CAUSE_ISLAND_ID = id := by
  rw [islandMarked, rd_raise_ne _ _ _ (by decide), islandListed_rd, rd_wr_self _ _ _ _ rfl]
  exact Nat.mod_eq_of_lt h

theorem islandMarked_flag (id : Nat) (rst : Option Nat) (s : State) :
    (islandMarked id rst s).flag SYS.base SYS.RST_CAUSE_ISLAND = true := by
  rw [islandMarked, State.flag, rd_raise_ne _ _ _ (by decide), islandListed_rd, rd_wr_disj _ _ _ _ rfl rfl (by decide),
    rd_wr_self _ _ _ _ rfl]
  rfl

theorem islandMarked_rd (id : Nat) (rst : Option Nat) (s : State) {b : Nat} {f : Fld} (h : b + f.off ≠ 0x400058)
    (h' : (b + f.off) % 0x1000 ≠ 0x10) : (islandMarked id rst s).rd b f = s.rd b f := by
  rw [islandMarked, rd_raise_ne _ _ _ h', islandListed_rd, rd_wr_ne _ _ _ _ h, rd_wr_ne _ _ _ _ h]

theorem islandMarked_dev (id : Nat) (rst : Option Nat) (s : State) : (islandMarked id rst s).dev = s.dev := by
  simp only [islandMarked, State.raise_dev, islandListed, State.updSys_dev, State.wr_dev]
theorem islandMarked_tick (id : Nat) (rst : Option Nat) (s : State) : (islandMarked id rst s).tick = s.tick := by
  simp only [islandMarked, State.raise_tick, islandListed, State.updSys_tick, State.wr_tick]
theorem islandMarked_pt (id : Nat) (rst : Option Nat) (s : State) : (islandMarked id rst s).pt = s.pt := by
  simp only [islandMarked, State.raise_pt, islandListed, State.updSys_pt, State.wr_pt]
theorem islandMarked_pwm (id : Nat) (rst : Option Nat) (s : State) : (islandMarked id rst s).pwm = s.pwm := by
  simp only [islandMarked, State.raise_pwm, islandListed, State.updSys_pwm, State.wr_pwm]
theorem islandListed_sent (rst : Option Nat) (s : State) (n : Nat) : (islandListed rst s).sent n = s.sent n := rfl
theorem islandMarked_sent (id : Nat) (rst : Option Nat) {n : Nat} (h : s.sent n) : (islandMarked id rst s).sent n = true := by
  unfold islandMarked
  refine sent_raise _ ?_
  rw [islandListed_sent, wr_sent, wr_sent, h]

/-- What an island fault leaves and does, beside the hold of its island (R467). -/
structure Faulted (id : Nat) (rst : Option Nat) (cause : Nat) (s t : State) : Prop where
  tick : t.tick = s.tick
  pt : t.pt = s.pt
  sys : t.sys.calm = { s.sys.calm with islandRst := s.sys.islandRst ++ rst.toList.map (fun n => (n, s.tick)) }
  flag : t.flag SYS.base SYS.RST_CAUSE_ISLAND
  id_ : t.rd SYS.base SYS.RST_CAUSE_ISLAND_ID = id
  rd : ∀ {b : Nat} {f : Fld}, sysAddr (b + f.off) → b + f.off ≠ 0x400058 → (b + f.off) % 0x1000 ≠ 0x10 → t.rd b f = s.rd b f
  sent : ∀ n, n < 12 → s.sent n → t.sent n
  raised : t.sent 3
  caused : bit t.plan.spillCause cause
  armed : s.isArmed → t.dev.st = .spilled
  unarmed : s.isArmed = false → t.dev.st = s.dev.st

theorem spillDevice_faulted {id : Nat} (hid : id < 8) (rst : Option Nat) (cause : Nat) (s : State) :
    Faulted id rst cause s (spillDevice cause (islandMarked id rst s)) := by
  have h := spillDevice_spilled cause (islandMarked id rst s)
  exact {
    tick := h.tick.trans (islandMarked_tick id rst s)
    pt := h.pt.trans (islandMarked_pt id rst s)
    sys := h.sys.trans (islandMarked_sys id rst s)
    flag := by
      rw [State.flag, h.rd (by decide)]
      exact islandMarked_flag id rst s
    id_ := (h.rd (by decide)).trans (islandMarked_id hid rst s)
    rd := fun ha h1 h2 => (h.rd ha).trans (islandMarked_rd id rst s h1 h2)
    sent := fun n hn hs => (h.sent n hn).trans (islandMarked_sent id rst hs)
    raised := (h.sent 3 (by decide)).trans (sent_raise_self _ 3)
    caused := h.caused
    armed := fun ha => h.armed ((islandMarked_isArmed id rst s).trans ha)
    unarmed := fun ha => (h.unarmed ((islandMarked_isArmed id rst s).trans ha)).trans (congrArg Device.st (islandMarked_dev id rst s)) }

theorem islandFault_unheld (id cause : Nat) (s : State) :
    islandFault id none cause s = spillDevice cause (islandMarked id none s) := by
  unfold islandFault islandMarked islandListed
  rfl

theorem islandFault_held (id n cause : Nat) (s : State) : islandFault id (some n) cause s =
    if n < 2 then holdTrackers (Fin.ofNat 2 n) (spillDevice cause (islandMarked id (some n) s))
    else spillDevice cause (islandMarked id (some n) s) := by
  unfold islandFault islandMarked islandListed
  rfl

/-- What the hold of a tracker's island leaves (R467). -/
structure TrackerHold (s t : State) : Prop where
  sys : ∃ p, t.sys = { s.sys with ptFailed := p }
  plan : t.plan = s.plan
  dev : t.dev = s.dev
  inFlight : t.inFlight = s.inFlight
  tick : t.tick = s.tick
  regs : t.regs = s.regs
  off : ∀ k : Fin 2, s.trk[k].acq = .off → t.trk[k].acq = .off

theorem updTrk_off (t : Fin 2) (s : State) : (s.updTrk t (fun x => { x with acq := .off })).trk[t].acq = .off ∧
    ∀ k : Fin 2, s.trk[k].acq = .off → (s.updTrk t (fun x => { x with acq := .off })).trk[k].acq = .off := by
  refine ⟨by simp [State.updTrk], fun k hk => ?_⟩
  by_cases e : t = k
  · subst e
    simp [State.updTrk]
  · simpa [State.updTrk, Fin.val_ne_of_ne e] using hk

theorem holdTracker_holds (t : Fin 2) (s : State) :
    TrackerHold s (holdTracker t s) ∧ (holdTracker t s).trk[t].acq = .off := by
  unfold holdTracker
  dsimp only
  split
  · obtain ⟨h1, h2⟩ := updTrk_off t (s.updSys (fun y => { y with ptFailed := y.ptFailed ||| 2 ^ t.val }))
    exact ⟨⟨⟨_, rfl⟩, rfl, rfl, rfl, rfl, rfl, h2⟩, h1⟩
  · obtain ⟨h1, h2⟩ := updTrk_off t s
    exact ⟨⟨⟨s.sys.ptFailed, rfl⟩, rfl, rfl, rfl, rfl, rfl, h2⟩, h1⟩

/-- A tracker held in reset, and with it perhaps the other, is off. -/
theorem holdTrackers_holds (t : Fin 2) (s : State) :
    TrackerHold s (holdTrackers t s) ∧ (holdTrackers t s).trk[t].acq = .off := by
  obtain ⟨h, hoff⟩ := holdTracker_holds t s
  unfold holdTrackers
  dsimp only
  split
  · obtain ⟨h', -⟩ := holdTracker_holds (otherTrk t) (holdTracker t s)
    obtain ⟨p, hp⟩ := h.sys
    obtain ⟨p', hp'⟩ := h'.sys
    exact ⟨⟨⟨p', by rw [hp', hp]⟩, h'.plan.trans h.plan, h'.dev.trans h.dev, h'.inFlight.trans h.inFlight,
      h'.tick.trans h.tick, h'.regs.trans h.regs, fun k hk => h'.off k (h.off k hk)⟩, h'.off t hoff⟩
  · exact ⟨h, hoff⟩

theorem culvertStall_faults (hh : s.held = false) : ∃ (t : State) (writer : Fin 4), exec .culvertStall s = .next t ∧
    t.flag SYS.base SYS.RST_CAUSE_ISLAND ∧ t.rd SYS.base SYS.RST_CAUSE_ISLAND_ID = 6 ∧ bit t.plan.spillCause 3 ∧
    t.sys.islandRst = s.sys.islandRst ++ [(writer.val, s.tick)] ∧
    (∀ h : writer.val < 2, t.trk[writer.val].acq = .off) ∧ (∃ e ∈ t.inFlight, e.src = 3 ∧ e.raisedAt = s.tick) ∧
    (s.isArmed → t.dev.st = .spilled) := by
  obtain ⟨w, hw⟩ : ∃ w, w = Config.stalledWriter s.free := ⟨_, rfl⟩
  have h := spillDevice_faulted (id := 6) (by decide) (some w.val) 3 s.drawFree.2
  have hrst (u : State) (hu : u.sys.islandRst = (spillDevice 3 (islandMarked 6 (some w.val) s.drawFree.2)).sys.islandRst) :
      u.sys.islandRst = s.sys.islandRst ++ [(w.val, s.tick)] := by
    have := congrArg Sys.islandRst h.sys
    exact hu.trans this
  have hstep : culvertStep s = islandFault 6 (some w.val) 3 s.drawFree.2 := by
    rw [hw]
    simp [culvertStep, hh]
  rw [islandFault_held] at hstep
  by_cases hlt : w.val < 2
  · have hf : Fin.ofNat 2 w.val = ⟨w.val, hlt⟩ := Fin.ext (Nat.mod_eq_of_lt hlt)
    rw [if_pos hlt, hf] at hstep
    obtain ⟨hold, hoff⟩ := holdTrackers_holds ⟨w.val, hlt⟩ (spillDevice 3 (islandMarked 6 (some w.val) s.drawFree.2))
    obtain ⟨p, hp⟩ := hold.sys
    refine ⟨_, w, congrArg Host.Outcome.next hstep, ?_, ?_, ?_, hrst _ (by rw [hp]), fun _ => hoff, ?_, ?_⟩
    · rw [State.flag, rd_congr hold.regs]
      exact h.flag
    · rw [rd_congr hold.regs]
      exact h.id_
    · rw [hold.plan]
      exact h.caused
    · rw [hold.inFlight]
      exact exists_of_sent h.raised h.tick
    · rw [hold.dev]
      exact h.armed
  · rw [if_neg hlt] at hstep
    exact ⟨_, w, congrArg Host.Outcome.next hstep, h.flag, h.id_, h.caused, hrst _ rfl, fun hw => absurd hw hlt,
      exists_of_sent h.raised h.tick, h.armed⟩

end
end Sys2Proof.Machine

namespace Sys2Proof.Machine
section
variable {s t u : State}

/-! ### Drive undervoltage (R456) -/

/-- The drive supply is low and every PWM output is off. -/
structure Dark (s : State) : Prop where
  low : s.sys.vdrvLow
  off : ∀ n : Fin 16, s.pwm[n].outA = false ∧ s.pwm[n].outB = false

theorem Dark.of_still (h : Dark s) (hs : t.desk.still = s.desk.still) : Dark t := by
  have hsys : t.sys.vdrvLow = s.sys.vdrvLow := congrArg (fun d : Still => d.calm.sys.vdrvLow) hs
  have hpwm : t.pwm = s.pwm := congrArg Still.pwm hs
  exact ⟨by rw [hsys, h.low], by rw [hpwm]; exact h.off⟩

theorem foldS_holds {α : Type} {P : State → Prop} {f : α → State → State} (hf : ∀ x s, P s → P (f x s)) (l : List α)
    (hs : P s) : P (foldS l f s) := by
  unfold foldS
  induction l generalizing s with
  | nil => exact hs
  | cons x l ih => exact ih (hf x s hs)

/-- While the drive supply is low, outputs settle off. -/
theorem settlePwm_of_low (h : s.sys.vdrvLow) (n : Fin 16) : settlePwm n s = putOutputs n false false false s := by
  unfold settlePwm
  rw [if_pos (Or.inr h)]

theorem putOutputs_off (n : Fin 16) (s : State) : (putOutputs n false false false s).pwm[n].outA = false ∧
    (putOutputs n false false false s).pwm[n].outB = false := by simp [putOutputs, State.updPwm]

theorem putOutputs_other {n k : Fin 16} (hk : k ≠ n) (a b l : Bool) (s : State) : (putOutputs n a b l s).pwm[k] = s.pwm[k] := by
  simp [putOutputs, State.updPwm, Fin.val_ne_of_ne hk.symm]

theorem updPwm_dark (h : Dark s) (n : Fin 16) {f : PwmGen → PwmGen} (hf : (f s.pwm[n]).outA = false ∧ (f s.pwm[n]).outB = false) :
    Dark (s.updPwm n f) := by
  refine ⟨h.low, fun k => ?_⟩
  by_cases e : n = k
  · subst e
    simpa [State.updPwm] using hf
  · simpa [State.updPwm, Fin.val_ne_of_ne e] using h.off k

theorem settlePwm_dark (n : Fin 16) (s : State) (h : Dark s) : Dark (settlePwm n s) := by
  rw [settlePwm_of_low h.low]
  unfold putOutputs
  dsimp only
  exact updPwm_dark h n ⟨rfl, rfl⟩

theorem settleAll_dark (h : s.sys.vdrvLow) : Dark (settleAll s) := by
  have hl (l : List (Fin 16)) (s : State) (hs : s.sys.vdrvLow) : (foldS l settlePwm s).sys.vdrvLow ∧
      ∀ n : Fin 16, (n ∈ l ∨ s.pwm[n].outA = false ∧ s.pwm[n].outB = false) →
        (foldS l settlePwm s).pwm[n].outA = false ∧ (foldS l settlePwm s).pwm[n].outB = false := by
    unfold foldS
    induction l generalizing s with
    | nil => exact ⟨hs, fun n hn => hn.resolve_left (List.not_mem_nil)⟩
    | cons m l ih =>
      rw [List.foldl_cons, settlePwm_of_low hs]
      obtain ⟨hlow, hoff⟩ := ih (putOutputs m false false false s) hs
      refine ⟨hlow, fun n hn => hoff n ?_⟩
      by_cases e : n = m
      · subst e
        exact Or.inr (putOutputs_off n s)
      · rw [putOutputs_other e]
        exact hn.imp_left (fun hn => (List.mem_cons.1 hn).resolve_left e)
  obtain ⟨hlow, hoff⟩ := hl allGens s h
  have hmem (n : Fin 16) : n ∈ allGens := List.mem_finRange n
  unfold settleAll
  exact ⟨hlow, fun n => hoff n (Or.inl (hmem n))⟩

theorem tripHeld_dark (n : Fin 16) (h : Dark s) : Dark (s.updPwm n (fun x => { x with tripHeld := true })) :=
  updPwm_dark h n (h.off n)

theorem tripPwm_dark (n : Fin 16) (s : State) (h : Dark s) : Dark (tripPwm n s) := by
  have hflag : (pwmFlag n PWN.FLAGS_TRIP (s.bump (pw n) PWN.CNT0_TRIPS)).desk.still = s.desk.still := by
    rw [still_of_bare (pwmFlag_bare n (by decide) _), bump_still _ (unit_pw n) (by decide)]
  unfold tripPwm
  exact settlePwm_dark n _ (tripHeld_dark n (h.of_still hflag))

theorem judgeTrip_dark (n : Fin 16) (s : State) (h : Dark s) : Dark (judgeTrip n s) := by
  unfold judgeTrip
  dsimp only
  split <;> split
  · exact tripPwm_dark n s h
  · exact h
  · exact tripPwm_dark n s h
  · exact h

theorem spillPwm_dark (b : Bool) (h : Dark s) : Dark (spillPwm b s) := by
  refine settleAll_dark (Dark.low ?_)
  refine foldS_holds (P := Dark) (fun n u hu => ?_) _ h
  split
  · exact updPwm_dark hu n (hu.off n)
  · exact hu

theorem commitEffect_dark (a : Nat) (old new : Word) (h : Dark s) : Dark (commitEffect a old new s) :=
  commitEffect_of (P := Dark) a old new h (h.of_still (leveeRestart_still s)) (fun v => h.of_still (wr_link_still v s))
    (fun w => h.of_still (wheelModeActs_still w s)) (fun w off => h.of_still (keepWheelWord_still w off old s))
    (fun b k => h.of_still (dcfgActs_still b k old new s)) (foldS_holds (P := Dark) judgeTrip_dark _ h)
    (fun t => h.of_still (updTrk_still s t _)) (fun n b => h.of_still (by rw [gateActs_still, tioMoved_still]))
    (fun n => by
      unfold settleSafe
      split
      · exact settlePwm_dark n s h
      · exact h)

theorem actCommitted_dark (p : CommitPend → Bool) (h : Dark s) : Dark (actCommitted p s) := by
  have hact := h.of_still (actWhere_still p s)
  have heff (l : List (Nat × Word × Word)) {u : State} (hu : Dark u) :
      Dark (foldS l (fun c s => commitEffect c.1 c.2.1 c.2.2 s) u) :=
    foldS_holds (P := Dark) (fun c v hv => commitEffect_dark _ _ _ hv) l hu
  unfold actCommitted
  dsimp only
  split
  · exact (heff _ hact).of_still (catchRetest_still _)
  · exact heff _ hact

theorem spillOutputs_dark (b : Bool) (h : Dark s) : Dark (spillOutputs b s) := by
  have hbank := h.of_still (foldS_keeps (v := fun u => u.desk.still) spillBank_still (List.finRange 16) s)
  have hpwm := spillPwm_dark b hbank
  refine hpwm.of_still ?_
  unfold spillOutputs
  dsimp only
  rw [foldS_keeps (v := fun u => u.desk.still) (fun m u => setGate_still m false u), with_gatesCut_still,
    foldS_keeps (v := fun u => u.desk.still) spillConv_still, spillTio_still]

theorem closeEpoch_dark (cause reason : Nat) (h : Dark s) : Dark (closeEpoch cause reason s) := by
  have hdev (u : State) : (u.updDev (fun d => { d with epochOpen := false, hold := none, handing := false, step := none })).desk.still
    = u.desk.still := (rfl)
  unfold closeEpoch
  dsimp only
  split
  · refine actCommitted_dark _ (h.of_still ?_)
    rw [coresEpochClose_still, hdev, foldS_keeps (v := fun u => u.desk.still) (fun t u => updTrk_still u t _), jrnClosed_desk,
      expireOrders_desk]
  · exact h

theorem enter_st (s : State) (d : DevState) : (s.enter d).dev.st = d := by
  unfold State.enter
  split
  next h => exact h
  · rfl

theorem spillDevice_dark (cause : Nat) (h : Dark s) : Dark (spillDevice cause s) := by
  have hdue : Dark (if s.isArmed then dueEnvelope s else s) := by
    split
    · exact h.of_still (dueEnvelope_still s)
    · exact h
  have hout (l : Bool) := spillOutputs_dark l (hdue.of_still (truncateAll_still _))
  have hcause (u : State) (hu : Dark u) : Dark (u.updPlan (fun p => { p with spillCause := p.spillCause ||| 2 ^ cause })) :=
    ⟨hu.low, hu.off⟩
  unfold spillDevice
  dsimp only
  have hu := hcause _ (hout (decide (cause = 0) || decide (cause = 2)))
  revert hu
  generalize (spillOutputs _ (truncateAll _)).updPlan _ = u
  intro hu
  split
  · have henter : Dark ((trackersOff (closeEpoch 9 4 u)).enter .spilled) := by
      have hoff := (closeEpoch_dark 9 4 hu).of_still (trackersOff_still _)
      exact ⟨by rw [State.enter_sys]; exact hoff.low, by rw [State.enter_pwm]; exact hoff.off⟩
    exact henter.of_still (pendingDisarm_of_spilled (enter_st _ _))
  · exact hu

theorem held_of_calm (h : t.sys.calm = s.sys.calm) : t.held = s.held := by
  have := congrArg (fun y : Sys => ({ s with sys := y } : State).held) h
  exact this

theorem parkFrom_of_calm (h : t.sys.calm = s.sys.calm) : t.sys.parkFrom = s.sys.parkFrom := by
  have := congrArg Sys.parkFrom h
  exact this

theorem islandMarked_dark (id : Nat) (rst : Option Nat) (h : Dark s) : Dark (islandMarked id rst s) := by
  have hsys : (islandMarked id rst s).sys.vdrvLow = s.sys.vdrvLow := by
    have := congrArg Sys.vdrvLow (islandMarked_sys id rst s)
    exact this
  exact ⟨hsys.trans h.low, by rw [islandMarked_pwm]; exact h.off⟩

theorem vdrvUndervoltage_darkens (hv : s.sys.vdrvLow = false) (hh : s.held = false) :
    ∃ t, exec .vdrvUndervoltage s = .next t ∧ t.sys.vdrvLow ∧
    (∀ n : Fin 16, t.pwm[n].outA = false ∧ t.pwm[n].outB = false) ∧ t.rd SYS.base SYS.RST_CAUSE_ISLAND_ID = 4 ∧
    bit t.plan.spillCause 4 ∧ (s.isArmed → t.dev.st = .spilled) := by
  obtain ⟨u, hu⟩ : ∃ u, u = settleAll (s.updSys (fun y => { y with vdrvLow := true })) := ⟨_, rfl⟩
  have hset : u.bare.sansPwm = (s.updSys (fun y => { y with vdrvLow := true })).bare.sansPwm := by
    rw [hu, settleAll_sansPwm]
  have hsys := Bare.sys_of_pwm hset
  have hheld : u.held = false := (held_of_calm hsys).trans hh
  have hdark : Dark u := by
    rw [hu]
    exact settleAll_dark rfl
  have h := spillDevice_faulted (id := 4) (by decide) none 4 u
  have hd := spillDevice_dark 4 (islandMarked_dark 4 none hdark)
  refine ⟨_, ?_, hd.low, hd.off, h.id_, h.caused, fun ha => h.armed ?_⟩
  · show Host.Outcome.next (vdrvLowStep s) = _
    simp only [vdrvLowStep, hv, Bool.false_eq_true, if_false, ← hu, hheld, islandFault_unheld]
  · refine (isArmed_congr (congrArg Device.st (Bare.dev_of_pwm hset)) (parkFrom_of_calm hsys)).trans ha

end
end Sys2Proof.Machine

namespace Sys2Proof.Machine
section
variable {s t u : State}

/-- What the PWM generators do not touch by settling is as it was. -/
theorem eq_of_sansPwm (h : t.bare.sansPwm = s.bare.sansPwm) :
    t = { s with regs := t.regs, inFlight := t.inFlight, sys := t.sys, pwm := t.pwm } := by
  have := congrArg (fun d : Bare =>
    ({ d.rest with regs := t.regs, inFlight := t.inFlight, sys := t.sys, pwm := t.pwm } : State)) h
  exact this

theorem vdrvReturn_clears (hv : s.sys.vdrvLow) : ∃ t, exec .vdrvReturn s = .next t ∧ t.sys.vdrvLow = false ∧
    bit t.plan.spillCause 4 = false ∧
    t = { s with plan := t.plan, sys := t.sys, pwm := t.pwm, regs := t.regs, inFlight := t.inFlight } := by
  obtain ⟨u, hu⟩ : ∃ u, u = settleAll (s.updSys (fun y => { y with vdrvLow := false })) := ⟨_, rfl⟩
  have hset : u.bare.sansPwm = (s.updSys (fun y => { y with vdrvLow := false })).bare.sansPwm := by
    rw [hu, settleAll_sansPwm]
  have hlow : u.sys.vdrvLow = false := by
    have := congrArg Sys.vdrvLow (Bare.sys_of_pwm hset)
    exact this
  refine ⟨spillCleared 4 u, ?_, hlow, spillCleared_clears 4 u, ?_⟩
  · show Host.Outcome.next (vdrvReturnStep s) = _
    simp only [vdrvReturnStep, hv, if_true, hu]
  · have he := eq_of_sansPwm hset
    generalize hp : (spillCleared 4 u).plan = p
    have hc : spillCleared 4 u = { u with plan := p } := by rw [← hp]; rfl
    rw [hc]
    conv_lhs => rw [he]
    rfl

/-! ### Clocks (R459, R460) -/

/-- Two fields have no bit in common. -/
def apart (a : Nat) (f : Fld) (b : Nat) (g : Fld) : Bool :=
  decide (b + g.off ≠ a + f.off) || (f.fits && g.fits && (decide (f.hi < g.lo) || decide (g.hi < f.lo)))

theorem rd_wr_apart (s : State) {a b : Nat} {f g : Fld} (v : Nat) (h : apart a f b g) : (s.wr a f v).rd b g = s.rd b g := by
  simp only [apart, Bool.or_eq_true, Bool.and_eq_true, decide_eq_true_eq] at h
  obtain h | ⟨⟨hf, hg⟩, h⟩ := h
  · exact rd_wr_ne s f g v h
  · exact rd_wr_disj s f g v hf hg h

theorem rd_bump_apart (s : State) {a b : Nat} {f g : Fld} (h : apart a f b g) : (s.bump a f).rd b g = s.rd b g :=
  rd_wr_apart s _ h

theorem rd_updSys (s : State) (f : Sys → Sys) (b : Nat) (g : Fld) : (s.updSys f).rd b g = s.rd b g := rfl
theorem rd_updPlan (s : State) (f : Plan → Plan) (b : Nat) (g : Fld) : (s.updPlan f).rd b g = s.rd b g := rfl

theorem clockSelect_of_not_due (obs : ClockObs) (h : s.sys.clkDue = false) : exec (.clockSelect obs) s = .next s := by
  show Host.Outcome.next (clockSelectStep obs s) = _
  simp [clockSelectStep, h]

/-- The registers of a reference that has been chosen, both PLLs locked to it (R454, R459). -/
def clockLocked (src : Nat) (ref50 : Bool) (khz : Half) (s : State) : State :=
  let s := ((s.wr CLK.base CLK.STAT_SRC src).wr CLK.base CLK.STAT_REF50 (b2n ref50)).wr CLK.base CLK.REF_FREQ_KHZ khz.toNat
  ((s.wr CLK.base CLK.STAT_REF_OK 1).wr CLK.base CLK.STAT_MAIN_LOCK 1).wr CLK.base CLK.STAT_LINK_LOCK 1

theorem warmRelease_of_idle (h : s.sys.warmBusy = false) : warmRelease s = s := by
  unfold warmRelease
  rw [if_pos (Or.inl h)]

theorem clockChosen_eq (src : Nat) (r : Bool) (k : Half) (s : State) : clockChosen src r k s =
    warmRelease ((clockLocked src r k s).updSys (fun y => { y with oscRetry := false, clkDue := false })) := by
  unfold clockChosen clockLocked
  rfl

/-- A state differs from another in its registers only. -/
def OnlyRegs (s t : State) : Prop := t = { s with regs := t.regs }

theorem OnlyRegs.refl (s : State) : OnlyRegs s s := rfl

theorem OnlyRegs.setReg (h : OnlyRegs s t) (a : Nat) (w : Word) : OnlyRegs s (t.setReg a w) := by
  have he : t = { s with regs := t.regs } := h
  have := congrArg (fun u : State => ({ u with regs := (t.setReg a w).regs } : State)) he
  exact this

theorem OnlyRegs.wr (h : OnlyRegs s t) (b : Nat) (f : Fld) (v : Nat) : OnlyRegs s (t.wr b f v) := h.setReg _ _
theorem OnlyRegs.bump (h : OnlyRegs s t) (b : Nat) (f : Fld) : OnlyRegs s (t.bump b f) := h.setReg _ _

theorem OnlyRegs.sys (h : OnlyRegs s t) : t.sys = s.sys := by
  rw [OnlyRegs] at h
  rw [h]

/-- A change of the system units goes with one of registers. -/
theorem OnlyRegs.updSys (h : OnlyRegs s t) (f : Sys → Sys) :
    t.updSys f = { s with regs := (t.updSys f).regs, sys := f s.sys } := by
  have hs := congrArg f h.sys
  have := congrArg (fun u : State => ({ u with regs := t.regs, sys := f t.sys } : State)) h
  rw [hs] at this
  rw [State.updSys, hs]
  exact this

theorem clockLocked_onlyRegs (src : Nat) (r : Bool) (k : Half) (s : State) : OnlyRegs s (clockLocked src r k s) :=
  (((((OnlyRegs.refl s).wr _ _ _).wr _ _ _).wr _ _ _).wr _ _ _ |>.wr _ _ _).wr _ _ _

theorem clockLocked_shows (src : Nat) (r : Bool) (k : Half) (s : State) :
    (clockLocked src r k s).rd CLK.base CLK.STAT_SRC = src % CLK.STAT_SRC.size ∧
      (clockLocked src r k s).rd CLK.base CLK.STAT_REF50 = b2n r % CLK.STAT_REF50.size ∧
      (clockLocked src r k s).rd CLK.base CLK.REF_FREQ_KHZ = k.toNat % CLK.REF_FREQ_KHZ.size ∧
      (clockLocked src r k s).rd CLK.base CLK.STAT_MAIN_LOCK = 1 % CLK.STAT_MAIN_LOCK.size := by
  unfold clockLocked
  simp (disch := decide) only [rd_wr_apart, rd_wr_self, and_self]

theorem clockSelect_locks (k : Half) (hd : s.sys.clkDue) (hw : s.sys.warmBusy = false) :
    ∃ t, exec (.clockSelect (.clkin25 k)) s = .next t ∧
      t.rd CLK.base CLK.STAT_SRC = 1 ∧ t.flag CLK.base CLK.STAT_REF50 = false ∧ t.rd CLK.base CLK.REF_FREQ_KHZ = k.toNat ∧
      t.flag CLK.base CLK.STAT_MAIN_LOCK ∧ t.sys.oscRetry = false ∧ t = { s with regs := t.regs, sys := t.sys } := by
  obtain ⟨hsrc, href, hkhz, hlock⟩ := clockLocked_shows 1 false k s
  have hregs := clockLocked_onlyRegs 1 false k s
  have hchosen := clockChosen_eq 1 false k s
  have hstep : clockSelectStep (.clkin25 k) s = clockChosen 1 false k s := by
    simp only [clockSelectStep, hd, Bool.true_eq_false, if_false]
  obtain ⟨u, hu⟩ : ∃ u, u = clockLocked 1 false k s := ⟨_, rfl⟩
  rw [← hu] at hsrc href hkhz hlock hregs hchosen
  rw [warmRelease_of_idle (by rw [← hw, ← hregs.sys]; rfl)] at hchosen
  have hback := hregs.updSys (fun y => { y with oscRetry := false, clkDue := false })
  refine ⟨_, congrArg Host.Outcome.next (hstep.trans hchosen), ?_, ?_, ?_, ?_, rfl, ?_⟩
  · rw [rd_updSys, hsrc]
    rfl
  · rw [State.flag, rd_updSys, href]
    rfl
  · rw [rd_updSys, hkhz]
    exact Nat.mod_eq_of_lt k.isLt
  · rw [State.flag, rd_updSys, hlock]
    rfl
  · have hs : (u.updSys (fun y => { y with oscRetry := false, clkDue := false })).sys =
      { s.sys with oscRetry := false, clkDue := false } := by rw [← hregs.sys]; rfl
    rw [hs]
    exact hback

theorem clockSelect_retries (hd : s.sys.clkDue) :
    ∃ t, exec (.clockSelect .none) s = .next t ∧ t.sys.oscRetry ∧ t.flag SYS.base SYS.RST_CAUSE_CLK_FAIL := by
  refine ⟨(s.updSys (fun y => { y with oscRetry := true })).wr SYS.base SYS.RST_CAUSE_CLK_FAIL 1, ?_, ?_,
    flag_wr_self (s.updSys (fun y => { y with oscRetry := true })) SYS.base SYS.RST_CAUSE_CLK_FAIL 1 rfl⟩
  · show Host.Outcome.next (clockSelectStep _ s) = _
    simp [clockSelectStep, hd]
  · rw [State.wr_sys]
    rfl

/-- A clock fault as CLK and RST_CAUSE record it, before source 2 and the island fault (R460). -/
def clockNoted (k : ClockFaultKind) (s : State) : State :=
  let s := ((clockShows k s).updSys (fun y => { y with clockFault := true })).wr CLK.base CLK.STAT_FAULT 1
  (s.bump CLK.base CLK.FAULT_CNT_COUNT).wr SYS.base SYS.RST_CAUSE_CLK_FAIL 1

theorem clockShows_onlyRegs (k : ClockFaultKind) (s : State) : OnlyRegs s (clockShows k s) := by
  cases k <;> exact ((OnlyRegs.refl s).wr _ _ _).wr _ _ _

theorem clockShows_count (k : ClockFaultKind) (s : State) :
    (clockShows k s).rd CLK.base CLK.FAULT_CNT_COUNT = s.rd CLK.base CLK.FAULT_CNT_COUNT := by
  cases k <;> simp (disch := decide) only [clockShows, rd_wr_apart]

theorem clockNoted_shows (k : ClockFaultKind) (s : State) :
    (clockNoted k s).rd CLK.base CLK.STAT_FAULT = 1 % CLK.STAT_FAULT.size ∧
      (clockNoted k s).rd CLK.base CLK.FAULT_CNT_COUNT = sat 65535 (s.rd CLK.base CLK.FAULT_CNT_COUNT + 1) := by
  unfold clockNoted
  dsimp only
  constructor
  · simp (disch := decide) only [rd_bump_apart, rd_wr_apart, rd_wr_self]
  · rw [rd_wr_apart _ _ (by decide), rd_bump_self _ _ _ rfl, rd_wr_apart _ _ (by decide), rd_updSys, clockShows_count]
    rfl

theorem clockNoted_frame (k : ClockFaultKind) (s : State) : (clockNoted k s).sys = { s.sys with clockFault := true } ∧
    (clockNoted k s).dev = s.dev ∧ (clockNoted k s).pt = s.pt ∧ (clockNoted k s).tick = s.tick := by
  have h := clockShows_onlyRegs k s
  have hu := h.updSys (fun y => { y with clockFault := true })
  obtain ⟨u, hv⟩ : ∃ u, u = (clockShows k s).updSys (fun y => { y with clockFault := true }) := ⟨_, rfl⟩
  unfold clockNoted
  dsimp only
  rw [← hv] at hu ⊢
  rw [State.wr_sys, State.bump_sys, State.wr_sys, State.wr_dev, State.bump_dev, State.wr_dev, State.wr_pt, State.bump_pt,
    State.wr_pt, State.wr_tick, State.bump_tick, State.wr_tick, hu]
  exact ⟨rfl, rfl, rfl, rfl⟩

theorem clockFault_stands (k : ClockFaultKind) (hc : s.sys.clockFault = false) (hh : s.held = false) :
    ∃ t, exec (.clockFault k) s = .next t ∧ t.sys.clockFault ∧ t.ptStands ∧ t.pt = s.pt ∧ t.flag CLK.base CLK.STAT_FAULT ∧
      t.rd CLK.base CLK.FAULT_CNT_COUNT = sat 65535 (s.rd CLK.base CLK.FAULT_CNT_COUNT + 1) ∧ bit t.plan.spillCause 5 ∧
      (∃ e ∈ t.inFlight, e.src = 2 ∧ e.raisedAt = s.tick) ∧ (s.isArmed → t.dev.st = .spilled) := by
  obtain ⟨hfault, hcount⟩ := clockNoted_shows k s
  obtain ⟨hsys, hdev, hpt, htick⟩ := clockNoted_frame k s
  have hheld : (clockNoted k s).held = false := by
    rw [State.held, hsys]
    exact hh
  have hstep : clockFaultStep k s = islandFault 5 none 5 ((clockNoted k s).raise 2) := by
    have hs : (clockShows k s).sys.clockFault = false := by rw [(clockShows_onlyRegs k s).sys, hc]
    have hn : clockFaultStep k s = if (clockNoted k s).held then clockNoted k s
        else islandFault 5 none 5 ((clockNoted k s).raise 2) := by
      unfold clockFaultStep
      dsimp only
      rw [hs, if_neg Bool.false_ne_true]
      rfl
    rw [hn, hheld, if_neg Bool.false_ne_true]
  revert hstep
  generalize clockNoted k s = u at *
  intro hstep
  have h := spillDevice_faulted (id := 5) (by decide) none 5 (u.raise 2)
  have hfaulted : (spillDevice 5 (islandMarked 5 none (u.raise 2))).sys.clockFault = true := by
    have h1 := congrArg Sys.clockFault h.sys
    have h2 := congrArg Sys.clockFault (raise_sys u 2)
    exact h1.trans (h2.trans (congrArg Sys.clockFault hsys))
  have hrd (f : Fld) (ha : sysAddr (CLK.base + f.off)) (h1 : CLK.base + f.off ≠ 0x400058) (h2 : (CLK.base + f.off) % 0x1000 ≠ 0x10) :
      (spillDevice 5 (islandMarked 5 none (u.raise 2))).rd CLK.base f = u.rd CLK.base f := by
    rw [h.rd ha h1 h2, rd_raise_ne _ _ _ h2]
  rw [islandFault_unheld] at hstep
  refine ⟨_, congrArg Host.Outcome.next hstep, hfaulted, ?_, ?_, ?_, ?_, h.caused, ?_, fun ha => h.armed ?_⟩
  · rw [State.ptStands, hfaulted]
    simp
  · rw [h.pt, State.raise_pt, hpt]
  · rw [State.flag, hrd _ (by decide) (by decide) (by decide), hfault]
    rfl
  · rw [hrd _ (by decide) (by decide) (by decide), hcount]
  · refine exists_of_sent (h.sent 2 (by decide) (sent_raise_self u 2)) ?_
    rw [h.tick, State.raise_tick, htick]
  · rw [raise_isArmed, ← ha]
    exact isArmed_congr (by rw [hdev]) (by rw [hsys])

end
end Sys2Proof.Machine

namespace Sys2Proof.Machine
section
variable {s t u : State}

/-! ### PWM periods

A period that opens keeps everything but the generators, the shadows that act and the triggers. -/

def Bare.sansPeriods (d : Bare) : Bare := { d.sansPwm with rest := { d.sansPwm.rest with act := [], committed := [], trigs := [] } }

theorem periods_of_pwm (h : t.bare.sansPwm = s.bare.sansPwm) : t.bare.sansPeriods = s.bare.sansPeriods :=
  congrArg (fun d : Bare => { d with rest := { d.rest with act := [], committed := [], trigs := [] } }) h

@[simp] theorem updPwm_periods (s : State) (n : Fin 16) (f : PwmGen → PwmGen) :
    (s.updPwm n f).bare.sansPeriods = s.bare.sansPeriods := (rfl)
@[simp] theorem actShadow_periods (a : Nat) (s : State) : (actShadow a s).bare.sansPeriods = s.bare.sansPeriods := (rfl)

@[simp] theorem fire_periods (s : State) (code : Nat) : (s.fire code).bare.sansPeriods = s.bare.sansPeriods :=
  foldS_keeps (v := fun u => u.bare.sansPeriods) (fun n u => by
    dsimp only
    split <;> split <;> rfl) (List.range 16) s

@[simp] theorem actPwm_periods (n : Fin 16) (s : State) : (actPwm n s).bare.sansPeriods = s.bare.sansPeriods :=
  foldS_keeps (v := fun u => u.bare.sansPeriods) (f := fun (c : CommitPend) u => u.setAct c.addr (c.acts (u.actReg c.addr)))
    (fun _ _ => rfl) _ _

@[simp] theorem clearLoadAll_periods (s : State) : (clearLoadAll s).bare.sansPeriods = s.bare.sansPeriods :=
  foldS_keeps (v := fun u => u.bare.sansPeriods) (fun g u => by
    dsimp only
    split
    · rw [wr_bare _ _ rfl (by decide)]
    · rfl) _ s

@[simp] theorem loadDone_periods (n : Fin 16) (s : State) : (loadDone n s).bare.sansPeriods = s.bare.sansPeriods := by
  unfold loadDone
  dsimp only
  rw [clearLoadAll_periods]
  split
  · rw [pwmFlag_bare _ (by decide), bumpWrap_bare _ (unit_pw n) (by decide), updPwm_periods]
  · rw [bumpWrap_bare _ (unit_pw n) (by decide), updPwm_periods]

@[simp] theorem actLoad_periods (n : Fin 16) (s : State) : (actLoad n s).bare.sansPeriods = s.bare.sansPeriods := by
  simp only [actLoad, actShadow_periods]

@[simp] theorem noteZero_periods (n : Fin 16) (s : State) : (noteZero n s).bare.sansPeriods = s.bare.sansPeriods := by
  unfold noteZero
  split
  · rw [pwmFlag_bare _ (by decide)]
  · rfl

@[simp] theorem settlePwm_periods (n : Fin 16) (s : State) : (settlePwm n s).bare.sansPeriods = s.bare.sansPeriods :=
  periods_of_pwm (settlePwm_sansPwm n s)

@[simp] theorem followLoad_periods (m : Fin 16) (old : Nat) (n : Fin 16) (s : State) :
    (followLoad m old n s).bare.sansPeriods = s.bare.sansPeriods := by
  unfold followLoad
  simp only [apply_ite State.bare, apply_ite Bare.sansPeriods, settlePwm_periods, noteZero_periods, updPwm_periods,
    actShadow_periods, ite_self]

@[simp] theorem takeLoad_periods (b : Bool) (n : Fin 16) (s : State) : (takeLoad b n s).bare.sansPeriods = s.bare.sansPeriods := by
  have hfollow (old : Nat) (u : State) : (foldS allGens (followLoad n old) u).bare.sansPeriods = u.bare.sansPeriods :=
    foldS_keeps (v := fun u => u.bare.sansPeriods) (followLoad_periods n old) _ u
  unfold takeLoad
  simp only [apply_ite State.bare, apply_ite Bare.sansPeriods, hfollow, noteZero_periods, loadDone_periods, actLoad_periods,
    actShadow_periods, ite_self]

@[simp] theorem takeDead_periods (n : Fin 16) (k : Nat) (s : State) : (takeDead n k s).bare.sansPeriods = s.bare.sansPeriods := by
  unfold takeDead
  dsimp only
  rw [updPwm_periods, wr_bare _ _ (unit_pw n) (by decide), wr_bare _ _ (unit_pw n) (by decide)]

@[simp] theorem startRefresh_periods (n : Fin 16) (s : State) : (startRefresh n s).bare.sansPeriods = s.bare.sansPeriods := by
  unfold startRefresh
  dsimp only
  split
  · rfl
  · split
    · rw [pwmFlag_bare _ (by decide)]
    · rw [updPwm_periods, bump_bare _ (unit_pw n) (by decide)]

@[simp] theorem beginPeriod_periods (n : Fin 16) (s : State) : (beginPeriod n s).bare.sansPeriods = s.bare.sansPeriods :=
  updPwm_periods s n _

@[simp] theorem periodTrigger_periods (n : Fin 16) (s : State) : (periodTrigger n s).bare.sansPeriods = s.bare.sansPeriods := by
  unfold periodTrigger
  split
  · rfl
  · exact fire_periods s _

@[simp] theorem openPeriod_periods (n : Fin 16) (k : Int) (w b : Bool) (s : State) :
    (openPeriod n k w b s).bare.sansPeriods = s.bare.sansPeriods := by
  unfold openPeriod
  simp only [apply_ite State.bare, apply_ite Bare.sansPeriods, periodTrigger_periods, updPwm_periods, settlePwm_periods,
    startRefresh_periods, takeDead_periods, noteZero_periods, takeLoad_periods, beginPeriod_periods, actPwm_periods, ite_self]

@[simp] theorem startGen_periods (n : Fin 16) (s : State) : (startGen n s).bare.sansPeriods = s.bare.sansPeriods := by
  unfold startGen
  simp only [apply_ite State.bare, apply_ite Bare.sansPeriods, openPeriod_periods, actShadow_periods, updPwm_periods, ite_self]

theorem resumePwm_periods (s : State) : (resumePwm s).bare.sansPeriods = s.bare.sansPeriods := by
  have hstart (l : List (Fin 16)) (u : State) : (foldS l startGen u).bare.sansPeriods = u.bare.sansPeriods :=
    foldS_keeps (v := fun u => u.bare.sansPeriods) startGen_periods l u
  unfold resumePwm
  split
  · rfl
  · rw [foldS_keeps (v := fun u => u.bare.sansPeriods) (fun n u => periods_of_pwm (settleSafe_sansPwm n u)), startDue, hstart,
      hstart]

/-- What a period that opens leaves of the tracked and stored state. -/
theorem periods_frame (h : t.bare.sansPeriods = s.bare.sansPeriods) : t.desk.calm = s.desk.calm ∧ t.pt = s.pt ∧
    t.mem = s.mem ∧ t.dev = s.dev ∧ t.trk = s.trk ∧ t.sys.calm = s.sys.calm :=
  ⟨congrArg Bare.calm h, congrArg (fun d : Bare => d.rest.pt) h, congrArg (fun d : Bare => d.rest.mem) h,
    congrArg (fun d : Bare => d.rest.dev) h, congrArg (fun d : Bare => d.rest.trk) h, congrArg (fun d : Bare => d.rest.sys) h⟩

/-- CLK as a recovery shows it: no fault, the time lost, both PLLs locked (R460). -/
def clockShownBack (lost : Nat) (s : State) : State :=
  let s := (s.wr CLK.base CLK.STAT_FAULT 0).wr CLK.base CLK.LOST_US lost
  ((s.wr CLK.base CLK.STAT_REF_OK 1).wr CLK.base CLK.STAT_MAIN_LOCK 1).wr CLK.base CLK.STAT_LINK_LOCK 1

theorem clockShownBack_onlyRegs (n : Nat) (s : State) : OnlyRegs s (clockShownBack n s) :=
  (((((OnlyRegs.refl s).wr _ _ _).wr _ _ _).wr _ _ _).wr _ _ _).wr _ _ _

theorem clockShownBack_shows (n : Nat) (s : State) :
    (clockShownBack n s).rd CLK.base CLK.STAT_FAULT = 0 % CLK.STAT_FAULT.size ∧
      (clockShownBack n s).rd CLK.base CLK.LOST_US = n % CLK.LOST_US.size := by
  unfold clockShownBack
  dsimp only
  constructor <;> simp (disch := decide) only [rd_wr_apart, rd_wr_self]

theorem clockRecover_eq (v : Word) (h : s.sys.clockFault) : exec (.clockRecover v) s = .next (spillCleared 5 (resumePwm
    (clockShownBack v.toNat (s.updSys (fun y => { y with clockFault := false }))))) := by
  show Host.Outcome.next (clockRecoverStep v s) = _
  unfold clockRecoverStep clockShownBack
  rw [if_pos h]

theorem clockRecover_resumes (v : Word) (hc : s.sys.clockFault) : ∃ t, exec (.clockRecover v) s = .next t ∧
    t.sys.clockFault = false ∧ t.flag CLK.base CLK.STAT_FAULT = false ∧ t.rd CLK.base CLK.LOST_US = v.toNat ∧
    bit t.plan.spillCause 5 = false ∧ t.pt = s.pt ∧ t.mem = s.mem ∧ t.dev = s.dev ∧ t.trk = s.trk ∧
    (s.sys.frozen → t = { s with regs := t.regs, plan := t.plan, sys := t.sys }) := by
  obtain ⟨hfault, hlost⟩ := clockShownBack_shows v.toNat (s.updSys (fun y => { y with clockFault := false }))
  have hregs := clockShownBack_onlyRegs v.toNat (s.updSys (fun y => { y with clockFault := false }))
  refine ⟨_, clockRecover_eq v hc, ?_⟩
  revert hfault hlost hregs
  generalize clockShownBack v.toNat _ = u
  intro hfault hlost hregs
  have hu : u = { s.updSys (fun y => { y with clockFault := false }) with regs := u.regs } := hregs
  obtain ⟨hcalm, hpt, hmem, hdev, htrk, hsys⟩ := periods_frame (resumePwm_periods u)
  have hrd (f : Fld) (ha : sysAddr (CLK.base + f.off)) : (spillCleared 5 (resumePwm u)).rd CLK.base f = u.rd CLK.base f := by
    rw [spillCleared, rd_updPlan]
    exact congrArg f.of (reg_of_calm (by rw [hcalm]) ha)
  refine ⟨?_, ?_, ?_, spillCleared_clears 5 _, hpt.trans ?_, hmem.trans ?_, hdev.trans ?_, htrk.trans ?_, fun hf => ?_⟩
  · have h1 := congrArg Sys.clockFault hsys
    have h2 : u.sys.clockFault = false := by rw [hu]; rfl
    exact h1.trans h2
  · rw [State.flag, hrd _ (by decide), hfault]
    rfl
  · rw [hrd _ (by decide), hlost]
    exact Nat.mod_eq_of_lt v.isLt
  · rw [hu]; rfl
  · rw [hu]; rfl
  · rw [hu]; rfl
  · rw [hu]; rfl
  · have hfrozen : u.sys.frozen = true := by rw [hu]; exact hf
    have hst : u.ptStands = true := by simp [State.ptStands, hfrozen]
    have hr : resumePwm u = u := by rw [resumePwm, if_pos hst]
    rw [hr]
    have hclear : spillCleared 5 u = { u with plan := (spillCleared 5 u).plan } := rfl
    generalize (spillCleared 5 u).plan = p at hclear
    rw [hclear]
    conv_lhs => rw [hu]
    rw [hu]
    rfl

end
end Sys2Proof.Machine

namespace Sys2Proof.Machine
section
variable {s t u : State}

/-! ### Heat (R477, R478) -/

theorem thermRelease_of_hot (h : 540 ≤ tjNow s) : ∃ t, exec .thermRelease s = .next t ∧
    t.rd THERM.base HDR.ERR_COUNT = sat 65535 (s.rd THERM.base HDR.ERR_COUNT + 1) ∧ t = { s with regs := t.regs } := by
  refine ⟨s.err 0x7C, ?_, rd_bump_self s THERM.base HDR.ERR_COUNT rfl, (OnlyRegs.refl s).bump _ _⟩
  show Host.Outcome.next (thermReleaseStep s) = _
  simp [thermReleaseStep, h]

theorem releaseDDie_dHold (w : HoldEnd) (s : State) :
    (releaseDDie w s).sys.dHold = (s.sys.dHold && s.flag SYS.base SYS.STAT_BUNDLE_FAIL) := by
  unfold releaseDDie
  split
  next h => rw [h, Bool.and_true]
  next h => simp [h]

theorem thermRelease_of_cool (hc : tjNow s < 540) (hh : s.flag THERM.base THERM.STAT_HOLD)
    (hst : s.dev.st = .strapped ∨ s.dev.st = .loaded) : ∃ t, exec .thermRelease s = .next t ∧
    t.flag THERM.base THERM.STAT_HOLD = false ∧ t.sys.dHold = (s.sys.dHold && s.flag SYS.base SYS.STAT_BUNDLE_FAIL) := by
  have htio (u : State) : (releaseTio u).sys = u.sys :=
    foldS_keeps (v := State.sys) (f := fun n s => s.updTmr n (fun x => { x with held := false })) (fun _ _ => rfl) _ u
  refine ⟨releaseHolds .arm s, ?_, ?_, ?_⟩
  · show Host.Outcome.next (thermReleaseStep s) = _
    simp only [thermReleaseStep, if_neg (not_le.2 hc), hh, hst, and_self, if_true]
  · rw [releaseHolds]
    exact flag_wr_self (releaseTio (releaseDDie .arm s)) THERM.base THERM.STAT_HOLD 0 rfl
  · rw [releaseHolds, State.wr_sys, htio, releaseDDie_dHold]

/-- The six readings and Tj, in the registers (R477). -/
def tjShown (l : List Half) (s : State) : State :=
  (foldS (List.range 6) (fun k s => s.setReg (SENS.base k) (toWord (l.getD k 0).toNat)) s).wr THERM.base THERM.TJ
    (unsigned 16 (hottest l))

/-- The hottest reading so far, in MAX_T. -/
def tjMax (tj : Int) (s : State) : State :=
  if signed 16 (s.rd THERM.base THERM.MAX_T) < tj then s.wr THERM.base THERM.MAX_T (unsigned 16 tj) else s

/-- The second hot reading in a row shuts the outputs down (R478). -/
def hotCounted (tj : Int) (s : State) : State :=
  let n := if 620 ≤ tj then s.sys.hot + 1 else 0
  let s := s.updSys (fun y => { y with hot := n })
  if n = 2 then thermalShut s else s

/-- Below 135 °C the cause of a shutdown has cleared (R478). -/
def heatCleared (tj : Int) (s : State) : State := if tj < 540 then spillCleared 0 s else s

theorem thermMeasureStep_eq (l : List Half) (hh : s.held = false) : thermMeasureStep l s =
    hotCounted (hottest l) (heatCleared (hottest l) (thermalWarn (hottest l) (tjMax (hottest l) (tjShown l s)))) := by
  unfold thermMeasureStep hotCounted heatCleared tjMax tjShown
  rw [hh, if_neg Bool.false_ne_true]

theorem heatCleared_frame (tj : Int) (s : State) : (heatCleared tj s).regs = s.regs ∧ (heatCleared tj s).sys = s.sys ∧
    (heatCleared tj s).banks = s.banks ∧ (heatCleared tj s).tick = s.tick := by
  unfold heatCleared
  split <;> exact ⟨rfl, rfl, rfl, rfl⟩

theorem tjShown_onlyRegs (l : List Half) (s : State) : OnlyRegs s (tjShown l s) := by
  refine OnlyRegs.wr ?_ _ _ _
  exact foldS_holds (P := OnlyRegs s) (fun k u hu => hu.setReg _ _) _ (OnlyRegs.refl s)

theorem unsigned_lt (n : Nat) (x : Int) : unsigned n x < 2 ^ n := by
  have h := Int.emod_lt_of_pos x (show (0 : Int) < ((2 ^ n : Nat) : Int) by exact_mod_cast Nat.two_pow_pos n)
  have h0 := Int.emod_nonneg x (show ((2 ^ n : Nat) : Int) ≠ 0 by exact_mod_cast (Nat.two_pow_pos n).ne')
  unfold unsigned
  omega

theorem tjShown_tj (l : List Half) (s : State) : (tjShown l s).rd THERM.base THERM.TJ = unsigned 16 (hottest l) := by
  rw [tjShown, rd_wr_self _ _ _ _ rfl]
  exact Nat.mod_eq_of_lt (unsigned_lt 16 _)

theorem tjMax_onlyRegs (tj : Int) (h : OnlyRegs s t) : OnlyRegs s (tjMax tj t) := by
  unfold tjMax
  split
  · exact h.wr _ _ _
  · exact h

theorem tjMax_tj (tj : Int) (s : State) : (tjMax tj s).rd THERM.base THERM.TJ = s.rd THERM.base THERM.TJ := by
  unfold tjMax
  split
  · exact rd_wr_apart s _ (by decide)
  · rfl

/-- The warning follows Tj with its hysteresis and leaves Tj, the banks and the system's other state (R477). -/
theorem thermalWarn_frame (tj : Int) (s : State) :
    (thermalWarn tj s).rd THERM.base THERM.TJ = s.rd THERM.base THERM.TJ ∧
      (thermalWarn tj s).sys.calm = s.sys.calm ∧ (thermalWarn tj s).banks = s.banks ∧ (thermalWarn tj s).tick = s.tick := by
  unfold thermalWarn
  split
  · rw [rd_wr_apart _ _ (by decide), State.wr_sys, State.wr_banks, State.wr_tick]
    exact ⟨rfl, rfl, rfl, rfl⟩
  · split
    · rw [rd_raise_ne _ _ _ (by decide), rd_bump_apart _ (by decide), rd_wr_apart _ _ (by decide), raise_sys,
        State.raise_banks, State.raise_tick, State.bump_sys, State.bump_banks, State.bump_tick, State.wr_sys, State.wr_banks,
        State.wr_tick]
      exact ⟨rfl, rfl, rfl, rfl⟩
    · exact ⟨rfl, rfl, rfl, rfl⟩

theorem thermalWarn_warns (tj : Int) (s : State) : (tj < 540 → (thermalWarn tj s).flag THERM.base THERM.STAT_WARN = false) ∧
    (560 ≤ tj → (thermalWarn tj s).flag THERM.base THERM.STAT_WARN = true) := by
  unfold thermalWarn
  refine ⟨fun h => ?_, fun h => ?_⟩
  · rw [if_pos h]
    exact flag_wr_self s THERM.base THERM.STAT_WARN 0 rfl
  · rw [if_neg (by omega)]
    split
    · rw [State.flag, rd_raise_ne _ _ _ (by decide), rd_bump_apart _ (by decide), rd_wr_self _ _ _ _ rfl]
      rfl
    next hn =>
      by_contra hw
      exact hn ⟨h, by simpa using hw⟩

/-- A parked device wakes before a shutdown (R481). -/
def shutWakes (s : State) : State := if s.dev.st = .park then wakeUp s else s

theorem shutWakes_frame (s : State) : (∀ f : Fld, (THERM.base + f.off) % 0x1000 ≠ 0x10 →
    (shutWakes s).rd THERM.base f = s.rd THERM.base f) ∧ (shutWakes s).tick = s.tick := by
  unfold shutWakes
  split
  · refine ⟨fun f hf => ?_, ?_⟩
    · rw [wakeUp, rd_raise_ne _ _ _ hf, rd_congr (State.enter_regs ..)]
      rfl
    · rw [wakeUp, State.raise_tick, State.enter_tick]
  · exact ⟨fun _ _ => rfl, rfl⟩

/-- A shutdown is recorded, ends and holds the outputs, and leaves Tj and the warning (R478). -/
theorem thermalShut_shuts (s : State) : (thermalShut s).flag THERM.base THERM.STAT_SHUT ∧
    (thermalShut s).flag THERM.base THERM.STAT_HOLD ∧ (thermalShut s).sys.dHold ∧ bit (thermalShut s).plan.spillCause 0 ∧
    (∃ x ∈ (thermalShut s).inFlight, x.src = 1 ∧ x.raisedAt = s.tick) ∧
    (thermalShut s).rd THERM.base THERM.TJ = s.rd THERM.base THERM.TJ ∧
    (thermalShut s).flag THERM.base THERM.STAT_WARN = s.flag THERM.base THERM.STAT_WARN := by
  obtain ⟨hrd, htick⟩ := shutWakes_frame s
  have h := spillDevice_spilled 0 (shutWakes s)
  have he : thermalShut s = ((((spillDevice 0 (shutWakes s)).raise 1).wr THERM.base THERM.STAT_SHUT 1).wr THERM.base
      THERM.STAT_HOLD 1 |>.bump THERM.base THERM.CNT_SHUTS).updSys (fun y => { y with dHold := true }) := rfl
  have hold (f : Fld) (h1 : sysAddr (THERM.base + f.off)) (h2 : (THERM.base + f.off) % 0x1000 ≠ 0x10)
      (h3 : apart THERM.base THERM.STAT_SHUT THERM.base f) (h4 : apart THERM.base THERM.STAT_HOLD THERM.base f)
      (h5 : apart THERM.base THERM.CNT_SHUTS THERM.base f) : (thermalShut s).rd THERM.base f = s.rd THERM.base f := by
    rw [he, rd_updSys, rd_bump_apart _ h5, rd_wr_apart _ _ h4, rd_wr_apart _ _ h3, rd_raise_ne _ _ _ h2, h.rd h1, hrd f h2]
  have hsent : ∃ x ∈ ((spillDevice 0 (shutWakes s)).raise 1).inFlight, x.src = 1 ∧ x.raisedAt = s.tick := by
    have := raised_in_tick (spillDevice 0 (shutWakes s)) 1
    rwa [h.tick, htick] at this
  refine ⟨?_, ?_, ?_, ?_, ?_, hold _ (by decide) (by decide) (by decide) (by decide) (by decide),
    congrArg (· != 0) (hold _ (by decide) (by decide) (by decide) (by decide) (by decide))⟩
  · rw [he, State.flag, rd_updSys, rd_bump_apart _ (by decide), rd_wr_apart _ _ (by decide), rd_wr_self _ _ _ _ rfl]
    rfl
  · rw [he, State.flag, rd_updSys, rd_bump_apart _ (by decide), rd_wr_self _ _ _ _ rfl]
    rfl
  · rw [he]
    rfl
  · rw [he, State.updSys_plan, State.bump_plan, State.wr_plan, State.wr_plan, State.raise_plan]
    exact h.caused
  · rw [he, State.updSys_inFlight, State.bump_inFlight, State.wr_inFlight, State.wr_inFlight]
    exact hsent

theorem hotCounted_of_cool {tj : Int} (h : tj < 620) (s : State) :
    (hotCounted tj s).sys.hot = 0 ∧ (hotCounted tj s).banks = s.banks := by
  have hn : (if 620 ≤ tj then s.sys.hot + 1 else 0) = 0 := if_neg (by omega)
  unfold hotCounted
  rw [hn, if_neg (by decide)]
  exact ⟨rfl, rfl⟩

theorem hotCounted_of_second {tj : Int} (h : 620 ≤ tj) (hs : s.sys.hot = 1) :
    hotCounted tj s = thermalShut (s.updSys (fun y => { y with hot := 2 })) := by
  have hn : (if 620 ≤ tj then s.sys.hot + 1 else 0) = 2 := by rw [if_pos h, hs]
  unfold hotCounted
  rw [hn, if_pos rfl]

theorem hotCounted_keeps (tj : Int) (s : State) : (hotCounted tj s).rd THERM.base THERM.TJ = s.rd THERM.base THERM.TJ ∧
    (hotCounted tj s).flag THERM.base THERM.STAT_WARN = s.flag THERM.base THERM.STAT_WARN := by
  unfold hotCounted
  generalize (if 620 ≤ tj then s.sys.hot + 1 else 0) = n
  dsimp only
  split
  · obtain ⟨-, -, -, -, -, htj, hwarn⟩ := thermalShut_shuts (s.updSys (fun y => { y with hot := n }))
    exact ⟨htj, hwarn⟩
  · exact ⟨rfl, rfl⟩

theorem thermMeasure_judges (l : List Half) (hh : s.held = false) :
    (thermMeasureStep l s).rd THERM.base THERM.TJ = unsigned 16 (hottest l) ∧
    (hottest l < 540 → (thermMeasureStep l s).flag THERM.base THERM.STAT_WARN = false) ∧
    (560 ≤ hottest l → (thermMeasureStep l s).flag THERM.base THERM.STAT_WARN) ∧
    (620 ≤ hottest l → s.sys.hot = 1 → (thermMeasureStep l s).flag THERM.base THERM.STAT_SHUT ∧
      (thermMeasureStep l s).flag THERM.base THERM.STAT_HOLD ∧ (thermMeasureStep l s).sys.dHold ∧
      bit (thermMeasureStep l s).plan.spillCause 0 ∧
      (∃ x ∈ (thermMeasureStep l s).inFlight, x.src = 1 ∧ x.raisedAt = s.tick)) ∧
    (hottest l < 620 → (thermMeasureStep l s).sys.hot = 0 ∧ (thermMeasureStep l s).banks = s.banks) := by
  rw [thermMeasureStep_eq l hh]
  have hregs := tjMax_onlyRegs (hottest l) (tjShown_onlyRegs l s)
  have htj := (tjMax_tj (hottest l) (tjShown l s)).trans (tjShown_tj l s)
  obtain ⟨r, hr⟩ : ∃ r, r = tjMax (hottest l) (tjShown l s) := ⟨_, rfl⟩
  rw [← hr] at hregs htj ⊢
  obtain ⟨hwtj, hwsys, hwbanks, hwtick⟩ := thermalWarn_frame (hottest l) r
  obtain ⟨hcool, hwarm⟩ := thermalWarn_warns (hottest l) r
  obtain ⟨hcregs, hcsys, hcbanks, hctick⟩ := heatCleared_frame (hottest l) (thermalWarn (hottest l) r)
  obtain ⟨hktj, hkwarn⟩ := hotCounted_keeps (hottest l) (heatCleared (hottest l) (thermalWarn (hottest l) r))
  have hr' : r = { s with regs := r.regs } := hregs
  have hwarn := hkwarn.trans (congrArg (· != 0) (rd_congr hcregs THERM.base THERM.STAT_WARN))
  have hhot : (heatCleared (hottest l) (thermalWarn (hottest l) r)).sys.hot = s.sys.hot := by
    have h := congrArg Sys.hot hwsys
    rw [hcsys, ← hregs.sys]
    exact h
  have htick : (heatCleared (hottest l) (thermalWarn (hottest l) r)).tick = s.tick := by
    rw [hctick, hwtick, hr']
  have hbanks : (heatCleared (hottest l) (thermalWarn (hottest l) r)).banks = s.banks := by
    rw [hcbanks, hwbanks, hr']
  refine ⟨?_, fun h => hwarn.trans (hcool h), fun h => hwarn.trans (hwarm h), fun h hs => ?_, fun h => ?_⟩
  · rw [hktj, rd_congr hcregs, hwtj, htj]
  · rw [hotCounted_of_second h (hhot.trans hs)]
    obtain ⟨hshut, hhold, hdhold, hcause, hsent, -, -⟩ := thermalShut_shuts
      ((heatCleared (hottest l) (thermalWarn (hottest l) r)).updSys (fun y => { y with hot := 2 }))
    rw [State.updSys_tick, htick] at hsent
    exact ⟨hshut, hhold, hdhold, hcause, hsent⟩
  · obtain ⟨hzero, hsame⟩ := hotCounted_of_cool h (heatCleared (hottest l) (thermalWarn (hottest l) r))
    exact ⟨hzero, hsame.trans hbanks⟩

/-! ### The release of an island (R467, R468) -/

theorem resetPage_frame (p : Nat) (s : State) : (resetPage p s).sys = s.sys ∧ (resetPage p s).plan = s.plan ∧
    (resetPage p s).dev = s.dev ∧ (resetPage p s).trk = s.trk := ⟨rfl, rfl, rfl, rfl⟩

theorem wrBoth_frame (s : State) (b : Nat) (f : Fld) (v : Nat) : (s.wrBoth b f v).sys = s.sys ∧ (s.wrBoth b f v).plan = s.plan ∧
    (s.wrBoth b f v).dev = s.dev ∧ (s.wrBoth b f v).trk = s.trk := ⟨rfl, rfl, rfl, rfl⟩

theorem resetTracker_frame (t : Fin 2) (s : State) : (resetTracker t s).sys = s.sys ∧ (resetTracker t s).plan = s.plan ∧
    (resetTracker t s).dev = s.dev ∧ (resetTracker t s).trk[t] = initTracker ∧
    ∀ k : Fin 2, s.trk[k] = initTracker → (resetTracker t s).trk[k] = initTracker := by
  obtain ⟨hsys, hplan, hdev, htrk⟩ := resetPage_frame (2 + t.val) s
  obtain ⟨hsys', hplan', hdev', htrk'⟩ := wrBoth_frame (resetPage (2 + t.val) s) (TRK.base t) TRK.CFG_CYCLE720
    (b2n (bit (resetPage (2 + t.val) s).dev.straps.toNat 6))
  have hset : (resetTracker t s).trk = s.trk.set t initTracker := by
    rw [resetTracker, State.updTrk, htrk', htrk]
  refine ⟨hsys'.trans hsys, hplan'.trans hplan, hdev'.trans hdev, ?_, fun k hk => ?_⟩
  · simp [hset]
  · by_cases e : t = k
    · subst e
      simp [hset]
    · simpa [hset, Vector.getElem_set, Fin.val_ne_of_ne e] using hk

theorem copyFields_sys (l : List (Nat × Fld)) (s u : State) : (copyFields l s u).sys = u.sys := by
  unfold copyFields
  exact foldS_keeps (v := State.sys) (fun e u => State.wr_sys ..) l u

theorem resetPage_sys (p : Nat) (s : State) : (resetPage p s).sys = s.sys := rfl

theorem endOrdersWhere_frame (p : Order → Bool) (f : Order → Nat × Nat × Nat) (s : State) :
    (endOrdersWhere p f s).sys = s.sys ∧ (endOrdersWhere p f s).plan = s.plan := ⟨rfl, rfl⟩

/-- The plan engine without its pages: nothing staged, no load in progress, no order pending (R209, R467). -/
def engineIdle (old s : State) : State :=
  let s := s.updHdg (fun h => { h with staging := initHdg.staging, rdWrites := [], flumeSubs := [] })
  let s := s.updPlan (fun p => { p with load := .idle, lateLog := [], violAt := none, govKept := none })
  let s := if old.plan.load = .write then (s.wr PLAN.base PLAN.INFO_VALID 0).enter .strapped else s
  endOrdersWhere (fun _ => true) (fun o => (if o.progress ≤ 1 then 4 else 5, 4, s.ptLo)) s

theorem engineIdle_frame (old s : State) : (engineIdle old s).sys = s.sys ∧ (engineIdle old s).plan.load = .idle := by
  unfold engineIdle
  dsimp only
  rw [(endOrdersWhere_frame _ _ _).1, (endOrdersWhere_frame _ _ _).2]
  split
  · rw [State.enter_sys, State.enter_plan, State.wr_sys, State.wr_plan]
    exact ⟨rfl, rfl⟩
  · exact ⟨rfl, rfl⟩

theorem resetEngine_eq (s : State) :
    resetEngine s = engineIdle s (copyFields keptEngine s (resetPage 5 (resetPage 6 (resetPage 7 s)))) := rfl

theorem resetEngine_frame (s : State) : (resetEngine s).sys = s.sys ∧ (resetEngine s).plan.load = .idle := by
  obtain ⟨hsys, hload⟩ := engineIdle_frame s (copyFields keptEngine s (resetPage 5 (resetPage 6 (resetPage 7 s))))
  rw [resetEngine_eq]
  exact ⟨by rw [hsys, copyFields_sys, (resetPage_frame _ _).1, (resetPage_frame _ _).1, (resetPage_frame _ _).1], hload⟩

/-- A page's reset leaves the system units and the device. -/
theorem resetUnits_frame (p : Nat) (s : State) : (resetUnits p s).sys = s.sys ∧ (resetUnits p s).dev = s.dev := by
  have hconv (k : Fin 4) (u : State) : (strapConv k u).sys = u.sys ∧ (strapConv k u).dev = u.dev := ⟨rfl, rfl⟩
  have hflash : (flashReset s).sys = s.sys ∧ (flashReset s).dev = s.dev := ⟨rfl, rfl⟩
  unfold resetUnits
  generalize Fin.ofNat 4 (p - 0x30) = k
  dsimp only
  simp only [apply_ite State.sys, apply_ite State.dev, hconv, hflash, State.updConv_sys, State.updConv_dev, ite_self, and_self]

theorem resetConverter_frame (p : Nat) (s : State) :
    (doSoftReset p (resetPage p s)).sys = s.sys ∧ (doSoftReset p (resetPage p s)).dev = s.dev :=
  resetUnits_frame p _

theorem releaseIsland_sys (n : Nat) (s : State) : (releaseIsland n s).sys = s.sys := by
  unfold releaseIsland
  dsimp only
  split
  · split
    · rw [(resetTracker_frame _ _).1, (resetTracker_frame _ _).1]
    · exact (resetTracker_frame _ s).1
  · split
    · exact (resetEngine_frame s).1
    · split
      · exact foldS_keeps (v := State.sys) (fun p u => (resetConverter_frame p u).1) _ s
      · rfl

theorem releaseIsland_dev {n : Nat} (hn : n ≠ 2) (s : State) : (releaseIsland n s).dev = s.dev := by
  unfold releaseIsland
  dsimp only
  rw [if_neg hn]
  split
  · split
    · rw [(resetTracker_frame _ _).2.2.1, (resetTracker_frame _ _).2.2.1]
    · exact (resetTracker_frame _ s).2.2.1
  · split
    · exact foldS_keeps (v := State.dev) (fun p u => (resetConverter_frame p u).2) _ s
    · rfl

/-- A tracker's island is released with its tracker at reset; the plan stays. -/
theorem releaseIsland_tracker {n : Nat} (hn : n < 2) (s : State) :
    (releaseIsland n s).trk[n] = initTracker ∧ (releaseIsland n s).plan = s.plan := by
  have hf : Fin.ofNat 2 n = ⟨n, hn⟩ := Fin.ext (Nat.mod_eq_of_lt hn)
  obtain ⟨-, hplan, -, hself, -⟩ := resetTracker_frame ⟨n, hn⟩ s
  unfold releaseIsland
  dsimp only
  rw [if_pos hn, hf]
  split
  · obtain ⟨-, hplan', -, -, hkeep⟩ := resetTracker_frame (otherTrk ⟨n, hn⟩) (resetTracker ⟨n, hn⟩ s)
    exact ⟨hkeep ⟨n, hn⟩ hself, hplan'.trans hplan⟩
  · exact ⟨hself, hplan⟩

/-- A bit taken from a number. -/
def clearBit (f i : Nat) : Nat := f - b2n (bit f i) * 2 ^ i

theorem bit_clearBit {f i k : Nat} (hk : k ≠ i) : bit (clearBit f i) k = bit f k := by
  unfold clearBit
  cases h : bit f i with
  | false => simp [b2n]
  | true => simpa [b2n] using bit_sub_two_pow_ne h hk

theorem bit_of_bit_clearBit {f i k : Nat} (h : bit (clearBit f i) k) : bit f k := by
  by_cases hk : k = i
  · subst hk
    unfold clearBit at h
    cases hb : bit f k with
    | false => simp [hb, b2n] at h
    | true => rfl
  · rwa [bit_clearBit hk] at h

/-- What the reload of a PT counter leaves (R468). -/
structure PtReload (s t : State) : Prop where
  rst : t.sys.islandRst = s.sys.islandRst
  failed : ∀ k, bit t.sys.ptFailed k → bit s.sys.ptFailed k
  trk : t.trk = s.trk
  plan : t.plan = s.plan
  dev : t.dev = s.dev
  regs : t.regs = s.regs

theorem copyPt_reloads (t : Fin 2) (s : State) : PtReload s (copyPt t s) := by
  have hleft : (copyPt t s).sys.ptFailed = clearBit (clearBit s.sys.ptFailed t.val) (2 + t.val) := by
    have hb : bit (clearBit s.sys.ptFailed t.val) (2 + t.val) = bit s.sys.ptFailed (2 + t.val) := bit_clearBit (by omega)
    rw [clearBit, hb]
    unfold copyPt
    dsimp only
    split <;> rfl
  have hrest : (copyPt t s).sys.islandRst = s.sys.islandRst ∧ (copyPt t s).trk = s.trk ∧ (copyPt t s).plan = s.plan ∧
      (copyPt t s).dev = s.dev ∧ (copyPt t s).regs = s.regs := by
    unfold copyPt
    dsimp only
    split <;> exact ⟨rfl, rfl, rfl, rfl, rfl⟩
  obtain ⟨hrst, htrk, hplan, hdev, hregs⟩ := hrest
  refine ⟨hrst, fun k hk => ?_, htrk, hplan, hdev, hregs⟩
  rw [hleft] at hk
  exact bit_of_bit_clearBit (bit_of_bit_clearBit hk)

theorem reloadPt_reloads (n : Nat) (s : State) : PtReload s (reloadPt n s) := by
  have hrefl (u : State) : PtReload u u := ⟨rfl, fun _ h => h, rfl, rfl, rfl, rfl⟩
  have hif (c : Prop) [Decidable c] (t : Fin 2) (u : State) : PtReload u (if c then copyPt t u else u) := by
    split
    · exact copyPt_reloads t u
    · exact hrefl u
  unfold reloadPt
  split
  · exact hrefl s
  · split
    · have h1 := hif (bit s.sys.ptFailed (Fin.ofNat 2 n).val) (Fin.ofNat 2 n) s
      have h2 := hif (bit (ite (bit s.sys.ptFailed (Fin.ofNat 2 n).val = true) (copyPt (Fin.ofNat 2 n) s) s).sys.ptFailed
        (otherTrk (Fin.ofNat 2 n)).val) (otherTrk (Fin.ofNat 2 n))
        (ite (bit s.sys.ptFailed (Fin.ofNat 2 n).val = true) (copyPt (Fin.ofNat 2 n) s) s)
      exact ⟨h2.rst.trans h1.rst, fun k hk => h1.failed k (h2.failed k hk), h2.trk.trans h1.trk, h2.plan.trans h1.plan,
        h2.dev.trans h1.dev, h2.regs.trans h1.regs⟩
    · exact hrefl s

theorem islandReleaseStep_eq {n k : Nat} (hr : s.sys.islandRst = [(n, k)]) (hk : k + 4000 ≤ s.tick)
    (ht : t = (reloadPt n (releaseIsland n s)).updSys (fun y => { y with islandRst := [] })) :
    islandReleaseStep s = if bothPtFailed t then t.wr SYS.base SYS.RST_CAUSE_ISLAND_ID 0 else spillCleared 3 t := by
  have hrst : (reloadPt n (releaseIsland n s)).sys.islandRst = [(n, k)] := by
    rw [(reloadPt_reloads n _).rst, releaseIsland_sys, hr]
  have hup : (reloadPt n (releaseIsland n s)).updSys (fun y => { y with islandRst := y.islandRst.filter (fun e => !List.contains [(n, k)] e) })
      = t := by
    rw [ht, State.updSys, hrst]
    simp [State.updSys]
  have hempty : t.sys.islandRst = [] := by rw [ht]; rfl
  unfold islandReleaseStep
  rw [hr]
  simp only [List.filter_cons, hk, decide_true, if_true, List.filter_nil, List.cons_ne_nil, if_false, foldS, List.foldl_cons,
    List.foldl_nil]
  rw [hup, if_pos hempty]

theorem islandRelease_clears {n k : Nat} (hr : s.sys.islandRst = [(n, k)]) (hk : k + 4000 ≤ s.tick)
    (hb : bothPtFailed s = false) : ∃ t, exec .islandResetRelease s = .next t ∧ t.sys.islandRst = [] ∧
      bit t.plan.spillCause 3 = false ∧ (∀ h : n < 2, t.trk[n] = initTracker) ∧ (n = 2 → t.plan.load = .idle) ∧
      (n ≠ 2 → t.dev = s.dev) := by
  obtain ⟨t, ht⟩ : ∃ t, t = (reloadPt n (releaseIsland n s)).updSys (fun y => { y with islandRst := [] }) := ⟨_, rfl⟩
  have hrel := reloadPt_reloads n (releaseIsland n s)
  have hboth : bothPtFailed t = false := by
    have hf (j : Nat) (h : bit t.sys.ptFailed j) : bit s.sys.ptFailed j := by
      rw [ht] at h
      have := hrel.failed j h
      rwa [releaseIsland_sys] at this
    unfold bothPtFailed at hb ⊢
    rw [Bool.and_eq_false_iff] at hb ⊢
    exact hb.imp (fun h => by by_contra hn; rw [hf 2 (by simpa using hn)] at h; cases h)
      (fun h => by by_contra hn; rw [hf 3 (by simpa using hn)] at h; cases h)
  have hstep := islandReleaseStep_eq hr hk ht
  rw [hboth, if_neg Bool.false_ne_true] at hstep
  refine ⟨_, congrArg Host.Outcome.next hstep, ?_, spillCleared_clears 3 t, fun h => ?_, fun h => ?_, fun h => ?_⟩
  · show t.sys.islandRst = []
    rw [ht]
    rfl
  · have htrk : t.trk = (releaseIsland n s).trk := by
      rw [ht]
      exact hrel.trk
    show t.trk[n] = initTracker
    simp only [htrk]
    exact (releaseIsland_tracker h s).1
  · show t.plan.load = .idle
    rw [ht]
    show (reloadPt n (releaseIsland n s)).plan.load = .idle
    rw [hrel.plan, h]
    exact (resetEngine_frame s).2
  · show t.dev = s.dev
    rw [ht]
    show (reloadPt n (releaseIsland n s)).dev = s.dev
    rw [hrel.dev, releaseIsland_dev h]

theorem islandRelease_of_both {n k : Nat} (hr : s.sys.islandRst = [(n, k)]) (hn : n < 2) (hk : k + 4000 ≤ s.tick)
    (hb : bothPtFailed s) : ∃ t, exec .islandResetRelease s = .next t ∧ t.sys.islandRst = [] ∧
      t.plan.spillCause = s.plan.spillCause ∧ t.rd SYS.base SYS.RST_CAUSE_ISLAND_ID = 0 := by
  have hsys : bothPtFailed (releaseIsland n s) = true := by
    unfold bothPtFailed at hb ⊢
    rw [releaseIsland_sys]
    exact hb
  have hrel : reloadPt n (releaseIsland n s) = releaseIsland n s := by
    unfold reloadPt
    rw [if_pos hsys]
  obtain ⟨t, ht⟩ : ∃ t, t = (reloadPt n (releaseIsland n s)).updSys (fun y => { y with islandRst := [] }) := ⟨_, rfl⟩
  have hstep := islandReleaseStep_eq hr hk ht
  rw [hrel] at ht
  have hboth : bothPtFailed t = true := by
    rw [ht]
    exact hsys
  rw [hboth, if_pos rfl] at hstep
  refine ⟨_, congrArg Host.Outcome.next hstep, ?_, ?_, rd_wr_self t SYS.base SYS.RST_CAUSE_ISLAND_ID 0 rfl⟩
  · rw [State.wr_sys, ht]
    rfl
  · rw [State.wr_plan, ht, State.updSys_plan, (releaseIsland_tracker hn s).2]


end

/-- Settles O55: a clause per event of the bundle, the islands, the supplies, the clocks and heat. -/
theorem bundleIslandsClocksAndHeat : Obligations.BundleIslandsClocksAndHeat :=
  ⟨fun _ hh => bundleUncorr_spills hh,
    fun _ hh => heartbeat_window hh,
    fun _ _ hh => status_window hh,
    fun s => bundleRestore_clears s,
    fun _ hh => culvertStall_faults hh,
    fun _ _ _ hr hk hb => islandRelease_clears hr hk hb,
    fun _ hv hh => vdrvUndervoltage_darkens hv hh,
    fun _ hv => vdrvReturn_clears hv,
    fun k _ hd hw => ⟨clockSelect_locks k hd hw, clockSelect_retries hd⟩,
    fun k _ hc hh => clockFault_stands k hc hh,
    fun v _ hc => clockRecover_resumes v hc,
    fun a b c d e f _ hh => ⟨_, rfl, thermMeasure_judges [a, b, c, d, e, f] hh⟩,
    fun _ hh => dDieTrip_holds hh,
    fun _ h => thermRelease_of_hot h,
    fun _ hc hh hst => thermRelease_of_cool hc hh hst,
    fun _ _ _ hr hn hk hb => islandRelease_of_both hr hn hk hb,
    fun obs _ h => clockSelect_of_not_due obs h⟩

end Sys2Proof.Machine

namespace Sys2Proof.Machine

/-! ## The tick and PT

What the functions of a tick leave of the tick number and PT: a lemma per function, in the order of the definitions. Only
`State.countPt` and `tickBegins` move them. -/

/-- The state stands at tick `τ.1` with PT `τ.2`. -/
@[irreducible] def At (τ : Nat × Nat) (s : State) : Prop := (s.tick, s.pt) = τ

theorem at_iff {τ : Nat × Nat} {s : State} : At τ s ↔ (s.tick, s.pt) = τ := by
  unfold At
  exact Iff.rfl

theorem At.congr {τ : Nat × Nat} {s t : State} (hs : At τ s) (h : (t.tick, t.pt) = (s.tick, s.pt)) : At τ t :=
  at_iff.2 (h.trans (at_iff.1 hs))

variable {τ : Nat × Nat}

theorem at_foldS {α : Type} {l : List α} {f : α → State → State} {s : State} (hf : ∀ x s, At τ s → At τ (f x s))
    (hs : At τ s) : At τ (foldS l f s) := by
  unfold foldS
  induction l generalizing s with
  | nil => exact hs
  | cons x l ih => exact ih (hf x s hs)

theorem at_ite {p : Prop} [Decidable p] {s t : State} (hs : At τ s) (ht : At τ t) : At τ (if p then s else t) := by
  split <;> assumption

theorem updBank_at (b : Fin 16) (f : Bank → Bank) (s : State) (hs : At τ s) : At τ (s.updBank b f) := hs.congr rfl

theorem updDev_at (f : Device → Device) (s : State) (hs : At τ s) : At τ (s.updDev f) := hs.congr rfl

theorem updSys_at (f : Sys → Sys) (s : State) (hs : At τ s) : At τ (s.updSys f) := hs.congr rfl

theorem State.setReg_at (s : State) (a : Nat) (w : Word) (hs : At τ s) : At τ (State.setReg s a w) := hs.congr rfl

theorem State.setAct_at (s : State) (a : Nat) (w : Word) (hs : At τ s) : At τ (State.setAct s a w) := hs.congr rfl

theorem State.wr_at (s : State) (base : Nat) (f : Fld) (v : Nat) (hs : At τ s) : At τ (State.wr s base f v) :=
  State.setReg_at _ _ _ hs

theorem State.bumpBy_at (s : State) (base : Nat) (f : Fld) (n : Nat) (hs : At τ s) : At τ (State.bumpBy s base f n) :=
  State.wr_at _ _ _ _ hs

theorem State.bump_at (s : State) (base : Nat) (f : Fld) (hs : At τ s) : At τ (State.bump s base f) :=
  State.bumpBy_at _ _ _ _ hs

theorem State.bumpWrap_at (s : State) (base : Nat) (f : Fld) (hs : At τ s) : At τ (State.bumpWrap s base f) :=
  State.wr_at _ _ _ _ hs

theorem State.err_at (s : State) (page : Nat) (hs : At τ s) : At τ (State.err s page) :=
  State.bump_at _ _ _ hs

theorem State.enter_at (s : State) (d : DevState) (hs : At τ s) : At τ (State.enter s d) := by
  unfold State.enter
  with_reducible repeat' first
    | assumption | split | (refine at_iff.2 ?_; dsimp only; refine at_iff.1 ?_)

theorem State.setRaw_at (s : State) (src : Nat) (hs : At τ s) : At τ (State.setRaw s src) := by
  unfold State.setRaw
  with_reducible repeat' first
    | assumption | split | apply State.setReg_at

theorem State.sendEvt_at (s : State) (src : Nat) (hs : At τ s) : At τ (State.sendEvt s src) := by
  unfold State.sendEvt
  with_reducible repeat' first
    | assumption | split | (refine at_iff.2 ?_; dsimp only; refine at_iff.1 ?_)

theorem State.askFreeze_at (s : State) (cause : Nat) (hs : At τ s) : At τ (State.askFreeze s cause) := hs.congr rfl

theorem State.brkSource_at (s : State) (src : Nat) (hs : At τ s) : At τ (State.brkSource s src) := by
  unfold State.brkSource
  with_reducible repeat' first
    | assumption | split | apply State.askFreeze_at

theorem State.raise_at (s : State) (src : Nat) (hs : At τ s) : At τ (State.raise s src) :=
  State.brkSource_at _ _ (State.sendEvt_at _ _ (State.setRaw_at _ _ hs))

theorem State.raiseIf_at (s : State) (c : Bool) (src : Nat) (hs : At τ s) : At τ (State.raiseIf s c src) := by
  unfold State.raiseIf
  with_reducible repeat' first
    | assumption | split | apply State.raise_at

theorem State.setFault_at (s : State) (base : Nat) (f : Fld) (src : Nat) (hs : At τ s) :
    At τ (State.setFault s base f src) := by
  unfold State.setFault
  with_reducible repeat' first
    | assumption | split | apply State.wr_at | apply State.raise_at

theorem State.updWheel_at (s : State) (w : Fin 4) (f : Wheel → Wheel) (hs : At τ s) :
    At τ (State.updWheel s w f) := hs.congr rfl

theorem State.updTrk_at (s : State) (t : Fin 2) (f : Tracker → Tracker) (hs : At τ s) :
    At τ (State.updTrk s t f) := hs.congr rfl

theorem State.updPlan_at (s : State) (f : Plan → Plan) (hs : At τ s) : At τ (State.updPlan s f) := hs.congr rfl

theorem State.updHdg_at (s : State) (f : Headgate → Headgate) (hs : At τ s) : At τ (State.updHdg s f) := hs.congr rfl

theorem State.updShp_at (s : State) (b : Fin 16) (f : Shaper → Shaper) (hs : At τ s) :
    At τ (State.updShp s b f) := hs.congr rfl

theorem State.updConv_at (s : State) (k : Fin 4) (f : Converter → Converter) (hs : At τ s) :
    At τ (State.updConv s k f) := hs.congr rfl

theorem State.updPwm_at (s : State) (n : Fin 16) (f : PwmGen → PwmGen) (hs : At τ s) :
    At τ (State.updPwm s n f) := hs.congr rfl

theorem State.updTmr_at (s : State) (n : Fin 16) (f : Timer → Timer) (hs : At τ s) :
    At τ (State.updTmr s n f) := hs.congr rfl

theorem State.updRnl_at (s : State) (e : Fin 8) (f : Runnel → Runnel) (hs : At τ s) :
    At τ (State.updRnl s e f) := hs.congr rfl

theorem State.updCore_at (s : State) (c : Fin 4) (f : Core → Core) (hs : At τ s) :
    At τ (State.updCore s c f) := hs.congr rfl

theorem State.updFlume_at (s : State) (c : Fin 32) (f : FlumeChan → FlumeChan) (hs : At τ s) :
    At τ (State.updFlume s c f) := hs.congr rfl

theorem State.updLink_at (s : State) (f : Link → Link) (hs : At τ s) : At τ (State.updLink s f) := hs.congr rfl

theorem State.updPort_at (s : State) (p : Fin 2) (f : LinkPort → LinkPort) (hs : At τ s) :
    At τ (State.updPort s p f) :=
  State.updLink_at _ _ hs

theorem State.updHost_at (s : State) (f : HostPorts → HostPorts) (hs : At τ s) :
    At τ (State.updHost s f) := hs.congr rfl

theorem State.drawFree_at (s : State) (hs : At τ s) : At τ (State.drawFree s).2 := hs.congr rfl

theorem State.actWhere_at (p : CommitPend → Bool) (s : State) (hs : At τ s) : At τ (State.actWhere p s) := by
  unfold State.actWhere
  with_reducible repeat' first
    | assumption | intro x | apply at_foldS | apply State.setAct_at
    | (refine at_iff.2 ?_; dsimp only; refine at_iff.1 ?_)

theorem State.pendCommit_at (w : ActsAt) (a : Nat) (v : Word) (s : State) (hs : At τ s) :
    At τ (State.pendCommit w a v s) := hs.congr rfl

theorem State.sendTrig_at (s : State) (dest delay : Nat) (hs : At τ s) :
    At τ (State.sendTrig s dest delay) := hs.congr rfl

theorem State.fireIn_at (s : State) (code delay : Nat) (hs : At τ s) : At τ (State.fireIn s code delay) := by
  unfold State.fireIn
  with_reducible repeat' first
    | assumption | split | intro x | apply at_foldS | apply State.sendTrig_at
    | (refine at_iff.2 ?_; dsimp only; refine at_iff.1 ?_)

theorem State.fire_at (s : State) (code : Nat) (hs : At τ s) : At τ (State.fire s code) :=
  State.fireIn_at _ _ _ hs

theorem storeClean_at (w d : Nat) (s : State) (hs : At τ s) : At τ (storeClean w d s) := hs.congr rfl

theorem storePoisoned_at (w d : Nat) (s : State) (hs : At τ s) : At τ (storePoisoned w d s) := hs.congr rfl

theorem noteCorrected_at (w : Nat) (s : State) (hs : At τ s) : At τ (noteCorrected w s) := by
  unfold noteCorrected
  with_reducible repeat' first
    | assumption | split | apply State.bump_at | apply State.setReg_at | apply State.raiseIf_at
    | (refine at_iff.2 ?_; dsimp only; refine at_iff.1 ?_)

theorem noteUncorrectable_at (w : Nat) (s : State) (hs : At τ s) : At τ (noteUncorrectable w s) := by
  unfold noteUncorrectable
  with_reducible repeat' first
    | assumption | split | apply State.bump_at | apply State.setReg_at | apply State.raise_at | apply State.wr_at
    | apply storeClean_at | apply storePoisoned_at | (refine at_iff.2 ?_; dsimp only; refine at_iff.1 ?_)

theorem readWord_at (w : Nat) (s : State) (hs : At τ s) : At τ (readWord w s).2 := by
  unfold readWord
  with_reducible repeat' first
    | assumption | split | apply noteCorrected_at | apply noteUncorrectable_at

theorem readDec_at (a n : Nat) (s : State) (hs : At τ s) : At τ (readDec a n s).2 :=
  readWord_at _ _ hs

theorem dropScrub_at (w : Nat) (s : State) (hs : At τ s) : At τ (dropScrub w s) := hs.congr rfl

theorem postEntry_at (i : Nat) (s : State) (hs : At τ s) : At τ (postEntry i s) := by
  unfold postEntry
  with_reducible repeat' first
    | assumption | split | (refine at_iff.2 ?_; dsimp only; refine at_iff.1 ?_)

theorem writeFull_at (w d : Nat) (s : State) (hs : At τ s) : At τ (writeFull w d s) := by
  unfold writeFull
  with_reducible repeat' first
    | assumption | split | apply dropScrub_at | apply storeClean_at | apply State.wr_at
    | (refine at_iff.2 ?_; dsimp only; refine at_iff.1 ?_)

theorem writePart_at (a n v : Nat) (s : State) (hs : At τ s) : At τ (writePart a n v s) := by
  unfold writePart
  with_reducible repeat' first
    | assumption | split | apply dropScrub_at | apply storeClean_at | apply noteCorrected_at | apply storePoisoned_at
    | apply noteUncorrectable_at

theorem writeDec_at (a n v : Nat) (s : State) (hs : At τ s) : At τ (writeDec a n v s) := by
  unfold writeDec
  with_reducible repeat' first
    | assumption | split | apply writeFull_at | apply writePart_at

theorem putWord_at (a d : Nat) (s : State) (hs : At τ s) : At τ (putWord a d s) :=
  writeFull_at _ _ _ hs

theorem noteMicrocode_at (j : Nat) (s : State) (hs : At τ s) : At τ (noteMicrocode j s) := by
  unfold noteMicrocode
  with_reducible repeat' first
    | assumption | apply State.drawFree_at | apply State.wr_at | apply State.bump_at | apply State.setReg_at
    | apply State.raise_at

theorem markBeat_at (port t : Nat) (s : State) (hs : At τ s) : At τ (markBeat port t s) := hs.congr rfl

theorem beatsEnd_at (s : State) (hs : At τ s) : At τ (beatsEnd s) := hs.congr rfl

theorem countBeat_at (port code t : Nat) (s : State) (hs : At τ s) : At τ (countBeat port code t s) := by
  unfold countBeat
  with_reducible repeat' first
    | assumption | split | apply State.bumpWrap_at

theorem beatAt_at (port code t : Nat) (s : State) (hs : At τ s) : At τ (beatAt port code t s) :=
  countBeat_at _ _ _ _ (markBeat_at _ _ _ hs)

theorem monBeat_at (port code : Nat) (s : State) (hs : At τ s) : At τ (monBeat port code s) :=
  beatAt_at _ _ _ _ hs

theorem busError_at (init : Initiator) (a : Nat) (write : Bool) (s : State) (hs : At τ s) :
    At τ (busError init a write s) := by
  unfold busError
  with_reducible repeat' first
    | assumption | apply State.setReg_at | apply State.raise_at | (refine at_iff.2 ?_; dsimp only; refine at_iff.1 ?_)

theorem State.respond_at (s : State) (d : Word) (hs : At τ s) : At τ (State.respond s d) := hs.congr rfl

theorem ptabAdvance_at (s : State) (hs : At τ s) : At τ (ptabAdvance s) := by
  unfold ptabAdvance
  with_reducible repeat' first
    | assumption | split | apply State.wr_at

theorem ptabLoWrite_at (v : Word) (s : State) (hs : At τ s) : At τ (ptabLoWrite v s) := hs.congr rfl

theorem ptabHiWrite_at (v : Word) (s : State) (hs : At τ s) : At τ (ptabHiWrite v s) := by
  unfold ptabHiWrite
  with_reducible repeat' first
    | assumption | split | apply State.err_at | apply ptabAdvance_at
    | (refine at_iff.2 ?_; dsimp only; refine at_iff.1 ?_)

theorem ptabLoRead_at (s : State) (hs : At τ s) : At τ (ptabLoRead s) := by
  unfold ptabLoRead
  with_reducible repeat' first
    | assumption | apply State.respond_at | (refine at_iff.2 ?_; dsimp only; refine at_iff.1 ?_)

theorem ptabHiRead_at (s : State) (hs : At τ s) : At τ (ptabHiRead s) :=
  State.respond_at _ _ (ptabAdvance_at _ hs)

theorem stampLoRead_at (w : Fin 4) (s : State) (hs : At τ s) : At τ (stampLoRead w s) :=
  State.respond_at _ _ (State.setReg_at _ _ _ hs)

theorem notePtFailed_at (t : Fin 2) (k : Nat) (s : State) (hs : At τ s) : At τ (notePtFailed t k s) := by
  unfold notePtFailed
  with_reducible repeat' first
    | assumption | split | apply updSys_at

theorem setIfault_at (t : Fin 2) (k : Nat) (s : State) (hs : At τ s) : At τ (setIfault t k s) := by
  unfold setIfault
  with_reducible repeat' first
    | assumption | split | apply notePtFailed_at | apply State.setReg_at | apply State.updTrk_at
    | apply State.raiseIf_at | (refine at_iff.2 ?_; dsimp only; refine at_iff.1 ?_)

theorem keepWheelWord_at (w : Fin 4) (off : Nat) (old : Word) (s : State) (hs : At τ s) :
    At τ (keepWheelWord w off old s) :=
  State.updWheel_at _ _ _ hs

theorem jrnPut_at (w0 w1 : Nat) (s : State) (hs : At τ s) : At τ (jrnPut w0 w1 s) := by
  unfold jrnPut
  with_reducible repeat' first
    | assumption | apply putWord_at | apply State.bumpWrap_at | apply State.raise_at | apply State.raiseIf_at

theorem tryLoss_at (s : State) (hs : At τ s) : At τ (tryLoss s) := by
  unfold tryLoss
  with_reducible repeat' first
    | assumption | split | apply jrnPut_at | apply State.updHdg_at

theorem jrnLost_at (s : State) (hs : At τ s) : At τ (jrnLost s) :=
  State.raise_at _ _ (State.updHdg_at _ _ (State.bump_at _ _ _ hs))

theorem jrnNow_at (w0 w1 : Nat) (s : State) (hs : At τ s) : At τ (jrnNow w0 w1 s) := by
  unfold jrnNow
  with_reducible repeat' first
    | assumption | lift_lets
    | (intro x; refine sup (At τ x) ?_ ?_; (on_goal 1 => subst x); (on_goal 2 => (intro _; clear_value x))) | split
    | apply tryLoss_at | apply jrnPut_at | apply jrnLost_at

theorem jrnLater_at (r : JrnRec) (s : State) (hs : At τ s) : At τ (jrnLater r s) :=
  State.updHdg_at _ _ hs

theorem jrnOther_at (w0 w1 : Nat) (s : State) (hs : At τ s) : At τ (jrnOther w0 w1 s) := by
  unfold jrnOther
  with_reducible repeat' first
    | assumption | lift_lets
    | (intro x; refine sup (At τ x) ?_ ?_; (on_goal 1 => subst x); (on_goal 2 => (intro _; clear_value x))) | split
    | apply tryLoss_at | apply jrnLater_at | apply jrnLost_at

theorem jrnClosed_at (cause angle : Nat) (s : State) (hs : At τ s) : At τ (jrnClosed cause angle s) :=
  jrnLater_at _ _ hs

theorem jrnOpened_at (angle : Nat) (s : State) (hs : At τ s) : At τ (jrnOpened angle s) :=
  jrnLater_at _ _ hs

theorem jrnAction_at (outcome code idx angle : Nat) (s : State) (hs : At τ s) :
    At τ (jrnAction outcome code idx angle s) :=
  jrnOther_at _ _ _ hs

theorem jrnPeriodic_at (core slot angle : Nat) (s : State) (hs : At τ s) : At τ (jrnPeriodic core slot angle s) :=
  jrnOther_at _ _ _ hs

theorem queueEntryBad_at (seq : Nat) (s : State) (hs : At τ s) : At τ (queueEntryBad seq s).2 :=
  readWord_at _ _ (readWord_at _ _ hs)

theorem journalHead_at (o : Order) (s : State) (hs : At τ s) : At τ (journalHead o s) := by
  unfold journalHead
  with_reducible repeat' first
    | assumption | apply queueEntryBad_at | apply tryLoss_at | apply jrnPut_at | apply State.updHdg_at

theorem drainHead_at (n : Nat) (s : State) (hs : At τ s) : At τ (drainHead n s) := by
  induction n generalizing s with
  | zero => exact hs
  | succ n ih =>
    unfold drainHead
    with_reducible repeat' first
      | assumption | split | apply ih | apply journalHead_at

theorem drainQueue_at (s : State) (hs : At τ s) : At τ (drainQueue s) :=
  drainHead_at _ _ hs

theorem jrnFlush_at (p : JrnRec → Bool) (r : JrnRec) (s : State) (hs : At τ s) : At τ (jrnFlush p r s) := by
  unfold jrnFlush
  with_reducible repeat' first
    | assumption | split | apply jrnPut_at | apply jrnNow_at

theorem flushRecs_at (s : State) (hs : At τ s) : At τ (flushRecs s) := by
  unfold flushRecs
  with_reducible repeat' first
    | assumption | apply at_foldS | apply tryLoss_at | apply State.updHdg_at | apply drainQueue_at | apply jrnFlush_at

theorem updOrder_at (seq : Nat) (f : Order → Order) (s : State) (hs : At τ s) : At τ (updOrder seq f s) :=
  State.updHdg_at _ _ hs

theorem endOrder_at (seq st reason data : Nat) (s : State) (hs : At τ s) : At τ (endOrder seq st reason data s) :=
  updOrder_at _ _ _ hs

theorem endOrdersWhere_at (p : Order → Bool) (f : Order → Nat × Nat × Nat) (s : State) (hs : At τ s) :
    At τ (endOrdersWhere p f s) :=
  State.updHdg_at _ _ hs

theorem expireOrders_at (reason : Nat) (s : State) (hs : At τ s) : At τ (expireOrders reason s) :=
  endOrdersWhere_at _ _ _ hs

theorem closeCycleOrders_at (c : Nat) (s : State) (hs : At τ s) : At τ (closeCycleOrders c s) :=
  endOrdersWhere_at _ _ _ hs

theorem applyOrder_at (slot value : Nat) (s : State) (hs : At τ s) : At τ (applyOrder slot value s) := by
  unfold applyOrder
  with_reducible repeat' first
    | assumption | apply writePart_at | (refine at_iff.2 ?_; dsimp only; refine at_iff.1 ?_)

theorem dropBadOrders_at (l : List Order) (s : State) (hs : At τ s) : At τ (dropBadOrders l s) := by
  unfold dropBadOrders
  with_reducible repeat' first
    | assumption | split | intro x | apply at_foldS | apply queueEntryBad_at | apply updOrder_at
    | (refine at_iff.2 ?_; dsimp only; refine at_iff.1 ?_)

theorem takeCutoff_at (slot : Nat) (s : State) (hs : At τ s) : At τ (takeCutoff slot s) := by
  unfold takeCutoff
  with_reducible repeat' first
    | assumption | split | intro x | apply at_foldS | apply dropBadOrders_at | apply endOrder_at | apply applyOrder_at
    | apply updOrder_at | apply State.updPlan_at

theorem acceptOrder_at (n : Nat) (b : Staging) (s : State) (hs : At τ s) : At τ (acceptOrder n b s) := by
  unfold acceptOrder
  with_reducible repeat' first
    | assumption | split | apply putWord_at | apply State.updHdg_at | apply State.wr_at | apply State.raiseIf_at
    | apply endOrder_at | (refine at_iff.2 ?_; dsimp only; refine at_iff.1 ?_)

theorem updStaging_at (j : Fin 8) (f : Staging → Staging) (s : State) (hs : At τ s) : At τ (updStaging j f s) :=
  State.updHdg_at _ _ hs

theorem submit_at (j : Fin 8) (s : State) (hs : At τ s) : At τ (submit j s) := by
  unfold submit
  with_reducible repeat' first
    | assumption | split | apply acceptOrder_at | apply State.bump_at | apply State.raise_at | apply updStaging_at

theorem subWriteStep_at (init : Initiator) (n : Fin 3) (v : Word) (s : State) (hs : At τ s) :
    At τ (subWriteStep init n v s) := by
  unfold subWriteStep
  with_reducible repeat' first
    | assumption | split | apply busError_at | apply State.err_at | apply updStaging_at

theorem sub3Step_at (init : Initiator) (v : Word) (s : State) (hs : At τ s) : At τ (sub3Step init v s) := by
  unfold sub3Step
  with_reducible repeat' first
    | assumption | split | apply busError_at | apply State.err_at | apply submit_at | apply updStaging_at
    | apply State.respond_at

theorem sub3Bus_at (init : Initiator) (v : Word) (s : State) (hs : At τ s) : At τ (sub3Bus init v s) := by
  unfold sub3Bus
  with_reducible repeat' first
    | assumption | split | apply State.updHdg_at | apply sub3Step_at

theorem jrnRdStep_at (v : Word) (s : State) (hs : At τ s) : At τ (jrnRdStep v s) :=
  State.updHdg_at _ _ hs

theorem jrnRdAct_at (v : Word) (s : State) (hs : At τ s) : At τ (jrnRdAct v s) := by
  unfold jrnRdAct
  with_reducible repeat' first
    | assumption | lift_lets | (intro x; clear_value x) | split | apply State.wr_at | apply State.err_at

theorem jrnRdEnd_at (s : State) (hs : At τ s) : At τ (jrnRdEnd s) := by
  unfold jrnRdEnd
  with_reducible repeat' first
    | assumption | apply at_foldS | apply jrnRdAct_at | apply State.updHdg_at

theorem flumeSubsEnd_at (s : State) (hs : At τ s) : At τ (flumeSubsEnd s) := by
  unfold flumeSubsEnd
  with_reducible repeat' first
    | assumption | apply at_foldS | apply sub3Step_at | apply State.updHdg_at

theorem recordsEnd_at (s : State) (hs : At τ s) : At τ (recordsEnd s) := by
  unfold recordsEnd
  with_reducible repeat' first
    | assumption | split | apply flushRecs_at

theorem undoGovClear_at (s : State) (hs : At τ s) : At τ (undoGovClear s) := by
  unfold undoGovClear
  with_reducible repeat' first
    | assumption | split | apply State.enter_at | apply State.err_at | apply State.setReg_at | apply State.updPlan_at
    | (refine at_iff.2 ?_; dsimp only; refine at_iff.1 ?_)

theorem markViolation_at (s : State) (hs : At τ s) : At τ (markViolation s) := hs.congr rfl

theorem violation_at (cause src : Nat) (s : State) (hs : At τ s) : At τ (violation cause src s) := by
  unfold violation
  with_reducible repeat' first
    | assumption | split | apply undoGovClear_at | apply markViolation_at | apply State.bump_at | apply State.raise_at
    | apply State.wr_at | apply State.enter_at | (refine at_iff.2 ?_; dsimp only; refine at_iff.1 ?_)

theorem enterRunning_at (s : State) (hs : At τ s) : At τ (enterRunning s) := by
  unfold enterRunning
  with_reducible repeat' first
    | assumption | split | apply State.enter_at | apply State.raise_at

theorem updActs_at (f : List Act → List Act) (s : State) (hs : At τ s) : At τ (updActs f s) :=
  State.updPlan_at _ _ hs

theorem updAct_at (serial : Nat) (f : Act → Act) (s : State) (hs : At τ s) : At τ (updAct serial f s) :=
  updActs_at _ _ hs

theorem dropActEntry_at (serial : Nat) (s : State) (hs : At τ s) : At τ (dropActEntry serial s) :=
  updActs_at _ _ hs

theorem flagOrder_at (a : Act) (s : State) (hs : At τ s) : At τ (flagOrder a s) := by
  unfold flagOrder
  with_reducible repeat' first
    | assumption | split | apply updOrder_at

theorem truncateAct_at (angle : Nat) (a : Act) (s : State) (hs : At τ s) : At τ (truncateAct angle a s) := by
  unfold truncateAct
  with_reducible repeat' first
    | assumption | split | apply dropActEntry_at | apply flagOrder_at | apply endOrder_at | apply jrnAction_at

theorem dropAct_at (reason : Nat) (a : Act) (s : State) (hs : At τ s) : At τ (dropAct reason a s) := by
  unfold dropAct
  with_reducible repeat' first
    | assumption | split | apply dropActEntry_at | apply flagOrder_at | apply endOrder_at | apply jrnAction_at

theorem applyAct_at (a : Act) (s : State) (hs : At τ s) : At τ (applyAct a s) := by
  unfold applyAct
  with_reducible repeat' first
    | assumption | split | apply dropActEntry_at | apply flagOrder_at | apply endOrder_at

theorem truncateWhere_at (p : Act → Bool) (angle : Nat) (s : State) (hs : At τ s) :
    At τ (truncateWhere p angle s) := by
  unfold truncateWhere
  with_reducible repeat' first
    | assumption | apply at_foldS | apply truncateAct_at

theorem orderProgress_at (a : Act) (n : Nat) (s : State) (hs : At τ s) : At τ (orderProgress a n s) := by
  unfold orderProgress
  with_reducible repeat' first
    | assumption | split | apply updOrder_at

theorem contention_at (excused : Bool) (s : State) (hs : At τ s) : At τ (contention excused s) := by
  unfold contention
  with_reducible repeat' first
    | assumption | split | apply State.bump_at | apply violation_at

theorem countShadow_at (a : Act) (s : State) (hs : At τ s) : At τ (countShadow a s) := by
  unfold countShadow
  with_reducible repeat' first
    | assumption | split | apply State.bump_at

theorem moveMux_at (k : Fin 4) (s : State) (hs : At τ s) : At τ (moveMux k s) :=
  State.updConv_at _ _ _ hs

theorem sampleCaptures_at (s : State) (hs : At τ s) : At τ (sampleCaptures s) := by
  unfold sampleCaptures
  with_reducible repeat' first
    | assumption | split | intro x | apply at_foldS | apply moveMux_at

theorem restartRing_at (k : Fin 4) (r : Nat) (s : State) (hs : At τ s) : At τ (restartRing k r s) := by
  unfold restartRing
  with_reducible repeat' first
    | assumption | apply State.updConv_at | apply State.wr_at

theorem actConv_at (k : Fin 4) (p : CommitPend → Bool) (s : State) (hs : At τ s) : At τ (actConv k p s) := by
  unfold actConv
  with_reducible repeat' first
    | assumption | split | intro x | apply at_foldS | apply State.actWhere_at | apply State.updConv_at
    | apply moveMux_at | apply restartRing_at

theorem convScanStart_at (k : Fin 4) (s : State) (hs : At τ s) : At τ (convScanStart k s) := by
  unfold convScanStart
  with_reducible repeat' first
    | assumption | apply actConv_at | (refine at_iff.2 ?_; dsimp only; refine at_iff.1 ?_)

theorem beginScan_at (k : Fin 4) (x : Scan) (at_ : Nat) (s : State) (hs : At τ s) : At τ (beginScan k x at_ s) :=
  moveMux_at _ _ (State.updConv_at _ _ _ hs)

end Sys2Proof.Machine

namespace Sys2Proof.Machine

/-! ### Converters, cores, PWM, banks, the plan -/

variable {τ : Nat × Nat}

theorem claimConv_at (k : Fin 4) (a : Act) (s : State) (hs : At τ s) : At τ (claimConv k a s) := by
  unfold claimConv
  with_reducible repeat' first
    | assumption | split | apply convScanStart_at | apply State.bump_at | apply State.wr_at | apply State.updConv_at
    | apply updAct_at | apply beginScan_at | (refine at_iff.2 ?_; dsimp only; refine at_iff.1 ?_)

theorem resumeScan_at (k : Fin 4) (x : Scan) (s : State) (hs : At τ s) : At τ (resumeScan k x s) :=
  beginScan_at _ _ _ _ (State.updConv_at _ _ _ (convScanStart_at _ _ hs))

theorem grantSlot_at (k : Fin 4) (j : Fin 4) (s : State) (hs : At τ s) : At τ (grantSlot k j s) := by
  unfold grantSlot
  with_reducible repeat' first
    | assumption | split | apply convScanStart_at | apply State.updConv_at | apply State.bump_at | apply beginScan_at
    | (refine at_iff.2 ?_; dsimp only; refine at_iff.1 ?_)

theorem claimWaiting_at (k : Fin 4) (s : State) (hs : At τ s) : At τ (claimWaiting k s) := by
  unfold claimWaiting
  with_reducible repeat' first
    | assumption | split | apply State.updConv_at | apply claimConv_at | apply dropAct_at
    | (refine at_iff.2 ?_; dsimp only; refine at_iff.1 ?_)

theorem serveConv_at (k : Fin 4) (s : State) (hs : At τ s) : At τ (serveConv k s) := by
  unfold serveConv
  with_reducible repeat' first
    | assumption | split | intro x | apply at_foldS | apply claimWaiting_at | apply resumeScan_at | apply grantSlot_at
    | apply moveMux_at | (refine at_iff.2 ?_; dsimp only; refine at_iff.1 ?_)

theorem ungrant_at (k j : Fin 4) (s : State) (hs : At τ s) : At τ (ungrant k j s) := by
  unfold ungrant
  with_reducible repeat' first
    | assumption | split | apply State.updConv_at

theorem slotPends_at (k j : Fin 4) (s : State) (hs : At τ s) : At τ (slotPends k j s) :=
  serveConv_at _ _ (State.updConv_at _ _ _ (ungrant_at _ _ _ hs))

theorem judgeTrigger_at (k j : Fin 4) (s : State) (hs : At τ s) : At τ (judgeTrigger k j s) := by
  unfold judgeTrigger
  with_reducible repeat' first
    | assumption | split | apply State.bump_at | apply State.raise_at | apply slotPends_at | apply State.updConv_at
    | (refine at_iff.2 ?_; dsimp only; refine at_iff.1 ?_)

theorem convSoftStep_at (k : Fin 4) (v : Word) (s : State) (hs : At τ s) : At τ (convSoftStep k v s) := by
  unfold convSoftStep
  with_reducible repeat' first
    | assumption | split | intro x | apply at_foldS | apply judgeTrigger_at

theorem calEnd_at (k : Fin 4) (res : Nat) (s : State) (hs : At τ s) : At τ (calEnd k res s) := by
  unfold calEnd
  with_reducible repeat' first
    | assumption | apply State.updConv_at | apply State.wr_at | apply State.raise_at

theorem calStartStep_at (full : Bool) (k : Fin 4) (s : State) (hs : At τ s) : At τ (calStartStep full k s) := by
  unfold calStartStep
  with_reducible repeat' first
    | assumption | split | apply State.err_at | apply State.updConv_at | apply State.wr_at

theorem calAbortStep_at (k : Fin 4) (s : State) (hs : At τ s) : At τ (calAbortStep k s) := by
  unfold calAbortStep
  with_reducible repeat' first
    | assumption | split | apply calEnd_at

theorem endScan_at (k : Fin 4) (x : Scan) (s : State) (hs : At τ s) : At τ (endScan k x s) := by
  unfold endScan
  with_reducible repeat' first
    | assumption | split | apply State.bumpWrap_at | apply dropActEntry_at | apply State.raiseIf_at

theorem settleConv_at (k : Fin 4) (s : State) (hs : At τ s) : At τ (settleConv k s) := by
  unfold settleConv
  with_reducible repeat' first
    | assumption | split | apply endScan_at | apply State.updConv_at | apply serveConv_at

theorem ringMarkStep_at (k : Fin 4) (r : Fin 8) (v : Word) (s : State) (hs : At τ s) :
    At τ (ringMarkStep k r v s) := by
  unfold ringMarkStep
  with_reducible repeat' first
    | assumption | lift_lets | intro x | split | apply State.wr_at | apply State.err_at

theorem sumLoReadStep_at (k : Fin 4) (p : Fin 21) (s : State) (hs : At τ s) : At τ (sumLoReadStep k p s) := by
  unfold sumLoReadStep
  with_reducible repeat' first
    | assumption | split | apply State.wr_at | apply State.updConv_at | apply State.respond_at

theorem scanLoReadStep_at (s : State) (hs : At τ s) : At τ (scanLoReadStep s) := by
  unfold scanLoReadStep
  with_reducible repeat' first
    | assumption | apply State.wr_at | apply State.respond_at

theorem dacWriteStep_at (v : Word) (s : State) (hs : At τ s) : At τ (dacWriteStep v s) := by
  unfold dacWriteStep
  with_reducible repeat' first
    | assumption | split | apply State.wr_at | (refine at_iff.2 ?_; dsimp only; refine at_iff.1 ?_)

theorem spillClaim_at (k : Fin 4) (s : State) (hs : At τ s) : At τ (spillClaim k s) := by
  unfold spillClaim
  with_reducible repeat' first
    | assumption | split | apply claimConv_at

theorem unsample_at (k : Fin 4) (s : State) (hs : At τ s) : At τ (unsample k s) := by
  unfold unsample
  with_reducible repeat' first
    | assumption | split | apply updOrder_at | apply State.updConv_at

theorem spillSamples_at (s : State) (hs : At τ s) : At τ (spillSamples s) := by
  unfold spillSamples
  with_reducible repeat' first
    | assumption | intro x | apply at_foldS | apply unsample_at | apply spillClaim_at

theorem spillConv_at (k : Fin 4) (s : State) (hs : At τ s) : At τ (spillConv k s) :=
  settleConv_at _ _ (State.updConv_at _ _ _ hs)

theorem State.setCsrc_at (s : State) (n : Nat) (x : CatchSrc) (hs : At τ s) :
    At τ (State.setCsrc s n x) := hs.congr rfl

theorem tryPend_at (n since : Nat) (s : State) (hs : At τ s) : At τ (tryPend n since s) := by
  unfold tryPend
  with_reducible repeat' first
    | assumption | split | apply State.setCsrc_at | apply State.bumpWrap_at
    | (refine at_iff.2 ?_; dsimp only; refine at_iff.1 ?_)

theorem completeStep_at (t n : Nat) (s : State) (hs : At τ s) : At τ (completeStep t n s) := by
  unfold completeStep
  with_reducible repeat' first
    | assumption | split | apply State.setCsrc_at | apply State.bump_at | apply State.wr_at
    | (refine at_iff.2 ?_; dsimp only; refine at_iff.1 ?_)

theorem catchTick_at (s : State) (hs : At τ s) : At τ (catchTick s) := by
  unfold catchTick
  with_reducible repeat' first
    | assumption | intro x | apply at_foldS | apply tryPend_at | apply State.setCsrc_at

theorem catchRetest_at (s : State) (hs : At τ s) : At τ (catchRetest s) := by
  unfold catchRetest
  with_reducible repeat' first
    | assumption | split | intro x | apply at_foldS | apply tryPend_at

theorem countWrite_at (n : Nat) (s : State) (hs : At τ s) : At τ (countWrite n s) :=
  State.wr_at _ _ _ _ hs

theorem deadlineAct_at (idx : Nat) (order : Option Nat) (s : State) (hs : At τ s) :
    At τ (deadlineAct idx order s) := by
  unfold deadlineAct
  with_reducible repeat' first
    | assumption | split | apply jrnAction_at | apply updOrder_at

theorem deadlineRecord_at (c : Fin 4) (t : TaskRun) (s : State) (hs : At τ s) : At τ (deadlineRecord c t s) := by
  unfold deadlineRecord
  with_reducible repeat' first
    | assumption | split | apply deadlineAct_at | apply jrnPeriodic_at

theorem noteOverrun_at (c : Fin 4) (t : TaskRun) (s : State) (hs : At τ s) : At τ (noteOverrun c t s) := by
  unfold noteOverrun
  with_reducible repeat' first
    | assumption | split | apply State.updCore_at | apply violation_at

theorem coreFault_at (cause : Nat) (c : Fin 4) (s : State) (hs : At τ s) : At τ (coreFault cause c s) := by
  unfold coreFault
  with_reducible repeat' first
    | assumption | split | apply State.setReg_at | apply State.raise_at | apply State.updCore_at
    | apply noteOverrun_at | apply deadlineRecord_at | (refine at_iff.2 ?_; dsimp only; refine at_iff.1 ?_)

theorem updBankOf_at (c : Fin 4) (task : Bool) (f : CoreBank → CoreBank) (s : State) (hs : At τ s) :
    At τ (updBankOf c task f s) :=
  State.updCore_at _ _ _ hs

theorem coresEpochClose_at (s : State) (hs : At τ s) : At τ (coresEpochClose s) := by
  unfold coresEpochClose
  with_reducible repeat' first
    | assumption | intro x | apply at_foldS | apply State.updCore_at

theorem taskDone_at (c : Fin 4) (t : TaskRun) (s : State) (hs : At τ s) : At τ (taskDone c t s) := by
  unfold taskDone
  with_reducible repeat' first
    | assumption | split | apply noteOverrun_at | apply State.updCore_at

theorem slotsFromNow_at (c : Fin 4) (s : State) (hs : At τ s) : At τ (slotsFromNow c s) :=
  State.updCore_at _ _ _ hs

theorem coreRestartStep_at (c : Fin 4) (s : State) (hs : At τ s) : At τ (coreRestartStep c s) :=
  State.wr_at _ _ _ _ hs

theorem envelopeEdge_at (n v stamp : Nat) (resume : Bool) (s : State) (hs : At τ s) :
    At τ (envelopeEdge n v stamp resume s) := by
  unfold envelopeEdge
  with_reducible repeat' first
    | assumption | split | apply State.updPlan_at | apply violation_at
    | (refine at_iff.2 ?_; dsimp only; refine at_iff.1 ?_)

theorem dueEnvelope_at (s : State) (hs : At τ s) : At τ (dueEnvelope s) := by
  unfold dueEnvelope
  with_reducible repeat' first
    | assumption | split | apply envelopeEdge_at | (refine at_iff.2 ?_; dsimp only; refine at_iff.1 ?_)

theorem pwmFlag_at (n : Fin 16) (f : Fld) (s : State) (hs : At τ s) : At τ (pwmFlag n f s) :=
  State.setFault_at _ _ _ _ hs

theorem putOutputs_at (n : Fin 16) (a b live : Bool) (s : State) (hs : At τ s) : At τ (putOutputs n a b live s) := by
  unfold putOutputs
  with_reducible repeat' first
    | assumption | apply State.updPwm_at

theorem takeForce_at (n : Fin 16) (s : State) (hs : At τ s) : At τ (takeForce n s) := by
  unfold takeForce
  with_reducible repeat' first
    | assumption | split | apply State.updPwm_at

theorem noteForces_at (n : Fin 16) (s : State) (hs : At τ s) : At τ (noteForces n s) := by
  unfold noteForces
  with_reducible repeat' first
    | assumption | split | apply State.updPwm_at | apply pwmFlag_at | apply State.wr_at
    | (refine at_iff.2 ?_; dsimp only; refine at_iff.1 ?_)

theorem settlePwm_at (n : Fin 16) (s : State) (hs : At τ s) : At τ (settlePwm n s) := by
  unfold settlePwm
  with_reducible repeat' first
    | assumption | split | apply putOutputs_at | apply noteForces_at | apply takeForce_at
    | (refine at_iff.2 ?_; dsimp only; refine at_iff.1 ?_)

theorem settleAll_at (s : State) (hs : At τ s) : At τ (settleAll s) := by
  unfold settleAll
  with_reducible repeat' first
    | assumption | apply at_foldS | apply settlePwm_at

theorem settleSafe_at (n : Fin 16) (s : State) (hs : At τ s) : At τ (settleSafe n s) := by
  unfold settleSafe
  with_reducible repeat' first
    | assumption | split | apply settlePwm_at

theorem tripPwm_at (n : Fin 16) (s : State) (hs : At τ s) : At τ (tripPwm n s) := by
  unfold tripPwm
  with_reducible repeat' first
    | assumption | apply pwmFlag_at | apply State.bump_at | apply settlePwm_at | apply State.updPwm_at

theorem judgeTrip_at (n : Fin 16) (s : State) (hs : At τ s) : At τ (judgeTrip n s) := by
  unfold judgeTrip
  with_reducible repeat' first
    | assumption | split | apply tripPwm_at | (refine at_iff.2 ?_; dsimp only; refine at_iff.1 ?_)

theorem tripClearStep_at (n : Fin 16) (s : State) (hs : At τ s) : At τ (tripClearStep n s) := by
  unfold tripClearStep
  with_reducible repeat' first
    | assumption | split | apply State.err_at | apply State.wr_at

theorem requestLoad_at (g : Nat) (s : State) (hs : At τ s) : At τ (requestLoad g s) := by
  unfold requestLoad
  with_reducible repeat' first
    | assumption | split | intro x | apply at_foldS | apply State.updPwm_at

theorem clearLoadAll_at (s : State) (hs : At τ s) : At τ (clearLoadAll s) := by
  unfold clearLoadAll
  with_reducible repeat' first
    | assumption | split | intro x | apply at_foldS | apply State.wr_at
    | (refine at_iff.2 ?_; dsimp only; refine at_iff.1 ?_)

theorem actShadow_at (a : Nat) (s : State) (hs : At τ s) : At τ (actShadow a s) :=
  State.setAct_at _ _ _ hs

theorem loadDone_at (n : Fin 16) (s : State) (hs : At τ s) : At τ (loadDone n s) := by
  unfold loadDone
  with_reducible repeat' first
    | assumption | split | apply State.updPwm_at | apply State.bumpWrap_at | apply pwmFlag_at | apply clearLoadAll_at

theorem actLoad_at (n : Fin 16) (s : State) (hs : At τ s) : At τ (actLoad n s) :=
  actShadow_at _ _ (actShadow_at _ _ (actShadow_at _ _ (actShadow_at _ _ hs)))

theorem noteZero_at (n : Fin 16) (s : State) (hs : At τ s) : At τ (noteZero n s) := by
  unfold noteZero
  with_reducible repeat' first
    | assumption | split | apply pwmFlag_at

theorem followLoad_at (m : Fin 16) (old : Nat) (n : Fin 16) (s : State) (hs : At τ s) :
    At τ (followLoad m old n s) := by
  unfold followLoad
  with_reducible repeat' first
    | assumption | split | apply actShadow_at | apply State.updPwm_at | apply settlePwm_at | apply noteZero_at

theorem takeLoad_at (starts : Bool) (n : Fin 16) (s : State) (hs : At τ s) : At τ (takeLoad starts n s) := by
  unfold takeLoad
  with_reducible repeat' first
    | assumption | split | apply at_foldS | apply loadDone_at | apply actLoad_at | apply actShadow_at
    | apply followLoad_at | apply noteZero_at | (refine at_iff.2 ?_; dsimp only; refine at_iff.1 ?_)

theorem takeDead_at (n : Fin 16) (at_ : Nat) (s : State) (hs : At τ s) : At τ (takeDead n at_ s) := by
  unfold takeDead
  with_reducible repeat' first
    | assumption | apply State.wr_at | apply State.updPwm_at

theorem startRefresh_at (n : Fin 16) (s : State) (hs : At τ s) : At τ (startRefresh n s) := by
  unfold startRefresh
  with_reducible repeat' first
    | assumption | split | apply pwmFlag_at | apply State.bump_at | apply State.updPwm_at
    | (refine at_iff.2 ?_; dsimp only; refine at_iff.1 ?_)

theorem actPwm_at (n : Fin 16) (s : State) (hs : At τ s) : At τ (actPwm n s) :=
  State.actWhere_at _ _ hs

theorem beginPeriod_at (n : Fin 16) (s : State) (hs : At τ s) : At τ (beginPeriod n s) :=
  State.updPwm_at _ _ _ hs

theorem periodTrigger_at (n : Fin 16) (s : State) (hs : At τ s) : At τ (periodTrigger n s) := by
  unfold periodTrigger
  with_reducible repeat' first
    | assumption | split | apply State.fire_at

theorem openPeriod_at (n : Fin 16) (start : Int) (whole starts : Bool) (s : State) (hs : At τ s) :
    At τ (openPeriod n start whole starts s) := by
  unfold openPeriod
  with_reducible repeat' first
    | assumption | split | apply actPwm_at | apply State.updPwm_at | apply beginPeriod_at | apply takeDead_at
    | apply noteZero_at | apply takeLoad_at | apply settlePwm_at | apply startRefresh_at | apply periodTrigger_at

theorem startGen_at (n : Fin 16) (s : State) (hs : At τ s) : At τ (startGen n s) := by
  unfold startGen
  with_reducible repeat' first
    | assumption | split | apply State.updPwm_at | apply actShadow_at | apply openPeriod_at

theorem startDue_at (s : State) (hs : At τ s) : At τ (startDue s) := by
  unfold startDue
  with_reducible repeat' first
    | assumption | apply at_foldS | apply startGen_at

theorem stopGen_at (n : Fin 16) (s : State) (hs : At τ s) : At τ (stopGen n s) :=
  actPwm_at _ _ (State.updPwm_at _ _ _ hs)

theorem pwmRunStep_at (v : Word) (s : State) (hs : At τ s) : At τ (pwmRunStep v s) := by
  unfold pwmRunStep
  with_reducible repeat' first
    | assumption | split | intro x | apply at_foldS | apply State.wr_at | apply State.updPwm_at | apply startDue_at
    | apply settleAll_at | apply stopGen_at

theorem resumePwm_at (s : State) (hs : At τ s) : At τ (resumePwm s) := by
  unfold resumePwm
  with_reducible repeat' first
    | assumption | split | apply at_foldS | apply settleSafe_at | apply startDue_at

theorem loadAllStep_at (v : Word) (s : State) (hs : At τ s) : At τ (loadAllStep v s) := by
  unfold loadAllStep
  with_reducible repeat' first
    | assumption | split | intro x | apply at_foldS | apply State.wr_at | apply clearLoadAll_at | apply requestLoad_at

theorem noteSoft_at (n : Fin 16) (off : Nat) (s : State) (hs : At τ s) : At τ (noteSoft n off s) :=
  State.updPwm_at _ _ _ hs

theorem pwmForceStep_at (n : Fin 16) (v : Word) (s : State) (hs : At τ s) : At τ (pwmForceStep n v s) := by
  unfold pwmForceStep
  with_reducible repeat' first
    | assumption | split | apply takeForce_at | apply State.wr_at | apply settlePwm_at | apply State.updPwm_at

theorem spillPwm_at (untilArm : Bool) (s : State) (hs : At τ s) : At τ (spillPwm untilArm s) := by
  unfold spillPwm
  with_reducible repeat' first
    | assumption | split | intro x | apply at_foldS | apply settleAll_at | apply State.updPwm_at

theorem releasePwm_at (why : HoldEnd) (s : State) (hs : At τ s) : At τ (releasePwm why s) := by
  unfold releasePwm
  with_reducible repeat' first
    | assumption | intro x | apply at_foldS | apply State.updPwm_at

theorem levSwitch_at (u : Nat) (on : Bool) (s : State) (hs : At τ s) : At τ (levSwitch u on s) := hs.congr rfl

theorem leveeRestart_at (s : State) (hs : At τ s) : At τ (leveeRestart s) := hs.congr rfl

theorem shpFlag_at (b : Fin 16) (k : Nat) (s : State) (hs : At τ s) : At τ (shpFlag b k s) := by
  unfold shpFlag
  with_reducible repeat' first
    | assumption | split | apply State.setReg_at | apply State.raise_at
    | (refine at_iff.2 ?_; dsimp only; refine at_iff.1 ?_)

theorem clearDip_at (b : Fin 16) (s : State) (hs : At τ s) : At τ (clearDip b s) :=
  State.updShp_at _ _ _ hs

theorem closeDip_at (b : Fin 16) (s : State) (hs : At τ s) : At τ (closeDip b s) := by
  unfold closeDip
  with_reducible repeat' first
    | assumption | split | apply clearDip_at | apply shpFlag_at | apply State.bump_at
    | (refine at_iff.2 ?_; dsimp only; refine at_iff.1 ?_)

theorem levFollow_at (b : Fin 16) (m : Nat) (s : State) (hs : At τ s) : At τ (levFollow b m s) := by
  unfold levFollow
  with_reducible repeat' first
    | assumption | intro x | apply at_foldS | apply levSwitch_at

theorem sendMask_at (b : Fin 16) (m : Nat) (s : State) (hs : At τ s) : At τ (sendMask b m s) :=
  updBank_at _ _ _ hs

theorem setMask_at (b : Fin 16) (m : Nat) (s : State) (hs : At τ s) : At τ (setMask b m s) := by
  unfold setMask
  with_reducible repeat' first
    | assumption | split | apply State.setFault_at | apply closeDip_at | apply sendMask_at | apply levFollow_at
    | apply updBank_at | (refine at_iff.2 ?_; dsimp only; refine at_iff.1 ?_)

theorem fastDecay_at (b : Fin 16) (s : State) (hs : At τ s) : At τ (fastDecay b s) := by
  unfold fastDecay
  with_reducible repeat' first
    | assumption | split | apply sendMask_at | apply setMask_at

theorem gateReached_at (b : Fin 16) (m : Nat) (s : State) (hs : At τ s) : At τ (gateReached b m s) := by
  unfold gateReached
  with_reducible repeat' first
    | assumption | apply updBank_at

theorem gatesDue_at (b : Fin 16) (s : State) (hs : At τ s) : At τ (gatesDue b s) := by
  unfold gatesDue
  with_reducible repeat' first
    | assumption | split | intro x | apply at_foldS | apply gateReached_at | apply updBank_at
    | (refine at_iff.2 ?_; dsimp only; refine at_iff.1 ?_)

theorem gatesTick_at (s : State) (hs : At τ s) : At τ (gatesTick s) := by
  unfold gatesTick
  with_reducible repeat' first
    | assumption | split | apply at_foldS | apply gatesDue_at

theorem stopShaper_at (b : Fin 16) (s : State) (hs : At τ s) : At τ (stopShaper b s) := by
  unfold stopShaper
  with_reducible repeat' first
    | assumption | split | apply noteMicrocode_at | apply State.updShp_at

theorem spillBank_at (b : Fin 16) (s : State) (hs : At τ s) : At τ (spillBank b s) := by
  unfold spillBank
  with_reducible repeat' first
    | assumption | apply fastDecay_at | apply stopShaper_at | apply updBank_at

theorem dropPromise_at (b : Fin 16) (s : State) (hs : At τ s) : At τ (dropPromise b s) := by
  unfold dropPromise
  with_reducible repeat' first
    | assumption | split | apply updBank_at

theorem sluiceDrop_at (b : Fin 16) (a : Act) (s : State) (hs : At τ s) : At τ (sluiceDrop b a s) :=
  dropAct_at _ _ _ (State.raise_at _ _ (State.bump_at _ _ _ hs))

theorem restartWaits_at (b : Fin 16) (a : Act) (s : State) (hs : At τ s) : At τ (restartWaits b a s) := by
  unfold restartWaits
  with_reducible repeat' first
    | assumption | split | apply sluiceDrop_at | apply contention_at | apply updBank_at
    | (refine at_iff.2 ?_; dsimp only; refine at_iff.1 ?_)

theorem restartsWait_at (b : Fin 16) (s : State) (hs : At τ s) : At τ (restartsWait b s) := by
  unfold restartsWait
  with_reducible repeat' first
    | assumption | apply at_foldS | apply restartWaits_at | apply updBank_at

theorem actUnlock_at (b : Fin 16) (s : State) (hs : At τ s) : At τ (actUnlock b s) := by
  unfold actUnlock
  with_reducible repeat' first
    | assumption | apply State.setReg_at | apply updBank_at

theorem bankUnlockStep_at (b : Fin 16) (v : Word) (s : State) (hs : At τ s) : At τ (bankUnlockStep b v s) := by
  unfold bankUnlockStep
  with_reducible repeat' first
    | assumption | split | apply State.setReg_at | apply actUnlock_at
    | (refine at_iff.2 ?_; dsimp only; refine at_iff.1 ?_)

theorem filterDelay_at (b : Fin 16) (s : State) (hs : At τ s) : At τ (filterDelay b s) := by
  unfold filterDelay
  with_reducible repeat' first
    | assumption | split | apply State.wr_at | (refine at_iff.2 ?_; dsimp only; refine at_iff.1 ?_)

theorem normalEndStep_at (b : Fin 16) (s : State) (hs : At τ s) : At τ (normalEndStep b s) := by
  unfold normalEndStep
  with_reducible repeat' first
    | assumption | split | apply filterDelay_at | apply applyAct_at | apply State.updShp_at | apply restartsWait_at
    | apply updBank_at | (refine at_iff.2 ?_; dsimp only; refine at_iff.1 ?_)

theorem snapshotTrims_at (trev : Nat) (s : State) (hs : At τ s) : At τ (snapshotTrims trev s) := by
  unfold snapshotTrims
  with_reducible repeat' first
    | assumption | apply State.wr_at | (refine at_iff.2 ?_; dsimp only; refine at_iff.1 ?_)

theorem swapTrims_at (s : State) (hs : At τ s) : At τ (swapTrims s) := by
  unfold swapTrims
  with_reducible repeat' first
    | assumption | split | intro x | apply at_foldS | apply State.wr_at | apply State.bumpWrap_at
    | apply State.bump_at | apply State.err_at | (refine at_iff.2 ?_; dsimp only; refine at_iff.1 ?_)

theorem spillTio_at (s : State) (hs : At τ s) : At τ (spillTio s) := by
  unfold spillTio
  with_reducible repeat' first
    | assumption | split | intro x | apply at_foldS | apply State.updTmr_at | apply State.fire_at
    | (refine at_iff.2 ?_; dsimp only; refine at_iff.1 ?_)

theorem releaseTio_at (s : State) (hs : At τ s) : At τ (releaseTio s) := by
  unfold releaseTio
  with_reducible repeat' first
    | assumption | intro x | apply at_foldS | apply State.updTmr_at

theorem stopTimer_at (n : Fin 16) (s : State) (hs : At τ s) : At τ (stopTimer n s) := by
  unfold stopTimer
  with_reducible repeat' first
    | assumption | apply State.wr_at | (refine at_iff.2 ?_; dsimp only; refine at_iff.1 ?_)

theorem gateChange_at (n : Fin 16) (s : State) (hs : At τ s) : At τ (gateChange n s) := by
  unfold gateChange
  with_reducible repeat' first
    | assumption | split | apply State.updTmr_at | (refine at_iff.2 ?_; dsimp only; refine at_iff.1 ?_)

theorem gateActs_at (n : Fin 16) (s : State) (hs : At τ s) : At τ (gateActs n s) := by
  unfold gateActs
  with_reducible repeat' first
    | assumption | split | apply State.updTmr_at | apply gateChange_at
    | (refine at_iff.2 ?_; dsimp only; refine at_iff.1 ?_)

theorem tioMoved_at (n : Fin 16) (before : Bool) (s : State) (hs : At τ s) : At τ (tioMoved n before s) := by
  unfold tioMoved
  with_reducible repeat' first
    | assumption | split | apply State.fire_at

theorem startTimer_at (n : Fin 16) (s : State) (hs : At τ s) : At τ (startTimer n s) := by
  unfold startTimer
  with_reducible repeat' first
    | assumption | apply State.wr_at | apply State.updTmr_at

theorem tmrRunStep_at (v : Word) (s : State) (hs : At τ s) : At τ (tmrRunStep v s) := by
  unfold tmrRunStep
  with_reducible repeat' first
    | assumption | split | intro x | apply at_foldS | apply startTimer_at | apply stopTimer_at

theorem cmpWriteStep_at (n : Fin 16) (v : Word) (s : State) (hs : At τ s) : At τ (cmpWriteStep n v s) := by
  unfold cmpWriteStep
  with_reducible repeat' first
    | assumption | apply State.wr_at | apply State.updTmr_at

theorem tmrSoftStep_at (v : Word) (s : State) (hs : At τ s) : At τ (tmrSoftStep v s) := by
  unfold tmrSoftStep
  with_reducible repeat' first
    | assumption | split | intro x | apply at_foldS | apply State.sendTrig_at
    | (refine at_iff.2 ?_; dsimp only; refine at_iff.1 ?_)

theorem capKeep_at (s : State) (hs : At τ s) : At τ (capKeep s) :=
  updDev_at _ _ hs

theorem capPtReadStep_at (n : Fin 16) (s : State) (hs : At τ s) : At τ (capPtReadStep n s) := by
  unfold capPtReadStep
  with_reducible repeat' first
    | assumption | split | apply State.setReg_at | apply State.respond_at | apply State.updTmr_at

theorem wheelModeActs_at (w : Fin 4) (s : State) (hs : At τ s) : At τ (wheelModeActs w s) := by
  unfold wheelModeActs
  with_reducible repeat' first
    | assumption | split | intro x | apply at_foldS | apply State.updTrk_at | apply State.wr_at
    | apply State.updWheel_at

theorem dcfgActs_at (b : Fin 16) (k : Fin 4) (old new : Word) (s : State) (hs : At τ s) :
    At τ (dcfgActs b k old new s) := by
  unfold dcfgActs
  with_reducible repeat' first
    | assumption | split | apply State.setReg_at | apply State.wr_at
    | (refine at_iff.2 ?_; dsimp only; refine at_iff.1 ?_)

theorem commitEffect_at (a : Nat) (old new : Word) (s : State) (hs : At τ s) : At τ (commitEffect a old new s) :=
  commitEffect_of (P := At τ) a old new hs (leveeRestart_at _ hs) (fun _ => State.wr_at _ _ _ _ hs)
    (fun _ => wheelModeActs_at _ _ hs) (fun _ _ => keepWheelWord_at _ _ _ _ hs) (fun _ _ => dcfgActs_at _ _ _ _ _ hs)
    (at_foldS (fun _ _ h => judgeTrip_at _ _ h) hs) (fun _ => State.updTrk_at _ _ _ hs)
    (fun _ _ => gateActs_at _ _ (tioMoved_at _ _ _ hs)) (fun _ => settleSafe_at _ _ hs)

theorem actCommitted_at (p : CommitPend → Bool) (s : State) (hs : At τ s) : At τ (actCommitted p s) := by
  unfold actCommitted
  with_reducible repeat' first
    | assumption | split | intro x | apply at_foldS | apply State.actWhere_at | apply commitEffect_at
    | apply catchRetest_at | (refine at_iff.2 ?_; dsimp only; refine at_iff.1 ?_)

theorem setGate_at (m : Nat) (v : Bool) (s : State) (hs : At τ s) : At τ (setGate m v s) := by
  unfold setGate
  with_reducible repeat' first
    | assumption | split | apply State.fire_at | (refine at_iff.2 ?_; dsimp only; refine at_iff.1 ?_)

theorem spillOutputs_at (untilArm : Bool) (s : State) (hs : At τ s) : At τ (spillOutputs untilArm s) := by
  unfold spillOutputs
  with_reducible repeat' first
    | assumption | intro x | apply at_foldS | apply spillBank_at | apply spillTio_at | apply spillPwm_at
    | apply spillConv_at | apply setGate_at | (refine at_iff.2 ?_; dsimp only; refine at_iff.1 ?_)

theorem truncateAll_at (s : State) (hs : At τ s) : At τ (truncateAll s) := by
  unfold truncateAll
  with_reducible repeat' first
    | assumption | intro x | apply at_foldS | apply dropPromise_at | apply normalEndStep_at | apply spillSamples_at
    | apply truncateWhere_at

theorem endActions_at (s : State) (hs : At τ s) : At τ (endActions s) := by
  unfold endActions
  with_reducible repeat' first
    | assumption | apply at_foldS | apply truncateAll_at | apply spillConv_at | apply spillBank_at

theorem recordLoss_at (t : Fin 2) (cause : Nat) (s : State) (hs : At τ s) : At τ (recordLoss t cause s) :=
  State.wr_at _ _ _ _ (State.wr_at _ _ _ _ (State.wr_at _ _ _ _ (State.wr_at _ _ _ _ hs)))

theorem leaveSync_at (t : Fin 2) (cause : Nat) (q : Acq) (s : State) (hs : At τ s) :
    At τ (leaveSync t cause q s) := by
  unfold leaveSync
  with_reducible repeat' first
    | assumption | split | apply recordLoss_at | apply State.raise_at | apply State.updTrk_at

theorem trackersOff_at (s : State) (hs : At τ s) : At τ (trackersOff s) := by
  unfold trackersOff
  with_reducible repeat' first
    | assumption | intro x | apply at_foldS | apply leaveSync_at | apply State.updTrk_at

theorem judgeControl_at (s : State) (hs : At τ s) : At τ (judgeControl s) := by
  unfold judgeControl
  with_reducible repeat' first
    | assumption | split | apply updDev_at | (refine at_iff.2 ?_; dsimp only; refine at_iff.1 ?_)

theorem closeEpoch_at (cause reason : Nat) (s : State) (hs : At τ s) : At τ (closeEpoch cause reason s) := by
  unfold closeEpoch
  with_reducible repeat' first
    | assumption | split | intro x | apply updDev_at | apply actCommitted_at | apply coresEpochClose_at
    | apply at_foldS | apply State.updTrk_at | apply jrnClosed_at | apply expireOrders_at

theorem disarmNow_at (s : State) (hs : At τ s) : At τ (disarmNow s) := by
  unfold disarmNow
  with_reducible repeat' first
    | assumption | apply truncateAll_at | apply spillOutputs_at | apply closeEpoch_at | apply trackersOff_at
    | apply State.wr_at | apply actCommitted_at | apply State.enter_at

theorem pendingDisarm_at (s : State) (hs : At τ s) : At τ (pendingDisarm s) := by
  unfold pendingDisarm
  with_reducible repeat' first
    | assumption | split | apply disarmNow_at | apply State.wr_at | apply State.err_at

theorem spillDevice_at (cause : Nat) (s : State) (hs : At τ s) : At τ (spillDevice cause s) := by
  unfold spillDevice
  with_reducible repeat' first
    | assumption | split | apply dueEnvelope_at | apply spillOutputs_at | apply truncateAll_at
    | apply State.updPlan_at | apply pendingDisarm_at | apply trackersOff_at | apply closeEpoch_at
    | apply State.enter_at | (refine at_iff.2 ?_; dsimp only; refine at_iff.1 ?_)

end Sys2Proof.Machine

namespace Sys2Proof.Machine

/-! ### Sweeps, handover, trackers, DMA, links, resets -/

variable {τ : Nat × Nat}

theorem holdTracker_at (t : Fin 2) (s : State) (hs : At τ s) : At τ (holdTracker t s) := by
  unfold holdTracker
  with_reducible repeat' first
    | assumption | split | apply updSys_at | apply State.updTrk_at

theorem holdTrackers_at (t : Fin 2) (s : State) (hs : At τ s) : At τ (holdTrackers t s) := by
  unfold holdTrackers
  with_reducible repeat' first
    | assumption | split | apply holdTracker_at | (refine at_iff.2 ?_; dsimp only; refine at_iff.1 ?_)

theorem islandFault_at (id : Nat) (rst : Option Nat) (cause : Nat) (s : State) (hs : At τ s) :
    At τ (islandFault id rst cause s) := by
  unfold islandFault
  with_reducible repeat' first
    | assumption | split | apply State.wr_at | apply updSys_at | apply spillDevice_at | apply State.raise_at
    | apply holdTrackers_at

theorem updFurrow_at (g : Furrow) (h : Furrow → Furrow) (s : State) (hs : At τ s) : At τ (updFurrow g h s) :=
  State.updPlan_at _ _ hs

theorem readEntry_at (i : Nat) (s : State) (hs : At τ s) : At τ (readEntry i s).2 :=
  readWord_at _ _ (readWord_at _ _ hs)

theorem badEntry_at (f : Furrow) (i : Nat) (s : State) (hs : At τ s) : At τ (badEntry f i s) :=
  updFurrow_at _ _ _ (postEntry_at _ _ (jrnAction_at _ _ _ _ _ hs))

theorem loadHead_at (n : Nat) (f : Furrow) (s : State) (hs : At τ s) : At τ (loadHead n f s) := by
  induction n generalizing f s with
  | zero => exact updFurrow_at _ _ _ hs
  | succ n ih =>
    unfold loadHead
    dsimp only
    split
    · exact ih _ _ (badEntry_at _ _ _ (readEntry_at _ _ hs))
    · exact updFurrow_at _ _ _ (readEntry_at _ _ hs)

theorem advanceHead_at (f : Furrow) (s : State) (hs : At τ s) : At τ (advanceHead f s) :=
  loadHead_at _ _ _ hs

theorem placeHeads_at (s : State) (hs : At τ s) : At τ (placeHeads s) := by
  unfold placeHeads
  with_reducible repeat' first
    | assumption | intro x | apply at_foldS | apply State.updPlan_at | apply loadHead_at

theorem reachSlot_at (slot idx cyc : Nat) (s : State) (hs : At τ s) : At τ (reachSlot slot idx cyc s).2 := by
  unfold reachSlot
  with_reducible repeat' first
    | assumption | split | apply State.updPlan_at | apply updOrder_at
    | (refine at_iff.2 ?_; dsimp only; refine at_iff.1 ?_)

theorem logLate_at (idx late : Nat) (s : State) (hs : At τ s) : At τ (logLate idx late s) := by
  unfold logLate
  with_reducible repeat' first
    | assumption | split | apply State.bump_at | apply State.wr_at | apply State.updPlan_at | apply State.raiseIf_at
    | (refine at_iff.2 ?_; dsimp only; refine at_iff.1 ?_)

theorem issueAct_at (a : Act) (late : Option Nat) (s : State) (hs : At τ s) : At τ (issueAct a late s) := by
  unfold issueAct
  with_reducible repeat' first
    | assumption | split | apply State.updPlan_at | apply orderProgress_at | apply flagOrder_at | apply logLate_at

theorem reachAction_at (i pos tick : Nat) (swept : Option Nat) (dead : Bool) (s : State) (hs : At τ s) :
    At τ (reachAction i pos tick swept dead s) := by
  unfold reachAction
  with_reducible repeat' first
    | assumption | split | apply readDec_at | apply reachSlot_at | apply dropAct_at | apply endOrder_at
    | apply jrnAction_at | apply State.bump_at | apply issueAct_at
    | (refine at_iff.2 ?_; dsimp only; refine at_iff.1 ?_)

theorem reachHead_at (f : Furrow) (pos tick : Nat) (swept : Option Nat) (s : State) (hs : At τ s) :
    At τ (reachHead f pos tick swept s) :=
  advanceHead_at _ _ (reachAction_at _ _ _ _ _ _ hs)

theorem govClearAct_at (s : State) (hs : At τ s) : At τ (govClearAct s) := by
  unfold govClearAct
  with_reducible repeat' first
    | assumption | split | apply State.wr_at | apply State.err_at | apply State.setReg_at | apply State.enter_at
    | apply State.updPlan_at | (refine at_iff.2 ?_; dsimp only; refine at_iff.1 ?_)

theorem suppressionEnd_at (s : State) (hs : At τ s) : At τ (suppressionEnd s) := hs.congr rfl

theorem resumeFurrows_at (s : State) (hs : At τ s) : At τ (resumeFurrows s) :=
  State.updPlan_at _ _ hs

theorem deviceBoundary_at (s : State) (hs : At τ s) : At τ (deviceBoundary s) := by
  unfold deviceBoundary
  with_reducible repeat' first
    | assumption | apply closeCycleOrders_at | apply resumeFurrows_at | apply State.updPlan_at | apply govClearAct_at
    | apply suppressionEnd_at | apply swapTrims_at | apply State.fire_at | apply actCommitted_at | apply updDev_at

theorem sweepLoop_at (n stop tick : Nat) (late : Nat → Option Nat) (s : State) (hs : At τ s) :
    At τ (sweepLoop n stop tick late s) := by
  induction n generalizing s with
  | zero => exact hs
  | succ n ih =>
    unfold sweepLoop
    with_reducible repeat' first
      | assumption | split | apply ih | apply deviceBoundary_at | apply takeCutoff_at | apply reachHead_at

theorem sweepEnds_at (stop tick : Nat) (s : State) (hs : At τ s) : At τ (sweepEnds stop tick s) :=
  updActs_at _ _ hs

theorem issueEnds_at (s : State) (hs : At τ s) : At τ (issueEnds s) := by
  unfold issueEnds
  with_reducible repeat' first
    | assumption | split | apply updActs_at

theorem sweepTo_at (stop tick : Nat) (s : State) (hs : At τ s) : At τ (sweepTo stop tick s) := by
  unfold sweepTo
  with_reducible repeat' first
    | assumption | split | apply sweepLoop_at | apply sweepEnds_at

theorem passBoundary_at (pos : Nat) (s : State) (hs : At τ s) : At τ (passBoundary pos s) := by
  unfold passBoundary
  with_reducible repeat' first
    | assumption | split | apply sweepLoop_at

theorem reachPos_at (pos : Nat) (s : State) (hs : At τ s) : At τ (reachPos pos s) := by
  unfold reachPos
  with_reducible repeat' first
    | assumption | split | apply deviceBoundary_at | apply passBoundary_at

theorem openEpoch_at (s : State) (hs : At τ s) : At τ (openEpoch s) := by
  unfold openEpoch
  with_reducible repeat' first
    | assumption | split | intro x | apply updDev_at | apply State.updPlan_at | apply at_foldS | apply State.updTrk_at
    | apply jrnOpened_at | apply releaseTio_at | apply releasePwm_at | apply enterRunning_at | apply placeHeads_at
    | apply State.fire_at | (refine at_iff.2 ?_; dsimp only; refine at_iff.1 ?_)

theorem spoilLearning_at (s : State) (hs : At τ s) : At τ (spoilLearning s) := by
  unfold spoilLearning
  with_reducible repeat' first
    | assumption | intro x | apply at_foldS | apply State.updTrk_at | apply State.updPlan_at

theorem decideHandover_at (s : State) (hs : At τ s) : At τ (decideHandover s) :=
  updDev_at _ _ hs

theorem handoverState_at (s : State) (hs : At τ s) : At τ (handoverState s) := by
  unfold handoverState
  with_reducible repeat' first
    | assumption | split | apply pendingDisarm_at | apply enterRunning_at | apply endActions_at | apply State.enter_at
    | apply State.raise_at

theorem handover_at (pos old : Nat) (s : State) (hs : At τ s) : At τ (handover pos old s) := by
  unfold handover
  with_reducible repeat' first
    | assumption | split | apply State.updTrk_at | apply State.bump_at | apply State.raise_at | apply spoilLearning_at
    | apply updDev_at

theorem handoverSweep_at (s : State) (hs : At τ s) : At τ (handoverSweep s) := by
  unfold handoverSweep
  with_reducible repeat' first
    | assumption | split | apply reachPos_at | apply sweepTo_at | apply handoverState_at | apply updDev_at
    | (refine at_iff.2 ?_; dsimp only; refine at_iff.1 ?_)

theorem shadowClear_at (t : Fin 2) (s : State) (hs : At τ s) : At τ (shadowClear t s) :=
  State.updTrk_at _ _ _ hs

theorem setAstern_at (t : Fin 2) (a : Bool) (s : State) (hs : At τ s) : At τ (setAstern t a s) := by
  unfold setAstern
  with_reducible repeat' first
    | assumption | split | apply State.updTrk_at | apply shadowClear_at
    | (refine at_iff.2 ?_; dsimp only; refine at_iff.1 ?_)

theorem sigClear_at (t : Fin 2) (s : State) (hs : At τ s) : At τ (sigClear t s) :=
  State.updTrk_at _ _ _ hs

theorem shadowMeasure_at (t : Fin 2) (prev n : Nat) (hn : Bool) (tj : Nat) (s : State) (hs : At τ s) :
    At τ (shadowMeasure t prev n hn tj s) := by
  unfold shadowMeasure
  with_reducible repeat' first
    | assumption | split | apply State.bump_at | apply State.updTrk_at

theorem toggleBank_at (t : Fin 2) (s : State) (hs : At τ s) : At τ (toggleBank t s) :=
  State.wr_at _ _ _ _ hs

theorem shadowBoundary_at (t : Fin 2) (s : State) (hs : At τ s) : At τ (shadowBoundary t s) := by
  unfold shadowBoundary
  with_reducible repeat' first
    | assumption | split | apply shadowClear_at | apply State.wr_at | apply State.updTrk_at | apply State.bump_at
    | apply toggleBank_at

theorem addRevolution_at (t : Fin 2) (t0 trev : Nat) (s : State) (hs : At τ s) :
    At τ (addRevolution t t0 trev s) := by
  unfold addRevolution
  with_reducible repeat' first
    | assumption | split | apply State.updTrk_at | (refine at_iff.2 ?_; dsimp only; refine at_iff.1 ?_)

theorem signatureEdge_at (t : Fin 2) (i stamp : Nat) (s : State) (hs : At τ s) :
    At τ (signatureEdge t i stamp s) := by
  unfold signatureEdge
  with_reducible repeat' first
    | assumption | split | apply State.updTrk_at | apply addRevolution_at | apply State.bump_at
    | (refine at_iff.2 ?_; dsimp only; refine at_iff.1 ?_)

theorem moveHorizon_at (t : Fin 2) (s : State) (hs : At τ s) : At τ (moveHorizon t s) := by
  unfold moveHorizon
  with_reducible repeat' first
    | assumption | split | apply State.updTrk_at | (refine at_iff.2 ?_; dsimp only; refine at_iff.1 ?_)

theorem sigResetAct_at (t : Fin 2) (s : State) (hs : At τ s) : At τ (sigResetAct t s) :=
  moveHorizon_at _ _ (State.wr_at _ _ _ _ (sigClear_at _ _ hs))

theorem signatureBoundary_at (t : Fin 2) (s : State) (hs : At τ s) : At τ (signatureBoundary t s) := by
  unfold signatureBoundary
  with_reducible repeat' first
    | assumption | split | apply sigResetAct_at | apply moveHorizon_at | apply State.bump_at | apply State.updTrk_at
    | (refine at_iff.2 ?_; dsimp only; refine at_iff.1 ?_)

theorem ownBoundary_at (t : Fin 2) (s : State) (hs : At τ s) : At τ (ownBoundary t s) := by
  unfold ownBoundary
  with_reducible repeat' first
    | assumption | split | apply signatureBoundary_at | apply shadowBoundary_at | apply sigResetAct_at
    | apply actCommitted_at | apply State.updTrk_at

theorem ownPassed_at (t : Fin 2) (before after : Nat) (s : State) (hs : At τ s) :
    At τ (ownPassed t before after s) := by
  unfold ownPassed
  with_reducible repeat' first
    | assumption | split | apply ownBoundary_at | (refine at_iff.2 ?_; dsimp only; refine at_iff.1 ?_)

theorem shadowClrStep_at (t : Fin 2) (s : State) (hs : At τ s) : At τ (shadowClrStep t s) :=
  State.wr_at _ _ _ _ hs

theorem sigResetStep_at (t : Fin 2) (s : State) (hs : At τ s) : At τ (sigResetStep t s) :=
  State.wr_at _ _ _ _ hs

theorem noteLinkLoss_at (t : Fin 2) (s : State) (hs : At τ s) : At τ (noteLinkLoss t s) := by
  unfold noteLinkLoss
  with_reducible repeat' first
    | assumption | split | apply State.updLink_at | apply State.bump_at | apply State.raise_at

theorem loseSyncTo_at (q : Acq) (t : Fin 2) (cause : Nat) (s : State) (hs : At τ s) :
    At τ (loseSyncTo q t cause s) := by
  unfold loseSyncTo
  with_reducible repeat' first
    | assumption | split | apply noteLinkLoss_at | apply leaveSync_at | apply decideHandover_at | apply closeEpoch_at
    | apply spillOutputs_at | apply truncateAll_at | apply dueEnvelope_at | apply pendingDisarm_at
    | apply judgeControl_at | apply State.enter_at | apply updDev_at
    | (refine at_iff.2 ?_; dsimp only; refine at_iff.1 ?_)

theorem loseSync_at (t : Fin 2) (cause : Nat) (s : State) (hs : At τ s) : At τ (loseSync t cause s) :=
  loseSyncTo_at _ _ _ _ hs

theorem acqRestart_at (t : Fin 2) (s : State) (hs : At τ s) : At τ (acqRestart t s) :=
  State.updTrk_at _ _ _ (State.raise_at _ _ (State.bump_at _ _ _ hs))

theorem spuriousEdge_at (t : Fin 2) (eighth : State → State) (s : State) (hs : At τ s)
    (heighth : ∀ s, At τ s → At τ (eighth s)) : At τ (spuriousEdge t eighth s) := by
  unfold spuriousEdge
  with_reducible repeat' first
    | assumption | split | apply State.bump_at | apply State.raise_at | apply State.updTrk_at | apply heighth
    | (refine at_iff.2 ?_; dsimp only; refine at_iff.1 ?_)

theorem declareSync_at (t : Fin 2) (p : Nat) (h : Bool) (s : State) (hs : At τ s) : At τ (declareSync t p h s) := by
  unfold declareSync
  with_reducible repeat' first
    | assumption | split | apply setAstern_at | apply State.updTrk_at | apply State.wr_at | apply State.raise_at
    | apply openEpoch_at | (refine at_iff.2 ?_; dsimp only; refine at_iff.1 ?_)

theorem failedTry_at (t : Fin 2) (s : State) (hs : At τ s) : At τ (failedTry t s) := by
  unfold failedTry
  with_reducible repeat' first
    | assumption | split | apply State.updTrk_at | apply acqRestart_at | apply State.raise_at
    | (refine at_iff.2 ?_; dsimp only; refine at_iff.1 ?_)

theorem evaluateCam_at (t : Fin 2) (e : EdgeIn) (s : State) (hs : At τ s) : At τ (evaluateCam t e s) := by
  unfold evaluateCam
  with_reducible repeat' first
    | assumption | split | apply declareSync_at | apply failedTry_at

theorem enterPhase_at (t : Fin 2) (s : State) (hs : At τ s) : At τ (enterPhase t s) := by
  unfold enterPhase
  with_reducible repeat' first
    | assumption | split | apply State.updTrk_at | apply evaluateCam_at
    | (refine at_iff.2 ?_; dsimp only; refine at_iff.1 ?_)

theorem confirmEdge_at (t : Fin 2) (tj prev : Nat) (cls : Option Nat) (s : State) (hs : At τ s) :
    At τ (confirmEdge t tj prev cls s) := by
  unfold confirmEdge
  with_reducible repeat' first
    | assumption | split | apply State.updTrk_at | apply acqRestart_at | apply declareSync_at | apply enterPhase_at
    | (refine at_iff.2 ?_; dsimp only; refine at_iff.1 ?_)

theorem phaseEdge_at (t : Fin 2) (tj prev : Nat) (cls : Option Nat) (s : State) (hs : At τ s) :
    At τ (phaseEdge t tj prev cls s) := by
  unfold phaseEdge
  with_reducible repeat' first
    | assumption | split | apply State.updTrk_at | apply acqRestart_at | apply failedTry_at
    | (refine at_iff.2 ?_; dsimp only; refine at_iff.1 ?_)

theorem searchEdge_at (t : Fin 2) (tj prev : Nat) (s : State) (hs : At τ s) : At τ (searchEdge t tj prev s) := by
  unfold searchEdge
  with_reducible repeat' first
    | assumption | split | apply State.updTrk_at | apply acqRestart_at
    | (refine at_iff.2 ?_; dsimp only; refine at_iff.1 ?_)

theorem acqEdge_at (t : Fin 2) (e : EdgeIn) (s : State) (hs : At τ s) : At τ (acqEdge t e s) := by
  unfold acqEdge
  with_reducible repeat' first
    | assumption | split | apply State.updTrk_at | apply spuriousEdge_at | apply acqRestart_at | apply searchEdge_at
    | apply confirmEdge_at | apply phaseEdge_at | (refine at_iff.2 ?_; dsimp only; refine at_iff.1 ?_)

theorem sumFlush_at (c : Fin 32) (s : State) (hs : At τ s) : At τ (sumFlush c s) := by
  unfold sumFlush
  with_reducible repeat' first
    | assumption | split | apply State.wr_at | apply State.updFlume_at

theorem flumeEvt_at (c : Fin 32) (s : State) (hs : At τ s) : At τ (flumeEvt c s) :=
  State.raise_at _ _ hs

theorem flumeEnd_at (c : Fin 32) (res : Nat) (s : State) (hs : At τ s) : At τ (flumeEnd c res s) := by
  unfold flumeEnd
  with_reducible repeat' first
    | assumption | split | apply sumFlush_at | apply State.wr_at | apply State.bumpWrap_at | apply State.updFlume_at
    | apply flumeEvt_at | (refine at_iff.2 ?_; dsimp only; refine at_iff.1 ?_)

theorem startChan_at (c : Fin 32) (s : State) (hs : At τ s) : At τ (startChan c s) := by
  unfold startChan
  with_reducible repeat' first
    | assumption | split | apply State.wr_at | apply State.updFlume_at | apply flumeEnd_at
    | (refine at_iff.2 ?_; dsimp only; refine at_iff.1 ?_)

theorem softStart_at (c : Fin 32) (s : State) (hs : At τ s) : At τ (softStart c s) := by
  unfold softStart
  with_reducible repeat' first
    | assumption | split | apply State.err_at | apply startChan_at | apply State.wr_at

theorem abortChan_at (c : Fin 32) (s : State) (hs : At τ s) : At τ (abortChan c s) := by
  unfold abortChan
  with_reducible repeat' first
    | assumption | split | apply State.updLink_at | apply flumeEnd_at

theorem resumeChan_at (c : Fin 32) (s : State) (hs : At τ s) : At τ (resumeChan c s) := by
  unfold resumeChan
  with_reducible repeat' first
    | assumption | split | apply State.wr_at

theorem progWrite_at (c : Fin 32) (bad : Bool) (f : State → State) (s : State) (hf : ∀ s, At τ s → At τ (f s))
    (hs : At τ s) : At τ (progWrite c bad f s) := by
  unfold progWrite
  with_reducible repeat' first
    | assumption | split | apply State.err_at | apply State.wr_at | apply hf

theorem ctrlWriteStep_at (c : Fin 32) (v : Word) (s : State) (hs : At τ s) : At τ (ctrlWriteStep c v s) := by
  unfold ctrlWriteStep
  with_reducible repeat' first
    | assumption | split | intro x | apply State.err_at | apply progWrite_at | apply State.setReg_at

theorem dmaStart_at (a : Act) (s : State) (hs : At τ s) : At τ (dmaStart a s) := by
  unfold dmaStart
  with_reducible repeat' first
    | assumption | apply startChan_at | apply applyAct_at | apply countShadow_at | apply State.updFlume_at

theorem dmaServeN_at (n : Nat) (c : Fin 32) (s : State) (hs : At τ s) : At τ (dmaServeN n c s) := by
  induction n generalizing s with
  | zero => exact hs
  | succ n ih =>
    unfold dmaServeN
    with_reducible repeat' first
      | assumption | split | apply ih | apply dmaStart_at | apply dropAct_at

theorem dmaServe_at (c : Fin 32) (s : State) (hs : At τ s) : At τ (dmaServe c s) :=
  dmaServeN_at _ _ _ hs

theorem rset_at (e : Fin 8) (f : Fld) (v : Nat) (s : State) (hs : At τ s) : At τ (rset e f v s) :=
  State.wr_at _ _ _ _ hs

theorem rnlFlag_at (e : Fin 8) (f : Fld) (s : State) (hs : At τ s) : At τ (rnlFlag e f s) := by
  unfold rnlFlag
  with_reducible repeat' first
    | assumption | split | apply State.wr_at | apply State.raiseIf_at

theorem rnlRunStep_at (v : Word) (s : State) (hs : At τ s) : At τ (rnlRunStep v s) := by
  unfold rnlRunStep
  with_reducible repeat' first
    | assumption | split | intro x | apply at_foldS | apply State.wr_at | apply State.updRnl_at

theorem progRefused_at (e : Fin 8) (s : State) (hs : At τ s) : At τ (progRefused e s) :=
  rnlFlag_at _ _ _ (State.err_at _ _ hs)

theorem shiftClrStep_at (e : Fin 8) (s : State) (hs : At τ s) : At τ (shiftClrStep e s) := by
  unfold shiftClrStep
  with_reducible repeat' first
    | assumption | split | apply progRefused_at | apply rset_at

theorem paddrAuto_at (e : Fin 8) (s : State) (hs : At τ s) : At τ (paddrAuto e s) := by
  unfold paddrAuto
  with_reducible repeat' first
    | assumption | split | apply rset_at

theorem rnlProgStep_at (e : Fin 8) (reg : Nat) (v : Word) (s : State) (hs : At τ s) :
    At τ (rnlProgStep e reg v s) := by
  unfold rnlProgStep
  with_reducible repeat' first
    | assumption | split | apply progRefused_at | apply rset_at | apply paddrAuto_at | apply State.updRnl_at

theorem rnlInStep_at (e : Fin 8) (v : Word) (s : State) (hs : At τ s) : At τ (rnlInStep e v s) := by
  unfold rnlInStep
  with_reducible repeat' first
    | assumption | split | apply State.err_at | apply State.updRnl_at

theorem rnlOutStep_at (e : Fin 8) (s : State) (hs : At τ s) : At τ (rnlOutStep e s) := by
  unfold rnlOutStep
  with_reducible repeat' first
    | assumption | split | apply State.respond_at | apply State.updRnl_at

theorem pendShadow_at (a : Nat) (s : State) (hs : At τ s) : At τ (pendShadow a s) := by
  unfold pendShadow
  with_reducible repeat' first
    | assumption | split | apply State.pendCommit_at | (refine at_iff.2 ?_; dsimp only; refine at_iff.1 ?_)

theorem commitStep_at (p : Nat) (s : State) (hs : At τ s) : At τ (commitStep p s) := by
  unfold commitStep
  with_reducible repeat' first
    | assumption | split | (refine at_iff.2 ?_; dsimp only; refine at_iff.1 ?_)

theorem commitJudge_at (p : Nat) (s : State) (hs : At τ s) : At τ (commitJudge p s) := by
  unfold commitJudge
  with_reducible repeat' first
    | assumption | split | apply at_foldS | apply State.wr_at | apply State.err_at | apply pendShadow_at

theorem commitsJudge_at (s : State) (hs : At τ s) : At τ (commitsJudge s) := by
  unfold commitsJudge
  with_reducible repeat' first
    | assumption | apply at_foldS | apply commitJudge_at | (refine at_iff.2 ?_; dsimp only; refine at_iff.1 ?_)

theorem softResetStep_at (p : Nat) (s : State) (hs : At τ s) : At τ (softResetStep p s) := by
  unfold softResetStep
  with_reducible repeat' first
    | assumption | split | apply State.err_at | (refine at_iff.2 ?_; dsimp only; refine at_iff.1 ?_)

theorem resetRegsFrom_at (o p : Nat) (s : State) (hs : At τ s) : At τ (resetRegsFrom o p s) := hs.congr rfl

theorem resetRegs_at (p : Nat) (s : State) (hs : At τ s) : At τ (resetRegs p s) :=
  resetRegsFrom_at _ _ _ hs

theorem strapConv_at (k : Fin 4) (s : State) (hs : At τ s) : At τ (strapConv k s) :=
  State.setAct_at _ _ _ (State.setReg_at _ _ _ hs)

theorem flashReset_at (s : State) (hs : At τ s) : At τ (flashReset s) := by
  unfold flashReset
  with_reducible repeat' first
    | assumption | apply State.updLink_at | (refine at_iff.2 ?_; dsimp only; refine at_iff.1 ?_)

theorem resetUnits_at (p : Nat) (s : State) (hs : At τ s) : At τ (resetUnits p s) := by
  unfold resetUnits
  with_reducible repeat' first
    | assumption | apply at_ite | apply strapConv_at | apply flashReset_at | apply State.updConv_at
    | (refine at_iff.2 ?_; dsimp only; refine at_iff.1 ?_)

theorem doSoftReset_at (p : Nat) (s : State) (hs : At τ s) : At τ (doSoftReset p s) :=
  resetUnits_at _ _ (resetRegs_at _ _ hs)

theorem actSoftResets_at (s : State) (hs : At τ s) : At τ (actSoftResets s) := by
  unfold actSoftResets
  with_reducible repeat' first
    | assumption | split | intro x | apply at_foldS | apply doSoftReset_at | apply State.err_at
    | (refine at_iff.2 ?_; dsimp only; refine at_iff.1 ?_)

theorem enableStep_at (p : Nat) (on : Bool) (s : State) (hs : At τ s) : At τ (enableStep p on s) := by
  unfold enableStep
  with_reducible repeat' first
    | assumption | split | apply at_foldS | apply State.wr_at | apply dmaServe_at | apply State.err_at

theorem evtSetStep_at (p v : Nat) (s : State) (hs : At τ s) : At τ (evtSetStep p v s) := by
  unfold evtSetStep
  with_reducible repeat' first
    | assumption | split | intro x | apply at_foldS | apply State.raiseIf_at

theorem ctrlStep_at (p : Nat) (v : Word) (s : State) (hs : At τ s) : At τ (ctrlStep p v s) := by
  unfold ctrlStep
  with_reducible repeat' first
    | assumption | split | apply softResetStep_at | apply commitStep_at | apply enableStep_at | apply State.wr_at

theorem evtRawStep_at (p : Nat) (v : Word) (s : State) (hs : At τ s) : At τ (evtRawStep p v s) := by
  unfold evtRawStep
  with_reducible repeat' first
    | assumption | split | apply State.setReg_at

theorem putOut_at (p : Fin 2) (x : LinkTx) (s : State) (hs : At τ s) : At τ (putOut p x s) :=
  State.updLink_at _ _ hs

theorem sendFrame_at (p : Fin 2) (f : LinkFrame) (s : State) (hs : At τ s) : At τ (sendFrame p f s) := by
  unfold sendFrame
  with_reducible repeat' first
    | assumption | split | apply State.updPort_at | apply putOut_at
    | (refine at_iff.2 ?_; dsimp only; refine at_iff.1 ?_)

theorem peerSend_at (who : PeerWho) (init a n : Nat) (write : Bool) (v : Nat) (s : State) (hs : At τ s) :
    At τ (peerSend who init a n write v s).2 := by
  unfold peerSend
  with_reducible repeat' first
    | assumption | split | apply monBeat_at | apply State.updLink_at | apply sendFrame_at
    | (refine at_iff.2 ?_; dsimp only; refine at_iff.1 ?_)

theorem remoteWrite_at (j : Fin 8) (n : Nat) (peer : Nat) (v : Word) (s : State) (hs : At τ s) :
    At τ (remoteWrite j n peer v s) :=
  State.updLink_at _ _ hs

theorem remoteResult_at (j : Fin 8) (peer : Nat) (res seq : Word) (s : State) (hs : At τ s) :
    At τ (remoteResult j peer res seq s) :=
  State.updLink_at _ _ hs

theorem remoteSubmit_at (init : Initiator) (j : Fin 8) (peer : Nat) (v : Word) (s : State) (hs : At τ s) :
    At τ (remoteSubmit init j peer v s).2 := by
  unfold remoteSubmit
  with_reducible repeat' first
    | assumption | split | apply State.bump_at | apply State.raise_at | apply remoteResult_at | apply monBeat_at
    | apply State.updLink_at | apply sendFrame_at | (refine at_iff.2 ?_; dsimp only; refine at_iff.1 ?_)

theorem evtPopStep_at (s : State) (hs : At τ s) : At τ (evtPopStep s) := by
  unfold evtPopStep
  with_reducible repeat' first
    | assumption | split | apply State.respond_at | apply State.updLink_at

theorem msgPayStep_at (s : State) (hs : At τ s) : At τ (msgPayStep s) := by
  unfold msgPayStep
  with_reducible repeat' first
    | assumption | split | apply State.respond_at | apply State.updLink_at | apply State.wr_at

theorem rstCmdStep_at (v : Word) (s : State) (hs : At τ s) : At τ (rstCmdStep v s) := by
  unfold rstCmdStep
  with_reducible repeat' first
    | assumption | split | apply State.wr_at | apply State.updLink_at

theorem setRot_at (port : Nat) (r : Rot) (s : State) (hs : At τ s) : At τ (setRot port r s) := hs.congr rfl

theorem takeTurn_at (code port : Nat) (s : State) (hs : At τ s) : At τ (takeTurn code port s) := by
  unfold takeTurn
  with_reducible repeat' first
    | assumption | split | apply setRot_at

theorem addWait_at (r : WaitReq) (s : State) (hs : At τ s) : At τ (addWait r s) := hs.congr rfl

theorem trimSnapshot_at (t : Fin 2) (angle : Nat) (s : State) (hs : At τ s) : At τ (trimSnapshot t angle s) := by
  unfold trimSnapshot
  with_reducible repeat' first
    | assumption | split | apply snapshotTrims_at | (refine at_iff.2 ?_; dsimp only; refine at_iff.1 ?_)

theorem noteJump_at (t : Fin 2) (step : Nat) (s : State) (hs : At τ s) : At τ (noteJump t step s) := by
  unfold noteJump
  with_reducible repeat' first
    | assumption | split | apply State.wr_at | (refine at_iff.2 ?_; dsimp only; refine at_iff.1 ?_)

theorem deviceStep_at (t : Fin 2) (before old truth : Nat) (s : State) (hs : At τ s) :
    At τ (deviceStep t before old truth s) := by
  unfold deviceStep
  with_reducible repeat' first
    | assumption | split | apply sweepTo_at | apply reachPos_at | apply updDev_at
    | (refine at_iff.2 ?_; dsimp only; refine at_iff.1 ?_)

theorem acceptSync_at (t : Fin 2) (e : EdgeIn) (resume verify : Bool) (s : State) (hs : At τ s) :
    At τ (acceptSync t e resume verify s) := by
  unfold acceptSync
  with_reducible repeat' first
    | assumption | split | apply noteJump_at | apply signatureEdge_at | apply shadowMeasure_at | apply State.updTrk_at
    | apply deviceStep_at | apply trimSnapshot_at | apply ownPassed_at | apply envelopeEdge_at
    | (refine at_iff.2 ?_; dsimp only; refine at_iff.1 ?_)

theorem resumeMotion_at (t : Fin 2) (e : EdgeIn) (verify : Bool) (s : State) (hs : At τ s) :
    At τ (resumeMotion t e verify s) := by
  unfold resumeMotion
  with_reducible repeat' first
    | assumption | split | apply State.bump_at | apply enterRunning_at | apply pendingDisarm_at | apply acceptSync_at

theorem syncEdge_at (t : Fin 2) (e : EdgeIn) (s : State) (hs : At τ s) : At τ (syncEdge t e s) := by
  unfold syncEdge
  with_reducible repeat' first
    | assumption | split | apply State.updTrk_at | apply resumeMotion_at | apply spuriousEdge_at | apply loseSync_at
    | apply acceptSync_at

theorem crankEdgeStep_at (t : Fin 2) (s : State) (hs : At τ s) : At τ (crankEdgeStep t s) := by
  unfold crankEdgeStep
  with_reducible repeat' first
    | assumption | split | apply State.updTrk_at | apply State.fire_at | apply syncEdge_at | apply acqEdge_at
    | (refine at_iff.2 ?_; dsimp only; refine at_iff.1 ?_)

theorem angleReadStep_at (t : Fin 2) (s : State) (hs : At τ s) : At τ (angleReadStep t s) := by
  unfold angleReadStep
  with_reducible repeat' first
    | assumption | apply State.wr_at | apply State.respond_at

theorem leaveXchk_at (t : Fin 2) (s : State) (hs : At τ s) : At τ (leaveXchk t s) :=
  State.updTrk_at _ _ _ hs

theorem giveControl_at (t : Fin 2) (s : State) (hs : At τ s) : At τ (giveControl t s) := by
  unfold giveControl
  with_reducible repeat' first
    | assumption | split | apply leaveXchk_at | apply decideHandover_at

theorem hardDisagreement_at (start : Bool) (s : State) (hs : At τ s) : At τ (hardDisagreement start s) := by
  unfold hardDisagreement
  with_reducible repeat' first
    | assumption | split | apply setIfault_at | apply giveControl_at | apply State.raise_at | apply State.wr_at
    | apply violation_at | (refine at_iff.2 ?_; dsimp only; refine at_iff.1 ?_)

theorem faultyDisagreement_at (start : Bool) (s : State) (hs : At τ s) : At τ (faultyDisagreement start s) := by
  unfold faultyDisagreement
  with_reducible repeat' first
    | assumption | split | apply State.raise_at | apply State.wr_at

theorem compareAngles_at (s : State) (hs : At τ s) : At τ (compareAngles s) := by
  unfold compareAngles
  with_reducible repeat' first
    | assumption | split | apply State.wr_at | apply State.bump_at | apply State.raise_at
    | apply faultyDisagreement_at | apply hardDisagreement_at | (refine at_iff.2 ?_; dsimp only; refine at_iff.1 ?_)

theorem noCompare_at (s : State) (hs : At τ s) : At τ (noCompare s) := by
  unfold noCompare
  with_reducible repeat' first
    | assumption | apply State.wr_at | (refine at_iff.2 ?_; dsimp only; refine at_iff.1 ?_)

theorem faultOutcome_at (s : State) (hs : At τ s) : At τ (faultOutcome s) := by
  unfold faultOutcome
  with_reducible repeat' first
    | assumption | split | apply giveControl_at | apply leaveXchk_at
    | (refine at_iff.2 ?_; dsimp only; refine at_iff.1 ?_)

theorem faultSpills_at (f : Option (Fin 2)) (s : State) (hs : At τ s) : At τ (faultSpills f s) := by
  unfold faultSpills
  with_reducible repeat' first
    | assumption | split | apply islandFault_at

theorem handbackAct_at (s : State) (hs : At τ s) : At τ (handbackAct s) := by
  unfold handbackAct
  with_reducible repeat' first
    | assumption | split | apply State.wr_at | apply State.err_at | apply decideHandover_at
    | (refine at_iff.2 ?_; dsimp only; refine at_iff.1 ?_)

theorem faultsAct_at (s : State) (hs : At τ s) : At τ (faultsAct s) := by
  unfold faultsAct
  with_reducible repeat' first
    | assumption | split | apply faultOutcome_at

end Sys2Proof.Machine

namespace Sys2Proof.Machine

/-! ### Registers, buses, hosts, frames, ports -/

variable {τ : Nat × Nat}

/-- The function of a register access, where there is one, keeps the tick and PT. -/
def KeepsAt (τ : Nat × Nat) (o : Option (State → State)) : Prop := ∀ f, o = some f → ∀ s, At τ s → At τ (f s)

theorem keepsAt_none : KeepsAt τ none := by
  intro f hf
  nomatch hf

theorem keepsAt_some {f : State → State} (h : ∀ s, At τ s → At τ (f s)) : KeepsAt τ (some f) := by
  intro g hg
  obtain rfl := Option.some.inj hg
  exact h

theorem keepsAt_ite {p : Prop} [Decidable p] {x y : Option (State → State)} (hx : KeepsAt τ x) (hy : KeepsAt τ y) :
    KeepsAt τ (if p then x else y) := by split <;> assumption

theorem xchkTick_at (s : State) (hs : At τ s) : At τ (xchkTick s) := by
  unfold xchkTick
  with_reducible repeat' first
    | assumption | split | apply compareAngles_at | apply noCompare_at | apply handbackAct_at

theorem rejoinStep_at (s : State) (hs : At τ s) : At τ (rejoinStep s) := by
  unfold rejoinStep
  with_reducible repeat' first
    | assumption | split | intro x | apply at_foldS | apply State.updTrk_at

theorem handbackStep_at (s : State) (hs : At τ s) : At τ (handbackStep s) := by
  unfold handbackStep
  with_reducible repeat' first
    | assumption | split | apply State.wr_at | apply State.err_at

theorem setBoth_at (a : Nat) (w : Word) (s : State) (hs : At τ s) : At τ (setBoth a w s) := by
  unfold setBoth
  with_reducible repeat' first
    | assumption | apply State.setReg_at | apply State.setAct_at
    | (refine at_iff.2 ?_; dsimp only; refine at_iff.1 ?_)

theorem writeTrkCfg_at (s : State) (hs : At τ s) : At τ (writeTrkCfg s) :=
  setBoth_at _ _ _ (setBoth_at _ _ _ hs)

theorem endLoad_at (result sect item : Nat) (s : State) (hs : At τ s) : At τ (endLoad result sect item s) := by
  unfold endLoad
  with_reducible repeat' first
    | assumption | apply State.setReg_at | apply State.wr_at | apply State.updPlan_at | apply State.raise_at

theorem planLoadStep_at (s : State) (hs : At τ s) : At τ (planLoadStep s) := by
  unfold planLoadStep
  with_reducible repeat' first
    | assumption | split | apply State.err_at | apply State.wr_at | apply State.updPlan_at | apply endLoad_at

theorem armResult_at (r : Nat) (s : State) (hs : At τ s) : At τ (armResult r s) :=
  State.wr_at _ _ _ _ (State.wr_at _ _ _ _ (State.wr_at _ _ _ _ hs))

theorem releaseDDie_at (why : HoldEnd) (s : State) (hs : At τ s) : At τ (releaseDDie why s) := by
  unfold releaseDDie
  with_reducible repeat' first
    | assumption | split | apply releasePwm_at | (refine at_iff.2 ?_; dsimp only; refine at_iff.1 ?_)

theorem releaseHolds_at (why : HoldEnd) (s : State) (hs : At τ s) : At τ (releaseHolds why s) :=
  State.wr_at _ _ _ _ (releaseTio_at _ (releaseDDie_at _ _ hs))

theorem armFromLoaded_at (s : State) (hs : At τ s) : At τ (armFromLoaded s) := by
  unfold armFromLoaded
  with_reducible repeat' first
    | assumption | split | apply releaseDDie_at

theorem armStep_at (s : State) (hs : At τ s) : At τ (armStep s) := by
  unfold armStep
  with_reducible repeat' first
    | assumption | split | intro x | apply at_foldS | apply armResult_at | apply State.raise_at | apply writeTrkCfg_at
    | apply judgeControl_at | apply armFromLoaded_at | apply releaseHolds_at | apply State.updTrk_at
    | apply slotsFromNow_at | apply State.enter_at

theorem disarmStep_at (s : State) (hs : At τ s) : At τ (disarmStep s) := by
  unfold disarmStep
  with_reducible repeat' first
    | assumption | split | apply disarmNow_at | apply State.wr_at | apply State.err_at

theorem govClearStep_at (s : State) (hs : At τ s) : At τ (govClearStep s) := by
  unfold govClearStep
  with_reducible repeat' first
    | assumption | split | apply State.wr_at | apply State.err_at

theorem latePopStep_at (s : State) (hs : At τ s) : At τ (latePopStep s) := by
  unfold latePopStep
  with_reducible repeat' first
    | assumption | split | apply State.respond_at | apply State.updPlan_at

theorem parkStep_at (s : State) (hs : At τ s) : At τ (parkStep s) := by
  unfold parkStep
  with_reducible repeat' first
    | assumption | split | apply State.err_at | apply State.wr_at

theorem freezeStep_at (s : State) (hs : At τ s) : At τ (freezeStep s) := by
  unfold freezeStep
  with_reducible repeat' first
    | assumption | split | apply State.askFreeze_at

theorem releaseStep_at (s : State) (hs : At τ s) : At τ (releaseStep s) := by
  unfold releaseStep
  with_reducible repeat' first
    | assumption | split | apply updSys_at | apply State.err_at | (refine at_iff.2 ?_; dsimp only; refine at_iff.1 ?_)

theorem dbgCtrlStep_at (v : Word) (s : State) (hs : At τ s) : At τ (dbgCtrlStep v s) := by
  unfold dbgCtrlStep
  with_reducible repeat' first
    | assumption | split | apply freezeStep_at | apply releaseStep_at
    | (refine at_iff.2 ?_; dsimp only; refine at_iff.1 ?_)

theorem trackersWait_at (s : State) (hs : At τ s) : At τ (trackersWait s) := by
  unfold trackersWait
  with_reducible repeat' first
    | assumption | split | intro x | apply at_foldS | apply leaveSync_at | apply State.updTrk_at

theorem freezeEnd_at (s : State) (hs : At τ s) : At τ (freezeEnd s) := by
  unfold freezeEnd
  with_reducible repeat' first
    | assumption | split | apply resumePwm_at | apply disarmNow_at | apply State.wr_at | apply trackersWait_at
    | (refine at_iff.2 ?_; dsimp only; refine at_iff.1 ?_)

theorem thermReleaseStep_at (s : State) (hs : At τ s) : At τ (thermReleaseStep s) := by
  unfold thermReleaseStep
  with_reducible repeat' first
    | assumption | split | apply State.err_at | apply releaseHolds_at

theorem ptLoReadStep_at (s : State) (hs : At τ s) : At τ (ptLoReadStep s) :=
  State.respond_at _ _ (State.setReg_at _ _ _ hs)

theorem setHalf_at (p : BusPath) (h : HalfPath) (s : State) (hs : At τ s) : At τ (setHalf p h s) := by
  unfold setHalf
  with_reducible repeat' first
    | assumption | split | apply updBankOf_at | (refine at_iff.2 ?_; dsimp only; refine at_iff.1 ?_)

theorem pdataRead_at (e : Fin 8) (s : State) (hs : At τ s) : At τ (pdataRead e s) :=
  State.respond_at _ _ (paddrAuto_at _ _ hs)

theorem readActs1_at (p o : Nat) : KeepsAt τ (readActs1 p o) := by
  unfold readActs1
  with_reducible repeat' first
    | apply keepsAt_none | apply keepsAt_ite | refine keepsAt_some fun s hs => ?_ | assumption | apply ptLoReadStep_at
    | apply angleReadStep_at | apply ptabLoRead_at | apply ptabHiRead_at | apply stampLoRead_at | apply latePopStep_at
    | apply sumLoReadStep_at

theorem readActs2_at (p o : Nat) : KeepsAt τ (readActs2 p o) := by
  unfold readActs2
  with_reducible repeat' first
    | apply keepsAt_none | apply keepsAt_ite | refine keepsAt_some fun s hs => ?_ | assumption
    | apply scanLoReadStep_at | apply capPtReadStep_at | apply pdataRead_at | apply rnlOutStep_at
    | apply evtPopStep_at | apply msgPayStep_at

theorem readActs_at (s : State) (a : Nat) : KeepsAt τ (readActs s a) := by
  unfold readActs
  with_reducible repeat' first
    | apply keepsAt_none | apply keepsAt_ite | apply readActs1_at | apply readActs2_at

theorem regRead_at (init : Initiator) (a : Nat) (s : State) (hs : At τ s) : At τ (regRead init a s).2 := by
  unfold regRead
  split
  next f hf => exact readActs_at s a f hf s hs
  next => split <;> exact hs

theorem plainWrite_at (a : Nat) (v : Word) (s : State) (hs : At τ s) : At τ (plainWrite a v s) :=
  State.setReg_at _ _ _ hs

theorem planCmdStep_at (v : Word) (s : State) (hs : At τ s) : At τ (planCmdStep v s) := by
  unfold planCmdStep
  with_reducible repeat' first
    | assumption | split | apply planLoadStep_at | apply armStep_at | apply disarmStep_at

theorem profileWrite_at (k : Nat) (v : Word) (s : State) (hs : At τ s) : At τ (profileWrite k v s) := by
  unfold profileWrite
  with_reducible repeat' first
    | assumption | split | apply State.err_at | apply State.updPlan_at | apply State.wr_at

theorem calCmdStep_at (k : Fin 4) (v : Word) (s : State) (hs : At τ s) : At τ (calCmdStep k v s) := by
  unfold calCmdStep
  with_reducible repeat' first
    | assumption | split | apply calStartStep_at | apply calAbortStep_at

theorem calCfgStep_at (k : Fin 4) (v : Word) (s : State) (hs : At τ s) : At τ (calCfgStep k v s) :=
  State.wr_at _ _ _ _ (plainWrite_at _ _ _ hs)

theorem pwmFlagsStep_at (n : Fin 16) (v : Word) (s : State) (hs : At τ s) : At τ (pwmFlagsStep n v s) := by
  unfold pwmFlagsStep
  with_reducible repeat' first
    | assumption | split | apply plainWrite_at | apply tripClearStep_at

theorem flumeCmdStep_at (c : Fin 32) (v : Word) (s : State) (hs : At τ s) : At τ (flumeCmdStep c v s) := by
  unfold flumeCmdStep
  with_reducible repeat' first
    | assumption | split | apply softStart_at | apply dmaServe_at | apply abortChan_at | apply resumeChan_at

theorem hpsCfgStep_at (v : Word) (s : State) (hs : At τ s) : At τ (hpsCfgStep v s) := by
  unfold hpsCfgStep
  with_reducible repeat' first
    | assumption | split | apply State.wr_at | (refine at_iff.2 ?_; dsimp only; refine at_iff.1 ?_)

theorem seqResetStep_at (s : State) (hs : At τ s) : At τ (seqResetStep s) :=
  State.wr_at _ _ _ _ hs

theorem flStartStep_at (s : State) (hs : At τ s) : At τ (flStartStep s) := by
  unfold flStartStep
  with_reducible repeat' first
    | assumption | split | apply State.err_at | apply State.wr_at | apply addWait_at
    | (refine at_iff.2 ?_; dsimp only; refine at_iff.1 ?_)

theorem slotMaxStep_at (c : Fin 4) (v : Word) (s : State) (hs : At τ s) : At τ (slotMaxStep c v s) := by
  unfold slotMaxStep
  with_reducible repeat' first
    | assumption | apply State.updCore_at

theorem coreCtlWrite_at (c : Fin 4) (a : Nat) (v : Word) (s : State) (hs : At τ s) : At τ (coreCtlWrite c a v s) := by
  unfold coreCtlWrite
  with_reducible repeat' first
    | assumption | split | apply coreRestartStep_at | apply slotMaxStep_at | apply plainWrite_at
    | (refine at_iff.2 ?_; dsimp only; refine at_iff.1 ?_)

theorem writeActs1_at (init : Initiator) (p o a : Nat) (v : Word) : KeepsAt τ (writeActs1 init p o a v) := by
  unfold writeActs1
  with_reducible repeat' first
    | apply keepsAt_none | apply keepsAt_ite | refine keepsAt_some fun s hs => ?_ | assumption | apply at_ite
    | intro x | apply parkStep_at
    | apply plainWrite_at | apply shadowClrStep_at | apply sigResetStep_at | apply rejoinStep_at
    | apply handbackStep_at | apply ptabLoWrite_at | apply ptabHiWrite_at | apply planCmdStep_at
    | apply govClearStep_at | apply subWriteStep_at | apply sub3Bus_at | apply jrnRdStep_at | apply bankUnlockStep_at

theorem writeActs2_at (p o : Nat) (v : Word) : KeepsAt τ (writeActs2 p o v) := by
  unfold writeActs2
  with_reducible repeat' first
    | apply keepsAt_none | apply keepsAt_ite | refine keepsAt_some fun s hs => ?_ | assumption | apply convSoftStep_at
    | apply calCfgStep_at | apply calCmdStep_at | apply ringMarkStep_at | apply dacWriteStep_at | apply loadAllStep_at
    | apply pwmRunStep_at | apply pwmForceStep_at | apply pwmFlagsStep_at | apply tmrRunStep_at | apply tmrSoftStep_at
    | apply cmpWriteStep_at

theorem rneWrite_at (e : Fin 8) (r : Nat) (v : Word) : KeepsAt τ (rneWrite e r v) := by
  unfold rneWrite
  with_reducible repeat' first
    | apply keepsAt_none | apply keepsAt_ite | refine keepsAt_some fun s hs => ?_ | assumption | apply at_ite
    | intro x | apply shiftClrStep_at
    | apply rnlInStep_at | apply rnlProgStep_at

theorem flcWrite_at (c : Fin 32) (r a : Nat) (v : Word) : KeepsAt τ (flcWrite c r a v) := by
  unfold flcWrite
  with_reducible repeat' first
    | apply keepsAt_none | apply keepsAt_ite | refine keepsAt_some fun s hs => ?_ | assumption | apply progWrite_at
    | apply plainWrite_at | apply ctrlWriteStep_at | apply flumeCmdStep_at

theorem writeActs3_at (p o a : Nat) (v : Word) : KeepsAt τ (writeActs3 p o a v) := by
  unfold writeActs3
  with_reducible repeat' first
    | apply keepsAt_none | apply keepsAt_ite | refine keepsAt_some fun s hs => ?_ | assumption | apply rneWrite_at
    | apply flcWrite_at | apply rnlRunStep_at | apply State.raise_at | apply countWrite_at | apply completeStep_at

theorem writeActs4_at (p o a : Nat) (v : Word) : KeepsAt τ (writeActs4 p o a v) := by
  unfold writeActs4
  with_reducible repeat' first
    | apply keepsAt_none | apply keepsAt_ite | refine keepsAt_some fun s hs => ?_ | assumption | apply at_ite
    | intro x | apply hpsCfgStep_at
    | apply seqResetStep_at | apply flStartStep_at | apply rstCmdStep_at | apply plainWrite_at | apply State.wr_at
    | apply thermReleaseStep_at | apply dbgCtrlStep_at

theorem writeActs_at (init : Initiator) (a : Nat) (v : Word) : KeepsAt τ (writeActs init a v) := by
  unfold writeActs
  with_reducible repeat' first
    | apply keepsAt_ite | apply writeActs1_at | apply writeActs2_at | apply writeActs3_at | apply writeActs4_at

theorem headerWrite_at (p o : Nat) (v : Word) (s : State) (hs : At τ s) : At τ (headerWrite p o v s) := by
  unfold headerWrite
  with_reducible repeat' first
    | assumption | split | apply ctrlStep_at | apply evtRawStep_at | apply evtSetStep_at | apply State.wr_at
    | apply plainWrite_at

theorem noteLoadReg_at (a : Nat) (s : State) (hs : At τ s) : At τ (noteLoadReg a s) := by
  unfold noteLoadReg
  with_reducible repeat' first
    | assumption | split | apply noteSoft_at

theorem regWrite_at (init : Initiator) (a : Nat) (v : Word) (s : State) (hs : At τ s) :
    At τ (regWrite init a v s) := by
  unfold regWrite
  repeat' split
  · exact coreCtlWrite_at _ _ _ _ hs
  · exact profileWrite_at _ _ _ hs
  · exact hs
  · exact headerWrite_at _ _ _ _ hs
  · exact State.err_at _ _ hs
  next f hf => exact writeActs_at init a v f hf s hs
  · exact noteLoadReg_at _ _ (plainWrite_at _ _ _ hs)

theorem halfRead_at (p : BusPath) (a : Nat) (s : State) (hs : At τ s) : At τ (halfRead p a s).2 := by
  unfold halfRead
  with_reducible repeat' first
    | assumption | split | apply regRead_at | apply setHalf_at | (refine at_iff.2 ?_; dsimp only; refine at_iff.1 ?_)

theorem halfDiscard_at (p : BusPath) (s : State) (hs : At τ s) : At τ (halfDiscard p s) := by
  unfold halfDiscard
  with_reducible repeat' first
    | assumption | split | apply State.bump_at | apply State.wr_at

theorem halfWrite_at (p : BusPath) (a v : Nat) (s : State) (hs : At τ s) : At τ (halfWrite p a v s).2 := by
  unfold halfWrite
  with_reducible repeat' first
    | assumption | split | apply setHalf_at | apply regWrite_at | apply halfDiscard_at
    | (refine at_iff.2 ?_; dsimp only; refine at_iff.1 ?_)

theorem planMemWrite_at (f : State → State) (s : State) (hs : At τ s) (hf : ∀ s, At τ s → At τ (f s)) :
    At τ (planMemWrite f s) := by
  unfold planMemWrite
  with_reducible repeat' first
    | assumption | split | apply State.err_at | apply State.wr_at | apply hf

theorem writeSecs_at (a n v : Nat) (s : State) (hs : At τ s) : At τ (writeSecs a n v s) := by
  unfold writeSecs
  with_reducible repeat' first
    | assumption | intro x | apply at_foldS | (refine at_iff.2 ?_; dsimp only; refine at_iff.1 ?_)

theorem secRead_at (w : Nat) (s : State) (hs : At τ s) : At τ (secRead w s) := by
  unfold secRead
  with_reducible repeat' first
    | assumption | split | apply State.bump_at | apply noteMicrocode_at | apply State.wr_at
    | (refine at_iff.2 ?_; dsimp only; refine at_iff.1 ?_)

theorem pathBeat_at (p : BusPath) (port : Nat) (s : State) (hs : At τ s) : At τ (pathBeat p port s) := by
  unfold pathBeat
  with_reducible repeat' first
    | assumption | split | apply monBeat_at

theorem busRead_at (p : BusPath) (addr n : Nat) (s : State) (hs : At τ s) : At τ (busRead p addr n s).2 := by
  unfold busRead
  with_reducible repeat' first
    | assumption | split | apply at_foldS | apply busError_at | apply pathBeat_at | apply readDec_at
    | apply secRead_at | apply regRead_at | apply halfRead_at | (refine at_iff.2 ?_; dsimp only; refine at_iff.1 ?_)

theorem busWrite_at (p : BusPath) (addr n v : Nat) (s : State) (hs : At τ s) : At τ (busWrite p addr n v s).2 := by
  unfold busWrite
  with_reducible repeat' first
    | assumption | split | apply busError_at | apply pathBeat_at | apply writeDec_at | apply planMemWrite_at
    | apply writeSecs_at | apply State.err_at | apply regWrite_at | apply halfWrite_at
    | (refine at_iff.2 ?_; dsimp only; refine at_iff.1 ?_)

theorem remoteSubWrite_at (init : Initiator) (a : Nat) (v : Word) (s : State) (hs : At τ s) :
    At τ (remoteSubWrite init a v s).2 := by
  unfold remoteSubWrite
  dsimp only
  repeat' split
  · exact busError_at _ _ _ _ hs
  · exact monBeat_at _ _ _ (remoteWrite_at _ _ _ _ _ hs)
  · exact remoteSubmit_at _ _ _ _ _ hs
  · exact remoteSubmit_at _ _ _ _ _ hs
  · exact busError_at _ _ _ _ (remoteSubmit_at _ _ _ _ _ hs)

theorem remoteSubHalf_at (p : BusPath) (a v : Nat) (s : State) (hs : At τ s) : At τ (remoteSubHalf p a v s).2 := by
  unfold remoteSubHalf
  with_reducible repeat' first
    | assumption | split | apply setHalf_at | apply remoteSubWrite_at | apply halfDiscard_at
    | (refine at_iff.2 ?_; dsimp only; refine at_iff.1 ?_)

theorem peerHalf_at (p : BusPath) (a : Nat) (s : State) (hs : At τ s) : At τ (peerHalf p a s) := by
  unfold peerHalf
  with_reducible repeat' first
    | assumption | split | apply halfDiscard_at | (refine at_iff.2 ?_; dsimp only; refine at_iff.1 ?_)

theorem accessDo_at (who : PeerWho) (p : BusPath) (a n : Nat) (write : Bool) (v : Nat) (s : State) (hs : At τ s) :
    At τ (accessDo who p a n write v s).2 := by
  unfold accessDo
  with_reducible repeat' first
    | assumption | split | apply busWrite_at | apply busRead_at | apply remoteSubWrite_at | apply remoteSubHalf_at
    | apply monBeat_at | apply peerHalf_at | apply peerSend_at | apply busError_at
    | (refine at_iff.2 ?_; dsimp only; refine at_iff.1 ?_)

theorem accessBegin_at (who : PeerWho) (init : Initiator) (a n : Nat) (write : Bool) (v : Nat) (s : State) (hs :
    At τ s) : At τ (accessBegin who init a n write v s).2 := by
  unfold accessBegin
  with_reducible repeat' first
    | assumption | split | apply accessDo_at | apply takeTurn_at | apply addWait_at
    | (refine at_iff.2 ?_; dsimp only; refine at_iff.1 ?_)

theorem answer_at (st v n : Nat) (s : State) (hs : At τ s) : At τ (answer st v n s) := by
  unfold answer
  with_reducible repeat' first
    | assumption | split | (refine at_iff.2 ?_; dsimp only; refine at_iff.1 ?_)

theorem endtFirst_at (c : Fin 4) (s : State) (hs : At τ s) : At τ (endtFirst c s) := by
  unfold endtFirst
  with_reducible repeat' first
    | assumption | split | apply taskDone_at | (refine at_iff.2 ?_; dsimp only; refine at_iff.1 ?_)

theorem taskStops_at (c : Fin 4) (s : State) (hs : At τ s) : At τ (taskStops c s) :=
  State.updCore_at _ _ _ hs

theorem farFault_at (c : Fin 4) (task : Bool) (s : State) (hs : At τ s) : At τ (farFault c task s) := by
  unfold farFault
  with_reducible repeat' first
    | assumption | split | apply endtFirst_at | apply coreFault_at | apply State.setReg_at | apply State.raise_at
    | apply taskStops_at | apply State.updCore_at | (refine at_iff.2 ?_; dsimp only; refine at_iff.1 ?_)

theorem postedAct_at (c : Fin 4) (task : Bool) (f : FarAcc) (s : State) (hs : At τ s) :
    At τ (postedAct c task f s) := by
  unfold postedAct
  with_reducible repeat' first
    | assumption | split | apply busWrite_at | apply farFault_at
    | (refine at_iff.2 ?_; dsimp only; refine at_iff.1 ?_)

theorem postedDue_at (p : FarAcc → Bool) (c : Fin 4) (s : State) (hs : At τ s) : At τ (postedDue p c s) := by
  unfold postedDue
  with_reducible repeat' first
    | assumption | intro x | apply at_foldS | apply State.updCore_at | apply postedAct_at

theorem postedEnd_at (s : State) (hs : At τ s) : At τ (postedEnd s) := by
  unfold postedEnd
  with_reducible repeat' first
    | assumption | split | intro x | apply at_foldS | apply postedDue_at

theorem postedTick_at (s : State) (hs : At τ s) : At τ (postedTick s) := by
  unfold postedTick
  with_reducible repeat' first
    | assumption | intro x | apply at_foldS | apply postedDue_at

theorem setHostReq_at (hpq : Bool) (r : Option HostReq) (s : State) (hs : At τ s) : At τ (setHostReq hpq r s) :=
  State.updHost_at _ _ hs

theorem genEdge_at (s : State) (hs : At τ s) : At τ (genEdge s) :=
  State.updHost_at _ _ hs

theorem hostReply_at (hpq quiet executed : Bool) (st tag : Nat) (words : List Word) (s : State) (hs : At τ s) :
    At τ (hostReply hpq quiet executed st tag words s) := by
  unfold hostReply
  with_reducible repeat' first
    | assumption | split | apply State.updHost_at | apply genEdge_at

theorem hostEnds_at (hpq : Bool) (r : HostReq) (st : Nat) (s : State) (hs : At τ s) : At τ (hostEnds hpq r st s) :=
  hostReply_at _ _ _ _ _ _ _ (setHostReq_at _ _ _ hs)

theorem hostRun_at (hpq : Bool) (k : Nat) (r : HostReq) (s : State) (hs : At τ s) : At τ (hostRun hpq k r s) := by
  induction k generalizing r s with
  | zero => exact setHostReq_at _ _ _ hs
  | succ k ih =>
    unfold hostRun
    dsimp only
    repeat' split
    · exact hostEnds_at _ _ _ _ hs
    · exact setHostReq_at _ _ _ (accessBegin_at _ _ _ _ _ _ _ hs)
    · exact ih _ _ (accessBegin_at _ _ _ _ _ _ _ hs)
    · exact hostEnds_at _ _ _ _ (accessBegin_at _ _ _ _ _ _ _ hs)

theorem hostAnswer_at (hpq : Bool) (st v : Nat) (s : State) (hs : At τ s) : At τ (hostAnswer hpq st v s) := by
  unfold hostAnswer
  with_reducible repeat' first
    | assumption | split | apply hostEnds_at | apply hostRun_at

theorem gen1Result_at (err data : Nat) (s : State) (hs : At τ s) : At τ (gen1Result err data s) :=
  State.updHost_at _ _ hs

theorem gen1Answer_at (write : Bool) (st v : Nat) (s : State) (hs : At τ s) : At τ (gen1Answer write st v s) :=
  gen1Result_at _ _ _ hs

theorem flWord_at (a v : Nat) (s : State) (hs : At τ s) : At τ (flWord a v s).2 :=
  accessBegin_at _ _ _ _ _ _ _ hs

theorem askFlash_at (a n : Nat) (s : State) (hs : At τ s) : At τ (askFlash a n s) := hs.congr rfl

theorem bootEnd_at (r : Nat) (s : State) (hs : At τ s) : At τ (bootEnd r s) := by
  unfold bootEnd
  with_reducible repeat' first
    | assumption | apply State.wr_at | apply State.raise_at | (refine at_iff.2 ?_; dsimp only; refine at_iff.1 ?_)

theorem bootWrites_at (l : List (Nat × Nat)) (s : State) (hs : At τ s) : At τ (bootWrites l s) := by
  induction l generalizing s with
  | nil => exact askFlash_at _ _ _ (State.wr_at _ _ _ _ hs)
  | cons e l ih =>
    have hx := flWord_at e.1 e.2 s hs
    unfold bootWrites
    dsimp only
    split
    · exact hx.congr rfl
    · exact ih _ (hx.congr rfl)
    · exact bootEnd_at _ _ (State.wr_at _ _ _ _ (hx.congr rfl))

theorem bootAnswer_at (st : Nat) (s : State) (hs : At τ s) : At τ (bootAnswer st s) := by
  unfold bootAnswer
  with_reducible repeat' first
    | assumption | split | apply bootEnd_at | apply State.wr_at | apply bootWrites_at

theorem bootCopied_at (s : State) (hs : At τ s) : At τ (bootCopied s) := by
  unfold bootCopied
  with_reducible repeat' first
    | assumption | apply State.wr_at | apply planLoadStep_at | (refine at_iff.2 ?_; dsimp only; refine at_iff.1 ?_)

theorem flBytes_at (n st v : Nat) (s : State) (hs : At τ s) : At τ (flBytes n st v s).2 := by
  unfold flBytes
  with_reducible repeat' first
    | assumption | split | apply State.drawFree_at | (refine at_iff.2 ?_; dsimp only; refine at_iff.1 ?_)

theorem flTake_at (n st v : Nat) (s : State) (hs : At τ s) : At τ (flTake n st v s) := by
  unfold flTake
  with_reducible repeat' first
    | assumption | split | apply flBytes_at | (refine at_iff.2 ?_; dsimp only; refine at_iff.1 ?_)

theorem flEnds_at (j : FlJob) (s : State) (hs : At τ s) : At τ (flEnds j s) := by
  unfold flEnds
  with_reducible repeat' first
    | assumption | split | apply bootCopied_at | apply State.wr_at | apply State.raise_at
    | (refine at_iff.2 ?_; dsimp only; refine at_iff.1 ?_)

theorem flRun_at (k : Nat) (s : State) (hs : At τ s) : At τ (flRun k s) := by
  induction k generalizing s with
  | zero => exact hs
  | succ k ih =>
    unfold flRun
    dsimp only
    repeat' split
    · exact hs
    · exact flEnds_at _ _ hs
    · exact accessBegin_at _ _ _ _ _ _ _ hs
    · exact ih _ (flTake_at _ _ _ _ (accessBegin_at _ _ _ _ _ _ _ hs))

theorem flAnswer_at (st v : Nat) (s : State) (hs : At τ s) : At τ (flAnswer st v s) := by
  unfold flAnswer
  with_reducible repeat' first
    | assumption | split | apply flRun_at | apply flTake_at

theorem crossEntry_at (n : Nat) (h : Bool) (s : State) (hs : At τ s) : At τ (crossEntry n h s) := by
  unfold crossEntry
  with_reducible repeat' first
    | assumption | split | apply State.updTrk_at | apply envelopeEdge_at | apply trimSnapshot_at
    | (refine at_iff.2 ?_; dsimp only; refine at_iff.1 ?_)

theorem crossEntries_at (k old new : Nat) (s : State) (hs : At τ s) : At τ (crossEntries k old new s) := by
  induction k generalizing old s with
  | zero => exact hs
  | succ k ih =>
    unfold crossEntries
    dsimp only
    split
    · exact hs
    · exact ih _ _ (crossEntry_at _ _ _ hs)

theorem followTick_at (s : State) (hs : At τ s) : At τ (followTick s) := by
  unfold followTick
  with_reducible repeat' first
    | assumption | split | apply State.updTrk_at | apply State.updLink_at
    | (refine at_iff.2 ?_; dsimp only; refine at_iff.1 ?_)

theorem sendEvtFrame_at (src : Nat) (s : State) (hs : At τ s) : At τ (sendEvtFrame src s) := by
  unfold sendEvtFrame
  with_reducible repeat' first
    | assumption | split | apply State.updLink_at | apply sendFrame_at
    | (refine at_iff.2 ?_; dsimp only; refine at_iff.1 ?_)

theorem waitEnds_at (who : PeerWho) (n : Nat) (write : Bool) (st v : Nat) (s : State) (hs : At τ s) :
    At τ (waitEnds who n write st v s) := by
  unfold waitEnds
  with_reducible repeat' first
    | assumption | split | apply answer_at | apply hostAnswer_at | apply gen1Answer_at | apply bootAnswer_at
    | apply flAnswer_at | (refine at_iff.2 ?_; dsimp only; refine at_iff.1 ?_)

theorem frameWord_at (write : Bool) (f : MemFrame) (i : Nat) (s : State) (hs : At τ s) :
    At τ (frameWord write f i s).2 := by
  unfold frameWord
  with_reducible repeat' first
    | assumption | split | apply busWrite_at | apply busRead_at

theorem frameEnds_at (p : Fin 2) (write : Bool) (f : MemFrame) (st : Nat) (got : List Nat) (s : State) (hs : At τ s) :
    At τ (frameEnds p write f st got s) := by
  unfold frameEnds
  with_reducible repeat' first
    | assumption | split | apply sendFrame_at

theorem frameRun_at (p : Fin 2) (write : Bool) (f : MemFrame) (k : Nat) (got : List Nat) (s : State) (hs : At τ s) :
    At τ (frameRun p write f k got s) := by
  induction k generalizing got s with
  | zero => exact hs
  | succ k ih =>
    have hx := frameWord_at write f got.length _ (takeTurn_at 0x12 (portOf (memAddr f + 4 * got.length)) s hs)
    unfold frameRun
    dsimp only
    repeat' split
    · exact frameEnds_at _ _ _ _ _ _ hs
    · exact ih _ _ hx
    · exact frameEnds_at _ _ _ _ _ _ hx
    · exact hs.congr rfl

theorem waitBeat_at (r : WaitReq) (s : State) (hs : At τ s) : At τ (waitBeat r s) := by
  unfold waitBeat
  with_reducible repeat' first
    | assumption | split | apply frameWord_at | apply frameRun_at | apply frameEnds_at | apply accessDo_at
    | apply waitEnds_at | (refine at_iff.2 ?_; dsimp only; refine at_iff.1 ?_)

theorem takeWait_at (r : WaitReq) (s : State) (hs : At τ s) : At τ (takeWait r s) := by
  unfold takeWait
  with_reducible repeat' first
    | assumption | apply waitBeat_at | (refine at_iff.2 ?_; dsimp only; refine at_iff.1 ?_)

theorem grantCycle_at (code port : Nat) (s : State) (hs : At τ s) : At τ (grantCycle code port s) := by
  unfold grantCycle
  with_reducible repeat' first
    | assumption | apply beatAt_at | (refine at_iff.2 ?_; dsimp only; refine at_iff.1 ?_)

theorem serveWinner_at (code port : Nat) (s : State) (hs : At τ s) : At τ (serveWinner code port s) := by
  unfold serveWinner
  with_reducible repeat' first
    | assumption | split | apply takeWait_at | apply grantCycle_at

theorem openEnd_at (port : Nat) (s : State) (hs : At τ s) : At τ (openEnd port s) := by
  unfold openEnd
  with_reducible repeat' first
    | assumption | split | apply setRot_at | apply serveWinner_at | apply takeWait_at
    | (refine at_iff.2 ?_; dsimp only; refine at_iff.1 ?_)

theorem portEnd_at (port : Nat) (s : State) (hs : At τ s) : At τ (portEnd port s) := by
  unfold portEnd
  with_reducible repeat' first
    | assumption | split | apply takeWait_at | apply openEnd_at | (refine at_iff.2 ?_; dsimp only; refine at_iff.1 ?_)

theorem nowhereEnd_at (s : State) (hs : At τ s) : At τ (nowhereEnd s) := by
  unfold nowhereEnd
  with_reducible repeat' first
    | assumption | apply at_foldS | apply takeWait_at

theorem portsEnd_at (s : State) (hs : At τ s) : At τ (portsEnd s) := by
  unfold portsEnd
  with_reducible repeat' first
    | assumption | split | apply at_foldS | apply portEnd_at | apply nowhereEnd_at

theorem scrubFrame_at (s : State) (hs : At τ s) : At τ (scrubFrame s) := by
  unfold scrubFrame
  with_reducible repeat' first
    | assumption | split | apply State.bumpBy_at | (refine at_iff.2 ?_; dsimp only; refine at_iff.1 ?_)

theorem accumulate_at (s : State) (hs : At τ s) : At τ (accumulate s) := by
  unfold accumulate
  with_reducible repeat' first
    | assumption | split | apply followTick_at | apply State.updTrk_at

theorem releaseHold_at (before : Nat) (s : State) (hs : At τ s) : At τ (releaseHold before s) := by
  unfold releaseHold
  with_reducible repeat' first
    | assumption | split | apply updDev_at | (refine at_iff.2 ?_; dsimp only; refine at_iff.1 ?_)

theorem deviceMoves_at (pos old : Nat) (s : State) (hs : At τ s) : At τ (deviceMoves pos old s) := by
  unfold deviceMoves
  with_reducible repeat' first
    | assumption | split | apply reachPos_at | (refine at_iff.2 ?_; dsimp only; refine at_iff.1 ?_)

theorem trackerMoves_at (t : Fin 2) (old : Nat) (s : State) (hs : At τ s) : At τ (trackerMoves t old s) := by
  unfold trackerMoves
  with_reducible repeat' first
    | assumption | split | apply ownPassed_at | apply crossEntries_at
    | (refine at_iff.2 ?_; dsimp only; refine at_iff.1 ?_)

theorem handoverEdge_at (s : State) (hs : At τ s) : At τ (handoverEdge s) := by
  unfold handoverEdge
  with_reducible repeat' first
    | assumption | split | apply crankEdgeStep_at

theorem anglesTick_at (s : State) (hs : At τ s) : At τ (anglesTick s) := by
  unfold anglesTick
  with_reducible repeat' first
    | assumption | split | apply accumulate_at | apply handoverSweep_at | apply handoverEdge_at | apply handover_at
    | apply trackerMoves_at | apply deviceMoves_at | apply releaseHold_at
    | (refine at_iff.2 ?_; dsimp only; refine at_iff.1 ?_)

theorem checkBits_at (t : Fin 2) (v : Nat) (s : State) (hs : At τ s) : At τ (checkBits t v s) := by
  unfold checkBits
  with_reducible repeat' first
    | assumption | split | intro x | apply at_foldS | apply setIfault_at

theorem checksTick_at (a b : Nat) (s : State) (hs : At τ s) : At τ (checksTick a b s) :=
  checkBits_at _ _ _ (checkBits_at _ _ _ hs)

theorem commitsTick_at (s : State) (hs : At τ s) : At τ (commitsTick s) := by
  unfold commitsTick
  with_reducible repeat' first
    | assumption | split | intro x | apply at_foldS | apply actConv_at | apply actCommitted_at

theorem evtsDone_at (n : Nat) (s : State) (hs : At τ s) : At τ (evtsDone n s) :=
  State.updLink_at _ _ hs

theorem evtsEnd_at (s : State) (hs : At τ s) : At τ (evtsEnd s) := by
  unfold evtsEnd
  with_reducible repeat' first
    | assumption | intro x | apply at_foldS | apply evtsDone_at

theorem evtsTick_at (s : State) (hs : At τ s) : At τ (evtsTick s) := by
  unfold evtsTick
  with_reducible repeat' first
    | assumption | split | intro x | apply at_foldS | apply sendEvtFrame_at

theorem frameTick_at (s : State) (hs : At τ s) : At τ (frameTick s) := by
  unfold frameTick
  with_reducible repeat' first
    | assumption | split | apply scrubFrame_at | apply State.bumpWrap_at

theorem interconnectTick_at (s : State) (hs : At τ s) : At τ (interconnectTick s) := by
  unfold interconnectTick
  with_reducible repeat' first
    | assumption | split | apply postedTick_at | apply catchTick_at | apply evtsEnd_at | apply evtsTick_at
    | apply frameTick_at

theorem tickEnds_at (s : State) (hs : At τ s) : At τ (tickEnds s) := by
  unfold tickEnds
  with_reducible repeat' first
    | assumption | apply beatsEnd_at | apply jrnRdEnd_at | apply recordsEnd_at | apply flumeSubsEnd_at
    | apply postedEnd_at | apply commitsJudge_at | apply portsEnd_at

end Sys2Proof.Machine

namespace Sys2Proof.Machine
section
variable {s t u : State}

/-! ### Whether PT stands -/

theorem stands_of_sys (h : t.sys.calm = s.sys.calm) : t.ptStands = s.ptStands := by
  have := congrArg (fun y : Sys => ({ s with sys := y } : State).ptStands) h
  exact this

theorem sys_of_desk (h : t.desk = s.desk) : t.sys.calm = s.sys.calm := congrArg (fun d : Desk => d.calm.sys) h

theorem sys_of_still (h : t.desk.still = s.desk.still) : t.sys.calm = s.sys.calm := congrArg (fun d : Still => d.calm.sys) h

theorem held_of_stands (h : s.held = true) : s.ptStands = true := by simp [State.ptStands, h]

theorem busError_desk (init : Initiator) (a : Nat) (w : Bool) (s : State) : (busError init a w s).desk = s.desk := by
  unfold busError
  dsimp only
  have h (v : State) : ({ v with respData := [], respErr := true } : State).desk = v.desk := rfl
  rw [h, raise_desk _ (by decide), setReg_desk _ _ (by decide) (by decide), setReg_desk _ _ (by decide) (by decide)]

theorem headgateErr_desk (s : State) : (s.err 0x06).desk = s.desk := bump_desk s (by decide) (by decide)

theorem sub3Step_desk (init : Initiator) (v : Word) (s : State) : (sub3Step init v s).desk = s.desk := by
  unfold sub3Step
  dsimp only
  repeat' split
  · rfl
  · rw [busError_desk, headgateErr_desk]
  · rfl
  · rw [respond_desk, submit_desk, updStaging_desk]

theorem jrnRdAct_desk (v : Word) (s : State) : (jrnRdAct v s).desk = s.desk := by
  unfold jrnRdAct
  dsimp only
  split
  · exact wr_desk s _ (by decide) (by decide)
  · exact bump_desk s (by decide) (by decide)

/-- What follows the posted accesses at the end of a tick is bookkeeping. -/
theorem recordsOfEnd_desk (s : State) : (beatsEnd (jrnRdEnd (recordsEnd (flumeSubsEnd s)))).desk = s.desk := by
  have hsubs : (flumeSubsEnd s).desk = s.desk :=
    foldS_keeps (v := State.desk) (sub3Step_desk (.flume 0)) _ _
  have hrecs (v : State) : (recordsEnd v).desk = v.desk := by
    unfold recordsEnd
    split
    · rfl
    · exact flushRecs_desk v
  have hjrn (v : State) : (jrnRdEnd v).desk = v.desk := foldS_keeps (v := State.desk) jrnRdAct_desk _ _
  rw [beatsEnd, with_memc_desk, hjrn, hrecs, hsubs]

/-! ### Posted accesses of a tick's end (R352, R209)

At the end of a tick a core's posted store goes to a data memory or to SUB3; neither moves what PT stands for. -/

theorem secWrite_sys (a n v : Nat) (s : State) : (writeSecs a n v s).sys = s.sys := by
  unfold writeSecs
  dsimp only
  rw [foldS_keeps (v := State.sys)]
  exact fun _ _ => rfl

/-- An address whose posted store is served at the end of a tick. -/
def servedLast (a : Nat) : Prop := (∃ n, regionOf a = some (.dmem n)) ∨ regionOf a = some .pages ∧ a / 4 * 4 = 0x40604C

theorem region_of_peer {a d : Nat} (h : peerOf s a = some d) : ∃ e, regionOf a = some (.peer e) := by
  unfold peerOf at h
  split at h
  next e he => exact ⟨e, he⟩
  next => cases h

theorem servedLast_of_actsLast {f : FarAcc} (h : actsLast s f = true) : servedLast (ownAddr f.addr) := by
  unfold actsLast at h
  cases hp : peerOf s f.addr with
  | some d =>
    obtain ⟨e, he⟩ := region_of_peer hp
    rw [targetOf, hp, Option.isSome_some, if_pos rfl, he] at h
    cases h
  | none =>
    rw [targetOf, hp, Option.isSome_none, if_neg Bool.false_ne_true] at h
    split at h
    next n he => exact Or.inl ⟨n, he⟩
    next he => exact Or.inr ⟨he, of_decide_eq_true h⟩
    next => cases h

theorem updBankOf_sys (c : Fin 4) (k : Bool) (f : CoreBank → CoreBank) (s : State) : (updBankOf c k f s).sys = s.sys := by
  unfold updBankOf
  split <;> rfl

theorem writeActs_sub3 (init : Initiator) (v : Word) : writeActs init 0x40604C v = some (sub3Bus init v) := rfl

theorem regWrite_sub3_sys (c : Fin 4) (v : Word) (s : State) : (regWrite (.core c) 0x40604C v s).sys.calm = s.sys.calm := by
  have hprof : profTableAt 0x40604C = none := rfl
  unfold regWrite
  rw [if_neg (by decide), hprof, writeActs_sub3]
  dsimp only
  repeat' split
  · rfl
  · next h => exact absurd h (by decide)
  · exact sys_of_desk (headgateErr_desk s)
  · exact sys_of_desk (sub3Step_desk _ v s)

theorem setHalf_sys (p : BusPath) (h : HalfPath) (s : State) : (setHalf p h s).sys = s.sys := by
  unfold setHalf
  split
  · rfl
  · exact updBankOf_sys _ _ _ s
  · rfl

theorem halfWrite_sub3_sys (c : Fin 4) (k : Bool) {a : Nat} (ha : a / 4 * 4 = 0x40604C) (v : Nat) (s : State) :
    (halfWrite (.core c k) a v s).2.sys.calm = s.sys.calm := by
  have hdiscard : (halfDiscard (.core c k) s).sys = s.sys := by
    unfold halfDiscard
    rw [State.wr_sys, State.bump_sys]
  unfold halfWrite
  dsimp only
  rw [ha]
  repeat' split
  · rw [setHalf_sys]
  · exact regWrite_sub3_sys c _ s
  · rw [hdiscard]
  · rw [hdiscard]

theorem busWrite_served_sys (c : Fin 4) (k : Bool) {a : Nat} (ha : servedLast (ownAddr a)) (n v : Nat) (s : State) :
    (busWrite (.core c k) a n v s).2.sys.calm = s.sys.calm := by
  have herr (i : Initiator) (b : Nat) (w : Bool) (u : State) : (busError i b w u).sys.calm = u.sys.calm :=
    sys_of_desk (busError_desk i b w u)
  unfold busWrite
  dsimp only
  cases hp : peerOf s a with
  | some d =>
    obtain ⟨e, he⟩ := region_of_peer hp
    rw [Option.isSome_some, if_pos rfl, he]
    exact herr _ _ _ s
  | none =>
    rw [Option.isSome_none, if_neg Bool.false_ne_true]
    rcases ha with ⟨m, hm⟩ | ⟨hpage, hreg⟩
    · rw [hm]
      exact congrArg Sys.calm (secWrite_sys _ _ _ s)
    · rw [hpage]
      dsimp only [pathBeat]
      repeat' split
      · rw [herr, sys_of_desk (headgateErr_desk s)]
      next h =>
        have he : ownAddr a = 0x40604C := by omega
        rw [he]
        exact regWrite_sub3_sys c _ s
      · exact halfWrite_sub3_sys c k hreg v s
      · rfl

theorem noteOverrun_sys (c : Fin 4) (k : TaskRun) (s : State) : (noteOverrun c k s).sys.calm = s.sys.calm := by
  unfold noteOverrun
  split
  · rfl
  · exact sys_of_still (violation_still 4 (by decide) _)

theorem taskDone_sys (c : Fin 4) (k : TaskRun) (s : State) : (taskDone c k s).sys.calm = s.sys.calm := by
  unfold taskDone
  dsimp only
  rw [State.updCore_sys]
  split
  · exact noteOverrun_sys c k s
  · rfl

theorem endtFirst_sys (c : Fin 4) (s : State) : (endtFirst c s).sys.calm = s.sys.calm := by
  unfold endtFirst
  split
  · dsimp only
    split
    · exact taskDone_sys c _ s
    · rfl
  · rfl

theorem coreFault_sys (cause : Nat) (c : Fin 4) (s : State) : (coreFault cause c s).sys.calm = s.sys.calm := by
  have hnoted (w : Word) (a n : Nat) (f : Core → Core) : (((s.setReg a w).raise n).updCore c f).sys.calm = s.sys.calm := by
    rw [State.updCore_sys, raise_sys, State.setReg_sys]
  unfold coreFault
  dsimp only
  split
  · exact hnoted _ _ _ _
  · rw [sys_of_desk (deadlineRecord_desk ..), State.updCore_sys, noteOverrun_sys, hnoted]

theorem farFault_sys (c : Fin 4) (k : Bool) (s : State) : (farFault c k s).sys.calm = s.sys.calm := by
  unfold farFault
  dsimp only
  split
  · rfl
  · split
    · rw [coreFault_sys, endtFirst_sys]
    · rw [taskStops, State.updCore_sys, State.updCore_sys, raise_sys, State.setReg_sys, endtFirst_sys]

theorem postedAct_sys {f : FarAcc} (hf : servedLast (ownAddr f.addr)) (c : Fin 4) (k : Bool) (s : State) :
    (postedAct c k f s).sys.calm = s.sys.calm := by
  unfold postedAct
  dsimp only
  split
  · exact busWrite_served_sys c k hf _ _ s
  · rw [farFault_sys, busWrite_served_sys c k hf]

theorem postedEnd_sys (s : State) : (postedEnd s).sys.calm = s.sys.calm := by
  have hdue (c : Fin 4) (u : State) : (postedDue (actsLast u) c u).sys.calm = u.sys.calm := by
    unfold postedDue
    dsimp only
    rw [foldS_keeps_mem (v := fun u => u.sys.calm), State.updCore_sys]
    intro e he v
    obtain ⟨-, hp⟩ := List.mem_filter.1 he
    exact postedAct_sys (servedLast_of_actsLast (Bool.and_eq_true_iff.1 hp).2) c _ v
  unfold postedEnd
  split
  · rfl
  · exact foldS_keeps (v := fun u => u.sys.calm) hdue _ s

theorem commitsJudge_stands (s : State) : (commitsJudge s).ptStands = s.ptStands := by
  have hpend (a : Nat) (u : State) : (pendShadow a u).sys = u.sys := by
    unfold pendShadow
    dsimp only
    repeat' split
    all_goals rfl
  have hjudge (p : Nat) (u : State) : (commitJudge p u).sys = u.sys := by
    unfold commitJudge
    split
    · rw [State.err, State.bump_sys, State.wr_sys]
    · rw [foldS_keeps (v := State.sys) hpend, State.wr_sys]
  have hsys := foldS_keeps (v := State.sys) hjudge s.sys.commits { s with sys := { s.sys with commits := [] } }
  exact stands_of_sys (s := { s with sys := { s.sys with commits := [] } }) (congrArg Sys.calm hsys)

end
end Sys2Proof.Machine

namespace Sys2Proof.Machine

/-! ## The angles of a tick

What a tick's trackers depend on, and what holds a tick's later acts still. -/

/-- The trackers, whether an epoch is open or handed over, the acting registers, the changes that wait, whether PT stands, and
each tracker's request to reset its signature. -/
structure Angles where
  trk : Vector Tracker 2
  epochOpen : Bool
  handing : Bool
  act : List (Nat × Word)
  committed : List CommitPend
  posted : Fin 4 → List (Nat × (Bool × FarAcc))
  commits : List Nat
  softResets : List Nat
  stands : Bool
  reset : Fin 2 → Word

def State.angles (s : State) : Angles :=
  { trk := s.trk, epochOpen := s.dev.epochOpen, handing := s.dev.handing, act := s.act, committed := s.committed,
    posted := fun c => s.cores[c].posted, commits := s.sys.commits, softResets := s.sys.softResets, stands := s.ptStands,
    reset := fun k => s.reg (TRK.base k + 0xF0) }

section
variable {s t u : State}

section
variable (h : t.angles = s.angles)
include h

theorem Angles.trk_eq : t.trk = s.trk := congrArg Angles.trk h
theorem Angles.epochOpen_eq : t.dev.epochOpen = s.dev.epochOpen := congrArg Angles.epochOpen h
theorem Angles.handing_eq : t.dev.handing = s.dev.handing := congrArg Angles.handing h
theorem Angles.act_eq : t.act = s.act := congrArg Angles.act h
theorem Angles.committed_eq : t.committed = s.committed := congrArg Angles.committed h
theorem Angles.posted_eq (c : Fin 4) : t.cores[c].posted = s.cores[c].posted := congrArg (fun a : Angles => a.posted c) h
theorem Angles.commits_eq : t.sys.commits = s.sys.commits := congrArg Angles.commits h
theorem Angles.softResets_eq : t.sys.softResets = s.sys.softResets := congrArg Angles.softResets h
theorem Angles.stands_eq : t.ptStands = s.ptStands := congrArg Angles.stands h

theorem Angles.on_eq {b : Nat} {f : Fld} (hf : f.acc = .rws) : t.on b f = s.on b f := by
  rw [State.on, State.on, State.cfg, State.cfg, if_pos hf, if_pos hf, State.actReg, State.actReg, Angles.act_eq h]

theorem Angles.sigReset_eq (k : Fin 2) : t.flag (TRK.base k) TRK.SIG_CFG_RESET = s.flag (TRK.base k) TRK.SIG_CFG_RESET :=
  congrArg (fun w => TRK.SIG_CFG_RESET.of w != 0) (congrArg (fun a : Angles => a.reset k) h)

end

theorem angles_of_desk (h : t.desk = s.desk) : t.angles = s.angles := by
  have hreset : (fun k : Fin 2 => t.reg (TRK.base k + 0xF0)) = fun k : Fin 2 => s.reg (TRK.base k + 0xF0) := by
    funext k
    exact Desk.reg_eq h (by revert k; decide)
  have hstands := stands_of_sys (sys_of_desk h)
  have hrest := congrArg (fun d : Desk => (d.rest.trk, d.rest.dev.epochOpen, d.rest.dev.handing, d.rest.act, d.rest.committed,
    (fun c : Fin 4 => d.rest.cores[c].posted), d.rest.sys.commits, d.rest.sys.softResets)) h
  unfold State.angles
  rw [hreset, hstands]
  exact congrArg (fun x => (⟨x.1, x.2.1, x.2.2.1, x.2.2.2.1, x.2.2.2.2.1, x.2.2.2.2.2.1, x.2.2.2.2.2.2.1,
    x.2.2.2.2.2.2.2, s.ptStands,
    fun k => s.reg (TRK.base k + 0xF0)⟩ : Angles)) hrest

theorem setReg_angles (s : State) {a : Nat} (w : Word) (ha : a ≠ 0x4020F0 ∧ a ≠ 0x4030F0) :
    (s.setReg a w).angles = s.angles := by
  have hreset : (fun k : Fin 2 => (s.setReg a w).reg (TRK.base k + 0xF0)) = fun k : Fin 2 => s.reg (TRK.base k + 0xF0) := by
    funext k
    refine reg_setReg_ne s w ?_
    fin_cases k
    · exact ha.1.symm
    · exact ha.2.symm
  unfold State.angles
  rw [hreset]
  rfl

/-! ### Ports and gates -/

theorem countBeat_angles (p c n : Nat) (s : State) : (countBeat p c n s).angles = s.angles := by
  unfold countBeat
  repeat' split
  · rfl
  all_goals exact setReg_angles s _ (by decide)

theorem grantCycle_keeps (c p : Nat) (s : State) : (grantCycle c p s).angles = s.angles ∧
    (grantCycle c p s).memc.waits = s.memc.waits := by
  have hwaits (p c n : Nat) (u : State) : (countBeat p c n u).memc = u.memc := by
    unfold countBeat
    repeat' split
    all_goals rfl
  unfold grantCycle beatAt
  rw [countBeat_angles, hwaits]
  exact ⟨rfl, rfl⟩

theorem setRot_keeps (p : Nat) (r : Rot) (s : State) : (setRot p r s).angles = s.angles ∧
    (setRot p r s).memc.waits = s.memc.waits := ⟨rfl, rfl⟩

/-- The end of a port's cycle with no access waiting only grants it. -/
theorem portEnd_keeps (p : Nat) (h : s.memc.waits = []) : (portEnd p s).angles = s.angles ∧ (portEnd p s).memc.waits = [] := by
  have hnone (u : State) (hu : u.memc.waits = []) (c q : Nat) : readyWait u c q = none := by
    rw [readyWait, hu]
    rfl
  have hopen : (openEnd p s).angles = s.angles ∧ (openEnd p s).memc.waits = [] := by
    unfold openEnd
    split
    · dsimp only
      split
      next c _ =>
        have hrot : (setRot p (openWinner s p (asksAtEnd s p)).2 s).memc.waits = [] := (setRot_keeps p _ s).2.trans h
        obtain ⟨hang, hwaits⟩ := grantCycle_keeps c p (setRot p (openWinner s p (asksAtEnd s p)).2 s)
        rw [serveWinner, hnone _ hrot]
        exact ⟨hang.trans (setRot_keeps p _ s).1, hwaits.trans hrot⟩
      · exact ⟨(setRot_keeps p _ s).1, (setRot_keeps p _ s).2.trans h⟩
    · rw [hnone s h, hnone s h]
      exact ⟨rfl, h⟩
  unfold portEnd
  rw [hnone s h, ite_self]
  dsimp only
  repeat' split
  · exact ⟨rfl, h⟩
  · exact hopen
  · exact ⟨rfl, h⟩

theorem portsEnd_angles (h : s.memc.waits = []) : (portsEnd s).angles = s.angles := by
  have hnowhere : nowhereEnd s = s := by
    rw [nowhereEnd, h]
    rfl
  unfold portsEnd
  split
  · rfl
  · rw [hnowhere]
    refine (foldS_holds (P := fun u => u.angles = s.angles ∧ u.memc.waits = []) ?_ _ ⟨rfl, h⟩).1
    intro p u ⟨hang, hwaits⟩
    obtain ⟨hang', hwaits'⟩ := portEnd_keeps p hwaits
    exact ⟨hang'.trans hang, hwaits'⟩

theorem updBank_angles (b : Fin 16) (f : Bank → Bank) (s : State) : (s.updBank b f).angles = s.angles := rfl

theorem gateReached_angles (b : Fin 16) (m : Nat) (s : State) : (gateReached b m s).angles = s.angles := by
  unfold gateReached
  exact updBank_angles b _ s

theorem gatesTick_angles (s : State) : (gatesTick s).angles = s.angles := by
  have hdue (b : Fin 16) (u : State) : (gatesDue b u).angles = u.angles := by
    unfold gatesDue
    dsimp only
    split
    · rfl
    · exact (foldS_keeps (v := State.angles) (fun (e : Nat × Nat) v => gateReached_angles b e.2 v) _ _).trans (updBank_angles b _ u)
  unfold gatesTick
  split
  · exact foldS_keeps (v := State.angles) hdue _ s
  · rfl

theorem tickBegins_angles (s : State) : (tickBegins s).angles = s.angles := rfl

theorem tickBegins_held (s : State) : (tickBegins s).held = s.held := rfl

/-- The end of a tick in which no access waits does not move what PT stands for. -/
theorem tickEnds_stands (h : s.memc.waits = []) : (tickEnds s).ptStands = s.ptStands := by
  unfold tickEnds
  rw [Angles.stands_eq (angles_of_desk (recordsOfEnd_desk _)), stands_of_sys (postedEnd_sys _), commitsJudge_stands,
    Angles.stands_eq (portsEnd_angles h)]

/-! ### The tick of PT (R19, R71) -/

theorem at_self (s : State) : At (s.tick, s.pt) s := at_iff.2 rfl

theorem countPt_at {n p : Nat} (h : At (n, p) s) : At (n, (p + 1) % 2 ^ 64) s.countPt := by
  obtain ⟨rfl, rfl⟩ := Prod.mk.inj (at_iff.1 h)
  exact at_iff.2 rfl

theorem tickBegins_at {n p : Nat} (h : At (n, p) s) : At (n + 1, p) (tickBegins s) := by
  obtain ⟨rfl, rfl⟩ := Prod.mk.inj (at_iff.1 h)
  exact at_iff.2 rfl

/-- PT stands, or it counts by one. -/
theorem planTimeTick_at (a b : Nat) {n p : Nat} (h : At (n, p) s) :
    At (n, if s.ptStands then p else (p + 1) % 2 ^ 64) (planTimeTick a b s) := by
  unfold planTimeTick
  split
  next => exact h
  next =>
    dsimp only
    generalize faultedIsland (capKeep s).countPt = f
    have hcount := countPt_at (capKeep_at s h)
    have hangles := faultSpills_at f _ (anglesTick_at _ (faultsAct_at _ hcount))
    have hends := issueEnds_at _ (xchkTick_at _ (checksTick_at a b _ hangles))
    exact sampleCaptures_at _ (hends.congr rfl)

theorem tapTick_at {τ : Nat × Nat} (h : At τ s) : At τ (tapTick s) := by
  unfold tapTick
  split
  · exact h
  · exact h.congr rfl

/-- A tick counts, and PT with it unless PT stands once the accesses of the end of the tick before are served. -/
theorem accumulatorTickStep_at (a b : Nat) (s : State) : At (s.tick + 1,
    if (tickEnds s).ptStands then (tickEnds s).pt else ((tickEnds s).pt + 1) % 2 ^ 64) (accumulatorTickStep a b s) := by
  have htick : (tickEnds s).tick = s.tick := congrArg Prod.fst (at_iff.1 (tickEnds_at s (at_self s)))
  have hbegins := tickBegins_at (at_iff.2 (congrArg (·, (tickEnds s).pt) htick))
  have hstands : (gatesTick (tickBegins (tickEnds s))).ptStands = (tickEnds s).ptStands := by
    rw [Angles.stands_eq (gatesTick_angles _), Angles.stands_eq (tickBegins_angles _)]
  have hplan := planTimeTick_at a b (gatesTick_at _ hbegins)
  rw [hstands] at hplan
  unfold accumulatorTickStep
  dsimp only
  by_cases hh : (tickBegins (tickEnds s)).held = true
  · have hall : (tickEnds s).ptStands = true := held_of_stands ((tickBegins_held _).symm.trans hh)
    rw [if_pos hh, if_pos hall]
    exact hbegins
  · rw [if_neg hh]
    exact freezeEnd_at _ (interconnectTick_at _ (actSoftResets_at _ (commitsTick_at _ hplan)))

theorem tick_advances (a b : BitVec 5) (s : State) : ∃ t, exec (.accumulatorTick a b) s = .next t ∧ t.tick = s.tick + 1 ∧
    t.pt = (if (tickEnds s).ptStands then (tickEnds s).pt else ((tickEnds s).pt + 1) % 2 ^ 64) ∧
    (s.memc.waits = [] → t.pt = (if s.ptStands then s.pt else (s.pt + 1) % 2 ^ 64)) := by
  have h := at_iff.1 (tapTick_at (accumulatorTickStep_at a.toNat b.toNat s))
  have hpt := congrArg Prod.snd h
  have hends : (tickEnds s).pt = s.pt := congrArg Prod.snd (at_iff.1 (tickEnds_at s (at_self s)))
  refine ⟨_, rfl, congrArg Prod.fst h, hpt, fun hw => ?_⟩
  rw [← hends, ← tickEnds_stands hw]
  exact hpt

end
end Sys2Proof.Machine

namespace Sys2Proof.Machine
section
variable {s t u : State}

/-! ### Before the accumulators -/

theorem updCore_angles {c : Fin 4} {f : Core → Core} (hf : (f s.cores[c]).posted = s.cores[c].posted) :
    (s.updCore c f).angles = s.angles := by
  have hposted : (fun k : Fin 4 => (s.updCore c f).cores[k].posted) = fun k : Fin 4 => s.cores[k].posted := by
    funext k
    by_cases e : c = k
    · subst e
      simpa [State.updCore] using hf
    · simp [State.updCore, Fin.val_ne_of_ne e]
  unfold State.angles
  rw [hposted]
  rfl

/-- A core with nothing posted has nothing due. -/
theorem postedDue_angles (p : FarAcc → Bool) {c : Fin 4} (h : s.cores[c].posted = []) : (postedDue p c s).angles = s.angles := by
  unfold postedDue
  dsimp only
  rw [h, List.filter_nil, foldS, List.foldl_nil]
  exact updCore_angles (by rw [h]; rfl)

theorem postedAll_angles (p : State → FarAcc → Bool) (h : ∀ c : Fin 4, s.cores[c].posted = []) :
    (foldS (List.finRange 4) (fun c s => postedDue (p s) c s) s).angles = s.angles := by
  refine foldS_holds (P := fun u => u.angles = s.angles) ?_ _ rfl
  intro c u hu
  exact (postedDue_angles (p u) (by rw [Angles.posted_eq hu, h])).trans hu

theorem commitsJudge_angles (h : s.sys.commits = []) : (commitsJudge s).angles = s.angles := by
  unfold commitsJudge
  rw [h]
  unfold State.angles
  rw [h]
  rfl

/-- The end of a tick with nothing waiting, committed or posted. -/
theorem tickEnds_angles (hw : s.memc.waits = []) (hc : s.sys.commits = []) (hp : ∀ c : Fin 4, s.cores[c].posted = []) :
    (tickEnds s).angles = s.angles := by
  have hports := portsEnd_angles hw
  have hjudge : (commitsJudge (portsEnd s)).angles = s.angles :=
    (commitsJudge_angles (by rw [Angles.commits_eq hports, hc])).trans hports
  have hposted (u : State) (hu : u.angles = s.angles) : (postedEnd u).angles = s.angles := by
    unfold postedEnd
    split
    · exact hu
    · exact (postedAll_angles actsLast (fun c => by rw [Angles.posted_eq hu, hp])).trans hu
  exact (angles_of_desk (recordsOfEnd_desk _)).trans (hposted _ hjudge)

theorem tickAcc_of_trk {k : Fin 2} (hx : t.trk[k] = s.trk[k]) (hc : cycleLen t k = cycleLen s k) : tickAcc t k = tickAcc s k := by
  unfold tickAcc
  rw [hx, hc]

/-- A tracker's own advance depends on the trackers and the acting registers alone. -/
theorem tickAcc_congr (h : t.angles = s.angles) (k : Fin 2) : tickAcc t k = tickAcc s k :=
  tickAcc_of_trk (by rw [Angles.trk_eq h]) (by rw [cycleLen, cycleLen, cyc720, cyc720, Angles.on_eq h rfl])

theorem tickAcc_sigNew (k : Fin 2) : (tickAcc s k).sigNew = s.trk[k].sigNew := by
  unfold tickAcc
  dsimp only
  repeat' split
  all_goals rfl

/-! ### The moves of the trackers out of an epoch -/

/-- The accumulators, with no epoch open, PT counting and nothing due at a tracker's boundary. -/
structure Undue (acc : Fin 2 → Nat) (s : State) : Prop where
  acc : ∀ k : Fin 2, s.trk[k].acc = acc k
  sigNew : ∀ k : Fin 2, s.trk[k].sigNew = none
  sigReset : ∀ k : Fin 2, s.flag (TRK.base k) TRK.SIG_CFG_RESET = false
  leads : following s = false
  closed : s.dev.epochOpen = false
  handing : s.dev.handing = false
  committed : s.committed = []
  posted : ∀ c : Fin 4, s.cores[c].posted = []
  softResets : s.sys.softResets = []
  counts : s.ptStands = false

variable {acc : Fin 2 → Nat}

theorem Undue.of_angles (h : Undue acc s) (ha : t.angles = s.angles) : Undue acc t where
  acc k := by rw [Angles.trk_eq ha, h.acc]
  sigNew k := by rw [Angles.trk_eq ha, h.sigNew]
  sigReset k := by rw [Angles.sigReset_eq ha, h.sigReset]
  leads := by rw [following, Angles.on_eq ha rfl]; exact h.leads
  closed := by rw [Angles.epochOpen_eq ha, h.closed]
  handing := by rw [Angles.handing_eq ha, h.handing]
  committed := by rw [Angles.committed_eq ha, h.committed]
  posted c := by rw [Angles.posted_eq ha, h.posted]
  softResets := by rw [Angles.softResets_eq ha, h.softResets]
  counts := by rw [Angles.stands_eq ha, h.counts]

theorem trk_updTrk (k : Fin 2) (j : Fin 2) (f : Tracker → Tracker) (s : State) :
    (s.updTrk j f).trk[k] = if j = k then f s.trk[k] else s.trk[k] := by
  by_cases e : j = k
  · subst e
    simp [State.updTrk]
  · simp [State.updTrk, e, Fin.val_ne_of_ne e]

theorem Undue.updTrk (h : Undue acc s) (j : Fin 2) {f : Tracker → Tracker} (ha : (f s.trk[j]).acc = s.trk[j].acc)
    (hn : (f s.trk[j]).sigNew = s.trk[j].sigNew) : Undue acc (s.updTrk j f) := by
  refine { h with acc := fun k => ?_, sigNew := fun k => ?_ }
  all_goals rw [trk_updTrk]
  · split
    next e => rw [← e, ha, h.acc]
    · exact h.acc k
  · split
    next e => rw [← e, hn, h.sigNew]
    · exact h.sigNew k

theorem Undue.wr (h : Undue acc s) (k : Fin 2) {f : Fld} (v : Nat) (hf : f.off < 0xF0) : Undue acc (s.wr (TRK.base k) f v) :=
  h.of_angles (setReg_angles s _ (by fin_cases k <;> simp only [TRK.base] <;> omega))

/-- Out of FOLLOW, each tracker advances by itself. -/
theorem accumulate_of_leads (h : following s = false) :
    accumulate s = (s.updTrk 0 (fun _ => tickAcc s 0)).updTrk 1 (fun _ => tickAcc s 1) := by
  have hone : tickAcc (s.updTrk 0 (fun _ => tickAcc s 0)) 1 = tickAcc s 1 :=
    tickAcc_of_trk (by rw [trk_updTrk, if_neg (by decide)]) rfl
  unfold accumulate
  rw [h, if_neg Bool.false_ne_true]
  dsimp only
  rw [hone]

theorem accumulate_undue (h : Undue acc s) : Undue (fun k => (tickAcc s k).acc) (accumulate s) := by
  have htrk : ∀ k : Fin 2, (accumulate s).trk[k] = tickAcc s k := by
    rw [accumulate_of_leads h.leads]
    intro k
    rw [trk_updTrk, trk_updTrk]
    fin_cases k <;> rfl
  rw [accumulate_of_leads h.leads] at htrk ⊢
  refine { h with acc := fun k => ?_, sigNew := fun k => ?_ }
  · rw [htrk]
  · rw [htrk, tickAcc_sigNew, h.sigNew]

/-- With no change committed, none takes effect. -/
theorem actWhere_of_none (p : CommitPend → Bool) (h : s.committed = []) : s.actWhere p = s := by
  have he : ({ s with committed := [] } : State) = s := by rw [← h]
  rw [State.actWhere, h, List.filter_nil, List.filter_nil, foldS, List.foldl_nil, he]

theorem actCommitted_of_none (p : CommitPend → Bool) (h : s.committed = []) : actCommitted p s = s := by
  rw [actCommitted, actWhere_of_none p h, h]
  rfl

theorem toggleBank_undue (k : Fin 2) (h : Undue acc s) : Undue acc (toggleBank k s) := h.wr k _ (by decide)

theorem shadowBoundary_undue (k : Fin 2) (h : Undue acc s) : Undue acc (shadowBoundary k s) := by
  unfold shadowBoundary
  dsimp only
  refine toggleBank_undue k (Undue.updTrk ?_ k rfl rfl)
  repeat' split
  · exact (h.updTrk k rfl rfl).wr k 0 (by decide)
  · exact h.updTrk k rfl rfl
  · exact h.wr k _ (by decide)

theorem signatureBoundary_of_undue (k : Fin 2) (h : Undue acc s) : signatureBoundary k s = s := by
  unfold signatureBoundary
  dsimp only
  rw [h.sigReset, if_neg Bool.false_ne_true, h.sigNew]

theorem ownBoundary_undue (k : Fin 2) (h : Undue acc s) : Undue acc (ownBoundary k s) := by
  have hlearns : learns s k = true := by
    rw [learns, h.leads, Bool.and_false, Bool.not_false]
  have hshadow := shadowBoundary_undue k h
  unfold ownBoundary
  rw [if_pos hlearns, signatureBoundary_of_undue k hshadow]
  dsimp only
  rw [actCommitted_of_none _ hshadow.committed]
  exact hshadow.updTrk k rfl rfl

theorem trackerMoves_undue (k : Fin 2) (old : Nat) (h : Undue acc s) : Undue acc (trackerMoves k old s) := by
  have hpassed (new : Nat) : Undue acc (ownPassed k old new s) := by
    unfold ownPassed
    dsimp only
    split
    · exact ownBoundary_undue k h
    · exact h
  unfold trackerMoves
  dsimp only
  split
  · exact h
  · rw [(hpassed _).leads, if_neg (by simp)]
    exact hpassed _

theorem releaseHold_angles (n : Nat) (s : State) : (releaseHold n s).angles = s.angles := by
  unfold releaseHold
  dsimp only
  repeat' split
  all_goals rfl

/-- Out of an epoch the trackers advance and nothing passes. -/
theorem anglesTick_undue (h : Undue acc s) : Undue (fun k => (tickAcc s k).acc) (anglesTick s) := by
  have hacc := accumulate_undue h
  unfold anglesTick
  dsimp only
  rw [hacc.handing, if_neg Bool.false_ne_true]
  have hhold := hacc.of_angles (releaseHold_angles (presented (ctl s)) _)
  have hdevice : deviceMoves (nowPos s) (devAngle s) (releaseHold (presented (ctl s)) (accumulate s)) =
      releaseHold (presented (ctl s)) (accumulate s) := by
    rw [deviceMoves, if_pos (Or.inl hhold.closed)]
  rw [hdevice]
  exact trackerMoves_undue 1 _ (trackerMoves_undue 0 _ hhold)

end
end Sys2Proof.Machine

namespace Sys2Proof.Machine

/-! ### After the trackers' moves -/

/-- The accumulators, and what would hold a later act of the tick. -/
structure Swept where
  acc : Fin 2 → Nat
  committed : List CommitPend
  posted : Fin 4 → List (Nat × (Bool × FarAcc))
  softResets : List Nat
  stands : Bool

def State.swept (s : State) : Swept :=
  { acc := fun k => s.trk[k].acc, committed := s.committed, posted := fun c => s.cores[c].posted
    softResets := s.sys.softResets, stands := s.ptStands }

section
variable {s t u : State}

section
variable (h : t.swept = s.swept)
include h

theorem Swept.acc_eq (k : Fin 2) : t.trk[k].acc = s.trk[k].acc := congrArg (fun w : Swept => w.acc k) h
theorem Swept.committed_eq : t.committed = s.committed := congrArg Swept.committed h
theorem Swept.posted_eq (c : Fin 4) : t.cores[c].posted = s.cores[c].posted := congrArg (fun w : Swept => w.posted c) h
theorem Swept.softResets_eq : t.sys.softResets = s.sys.softResets := congrArg Swept.softResets h
theorem Swept.stands_eq : t.ptStands = s.ptStands := congrArg Swept.stands h

end

theorem swept_of_angles (h : t.angles = s.angles) : t.swept = s.swept :=
  congrArg (fun a : Angles => (⟨fun k => a.trk[k].acc, a.committed, a.posted, a.softResets, a.stands⟩ : Swept)) h

@[simp] theorem setReg_swept (s : State) (a : Nat) (w : Word) : (s.setReg a w).swept = s.swept := (rfl)
@[simp] theorem wr_swept (s : State) (b : Nat) (f : Fld) (v : Nat) : (s.wr b f v).swept = s.swept := (rfl)
@[simp] theorem bump_swept (s : State) (b : Nat) (f : Fld) : (s.bump b f).swept = s.swept := (rfl)
@[simp] theorem bumpBy_swept (s : State) (b : Nat) (f : Fld) (n : Nat) : (s.bumpBy b f n).swept = s.swept := (rfl)
@[simp] theorem bumpWrap_swept (s : State) (b : Nat) (f : Fld) : (s.bumpWrap b f).swept = s.swept := (rfl)
@[simp] theorem err_swept (s : State) (p : Nat) : (s.err p).swept = s.swept := (rfl)
@[simp] theorem updDev_swept (s : State) (f : Device → Device) : (s.updDev f).swept = s.swept := (rfl)
@[simp] theorem updPlan_swept (s : State) (f : Plan → Plan) : (s.updPlan f).swept = s.swept := (rfl)
@[simp] theorem updConv_swept (s : State) (k : Fin 4) (f : Converter → Converter) : (s.updConv k f).swept = s.swept := (rfl)
@[simp] theorem updLink_swept (s : State) (f : Link → Link) : (s.updLink f).swept = s.swept := (rfl)
@[simp] theorem updPort_swept (s : State) (p : Fin 2) (f : LinkPort → LinkPort) : (s.updPort p f).swept = s.swept := (rfl)
@[simp] theorem setCsrc_swept (s : State) (n : Nat) (x : CatchSrc) : (s.setCsrc n x).swept = s.swept := (rfl)
theorem with_xchk_swept (s : State) (x : Xchk) : ({ s with xchk := x } : State).swept = s.swept := (rfl)

@[simp] theorem raise_swept (s : State) (n : Nat) : (s.raise n).swept = s.swept := by
  have hbrk (v : State) : (v.brkSource n).swept = v.swept := by
    unfold State.brkSource
    split <;> rfl
  have hsend (v : State) : (v.sendEvt n).swept = v.swept := by
    unfold State.sendEvt
    split <;> rfl
  have hraw : (s.setRaw n).swept = s.swept := by
    unfold State.setRaw
    split <;> rfl
  rw [State.raise, hbrk, hsend, hraw]

@[simp] theorem raiseIf_swept (s : State) (c : Bool) (n : Nat) : (s.raiseIf c n).swept = s.swept := by
  rw [State.raiseIf, apply_ite State.swept, raise_swept, ite_self]

theorem updTrk_swept {k : Fin 2} {f : Tracker → Tracker} (hf : (f s.trk[k]).acc = s.trk[k].acc) :
    (s.updTrk k f).swept = s.swept := by
  have hacc : (fun j : Fin 2 => (s.updTrk k f).trk[j].acc) = fun j : Fin 2 => s.trk[j].acc := by
    funext j
    rw [trk_updTrk]
    split
    next e => rw [← e, hf]
    · rfl
  unfold State.swept
  rw [hacc]
  rfl

theorem enter_swept (s : State) (d : DevState) : (s.enter d).swept = s.swept := by
  have hacc (v : Vector Tracker 2) (k : Fin 2) : (v.map Tracker.spoil)[k].acc = v[k].acc := by
    simp [Tracker.spoil]
  unfold State.enter
  split
  · rfl
  · unfold State.swept
    dsimp only
    split
    · rfl
    · simp only [hacc]
      rfl

/-! ### The crosscheck (R88 to R94) -/

theorem setIfault_swept (k : Fin 2) (n : Nat) (s : State) : (setIfault k n s).swept = s.swept := by
  have hnote : (notePtFailed k n s).swept = s.swept := by
    unfold notePtFailed
    split <;> rfl
  have hspoil (c : Bool) (v : State) : (if c = true then v.updTrk k Tracker.spoil else v).swept = v.swept := by
    split
    · exact updTrk_swept rfl
    · rfl
  unfold setIfault
  dsimp only
  split
  · exact hnote
  · rw [raiseIf_swept, hspoil, setReg_swept, hnote]

theorem giveControl_swept (k : Fin 2) (s : State) : (giveControl k s).swept = s.swept := by
  unfold giveControl leaveXchk
  rw [updTrk_swept rfl]
  split <;> rfl

theorem violation_swept (cause src : Nat) (s : State) : (violation cause src s).swept = s.swept := by
  refine afterCounted_keeps (P := fun u => u.swept = s.swept)
    { gov := fun _ _ hu => hu
      err := fun _ _ hu => hu
      viol := fun _ _ hu => hu
      kept := fun _ _ hu => hu
      enter := fun u _ hu => (enter_swept u .governed).trans hu
      raise := fun u hu => (raise_swept u 48).trans hu } cause src ?_
  rw [raise_swept, bump_swept]

theorem hardDisagreement_swept (b : Bool) (s : State) : (hardDisagreement b s).swept = s.swept := by
  unfold hardDisagreement
  split
  · dsimp only
    rw [wr_swept, setIfault_swept, giveControl_swept, raise_swept]
  · split
    · dsimp only
      rw [with_xchk_swept, wr_swept, violation_swept]
    · rfl

theorem faultyDisagreement_swept (b : Bool) (s : State) : (faultyDisagreement b s).swept = s.swept := by
  rw [faultyDisagreement, apply_ite State.swept, wr_swept, raise_swept, ite_self]

theorem compareAngles_swept (s : State) : (compareAngles s).swept = s.swept := by
  unfold compareAngles
  simp only [apply_ite State.swept, faultyDisagreement_swept, hardDisagreement_swept, with_xchk_swept, raise_swept, bump_swept,
    wr_swept, ite_self]

theorem handbackAct_swept (s : State) : (handbackAct s).swept = s.swept := by
  unfold handbackAct decideHandover
  simp only [apply_ite State.swept, err_swept, updDev_swept, with_xchk_swept, wr_swept, ite_self]

theorem xchkTick_swept (s : State) : (xchkTick s).swept = s.swept := by
  unfold xchkTick
  dsimp only
  rw [handbackAct_swept]
  split
  · exact compareAngles_swept s
  · rw [noCompare, with_xchk_swept, wr_swept, wr_swept]

end
end Sys2Proof.Machine

namespace Sys2Proof.Machine
section
variable {s t u : State}

/-! ### Commits, catch and frames -/

theorem issueEnds_swept (s : State) : (issueEnds s).swept = s.swept := by
  rw [issueEnds, apply_ite State.swept, updActs, updPlan_swept, ite_self]

theorem sampleCaptures_swept (s : State) : (sampleCaptures s).swept = s.swept :=
  foldS_keeps (v := State.swept) (fun k v => by rw [apply_ite State.swept, moveMux, updConv_swept, ite_self]) _ s

theorem restartRing_swept (k : Fin 4) (r : Nat) (s : State) : (restartRing k r s).swept = s.swept := by
  unfold restartRing
  dsimp only
  rw [wr_swept, wr_swept, wr_swept, updConv_swept]

theorem actConv_swept (k : Fin 4) (p : CommitPend → Bool) (h : s.committed = []) : (actConv k p s).swept = s.swept := by
  have hring (v w : State) : (foldS (List.range 8) (fun r t => if ringCfg t k r = ringCfg v k r then t else restartRing k r t) w).swept
      = w.swept :=
    foldS_keeps (v := State.swept) (fun r t => by rw [apply_ite State.swept, restartRing_swept, ite_self]) _ w
  unfold actConv
  dsimp only
  rw [hring, actWhere_of_none p h, h]
  rfl

theorem commitsTick_swept (h : s.committed = []) : (commitsTick s).swept = s.swept := by
  have hconvs : (foldS (List.finRange 4) (fun k t => actConv k (fun c => actsNow s c && ofConv k c) t) s).swept = s.swept := by
    refine foldS_holds (P := fun u => u.swept = s.swept) ?_ _ rfl
    intro k v hv
    have hnone := (Swept.committed_eq hv).trans h
    exact (actConv_swept k _ hnone).trans hv
  have hnone := (Swept.committed_eq hconvs).trans h
  unfold commitsTick
  split
  · rfl
  · dsimp only
    rw [actCommitted_of_none _ hnone]
    exact hconvs

theorem actSoftResets_of_none (h : s.sys.softResets = []) : (actSoftResets s).swept = s.swept := by
  unfold actSoftResets State.swept
  rw [h]
  rfl

theorem tryPend_swept (n k : Nat) (s : State) : (tryPend n k s).swept = s.swept := by
  unfold tryPend
  dsimp only
  repeat' split
  · rfl
  · rfl
  · rw [bumpWrap_swept, setCsrc_swept]

theorem evtsEnd_swept (s : State) : (evtsEnd s).swept = s.swept :=
  foldS_keeps (v := State.swept) (fun _ v => updLink_swept v _) _ s

theorem catchTick_swept (s : State) : (catchTick s).swept = s.swept :=
  foldS_keeps (v := State.swept) (fun e v => by rw [tryPend_swept, setCsrc_swept]) _ s

theorem scrubFrame_swept (s : State) : (scrubFrame s).swept = s.swept := by
  have hmemc (v : State) (m : MemCtl) : ({ v with memc := m } : State).swept = v.swept := rfl
  unfold scrubFrame
  dsimp only
  rw [apply_ite State.swept, hmemc, apply_ite State.swept, bumpBy_swept, ite_self, ite_self]

theorem frameTick_swept (s : State) : (frameTick s).swept = s.swept := by
  rw [frameTick, apply_ite State.swept, scrubFrame_swept, bumpWrap_swept, ite_self]

theorem sendFrame_swept (p : Fin 2) (f : LinkFrame) (s : State) : (sendFrame p f s).swept = s.swept := by
  unfold sendFrame
  dsimp only
  repeat' split
  · rw [updPort_swept]
  · rw [putOut, updLink_swept, updPort_swept]
  · rw [updPort_swept]

theorem sendEvtFrame_swept (n : Nat) (s : State) : (sendEvtFrame n s).swept = s.swept := by
  unfold sendEvtFrame
  dsimp only
  split
  · rw [sendFrame_swept, updLink_swept]
  · rw [updLink_swept]

theorem evtsTick_swept (s : State) : (evtsTick s).swept = s.swept :=
  foldS_keeps (v := State.swept) (fun e v => by rw [apply_ite State.swept, sendEvtFrame_swept, ite_self]) _ s

theorem postedTick_swept (h : ∀ c : Fin 4, s.cores[c].posted = []) : (postedTick s).swept = s.swept :=
  swept_of_angles (postedAll_angles (fun s f => !actsLast s f) h)

theorem interconnectTick_swept (h : ∀ c : Fin 4, s.cores[c].posted = []) : (interconnectTick s).swept = s.swept := by
  have hcatch : (catchTick (evtsEnd s)).swept = s.swept := by rw [catchTick_swept, evtsEnd_swept]
  have hnone (c : Fin 4) := (Swept.posted_eq hcatch c).trans (h c)
  unfold interconnectTick
  split
  · rfl
  · dsimp only
    rw [evtsTick_swept, frameTick_swept, postedTick_swept hnone, hcatch]

theorem freezeEnd_of_counting (h : s.ptStands = false) : freezeEnd s = s := by
  have hf : s.sys.frozen = false := by
    simp only [State.ptStands, Bool.or_eq_false_iff] at h
    exact h.1.1
  rw [freezeEnd, hf]
  exact if_neg (by simp)

theorem tapTick_swept (s : State) : (tapTick s).swept = s.swept := by
  unfold tapTick
  split
  · rfl
  · rfl

/-! ### The tick of the accumulators (R71) -/

/-- No island's fault is open out of an epoch. -/
theorem faultsAct_of_closed (h : s.dev.epochOpen = false) : faultsAct s = s ∧ faultedIsland s = none := by
  have hopen : faultsOpen s = false := by rw [faultsOpen, h, Bool.false_and]
  constructor
  · rw [faultsAct, hopen]
    exact if_neg (by simp)
  · rw [faultedIsland, hopen]
    exact if_pos (Or.inl rfl)

theorem checksTick_of_none (s : State) : checksTick 0 0 s = s := by
  have hbits (k : Fin 2) (v : State) : checkBits k 0 v = v := by
    unfold checkBits
    exact foldS_keeps (v := id) (fun n w => by simp [bit]) _ v
  unfold checksTick
  exact (hbits 1 _).trans (hbits 0 s)

variable {acc : Fin 2 → Nat}

/-- Out of an epoch the plan's share of a tick is the trackers' advance. -/
theorem planTimeTick_swept (h : Undue acc s) : (planTimeTick 0 0 s).swept = (anglesTick (capKeep s).countPt).swept := by
  have hcount : Undue acc (capKeep s).countPt := h.of_angles rfl
  obtain ⟨hfaults, hisland⟩ := faultsAct_of_closed hcount.closed
  have htrigs (v : State) (l : List Trig) : ({ v with trigs := l } : State).swept = v.swept := rfl
  unfold planTimeTick
  rw [h.counts, if_neg Bool.false_ne_true]
  dsimp only
  rw [hfaults, hisland, sampleCaptures_swept, htrigs, issueEnds_swept, xchkTick_swept, checksTick_of_none]
  rfl

theorem accumulatorTickStep_acc (h : Undue acc s) (hw : s.memc.waits = []) (hc : s.sys.commits = []) (k : Fin 2) :
    (accumulatorTickStep 0 0 s).trk[k].acc = (tickAcc s k).acc := by
  have hbegins : (gatesTick (tickBegins (tickEnds s))).angles = s.angles := by
    rw [gatesTick_angles, tickBegins_angles, tickEnds_angles hw hc h.posted]
  have hheld : (tickBegins (tickEnds s)).held = false := by
    have := (tickEnds_stands hw).trans h.counts
    simp only [State.ptStands, Bool.or_eq_false_iff] at this
    rw [tickBegins_held, this.2]
  obtain ⟨v, hv⟩ : ∃ v, v = gatesTick (tickBegins (tickEnds s)) := ⟨_, rfl⟩
  have hkept (w : State) : (capKeep w).countPt.angles = w.angles := rfl
  have hangles : v.angles = s.angles := by rw [hv, hbegins]
  have hcount : (capKeep v).countPt.angles = s.angles := (hkept v).trans hangles
  have hmoved := anglesTick_undue (h.of_angles hcount)
  have hplan := planTimeTick_swept (h.of_angles hangles)
  have hcommits := commitsTick_swept ((Swept.committed_eq hplan).trans hmoved.committed)
  have hresets := actSoftResets_of_none ((Swept.softResets_eq (hcommits.trans hplan)).trans hmoved.softResets)
  have hall := hresets.trans (hcommits.trans hplan)
  have hlinks := interconnectTick_swept fun c => (Swept.posted_eq hall c).trans (hmoved.posted c)
  have hend := hlinks.trans hall
  unfold accumulatorTickStep
  dsimp only
  rw [hheld, if_neg Bool.false_ne_true, ← hv, freezeEnd_of_counting ((Swept.stands_eq hend).trans hmoved.counts)]
  exact (Swept.acc_eq hend k).trans ((hmoved.acc k).trans (congrArg Tracker.acc (tickAcc_congr hcount k)))

end

/-- Settles O24: the tick and PT by `tick_advances`; out of an epoch, what is due in a tick leaves the accumulators that the
trackers' own advance gives. -/
theorem ticksAdvancePlanTime : Obligations.TicksAdvancePlanTime := by
  refine ⟨tick_advances, fun s hpt hfollow hopen hhand hcom hcommits hsoft hposted hwaits hsig => ⟨_, rfl, fun k => ?_⟩⟩
  have h : Undue (fun k => s.trk[k].acc) s :=
    { acc := fun _ => rfl, sigNew := fun k => (hsig k).1, sigReset := fun k => (hsig k).2, leads := hfollow, closed := hopen
      handing := hhand, committed := hcom, posted := hposted, softResets := hsoft, counts := hpt }
  exact (Swept.acc_eq (tapTick_swept _) k).trans (accumulatorTickStep_acc h hwaits hcommits k)

end Sys2Proof.Machine

namespace Sys2Proof.Machine

/-- Settles O3: no bank's switch is on, the epoch number is 0, and both counters of PT stand at 0. -/
theorem resetStateIsSafe : Obligations.ResetStateIsSafe := by
  have hmask : ∀ b : Fin 16, State.reset.banks[b].mask = 0 := by decide
  refine ⟨⟨rfl, fun b => ?_, by decide, Bool.false_ne_true.elim, rfl⟩, rfl, rfl⟩
  rw [hmask b]
  exact ⟨by decide, by decide⟩

end Sys2Proof.Machine

namespace Sys2Proof.Machine

/-! ## The front ends -/

/-- What bookkeeping beside an edge leaves: the wheels, the memory, the acting registers and PT. -/
structure Fronts where
  wheels : Vector Wheel 4
  mem : List Host.Cell
  act : List (Nat × Word)
  pt : Nat

def State.fronts (s : State) : Fronts := ⟨s.wheels, s.mem, s.act, s.pt⟩

section
variable {s t : State}

section
variable (h : t.fronts = s.fronts)
include h

theorem Fronts.wheels_eq : t.wheels = s.wheels := congrArg Fronts.wheels h
theorem Fronts.mem_eq : t.mem = s.mem := congrArg Fronts.mem h
theorem Fronts.act_eq : t.act = s.act := congrArg Fronts.act h
theorem Fronts.pt_eq : t.pt = s.pt := congrArg Fronts.pt h

/-- An RW-S field acts as before. -/
theorem Fronts.cfg_eq {b : Nat} {f : Fld} (hf : f.acc = .rws) : t.cfg b f = s.cfg b f := by
  rw [State.cfg, State.cfg, if_pos hf, if_pos hf, State.actReg, State.actReg, Fronts.act_eq h]

theorem updWheel_fronts (w : Fin 4) (f : Wheel → Wheel) : (t.updWheel w f).fronts = (s.updWheel w f).fronts := by
  have hw := Fronts.wheels_eq h
  unfold State.fronts State.updWheel
  rw [hw, Fronts.mem_eq h, Fronts.act_eq h, Fronts.pt_eq h]

end

@[simp] theorem setReg_fronts (s : State) (a : Nat) (w : Word) : (s.setReg a w).fronts = s.fronts := (rfl)
@[simp] theorem wr_fronts (s : State) (b : Nat) (f : Fld) (v : Nat) : (s.wr b f v).fronts = s.fronts := (rfl)
@[simp] theorem bump_fronts (s : State) (b : Nat) (f : Fld) : (s.bump b f).fronts = s.fronts := (rfl)
@[simp] theorem bumpWrap_fronts (s : State) (b : Nat) (f : Fld) : (s.bumpWrap b f).fronts = s.fronts := (rfl)
@[simp] theorem updTrk_fronts (s : State) (k : Fin 2) (f : Tracker → Tracker) : (s.updTrk k f).fronts = s.fronts := (rfl)

@[simp] theorem raise_fronts (s : State) (n : Nat) : (s.raise n).fronts = s.fronts := by simp [State.fronts]

@[simp] theorem raiseIf_fronts (s : State) (c : Bool) (n : Nat) : (s.raiseIf c n).fronts = s.fronts := by
  rw [State.raiseIf, apply_ite State.fronts, raise_fronts, ite_self]

@[simp] theorem setFault_fronts (s : State) (b : Nat) (f : Fld) (n : Nat) : (s.setFault b f n).fronts = s.fronts := by
  simp [State.fronts]

@[simp] theorem enter_fronts (s : State) (d : DevState) : (s.enter d).fronts = s.fronts := by
  unfold State.enter
  split <;> rfl

/-- An event of the timers changes the triggers on their way alone. -/
theorem fireIn_only_trigs (s : State) (code delay : Nat) :
    s.fireIn code delay = { s with trigs := (s.fireIn code delay).trigs } := by
  refine foldS_holds (P := fun u => u = { s with trigs := u.trigs }) (fun n u hu => ?_) _ rfl
  rw [hu]
  dsimp only
  split <;> split <;> rfl

@[simp] theorem fireIn_fronts (s : State) (code delay : Nat) : (s.fireIn code delay).fronts = s.fronts := by
  rw [fireIn_only_trigs]
  rfl

@[simp] theorem setIfault_fronts (k : Fin 2) (n : Nat) (s : State) : (setIfault k n s).fronts = s.fronts := by
  have hnote : (notePtFailed k n s).fronts = s.fronts := by
    unfold notePtFailed
    split <;> rfl
  unfold setIfault
  simp only [apply_ite State.fronts, raiseIf_fronts, updTrk_fronts, setReg_fronts, hnote, ite_self]

@[simp] theorem wheelFault_fronts (w : Fin 4) (f : Fld) (s : State) : (wheelFault w f s).fronts = s.fronts := by
  unfold wheelFault
  dsimp only
  rw [foldS_keeps (v := State.fronts) fun k u => by
    rw [apply_ite State.fronts, setIfault_fronts, ite_self], setFault_fronts]

@[simp] theorem deliverEdge_fronts (w : Fin 4) (e : EdgeIn) (s : State) : (deliverEdge w e s).fronts = s.fronts :=
  foldS_keeps (v := State.fronts) (fun k u => by rw [apply_ite State.fronts, updTrk_fronts, ite_self]) _ s

/-- What a wheel keeps of an accepted edge (R36, R45). -/
def Wheel.accept (stamp : Nat) (x : Wheel) : Wheel := { x with seen := true, lastStamp := stamp, high := none }

/-- An accepted edge leaves its stamp at its wheel, and everything else of the front ends as it was. -/
theorem acceptEdge_fronts (w : Fin 4) (stamp delay : Nat) (s : State) :
    (acceptEdge w stamp delay s).fronts = (s.updWheel w (Wheel.accept stamp)).fronts := by
  have hspoil (u : State) : (foldS [0, 1] (fun (k : Fin 2) v => if cranksOn v k w then v.updTrk k Tracker.spoil else v) u).fronts =
      u.fronts := foldS_keeps (v := State.fronts) (fun k v => by rw [apply_ite State.fronts, updTrk_fronts, ite_self]) _ u
  unfold acceptEdge
  dsimp only
  rw [deliverEdge_fronts, apply_ite State.fronts, enter_fronts, ite_self, fireIn_fronts, raise_fronts]
  refine updWheel_fronts ?_ w _
  rw [bumpWrap_fronts, wr_fronts]
  have hclass (c : Option Nat) (u : State) : (match c with
      | some k => (u.wr (WHN.base w) WHN.CLASS_WCLASS k).wr (WHN.base w) WHN.CLASS_WVALID 1
      | none => u.wr (WHN.base w) WHN.CLASS_WVALID 0).fronts = u.fronts := by
    cases c <;> rfl
  refine (hclass _ _).trans ?_
  simp only [apply_ite State.fronts, hspoil, wheelFault_fronts, wr_fronts, ite_self]

/-- The stamp and the marks of an accepted edge, and the frame of the wheels and the memory. -/
theorem acceptEdge_wheel (w : Fin 4) (stamp delay : Nat) (s : State) :
    (acceptEdge w stamp delay s).wheels[w] = s.wheels[w].accept stamp ∧
      (∀ v, v ≠ w → (acceptEdge w stamp delay s).wheels[v] = s.wheels[v]) ∧ (acceptEdge w stamp delay s).mem = s.mem := by
  have h := acceptEdge_fronts w stamp delay s
  refine ⟨?_, fun v hv => ?_, (Fronts.mem_eq h).trans rfl⟩
  · rw [Fronts.wheels_eq h, State.updWheel_self]
  · rw [Fronts.wheels_eq h, State.updWheel_ne s hv]

/-- A VR wheel behind its crossing (R39, R40). -/
def Wheel.cross (peak decay : Nat) (x : Wheel) : Wheel :=
  { x with armed := false, peakRef := filterStep x.peakRef peak decay }

/-- The state in which a VR edge is accepted: its peak is noted, and a low one a fault. -/
def peakNoted (w : Fin 4) (peak : BitVec 12) (s : State) : State :=
  let u := (s.updWheel w fun x => { x with armed := false }).wr (WHN.base w) WHN.VR_PEAK_PEAK peak.toNat
  let u := if 16 * peak.toNat < 3 * s.wheels[w].thr8 then wheelFault w WHN.FAULT_LOW_AMP u else u
  u.updWheel w fun x => { x with peakRef := filterStep x.peakRef peak.toNat (u.cfg (WHN.base w) WHN.VR_CFG_DECAY) }

theorem peakNoted_fronts (w : Fin 4) (peak : BitVec 12) (s : State) : (peakNoted w peak s).fronts =
    (s.updWheel w (Wheel.cross peak.toNat (s.cfg (WHN.base w) WHN.VR_CFG_DECAY))).fronts := by
  obtain ⟨u, hu⟩ : ∃ u : State, u = if 16 * peak.toNat < 3 * s.wheels[w].thr8 then
      wheelFault w WHN.FAULT_LOW_AMP ((s.updWheel w fun x => { x with armed := false }).wr (WHN.base w) WHN.VR_PEAK_PEAK peak.toNat)
    else (s.updWheel w fun x => { x with armed := false }).wr (WHN.base w) WHN.VR_PEAK_PEAK peak.toNat := ⟨_, rfl⟩
  have hfronts : u.fronts = (s.updWheel w fun x => { x with armed := false }).fronts := by
    rw [hu, apply_ite State.fronts, wheelFault_fronts, wr_fronts, ite_self]
  have hdecay : u.cfg (WHN.base w) WHN.VR_CFG_DECAY = s.cfg (WHN.base w) WHN.VR_CFG_DECAY := Fronts.cfg_eq hfronts rfl
  unfold peakNoted
  dsimp only
  rw [← hu, hdecay, updWheel_fronts hfronts]
  simp [State.fronts, State.updWheel, Wheel.cross]

theorem vrEdgeStep_of_armed {w : Fin 4} (peak : BitVec 12) (hlive : frontEndLive s) (hsensor : sensorOf s w = 1)
    (harmed : s.wheels[w].armed) (hfrozen : s.sys.frozen = false) : vrEdgeStep w peak s =
      acceptEdge w ((peakNoted w peak s).pt - (peakNoted w peak s).cfg (WHN.base w) WHN.VR_CFG_DLY) 10 (peakNoted w peak s) := by
  unfold vrEdgeStep
  dsimp only
  rw [if_neg (not_not.2 ⟨hlive, hsensor, harmed⟩), if_neg (by simp [State.updWheel, hfrozen])]
  rfl

/-- A VR edge of an armed input leaves its crossing's stamp, and the reference peak moves on (R39, R40). -/
theorem vrEdge_stamps {w : Fin 4} (peak : BitVec 12) (hlive : frontEndLive s) (hsensor : sensorOf s w = 1)
    (harmed : s.wheels[w].armed) (hfrozen : s.sys.frozen = false) :
    ∃ t, exec (.vrEdge w peak) s = .next t ∧ t.wheels[w].armed = false ∧ t.wheels[w].seen ∧
      t.wheels[w].lastStamp = s.pt - s.cfg (WHN.base w) WHN.VR_CFG_DLY ∧
      t.wheels[w].peakRef = filterStep s.wheels[w].peakRef peak.toNat (s.cfg (WHN.base w) WHN.VR_CFG_DECAY) ∧
      (∀ v, v ≠ w → t.wheels[v] = s.wheels[v]) ∧ t.mem = s.mem := by
  have hnoted := peakNoted_fronts w peak s
  have hpt : (peakNoted w peak s).pt = s.pt := (Fronts.pt_eq hnoted).trans rfl
  have hdly : (peakNoted w peak s).cfg (WHN.base w) WHN.VR_CFG_DLY = s.cfg (WHN.base w) WHN.VR_CFG_DLY :=
    (Fronts.cfg_eq hnoted rfl).trans rfl
  have hstep := vrEdgeStep_of_armed peak hlive hsensor harmed hfrozen
  rw [hpt, hdly] at hstep
  obtain ⟨hself, hothers, hmem⟩ :=
    acceptEdge_wheel w (s.pt - s.cfg (WHN.base w) WHN.VR_CFG_DLY) 10 (peakNoted w peak s)
  rw [← hstep, Fronts.wheels_eq hnoted] at hself
  rw [State.updWheel_self] at hself
  rw [← hstep, Fronts.wheels_eq hnoted] at hothers
  rw [← hstep, Fronts.mem_eq hnoted] at hmem
  refine ⟨vrEdgeStep w peak s, rfl, ?_⟩
  rw [hself]
  exact ⟨rfl, rfl, rfl, rfl, fun v hv => (hothers v hv).trans (State.updWheel_ne s hv _), hmem⟩

/-- A Hall transition to the tooth's level that has held its filter time is a tooth edge (R42). -/
theorem hallTransition_stamps {w : Fin 4} {first : Nat} (hlive : frontEndLive s) (hsensor : sensorOf s w = 2)
    (hlevel : s.wheels[w].level ≠ toothLevel s w) (hheld : first + filtTicks s w first ≤ s.pt) (hfrozen : s.sys.frozen = false) :
    ∃ t, exec (.hallTransition w (toothLevel s w) first) s = .next t ∧ t.wheels[w].level = toothLevel s w ∧
      t.wheels[w].seen ∧ t.wheels[w].lastStamp = first ∧ (∀ v, v ≠ w → t.wheels[v] = s.wheels[v]) ∧ t.mem = s.mem := by
  obtain ⟨u, hu⟩ : ∃ u, u = s.updWheel w (fun x => { x with level := toothLevel s w, levelStamp := first, taken := false }) :=
    ⟨_, rfl⟩
  have hsampled : filtTicks s w first ≤ sampledFor s first := by
    unfold sampledFor
    omega
  have htooth : toothLevel s w = toothLevel u w := by rw [hu]; rfl
  have hstep : hallTransitionStep w (toothLevel s w) first s = acceptEdge w first (10 + filtTicks u w first) u := by
    unfold hallTransitionStep
    dsimp only
    rw [if_neg (not_not.2 ⟨hlive, Or.inl hsensor, hlevel, by omega, hsampled⟩), if_neg (by omega), ← hu, if_pos htooth,
      if_neg (by simp [hu, State.updWheel, hfrozen])]
  obtain ⟨hself, hothers, hmem⟩ := acceptEdge_wheel w first (10 + filtTicks u w first) u
  refine ⟨_, congrArg Host.Outcome.next hstep, ?_⟩
  rw [hself, hmem]
  have hw : u.wheels[w] = { s.wheels[w] with level := toothLevel s w, levelStamp := first, taken := false } := by
    rw [hu, State.updWheel_self]
  have hv (v : Fin 4) (hne : v ≠ w) : u.wheels[v] = s.wheels[v] := by rw [hu, State.updWheel_ne s hne]
  have hm : u.mem = s.mem := by rw [hu]; rfl
  rw [hw, hm]
  exact ⟨rfl, rfl, rfl, fun v hne => (hothers v hne).trans (hv v hne), rfl⟩

/-- The leading level of a direction-coded pulse is a tooth edge at once (R43). -/
theorem dirPulseLeading_stamps {w : Fin 4} (hlive : frontEndLive s) (hsensor : sensorOf s w = 3)
    (hlevel : s.wheels[w].level = toothLevel s w) (htaken : s.wheels[w].taken = false)
    (hboth : s.on (WHN.base w) WHN.MODE_BOTHFLANK = false) (hfrozen : s.sys.frozen = false) :
    ∃ t, exec (.dirPulseLeading w) s = .next t ∧ t.wheels[w].taken ∧ t.wheels[w].seen ∧
      t.wheels[w].pulse = some s.wheels[w].levelStamp ∧ t.wheels[w].lastStamp = s.wheels[w].levelStamp ∧
      (∀ v, v ≠ w → t.wheels[v] = s.wheels[v]) ∧ t.mem = s.mem := by
  obtain ⟨u, hu⟩ : ∃ u, u = s.updWheel w (fun x => { x with
      taken := true, pulse := some s.wheels[w].levelStamp,
      pulseCfg := wheelWordAt s w WHN.DIR_CFG_TH1.off s.wheels[w].levelStamp
      trailingFlank := false && !x.trailingFlank }) := ⟨_, rfl⟩
  have hstep : dirLeadingStep w s = acceptEdge w s.wheels[w].levelStamp 10 u := by
    unfold dirLeadingStep
    dsimp only
    rw [if_neg (not_not.2 ⟨hlive, hsensor, hlevel, htaken⟩), hboth, ← hu, if_neg (by simp [hu, State.updWheel, hfrozen]),
      Bool.false_and, if_neg Bool.false_ne_true]
  obtain ⟨hself, hothers, hmem⟩ := acceptEdge_wheel w s.wheels[w].levelStamp 10 u
  refine ⟨_, congrArg Host.Outcome.next hstep, ?_⟩
  rw [hself, hmem]
  have hw : u.wheels[w].taken = true ∧ u.wheels[w].pulse = some s.wheels[w].levelStamp := by
    rw [hu, State.updWheel_self]
    exact ⟨rfl, rfl⟩
  have hv (v : Fin 4) (hne : v ≠ w) : u.wheels[v] = s.wheels[v] := by rw [hu, State.updWheel_ne s hne]
  have hm : u.mem = s.mem := by rw [hu]; rfl
  rw [hm]
  exact ⟨hw.1, rfl, hw.2, rfl, fun v hne => (hothers v hne).trans (hv v hne), rfl⟩

end

/-- Settles O19: each front end hands its stamp to `acceptEdge`, which keeps it at the wheel. -/
theorem frontEndsStampToothEdges : Obligations.FrontEndsStampToothEdges :=
  ⟨fun _ peak _ hlive hsensor harmed hfrozen => vrEdge_stamps peak hlive hsensor harmed hfrozen,
    fun _ _ _ hlive hsensor hlevel hheld hfrozen => hallTransition_stamps hlive hsensor hlevel hheld hfrozen,
    fun _ _ hlive hsensor hlevel htaken hboth hfrozen =>
      dirPulseLeading_stamps hlive hsensor hlevel htaken hboth hfrozen⟩

end Sys2Proof.Machine

namespace Sys2Proof.Machine

/-! ## Pattern tables and the registers of the front ends (R39, R42, R47, R50) -/

section
variable {s : State}

theorem hallGlitch_counts {w : Fin 4} {first back : Nat} (hlive : frontEndLive s) (hsensor : sensorOf s w = 2 ∨ sensorOf s w = 3)
    (hback : first < back) (hfilt : back ≤ first + filtTicks s w first) (hpt : back ≤ s.pt) :
    ∃ t, exec (.hallGlitch w first back) s = .next t ∧
      t.rd (WHN.base w) WHN.GLITCH_CNT_COUNT = sat 65535 (s.rd (WHN.base w) WHN.GLITCH_CNT_COUNT + 1) ∧
      (∀ a, a ≠ WHN.base w + 0x38 → t.reg a = s.reg a) ∧ t = { s with regs := t.regs } :=
  ⟨s.bump (WHN.base w) WHN.GLITCH_CNT_COUNT,
    congrArg Host.Outcome.next (if_pos ⟨hlive, hsensor, hback, hfilt, hpt⟩),
    rd_bump_self s _ WHN.GLITCH_CNT_COUNT rfl, fun _ ha => reg_bump_ne s WHN.GLITCH_CNT_COUNT ha, rfl⟩

theorem vrArm_arms {w : Fin 4} {level : BitVec 12} (hlive : frontEndLive s) (hsensor : sensorOf s w = 1)
    (harmed : s.wheels[w].armed = false) (hlevel : vrThreshold8 s w < 8 * level.toNat) :
    ∃ t, exec (.vrArm w level) s = .next t ∧ t.wheels[w].armed ∧
      (∀ v, v ≠ w → t.wheels[v] = s.wheels[v]) ∧ t = { s with wheels := t.wheels } := by
  refine ⟨_, congrArg Host.Outcome.next (if_pos ⟨hlive, hsensor, harmed, hlevel⟩), ?_, fun v hv => State.updWheel_ne s hv _, rfl⟩
  rw [State.updWheel_self]

/-- INDEX advances with AUTOINC; nothing else does (R47). -/
theorem ptabAdvance_index (s : State) :
    (ptabAdvance s).rd WHL.base WHL.PTAB_ADDR_INDEX = (if s.flag WHL.base WHL.PTAB_ADDR_AUTOINC
      then (s.rd WHL.base WHL.PTAB_ADDR_INDEX + 1) % 1024 else s.rd WHL.base WHL.PTAB_ADDR_INDEX) ∧
    (ptabAdvance s).rd WHL.base WHL.PTAB_ADDR_WHEEL = s.rd WHL.base WHL.PTAB_ADDR_WHEEL ∧
    (∀ a, a ≠ WHL.base + 0x40 → (ptabAdvance s).reg a = s.reg a) ∧ ptabAdvance s = { s with regs := (ptabAdvance s).regs } := by
  unfold ptabAdvance
  split
  · refine ⟨?_, rd_wr_disj s _ _ _ rfl rfl (by decide), fun a ha => reg_wr_ne s _ _ ha, rfl⟩
    have hsize : WHL.PTAB_ADDR_INDEX.size = 1024 := by decide
    rw [rd_wr_self s _ WHL.PTAB_ADDR_INDEX _ rfl, hsize, Nat.mod_mod]
  · exact ⟨rfl, rfl, fun _ _ => rfl, rfl⟩

theorem ptabHiWrite_stores (v : Word) (harm : s.armedOrLater = false) :
    ∃ t, exec (.ptabDataHiWrite v) s = .next t ∧
      tget t.ptab (ptabKey s) 0 = v.toNat * 2 ^ 32 + s.ptabLo.toNat ∧
      (∀ k, k ≠ ptabKey s → tget t.ptab k 0 = tget s.ptab k 0) ∧
      t.rd WHL.base WHL.PTAB_ADDR_INDEX = (if s.flag WHL.base WHL.PTAB_ADDR_AUTOINC
        then (s.rd WHL.base WHL.PTAB_ADDR_INDEX + 1) % 1024 else s.rd WHL.base WHL.PTAB_ADDR_INDEX) ∧
      t.rd WHL.base WHL.PTAB_ADDR_WHEEL = s.rd WHL.base WHL.PTAB_ADDR_WHEEL ∧
      (∀ a, a ≠ WHL.base + 0x40 → t.reg a = s.reg a) ∧ t = { s with regs := t.regs, ptab := t.ptab } := by
  obtain ⟨x, hx⟩ : ∃ x, x = v.toNat * 2 ^ 32 + s.ptabLo.toNat := ⟨_, rfl⟩
  obtain ⟨u, hu⟩ : ∃ u : State, u = { s with ptab := tset s.ptab (ptabKey s) x 0 } := ⟨_, rfl⟩
  have hstep : ptabHiWrite v s = ptabAdvance u := by
    rw [hu, hx]
    exact if_neg (by rw [harm]; exact Bool.false_ne_true)
  obtain ⟨hindex, hwheel, hreg, hframe⟩ := ptabAdvance_index u
  have htab : (ptabAdvance u).ptab = tset s.ptab (ptabKey s) x 0 := (congrArg State.ptab hframe).trans (by rw [hu])
  have hregs (a : Nat) : u.reg a = s.reg a := by rw [hu]; rfl
  have hrd (f : Fld) : u.rd WHL.base f = s.rd WHL.base f := congrArg f.of (hregs _)
  refine ⟨_, congrArg Host.Outcome.next hstep, ?_, fun k hk => ?_, ?_, hwheel.trans (hrd _),
    fun a ha => (hreg a ha).trans (hregs a), ?_⟩
  · rw [← hx, htab, tget_tset_eq]
  · rw [htab, tget_tset_ne _ _ _ _ hk]
  · rw [hindex, State.flag, hrd, hrd, State.flag]
  · rw [htab]
    rw [hu] at hframe ⊢
    exact hframe

theorem ptabHiWrite_refused (v : Word) (harm : s.armedOrLater) :
    ∃ t, exec (.ptabDataHiWrite v) s = .next t ∧ t.ptab = s.ptab ∧
      t.rd 0x404000 HDR.ERR_COUNT = sat 65535 (s.rd 0x404000 HDR.ERR_COUNT + 1) ∧
      (∀ a, a ≠ 0x404000 + HDR.ERR_COUNT.off → t.reg a = s.reg a) :=
  ⟨s.err 0x04, congrArg Host.Outcome.next (if_pos harm), rfl, rd_bump_self s _ HDR.ERR_COUNT rfl,
    fun _ ha => reg_bump_ne s HDR.ERR_COUNT ha⟩

theorem ptabHiRead_returns (s : State) : ∃ t, exec .ptabDataHiRead s = .next t ∧ t.respData = [toWord (s.ptabSnap / 2 ^ 32)] ∧
      t.respErr = false ∧
      t.rd WHL.base WHL.PTAB_ADDR_INDEX = (if s.flag WHL.base WHL.PTAB_ADDR_AUTOINC
        then (s.rd WHL.base WHL.PTAB_ADDR_INDEX + 1) % 1024 else s.rd WHL.base WHL.PTAB_ADDR_INDEX) ∧
      (∀ a, a ≠ WHL.base + 0x40 → t.reg a = s.reg a) ∧
      t = { s with respData := t.respData, respErr := t.respErr, regs := t.regs } := by
  obtain ⟨hindex, -, hreg, hframe⟩ := ptabAdvance_index s
  refine ⟨ptabHiRead s, rfl, rfl, rfl, hindex, hreg, ?_⟩
  exact congrArg (fun u : State => u.respond (toWord (s.ptabSnap / 2 ^ 32))) hframe

theorem stampLoRead_returns (w : Fin 4) (s : State) : ∃ t, exec (.stampLoRead w) s = .next t ∧
      t.respData = [toWord s.wheels[w].lastStamp] ∧
      t.respErr = false ∧ t.reg (WHN.base w + 0x1C) = toWord (s.wheels[w].lastStamp / 2 ^ 32) ∧
      (∀ a, a ≠ WHN.base w + 0x1C → t.reg a = s.reg a) ∧
      t = { s with respData := t.respData, respErr := t.respErr, regs := t.regs } :=
  ⟨stampLoRead w s, rfl, rfl, rfl, reg_setReg_self s _ _, fun _ ha => reg_setReg_ne s _ ha, rfl⟩

end

/-- Settles O20: a lemma for each command; the low word's accesses by computation. -/
theorem patternTablesAndFrontEndRegisters : Obligations.PatternTablesAndFrontEndRegisters :=
  ⟨fun _ _ _ _ hlive hsensor hback hfilt hpt => hallGlitch_counts hlive hsensor hback hfilt hpt,
    fun _ _ _ hlive hsensor harmed hlevel => vrArm_arms hlive hsensor harmed hlevel,
    fun _ _ => ⟨_, rfl, rfl, rfl⟩,
    fun v _ harm => ptabHiWrite_stores v harm,
    fun v _ harm => ptabHiWrite_refused v harm,
    fun _ => ⟨_, rfl, rfl, rfl, rfl, rfl⟩,
    ptabHiRead_returns, stampLoRead_returns⟩

end Sys2Proof.Machine

namespace Sys2Proof.Machine

/-! ## The course of the trackers

What every end of actions and of outputs leaves of the trackers and of the epoch. Registers, records, events, and the units
that carry actions out are no part of it. -/

/-- A tracker but for what a change of the device's state or of a wheel's mode takes from it: that its cycle and its
revolution may be learned (R82, R84), and the sense last seen (R62). -/
def Tracker.course (x : Tracker) : Tracker := { x with rowClean := false, revOk := false, sense := none }

/-- The epoch, who controls it, and the trackers' positions. -/
structure Course where
  epoch : Nat
  epochOpen : Bool
  control : Fin 2
  hold : Option Nat
  trk : Fin 2 → Tracker

def State.course (s : State) : Course :=
  ⟨s.dev.epoch, s.dev.epochOpen, s.dev.control, s.dev.hold, fun k => s.trk[k].course⟩

section
variable {s t : State}

section
variable (h : t.course = s.course)
include h

theorem Course.epoch_eq : t.dev.epoch = s.dev.epoch := congrArg Course.epoch h
theorem Course.epochOpen_eq : t.dev.epochOpen = s.dev.epochOpen := congrArg Course.epochOpen h
theorem Course.hold_eq : t.dev.hold = s.dev.hold := congrArg Course.hold h
theorem Course.trk_eq (k : Fin 2) : t.trk[k].course = s.trk[k].course := congrArg (fun c : Course => c.trk k) h
theorem Course.acq_eq (k : Fin 2) : t.trk[k].acq = s.trk[k].acq := congrArg (fun c : Course => (c.trk k).acq) h

end

theorem course_of (hdev : t.dev = s.dev) (htrk : t.trk = s.trk) : t.course = s.course := by
  unfold State.course
  rw [hdev, htrk]

theorem course_of_desk (h : t.desk = s.desk) : t.course = s.course :=
  course_of (Desk.dev_eq h) (congrArg (fun d : Desk => d.rest.trk) h)
theorem course_of_banks (h : t.bare.sansBanks = s.bare.sansBanks) : t.course = s.course :=
  course_of (congrArg (fun d : Bare => d.rest.dev) h) (congrArg (fun d : Bare => d.rest.trk) h)
theorem course_of_pwm (h : t.bare.sansPwm = s.bare.sansPwm) : t.course = s.course :=
  course_of (congrArg (fun d : Bare => d.rest.dev) h) (congrArg (fun d : Bare => d.rest.trk) h)

@[simp] theorem setReg_course (s : State) (a : Nat) (w : Word) : (s.setReg a w).course = s.course := (rfl)
@[simp] theorem wr_course (s : State) (b : Nat) (f : Fld) (v : Nat) : (s.wr b f v).course = s.course := (rfl)
@[simp] theorem bump_course (s : State) (b : Nat) (f : Fld) : (s.bump b f).course = s.course := (rfl)
@[simp] theorem bumpWrap_course (s : State) (b : Nat) (f : Fld) : (s.bumpWrap b f).course = s.course := (rfl)
@[simp] theorem err_course (s : State) (p : Nat) : (s.err p).course = s.course := (rfl)
@[simp] theorem updPlan_course (s : State) (f : Plan → Plan) : (s.updPlan f).course = s.course := (rfl)
@[simp] theorem updWheel_course (s : State) (w : Fin 4) (f : Wheel → Wheel) : (s.updWheel w f).course = s.course := (rfl)
@[simp] theorem updBank_course (s : State) (b : Fin 16) (f : Bank → Bank) : (s.updBank b f).course = s.course := (rfl)
@[simp] theorem updShp_course (s : State) (b : Fin 16) (f : Shaper → Shaper) : (s.updShp b f).course = s.course := (rfl)
@[simp] theorem updConv_course (s : State) (k : Fin 4) (f : Converter → Converter) : (s.updConv k f).course = s.course := (rfl)
@[simp] theorem updTmr_course (s : State) (n : Fin 16) (f : Timer → Timer) : (s.updTmr n f).course = s.course := (rfl)
@[simp] theorem updCore_course (s : State) (c : Fin 4) (f : Core → Core) : (s.updCore c f).course = s.course := (rfl)
@[simp] theorem setCsrc_course (s : State) (n : Nat) (x : CatchSrc) : (s.setCsrc n x).course = s.course := (rfl)
@[simp] theorem updActs_course (s : State) (f : List Act → List Act) : (updActs f s).course = s.course := (rfl)
@[simp] theorem updAct_course (n : Nat) (f : Act → Act) (s : State) : (updAct n f s).course = s.course := (rfl)
@[simp] theorem dropActEntry_course (n : Nat) (s : State) : (dropActEntry n s).course = s.course := (rfl)
@[simp] theorem leveeRestart_course (s : State) : (leveeRestart s).course = s.course := (rfl)
@[simp] theorem keepWheelWord_course (w : Fin 4) (off : Nat) (old : Word) (s : State) :
    (keepWheelWord w off old s).course = s.course := (rfl)
@[simp] theorem moveMux_course (k : Fin 4) (s : State) : (moveMux k s).course = s.course := (rfl)
@[simp] theorem beginScan_course (k : Fin 4) (x : Scan) (n : Nat) (s : State) : (beginScan k x n s).course = s.course := (rfl)
@[simp] theorem restartRing_course (k : Fin 4) (r : Nat) (s : State) : (restartRing k r s).course = s.course := by
  simp only [restartRing, wr_course, updConv_course]

@[simp] theorem raise_course (s : State) (n : Nat) : (s.raise n).course = s.course := course_of (by simp) (by simp)

@[simp] theorem raiseIf_course (s : State) (c : Bool) (n : Nat) : (s.raiseIf c n).course = s.course := by
  rw [State.raiseIf, apply_ite State.course, raise_course, ite_self]

@[simp] theorem fire_course (s : State) (code : Nat) : (s.fire code).course = s.course := by
  rw [State.fire, fireIn_only_trigs]
  rfl

/-- A change that a tracker's course does not show. -/
theorem updTrk_course {k : Fin 2} {f : Tracker → Tracker} (hf : (f s.trk[k]).course = s.trk[k].course) :
    (s.updTrk k f).course = s.course := by
  have htrk : (fun j : Fin 2 => (s.updTrk k f).trk[j].course) = fun j : Fin 2 => s.trk[j].course := by
    funext j
    rw [trk_updTrk]
    split
    next e => rw [← e, hf]
    · rfl
  unfold State.course
  rw [htrk]
  rfl

@[simp] theorem enter_course (s : State) (d : DevState) : (s.enter d).course = s.course := by
  have hspoil (k : Fin 2) : (s.trk.map Tracker.spoil)[k].course = s.trk[k].course := by
    simp [Tracker.spoil, Tracker.course]
  unfold State.enter
  split
  · rfl
  · unfold State.course
    dsimp only
    split
    · rfl
    · simp only [hspoil]

@[simp] theorem actWhere_course (p : CommitPend → Bool) (s : State) : (s.actWhere p).course = s.course :=
  foldS_keeps (v := State.course) (f := fun (c : CommitPend) u => u.setAct c.addr (c.acts (u.actReg c.addr)))
    (fun _ _ => rfl) _ _

/-! ### Actions and violations -/

@[simp] theorem applyAct_course (a : Act) (s : State) : (applyAct a s).course = s.course :=
  (course_of_desk (applyAct_desk a s)).trans (dropActEntry_course _ s)
@[simp] theorem dropAct_course (r : Nat) (a : Act) (s : State) : (dropAct r a s).course = s.course :=
  (course_of_desk (dropAct_desk r a s)).trans (dropActEntry_course _ s)

@[simp] theorem truncateAct_course (angle : Nat) (a : Act) (s : State) : (truncateAct angle a s).course = s.course := by
  have hentry : (dropActEntry a.serial (flagOrder a s)).course = s.course :=
    (dropActEntry_course _ _).trans (course_of_desk (flagOrder_desk a s))
  unfold truncateAct
  dsimp only
  split
  · exact (course_of_desk (endOrder_desk ..)).trans hentry
  · exact (course_of_desk (jrnAction_desk ..)).trans hentry

theorem truncateWhere_course (p : Act → Bool) (angle : Nat) (s : State) : (truncateWhere p angle s).course = s.course :=
  foldS_keeps (v := State.course) (truncateAct_course angle) _ s

@[simp] theorem violation_course (cause src : Nat) (s : State) : (violation cause src s).course = s.course :=
  afterCounted_keeps (P := fun u => u.course = s.course)
    { gov := fun _ _ hu => hu
      err := fun _ _ hu => hu
      viol := fun _ _ hu => hu
      kept := fun _ _ hu => hu
      enter := fun u _ hu => (enter_course u .governed).trans hu
      raise := fun u hu => (raise_course u 48).trans hu } cause src (raise_course _ src)

@[simp] theorem contention_course (e : Bool) (s : State) : (contention e s).course = s.course := by
  rw [contention, apply_ite State.course, bump_course, violation_course, ite_self]

@[simp] theorem envelopeEdge_course (n v stamp : Nat) (r : Bool) (s : State) :
    (envelopeEdge n v stamp r s).course = s.course := by
  have hspeed (c d : Bool) : (if c then s else if d then violation 1 49 (s.updPlan fun p => { p with speedBad := d })
      else s.updPlan fun p => { p with speedBad := d }).course = s.course := by
    simp only [apply_ite State.course, violation_course, updPlan_course, ite_self]
  unfold envelopeEdge
  dsimp only
  rw [apply_ite State.course]
  split
  · rfl
  · rw [apply_ite State.course, hspeed]
    split
    · rfl
    · split
      · exact hspeed ..
      · simp only [apply_ite State.course, violation_course, updPlan_course, ite_self]

/-! ### Converters -/

@[simp] theorem actConv_course (k : Fin 4) (p : CommitPend → Bool) (s : State) : (actConv k p s).course = s.course := by
  unfold actConv
  dsimp only
  rw [foldS_keeps (v := State.course) (fun r u => by rw [apply_ite State.course, restartRing_course, ite_self])]
  simp only [apply_ite State.course, moveMux_course, updConv_course, actWhere_course, ite_self]

@[simp] theorem convScanStart_course (k : Fin 4) (s : State) : (convScanStart k s).course = s.course := actConv_course k _ _

@[simp] theorem claimConv_course (k : Fin 4) (a : Act) (s : State) : (claimConv k a s).course = s.course := by
  unfold claimConv
  simp only [beginScan_course, updAct_course, updConv_course, apply_ite State.course, wr_course, bump_course, convScanStart_course,
    ite_self]

@[simp] theorem resumeScan_course (k : Fin 4) (x : Scan) (s : State) : (resumeScan k x s).course = s.course := by
  simp only [resumeScan, beginScan_course, updConv_course, convScanStart_course]

@[simp] theorem grantSlot_course (k j : Fin 4) (s : State) : (grantSlot k j s).course = s.course := by
  unfold grantSlot
  simp only [apply_ite State.course, bump_course, beginScan_course, updConv_course, convScanStart_course, ite_self]

@[simp] theorem claimWaiting_course (k : Fin 4) (s : State) : (claimWaiting k s).course = s.course := by
  unfold claimWaiting
  split
  · rfl
  · dsimp only
    split
    · rfl
    · simp only [apply_ite State.course, claimConv_course, dropAct_course, updConv_course, ite_self]

@[simp] theorem serveConv_course (k : Fin 4) (s : State) : (serveConv k s).course = s.course := by
  have hslots (u : State) : (foldS (List.finRange 4) (fun j s => if s.conv[k].run.isNone = true ∧ bit s.conv[k].pend j.val = true ∧
      lowerComes s k j = false then grantSlot k j s else s) u).course = u.course :=
    foldS_keeps (v := State.course) (fun j v => by rw [apply_ite State.course, grantSlot_course, ite_self]) _ u
  unfold serveConv
  dsimp only
  split
  · rfl
  · split
    · exact claimWaiting_course k s
    · split
      · rw [resumeScan_course, claimWaiting_course]
      · simp only [apply_ite State.course, moveMux_course, hslots, claimWaiting_course, ite_self]

@[simp] theorem endScan_course (k : Fin 4) (x : Scan) (s : State) : (endScan k x s).course = s.course := by
  unfold endScan
  split
  · rfl
  · exact raiseIf_course _ _ _

@[simp] theorem settleConv_course (k : Fin 4) (s : State) : (settleConv k s).course = s.course := by
  have hend (c : Converter) (x : Scan) (u : State) (f : Converter → Converter) :
      (if scanDone c x then endScan k x (u.updConv k f) else u).course = u.course := by
    rw [apply_ite State.course, endScan_course, updConv_course, ite_self]
  have hsusp : (match s.conv[k].susp with
      | some x => if scanDone s.conv[k] x then endScan k x (s.updConv k (fun c => { c with susp := none })) else s
      | none => s).course = s.course := by
    split
    · exact hend ..
    · rfl
  unfold settleConv
  dsimp only
  rw [serveConv_course]
  split
  · exact (hend ..).trans hsusp
  · exact hsusp

@[simp] theorem spillConv_course (k : Fin 4) (s : State) : (spillConv k s).course = s.course := settleConv_course k _

@[simp] theorem spillSamples_course (s : State) : (spillSamples s).course = s.course := by
  have hclaim (k : Fin 4) (u : State) : (spillClaim k u).course = u.course := by
    unfold spillClaim
    split
    · rw [apply_ite State.course, claimConv_course, ite_self]
    · rfl
  have hun (k : Fin 4) (u : State) : (unsample k u).course = u.course := by
    unfold unsample
    split
    · rfl
    · dsimp only
      rw [updConv_course]
      split
      · exact course_of_desk (updOrder_desk _ _ u)
      · rfl
  exact foldS_keeps (v := State.course) (fun k u => (hun k _).trans (hclaim k u)) _ s

/-! ### Banks -/

@[simp] theorem spillBank_course (b : Fin 16) (s : State) : (spillBank b s).course = s.course :=
  course_of_banks (spillBank_banks b s)

@[simp] theorem dropPromise_course (b : Fin 16) (s : State) : (dropPromise b s).course = s.course := by
  rw [dropPromise, apply_ite State.course, updBank_course, ite_self]

@[simp] theorem restartWaits_course (b : Fin 16) (a : Act) (s : State) : (restartWaits b a s).course = s.course := by
  unfold restartWaits sluiceDrop
  simp only [apply_ite State.course, dropAct_course, raise_course, bump_course, contention_course, updBank_course, ite_self]

@[simp] theorem restartsWait_course (b : Fin 16) (s : State) : (restartsWait b s).course = s.course :=
  foldS_keeps (v := State.course) (restartWaits_course b) _ _

@[simp] theorem filterDelay_course (b : Fin 16) (s : State) : (filterDelay b s).course = s.course := by
  unfold filterDelay
  dsimp only
  split
  · split
    · rfl
    · simp only [apply_ite State.course, wr_course, ite_self]
  · rfl

@[simp] theorem normalEndStep_course (b : Fin 16) (s : State) : (normalEndStep b s).course = s.course := by
  unfold normalEndStep
  split
  · simp only [apply_ite State.course, restartsWait_course, updBank_course, updShp_course, applyAct_course, filterDelay_course,
      ite_self]
  · rfl

/-! ### Ends of actions and of outputs -/

@[simp] theorem truncateAll_course (s : State) : (truncateAll s).course = s.course := by
  unfold truncateAll
  dsimp only
  rw [truncateWhere_course, foldS_keeps (v := State.course) (fun b u => by rw [dropPromise_course, normalEndStep_course]),
    spillSamples_course]

/-- A stall or a reversal ends actions and leaves the trackers their course (R113, R118). -/
@[simp] theorem endActions_course (s : State) : (endActions s).course = s.course := by
  unfold endActions
  dsimp only
  rw [foldS_keeps (v := State.course) spillConv_course, foldS_keeps (v := State.course) spillBank_course, truncateAll_course]

@[simp] theorem spillTio_course (s : State) : (spillTio s).course = s.course :=
  foldS_keeps (v := State.course) (fun n u => by
    simp only [apply_ite State.course, fire_course, updTmr_course, ite_self]) _ s

@[simp] theorem setGate_course (m : Nat) (v : Bool) (s : State) : (setGate m v s).course = s.course := by
  unfold setGate
  split
  · rfl
  · exact fire_course _ _

@[simp] theorem spillOutputs_course (u : Bool) (s : State) : (spillOutputs u s).course = s.course := by
  have hcut (v : State) : ({ v with gatesCut := v.gatesCut ||| v.gates } : State).course = v.course := rfl
  unfold spillOutputs
  dsimp only
  rw [foldS_keeps (v := State.course) (fun m v => setGate_course m false v), hcut, foldS_keeps (v := State.course) spillConv_course,
    spillTio_course, course_of_pwm (spillPwm_sansPwm _ _), foldS_keeps (v := State.course) spillBank_course]

/-! ### Committed shadows that act (R486) -/

@[simp] theorem wheelModeActs_course (w : Fin 4) (s : State) : (wheelModeActs w s).course = s.course := by
  unfold wheelModeActs
  dsimp only
  rw [updWheel_course, wr_course, foldS_keeps (v := State.course) (fun t u => by
    rw [apply_ite State.course, updTrk_course rfl, ite_self])]

@[simp] theorem dcfgActs_course (b : Fin 16) (k : Fin 4) (old new : Word) (s : State) :
    (dcfgActs b k old new s).course = s.course := by
  have htrims (u : State) (l : Trims) : ({ u with trims := l } : State).course = u.course := rfl
  unfold dcfgActs
  split
  · rfl
  · dsimp only
    rw [htrims, wr_course, setReg_course]

@[simp] theorem gateActs_course (n : Fin 16) (s : State) : (gateActs n s).course = s.course := by
  have hchange (u : State) : (gateChange n u).course = u.course := by
    unfold gateChange
    dsimp only
    split
    · split <;> rfl
    · split <;> rfl
  have hgate (u : State) : (if u.cfg (tm n) TMN.CFG_SMODE = 1 then gateChange n u
      else match u.tmr[n].left with
        | some d => u.updTmr n (fun x => { x with due := u.pt + d, left := none })
        | none => u).course = u.course := by
    split
    · exact hchange u
    · split <;> rfl
  unfold gateActs
  dsimp only
  split
  · exact hgate _
  · exact hgate s

@[simp] theorem tioMoved_course (n : Fin 16) (b : Bool) (s : State) : (tioMoved n b s).course = s.course := by
  rw [tioMoved, apply_ite State.course, fire_course, ite_self]

@[simp] theorem catchRetest_course (s : State) : (catchRetest s).course = s.course :=
  foldS_keeps (v := State.course) (fun e u => by
    have hpend (n k : Nat) : (tryPend n k u).course = u.course := by
      unfold tryPend
      dsimp only
      split
      · rfl
      · split
        · rfl
        · rw [bumpWrap_course, setCsrc_course]
    rw [apply_ite State.course, hpend, ite_self]) _ s

@[simp] theorem commitEffect_course (a : Nat) (old new : Word) (s : State) : (commitEffect a old new s).course = s.course :=
  commitEffect_of (P := fun u => u.course = s.course) a old new rfl (leveeRestart_course s) (fun _ => wr_course s _ _ _)
    (fun w => wheelModeActs_course w s) (fun _ _ => keepWheelWord_course _ _ _ s) (fun b k => dcfgActs_course b k old new s)
    (foldS_keeps (v := State.course) (fun n u => course_of_pwm (judgeTrip_sansPwm n u)) _ s) (fun _ => updTrk_course rfl)
    (fun n b => by rw [gateActs_course, tioMoved_course]) (fun n => course_of_pwm (settleSafe_sansPwm n s))

@[simp] theorem actCommitted_course (p : CommitPend → Bool) (s : State) : (actCommitted p s).course = s.course := by
  unfold actCommitted
  dsimp only
  rw [apply_ite State.course, catchRetest_course, ite_self,
    foldS_keeps (v := State.course) (fun c u => commitEffect_course _ _ _ u), actWhere_course]

end
end Sys2Proof.Machine

namespace Sys2Proof.Machine

/-! ## Leaving SYNC (R110) -/

section
variable {s t : State} {k : Fin 2}

/-- A tracker's own register that is not its EVT_RAW. -/
def Fld.ofTrk (f : Fld) : Bool := decide (f.off < 0x1000) && decide (f.off ≠ 0x10)

theorem rd_raise_trk (s : State) (n : Nat) (k : Fin 2) {f : Fld} (hf : f.ofTrk) :
    (s.raise n).rd (TRK.base k) f = s.rd (TRK.base k) f := by
  simp only [Fld.ofTrk, Bool.and_eq_true, decide_eq_true_eq] at hf
  exact rd_raise_ne s n f (by unfold TRK.base; omega)

theorem rd_updTrk (s : State) (k : Fin 2) (f : Tracker → Tracker) (b : Nat) (g : Fld) : (s.updTrk k f).rd b g = s.rd b g :=
  rd_congr (State.updTrk_regs s k f) b g

theorem otherTrk_ne (k : Fin 2) : otherTrk k ≠ k := by
  revert k
  decide

/-- What a tracker that leaves SYNC keeps in the state it goes to (R54, R56). -/
def Tracker.leave (q : Acq) (x : Tracker) : Tracker := if q = .steady then x.restart .steady else x.forget q

theorem Tracker.leave_acq (q : Acq) (x : Tracker) : (x.leave q).acq = q := by
  unfold Tracker.leave
  split
  next h => exact h.symm
  · rfl

theorem Tracker.leave_stalled (q : Acq) (x : Tracker) : (x.leave q).stalled = false := by
  unfold Tracker.leave
  split <;> rfl

theorem Tracker.leave_spurRun (q : Acq) (x : Tracker) : (x.leave q).spurRun = 0 := by
  unfold Tracker.leave
  split <;> rfl

theorem recordLoss_keeps (k : Fin 2) (cause : Nat) (s : State) : (recordLoss k cause s).trk = s.trk ∧
    (recordLoss k cause s).dev = s.dev ∧ (recordLoss k cause s).tick = s.tick := by
  unfold recordLoss
  dsimp only
  exact ⟨by rw [State.wr_trk, State.wr_trk, State.wr_trk, State.wr_trk],
    by rw [State.wr_dev, State.wr_dev, State.wr_dev, State.wr_dev],
    by rw [State.wr_tick, State.wr_tick, State.wr_tick, State.wr_tick]⟩

/-- A tracker has left SYNC with a cause, and nothing has come of it for the device. -/
structure LeftSync (k : Fin 2) (cause : Nat) (q : Acq) (s t : State) : Prop where
  trk : t.trk[k] = s.trk[k].leave q
  others : ∀ j, j ≠ k → t.trk[j] = s.trk[j]
  dev : t.dev = s.dev
  loss : t.rd (TRK.base k) TRK.MOTION_STAT_LOSS = cause % 16
  event : ∃ x ∈ t.inFlight, x.src = 34 + 8 * k.val ∧ x.raisedAt = s.tick
  rd : ∀ f : Fld, f.off < 0x14C → f.ofTrk → t.rd (TRK.base k) f = s.rd (TRK.base k) f

theorem leaveSync_left (cause : Nat) (q : Acq) (h : s.trk[k].acq = .sync) : LeftSync k cause q s (leaveSync k cause q s) := by
  have hstep : leaveSync k cause q s = ((recordLoss k cause s).raise (34 + 8 * k.val)).updTrk k (Tracker.leave q) := if_pos h
  obtain ⟨hrec, hdev, htick⟩ := recordLoss_keeps k cause s
  have htrk : ((recordLoss k cause s).raise (34 + 8 * k.val)).trk = s.trk := by rw [State.raise_trk, hrec]
  rw [hstep]
  refine { trk := ?_, others := fun j hj => ?_, dev := ?_, loss := ?_, event := ?_, rd := fun f hf ht => ?_ }
  · rw [State.updTrk_self, htrk]
  · rw [State.updTrk_ne _ hj, htrk]
  · rw [State.updTrk_dev, State.raise_dev, hdev]
  · have hsize : TRK.MOTION_STAT_LOSS.size = 16 := by decide
    rw [rd_updTrk, rd_raise_trk _ _ k rfl, recordLoss, rd_wr_self _ _ TRK.MOTION_STAT_LOSS _ rfl, hsize]
  · exact exists_of_sent (sent_raise_self _ _) (by rw [State.updTrk_tick, State.raise_tick, htick])
  · have hne (g : Fld) (hg : 0x14C ≤ g.off) : TRK.base k + f.off ≠ TRK.base k + g.off := by omega
    rw [rd_updTrk, rd_raise_trk _ _ k ht, recordLoss, rd_wr_ne _ _ _ _ (hne _ (by decide)), rd_wr_ne _ _ _ _ (hne _ (by decide)),
      rd_wr_ne _ _ _ _ (hne _ (by decide)), rd_wr_ne _ _ _ _ (hne _ (by decide))]

/-- A loss of the link's source (R430) is counted on the link's page, and leaves the trackers and the device. -/
theorem noteLinkLoss_keeps (k : Fin 2) (s : State) :
    (noteLinkLoss k s).trk = s.trk ∧ (noteLinkLoss k s).dev = s.dev ∧ (noteLinkLoss k s).act = s.act ∧
      (noteLinkLoss k s).xchk = s.xchk ∧ (noteLinkLoss k s).tick = s.tick ∧
      ∀ (j : Fin 2) (f : Fld), f.ofTrk → (noteLinkLoss k s).rd (TRK.base j) f = s.rd (TRK.base j) f := by
  unfold noteLinkLoss
  split
  · refine ⟨by simp, by simp, by simp, by simp, by simp, fun j f hf => ?_⟩
    have hoff : f.off < 0x1000 := by
      simp only [Fld.ofTrk, Bool.and_eq_true, decide_eq_true_eq] at hf
      exact hf.1
    rw [rd_raise_trk _ _ j hf, State.bump, State.bumpBy, rd_wr_ne]
    · rfl
    · show 0x402000 + j.val * 0x1000 + f.off ≠ 0x470000 + 0x68
      omega
  · exact ⟨rfl, rfl, rfl, rfl, rfl, fun _ _ _ => rfl⟩

/-- A tracker that does not carry an open epoch leaves SYNC by itself (R110). -/
theorem loseSyncTo_left (q : Acq) (cause : Nat) (hsync : s.trk[k].acq = .sync)
    (hdev : s.dev.control ≠ k ∨ s.dev.epochOpen = false) (hhand : s.dev.handing = false) :
    LeftSync k cause q s (loseSyncTo q k cause s) := by
  obtain ⟨htrk, hd, -, -, htick, hrd⟩ := noteLinkLoss_keeps k s
  have hout : ¬ (s.dev.epochOpen ∧ (s.dev.control = k ∨ s.dev.handing)) := by
    rw [hhand]
    rintro ⟨hopen, hcontrol | hf⟩
    · exact hdev.elim (fun h => h hcontrol) (fun h => by rw [h] at hopen; cases hopen)
    · cases hf
  have hstep : loseSyncTo q k cause s = leaveSync k cause q (noteLinkLoss k s) := by
    unfold loseSyncTo
    dsimp only
    rw [hd, if_neg hout]
  have h := leaveSync_left (s := noteLinkLoss k s) cause q (by rw [htrk, hsync])
  rw [← hstep] at h
  exact {
    trk := by rw [h.trk, htrk]
    others := fun j hj => by rw [h.others j hj, htrk]
    dev := h.dev.trans hd
    loss := h.loss
    event := by rw [← htick]; exact h.event
    rd := fun f hf ht => by rw [h.rd f hf ht, hrd k f ht] }

/-! ## Stalls and holds (R113, R114) -/

/-- A step taken by the trackers in turn is that of the one in SYNC. -/
theorem foldS_one_tracker {f : Fin 2 → State → State} (hout : ∀ u, u.trk[otherTrk k].acq ≠ .sync → f (otherTrk k) u = u)
    (hs : s.trk[otherTrk k].acq ≠ .sync) (ht : (f k s).trk[otherTrk k].acq ≠ .sync) : foldS [0, 1] f s = f k s := by
  match k with
  | 0 => exact hout (f 0 s) ht
  | 1 =>
    show f 1 (f 0 s) = f 1 s
    rw [show f 0 s = s from hout s hs]

/-- A tracker at the declaration of a stall (R113). -/
def Tracker.stall (at_ : Nat) (x : Tracker) : Tracker :=
  { x.spoil with stalled := true, stallPt := at_, held := none, revStamps := [], revPrev := none }

/-- On the controlling tracker of an open epoch a stall ends the actions and takes the device to STALLED (R113, R121). -/
theorem declareStall_of_control (hhold : s.cfg (TRK.base k) TRK.HOLD_CFG_HOLD ≠ 0) (hcontrol : s.dev.control = k)
    (hopen : s.dev.epochOpen) :
    (declareStall k s).dev.st = .stalled ∧ (declareStall k s).course = (s.updTrk k (Tracker.stall s.pt)).course := by
  obtain ⟨v, hv⟩ : ∃ v : State, v = (s.bump (TRK.base k) TRK.MOTION_CNT_STALLS).wr (TRK.base k) TRK.STALL_ANGLE_ANGLE
      (presented s.trk[k]) := ⟨_, rfl⟩
  have hcfg : v.cfg (TRK.base k) TRK.HOLD_CFG_HOLD = s.cfg (TRK.base k) TRK.HOLD_CFG_HOLD :=
    Fronts.cfg_eq (by rw [hv, wr_fronts, bump_fronts]) rfl
  have hdev : v.dev = s.dev := by rw [hv, State.wr_dev, State.bump_dev]
  have htrk : v.trk = s.trk := by rw [hv, State.wr_trk, State.bump_trk]
  have hpt : v.pt = s.pt := by rw [hv, State.wr_pt, State.bump_pt]
  have hcourse : (v.updTrk k (Tracker.stall s.pt)).course = (s.updTrk k (Tracker.stall s.pt)).course :=
    course_of hdev (by rw [State.updTrk, State.updTrk, htrk])
  have hstep : declareStall k s = (((endActions (v.updTrk k (Tracker.stall v.pt))).updPlan
      (fun p => { p with revStamp := none, revPrev := none })).enter .stalled).raise 46 := by
    have hopen' : (v.updTrk k (Tracker.stall v.pt)).dev.control = k ∧ (v.updTrk k (Tracker.stall v.pt)).dev.epochOpen := by
      rw [State.updTrk_dev, hdev]
      exact ⟨hcontrol, hopen⟩
    unfold declareStall
    dsimp only
    rw [← hv]
    rw [if_neg (by rwa [hcfg])]
    exact if_pos hopen'
  rw [hstep, hpt]
  refine ⟨by rw [State.raise_dev, enter_st], ?_⟩
  rw [raise_course, enter_course, updPlan_course, endActions_course, hcourse]

theorem stallDue_sync (h : stallDue s k) : s.trk[k].acq = .sync := by
  simp only [stallDue, Bool.and_eq_true, beq_iff_eq] at h
  exact h.1.1.1

theorem stall_declared (hpt : s.ptStands = false) (hdue : stallDue s k) (hcrank : crankDue s k = none)
    (hother : s.trk[otherTrk k].acq ≠ .sync) (hhold : s.cfg (TRK.base k) TRK.HOLD_CFG_HOLD ≠ 0) (hcontrol : s.dev.control = k)
    (hopen : s.dev.epochOpen) :
    ∃ t, exec .stallDeclare s = .next t ∧ t.dev.st = .stalled ∧ t.trk[k].stalled ∧ t.trk[k].stallPt = s.pt ∧
      t.dev.epochOpen ∧ t.dev.epoch = s.dev.epoch := by
  obtain ⟨hst, hcourse⟩ := declareStall_of_control hhold hcontrol hopen
  have hne := otherTrk_ne k
  have hout (u : State) (hu : u.trk[otherTrk k].acq ≠ .sync) :
      (if stallDue u (otherTrk k) ∧ (crankDue u (otherTrk k)).isNone then declareStall (otherTrk k) u else u) = u :=
    if_neg fun h => hu (stallDue_sync h.1)
  have hstep : stallDeclareStep s = declareStall k s := by
    unfold stallDeclareStep
    rw [hpt, if_neg Bool.false_ne_true, foldS_one_tracker (k := k) hout hother ?_]
    · exact if_pos ⟨hdue, by rw [hcrank]; rfl⟩
    · rw [if_pos ⟨hdue, by rw [hcrank]; rfl⟩, Course.acq_eq hcourse, State.updTrk_ne _ hne]
      exact hother
  have htrk : (declareStall k s).trk[k].course = (s.trk[k].stall s.pt).course := by
    rw [Course.trk_eq hcourse, State.updTrk_self]
  refine ⟨_, congrArg Host.Outcome.next hstep, hst, ?_, ?_, ?_, ?_⟩
  · exact (congrArg (fun x : Tracker => x.stalled) htrk : _)
  · exact (congrArg Tracker.stallPt htrk : _)
  · rw [Course.epochOpen_eq hcourse]
    exact hopen
  · rw [Course.epoch_eq hcourse]
    rfl

/-- A hold that runs out takes a tracker that does not control out of SYNC to WAIT (R114). -/
theorem hold_expires (hpt : s.ptStands = false) (hsync : s.trk[k].acq = .sync) (hstalled : s.trk[k].stalled)
    (hcrank : crankDue s k = none)
    (hhold : 400000 * s.cfg (TRK.base k) TRK.HOLD_CFG_HOLD ≤ s.pt - s.trk[k].stallPt) (hother : s.trk[otherTrk k].acq ≠ .sync)
    (hcontrol : s.dev.control ≠ k) (hhand : s.dev.handing = false) :
    ∃ t, exec .stallHoldExpire s = .next t ∧ t.trk[k].acq = .wait ∧ t.trk[k].stalled = false ∧ t.dev = s.dev := by
  have hleft : LeftSync k 6 .wait s (loseHold k s) := loseSyncTo_left .wait 6 hsync (Or.inl hcontrol) hhand
  have hne := otherTrk_ne k
  have hdue : s.trk[k].acq = .sync ∧ s.trk[k].stalled ∧ (crankDue s k).isNone ∧
      400000 * s.cfg (TRK.base k) TRK.HOLD_CFG_HOLD ≤ s.pt - s.trk[k].stallPt := ⟨hsync, hstalled, by rw [hcrank]; rfl, hhold⟩
  have hstep : holdExpireStep s = loseHold k s := by
    unfold holdExpireStep
    rw [hpt, if_neg Bool.false_ne_true, foldS_one_tracker (k := k) (fun u hu => if_neg fun h => hu h.1) hother ?_]
    · exact if_pos hdue
    · dsimp only
      rw [if_pos hdue, hleft.others _ hne]
      exact hother
  refine ⟨_, congrArg Host.Outcome.next hstep, ?_, ?_, hleft.dev⟩
  · rw [hleft.trk, Tracker.leave_acq]
  · rw [hleft.trk, Tracker.leave_stalled]

end
end Sys2Proof.Machine

namespace Sys2Proof.Machine

/-! ## The class of a pulse (R43) -/

section
variable {s t : State} {w : Fin 4}

/-- A bit of IFAULT that sets changes IFAULT and EVT_RAW alone. -/
theorem setIfault_reg (k : Fin 2) (n : Nat) (s : State) {a : Nat} (he : a % 0x1000 ≠ 0x10) (ha : a ≠ TRK.base k + 0x104) :
    (setIfault k n s).reg a = s.reg a := by
  have hnote : (notePtFailed k n s).reg a = s.reg a := by
    unfold notePtFailed
    split <;> rfl
  have hspoil (c : Bool) (u : State) : (if c = true then u.updTrk k Tracker.spoil else u).reg a = u.reg a := by
    split <;> rfl
  unfold setIfault
  dsimp only
  split
  · exact hnote
  · rw [reg_raiseIf_ne _ _ _ he, hspoil, reg_setReg_ne _ _ ha, hnote]

/-- A wheel's fault changes the wheel's FAULT, the trackers' IFAULT and EVT_RAW alone. -/
theorem wheelFault_reg (w : Fin 4) (f : Fld) (s : State) {a : Nat} (he : a % 0x1000 ≠ 0x10) (hf : a ≠ WHN.base w + f.off)
    (ha : ∀ k : Fin 2, a ≠ TRK.base k + 0x104) : (wheelFault w f s).reg a = s.reg a := by
  have hset : (s.setFault (WHN.base w) f (16 + 4 * w.val)).reg a = s.reg a := by
    unfold State.setFault
    split
    · rfl
    · rw [reg_raise_ne _ _ he, reg_wr_ne _ _ _ hf]
  unfold wheelFault
  dsimp only
  rw [foldS_keeps (v := fun u => u.reg a) (fun k u => by
    split
    · exact setIfault_reg k 5 u he (ha k)
    · rfl), hset]

/-- A class is 1, 2 or 3. -/
theorem dirClass_lt (s : State) (w : Fin 4) (width : Nat) : dirClass s w width < 4 := by
  unfold dirClass
  dsimp only
  split
  · decide
  · split <;> decide

theorem dirClassRegs_fronts (w : Fin 4) (width cls : Nat) (s : State) : (dirClassRegs w width cls s).fronts = s.fronts := by
  unfold dirClassRegs
  simp only [apply_ite State.fronts, wheelFault_fronts, raiseIf_fronts, wr_fronts, ite_self]

theorem dirClassRegs_dclass (w : Fin 4) (width : Nat) {cls : Nat} (h : cls < 4) (s : State) :
    (dirClassRegs w width cls s).rd (WHN.base w) WHN.CLASS_DCLASS = cls := by
  obtain ⟨u, hu⟩ : ∃ u : State, u = ((s.wr (WHN.base w) WHN.HIGH_TICKS (sat (2 ^ 32 - 1) width)).wr (WHN.base w)
      WHN.CLASS_DCLASS cls).raiseIf (decide (s.rd (WHN.base w) WHN.CLASS_DCLASS ≠ 0) &&
        decide (s.rd (WHN.base w) WHN.CLASS_DCLASS ≠ cls)) (19 + 4 * w.val) := ⟨_, rfl⟩
  have haddr : (WHN.base w + 0x28) % 0x1000 ≠ 0x10 ∧ WHN.base w + 0x28 ≠ WHN.base w + 0x34 ∧
      ∀ k : Fin 2, WHN.base w + 0x28 ≠ TRK.base k + 0x104 := by
    unfold WHN.base TRK.base
    refine ⟨by omega, by omega, fun k => by omega⟩
  have hsize : WHN.CLASS_DCLASS.size = 4 := by decide
  have hclass : u.rd (WHN.base w) WHN.CLASS_DCLASS = cls := by
    rw [hu]
    refine (congrArg WHN.CLASS_DCLASS.of (reg_raiseIf_ne _ _ _ haddr.1)).trans ?_
    refine (rd_wr_self _ _ WHN.CLASS_DCLASS _ rfl).trans ?_
    rw [hsize, Nat.mod_eq_of_lt h]
  unfold dirClassRegs
  dsimp only
  rw [← hu]
  split
  · exact (congrArg WHN.CLASS_DCLASS.of (wheelFault_reg w WHN.FAULT_DIAG u haddr.1 haddr.2.1 haddr.2.2)).trans hclass
  · exact hclass

/-- Whether a tracker uses a wheel as its crank wheel depends on the acting registers alone. -/
theorem cranksOn_congr (h : t.act = s.act) (k : Fin 2) (w : Fin 4) : cranksOn t k w = cranksOn s k w := by
  have hcfg {b : Nat} {f : Fld} (hf : f.acc = .rws) : t.cfg b f = s.cfg b f := by
    rw [State.cfg, State.cfg, if_pos hf, if_pos hf, State.actReg, State.actReg, h]
  rw [cranksOn, cranksOn, following, following, State.on, State.on, hcfg rfl, hcfg rfl, hcfg rfl]

/-- The end of a pulse classes its width, and uses its leading edge up (R43). -/
theorem dirPulse_classed {lead : Nat} (hlive : frontEndLive s) (hsensor : sensorOf s w = 3)
    (hlevel : s.wheels[w].level ≠ toothLevel s w) (htaken : s.wheels[w].taken = false) (hpulse : s.wheels[w].pulse = some lead)
    (hfrozen : s.sys.frozen = false) (h0 : cranksOn s 0 w = false) (h1 : cranksOn s 1 w = false) :
    ∃ t, exec (.dirPulseClass w) s = .next t ∧ t.wheels[w].taken ∧ t.wheels[w].pulse = none ∧
      t.rd (WHN.base w) WHN.CLASS_DCLASS = dirClass s w (s.wheels[w].levelStamp - lead) ∧
      (∀ v, v ≠ w → t.wheels[v] = s.wheels[v]) := by
  have hcranks (k : Fin 2) : cranksOn s k w = false := by
    match k with
    | 0 => exact h0
    | 1 => exact h1
  obtain ⟨u, hu⟩ : ∃ u, u = s.updWheel w (fun x => { x with taken := true, pulse := none }) := ⟨_, rfl⟩
  obtain ⟨x, hx⟩ : ∃ x, x = dirClassRegs w (s.wheels[w].levelStamp - lead) (dirClass u w (s.wheels[w].levelStamp - lead)) u :=
    ⟨_, rfl⟩
  have hfronts : x.fronts = u.fronts := by rw [hx, dirClassRegs_fronts]
  have huse (v : State) (hv : v.act = s.act) (l : List (Fin 2)) (f : Fin 2 → State → State) :
      foldS l (fun k v => if cranksOn v k w then f k v else v) v = v := by
    induction l with
    | nil => rfl
    | cons k l ih =>
      have hk : cranksOn v k w = false := by rw [cranksOn_congr hv, hcranks]
      show foldS l _ (if cranksOn v k w then f k v else v) = v
      rw [hk, if_neg Bool.false_ne_true, ih]
  have hclass (n : Nat) : dirClass u w n = dirClass s w n := by
    have hcfg : u.wheels[w].pulseCfg = s.wheels[w].pulseCfg := by rw [hu, State.updWheel_self]
    rw [dirClass, dirClass, hcfg]
  have hstep : dirClassStep w s = x := by
    have hwaits : ([(0 : Fin 2), 1].any fun k =>
        cranksOn s k w && s.trk[k].edges.any (fun e => e.wheel == w.val && e.stamp == lead)) = false := by
      simp [hcranks]
    unfold dirClassStep
    dsimp only
    rw [hpulse]
    dsimp only
    rw [hwaits, if_neg (fun hn => hn.elim (fun h => h ⟨hlive, hsensor, hlevel, htaken⟩) Bool.false_ne_true), ← hu,
      if_neg (by simp [hu, hfrozen]), ← hx]
    exact huse x ((Fronts.act_eq hfronts).trans (by rw [hu, State.updWheel_act])) _ _
  have hw : x.wheels = u.wheels := Fronts.wheels_eq hfronts
  refine ⟨x, congrArg Host.Outcome.next hstep, ?_, ?_, ?_, fun v hv => ?_⟩
  · rw [hw, hu, State.updWheel_self]
  · rw [hw, hu, State.updWheel_self]
  · rw [hx, dirClassRegs_dclass w _ (dirClass_lt u w _), hclass]
  · rw [hw, hu, State.updWheel_ne s hv]

end

/-- Settles O23: a declaration ends the actions and stands; an expiry leaves SYNC; a pulse's end writes its class. -/
theorem stallsHoldsAndPulseClasses : Obligations.StallsHoldsAndPulseClasses :=
  ⟨fun _ _ hpt hdue hcrank hother hhold hcontrol hopen => stall_declared hpt hdue hcrank hother hhold hcontrol hopen,
    fun _ _ hpt hsync hstalled hcrank hhold hother hcontrol hhand =>
      hold_expires hpt hsync hstalled hcrank hhold hother hcontrol hhand,
    fun _ _ _ hlive hsensor hlevel htaken hpulse hfrozen h0 h1 =>
      dirPulse_classed hlive hsensor hlevel htaken hpulse hfrozen h0 h1⟩

end Sys2Proof.Machine

namespace Sys2Proof.Machine

/-! ## The chart of a tracker

What the arithmetic of a tracker reads beside the tracker's own position: the acting registers, the pattern tables, the
plan's wheel records, and the tracker's direction, signature and factors. -/

/-- What a tracker's patterns, pitches and angles are read from. -/
structure Chart where
  act : List (Nat × Word)
  ptab : List (Nat × Nat)
  wheels : List WheelRec
  astern : Bool
  sigAct : List (Nat × Int)
  qAct : List (Nat × Nat)

def State.chart (s : State) (k : Fin 2) : Chart :=
  ⟨s.act, s.ptab, s.plan.wheels, s.trk[k].astern, s.trk[k].sigAct, s.trk[k].qAct⟩

section
variable {s t : State} {k : Fin 2}

/-- A field that acts with its committed value follows the acting registers (R12). -/
theorem cfg_of_act (h : t.act = s.act) {b : Nat} {f : Fld} (hf : f.acc = .rws) : t.cfg b f = s.cfg b f := by
  rw [State.cfg, State.cfg, if_pos hf, if_pos hf, State.actReg, State.actReg, h]

/-- A change that leaves the units a chart is read from, and of the tracker its direction, signature and factors. -/
theorem chart_of (hact : t.act = s.act) (hptab : t.ptab = s.ptab) (hplan : t.plan = s.plan)
    (hastern : t.trk[k].astern = s.trk[k].astern) (hsig : t.trk[k].sigAct = s.trk[k].sigAct)
    (hq : t.trk[k].qAct = s.trk[k].qAct) : t.chart k = s.chart k := by
  rw [State.chart, State.chart, hact, hptab, hplan, hastern, hsig, hq]

section
variable (h : t.chart k = s.chart k)
include h

theorem Chart.act_eq : t.act = s.act := congrArg Chart.act h
theorem Chart.ptab_eq : t.ptab = s.ptab := congrArg Chart.ptab h
theorem Chart.wheels_eq : t.plan.wheels = s.plan.wheels := congrArg Chart.wheels h
theorem Chart.astern_eq : t.trk[k].astern = s.trk[k].astern := congrArg Chart.astern h
theorem Chart.sigAct_eq : t.trk[k].sigAct = s.trk[k].sigAct := congrArg Chart.sigAct h
theorem Chart.qAct_eq : t.trk[k].qAct = s.trk[k].qAct := congrArg Chart.qAct h

theorem Chart.cfg_eq {b : Nat} {f : Fld} (hf : f.acc = .rws) : t.cfg b f = s.cfg b f := cfg_of_act (Chart.act_eq h) hf
theorem Chart.on_eq {b : Nat} {f : Fld} (hf : f.acc = .rws) : t.on b f = s.on b f := by
  rw [State.on, State.on, Chart.cfg_eq h hf]
theorem Chart.pat_eq (w i : Nat) : t.pat w i = s.pat w i := by rw [State.pat, State.pat, Chart.ptab_eq h]

theorem Chart.teeth_eq : teeth t k = teeth s k := Chart.cfg_eq h rfl
theorem Chart.crankWheel_eq : crankWheel t k = crankWheel s k := Chart.cfg_eq h rfl
theorem Chart.cyc720_eq : cyc720 t k = cyc720 s k := Chart.on_eq h rfl
theorem Chart.following_eq : following t = following s := Chart.on_eq h rfl
theorem Chart.sensorOf_eq (w : Nat) : sensorOf t w = sensorOf s w := Chart.cfg_eq h rfl
theorem Chart.cycleLen_eq : cycleLen t k = cycleLen s k := by rw [cycleLen, cycleLen, Chart.cyc720_eq h]
theorem Chart.camWheel_eq : camWheel t k = camWheel s k := by
  rw [camWheel, camWheel, Chart.on_eq h rfl, Chart.cfg_eq h rfl]
theorem Chart.crankEnt_eq (i : Nat) : crankEnt t k i = crankEnt s k i := by
  rw [crankEnt, crankEnt, Chart.crankWheel_eq h, Chart.pat_eq h]
theorem Chart.widthCoded_eq : widthCoded t k = widthCoded s k := by rw [widthCoded, widthCoded, Chart.crankEnt_eq h]
theorem Chart.classMatches_eq (c : Option Nat) (i : Nat) : classMatches t k c i = classMatches s k c i := by
  rw [classMatches, classMatches, Chart.widthCoded_eq h, Chart.crankEnt_eq h]

/-! ### Nominal pitches and ratios (R52, R54, R55) -/

theorem Chart.nomPitch_eq (i : Nat) : nomPitch t k i = nomPitch s k i := by
  simp only [nomPitch, Chart.astern_eq h, Chart.teeth_eq h, Chart.crankEnt_eq h]
theorem Chart.isFeature_eq (i : Nat) : isFeature t k i = isFeature s k i := by
  simp only [isFeature, Chart.nomPitch_eq h, Chart.astern_eq h, Chart.teeth_eq h, Chart.widthCoded_eq h]
theorem Chart.rExp_eq (i : Nat) : rExp t k i = rExp s k i := by
  simp only [rExp, Chart.nomPitch_eq h, Chart.astern_eq h, Chart.teeth_eq h]
theorem Chart.allRatios_eq : allRatios t k = allRatios s k := by
  rw [allRatios, allRatios, Chart.teeth_eq h, funext (Chart.rExp_eq h)]
theorem Chart.ratioMatches_eq (tj prev p : Nat) : ratioMatches t k tj prev p = ratioMatches s k tj prev p := by
  simp only [ratioMatches, Chart.rExp_eq h, Chart.cfg_eq h (f := TRK.ACQ_FEAT_TOL) rfl]
theorem Chart.stepCands_eq (tj prev : Nat) (c : Option Nat) (l : List Cand) :
    stepCands t k tj prev c l = stepCands s k tj prev c l := by
  simp only [stepCands, Chart.ratioMatches_eq h, Chart.classMatches_eq h, Chart.isFeature_eq h, Chart.astern_eq h,
    Chart.teeth_eq h]
theorem Chart.backIdx_eq (p n : Nat) : backIdx t k p n = backIdx s k p n := by
  simp only [backIdx, Chart.astern_eq h, Chart.teeth_eq h]
theorem Chart.sequenceMatches_eq (hc : t.trk[k].classes = s.trk[k].classes) (p : Nat) :
    sequenceMatches t k p = sequenceMatches s k p := by
  simp only [sequenceMatches, Chart.cfg_eq h (f := TRK.ACQ_SEQLEN) rfl, Chart.crankEnt_eq h, Chart.backIdx_eq h, hc]
theorem Chart.acqSpurious_eq (hp : t.trk[k].period = s.trk[k].period) (tj : Nat) : acqSpurious t k tj = acqSpurious s k tj := by
  simp only [acqSpurious, Chart.allRatios_eq h, Chart.cfg_eq h (f := TRK.PLAUS_LO) rfl, hp]
theorem Chart.acqImplausible_eq (hp : t.trk[k].period = s.trk[k].period) (tj : Nat) :
    acqImplausible t k tj = acqImplausible s k tj := by
  simp only [acqImplausible, Chart.allRatios_eq h, Chart.cfg_eq h (f := TRK.PLAUS_HI) rfl, hp]

/-! ### True angles, pitches and the load of the accumulator (R72 to R79) -/

theorem Chart.trueRev_eq (i : Nat) : trueRev t k i = trueRev s k i := by
  simp only [trueRev, sigOf, sigLearned, Chart.crankEnt_eq h, Chart.astern_eq h, Chart.following_eq h, Chart.sigAct_eq h]
theorem Chart.trueAngle_eq (i : Nat) (b : Bool) : trueAngle t k i b = trueAngle s k i b := by
  simp only [trueAngle, Chart.trueRev_eq h, Chart.cyc720_eq h]
theorem Chart.pitch_eq (i : Nat) : pitch t k i = pitch s k i := by
  simp only [pitch, Chart.trueRev_eq h, Chart.astern_eq h, Chart.teeth_eq h]
theorem Chart.predict_eq (j n : Nat) (hn : Bool) (tj : Nat) : predict t k j n hn tj = predict s k j n hn tj := by
  simp only [predict, shadowQ, cyclePos, Chart.pitch_eq h, Chart.cyc720_eq h, Chart.teeth_eq h, Chart.qAct_eq h,
    Chart.cfg_eq h (f := TRK.SHADOW_CFG_N) rfl]
theorem Chart.loadFrom_acc (j : Nat) (b : Bool) (stamp tj u : Nat) :
    (loadFrom t k j b stamp tj u).acc = (loadFrom s k j b stamp tj u).acc := by
  simp only [loadFrom, Chart.predict_eq h, Chart.pitch_eq h, Chart.trueAngle_eq h, Chart.cycleLen_eq h, Chart.astern_eq h,
    Chart.teeth_eq h]

/-- What R99 makes of an edge rests on the chart and on the last accepted edge. -/
theorem Chart.edgeClass_eq (hpos : t.trk[k].pos = s.trk[k].pos) (hlast : t.trk[k].lastStamp = s.trk[k].lastStamp)
    (hpred : t.trk[k].tpred = s.trk[k].tpred) (hverify : t.trk[k].verify = s.trk[k].verify) (e : EdgeIn) :
    edgeClass t k e = edgeClass s k e := by
  simp only [edgeClass, Chart.astern_eq h, Chart.teeth_eq h, Chart.classMatches_eq h, Chart.isFeature_eq h,
    Chart.cfg_eq h (f := TRK.MOTION_CFG_SYNC_TOL) rfl, Chart.cfg_eq h (f := TRK.MOTION_CFG_GAP_LIM) rfl,
    Chart.cfg_eq h (f := TRK.PLAUS_LO) rfl, Chart.cfg_eq h (f := TRK.PLAUS_HI) rfl, hpos, hlast, hpred, hverify]

/-! ### Cam edges (R58, R66) -/

theorem Chart.camEntries_eq (w : Nat) : camEntries t k w = camEntries s k w := by
  have hpat : t.pat w = s.pat w := funext (Chart.pat_eq h w)
  simp only [camEntries, Chart.camWheel_eq h, Chart.cfg_eq h (f := TRK.CFG_CAMFEAT) rfl, Chart.wheels_eq h, hpat]
theorem Chart.camMatches_eq (w : Nat) (c : Option Nat) (a : Nat) : camMatches t k w c a = camMatches s k w c a := by
  simp only [camMatches, Chart.camEntries_eq h, Chart.cfg_eq h (f := TRK.ACQ_CAM_WIN) rfl, Chart.cycleLen_eq h,
    Chart.astern_eq h]
theorem Chart.camTheta_eq (hstamps : t.trk[k].stamps = s.trk[k].stamps) (hperiod : t.trk[k].period = s.trk[k].period)
    (p stamp : Nat) : camTheta t k p stamp = camTheta s k p stamp := by
  simp only [camTheta, Chart.backIdx_eq h, Chart.astern_eq h, Chart.teeth_eq h, Chart.pitch_eq h, Chart.trueRev_eq h,
    hstamps, hperiod]
theorem Chart.hypotheses_eq (hstamps : t.trk[k].stamps = s.trk[k].stamps) (hperiod : t.trk[k].period = s.trk[k].period)
    (hcands : t.trk[k].cands = s.trk[k].cands) (e : EdgeIn) : hypotheses t k e = hypotheses s k e := by
  simp only [hypotheses, Chart.camTheta_eq h hstamps hperiod, Chart.camMatches_eq h, Chart.backIdx_eq h, Chart.astern_eq h,
    Chart.teeth_eq h, hcands]

end
end
end Sys2Proof.Machine

namespace Sys2Proof.Machine

/-! ## A crank edge outside SYNC (R54 to R56) -/

section
variable {k : Fin 2} {e : EdgeIn} {s t u : State}

/-! ### An edge is taken -/

/-- An edge has been taken from its way, and events of the timers' table may have been sent. -/
structure Taken (k : Fin 2) (e : EdgeIn) (s u : State) : Prop where
  trk : u.trk[k] = { s.trk[k] with edges := s.trk[k].edges.erase e }
  others : ∀ j, j ≠ k → u.trk[j] = s.trk[j]
  rest : ∃ trigs, u = { s with trk := u.trk, trigs := trigs }

section
variable (h : Taken k e s u)
include h

theorem Taken.dev : u.dev = s.dev := by obtain ⟨_, hu⟩ := h.rest; rw [hu]
theorem Taken.pt : u.pt = s.pt := by obtain ⟨_, hu⟩ := h.rest; rw [hu]
theorem Taken.tick : u.tick = s.tick := by obtain ⟨_, hu⟩ := h.rest; rw [hu]
theorem Taken.committed : u.committed = s.committed := by obtain ⟨_, hu⟩ := h.rest; rw [hu]
theorem Taken.plan : u.plan = s.plan := by obtain ⟨_, hu⟩ := h.rest; rw [hu]
theorem Taken.act : u.act = s.act := by obtain ⟨_, hu⟩ := h.rest; rw [hu]
theorem Taken.ptab : u.ptab = s.ptab := by obtain ⟨_, hu⟩ := h.rest; rw [hu]
theorem Taken.regs : u.regs = s.regs := by obtain ⟨_, hu⟩ := h.rest; rw [hu]
theorem Taken.reg (a : Nat) : u.reg a = s.reg a := by rw [State.reg, State.reg, h.regs]
theorem Taken.rd (b : Nat) (f : Fld) : u.rd b f = s.rd b f := by rw [State.rd, State.rd, h.reg]
theorem Taken.chart : u.chart k = s.chart k :=
  chart_of h.act h.ptab h.plan (by rw [h.trk]) (by rw [h.trk]) (by rw [h.trk])
theorem Taken.cfg (b : Nat) {f : Fld} (hf : f.acc = .rws) : u.cfg b f = s.cfg b f := Chart.cfg_eq h.chart hf

end

theorem taken_erase (k : Fin 2) (e : EdgeIn) (s : State) :
    Taken k e s (s.updTrk k fun x => { x with edges := x.edges.erase e }) where
  trk := State.updTrk_self ..
  others _ hj := State.updTrk_ne s hj _
  rest := ⟨s.trigs, rfl⟩

/-- A state function that commutes with every step of a list commutes with the list. -/
theorem foldS_commutes {α : Type} {f : α → State → State} {g : State → State} (hf : ∀ x s, f x (g s) = g (f x s)) (l : List α)
    (s : State) : foldS l f (g s) = g (foldS l f s) := by
  unfold foldS
  induction l generalizing s with
  | nil => rfl
  | cons x l ih => rw [List.foldl_cons, List.foldl_cons, hf, ih]

/-- An event of the timers reaches them alike wherever the trackers stand. -/
theorem fire_with_trk (s : State) (trk : Vector Tracker 2) (code : Nat) :
    ({ s with trk := trk } : State).fire code = { s.fire code with trk := trk } := by
  have hsend (c : Prop) [Decidable c] (m : Nat) (u : State) : (if c then ({ u with trk := trk } : State).sendTrig m 1
      else { u with trk := trk }) = { (if c then u.sendTrig m 1 else u) with trk := trk } := by
    split <;> rfl
  have hcfg (u : State) (b : Nat) (f : Fld) : ({ u with trk := trk } : State).cfg b f = u.cfg b f := rfl
  refine foldS_commutes (g := fun u => { u with trk := trk }) (fun n u => ?_) _ s
  dsimp only
  simp only [hcfg, hsend]

/-- The oldest crank edge due is taken, sends event 0x50 from the controlling tracker (R325), and goes to acquisition or to
the judgement of SYNC. -/
theorem crankEdge_taken (hdue : crankDue s k = some e) (hstands : s.ptStands = false) (hoff : s.trk[k].acq ≠ .off) :
    ∃ u, Taken k e s u ∧ u = { (if s.dev.control = k then s.fire 0x50 else s) with trk := u.trk } ∧
      exec (.trackerCrankEdge k) s = .next (if s.trk[k].acq = .sync then syncEdge k e u else acqEdge k e u) := by
  obtain ⟨v, hv⟩ : ∃ v, v = s.updTrk k (fun x => { x with edges := x.edges.erase e }) := ⟨_, rfl⟩
  obtain ⟨u, hu⟩ : ∃ u, u = if v.dev.control = k then v.fire 0x50 else v := ⟨_, rfl⟩
  have hacq : v.trk[k].acq = s.trk[k].acq := by rw [hv, State.updTrk_self]
  have htaken : Taken k e s v := hv ▸ taken_erase k e s
  have hfire (w : State) : (w.fire 0x50).trk = w.trk := by rw [State.fire, fireIn_only_trigs]
  have hutrk : u.trk = v.trk := by rw [hu, apply_ite State.trk, hfire, ite_self]
  have hsend : v.fire 0x50 = { s.fire 0x50 with trk := v.trk } := by
    rw [hv]
    exact fire_with_trk s _ _
  have hevent : u = { (if s.dev.control = k then s.fire 0x50 else s) with trk := u.trk } := by
    rw [hutrk, hu, htaken.dev]
    split
    · exact hsend
    · rw [hv]; rfl
  refine ⟨u, ⟨by rw [hutrk, htaken.trk], fun j hj => by rw [hutrk, htaken.others j hj], ?_⟩, hevent, ?_⟩
  · rw [hevent]
    split
    · exact ⟨_, by rw [State.fire, fireIn_only_trigs]⟩
    · exact ⟨s.trigs, rfl⟩
  · refine congrArg Host.Outcome.next ?_
    unfold crankEdgeStep
    rw [hdue]
    dsimp only
    rw [hstands, if_neg Bool.false_ne_true, ← hv, hacq]
    rw [if_congr (and_iff_right hoff) rfl rfl, ← hu, hutrk, hacq]
    cases h : s.trk[k].acq with
    | off => exact absurd h hoff
    | sync => rfl
    | _ => rfl

/-- A crank edge that reaches a tracker outside SYNC goes to acquisition. -/
theorem crankEdge_acquires (hdue : crankDue s k = some e) (hstands : s.ptStands = false) (hoff : s.trk[k].acq ≠ .off)
    (hsync : s.trk[k].acq ≠ .sync) : ∃ u, Taken k e s u ∧ exec (.trackerCrankEdge k) s = .next (acqEdge k e u) := by
  obtain ⟨u, hu, -, hstep⟩ := crankEdge_taken hdue hstands hoff
  exact ⟨u, hu, by rw [hstep, if_neg hsync]⟩

/-! ### Restarts and spurious edges (R54, R56) -/

/-- Acquisition has gone back to STEADY, counted; what the tracker has noted of its last edge stays. -/
structure Restarted (k : Fin 2) (s t : State) : Prop where
  acq : t.trk[k].acq = .steady
  run : t.trk[k].run = 0
  spurRun : t.trk[k].spurRun = 0
  lastStamp : t.trk[k].lastStamp = s.trk[k].lastStamp
  period : t.trk[k].period = s.trk[k].period
  restarts : t.rd (TRK.base k) TRK.SPUR_CNT_ACQ_RESTART =
    sat TRK.SPUR_CNT_ACQ_RESTART.top (s.rd (TRK.base k) TRK.SPUR_CNT_ACQ_RESTART + 1)
  spur : t.rd (TRK.base k) TRK.SPUR_CNT_SPUR = s.rd (TRK.base k) TRK.SPUR_CNT_SPUR
  sent : ∀ n, s.sent n = true → t.sent n = true
  tick : t.tick = s.tick

theorem sent_bump (s : State) (b : Nat) (f : Fld) (n : Nat) : (s.bump b f).sent n = s.sent n := rfl
theorem sent_updTrk (s : State) (k : Fin 2) (f : Tracker → Tracker) (n : Nat) : (s.updTrk k f).sent n = s.sent n := rfl

theorem acqRestart_restarted (k : Fin 2) (s : State) : Restarted k s (acqRestart k s) := by
  have htrk : (acqRestart k s).trk[k] = s.trk[k].restart .steady := by
    rw [acqRestart, State.updTrk_self, State.raise_trk, State.bump_trk]
  exact {
    acq := by rw [htrk]; rfl
    run := by rw [htrk]; rfl
    spurRun := by rw [htrk]; rfl
    lastStamp := by rw [htrk]; rfl
    period := by rw [htrk]; rfl
    restarts := by rw [acqRestart, rd_updTrk, rd_raise_trk _ _ _ (by decide), rd_bump_self _ _ _ (by decide)]
    spur := by
      rw [acqRestart, rd_updTrk, rd_raise_trk _ _ _ (by decide)]
      exact rd_wr_disj s _ _ _ (by decide) (by decide) (by decide)
    sent := fun n hn => by
      rw [acqRestart, sent_updTrk]
      exact sent_raise _ (by rw [sent_bump]; exact hn)
    tick := by rw [acqRestart, State.updTrk_tick, State.raise_tick, State.bump_tick] }

/-- A spurious edge as it is counted, before the eighth in a row acts. -/
def spurCounted (k : Fin 2) (s : State) : State :=
  ((s.bump (TRK.base k) TRK.SPUR_CNT_SPUR).raise (33 + 8 * k.val)).updTrk k (fun x => { x.spoil with spurRun := x.spurRun + 1 })

theorem spurCounted_trk (k : Fin 2) (s : State) :
    (spurCounted k s).trk[k] = { s.trk[k].spoil with spurRun := s.trk[k].spurRun + 1 } := by
  rw [spurCounted, State.updTrk_self, State.raise_trk, State.bump_trk]

theorem spurCounted_dev (k : Fin 2) (s : State) : (spurCounted k s).dev = s.dev := by
  rw [spurCounted, State.updTrk_dev, State.raise_dev, State.bump_dev]

theorem spurCounted_spur (k : Fin 2) (s : State) : (spurCounted k s).rd (TRK.base k) TRK.SPUR_CNT_SPUR =
    sat TRK.SPUR_CNT_SPUR.top (s.rd (TRK.base k) TRK.SPUR_CNT_SPUR + 1) := by
  rw [spurCounted, rd_updTrk, rd_raise_trk _ _ _ (by decide), rd_bump_self _ _ _ (by decide)]

theorem spurCounted_restarts (k : Fin 2) (s : State) : (spurCounted k s).rd (TRK.base k) TRK.SPUR_CNT_ACQ_RESTART =
    s.rd (TRK.base k) TRK.SPUR_CNT_ACQ_RESTART := by
  rw [spurCounted, rd_updTrk, rd_raise_trk _ _ _ (by decide)]
  exact rd_wr_disj s _ _ _ (by decide) (by decide) (by decide)

theorem spurCounted_sent (k : Fin 2) (s : State) : (spurCounted k s).sent (33 + 8 * k.val) = true := by
  rw [spurCounted, sent_updTrk, sent_raise_self]

theorem spurCounted_tick (k : Fin 2) (s : State) : (spurCounted k s).tick = s.tick := by
  rw [spurCounted, State.updTrk_tick, State.raise_tick, State.bump_tick]

/-- Up to the eighth in a row, a spurious edge is counted and nothing more. -/
theorem spuriousEdge_of_lt (eighth : State → State) (h : s.trk[k].spurRun < 7) : spuriousEdge k eighth s = spurCounted k s := by
  have hrun : ¬ 8 ≤ (spurCounted k s).trk[k].spurRun := by
    rw [spurCounted_trk]
    exact Nat.not_le.2 (Nat.succ_lt_succ h)
  exact if_neg hrun

/-- The eighth spurious edge in a row acts, and the run starts again. -/
theorem spuriousEdge_of_le (eighth : State → State) (h : 7 ≤ s.trk[k].spurRun) :
    spuriousEdge k eighth s = eighth ((spurCounted k s).updTrk k fun x => { x with spurRun := 0 }) := by
  have hrun : 8 ≤ (spurCounted k s).trk[k].spurRun := by
    rw [spurCounted_trk]
    exact Nat.succ_le_succ h
  exact if_pos hrun

/-! ### The rows of acquisition (R54, R56) -/

/-- An accepted edge has been noted. -/
def noted (k : Fin 2) (e : EdgeIn) (s : State) : State := s.updTrk k fun x => x.note (teeth s k) e

theorem noted_trk (k : Fin 2) (e : EdgeIn) (s : State) : (noted k e s).trk[k] = s.trk[k].note (teeth s k) e := State.updTrk_self ..

theorem noted_rd (k : Fin 2) (e : EdgeIn) (s : State) (b : Nat) (f : Fld) : (noted k e s).rd b f = s.rd b f := rd_updTrk ..

theorem noted_chart (k : Fin 2) (e : EdgeIn) (s : State) : (noted k e s).chart k = s.chart k :=
  chart_of rfl rfl rfl (by rw [noted_trk]; rfl) (by rw [noted_trk]; rfl) (by rw [noted_trk]; rfl)

theorem acqEdge_of_first (h : s.trk[k].nEdges = 0) : acqEdge k e s = s.updTrk k fun x => x.first e.stamp := if_pos h

theorem acqEdge_of_second (h : s.trk[k].nEdges = 1) : acqEdge k e s = noted k e s :=
  (if_neg (by rw [h]; exact one_ne_zero)).trans (if_pos h)

/-- The row of R56 an accepted, plausible edge meets, from the tracker as it was before the edge was noted. -/
def plausibleEdge (k : Fin 2) (e : EdgeIn) (x : Tracker) (s : State) : State :=
  match x.acq with
  | .steady => s.updTrk k fun y => { y with
      run := if steadyEdge (e.stamp - x.lastStamp) x.period then x.run + 1 else 0
      acq := if (if steadyEdge (e.stamp - x.lastStamp) x.period then x.run + 1 else 0) = s.cfg (TRK.base k) TRK.ACQ_N_STEADY
        then .search else .steady }
  | .search => searchEdge k (e.stamp - x.lastStamp) x.period s
  | .confirm => confirmEdge k (e.stamp - x.lastStamp) x.period e.wclass s
  | .phase => phaseEdge k (e.stamp - x.lastStamp) x.period e.wclass s
  | _ => s

section
variable {x : Tracker}

theorem plausibleEdge_of_steady (h : x.acq = .steady) : plausibleEdge k e x s = s.updTrk k fun y => { y with
    run := if steadyEdge (e.stamp - x.lastStamp) x.period then x.run + 1 else 0
    acq := if (if steadyEdge (e.stamp - x.lastStamp) x.period then x.run + 1 else 0) = s.cfg (TRK.base k) TRK.ACQ_N_STEADY
      then .search else .steady } := by
  rw [plausibleEdge, h]

theorem plausibleEdge_of_search (h : x.acq = .search) :
    plausibleEdge k e x s = searchEdge k (e.stamp - x.lastStamp) x.period s := by rw [plausibleEdge, h]

theorem plausibleEdge_of_confirm (h : x.acq = .confirm) :
    plausibleEdge k e x s = confirmEdge k (e.stamp - x.lastStamp) x.period e.wclass s := by rw [plausibleEdge, h]

theorem plausibleEdge_of_phase (h : x.acq = .phase) :
    plausibleEdge k e x s = phaseEdge k (e.stamp - x.lastStamp) x.period e.wclass s := by rw [plausibleEdge, h]

end

/-- From the third accepted edge on the ratios judge (R54). -/
theorem acqEdge_of_later (h : 2 ≤ s.trk[k].nEdges) : acqEdge k e s =
    if acqSpurious s k (e.stamp - s.trk[k].lastStamp) then spuriousEdge k (acqRestart k) s
    else if acqImplausible s k (e.stamp - s.trk[k].lastStamp) then acqRestart k (noted k e s)
    else plausibleEdge k e s.trk[k] (noted k e s) :=
  (if_neg (by omega)).trans (if_neg (by omega))

end
end Sys2Proof.Machine

namespace Sys2Proof.Machine

/-! ## The rows of acquisition (R54 to R57) -/

section
variable {k : Fin 2} {e : EdgeIn} {s t u v : State}

/-- A crank edge has been taken and noted as accepted. -/
structure Noted (k : Fin 2) (e : EdgeIn) (s v : State) : Prop where
  trk : v.trk[k] = { s.trk[k] with edges := s.trk[k].edges.erase e }.note (teeth s k) e
  chart : v.chart k = s.chart k
  rd : ∀ b f, v.rd b f = s.rd b f
  dev : v.dev = s.dev

theorem Taken.noted (h : Taken k e s u) : Noted k e s (noted k e u) where
  trk := by rw [noted_trk, h.trk, Chart.teeth_eq h.chart]
  chart := (noted_chart k e u).trans h.chart
  rd b f := (noted_rd k e u b f).trans (h.rd b f)
  dev := h.dev

section
variable (h : Noted k e s v)
include h

theorem Noted.lastStamp : v.trk[k].lastStamp = e.stamp := by rw [h.trk]; rfl
theorem Noted.acq : v.trk[k].acq = s.trk[k].acq := by rw [h.trk]; rfl
theorem Noted.run : v.trk[k].run = s.trk[k].run := by rw [h.trk]; rfl
theorem Noted.cands : v.trk[k].cands = s.trk[k].cands := by rw [h.trk]; rfl
theorem Noted.stateEdges : v.trk[k].stateEdges = s.trk[k].stateEdges := by rw [h.trk]; rfl
theorem Noted.tries : v.trk[k].tries = s.trk[k].tries := by rw [h.trk]; rfl
theorem Noted.lastCam : v.trk[k].lastCam = s.trk[k].lastCam := by rw [h.trk]; rfl
theorem Noted.cfg (b : Nat) {f : Fld} (hf : f.acc = .rws) : v.cfg b f = s.cfg b f := Chart.cfg_eq h.chart hf

end

/-- What a restart from a noted edge leaves (R56). -/
theorem Noted.restart (h : Noted k e s v) : (acqRestart k v).trk[k].acq = .steady ∧ (acqRestart k v).trk[k].run = 0 ∧
    (acqRestart k v).trk[k].lastStamp = e.stamp ∧ (acqRestart k v).rd (TRK.base k) TRK.SPUR_CNT_ACQ_RESTART =
      sat TRK.SPUR_CNT_ACQ_RESTART.top (s.rd (TRK.base k) TRK.SPUR_CNT_ACQ_RESTART + 1) := by
  have hr := acqRestart_restarted k v
  exact ⟨hr.acq, hr.run, by rw [hr.lastStamp, h.lastStamp], by rw [hr.restarts, h.rd]⟩

section
variable (hdue : crankDue s k = some e) (hstands : s.ptStands = false)
include hdue hstands

/-- The first crank edge after WAIT starts the period history (R54, R325). -/
theorem firstEdge_starts (hoff : s.trk[k].acq ≠ .off) (hsync : s.trk[k].acq ≠ .sync) (hn : s.trk[k].nEdges = 0) :
    ∃ t, exec (.trackerCrankEdge k) s = .next t ∧
      t.trk[k].acq = .steady ∧ t.trk[k].nEdges = 1 ∧ t.trk[k].lastStamp = e.stamp ∧ t.trk[k].stamps = [e.stamp] ∧
      t.trk[k].edges = s.trk[k].edges.erase e ∧ (∀ j, j ≠ k → t.trk[j] = s.trk[j]) ∧
      t = { (if s.dev.control = k then s.fire 0x50 else s) with trk := t.trk } := by
  obtain ⟨u, hu, hevent, hstep⟩ := crankEdge_taken hdue hstands hoff
  rw [if_neg hsync, acqEdge_of_first (by rw [hu.trk]; exact hn)] at hstep
  have htrk : (u.updTrk k fun x => x.first e.stamp).trk[k] =
      { s.trk[k] with edges := s.trk[k].edges.erase e }.first e.stamp := by rw [State.updTrk_self, hu.trk]
  refine ⟨_, hstep, by rw [htrk]; rfl, by rw [htrk]; rfl, by rw [htrk]; rfl, by rw [htrk]; rfl, by rw [htrk]; rfl,
    fun j hj => by rw [State.updTrk_ne u hj, hu.others j hj], ?_⟩
  have hset (w : State) : u = { w with trk := u.trk } → (u.updTrk k fun x => x.first e.stamp) =
      { w with trk := (u.updTrk k fun x => x.first e.stamp).trk } := fun h => by
    rw [h]
    rfl
  exact hset _ hevent

/-- The second ends a period, and forms no ratio (R54). -/
theorem secondEdge_ends_period (hoff : s.trk[k].acq ≠ .off) (hsync : s.trk[k].acq ≠ .sync) (hn : s.trk[k].nEdges = 1) :
    ∃ t, exec (.trackerCrankEdge k) s = .next t ∧ t.trk[k].nEdges = 2 ∧ t.trk[k].lastStamp = e.stamp ∧
      t.trk[k].period = e.stamp - s.trk[k].lastStamp ∧ t.trk[k].acq = s.trk[k].acq ∧ t.trk[k].run = s.trk[k].run ∧
      t.trk[k].spurRun = 0 := by
  obtain ⟨u, hu, hstep⟩ := crankEdge_acquires hdue hstands hoff hsync
  rw [acqEdge_of_second (by rw [hu.trk]; exact hn)] at hstep
  have h := hu.noted
  exact ⟨_, hstep, (congrArg Tracker.nEdges h.trk).trans (congrArg (fun n => min 3 (n + 1)) hn), h.lastStamp,
    by rw [h.trk]; rfl, h.acq, h.run, by rw [h.trk]; rfl⟩

/-- The judgement of an edge from the third on, with its ratio (R54). -/
theorem laterEdge_judged (hoff : s.trk[k].acq ≠ .off) (hsync : s.trk[k].acq ≠ .sync) (hn : 2 ≤ s.trk[k].nEdges) :
    ∃ u, Taken k e s u ∧ exec (.trackerCrankEdge k) s = .next (
      if acqSpurious s k (e.stamp - s.trk[k].lastStamp) then spuriousEdge k (acqRestart k) u
      else if acqImplausible s k (e.stamp - s.trk[k].lastStamp) then acqRestart k (noted k e u)
      else plausibleEdge k e s.trk[k] (noted k e u)) := by
  obtain ⟨u, hu, hstep⟩ := crankEdge_acquires hdue hstands hoff hsync
  have hlast : u.trk[k].lastStamp = s.trk[k].lastStamp := by rw [hu.trk]
  have hperiod : u.trk[k].period = s.trk[k].period := by rw [hu.trk]
  have hrow : plausibleEdge k e u.trk[k] (noted k e u) = plausibleEdge k e s.trk[k] (noted k e u) := by
    rw [hu.trk]
    rfl
  refine ⟨u, hu, hstep.trans (congrArg Host.Outcome.next ?_)⟩
  rw [acqEdge_of_later (by rw [hu.trk]; exact hn), hlast, hrow, Chart.acqSpurious_eq hu.chart hperiod,
    Chart.acqImplausible_eq hu.chart hperiod]

/-- A spurious edge is counted with its event; the eighth in a row restarts acquisition (R54). -/
theorem spuriousEdge_outside (hoff : s.trk[k].acq ≠ .off) (hsync : s.trk[k].acq ≠ .sync) (hn : 2 ≤ s.trk[k].nEdges)
    (hspur : acqSpurious s k (e.stamp - s.trk[k].lastStamp)) : ∃ t, exec (.trackerCrankEdge k) s = .next t ∧
      t.trk[k].lastStamp = s.trk[k].lastStamp ∧ t.trk[k].period = s.trk[k].period ∧
      t.rd (TRK.base k) TRK.SPUR_CNT_SPUR = sat TRK.SPUR_CNT_SPUR.top (s.rd (TRK.base k) TRK.SPUR_CNT_SPUR + 1) ∧
      (∃ x ∈ t.inFlight, x.src = 33 + 8 * k.val ∧ x.raisedAt = s.tick) ∧
      (if s.trk[k].spurRun < 7 then t.trk[k].spurRun = s.trk[k].spurRun + 1 ∧ t.trk[k].acq = s.trk[k].acq
       else t.trk[k].spurRun = 0 ∧ t.trk[k].acq = .steady ∧ t.rd (TRK.base k) TRK.SPUR_CNT_ACQ_RESTART =
         sat TRK.SPUR_CNT_ACQ_RESTART.top (s.rd (TRK.base k) TRK.SPUR_CNT_ACQ_RESTART + 1)) := by
  obtain ⟨u, hu, hstep⟩ := laterEdge_judged hdue hstands hoff hsync hn
  rw [if_pos hspur] at hstep
  have hcount := spurCounted_trk k u
  rw [hu.trk] at hcount
  refine ⟨_, hstep, ?_⟩
  by_cases hrun : s.trk[k].spurRun < 7
  · rw [spuriousEdge_of_lt _ (by rw [hu.trk]; exact hrun), if_pos hrun]
    exact ⟨by rw [hcount]; rfl, by rw [hcount]; rfl, by rw [spurCounted_spur, hu.rd],
      exists_of_sent (spurCounted_sent k u) ((spurCounted_tick k u).trans hu.tick), by rw [hcount], by rw [hcount]; rfl⟩
  · rw [spuriousEdge_of_le _ (by rw [hu.trk]; exact Nat.le_of_not_lt hrun), if_neg hrun]
    have hr := acqRestart_restarted k ((spurCounted k u).updTrk k fun x => { x with spurRun := 0 })
    have htrk : ((spurCounted k u).updTrk k fun x => { x with spurRun := 0 }).trk[k] =
        { (spurCounted k u).trk[k] with spurRun := 0 } := State.updTrk_self ..
    rw [hcount] at htrk
    exact ⟨by rw [hr.lastStamp, htrk]; rfl, by rw [hr.period, htrk]; rfl,
      by rw [hr.spur, rd_updTrk, spurCounted_spur, hu.rd],
      exists_of_sent (hr.sent _ (by rw [sent_updTrk, spurCounted_sent])) (by
        rw [hr.tick, State.updTrk_tick, spurCounted_tick, hu.tick]),
      hr.spurRun, hr.acq, by rw [hr.restarts, rd_updTrk, spurCounted_restarts, hu.rd]⟩

section
variable (hspur : acqSpurious s k (e.stamp - s.trk[k].lastStamp) = false)
include hspur

/-- An implausible edge restarts acquisition (R54). -/
theorem implausibleEdge_restarts (hoff : s.trk[k].acq ≠ .off) (hsync : s.trk[k].acq ≠ .sync) (hn : 2 ≤ s.trk[k].nEdges)
    (hbad : acqImplausible s k (e.stamp - s.trk[k].lastStamp)) :
    ∃ t, exec (.trackerCrankEdge k) s = .next t ∧ t.trk[k].acq = .steady ∧ t.trk[k].run = 0 ∧ t.trk[k].lastStamp = e.stamp ∧
      t.rd (TRK.base k) TRK.SPUR_CNT_ACQ_RESTART =
        sat TRK.SPUR_CNT_ACQ_RESTART.top (s.rd (TRK.base k) TRK.SPUR_CNT_ACQ_RESTART + 1) := by
  obtain ⟨u, hu, hstep⟩ := laterEdge_judged hdue hstands hoff hsync hn
  rw [hspur, if_neg Bool.false_ne_true, if_pos hbad] at hstep
  exact ⟨_, hstep, hu.noted.restart⟩

section
variable (hplausible : acqImplausible s k (e.stamp - s.trk[k].lastStamp) = false)
include hplausible

/-- A plausible edge is noted and meets its row (R56). -/
theorem plausibleEdge_met (hoff : s.trk[k].acq ≠ .off) (hsync : s.trk[k].acq ≠ .sync) (hn : 2 ≤ s.trk[k].nEdges) :
    ∃ v, Noted k e s v ∧ exec (.trackerCrankEdge k) s = .next (plausibleEdge k e s.trk[k] v) := by
  obtain ⟨u, hu, hstep⟩ := laterEdge_judged hdue hstands hoff hsync hn
  rw [hspur, hplausible, if_neg Bool.false_ne_true, if_neg Bool.false_ne_true] at hstep
  exact ⟨_, hu.noted, hstep⟩

/-- In STEADY an edge prolongs the run or ends it; a run long enough leads to SEARCH (R56). -/
theorem steadyEdge_runs (hacq : s.trk[k].acq = .steady) (hn : 2 ≤ s.trk[k].nEdges) {r : Nat}
    (hr : r = if steadyEdge (e.stamp - s.trk[k].lastStamp) s.trk[k].period then s.trk[k].run + 1 else 0) :
    ∃ t, exec (.trackerCrankEdge k) s = .next t ∧ t.trk[k].run = r ∧ t.trk[k].lastStamp = e.stamp ∧
      t.trk[k].acq = (if r = s.cfg (TRK.base k) TRK.ACQ_N_STEADY then .search else .steady) := by
  obtain ⟨v, h, hstep⟩ := plausibleEdge_met hdue hstands hspur hplausible (by rw [hacq]; decide) (by rw [hacq]; decide) hn
  rw [plausibleEdge_of_steady hacq, ← hr, h.cfg _ rfl] at hstep
  exact ⟨_, hstep, by rw [State.updTrk_self], by rw [State.updTrk_self]; exact h.lastStamp, by rw [State.updTrk_self]⟩

/-- In SEARCH an unsteady edge names the positions its ratio matches, or restarts acquisition (R55, R56). -/
theorem searchEdge_names (hacq : s.trk[k].acq = .search) (hn : 2 ≤ s.trk[k].nEdges) (hwide : widthCoded s k = false)
    {l : List Nat} (hl : l = (List.range (teeth s k)).filter (fun p => isFeature s k p &&
      ratioMatches s k (e.stamp - s.trk[k].lastStamp) s.trk[k].period p)) :
    ∃ t, exec (.trackerCrankEdge k) s = .next t ∧ t.trk[k].lastStamp = e.stamp ∧
      (if steadyEdge (e.stamp - s.trk[k].lastStamp) s.trk[k].period then t.trk[k].acq = .search
       else if l = [] then t.trk[k].acq = .steady ∧ t.trk[k].run = 0 ∧ t.rd (TRK.base k) TRK.SPUR_CNT_ACQ_RESTART =
         sat TRK.SPUR_CNT_ACQ_RESTART.top (s.rd (TRK.base k) TRK.SPUR_CNT_ACQ_RESTART + 1)
       else t.trk[k].acq = .confirm ∧ t.trk[k].cands = l.map (fun p => ⟨p, 0⟩)) := by
  obtain ⟨v, h, hstep⟩ := plausibleEdge_met hdue hstands hspur hplausible (by rw [hacq]; decide) (by rw [hacq]; decide) hn
  rw [plausibleEdge_of_search hacq] at hstep
  refine ⟨_, hstep, ?_⟩
  unfold searchEdge
  simp only [Chart.widthCoded_eq h.chart, hwide, Bool.false_eq_true, if_false, List.isEmpty_nil, Bool.not_true,
    Chart.teeth_eq h.chart, Chart.isFeature_eq h.chart, Chart.ratioMatches_eq h.chart, ← hl, List.isEmpty_iff]
  split
  · exact ⟨h.lastStamp, h.acq.trans hacq⟩
  · split
    · obtain ⟨ha, hrun, hlast, hcount⟩ := h.restart
      exact ⟨hlast, ha, hrun, hcount⟩
    · exact ⟨by rw [State.updTrk_self]; exact h.lastStamp, by rw [State.updTrk_self], by rw [State.updTrk_self]⟩

/-- In SEARCH of a width-coded wheel the row of the classes names the positions (log entry 136). -/
theorem searchEdge_names_by_class (hacq : s.trk[k].acq = .search) (hn : 2 ≤ s.trk[k].nEdges) (hwide : widthCoded s k)
    {l : List Nat} (hl : l = (List.range (teeth s k)).filter
      (sequenceMatches (s.updTrk k (fun x => x.note (teeth s k) e)) k)) (hne : l ≠ []) :
    ∃ t, exec (.trackerCrankEdge k) s = .next t ∧ t.trk[k].lastStamp = e.stamp ∧ t.trk[k].acq = .confirm ∧
      t.trk[k].cands = l.map (fun p => ⟨p, 0⟩) := by
  obtain ⟨v, h, hstep⟩ := plausibleEdge_met hdue hstands hspur hplausible (by rw [hacq]; decide) (by rw [hacq]; decide) hn
  rw [plausibleEdge_of_search hacq] at hstep
  have hrow : sequenceMatches v k = sequenceMatches (s.updTrk k (fun x => x.note (teeth s k) e)) k :=
    funext (Chart.sequenceMatches_eq (h.chart.trans (noted_chart k e s).symm) (by
      rw [h.trk, State.updTrk_self]
      rfl))
  refine ⟨_, hstep, ?_⟩
  unfold searchEdge
  simp only [Chart.widthCoded_eq h.chart, hwide, if_true, hrow, Chart.teeth_eq h.chart, ← hl, List.isEmpty_eq_false_iff.2 hne,
    Bool.not_false]
  exact ⟨by rw [State.updTrk_self]; exact h.lastStamp, by rw [State.updTrk_self], by rw [State.updTrk_self]⟩

end
end
end
end
end Sys2Proof.Machine

namespace Sys2Proof.Machine

/-! ## CONFIRM, PHASE and the declaration of sync (R56 to R65, R525) -/

section
variable {k : Fin 2} {e : EdgeIn} {s t u v : State}

/-! ### Sync is declared (R63, R65) -/

theorem setAstern_dev (k : Fin 2) (a : Bool) (s : State) : (setAstern k a s).dev = s.dev := by
  unfold setAstern shadowClear
  dsimp only
  split <;> rfl

theorem setAstern_lastStamp (k : Fin 2) (a : Bool) (s : State) : (setAstern k a s).trk[k].lastStamp = s.trk[k].lastStamp := by
  unfold setAstern shadowClear
  dsimp only
  split <;> simp only [State.updTrk_self]

/-- Sync declared where no epoch opens by it: the tracker stands at its entry, and the device is as it was. -/
theorem declareSync_declared (p : Nat) (b : Bool) (hepoch : s.dev.control ≠ k ∨ s.dev.epochOpen) :
    (declareSync k p b s).trk[k].acq = .sync ∧ (declareSync k p b s).trk[k].pos = p ∧ (declareSync k p b s).trk[k].half = b ∧
      (declareSync k p b s).trk[k].lastStamp = s.trk[k].lastStamp ∧ (declareSync k p b s).dev = s.dev := by
  have hlast := setAstern_lastStamp k s.trk[k].astern s
  have hdev := setAstern_dev k s.trk[k].astern s
  obtain ⟨u, hu⟩ : ∃ u, u = setAstern k s.trk[k].astern s := ⟨_, rfl⟩
  have hopen : ¬ (s.dev.control = k ∧ s.dev.epochOpen = false ∧ (s.dev.st = .syncing ∨ s.dev.st = .armed)) := by
    rintro ⟨hcontrol, hclosed, -⟩
    rcases hepoch with h | h
    · exact h hcontrol
    · rw [hclosed] at h
      exact Bool.false_ne_true h
  rw [← hu] at hlast hdev
  unfold declareSync
  dsimp only
  rw [← hu]
  simp only [State.raise_dev, State.wr_dev, State.updTrk_dev, hdev, if_neg hopen, State.raise_trk, State.wr_trk, State.updTrk_self]
  exact ⟨trivial, rfl, rfl, hlast, trivial⟩

/-! ### An edge in CONFIRM or PHASE -/

/-- The candidates an edge has left, and one edge more in the state. -/
def stepped (k : Fin 2) (l : List Cand) (s : State) : State :=
  s.updTrk k fun x => { x with cands := l, stateEdges := x.stateEdges + 1 }

theorem stepped_trk (k : Fin 2) (l : List Cand) (s : State) :
    (stepped k l s).trk[k] = { s.trk[k] with cands := l, stateEdges := s.trk[k].stateEdges + 1 } := State.updTrk_self ..

theorem stepped_chart (k : Fin 2) (l : List Cand) (s : State) : (stepped k l s).chart k = s.chart k :=
  chart_of rfl rfl rfl (by rw [stepped_trk]) (by rw [stepped_trk]) (by rw [stepped_trk])

/-- Acquisition restarted from a state whose registers are those of another: what R56 says of a restart. -/
theorem restart_counted (h : v.rd (TRK.base k) TRK.SPUR_CNT_ACQ_RESTART = s.rd (TRK.base k) TRK.SPUR_CNT_ACQ_RESTART) :
    (acqRestart k v).trk[k].acq = .steady ∧ (acqRestart k v).trk[k].run = 0 ∧
      (acqRestart k v).rd (TRK.base k) TRK.SPUR_CNT_ACQ_RESTART =
        sat TRK.SPUR_CNT_ACQ_RESTART.top (s.rd (TRK.base k) TRK.SPUR_CNT_ACQ_RESTART + 1) := by
  have hr := acqRestart_restarted k v
  exact ⟨hr.acq, hr.run, by rw [hr.restarts, h]⟩

/-- A failed try before the last one allowed is counted, and the state's edges start again (R525). -/
theorem failedTry_counts (h : s.trk[k].tries + 1 < s.cfg (TRK.base k) TRK.ACQ_PHASE_TRIES) :
    failedTry k s = s.updTrk k fun x => { x with tries := x.tries + 1, stateEdges := 0 } := by
  have hcfg : (s.updTrk k fun x => { x with tries := x.tries + 1, stateEdges := 0 }).cfg (TRK.base k) TRK.ACQ_PHASE_TRIES =
      s.cfg (TRK.base k) TRK.ACQ_PHASE_TRIES := rfl
  unfold failedTry
  dsimp only
  rw [State.updTrk_self, hcfg]
  exact if_neg (Nat.not_le.2 h)

theorem confirmEdge_of_unconfirmed {tj prev : Nat} {c : Option Nat} {l : List Cand}
    (hl : l = stepCands s k tj prev c s.trk[k].cands) (hne : l ≠ [])
    (hall : l.all (fun c => decide (s.cfg (TRK.base k) TRK.CFG_CONFIRM ≤ c.count)) = false) :
    confirmEdge k tj prev c s = if 1 < l.length ∧ 4 * teeth s k ≤ s.trk[k].stateEdges + 1 then acqRestart k (stepped k l s)
      else stepped k l s := by
  have hcfg : (stepped k l s).cfg (TRK.base k) TRK.CFG_CONFIRM = s.cfg (TRK.base k) TRK.CFG_CONFIRM := rfl
  have hteeth : teeth (stepped k l s) k = teeth s k := rfl
  have hedges : (stepped k l s).trk[k].stateEdges = s.trk[k].stateEdges + 1 := by rw [stepped_trk]
  unfold confirmEdge
  dsimp only
  rw [← hl, if_neg (by rw [List.isEmpty_iff]; exact hne)]
  change (if (l.all fun c => decide ((stepped k l s).cfg (TRK.base k) TRK.CFG_CONFIRM ≤ c.count)) = true then _ else _) = _
  rw [hcfg, hall, if_neg Bool.false_ne_true]
  change (if 1 < l.length ∧ 4 * teeth (stepped k l s) k ≤ (stepped k l s).trk[k].stateEdges then _ else _) = _
  rw [hteeth, hedges]
  rfl

theorem confirmEdge_of_empty {tj prev : Nat} {c : Option Nat} (hl : [] = stepCands s k tj prev c s.trk[k].cands) :
    confirmEdge k tj prev c s = acqRestart k (stepped k [] s) := by
  unfold confirmEdge
  dsimp only
  rw [← hl]
  rfl

theorem confirmEdge_of_confirmed {tj prev : Nat} {c : Option Nat} {d : Cand} (hl : [d] = stepCands s k tj prev c s.trk[k].cands)
    (hneed : s.cfg (TRK.base k) TRK.CFG_CONFIRM ≤ d.count) :
    confirmEdge k tj prev c s = if cyc720 s k then enterPhase k (stepped k [d] s) else declareSync k d.pos false (stepped k [d] s) := by
  have hcfg : (stepped k [d] s).cfg (TRK.base k) TRK.CFG_CONFIRM = s.cfg (TRK.base k) TRK.CFG_CONFIRM := rfl
  have hcyc : cyc720 (stepped k [d] s) k = cyc720 s k := rfl
  have hall : ([d].all fun c => decide (s.cfg (TRK.base k) TRK.CFG_CONFIRM ≤ c.count)) = true := by simp [hneed]
  unfold confirmEdge
  dsimp only
  rw [← hl, if_neg (by simp)]
  change (if ([d].all fun c => decide ((stepped k [d] s).cfg (TRK.base k) TRK.CFG_CONFIRM ≤ c.count)) = true then
    (match [d], cyc720 (stepped k [d] s) k with
      | [c], false => declareSync k c.pos false (stepped k [d] s)
      | [_], true => enterPhase k (stepped k [d] s)
      | _, true => _
      | _, false => _) else _) = _
  rw [hcfg, hall, if_pos rfl, hcyc]
  cases cyc720 s k <;> rfl

/-- A plan of 720 degrees goes to PHASE, where no cam edge has come yet (R56, R59). -/
theorem enterPhase_of_none (h : s.trk[k].lastCam = none) :
    enterPhase k s = s.updTrk k fun x => { x with acq := .phase, stateEdges := 0, tries := 0 } := by
  have hcam : (s.updTrk k fun x => { x with acq := .phase, stateEdges := 0, tries := 0 }).trk[k].lastCam = none := by
    rw [State.updTrk_self, h]
  unfold enterPhase
  dsimp only
  rw [hcam]

section
variable (hdue : crankDue s k = some e) (hstands : s.ptStands = false)
  (hspur : acqSpurious s k (e.stamp - s.trk[k].lastStamp) = false)
  (hplausible : acqImplausible s k (e.stamp - s.trk[k].lastStamp) = false)
include hdue hstands hspur hplausible

/-- In CONFIRM each candidate must match the edge; those left are confirmed, wait, or are given up (R56, R525). -/
theorem confirmEdge_steps (hacq : s.trk[k].acq = .confirm) (hn : 2 ≤ s.trk[k].nEdges) {l : List Cand}
    (hl : l = stepCands s k (e.stamp - s.trk[k].lastStamp) s.trk[k].period e.wclass s.trk[k].cands) :
    (l = [] → ∃ t, exec (.trackerCrankEdge k) s = .next t ∧ t.trk[k].acq = .steady ∧ t.trk[k].run = 0 ∧
      t.rd (TRK.base k) TRK.SPUR_CNT_ACQ_RESTART =
        sat TRK.SPUR_CNT_ACQ_RESTART.top (s.rd (TRK.base k) TRK.SPUR_CNT_ACQ_RESTART + 1)) ∧
    (l ≠ [] → l.all (fun c => decide (s.cfg (TRK.base k) TRK.CFG_CONFIRM ≤ c.count)) = false →
      1 < l.length → 4 * teeth s k ≤ s.trk[k].stateEdges + 1 →
      ∃ t, exec (.trackerCrankEdge k) s = .next t ∧ t.trk[k].acq = .steady ∧ t.trk[k].run = 0 ∧
        t.rd (TRK.base k) TRK.SPUR_CNT_ACQ_RESTART =
          sat TRK.SPUR_CNT_ACQ_RESTART.top (s.rd (TRK.base k) TRK.SPUR_CNT_ACQ_RESTART + 1)) ∧
    (l ≠ [] → l.all (fun c => decide (s.cfg (TRK.base k) TRK.CFG_CONFIRM ≤ c.count)) = false →
      l.length = 1 ∨ s.trk[k].stateEdges + 1 < 4 * teeth s k →
      ∃ t, exec (.trackerCrankEdge k) s = .next t ∧ t.trk[k].acq = .confirm ∧ t.trk[k].cands = l ∧ t.trk[k].lastStamp = e.stamp) ∧
    (∀ c, l = [c] → s.cfg (TRK.base k) TRK.CFG_CONFIRM ≤ c.count → cyc720 s k = false → s.dev.control ≠ k ∨ s.dev.epochOpen →
      ∃ t, exec (.trackerCrankEdge k) s = .next t ∧ t.trk[k].acq = .sync ∧ t.trk[k].pos = c.pos ∧ t.trk[k].half = false ∧
        t.trk[k].lastStamp = e.stamp ∧ t.dev = s.dev) ∧
    (∀ c, l = [c] → s.cfg (TRK.base k) TRK.CFG_CONFIRM ≤ c.count → cyc720 s k → s.trk[k].lastCam = none →
      ∃ t, exec (.trackerCrankEdge k) s = .next t ∧ t.trk[k].acq = .phase ∧ t.trk[k].cands = l ∧ t.trk[k].tries = 0) := by
  obtain ⟨v, h, hstep⟩ := plausibleEdge_met hdue hstands hspur hplausible (by rw [hacq]; decide) (by rw [hacq]; decide) hn
  have hv : l = stepCands v k (e.stamp - s.trk[k].lastStamp) s.trk[k].period e.wclass v.trk[k].cands := by
    rw [hl, Chart.stepCands_eq h.chart, h.cands]
  have hneed : v.cfg (TRK.base k) TRK.CFG_CONFIRM = s.cfg (TRK.base k) TRK.CFG_CONFIRM := h.cfg _ rfl
  have hteeth : teeth v k = teeth s k := Chart.teeth_eq h.chart
  have hrestart : (stepped k l v).rd (TRK.base k) TRK.SPUR_CNT_ACQ_RESTART = s.rd (TRK.base k) TRK.SPUR_CNT_ACQ_RESTART :=
    (rd_updTrk ..).trans (h.rd ..)
  rw [plausibleEdge_of_confirm hacq] at hstep
  refine ⟨fun hempty => ?_, fun hne hall hlen hedges => ?_, fun hne hall hfew => ?_, fun c hc hcount hcyc hepoch => ?_,
    fun c hc hcount hcyc hcam => ?_⟩
  · rw [hempty] at hv hrestart
    rw [confirmEdge_of_empty hv] at hstep
    exact ⟨_, hstep, restart_counted hrestart⟩
  · rw [confirmEdge_of_unconfirmed hv hne (by rw [hneed]; exact hall), hteeth, h.stateEdges, if_pos ⟨hlen, hedges⟩] at hstep
    exact ⟨_, hstep, restart_counted hrestart⟩
  · rw [confirmEdge_of_unconfirmed hv hne (by rw [hneed]; exact hall), hteeth, h.stateEdges, if_neg (by omega)] at hstep
    exact ⟨_, hstep, by rw [stepped_trk]; exact h.acq.trans hacq, by rw [stepped_trk], by rw [stepped_trk]; exact h.lastStamp⟩
  · rw [hc] at hv
    rw [confirmEdge_of_confirmed hv (by rw [hneed]; exact hcount), Chart.cyc720_eq h.chart, hcyc, if_neg Bool.false_ne_true] at hstep
    have hdev : (stepped k [c] v).dev = s.dev := h.dev
    obtain ⟨ha, hp, hh, hlast, hd⟩ := declareSync_declared (s := stepped k [c] v) c.pos false (by rw [hdev]; exact hepoch)
    exact ⟨_, hstep, ha, hp, hh, by rw [hlast, stepped_trk]; exact h.lastStamp, hd.trans hdev⟩
  · rw [hc] at hv
    rw [confirmEdge_of_confirmed hv (by rw [hneed]; exact hcount), Chart.cyc720_eq h.chart, hcyc, if_pos rfl,
      enterPhase_of_none (by rw [stepped_trk]; exact h.lastCam.trans hcam)] at hstep
    exact ⟨_, hstep, by rw [State.updTrk_self], by rw [State.updTrk_self, stepped_trk, hc], by rw [State.updTrk_self]⟩

/-- In PHASE each candidate must match the edge too; two revolutions without a cam edge are a failed try (R56, R525). -/
theorem phaseEdge_steps (hacq : s.trk[k].acq = .phase) (hn : 2 ≤ s.trk[k].nEdges) {l : List Cand}
    (hl : l = stepCands s k (e.stamp - s.trk[k].lastStamp) s.trk[k].period e.wclass s.trk[k].cands) :
    (l = [] → ∃ t, exec (.trackerCrankEdge k) s = .next t ∧ t.trk[k].acq = .steady ∧ t.trk[k].run = 0 ∧
      t.rd (TRK.base k) TRK.SPUR_CNT_ACQ_RESTART =
        sat TRK.SPUR_CNT_ACQ_RESTART.top (s.rd (TRK.base k) TRK.SPUR_CNT_ACQ_RESTART + 1)) ∧
    (l ≠ [] → s.trk[k].stateEdges + 1 < 2 * teeth s k → ∃ t, exec (.trackerCrankEdge k) s = .next t ∧ t.trk[k].acq = .phase ∧
      t.trk[k].cands = l ∧ t.trk[k].stateEdges = s.trk[k].stateEdges + 1) ∧
    (l ≠ [] → 2 * teeth s k ≤ s.trk[k].stateEdges + 1 → s.trk[k].tries + 1 < s.cfg (TRK.base k) TRK.ACQ_PHASE_TRIES →
      ∃ t, exec (.trackerCrankEdge k) s = .next t ∧ t.trk[k].acq = .phase ∧ t.trk[k].tries = s.trk[k].tries + 1 ∧
        t.trk[k].stateEdges = 0) := by
  obtain ⟨v, h, hstep⟩ := plausibleEdge_met hdue hstands hspur hplausible (by rw [hacq]; decide) (by rw [hacq]; decide) hn
  have hv : stepCands v k (e.stamp - s.trk[k].lastStamp) s.trk[k].period e.wclass v.trk[k].cands = l := by
    rw [hl, Chart.stepCands_eq h.chart, h.cands]
  have hteeth : teeth (stepped k l v) k = teeth s k := (Chart.teeth_eq (stepped_chart k l v)).trans (Chart.teeth_eq h.chart)
  have hedges : (stepped k l v).trk[k].stateEdges = s.trk[k].stateEdges + 1 := by rw [stepped_trk, h.stateEdges]
  have hrow : phaseEdge k (e.stamp - s.trk[k].lastStamp) s.trk[k].period e.wclass v = if l.isEmpty then acqRestart k (stepped k l v)
      else if 2 * teeth (stepped k l v) k ≤ (stepped k l v).trk[k].stateEdges then failedTry k (stepped k l v)
      else stepped k l v := by
    unfold phaseEdge
    dsimp only
    rw [hv]
    rfl
  rw [plausibleEdge_of_phase hacq, hrow, hteeth, hedges] at hstep
  refine ⟨fun hempty => ?_, fun hne hfew => ?_, fun hne hmany htries => ?_⟩
  · rw [if_pos (by rw [hempty]; rfl)] at hstep
    exact ⟨_, hstep, restart_counted ((rd_updTrk ..).trans (h.rd ..))⟩
  · rw [if_neg (by rw [List.isEmpty_iff]; exact hne), if_neg (Nat.not_le.2 hfew)] at hstep
    exact ⟨_, hstep, by rw [stepped_trk]; exact h.acq.trans hacq, by rw [stepped_trk], hedges⟩
  · have hcfg : (stepped k l v).cfg (TRK.base k) TRK.ACQ_PHASE_TRIES = s.cfg (TRK.base k) TRK.ACQ_PHASE_TRIES := h.cfg _ rfl
    have hpast : (stepped k l v).trk[k].tries = s.trk[k].tries := by rw [stepped_trk]; exact h.tries
    rw [if_neg (by rw [List.isEmpty_iff]; exact hne), if_pos hmany, failedTry_counts (by rw [hcfg, hpast]; exact htries)] at hstep
    exact ⟨_, hstep, by rw [State.updTrk_self, stepped_trk]; exact h.acq.trans hacq,
      by rw [State.updTrk_self]; exact congrArg (· + 1) hpast, by rw [State.updTrk_self]⟩

end

/-- Without an accepted edge for the timeout, acquisition forgets what it has and waits (R56). -/
theorem acqTimeout_waits (hoff : s.trk[k].acq ≠ .off) (hwait : s.trk[k].acq ≠ .wait) (hsync : s.trk[k].acq ≠ .sync)
    (hlong : 400000 * s.cfg (TRK.base k) TRK.STALL_CFG_TIMEOUT ≤ s.pt - s.trk[k].lastStamp) :
    ∃ t, exec (.acqStallTimeout k) s = .next t ∧ t.trk[k].acq = .wait ∧ t.trk[k].nEdges = 0 ∧ t.trk[k].cands = [] ∧
      (∀ j, j ≠ k → t.trk[j] = s.trk[j]) ∧ t = { s with trk := t.trk } :=
  ⟨_, congrArg Host.Outcome.next (if_pos ⟨hoff, hwait, hsync, hlong⟩), by rw [State.updTrk_self]; rfl, by rw [State.updTrk_self]; rfl,
    by rw [State.updTrk_self]; rfl, fun j hj => State.updTrk_ne s hj _, rfl⟩

end
end Sys2Proof.Machine

namespace Sys2Proof.Machine

/-! ## A crank edge in SYNC that is not accepted (R99, R110) -/

section
variable {k : Fin 2} {e : EdgeIn} {s t u v : State}

/-! ### The epoch closes by a loss of sync -/

theorem closeEpoch_closed (cause reason : Nat) (s : State) : (closeEpoch cause reason s).dev.epochOpen = false := by
  have hcores (u : State) : (coresEpochClose u).dev = u.dev := by
    unfold coresEpochClose
    exact foldS_keeps (v := State.dev) (fun c v => State.updCore_dev v c _) _ u
  unfold closeEpoch
  dsimp only
  split
  · rw [Course.epochOpen_eq (actCommitted_course ..), hcores]
    rfl
  next h => exact Bool.eq_false_of_not_eq_true h

/-- No epoch is open, and a tracker is out of SYNC. -/
structure Ended (k : Fin 2) (s : State) : Prop where
  closed : s.dev.epochOpen = false
  out : s.trk[k].acq ≠ .sync

theorem Ended.of_course (h : Ended k s) (hc : t.course = s.course) : Ended k t :=
  ⟨by rw [Course.epochOpen_eq hc, h.closed], by rw [Course.acq_eq hc]; exact h.out⟩

theorem leaveSync_dev (j : Fin 2) (cause : Nat) (q : Acq) (s : State) : (leaveSync j cause q s).dev = s.dev := by
  unfold leaveSync
  dsimp only
  split
  · rw [State.updTrk_dev, State.raise_dev]
    exact (recordLoss_keeps j cause s).2.1
  · rfl

theorem leaveSync_out (cause : Nat) {q : Acq} (hq : q ≠ .sync) (s : State) : (leaveSync k cause q s).trk[k].acq ≠ .sync := by
  by_cases h : s.trk[k].acq = .sync
  · rw [(leaveSync_left cause q h).trk, Tracker.leave_acq]
    exact hq
  · rw [show leaveSync k cause q s = s from if_neg h]
    exact h

/-- A tracker that goes to OFF (R56). -/
def trackerOff (j : Fin 2) (s : State) : State :=
  (leaveSync j 9 .off s).updTrk j fun x => { x.forget .off with edges := [] }

theorem trackersOff_eq (s : State) : trackersOff s = foldS [0, 1] trackerOff s := rfl

theorem trackerOff_dev (j : Fin 2) (s : State) : (trackerOff j s).dev = s.dev := by
  rw [trackerOff, State.updTrk_dev, leaveSync_dev]

theorem trackerOff_out (j : Fin 2) (h : s.trk[k].acq ≠ .sync ∨ j = k) : (trackerOff j s).trk[k].acq ≠ .sync := by
  by_cases hj : j = k
  · rw [trackerOff, hj, State.updTrk_self]
    exact (nofun : Acq.off ≠ .sync)
  · have hs := h.resolve_right hj
    rw [trackerOff, State.updTrk_ne _ (Ne.symm hj)]
    by_cases hsync : s.trk[j].acq = .sync
    · rw [(leaveSync_left 9 .off hsync).others k (Ne.symm hj)]
      exact hs
    · rw [show leaveSync j 9 .off s = s from if_neg hsync]
      exact hs

/-- With both trackers off, each is out of SYNC, and the epoch is as it was. -/
theorem trackersOff_ended (h : s.dev.epochOpen = false) : Ended k (trackersOff s) := by
  rw [trackersOff_eq]
  refine ⟨by rw [foldS_keeps (v := State.dev) trackerOff_dev, h], ?_⟩
  rw [foldS, List.foldl_cons, List.foldl_cons, List.foldl_nil]
  match k with
  | 0 => exact trackerOff_out 1 (Or.inl (trackerOff_out 0 (Or.inr rfl)))
  | 1 => exact trackerOff_out 1 (Or.inr rfl)

theorem pendingDisarm_ended (h : Ended k s) : Ended k (pendingDisarm s) := by
  have hdisarm : Ended k (disarmNow s) := by
    unfold disarmNow
    dsimp only
    refine (trackersOff_ended ?_).of_course (by rw [actCommitted_course, enter_course, wr_course])
    exact closeEpoch_closed ..
  unfold pendingDisarm
  split
  · split
    · exact hdisarm
    · exact hdisarm
    · exact hdisarm
    · exact hdisarm
    · exact h.of_course (by rw [err_course, wr_course])
  · exact h

theorem judgeControl_ended (h : Ended k s) : Ended k (judgeControl s) := by
  unfold judgeControl
  dsimp only
  split
  · exact ⟨h.closed, h.out⟩
  · exact h

/-- The controlling tracker of an open epoch loses sync with no checker to take over: the epoch closes (R110). -/
theorem loseSyncTo_ends {q : Acq} (hq : q ≠ .sync) (cause : Nat) (hcontrol : s.dev.control = k) (hopen : s.dev.epochOpen)
    (hhand : s.dev.handing = false) (hstay : canHandover (noteLinkLoss k s) k = false) : Ended k (loseSyncTo q k cause s) := by
  obtain ⟨-, hd, -⟩ := noteLinkLoss_keeps k s
  unfold loseSyncTo
  dsimp only
  rw [hd, if_pos ⟨hopen, Or.inl hcontrol⟩, hhand, hstay, if_neg (fun h => Bool.false_ne_true h.2),
    if_neg (fun h => Bool.false_ne_true h.1)]
  refine pendingDisarm_ended (judgeControl_ended (Ended.of_course ⟨?_, leaveSync_out cause hq _⟩ (enter_course ..)))
  rw [leaveSync_dev]
  exact closeEpoch_closed ..

theorem noteLinkLoss_ifault (k j : Fin 2) (s : State) : hasIfault (noteLinkLoss k s) j = hasIfault s j := by
  obtain ⟨-, -, hact, -, -, -⟩ := noteLinkLoss_keeps k s
  have hreg : (noteLinkLoss k s).reg (TRK.base j + 0x104) = s.reg (TRK.base j + 0x104) := by
    have haddr : (TRK.base j + 0x104) % 0x1000 ≠ 0x10 ∧ TRK.base j + 0x104 ≠ LINK.base + LINK.TAKES_LOSSES.off := by
      revert j
      decide
    unfold noteLinkLoss
    split
    · rw [reg_raise_ne _ _ haddr.1, reg_bump_ne _ _ haddr.2]
      rfl
    · rfl
  rw [hasIfault, hasIfault, hreg, cfg_of_act hact rfl]

theorem Taken.canHandover (h : Taken k e s u) : canHandover (noteLinkLoss k u) k = canHandover s k := by
  obtain ⟨htrk, -, hact, hx, -, -⟩ := noteLinkLoss_keeps k u
  have hother := h.others _ (otherTrk_ne k)
  have hxchk : u.xchk = s.xchk := by obtain ⟨_, hu⟩ := h.rest; rw [hu]
  have hself : u.trk[k].inXchk = s.trk[k].inXchk := by rw [h.trk]
  have hen : (noteLinkLoss k u).on (TRK.base 0) TRK.XCHK_CFG_EN = s.on (TRK.base 0) TRK.XCHK_CFG_EN := by
    rw [State.on, State.on, cfg_of_act (hact.trans h.act) rfl]
  have hfault : hasIfault u (otherTrk k) = hasIfault s (otherTrk k) := by
    rw [hasIfault, hasIfault, h.reg, h.cfg _ rfl]
  simp only [Machine.canHandover, htrk, hx, hen, hother, hxchk, hself, noteLinkLoss_ifault, hfault]

/-! ### The rows of R99 -/

/-- The causes of the table of R99 are 1, 2, 3 and 7. -/
theorem edgeClass_cause {c : Nat} (h : edgeClass s k e = .lost c) : c % 16 = c := by
  simp only [edgeClass] at h
  repeat' split at h
  all_goals cases h
  all_goals rfl

section
variable (hdue : crankDue s k = some e) (hstands : s.ptStands = false) (hsync : s.trk[k].acq = .sync)
include hdue hstands hsync

/-- A crank edge that reaches a tracker in SYNC is judged there. -/
theorem crankEdge_judged : ∃ u, Taken k e s u ∧ exec (.trackerCrankEdge k) s = .next (syncEdge k e u) := by
  obtain ⟨u, hu, -, hstep⟩ := crankEdge_taken hdue hstands (by rw [hsync]; decide)
  exact ⟨u, hu, by rw [hstep, if_pos hsync]⟩

variable (hmoving : s.trk[k].stalled = false)
include hmoving

/-- While the tracker moves, the table of R99 decides. -/
theorem crankEdge_classed : ∃ u, Taken k e s u ∧
    (edgeClass s k e = .spurious → exec (.trackerCrankEdge k) s = .next (spuriousEdge k (loseSync k 4) u)) ∧
    (∀ c, edgeClass s k e = .lost c → exec (.trackerCrankEdge k) s = .next (loseSync k c u)) ∧
    (edgeClass s k e = .accepted → exec (.trackerCrankEdge k) s = .next (acceptSync k e false false u)) := by
  obtain ⟨u, hu, hstep⟩ := crankEdge_judged hdue hstands hsync
  have hclass : edgeClass u k e = edgeClass s k e :=
    Chart.edgeClass_eq hu.chart (by rw [hu.trk]) (by rw [hu.trk]) (by rw [hu.trk]) (by rw [hu.trk]) e
  have hstalled : ¬ u.trk[k].stalled := by rw [hu.trk, hmoving]; exact Bool.false_ne_true
  refine ⟨u, hu, fun h => ?_, fun c h => ?_, fun h => ?_⟩
  all_goals rw [hstep, syncEdge, if_neg hstalled, hclass, h]

/-- A spurious edge is counted with its event, and changes neither angle nor entry (R99). -/
theorem spuriousEdge_inside (hclass : edgeClass s k e = .spurious) (hrun : s.trk[k].spurRun < 7) :
    ∃ t, exec (.trackerCrankEdge k) s = .next t ∧
      t.rd (TRK.base k) TRK.SPUR_CNT_SPUR = sat TRK.SPUR_CNT_SPUR.top (s.rd (TRK.base k) TRK.SPUR_CNT_SPUR + 1) ∧
      (∃ x ∈ t.inFlight, x.src = 33 + 8 * k.val ∧ x.raisedAt = s.tick) ∧
      t.trk[k].spurRun = s.trk[k].spurRun + 1 ∧ t.trk[k].acq = .sync ∧ t.trk[k].acc = s.trk[k].acc ∧
      t.trk[k].pos = s.trk[k].pos ∧ t.trk[k].lastStamp = s.trk[k].lastStamp := by
  obtain ⟨u, hu, hstep, -⟩ := crankEdge_classed hdue hstands hsync hmoving
  have htrk := spurCounted_trk k u
  rw [hu.trk] at htrk
  refine ⟨_, hstep hclass, ?_⟩
  rw [spuriousEdge_of_lt _ (by rw [hu.trk]; exact hrun)]
  exact ⟨by rw [spurCounted_spur, hu.rd], exists_of_sent (spurCounted_sent k u) ((spurCounted_tick k u).trans hu.tick), by rw [htrk],
    by rw [htrk]; exact hsync, by rw [htrk]; rfl, by rw [htrk]; rfl, by rw [htrk]; rfl⟩

/-- The eighth spurious edge in a row loses sync (R99, R110). -/
theorem spuriousEdge_loses (hclass : edgeClass s k e = .spurious) (hrun : 7 ≤ s.trk[k].spurRun)
    (hepoch : s.dev.control ≠ k ∨ s.dev.epochOpen = false) (hhand : s.dev.handing = false) :
    ∃ t, exec (.trackerCrankEdge k) s = .next t ∧
      t.rd (TRK.base k) TRK.SPUR_CNT_SPUR = sat TRK.SPUR_CNT_SPUR.top (s.rd (TRK.base k) TRK.SPUR_CNT_SPUR + 1) ∧
      t.trk[k].acq = .steady ∧ t.trk[k].spurRun = 0 ∧ t.rd (TRK.base k) TRK.MOTION_STAT_LOSS = 4 ∧ t.dev = s.dev := by
  obtain ⟨u, hu, hstep, -⟩ := crankEdge_classed hdue hstands hsync hmoving
  obtain ⟨v, hv⟩ : ∃ v, v = (spurCounted k u).updTrk k (fun x => { x with spurRun := 0 }) := ⟨_, rfl⟩
  have hacq : v.trk[k].acq = .sync := by
    rw [hv, State.updTrk_self, spurCounted_trk, hu.trk]
    exact hsync
  have hdev : v.dev = s.dev := by rw [hv, State.updTrk_dev, spurCounted_dev, hu.dev]
  have h : LeftSync k 4 .steady v (loseSync k 4 v) :=
    loseSyncTo_left .steady 4 hacq (by rw [hdev]; exact hepoch) (by rw [hdev]; exact hhand)
  refine ⟨_, hstep hclass, ?_⟩
  rw [spuriousEdge_of_le _ (by rw [hu.trk]; exact hrun), ← hv]
  exact ⟨by rw [h.rd _ (by decide) rfl, hv, rd_updTrk, spurCounted_spur, hu.rd], by rw [h.trk, Tracker.leave_acq],
    by rw [h.trk, Tracker.leave_spurRun], h.loss, h.dev.trans hdev⟩

/-- An edge that breaks the pattern loses sync with its cause (R99, R110). -/
theorem lostEdge_loses {c : Nat} (hclass : edgeClass s k e = .lost c) (hepoch : s.dev.control ≠ k ∨ s.dev.epochOpen = false)
    (hhand : s.dev.handing = false) : ∃ t, exec (.trackerCrankEdge k) s = .next t ∧ t.trk[k].acq = .steady ∧
      t.rd (TRK.base k) TRK.MOTION_STAT_LOSS = c ∧ (∃ x ∈ t.inFlight, x.src = 34 + 8 * k.val ∧ x.raisedAt = s.tick) ∧
      t.dev = s.dev := by
  obtain ⟨u, hu, -, hstep, -⟩ := crankEdge_classed hdue hstands hsync hmoving
  have h : LeftSync k c .steady u (loseSync k c u) :=
    loseSyncTo_left .steady c (by rw [hu.trk]; exact hsync) (by rw [hu.dev]; exact hepoch) (by rw [hu.dev]; exact hhand)
  exact ⟨_, hstep c hclass, by rw [h.trk, Tracker.leave_acq], by rw [h.loss, edgeClass_cause hclass], by rw [← hu.tick]; exact h.event,
    h.dev.trans hu.dev⟩

/-- On the controlling tracker of an open epoch it closes the epoch, where the checker cannot take over (R110, R112). -/
theorem lostEdge_closes {c : Nat} (hclass : edgeClass s k e = .lost c) (hcontrol : s.dev.control = k) (hopen : s.dev.epochOpen)
    (hhand : s.dev.handing = false) (hstay : canHandover s k = false) :
    ∃ t, exec (.trackerCrankEdge k) s = .next t ∧ t.dev.epochOpen = false ∧ t.trk[k].acq ≠ .sync := by
  obtain ⟨u, hu, -, hstep, -⟩ := crankEdge_classed hdue hstands hsync hmoving
  have h : Ended k (loseSync k c u) := loseSyncTo_ends (q := .steady) (by decide) c (by rw [hu.dev, hcontrol])
    (by rw [hu.dev, hopen]) (by rw [hu.dev, hhand]) (by rw [hu.canHandover, hstay])
  exact ⟨_, hstep c hclass, h.closed, h.out⟩

end
end
end Sys2Proof.Machine

namespace Sys2Proof.Machine

/-! ## What learning leaves of the trackers (R80 to R87)

The shadow and the signature are learned from every accepted edge. They write the learning registers of a tracker's page and
the rows, sums and copies a tracker keeps; nothing of where the tracker stands. -/

/-- A register of a tracker's page that an accepted edge writes: SHADOW_CFG, SHADOW_STAT, SIG_CFG, SIG_STAT, JUMP_LAST, JUMP_MAX. -/
def learnReg (a : Nat) : Bool := [0xE0, 0xE4, 0xF0, 0xF4, 0x150, 0x154].contains (a % 0x1000)

/-- A tracker but for what it is learning. -/
def Tracker.driven (x : Tracker) : Tracker :=
  { x with row := [], rowClean := false, revStamps := [], revOk := false, revPrev := none, sigSums := [], sigRevs := 0,
           sigNew := none }

/-- What drives the trackers and the device: all that learning goes by and does not change. -/
structure Drive where
  act : List (Nat × Word)
  ptab : List (Nat × Nat)
  committed : List CommitPend
  plan : Plan
  dev : Device
  pt : Nat
  trk : Fin 2 → Tracker
  reg : Nat → Word

def State.drive (s : State) : Drive :=
  ⟨s.act, s.ptab, s.committed, s.plan, s.dev, s.pt, fun j => s.trk[j].driven, fun a => if learnReg a then 0 else s.reg a⟩

section
variable {k : Fin 2} {e : EdgeIn} {s t u v : State}

section
variable (h : t.drive = s.drive)
include h

theorem Drive.committed_eq : t.committed = s.committed := congrArg Drive.committed h
theorem Drive.plan_eq : t.plan = s.plan := congrArg Drive.plan h
theorem Drive.dev_eq : t.dev = s.dev := congrArg Drive.dev h
theorem Drive.pt_eq : t.pt = s.pt := congrArg Drive.pt h
theorem Drive.trk_eq (j : Fin 2) : t.trk[j].driven = s.trk[j].driven := congrArg (fun d : Drive => d.trk j) h
theorem Drive.chart_eq (k : Fin 2) : t.chart k = s.chart k :=
  chart_of (congrArg Drive.act h) (congrArg Drive.ptab h) (Drive.plan_eq h) (congrArg Tracker.astern (Drive.trk_eq h k) : _)
    (congrArg Tracker.sigAct (Drive.trk_eq h k) : _) (congrArg Tracker.qAct (Drive.trk_eq h k) : _)
theorem Drive.reg_eq {a : Nat} (ha : learnReg a = false) : t.reg a = s.reg a := by
  have hr : (if learnReg a then 0 else t.reg a) = if learnReg a then 0 else s.reg a := congrArg (fun d : Drive => d.reg a) h
  rw [ha] at hr
  exact hr
theorem Drive.rd_eq {b : Nat} {f : Fld} (hf : learnReg (b + f.off) = false) : t.rd b f = s.rd b f := by
  rw [State.rd, State.rd, Drive.reg_eq h hf]

end

/-- A learning register of a tracker's page is written. -/
theorem wr_drive (s : State) (k : Fin 2) {f : Fld} (v : Nat) (hf : learnReg f.off) : (s.wr (TRK.base k) f v).drive = s.drive := by
  have hpage : learnReg (TRK.base k + f.off) = learnReg f.off := by
    unfold learnReg TRK.base
    congr 1
    omega
  have hreg : (fun a => if learnReg a then 0 else (s.wr (TRK.base k) f v).reg a) = fun a => if learnReg a then 0 else s.reg a := by
    funext a
    by_cases ha : a = TRK.base k + f.off
    · rw [ha, hpage, if_pos hf, if_pos hf]
    · rw [reg_wr_ne s f v ha]
  exact congrArg (fun r => (⟨s.act, s.ptab, s.committed, s.plan, s.dev, s.pt, fun j => s.trk[j].driven, r⟩ : Drive)) hreg

theorem bump_drive (s : State) (k : Fin 2) {f : Fld} (hf : learnReg f.off) : (s.bump (TRK.base k) f).drive = s.drive :=
  wr_drive s k _ hf

theorem updTrk_drive {f : Tracker → Tracker} (hf : (f s.trk[k]).driven = s.trk[k].driven) : (s.updTrk k f).drive = s.drive := by
  have htrk : (fun j : Fin 2 => (s.updTrk k f).trk[j].driven) = fun j : Fin 2 => s.trk[j].driven := by
    funext j
    rw [trk_updTrk]
    split
    next h => rw [← h, hf]
    · rfl
  exact congrArg (fun x => (⟨s.act, s.ptab, s.committed, s.plan, s.dev, s.pt, x, fun a => if learnReg a then 0 else s.reg a⟩ : Drive))
    htrk

/-! ### An edge is measured (R80 to R86, R101) -/

theorem noteJump_drive (k : Fin 2) (step : Nat) (s : State) : (noteJump k step s).drive = s.drive := by
  unfold noteJump
  dsimp only
  split
  · rw [wr_drive _ _ _ rfl, wr_drive _ _ _ rfl]
  · exact wr_drive _ _ _ rfl

theorem shadowMeasure_drive (k : Fin 2) (prev n : Nat) (b : Bool) (tj : Nat) (s : State) :
    (shadowMeasure k prev n b tj s).drive = s.drive := by
  unfold shadowMeasure
  dsimp only
  split
  · rfl
  · refine (updTrk_drive rfl).trans ?_
    split
    · exact bump_drive _ _ rfl
    · rfl

theorem addRevolution_drive (k : Fin 2) (t0 trev : Nat) (s : State) : (addRevolution k t0 trev s).drive = s.drive := by
  unfold addRevolution
  dsimp only
  split
  · rfl
  · exact updTrk_drive rfl

theorem signatureEdge_drive (k : Fin 2) (i stamp : Nat) (s : State) : (signatureEdge k i stamp s).drive = s.drive := by
  have hrevolution (c : Bool) (t0 trev : Nat) :
      (if c then addRevolution k t0 trev s else s.bump (TRK.base k) TRK.SIG_STAT_REJECTS).drive = s.drive := by
    cases c
    · exact bump_drive _ _ rfl
    · exact addRevolution_drive ..
  unfold signatureEdge
  dsimp only
  split
  · split
    · rfl
    · exact updTrk_drive rfl
  · split
    · exact updTrk_drive rfl
    · refine (updTrk_drive rfl).trans ?_
      split
      · exact hrevolution ..
      · rfl

end
end Sys2Proof.Machine

namespace Sys2Proof.Machine

/-! ## An accepted edge of a tracker in SYNC (R73, R79, R101, R115) -/

section
variable {k : Fin 2} {e : EdgeIn} {s t u v : State} {resume verify : Bool}

/-! ### Where a tracker stands

What a tracker's own cycle boundary leaves: the factors and the signature may be exchanged there, and the horizon follows. -/

/-- A tracker's last edge, its entry, and its state of motion. -/
structure Spot where
  acq : Acq
  pos : Nat
  half : Bool
  lastStamp : Nat
  period : Nat
  spurRun : Nat
  stalled : Bool
  verify : Bool

def Tracker.spot (x : Tracker) : Spot := ⟨x.acq, x.pos, x.half, x.lastStamp, x.period, x.spurRun, x.stalled, x.verify⟩

/-- Where the trackers stand, with the device, the shadows committed, and the registers learning does not write. -/
structure Place where
  committed : List CommitPend
  dev : Device
  spot : Fin 2 → Spot
  reg : Nat → Word

def State.place (s : State) : Place :=
  ⟨s.committed, s.dev, fun j => s.trk[j].spot, fun a => if learnReg a then 0 else s.reg a⟩

theorem place_of_drive (h : t.drive = s.drive) : t.place = s.place :=
  congrArg (fun d : Drive => (⟨d.committed, d.dev, fun j => (d.trk j).spot, d.reg⟩ : Place)) h

section
variable (h : t.place = s.place)
include h

theorem Place.committed_eq : t.committed = s.committed := congrArg Place.committed h
theorem Place.dev_eq : t.dev = s.dev := congrArg Place.dev h
theorem Place.spot_eq (j : Fin 2) : t.trk[j].spot = s.trk[j].spot := congrArg (fun p : Place => p.spot j) h
theorem Place.rd_eq {b : Nat} {f : Fld} (hf : learnReg (b + f.off) = false) : t.rd b f = s.rd b f := by
  have hr : (if learnReg (b + f.off) then 0 else t.reg (b + f.off)) = if learnReg (b + f.off) then 0 else s.reg (b + f.off) :=
    congrArg (fun p : Place => p.reg (b + f.off)) h
  rw [hf] at hr
  exact congrArg f.of hr

end

theorem updTrk_place {f : Tracker → Tracker} (hf : (f s.trk[k]).spot = s.trk[k].spot) : (s.updTrk k f).place = s.place := by
  have htrk : (fun j : Fin 2 => (s.updTrk k f).trk[j].spot) = fun j : Fin 2 => s.trk[j].spot := by
    funext j
    rw [trk_updTrk]
    split
    next h => rw [← h, hf]
    · rfl
  exact congrArg (fun x => (⟨s.committed, s.dev, x, fun a => if learnReg a then 0 else s.reg a⟩ : Place)) htrk

theorem wr_place (s : State) (k : Fin 2) {f : Fld} (v : Nat) (hf : learnReg f.off) : (s.wr (TRK.base k) f v).place = s.place :=
  place_of_drive (wr_drive s k v hf)
theorem bump_place (s : State) (k : Fin 2) {f : Fld} (hf : learnReg f.off) : (s.bump (TRK.base k) f).place = s.place :=
  place_of_drive (bump_drive s k hf)

theorem moveHorizon_place (k : Fin 2) (s : State) : (moveHorizon k s).place = s.place := by
  unfold moveHorizon
  dsimp only
  split
  · rfl
  · split
    · exact updTrk_place rfl
    · split <;> exact updTrk_place rfl

theorem sigResetAct_place (k : Fin 2) (s : State) : (sigResetAct k s).place = s.place := by
  rw [sigResetAct, moveHorizon_place, wr_place _ _ _ rfl, sigClear, updTrk_place rfl]

theorem signatureBoundary_place (k : Fin 2) (s : State) : (signatureBoundary k s).place = s.place := by
  unfold signatureBoundary
  dsimp only
  split
  · exact sigResetAct_place k s
  · split
    · rfl
    · rw [moveHorizon_place, updTrk_place rfl, bump_place _ _ rfl]

theorem shadowBoundary_place (k : Fin 2) (s : State) : (shadowBoundary k s).place = s.place := by
  unfold shadowBoundary toggleBank
  dsimp only
  rw [wr_place _ _ _ rfl, updTrk_place rfl]
  split
  · rw [wr_place _ _ _ rfl, shadowClear, updTrk_place rfl]
  · split
    · exact updTrk_place rfl
    · exact bump_place _ _ rfl

theorem ownBoundary_place (k : Fin 2) (h : s.committed = []) : (ownBoundary k s).place = s.place := by
  have hlearn : (if learns s k then signatureBoundary k (shadowBoundary k s)
      else if s.flag (TRK.base k) TRK.SIG_CFG_RESET then sigResetAct k s else s).place = s.place := by
    split
    · rw [signatureBoundary_place, shadowBoundary_place]
    · split
      · exact sigResetAct_place k s
      · rfl
  unfold ownBoundary
  dsimp only
  rw [updTrk_place rfl, actCommitted_of_none _ ((Place.committed_eq hlearn).trans h), hlearn]

theorem ownPassed_place (k : Fin 2) (before after : Nat) (h : s.committed = []) :
    (ownPassed k before after s).place = s.place := by
  unfold ownPassed
  dsimp only
  split
  · exact ownBoundary_place k h
  · rfl

theorem ownPassed_of_lt {before after : Nat} (h : travelPos s.trk[k].astern (cycleLen s k) before +
    travel s.trk[k].astern (cycleLen s k) before after < cycleLen s k) : ownPassed k before after s = s :=
  if_neg (Nat.not_le.2 h)

/-! ### The edge becomes the expected entry -/

/-- The entry a tracker in SYNC expects next, and its half. -/
def awaitedEntry (s : State) (k : Fin 2) : Nat := nextIdx s.trk[k].astern (teeth s k) s.trk[k].pos
def awaitedHalf (s : State) (k : Fin 2) : Bool := nextHalf s.trk[k].astern (teeth s k) s.trk[k].pos s.trk[k].half

/-- The accumulator as an accepted edge loads it. -/
def edgeLoad (s : State) (k : Fin 2) (e : EdgeIn) : Tracker :=
  loadFrom s k (awaitedEntry s k) (awaitedHalf s k) e.stamp (e.stamp - s.trk[k].lastStamp) s.pt

/-- The edge is measured: its step, the shadow's row and the signature's revolution. -/
def measured (k : Fin 2) (e : EdgeIn) (s : State) : State :=
  let step := jumpStep s.trk[k].astern (cycleLen s k) (presentedAt s k e.stamp) (trueAngle s k (awaitedEntry s k) (awaitedHalf s k))
  signatureEdge k (awaitedEntry s k) e.stamp (shadowMeasure k s.trk[k].pos (awaitedEntry s k) (awaitedHalf s k)
    (e.stamp - s.trk[k].lastStamp) (noteJump k step s))

/-- The tracker with the edge as its last one; `y` is its accumulator as loaded. -/
def Tracker.accepts (x y : Tracker) (teeth : Nat) (e : EdgeIn) (resume verify : Bool) : Tracker :=
  { y.note teeth e with
    epochEdges := x.epochEdges + 1
    stalled := false
    held := none
    verify := verify
    slow := x.slow || resume
    undo := some (x.pos, x.half, x.lastStamp, x.period) }

/-- The edge is accepted, before the device and the tracker's own boundary follow. -/
def accepted (k : Fin 2) (e : EdgeIn) (resume verify : Bool) (s : State) : State :=
  let m := measured k e s
  let u := m.updTrk k fun _ => s.trk[k].accepts
    (loadFrom m k (awaitedEntry s k) (awaitedHalf s k) e.stamp (e.stamp - s.trk[k].lastStamp) m.pt) (teeth m k) e resume
    (verify || (s.trk[k].verify && !(isFeature s k (awaitedEntry s k) && !resume)))
  if speedMet u k u.trk[k].tpred then u.updTrk k (fun x => { x with slow := false }) else u

theorem acceptSync_eq (k : Fin 2) (e : EdgeIn) (resume verify : Bool) (s : State) : acceptSync k e resume verify s =
    let device := decide (s.dev.control = k) && s.dev.epochOpen
    let truth := trueAngle s k (awaitedEntry s k) (awaitedHalf s k)
    let a := accepted k e resume verify s
    let d := if device then deviceStep k (nowPos s) (devAngle s) truth (trimSnapshot k truth a) else a
    let o := ownPassed k (presented s.trk[k]) (presented d.trk[k]) d
    if device ∧ o.dev.epochOpen then
      envelopeEdge (awaitedEntry s k) (speedOf (pitch s k (awaitedEntry s k)) (e.stamp - s.trk[k].lastStamp)) e.stamp resume o
    else o := rfl

theorem measured_drive (k : Fin 2) (e : EdgeIn) (s : State) : (measured k e s).drive = s.drive := by
  rw [measured, signatureEdge_drive, shadowMeasure_drive, noteJump_drive]

/-- An edge has been accepted as the expected entry. -/
structure Accepted (k : Fin 2) (e : EdgeIn) (verify : Bool) (s t : State) : Prop where
  acq : t.trk[k].acq = s.trk[k].acq
  pos : t.trk[k].pos = awaitedEntry s k
  half : t.trk[k].half = awaitedHalf s k
  lastStamp : t.trk[k].lastStamp = e.stamp
  period : t.trk[k].period = e.stamp - s.trk[k].lastStamp
  spurRun : t.trk[k].spurRun = 0
  stalled : t.trk[k].stalled = false
  verify : verify = true → t.trk[k].verify = true

theorem Accepted.of_place (h : Accepted k e verify s u) (hp : t.place = u.place) : Accepted k e verify s t := by
  have hspot := Place.spot_eq hp k
  exact {
    acq := (congrArg Spot.acq hspot).trans h.acq
    pos := (congrArg Spot.pos hspot).trans h.pos
    half := (congrArg Spot.half hspot).trans h.half
    lastStamp := (congrArg Spot.lastStamp hspot).trans h.lastStamp
    period := (congrArg Spot.period hspot).trans h.period
    spurRun := (congrArg Spot.spurRun hspot).trans h.spurRun
    stalled := (congrArg Spot.stalled hspot).trans h.stalled
    verify := fun hv => (congrArg Spot.verify hspot).trans (h.verify hv) }

/-- What the acceptance leaves as it was, beside the tracker's own position. -/
structure AcceptedRest (k : Fin 2) (e : EdgeIn) (s t : State) : Prop where
  acc : t.trk[k].acc = (edgeLoad s k e).acc
  chart : t.chart k = s.chart k
  dev : t.dev = s.dev
  plan : t.plan = s.plan
  committed : t.committed = s.committed
  rd : ∀ {b : Nat} {f : Fld}, learnReg (b + f.off) = false → t.rd b f = s.rd b f

theorem accepted_spec (k : Fin 2) (e : EdgeIn) (resume verify : Bool) (s : State) :
    Accepted k e verify s (accepted k e resume verify s) ∧ AcceptedRest k e s (accepted k e resume verify s) := by
  have hm := measured_drive k e s
  obtain ⟨m, hmeq⟩ : ∃ m, m = measured k e s := ⟨_, rfl⟩
  rw [← hmeq] at hm
  have htrk := Drive.trk_eq hm k
  have hchart := Drive.chart_eq hm k
  obtain ⟨y, hy⟩ : ∃ y, y = loadFrom m k (awaitedEntry s k) (awaitedHalf s k) e.stamp (e.stamp - s.trk[k].lastStamp) m.pt :=
    ⟨_, rfl⟩
  have hyacq : y.acq = s.trk[k].acq := by rw [hy]; exact (congrArg Tracker.acq htrk : _)
  have hypos : y.pos = awaitedEntry s k := by rw [hy]; rfl
  have hyhalf : y.half = awaitedHalf s k := by rw [hy]; rfl
  have hylast : y.lastStamp = s.trk[k].lastStamp := by rw [hy]; exact (congrArg Tracker.lastStamp htrk : _)
  have hyacc : y.acc = (edgeLoad s k e).acc := by rw [hy, Chart.loadFrom_acc hchart, Drive.pt_eq hm, edgeLoad]
  have hyastern : y.astern = m.trk[k].astern := by rw [hy]; rfl
  have hysig : y.sigAct = m.trk[k].sigAct := by rw [hy]; rfl
  have hyq : y.qAct = m.trk[k].qAct := by rw [hy]; rfl
  obtain ⟨z, hz⟩ : ∃ z, z = s.trk[k].accepts y (teeth m k) e resume
    (verify || (s.trk[k].verify && !(isFeature s k (awaitedEntry s k) && !resume))) := ⟨_, rfl⟩
  have hshape : ∃ b, accepted k e resume verify s = m.updTrk k (fun _ => { z with slow := b }) := by
    have hself : (m.updTrk k fun _ => z).updTrk k (fun x => { x with slow := false }) = m.updTrk k fun _ => { z with slow := false } := by
      rw [State.updTrk, State.updTrk_self, State.updTrk, State.updTrk]
      simp only [Vector.set_set]
    unfold accepted
    dsimp only
    rw [← hmeq, ← hy, ← hz]
    split
    · exact ⟨false, hself⟩
    · exact ⟨z.slow, rfl⟩
  obtain ⟨b, hb⟩ := hshape
  have htrk' : (accepted k e resume verify s).trk[k] = { z with slow := b } := by rw [hb, State.updTrk_self]
  rw [hz] at htrk'
  refine ⟨{
    acq := by rw [htrk']; exact hyacq
    pos := by rw [htrk']; exact hypos
    half := by rw [htrk']; exact hyhalf
    lastStamp := by rw [htrk']; rfl
    period := by rw [htrk']; exact congrArg (e.stamp - ·) hylast
    spurRun := by rw [htrk']; rfl
    stalled := by rw [htrk']; rfl
    verify := fun hv => (congrArg Tracker.verify htrk').trans ((Bool.or_eq_true _ _).mpr (Or.inl hv)) }, {
    acc := by rw [htrk']; exact hyacc
    chart := ?_
    dev := by rw [hb, State.updTrk_dev]; exact Drive.dev_eq hm
    plan := by rw [hb, State.updTrk_plan]; exact Drive.plan_eq hm
    committed := by rw [hb, State.updTrk_committed]; exact Drive.committed_eq hm
    rd := fun hf => by rw [hb, rd_updTrk, Drive.rd_eq hm hf] }⟩
  refine (chart_of ?_ ?_ ?_ ?_ ?_ ?_).trans hchart
  · rw [hb]; rfl
  · rw [hb]; rfl
  · rw [hb]; rfl
  · rw [htrk']; exact hyastern
  · rw [htrk']; exact hysig
  · rw [htrk']; exact hyq

end
end Sys2Proof.Machine

namespace Sys2Proof.Machine

/-! ## The rows of R99 to R115 that accept an edge -/

section
variable {k : Fin 2} {e : EdgeIn} {s t u v : State} {resume verify : Bool}

theorem Chart.awaitedEntry_eq (h : t.chart k = s.chart k) (hpos : t.trk[k].pos = s.trk[k].pos) :
    awaitedEntry t k = awaitedEntry s k := by
  rw [awaitedEntry, awaitedEntry, Chart.astern_eq h, Chart.teeth_eq h, hpos]

theorem Chart.awaitedHalf_eq (h : t.chart k = s.chart k) (hpos : t.trk[k].pos = s.trk[k].pos)
    (hhalf : t.trk[k].half = s.trk[k].half) : awaitedHalf t k = awaitedHalf s k := by
  rw [awaitedHalf, awaitedHalf, Chart.astern_eq h, Chart.teeth_eq h, hpos, hhalf]

/-- Off the device's path, the tracker's own boundary is all that can follow an accepted edge. -/
theorem acceptSync_alone (hepoch : s.dev.control ≠ k ∨ s.dev.epochOpen = false) : acceptSync k e resume verify s =
    ownPassed k (presented s.trk[k]) (presented (accepted k e resume verify s).trk[k]) (accepted k e resume verify s) := by
  have hdevice : (decide (s.dev.control = k) && s.dev.epochOpen) = false := by
    rcases hepoch with h | h
    · rw [decide_eq_false h, Bool.false_and]
    · rw [h, Bool.and_false]
  rw [acceptSync_eq]
  dsimp only
  rw [hdevice, if_neg Bool.false_ne_true, if_neg fun h => Bool.false_ne_true h.1]

theorem acceptSync_alone_accepted (hepoch : s.dev.control ≠ k ∨ s.dev.epochOpen = false) (hc : s.committed = []) :
    Accepted k e verify s (acceptSync k e resume verify s) ∧ (acceptSync k e resume verify s).dev = s.dev ∧
      ∀ {b : Nat} {f : Fld}, learnReg (b + f.off) = false → (acceptSync k e resume verify s).rd b f = s.rd b f := by
  obtain ⟨ha, hrest⟩ := accepted_spec k e resume verify s
  have hplace := ownPassed_place k (presented s.trk[k]) (presented (accepted k e resume verify s).trk[k]) (hrest.committed.trans hc)
  rw [acceptSync_alone hepoch]
  exact ⟨ha.of_place hplace, (Place.dev_eq hplace).trans hrest.dev, fun hf => (Place.rd_eq hplace hf).trans (hrest.rd hf)⟩

/-- Where it crosses no boundary of its own, the accumulator stands as the edge has loaded it (R73). -/
theorem acceptSync_alone_acc (hepoch : s.dev.control ≠ k ∨ s.dev.epochOpen = false)
    (hwithin : travelPos s.trk[k].astern (cycleLen s k) (presented s.trk[k]) + travel s.trk[k].astern (cycleLen s k)
      (presented s.trk[k]) (presented (edgeLoad s k e)) < cycleLen s k) :
    (acceptSync k e resume verify s).trk[k].acc = (edgeLoad s k e).acc := by
  obtain ⟨-, hrest⟩ := accepted_spec k e resume verify s
  have hload : presented (accepted k e resume verify s).trk[k] = presented (edgeLoad s k e) := by rw [presented, presented, hrest.acc]
  rw [acceptSync_alone hepoch, ownPassed_of_lt, hrest.acc]
  rw [Chart.astern_eq hrest.chart, Chart.cycleLen_eq hrest.chart, hload]
  exact hwithin

section
variable (h : Taken k e s u)
include h

theorem Taken.awaitedEntry : Machine.awaitedEntry u k = Machine.awaitedEntry s k := Chart.awaitedEntry_eq h.chart (by rw [h.trk])
theorem Taken.awaitedHalf : Machine.awaitedHalf u k = Machine.awaitedHalf s k :=
  Chart.awaitedHalf_eq h.chart (by rw [h.trk]) (by rw [h.trk])
theorem Taken.edgeLoad_acc : (edgeLoad u k e).acc = (edgeLoad s k e).acc := by
  have hlast : u.trk[k].lastStamp = s.trk[k].lastStamp := by rw [h.trk]
  rw [edgeLoad, edgeLoad, Chart.loadFrom_acc h.chart, h.awaitedEntry, h.awaitedHalf, hlast, h.pt]

end

section
variable (hdue : crankDue s k = some e) (hstands : s.ptStands = false) (hsync : s.trk[k].acq = .sync)
include hdue hstands hsync

/-- An accepted edge becomes the expected entry and loads the accumulator (R73, R99). -/
theorem acceptedEdge_loads (hmoving : s.trk[k].stalled = false) (hclass : edgeClass s k e = .accepted)
    (hepoch : s.dev.control ≠ k ∨ s.dev.epochOpen = false) (hc : s.committed = []) :
    ∃ t, exec (.trackerCrankEdge k) s = .next t ∧ t.trk[k].acq = .sync ∧ t.trk[k].pos = awaitedEntry s k ∧
      t.trk[k].half = awaitedHalf s k ∧ t.trk[k].lastStamp = e.stamp ∧ t.trk[k].period = e.stamp - s.trk[k].lastStamp ∧
      t.trk[k].spurRun = 0 ∧
      (travelPos s.trk[k].astern (cycleLen s k) (presented s.trk[k]) + travel s.trk[k].astern (cycleLen s k)
        (presented s.trk[k]) (presented (edgeLoad s k e)) < cycleLen s k → t.trk[k].acc = (edgeLoad s k e).acc) := by
  obtain ⟨u, hu, -, -, hstep⟩ := crankEdge_classed hdue hstands hsync hmoving
  have hepoch' : u.dev.control ≠ k ∨ u.dev.epochOpen = false := by rw [hu.dev]; exact hepoch
  obtain ⟨h, -, -⟩ := acceptSync_alone_accepted (e := e) (resume := false) (verify := false) hepoch' (hu.committed.trans hc)
  have hload : presented (edgeLoad u k e) = presented (edgeLoad s k e) := by rw [presented, presented, hu.edgeLoad_acc]
  have hown : presented u.trk[k] = presented s.trk[k] := by rw [hu.trk]; rfl
  refine ⟨_, hstep hclass, by rw [h.acq, hu.trk]; exact hsync, by rw [h.pos, hu.awaitedEntry], by rw [h.half, hu.awaitedHalf],
    h.lastStamp, by rw [h.period, hu.trk], h.spurRun, fun hwithin => ?_⟩
  rw [acceptSync_alone_acc hepoch', hu.edgeLoad_acc]
  rw [Chart.astern_eq hu.chart, Chart.cycleLen_eq hu.chart, hown, hload]
  exact hwithin

variable (hstalled : s.trk[k].stalled)
include hstalled

/-- After a stall the edge of a direction-coded wheel is held for its class (R115). -/
theorem stalledEdge_held (hsensor : sensorOf s (crankWheel s k) = 3) :
    ∃ t, exec (.trackerCrankEdge k) s = .next t ∧ t.trk[k].held = some e ∧ t.trk[k].stalled ∧
      t.trk[k].lastStamp = s.trk[k].lastStamp ∧ t = { (if s.dev.control = k then s.fire 0x50 else s) with trk := t.trk } := by
  obtain ⟨u, hu, hevent, hstep⟩ := crankEdge_taken hdue hstands (by rw [hsync]; decide)
  have hwheel : sensorOf u (crankWheel u k) = 3 := by rw [Chart.crankWheel_eq hu.chart, Chart.sensorOf_eq hu.chart, hsensor]
  rw [if_pos hsync, syncEdge, if_pos (by rw [hu.trk]; exact hstalled), if_pos hwheel] at hstep
  have htrk : (u.updTrk k fun x => { x with held := some e }).trk[k] = { u.trk[k] with held := some e } := State.updTrk_self ..
  rw [hu.trk] at htrk
  refine ⟨_, hstep, by rw [htrk], by rw [htrk]; exact hstalled, by rw [htrk], ?_⟩
  have hset (w : State) : u = { w with trk := u.trk } → (u.updTrk k fun x => { x with held := some e }) =
      { w with trk := (u.updTrk k fun x => { x with held := some e }).trk } := fun h => by
    rw [h]
    rfl
  exact hset _ hevent

/-- After a stall any other edge resumes motion, to be verified (R115, R116). -/
theorem stalledEdge_resumes (hsensor : sensorOf s (crankWheel s k) ≠ 3) (hepoch : s.dev.control ≠ k ∨ s.dev.epochOpen = false)
    (hst : s.dev.st ≠ .stalled) (hc : s.committed = []) (hdisarm : s.flag PLAN.base PLAN.CMD_DISARM = false) :
    ∃ t, exec (.trackerCrankEdge k) s = .next t ∧ t.trk[k].acq = .sync ∧ t.trk[k].stalled = false ∧ t.trk[k].verify ∧
      t.trk[k].pos = awaitedEntry s k ∧ t.trk[k].lastStamp = e.stamp ∧
      t.rd (TRK.base k) TRK.MOTION_CNT_RESUMES = sat TRK.MOTION_CNT_RESUMES.top (s.rd (TRK.base k) TRK.MOTION_CNT_RESUMES + 1) := by
  obtain ⟨u, hu, hstep⟩ := crankEdge_judged hdue hstands hsync
  have hwheel : sensorOf u (crankWheel u k) ≠ 3 := by
    rw [Chart.crankWheel_eq hu.chart, Chart.sensorOf_eq hu.chart]
    exact hsensor
  rw [syncEdge, if_pos (by rw [hu.trk]; exact hstalled), if_neg hwheel] at hstep
  obtain ⟨v, hv⟩ : ∃ v, v = u.bump (TRK.base k) TRK.MOTION_CNT_RESUMES := ⟨_, rfl⟩
  have hdev : v.dev = s.dev := by rw [hv, State.bump_dev, hu.dev]
  have htrk : v.trk = u.trk := by rw [hv, State.bump_trk]
  have hchart : v.chart k = u.chart k :=
    chart_of (by rw [hv, State.bump_act]) (by rw [hv, State.bump_ptab]) (by rw [hv, State.bump_plan]) (by rw [htrk]) (by rw [htrk])
      (by rw [htrk])
  have hpage (k : Fin 2) : learnReg (TRK.base k + TRK.MOTION_CNT_RESUMES.off) = false ∧
      PLAN.base + PLAN.CMD_DISARM.off ≠ TRK.base k + TRK.MOTION_CNT_RESUMES.off := by
    revert k
    decide
  obtain ⟨h, hd, hrd⟩ := acceptSync_alone_accepted (k := k) (e := e) (s := v) (resume := true) (verify := true)
    (by rw [hdev]; exact hepoch) (by rw [hv, State.bump_committed, hu.committed, hc])
  have hflag : (acceptSync k e true true v).flag PLAN.base PLAN.CMD_DISARM = false := by
    rw [State.flag, hrd (by decide), hv, State.rd, reg_bump_ne _ _ (hpage k).2, hu.reg]
    exact hdisarm
  have hresume : resumeMotion k e true u = acceptSync k e true true v := by
    unfold resumeMotion
    dsimp only
    rw [← hv, hdev, if_neg fun hr => hst hr.2]
    exact if_neg fun hp => Bool.false_ne_true (hflag.symm.trans hp.1)
  rw [hresume] at hstep
  exact ⟨_, hstep, by rw [h.acq, htrk, hu.trk]; exact hsync, h.stalled, h.verify rfl,
    by rw [h.pos, Chart.awaitedEntry_eq hchart (by rw [htrk]), hu.awaitedEntry], h.lastStamp,
    by rw [hrd (hpage k).1, hv, rd_bump_self _ _ _ (by decide), hu.rd]⟩

end
end
end Sys2Proof.Machine

namespace Sys2Proof.Machine

/-! ## An accepted edge of the tracker that carries the epoch (R73, R101, R102, R121) -/

section
variable {k : Fin 2} {e : EdgeIn} {s t u v : State} {resume verify : Bool}

theorem devLen_of (hcontrol : s.dev.control = k) : devLen s = cycleLen s k := by rw [devLen, hcontrol]

/-- With no furrow and no slot, a sweep that ends before the cycle boundary meets nothing. -/
theorem sweepEvents_of_none {stop : Nat} (hfurrows : s.plan.furrows = []) (hslots : s.plan.slotDef = [])
    (hstop : stop ≤ (s.dev.cycNo + 1) * devLen s) : sweepEvents s stop = [] := by
  unfold sweepEvents
  rw [hfurrows, hslots]
  simp only [List.filterMap_nil, List.filter_nil, List.map_nil, List.append_nil, List.filter_cons, decide_eq_true_eq,
    if_neg (Nat.not_lt.2 hstop)]

theorem sweepLoop_of_none (n stop tick : Nat) (late : Nat → Option Nat) (h : sweepEvents s stop = []) :
    sweepLoop n stop tick late s = s := by
  cases n with
  | zero => rfl
  | succ n =>
    rw [sweepLoop, h]
    rfl

/-- A sweep that meets nothing notes the ends it passes, and leaves the trackers and the device. -/
theorem sweepTo_of_none {stop tick : Nat} (hfurrows : s.plan.furrows = []) (hslots : s.plan.slotDef = [])
    (hstop : stop ≤ (s.dev.cycNo + 1) * devLen s) : (sweepTo stop tick s).dev = s.dev ∧ (sweepTo stop tick s).trk = s.trk ∧
      (sweepTo stop tick s).act = s.act := by
  have hends : (sweepEnds stop tick s).dev = s.dev ∧ (sweepEnds stop tick s).trk = s.trk ∧ (sweepEnds stop tick s).act = s.act ∧
      (sweepEnds stop tick s).plan.furrows = s.plan.furrows ∧ (sweepEnds stop tick s).plan.slotDef = s.plan.slotDef :=
    ⟨rfl, rfl, rfl, rfl, rfl⟩
  obtain ⟨hd, ht, ha, hf, hs⟩ := hends
  have hlen : devLen (sweepEnds stop tick s) = devLen s := by
    rw [devLen, devLen, hd, cycleLen, cycleLen, cyc720, cyc720, State.on, State.on, cfg_of_act ha rfl]
  unfold sweepTo
  split
  · rw [sweepLoop_of_none _ _ _ _ (sweepEvents_of_none (hf.trans hfurrows) (hs.trans hslots) (by rw [hd, hlen]; exact hstop))]
    exact ⟨hd, ht, ha⟩
  · exact ⟨rfl, rfl, rfl⟩

/-- The device angle steps ahead to the true angle and on, with nothing in its way: what it held is released (R91, R102). -/
theorem deviceStep_of_none {before old truth : Nat} (hcontrol : s.dev.control = k) (hstep : s.dev.step = none)
    (hfurrows : s.plan.furrows = []) (hslots : s.plan.slotDef = [])
    (hahead : 2 * travel s.trk[k].astern (cycleLen s k) old truth < cycleLen s k)
    (hwithin : before + travel s.trk[k].astern (cycleLen s k) old truth +
      travel s.trk[k].astern (cycleLen s k) truth (presented s.trk[k]) < (s.dev.cycNo + 1) * cycleLen s k) :
    (deviceStep k before old truth s).dev = { s.dev with hold := none } ∧ (deviceStep k before old truth s).trk = s.trk ∧
      (deviceStep k before old truth s).act = s.act := by
  obtain ⟨w, hw⟩ : ∃ w, w = s.updDev (fun x => { x with hold := none }) := ⟨_, rfl⟩
  have hwdev : w.dev = { s.dev with hold := none } := by rw [hw]; rfl
  have hwtrk : w.trk = s.trk := by rw [hw]; rfl
  have hwact : w.act = s.act := by rw [hw]; rfl
  have hwplan : w.plan = s.plan := by rw [hw]; rfl
  have hlen {v : State} (hd : v.dev = w.dev) (ha : v.act = w.act) : devLen v = cycleLen s k := by
    rw [devLen_of (k := k) (by rw [hd, hwdev]; exact hcontrol), cycleLen, cycleLen, cyc720, cyc720, State.on, State.on,
      cfg_of_act (ha.trans hwact) rfl]
  obtain ⟨hd, ht, ha⟩ := sweepTo_of_none (s := w) (stop := before + travel s.trk[k].astern (cycleLen s k) old truth)
    (tick := max w.pt (edgeKnown w)) (by rw [hwplan]; exact hfurrows) (by rw [hwplan]; exact hslots)
    (by rw [hlen rfl rfl, hwdev]; exact (Nat.le_add_right _ _).trans (Nat.le_of_lt hwithin))
  have hreach : deviceStep k before old truth s =
      sweepTo (before + travel s.trk[k].astern (cycleLen s k) old truth) (max w.pt (edgeKnown w)) w := by
    unfold deviceStep
    rw [hstep, Option.isSome_none, if_neg Bool.false_ne_true]
    dsimp only
    rw [if_pos hahead, ← hw]
    refine if_neg fun hpast => ?_
    rw [hlen hd ha, hd, hwdev] at hpast
    exact Nat.not_le.2 hwithin hpast.2
  rw [hreach]
  exact ⟨hd.trans hwdev, ht.trans hwtrk, ha.trans hwact⟩

/-- The trims are of no account to the trackers and to the plan (R265). -/
theorem trimSnapshot_keeps (k : Fin 2) (angle : Nat) (s : State) : (trimSnapshot k angle s).trk = s.trk ∧
    (trimSnapshot k angle s).dev = s.dev ∧ (trimSnapshot k angle s).plan = s.plan ∧ (trimSnapshot k angle s).act = s.act := by
  have hpick (c d : Prop) [Decidable c] [Decidable d] (n : Nat) (l : Trims) (u : State)
      (hu : u = if c then s else if d then snapshotTrims n s else { s with trims := l }) :
      u.trk = s.trk ∧ u.dev = s.dev ∧ u.plan = s.plan ∧ u.act = s.act := by
    rw [hu]
    split
    · exact ⟨rfl, rfl, rfl, rfl⟩
    · split <;> exact ⟨rfl, rfl, rfl, rfl⟩
  exact hpick _ _ _ _ _ rfl

theorem devAngle_of (hcontrol : s.dev.control = k) : devAngle s = s.dev.hold.getD (presented s.trk[k]) := by
  subst hcontrol
  rfl

theorem nowPos_of (hcontrol : s.dev.control = k) :
    nowPos s = s.dev.cycNo * cycleLen s k + travelPos s.trk[k].astern (cycleLen s k) (devAngle s) := by
  subst hcontrol
  rfl

theorem Accepted.of_course (h : Accepted k e verify s u) (hc : t.trk[k].course = u.trk[k].course) : Accepted k e verify s t where
  acq := (congrArg Tracker.acq hc).trans h.acq
  pos := (congrArg Tracker.pos hc).trans h.pos
  half := (congrArg Tracker.half hc).trans h.half
  lastStamp := (congrArg Tracker.lastStamp hc).trans h.lastStamp
  period := (congrArg Tracker.period hc).trans h.period
  spurRun := (congrArg Tracker.spurRun hc).trans h.spurRun
  stalled := (congrArg Tracker.stalled hc).trans h.stalled
  verify hv := (congrArg Tracker.verify hc).trans (h.verify hv)

theorem acc_of_course (hc : t.trk[k].course = s.trk[k].course) : t.trk[k].acc = s.trk[k].acc := (congrArg Tracker.acc hc : _)

/-- On the controlling tracker of an open epoch the device steps along, and crosses no boundary (R73, R102). -/
theorem acceptSync_of_control (hcontrol : s.dev.control = k) (hopen : s.dev.epochOpen) (hstep : s.dev.step = none)
    (hfurrows : s.plan.furrows = []) (hslots : s.plan.slotDef = [])
    (hahead : 2 * travel s.trk[k].astern (cycleLen s k) (devAngle s) (trueAngle s k (awaitedEntry s k) (awaitedHalf s k)) <
      cycleLen s k)
    (hwithin : nowPos s + travel s.trk[k].astern (cycleLen s k) (devAngle s) (trueAngle s k (awaitedEntry s k) (awaitedHalf s k)) +
      travel s.trk[k].astern (cycleLen s k) (trueAngle s k (awaitedEntry s k) (awaitedHalf s k)) (presented (edgeLoad s k e)) <
        (s.dev.cycNo + 1) * cycleLen s k)
    (hown : travelPos s.trk[k].astern (cycleLen s k) (presented s.trk[k]) + travel s.trk[k].astern (cycleLen s k)
      (presented s.trk[k]) (presented (edgeLoad s k e)) < cycleLen s k) :
    Accepted k e verify s (acceptSync k e resume verify s) ∧
      (acceptSync k e resume verify s).trk[k].acc = (edgeLoad s k e).acc ∧
      (acceptSync k e resume verify s).dev.epochOpen ∧ (acceptSync k e resume verify s).dev.hold = none := by
  obtain ⟨haccepted, hrest⟩ := accepted_spec k e resume verify s
  obtain ⟨truth, htruth⟩ : ∃ a, a = trueAngle s k (awaitedEntry s k) (awaitedHalf s k) := ⟨_, rfl⟩
  obtain ⟨a, ha⟩ : ∃ a, a = accepted k e resume verify s := ⟨_, rfl⟩
  rw [← ha] at haccepted hrest
  rw [← htruth] at hahead hwithin
  obtain ⟨htrk, hdev, hplan, hact⟩ := trimSnapshot_keeps k truth a
  obtain ⟨b, hb⟩ : ∃ b, b = trimSnapshot k truth a := ⟨_, rfl⟩
  rw [← hb] at htrk hdev hplan hact
  have hload : presented a.trk[k] = presented (edgeLoad s k e) := by rw [presented, presented, hrest.acc]
  have hastern : b.trk[k].astern = s.trk[k].astern := by rw [htrk, Chart.astern_eq hrest.chart]
  have hlen {v : State} (hv : v.act = a.act) : cycleLen v k = cycleLen s k := by
    rw [← Chart.cycleLen_eq hrest.chart, cycleLen, cycleLen, cyc720, cyc720, State.on, State.on, cfg_of_act hv rfl]
  obtain ⟨hd, ht, hact'⟩ := deviceStep_of_none (s := b) (k := k) (before := nowPos s) (old := devAngle s) (truth := truth)
    (by rw [hdev, hrest.dev, hcontrol]) (by rw [hdev, hrest.dev, hstep]) (by rw [hplan, hrest.plan, hfurrows])
    (by rw [hplan, hrest.plan, hslots]) (by rw [hastern, hlen hact]; exact hahead)
    (by rw [hastern, hlen hact, htrk, hload, hdev, hrest.dev]; exact hwithin)
  obtain ⟨d, hdeq⟩ : ∃ d, d = deviceStep k (nowPos s) (devAngle s) truth b := ⟨_, rfl⟩
  rw [← hdeq] at hd ht hact'
  have hpassed : ownPassed k (presented s.trk[k]) (presented d.trk[k]) d = d := by
    refine ownPassed_of_lt ?_
    rw [ht, hastern, hlen (hact'.trans hact), htrk, hload]
    exact hown
  have hopened : d.dev.epochOpen := by rw [hd, hdev, hrest.dev]; exact hopen
  have hfinal : acceptSync k e resume verify s = envelopeEdge (awaitedEntry s k)
      (speedOf (pitch s k (awaitedEntry s k)) (e.stamp - s.trk[k].lastStamp)) e.stamp resume d := by
    rw [acceptSync_eq]
    dsimp only
    rw [hcontrol, hopen, decide_eq_true rfl, Bool.and_true, if_pos rfl, ← htruth, ← ha, ← hb, ← hdeq, hpassed,
      if_pos ⟨rfl, hopened⟩]
  have hcourse : (acceptSync k e resume verify s).course = d.course := by rw [hfinal, envelopeEdge_course]
  have hself : (acceptSync k e resume verify s).trk[k].course = a.trk[k].course := (Course.trk_eq hcourse k).trans (by rw [ht, htrk])
  exact ⟨haccepted.of_course hself, (acc_of_course hself).trans hrest.acc, (Course.epochOpen_eq hcourse).trans hopened,
    (Course.hold_eq hcourse).trans (by rw [hd])⟩

/-- An accepted edge of the tracker that carries the epoch: the epoch runs on at the angle it has loaded (R73, R102). -/
theorem acceptedEdge_steps_device (hdue : crankDue s k = some e) (hstands : s.ptStands = false) (hsync : s.trk[k].acq = .sync)
    (hmoving : s.trk[k].stalled = false) (hclass : edgeClass s k e = .accepted) (hcontrol : s.dev.control = k)
    (hopen : s.dev.epochOpen) (hstep : s.dev.step = none) (hfurrows : s.plan.furrows = []) (hslots : s.plan.slotDef = []) {a y : Nat}
    (ha : a = trueAngle s k (awaitedEntry s k) (awaitedHalf s k)) (hy : y = presented (edgeLoad s k e))
    (hahead : 2 * travel s.trk[k].astern (cycleLen s k) (devAngle s) a < cycleLen s k)
    (hwithin : nowPos s + travel s.trk[k].astern (cycleLen s k) (devAngle s) a + travel s.trk[k].astern (cycleLen s k) a y <
      (s.dev.cycNo + 1) * devLen s)
    (hown : travelPos s.trk[k].astern (cycleLen s k) (presented s.trk[k]) + travel s.trk[k].astern (cycleLen s k)
      (presented s.trk[k]) y < cycleLen s k) :
    ∃ t, exec (.trackerCrankEdge k) s = .next t ∧ t.trk[k].acq = .sync ∧ t.trk[k].pos = awaitedEntry s k ∧
      t.trk[k].lastStamp = e.stamp ∧ presented t.trk[k] = y ∧ t.dev.epochOpen ∧ t.dev.hold = none := by
  obtain ⟨u, hu, -, -, hacc⟩ := crankEdge_classed hdue hstands hsync hmoving
  have hload : presented (edgeLoad u k e) = y := by rw [hy, presented, presented, hu.edgeLoad_acc]
  have hpresented : presented u.trk[k] = presented s.trk[k] := by rw [hu.trk]; rfl
  have hc : u.dev.control = k := by rw [hu.dev, hcontrol]
  have hastern := Chart.astern_eq hu.chart
  have hlen := Chart.cycleLen_eq hu.chart
  have hangle : devAngle u = devAngle s := by rw [devAngle_of hc, devAngle_of hcontrol, hu.dev, hpresented]
  have hpos : nowPos u = nowPos s := by rw [nowPos_of hc, nowPos_of hcontrol, hu.dev, hastern, hlen, hangle]
  have htruth : trueAngle u k (awaitedEntry u k) (awaitedHalf u k) = a := by
    rw [ha, Chart.trueAngle_eq hu.chart, hu.awaitedEntry, hu.awaitedHalf]
  rw [devLen_of hcontrol] at hwithin
  obtain ⟨h, hloaded, hopened, hhold⟩ := acceptSync_of_control (e := e) (resume := false) (verify := false) hc
    (by rw [hu.dev]; exact hopen) (by rw [hu.dev, hstep]) (by rw [hu.plan, hfurrows]) (by rw [hu.plan, hslots])
    (by rw [hastern, hlen, hangle, htruth]; exact hahead)
    (by rw [hastern, hlen, hangle, htruth, hpos, hload, hu.dev]; exact hwithin)
    (by rw [hastern, hlen, hpresented, hload]; exact hown)
  exact ⟨_, hacc hclass, by rw [h.acq, hu.trk]; exact hsync, by rw [h.pos, hu.awaitedEntry], h.lastStamp,
    by rw [← hload, presented, presented, hloaded], hopened, hhold⟩

end
end Sys2Proof.Machine

namespace Sys2Proof.Machine

/-! ## Cam edges (R58, R59, R66, R109, R525) -/

section
variable {k : Fin 2} {e : EdgeIn} {s t u v : State}

/-- A cam edge has been taken; that of CFG.CAM's wheel is the most recent one (R59). -/
structure CamTaken (k : Fin 2) (e : EdgeIn) (s u : State) : Prop where
  trk : u.trk[k] = { s.trk[k] with edges := s.trk[k].edges.erase e
                                   lastCam := if camWheel s k = some e.wheel then some e else s.trk[k].lastCam }
  rest : u = { s with trk := u.trk }

section
variable (h : CamTaken k e s u)
include h

theorem CamTaken.dev : u.dev = s.dev := by rw [h.rest]
theorem CamTaken.pt : u.pt = s.pt := by rw [h.rest]
theorem CamTaken.link : u.link = s.link := by rw [h.rest]
theorem CamTaken.act : u.act = s.act := by rw [h.rest]
theorem CamTaken.ptab : u.ptab = s.ptab := by rw [h.rest]
theorem CamTaken.plan : u.plan = s.plan := by rw [h.rest]
theorem CamTaken.regs : u.regs = s.regs := by rw [h.rest]
theorem CamTaken.rd (b : Nat) (f : Fld) : u.rd b f = s.rd b f := rd_congr h.regs b f
theorem CamTaken.chart : u.chart k = s.chart k := chart_of h.act h.ptab h.plan (by rw [h.trk]) (by rw [h.trk]) (by rw [h.trk])
theorem CamTaken.cfg (b : Nat) {f : Fld} (hf : f.acc = .rws) : u.cfg b f = s.cfg b f := Chart.cfg_eq h.chart hf
theorem CamTaken.acq : u.trk[k].acq = s.trk[k].acq := by rw [h.trk]
theorem CamTaken.hypotheses (c : EdgeIn) : Machine.hypotheses u k c = Machine.hypotheses s k c :=
  Chart.hypotheses_eq h.chart (by rw [h.trk]) (by rw [h.trk]) (by rw [h.trk]) c

theorem CamTaken.presentedAt (at_ : Nat) : Machine.presentedAt u k at_ = Machine.presentedAt s k at_ := by
  simp only [Machine.presentedAt, h.trk, h.pt, h.link, Chart.following_eq h.chart, Chart.cycleLen_eq h.chart, presented]

theorem CamTaken.backEntry (n : Nat) : Machine.backEntry u k n = Machine.backEntry s k n := by
  induction n with
  | zero => rw [Machine.backEntry, Machine.backEntry, h.trk]
  | succ n ih => simp only [Machine.backEntry, ih, h.trk, Chart.teeth_eq h.chart]

theorem CamTaken.angleAt (stamp : Nat) : Machine.angleAt u k stamp = Machine.angleAt s k stamp := by
  simp only [Machine.angleAt, h.presentedAt, h.backEntry, Chart.pitch_eq h.chart, Chart.trueAngle_eq h.chart,
    Chart.cycleLen_eq h.chart, h.trk]

end

/-- A cam edge is due, and no crank edge of its stamp waits. -/
structure CamDue (k : Fin 2) (e : EdgeIn) (s : State) : Prop where
  found : s.trk[k].edges.find? (fun e => e.wheel != crankWheel s k && decide (e.due ≤ s.pt)) = some e
  stands : s.ptStands = false
  alone : s.trk[k].edges.any (fun c => c.wheel == crankWheel s k && c.stamp == e.stamp) = false

/-- The oldest cam edge due is taken, and goes to the search for the phase or to the check of SYNC. -/
theorem CamDue.taken (h : CamDue k e s) : ∃ u, CamTaken k e s u ∧
    (s.trk[k].acq = .phase → exec (.trackerCamEdge k) s = .next (if camWheel s k = some e.wheel then evaluateCam k e u else u)) ∧
    (s.trk[k].acq = .sync → exec (.trackerCamEdge k) s = .next (syncCam k e u)) ∧
    (s.trk[k].acq ≠ .phase → s.trk[k].acq ≠ .sync → exec (.trackerCamEdge k) s = .next u) := by
  obtain ⟨v, hv⟩ : ∃ v, v = s.updTrk k (fun x => { x with edges := x.edges.erase e }) := ⟨_, rfl⟩
  have ht : Taken k e s v := hv ▸ taken_erase k e s
  obtain ⟨u, hu⟩ : ∃ u, u = if camWheel s k = some e.wheel then v.updTrk k (fun x => { x with lastCam := some e }) else v :=
    ⟨_, rfl⟩
  have htaken : CamTaken k e s u := by
    refine ⟨?_, ?_⟩
    · rw [hu]
      split
      · rw [State.updTrk_self, ht.trk]
      · rw [ht.trk]
    · rw [hu, hv]
      split <;> rfl
  have hwheel : camWheel u k = camWheel s k := Chart.camWheel_eq htaken.chart
  have hstep : exec (.trackerCamEdge k) s = .next (match u.trk[k].acq with
      | .phase => if camWheel u k = some e.wheel then evaluateCam k e u else u
      | .sync => syncCam k e u
      | _ => u) := by
    refine congrArg Host.Outcome.next ?_
    unfold camEdgeStep
    rw [h.found]
    dsimp only
    rw [if_neg (by rw [h.stands, h.alone]; decide), ← hv, Chart.camWheel_eq ht.chart, ← hu] <;> rfl
  rw [htaken.acq, hwheel] at hstep
  refine ⟨u, htaken, fun hp => ?_, fun hs => ?_, fun hp hs => ?_⟩
  · rw [hstep, hp]
  · rw [hstep, hs]
  · rw [hstep]
    cases hq : s.trk[k].acq with
    | phase => exact absurd hq hp
    | sync => exact absurd hq hs
    | _ => rfl

section
variable (hdue : CamDue k e s)
include hdue

/-- Where it is of no use the edge is gone (R59). -/
theorem camEdge_dropped (hno : s.trk[k].acq = .off ∨ (camWheel s k ≠ some e.wheel ∧ s.trk[k].acq ≠ .sync)) :
    ∃ t, exec (.trackerCamEdge k) s = .next t ∧ t.trk[k].edges = s.trk[k].edges.erase e ∧ t.trk[k].acq = s.trk[k].acq ∧
      t = { s with trk := t.trk } := by
  obtain ⟨u, hu, hphase, -, hrest⟩ := hdue.taken
  refine ⟨u, ?_, by rw [hu.trk], hu.acq, hu.rest⟩
  by_cases hp : s.trk[k].acq = .phase
  · have hwheel := (hno.resolve_left (by rw [hp]; decide)).1
    rw [hphase hp, if_neg hwheel]
  · refine hrest hp fun hs => ?_
    rcases hno with ho | hn
    · rw [ho] at hs
      cases hs
    · exact hn.2 hs

variable (hwheel : camWheel s k = some e.wheel)
include hwheel

/-- Before PHASE the edge is kept as the most recent one (R59). -/
theorem camEdge_kept (hacq : s.trk[k].acq = .wait ∨ s.trk[k].acq = .steady ∨ s.trk[k].acq = .search ∨ s.trk[k].acq = .confirm) :
    ∃ t, exec (.trackerCamEdge k) s = .next t ∧ t.trk[k].lastCam = some e ∧ t.trk[k].edges = s.trk[k].edges.erase e ∧
      t.trk[k].acq = s.trk[k].acq ∧ t = { s with trk := t.trk } := by
  obtain ⟨u, hu, -, -, hrest⟩ := hdue.taken
  have hout : s.trk[k].acq ≠ .phase ∧ s.trk[k].acq ≠ .sync := by
    rcases hacq with h | h | h | h <;> rw [h] <;> decide
  exact ⟨u, hrest hout.1 hout.2, by rw [hu.trk, if_pos hwheel], by rw [hu.trk], hu.acq, hu.rest⟩

/-- In PHASE a single hypothesis resolves sync (R58). -/
theorem camEdge_resolves {p : Nat} {b : Bool} (hacq : s.trk[k].acq = .phase) (hone : hypotheses s k e = [(p, b)])
    (hepoch : s.dev.control ≠ k ∨ s.dev.epochOpen) :
    ∃ t, exec (.trackerCamEdge k) s = .next t ∧ t.trk[k].acq = .sync ∧ t.trk[k].pos = p ∧ t.trk[k].half = b ∧ t.dev = s.dev := by
  obtain ⟨u, hu, hphase, -⟩ := hdue.taken
  have hstep := hphase hacq
  rw [if_pos hwheel, evaluateCam, hu.hypotheses, hone] at hstep
  obtain ⟨ha, hp, hb, -, hd⟩ := declareSync_declared (s := u) p b (by rw [hu.dev]; exact hepoch)
  exact ⟨_, hstep, ha, hp, hb, hd.trans hu.dev⟩

/-- In PHASE an edge that resolves nothing is a failed try (R525). -/
theorem camEdge_fails (hacq : s.trk[k].acq = .phase) (hmany : (hypotheses s k e).length ≠ 1)
    (htries : s.trk[k].tries + 1 < s.cfg (TRK.base k) TRK.ACQ_PHASE_TRIES) :
    ∃ t, exec (.trackerCamEdge k) s = .next t ∧ t.trk[k].acq = .phase ∧ t.trk[k].tries = s.trk[k].tries + 1 ∧
      t.trk[k].lastCam = some e := by
  obtain ⟨u, hu, hphase, -⟩ := hdue.taken
  have hstep := hphase hacq
  have htrk : u.trk[k].tries = s.trk[k].tries := by rw [hu.trk]
  have hfail : evaluateCam k e u = failedTry k u := by
    rw [evaluateCam, hu.hypotheses]
    match hl : hypotheses s k e with
    | [] => rfl
    | [_] => exact absurd (congrArg List.length hl) hmany
    | _ :: _ :: _ => rfl
  rw [if_pos hwheel, hfail, failedTry_counts (by rw [htrk, hu.cfg _ rfl]; exact htries)] at hstep
  exact ⟨_, hstep, by rw [State.updTrk_self, hu.trk]; exact hacq, by rw [State.updTrk_self, hu.trk],
    by rw [State.updTrk_self, hu.trk]; exact if_pos hwheel⟩

end

/-! ### The check of SYNC (R66, R109) -/

/-- A tracker's angle and its missed cam edges are as they were. -/
structure CamSpot (k : Fin 2) (s t : State) : Prop where
  acq : t.trk[k].acq = s.trk[k].acq
  acc : t.trk[k].acc = s.trk[k].acc
  missRun : t.trk[k].camMissRun = s.trk[k].camMissRun
  misses : t.rd (TRK.base k) TRK.MOTION_CNT_CAM_MISS = s.rd (TRK.base k) TRK.MOTION_CNT_CAM_MISS

theorem CamSpot.updTrk (h : CamSpot k s t) {f : Tracker → Tracker} (hacq : ∀ x, (f x).acq = x.acq) (hacc : ∀ x, (f x).acc = x.acc)
    (hrun : ∀ x, (f x).camMissRun = x.camMissRun) : CamSpot k s (t.updTrk k f) where
  acq := by rw [State.updTrk_self, hacq, h.acq]
  acc := by rw [State.updTrk_self, hacc, h.acc]
  missRun := by rw [State.updTrk_self, hrun, h.missRun]
  misses := by rw [rd_updTrk, h.misses]

theorem CamSpot.wr (h : CamSpot k s t) {b : Nat} {f : Fld} (v : Nat) (hb : TRK.base k + TRK.MOTION_CNT_CAM_MISS.off ≠ b + f.off) :
    CamSpot k s (t.wr b f v) where
  acq := by rw [State.wr_trk, h.acq]
  acc := by rw [State.wr_trk, h.acc]
  missRun := by rw [State.wr_trk, h.missRun]
  misses := by rw [rd_wr_ne _ _ _ _ hb, h.misses]

theorem CamSpot.raiseIf (h : CamSpot k s t) (c : Bool) (n : Nat) : CamSpot k s (t.raiseIf c n) := by
  unfold State.raiseIf
  split
  · exact ⟨by rw [State.raise_trk, h.acq], by rw [State.raise_trk, h.acc], by rw [State.raise_trk, h.missRun],
      by rw [rd_raise_trk _ _ _ rfl, h.misses]⟩
  · exact h

/-- The measurement of a cam's phase leaves the tracker's angle and the run of missed edges (R66, R67). -/
theorem phaseMeasure_camSpot (k : Fin 2) (w : Fin 4) (raw : Int) (s : State) : CamSpot k s (phaseMeasure k w raw s) := by
  have haddr : TRK.base k + TRK.MOTION_CNT_CAM_MISS.off ≠ TRKPH.base k w + TRKPH.PH_RAW_RAW.off ∧
      TRK.base k + TRK.MOTION_CNT_CAM_MISS.off ≠ TRKPH.base k w + TRKPH.PH_FILT_FILT.off := by
    revert k w
    decide
  have hwritten (x y : Nat) : CamSpot k s ((s.wr (TRKPH.base k w) TRKPH.PH_RAW_RAW x).wr (TRKPH.base k w) TRKPH.PH_FILT_FILT y) :=
    ((⟨rfl, rfl, rfl, rfl⟩ : CamSpot k s s).wr x haddr.1).wr y haddr.2
  unfold phaseMeasure
  dsimp only
  generalize hv : (s.wr _ TRKPH.PH_RAW_RAW _).wr _ TRKPH.PH_FILT_FILT _ = v
  have hspot : CamSpot k s v := by
    rw [← hv]
    exact hwritten ..
  refine CamSpot.raiseIf (CamSpot.updTrk ?_ ?_ ?_ ?_) _ _
  · split
    · exact hspot.updTrk (fun _ => rfl) (fun _ => rfl) fun _ => rfl
    · exact hspot
  · exact fun _ => rfl
  · exact fun _ => rfl
  · exact fun _ => rfl

section
variable (hdue : CamDue k e s) (hsync : s.trk[k].acq = .sync)
include hdue hsync

/-- A cam edge in SYNC meets the first entry whose window it falls in, or none (R66, R109). -/
theorem camEdge_checked : ∃ u, CamTaken k e s u ∧
    (∀ c, (camEntries s k e.wheel).find? (fun c => within (cycleLen s k) (4096 * s.cfg (TRK.base k) TRK.ACQ_CAM_WIN) (entNominal c)
      (angleAt s k e.stamp)) = some c → ∃ raw, exec (.trackerCamEdge k) s = .next (
        let v := if camWheel s k = some e.wheel then u.updTrk k (fun x => { x with camMissRun := 0 }) else u
        if v.on (TRKPH.base k (Fin.ofNat 4 e.wheel)) TRKPH.PH_CFG_EN then phaseMeasure k (Fin.ofNat 4 e.wheel) raw v else v)) ∧
    ((camEntries s k e.wheel).find? (fun c => within (cycleLen s k) (4096 * s.cfg (TRK.base k) TRK.ACQ_CAM_WIN) (entNominal c)
      (angleAt s k e.stamp)) = none → exec (.trackerCamEdge k) s = .next (camMiss k e.wheel u)) := by
  obtain ⟨u, hu, -, hcheck, -⟩ := hdue.taken
  have hfind : (camEntries u k e.wheel).find? (fun c => within (cycleLen u k) (4096 * u.cfg (TRK.base k) TRK.ACQ_CAM_WIN)
      (entNominal c) (angleAt u k e.stamp)) = (camEntries s k e.wheel).find? (fun c => within (cycleLen s k)
        (4096 * s.cfg (TRK.base k) TRK.ACQ_CAM_WIN) (entNominal c) (angleAt s k e.stamp)) := by
    rw [Chart.camEntries_eq hu.chart, Chart.cycleLen_eq hu.chart, hu.cfg _ rfl, hu.angleAt]
  refine ⟨u, hu, fun c hc => ⟨signedDiff (cycleLen u k) (entNominal c) (angleAt u k e.stamp), (hcheck hsync).trans
    (congrArg Host.Outcome.next ?_)⟩, fun hn => (hcheck hsync).trans (congrArg Host.Outcome.next ?_)⟩
  · unfold syncCam
    dsimp only
    rw [hfind, hc]
    dsimp only
    rw [Chart.camWheel_eq hu.chart]
  · unfold syncCam
    dsimp only
    rw [hfind, hn]

/-- An edge in the window of an entry ends the run of missed ones (R109). -/
theorem camEdge_meets {c : Nat} (hwheel : camWheel s k = some e.wheel) (hc : (camEntries s k e.wheel).find? (fun c =>
      within (cycleLen s k) (4096 * s.cfg (TRK.base k) TRK.ACQ_CAM_WIN) (entNominal c) (angleAt s k e.stamp)) = some c) :
    ∃ t, exec (.trackerCamEdge k) s = .next t ∧ t.trk[k].camMissRun = 0 ∧ t.trk[k].acq = .sync ∧ t.trk[k].acc = s.trk[k].acc ∧
      t.rd (TRK.base k) TRK.MOTION_CNT_CAM_MISS = s.rd (TRK.base k) TRK.MOTION_CNT_CAM_MISS := by
  obtain ⟨u, hu, hmeet, -⟩ := camEdge_checked hdue hsync
  obtain ⟨raw, hstep⟩ := hmeet c hc
  dsimp only at hstep
  rw [if_pos hwheel] at hstep
  obtain ⟨v, hv⟩ : ∃ v, v = u.updTrk k (fun x => { x with camMissRun := 0 }) := ⟨_, rfl⟩
  rw [← hv] at hstep
  have htrk : v.trk[k] = { u.trk[k] with camMissRun := 0 } := by rw [hv, State.updTrk_self]
  rw [hu.trk] at htrk
  have hspot : CamSpot k v (if v.on (TRKPH.base k (Fin.ofNat 4 e.wheel)) TRKPH.PH_CFG_EN then
      phaseMeasure k (Fin.ofNat 4 e.wheel) raw v else v) := by
    split
    · exact phaseMeasure_camSpot ..
    · exact ⟨rfl, rfl, rfl, rfl⟩
  exact ⟨_, hstep, by rw [hspot.missRun, htrk], by rw [hspot.acq, htrk]; exact hsync, by rw [hspot.acc, htrk],
    by rw [hspot.misses, hv, rd_updTrk, hu.rd]⟩

variable (hnone : (camEntries s k e.wheel).find? (fun c => within (cycleLen s k) (4096 * s.cfg (TRK.base k) TRK.ACQ_CAM_WIN)
  (entNominal c) (angleAt s k e.stamp)) = none)
include hnone

/-- On a plan of 720 degrees a missed edge of CFG.CAM's wheel is counted, and prolongs the run (R109). -/
theorem camEdge_missed (hwheel : camWheel s k = some e.wheel) (hcyc : cyc720 s k)
    (hrun : s.trk[k].camMissRun + 1 < s.cfg (TRK.base k) TRK.ACQ_PHASE_TRIES) :
    ∃ t, exec (.trackerCamEdge k) s = .next t ∧ t.trk[k].camMissRun = s.trk[k].camMissRun + 1 ∧
      t.rd (TRK.base k) TRK.MOTION_CNT_CAM_MISS = sat TRK.MOTION_CNT_CAM_MISS.top (s.rd (TRK.base k) TRK.MOTION_CNT_CAM_MISS + 1) ∧
      t.trk[k].acq = .sync ∧ t.trk[k].acc = s.trk[k].acc := by
  obtain ⟨u, hu, -, hmiss⟩ := camEdge_checked hdue hsync
  have hstep := hmiss hnone
  obtain ⟨v, hv⟩ : ∃ v, v = u.bump (TRK.base k) TRK.MOTION_CNT_CAM_MISS := ⟨_, rfl⟩
  obtain ⟨w, hw⟩ : ∃ w, w = v.updTrk k (fun x => { x with camMissRun := x.camMissRun + 1 }) := ⟨_, rfl⟩
  have htrk : w.trk[k] = { u.trk[k] with camMissRun := u.trk[k].camMissRun + 1 } := by
    rw [hw, State.updTrk_self, hv, State.bump_trk]
  rw [hu.trk] at htrk
  have hchart : v.chart k = s.chart k :=
    (chart_of (by rw [hv, State.bump_act]) (by rw [hv, State.bump_ptab]) (by rw [hv, State.bump_plan]) (by rw [hv, State.bump_trk])
      (by rw [hv, State.bump_trk]) (by rw [hv, State.bump_trk])).trans hu.chart
  have htries : w.cfg (TRK.base k) TRK.ACQ_PHASE_TRIES = s.cfg (TRK.base k) TRK.ACQ_PHASE_TRIES := by
    rw [cfg_of_act (s := v) (by rw [hw, State.updTrk_act]) rfl, Chart.cfg_eq hchart rfl]
  have hcount : camMiss k e.wheel u = w := by
    unfold camMiss
    dsimp only
    rw [← hv, if_pos ⟨by rw [Chart.cyc720_eq hchart]; exact hcyc, by rw [Chart.camWheel_eq hchart]; exact hwheel⟩, ← hw,
      htries, htrk]
    exact if_neg (Nat.not_le.2 hrun)
  rw [hcount] at hstep
  exact ⟨w, hstep, by rw [htrk], by rw [hw, rd_updTrk, hv, rd_bump_self _ _ _ (by decide), hu.rd], by rw [htrk]; exact hsync,
    by rw [htrk]⟩

/-- Elsewhere a missed edge is counted alone (R109). -/
theorem camEdge_missed_alone (hno : ¬ (cyc720 s k ∧ camWheel s k = some e.wheel)) :
    ∃ t, exec (.trackerCamEdge k) s = .next t ∧
      t.rd (TRK.base k) TRK.MOTION_CNT_CAM_MISS = sat TRK.MOTION_CNT_CAM_MISS.top (s.rd (TRK.base k) TRK.MOTION_CNT_CAM_MISS + 1) ∧
      t.trk[k].acq = .sync ∧ t.trk[k].camMissRun = s.trk[k].camMissRun := by
  obtain ⟨u, hu, -, hmiss⟩ := camEdge_checked hdue hsync
  have hstep := hmiss hnone
  obtain ⟨v, hv⟩ : ∃ v, v = u.bump (TRK.base k) TRK.MOTION_CNT_CAM_MISS := ⟨_, rfl⟩
  have hchart : v.chart k = s.chart k :=
    (chart_of (by rw [hv, State.bump_act]) (by rw [hv, State.bump_ptab]) (by rw [hv, State.bump_plan]) (by rw [hv, State.bump_trk])
      (by rw [hv, State.bump_trk]) (by rw [hv, State.bump_trk])).trans hu.chart
  have hcount : camMiss k e.wheel u = v := by
    unfold camMiss
    dsimp only
    rw [← hv]
    exact if_neg (by rw [Chart.cyc720_eq hchart, Chart.camWheel_eq hchart]; exact hno)
  rw [hcount] at hstep
  have htrk : v.trk = u.trk := by rw [hv, State.bump_trk]
  exact ⟨v, hstep, by rw [hv, rd_bump_self _ _ _ (by decide), hu.rd], by rw [htrk, hu.acq]; exact hsync, by rw [htrk, hu.trk]⟩

end
end
end Sys2Proof.Machine

namespace Sys2Proof.Machine

/-- Settles O21: each clause is a row of acquisition, of the table of R99, or of a cam edge, as the lemmas above state them. -/
theorem trackersTakeEdgesAndTimeOut : Obligations.TrackersTakeEdgesAndTimeOut := by
  refine ⟨?first, ?camKept, ?timeout, ?second, ?spurious, ?implausible, ?steady, ?search, ?searchByClass, ?confirm, ?phase,
    ?spuriousInside, ?spuriousLoses, ?lost, ?closes, ?accepted, ?device, ?resumes, ?held, ?camResolves, ?camFails, ?camMeets,
    ?camMissed, ?camMissedAlone, ?camDropped⟩
  case first => exact fun _ _ _ hdue hstands hoff hsync hn => firstEdge_starts hdue hstands hoff hsync hn
  case camKept => exact fun _ _ _ hdue hstands halone hwheel hacq => camEdge_kept ⟨hdue, hstands, halone⟩ hwheel hacq
  case timeout => exact fun _ _ hoff hwait hsync hlong => acqTimeout_waits hoff hwait hsync hlong
  case second => exact fun _ _ _ hdue hstands hoff hsync hn => secondEdge_ends_period hdue hstands hoff hsync hn
  case spurious =>
    exact fun _ _ _ hdue hstands hoff hsync hn hspur => spuriousEdge_outside hdue hstands hoff hsync hn hspur
  case implausible =>
    exact fun _ _ _ hdue hstands hoff hsync hn hspur hbad => implausibleEdge_restarts hdue hstands hspur hoff hsync hn hbad
  case steady =>
    exact fun _ _ _ hdue hstands hacq hn hspur hplausible _ hr => steadyEdge_runs hdue hstands hspur hplausible hacq hn hr
  case search =>
    exact fun _ _ _ hdue hstands hacq hn hspur hplausible hwide _ hl =>
      searchEdge_names hdue hstands hspur hplausible hacq hn hwide hl
  case searchByClass =>
    exact fun _ _ _ hdue hstands hacq hn hspur hplausible hwide _ hl hne =>
      searchEdge_names_by_class hdue hstands hspur hplausible hacq hn hwide hl hne
  case confirm =>
    exact fun _ _ _ hdue hstands hacq hn hspur hplausible _ hl => confirmEdge_steps hdue hstands hspur hplausible hacq hn hl
  case phase =>
    exact fun _ _ _ hdue hstands hacq hn hspur hplausible _ hl => phaseEdge_steps hdue hstands hspur hplausible hacq hn hl
  case spuriousInside =>
    exact fun _ _ _ hdue hstands hsync hmoving hclass hrun => spuriousEdge_inside hdue hstands hsync hmoving hclass hrun
  case spuriousLoses =>
    exact fun _ _ _ hdue hstands hsync hmoving hclass hrun hepoch hhand =>
      spuriousEdge_loses hdue hstands hsync hmoving hclass hrun hepoch hhand
  case lost =>
    exact fun _ _ _ _ hdue hstands hsync hmoving hclass hepoch hhand =>
      lostEdge_loses hdue hstands hsync hmoving hclass hepoch hhand
  case closes =>
    exact fun _ _ _ _ hdue hstands hsync hmoving hclass hcontrol hopen hhand hstay =>
      lostEdge_closes hdue hstands hsync hmoving hclass hcontrol hopen hhand hstay
  case accepted =>
    exact fun _ _ _ hdue hstands hsync hmoving hclass hepoch hcommitted =>
      acceptedEdge_loads hdue hstands hsync hmoving hclass hepoch hcommitted
  case device =>
    exact fun _ _ _ hdue hstands hsync hmoving hclass hcontrol hopen hstep _ hfurrows hslots _ _ ha hy hahead hwithin hown =>
      acceptedEdge_steps_device hdue hstands hsync hmoving hclass hcontrol hopen hstep hfurrows hslots ha hy hahead hwithin hown
  case resumes =>
    exact fun _ _ _ hdue hstands hsync hstalled hsensor hepoch hst hcommitted hdisarm =>
      stalledEdge_resumes hdue hstands hsync hstalled hsensor hepoch hst hcommitted hdisarm
  case held =>
    exact fun _ _ _ hdue hstands hsync hstalled hsensor => stalledEdge_held hdue hstands hsync hstalled hsensor
  case camResolves =>
    exact fun _ _ _ _ _ hdue hstands halone hwheel hacq hone hepoch =>
      camEdge_resolves ⟨hdue, hstands, halone⟩ hwheel hacq hone hepoch
  case camFails =>
    exact fun _ _ _ hdue hstands halone hwheel hacq hmany htries =>
      camEdge_fails ⟨hdue, hstands, halone⟩ hwheel hacq hmany htries
  case camMeets =>
    exact fun _ _ _ _ hdue hstands halone hwheel hsync hc => camEdge_meets ⟨hdue, hstands, halone⟩ hsync hwheel hc
  case camMissed =>
    exact fun _ _ _ hdue hstands halone hwheel hsync hcyc hnone hrun =>
      camEdge_missed ⟨hdue, hstands, halone⟩ hsync hnone hwheel hcyc hrun
  case camMissedAlone =>
    exact fun _ _ _ hdue hstands halone hsync hno hnone => camEdge_missed_alone ⟨hdue, hstands, halone⟩ hsync hnone hno
  case camDropped => exact fun _ _ _ hdue hstands halone hno => camEdge_dropped ⟨hdue, hstands, halone⟩ hno

end Sys2Proof.Machine

namespace Sys2Proof.Machine

/-! ## The increment and its remainder (R72) -/

/-- An increment that does not saturate is the quotient of R72, and the remainder is that of the same division. -/
theorem divideInc_of_le {p tp : Nat} (htp : 0 < tp) (h : p * 2 ^ 32 / tp ≤ incMax) :
    divideInc p tp = (p * 2 ^ 32 / tp, p * 2 ^ 32 % tp) := by
  unfold divideInc
  dsimp only
  rw [if_neg htp.ne', if_neg (Nat.not_lt.2 h)]

/-- Over a whole prediction the remainders add up to one remainder. -/
theorem advance_tpred (inc rem : Nat) {tp : Nat} (htp : 0 < tp) : advance inc rem tp tp = inc * tp + rem := by
  rw [advance, if_neg htp.ne', Nat.mul_div_cancel _ htp]

/-- A tick adds the increment, and one more where the remainders reach a multiple of the prediction. -/
theorem advance_succ (inc : Nat) {rem tp : Nat} (hrem : rem < tp) (d : Nat) : advance inc rem tp (d + 1) =
    advance inc rem tp d + inc + (if tp ≤ rem * d % tp + rem then 1 else 0) := by
  have htp : 0 < tp := Nat.zero_lt_of_lt hrem
  have hcarry : (rem * d + rem) / tp = rem * d / tp + if tp ≤ rem * d % tp + rem then 1 else 0 := by
    rw [Nat.add_div htp, Nat.div_eq_of_lt hrem, Nat.mod_eq_of_lt hrem, Nat.add_zero]
  rw [advance, advance, if_neg htp.ne', if_neg htp.ne', Nat.mul_succ, Nat.mul_succ, hcarry]
  omega

/-- Settles O8: `divideInc` divides the pitch, T_pred ticks add the remainder once, and a tick carries at a multiple of T_pred. -/
theorem accumulatorAdvancesByThePitchExactly : Obligations.AccumulatorAdvancesByThePitchExactly := by
  intro p tp htp hle
  rw [divideInc_of_le htp hle]
  have hrem : p * 2 ^ 32 % tp < tp := Nat.mod_lt _ htp
  have hpitch : p * 2 ^ 32 / tp * tp + p * 2 ^ 32 % tp = p * 2 ^ 32 := Nat.div_add_mod' _ _
  exact ⟨hpitch.symm, hrem, (advance_tpred _ _ htp).trans hpitch, advance_succ _ hrem⟩

end Sys2Proof.Machine

namespace Sys2Proof.Machine

/-! ## The accumulator behind the horizon (R73 to R75) -/

/-- An accumulator `frac` past a whole au, `room` au before the horizon, is not carried past the horizon by x: ahead the angle
may reach the horizon's last fraction, astern it ends at the horizon itself (R74, R75). -/
def StaysBehind (astern : Bool) (room frac x : Nat) : Prop :=
  if astern then x ≤ room * 2 ^ 32 + frac else frac + x < (room + 1) * 2 ^ 32

section
variable {len : Nat}

theorem moved_lt (astern : Bool) {full : Nat} (a x : Nat) (h : 0 < full) : moved astern full a x < full := by
  cases astern <;> exact Nat.mod_lt _ h

theorem travel_lt (astern : Bool) (a b : Nat) (h : 0 < len) : travel astern len a b < len := by
  cases astern <;> exact Nat.mod_lt _ h

/-- An angle moved by less than a cycle has travelled what it was moved by. -/
theorem travel_moved (astern : Bool) {a n : Nat} (ha : a < len) (hn : n < len) :
    travel astern len a (moved astern len a n) = n := by
  cases astern with
  | false =>
    rw [travel, moved, if_neg Bool.false_ne_true, if_neg Bool.false_ne_true, Nat.mod_eq_of_lt ha]
    rcases Nat.lt_or_ge (a + n) len with h | h
    · rw [Nat.mod_eq_of_lt h, show a + n + len - a = n + len by omega, Nat.add_mod_right, Nat.mod_eq_of_lt hn]
    · rw [Nat.mod_eq_sub_mod h, Nat.mod_eq_of_lt (show a + n - len < len by omega), show a + n - len + len - a = n by omega,
        Nat.mod_eq_of_lt hn]
  | true =>
    rw [travel, moved, if_pos rfl, if_pos rfl, Nat.mod_mod, Nat.mod_eq_of_lt hn]
    rcases Nat.lt_or_ge (a + len - n) len with h | h
    · rw [Nat.mod_eq_of_lt h, show a + len - (a + len - n) = n by omega, Nat.mod_eq_of_lt hn]
    · rw [Nat.mod_eq_sub_mod h, Nat.mod_eq_of_lt (show a + len - n - len < len by omega),
        show a + len - (a + len - n - len) = n + len by omega, Nat.add_mod_right, Nat.mod_eq_of_lt hn]

/-- A movement that stays behind a horizon less than a cycle away is shorter than a cycle. -/
theorem StaysBehind.lt_full {astern : Bool} {room acc x : Nat} (h : StaysBehind astern room (acc % 2 ^ 32) x)
    (hroom : room < len) : x < len * 2 ^ 32 := by
  cases astern with
  | false => have hx : acc % 2 ^ 32 + x < (room + 1) * 2 ^ 32 := h; omega
  | true => have hx : x ≤ room * 2 ^ 32 + acc % 2 ^ 32 := h; omega

/-- In whole au, an accumulator that stays behind the horizon moves its angle by no more than the room. -/
theorem moved_div {astern : Bool} {room acc x : Nat} (h : StaysBehind astern room (acc % 2 ^ 32) x) (hroom : room < len) :
    ∃ n ≤ room, moved astern (len * 2 ^ 32) acc x / 2 ^ 32 = moved astern len (acc / 2 ^ 32) n := by
  have hfull := h.lt_full hroom
  cases astern with
  | false =>
    have hx : acc % 2 ^ 32 + x < (room + 1) * 2 ^ 32 := h
    refine ⟨(acc % 2 ^ 32 + x) / 2 ^ 32, by omega, ?_⟩
    rw [moved, moved, if_neg Bool.false_ne_true, if_neg Bool.false_ne_true, Nat.mod_mul_left_div_self,
      show (acc + x) / 2 ^ 32 = acc / 2 ^ 32 + (acc % 2 ^ 32 + x) / 2 ^ 32 by omega]
  | true =>
    have hx : x ≤ room * 2 ^ 32 + acc % 2 ^ 32 := h
    have hn : (x + (2 ^ 32 - 1) - acc % 2 ^ 32) / 2 ^ 32 ≤ room := by omega
    refine ⟨_, hn, ?_⟩
    rw [moved, moved, if_pos rfl, if_pos rfl, Nat.mod_eq_of_lt hfull, Nat.mod_eq_of_lt (hn.trans_lt hroom),
      Nat.mod_mul_left_div_self, show (acc + len * 2 ^ 32 - x) / 2 ^ 32 =
        acc / 2 ^ 32 + len - (x + (2 ^ 32 - 1) - acc % 2 ^ 32) / 2 ^ 32 by omega]

/-- An accumulator that stays behind the horizon presents an angle that has not travelled past it. -/
theorem travel_moved_le {astern : Bool} {room acc x : Nat} (h : StaysBehind astern room (acc % 2 ^ 32) x) (hroom : room < len)
    (hacc : acc < len * 2 ^ 32) :
    travel astern len (acc / 2 ^ 32) (moved astern (len * 2 ^ 32) acc x / 2 ^ 32) ≤ room := by
  obtain ⟨n, hn, hmoved⟩ := moved_div h hroom
  rw [hmoved, travel_moved astern (by omega) (hn.trans_lt hroom)]
  exact hn

theorem staysBehind_ahead {room frac x : Nat} : StaysBehind false room frac x ↔ frac + x < (room + 1) * 2 ^ 32 := by
  rw [StaysBehind, if_neg Bool.false_ne_true]

theorem staysBehind_astern {room frac x : Nat} : StaysBehind true room frac x ↔ x ≤ room * 2 ^ 32 + frac := by
  rw [StaysBehind, if_pos rfl]

/-- A movement from an angle is held at the horizon, or stays behind it. -/
theorem moveFrom_cases (astern : Bool) (a hz x : Nat) (hhz : hz < len) :
    moveFrom astern len a hz x = (hz * 2 ^ 32, true) ∨
      StaysBehind astern (travel astern len a hz) (a * 2 ^ 32 % 2 ^ 32) x ∧
        moveFrom astern len a hz x = (moved astern (len * 2 ^ 32) (a * 2 ^ 32) x, false) := by
  have hroom := travel_lt astern a hz (Nat.zero_lt_of_lt hhz)
  rw [Nat.mul_mod_left]
  unfold moveFrom moved
  cases astern with
  | false =>
    simp only [Bool.false_eq_true, if_false, staysBehind_ahead]
    by_cases h : (travel false len a hz + 1) * 2 ^ 32 ≤ x
    · exact Or.inl (if_pos h)
    · exact Or.inr ⟨by omega, if_neg h⟩
  | true =>
    simp only [if_true, staysBehind_astern]
    by_cases h : travel true len a hz * 2 ^ 32 < x
    · exact Or.inl (if_pos h)
    · rw [Nat.mod_eq_of_lt (show x < len * 2 ^ 32 by omega)]
      exact Or.inr ⟨by omega, if_neg h⟩

/-- The accumulator loaded from an edge is within the cycle, behind the horizon, and at it with a zero fraction where it is held
(R73 to R75). -/
theorem moveFrom_behind (astern : Bool) {a hz : Nat} (x : Nat) (ha : a < len) (hhz : hz < len) :
    (moveFrom astern len a hz x).1 < len * 2 ^ 32 ∧
      travel astern len a ((moveFrom astern len a hz x).1 / 2 ^ 32) ≤ travel astern len a hz ∧
      ((moveFrom astern len a hz x).2 → (moveFrom astern len a hz x).1 = hz * 2 ^ 32) := by
  have hlen : 0 < len := Nat.zero_lt_of_lt hhz
  rcases moveFrom_cases astern a hz x hhz with hheld | ⟨hbehind, hmoved⟩
  · rw [hheld]
    dsimp only
    rw [Nat.mul_div_cancel _ (Nat.two_pow_pos 32)]
    exact ⟨Nat.mul_lt_mul_of_pos_right hhz (Nat.two_pow_pos 32), le_rfl, fun _ => rfl⟩
  · have hle := travel_moved_le hbehind (travel_lt astern a hz hlen) (Nat.mul_lt_mul_of_pos_right ha (Nat.two_pow_pos 32))
    rw [Nat.mul_div_cancel _ (Nat.two_pow_pos 32)] at hle
    rw [hmoved]
    exact ⟨moved_lt astern _ _ (Nat.mul_pos hlen (Nat.two_pow_pos 32)), hle, fun h => absurd h Bool.false_ne_true⟩

end

section
variable {s : State} {k : Fin 2}

/-- What a tick moves an accumulator by: the increment, and one more where the remainders reach the prediction (R72). -/
def Tracker.stride (x : Tracker) : Nat := x.inc + if x.tpred ≤ x.racc + x.rem ∧ x.tpred ≠ 0 then 1 else 0

/-- The sum of the remainders after a tick (R72). -/
def Tracker.carried (x : Tracker) : Nat :=
  if x.tpred ≤ x.racc + x.rem ∧ x.tpred ≠ 0 then x.racc + x.rem - x.tpred else x.racc + x.rem

/-- A tracker the horizon holds after a tick (R74, R75). -/
def Tracker.holdAtHorizon (x : Tracker) : Tracker :=
  { x with acc := x.horizon * 2 ^ 32, atHorizon := true, racc := x.carried }

/-- A tracker that moves on by a tick in a cycle of `len` au (R72). -/
def Tracker.moveOn (len : Nat) (x : Tracker) : Tracker :=
  { x with acc := moved x.astern (len * 2 ^ 32) x.acc x.stride, racc := x.carried }

/-- A tick holds a moving tracker at the horizon, or moves it on behind it (R72, R74, R75). -/
theorem tickAcc_cases (hsync : s.trk[k].acq = .sync) (hmoving : s.trk[k].stalled = false)
    (hbehind : s.trk[k].atHorizon = false) (hhz : s.trk[k].horizon < cycleLen s k) :
    tickAcc s k = s.trk[k].holdAtHorizon ∨
      StaysBehind s.trk[k].astern (travel s.trk[k].astern (cycleLen s k) (presented s.trk[k]) s.trk[k].horizon)
          (s.trk[k].acc % 2 ^ 32) s.trk[k].stride ∧
        tickAcc s k = s.trk[k].moveOn (cycleLen s k) := by
  have hroom := travel_lt s.trk[k].astern (presented s.trk[k]) s.trk[k].horizon (Nat.zero_lt_of_lt hhz)
  unfold tickAcc Tracker.moveOn moved StaysBehind
  dsimp only
  rw [if_neg (by rw [hsync, hmoving]; decide), if_neg (by rw [hbehind]; decide)]
  generalize travel s.trk[k].astern (cycleLen s k) (presented s.trk[k]) s.trk[k].horizon = room at hroom ⊢
  by_cases hastern : s.trk[k].astern
  · simp only [if_pos hastern, decide_eq_true_eq]
    by_cases h : room * 2 ^ 32 + s.trk[k].acc % 2 ^ 32 < s.trk[k].stride
    · exact Or.inl (if_pos h)
    · rw [Nat.mod_eq_of_lt (show s.trk[k].stride < cycleLen s k * 2 ^ 32 by omega)]
      exact Or.inr ⟨Nat.not_lt.1 h, if_neg h⟩
  · simp only [if_neg hastern, decide_eq_true_eq]
    by_cases h : room * 2 ^ 32 + (2 ^ 32 - 1) < s.trk[k].acc % 2 ^ 32 + s.trk[k].stride
    · exact Or.inl (if_pos h)
    · exact Or.inr ⟨by omega, if_neg h⟩

end

/-- Settles O9: a load and a tick alike are held at the horizon or stay behind it. -/
theorem anglesStayBehindTheHorizon : Obligations.AnglesStayBehindTheHorizon := by
  refine ⟨fun astern len a hz x _ ha hhz => moveFrom_behind astern x ha hhz,
    fun k s hsync hmoving hfree hacc hhz _ => ?_⟩
  have hlen : 0 < cycleLen s k := Nat.zero_lt_of_lt hhz
  rcases tickAcc_cases hsync hmoving hfree hhz with hheld | ⟨hbehind, hmoved⟩
  · rw [hheld]
    have hat : presented s.trk[k].holdAtHorizon = s.trk[k].horizon := Nat.mul_div_cancel _ (Nat.two_pow_pos 32)
    refine ⟨Nat.mul_lt_mul_of_pos_right hhz (Nat.two_pow_pos 32), rfl, ?_, fun _ => rfl, fun h => ?_⟩
    · rw [hat]
      exact le_rfl
    · exact absurd h.symm Bool.false_ne_true
  · rw [hmoved]
    refine ⟨moved_lt _ _ _ (Nat.mul_pos hlen (Nat.two_pow_pos 32)), rfl,
      travel_moved_le hbehind (travel_lt _ _ _ hlen) hacc, fun h => ?_, fun _ hahead => ?_⟩
    · exact absurd (hfree.symm.trans h) Bool.false_ne_true
    · show moved s.trk[k].astern _ _ _ = _
      rw [moved, hahead, if_neg Bool.false_ne_true, Tracker.stride, Nat.add_assoc]

end Sys2Proof.Machine

namespace Sys2Proof.Machine

/-! ## The registers of a tracker that act (R83, R86, R94, R96) -/

section
variable {s : State}

/-- A one-bit field set to 1 reads 1, and everything but its register is kept. -/
theorem setBit_frame (b : Nat) {f : Fld} (hfits : f.fits) (hone : f.size = 2) (s : State) :
    (s.wr b f 1).flag b f ∧ (∀ a, a ≠ b + f.off → (s.wr b f 1).reg a = s.reg a) ∧
      s.wr b f 1 = { s with regs := (s.wr b f 1).regs } :=
  ⟨by rw [flag_wr_self s b f 1 hfits, hone]; rfl, fun _ ha => reg_wr_ne s f 1 ha, wr_only_regs s b f 1⟩

/-- A field of another register of the same page holds what it held. -/
theorem rd_wr_off (s : State) (b : Nat) {f g : Fld} (v : Nat) (h : g.off ≠ f.off) : (s.wr b f v).rd b g = s.rd b g :=
  rd_wr_ne s f g v fun e => h (Nat.add_left_cancel e)

theorem rd_respond (s : State) (d : Word) (b : Nat) (f : Fld) : (s.respond d).rd b f = s.rd b f := rfl

/-- A tracker may go back into the comparison: it is in SYNC without an IFAULT bit (R94). -/
def rejoins (s : State) (k : Fin 2) : Bool := decide (s.trk[k].acq = .sync ∧ s.reg (TRK.base k + 0x104) = 0)

/-- A tracker as REJOIN leaves it (R94). -/
def rejoined (s : State) (k : Fin 2) : Tracker := if rejoins s k then { s.trk[k] with inXchk := true } else s.trk[k]

theorem rejoined_congr {t : State} {k : Fin 2} (htrk : t.trk[k] = s.trk[k]) (hregs : t.regs = s.regs) :
    rejoined t k = rejoined s k := by
  unfold rejoined rejoins State.reg
  rw [htrk, hregs]

/-- REJOIN replaces the two trackers, each by what its own state gives. -/
theorem rejoinStep_eq (s : State) : rejoinStep s = { s with trk := (s.trk.set 0 (rejoined s 0)).set 1 (rejoined s 1) } := by
  have hone (k : Fin 2) (u : State) : (if u.trk[k].acq = .sync ∧ u.reg (TRK.base k + 0x104) = 0 then
      u.updTrk k (fun x => { x with inXchk := true }) else u) = u.updTrk k (fun _ => rejoined u k) := by
    unfold rejoined rejoins
    simp only [decide_eq_true_eq]
    split
    · rfl
    · simp [State.updTrk]
  have hother : rejoined (s.updTrk 0 fun _ => rejoined s 0) 1 = rejoined s 1 :=
    rejoined_congr (State.updTrk_ne _ (by decide) _) rfl
  unfold rejoinStep foldS
  simp only [List.foldl_cons, List.foldl_nil, hone, hother]
  rfl

theorem rejoinStep_trk (s : State) (k : Fin 2) : (rejoinStep s).trk[k] = rejoined s k := by
  rw [rejoinStep_eq]
  match k with
  | 0 => simp
  | 1 => simp

/-- A read of ANGLE snapshots the fraction, the increment and PT (R96). -/
theorem angleReadStep_snapshots (k : Fin 2) (s : State) :
    (angleReadStep k s).rd (TRK.base k) TRK.ANGLE_FRAC_FRAC = s.trk[k].acc % 2 ^ 32 ∧
      (angleReadStep k s).rd (TRK.base k) TRK.SNAP_PT_PT = s.pt % 2 ^ 32 ∧
      (angleReadStep k s).rd (TRK.base k) TRK.INC_LO_FRAC = s.trk[k].inc % 2 ^ 32 := by
  unfold angleReadStep
  dsimp only
  rw [rd_respond, rd_respond, rd_respond]
  refine ⟨?_, ?_, ?_⟩
  · rw [rd_wr_off _ _ _ (by decide), rd_wr_off _ _ _ (by decide), rd_wr_off _ _ _ (by decide), rd_wr_self _ _ _ _ (by decide)]
    exact Nat.mod_mod _ _
  · rw [rd_wr_self _ _ _ _ (by decide)]
    exact Nat.mod_mod _ _
  · rw [rd_wr_off _ _ _ (by decide), rd_wr_off _ _ _ (by decide), rd_wr_self _ _ _ _ (by decide)]
    exact Nat.mod_mod _ _

/-- An answer after writes of registers changes the registers and the response. -/
theorem OnlyRegs.respond {t : State} (h : OnlyRegs s t) (d : Word) : t.respond d = { s with
    respData := (t.respond d).respData, respErr := (t.respond d).respErr, regs := (t.respond d).regs } :=
  congrArg (fun u : State => u.respond d) h

theorem angleReadStep_frame (k : Fin 2) (s : State) : angleReadStep k s = { s with
    respData := (angleReadStep k s).respData, respErr := (angleReadStep k s).respErr, regs := (angleReadStep k s).regs } := by
  unfold angleReadStep
  dsimp only
  exact (((((OnlyRegs.refl s).wr ..).wr ..).wr ..).wr ..).respond _

end

/-- Settles O22: three commands set one bit or count one error, REJOIN replaces the trackers, and ANGLE is read with a snapshot. -/
theorem trackerRegistersActAndSnapshot : Obligations.TrackerRegistersActAndSnapshot := by
  refine ⟨fun k s => ?clr, fun k s => ?reset, fun s => ?rejoin, fun s hin => ?taken, fun s hout => ?refused, fun k s => ?read⟩
  case clr => exact ⟨_, rfl, setBit_frame (TRK.base k) (f := TRK.SHADOW_CFG_CLR) (by decide) (by decide) s⟩
  case reset => exact ⟨_, rfl, setBit_frame (TRK.base k) (f := TRK.SIG_CFG_RESET) (by decide) (by decide) s⟩
  case rejoin =>
    refine ⟨_, rfl, by rw [rejoinStep_eq], fun k => (rejoinStep_trk s k).trans ?_⟩
    unfold rejoined rejoins
    simp only [decide_eq_true_eq]
  case taken =>
    obtain ⟨hset, -, hkept⟩ := setBit_frame xb (f := TRK.XCHK_CMD_HANDBACK) (by decide) (by decide) s
    exact ⟨_, congrArg Host.Outcome.next (if_pos hin), hset, hkept⟩
  case refused =>
    have hstep : handbackStep s = s.err 0x02 := if_neg (by rw [hout]; decide)
    refine ⟨_, congrArg Host.Outcome.next hstep, rd_bump_self s _ _ (by decide), ?_⟩
    rw [State.flag, State.flag, State.err, State.bump, State.bumpBy, rd_wr_ne _ _ _ _ (by decide)]
  case read =>
    obtain ⟨hfrac, hpt, hinc⟩ := angleReadStep_snapshots k s
    exact ⟨_, rfl, rfl, rfl, hfrac, hpt, hinc, angleReadStep_frame k s⟩

end Sys2Proof.Machine

namespace Sys2Proof.Machine

/-! ## ANGLE beats out (R413, R433) -/

section
variable {s : State}

/-- An ANGLE beat adds to what goes out of the link, and changes nothing else. -/
theorem putAngle_frame (p : Fin 2) (w : Nat) (s : State) :
    putAngle p w s = { s with link := { s.link with sent := (putAngle p w s).link.sent } } := by
  unfold putAngle
  split <;> rfl

theorem portUp_putAngle (p q : Fin 2) (w : Nat) (s : State) : portUp (putAngle p w s) q = portUp s q := by
  rw [putAngle_frame]
  rfl

/-- A port that is UP sends the beat. -/
theorem mem_putAngle_self {p : Fin 2} (w : Nat) (h : portUp s p) : (p.val, .angle w) ∈ (putAngle p w s).link.sent := by
  rw [putAngle, if_pos h]
  exact List.mem_append_right _ List.mem_cons_self

/-- A beat goes in between what was to go out. -/
theorem mem_putAngle_of_mem (p : Fin 2) (w : Nat) {e : Nat × LinkTx} (h : e ∈ s.link.sent) :
    e ∈ (putAngle p w s).link.sent := by
  unfold putAngle
  split
  · rw [← List.takeWhile_append_dropWhile (p := fun e => !laterBeat p w e) (l := s.link.sent)] at h
    rcases List.mem_append.1 h with hbefore | hbehind
    · exact List.mem_append_left _ hbefore
    · exact List.mem_append_right _ (List.mem_cons_of_mem _ hbehind)
  · exact h

/-- The beat a sender sends (R413, R414). -/
def ownBeat (s : State) : Nat :=
  let c := incCode ((ctl s).stalled || s.dev.st == .stalled) (ctl s).atHorizon (ctl s).inc
  angleBits s.linkId s.dev.epochOpen (ctl s).astern (presented (ctl s)) c.1 c.2 s.dev.epoch

/-- A sender whose beat is due gives it to both ports (R413). -/
theorem angleSendStep_due (hpt : s.ptStands = false) (hpark : s.dev.st ≠ .park) (htx : s.on LINK.base LINK.CFG_TX_ANGLE)
    (hdue : s.link.beatAngle ≠ s.pt / 40 + 1) :
    angleSendStep s = (putAngle 1 (ownBeat s) (putAngle 0 (ownBeat s) s)).updLink
      (fun l => { l with beatAngle := s.pt / 40 + 1 }) := by
  unfold angleSendStep
  exact if_neg (by simp [hpt, hpark, htx, hdue])

theorem mem_ownBeat_sent {p : Fin 2} (hup : portUp s p) :
    (p.val, .angle (ownBeat s)) ∈ (putAngle 1 (ownBeat s) (putAngle 0 (ownBeat s) s)).link.sent := by
  match p with
  | 0 => exact mem_putAngle_of_mem 1 _ (mem_putAngle_self _ hup)
  | 1 => exact mem_putAngle_self _ ((portUp_putAngle 0 1 _ s).trans hup)

theorem angle_sends (hpt : s.ptStands = false) (hpark : s.dev.st ≠ .park) (htx : s.on LINK.base LINK.CFG_TX_ANGLE)
    (hdue : s.link.beatAngle ≠ s.pt / 40 + 1) :
    ∃ t, exec .angleSend s = .next t ∧ t.link.beatAngle = s.pt / 40 + 1 ∧
      (∀ p : Fin 2, portUp s p → (p.val, .angle (ownBeat s)) ∈ t.link.sent) ∧ t = { s with link := t.link } := by
  refine ⟨_, congrArg Host.Outcome.next (angleSendStep_due hpt hpark htx hdue), rfl, fun p hup => mem_ownBeat_sent hup, ?_⟩
  rw [putAngle_frame 1, putAngle_frame 0]
  rfl

end
end Sys2Proof.Machine

namespace Sys2Proof.Machine

/-! ## ANGLE beats in (R92, R413) -/

section
variable {s : State} {p : Fin 2} {b : AngleBeat} {inc : Nat} {st : Bool}

/-- A beat as it goes on out of the other port (R413). -/
def beatWord (b : AngleBeat) : Nat :=
  angleBits b.src.toNat b.isOpen b.astern b.angle.toNat b.exp.toNat b.mant.toNat b.epoch.toNat

/-- A good beat has gone on, and its sender's angle is kept for the vote (R92, R413). -/
def beatNoted (p : Fin 2) (b : AngleBeat) (inc : Nat) (s : State) : State :=
  notePeer b inc (putAngle (otherPort p) (beatWord b) s)

theorem beatNoted_frame (p : Fin 2) (b : AngleBeat) (inc : Nat) (s : State) : beatNoted p b inc s =
    { s with xchk := (beatNoted p b inc s).xchk, link := { s.link with sent := (beatNoted p b inc s).link.sent } } := by
  unfold beatNoted notePeer
  rw [putAngle_frame]

theorem beatNoted_sent (hup : portUp s (otherPort p)) :
    ((otherPort p).val, .angle (beatWord b)) ∈ (beatNoted p b inc s).link.sent := mem_putAngle_self _ hup

theorem beatNoted_theta (src angle n : Nat) (astern : Bool) :
    theta (beatNoted p b inc s) src angle n astern = theta s src angle n astern := by
  rw [beatNoted_frame]
  rfl

theorem beatNoted_following : following (beatNoted p b inc s) = following s := by
  rw [beatNoted_frame]
  rfl

theorem beatNoted_peers : (beatNoted p b inc s).xchk.peers =
    ⟨theta s b.src.toNat b.angle.toNat inc b.astern / 2 ^ 32, s.pt, b.isOpen, inc, b.astern, b.src.toNat⟩ ::
      s.xchk.peers.filter (fun q => decide (q.src ≠ b.src.toNat)) := by
  unfold beatNoted
  rw [putAngle_frame]
  rfl

/-- A good beat of another device goes on, is kept for the vote, and leads the follower (R92, R413, R423). -/
theorem angleReceiveStep_leads (hinc : beatInc b.exp.toNat b.mant.toNat = some (inc, st)) (hheld : s.held = false)
    (hup : portUp s p) (hcrc : b.crcOk) (hsrc : b.src.toNat ≠ s.linkId) :
    angleReceiveStep p b s = followBeat b inc st (beatNoted p b inc s) := by
  unfold angleReceiveStep
  rw [hinc]
  exact if_neg (by simp [hheld, hup, hcrc, hsrc])

/-- A device that does not follow passes a beat on and keeps it for the vote (R92, R413). -/
theorem angle_forwarded (hinc : beatInc b.exp.toNat b.mant.toNat = some (inc, st)) (hheld : s.held = false)
    (hup : portUp s p) (hcrc : b.crcOk) (hsrc : b.src.toNat ≠ s.linkId) (hfollow : following s = false) :
    exec (.angleReceive p b) s = .next (beatNoted p b inc s) := by
  refine congrArg Host.Outcome.next ((angleReceiveStep_leads hinc hheld hup hcrc hsrc).trans ?_)
  exact if_pos (Or.inl (beatNoted_following.trans hfollow))

end
end Sys2Proof.Machine

namespace Sys2Proof.Machine

/-! ## The follower out of an epoch (R423, R424) -/

section
variable {s : State} {b : AngleBeat} {inc est : Nat}

/-- What leads the link-mode tracker between beats: its accumulator, its increment, the link, and the device. -/
structure Lead where
  acc : Nat
  inc : Nat
  link : Link
  dev : Device

/-- The lead of a state. -/
def State.lead (s : State) : Lead := ⟨s.trk[(0 : Fin 2)].acc, s.trk[(0 : Fin 2)].inc, s.link, s.dev⟩

/-- Out of an epoch an entry that is crossed is noted by the tracker alone (R425). -/
theorem crossEntry_lead (n : Nat) (h : Bool) (hopen : s.dev.epochOpen = false) : (crossEntry n h s).lead = s.lead := by
  unfold crossEntry
  dsimp only
  rw [if_neg (by rw [hopen, Bool.and_false]; decide)]
  unfold State.lead
  rw [State.updTrk_self]
  rfl

theorem crossEntries_lead (k new : Nat) : ∀ (old : Nat) (s : State), s.dev.epochOpen = false →
    (crossEntries k old new s).lead = s.lead := by
  induction k with
  | zero => exact fun _ _ _ => rfl
  | succ k ih =>
    intro old s hopen
    unfold crossEntries
    dsimp only
    split
    · rfl
    · have hcross := crossEntry_lead (nextIdx s.trk[(0 : Fin 2)].astern (teeth s 0) s.trk[(0 : Fin 2)].pos)
        (nextHalf s.trk[(0 : Fin 2)].astern (teeth s 0) s.trk[(0 : Fin 2)].pos s.trk[(0 : Fin 2)].half) hopen
      exact (ih _ _ ((congrArg (fun l : Lead => l.dev.epochOpen) hcross).trans hopen)).trans hcross

/-- The estimate lies ahead of Tracker A's accumulator, less than half a cycle away (R423). -/
def leadsAhead (s : State) (est : Nat) : Bool :=
  decide (2 * travel s.trk[(0 : Fin 2)].astern (fullA s) s.trk[(0 : Fin 2)].acc est < fullA s)

/-- Out of an epoch an estimate ahead is taken, one behind is held; the increment is taken in both cases (R423). -/
theorem followEst_lead (hopen : s.dev.epochOpen = false) : (followEst est inc s).lead =
    ⟨if leadsAhead s est then est else s.trk[(0 : Fin 2)].acc, inc,
      { s.link with hold := if leadsAhead s est then none else some est }, s.dev⟩ := by
  unfold followEst
  dsimp only
  rw [if_neg (by rw [hopen, Bool.and_false]; rintro ⟨h, -⟩; cases h), crossEntries_lead _ _ _ _ (by exact hopen)]
  unfold State.lead
  rw [State.updLink_trk, State.updTrk_self]
  rfl

/-- A beat of the active source that goes on as the tracker does is an estimate (R423). -/
theorem syncBeat_estimate (hmoving : s.trk[(0 : Fin 2)].stalled = false) (hepoch : b.isOpen)
    (hnumber : b.epoch.toNat = s.link.beatEpoch) (hdir : b.astern = s.trk[(0 : Fin 2)].astern) :
    syncBeat b inc false s = followEst (theta s b.src.toNat b.angle.toNat inc b.astern) inc s := by
  unfold syncBeat
  dsimp only
  rw [hmoving, if_neg (by simp [hepoch, hnumber]), if_neg (fun h => Bool.false_ne_true h.1), if_neg (not_not.2 hdir),
    if_neg Bool.false_ne_true]
  exact if_neg fun h => Bool.false_ne_true h.1

/-- A beat of the active source reaches a follower in SYNC (R423). -/
theorem followBeat_sync {st : Bool} (hfollow : following s) (hpark : s.dev.st ≠ .park) (hpt : s.ptStands = false)
    (hsrc : s.rd LINK.base LINK.STAT_ACTIVE_SRC = b.src.toNat) (harmed : s.dev.st ≠ .armed)
    (hsync : s.trk[(0 : Fin 2)].acq = .sync) :
    followBeat b inc st s = syncBeat b inc st (s.updLink fun l => { l with beatAt := some s.tick }) := by
  unfold followBeat
  rw [if_neg (by simp [hfollow, hpark, hpt]), if_pos hsrc]
  unfold activeBeat
  dsimp only
  rw [if_neg (by exact harmed), State.updLink_trk, hsync]

end

section
variable {s : State} {p : Fin 2} {b : AngleBeat} {inc : Nat}

/-- A beat that a follower in SYNC takes as an estimate out of an epoch (R423, R424). -/
structure Led (p : Fin 2) (b : AngleBeat) (inc : Nat) (s : State) : Prop where
  code : beatInc b.exp.toNat b.mant.toNat = some (inc, false)
  free : s.held = false
  up : portUp s p
  good : b.crcOk
  foreign : b.src.toNat ≠ s.linkId
  follows : following s
  counts : s.ptStands = false
  unparked : s.dev.st ≠ .park
  armed : s.dev.st ≠ .armed
  active : s.rd LINK.base LINK.STAT_ACTIVE_SRC = b.src.toNat
  sync : s.trk[(0 : Fin 2)].acq = .sync
  moving : s.trk[(0 : Fin 2)].stalled = false
  closed : s.dev.epochOpen = false
  isOpen : b.isOpen
  number : b.epoch.toNat = s.link.beatEpoch
  dir : b.astern = s.trk[(0 : Fin 2)].astern

/-- Noting the beat leaves it one that is taken. -/
theorem Led.noted (h : Led p b inc s) : Led p b inc (beatNoted p b inc s) := by
  rw [beatNoted_frame]
  exact ⟨h.code, h.free, h.up, h.good, h.foreign, h.follows, h.counts, h.unparked, h.armed, h.active, h.sync, h.moving,
    h.closed, h.isOpen, h.number, h.dir⟩

/-- Such a beat gives the tracker its estimate, once it has been noted and timed (R423). -/
theorem Led.estimate (h : Led p b inc s) : angleReceiveStep p b s =
    followEst (theta s b.src.toNat b.angle.toNat inc b.astern) inc
      ((beatNoted p b inc s).updLink fun l => { l with beatAt := some (beatNoted p b inc s).tick }) := by
  have hn := h.noted
  rw [angleReceiveStep_leads h.code h.free h.up h.good h.foreign,
    followBeat_sync hn.follows hn.unparked hn.counts hn.active hn.armed hn.sync,
    ← beatNoted_theta (p := p) (b := b) (inc := inc)]
  exact syncBeat_estimate hn.moving hn.isOpen hn.number hn.dir

/-- What such a beat leaves to the tracker and the link. -/
theorem Led.lead (h : Led p b inc s) {est : Nat} (hest : est = theta s b.src.toNat b.angle.toNat inc b.astern) :
    (angleReceiveStep p b s).lead = ⟨if leadsAhead s est then est else s.trk[(0 : Fin 2)].acc, inc,
      { s.link with
        sent := (beatNoted p b inc s).link.sent
        beatAt := some s.tick
        hold := if leadsAhead s est then none else some est }, s.dev⟩ := by
  rw [h.estimate, ← hest, followEst_lead (by exact h.noted.closed), beatNoted_frame]
  rfl

/-- Such a beat sets the increment, and the accumulator unless the estimate lies behind (R423). -/
theorem Led.takes (h : Led p b inc s) {est : Nat} (hest : est = theta s b.src.toNat b.angle.toNat inc b.astern) :
    ∃ t, exec (.angleReceive p b) s = .next t ∧ t.trk[(0 : Fin 2)].inc = inc ∧ t.link.beatAt = some s.tick ∧
      (2 * travel b.astern (fullA s) s.trk[(0 : Fin 2)].acc est < fullA s →
        t.trk[(0 : Fin 2)].acc = est ∧ t.link.hold = none) ∧
      (fullA s ≤ 2 * travel b.astern (fullA s) s.trk[(0 : Fin 2)].acc est →
        t.trk[(0 : Fin 2)].acc = s.trk[(0 : Fin 2)].acc ∧ t.link.hold = some est) := by
  have hlead := h.lead hest
  have hahead : leadsAhead s est = decide (2 * travel b.astern (fullA s) s.trk[(0 : Fin 2)].acc est < fullA s) := by
    rw [h.dir, leadsAhead]
  have hacc : (angleReceiveStep p b s).trk[(0 : Fin 2)].acc = _ := congrArg Lead.acc hlead
  have hhold : (angleReceiveStep p b s).link.hold = _ := congrArg (fun l : Lead => l.link.hold) hlead
  rw [hahead] at hacc hhold
  refine ⟨_, rfl, congrArg Lead.inc hlead, congrArg (fun l : Lead => l.link.beatAt) hlead, fun hlt => ?_, fun hge => ?_⟩
  · rw [decide_eq_true hlt] at hacc hhold
    exact ⟨hacc, hhold⟩
  · rw [decide_eq_false (Nat.not_lt.2 hge)] at hacc hhold
    exact ⟨hacc, hhold⟩

end
end Sys2Proof.Machine

namespace Sys2Proof.Machine

/-! ## The flywheel (R110, R424) -/

section
variable {s : State}

theorem TRK_base_add_ne_LINK (k : Fin 2) {m n : Nat} (hm : m < 0x1000) : LINK.base + n ≠ TRK.base k + m := by
  unfold LINK.base TRK.base
  omega

/-- Leaving SYNC writes the tracker's own page, and the link's stands. -/
theorem leaveSync_link (k : Fin 2) (cause : Nat) (q : Acq) (s : State) : (leaveSync k cause q s).link = s.link := by
  have hrec : (recordLoss k cause s).link = s.link := by
    rw [recordLoss, State.wr_link, State.wr_link, State.wr_link, State.wr_link]
  unfold leaveSync
  split
  · exact (State.raise_link _ _).trans hrec
  · rfl

theorem rd_leaveSync_link (k : Fin 2) (cause : Nat) (q : Acq) {f : Fld} (hf : f.ofTrk) (s : State) :
    (leaveSync k cause q s).rd LINK.base f = s.rd LINK.base f := by
  simp only [Fld.ofTrk, Bool.and_eq_true, decide_eq_true_eq] at hf
  have hraw : (LINK.base + f.off) % 0x1000 ≠ 0x10 := by unfold LINK.base; omega
  unfold leaveSync recordLoss
  split
  · dsimp only
    rw [rd_updTrk, rd_raise_ne _ _ _ hraw, rd_wr_ne _ _ _ _ (TRK_base_add_ne_LINK k (by decide)),
      rd_wr_ne _ _ _ _ (TRK_base_add_ne_LINK k (by decide)), rd_wr_ne _ _ _ _ (TRK_base_add_ne_LINK k (by decide)),
      rd_wr_ne _ _ _ _ (TRK_base_add_ne_LINK k (by decide))]
  · rfl

/-- A follower that loses its source gives up the held estimate and counts the loss (R430, R432). -/
theorem noteLinkLoss_counts (hfollow : following s) (hsync : s.trk[(0 : Fin 2)].acq = .sync) :
    (noteLinkLoss 0 s).link.hold = none ∧
      (noteLinkLoss 0 s).rd LINK.base LINK.TAKES_LOSSES =
        sat LINK.TAKES_LOSSES.top (s.rd LINK.base LINK.TAKES_LOSSES + 1) := by
  have hstep : noteLinkLoss 0 s =
      ((s.updLink (fun l => { l with hold := none })).bump LINK.base LINK.TAKES_LOSSES).raise 239 :=
    if_pos ⟨rfl, hfollow, hsync⟩
  rw [hstep]
  refine ⟨by simp, ?_⟩
  rw [rd_raise_ne _ _ _ (by decide), rd_bump_self _ _ _ (by decide)]
  rfl

/-- Out of an epoch a loss of sync is the tracker's alone (R110). -/
theorem loseSyncTo_closed (q : Acq) (k : Fin 2) (cause : Nat) (hopen : s.dev.epochOpen = false) :
    loseSyncTo q k cause s = leaveSync k cause q (noteLinkLoss k s) := by
  obtain ⟨-, hdev, -⟩ := noteLinkLoss_keeps k s
  unfold loseSyncTo
  dsimp only
  rw [hdev, if_neg (by rw [hopen]; exact fun h => Bool.false_ne_true h.1)]

/-- A flywheel that runs out in SYNC is a loss of sync (R424). -/
theorem flyExpireStep_due (hfollow : following s) (hsync : s.trk[(0 : Fin 2)].acq = .sync) (hpt : s.ptStands = false)
    (hdue : ∀ n, s.link.beatAt = some n → n + 400 * s.cfg LINK.base LINK.CFG_FLY ≤ s.tick) :
    flyExpireStep s = loseSyncTo .steady 0 6 s := by
  unfold flyExpireStep
  refine if_pos ⟨hfollow, hsync, ?_, hpt⟩
  split
  next n hbeat => exact decide_eq_true (hdue n hbeat)
  · rfl

theorem flywheel_expires (hfollow : following s) (hsync : s.trk[(0 : Fin 2)].acq = .sync) (hpt : s.ptStands = false)
    (hopen : s.dev.epochOpen = false)
    (hdue : ∀ n, s.link.beatAt = some n → n + 400 * s.cfg LINK.base LINK.CFG_FLY ≤ s.tick) :
    ∃ t, exec .flywheelExpire s = .next t ∧ t.trk[(0 : Fin 2)].acq = .steady ∧ t.link.hold = none ∧
      t.rd LINK.base LINK.TAKES_LOSSES = sat LINK.TAKES_LOSSES.top (s.rd LINK.base LINK.TAKES_LOSSES + 1) := by
  obtain ⟨htrk, -⟩ := noteLinkLoss_keeps 0 s
  obtain ⟨hhold, hcount⟩ := noteLinkLoss_counts hfollow hsync
  have hleft := leaveSync_left (s := noteLinkLoss 0 s) (k := 0) 6 .steady (by rw [htrk]; exact hsync)
  refine ⟨_, congrArg Host.Outcome.next ((flyExpireStep_due hfollow hsync hpt hdue).trans (loseSyncTo_closed _ _ _ hopen)),
    ?_, ?_, ?_⟩
  · rw [hleft.trk, Tracker.leave_acq]
  · rw [leaveSync_link, hhold]
  · rw [rd_leaveSync_link _ _ _ (by decide), hcount]

end

/-- Settles O52: beats sent, beats passed on, beats followed, and the flywheel. -/
theorem anglesLeadTheFollower : Obligations.AnglesLeadTheFollower := by
  refine ⟨fun s => ?sends, fun p b inc st s => ?passes, fun p b inc s => ?follows, fun s => ?flywheel⟩
  case sends => exact fun hpt hpark htx hdue => angle_sends hpt hpark htx hdue
  case passes =>
    intro hinc hheld hup hcrc hsrc hfollow
    refine ⟨_, angle_forwarded hinc hheld hup hcrc hsrc hfollow, beatNoted_sent, beatNoted_peers, ?_⟩
    rw [beatNoted_frame]
  case follows =>
    intro code free up good foreign follows counts unparked armed active sync moving closed isOpen number dir
    exact Led.takes ⟨code, free, up, good, foreign, follows, counts, unparked, armed, active, sync, moving, closed, isOpen,
      number, dir⟩ rfl
  case flywheel => exact fun hfollow hsync hpt hopen hdue => flywheel_expires hfollow hsync hpt hopen hdue

end Sys2Proof.Machine

namespace Sys2Proof.Machine

/-! ## What decides whose a port's cycle is (R139, R445) -/

/-- What the crossbar looks at: the state without the host ports, the flash master, and the link but its open requests. -/
def State.onBus (s : State) : State :=
  { s with link := { initLink with reqs := s.link.reqs }, host := initHost 0, flash := initFlash }

section
variable (s : State)

@[simp] theorem onBus_namedAt (port t : Nat) : namedAt s.onBus port t = namedAt s port t := rfl
@[simp] theorem onBus_planSlotted (code port : Nat) : planSlotted s.onBus code port = planSlotted s code port := rfl
@[simp] theorem onBus_targetOf (a : Nat) : targetOf s.onBus a = targetOf s a := rfl
@[simp] theorem onBus_farPort (f : FarAcc) : farPort s.onBus f = farPort s f := rfl
@[simp] theorem onBus_firstSlot (c : Fin 4) (port t : Nat) (l : List Nat) : firstSlot s.onBus c port t l = firstSlot s c port t l := rfl

theorem onBus_orphanSlots (c : Fin 4) (port : Nat) : ∀ (l : List FarAcc) (used : List Nat),
    orphanSlots s.onBus c port l used = orphanSlots s c port l used
  | [], _ => rfl
  | _ :: l, _ => onBus_orphanSlots c port l _
@[simp] theorem onBus_takenSlots (c : Fin 4) (task : Bool) (port : Nat) (f : FarAcc) :
    takenSlots s.onBus c task port f = takenSlots s c task port f := by
  simp only [takenSlots, onBus_orphanSlots, onBus_farPort, onBus_firstSlot]
  rfl
@[simp] theorem onBus_planSlot (c : Fin 4) (task : Bool) (f : FarAcc) : planSlot s.onBus c task f = planSlot s c task f := by
  simp only [planSlot, onBus_takenSlots, onBus_farPort, onBus_firstSlot]
@[simp] theorem onBus_coreRequests (c : Fin 4) (port : Nat) : coreRequests s.onBus c port = coreRequests s c port := rfl
@[simp] theorem onBus_grantsOf (code port : Nat) : grantsOf s.onBus code port = grantsOf s code port := rfl
@[simp] theorem onBus_corePresents (c : Fin 4) (port : Nat) : corePresents s.onBus c port = corePresents s c port := by
  simp only [corePresents, onBus_planSlot, onBus_coreRequests, onBus_planSlotted, onBus_grantsOf]
  rfl
@[simp] theorem onBus_chanNext (c : Fin 32) : chanNext s.onBus c = chanNext s c := rfl
@[simp] theorem onBus_writerPresents (port : Nat) : writerPresents s.onBus port = writerPresents s port := rfl
@[simp] theorem onBus_readyWait (code port : Nat) : readyWait s.onBus code port = readyWait s code port := rfl
@[simp] theorem onBus_presents (code port : Nat) : presents s.onBus code port = presents s code port := by
  simp only [presents, onBus_corePresents, onBus_chanNext, onBus_writerPresents, onBus_readyWait, onBus_targetOf]
@[simp] theorem onBus_ptStands : s.onBus.ptStands = s.ptStands := rfl
@[simp] theorem onBus_cycleOpen (port t : Nat) : cycleOpen s.onBus port t = cycleOpen s port t := by
  simp only [cycleOpen, onBus_ptStands, onBus_namedAt, onBus_presents]
  rfl
@[simp] theorem onBus_openAsks (port code : Nat) : openAsks s.onBus port code = openAsks s port code := by
  simp only [openAsks, onBus_ptStands, onBus_planSlotted, onBus_presents]
@[simp] theorem onBus_clusterPick (asks : Nat → Bool) (k : Nat) (r : Rot) :
  clusterPick s.onBus asks k r = clusterPick s asks k r := rfl

theorem onBus_offerTurn (asks : Nat → Bool) : ∀ (l : List Nat) (r : Rot), offerTurn s.onBus asks l r = offerTurn s asks l r
  | [], _ => rfl
  | k :: l, r => by simp only [offerTurn, onBus_clusterPick, onBus_offerTurn asks l]
@[simp] theorem onBus_winnerFor (code port : Nat) : winnerFor s.onBus code port = winnerFor s code port := by
  simp only [winnerFor, openWinner, onBus_openAsks, onBus_offerTurn]
  rfl
@[simp] theorem onBus_busAllows (code port : Nat) : busAllows s.onBus code port = busAllows s code port := by
  simp only [busAllows, onBus_ptStands, onBus_planSlotted, onBus_namedAt, onBus_cycleOpen, onBus_winnerFor]
  have h : openAsks s.onBus port = openAsks s port := funext (onBus_openAsks s port)
  rw [h]
  rfl
@[simp] theorem onBus_portOpen (i : Initiator) (port : Nat) : portOpen s.onBus i port = portOpen s i port := by
  simp only [portOpen, onBus_busAllows]
  rfl

end

section
variable {s t : State} (h : t.onBus = s.onBus)
include h

theorem portOpen_congr (i : Initiator) (port : Nat) : portOpen t i port = portOpen s i port := by
  rw [← onBus_portOpen t, h, onBus_portOpen]

end

end Sys2Proof.Machine

namespace Sys2Proof.Machine

/-! ## Frames going out of a port (R415, R416) -/

section
variable (s : State) (g : LinkPort → LinkPort)

@[simp] theorem port_updPort_self (p : Fin 2) : (s.updPort p g).link.ports[p] = g s.link.ports[p] := by
  simp [State.updPort, State.updLink]

theorem port_updPort_ne {p q : Fin 2} (h : q ≠ p) : (s.updPort p g).link.ports[q] = s.link.ports[q] := by
  have h' : (p : Nat) ≠ q := fun e => h (Fin.ext e.symm)
  simp [State.updPort, State.updLink, h']

end

section
variable {s : State} (p q : Fin 2) (f : LinkFrame)

/-- A port that keeps a frame for its acknowledgement, under the next sequence number (R416). -/
def LinkPort.keep (x : LinkPort) (tick : Nat) : LinkPort :=
  { x with
    txSeq := (x.txSeq + 1) % 256
    unacked := x.unacked ++ [{ f with lseq := x.txSeq }]
    ackAt := if x.unacked = [] then tick else x.ackAt }

/-- A port behind whose 32 unacknowledged frames a frame waits (R416). -/
def LinkPort.delay (x : LinkPort) : LinkPort := { x with waiting := x.waiting ++ [f] }

/-- With room a frame is kept, and put out where the port is UP. -/
theorem sendFrame_of_room (h : s.link.ports[p].unacked.length < 32) : sendFrame p f s =
    (s.updPort p (fun x => x.keep f s.tick)).updLink (fun l => { l with
      sent := l.sent ++ if portUp s p then [(p.val, .frame { f with lseq := s.link.ports[p].txSeq })] else [] }) := by
  have hup (g : LinkPort → LinkPort) : portUp (s.updPort p g) p = portUp s p := rfl
  unfold sendFrame
  dsimp only
  rw [if_neg (by omega), hup]
  split
  · rfl
  · simp only [List.append_nil]
    rfl

theorem sendFrame_of_full (h : 32 ≤ s.link.ports[p].unacked.length) :
    sendFrame p f s = s.updPort p (fun x => x.delay f) := if_pos h

/-- A frame sent changes the ports, and what the link has put out. -/
theorem sendFrame_only (s : State) : sendFrame p f s = { s with link := { s.link with
    ports := (sendFrame p f s).link.ports, sent := (sendFrame p f s).link.sent } } := by
  by_cases h : s.link.ports[p].unacked.length < 32
  · rw [sendFrame_of_room p f h]
    rfl
  · rw [sendFrame_of_full p f (Nat.le_of_not_lt h)]
    rfl

theorem sendFrame_rxSeq (s : State) : (sendFrame p f s).link.ports[q].rxSeq = s.link.ports[q].rxSeq := by
  have hset (g : LinkPort → LinkPort) (hg : ∀ x, (g x).rxSeq = x.rxSeq) :
      (s.updPort p g).link.ports[q].rxSeq = s.link.ports[q].rxSeq := by
    by_cases h : q = p
    · rw [h, port_updPort_self, hg]
    · rw [port_updPort_ne _ _ h]
  by_cases h : s.link.ports[p].unacked.length < 32
  · rw [sendFrame_of_room p f h]
    exact hset (fun x => x.keep f s.tick) fun _ => rfl
  · rw [sendFrame_of_full p f (Nat.le_of_not_lt h)]
    exact hset (fun x => x.delay f) fun _ => rfl

theorem sendFrame_waiting (h : 32 ≤ s.link.ports[p].unacked.length) :
    (sendFrame p f s).link.ports[p].waiting = s.link.ports[p].waiting ++ [f] := by
  rw [sendFrame_of_full p f h, port_updPort_self]
  rfl

section
variable (h : s.link.ports[p].unacked.length < 32)
include h

theorem sendFrame_unacked : (sendFrame p f s).link.ports[p].unacked =
    s.link.ports[p].unacked ++ [{ f with lseq := s.link.ports[p].txSeq }] := by
  rw [sendFrame_of_room p f h]
  exact congrArg LinkPort.unacked (port_updPort_self s (fun x => x.keep f s.tick) p)

theorem sendFrame_sent (hup : portUp s p) : (sendFrame p f s).link.sent =
    s.link.sent ++ [(p.val, .frame { f with lseq := s.link.ports[p].txSeq })] := by
  rw [sendFrame_of_room p f h, if_pos hup]
  rfl

end

/-- What becomes of a frame at a port that is UP (R416). -/
theorem sendFrame_goes (hup : portUp s p) :
    if s.link.ports[p].unacked.length < 32 then
      (sendFrame p f s).link.ports[p].unacked = s.link.ports[p].unacked ++ [{ f with lseq := s.link.ports[p].txSeq }] ∧
      (sendFrame p f s).link.sent = s.link.sent ++ [(p.val, .frame { f with lseq := s.link.ports[p].txSeq })]
    else (sendFrame p f s).link.ports[p].waiting = s.link.ports[p].waiting ++ [f] := by
  split
  next h => exact ⟨sendFrame_unacked p f h, sendFrame_sent p f h hup⟩
  next h => exact sendFrame_waiting p f (Nat.le_of_not_lt h)

theorem sendFrame_reqs (s : State) : (sendFrame p f s).link.reqs = s.link.reqs := by rw [sendFrame_only]

end
end Sys2Proof.Machine

namespace Sys2Proof.Machine

/-! ## Windows of other devices (R418, R434) -/

theorem regionOf_peer {a : Nat} (h : 0x10000000 ≤ a) (h' : a < 0x18000000) :
    regionOf a = some (.peer ((a - 0x10000000) / 0x1000000)) := by
  have hr := regionAt a
  generalize regionOf a = r at *
  cases hr with
  | peer => rfl
  | _ => omega

/-- The address of a window of another device: its range, whose it is, and the port that serves it. -/
structure Window (s : State) (a : Nat) : Prop where
  low : 0x10000000 ≤ a
  high : a < 0x18000000
  peer : peerOf s a = some ((a - 0x10000000) / 0x1000000)
  port : portOf (targetOf s a) = 10

theorem window_of {s : State} {a : Nat} (h : 0x10000000 ≤ a) (h' : a < 0x18000000)
    (hd : (a - 0x10000000) / 0x1000000 ≠ s.linkId) : Window s a := by
  have hr := regionOf_peer h h'
  have hp : peerOf s a = some ((a - 0x10000000) / 0x1000000) := by simp [peerOf, hr, hd]
  exact ⟨h, h', hp, by simp [targetOf, hp, portOf, hr, Region.port]⟩

theorem window_of_isSome {s : State} {a : Nat} (h : (peerOf s a).isSome) : Window s a := by
  have hr := regionAt a
  unfold peerOf at h
  generalize regionOf a = r at *
  cases hr with
  | peer hl hh =>
    refine window_of hl hh fun e => ?_
    simp [e] at h
  | _ => cases h

/-! ## A path stands while accesses are served -/

section
variable (i : Initiator) (port : Nat) (s : State)

theorem served_portUp (p : Fin 2) : portUp (served i port s) p = portUp s p := by
  unfold portUp portState
  rw [served_rd_ne]
  unfold portFld
  split <;> decide

@[simp] theorem served_link : (served i port s).link = s.link := by rw [show served i port s = _ from served_regsMemcOnly i port s]
@[simp] theorem served_tick : (served i port s).tick = s.tick := by rw [show served i port s = _ from served_regsMemcOnly i port s]
@[simp] theorem served_linkId : (served i port s).linkId = s.linkId := by rw [State.linkId, served_dev]; rfl

theorem takeTurn_link (code : Nat) : (takeTurn code port s).link = s.link := by
  rw [show takeTurn code port s = _ from takeTurn_regsMemcOnly code port s]

theorem takeTurn_pathPort (code d : Nat) : pathPort (takeTurn code port s) d = pathPort s d := by
  have hup (p : Fin 2) : portUp (takeTurn code port s) p = portUp s p := by
    unfold portUp portState
    rw [rd_congr (takeTurn_regs code port s)]
  unfold pathPort heardOf
  rw [takeTurn_link]
  simp only [hup]

theorem takeTurn_peerOf (code a : Nat) : peerOf (takeTurn code port s) a = peerOf s a := by
  rw [show takeTurn code port s = _ from takeTurn_regsMemcOnly code port s]
  rfl

end

/-- The port of a path is UP. -/
theorem portUp_of_pathPort {s : State} {d : Nat} {p : Fin 2} (h : pathPort s d = some p) : portUp s p = true := by
  unfold pathPort at h
  split at h
  · split at h
    next hup => rwa [← Option.some.inj h]
    next => cases h
  · cases h

/-! ## Peer accesses (R418, R419) -/

/-- The device an address in a window leads to. -/
def peerDev (a : Nat) : Nat := (a - 0x10000000) / 0x1000000

/-- The MEM frame of an access of n bytes through a window (R415, R418). -/
def memFrame (s : State) (i : Initiator) (a n : Nat) (w : Bool) (v : Nat) : LinkFrame :=
  frameTo s 2 (if w then 2 else 1) (peerDev a) (wordsOf a n v).length s.link.nextTag (initCode i) 0 (byteEnables a n)
    ((a % 0x1000000 / 4 * 4) :: (if w then wordsOf a n v else []))

/-- The answer that an access through a window awaits. -/
def memReq (s : State) (who : PeerWho) (i : Initiator) (a n : Nat) (w : Bool) : PeerReq :=
  ⟨s.link.nextTag, peerDev a, a, w, decide (n = 2), who, initCode i, s.tick⟩

/-- A request takes its tag and awaits its answer. -/
def awaits (r : PeerReq) (s : State) : State :=
  s.updLink (fun l => { l with nextTag := (s.link.nextTag + 1) % 256, reqs := l.reqs ++ [r] })

section
variable {who : PeerWho} {i : Initiator} {a n v : Nat} {w : Bool} {s : State} {p : Fin 2}

theorem peerSend_path (hp : pathPort s (peerDev a) = some p) :
    peerSend who (initCode i) a n w v s = (true, sendFrame p (memFrame (monBeat 10 (initCode i) s) i a n w v)
      (awaits (memReq (monBeat 10 (initCode i) s) who i a n w) (monBeat 10 (initCode i) s))) := by
  unfold peerSend
  dsimp only
  rw [show pathPort s ((a - 0x10000000) / 0x1000000) = some p from hp]
  rfl

theorem peerSend_lost (hp : pathPort s (peerDev a) = none) : peerSend who (initCode i) a n w v s = (false, s) := by
  unfold peerSend
  dsimp only
  rw [show pathPort s ((a - 0x10000000) / 0x1000000) = none from hp]

/-- Beyond the submission registers an access through a window is sent over a path, or ends in a bus error (R418, R419). -/
theorem accessDo_window (hw : (peerOf s a).isSome) (ho : a % 0x1000000 < 0x406040 ∨ 0x406058 ≤ a % 0x1000000) :
    accessDo who (.plain i) a n w v s =
      if (peerSend who (initCode i) a n w v s).1 then (.waits, (peerSend who (initCode i) a n w v s).2)
      else (.done 3 0, busError i a w (peerSend who (initCode i) a n w v s).2) := by
  obtain ⟨d, hd⟩ := Option.isSome_iff_exists.1 hw
  unfold accessDo
  rw [hd]
  dsimp only
  rw [if_neg (by omega), if_neg (by omega)]
  simp only [peerHalf, ite_self]
  rfl

theorem accessBegin_open (ho : portOpen s i (portOf (targetOf s a)) = true) : accessBegin who i a n w v s =
    accessDo who (.plain i) a n w v (takeTurn (initCode i) (portOf (targetOf s a)) s) := if_pos ho

theorem plainAccess_path (hw : (peerOf s a).isSome) (ho : a % 0x1000000 < 0x406040 ∨ 0x406058 ≤ a % 0x1000000)
    (hp : pathPort s (peerDev a) = some p) (hopen : portOpen s i 10 = true) :
    plainAccess i a n w v s = { sendFrame p (memFrame s i a n w v)
      (awaits (memReq s (.plain i) i a n w) (served i 10 s)) with respData := [], respErr := false } := by
  have hport := (window_of_isSome hw).port
  have hframe : memFrame (served i 10 s) i a n w v = memFrame s i a n w v := by simp [memFrame, frameTo]
  have hreq : memReq (served i 10 s) (.plain i) i a n w = memReq s (.plain i) i a n w := by simp [memReq]
  unfold plainAccess
  dsimp only
  rw [accessBegin_open (by rwa [hport]), hport, accessDo_window (by rwa [takeTurn_peerOf]) ho,
    peerSend_path (by rwa [takeTurn_pathPort]), ← hframe, ← hreq]
  rfl

theorem plainAccess_lost (hw : (peerOf s a).isSome) (ho : a % 0x1000000 < 0x406040 ∨ 0x406058 ≤ a % 0x1000000)
    (hp : pathPort s (peerDev a) = none) (hopen : portOpen s i 10 = true) :
    plainAccess i a n w v s = { busError i a w (takeTurn (initCode i) 10 s) with respData := [], respErr := true } := by
  have hport := (window_of_isSome hw).port
  unfold plainAccess
  dsimp only
  rw [accessBegin_open (by rwa [hport]), hport, accessDo_window (by rwa [takeTurn_peerOf]) ho,
    peerSend_lost (by rwa [takeTurn_pathPort])]
  cases w <;> rfl

end

theorem exec_peerAccess {i : Initiator} {a v : Word} {w h : Bool} {s : State} (hw : (peerOf s a.toNat).isSome)
    (ha : a.toNat % (if h then 2 else 4) = 0) (hb : busStopped s = false) :
    exec (.peerAccess i a w h v) s = .next (plainAccess i a.toNat (if h then 2 else 4) w v.toNat s) := by
  obtain ⟨hlow, hhigh, -, -⟩ := window_of_isSome hw
  show execPeerAccess i a w h v s = _
  unfold execPeerAccess
  dsimp only
  rw [if_neg (by omega), hb]
  rfl

end Sys2Proof.Machine

namespace Sys2Proof.Machine

/-! ## Peer accesses and orders, as commands -/

@[simp] theorem busError_link (i : Initiator) (a : Nat) (w : Bool) (s : State) : (busError i a w s).link = s.link := by
  simp [busError]

section
variable {i : Initiator} {a v : Word} {w h : Bool} {p : Fin 2} {s : State}

/-- Through a window a path leads to, an access goes out as a MEM frame and awaits its answer (R418). -/
theorem peerAccess_sends (hw : (peerOf s a.toNat).isSome) (ha : a.toNat % (if h then 2 else 4) = 0)
    (ho : a.toNat % 0x1000000 < 0x406040 ∨ 0x406058 ≤ a.toNat % 0x1000000)
    (hp : pathPort s (peerDev a.toNat) = some p) (hb : busStopped s = false) (hopen : portOpen s i 10 = true) :
    ∃ t, exec (.peerAccess i a w h v) s = .next t ∧ t.respData = [] ∧ t.respErr = false ∧
      t.link.reqs = s.link.reqs ++ [⟨s.link.nextTag, peerDev a.toNat, a.toNat, w, h, .plain i, initCode i, s.tick⟩] ∧
      (∀ f, f = memFrame s i a.toNat (if h then 2 else 4) w v.toNat →
        if s.link.ports[p].unacked.length < 32 then
          t.link.ports[p].unacked = s.link.ports[p].unacked ++ [{ f with lseq := s.link.ports[p].txSeq }] ∧
          t.link.sent = s.link.sent ++ [(p.val, .frame { f with lseq := s.link.ports[p].txSeq })]
        else t.link.ports[p].waiting = s.link.ports[p].waiting ++ [f]) ∧
      t = { s with regs := t.regs, memc := t.memc, respData := [], respErr := false, link := t.link } := by
  have hhalf : decide ((if h then 2 else 4) = 2) = h := by cases h <;> rfl
  have hlink : (served i 10 s).link = s.link := served_link i 10 s
  have hup : portUp (served i 10 s) p = true := (served_portUp i 10 s p).trans (portUp_of_pathPort hp)
  refine ⟨_, (exec_peerAccess hw ha hb).trans (congrArg _ (plainAccess_path hw ho hp hopen)), rfl, rfl, ?_, ?_, ?_⟩
  · show (sendFrame p _ _).link.reqs = _
    rw [sendFrame_reqs, awaits, State.updLink_self, memReq, hlink, hhalf]
  · rintro f rfl
    have hports : (awaits (memReq s (.plain i) i a.toNat (if h then 2 else 4) w) (served i 10 s)).link.ports = s.link.ports := by
      rw [awaits, State.updLink_self, hlink]
    have hsent : (awaits (memReq s (.plain i) i a.toNat (if h then 2 else 4) w) (served i 10 s)).link.sent = s.link.sent := by
      rw [awaits, State.updLink_self, hlink]
    have hgoes := sendFrame_goes p (memFrame s i a.toNat (if h then 2 else 4) w v.toNat)
      (s := awaits (memReq s (.plain i) i a.toNat (if h then 2 else 4) w) (served i 10 s)) hup
    rwa [hports, hsent] at hgoes
  · have honly := served_regsMemcOnly i 10 s
    rw [sendFrame_only]
    unfold awaits
    rw [show served i 10 s = _ from honly]
    rfl

/-- Where no trained path leads an access ends in a bus error (R419). -/
theorem peerAccess_lost (hw : (peerOf s a.toNat).isSome) (ha : a.toNat % (if h then 2 else 4) = 0)
    (ho : a.toNat % 0x1000000 < 0x406040 ∨ 0x406058 ≤ a.toNat % 0x1000000)
    (hp : pathPort s (peerDev a.toNat) = none) (hb : busStopped s = false) (hopen : portOpen s i 10 = true) :
    ∃ t, exec (.peerAccess i a w h v) s = .next t ∧ t.respErr ∧ t.reg (MEM.base + 0x70) = a ∧ t.respData = [] ∧
      t.link = s.link ∧ t.mem = s.mem := by
  obtain ⟨hreg, hmem⟩ := busError_records i a.toNat w (takeTurn (initCode i) 10 s)
  refine ⟨_, (exec_peerAccess hw ha hb).trans (congrArg _ (plainAccess_lost hw ho hp hopen)), rfl,
    hreg.trans (by simp [toWord]), rfl, ?_, hmem.trans (takeTurn_regsMemcOnly _ _ _).mem⟩
  show (busError i a.toNat w (takeTurn (initCode i) 10 s)).link = _
  rw [busError_link, takeTurn_link]

end

/-! ## The end of a peer access (R418, R419) -/

/-- An outstanding access is no longer awaited; one that ends without a service is a bus error (R419). -/
def settled (r : PeerReq) (st : Nat) (s : State) : State :=
  if st = 3 then busError (initOfCode r.init) r.addr r.write (s.updLink (fun l => { l with reqs := l.reqs.erase r }))
  else s.updLink (fun l => { l with reqs := l.reqs.erase r })

theorem settled_link (r : PeerReq) (st : Nat) (s : State) :
    (settled r st s).link = { s.link with reqs := s.link.reqs.erase r } := by
  unfold settled
  split
  · exact busError_link _ _ _ _
  · rfl

theorem settled_mem (r : PeerReq) (st : Nat) (s : State) : (settled r st s).mem = s.mem := by
  unfold settled
  split
  · exact (busError_records _ _ _ _).2
  · rfl

section
variable {i : Initiator} {r : PeerReq} {s : State} (hwho : r.who = .plain i)
include hwho

/-- An access of an initiator that is nothing else's part is answered to it. -/
theorem completePeer_write (st v : Nat) (hw : r.write = true) :
    completePeer r st v s = { settled r st s with respData := [], respErr := decide (st ≠ 0) } := by
  unfold completePeer
  rw [hwho]
  exact if_pos hw

theorem completePeer_read (st v : Nat) (hw : r.write = false) :
    completePeer r st v s = answer st v (if r.half then 2 else 4) (settled r st s) := by
  unfold completePeer
  rw [hwho]
  exact if_neg (by rw [hw]; exact Bool.false_ne_true)

/-- The oldest access without an answer in time ends in a bus error at its initiator (R419). -/
theorem peerAccess_timesOut
    (hlate : s.link.reqs.find? (fun r => decide (r.at_ + 400 * s.cfg LINK.base LINK.TOL_MEM_TMO ≤ s.tick)) = some r) :
    ∃ t, exec .peerAccessTimeout s = .next t ∧ t.respData = [] ∧ t.respErr ∧ t.link.reqs = s.link.reqs.erase r ∧
      t.mem = s.mem := by
  have hstep : peerTimeoutStep s = completePeer r 3 0 s := by
    unfold peerTimeoutStep
    rw [hlate]
  have hend : completePeer r 3 0 s = { settled r 3 s with respData := [], respErr := true } := by
    cases hw : r.write with
    | true => exact completePeer_write hwho 3 0 hw
    | false => exact completePeer_read hwho 3 0 hw
  refine ⟨_, congrArg Host.Outcome.next (hstep.trans hend), rfl, rfl, ?_, settled_mem r 3 s⟩
  exact congrArg Link.reqs (settled_link r 3 s)

end

/-! ## Orders to a peer (R420) -/

section
variable {i : Initiator} {j : Fin 8} {a d n : Nat} {p : Fin 2} {s : State}

/-- The frame of an order to a peer: the three words held for it, and the one written (R420). -/
def orderFrame (s : State) (i : Initiator) (j : Fin 8) (d : Nat) (v : Word) : LinkFrame :=
  frameTo s 3 1 d 1 s.link.nextTag (initCode i) (b2n s.link.remote[j].failed) 0 (s.link.remote[j].words ++ [v.toNat])

/-- The answer that an order to a peer awaits. -/
def orderReq (s : State) (i : Initiator) (j : Fin 8) (d : Nat) : PeerReq :=
  ⟨s.link.nextTag, d, 0x10000000 + d * 0x1000000 + 0x40604C, true, false, .order j, initCode i, s.tick⟩

/-- An order that is sent clears its buffer's mark of failure (R192) and awaits its answer. -/
def ordered (i : Initiator) (j : Fin 8) (d : Nat) (s : State) : State :=
  awaits (orderReq s i j d)
    (s.updLink (fun l => { l with remote := l.remote.set j { s.link.remote[j] with failed := false } }))

theorem remoteSubmit_sends {v : Word} (hheld : ∀ q ∈ s.link.remote[j].peers, q = none ∨ q = some d)
    (hp : pathPort s d = some p) : remoteSubmit i j d v s =
      (some true, sendFrame p (orderFrame (monBeat 10 (initCode i) s) i j d v)
        (ordered i j d (monBeat 10 (initCode i) s))) := by
  have hlink : (monBeat 10 (initCode i) s).link = s.link := by
    rw [show monBeat 10 (initCode i) s = _ from monBeat_regsMemcOnly _ _ _]
  have hany : s.link.remote[j].peers.any (fun q => q != none && q != some d) = false := by
    rw [List.any_eq_false]
    intro q hq
    rcases hheld q hq with rfl | rfl <;> simp
  unfold remoteSubmit
  dsimp only
  have hrem : (monBeat 10 (initCode i) s).link.remote[j] = s.link.remote[j] := congrArg (fun l : Link => l.remote[j]) hlink
  rw [hany, if_neg Bool.false_ne_true, hp, ← hrem]
  rfl

/-- A write of SUB3 in a window is a submission to its device (R420). -/
theorem accessDo_sub3 {who : PeerWho} (hp : (peerOf s a).isSome) (hoff : a % 0x1000000 = 0x40604C) :
    accessDo who (.plain i) a 4 true n s = remoteSubWrite i a (toWord n) s := by
  obtain ⟨d, hd⟩ := Option.isSome_iff_exists.1 hp
  have hform : 4 = 4 ∧ a % 4 = 0 := ⟨rfl, by omega⟩
  unfold accessDo
  rw [hd]
  dsimp only
  rw [hoff, if_pos (by decide), if_pos hform]
  rfl

theorem remoteSubWrite_denied {v : Word} (hi : submitterOf i = none) :
    remoteSubWrite i a v s = (.done 3 0, busError i a true s) := by
  unfold remoteSubWrite
  rw [hi]

theorem remoteSubWrite_sub3 {v : Word} (hi : submitterOf i = some j) (hoff : a % 0x1000000 = 0x40604C)
    (hheld : ∀ q ∈ s.link.remote[j].peers, q = none ∨ q = some (peerDev a)) (hp : pathPort s (peerDev a) = some p) :
    remoteSubWrite i a v s = (.waits, sendFrame p (orderFrame (monBeat 10 (initCode i) s) i j (peerDev a) v)
      (ordered i j (peerDev a) (monBeat 10 (initCode i) s))) := by
  have hk : ¬ (a % 0x1000000 - 0x406040) / 4 < 3 := by omega
  unfold remoteSubWrite
  dsimp only
  rw [hi]
  dsimp only
  rw [if_neg hk, ← peerDev, remoteSubmit_sends hheld hp]

/-- An initiator without a buffer of its own ends in a bus error (R192). -/
theorem plainAccess_denied (hw : Window s a) (hoff : a % 0x1000000 = 0x40604C) (hopen : portOpen s i 10 = true)
    (hi : submitterOf i = none) : plainAccess i a 4 true n s =
      { busError i a true (takeTurn (initCode i) 10 s) with respErr := true } := by
  unfold plainAccess
  dsimp only
  rw [accessBegin_open (by rwa [hw.port]), hw.port, accessDo_sub3 (by rw [takeTurn_peerOf, hw.peer]; rfl) hoff,
    remoteSubWrite_denied hi]
  rfl

theorem plainAccess_order (hw : Window s a) (hoff : a % 0x1000000 = 0x40604C) (hopen : portOpen s i 10 = true)
    (hi : submitterOf i = some j) (hheld : ∀ q ∈ s.link.remote[j].peers, q = none ∨ q = some (peerDev a))
    (hp : pathPort s (peerDev a) = some p) : plainAccess i a 4 true n s =
      { sendFrame p (orderFrame (served i 10 s) i j (peerDev a) (toWord n)) (ordered i j (peerDev a) (served i 10 s)) with
        respData := [], respErr := false } := by
  unfold plainAccess
  dsimp only
  rw [accessBegin_open (by rwa [hw.port]), hw.port, accessDo_sub3 (by rw [takeTurn_peerOf, hw.peer]; rfl) hoff,
    remoteSubWrite_sub3 hi hoff (by rwa [takeTurn_link]) (by rwa [takeTurn_pathPort])]
  rfl

end

section
variable {i : Initiator} {j : Fin 8} {d : BitVec 3} {v : Word} {p : Fin 2} {s : State}

/-- PEER_SUBMIT writes SUB3 in the window of its device. -/
theorem exec_peerSubmit (hd : d.toNat ≠ s.linkId) (hb : busStopped s = false) : ∃ a : Nat, Window s a ∧
    a % 0x1000000 = 0x40604C ∧ peerDev a = d.toNat ∧
    exec (.peerSubmit i d v) s = .next (plainAccess i a 4 true v.toNat s) := by
  have hlt : d.toNat < 8 := d.isLt
  have hdev : (0x10000000 + d.toNat * 0x1000000 + 0x40604C - 0x10000000) / 0x1000000 = d.toNat := by omega
  refine ⟨_, window_of (by omega) (by omega) (by rwa [hdev]), by omega, hdev, ?_⟩
  show execPeerSubmit i d v s = _
  unfold execPeerSubmit
  rw [hb, if_neg Bool.false_ne_true]

/-- A write of SUB3 through a window sends one order, from an initiator with a buffer of its own (R420). -/
theorem peerSubmit_sends (hi : submitterOf i = some j) (hd : d.toNat ≠ s.linkId)
    (hheld : ∀ q ∈ s.link.remote[j].peers, q = none ∨ q = some d.toNat) (hp : pathPort s d.toNat = some p)
    (hb : busStopped s = false) (hopen : portOpen s i 10 = true) :
    ∃ t, exec (.peerSubmit i d v) s = .next t ∧ t.respErr = false ∧
      (∃ r, t.link.reqs = s.link.reqs ++ [r] ∧ r.who = .order j ∧ r.dst = d.toNat ∧ r.tag = s.link.nextTag) ∧
      (s.link.ports[p].unacked.length < 32 → ∃ g ∈ t.link.ports[p].unacked, g.typ = 3 ∧ g.op = 1 ∧ g.dst = d.toNat ∧
        g.tag = s.link.nextTag ∧ g.body = s.link.remote[j].words ++ [v.toNat]) := by
  obtain ⟨a, hw, hoff, hdev, hexec⟩ := exec_peerSubmit (i := i) (v := v) hd hb
  have hlink : (served i 10 s).link = s.link := served_link i 10 s
  have hstep := plainAccess_order (n := v.toNat) hw hoff hopen hi (by rwa [hdev]) (by rwa [hdev])
  rw [hdev, toWord, BitVec.ofNat_toNat, BitVec.setWidth_eq] at hstep
  refine ⟨_, hexec.trans (congrArg _ hstep), rfl, ⟨orderReq (served i 10 s) i j d.toNat, ?_, rfl, rfl, ?_⟩, ?_⟩
  · show (sendFrame p _ _).link.reqs = _
    rw [sendFrame_reqs, ordered, awaits, State.updLink_self, State.updLink_self, hlink]
  · exact congrArg Link.nextTag hlink
  · intro hroom
    have hports : (ordered i j d.toNat (served i 10 s)).link.ports = s.link.ports := by
      rw [ordered, awaits, State.updLink_self, State.updLink_self, hlink]
    have hkept := sendFrame_unacked p (orderFrame (served i 10 s) i j d.toNat v) (s := ordered i j d.toNat (served i 10 s))
      (by rwa [hports])
    have hmem := hkept ▸ List.mem_append_right _ (List.mem_singleton_self _)
    refine ⟨_, hmem, rfl, rfl, rfl, congrArg Link.nextTag hlink, ?_⟩
    exact congrArg (fun l : Link => l.remote[j].words ++ [v.toNat]) hlink

/-- An initiator without a buffer of its own submits nothing to a peer (R192, R420). -/
theorem peerSubmit_denied (hi : submitterOf i = none) (hd : d.toNat ≠ s.linkId) (hb : busStopped s = false)
    (hopen : portOpen s i 10 = true) :
    ∃ t, exec (.peerSubmit i d v) s = .next t ∧ t.respErr ∧ t.respData = [] ∧ t.link = s.link ∧ t.mem = s.mem := by
  obtain ⟨a, hw, hoff, -, hexec⟩ := exec_peerSubmit (i := i) (v := v) hd hb
  have hstep := plainAccess_denied (n := v.toNat) hw hoff hopen hi
  refine ⟨_, hexec.trans (congrArg _ hstep), rfl, rfl, ?_, ?_⟩
  · exact (busError_link _ _ _ _).trans (takeTurn_link _ _ _)
  · exact (busError_records _ _ _ _).2.trans (takeTurn_regsMemcOnly _ _ _).mem

end

/-- Settles O45: accesses that go out, those no path leads to, late answers, and orders to a peer. -/
theorem peerAccessesLeaveAndEnd : Obligations.PeerAccessesLeaveAndEnd :=
  ⟨fun _ _ _ _ _ _ _ hw ha ho hp hb hopen => peerAccess_sends hw ha ho hp hb hopen,
    fun _ _ _ _ _ _ hw ha ho hp hb hopen => peerAccess_lost hw ha ho hp hb hopen,
    fun _ _ _ hwho hlate => peerAccess_timesOut hwho hlate,
    fun _ _ _ _ _ _ hi hd hheld hp hb hopen => peerSubmit_sends hi hd hheld hp hb hopen,
    fun _ _ _ _ hi hd hb hopen => peerSubmit_denied hi hd hb hopen⟩

end Sys2Proof.Machine

namespace Sys2Proof.Machine

/-! ## Frames coming in at a port (R409, R416) -/

section
variable (p : Fin 2) (s : State)

theorem acked_only_link : acked p s = { s with link := (acked p s).link } := rfl
theorem acked_port_self : (acked p s).link.ports[p] =
    { s.link.ports[p] with rxSeq := (s.link.ports[p].rxSeq + 1) % 256 } :=
  port_updPort_self s (fun x => { x with rxSeq := (s.link.ports[p].rxSeq + 1) % 256 }) p
theorem acked_port_ne {q : Fin 2} (h : q ≠ p) : (acked p s).link.ports[q] = s.link.ports[q] :=
  port_updPort_ne s (fun x => { x with rxSeq := (s.link.ports[p].rxSeq + 1) % 256 }) h
theorem acked_unacked (q : Fin 2) : (acked p s).link.ports[q].unacked = s.link.ports[q].unacked := by
  by_cases h : q = p
  · rw [h, acked_port_self]
  · rw [acked_port_ne p s h]
theorem acked_txSeq (q : Fin 2) : (acked p s).link.ports[q].txSeq = s.link.ports[q].txSeq := by
  by_cases h : q = p
  · rw [h, acked_port_self]
  · rw [acked_port_ne p s h]
theorem acked_rxSeq : (acked p s).link.ports[p].rxSeq = (s.link.ports[p].rxSeq + 1) % 256 := by
  rw [acked_port_self]

/-- An acknowledgement changes nothing the crossbar looks at. -/
theorem acked_portOpen (i : Initiator) (port : Nat) : portOpen (acked p s) i port = portOpen s i port :=
  portOpen_congr (s := s) (t := acked p s) rfl i port

end

section
variable {p : Fin 2} {h : Arrival} {f : LinkFrame} {g : State → State} {s : State}
  (hheld : s.held = false) (hup : portUp s p = true)
include hheld hup

/-- A good frame for this device is acknowledged and served. -/
theorem receive_mine (hpark : s.dev.st ≠ .park) (hb : h.bcast = false) (hdst : h.dst = s.linkId) (hcrc : h.crcOk = true)
    (hseq : h.lseq = s.link.ports[p].rxSeq) : receive p h f g s = g (acked p s) := by
  have hme (t : State) (ht : t.linkId = s.linkId) : forMe t h = true := by simp [forMe, hdst, ht]
  have hon (t : State) (ht : t.linkId = s.linkId) : goesOn t p h = false := by simp [goesOn, hb, hdst, ht]
  unfold receive
  dsimp only
  rw [if_neg (by simp [hheld, hup, hpark]), if_pos ⟨hcrc, hseq⟩, hon _ (by rfl), if_neg Bool.false_ne_true, hme _ (by rfl)]
  rfl

/-- A good frame for another device is acknowledged and goes on out of the other port, where that is not DOWN. -/
theorem receive_foreign (hb : h.bcast = false) (hdst : h.dst ≠ s.linkId) (hcrc : h.crcOk = true)
    (hseq : h.lseq = s.link.ports[p].rxSeq) (hother : portState s (otherPort p) ≠ 0) :
    receive p h f g s = sendFrame (otherPort p) f (acked p s) := by
  have hme (t : State) (ht : t.linkId = s.linkId) : forMe t h = false := by simp [forMe, hb, hdst, ht]
  have hon : goesOn (acked p s) p h = true := by
    have hst : portState (acked p s) (otherPort p) = portState s (otherPort p) := rfl
    have hid : (acked p s).linkId = s.linkId := rfl
    simp [goesOn, hst, hid, hdst, hother]
  have hsent : (sendFrame (otherPort p) f (acked p s)).linkId = s.linkId := by
    rw [sendFrame_only]
    rfl
  unfold receive
  dsimp only
  rw [if_neg (by simp [hheld, hup, hme]), if_pos ⟨hcrc, hseq⟩]
  have hpass : (if goesOn (acked p s) p h then sendFrame (otherPort p) f (acked p s) else acked p s) =
      sendFrame (otherPort p) f (acked p s) := if_pos hon
  refine (congrArg (fun t : State => if forMe t h then g t else t) hpass).trans ?_
  exact if_neg (by simp [hme _ hsent])

/-- A frame of an unexpected LSEQ is discarded, and the LSEQ before the expected one acknowledged. -/
theorem receive_unexpected (hpark : s.dev.st ≠ .park) (hcrc : h.crcOk = true) (hseq : h.lseq ≠ s.link.ports[p].rxSeq) :
    receive p h f g s = nacked p s := by
  unfold receive
  dsimp only
  rw [if_neg (by simp [hheld, hup, hpark]), if_neg (fun e => hseq e.2), if_neg (by simp [hcrc])]
  rfl

end

/-! ## MEM frames for this device (R415, R418) -/

section
variable {p : Fin 2} {f : MemFrame} {s : State}

/-- A good MEM frame of the expected LSEQ for this device. -/
structure MemComes (p : Fin 2) (f : MemFrame) (s : State) : Prop where
  free : s.held = false
  up : portUp s p = true
  unparked : s.dev.st ≠ .park
  mine : f.dst.toNat = s.linkId
  good : f.crcOk = true
  expected : f.lseq.toNat = s.link.ports[p].rxSeq

theorem MemComes.receive (h : MemComes p f s) (g : LinkFrame) (d : State → State) :
    receive p (memArrival f) g d s = d (acked p s) :=
  receive_mine h.free h.up h.unparked rfl h.mine h.good h.expected

/-- The commands for a MEM frame that carry its words. -/
theorem exec_memWr (hl : f.data.length = f.len.toNat + 1) : exec (.memWr p f) s = .next (memWrStep p f s) :=
  if_neg (not_not.2 hl)
theorem exec_memRdresp (hl : f.data.length = f.len.toNat + 1) : exec (.memRdresp p f) s = .next (memRdrespStep p f s) :=
  if_neg (not_not.2 hl)

theorem frameServe_now {w : Bool} (ho : portOpen s .link (portOf (memAddr f)) = true)
    (hs : s.memc.waits.any (sameSource f) = false) :
    frameServe p w f (acked p s) = frameRun p w f (f.len.toNat + 2) [] (acked p s) :=
  if_pos ⟨(acked_portOpen p s .link _).trans ho, hs⟩

theorem frameServe_waits {w : Bool}
    (h : portOpen s .link (portOf (memAddr f)) = false ∨ s.memc.waits.any (sameSource f) = true) :
    frameServe p w f (acked p s) = addWait (.frame p w f []) (acked p s) := by
  refine if_neg ?_
  rw [acked_portOpen]
  rintro ⟨h1, h2⟩
  rcases h with h | h
  · exact Bool.false_ne_true (h.symm.trans h1)
  · exact Bool.false_ne_true (h2.symm.trans h)

/-- A response ends the access it answers, at its initiator (R418). -/
theorem takeResponse_of {w : Bool} {r : PeerReq} (hr : reqFor s f.src.toNat f.tag.toNat w = some r) :
    takeResponse f w (acked p s) = completePeer r f.status.toNat (if w then 0 else respValue r f.data) (acked p s) := by
  have hr' : reqFor (acked p s) f.src.toNat f.tag.toNat w = some r := hr
  unfold takeResponse
  rw [hr']

theorem reqFor_write {src tag : Nat} {w : Bool} {r : PeerReq} (hr : reqFor s src tag w = some r) : r.write = w := by
  have h := List.find?_some hr
  simp only [Bool.and_eq_true, beq_iff_eq] at h
  exact h.2

/-- What the response to a read leaves: the value read, and one access less without an answer. -/
def readEnded (r : PeerReq) (v : Nat) (s : State) : State :=
  { s with respData := [toWord v], respErr := false, link := { s.link with reqs := s.link.reqs.erase r } }

theorem completePeer_readEnded {r : PeerReq} {i : Initiator} (hwho : r.who = .plain i) (hw : r.write = false) (v : Nat) :
    completePeer r 0 v s = readEnded r v s := by
  have hn : (if r.half then 2 else 4) ≤ 4 := by split <;> decide
  rw [completePeer_read hwho 0 v hw, answer_done, if_pos hn]
  rfl

theorem MemComes.rdresp (h : MemComes p f s) {r : PeerReq} {i : Initiator} (hl : f.data.length = f.len.toNat + 1)
    (hst : f.status = 0) (hr : reqFor s f.src.toNat f.tag.toNat false = some r) (hwho : r.who = .plain i) :
    exec (.memRdresp p f) s = .next (readEnded r (respValue r f.data) (acked p s)) := by
  rw [exec_memRdresp hl, memRdrespStep, h.receive, takeResponse_of hr, hst]
  exact congrArg _ (completePeer_readEnded hwho (reqFor_write hr) _)

theorem MemComes.wrack (h : MemComes p f s) {r : PeerReq} {i : Initiator}
    (hr : reqFor s f.src.toNat f.tag.toNat true = some r) (hwho : r.who = .plain i) :
    ∃ t, exec (.memWrack p f) s = .next t ∧ t.respErr = decide (f.status ≠ 0) ∧ t.link.reqs = s.link.reqs.erase r ∧
      t.mem = s.mem := by
  have hstep : memWrackStep p f s =
      { settled r f.status.toNat (acked p s) with respData := [], respErr := decide (f.status.toNat ≠ 0) } := by
    rw [memWrackStep, h.receive, takeResponse_of hr]
    exact completePeer_write hwho _ _ (reqFor_write hr)
  have hne : f.status.toNat ≠ 0 ↔ f.status ≠ 0 := not_congr (by rw [← BitVec.toNat_inj]; rfl)
  refine ⟨_, congrArg Host.Outcome.next hstep, decide_eq_decide.2 hne, ?_, ?_⟩
  · exact congrArg Link.reqs (settled_link r _ (acked p s))
  · exact settled_mem r _ (acked p s)

end

/-- The answer to a MEM frame is kept for its acknowledgement (R415). -/
theorem frameEnds_answers {p : Fin 2} (w : Bool) (f : MemFrame) (st : Nat) (got : List Nat) {s : State}
    (hroom : s.link.ports[p].unacked.length < 32) :
    ∃ g, (frameEnds p w f st got s).link.ports[p].unacked = s.link.ports[p].unacked ++ [g] ∧ g.typ = 2 ∧
      g.op = (if w then 4 else 3) ∧ g.dst = f.src.toNat ∧ g.tag = f.tag.toNat ∧ g.init = f.init.toNat ∧ g.status = st ∧
      g.body = (if w then [] else got ++ List.replicate (f.len.toNat + 1 - got.length) 0) := by
  cases w
  · exact ⟨_, sendFrame_unacked p _ hroom, rfl, rfl, rfl, rfl, rfl, rfl, rfl⟩
  · exact ⟨_, sendFrame_unacked p _ hroom, rfl, rfl, rfl, rfl, rfl, rfl, rfl⟩

/-! ### A MEM frame word by word (R139, R415) -/

section
variable {p : Fin 2} {w : Bool} {f : MemFrame} {got : List Nat} {s : State} (k : Nat)

theorem frameRun_ends (h : f.len.toNat + 1 ≤ got.length) : frameRun p w f (k + 1) got s = frameEnds p w f 0 got s := by
  rw [frameRun]
  exact if_pos h

theorem frameRun_waits (h : got.length < f.len.toNat + 1)
    (hbus : busAllows s 0x12 (portOf (memAddr f + 4 * got.length)) = false) : frameRun p w f (k + 1) got s =
      { s with memc := { s.memc with waits := .frame p w f got :: s.memc.waits } } := by
  rw [frameRun]
  dsimp only
  rw [if_neg (by omega), hbus, if_neg Bool.false_ne_true]

theorem frameRun_word (h : got.length < f.len.toNat + 1)
    (hbus : busAllows s 0x12 (portOf (memAddr f + 4 * got.length)) = true) {st v : Nat} {u : State}
    (hx : frameWord w f got.length (takeTurn 0x12 (portOf (memAddr f + 4 * got.length)) s) = ((st, v), u)) :
    frameRun p w f (k + 1) got s =
      if st = 0 then frameRun p w f k (got ++ [v]) u else frameEnds p w f st (got ++ [v]) u := by
  rw [frameRun]
  dsimp only
  rw [if_neg (by omega), if_pos hbus, hx]

end

/-! ## Orders and replies for this device (R420) -/

section
variable {p : Fin 2} {s : State}

/-- The desk work of a submission leaves the link. -/
theorem submit_link (j : Fin 8) (s : State) : (submit j s).link = s.link :=
  congrArg (fun d : Desk => d.rest.link) (submit_desk j s)

/-- What an ORDER SUBMIT leaves in the link's staging buffer, and submits (R212, R420). -/
def orderHeld (f : OrderFrame) (s : State) : State :=
  updStaging 2 (fun b => { b with
    sub0 := f.sub0, sub1 := f.sub1, sub2 := f.sub2, sub3 := f.sub3, failed := f.failed }) s

/-- The REPLY to an order: its result and its SEQ (R420). -/
def replyFrame (f : OrderFrame) (s t : State) : LinkFrame :=
  frameTo s 3 2 f.src.toNat 1 f.tag.toNat f.init.toNat 0 0
    [t.hdg.staging[(2 : Fin 8)].res.toNat, t.hdg.staging[(2 : Fin 8)].seq.toNat]

theorem serveOrder_free {f : OrderFrame} (hi : s.islandHeld 2 = false) : serveOrder p f s =
    sendFrame p (replyFrame f (submit 2 (orderHeld f s)) (submit 2 (orderHeld f s))) (submit 2 (orderHeld f s)) := by
  unfold serveOrder
  rw [hi, if_neg Bool.false_ne_true]
  rfl

/-- A good ORDER frame of the expected LSEQ for this device is acknowledged and served. -/
theorem orderSubmit_comes {f : OrderFrame} (hheld : s.held = false) (hup : portUp s p = true) (hpark : s.dev.st ≠ .park)
    (hdst : f.dst.toNat = s.linkId) (hcrc : f.crcOk = true) (hseq : f.lseq.toNat = s.link.ports[p].rxSeq) :
    exec (.orderSubmit p f) s = .next (serveOrder p f (acked p s)) :=
  congrArg Host.Outcome.next (receive_mine hheld hup hpark rfl hdst hcrc hseq)

theorem orderReply_comes {f : ReplyFrame} (hheld : s.held = false) (hup : portUp s p = true) (hpark : s.dev.st ≠ .park)
    (hdst : f.dst.toNat = s.linkId) (hcrc : f.crcOk = true) (hseq : f.lseq.toNat = s.link.ports[p].rxSeq) :
    exec (.orderReply p f) s = .next (takeReply f (acked p s)) :=
  congrArg Host.Outcome.next (receive_mine hheld hup hpark rfl hdst hcrc hseq)

theorem serveOrder_replies {f : OrderFrame} (hroom : s.link.ports[p].unacked.length < 32) (hi : s.islandHeld 2 = false) :
    ∃ g ∈ (serveOrder p f (acked p s)).link.ports[p].unacked, g.typ = 3 ∧ g.op = 2 ∧ g.dst = f.src.toNat ∧
      g.tag = f.tag.toNat ∧ g.body = [(serveOrder p f (acked p s)).hdg.staging[(2 : Fin 8)].res.toNat,
        (serveOrder p f (acked p s)).hdg.staging[(2 : Fin 8)].seq.toNat] := by
  rw [serveOrder_free (s := acked p s) hi]
  have hlink : (submit 2 (orderHeld f (acked p s))).link = (acked p s).link := submit_link 2 _
  generalize submit 2 (orderHeld f (acked p s)) = u at *
  have hkept := sendFrame_unacked p (replyFrame f u u) (s := u) (by rwa [hlink, acked_unacked])
  have hhdg : (sendFrame p (replyFrame f u u) u).hdg = u.hdg := by rw [sendFrame_only]
  rw [hhdg]
  exact ⟨_, hkept ▸ List.mem_append_right _ (List.mem_singleton_self _), rfl, rfl, rfl, rfl, rfl⟩

/-- A REPLY is kept for the reader of SUB_RES and SUB_SEQ, and ends the write of SUB3 (R420). -/
theorem takeReply_of {f : ReplyFrame} {r : PeerReq} {j : Fin 8} (hr : reqFor s f.src.toNat f.tag.toNat true = some r)
    (hwho : r.who = .order j) :
    takeReply f s = submitEnds j r 0 (settled r 0 (remoteResult j f.src.toNat f.res f.seq s)) := by
  unfold takeReply
  rw [hr]
  dsimp only
  rw [hwho]
  dsimp only
  unfold completePeer
  rw [hwho]
  rfl

theorem remoteResult_reply (j : Fin 8) (d : Nat) (res seq : Word) (s : State) :
    tget (remoteResult j d res seq s).link.remote[j].replies d (0, 0) = (res, seq) := by
  simp [remoteResult, State.updLink, tget_tset_eq]

/-- The answer to the write of SUB3 through the generation 1 port (R400, R420). -/
theorem submitEnds_gen1 (r : PeerReq) (hgen : s.host.gen = 1) :
    submitEnds 1 r 0 s = gen1Answer true 0 0 { s with respErr := false } := by
  unfold submitEnds
  dsimp only
  rw [if_neg (by decide), if_pos rfl, if_pos hgen]
  rfl

end

/-- Settles O53: what comes for this device is acknowledged, then served, made to wait, or answered. -/
theorem framesAreServedAndAnswered : Obligations.FramesAreServedAndAnswered := by
  refine ⟨?mem, ?ends, ?run, ?order, ?reply, ?island⟩
  case mem =>
    intro p f s hheld hup hpark hdst hcrc hseq
    have h : MemComes p f s := ⟨hheld, hup, hpark, hdst, hcrc, hseq⟩
    exact ⟨fun ho hs => ⟨_, rfl, (h.receive _ _).trans (frameServe_now ho hs)⟩,
      fun ho hs hl => ⟨_, exec_memWr hl, (h.receive _ _).trans (frameServe_now ho hs)⟩,
      fun hw => ⟨_, rfl, (h.receive _ _).trans (frameServe_waits hw)⟩,
      fun hw hl => ⟨_, exec_memWr hl, (h.receive _ _).trans (frameServe_waits hw)⟩,
      fun r i hl hst hr hwho => ⟨_, h.rdresp hl hst hr hwho, rfl, rfl, rfl, rfl⟩, fun r i hr hwho => h.wrack hr hwho⟩
  case ends => exact fun p w f st got s hroom => frameEnds_answers w f st got hroom
  case run =>
    intro p w f k st v got s u
    refine ⟨fun h => frameRun_ends k h, fun h hbus => ?_, fun h hbus hst hx => ?_⟩
    · rw [frameRun_waits k h hbus]
      exact ⟨rfl, rfl⟩
    · rw [frameRun_word k h hbus hx, if_neg hst]
  case order =>
    intro p f s hheld hup hpark hdst hcrc hseq hroom hi
    exact ⟨_, orderSubmit_comes hheld hup hpark hdst hcrc hseq, rfl, serveOrder_replies hroom hi⟩
  case reply =>
    intro p f r s hheld hup hpark hdst hcrc hseq hr hwho hgen
    have hend := (takeReply_of (s := acked p s) hr hwho).trans (submitEnds_gen1 r hgen)
    refine ⟨_, (orderReply_comes hheld hup hpark hdst hcrc hseq).trans (congrArg _ hend), rfl, rfl, ?_, rfl⟩
    exact remoteResult_reply 1 f.src.toNat f.res f.seq (acked p s)
  case island =>
    intro p f s hheld hup hpark hdst hcrc hseq hi
    rw [orderSubmit_comes hheld hup hpark hdst hcrc hseq]
    exact congrArg Host.Outcome.next (if_pos hi)

end Sys2Proof.Machine

namespace Sys2Proof.Machine

/-! ## Two statements that fail -/

/-- A generation 1 write of 0x0100 to the first half-word of SRAM, out of reset. -/
def wroteHalf : State := gen1Frame (gen1Write 5 0x0100) State.reset

/-- Its upper byte, 0x01, stands at address 1, as R400 says. -/
theorem wroteHalf_upper : wroteHalf.byte (State.reset.host.win + 1) = 1 := by decide +kernel

/-- Refutes O47: the clause of the generation 1 write gives the upper byte as `v.toNat / 256` among bytes, where 256 is 0
and the quotient 0. The write of 0x0100 to address 0 after reset leaves 0x01 there. -/
theorem not_hostPortAnswersFrames : ¬ Obligations.HostPortAnswersFrames := by
  unfold Obligations.HostPortAnswersFrames
  rintro ⟨_, hwrite, _⟩
  obtain ⟨_, _, hwindow⟩ := hwrite 0x0100 State.reset rfl (by decide +kernel)
  obtain ⟨t, hexec, _, hupper, _⟩ := hwindow (by decide) (by decide) (by decide +kernel) (by decide +kernel)
  have ht : wroteHalf = t := Host.Outcome.next.inj hexec
  rw [← ht, wroteHalf_upper] at hupper
  exact absurd hupper (by decide)

/-- A conversion sampled at PT 0: `cal` marks one of a measurement, `take` one the measurement in progress takes. -/
def sampledAtZero (cal take : Bool) : Conversion where
  plan := false
  slot := 0
  pos := 0
  at_ := 0
  flags := 0
  stamp := 0
  cal := cal
  take := take
  coef := 0
  ring := 0
  rbase := 0
  rsize := 0
  ren := false
  num := none

/-- Converter 0 with a measurement of one conversion, which takes the oldest in the pipeline though that is no conversion
of a measurement, and behind it one that is. -/
def takesForeign : State :=
  { State.reset with pt := 80 }.updConv 0 (fun c => { c with
    convs := [sampledAtZero false true, sampledAtZero true false], cal := some ⟨false, 0, 1, 0, 0, 0, false⟩ })

/-- The result ends the measurement, so the conversion behind it is marked no longer (R286). -/
theorem takesForeign_result :
    (conversionStep 0 0 takesForeign).conv[(0 : Fin 4)].convs = [sampledAtZero false false] := by decide +kernel

/-- Refutes O31: the clause of a result with a conversion behind it says that the one behind is unchanged, but it allows a
conversion that the measurement in progress takes (`take`) while its own `cal` is false. Where that result is the last one
the measurement needs, the measurement ends and clears the marks of the conversion behind. The model itself never samples
a conversion whose `take` is set and `cal` is not: the clause lacks the premise `v.take = false`. -/
theorem not_convertersSampleAndConvert : ¬ Obligations.ConvertersSampleAndConvert := by
  unfold Obligations.ConvertersSampleAndConvert
  rintro ⟨_, _, hresult, _⟩
  obtain ⟨t, hexec, hbehind, _⟩ := hresult 0 0 (sampledAtZero false true) (sampledAtZero true false) [] takesForeign rfl
    (by decide) (by decide +kernel) rfl
  have ht : conversionStep 0 0 takesForeign = t := Host.Outcome.next.inj hexec
  rw [← ht, takesForeign_result] at hbehind
  exact absurd hbehind (by decide)

end Sys2Proof.Machine

namespace Sys2Proof.Machine

/-! ## One word of a MEM frame in sound SRAM (R415, R437) -/

section
variable {f : MemFrame} {s : State}

section
variable (ha : memAddr f < 0x100000)
include ha

theorem peerPath_read (n : Nat) (s : State) : busRead (peerPath f) (memAddr f) n s = busRead (.plain .link) (memAddr f) n s := by
  have hr := regionOf_sram ha
  have hw : isWindow (regionOf (memAddr f)) = false := by rw [hr]; rfl
  simp [busRead, peerOf_own hw, ownAddr_own hw, hr, peerPath, pathBeat, pathInit]

theorem peerPath_write (n v : Nat) (s : State) :
    busWrite (peerPath f) (memAddr f) n v s = busWrite (.plain .link) (memAddr f) n v s := by
  have hr := regionOf_sram ha
  have hw : isWindow (regionOf (memAddr f)) = false := by rw [hr]; rfl
  simp [busWrite, peerOf_own hw, ownAddr_own hw, hr, peerPath, pathBeat, pathInit]

end

/-- A frame of one whole word in SRAM. -/
structure OneWord (f : MemFrame) : Prop where
  len : f.len = 0
  be : f.be = 0xFF
  sram : memAddr f < 0x100000

theorem OneWord.lanes (h : OneWord f) : laneRun (wordEnables f.be.toNat (f.len.toNat + 1) 0) = some (0, 4) := by
  rw [h.len, h.be]
  rfl

theorem memAddr_word (f : MemFrame) : memAddr f % 8 + 4 ≤ 8 := by unfold memAddr; omega

theorem frameWord_read (h : OneWord f) (hp : s.pattern (memAddr f / 8) = 0) :
    frameWord false f 0 (takeTurn 0x12 (portOf (memAddr f)) s) =
      ((0, s.leBytes (memAddr f) 4), served .link (portOf (memAddr f)) s) := by
  have hread := (peerPath_read h.sram 4 _).trans (busRead_sram (i := .link) h.sram (memAddr_word f) hp)
  unfold frameWord
  rw [h.lanes]
  simp only [Nat.mul_zero, Nat.add_zero, Nat.pow_zero, Nat.mul_one, Bool.false_eq_true, if_false]
  exact congrArg (fun x : (BusStatus × Nat) × State => ((x.1.1, x.1.2), x.2)) hread

theorem frameWord_write (h : OneWord f) {v : Word} (hd : f.data = [v]) :
    frameWord true f 0 (takeTurn 0x12 (portOf (memAddr f)) s) =
      ((0, 0), writeDec (memAddr f) 4 v.toNat (served .link (portOf (memAddr f)) s)) := by
  have hv : (f.data.getD 0 0).toNat % 2 ^ (8 * 4) = v.toNat := by
    rw [hd]
    exact Nat.mod_eq_of_lt v.isLt
  have hwrite := (peerPath_write h.sram 4 v.toNat _).trans (busWrite_sram (i := .link) (s := s) h.sram)
  unfold frameWord
  rw [h.lanes]
  simp only [Nat.mul_zero, Nat.add_zero, Nat.pow_zero, Nat.div_one, if_true, hv]
  exact congrArg (fun x : BusStatus × State => ((x.1, 0), x.2)) hwrite

end

theorem Stores.from {a n v : Nat} {s s' t : State} (h : Stores a n v s t) (hs : s'.mem = s.mem) : Stores a n v s' t :=
  h.congr hs rfl

/-- The bytes stored read back as the number they were cut from. -/
theorem Stores.leBytes_eq {n : Nat} {s t : State} : ∀ {a v : Nat}, Stores a n v s t → t.leBytes a n = v % 256 ^ n := by
  intro a v h
  have hm := leBytes_memPut n { s with mem := memPut s.mem a n v } s.mem a v rfl
  rw [← hm]
  refine leBytes_congr n a fun k hk => ?_
  rw [h, if_pos (by omega), Nat.add_sub_cancel_left]
  exact (memPut_at n s.mem a v k hk).symm

/-! ## A served frame of one word (R415, R418) -/

theorem frameTo_congr {s u : State} (h : u.linkId = s.linkId) (typ op dst n tag init status be : Nat) (body : List Nat) :
    frameTo u typ op dst n tag init status be body = frameTo s typ op dst n tag init status be body := by
  rw [frameTo, h]
  rfl

section
variable {p : Fin 2} {f : MemFrame} {s u : State}

/-- What is sent at a port behind its acknowledgement. -/
theorem sendFrame_behind_ack (g : LinkFrame) (hu : u.link = (acked p s).link)
    (hroom : s.link.ports[p].unacked.length < 32) :
    (sendFrame p g u).link.ports[p].unacked =
      s.link.ports[p].unacked ++ [{ g with lseq := s.link.ports[p].txSeq }] ∧
    (sendFrame p g u).link.ports[p].rxSeq = (s.link.ports[p].rxSeq + 1) % 256 := by
  constructor
  · rw [sendFrame_unacked p g (by rwa [hu, acked_unacked]), hu, acked_unacked, acked_txSeq]
  · rw [sendFrame_rxSeq, hu, acked_rxSeq]

theorem frameServe_oneWord {w : Bool} {v : Nat} (hl : f.len = 0)
    (ho : portOpen s .link (portOf (memAddr f)) = true) (hs : s.memc.waits.any (sameSource f) = false)
    (hx : frameWord w f 0 (takeTurn 0x12 (portOf (memAddr f)) (acked p s)) = ((0, v), u)) :
    frameServe p w f (acked p s) = frameEnds p w f 0 [v] u := by
  have hlen : f.len.toNat = 0 := congrArg BitVec.toNat hl
  have hbus : busAllows (acked p s) 0x12 (portOf (memAddr f)) = true := by
    have ho' := (acked_portOpen p s .link _).trans ho
    exact (Bool.and_eq_true_iff.1 ho').1
  rw [frameServe_now ho hs, hlen, frameRun_word (got := []) 1 (by rw [hlen]; decide) hbus hx, if_pos rfl,
    frameRun_ends 0 (by rw [hlen]; exact Nat.le_refl 1)]
  rfl

theorem frameEnds_oneWord {w : Bool} {v : Nat} (hl : f.len = 0) (hu : u.linkId = s.linkId) :
    frameEnds p w f 0 [v] u = sendFrame p
      (frameTo s 2 (if w then 4 else 3) f.src.toNat 1 f.tag.toNat f.init.toNat 0 0 (if w then [] else [v])) u := by
  have hlen : f.len.toNat = 0 := congrArg BitVec.toNat hl
  unfold frameEnds
  rw [hlen]
  cases w <;> exact congrArg (sendFrame p · u) (frameTo_congr hu ..)

/-- A good one-word read of sound SRAM is answered with the word. -/
theorem MemComes.rd (h : MemComes p f s) (hw : OneWord f) (hp : s.pattern (memAddr f / 8) = 0)
    (hroom : s.link.ports[p].unacked.length < 32) (ho : portOpen s .link (portOf (memAddr f)) = true)
    (hs : s.memc.waits.any (sameSource f) = false) :
    ∃ t, exec (.memRd p f) s = .next t ∧ t.link.ports[p].unacked = s.link.ports[p].unacked ++
        [{ frameTo s 2 3 f.src.toNat 1 f.tag.toNat f.init.toNat 0 0 [s.leBytes (memAddr f) 4] with
           lseq := s.link.ports[p].txSeq }] ∧
      t.link.ports[p].rxSeq = (s.link.ports[p].rxSeq + 1) % 256 ∧ t = { s with regs := t.regs, memc := t.memc, link := t.link } := by
  have hstep := ((h.receive (memOnward f 1) _).trans (frameServe_oneWord hw.len ho hs (frameWord_read hw hp))).trans
    (frameEnds_oneWord (s := s) hw.len (served_linkId ..))
  obtain ⟨hkept, hrx⟩ := sendFrame_behind_ack (frameTo s 2 3 f.src.toNat 1 f.tag.toNat f.init.toNat 0 0
    [s.leBytes (memAddr f) 4]) (served_link .link (portOf (memAddr f)) (acked p s)) hroom
  refine ⟨_, congrArg Host.Outcome.next hstep, hkept, hrx, ?_⟩
  rw [sendFrame_only, show served .link (portOf (memAddr f)) (acked p s) = _ from served_regsMemcOnly ..]
  rfl

/-- The frame of a write that stored its word is answered with WRACK. -/
theorem MemComes.wr_stored (h : MemComes p f s) (hl : f.len = 0) (hroom : s.link.ports[p].unacked.length < 32)
    {v : Word} (hd : f.data = [v]) (hserve : frameServe p true f (acked p s) = frameEnds p true f 0 [0] u)
    (hlink : u.link = (acked p s).link) (hid : u.linkId = s.linkId) (hstores : Stores (memAddr f) 4 v.toNat s u) :
    ∃ t, exec (.memWr p f) s = .next t ∧ t.leBytes (memAddr f) 4 = v.toNat ∧
      (∀ x, x < memAddr f ∨ memAddr f + 4 ≤ x → t.byte x = s.byte x) ∧
      t.link.ports[p].unacked = s.link.ports[p].unacked ++
        [{ frameTo s 2 4 f.src.toNat 1 f.tag.toNat f.init.toNat 0 0 [] with lseq := s.link.ports[p].txSeq }] ∧
      t.link.ports[p].rxSeq = (s.link.ports[p].rxSeq + 1) % 256 := by
  have hform : f.data.length = f.len.toNat + 1 := by rw [hd, hl]; rfl
  have hstep := ((h.receive (memOnward f 2) _).trans hserve).trans (frameEnds_oneWord (s := s) hl hid)
  obtain ⟨hkept, hrx⟩ := sendFrame_behind_ack (frameTo s 2 4 f.src.toNat 1 f.tag.toNat f.init.toNat 0 0 []) hlink hroom
  have hmem (g : LinkFrame) : (sendFrame p g u).mem = u.mem := by rw [sendFrame_only]
  have hsent := hstores.congr (s' := s) rfl (hmem (frameTo s 2 4 f.src.toNat 1 f.tag.toNat f.init.toNat 0 0 []))
  refine ⟨_, (exec_memWr hform).trans (congrArg _ hstep), ?_, ?_, hkept, hrx⟩
  · exact hsent.leBytes_eq.trans (Nat.mod_eq_of_lt v.isLt)
  · exact fun x hx => (hsent x).trans (if_neg (by omega))

/-- A good one-word write of sound SRAM stores the word. -/
theorem MemComes.wr (h : MemComes p f s) (hw : OneWord f) (hp : s.pattern (memAddr f / 8) = 0)
    (hroom : s.link.ports[p].unacked.length < 32) (ho : portOpen s .link (portOf (memAddr f)) = true)
    (hs : s.memc.waits.any (sameSource f) = false) {v : Word} (hd : f.data = [v]) :
    ∃ t, exec (.memWr p f) s = .next t ∧ t.leBytes (memAddr f) 4 = v.toNat ∧
      (∀ x, x < memAddr f ∨ memAddr f + 4 ≤ x → t.byte x = s.byte x) ∧
      t.link.ports[p].unacked = s.link.ports[p].unacked ++
        [{ frameTo s 2 4 f.src.toNat 1 f.tag.toNat f.init.toNat 0 0 [] with lseq := s.link.ports[p].txSeq }] ∧
      t.link.ports[p].rxSeq = (s.link.ports[p].rxSeq + 1) % 256 := by
  have hserve := frameServe_oneWord hw.len ho hs (frameWord_write (s := acked p s) hw hd)
  have hpat : (served .link (portOf (memAddr f)) (acked p s)).pattern (memAddr f / 8) = 0 := by rw [served_pattern]; exact hp
  have hstores := writeDec_stores _ (memAddr f) 4 v.toNat (by decide) (memAddr_word f) hpat
  have honly := writeDec_memOnly _ (memAddr f) 4 v.toNat (Nat.lt_trans hw.sram (by decide)) hpat
  refine h.wr_stored hw.len hroom hd hserve ?_ ?_ (hstores.from (served_mem .link (portOf (memAddr f)) (acked p s)).symm)
  · exact (congrArg State.link honly).trans (served_link ..)
  · exact (congrArg State.linkId honly).trans (served_linkId ..)

end

end Sys2Proof.Machine

namespace Sys2Proof.Machine

/-! ## What changes the link only -/

/-- From s to t at most the link has changed. -/
def LinkOnly (s t : State) : Prop := t = { s with link := t.link }

theorem LinkOnly.trans {s t u : State} (h : LinkOnly s t) (h' : LinkOnly t u) : LinkOnly s u :=
  Eq.trans (show u = { t with link := u.link } from h') (congrArg (fun v : State => { v with link := u.link }) h)

theorem acked_linkOnly (p : Fin 2) (s : State) : LinkOnly s (acked p s) := acked_only_link p s
theorem remoteResult_linkOnly (j : Fin 8) (d : Nat) (res seq : Word) (s : State) :
    LinkOnly s (remoteResult j d res seq s) := rfl

/-! ## A response ends the access of a core (R418) -/

/-- An access that was served is awaited no longer. -/
def released (r : PeerReq) (s : State) : State := s.updLink (fun l => { l with reqs := l.reqs.erase r })

theorem released_linkOnly (r : PeerReq) (s : State) : LinkOnly s (released r s) := rfl

theorem settled_served (r : PeerReq) (s : State) : settled r 0 s = released r s := rfl

theorem pathBank_updBankOf (c : Fin 4) (task : Bool) (g : CoreBank → CoreBank) (s : State) :
    pathBank (updBankOf c task g s) c task = g (pathBank s c task) := by
  cases task <;> simp [pathBank, updBankOf, State.updCore]

/-- What a sound answer leaves of a core's bank. -/
def farDone (a : FarAcc) (v pt : Nat) (b : CoreBank) : CoreBank := bankProceeds pt (if a.load then farDeliver a v b else b)

section
variable {r : PeerReq} {c : Fin 4} {task : Bool} {a : FarAcc} {s : State}

theorem farAnswer_far {adr : Nat} (v : Nat) (hwait : (pathBank s c task).wait = .far a) (haddr : a.addr / 4 = adr / 4)
    (htask : task → s.cores[c].task.isSome) :
    farAnswer c task adr 0 v s = updBankOf c task (farDone a v s.pt) s := by
  have hcond : a.addr / 4 = adr / 4 ∧ (!task || s.cores[c].task.isSome) = true := by
    refine ⟨haddr, ?_⟩
    cases task with
    | false => rfl
    | true => exact htask rfl
  have hwait' : (if task then s.cores[c].tb else s.cores[c].bg).wait = .far a := hwait
  unfold farAnswer
  rw [hwait']
  exact if_pos hcond

theorem completePeer_core (v : Nat) (hwho : r.who = .core c task) (hwait : (pathBank s c task).wait = .far a)
    (haddr : a.addr / 4 = r.addr / 4) (htask : task → s.cores[c].task.isSome) :
    completePeer r 0 v s = updBankOf c task (farDone a v s.pt) (released r s) := by
  have hend := farAnswer_far (s := released r s) v hwait haddr htask
  unfold completePeer
  rw [hwho]
  exact hend

end

section
variable {p : Fin 2} {f : MemFrame} {s : State}

theorem takeResponse_none {w : Bool} (hr : reqFor s f.src.toNat f.tag.toNat w = none) :
    takeResponse f w (acked p s) = acked p s := by
  have hr' : reqFor (acked p s) f.src.toNat f.tag.toNat w = none := hr
  unfold takeResponse
  rw [hr']

/-- A response that answers nothing is dropped. -/
theorem MemComes.rdresp_dropped (h : MemComes p f s) (hl : f.data.length = f.len.toNat + 1)
    (hr : reqFor s f.src.toNat f.tag.toNat false = none) : exec (.memRdresp p f) s = .next (acked p s) :=
  (exec_memRdresp hl).trans (congrArg _ ((h.receive _ _).trans (takeResponse_none hr)))

theorem MemComes.wrack_dropped (h : MemComes p f s) (hr : reqFor s f.src.toNat f.tag.toNat true = none) :
    exec (.memWrack p f) s = .next (acked p s) :=
  congrArg Host.Outcome.next ((h.receive _ _).trans (takeResponse_none hr))

section
variable {r : PeerReq} {c : Fin 4} {task : Bool} {a : FarAcc} (hwho : r.who = .core c task)
  (hwait : (pathBank s c task).wait = .far a) (haddr : a.addr / 4 = r.addr / 4) (htask : task → s.cores[c].task.isSome)
  (hst : f.status = 0)
include hwho hwait haddr htask hst

/-- A response that a core waits for ends its access. -/
theorem MemComes.ends_core (h : MemComes p f s) {w : Bool} (hr : reqFor s f.src.toNat f.tag.toNat w = some r) (g : LinkFrame) :
    Machine.receive p (memArrival f) g (takeResponse f w) s =
      updBankOf c task (farDone a (if w then 0 else respValue r f.data) s.pt) (released r (acked p s)) := by
  rw [h.receive, takeResponse_of hr, hst]
  exact completePeer_core (s := acked p s) _ hwho hwait haddr htask

end

/-- The access is awaited no longer, and its core's bank goes on with what it read. -/
theorem core_ended (r : PeerReq) (c : Fin 4) (task : Bool) (a : FarAcc) (v : Nat) :
    (updBankOf c task (farDone a v s.pt) (released r (acked p s))).link.reqs = s.link.reqs.erase r ∧
    pathBank (updBankOf c task (farDone a v s.pt) (released r (acked p s))) c task =
      farDone a v s.pt (pathBank s c task) ∧
    updBankOf c task (farDone a v s.pt) (released r (acked p s)) =
      { s with link := (released r (acked p s)).link,
               cores := (updBankOf c task (farDone a v s.pt) (released r (acked p s))).cores } := by
  have honly : LinkOnly s (released r (acked p s)) := (acked_linkOnly p s).trans (released_linkOnly r _)
  have hbank := congrArg (fun u : State => pathBank u c task) honly
  refine ⟨rfl, (pathBank_updBankOf c task _ _).trans (congrArg _ hbank), ?_⟩
  exact congrArg (fun u : State =>
    { u with cores := (updBankOf c task (farDone a v s.pt) (released r (acked p s))).cores }) honly

end

/-! ## What a submission leaves (R192, R194) -/

theorem updStaging_self (j : Fin 8) (g : Staging → Staging) (s : State) :
    (updStaging j g s).hdg.staging[j] = g s.hdg.staging[j] := by
  simp [updStaging, State.updHdg]

/-- What the judgement of a submission does, but for the staging buffer itself. -/
def subEffect (b : Staging) (s : State) : State :=
  match judge b (flushRecs s) with
  | .ack => acceptOrder (occAfter (judge b (flushRecs s)) s) b s
  | .dup => s.bump HDG.base HDG.REF_CNT2_DUP
  | .refused k => (s.bump HDG.base (refusalCounter k)).raise 56

section
variable {b : Staging} {s : State}

theorem submit_eq {j : Fin 8} (hb : s.hdg.staging[j] = b) : submit j s =
    updStaging j (fun x => { x with failed := false, res := subRes (judge b (flushRecs s)) (occAfter (judge b (flushRecs s)) s),
                                    seq := b.sub0 }) (subEffect b s) := by
  rw [← hb]
  rfl

theorem acceptOrder_seqLast (n : Nat) : seqLast (acceptOrder n b s) = b.sub0.toNat := by
  have hend (c : Prop) [Decidable c] (seq st reason data : Nat) (u : State) :
      seqLast (if c then endOrder seq st reason data u else u) = seqLast u := by split <;> rfl
  have hraise (u : State) (c : Bool) : seqLast (u.raiseIf c 57) = seqLast u := by
    rw [seqLast, State.rd, reg_raiseIf_ne u c 57 (by decide)]
    rfl
  unfold acceptOrder
  dsimp only
  rw [hend, hraise]
  exact (rd_wr_self _ _ _ _ (by decide)).trans (Nat.mod_eq_of_lt b.sub0.isLt)

theorem refusalCounter_off (k : Nat) : HDG.base + HDG.SEQ_LAST_SEQ.off ≠ HDG.base + (refusalCounter k).off := by
  unfold refusalCounter
  split <;> decide

theorem subEffect_seqLast (h : judge b (flushRecs s) = .ack) : seqLast (subEffect b s) = b.sub0.toNat := by
  unfold subEffect
  rw [h]
  exact acceptOrder_seqLast _

/-- An order that is not accepted leaves the queue, its last number, and memory. -/
theorem subEffect_refused (h : judge b (flushRecs s) ≠ .ack) :
    seqLast (subEffect b s) = seqLast s ∧ (subEffect b s).hdg.queue = s.hdg.queue ∧ (subEffect b s).mem = s.mem := by
  unfold subEffect
  split
  next hack => exact absurd hack h
  next => exact ⟨rd_wr_ne s _ _ _ (by decide), rfl, rfl⟩
  next k _ =>
    refine ⟨?_, by simp, by simp⟩
    exact (rd_raise_ne _ 56 _ (by decide)).trans (rd_wr_ne s _ _ _ (refusalCounter_off k))

section
variable {j : Fin 8} (hb : s.hdg.staging[j] = b)
include hb

theorem submit_result :
    (submit j s).hdg.staging[j].res = subRes (judge b (flushRecs s)) (occAfter (judge b (flushRecs s)) s) ∧
    (submit j s).hdg.staging[j].seq = b.sub0 ∧ (submit j s).hdg.staging[j].failed = false := by
  rw [submit_eq hb, updStaging_self]
  exact ⟨rfl, rfl, rfl⟩

theorem submit_accepted (h : judge b (flushRecs s) = .ack) : seqLast (submit j s) = b.sub0.toNat := by
  rw [submit_eq hb]
  exact subEffect_seqLast h

theorem submit_refused (h : judge b (flushRecs s) ≠ .ack) :
    seqLast (submit j s) = seqLast s ∧ (submit j s).hdg.queue = s.hdg.queue ∧ (submit j s).mem = s.mem := by
  rw [submit_eq hb]
  exact subEffect_refused h

end

end

/-- A frame sent leaves the Headgate, the registers and memory. -/
theorem sendFrame_apart (p : Fin 2) (g : LinkFrame) (u : State) :
    (sendFrame p g u).hdg = u.hdg ∧ (sendFrame p g u).regs = u.regs ∧ (sendFrame p g u).mem = u.mem := by
  rw [sendFrame_only]
  exact ⟨rfl, rfl, rfl⟩

/-! ## An order of a peer, and its reply (R420) -/

section
variable {p : Fin 2} {f : OrderFrame} {s : State}

/-- The link's staging buffer with an order's words in it. -/
def orderStaging (f : OrderFrame) (s : State) : Staging :=
  { s.hdg.staging[(2 : Fin 8)] with
    sub0 := f.sub0, sub1 := f.sub1, sub2 := f.sub2, sub3 := f.sub3, failed := f.failed }

theorem orderHeld_eq (f : OrderFrame) (s : State) :
    orderHeld f (acked p s) = updStaging 2 (fun _ => orderStaging f s) (acked p s) := rfl

theorem orderHeld_staging : (orderHeld f (acked p s)).hdg.staging[(2 : Fin 8)] = orderStaging f s := by
  rw [orderHeld_eq]
  exact updStaging_self 2 _ _

/-- The frame that answers an order. -/
theorem replyFrame_submit {r : Word} (hres : (submit 2 (orderHeld f (acked p s))).hdg.staging[(2 : Fin 8)].res = r)
    (hseq : (submit 2 (orderHeld f (acked p s))).hdg.staging[(2 : Fin 8)].seq = f.sub0) :
    replyFrame f (submit 2 (orderHeld f (acked p s))) (submit 2 (orderHeld f (acked p s))) =
      frameTo s 3 2 f.src.toNat 1 f.tag.toNat f.init.toNat 0 0 [r.toNat, f.sub0.toNat] := by
  rw [replyFrame, hres, hseq]
  exact frameTo_congr (congrArg (fun d : Desk => d.rest.linkId) (submit_desk 2 (orderHeld f (acked p s)))) ..

/-- A SUBMIT is judged, and answered with the result and its SEQ. -/
theorem orderSubmit_judged {r : Word} {d : State} (hroom : s.link.ports[p].unacked.length < 32) (hi : s.islandHeld 2 = false)
    (hd : d = flushRecs (orderHeld f (acked p s)))
    (hr : r = subRes (judge (orderStaging f s) d) (occ d + if judge (orderStaging f s) d = .ack then 1 else 0)) :
    ∃ t, serveOrder p f (acked p s) = t ∧ t.hdg.staging[(2 : Fin 8)].res = r ∧
      t.hdg.staging[(2 : Fin 8)].seq = f.sub0 ∧ t.hdg.staging[(2 : Fin 8)].failed = false ∧
      (judge (orderStaging f s) d = .ack → seqLast t = f.sub0.toNat) ∧
      (judge (orderStaging f s) d ≠ .ack → seqLast t = seqLast s ∧ t.hdg.queue = s.hdg.queue ∧ t.mem = s.mem) ∧
      t.link.ports[p].unacked = s.link.ports[p].unacked ++
        [{ frameTo s 3 2 f.src.toNat 1 f.tag.toNat f.init.toNat 0 0 [r.toNat, f.sub0.toNat] with
           lseq := s.link.ports[p].txSeq }] := by
  subst hd
  have hb := orderHeld_staging (p := p) (f := f) (s := s)
  obtain ⟨hres, hseq, hfailed⟩ := submit_result hb
  rw [show occ _ + _ = occAfter (judge (orderStaging f s) _) (orderHeld f (acked p s)) from rfl] at hr
  have hack := submit_accepted hb
  have href := submit_refused hb
  have hframe := replyFrame_submit (hres.trans hr.symm) hseq
  have hlink : (submit 2 (orderHeld f (acked p s))).link = (acked p s).link := submit_link 2 _
  rw [serveOrder_free (s := acked p s) hi, hframe]
  generalize submit 2 (orderHeld f (acked p s)) = u at *
  generalize hg : frameTo s 3 2 f.src.toNat 1 f.tag.toNat f.init.toNat 0 0 [r.toNat, f.sub0.toNat] = g
  obtain ⟨hhdg, hregs, hmem⟩ := sendFrame_apart p g u
  refine ⟨_, rfl, ?_, ?_, ?_, fun h => ?_, fun h => ?_, (sendFrame_behind_ack g hlink hroom).1⟩
  · rw [hhdg, hres, hr]
  · rw [hhdg]
    exact hseq
  · rw [hhdg, hfailed]
  · exact (rd_congr hregs _ _).trans (hack h)
  · obtain ⟨hlast, hqueue, hstored⟩ := href h
    exact ⟨(rd_congr hregs _ _).trans hlast, by rw [hhdg, hqueue]; rfl, by rw [hmem, hstored]; rfl⟩

end

end Sys2Proof.Machine

namespace Sys2Proof.Machine

/-! ## The reply to a core's order (R420) -/

section
variable {c : Fin 4} {j : Fin 8} {a : FarAcc} {r : PeerReq} {s : State}

/-- Without a running task no access of a task is answered. -/
theorem farAnswer_idle (adr st v : Nat) (htask : s.cores[c].task = none) : farAnswer c true adr st v s = s := by
  unfold farAnswer
  split
  · refine if_neg fun h => ?_
    have hsome := h.2
    rw [htask] at hsome
    exact Bool.false_ne_true hsome
  · rfl

/-- The end of an order of a core goes to the background's write of SUB3. -/
theorem submitEnds_core (hj : j.val = 3 + c.val) (hwait : s.cores[c].bg.wait = .far a) (haddr : a.addr / 4 = r.addr / 4)
    (htask : s.cores[c].task = none) :
    submitEnds j r 0 s = updBankOf c false (farDone a 0 s.pt) { s with respErr := false } := by
  have hc : (Fin.ofNat 4 (j.val - 3) : Fin 4) = c := by
    apply Fin.ext
    have := c.isLt
    simp only [Fin.ofNat]
    omega
  have hne (k : Fin 8) (hk : k.val < 3 ∨ k.val = 7) : j ≠ k := by
    rintro rfl
    have := c.isLt
    omega
  unfold submitEnds
  dsimp only
  rw [if_neg (hne 0 (by decide)), if_neg (hne 1 (by decide)), if_neg (hne 2 (by decide)), if_neg (hne 7 (by decide)), hc]
  have hidle := farAnswer_idle (s := { s with respErr := false }) r.addr 0 0 htask
  refine (congrArg (farAnswer c false r.addr 0 0) hidle).trans ?_
  exact farAnswer_far (s := { s with respErr := false }) (task := false) 0 hwait haddr (fun h => absurd h Bool.false_ne_true)

end

section
variable {p : Fin 2} {f : ReplyFrame} {s : State}

theorem takeReply_none (hr : reqFor s f.src.toNat f.tag.toNat true = none) : takeReply f (acked p s) = acked p s := by
  have hr' : reqFor (acked p s) f.src.toNat f.tag.toNat true = none := hr
  unfold takeReply
  rw [hr']

/-- A REPLY is kept for its core and ends its write of SUB3. -/
theorem takeReply_core {r : PeerReq} {c : Fin 4} {j : Fin 8} {a : FarAcc}
    (hr : reqFor s f.src.toNat f.tag.toNat true = some r) (hwho : r.who = .order j) (hj : j.val = 3 + c.val)
    (hwait : s.cores[c].bg.wait = .far a) (hload : a.load = false) (haddr : a.addr / 4 = r.addr / 4)
    (htask : s.cores[c].task = none) :
    ∃ t, takeReply f (acked p s) = t ∧ tget t.link.remote[j].replies f.src.toNat (0, 0) = (f.res, f.seq) ∧
      t.link.reqs = s.link.reqs.erase r ∧ t.cores[c].bg = bankProceeds s.pt s.cores[c].bg := by
  have honly : LinkOnly s (released r (remoteResult j f.src.toNat f.res f.seq (acked p s))) :=
    ((acked_linkOnly p s).trans (remoteResult_linkOnly ..)).trans (released_linkOnly ..)
  have hcores := congrArg State.cores honly
  have hpt := congrArg State.pt honly
  have hreqs : (released r (remoteResult j f.src.toNat f.res f.seq (acked p s))).link.reqs = s.link.reqs.erase r := rfl
  have hkept : tget (released r (remoteResult j f.src.toNat f.res f.seq (acked p s))).link.remote[j].replies f.src.toNat (0, 0) =
      (f.res, f.seq) := remoteResult_reply j f.src.toNat f.res f.seq (acked p s)
  have hreply := takeReply_of (s := acked p s) hr hwho
  rw [settled_served] at hreply
  generalize released r (remoteResult j f.src.toNat f.res f.seq (acked p s)) = u at *
  have hend := hreply.trans (submitEnds_core (s := u) hj (by rwa [hcores]) haddr (by rwa [hcores]))
  have hdone : farDone a 0 u.pt s.cores[c].bg = bankProceeds s.pt s.cores[c].bg := by
    rw [farDone, hload, if_neg Bool.false_ne_true, hpt]
  refine ⟨_, hend, hkept, hreqs, ?_⟩
  refine (pathBank_updBankOf c false _ _).trans ?_
  rw [← hdone, ← hcores]
  rfl

end

/-! ## Frames that go on to another device (R409, R416) -/

section
variable {p : Fin 2} {h : Arrival} {g : LinkFrame} {s : State} {d : State → State}

/-- A frame that goes on is kept at the other port under that hop's next LSEQ. -/
theorem receive_onward (hheld : s.held = false) (hup : portUp s p = true) (hother : portState s (otherPort p) ≠ 0)
    (hroom : s.link.ports[otherPort p].unacked.length < 32) (hb : h.bcast = false) (hdst : h.dst ≠ s.linkId)
    (hcrc : h.crcOk = true) (hseq : h.lseq = s.link.ports[p].rxSeq) :
    ∃ t, receive p h g d s = t ∧ t = { s with link := t.link } ∧
      { g with lseq := s.link.ports[otherPort p].txSeq } ∈ t.link.ports[otherPort p].unacked := by
  refine ⟨_, receive_foreign hheld hup hb hdst hcrc hseq hother, ?_, ?_⟩
  · rw [sendFrame_only, acked_only_link]
  · rw [sendFrame_unacked _ _ (by rwa [acked_unacked]), acked_txSeq]
    exact List.mem_append_right _ (List.mem_singleton_self _)

end

/-! ## The obligation -/

/-- Frames for this device: reads and writes, responses that are dropped, and those that end a core's access. -/
theorem memFrame_completes {p : Fin 2} {f : MemFrame} {s : State} (h : MemComes p f s) {r : PeerReq} {c : Fin 4} {task : Bool}
    {a : FarAcc} (hwho : r.who = .core c task) (hwait : (pathBank s c task).wait = .far a) (haddr : a.addr / 4 = r.addr / 4)
    (htask : task → s.cores[c].task.isSome) (hst : f.status = 0) :
    (f.data.length = f.len.toNat + 1 → a.load → reqFor s f.src.toNat f.tag.toNat false = some r →
      ∃ t, exec (.memRdresp p f) s = .next t ∧ t.link.reqs = s.link.reqs.erase r ∧
        pathBank t c task = bankProceeds s.pt (farDeliver a (respValue r f.data) (pathBank s c task)) ∧
        t = { s with link := t.link, cores := t.cores }) ∧
    (a.load = false → reqFor s f.src.toNat f.tag.toNat true = some r →
      ∃ t, exec (.memWrack p f) s = .next t ∧ t.link.reqs = s.link.reqs.erase r ∧
        pathBank t c task = bankProceeds s.pt (pathBank s c task) ∧ t = { s with link := t.link, cores := t.cores }) := by
  have hend (w : Bool) := core_ended (p := p) (s := s) r c task a (if w then 0 else respValue r f.data)
  constructor
  · intro hl hload hr
    obtain ⟨hreqs, hbank, honly⟩ := hend false
    refine ⟨_, (exec_memRdresp hl).trans (congrArg _ (h.ends_core hwho hwait haddr htask hst hr _)), hreqs, hbank.trans ?_, honly⟩
    rw [farDone, if_pos hload]
    rfl
  · intro hload hr
    obtain ⟨hreqs, hbank, honly⟩ := hend true
    refine ⟨_, congrArg Host.Outcome.next (h.ends_core hwho hwait haddr htask hst hr _), hreqs, hbank.trans ?_, honly⟩
    rw [farDone, hload, if_neg Bool.false_ne_true]

/-- Settles O59: frames for this device complete, those for another go on, and those out of sequence are discarded. -/
theorem memAndOrderFramesComplete : Obligations.MemAndOrderFramesComplete := by
  refine ⟨?mem, ?order, ?reply, ?onward, ?unexpected⟩
  case mem =>
    intro p f s hheld hup hpark hdst hcrc hseq
    have h : MemComes p f s := ⟨hheld, hup, hpark, hdst, hcrc, hseq⟩
    refine ⟨fun hl hbe ha hp hroom ho hs => ?_, h.rdresp_dropped, h.wrack_dropped, fun r c task a hwho hwait haddr htask hst =>
      memFrame_completes h hwho hwait haddr htask hst⟩
    exact ⟨h.rd ⟨hl, hbe, ha⟩ hp hroom ho hs, fun v hd => h.wr ⟨hl, hbe, ha⟩ hp hroom ho hs hd⟩
  case order =>
    rintro p f b r s d hheld hup hpark hdst hcrc hseq hroom hi rfl hd hr
    obtain ⟨t, ht, hjudged⟩ := orderSubmit_judged hroom hi hd hr
    exact ⟨t, (orderSubmit_comes hheld hup hpark hdst hcrc hseq).trans (congrArg _ ht), hjudged⟩
  case reply =>
    intro p f s hheld hup hpark hdst hcrc hseq
    have hexec := orderReply_comes hheld hup hpark hdst hcrc hseq
    refine ⟨fun hr => hexec.trans (congrArg _ (takeReply_none hr)), fun r c j a hr hwho hj hwait hload haddr htask => ?_⟩
    obtain ⟨t, ht, hkept⟩ := takeReply_core (p := p) hr hwho hj hwait hload haddr htask
    exact ⟨t, hexec.trans (congrArg _ ht), hkept⟩
  case onward =>
    intro p f g h s hheld hup hother hroom
    refine ⟨fun hdst hcrc hseq => ?_, fun hdst hcrc hseq => ?_, fun hdst hcrc hseq => ?_⟩
    · have hon (x : LinkFrame) (d : State → State) : receive p (memArrival f) x d s = sendFrame (otherPort p) x (acked p s) :=
        receive_foreign hheld hup rfl hdst hcrc hseq hother
      exact ⟨congrArg Host.Outcome.next (hon _ _), congrArg Host.Outcome.next (hon _ _), fun hl =>
        ⟨(exec_memWr hl).trans (congrArg _ (hon _ _)), (exec_memRdresp hl).trans (congrArg _ (hon _ _))⟩⟩
    · obtain ⟨t, ht, honly, hkept⟩ := receive_onward (h := ⟨g.lseq.toNat, g.dst.toNat, false, g.crcOk⟩)
        hheld hup hother hroom rfl hdst hcrc hseq
      exact ⟨t, congrArg Host.Outcome.next ht, honly, _, hkept, rfl, rfl, rfl, rfl, rfl, rfl, rfl⟩
    · obtain ⟨t, ht, honly, hkept⟩ := receive_onward (h := ⟨h.lseq.toNat, h.dst.toNat, false, h.crcOk⟩)
        hheld hup hother hroom rfl hdst hcrc hseq
      exact ⟨t, congrArg Host.Outcome.next ht, honly, _, hkept, rfl, rfl, rfl, rfl, rfl, rfl, rfl⟩
  case unexpected =>
    intro p f g h s hheld hup hpark
    refine ⟨fun hcrc hseq => ?_, fun hcrc hseq => ?_, fun hcrc hseq => ?_⟩
    · have hne (x : LinkFrame) (d : State → State) : receive p (memArrival f) x d s = nacked p s :=
        receive_unexpected hheld hup hpark hcrc hseq
      exact ⟨congrArg Host.Outcome.next (hne _ _), congrArg Host.Outcome.next (hne _ _), fun hl =>
        ⟨(exec_memWr hl).trans (congrArg _ (hne _ _)), (exec_memRdresp hl).trans (congrArg _ (hne _ _))⟩⟩
    · exact congrArg Host.Outcome.next (receive_unexpected hheld hup hpark hcrc hseq)
    · exact congrArg Host.Outcome.next (receive_unexpected hheld hup hpark hcrc hseq)

end Sys2Proof.Machine

namespace Sys2Proof.Machine

/-! ## A beat of the flash master in sound SRAM (R437, R444) -/

/-- A write of a sound word with no injection armed leaves the registers, what waits, and the beats of the ports. -/
theorem writeDec_quiet {s : State} {a : Nat} (n v : Nat) (ha : a < 0x154000) (hp : s.pattern (a / 8) = 0)
    (hi : s.flag MEM.base MEM.INJ_CTL_ARM = false) :
    (writeDec a n v s).regs = s.regs ∧ (writeDec a n v s).memc.waits = s.memc.waits ∧
      (writeDec a n v s).memc.beats = s.memc.beats := by
  unfold writeDec
  split
  · have hs : ¬ (0x154000 ≤ 8 * (a / 8) ∧ 8 * (a / 8) < 0x158000) := by omega
    unfold writeFull
    dsimp only
    rw [if_neg hs, hi]
    exact ⟨rfl, rfl, rfl⟩
  · rw [writePart_sound s a n v hp]
    exact ⟨rfl, rfl, rfl⟩

/-- From s to t a port has moved a beat in memory: no register but a counter of beats has changed, and what waits is the same. -/
structure Beat (port : Nat) (s t : State) : Prop where
  only : MemOnly s t
  reg : ∀ b, (∀ g ∈ beatCounters, b ≠ XBAR.base + g.off) → t.reg b = s.reg b
  waits : t.memc.waits = s.memc.waits
  taken : beatTaken t port s.pt = true

section
variable {port : Nat} {s t : State} (h : Beat port s t)
include h

theorem Beat.rd {b : Nat} {f : Fld} (hb : ∀ g ∈ beatCounters, b + f.off ≠ XBAR.base + g.off) : t.rd b f = s.rd b f := by
  rw [State.rd, h.reg _ hb]
  rfl

theorem Beat.flash : t.flash = s.flash := by rw [show t = _ from h.only]
theorem Beat.plan : t.plan = s.plan := by rw [show t = _ from h.only]
theorem Beat.dev : t.dev = s.dev := by rw [show t = _ from h.only]
theorem Beat.sys : t.sys = s.sys := by rw [show t = _ from h.only]
theorem Beat.pt : t.pt = s.pt := by rw [show t = _ from h.only]
theorem Beat.tick : t.tick = s.tick := by rw [show t = _ from h.only]

end

theorem monBeat_beat (port code : Nat) (s : State) : Beat port s (monBeat port code s) where
  only := (monBeat_regsMemcOnly port code s).memOnly
  reg _ hb := monBeat_reg_ne port code s hb
  waits := by simp [monBeat, beatAt, countBeat_memc, markBeat]
  taken := monBeat_beatTaken port code s

theorem Beat.write {port a : Nat} {s t : State} (h : Beat port s t) (n v : Nat) (ha : a < 0x154000)
    (hp : t.pattern (a / 8) = 0) (hi : t.flag MEM.base MEM.INJ_CTL_ARM = false) : Beat port s (writeDec a n v t) := by
  obtain ⟨hregs, hwaits, hbeats⟩ := writeDec_quiet n v ha hp hi
  refine ⟨h.only.trans (writeDec_memOnly t a n v ha hp), fun b hb => ?_, hwaits.trans h.waits, ?_⟩
  · exact (congrArg (fun r => tget r b (resetValue b)) hregs).trans (h.reg b hb)
  · rw [beatTaken, hbeats]
    exact h.taken

/-- A beat behind the turn taken for it. -/
theorem Beat.turn {code port : Nat} {s t : State} (h : Beat port (takeTurn code port s) t) : Beat port s t where
  only := (takeTurn_regsMemcOnly code port s).memOnly.trans h.only
  reg b hb := (h.reg b hb).trans (congrArg (fun r => tget r b (resetValue b)) (takeTurn_regs code port s))
  waits := h.waits.trans (by unfold takeTurn; split <;> rfl)
  taken := by rw [← (takeTurn_regsMemcOnly code port s).pt]; exact h.taken

/-- What an access of the flash master to SRAM leaves. -/
def sramBeat (w : Bool) (a n v : Nat) (s : State) : State :=
  if w then writeDec a n v (monBeat (a / 0x40000) 0x13 s) else monBeat (a / 0x40000) 0x13 s

theorem sramPort_eq {a : Nat} (h : a < 0x100000) : portOf a = a / 0x40000 := by
  rw [portOf, regionOf_sram h]
  rfl

theorem targetOf_sram {a : Nat} (s : State) (h : a < 0x100000) : targetOf s a = a :=
  targetOf_own (by rw [regionOf_sram h]; rfl) s

theorem sramPort_lt {a : Nat} (h : a < 0x100000) : a / 0x40000 < 11 := by omega

/-- Bytes inside one sound word of SRAM, with no injection armed. -/
structure SoundBytes (a n : Nat) (s : State) : Prop where
  sram : a < 0x100000
  some : 0 < n
  fits : a % 8 + n ≤ 8
  sound : s.pattern (a / 8) = 0
  unarmed : s.flag MEM.base MEM.INJ_CTL_ARM = false

section
variable {a n : Nat} {s : State} (h : SoundBytes a n s)
include h

theorem SoundBytes.monBeat (code : Nat) : SoundBytes a n (monBeat (a / 0x40000) code s) where
  sram := h.sram
  some := h.some
  fits := h.fits
  sound := by rw [State.pattern, (monBeat_regsMemcOnly _ _ _).memErr]; exact h.sound
  unarmed := by
    rw [State.flag, (monBeat_beat (a / 0x40000) code s).rd (by decide)]
    exact h.unarmed

theorem SoundBytes.takeTurn (code port : Nat) : SoundBytes a n (takeTurn code port s) where
  sram := h.sram
  some := h.some
  fits := h.fits
  sound := by rw [State.pattern, (takeTurn_regsMemcOnly _ _ _).memErr]; exact h.sound
  unarmed := by
    rw [State.flag, rd_congr (takeTurn_regs code port s)]
    exact h.unarmed

theorem SoundBytes.beat (w : Bool) (v : Nat) : Beat (a / 0x40000) s (sramBeat w a n v s) := by
  have hm := monBeat_beat (a / 0x40000) 0x13 s
  cases w with
  | false => exact hm
  | true => exact hm.write n v (Nat.lt_trans h.sram (by decide)) (h.monBeat 0x13).sound (h.monBeat 0x13).unarmed

theorem SoundBytes.stores (v : Nat) : Stores a n v s (sramBeat true a n v s) :=
  (writeDec_stores _ a n v h.some h.fits (h.monBeat 0x13).sound).from (monBeat_regsMemcOnly _ _ _).mem.symm

omit h in
theorem sramBeat_read_mem (v : Nat) : (sramBeat false a n v s).mem = s.mem := (monBeat_regsMemcOnly _ _ _).mem

/-- An access of the flash master to SRAM ends with status 0, and a read with the bytes. -/
theorem SoundBytes.accessDo (who : PeerWho) (w : Bool) (v : Nat) : accessDo who (.plain .fl) a n w v s =
    (.done 0 (if w then 0 else s.leBytes a n), sramBeat w a n v s) := by
  have hr := regionOf_sram h.sram
  have hown : isWindow (regionOf a) = false := by rw [hr]; rfl
  have hbytes : (Machine.monBeat (a / 0x40000) 0x13 s).leBytes a n = s.leBytes a n :=
    leBytes_congr n a fun _ _ => byte_congr (monBeat_regsMemcOnly _ _ _).mem _
  have hread := readDec_sound _ a n h.fits (Nat.lt_trans h.sram (by decide)) (h.monBeat 0x13).sound
  rw [hbytes] at hread
  unfold Machine.accessDo
  rw [peerOf_own hown]
  cases w with
  | true => simp [busWrite, peerOf_own hown, ownAddr_own hown, hr, pathBeat, pathInit, initCode, Region.port, sramBeat]
  | false => simp [busRead, peerOf_own hown, ownAddr_own hown, hr, pathBeat, pathInit, initCode, Region.port, sramBeat, hread]

/-- In a cycle that is open to it, the access is carried out. -/
theorem SoundBytes.begins (who : PeerWho) (w : Bool) (v : Nat) (ho : portOpen s .fl (a / 0x40000) = true) :
    accessBegin who .fl a n w v s = (.done 0 (if w then 0 else s.leBytes a n),
      sramBeat w a n v (Machine.takeTurn 0x13 (a / 0x40000) s)) := by
  have hport : portOf (targetOf s a) = a / 0x40000 := by rw [targetOf_sram s h.sram, sramPort_eq h.sram]
  have hbytes : (Machine.takeTurn 0x13 (a / 0x40000) s).leBytes a n = s.leBytes a n :=
    leBytes_congr n a fun _ _ => byte_congr (takeTurn_regsMemcOnly _ _ _).mem _
  rw [accessBegin_open (by rwa [hport]), hport, show initCode .fl = 0x13 from rfl, (h.takeTurn 0x13 _).accessDo, hbytes]

end

/-- In a cycle without room for it an access waits. -/
theorem accessBegin_closed {who : PeerWho} {i : Initiator} {a n v : Nat} {w : Bool} {s : State}
    (ho : portOpen s i (portOf (targetOf s a)) = false) :
    accessBegin who i a n w v s = (.waits, addWait (.access who i a n w v) s) := by
  unfold accessBegin
  dsimp only
  rw [ho]
  rfl

/-- A port that has moved its beat has no room for another access in the cycle (R444). -/
theorem portOpen_taken {s : State} {port : Nat} (i : Initiator) (hp : port < 11) (h : beatTaken s port s.pt = true) :
    portOpen s i port = false := by
  rw [portOpen, busAllows_eq_false _ hp h]
  rfl

/-- The access behind a beat at the same port waits for a cycle of its own. -/
theorem accessBegin_next {who : PeerWho} {i : Initiator} {port b n v : Nat} {w : Bool} {s : State}
    (h : beatTaken s port s.pt = true) (hb : b < 0x100000) (hport : b / 0x40000 = port) :
    accessBegin who i b n w v s = (.waits, addWait (.access who i b n w v) s) := by
  subst hport
  apply accessBegin_closed
  rw [targetOf_sram s hb, sramPort_eq hb]
  exact portOpen_taken i (sramPort_lt hb) h

end Sys2Proof.Machine

namespace Sys2Proof.Machine

/-! ## The stages of the boot (R406, R407) -/

section
variable (l : List Byte) {s : State} (hb : busStopped s = false)
include hb

theorem flashBootStage_header (h : s.rd FL.base FL.BOOT_STAGE = 1) : exec (.flashBootStage l) s = .next (bootHeader l s) := by
  show Host.Outcome.next (bootStageStep l s) = _
  rw [bootStageStep, hb, if_neg Bool.false_ne_true, h]
  rfl

theorem flashBootStage_init (h : s.rd FL.base FL.BOOT_STAGE = 2) : exec (.flashBootStage l) s = .next (bootInit l s) := by
  show Host.Outcome.next (bootStageStep l s) = _
  rw [bootStageStep, hb, if_neg Bool.false_ne_true, h]
  rfl

theorem flashBootStage_image (h : s.rd FL.base FL.BOOT_STAGE = 3) : exec (.flashBootStage l) s = .next (bootImage l s) := by
  show Host.Outcome.next (bootStageStep l s) = _
  rw [bootStageStep, hb, if_neg Bool.false_ne_true, h]
  rfl

theorem flashBootStage_loaded (h : s.rd FL.base FL.BOOT_STAGE = 4) : exec (.flashBootStage l) s = .next (bootLoaded s) := by
  show Host.Outcome.next (bootStageStep l s) = _
  rw [bootStageStep, hb, if_neg Bool.false_ne_true, h]
  rfl

theorem flashBootStage_arm (h : s.rd FL.base FL.BOOT_STAGE = 5) : exec (.flashBootStage l) s = .next (bootArm s) := by
  show Host.Outcome.next (bootStageStep l s) = _
  rw [bootStageStep, hb, if_neg Bool.false_ne_true, h]
  rfl

end

/-! ### The end of the boot -/

theorem mem_setFlash (s : State) (x : Flash) : State.mem { s with flash := x } = s.mem := rfl
theorem dev_setFlash (s : State) (x : Flash) : State.dev { s with flash := x } = s.dev := rfl
theorem rd_setFlash (s : State) (x : Flash) (b : Nat) (f : Fld) : State.rd { s with flash := x } b f = s.rd b f := rfl

section
variable (r : Nat) (s : State)

/-- The registers of the FL page when the boot has ended with a result. -/
def bootMarked : State := ((s.wr FL.base FL.BOOT_STAGE 6).wr FL.base FL.BOOT_RESULT r).wr FL.base FL.CTRL_BUSY 0

theorem bootEnd_eq : bootEnd r s =
    { bootMarked r s with flash := { (bootMarked r s).flash with asks := none, todo := [], job := none } }.raise 234 := by
  unfold bootEnd bootMarked
  rfl

theorem bootEnd_rd (f : Fld) (h : (FL.base + f.off) % 0x1000 ≠ 0x10) :
    (bootEnd r s).rd FL.base f = (bootMarked r s).rd FL.base f := by
  rw [bootEnd_eq, rd_raise_ne _ 234 _ h, rd_setFlash]

theorem bootEnd_stage : (bootEnd r s).rd FL.base FL.BOOT_STAGE = 6 := by
  rw [bootEnd_rd _ _ _ (by decide), bootMarked, rd_wr_ne _ _ _ _ (by decide),
    rd_wr_disj _ _ _ _ (by decide) (by decide) (by decide), rd_wr_self _ _ _ _ (by decide)]
  rfl

theorem bootEnd_result (hr : r < 16) : (bootEnd r s).rd FL.base FL.BOOT_RESULT = r := by
  rw [bootEnd_rd _ _ _ (by decide), bootMarked, rd_wr_ne _ _ _ _ (by decide), rd_wr_self _ _ _ _ (by decide)]
  exact Nat.mod_eq_of_lt hr

theorem bootEnd_item : (bootEnd r s).rd FL.base FL.BOOT_ITEM = s.rd FL.base FL.BOOT_ITEM := by
  rw [bootEnd_rd _ _ _ (by decide), bootMarked, rd_wr_ne _ _ _ _ (by decide),
    rd_wr_disj _ _ _ _ (by decide) (by decide) (by decide), rd_wr_disj _ _ _ _ (by decide) (by decide) (by decide)]

theorem bootEnd_busy : (bootEnd r s).flag FL.base FL.CTRL_BUSY = false := by
  rw [State.flag, bootEnd_rd _ _ _ (by decide), bootMarked, rd_wr_self _ _ _ _ (by decide)]
  rfl

theorem bootEnd_mem : (bootEnd r s).mem = s.mem := by
  rw [bootEnd_eq, State.raise_mem, mem_setFlash, bootMarked, State.wr_mem, State.wr_mem, State.wr_mem]
theorem bootEnd_dev : (bootEnd r s).dev = s.dev := by
  rw [bootEnd_eq, State.raise_dev, dev_setFlash, bootMarked, State.wr_dev, State.wr_dev, State.wr_dev]

end

/-! ### Stage 1: the header -/

section
variable {l : List Byte} {s : State}

theorem bootHeader_magic (h : leAt l 0 4 ≠ 0x54425643) : bootHeader l s = bootEnd 2 s := if_pos h

theorem bootHeader_crc (h : leAt l 0 4 = 0x54425643) (hc : crc32 (l.take 0x20) ≠ leAt l 0x20 4) : bootHeader l s = bootEnd 3 s := by
  unfold bootHeader
  rw [if_neg (not_not.2 h), if_pos hc]

/-- What a good header tells the flash master, which asks for the init list (R406). -/
def readHeader (l : List Byte) (s : State) : State :=
  askFlash (leAt l 8 4) (8 * leAt l 0xC 4) { s with flash := { s.flash with
    flags := leAt l 4 4, initOff := leAt l 8 4, initN := leAt l 0xC 4, imgOff := leAt l 0x10 4,
    imgSize := leAt l 0x14 4, loadAddr := leAt l 0x18 4, initCrc := leAt l 0x1C 4 } }

theorem bootHeader_read (h : leAt l 0 4 = 0x54425643) (hc : crc32 (l.take 0x20) = leAt l 0x20 4) : bootHeader l s =
    ((readHeader l s).wr HPS.base HPS.CFG_GEN (if bit (leAt l 4 4) 1 then 1 else 2)).wr FL.base FL.BOOT_STAGE 2 := by
  unfold bootHeader
  rw [if_neg (not_not.2 h), if_neg (not_not.2 hc)]
  rfl

theorem wr_wr_only (u : State) (a : Nat) (f : Fld) (v b : Nat) (g : Fld) (w : Nat) :
    (u.wr a f v).wr b g w = { u with regs := ((u.wr a f v).wr b g w).regs } := rfl

/-- A good header sets HPS.CFG.GEN, and stage 2 begins. -/
theorem goodHeader_rd (g : Nat) (u : State) (hg : g < 4) :
    ((u.wr HPS.base HPS.CFG_GEN g).wr FL.base FL.BOOT_STAGE 2).rd FL.base FL.BOOT_STAGE = 2 ∧
    ((u.wr HPS.base HPS.CFG_GEN g).wr FL.base FL.BOOT_STAGE 2).rd HPS.base HPS.CFG_GEN = g := by
  constructor
  · exact rd_wr_self _ _ _ 2 (by decide)
  · refine (rd_wr_ne _ FL.BOOT_STAGE HPS.CFG_GEN 2 (by decide)).trans ?_
    exact (rd_wr_self u _ _ g (by decide)).trans (Nat.mod_eq_of_lt hg)

/-- The header's stage: a wrong MAGIC, a wrong CRC, or a header that is read. -/
theorem headerStage (hb : busStopped s = false) (hst : s.rd FL.base FL.BOOT_STAGE = 1) :
    (leAt l 0 4 ≠ 0x54425643 → ∃ t, exec (.flashBootStage l) s = .next t ∧ t.rd FL.base FL.BOOT_STAGE = 6 ∧
      t.rd FL.base FL.BOOT_RESULT = 2 ∧ t.flag FL.base FL.CTRL_BUSY = false) ∧
    (leAt l 0 4 = 0x54425643 → crc32 (l.take 0x20) ≠ leAt l 0x20 4 → ∃ t, exec (.flashBootStage l) s = .next t ∧
      t.rd FL.base FL.BOOT_STAGE = 6 ∧ t.rd FL.base FL.BOOT_RESULT = 3) ∧
    (leAt l 0 4 = 0x54425643 → crc32 (l.take 0x20) = leAt l 0x20 4 → ∃ t, exec (.flashBootStage l) s = .next t ∧
      t.rd FL.base FL.BOOT_STAGE = 2 ∧ t.rd HPS.base HPS.CFG_GEN = (if bit (leAt l 4 4) 1 then 1 else 2) ∧
      t.flash.flags = leAt l 4 4 ∧ t.flash.initN = leAt l 0xC 4 ∧ t.flash.imgSize = leAt l 0x14 4 ∧
      t.flash.loadAddr = leAt l 0x18 4 ∧ t.flash.initCrc = leAt l 0x1C 4 ∧
      t.flash.initOff = leAt l 8 4 ∧ t.flash.imgOff = leAt l 0x10 4 ∧
      t.flash.asks = some (0xEB, leAt l 8 4 % 0x1000000, 8 * leAt l 0xC 4) ∧ t = { s with regs := t.regs, flash := t.flash }) := by
  have hexec := flashBootStage_header l hb hst
  refine ⟨fun h => ?_, fun h hc => ?_, fun h hc => ?_⟩
  · exact ⟨_, hexec.trans (congrArg _ (bootHeader_magic h)), bootEnd_stage 2 s, bootEnd_result 2 s (by decide), bootEnd_busy 2 s⟩
  · exact ⟨_, hexec.trans (congrArg _ (bootHeader_crc h hc)), bootEnd_stage 3 s, bootEnd_result 3 s (by decide)⟩
  · have hg : (if bit (leAt l 4 4) 1 then 1 else 2) < 4 := by split <;> decide
    obtain ⟨hstage, hgen⟩ := goodHeader_rd _ (readHeader l s) hg
    have honly := wr_wr_only (readHeader l s) HPS.base HPS.CFG_GEN (if bit (leAt l 4 4) 1 then 1 else 2)
      FL.base FL.BOOT_STAGE 2
    rw [bootHeader_read h hc] at hexec
    generalize ((readHeader l s).wr HPS.base HPS.CFG_GEN _).wr FL.base FL.BOOT_STAGE 2 = t at *
    have hflash : t.flash = (readHeader l s).flash := by rw [honly]
    refine ⟨t, hexec, hstage, hgen, ?_, ?_, ?_, ?_, ?_, ?_, ?_, ?_, ?_⟩
    iterate 8 rw [hflash]; rfl
    rw [honly]
    rfl

end

/-! ### Stage 2: the init list -/

/-- The entries of an init list (R406). -/
def initEntries (l : List Byte) (n : Nat) : List (Nat × Nat) :=
  (List.range n).map (fun i => (leAt (l.take (8 * n)) (8 * i) 4, leAt (l.take (8 * n)) (8 * i + 4) 4))

theorem leAt_take (l : List Byte) {o n k : Nat} (h : o + k ≤ n) : leAt (l.take n) o k = leAt l o k := by
  unfold leAt
  rw [List.drop_take, List.take_take, Nat.min_eq_left (by omega)]

theorem initEntries_one (l : List Byte) : initEntries l 1 = [(leAt l 0 4, leAt l 4 4)] := by
  have h0 := leAt_take l (o := 0) (n := 8) (k := 4) (by decide)
  have h4 := leAt_take l (o := 4) (n := 8) (k := 4) (by decide)
  simp [initEntries, h0, h4]

/-- The entry at the front of an init list, and how many follow. -/
theorem initEntries_front (l : List Byte) {n : Nat} (h : 0 < n) :
    ∃ rest, initEntries l n = (leAt l 0 4, leAt l 4 4) :: rest ∧ rest.length = n - 1 := by
  obtain ⟨m, rfl⟩ : ∃ m, n = m + 1 := ⟨n - 1, by omega⟩
  have h0 := leAt_take l (o := 0) (n := 8 * (m + 1)) (k := 4) (by omega)
  have h4 := leAt_take l (o := 4) (n := 8 * (m + 1)) (k := 4) (by omega)
  unfold initEntries
  rw [List.range_succ_eq_map, List.map_cons, Nat.mul_zero, Nat.zero_add, h0, h4]
  exact ⟨_, rfl, by simp⟩

theorem initEntries_two (l : List Byte) {n : Nat} (h : 2 ≤ n) : ∃ rest,
    initEntries l n = (leAt l 0 4, leAt l 4 4) :: (leAt l 8 4, leAt l 12 4) :: rest ∧ rest.length = n - 2 := by
  obtain ⟨m, rfl⟩ : ∃ m, n = m + 2 := ⟨n - 2, by omega⟩
  have h0 := leAt_take l (o := 0) (n := 8 * (m + 2)) (k := 4) (by omega)
  have h4 := leAt_take l (o := 4) (n := 8 * (m + 2)) (k := 4) (by omega)
  have h8 := leAt_take l (o := 8) (n := 8 * (m + 2)) (k := 4) (by omega)
  have h12 := leAt_take l (o := 12) (n := 8 * (m + 2)) (k := 4) (by omega)
  unfold initEntries
  rw [List.range_succ_eq_map, List.range_succ_eq_map, List.map_cons, List.map_cons, List.map_cons, Nat.mul_zero,
    Nat.zero_add, h0, h4, show 8 * Nat.succ 0 = 8 from rfl, h8, h12]
  exact ⟨_, rfl, by simp⟩

/-- The list goes on behind an entry: it is done, and the next item begins. -/
def pastEntry (rest : List (Nat × Nat)) (u : State) : State :=
  { u with flash := { u.flash with todo := rest, item := u.flash.item + 1 } }

section
variable {e : Nat × Nat} {rest : List (Nat × Nat)} {s u : State}

theorem bootWrites_done {v : Nat} (h : flWord e.1 e.2 s = (.done 0 v, u)) :
    bootWrites (e :: rest) s = bootWrites rest (pastEntry rest u) := by
  rw [bootWrites]
  dsimp only
  rw [h]
  rfl

theorem bootWrites_waits (h : flWord e.1 e.2 s = (.waits, u)) : bootWrites (e :: rest) s = pastEntry rest u := by
  rw [bootWrites]
  dsimp only
  rw [h]
  rfl

theorem bootWrites_fails {v : Nat} (h : flWord e.1 e.2 s = (.done 3 v, u)) : bootWrites (e :: rest) s =
    bootEnd 5 ((pastEntry rest u).wr FL.base FL.BOOT_ITEM u.flash.item) := by
  rw [bootWrites]
  dsimp only
  rw [h]
  rfl

end

section
variable {l : List Byte} {s : State}

/-- The writes of an init list begin at item 0. -/
def atItem0 (s : State) : State := { s with flash := { s.flash with item := 0 } }

section
variable (hreqs : s.link.reqs = []) (hwaits : waitsAny s .fl = false)
include hreqs hwaits

theorem initFree : ¬ (s.link.reqs.any (fun r => r.who == .boot) = true ∨ waitsAny s .fl = true) := by
  rw [hreqs, hwaits]
  simp

theorem bootInit_crc (hc : crc32 (l.take (8 * s.flash.initN)) ≠ s.flash.initCrc) : bootInit l s = bootEnd 4 s := by
  unfold bootInit
  dsimp only
  rw [if_neg (initFree hreqs hwaits), if_pos hc]

theorem bootInit_writes (hc : crc32 (l.take (8 * s.flash.initN)) = s.flash.initCrc) :
    bootInit l s = bootWrites (initEntries l s.flash.initN) (atItem0 s) := by
  unfold bootInit
  dsimp only
  rw [if_neg (initFree hreqs hwaits), if_neg (not_not.2 hc)]
  rfl

end

end

/-- Behind the last entry the image is asked for. -/
theorem bootWrites_nil (s : State) : (bootWrites [] s).rd FL.base FL.BOOT_STAGE = 3 ∧ (bootWrites [] s).mem = s.mem ∧
    (bootWrites [] s).flash.asks = some (0xEB, s.flash.imgOff % 0x1000000, s.flash.imgSize) := by
  rw [bootWrites, askFlash]
  refine ⟨?_, (mem_setFlash _ _).trans (State.wr_mem ..), rfl⟩
  rw [rd_setFlash, rd_wr_self _ _ _ _ (by decide)]
  rfl

/-- An init entry written to SRAM in a cycle of its own. -/
theorem flWord_sram {a v : Nat} {s : State} (h : SoundBytes (a / 4 * 4) 4 s) (ho : portOpen s .fl (a / 4 * 4 / 0x40000) = true) :
    flWord a v s = (.done 0 0, sramBeat true (a / 4 * 4) 4 v (takeTurn 0x13 (a / 4 * 4 / 0x40000) s)) :=
  h.begins .boot true v ho

theorem flWord_next {b v port : Nat} {s : State} (h : beatTaken s port s.pt = true) (hb : b / 4 * 4 / 0x40000 = port)
    (hsram : b / 4 * 4 < 0x100000) :
    flWord b v s = (.waits, addWait (.access .boot .fl (b / 4 * 4) 4 true v) s) := accessBegin_next h hsram hb

/-- An init entry where no region answers ends in a bus error. -/
theorem flWord_nowhere {a v : Nat} {s : State} (hr : regionOf (a / 4 * 4) = none) (ho : portOpen s .fl 11 = true) :
    flWord a v s = (.done 3 0, busError .fl (a / 4 * 4) true (takeTurn 0x13 11 s)) := by
  have hw : isWindow (regionOf (a / 4 * 4)) = false := by rw [hr]; rfl
  have hport : portOf (targetOf s (a / 4 * 4)) = 11 := by rw [targetOf_own hw, portOf, hr]
  unfold flWord
  rw [accessBegin_open (by rwa [hport]), hport, accessDo, peerOf_own hw]
  simp [busWrite, peerOf_own hw, ownAddr_own hw, hr, pathInit, initCode]

end Sys2Proof.Machine

namespace Sys2Proof.Machine

/-! ### The writes of the init list (R406, R444) -/

/-- The flash master's own state is no part of what decides about a cycle. -/
theorem portOpen_setFlash (s : State) (x : Flash) (i : Initiator) (port : Nat) :
    portOpen { s with flash := x } i port = portOpen s i port :=
  portOpen_congr (s := s) (t := { s with flash := x }) rfl i port

theorem SoundBytes.setFlash {a n : Nat} {s : State} (h : SoundBytes a n s) (x : Flash) :
    SoundBytes a n { s with flash := x } := ⟨h.sram, h.some, h.fits, h.sound, h.unarmed⟩

@[simp] theorem busError_flash (i : Initiator) (a : Nat) (w : Bool) (s : State) : (busError i a w s).flash = s.flash := by
  simp [busError]

theorem takeTurn_flash (code port : Nat) (s : State) : (takeTurn code port s).flash = s.flash := by
  rw [show takeTurn code port s = _ from takeTurn_regsMemcOnly code port s]

section
variable {l : List Byte} {s : State} {a v : Nat}

/-- The state behind the first entry's beat. -/
def firstWrite (a v : Nat) (s : State) : State := sramBeat true a 4 v (takeTurn 0x13 (a / 0x40000) (atItem0 s))

theorem firstWrite_beat (h : SoundBytes a 4 s) : Beat (a / 0x40000) (atItem0 s) (firstWrite a v s) :=
  (((h.setFlash _).takeTurn 0x13 (a / 0x40000)).beat true v).turn

theorem firstWrite_stores (h : SoundBytes a 4 s) : Stores a 4 v s (firstWrite a v s) :=
  (((h.setFlash _).takeTurn 0x13 (a / 0x40000)).stores v).from (takeTurn_regsMemcOnly _ _ (atItem0 s)).mem.symm

theorem flWord_first {e : Nat × Nat} (ha : a = e.1 / 4 * 4) (h : SoundBytes a 4 s) (ho : portOpen s .fl (a / 0x40000) = true) :
    flWord e.1 e.2 (atItem0 s) = (.done 0 0, firstWrite a e.2 s) := by
  subst ha
  exact flWord_sram (h.setFlash _) ((portOpen_setFlash s _ .fl _).trans ho)

/-- An init list of one entry is written, and the image is asked for. -/
theorem bootWrites_one {e : Nat × Nat} (ha : a = e.1 / 4 * 4) (h : SoundBytes a 4 s) (ho : portOpen s .fl (a / 0x40000) = true) :
    (bootWrites [e] (atItem0 s)).rd FL.base FL.BOOT_STAGE = 3 ∧ Stores a 4 e.2 s (bootWrites [e] (atItem0 s)) := by
  rw [bootWrites_done (flWord_first ha h ho)]
  obtain ⟨hstage, hmem, -⟩ := bootWrites_nil (pastEntry [] (firstWrite a e.2 s))
  exact ⟨hstage, (firstWrite_stores h).congr rfl (hmem.trans (mem_setFlash _ _))⟩

/-- Of several entries the second waits for a cycle of its own at the same port. -/
theorem bootWrites_two {e f : Nat × Nat} {b : Nat} {rest : List (Nat × Nat)} (ha : a = e.1 / 4 * 4) (hb : b = f.1 / 4 * 4)
    (h : SoundBytes a 4 s) (ho : portOpen s .fl (a / 0x40000) = true) (hport : b / 0x40000 = a / 0x40000) :
    bootWrites (e :: f :: rest) (atItem0 s) =
      pastEntry rest (addWait (.access .boot .fl b 4 true f.2) (pastEntry (f :: rest) (firstWrite a e.2 s))) := by
  have hbeat := firstWrite_beat (v := e.2) h
  have htaken : beatTaken (firstWrite a e.2 s) (a / 0x40000) (firstWrite a e.2 s).pt = true := by
    rw [hbeat.pt]
    exact hbeat.taken
  have hsram : b < 0x100000 := by have := h.sram; omega
  subst hb
  rw [bootWrites_done (flWord_first ha h ho)]
  exact bootWrites_waits (flWord_next (s := pastEntry (f :: rest) (firstWrite a e.2 s)) htaken hport hsram)

/-- The waiting list of entries changes nothing but the flash master and what waits. -/
theorem waitingEntry_keeps (rest todo : List (Nat × Nat)) (r : WaitReq) (u : State) :
    (pastEntry rest (addWait r (pastEntry todo u))).regs = u.regs ∧
    (pastEntry rest (addWait r (pastEntry todo u))).mem = u.mem ∧
    (pastEntry rest (addWait r (pastEntry todo u))).memc.waits = u.memc.waits ++ [r] ∧
    (pastEntry rest (addWait r (pastEntry todo u))).flash.todo = rest := ⟨rfl, rfl, rfl, rfl⟩

end

section
variable {l : List Byte} {s : State} (hb : busStopped s = false) (hst : s.rd FL.base FL.BOOT_STAGE = 2)
  (hreqs : s.link.reqs = []) (hwaits : waitsAny s .fl = false)
include hb hst hreqs hwaits

theorem initStage_bad (hc : crc32 (l.take (8 * s.flash.initN)) ≠ s.flash.initCrc) :
    ∃ t, exec (.flashBootStage l) s = .next t ∧ t.rd FL.base FL.BOOT_STAGE = 6 ∧ t.rd FL.base FL.BOOT_RESULT = 4 :=
  ⟨_, (flashBootStage_init l hb hst).trans (congrArg _ (bootInit_crc hreqs hwaits hc)), bootEnd_stage 4 s,
    bootEnd_result 4 s (by decide)⟩

section
variable (hc : crc32 (l.take (8 * s.flash.initN)) = s.flash.initCrc)
include hc

/-- A good list's writes are made. -/
theorem exec_initWrites : exec (.flashBootStage l) s = .next (bootWrites (initEntries l s.flash.initN) (atItem0 s)) :=
  (flashBootStage_init l hb hst).trans (congrArg _ (bootInit_writes hreqs hwaits hc))

theorem initStage_empty (hn : s.flash.initN = 0) : ∃ t, exec (.flashBootStage l) s = .next t ∧
    t.rd FL.base FL.BOOT_STAGE = 3 ∧ t.flash.asks = some (0xEB, s.flash.imgOff % 0x1000000, s.flash.imgSize) ∧ t.mem = s.mem := by
  have hexec := exec_initWrites hb hst hreqs hwaits hc
  rw [hn] at hexec
  obtain ⟨hstage, hmem, hasks⟩ := bootWrites_nil (atItem0 s)
  exact ⟨_, hexec, hstage, hasks, hmem⟩

theorem initStage_one {a v : Nat} (hn : s.flash.initN = 1) (ha : a = leAt l 0 4 / 4 * 4) (hv : v = leAt l 4 4)
    (h : SoundBytes a 4 s) (ho : portOpen s .fl (a / 0x40000) = true) :
    ∃ t, exec (.flashBootStage l) s = .next t ∧ t.rd FL.base FL.BOOT_STAGE = 3 ∧
      ∀ x, x < 0x100000 → t.byte x = if a ≤ x ∧ x < a + 4 then BitVec.ofNat 8 (v / 256 ^ (x - a)) else s.byte x := by
  have hexec := exec_initWrites hb hst hreqs hwaits hc
  rw [hn, initEntries_one] at hexec
  subst hv
  obtain ⟨hstage, hstores⟩ := bootWrites_one (e := (leAt l 0 4, leAt l 4 4)) ha h ho
  exact ⟨_, hexec, hstage, fun x _ => hstores x⟩

theorem initStage_two {a v b w : Nat} (hn : 2 ≤ s.flash.initN) (ha : a = leAt l 0 4 / 4 * 4) (hv : v = leAt l 4 4)
    (hb' : b = leAt l 8 4 / 4 * 4) (hw : w = leAt l 12 4) (h : SoundBytes a 4 s)
    (ho : portOpen s .fl (a / 0x40000) = true) (hport : b / 0x40000 = a / 0x40000) :
    ∃ t, exec (.flashBootStage l) s = .next t ∧ t.rd FL.base FL.BOOT_STAGE = 2 ∧
      t.memc.waits = s.memc.waits ++ [.access .boot .fl b 4 true w] ∧ t.flash.todo.length = s.flash.initN - 2 ∧
      ∀ x, x < 0x100000 → t.byte x = if a ≤ x ∧ x < a + 4 then BitVec.ofNat 8 (v / 256 ^ (x - a)) else s.byte x := by
  have hexec := exec_initWrites hb hst hreqs hwaits hc
  obtain ⟨rest, hlist, hlen⟩ := initEntries_two l hn
  subst hv hw
  rw [hlist, bootWrites_two (e := (leAt l 0 4, leAt l 4 4)) (f := (leAt l 8 4, leAt l 12 4)) ha hb' h ho hport] at hexec
  obtain ⟨hregs, hmem, hwait, htodo⟩ := waitingEntry_keeps rest ((leAt l 8 4, leAt l 12 4) :: rest)
    (.access .boot .fl b 4 true (leAt l 12 4)) (firstWrite a (leAt l 4 4) s)
  have hbeat := firstWrite_beat (v := leAt l 4 4) h
  refine ⟨_, hexec, ?_, hwait.trans (congrArg (· ++ _) hbeat.waits), (congrArg List.length htodo).trans hlen, fun x _ => ?_⟩
  · exact (rd_congr hregs _ _).trans ((hbeat.rd (by decide)).trans hst)
  · exact ((firstWrite_stores (v := leAt l 4 4) h).congr rfl hmem) x

theorem initStage_nowhere (hn : 0 < s.flash.initN) (hr : regionOf (leAt l 0 4 / 4 * 4) = none) (ho : portOpen s .fl 11 = true) :
    ∃ t, exec (.flashBootStage l) s = .next t ∧ t.rd FL.base FL.BOOT_STAGE = 6 ∧ t.rd FL.base FL.BOOT_RESULT = 5 ∧
      t.rd FL.base FL.BOOT_ITEM = 0 ∧ t.mem = s.mem := by
  have hexec := exec_initWrites hb hst hreqs hwaits hc
  obtain ⟨rest, hlist, -⟩ := initEntries_front l hn
  have hword := flWord_nowhere (v := leAt l 4 4) (s := atItem0 s) hr ((portOpen_setFlash s _ .fl _).trans ho)
  have hitem : (busError .fl (leAt l 0 4 / 4 * 4) true (takeTurn 0x13 11 (atItem0 s))).flash.item = 0 := by
    rw [busError_flash, takeTurn_flash]
    rfl
  have hmem := (busError_records .fl (leAt l 0 4 / 4 * 4) true (takeTurn 0x13 11 (atItem0 s))).2.trans
    (takeTurn_regsMemcOnly _ _ _).mem
  rw [hlist, bootWrites_fails (e := (leAt l 0 4, leAt l 4 4)) hword, hitem] at hexec
  refine ⟨_, hexec, bootEnd_stage 5 _, bootEnd_result 5 _ (by decide), ?_, ?_⟩
  · rw [bootEnd_item, rd_wr_self _ _ _ _ (by decide)]
    rfl
  · rw [bootEnd_mem, State.wr_mem]
    exact hmem

end
end

/-! ### An init entry that waited (R139) -/

/-- What remains of the waiting accesses when one is served. -/
def unqueued (r : WaitReq) (s : State) : State := { s with memc := { s.memc with waits := s.memc.waits.erase r } }

theorem SoundBytes.unqueued {a n : Nat} {s : State} (h : SoundBytes a n s) (r : WaitReq) : SoundBytes a n (unqueued r s) :=
  ⟨h.sram, h.some, h.fits, h.sound, h.unarmed⟩

/-- An access of the flash master to SRAM that waited is served, and ends. -/
theorem takeWait_sram {who : PeerWho} {a n v : Nat} {w : Bool} {s : State} (h : SoundBytes a n s) :
    takeWait (.access who .fl a n w v) s = waitEnds who n w 0 (if w then 0 else s.leBytes a n)
      (sramBeat w a n v (unqueued (.access who .fl a n w v) s)) := by
  have hdo := (h.unqueued (.access who .fl a n w v)).accessDo who w v
  rw [show (unqueued (.access who .fl a n w v) s).leBytes a n = s.leBytes a n from
    leBytes_congr n a fun _ _ => rfl] at hdo
  show waitBeat (.access who .fl a n w v) (unqueued (.access who .fl a n w v) s) = _
  unfold waitBeat
  dsimp only
  rw [hdo]

/-- The last entry of the init list, served after a wait. -/
theorem takeWait_lastEntry {a v : Nat} {s : State} (hst : s.rd FL.base FL.BOOT_STAGE = 2) (htodo : s.flash.todo = [])
    (h : SoundBytes a 4 s) : (takeWait (.access .boot .fl a 4 true v) s).rd FL.base FL.BOOT_STAGE = 3 ∧
      Stores a 4 v s (takeWait (.access .boot .fl a 4 true v) s) := by
  have hu := h.unqueued (.access .boot .fl a 4 true v)
  have hbeat := hu.beat true v
  have hstores : Stores a 4 v s _ := (hu.stores v).from rfl
  rw [takeWait_sram h]
  generalize sramBeat true a 4 v (unqueued (.access .boot .fl a 4 true v) s) = u at *
  have hstage : u.rd FL.base FL.BOOT_STAGE = 2 := (hbeat.rd (by decide)).trans hst
  have hflash : u.flash.todo = [] := (congrArg Flash.todo hbeat.flash).trans htodo
  have hanswer : waitEnds .boot 4 true 0 (if true then 0 else s.leBytes a 4) u = bootWrites [] u := by
    show bootAnswer 0 u = _
    rw [bootAnswer, hstage, if_neg (by decide), if_neg (by decide), hflash]
  rw [hanswer]
  obtain ⟨hthree, hmem, -⟩ := bootWrites_nil u
  exact ⟨hthree, hstores.congr rfl hmem⟩

end Sys2Proof.Machine

namespace Sys2Proof.Machine

/-! ## The load that ends the copy (R407) -/

/-- PLAN.LOAD leaves memory, the flash master and the registers that name the image. -/
theorem planLoadStep_keeps (s : State) : (planLoadStep s).mem = s.mem ∧ (planLoadStep s).flash = s.flash ∧
    (planLoadStep s).rd PLAN.base PLAN.LOAD_SIZE_SIZE = s.rd PLAN.base PLAN.LOAD_SIZE_SIZE := by
  unfold planLoadStep
  split
  · exact ⟨rfl, rfl, rfl⟩
  split
  · exact ⟨State.bump_mem .., State.bump_flash .., rd_wr_ne _ _ _ _ (by decide)⟩
  split
  · refine ⟨?_, ?_, ?_⟩
    · rw [State.updPlan_mem, State.wr_mem, State.wr_mem]
    · rw [State.updPlan_flash, State.wr_flash, State.wr_flash]
    · rw [rd_congr (State.updPlan_regs ..), rd_wr_ne _ _ _ _ (by decide), rd_wr_ne _ _ _ _ (by decide)]
  · unfold endLoad
    refine ⟨?_, ?_, ?_⟩
    · rw [State.raise_mem, State.updPlan_mem, State.wr_mem, State.setReg_mem]
    · rw [State.raise_flash, State.updPlan_flash, State.wr_flash, State.setReg_flash]
    · rw [rd_raise_ne _ _ _ (by decide), rd_congr (State.updPlan_regs ..), rd_wr_ne _ _ _ _ (by decide), State.rd,
        reg_setReg_ne _ _ (by decide)]
      exact congrArg _ rfl

/-- A load that may begin is checked first (R176). -/
theorem planLoadStep_begins {s : State} (hi : s.islandHeld 2 = false) (hl : s.plan.load = .idle)
    (hst : s.dev.st = .strapped ∨ s.dev.st = .loaded) : (planLoadStep s).plan.load = .check := by
  unfold planLoadStep
  rw [hi, if_neg Bool.false_ne_true, if_neg (not_not.2 hl), if_pos hst]
  rfl

/-- The registers that name the image for the load. -/
def namesImage (s : State) : State :=
  (s.wr PLAN.base PLAN.LOAD_ADDR_ADDR s.flash.loadAddr).wr PLAN.base PLAN.LOAD_SIZE_SIZE s.flash.imgSize

theorem bootCopied_eq (s : State) : bootCopied s = (planLoadStep
    { namesImage s with flash := { (namesImage s).flash with asks := none } }).wr FL.base FL.BOOT_STAGE 4 := by
  unfold bootCopied namesImage
  rfl

theorem namesImage_keeps (s : State) : (namesImage s).mem = s.mem ∧ (namesImage s).flash = s.flash ∧
    (namesImage s).sys = s.sys ∧ (namesImage s).plan = s.plan ∧ (namesImage s).dev = s.dev := by
  unfold namesImage
  exact ⟨(State.wr_mem ..).trans (State.wr_mem ..), (State.wr_flash ..).trans (State.wr_flash ..),
    (State.wr_sys ..).trans (State.wr_sys ..), (State.wr_plan ..).trans (State.wr_plan ..),
    (State.wr_dev ..).trans (State.wr_dev ..)⟩

theorem bootCopied_stage (s : State) : (bootCopied s).rd FL.base FL.BOOT_STAGE = 4 := by
  rw [bootCopied_eq, rd_wr_self _ _ _ _ (by decide)]
  rfl

theorem bootCopied_mem (s : State) : (bootCopied s).mem = s.mem := by
  rw [bootCopied_eq, State.wr_mem, (planLoadStep_keeps _).1, mem_setFlash, (namesImage_keeps s).1]

theorem bootCopied_job (s : State) : (bootCopied s).flash.job = s.flash.job := by
  rw [bootCopied_eq, State.wr_flash, (planLoadStep_keeps _).2.1, ← (namesImage_keeps s).2.1]

theorem bootCopied_size (s : State) : (bootCopied s).rd PLAN.base PLAN.LOAD_SIZE_SIZE = s.flash.imgSize % 2 ^ 32 := by
  rw [bootCopied_eq, rd_wr_ne _ _ _ _ (by decide), (planLoadStep_keeps _).2.2, rd_setFlash, namesImage,
    rd_wr_self _ _ _ _ (by decide)]
  rfl

theorem bootCopied_begins {s : State} (hi : s.islandHeld 2 = false) (hl : s.plan.load = .idle)
    (hst : s.dev.st = .strapped ∨ s.dev.st = .loaded) : (bootCopied s).plan.load = .check := by
  obtain ⟨-, -, hsys, hplan, hdev⟩ := namesImage_keeps s
  rw [bootCopied_eq, State.wr_plan]
  refine planLoadStep_begins ?_ ?_ ?_
  · show (namesImage s).islandHeld 2 = false
    rw [State.islandHeld, hsys]
    exact hi
  · show (namesImage s).plan.load = .idle
    rw [hplan, hl]
  · show (namesImage s).dev.st = .strapped ∨ (namesImage s).dev.st = .loaded
    rwa [hdev]

/-! ## Transfers of the flash master, beat by beat (R407, R429, R444) -/

/-- A transfer under way. -/
def setJob (j : FlJob) (s : State) : State := { s with flash := { s.flash with job := some j } }

/-- A transfer behind a beat of n bytes, which a read has brought. -/
def FlJob.advance (j : FlJob) (n : Nat) (got : List Byte) : FlJob :=
  { j with addr := (j.addr + n) % 2 ^ 32, left := j.left - n, data := if j.write then j.data.drop n else j.data ++ got }

/-- The bytes of a number, lowest first. -/
def byteList (n v : Nat) : List Byte := (List.range n).map (fun i => BitVec.ofNat 8 (v / 2 ^ (8 * i)))

theorem byteList_leBytes (s : State) (a n : Nat) :
    byteList n (s.leBytes a n) = (List.range n).map (fun k => s.byte (a + k)) := by
  refine List.map_congr_left fun k hk => ?_
  rw [pow_mul, show (2 : Nat) ^ 8 = 256 from rfl]
  exact leBytes_byte s a k n (List.mem_range.1 hk)

section
variable {j : FlJob} {s u : State} (hj : s.flash.job = some j)

theorem flTake_served {n v : Nat} (hj : s.flash.job = some j) : flTake n 0 v s = setJob (j.advance n (byteList n v)) s := by
  unfold flTake
  rw [hj]
  dsimp only
  cases hw : j.write with
  | true =>
    simp only [FlJob.advance, hw, if_true, setJob]
  | false =>
    simp only [FlJob.advance, hw, if_false, setJob, flBytes, true_or, if_true, Bool.false_eq_true]
    rfl

include hj

theorem flRun_ends (k : Nat) (h : j.left = 0) : flRun (k + 1) s = flEnds j s := by
  rw [flRun, hj]
  exact if_pos h

theorem flRun_beat (k : Nat) {st v : Nat} (h : j.left ≠ 0) (hx : accessBegin .flash .fl j.addr (flSize j.addr j.left) j.write
    (leNat (j.data.take (flSize j.addr j.left))) s = (.done st v, u)) :
    flRun (k + 1) s = flRun k (flTake (flSize j.addr j.left) st v u) := by
  rw [flRun, hj]
  dsimp only
  rw [if_neg h, hx]

theorem flRun_waits (k : Nat) (h : j.left ≠ 0) (hx : accessBegin .flash .fl j.addr (flSize j.addr j.left) j.write
    (leNat (j.data.take (flSize j.addr j.left))) s = (.waits, u)) : flRun (k + 1) s = u := by
  rw [flRun, hj]
  dsimp only
  rw [if_neg h, hx]

end

/-- A transfer that has ended is no longer under way. -/
def jobDone (s : State) : State := { s with flash := { s.flash with job := none } }

section
variable {j : FlJob} (s : State)

theorem flEnds_boot (h : j.boot = true) : flEnds j s = bootCopied (jobDone s) := if_pos h

theorem flEnds_stored (hb : j.boot = false) (hw : j.write = true) :
    flEnds j s = ((jobDone s).wr FL.base FL.CTRL_BUSY 0).raise 234 := by
  unfold flEnds
  rw [hb, hw]
  rfl

theorem flEnds_sent (hb : j.boot = false) (hw : j.write = false) : (flEnds j s).flash.sent = j.data := by
  unfold flEnds
  rw [hb, hw]
  rfl

theorem flEnds_keeps (j : FlJob) : (flEnds j s).mem = s.mem ∧ (flEnds j s).flash.job = none := by
  cases hb : j.boot with
  | true =>
    rw [flEnds_boot s hb, bootCopied_mem, bootCopied_job]
    exact ⟨rfl, rfl⟩
  | false =>
    cases hw : j.write with
    | true =>
      rw [flEnds_stored s hb hw, State.raise_mem, State.raise_flash, State.wr_mem, State.wr_flash]
      exact ⟨rfl, rfl⟩
    | false =>
      unfold flEnds
      rw [hb, hw]
      exact ⟨rfl, rfl⟩

end

/-- The end of a command: BUSY is cleared and source 234 raised (R429). -/
theorem commandEnds (s : State) : ((s.wr FL.base FL.CTRL_BUSY 0).raise 234).flag FL.base FL.CTRL_BUSY = false ∧
    (∃ e ∈ ((s.wr FL.base FL.CTRL_BUSY 0).raise 234).inFlight, e.src = 234 ∧ e.raisedAt = s.tick) ∧
    ((s.wr FL.base FL.CTRL_BUSY 0).raise 234).mem = s.mem := by
  refine ⟨?_, ?_, ?_⟩
  · rw [State.flag, rd_raise_ne _ _ _ (by decide), rd_wr_self _ _ _ _ (by decide)]
    rfl
  · exact exists_of_sent (sent_raise_self _ 234) ((State.raise_tick _ 234).trans (State.wr_tick ..))
  · rw [State.raise_mem, State.wr_mem]

theorem flSize_sram {a : Nat} (n : Nat) (h : a < 0x100000) : flSize a n = min n (8 - a % 8) := by
  have hreg : isRegAddr a = false := by rw [isRegAddr, regionOf_sram h]
  rw [flSize, hreg]
  rfl

end Sys2Proof.Machine

namespace Sys2Proof.Machine

/-! ## Bytes of the flash stored in one beat (R407, R429) -/

section
variable (j : FlJob) (s : State)

theorem portOpen_setJob (i : Initiator) (port : Nat) : portOpen (setJob j s) i port = portOpen s i port :=
  portOpen_setFlash s _ i port
theorem targetOf_setJob (a : Nat) : targetOf (setJob j s) a = targetOf s a := rfl

theorem SoundBytes.setJob {a n : Nat} {s : State} (h : SoundBytes a n s) (j : FlJob) : SoundBytes a n (setJob j s) :=
  h.setFlash _

end

/-- From s to u the bytes at a have become those of a list, and beyond memory only what a beat may has changed. -/
structure Copied (a : Nat) (d : List Byte) (s u : State) : Prop where
  bytes : ∀ k (h : k < d.length), u.byte (a + k) = d[k]
  frame : ∀ x, x < a ∨ a + d.length ≤ x → u.byte x = s.byte x
  imgSize : u.flash.imgSize = s.flash.imgSize
  plan : u.plan = s.plan
  dev : u.dev = s.dev
  sys : u.sys = s.sys
  tick : u.tick = s.tick

theorem Copied.mem {a : Nat} {d : List Byte} {s u t : State} (h : Copied a d s u) (ht : t.mem = u.mem) :
    (∀ k (h : k < d.length), t.byte (a + k) = d[k]) ∧ (∀ x, x < a ∨ a + d.length ≤ x → t.byte x = s.byte x) :=
  ⟨fun k hk => (byte_congr ht _).trans (h.bytes k hk), fun x hx => (byte_congr ht x).trans (h.frame x hx)⟩

section
variable {a : Nat} {d : List Byte} {s : State} (boot : Bool)

/-- The transfer that stores bytes of the flash. -/
def storeJob (boot : Bool) (a : Nat) (d : List Byte) : FlJob := ⟨true, boot, a, d.length, d⟩

theorem flStore_eq : flStore boot a d s = flRun (d.length + 1) (setJob (storeJob boot a d) s) := rfl

/-- Bytes inside one sound word are stored in one beat. -/
theorem flStore_oneBeat (h : SoundBytes a d.length s) (ho : portOpen s .fl (a / 0x40000) = true)
    (hsize : flSize a d.length = d.length) :
    ∃ j u, flStore boot a d s = flEnds j u ∧ j.boot = boot ∧ j.write = true ∧ Copied a d s u := by
  have hb := h.setJob (storeJob boot a d)
  have hbegin := hb.begins .flash true (leNat d) ((portOpen_setJob _ s .fl _).trans ho)
  have hbeat := ((hb.takeTurn 0x13 (a / 0x40000)).beat true (leNat d)).turn
  have hstores := ((hb.takeTurn 0x13 (a / 0x40000)).stores (leNat d)).from
    (takeTurn_regsMemcOnly 0x13 (a / 0x40000) (setJob (storeJob boot a d) s)).mem.symm
  generalize sramBeat true a d.length (leNat d) (takeTurn 0x13 (a / 0x40000) (setJob (storeJob boot a d) s)) = u at *
  have hjob : u.flash.job = some (storeJob boot a d) := congrArg Flash.job hbeat.flash
  have himg : u.flash.imgSize = s.flash.imgSize := by rw [hbeat.flash]; rfl
  have hx : accessBegin .flash .fl (storeJob boot a d).addr (flSize (storeJob boot a d).addr (storeJob boot a d).left) true
      (leNat ((storeJob boot a d).data.take (flSize (storeJob boot a d).addr (storeJob boot a d).left)))
      (setJob (storeJob boot a d) s) = (.done 0 0, u) := by
    show accessBegin .flash .fl a (flSize a d.length) true (leNat (d.take (flSize a d.length))) (setJob (storeJob boot a d) s) = _
    rw [hsize, List.take_length]
    exact hbegin
  obtain ⟨k, hk⟩ : ∃ k, d.length = k + 1 := ⟨d.length - 1, by have := h.some; omega⟩
  have hleft : ((storeJob boot a d).advance (flSize a d.length) (byteList (flSize a d.length) 0)).left = 0 := by
    rw [hsize]
    exact Nat.sub_self d.length
  obtain ⟨hbytes, hframe⟩ := hstores.bytes
  refine ⟨(storeJob boot a d).advance (flSize a d.length) (byteList (flSize a d.length) 0),
    setJob ((storeJob boot a d).advance (flSize a d.length) (byteList (flSize a d.length) 0)) u, ?_, rfl, rfl,
    ⟨hbytes, hframe, himg, hbeat.plan, hbeat.dev, hbeat.sys,
      hbeat.tick⟩⟩
  rw [flStore_eq, flRun_beat rfl _ h.some.ne' hx]
  show flRun d.length (flTake (flSize a d.length) 0 0 u) = _
  rw [flTake_served hjob]
  generalize (storeJob boot a d).advance (flSize a d.length) (byteList (flSize a d.length) 0) = j at *
  rw [hk]
  exact flRun_ends rfl k hleft

/-- Bytes of the flash that go to memory in no beat or in one. -/
theorem flStore_ends (ho : d = [] ∨ (portOpen s .fl (a / 0x40000) = true ∧ flSize a d.length = d.length))
    (hend : a + d.length ≤ 0x100000) (hi : s.flag MEM.base MEM.INJ_CTL_ARM = false)
    (hp : ∀ k, k < d.length → s.pattern ((a + k) / 8) = 0) :
    ∃ j u, flStore boot a d s = flEnds j u ∧ j.boot = boot ∧ j.write = true ∧ Copied a d s u := by
  by_cases hd : d = []
  · subst hd
    refine ⟨storeJob boot a [], setJob (storeJob boot a []) s, flRun_ends rfl 0 rfl, rfl, rfl, ?_⟩
    exact ⟨fun k hk => absurd hk (Nat.not_lt_zero k), fun x _ => rfl, rfl, rfl, rfl, rfl, rfl⟩
  · obtain ⟨hopen, hsize⟩ := ho.resolve_left hd
    have hlen : 0 < d.length := List.length_pos_iff.2 hd
    have hsram : a < 0x100000 := by omega
    have hmin := flSize_sram d.length hsram
    exact flStore_oneBeat boot ⟨hsram, hlen, by omega, hp 0 hlen, hi⟩ hopen hsize

/-- Where the port has no cycle for it the first beat waits (R139). -/
theorem flStore_waits (hd : d ≠ []) (ho : portOpen s .fl (portOf (targetOf s a)) = false) :
    flStore boot a d s = addWait (.access .flash .fl a (flSize a d.length) true (leNat (d.take (flSize a d.length))))
      (setJob (storeJob boot a d) s) := by
  have hlen : d.length ≠ 0 := fun h => hd (List.length_eq_zero_iff.1 h)
  have hclosed : portOpen (setJob (storeJob boot a d) s) .fl (portOf (targetOf (setJob (storeJob boot a d) s) a)) = false := by
    rwa [portOpen_setJob, targetOf_setJob]
  rw [flStore_eq]
  exact flRun_waits (j := storeJob boot a d) rfl _ hlen (accessBegin_closed hclosed)

end

/-! ### Stage 3: the image -/

section
variable {l d : List Byte} {a : Nat} {s : State} (hb : busStopped s = false) (hst : s.rd FL.base FL.BOOT_STAGE = 3)
  (ha : a = s.flash.loadAddr) (hd : d = l.take s.flash.imgSize)
include hb hst

theorem imageStage_busy (h : s.flash.job.isSome = true) : exec (.flashBootStage l) s = .next s :=
  (flashBootStage_image l hb hst).trans (congrArg _ (if_pos h))

include ha hd

theorem imageStage_stores (h : s.flash.job = none) : exec (.flashBootStage l) s = .next (flStore true a d s) := by
  refine (flashBootStage_image l hb hst).trans (congrArg _ ?_)
  unfold bootImage
  rw [h, ← ha, ← hd]
  rfl

/-- The image is copied, and the load begins. -/
theorem imageStage_copies (h : s.flash.job = none)
    (ho : d = [] ∨ (portOpen s .fl (a / 0x40000) = true ∧ flSize a d.length = d.length))
    (hend : a + d.length ≤ 0x100000) (hi : s.flag MEM.base MEM.INJ_CTL_ARM = false)
    (hp : ∀ k, k < d.length → s.pattern ((a + k) / 8) = 0) :
    ∃ t, exec (.flashBootStage l) s = .next t ∧
      t.rd FL.base FL.BOOT_STAGE = 4 ∧ t.rd PLAN.base PLAN.LOAD_SIZE_SIZE = s.flash.imgSize % 2 ^ 32 ∧
      (s.islandHeld 2 = false → s.plan.load = .idle → s.dev.st = .strapped ∨ s.dev.st = .loaded → t.plan.load = .check) ∧
      (∀ k (h : k < d.length), t.byte (a + k) = d[k]) ∧ (∀ x, x < a ∨ a + d.length ≤ x → t.byte x = s.byte x) := by
  obtain ⟨j, u, hstore, hboot, -, hu⟩ := flStore_ends true ho hend hi hp
  rw [flEnds_boot u hboot] at hstore
  have hexec := (imageStage_stores hb hst ha hd h).trans (congrArg _ hstore)
  refine ⟨_, hexec, bootCopied_stage _, ?_, fun hisl hload hdev => bootCopied_begins ?_ ?_ ?_, hu.mem (bootCopied_mem _)⟩
  · rw [bootCopied_size]
    exact congrArg (· % 2 ^ 32) hu.imgSize
  · exact (congrArg (fun y : Sys => y.islandRst.any (fun e => e.1 == 2)) hu.sys).trans hisl
  · exact (congrArg Plan.load hu.plan).trans hload
  · rwa [show (jobDone u).dev = s.dev from hu.dev]

end

end Sys2Proof.Machine

namespace Sys2Proof.Machine

/-! ### A beat of a transfer that waited (R139, R407, R429) -/

/-- The transfer behind a beat of m bytes at its address. -/
def beyond (w boot : Bool) (a n m : Nat) (d : List Byte) (s : State) : FlJob :=
  ⟨w, boot, a + m, n - m, if w then d.drop m else d ++ (List.range m).map (fun k => s.byte (a + k))⟩

/-- The access of the transfer's next beat. -/
def transferWait (w : Bool) (a n : Nat) (d : List Byte) : WaitReq :=
  .access .flash .fl a (flSize a n) w (leNat (d.take (flSize a n)))

theorem mem_addWait (r : WaitReq) (s : State) : (addWait r s).mem = s.mem := rfl

/-- What the beat of a waiting transfer leaves. -/
def transferBeat (w : Bool) (a n : Nat) (d : List Byte) (s : State) : State :=
  sramBeat w a (flSize a n) (leNat (d.take (flSize a n))) (unqueued (transferWait w a n d) s)

section
variable {w boot : Bool} {a n : Nat} {d : List Byte} {s : State} (hj : s.flash.job = some ⟨w, boot, a, n, d⟩)
  (h : SoundBytes a (flSize a n) s)
include h

theorem transferBeat_beat : Beat (a / 0x40000) (unqueued (transferWait w a n d) s) (transferBeat w a n d s) :=
  (h.unqueued _).beat w _

theorem transferBeat_stores : Stores a (flSize a n) (leNat (d.take (flSize a n))) s (transferBeat true a n d s) :=
  ((h.unqueued (transferWait true a n d)).stores _).from rfl

omit h in
theorem transferBeat_reads : (transferBeat false a n d s).mem = s.mem := sramBeat_read_mem (leNat (d.take (flSize a n)))

/-- The bytes of a list stored in one beat, in their place and nowhere else. -/
theorem transferBeat_bytes (hd : d.length = n) :
    (∀ k (hk : k < d.length), k < flSize a n → (transferBeat true a n d s).byte (a + k) = d[k]) ∧
    (∀ x, x < a ∨ a + flSize a n ≤ x → (transferBeat true a n d s).byte x = s.byte x) := by
  have hm : flSize a n ≤ n := Nat.min_le_left _ _
  have hlen : (d.take (flSize a n)).length = flSize a n := by
    rw [List.length_take, hd]
    exact Nat.min_eq_left hm
  have hstores : Stores a (d.take (flSize a n)).length (leNat (d.take (flSize a n))) s (transferBeat true a n d s) := by
    rw [hlen]
    exact transferBeat_stores h
  obtain ⟨hbytes, hframe⟩ := hstores.bytes
  rw [hlen] at hframe
  exact ⟨fun k hk hkm => (hbytes k (by omega)).trans List.getElem_take, hframe⟩

include hj

theorem takeWait_transfer (hend : a + flSize a n < 2 ^ 32) : takeWait (transferWait w a n d) s =
    flRun (n + 1) (setJob (beyond w boot a n (flSize a n) d s) (transferBeat w a n d s)) := by
  have hbeat := transferBeat_beat (w := w) (d := d) h
  have hjob : (transferBeat w a n d s).flash.job = some ⟨w, boot, a, n, d⟩ := (congrArg Flash.job hbeat.flash).trans hj
  have hadvance (v : Nat) (hv : w = false → v = s.leBytes a (flSize a n)) :
      FlJob.advance ⟨w, boot, a, n, d⟩ (flSize a n) (byteList (flSize a n) v) = beyond w boot a n (flSize a n) d s := by
    rw [FlJob.advance, beyond, Nat.mod_eq_of_lt hend]
    cases w with
    | true => rfl
    | false => rw [hv rfl, byteList_leBytes]
  have hends := takeWait_sram (who := .flash) (v := leNat (d.take (flSize a n))) (w := w) h
  refine hends.trans ?_
  show flAnswer 0 _ (transferBeat w a n d s) = _
  unfold flAnswer
  rw [hjob]
  dsimp only
  rw [flTake_served hjob, hadvance _ (fun hw => by rw [hw]; rfl)]

/-- The transfer's last beat ends it. -/
theorem takeWait_last (hend : a + flSize a n < 2 ^ 32) (hm : flSize a n = n) : takeWait (transferWait w a n d) s =
    flEnds (beyond w boot a n (flSize a n) d s) (setJob (beyond w boot a n (flSize a n) d s) (transferBeat w a n d s)) := by
  rw [takeWait_transfer hj h hend]
  refine flRun_ends rfl n ?_
  show n - flSize a n = 0
  omega

/-- The next beat at the same port waits for a cycle of its own. -/
theorem takeWait_more (hend : a + n ≤ 0x100000) (hm : flSize a n < n) (hport : (a + flSize a n) / 0x40000 = a / 0x40000) :
    takeWait (transferWait w a n d) s =
      addWait (transferWait w (a + flSize a n) (n - flSize a n) (beyond w boot a n (flSize a n) d s).data)
        (setJob (beyond w boot a n (flSize a n) d s) (transferBeat w a n d s)) := by
  have hbeat := transferBeat_beat (w := w) (d := d) h
  have htaken : beatTaken (transferBeat w a n d s) (a / 0x40000) (transferBeat w a n d s).pt = true := by
    rw [hbeat.pt]
    exact hbeat.taken
  have hsram : a + flSize a n < 0x100000 := by omega
  rw [takeWait_transfer hj h (by omega)]
  refine flRun_waits (j := beyond w boot a n (flSize a n) d s) rfl n (Nat.sub_ne_zero_of_lt hm) ?_
  exact accessBegin_next (s := setJob (beyond w boot a n (flSize a n) d s) (transferBeat w a n d s)) htaken hsram hport

end

section
variable {w boot : Bool} {a n m : Nat} {d : List Byte} {s t : State} (hj : s.flash.job = some ⟨w, boot, a, n, d⟩)
  (hm : m = flSize a n) (h : SoundBytes a m s) (ht : t = takeWait (.access .flash .fl a m w (leNat (d.take m))) s)
  (hend : a + n ≤ 0x100000)
include hj hm h ht hend

/-- The beat's bytes are in memory, or memory is unchanged. -/
theorem transfer_mem (hd : w = true → d.length = n) (hnext : m = n ∨ (a + m) / 0x40000 = a / 0x40000) :
    if w then (∀ k (h : k < d.length), k < m → t.byte (a + k) = d[k]) ∧ (∀ x, x < a ∨ a + m ≤ x → t.byte x = s.byte x)
    else ∀ x, t.byte x = s.byte x := by
  subst hm
  have hle : flSize a n ≤ n := Nat.min_le_left _ _
  have hmem : t.mem = (transferBeat w a n d s).mem := by
    rw [ht]
    by_cases e : flSize a n = n
    · exact (congrArg State.mem (takeWait_last hj h (by omega) e)).trans (flEnds_keeps _ _).1
    · exact (congrArg State.mem (takeWait_more hj h hend (by omega) (hnext.resolve_left e))).trans (mem_addWait ..)
  cases w with
  | true =>
    obtain ⟨hbytes, hframe⟩ := transferBeat_bytes h (hd rfl)
    exact ⟨fun k hk hkm => (byte_congr hmem _).trans (hbytes k hk hkm), fun x hx => (byte_congr hmem x).trans (hframe x hx)⟩
  | false => exact fun x => byte_congr (hmem.trans transferBeat_reads) x

/-- The last beat ends the copy of the boot, or the command. -/
theorem transfer_ends (hlast : m = n) : t.flash.job = none ∧ (boot = true → t.rd FL.base FL.BOOT_STAGE = 4) ∧
    (boot = false → w = true → t.flag FL.base FL.CTRL_BUSY = false ∧ ∃ e ∈ t.inFlight, e.src = 234 ∧ e.raisedAt = s.tick) ∧
    (boot = false → w = false → t.flash.sent = d ++ (List.range m).map (fun k => s.byte (a + k))) := by
  subst hm
  have htick := (transferBeat_beat (w := w) (d := d) h).tick
  have hlastBeat := ht.trans (takeWait_last hj h (by omega) hlast)
  generalize hu : setJob (beyond w boot a n (flSize a n) d s) (transferBeat w a n d s) = u at *
  have hut : u.tick = s.tick := by rw [← hu]; exact htick
  rw [hlastBeat]
  refine ⟨(flEnds_keeps u _).2, fun hb => ?_, fun hb hw => ?_, fun hb hw => ?_⟩
  · rw [flEnds_boot u hb, bootCopied_stage]
  · obtain ⟨hbusy, ⟨e, he, hsrc, hat⟩, -⟩ := commandEnds (jobDone u)
    rw [flEnds_stored u hb hw]
    exact ⟨hbusy, e, he, hsrc, hat.trans hut⟩
  · rw [flEnds_sent u hb hw, beyond, hw]
    rfl

/-- The transfer goes on with the beat behind, in a cycle of its own. -/
theorem transfer_waits (hmore : m < n) (hport : (a + m) / 0x40000 = a / 0x40000) {l : List Byte}
    (hl : l = (if w then d.drop m else d ++ (List.range m).map (fun k => s.byte (a + k)))) :
    t.flash.job = some ⟨w, boot, a + m, n - m, l⟩ ∧
    t.memc.waits = s.memc.waits.erase (.access .flash .fl a m w (leNat (d.take m))) ++
      [.access .flash .fl (a + m) (flSize (a + m) (n - m)) w (leNat (l.take (flSize (a + m) (n - m))))] := by
  subst hm hl
  have hmoreBeat := ht.trans (takeWait_more hj h hend hmore hport)
  have hwaits := (transferBeat_beat (w := w) (d := d) h).waits
  rw [hmoreBeat]
  exact ⟨rfl, congrArg (· ++ _) hwaits⟩

end

/-! ### The last stages of the boot -/

section
variable (l : List Byte) {s : State} (hb : busStopped s = false)
include hb

theorem loadedStage (hst : s.rd FL.base FL.BOOT_STAGE = 4) (hl : s.plan.load = .idle) :
    ∃ t, exec (.flashBootStage l) s = .next t ∧ (if s.rd PLAN.base PLAN.LOAD_STAT_RESULT ≠ 0 then
      t.rd FL.base FL.BOOT_STAGE = 6 ∧ t.rd FL.base FL.BOOT_RESULT = 6
      else if bit s.flash.flags 0 then t.rd FL.base FL.BOOT_STAGE = 5
      else t.rd FL.base FL.BOOT_STAGE = 6 ∧ t.rd FL.base FL.BOOT_RESULT = 1) := by
  refine ⟨_, flashBootStage_loaded l hb hst, ?_⟩
  unfold bootLoaded
  rw [if_neg (not_not.2 hl)]
  split_ifs
  · exact ⟨bootEnd_stage 6 s, bootEnd_result 6 s (by decide)⟩
  · rw [rd_wr_self _ _ _ _ (by decide)]
    rfl
  · exact ⟨bootEnd_stage 1 s, bootEnd_result 1 s (by decide)⟩

theorem armStage (hst : s.rd FL.base FL.BOOT_STAGE = 5) :
    ∃ t, exec (.flashBootStage l) s = .next t ∧ t.rd FL.base FL.BOOT_STAGE = 6 ∧
      t.rd FL.base FL.BOOT_RESULT = (if t.dev.st = .armed then 1 else 7) := by
  refine ⟨_, flashBootStage_arm l hb hst, bootEnd_stage _ _, ?_⟩
  unfold bootArm
  rw [bootEnd_result _ _ (by split <;> decide), bootEnd_dev]

end

/-! ## Commands of the FL page (R429, R484) -/

theorem wr_only (s : State) (a : Nat) (f : Fld) (v : Nat) : s.wr a f v = { s with regs := (s.wr a f v).regs } := rfl
theorem bump_only (s : State) (a : Nat) (f : Fld) : s.bump a f = { s with regs := (s.bump a f).regs } := rfl

section
variable {s : State}

/-- A command has begun, and nothing is sent yet. -/
def commandBegun (s : State) : State :=
  { s.wr FL.base FL.CTRL_BUSY 1 with flash := { (s.wr FL.base FL.CTRL_BUSY 1).flash with sent := [] } }

theorem commandBegun_busy (s : State) : (commandBegun s).flag FL.base FL.CTRL_BUSY = true := by
  rw [State.flag, commandBegun, rd_setFlash, rd_wr_self _ _ _ _ (by decide)]
  rfl

theorem commandBegun_flash (s : State) : (commandBegun s).flash = { s.flash with sent := [] } := by
  show { (s.wr FL.base FL.CTRL_BUSY 1).flash with sent := [] } = _
  rw [State.wr_flash]

theorem commandBegun_only (s : State) : commandBegun s =
    { s with regs := (commandBegun s).regs, flash := (commandBegun s).flash } := by
  have h := wr_only s FL.base FL.CTRL_BUSY 1
  unfold commandBegun
  generalize s.wr FL.base FL.CTRL_BUSY 1 = u at *
  rw [h]

/-- A command reads the bytes it sends, beat by beat. -/
theorem flStartStep_reads (hclk : s.clockOff 0x6A = false) (hbusy : s.flag FL.base FL.CTRL_BUSY = false)
    (hw : s.flag FL.base FL.OP_WRITE = true) (hn : s.rd FL.base FL.LEN_BYTES ≠ 0) : flStartStep s =
      addWait (.access .flash .fl (s.rd FL.base FL.BUF_ADDR)
          (flSize (s.rd FL.base FL.BUF_ADDR) (s.rd FL.base FL.LEN_BYTES)) false 0)
        (setJob ⟨false, false, s.rd FL.base FL.BUF_ADDR, s.rd FL.base FL.LEN_BYTES, []⟩ (commandBegun s)) := by
  have hop : (s.wr FL.base FL.CTRL_BUSY 1).flag FL.base FL.OP_WRITE = true := by
    rwa [State.flag, rd_wr_ne _ _ _ _ (by decide)]
  unfold flStartStep
  dsimp only
  rw [if_neg (by simp [hclk, hbusy]), if_pos ⟨hop, hn⟩]
  rfl

theorem flStartStep_sends (hclk : s.clockOff 0x6A = false) (hbusy : s.flag FL.base FL.CTRL_BUSY = false)
    (h : s.flag FL.base FL.OP_WRITE = false ∨ s.rd FL.base FL.LEN_BYTES = 0) : flStartStep s = commandBegun s := by
  have hop : (s.wr FL.base FL.CTRL_BUSY 1).flag FL.base FL.OP_WRITE = s.flag FL.base FL.OP_WRITE := by
    rw [State.flag, rd_wr_ne _ _ _ _ (by decide)]
    rfl
  have hno : ¬ ((s.wr FL.base FL.CTRL_BUSY 1).flag FL.base FL.OP_WRITE = true ∧ s.rd FL.base FL.LEN_BYTES ≠ 0) := by
    rw [hop]
    rintro ⟨hw, hn⟩
    exact h.elim (fun hf => Bool.false_ne_true (hf.symm.trans hw)) hn
  unfold flStartStep
  dsimp only
  rw [if_neg (by simp [hclk, hbusy]), if_neg hno]
  rfl

theorem flStart_runs (hclk : s.clockOff 0x6A = false) (hbusy : s.flag FL.base FL.CTRL_BUSY = false) :
    ∃ t, exec .flStart s = .next t ∧ t.flag FL.base FL.CTRL_BUSY ∧
      t.flash.sent = [] ∧ t = { s with regs := t.regs, flash := t.flash, memc := t.memc } ∧
      ∀ a n : Nat, a = s.rd FL.base FL.BUF_ADDR → n = s.rd FL.base FL.LEN_BYTES →
        (s.flag FL.base FL.OP_WRITE → n ≠ 0 → t.flash.job = some ⟨false, false, a, n, []⟩ ∧
          t.memc.waits = s.memc.waits ++ [.access .flash .fl a (flSize a n) false 0]) ∧
        (s.flag FL.base FL.OP_WRITE = false ∨ n = 0 → t.flash.job = s.flash.job ∧ t.memc = s.memc) := by
  have hflag := commandBegun_busy s
  have hflash := commandBegun_flash s
  have honly := commandBegun_only s
  have hmemc := congrArg State.memc honly
  by_cases hreads : s.flag FL.base FL.OP_WRITE = true ∧ s.rd FL.base FL.LEN_BYTES ≠ 0
  · have hstep := flStartStep_reads hclk hbusy hreads.1 hreads.2
    generalize commandBegun s = u at *
    refine ⟨_, congrArg Host.Outcome.next hstep, hflag, congrArg Flash.sent hflash, ?_, ?_⟩
    · rw [honly]
      rfl
    · rintro a n rfl rfl
      refine ⟨fun _ _ => ⟨rfl, congrArg (fun x : MemCtl => x.waits ++ _) hmemc⟩, fun h => ?_⟩
      exact (h.elim (fun hf => Bool.false_ne_true (hf.symm.trans hreads.1)) hreads.2).elim
  · have hsends : s.flag FL.base FL.OP_WRITE = false ∨ s.rd FL.base FL.LEN_BYTES = 0 := by
      by_cases hw : s.flag FL.base FL.OP_WRITE = true
      · exact .inr (not_not.1 fun hn => hreads ⟨hw, hn⟩)
      · exact .inl (Bool.eq_false_iff.2 hw)
    have hstep := flStartStep_sends hclk hbusy hsends
    generalize commandBegun s = u at *
    refine ⟨_, congrArg Host.Outcome.next hstep, hflag, congrArg Flash.sent hflash, ?_, ?_⟩
    · rw [honly]
    · rintro a n rfl rfl
      exact ⟨fun hw hn => absurd ⟨hw, hn⟩ hreads, fun _ => ⟨by rw [hflash], hmemc⟩⟩

theorem flStart_ignored (h : s.clockOff 0x6A = true ∨ s.flag FL.base FL.CTRL_BUSY = true) :
    ∃ t, exec .flStart s = .next t ∧
      t.rd FL.base HDR.ERR_COUNT = sat 65535 (s.rd FL.base HDR.ERR_COUNT + 1) ∧ t = { s with regs := t.regs } := by
  have hstep : flStartStep s = s.err 0x6A := if_pos h
  refine ⟨_, congrArg Host.Outcome.next hstep, rd_bump_self s FL.base HDR.ERR_COUNT (by decide), ?_⟩
  exact bump_only s _ _

/-- While a transfer goes on a command cannot end. -/
theorem flCommandDone_transfer (l : List Byte) (h : s.flash.job.isSome = true) : exec (.flCommandDone l) s = .next s :=
  congrArg Host.Outcome.next (if_pos (.inr (.inr (.inr h))))

section
variable {l : List Byte} (hbusy : s.flag FL.base FL.CTRL_BUSY = true) (hboot : bootRuns s = false) (hb : busStopped s = false)
  (hjob : s.flash.job = none)
include hbusy hboot hb hjob

theorem commandRuns : ¬ (s.flag FL.base FL.CTRL_BUSY = false ∨ bootRuns s = true ∨ busStopped s = true ∨
    s.flash.job.isSome = true) := by
  rw [hbusy, hboot, hb, hjob]
  decide

/-- The end of a command that sent bytes. -/
theorem flCommandDone_sent (hw : s.flag FL.base FL.OP_WRITE = true) :
    ∃ t, exec (.flCommandDone l) s = .next t ∧ t.flag FL.base FL.CTRL_BUSY = false ∧
      (∃ e ∈ t.inFlight, e.src = 234 ∧ e.raisedAt = s.tick) ∧ t.mem = s.mem := by
  have hstep : flDoneStep l s = (s.wr FL.base FL.CTRL_BUSY 0).raise 234 := by
    unfold flDoneStep
    rw [if_neg (commandRuns hbusy hboot hb hjob), if_pos hw]
  exact ⟨_, congrArg Host.Outcome.next hstep, commandEnds s⟩

section
variable (hw : s.flag FL.base FL.OP_WRITE = false) (hlen : l.length ≤ s.rd FL.base FL.LEN_BYTES)
include hw hlen

/-- The bytes read go to memory. -/
theorem flCommandDone_stores : exec (.flCommandDone l) s = .next (flStore false (s.rd FL.base FL.BUF_ADDR) l s) := by
  refine congrArg Host.Outcome.next ?_
  show flDoneStep l s = _
  unfold flDoneStep
  rw [if_neg (commandRuns hbusy hboot hb hjob), hw, if_neg Bool.false_ne_true, List.take_of_length_le hlen]

theorem flCommandDone_copies (ho : l = [] ∨ (portOpen s .fl (s.rd FL.base FL.BUF_ADDR / 0x40000) = true ∧
      flSize (s.rd FL.base FL.BUF_ADDR) l.length = l.length))
    (hend : s.rd FL.base FL.BUF_ADDR + l.length ≤ 0x100000) (hi : s.flag MEM.base MEM.INJ_CTL_ARM = false)
    (hp : ∀ k, k < l.length → s.pattern ((s.rd FL.base FL.BUF_ADDR + k) / 8) = 0) :
    ∃ t, exec (.flCommandDone l) s = .next t ∧ t.flag FL.base FL.CTRL_BUSY = false ∧
      (∃ e ∈ t.inFlight, e.src = 234 ∧ e.raisedAt = s.tick) ∧
      (∀ k (h : k < l.length), t.byte (s.rd FL.base FL.BUF_ADDR + k) = l[k]) ∧
      (∀ x, x < s.rd FL.base FL.BUF_ADDR ∨ s.rd FL.base FL.BUF_ADDR + l.length ≤ x → t.byte x = s.byte x) := by
  have hexec := flCommandDone_stores hbusy hboot hb hjob hw hlen
  obtain ⟨j, u, hstore, hnoboot, hwrite, hu⟩ := flStore_ends false ho hend hi hp
  rw [hstore, flEnds_stored u hnoboot hwrite] at hexec
  obtain ⟨hflag, ⟨e, he, hsrc, hat⟩, hmem⟩ := commandEnds (jobDone u)
  exact ⟨_, hexec, hflag, ⟨e, he, hsrc, hat.trans hu.tick⟩, hu.mem hmem⟩

end
end
end

/-! ## The obligation -/

/-- The bytes of a beat lie inside one sound word. -/
theorem soundBytes_of {a n : Nat} {s : State} (hn : n ≠ 0) (hend : a + n ≤ 0x100000)
    (hi : s.flag MEM.base MEM.INJ_CTL_ARM = false) (hp : ∀ k, k < n → s.pattern ((a + k) / 8) = 0) :
    SoundBytes a (flSize a n) s := by
  have hsram : a < 0x100000 := by omega
  have hmin := flSize_sram n hsram
  exact ⟨hsram, by omega, by omega, hp 0 (by omega), hi⟩

/-- Settles O49: the boot stage by stage, its transfers beat by beat, and the commands of the FL page. -/
theorem flashBootsAndRunsCommands : Obligations.FlashBootsAndRunsCommands := by
  refine ⟨?header, ?init, ?entry, ?image, ?transfer, ?loaded, ?arm, ?start, ?ignored, ?doneWaits, ?doneBusy, ?doneCopies, ?doneSent⟩
  case header => exact fun l s hb hst => headerStage hb hst
  case init =>
    intro l s hb hst hreqs hwaits
    refine ⟨fun hc => initStage_bad hb hst hreqs hwaits hc, fun hc hn => initStage_empty hb hst hreqs hwaits hc hn,
      fun hc hi a v ha hv hsram hp ho => ?_, fun hc hn hr ho => initStage_nowhere hb hst hreqs hwaits hc hn hr ho⟩
    have h : SoundBytes a 4 s := ⟨hsram, by decide, by omega, hp, hi⟩
    exact ⟨fun hn => initStage_one hb hst hreqs hwaits hc hn ha hv h ho, fun b w hb' hw hn hport =>
      initStage_two hb hst hreqs hwaits hc hn ha hv hb' hw h ho hport⟩
  case entry =>
    intro a v s hst htodo hsram halign hp hi
    obtain ⟨hstage, hstores⟩ := takeWait_lastEntry (v := v) hst htodo ⟨hsram, by decide, by omega, hp, hi⟩
    exact ⟨hstage, fun x _ => hstores x⟩
  case image =>
    intro l d a s hb hst ha hd
    refine ⟨fun h => imageStage_busy hb hst h, fun h ho hend hi hp => imageStage_copies hb hst ha hd h ho hend hi hp,
      fun h hne ho => ⟨_, imageStage_stores hb hst ha hd h, flStore_waits true hne ho⟩⟩
  case transfer =>
    intro w boot a n m d s t hj hm hn hend hi hp hd ht
    have h : SoundBytes a m s := hm ▸ soundBytes_of hn hend hi hp
    exact ⟨fun hnext => transfer_mem hj hm h ht hend hd hnext, fun hlast => transfer_ends hj hm h ht hend hlast,
      fun hmore hport l hl => transfer_waits hj hm h ht hend hmore hport hl⟩
  case loaded => exact fun l s hb hst hl => loadedStage l hb hst hl
  case arm => exact fun l s hb hst => armStage l hb hst
  case start => exact fun s hclk hbusy => flStart_runs hclk hbusy
  case ignored => exact fun s h => flStart_ignored h
  case doneWaits =>
    intro l s hbusy hboot hb hjob hw hlen hne ho
    exact ⟨_, flCommandDone_stores hbusy hboot hb hjob hw hlen, flStore_waits false hne ho⟩
  case doneBusy => exact fun l s h => flCommandDone_transfer l h
  case doneCopies =>
    intro l s hbusy hboot hb hjob hw hlen ho hend hi hp
    exact flCommandDone_copies hbusy hboot hb hjob hw hlen ho hend hi hp
  case doneSent =>
    intro l s hbusy hboot hb hjob hw
    exact flCommandDone_sent hbusy hboot hb hjob hw

end Sys2Proof.Machine
